-- ==== Sys2Proof/Word.lean ====
section
/-!
DEFINITION. The word types of the model and the plain carrier of its sparse tables (R9, R10).
-/
namespace Sys2Proof

/-- A byte. -/
abbrev Byte := BitVec 8
/-- A 32-bit register (R39). -/
abbrev Word := BitVec 32
/-- A 64-bit Iblek register (R77). -/
abbrev DWord := BitVec 64

/-- A sparse table from numbers to values, kept in one canonical form: keys strictly rising, and no entry
equal to what an unlisted key holds (Machine/SMap.lean gives its operations). -/
abbrev SMap (V : Type) := List (Nat × V)

end Sys2Proof
end

