-- ==== Sys2Proof/Syntax.lean ====
section
/-!
DEFINITION. The commands of the block: one constructor for each row of the opcode table, with the row's operands.
Requesters are core numbers 0 to 23 or 31, the host link (R20, Table 02-10).
-/
namespace Sys2Proof

/-- A switchable function: the map entry, the instance and the function number f (Table 02-19). -/
structure FnRef where
  entry : Fin 38
  inst  : Fin 6
  f     : Fin 16
  deriving DecidableEq, Repr

/-- What a lane measures of a frame (Table 07-9): the port of the strongest branch, RSSI in 0.001 dBm, SNR in 0.001 dB, carrier
offset in 0.0001 ppm and arrival uncertainty in ps, before their coding, and whether branch 1 was stronger than branch 0. -/
structure RxMeta where
  port     : Fin 4
  rssi     : Word
  snr      : Word
  fofs     : Word
  unc      : Word
  upper    : Bool
  deriving DecidableEq, Repr

/-- The commands. -/
inductive Instr where
  /-- REGISTER_WRITE (R43). A write to a register that has no behaviour of its own is judged against the access outcomes and applied or refused. -/
  | registerWrite (req : Fin 32) (addr : BitVec 40) (value : Word)
  /-- ACCESS_STALL_END (R43). An access stalled on an asleep or powering-down domain is judged again and completes once the domain is up or held off. -/
  | accessStallEnd (req : Fin 32)
  /-- DOMAIN_LINGER_EXPIRY (R363). A woken domain goes back down once LINGER has passed with no access to it. -/
  | domainLingerExpiry (dom : Fin 17)
  /-- RC_FIELD_READ (R13). A read of a register holding RC fields returns them and clears them in the same access. -/
  | rcFieldRead (req : Fin 32) (addr : BitVec 40)
  /-- WIDE_VALUE_LOW_READ (R40). A read of the lowest register of a wide value captures the higher parts for that requester. -/
  | wideValueLowRead (req : Fin 32) (addr : BitVec 40)
  /-- WIDE_VALUE_LOW_WRITE (R40). A write to a lower register of a wide value fills the requester's latch and changes no field. -/
  | wideValueLowWrite (req : Fin 32) (addr : BitVec 40) (value : Word)
  /-- WIDE_VALUE_HIGH_WRITE (R40). A write to the highest register of a wide value applies the whole value with the latched lower parts. -/
  | wideValueHighWrite (req : Fin 32) (addr : BitVec 40) (value : Word)
  /-- SHADOW_WRITE (R46). A write in the shadow view sets the shadow values of RWS fields only. -/
  | shadowWrite (req : Fin 32) (addr : BitVec 40) (value : Word)
  /-- SWAP_REQUEST (R47). OP 0b01 in HIT_SWAP_CMD checks a swap slot and makes it pending or closes it with a code. -/
  | swapRequest (req : Fin 32) (slot : Fin 8)
  /-- SWAP_CANCEL (R50). OP 0b10 in HIT_SWAP_CMD stops the unswapped sets of a pending slot and closes it ABORTED. -/
  | swapCancel (req : Fin 32) (slot : Fin 8)
  /-- SWAP_TAKE_EFFECT (R48). On the tick a covered set comes due, its shadow values become active, or the slot closes FAULT on coarse time. -/
  | swapTakeEffect (slot : Fin 8)
  /-- FN_ENABLE (R52). A write of EN 1 moves a function to starting or queues a restart. -/
  | fnEnable (req : Fin 32) (fn : FnRef)
  /-- FN_DISABLE (R52). A write of EN 0 moves a function to stopping, makes an abandon pending, or resets a failed function. -/
  | fnDisable (req : Fin 32) (fn : FnRef)
  /-- FN_START_DONE (R52). A start completes: the function goes on, or to stopping when an abandon is pending. -/
  | fnStartDone (fn : FnRef)
  /-- FN_START_FAIL (R52). A start fails and the function goes to failed with LAST_STATUS FAULT. -/
  | fnStartFail (fn : FnRef)
  /-- FN_SAFE_POINT (R415). A starting function with an abandon pending reaches its safe point and moves to stopping. -/
  | fnSafePoint (fn : FnRef)
  /-- FN_STOP_DONE (R52). A stop completes: the function goes off, or to starting when a restart is pending. -/
  | fnStopDone (fn : FnRef)
  /-- FN_STOP_FAIL (R52). A stop fails and the function goes to failed. -/
  | fnStopFail (fn : FnRef)
  /-- NT_TICK (R55). On every tick each domain advances by NT_INCR and the selector offset slews toward 0. -/
  | ntTick
  /-- SLEW_END (R64). The offset reaches 0, SLEWING clears and EV8 pulses. -/
  | slewEnd
  /-- NT_INCR_WRITE (R56). A write of NT_INCR_HI applies the 40-bit increment, clamped to ±200 ppm, from the next tick. -/
  | ntIncrWrite (req : Fin 32) (dom : Fin 2) (hi : Word)
  /-- MARK_COARSE (R58). A write of MARK_COARSE marks a domain coarse. -/
  | markCoarse (req : Fin 32) (dom : Fin 2) (holdover : Bool) (fine : Bool)
  /-- MARK_FINE (R58). A write of MARK_FINE alone marks a domain fine, and coarse pass slots are checked at once. -/
  | markFine (req : Fin 32) (dom : Fin 2) (holdover : Bool)
  /-- REF_SRC_WRITE (R57). A write of TSEL_REF.SRC changes the time PLL source within 1 µs without an NT step. -/
  | refSrcWrite (req : Fin 32) (src : Fin 4)
  /-- REF_LOST (R57). Four missing REF10 edges set REF_LOST, pulse EV7, and move TCK to the TCXO or hold its control value. -/
  | refLost
  /-- REF_RETURN (R57). REF10 present for 10 s moves the time PLL back to REF10. -/
  | refReturn
  /-- NT_STEP (R59). NT_ADJ_CMD OP 0b01 adds a signed amount to a domain on the next tick, subject to the step limit. -/
  | ntStep (req : Fin 32) (dom : Fin 2) (force : Bool)
  /-- NT_LOAD (R59). NT_ADJ_CMD OP 0b10 sets a domain to an absolute value on the next tick, subject to the step limit. -/
  | ntLoad (req : Fin 32) (dom : Fin 2) (force : Bool)
  /-- TSEL_SWITCH (R63). A write of SEL differing from CUR switches the selected domain on the next tick with an offset, or completes FAULT. -/
  | tselSwitch (req : Fin 32) (sel : Fin 2)
  /-- CAPTURE_EDGE (R66). An edge on an enabled capture input latches the NT of each domain less IN_DELAY and raises its event line. -/
  | captureEdge (input : Fin 5) (falling : Bool) (phase : BitVec 16)
  /-- TOD_BYTE_RX (R67). A TOD UART byte enters its FIFO, marked START and captured when it begins a message, or is dropped. -/
  | todByteRx (rx : Fin 2) (byte : Byte) (phase : BitVec 16)
  /-- TOD_DATA_READ (R67). A read of NT_TOD_DATA returns and removes the oldest byte. -/
  | todDataRead (req : Fin 32) (rx : Fin 2)
  /-- PPS_OUT_EDGE (R69). PPS_OUT starts its pulse at each whole second plus OFFSET while its NT is fine. -/
  | ppsOutEdge (out : Fin 2)
  /-- PPS_PULSE_END (R69). A PPS_OUT pulse ends after WIDTH µs. -/
  | ppsPulseEnd (out : Fin 2)
  /-- TSYNC_FRAME_SEND (R70). TSYNC_OUT sends one Manchester TSYNC frame at each whole second. -/
  | tsyncFrameSend
  /-- TSYNC_FRAME_RX (R70). A decoded TSYNC_IN frame sets VALID or CRC_ERR and pulses EV6. -/
  | tsyncFrameRx (bits : BitVec 80)
  /-- ADD (R81). Integer add of two registers. -/
  | add (core : Fin 24) (rd : Fin 32) (ra : Fin 32) (rb : Fin 32)
  /-- SUB (R81). Integer subtract of two registers. -/
  | sub (core : Fin 24) (rd : Fin 32) (ra : Fin 32) (rb : Fin 32)
  /-- AND (R81). Bitwise AND of two registers. -/
  | and_ (core : Fin 24) (rd : Fin 32) (ra : Fin 32) (rb : Fin 32)
  /-- OR (R81). Bitwise OR of two registers. -/
  | or_ (core : Fin 24) (rd : Fin 32) (ra : Fin 32) (rb : Fin 32)
  /-- XOR (R81). Bitwise XOR of two registers. -/
  | xor (core : Fin 24) (rd : Fin 32) (ra : Fin 32) (rb : Fin 32)
  /-- SLT (R81). Signed set-less-than. -/
  | slt (core : Fin 24) (rd : Fin 32) (ra : Fin 32) (rb : Fin 32)
  /-- SLTU (R81). Unsigned set-less-than. -/
  | sltu (core : Fin 24) (rd : Fin 32) (ra : Fin 32) (rb : Fin 32)
  /-- SLL (R81). Shift left logical by a register. -/
  | sll (core : Fin 24) (rd : Fin 32) (ra : Fin 32) (rb : Fin 32)
  /-- SRL (R81). Shift right logical by a register. -/
  | srl (core : Fin 24) (rd : Fin 32) (ra : Fin 32) (rb : Fin 32)
  /-- SRA (R81). Shift right arithmetic by a register. -/
  | sra (core : Fin 24) (rd : Fin 32) (ra : Fin 32) (rb : Fin 32)
  /-- ROR (R81). Rotate right by a register. -/
  | ror (core : Fin 24) (rd : Fin 32) (ra : Fin 32) (rb : Fin 32)
  /-- ADDW (R81). 32-bit add, sign-extended. -/
  | addw (core : Fin 24) (rd : Fin 32) (ra : Fin 32) (rb : Fin 32)
  /-- SUBW (R81). 32-bit subtract, sign-extended. -/
  | subw (core : Fin 24) (rd : Fin 32) (ra : Fin 32) (rb : Fin 32)
  /-- SLLW (R81). 32-bit shift left, sign-extended. -/
  | sllw (core : Fin 24) (rd : Fin 32) (ra : Fin 32) (rb : Fin 32)
  /-- SRLW (R81). 32-bit shift right logical, sign-extended. -/
  | srlw (core : Fin 24) (rd : Fin 32) (ra : Fin 32) (rb : Fin 32)
  /-- SRAW (R81). 32-bit shift right arithmetic, sign-extended. -/
  | sraw (core : Fin 24) (rd : Fin 32) (ra : Fin 32) (rb : Fin 32)
  /-- MUL (R81). Low 64 bits of a product. -/
  | mul (core : Fin 24) (rd : Fin 32) (ra : Fin 32) (rb : Fin 32)
  /-- MULH (R81). High 64 bits of a signed product. -/
  | mulh (core : Fin 24) (rd : Fin 32) (ra : Fin 32) (rb : Fin 32)
  /-- MULHU (R81). High 64 bits of an unsigned product. -/
  | mulhu (core : Fin 24) (rd : Fin 32) (ra : Fin 32) (rb : Fin 32)
  /-- MULHSU (R81). High 64 bits of a signed-by-unsigned product. -/
  | mulhsu (core : Fin 24) (rd : Fin 32) (ra : Fin 32) (rb : Fin 32)
  /-- DIV (R82). Signed division truncated toward zero, with fixed results for zero and overflow. -/
  | div (core : Fin 24) (rd : Fin 32) (ra : Fin 32) (rb : Fin 32)
  /-- DIVU (R82). Unsigned division, all ones for a zero divisor. -/
  | divu (core : Fin 24) (rd : Fin 32) (ra : Fin 32) (rb : Fin 32)
  /-- REM (R82). Signed remainder with the sign of the dividend. -/
  | rem_ (core : Fin 24) (rd : Fin 32) (ra : Fin 32) (rb : Fin 32)
  /-- REMU (R82). Unsigned remainder. -/
  | remu (core : Fin 24) (rd : Fin 32) (ra : Fin 32) (rb : Fin 32)
  /-- MIN (R81). Signed minimum. -/
  | min (core : Fin 24) (rd : Fin 32) (ra : Fin 32) (rb : Fin 32)
  /-- MAX (R81). Signed maximum. -/
  | max (core : Fin 24) (rd : Fin 32) (ra : Fin 32) (rb : Fin 32)
  /-- MINU (R81). Unsigned minimum. -/
  | minu (core : Fin 24) (rd : Fin 32) (ra : Fin 32) (rb : Fin 32)
  /-- MAXU (R81). Unsigned maximum. -/
  | maxu (core : Fin 24) (rd : Fin 32) (ra : Fin 32) (rb : Fin 32)
  /-- CLZ (R81). Count of leading zero bits. -/
  | clz (core : Fin 24) (rd : Fin 32) (ra : Fin 32)
  /-- CTZ (R81). Count of trailing zero bits. -/
  | ctz (core : Fin 24) (rd : Fin 32) (ra : Fin 32)
  /-- POPC (R81). Count of 1 bits. -/
  | popc (core : Fin 24) (rd : Fin 32) (ra : Fin 32)
  /-- BSWAP (R81). Reverse the eight bytes of a register. -/
  | bswap (core : Fin 24) (rd : Fin 32) (ra : Fin 32)
  /-- SELNZ (R82). Select ra when rb is nonzero, else keep rd. -/
  | selnz (core : Fin 24) (rd : Fin 32) (ra : Fin 32) (rb : Fin 32)
  /-- ADDI (R81). Add a sign-extended immediate. -/
  | addi (core : Fin 24) (rd : Fin 32) (ra : Fin 32) (imm : BitVec 16)
  /-- ANDI (R81). AND with a zero-extended immediate. -/
  | andi (core : Fin 24) (rd : Fin 32) (ra : Fin 32) (imm : BitVec 16)
  /-- ORI (R81). OR with a zero-extended immediate. -/
  | ori (core : Fin 24) (rd : Fin 32) (ra : Fin 32) (imm : BitVec 16)
  /-- XORI (R81). XOR with a zero-extended immediate. -/
  | xori (core : Fin 24) (rd : Fin 32) (ra : Fin 32) (imm : BitVec 16)
  /-- SLTI (R81). Signed set-less-than an immediate. -/
  | slti (core : Fin 24) (rd : Fin 32) (ra : Fin 32) (imm : BitVec 16)
  /-- SLTIU (R81). Unsigned set-less-than an immediate. -/
  | sltiu (core : Fin 24) (rd : Fin 32) (ra : Fin 32) (imm : BitVec 16)
  /-- SHI (R81). Shift or rotate by an immediate, optionally in W form. -/
  | shi (core : Fin 24) (rd : Fin 32) (ra : Fin 32) (imm : BitVec 16)
  /-- ADDIW (R81). 32-bit add of an immediate, sign-extended. -/
  | addiw (core : Fin 24) (rd : Fin 32) (ra : Fin 32) (imm : BitVec 16)
  /-- LUI (R81). Load an upper immediate shifted by 16. -/
  | lui (core : Fin 24) (rd : Fin 32) (imm : BitVec 21)
  /-- AUIPC (R81). Add an upper immediate to pc. -/
  | auipc (core : Fin 24) (rd : Fin 32) (imm : BitVec 21)
  /-- JAL (R85). Jump relative and link. -/
  | jal (core : Fin 24) (rd : Fin 32) (imm : BitVec 21)
  /-- JALR (R85). Jump to a register plus offset and link. -/
  | jalr (core : Fin 24) (rd : Fin 32) (ra : Fin 32) (imm : BitVec 16)
  /-- BEQ (R85). Branch if equal. -/
  | beq (core : Fin 24) (ra : Fin 32) (rb : Fin 32) (off : BitVec 16)
  /-- BNE (R85). Branch if not equal. -/
  | bne (core : Fin 24) (ra : Fin 32) (rb : Fin 32) (off : BitVec 16)
  /-- BLT (R85). Branch if less, signed. -/
  | blt (core : Fin 24) (ra : Fin 32) (rb : Fin 32) (off : BitVec 16)
  /-- BGE (R85). Branch if greater or equal, signed. -/
  | bge (core : Fin 24) (ra : Fin 32) (rb : Fin 32) (off : BitVec 16)
  /-- BLTU (R85). Branch if less, unsigned. -/
  | bltu (core : Fin 24) (ra : Fin 32) (rb : Fin 32) (off : BitVec 16)
  /-- BGEU (R85). Branch if greater or equal, unsigned. -/
  | bgeu (core : Fin 24) (ra : Fin 32) (rb : Fin 32) (off : BitVec 16)
  /-- LB (R83). Load a byte, sign-extended. -/
  | lb (core : Fin 24) (rd : Fin 32) (ra : Fin 32) (imm : BitVec 16)
  /-- LBU (R83). Load a byte, zero-extended. -/
  | lbu (core : Fin 24) (rd : Fin 32) (ra : Fin 32) (imm : BitVec 16)
  /-- LH (R83). Load 2 bytes, sign-extended. -/
  | lh (core : Fin 24) (rd : Fin 32) (ra : Fin 32) (imm : BitVec 16)
  /-- LHU (R83). Load 2 bytes, zero-extended. -/
  | lhu (core : Fin 24) (rd : Fin 32) (ra : Fin 32) (imm : BitVec 16)
  /-- LW (R83). Load 4 bytes, sign-extended; one of the register-block loads. -/
  | lw (core : Fin 24) (rd : Fin 32) (ra : Fin 32) (imm : BitVec 16)
  /-- LWU (R83). Load 4 bytes, zero-extended. -/
  | lwu (core : Fin 24) (rd : Fin 32) (ra : Fin 32) (imm : BitVec 16)
  /-- LD (R83). Load 8 bytes. -/
  | ld (core : Fin 24) (rd : Fin 32) (ra : Fin 32) (imm : BitVec 16)
  /-- SB (R83). Store a byte. -/
  | sb (core : Fin 24) (rs : Fin 32) (ra : Fin 32) (imm : BitVec 16)
  /-- SH (R83). Store 2 bytes. -/
  | sh (core : Fin 24) (rs : Fin 32) (ra : Fin 32) (imm : BitVec 16)
  /-- SW (R83). Store 4 bytes; the only store accepted by register blocks. -/
  | sw (core : Fin 24) (rs : Fin 32) (ra : Fin 32) (imm : BitVec 16)
  /-- SD (R83). Store 8 bytes. -/
  | sd (core : Fin 24) (rs : Fin 32) (ra : Fin 32) (imm : BitVec 16)
  /-- FLW (R83). Load a binary32 into an f register. -/
  | flw (core : Fin 24) (fd : Fin 32) (ra : Fin 32) (imm : BitVec 16)
  /-- FLD (R83). Load a binary64 into an f register. -/
  | fld (core : Fin 24) (fd : Fin 32) (ra : Fin 32) (imm : BitVec 16)
  /-- FSW (R83). Store the low 4 bytes of an f register. -/
  | fsw (core : Fin 24) (fs : Fin 32) (ra : Fin 32) (imm : BitVec 16)
  /-- FSD (R83). Store an f register. -/
  | fsd (core : Fin 24) (fs : Fin 32) (ra : Fin 32) (imm : BitVec 16)
  /-- LR (R87). Load reserved, setting a reservation on a 64-byte granule. -/
  | lr (core : Fin 24) (rd : Fin 32) (ra : Fin 32) (dbl : Bool) (aq : Bool) (rl : Bool)
  /-- SC (R87). Store conditional, succeeding only while the reservation holds. -/
  | sc (core : Fin 24) (rd : Fin 32) (ra : Fin 32) (rb : Fin 32) (dbl : Bool) (aq : Bool) (rl : Bool)
  /-- SWAP (R86). Atomic swap. -/
  | swapAtomic (core : Fin 24) (rd : Fin 32) (ra : Fin 32) (rb : Fin 32) (dbl : Bool) (aq : Bool) (rl : Bool)
  /-- AADD (R86). Atomic add. -/
  | aadd (core : Fin 24) (rd : Fin 32) (ra : Fin 32) (rb : Fin 32) (dbl : Bool) (aq : Bool) (rl : Bool)
  /-- AAND (R86). Atomic AND. -/
  | aand (core : Fin 24) (rd : Fin 32) (ra : Fin 32) (rb : Fin 32) (dbl : Bool) (aq : Bool) (rl : Bool)
  /-- AOR (R86). Atomic OR. -/
  | aor (core : Fin 24) (rd : Fin 32) (ra : Fin 32) (rb : Fin 32) (dbl : Bool) (aq : Bool) (rl : Bool)
  /-- AXOR (R86). Atomic XOR. -/
  | axor (core : Fin 24) (rd : Fin 32) (ra : Fin 32) (rb : Fin 32) (dbl : Bool) (aq : Bool) (rl : Bool)
  /-- AMIN (R86). Atomic signed minimum. -/
  | amin (core : Fin 24) (rd : Fin 32) (ra : Fin 32) (rb : Fin 32) (dbl : Bool) (aq : Bool) (rl : Bool)
  /-- AMAX (R86). Atomic signed maximum. -/
  | amax (core : Fin 24) (rd : Fin 32) (ra : Fin 32) (rb : Fin 32) (dbl : Bool) (aq : Bool) (rl : Bool)
  /-- AMINU (R86). Atomic unsigned minimum. -/
  | aminu (core : Fin 24) (rd : Fin 32) (ra : Fin 32) (rb : Fin 32) (dbl : Bool) (aq : Bool) (rl : Bool)
  /-- AMAXU (R86). Atomic unsigned maximum. -/
  | amaxu (core : Fin 24) (rd : Fin 32) (ra : Fin 32) (rb : Fin 32) (dbl : Bool) (aq : Bool) (rl : Bool)
  /-- CAS (R86). Atomic compare and swap. -/
  | cas (core : Fin 24) (rd : Fin 32) (ra : Fin 32) (rb : Fin 32) (dbl : Bool) (aq : Bool) (rl : Bool)
  /-- FADD (R88). Floating-point add. -/
  | fadd (core : Fin 24) (rd : Fin 32) (ra : Fin 32) (rb : Fin 32) (dbl : Bool) (rm : Fin 8)
  /-- FSUB (R88). Floating-point subtract. -/
  | fsub (core : Fin 24) (rd : Fin 32) (ra : Fin 32) (rb : Fin 32) (dbl : Bool) (rm : Fin 8)
  /-- FMUL (R88). Floating-point multiply. -/
  | fmul (core : Fin 24) (rd : Fin 32) (ra : Fin 32) (rb : Fin 32) (dbl : Bool) (rm : Fin 8)
  /-- FDIV (R88). Floating-point divide. -/
  | fdiv (core : Fin 24) (rd : Fin 32) (ra : Fin 32) (rb : Fin 32) (dbl : Bool) (rm : Fin 8)
  /-- FSQRT (R88). Floating-point square root. -/
  | fsqrt (core : Fin 24) (rd : Fin 32) (ra : Fin 32) (dbl : Bool) (rm : Fin 8)
  /-- FMIN (R88). Floating-point minimum. -/
  | fmin (core : Fin 24) (rd : Fin 32) (ra : Fin 32) (rb : Fin 32) (dbl : Bool) (rm : Fin 8)
  /-- FMAX (R88). Floating-point maximum. -/
  | fmax (core : Fin 24) (rd : Fin 32) (ra : Fin 32) (rb : Fin 32) (dbl : Bool) (rm : Fin 8)
  /-- FSGNJ (R88). Sign injection from fb. -/
  | fsgnj (core : Fin 24) (rd : Fin 32) (ra : Fin 32) (rb : Fin 32) (dbl : Bool) (rm : Fin 8)
  /-- FSGNJN (R88). Sign injection from the inverse of fb's sign. -/
  | fsgnjn (core : Fin 24) (rd : Fin 32) (ra : Fin 32) (rb : Fin 32) (dbl : Bool) (rm : Fin 8)
  /-- FSGNJX (R88). Sign injection by XOR of signs. -/
  | fsgnjx (core : Fin 24) (rd : Fin 32) (ra : Fin 32) (rb : Fin 32) (dbl : Bool) (rm : Fin 8)
  /-- FEQ (R88). Floating-point equal compare into a g register. -/
  | feq (core : Fin 24) (rd : Fin 32) (ra : Fin 32) (rb : Fin 32) (dbl : Bool) (rm : Fin 8)
  /-- FLT (R88). Floating-point less-than compare. -/
  | flt (core : Fin 24) (rd : Fin 32) (ra : Fin 32) (rb : Fin 32) (dbl : Bool) (rm : Fin 8)
  /-- FLE (R88). Floating-point less-or-equal compare. -/
  | fle (core : Fin 24) (rd : Fin 32) (ra : Fin 32) (rb : Fin 32) (dbl : Bool) (rm : Fin 8)
  /-- FCLASS (R88). Classify a floating-point value. -/
  | fclass (core : Fin 24) (rd : Fin 32) (ra : Fin 32) (dbl : Bool) (rm : Fin 8)
  /-- FCVT_F_I (R88). Convert a signed integer to floating point. -/
  | fcvtFI (core : Fin 24) (rd : Fin 32) (ra : Fin 32) (dbl : Bool) (rm : Fin 8)
  /-- FCVT_F_IU (R88). Convert an unsigned integer to floating point. -/
  | fcvtFIu (core : Fin 24) (rd : Fin 32) (ra : Fin 32) (dbl : Bool) (rm : Fin 8)
  /-- FCVT_I_F (R88). Convert floating point to a signed integer. -/
  | fcvtIF (core : Fin 24) (rd : Fin 32) (ra : Fin 32) (dbl : Bool) (rm : Fin 8)
  /-- FCVT_IU_F (R88). Convert floating point to an unsigned integer. -/
  | fcvtIuF (core : Fin 24) (rd : Fin 32) (ra : Fin 32) (dbl : Bool) (rm : Fin 8)
  /-- FCVT_P (R88). Convert between precisions. -/
  | fcvtP (core : Fin 24) (rd : Fin 32) (ra : Fin 32) (dbl : Bool) (rm : Fin 8)
  /-- FMV_I_F (R88). Move f register bits to a g register. -/
  | fmvIF (core : Fin 24) (rd : Fin 32) (ra : Fin 32) (dbl : Bool) (rm : Fin 8)
  /-- FMV_F_I (R88). Move g register bits to an f register. -/
  | fmvFI (core : Fin 24) (rd : Fin 32) (ra : Fin 32) (dbl : Bool) (rm : Fin 8)
  /-- FMADD (R88). Fused multiply-add. -/
  | fmadd (core : Fin 24) (rd : Fin 32) (ra : Fin 32) (rb : Fin 32) (rc : Fin 32) (dbl : Bool) (rm : Fin 8)
  /-- FMSUB (R88). Fused multiply-subtract. -/
  | fmsub (core : Fin 24) (rd : Fin 32) (ra : Fin 32) (rb : Fin 32) (rc : Fin 32) (dbl : Bool) (rm : Fin 8)
  /-- FNMADD (R88). Negated fused multiply-add. -/
  | fnmadd (core : Fin 24) (rd : Fin 32) (ra : Fin 32) (rb : Fin 32) (rc : Fin 32) (dbl : Bool) (rm : Fin 8)
  /-- FNMSUB (R88). Negated fused multiply-subtract. -/
  | fnmsub (core : Fin 24) (rd : Fin 32) (ra : Fin 32) (rb : Fin 32) (rc : Fin 32) (dbl : Bool) (rm : Fin 8)
  /-- SRSWAP (R89). Swap a system register with a g register. -/
  | srswap (core : Fin 24) (rd : Fin 32) (ra : Fin 32) (sr : BitVec 12)
  /-- SRSET (R89). Set bits of a system register; with g0 a pure read, claiming a line on ICLAIM. -/
  | srset (core : Fin 24) (rd : Fin 32) (ra : Fin 32) (sr : BitVec 12)
  /-- SRCLR (R89). Clear bits of a system register. -/
  | srclr (core : Fin 24) (rd : Fin 32) (ra : Fin 32) (sr : BitVec 12)
  /-- ECALL (R92). Raise the ECALL exception, or halt a slot engine. -/
  | ecall (core : Fin 24)
  /-- EBREAK (R99). Raise EBREAK, halt for the debugger, or act as NOP on a slot engine. -/
  | ebreak (core : Fin 24)
  /-- ERET (R95). Return from an exception, restoring IE and level and clearing a reservation. -/
  | eret (core : Fin 24)
  /-- WFI (R95). Stall until a line is pending and enabled. -/
  | wfi (core : Fin 24)
  /-- FENCE (R105). Order accesses of the predecessor set before those of the successor set. -/
  | fence (core : Fin 24) (pred : BitVec 4) (succ : BitVec 4)
  /-- ISYNC (R107). Discard fetched instructions and refetch. -/
  | isync (core : Fin 24)
  /-- TLBINV (R102). Invalidate cached translations in the given scope. -/
  | tlbinv (core : Fin 24) (asidReg : Fin 32) (ra : Fin 32) (scope : Fin 4)
  /-- IMPRECISE_STORE_ERROR (R94). A retired store to normal memory fails and raises cause 0x0E with IMPRECISE. -/
  | impreciseStoreError (core : Fin 24) (addr : DWord) (status : Byte)
  /-- INTERRUPT_ENTRY (R96). A pending enabled line is taken at an instruction boundary with entry at EVEC + 0x100. -/
  | interruptEntry (core : Fin 24)
  /-- WFI_RESUME (R95). A stalled WFI resumes when a line becomes pending and enabled. -/
  | wfiResume (core : Fin 24)
  /-- NTRD (R116). Read a part of the tick NT. -/
  | ntrd (core : Fin 24) (rd : Fin 32) (part : Byte)
  /-- WAITNT (R117). Wait until a packed NT target is reached, or count it late. -/
  | waitnt (core : Fin 24) (ra : Fin 32)
  /-- ATTICK (R118). Bind the next instruction to the tick its target is reached, or count it late. -/
  | attick (core : Fin 24) (ra : Fin 32)
  /-- TIMED_TARGET_REACHED (R116). A WAITNT or ATTICK target is reached and the next instruction issues. -/
  | timedTargetReached (eng : Fin 3)
  /-- EVTRIG (R120). Pulse a free event line, or set FIXED_TRIG for a fixed line. -/
  | evtrig (core : Fin 24) (ra : Fin 32) (line : Byte)
  /-- EVWAIT (R121). Consume a set latch or wait for a pulse on a line. -/
  | evwait (core : Fin 24) (rd : Fin 32) (line : Byte)
  /-- EVWAIT_PULSE (R121). A pulse reaching a waiting engine ends its EVWAIT with OK. -/
  | evwaitPulse (eng : Fin 3)
  /-- EVWAIT_TIMEOUT (R121). SE_WAIT_LIMIT ticks pass without a pulse and EVWAIT returns LATE. -/
  | evwaitTimeout (eng : Fin 3)
  /-- EVENT_DELIVERY (R122). A pulse entered into the fabric reaches the slot-engine latches and the cores' IPEND. -/
  | eventDelivery
  /-- TX (R126). RCMD TX checks and queues a transmission on a chain. -/
  | tx (core : Fin 24) (rd : Fin 32) (ra : Fin 32) (rb : Fin 32) (chain : Byte)
  /-- RX (R126). RCMD RX checks and queues a receive window. -/
  | rx (core : Fin 24) (rd : Fin 32) (ra : Fin 32) (rb : Fin 32) (chain : Byte)
  /-- LISTEN (R126). RCMD LISTEN checks and queues continuous reception. -/
  | listen (core : Fin 24) (rd : Fin 32) (ra : Fin 32) (rb : Fin 32) (chain : Byte)
  /-- TUNE (R126). RCMD TUNE checks and queues a synthesiser move. -/
  | tune (core : Fin 24) (rd : Fin 32) (ra : Fin 32) (rb : Fin 32) (chain : Byte)
  /-- CAL (R126). RCMD CAL checks and queues one gap calibration step. -/
  | cal (core : Fin 24) (rd : Fin 32) (ra : Fin 32) (rb : Fin 32) (chain : Byte)
  /-- ANT (R154). RCMD ANT checks and queues a front-end sequence. -/
  | ant (core : Fin 24) (rd : Fin 32) (ra : Fin 32) (rb : Fin 32) (chain : Byte)
  /-- CCA (R126). RCMD CCA checks and queues a channel assessment. -/
  | cca (core : Fin 24) (rd : Fin 32) (ra : Fin 32) (rb : Fin 32) (chain : Byte)
  /-- PAREQ (R126). RCMD PAREQ checks and queues a PA supply request. -/
  | pareq (core : Fin 24) (rd : Fin 32) (ra : Fin 32) (rb : Fin 32) (chain : Byte)
  /-- IDLE (R126). RCMD IDLE checks and queues an end of reception. -/
  | idle_ (core : Fin 24) (rd : Fin 32) (ra : Fin 32) (rb : Fin 32) (chain : Byte)
  /-- ABORT (R129). RCMD ABORT is accepted for a chain and takes effect 2 ticks later. -/
  | abort (core : Fin 24) (rd : Fin 32) (ra : Fin 32) (rb : Fin 32) (chain : Byte)
  /-- SLOT (R203). RCMD SLOT issues the earliest offered occurrence of a slot-table entry on its chain. -/
  | slot (core : Fin 24) (rd : Fin 32) (ra : Fin 32) (rb : Fin 32) (chain : Byte)
  /-- POST (R294). POST places a work item at a level or returns a refusal code. -/
  | post_ (core : Fin 24) (rd : Fin 32) (ra : Fin 32) (level : Byte)
  /-- DONE (R298). DONE completes the held item and hands the core its next item. -/
  | wdDone (core : Fin 24) (rd : Fin 32) (ra : Fin 32)
  /-- TAKE (R301). TAKE acquires a token named in imm8 or refuses ORDER or BUSY. -/
  | lckTake (core : Fin 24) (rd : Fin 32) (token : Byte)
  /-- GIVE (R301). GIVE releases a token named in imm8. -/
  | lckGive (core : Fin 24) (rd : Fin 32) (token : Byte)
  /-- TAKEV (R301). TAKEV acquires a token named in ra. -/
  | takev (core : Fin 24) (rd : Fin 32) (ra : Fin 32)
  /-- GIVEV (R301). GIVEV releases a token named in ra. -/
  | givev (core : Fin 24) (rd : Fin 32) (ra : Fin 32)
  /-- SVC (R303). SVC submits a command to an engine through the arbiter or refuses it. -/
  | svc (core : Fin 24) (rd : Fin 32) (ra : Fin 32) (rb : Fin 32) (imm : Byte)
  /-- ABORT_EFFECT (R129). ABORT ends the chain's action, empties its queue ABORTED and withdraws placed acknowledgements. -/
  | abortEffect (radio : Fin 3) (chain : Fin 4)
  /-- QUEUED_COMMAND_BEGIN (R127). A queued command reaches its port time and begins, or completes with a code of Table 05-6. -/
  | queuedCommandBegin (radio : Fin 3) (chain : Fin 4)
  /-- TX_LAST_BIT (R161). A transmission's last bit leaves the port; the TX completes and its duty record is fixed. -/
  | txLastBit (radio : Fin 3) (chain : Fin 4)
  /-- RX_WINDOW_CLOSE (R170). An RX window closes and completes; a DRL occurrence without contact counts a miss. -/
  | rxWindowClose (radio : Fin 3) (chain : Fin 4)
  /-- CCA_END (R163). A CCA window ends and completes OK or BUSY. -/
  | ccaEnd (radio : Fin 3) (chain : Fin 4) (peak : BitVec 16)
  /-- CAL_STEP_END (R147). A calibration step ends and its trims take effect. -/
  | calStepEnd (radio : Fin 3) (chain : Fin 4) (trim : Word)
  /-- FEM_SEQUENCE_END (R152). A front-end sequence's last entry ends on the RFFE bus. -/
  | femSequenceEnd (radio : Fin 3)
  /-- FEM_AUTO_SEQUENCE (R153). An automatic TX_ON, TX_OFF, RX_ON or CAL_ENTRY sequence starts at its fixed time. -/
  | femAutoSequence (radio : Fin 3) (port : Fin 4) (kind : Fin 4)
  /-- SYNTH_MOVE_START (R142). A synthesiser starts moving for a channel change when its chain is free, or the command completes LATE. -/
  | synthMoveStart (radio : Fin 3) (chain : Fin 4)
  /-- SYNTH_LOCK (R142). A synthesiser reports lock, sets LOCKED, pulses its lock line and completes a TUNE. -/
  | synthLock (radio : Fin 3) (chain : Fin 4)
  /-- TX_REGULATORY_CHECK (R145). At P − 50 µs a TX is checked for PA supply, regulatory limits and the shared chain, and reserves airtime. -/
  | txRegulatoryCheck (radio : Fin 3) (chain : Fin 4)
  /-- LOCK_CHECK (R143). At P − 30 µs a TX, RX or CCA completes LATE when its synthesiser has not locked. -/
  | lockCheck (radio : Fin 3) (chain : Fin 4)
  /-- LBT_DECISION (R163). At P − 24 µs the listen-before-talk windows decide whether the TX may go. -/
  | lbtDecision (radio : Fin 3) (chain : Fin 4) (peak : BitVec 16)
  /-- TRANSMIT_PATH_BEGIN (R145). The compensated transmit path begins and a LISTEN on the port is suspended. -/
  | transmitPathBegin (radio : Fin 3) (chain : Fin 4)
  /-- LISTEN_RESUME (R140). A suspended LISTEN resumes at the earliest instant the turn-rounds permit. -/
  | listenResume (radio : Fin 3) (chain : Fin 4)
  /-- CAL_SET_APPLY (R150). A chain applies a swapped calibration set at its first gap. -/
  | calSetApply (radio : Fin 3) (chain : Fin 4)
  /-- CAL_GAP_TIMEOUT (R150). A chain with no gap for 1 s applies the calibration set and cuts arriving frames. -/
  | calGapTimeout (radio : Fin 3) (chain : Fin 4)
  /-- SE_LM_DATA_ACCESS (R130). A window access reaches a local-memory word and advances ADDR, dropping writes to a running active page. -/
  | seLmDataAccess (req : Fin 32) (eng : Fin 3) (write : Option Word)
  /-- SE_POST (R131). A write of SE_POST_HI appends a value to the post queue and pulses the post line, or drops it. -/
  | sePost (req : Fin 32) (eng : Fin 3) (hi : Word)
  /-- SE_POP (R131). A read of SE_POP_LO returns the oldest posted value, removing it when the engine reads. -/
  | sePop (req : Fin 32) (eng : Fin 3)
  /-- SE_EVPOST (R131). A write of SE_EVPOST pulses a free event line. -/
  | seEvpost (req : Fin 32) (eng : Fin 3) (line : Byte)
  /-- ACC_NEXT_READ (R132). A read of ACC_NEXT returns the next offered entry, removing it when the radio's engine reads. -/
  | accNextRead (req : Fin 32) (radio : Fin 3)
  /-- REG_REGION_WRITE (R159). A write of REG_REGION is checked as a whole and changes the active profile or sets BAD_REGION. -/
  | regRegionWrite (req : Fin 32) (value : Word)
  /-- METER_RECOMPUTE_DONE (R159). The duty meters finish recomputing after a profile change and waiting RADIO starts proceed. -/
  | meterRecomputeDone
  /-- DUTY_RECORD_EXPIRE (R162). A duty record leaves the ring once all its milliseconds lie an hour back. -/
  | dutyRecordExpire
  /-- PREAMBLE_DETECT (R171). A detector finds a preamble and places it in a lane, by preemption, or counts NO_LANE. -/
  | preambleDetect (radio : Fin 3) (chain : Fin 4) (mode : Byte) (centre : BitVec 40) (snr : Word) (rssi : Word) (agoNs : Word)
  /-- SYNC_FOUND (R184). A lane finds the sync or SFD and takes the arrival instant. -/
  | syncFound (radio : Fin 3) (lane : Byte) (phase : BitVec 16)
  /-- SYNC_TIMEOUT (R183). No sync within the longest ordinary preamble releases the lane, counted SYNC_MISS. -/
  | syncTimeout (radio : Fin 3) (lane : Byte)
  /-- HEADER_DECODED (R182). A lane checks the header CRC and length, releasing TOO_SHORT, TOO_LONG or HDR_FAIL frames. -/
  | headerDecoded (radio : Fin 3) (lane : Byte) (bits : BitVec 48)
  /-- FRAME_END (R183). A frame's last bit ends and its FCS passes to the link unit or fails FCS_FAIL. -/
  | frameEnd (radio : Fin 3) (lane : Byte) (psdu : List Byte) (rx : RxMeta)
  /-- CAPTURE_SPAN_END (R188). A capture span ends and its record is written to the ring with EV33. -/
  | captureSpanEnd (rx : RxMeta) (samples : List (BitVec 16))
  /-- EXPAND (R193). Frost capture EXPAND restores a record's samples to a destination. -/
  | expand
  /-- CAPTURE_RELEASE (R193). Frost capture RELEASE frees records up to REC and advances CAP_RD. -/
  | captureRelease
  /-- LAP_BOUNDARY (R194). The selected NT reaches a lap boundary and the lap line pulses. -/
  | lapBoundary (radio : Fin 3)
  /-- GUARD_INSTANT (R200). At an occurrence's guard instant access fetches the context and takes G from the drift learner. -/
  | guardInstant (radio : Fin 3) (entry : BitVec 14) (lap : Word)
  /-- OCCURRENCE_OFFER (R201). An occurrence is offered in ACC_NEXT at its port time less LEAD, or ignored as bad. -/
  | occurrenceOffer (radio : Fin 3) (entry : BitVec 14) (lap : Word)
  /-- OCCURRENCE_SKIP (R202). An occurrence whose lead can no longer be met is withdrawn with OUT_STATUS LATE. -/
  | occurrenceSkip (radio : Fin 3) (entry : BitVec 14) (lap : Word)
  /-- WRITE (R204). ACC edit WRITE replaces an entry of the chosen view from ACC_EDIT_DATA. -/
  | accWrite (req : Fin 32) (radio : Fin 3) (active : Bool)
  /-- EDIT_READ (R204). ACC edit READ copies an entry of the view to ACC_EDIT_DATA. -/
  | editRead (req : Fin 32) (radio : Fin 3) (active : Bool)
  /-- LOAD (R204). ACC edit LOAD replaces shadow entries from memory. -/
  | accLoad (req : Fin 32) (radio : Fin 3) (active : Bool)
  /-- COPY (R204). ACC edit COPY copies the active table to the shadow table. -/
  | accCopy (req : Fin 32) (radio : Fin 3) (active : Bool)
  /-- ACC_EDIT_COMPLETE (R204). A LOAD or COPY edit finishes and clears BUSY. -/
  | accEditComplete (radio : Fin 3)
  /-- CONTEND_WINDOW_OPEN (R210). A CONTEND occurrence opens its window and offers the head descriptor's first attempt. -/
  | contendWindowOpen (radio : Fin 3) (entry : BitVec 14) (lap : Word)
  /-- CONTEND_ATTEMPT_COMPLETE (R210). A contention attempt completes and the descriptor finishes or retries with backoff. -/
  | contendAttemptComplete (radio : Fin 3) (queue : Fin 4)
  /-- CONTEND_WINDOW_CLOSE (R210). A contention window closes leaving the head descriptor for the next window. -/
  | contendWindowClose (radio : Fin 3) (queue : Fin 4)
  /-- LINK_HEADER_CLASSIFY (R215). The link unit reads the link header, looks up the context and classes the frame at step 2. -/
  | linkHeaderClassify
  /-- CONTEXT_FETCH_DONE (R214). A context cache miss completes its fetch from MRAM. -/
  | contextFetchDone
  /-- FRAME_ACCEPT (R217). After authentication the frame is classed again, advances the window and builds the cached acknowledgement. -/
  | frameAccept
  /-- ACK_OPPORTUNITY (R221). An acknowledgement opportunity arrives and is sent or not sent. -/
  | ackOpportunity
  /-- REGISTER (R229). LNK REGISTER makes the image a context and indexes its SID. -/
  | lnkRegister (req : Fin 32)
  /-- UNREGISTER (R229). LNK UNREGISTER removes the SID from the index and clears VALID. -/
  | unregister (req : Fin 32)
  /-- CONTEXT_READ (R229). LNK READ copies a context to LNK_DATA. -/
  | contextRead (req : Fin 32)
  /-- SETCFG (R229). LNK SETCFG takes configuration bytes from LNK_DATA. -/
  | setcfg (req : Fin 32)
  /-- RESETDRIFT (R229). LNK RESETDRIFT returns the drift model to NEW. -/
  | resetdrift (req : Fin 32)
  /-- LNK_CMD_COMPLETE (R229). A context command completes once its journal entry is durable. -/
  | lnkCmdComplete
  /-- DRL_LOST_READ (R227). A read of DRL_LOST returns and removes the oldest LOST handle. -/
  | drlLostRead (req : Fin 32)
  /-- PARSER_ACCEPT (R231). The parser takes a recirculating packet or the next ready source and starts a pass. -/
  | parserAccept
  /-- INJECTION_SERVE (R233). An injection ring's head descriptor gets a status and its packet enters the parser. -/
  | injectionServe
  /-- PASS_END (R243). A pass ends, edits apply and the packet is dropped, recirculated, committed or enqueued. -/
  | passEnd
  /-- VERSION_RETIRE (R246). A non-current version's in-flight count reaches 0; it retires, EV44 pulses and a sweep starts. -/
  | versionRetire
  /-- SWEEP_DONE (R247). A sweep finishes settling and freeing entries. -/
  | sweepDone
  /-- ADD_ENTRY (R248). Router edit ADD places a new entry in the open version. -/
  | addEntry (req : Fin 32)
  /-- DEL (R248). Router edit DEL deletes the matching entry in the open version. -/
  | rtrDel (req : Fin 32)
  /-- SETDEF (R248). Router edit SETDEF replaces the stage default in the open version. -/
  | setdef (req : Fin 32)
  /-- ROUTER_READ (R248). Router edit READ copies an entry visible to a version to RTR_EDIT_DATA. -/
  | routerRead (req : Fin 32)
  /-- ROUTER_EDIT_COMPLETE (R248). A router edit finishes and writes its status. -/
  | routerEditComplete
  /-- COMMIT_NOW (R250). RTR_COMMIT_CMD OP 0b01 makes the open version current. -/
  | commitNow (req : Fin 32)
  /-- COMMIT_AT_NT (R250). RTR_COMMIT_CMD OP 0b10 makes a commit pending until its NT. -/
  | commitAtNt (req : Fin 32)
  /-- COMMIT_CANCEL (R250). RTR_COMMIT_CMD OP 0b11 cancels a pending commit. -/
  | commitCancel (req : Fin 32)
  /-- COMMIT_TAKE_EFFECT (R250). A pending commit reaches its swap tick and the open version becomes current. -/
  | commitTakeEffect
  /-- PORT_TRANSMIT_CHOICE (R256). A physical port able to start a frame takes the first ready source in strict order and DRR. -/
  | portTransmitChoice (port : Fin 7) (ring : Fin 4) (desc : List Byte)
  /-- WHEEL_ADVANCE (R259). The timing wheel advances one slot at a µs boundary and unparks its queues. -/
  | wheelAdvance
  /-- GATE_CHANGE (R260). A slalom gate changes at its instant. -/
  | gateChange (port : Fin 7)
  /-- SLALOM_LIST_START (R262). A swapped slalom list starts at S and its slot closes OK. -/
  | slalomListStart (port : Fin 7)
  /-- SAMPLE_SWEEP (R264). At each PERIOD multiple the traffic manager writes a sweep of queue samples or counts SKIPS. -/
  | sampleSweep
  /-- TQ0_LAUNCH (R267). A TQ0 frame's preamble begins so its first bit leaves at LAUNCH_NT, or it completes LATE or FAULT. -/
  | tq0Launch (port : Fin 6)
  /-- ETH_FRAME_TX_END (R266). A frame's last bit leaves an Ethernet port and its descriptor completes with a timestamp. -/
  | ethFrameTxEnd (port : Fin 6)
  /-- ETH_FRAME_RX (R268). A received Ethernet frame is checked, logged and passed to the router or dropped. -/
  | ethFrameRx (port : Fin 6) (frame : List Byte) (codeErr : Bool) (ago : Word)
  /-- LINK_STATE_CHANGE (R269). An Ethernet or host link changes state and its line pulses. -/
  | linkStateChange (link : Fin 7) (up : Bool) (an : Bool) (lock : Bool) (width : Byte) (speed : Byte)
  /-- WAKE_PATTERN_MATCH (R270). A frame matches a wake pattern and the Keeper receives a wake request. -/
  | wakePatternMatch (frame : List Byte)
  /-- HOST_TX_SERVE (R272). A host transmit descriptor is served in round robin into the router. -/
  | hostTxServe (desc : List Byte) (frame : List Byte)
  /-- PCIE_DOORBELL (R272). A host write of PCIE_DOORBELL pulses EV51. -/
  | pcieDoorbell (req : Fin 32) (value : Word)
  /-- TM_GATE_ACCESS (R260). An access to TM_GATE_HI stores or reads a list entry and advances INDEX. -/
  | tmGateAccess (req : Fin 32) (write : Option Word)
  /-- BIT_SET_STORE (R276). A store to the bit-set window ORs its value into scratchpad bytes indivisibly. -/
  | bitSetStore (req : Fin 32) (off : BitVec 23) (size : Fin 4) (value : DWord)
  /-- BIT_CLEAR_STORE (R276). A store to the bit-clear window clears its bits in scratchpad bytes indivisibly. -/
  | bitClearStore (req : Fin 32) (off : BitVec 23) (size : Fin 4) (value : DWord)
  /-- PATROL_REGION (R278). The patrol copies, borrows, march-tests and restores one region. -/
  | patrolRegion (bad : Option Word) (redirected : Bool)
  /-- RECORD_COMMIT (R284). After a record's closing word lands the RQ writes its entries, advances COMMIT and reports it. -/
  | recordCommit
  /-- QUEUE_ITEM_HELD_POST (R295). A queue item held for a full dispatcher is posted in the first cycle with room. -/
  | queueItemHeldPost
  /-- RQ_POP (R286). A read of RQ_POP_LO returns the next record's entry address or the calm word. -/
  | rqPop (req : Fin 32) (queue : Fin 64)
  /-- RQ_READ_WRITE (R286). A write of READ moves it within its span or sets BAD_PTR. -/
  | rqReadWrite (req : Fin 32) (queue : Fin 64) (value : BitVec 16)
  /-- MARK (R286). RQ_CMD MARK sets MARK to READ. -/
  | rqMark (req : Fin 32) (queue : Fin 64)
  /-- REWIND (R286). RQ_CMD REWIND sets READ back to MARK. -/
  | rewind (req : Fin 32) (queue : Fin 64)
  /-- RELEASE (R286). RQ_CMD RELEASE releases entries up to READ. -/
  | release_ (req : Fin 32) (queue : Fin 64)
  /-- QUEUE_ENABLE (R287). A write of EN 1 to a reception queue checks and activates it, or waits for a drain. -/
  | queueEnable (req : Fin 32) (queue : Fin 64) (cfg : Word)
  /-- QUEUE_DISABLE (R287). A write of EN 0 to a reception queue refuses new records and starts a drain. -/
  | queueDisable (req : Fin 32) (queue : Fin 64)
  /-- QUEUE_DRAIN_END (R287). A draining queue holds no record; ACTIVE clears and a waiting enable takes effect. -/
  | queueDrainEnd (queue : Fin 64)
  /-- POOL_ENABLE (R287). A write of EN 1 to a buffer pool activates it or waits for its drain. -/
  | poolEnable (req : Fin 32) (pool : Fin 16) (cfg : Word)
  /-- POOL_DISABLE (R287). A write of EN 0 makes a pool dry and starts its drain. -/
  | poolDisable (req : Fin 32) (pool : Fin 16)
  /-- POOL_DRAIN_END (R287). No record holds a pool's buffers; ACTIVE clears. -/
  | poolDrainEnd (pool : Fin 16)
  /-- POOL_STASH_READ (R287). A read of RQ_POOL_STASH of an inactive pool removes the top stashed buffer. -/
  | poolStashRead (req : Fin 32) (pool : Fin 16)
  /-- DRAM_REFRESH (R290). A bank's per-bank refresh falls due and is placed or forced. -/
  | dramRefresh (bank : Byte) (busy : Bool)
  /-- SENTINEL_SWEEP (R291). A temperature move of 10 °C triggers a sentinel sweep, with a full sweep on a large shift. -/
  | sentinelSweep (ch : Fin 2) (shift : Byte)
  /-- DONE_IDLE_TIMEOUT (R298). A waiting DONE gets no item within IDLE_WAIT and returns the calm word. -/
  | doneIdleTimeout (core : Fin 24)
  /-- LCK_FORCE_RELEASE (R302). A Keeper write of LCK_FORCE releases a token or all tokens of a core. -/
  | lckForceRelease (req : Fin 32) (value : Word)
  /-- ARBITER_GRANT (R304). An engine ready to accept is granted the oldest eligible request. -/
  | arbiterGrant (engine : Fin 3)
  /-- BACKOFF_EXPIRY (R305). A returned request becomes eligible again after its backoff. -/
  | backoffExpiry
  /-- SERVICE_COMPLETION (R306). An engine completes a command and the requester's COMPLETED advances in issue order. -/
  | serviceCompletion (engine : Fin 3)
  /-- SEQUENCE_CUT_OFF (R307). A locked sequence reaches its hold limit and is cut off with EV42. -/
  | sequenceCutOff (engine : Fin 3)
  /-- SEQUENCE_BREAK (R307). A write of ARB_CFG.BREAK cuts off every open sequence. -/
  | sequenceBreak (req : Fin 32)
  /-- SEAL (R322). Cipher SEAL takes a nonce value and encrypts and authenticates with CCM* or GCM. -/
  | seal (pipe : Fin 4)
  /-- OPEN (R315). Cipher OPEN authenticates and decrypts, zeroing output on AUTH_FAIL. -/
  | open_ (pipe : Fin 4)
  /-- ENC_RAW (R316). Cipher ENC_RAW encrypts each block on its own. -/
  | encRaw (pipe : Fin 4)
  /-- DEC_RAW (R316). Cipher DEC_RAW decrypts each block on its own. -/
  | decRaw (pipe : Fin 4)
  /-- CIPHER_IMPORT (R317). Cipher IMPORT rewraps a transport-wrapped key under the KEK. -/
  | cipherImport (pipe : Fin 4)
  /-- SHA256 (R318). Cipher SHA256 computes a digest. -/
  | sha256 (pipe : Fin 4)
  /-- CPH_INVAL (R312). A write of CPH_INVAL drops one or all unwrapped keys from the cache. -/
  | cphInval (req : Fin 32) (value : Word)
  /-- COUNTER_SETTLE (R341). A counter record evicted or stopped is settled to CEIL := NEXT. -/
  | counterSettle (n : BitVec 19)
  /-- LOADW (R324). KST LOADW unwraps a key under the KEK into a slot. -/
  | loadw (req : Fin 32) (long : Bool)
  /-- LOADP (R324). KST LOADP loads a plaintext key into a slot. -/
  | loadp (req : Fin 32) (long : Bool)
  /-- WRAP (R324). KST WRAP writes a slot's wrapped key to KST_DATA. -/
  | wrap (req : Fin 32) (long : Bool)
  /-- CLEAR (R324). KST CLEAR empties a slot. -/
  | kstClear (req : Fin 32) (long : Bool)
  /-- ARM (R327). KST ARM derives the KEK and clears DISARMED under a re-arm pass. -/
  | arm (req : Fin 32) (long : Bool)
  /-- WHITEOUT (R324). KST WHITEOUT raises alarm source FORCE. -/
  | whiteout (req : Fin 32) (long : Bool)
  /-- TAMPER_CHECK (R407). A tamper loop check drives and measures the loop and may raise an alarm. -/
  | tamperCheck (loop : Fin 2) (inside : Bool)
  /-- ALARM_RAISED (R325). An enabled alarm source latches and, while armed, starts whiteout. -/
  | alarmRaised (source : Fin 7) (active : Bool)
  /-- STORE_READ (R351). Ledger STORE_READ reads the persistent store. -/
  | storeRead
  /-- STORE_WRITE (R351). Ledger STORE_WRITE writes the persistent store in one entry. -/
  | storeWrite
  /-- COLD_READ (R351). Ledger COLD_READ reads a cold record. -/
  | coldRead
  /-- COLD_WRITE (R339). Ledger COLD_WRITE writes bytes 80 to 511 of a cold record. -/
  | coldWrite
  /-- CKPT (R338). Ledger CKPT checkpoints a handle now. -/
  | ckpt
  /-- EXPORT (R354). Ledger EXPORT writes a handover image and freezes counter records. -/
  | export_
  /-- LEDGER_IMPORT (R355). Ledger IMPORT checks a handover image and installs its contexts and counters. -/
  | ledgerImport
  /-- IMG_BEGIN (R351). Ledger IMG_BEGIN unmaps a firmware area. -/
  | imgBegin
  /-- IMG_WRITE (R351). Ledger IMG_WRITE writes a firmware page. -/
  | imgWrite
  /-- IMG_READ (R351). Ledger IMG_READ reads a firmware page. -/
  | imgRead
  /-- CAL_APPEND (R352). Ledger CAL_APPEND adds a calibration record. -/
  | calAppend
  /-- CAL_READ (R351). Ledger CAL_READ reads a calibration record. -/
  | calRead
  /-- AUD_APPEND (R352). Ledger AUD_APPEND stages the next audit entry. -/
  | audAppend
  /-- AUD_READ (R351). Ledger AUD_READ reads an audit entry. -/
  | audRead
  /-- KWRITE (R351). Ledger KWRITE writes module state or the calibration working set. -/
  | kwrite
  /-- KREAD (R351). Ledger KREAD reads module state or the calibration working set. -/
  | kread
  /-- JOURNAL_ENTRY_DURABLE (R333). A journal entry's SEAL is written and the entry becomes durable. -/
  | journalEntryDurable
  /-- JOURNAL_APPLY (R334). The engine applies durable entries in JSEQ order and advances APPLIED. -/
  | journalApply
  /-- CHECKPOINT (R338). The NAND lane writes a scheduled checkpoint of a context. -/
  | checkpoint (handle : BitVec 18)
  /-- NAND_PROGRAM_DONE (R331). A NAND program completes and its map entry is journaled, or the block is retired. -/
  | nandProgramDone (failed : Bool) (worst : Byte)
  /-- GARBAGE_COLLECT (R346). The ledger collects the block with the fewest valid pages to keep free blocks. -/
  | garbageCollect
  /-- WEAR_LEVEL_MOVE (R346). A spread of erase counts over 2,000 moves the least-erased block's data. -/
  | wearLevelMove
  /-- NAND_SCRUB (R347). Each valid NAND page is read within NAND_DAYS and relocated when needed. -/
  | nandScrub (page : Word)
  /-- MRAM_SCRUB (R349). Every MRAM_HOURS the ledger reads and rewrites MRAM groups, handling uncorrectable ones. -/
  | mramScrub
  /-- HOLDUP_FLUSH (R343). The hold-up flush seals the journal, copies the duty ring and takes the module through Off. -/
  | holdupFlush
  /-- POWER_REQUEST_NOW (R356). PWR_REQ OP 0b01 requests a power state for decision at once. -/
  | powerRequestNow (req : Fin 32) (target : Fin 8)
  /-- POWER_REQUEST_AT (R356). PWR_REQ OP 0b10 makes a power request pending until its NT. -/
  | powerRequestAt (req : Fin 32) (target : Fin 8)
  /-- POWER_REQUEST_CANCEL (R356). PWR_REQ OP 0b11 cancels a pending power request. -/
  | powerRequestCancel (req : Fin 32)
  /-- POWER_REQUEST_DUE (R356). A pending power request reaches its NT and is decided. -/
  | powerRequestDue
  /-- POWER_ENTRY_COMPLETE (R358). The drained entry finishes powering domains and starting functions, and EV53 pulses. -/
  | powerEntryComplete
  /-- POWER_ENTRY_DRAIN_TIMEOUT (R359). A drain or park exceeds DRAIN and the entry is aborted back. -/
  | powerEntryDrainTimeout
  /-- WAKE_REQUEST (R364). An enabled wake source in Vigil or Standby makes the Keeper enter WAKE_TO. -/
  | wakeRequest (source : Fin 6)
  /-- DVFS_CHANGE (R365). A change of operating point orders voltage and clock changes. -/
  | dvfsChange
  /-- THERMAL_CAP_STEP (R365). The thermal cap falls every 100 ms while hot or rises each second after cooling. -/
  | thermalCapStep
  /-- SUPPLY_TRANSACTION_START (R367). The supply bus starts the next waiting request by priority. -/
  | supplyTransactionStart
  /-- SUPPLY_ACK (R366). A supply request is acknowledged and the acknowledged level is set. -/
  | supplyAck
  /-- SUPPLY_NACK_RETRY (R367). A NACKed supply request repeats 20 µs later. -/
  | supplyNackRetry
  /-- SUPPLY_TIMEOUT (R367). A supply request not acknowledged within 500 µs completes FAULT with EV57. -/
  | supplyTimeout
  /-- POWER_DIE_START (R368). VIN at 8.8 V for 10 ms starts the power die and charges the bank. -/
  | powerDieStart
  /-- INPUT_LOSS (R368). Input loss pulses EV55 and sets RIDING. -/
  | inputLoss
  /-- INPUT_RETURN (R368). VIN back for 10 ms before a flush clears RIDING. -/
  | inputReturn
  /-- RIDE_EXPIRY (R368). RIDE passes or the bank falls below 45.0 V and the flush begins. -/
  | rideExpiry (bankLow : Bool)
  /-- COLD_START (R387). The module starts cold, the Keeper boot ROM runs and the module reaches Full. -/
  | coldStart (cause : Fin 3) (longLow : Bool)
  /-- ENABLE_LOW (R371). An acting low on ENABLE starts the orderly stop to Off. -/
  | enableLow
  /-- DETACH_REQUEST (R372). An acting low on DETACH_REQ# starts an orderly detach and opens the export window. -/
  | detachRequest
  /-- DETACH_GO (R372). A write of PWR_DETACH.GO closes the export window and finishes the detach. -/
  | detachGo (req : Fin 32)
  /-- DETACH_WAIT_EXPIRY (R372). DETACH_WAIT passes and the export window closes. -/
  | detachWaitExpiry
  /-- DETACH_CANCEL (R372). DETACH_REQ# high before the window closes aborts the detach. -/
  | detachCancel
  /-- MONITOR_SAMPLE (R374). A monitor sample crossing a limit sets its event bit, pulses EV56 and takes its action. -/
  | monitorSample (kind : Fin 3) (index : Byte) (value : BitVec 16)
  /-- LOCKSTEP_MISMATCH (R375). The Keeper halves differ and the snowplough begins. -/
  | lockstepMismatch
  /-- WATCHDOG_KICK (R376). A write of KPR_WDOG.KICK restarts the watchdog period. -/
  | watchdogKick
  /-- WATCHDOG_EXPIRY (R376). A watchdog period passes without a kick and the snowplough begins. -/
  | watchdogExpiry
  /-- DOORBELL_WRITE (R378). A write to the mailbox doorbell sets DOORBELL and interrupts the Keeper. -/
  | doorbellWrite (req : Fin 32) (value : DWord)
  /-- DOORBELL_ACK (R378). The Keeper writes 1 to KPR_STAT.DOORBELL to acknowledge it. -/
  | doorbellAck
  /-- DOORBELL_TIMEOUT (R377). A doorbell not acknowledged in 100 ms counts as Keeper failure. -/
  | doorbellTimeout
  /-- RESTART (R395). Keeper RESTART releases a control core held after a double fault. -/
  | kprRestart (slot : Fin 32)
  /-- WORK_START (R390). Keeper WORK_START releases the work cores at WD_ENTRY. -/
  | workStart (slot : Fin 32)
  /-- WARM (R391). Keeper WARM drains and restarts the control cores. -/
  | kprWarm (slot : Fin 32)
  /-- IMG_PAGES (R379). Keeper IMG_PAGES writes staged pages to the inactive area. -/
  | imgPages (slot : Fin 32)
  /-- IMG_ACTIVATE (R392). Keeper IMG_ACTIVATE verifies the inactive area, sets it on trial and restarts warm. -/
  | imgActivate (slot : Fin 32)
  /-- IMG_CONFIRM (R392). Keeper IMG_CONFIRM ends the trial and raises the floor. -/
  | imgConfirm (slot : Fin 32)
  /-- KEY_LOADW (R379). Keeper KEY_LOADW loads a wrapped key and stores its slot wrap. -/
  | keyLoadw (slot : Fin 32)
  /-- KEY_TRANSPORT (R379). Keeper KEY_TRANSPORT loads a plaintext transport key and stores its wrap. -/
  | keyTransport (slot : Fin 32)
  /-- KEY_CLEAR (R379). Keeper KEY_CLEAR empties a slot and its wrap. -/
  | keyClear (slot : Fin 32)
  /-- KEY_WRAP (R379). Keeper KEY_WRAP writes a slot's wrapped key to staging. -/
  | keyWrap (slot : Fin 32)
  /-- AUTH_KEY (R380). Keeper AUTH_KEY installs an Installer or Operator authority key. -/
  | authKey (slot : Fin 32)
  /-- REVOKE (R379). Keeper REVOKE raises an authority key's floor and ends affected slots. -/
  | revoke (slot : Fin 32)
  /-- REARM (R327). Keeper REARM re-arms the key store and reloads slots. -/
  | rearm (slot : Fin 32)
  /-- ALARM (R325). Keeper ALARM sets or clears alarm enables. -/
  | kprAlarm (slot : Fin 32)
  /-- CAL_SAVE (R379). Keeper CAL_SAVE saves a radio's calibration set. -/
  | calSave (slot : Fin 32)
  /-- PASS_LOAD (R381). PASS_CMD OP 0b01 starts a check of a lift pass for a slot. -/
  | passLoad (req : Fin 32) (slot : Fin 8)
  /-- PASS_VERIFY_DONE (R381). The verifier finishes a pass check and the slot becomes valid or the load fails. -/
  | passVerifyDone
  /-- PASS_RELEASE (R383). PASS_CMD OP 0b10 releases a pass slot. -/
  | passRelease (req : Fin 32) (slot : Fin 8)
  /-- PASS_SLOT_END (R383). A pass slot ends at its window or coarse limit and the tag drops. -/
  | passSlotEnd (slot : Fin 8)
  /-- TIME_FLOOR_WRITE (R382). The Keeper writes the time floor every 3,600 s while NT is fine. -/
  | timeFloorWrite
  /-- TRIAL_REVERT (R392). 600 s without confirm, or a third trial start, reverts the image. -/
  | trialRevert
  /-- SNOWPLOUGH_WAIT_EXPIRY (R396). The carrier does not act in 10 s and the power die cycles or latches FAULT#. -/
  | snowploughWaitExpiry
  /-- CORE_DOUBLE_FAULT (R395). The Keeper holds a double-faulted control core in reset and posts a message. -/
  | coreDoubleFault (core : Fin 24)
  /-- ALL_CORES_HELD_EXPIRY (R395). All four control cores held for 1 s makes the Keeper restart warm. -/
  | allCoresHeldExpiry
  /-- KPR_HOLD_WRITE (R390). A write of KPR_HOLD holds cores in reset or releases them at their start address. -/
  | kprHoldWrite (value : Word)
  /-- SERIAL_START (R410). PIN_SER_CMD OP 0b01 starts a serial descriptor. -/
  | serialStart (req : Fin 32) (unit : Fin 6)
  /-- SERIAL_ABORT (R410). PIN_SER_CMD OP 0b10 stops a serial transfer at the next byte. -/
  | serialAbort (req : Fin 32) (unit : Fin 6)
  /-- SERIAL_COMPLETE (R410). A serial descriptor finishes and writes XFER and STATUS. -/
  | serialComplete (unit : Fin 6) (data : List Byte) (failed : Bool) (moved : BitVec 16)
  /-- UART_BYTE_RX (R411). A UART byte enters its FIFO or is dropped. -/
  | uartByteRx (unit : Fin 2) (byte : Byte) (stop : Bool)
  /-- PIN_SER_RX_READ (R411). A read of PIN_SER_RX removes the oldest byte. -/
  | pinSerRxRead (req : Fin 32) (unit : Fin 2)
  /-- GPIO_SAMPLE (R411). Each AON cycle GPIO levels are sampled and changes set EDGE. -/
  | gpioSample (levels : Word)
  /-- EXTEST (R412). JTAG EXTEST drives boundary scan, refused while READY is high. -/
  | extest
  /-- IDCODE (R412). JTAG IDCODE selects the identification register. -/
  | idcode
  /-- SAMPLE_PRELOAD (R412). JTAG SAMPLE/PRELOAD samples boundary scan. -/
  | samplePreload (cells : Word)
  /-- BYPASS (R412). JTAG BYPASS and unlisted codes select bypass. -/
  | bypass (code : Byte)
  /-- IBLEK_DEBUG (R412). JTAG instruction 0x20 reaches the cores in the maintenance hold only. -/
  | iblekDebug (core : Fin 24) (halt : Bool)
  /-- REF10_ARRIVAL (R57). REF10 in becomes present and, with SRC 0b01, the time PLL moves to it within 1 µs. -/
  | ref10Arrival
  /-- NAND_ERASE_DONE (R348). A NAND block erase completes, freeing the block or reporting failure so the block is retired. -/
  | nandEraseDone (block : BitVec 14) (failed : Bool)
  /-- REBUILD_DONE (R349). A rebuild of the SID index or of the NAND map and block table finishes, and waiting lookups or returned NAND-lane commands proceed. -/
  | rebuildDone
  /-- BANK_CHARGED (R368). The charging hold-up bank rises to 45.0 V and BANK_OK becomes 1. -/
  | bankCharged
  /-- TEST_LOGIC_RESET (R412). A test-logic reset of the debug port selects IDCODE in the instruction register. -/
  | testLogicReset
  deriving DecidableEq, Repr

end Sys2Proof
end

