-- ==== Sys2Proof/Decode.lean ====
section
/-!
DEFINITION. Instruction words of the Iblek cores (R79, R80, R109): the command that a 32-bit word spells on a core, none for an
illegal one. No row of the opcode table has bits, so no table word spells a command (log entry 15).
-/
namespace Sys2Proof

/-- The command that a word spells by the table's bits: none, since no row gives bits. -/
def decodeTableWord (_nbits _w : Nat) : Option Instr := none

/-- Bits of a word, as a register number. -/
def wordReg (w lsb : Nat) : Fin 32 := Fin.ofNat 32 (w / 2 ^ lsb)
/-- rd, or the first register field of the B format and of a store. -/
def wordRd (w : Nat) : Fin 32 := wordReg w 21
/-- ra. -/
def wordRa (w : Nat) : Fin 32 := wordReg w 16
/-- rb. -/
def wordRb (w : Nat) : Fin 32 := wordReg w 11
/-- The 16-bit immediate or offset. -/
def wordImm (w : Nat) : BitVec 16 := BitVec.ofNat 16 w
/-- The 21-bit immediate or offset. -/
def wordImm21 (w : Nat) : BitVec 21 := BitVec.ofNat 21 w
/-- imm8 of an extension instruction. -/
def wordImm8 (w : Nat) : Byte := BitVec.ofNat 8 w
/-- A command, where a condition on fields that must be 0 holds. -/
def whenZero (b : Bool) (i : Instr) : Option Instr := if b then some i else none

/-- OP: three registers (Table 04-4), fn 0x000 to 0x00F. -/
def decodeOpLow (c : Fin 24) (w fn : Nat) : Option Instr :=
  let d := wordRd w
  let a := wordRa w
  let b := wordRb w
  match fn with
  | 0x00 => some (.add c d a b) | 0x01 => some (.sub c d a b) | 0x02 => some (.and_ c d a b) | 0x03 => some (.or_ c d a b)
  | 0x04 => some (.xor c d a b) | 0x05 => some (.slt c d a b) | 0x06 => some (.sltu c d a b) | 0x07 => some (.sll c d a b)
  | 0x08 => some (.srl c d a b) | 0x09 => some (.sra c d a b) | 0x0A => some (.ror c d a b) | 0x0B => some (.addw c d a b)
  | 0x0C => some (.subw c d a b) | 0x0D => some (.sllw c d a b) | 0x0E => some (.srlw c d a b) | 0x0F => some (.sraw c d a b)
  | _ => none

/-- OP, fn 0x010 upward; where rb is unused it must be 0 (R81). -/
def decodeOpHigh (c : Fin 24) (w fn : Nat) : Option Instr :=
  let d := wordRd w
  let a := wordRa w
  let b := wordRb w
  let z := b == 0
  match fn with
  | 0x10 => some (.mul c d a b) | 0x11 => some (.mulh c d a b) | 0x12 => some (.mulhu c d a b) | 0x13 => some (.mulhsu c d a b)
  | 0x14 => some (.div c d a b) | 0x15 => some (.divu c d a b) | 0x16 => some (.rem_ c d a b) | 0x17 => some (.remu c d a b)
  | 0x18 => some (.min c d a b) | 0x19 => some (.max c d a b) | 0x1A => some (.minu c d a b) | 0x1B => some (.maxu c d a b)
  | 0x1C => whenZero z (.clz c d a) | 0x1D => whenZero z (.ctz c d a) | 0x1E => whenZero z (.popc c d a)
  | 0x1F => whenZero z (.bswap c d a) | 0x20 => some (.selnz c d a b)
  | _ => none

/-- The I, U, J and B formats: op 0x02 to 0x15. -/
def decodeImm (c : Fin 24) (w op : Nat) : Option Instr :=
  let d := wordRd w
  let a := wordRa w
  let i := wordImm w
  match op with
  | 0x02 => some (.addi c d a i) | 0x03 => some (.andi c d a i) | 0x04 => some (.ori c d a i) | 0x05 => some (.xori c d a i)
  | 0x06 => some (.slti c d a i) | 0x07 => some (.sltiu c d a i) | 0x08 => some (.shi c d a i) | 0x09 => some (.addiw c d a i)
  | 0x0A => some (.lui c d (wordImm21 w)) | 0x0B => some (.auipc c d (wordImm21 w)) | 0x0C => some (.jal c d (wordImm21 w))
  | 0x0D => some (.jalr c d a i)
  | 0x10 => some (.beq c d a i) | 0x11 => some (.bne c d a i) | 0x12 => some (.blt c d a i) | 0x13 => some (.bge c d a i)
  | 0x14 => some (.bltu c d a i) | 0x15 => some (.bgeu c d a i)
  | _ => none

/-- Loads and stores (Table 04-5): op 0x18 to 0x27. -/
def decodeMem (c : Fin 24) (w op : Nat) : Option Instr :=
  let d := wordRd w
  let a := wordRa w
  let i := wordImm w
  match op with
  | 0x18 => some (.lb c d a i) | 0x19 => some (.lbu c d a i) | 0x1A => some (.lh c d a i) | 0x1B => some (.lhu c d a i)
  | 0x1C => some (.lw c d a i) | 0x1D => some (.lwu c d a i) | 0x1E => some (.ld c d a i)
  | 0x20 => some (.sb c d a i) | 0x21 => some (.sh c d a i) | 0x22 => some (.sw c d a i) | 0x23 => some (.sd c d a i)
  | 0x24 => some (.flw c d a i) | 0x25 => some (.fld c d a i) | 0x26 => some (.fsw c d a i) | 0x27 => some (.fsd c d a i)
  | _ => none

/-- ATOM (Table 04-7): fn[10:7] the operation, fn[6] the width, AQ, RL; fn[3:0] must be 0. -/
def decodeAtom (c : Fin 24) (w : Nat) : Option Instr :=
  let d := wordRd w
  let a := wordRa w
  let b := wordRb w
  let x := w.testBit 6
  let q := w.testBit 5
  let r := w.testBit 4
  if w % 16 ≠ 0 then none else
  match w / 2 ^ 7 % 16 with
  | 0x0 => some (.lr c d a x q r) | 0x1 => some (.sc c d a b x q r) | 0x2 => some (.swapAtomic c d a b x q r)
  | 0x3 => some (.aadd c d a b x q r) | 0x4 => some (.aand c d a b x q r) | 0x5 => some (.aor c d a b x q r)
  | 0x6 => some (.axor c d a b x q r) | 0x7 => some (.amin c d a b x q r) | 0x8 => some (.amax c d a b x q r)
  | 0x9 => some (.aminu c d a b x q r) | 0xA => some (.amaxu c d a b x q r) | 0xB => some (.cas c d a b x q r)
  | _ => none

/-- FOP (Table 04-8): fn[10:4] the operation, P, the rounding mode. -/
def decodeFop (c : Fin 24) (w : Nat) : Option Instr :=
  let d := wordRd w
  let a := wordRa w
  let b := wordRb w
  let p := w.testBit 3
  let m : Fin 8 := Fin.ofNat 8 w
  let z := b == 0
  match w / 2 ^ 4 % 128 with
  | 0 => some (.fadd c d a b p m) | 1 => some (.fsub c d a b p m) | 2 => some (.fmul c d a b p m) | 3 => some (.fdiv c d a b p m)
  | 4 => whenZero z (.fsqrt c d a p m) | 5 => some (.fmin c d a b p m) | 6 => some (.fmax c d a b p m)
  | 7 => some (.fsgnj c d a b p m) | 8 => some (.fsgnjn c d a b p m) | 9 => some (.fsgnjx c d a b p m)
  | 10 => some (.feq c d a b p m) | 11 => some (.flt c d a b p m) | 12 => some (.fle c d a b p m)
  | 13 => whenZero z (.fclass c d a p m) | 14 => whenZero z (.fcvtFI c d a p m) | 15 => whenZero z (.fcvtFIu c d a p m)
  | 16 => whenZero z (.fcvtIF c d a p m) | 17 => whenZero z (.fcvtIuF c d a p m) | 18 => whenZero z (.fcvtP c d a p m)
  | 19 => whenZero z (.fmvIF c d a p m) | 20 => whenZero z (.fmvFI c d a p m)
  | _ => none

/-- FMADD to FNMSUB: the F format, bits [1:0] being 0. -/
def decodeFma (c : Fin 24) (w op : Nat) : Option Instr :=
  let d := wordRd w
  let a := wordRa w
  let b := wordRb w
  let x := wordReg w 6
  let m : Fin 8 := Fin.ofNat 8 (w / 8)
  let p := w.testBit 2
  let z := decide (w % 4 = 0)
  match op with
  | 0x31 => whenZero z (.fmadd c d a b x p m) | 0x32 => whenZero z (.fmsub c d a b x p m)
  | 0x33 => whenZero z (.fnmadd c d a b x p m) | 0x34 => whenZero z (.fnmsub c d a b x p m)
  | _ => none

/-- SYS (Table 04-10): imm16[15:12] the sub-operation. -/
def decodeSys (c : Fin 24) (w : Nat) : Option Instr :=
  let d := wordRd w
  let a := wordRa w
  let sr : BitVec 12 := BitVec.ofNat 12 w
  let bare := d == 0 && a == 0
  let z := bare && decide (w % 2 ^ 12 = 0)
  let z8 := bare && decide (w / 2 ^ 8 % 16 = 0)
  match w / 2 ^ 12 % 16 with
  | 0 => some (.srswap c d a sr) | 1 => some (.srset c d a sr) | 2 => some (.srclr c d a sr)
  | 4 => whenZero z (.ecall c) | 5 => whenZero z (.ebreak c) | 6 => whenZero z (.eret c) | 7 => whenZero z (.wfi c)
  | 8 => whenZero z8 (.fence c (BitVec.ofNat 4 (w / 16)) (BitVec.ofNat 4 w)) | 9 => whenZero z8 (.isync c)
  | 10 => some (.tlbinv c d a (Fin.ofNat 4 w))
  | _ => none

/-- TIMED (Table 04-15). The operation of RCMD is the OP of its record. -/
def decodeTimed (c : Fin 24) (w : Nat) : Option Instr :=
  let d := wordRd w
  let a := wordRa w
  let b := wordRb w
  let i := wordImm8 w
  match w / 2 ^ 8 % 8 with
  | 0 => whenZero (a == 0 && b == 0) (.ntrd c d i)
  | 1 => whenZero (d == 0 && b == 0 && i == 0) (.waitnt c a)
  | 2 => whenZero (d == 0 && b == 0 && i == 0) (.attick c a)
  | 3 => whenZero (d == 0 && b == 0) (.evtrig c a i)
  | 4 => whenZero (a == 0 && b == 0) (.evwait c d i)
  | 5 => some (.tx c d a b i)
  | _ => none

/-- WORK, LOCK and SVC (Table 04-15). -/
def decodeExt (c : Fin 24) (w op : Nat) : Option Instr :=
  let d := wordRd w
  let a := wordRa w
  let b := wordRb w
  let i := wordImm8 w
  match op, w / 2 ^ 8 % 8 with
  | 0x39, 0 => whenZero (b == 0 && i == 0) (.wdDone c d a)
  | 0x39, 1 => whenZero (b == 0) (.post_ c d a i)
  | 0x3A, 0 => whenZero (a == 0 && b == 0) (.lckTake c d i)
  | 0x3A, 1 => whenZero (a == 0 && b == 0) (.lckGive c d i)
  | 0x3A, 2 => whenZero (b == 0 && i == 0) (.takev c d a)
  | 0x3A, 3 => whenZero (b == 0 && i == 0) (.givev c d a)
  | 0x3B, 0 => some (.svc c d a b i)
  | _, _ => none

/-- The command that a 32-bit word spells when core c fetches it (R79, Table 04-3); none where its major opcode is reserved, its
fn or sub-operation is not listed, or a field that must be 0 is not (R80). Operand values that make a listed word illegal, and
parts that a core lacks, are the business of the command's meaning. -/
def decodeIblek (c : Fin 24) (w : Nat) : Option Instr :=
  let op := w / 2 ^ 26 % 64
  if op = 0x01 then (if w % 2 ^ 11 < 0x10 then decodeOpLow c w (w % 2 ^ 11) else decodeOpHigh c w (w % 2 ^ 11))
  else if op ≤ 0x15 then decodeImm c w op
  else if op ≤ 0x27 then decodeMem c w op
  else if op = 0x28 then decodeAtom c w
  else if op = 0x2F then decodeSys c w
  else if op = 0x30 then decodeFop c w
  else if op ≤ 0x34 then decodeFma c w op
  else if op = 0x38 then decodeTimed c w
  else decodeExt c w op

end Sys2Proof
end

