-- ==== Sys2Proof/Machine/Bits.lean ====
section
/-!
DEFINITION. Bit fields, sign extension and byte order (R9, R10), over numbers and words.
-/
namespace Sys2Proof.Machine

/-- Bits [msb:lsb] of a word, as a number. -/
def getBits (w : Word) (msb lsb : Nat) : Nat := (w.toNat >>> lsb) % 2 ^ (msb + 1 - lsb)

/-- The word with bits [msb:lsb] replaced by the low bits of x. -/
def setBits (w : Word) (msb lsb x : Nat) : Word :=
  let m : Word := (BitVec.ofNat 32 (2 ^ (msb + 1 - lsb) - 1)) <<< lsb
  (w &&& ~~~m) ||| ((BitVec.ofNat 32 x <<< lsb) &&& m)

/-- Bits [hi:lo] of a number. -/
def bitsOf (n hi lo : Nat) : Nat := (n >>> lo) % 2 ^ (hi + 1 - lo)

/-- Bit i of a number. -/
def bitOf (n i : Nat) : Bool := n.testBit i

/-- A number of w bits read as two's complement. -/
def sgn (w n : Nat) : Int := if n % 2 ^ w < 2 ^ (w - 1) then (n % 2 ^ w : Nat) else ((n % 2 ^ w : Nat) : Int) - (2 ^ w : Nat)

/-- An integer as a two's complement number of w bits. -/
def unsgn (w : Nat) (i : Int) : Nat := (i % ((2 ^ w : Nat) : Int)).toNat

/-- Bytes, least significant first, as a number (R10). -/
def leNat : List Byte → Nat
  | [] => 0
  | b :: bs => b.toNat + 256 * leNat bs

/-- The low n bytes of a number, least significant first (R10). -/
def leBytes : Nat → Nat → List Byte
  | 0, _ => []
  | n + 1, v => BitVec.ofNat 8 v :: leBytes n (v / 256)

/-- Bytes, most significant first, as a number. -/
def beNat (bs : List Byte) : Nat := leNat bs.reverse

/-- The low n bytes of a number, most significant first. -/
def beBytes (n v : Nat) : List Byte := (leBytes n v).reverse

/-- 1 for true. -/
def b2n (b : Bool) : Nat := if b then 1 else 0

/-- Add to a counter that stops at its largest value. -/
def satAdd (max n d : Nat) : Nat := if n + d ≤ max then n + d else max

end Sys2Proof.Machine
end

