-- ==== Sys2Proof/Machine/Crypto.lean ====
section
/-!
DEFINITION. The published algorithms the chapters name: AES, CCM*, GCM, the RFC 3394 key wrap, SHA-256, CRC-32, CRC-16 and
ECDSA P-256 verification (R36, R174, R310, R315 to R318, R381).
-/
namespace Sys2Proof.Machine

/-! ## Bytes -/

/-- XOR of two byte lists, as long as the shorter. -/
def xorBytes (a b : List Byte) : List Byte := List.zipWith (fun x y => x ^^^ y) a b
/-- The first n bytes, padded with zeros. -/
def padTo (n : Nat) (l : List Byte) : List Byte := l.take n ++ List.replicate (n - l.length) 0
/-- Cut a list into pieces of n, at most k of them. -/
def chunks (n : Nat) : Nat → List Byte → List (List Byte)
  | 0, _ => []
  | k + 1, l => if l.isEmpty then [] else l.take n :: chunks n k (l.drop n)
/-- Blocks of 16 bytes, the last one as long as it is. -/
def blocks16 (l : List Byte) : List (List Byte) := chunks 16 (l.length / 16 + 1) l

/-! ## AES (FIPS 197) -/

/-- The S-box, entry x at bits 8x. -/
def aesSboxes : Nat := 0x16bb54b00f2d99416842e6bf0d89a18cdf2855cee9871e9b948ed9691198f8e19e1dc186b95735610ef6034866b53e708a8bbd4b1f74dde8c6b4a61c2e2578ba08ae7a65eaf4566ca94ed58d6d37c8e779e4959162acd3c25c2406490a3a32e0db0b5ede14b8ee4688902a22dc4f816073195d643d7ea7c41744975fec130ccdd2f3ff1021dab6bcf5389d928f40a351a89f3c507f02f94585334d43fbaaefd0cf584c4a39becb6a5bb1fc20ed00d153842fe329b3d63b52a05a6e1b1a2c830975b227ebe28012079a059618c323c7041531d871f1e5a534ccf73f362693fdb7c072a49cafa2d4adf04759fa7dc982ca76abd7fe2b670130c56f6bf27b777c63
/-- The inverse S-box. -/
def aesInvSboxes : Nat := 0x7d0c2155631469e126d677ba7e042b17619953833cbbebc8b0f52aae4d3be0a0ef9cc9939f7ae52d0d4ab519a97f51605fec8027591012b131c7078833a8dd1ff45acd78fec0db9a2079d2c64b3e56fc1bbe18aa0e62b76f89c5291d711af1476edf751ce837f9e28535ade72274ac9673e6b4f0cecff297eadc674f4111913a6b8a130103bdafc1020f3fca8f1e2cd00645b3b80558e4f70ad3bc8c00abd890849d8da75746155edab9edfd5048706c92b6655dcc5ca4d41698688664f6f87225d18b6d49a25b76b224d92866a12e084ec3fa420b954cee3d23c2a632947b54cbe9dec444438e3487ff2f9b8239e37cfbd7f3819ea340bf38a53630d56a0952
/-- S-box of a byte. -/
def aesSbox (x : Byte) : Byte := BitVec.ofNat 8 (aesSboxes >>> (8 * x.toNat))
/-- Inverse S-box of a byte. -/
def aesInvSbox (x : Byte) : Byte := BitVec.ofNat 8 (aesInvSboxes >>> (8 * x.toNat))
/-- Multiplication by x in GF(2^8). -/
def xtime (a : Byte) : Byte := (a <<< 1) ^^^ (if a.getLsbD 7 then 0x1B else 0)
/-- Multiplication in GF(2^8) by a constant below 16. -/
def gfMul (k : Nat) (a : Byte) : Byte :=
  (if k.testBit 0 then a else 0) ^^^ (if k.testBit 1 then xtime a else 0) ^^^
  (if k.testBit 2 then xtime (xtime a) else 0) ^^^ (if k.testBit 3 then xtime (xtime (xtime a)) else 0)

/-- Byte i of a list, 0 past its end. -/
def byteAt (l : List Byte) (i : Nat) : Byte := (l[i]?).getD 0

/-- One more word of the key schedule: word i of a key of nk words. -/
def aesNextWord (nk i : Nat) (prev old : List Byte) (rcon : Byte) : List Byte :=
  let t :=
    if i % nk = 0 then
      xorBytes ((prev.drop 1 ++ prev.take 1).map aesSbox) [rcon, 0, 0, 0]
    else if nk = 8 ∧ i % 8 = 4 then prev.map aesSbox
    else prev
  xorBytes old t

/-- Extend a key schedule, newest word first, by n words. -/
def aesExpand (nk : Nat) : Nat → Nat → Byte → List (List Byte) → List (List Byte)
  | 0, _, _, ws => ws
  | n + 1, i, rcon, ws =>
    let w := aesNextWord nk i (ws.headD []) ((ws[nk - 1]?).getD []) rcon
    aesExpand nk n (i + 1) (if i % nk = 0 then xtime rcon else rcon) (w :: ws)

/-- The round keys of a 16- or 32-byte key. -/
def aesRoundKeys (key : List Byte) : List (List Byte) :=
  let nk := key.length / 4
  let total := 4 * (nk + 7)
  let ws := aesExpand nk (total - nk) nk 1 (chunks 4 nk key).reverse
  chunks 16 (nk + 7) ws.reverse.flatten

/-- ShiftRows: byte r + 4c comes from column c + r. -/
def shiftRows (s : List Byte) : List Byte :=
  (List.range 16).map (fun i => byteAt s (i % 4 + 4 * ((i / 4 + i % 4) % 4)))
/-- The inverse of ShiftRows. -/
def invShiftRows (s : List Byte) : List Byte :=
  (List.range 16).map (fun i => byteAt s (i % 4 + 4 * ((i / 4 + 4 - i % 4) % 4)))
/-- A column mix with the first row of the matrix. -/
def mixWith (k0 k1 k2 k3 : Nat) (s : List Byte) : List Byte :=
  (List.range 16).map (fun i =>
    let c := 4 * (i / 4)
    let r := i % 4
    gfMul k0 (byteAt s (c + r)) ^^^ gfMul k1 (byteAt s (c + (r + 1) % 4)) ^^^
    gfMul k2 (byteAt s (c + (r + 2) % 4)) ^^^ gfMul k3 (byteAt s (c + (r + 3) % 4)))

/-- The rounds of an encryption after the first key. -/
def aesRounds : List (List Byte) → List Byte → List Byte
  | [], s => s
  | [k], s => xorBytes (shiftRows (s.map aesSbox)) k
  | k :: ks, s => aesRounds ks (xorBytes (mixWith 2 3 1 1 (shiftRows (s.map aesSbox))) k)

/-- Encrypt one block. -/
def aesEnc (key blk : List Byte) : List Byte :=
  match aesRoundKeys key with
  | [] => blk
  | k :: ks => aesRounds ks (xorBytes (padTo 16 blk) k)

/-- The rounds of a decryption after the last key. -/
def aesInvRounds : List (List Byte) → List Byte → List Byte
  | [], s => s
  | [k], s => xorBytes ((invShiftRows s).map aesInvSbox) k
  | k :: ks, s => aesInvRounds ks (mixWith 14 11 13 9 (xorBytes ((invShiftRows s).map aesInvSbox) k))

/-- Decrypt one block. -/
def aesDec (key blk : List Byte) : List Byte :=
  match (aesRoundKeys key).reverse with
  | [] => blk
  | k :: ks => aesInvRounds ks (xorBytes (padTo 16 blk) k)

/-! ## CCM* (SP 800-38C, L = 2) and GCM (SP 800-38D) -/

/-- CBC-MAC of whole blocks. -/
def cbcMac (key : List Byte) (x : List Byte) : List (List Byte) → List Byte
  | [] => x
  | b :: bs => cbcMac key (aesEnc key (xorBytes x (padTo 16 b))) bs

/-- The encoded length of the associated data. -/
def ccmAdLen (n : Nat) : List Byte :=
  if n = 0 then [] else if n < 65280 then beBytes 2 n else [0xFF, 0xFE] ++ beBytes 4 n

/-- The CCM tag before encryption. -/
def ccmMac (key nonce hdr msg : List Byte) (m : Nat) : List Byte :=
  let flags := 64 * b2n (!hdr.isEmpty) + 8 * ((m - 2) / 2) + 1
  let b0 := BitVec.ofNat 8 flags :: nonce ++ beBytes 2 msg.length
  cbcMac key (List.replicate 16 0) (b0 :: blocks16 (ccmAdLen hdr.length ++ hdr) ++ blocks16 msg)

/-- Key-stream block i of CCM. -/
def ccmStream (key nonce : List Byte) (i : Nat) : List Byte := aesEnc key ((1 : Byte) :: nonce ++ beBytes 2 i)

/-- XOR blocks with the key stream from block i on. -/
def ctrXor (stream : Nat → List Byte) : Nat → List (List Byte) → List Byte
  | _, [] => []
  | i, b :: bs => xorBytes b (stream i) ++ ctrXor stream (i + 1) bs

/-- CCM* encryption: ciphertext and tag of m bytes. -/
def ccmSeal (key nonce hdr msg : List Byte) (m : Nat) : List Byte × List Byte :=
  (ctrXor (ccmStream key nonce) 1 (blocks16 msg), xorBytes ((ccmMac key nonce hdr msg m).take m) (ccmStream key nonce 0))

/-- CCM* decryption: the plaintext, or none where the tag differs. -/
def ccmOpen (key nonce hdr ct tag : List Byte) (m : Nat) : Option (List Byte) :=
  let pt := ctrXor (ccmStream key nonce) 1 (blocks16 ct)
  if xorBytes ((ccmMac key nonce hdr pt m).take m) (ccmStream key nonce 0) = tag then some pt else none

/-- One step of the GF(2^128) product of GHASH: bits of x from the most significant, n left, v the running multiple. -/
def gf128 (x : Nat) : Nat → Nat → Nat → Nat
  | 0, z, _ => z
  | n + 1, z, v =>
    gf128 x n (if x.testBit n then z ^^^ v else z) (if v.testBit 0 then (v >>> 1) ^^^ (0xE1 <<< 120) else v >>> 1)

/-- GHASH over blocks. -/
def ghash (h : Nat) (y : Nat) : List (List Byte) → Nat
  | [] => y
  | b :: bs => ghash h (gf128 (y ^^^ beNat (padTo 16 b)) 128 0 h) bs

/-- Counter block i of GCM with a 12-byte IV; block 1 is J0. -/
def gcmStream (key iv : List Byte) (i : Nat) : List Byte := aesEnc key (iv ++ beBytes 4 i)

/-- The GCM tag of a ciphertext. -/
def gcmTag (key iv hdr ct : List Byte) (m : Nat) : List Byte :=
  let h := beNat (aesEnc key (List.replicate 16 0))
  let y := ghash h 0 (blocks16 hdr ++ blocks16 ct ++ [beBytes 8 (8 * hdr.length) ++ beBytes 8 (8 * ct.length)])
  (xorBytes (beBytes 16 y) (gcmStream key iv 1)).take m

/-- GCM encryption. -/
def gcmSeal (key iv hdr msg : List Byte) (m : Nat) : List Byte × List Byte :=
  let ct := ctrXor (gcmStream key iv) 2 (blocks16 msg)
  (ct, gcmTag key iv hdr ct m)

/-- GCM decryption. -/
def gcmOpen (key iv hdr ct tag : List Byte) (m : Nat) : Option (List Byte) :=
  if gcmTag key iv hdr ct m = tag then some (ctrXor (gcmStream key iv) 2 (blocks16 ct)) else none

/-! ## Key wrap (RFC 3394) -/

/-- The default initial value. -/
def wrapIv : List Byte := List.replicate 8 0xA6

/-- One pass of wrapping over the registers, t counting from t0. -/
def wrapPass (kek : List Byte) : List Byte → Nat → List (List Byte) → List Byte × List (List Byte)
  | a, _, [] => (a, [])
  | a, t, r :: rs =>
    let b := aesEnc kek (a ++ r)
    let (a', rs') := wrapPass kek (xorBytes (b.take 8) (beBytes 8 t)) (t + 1) rs
    (a', b.drop 8 :: rs')

/-- Six passes, k done. -/
def wrapPasses (kek : List Byte) (n : Nat) : Nat → Nat → List Byte × List (List Byte) → List Byte × List (List Byte)
  | 0, _, x => x
  | k + 1, t, (a, rs) => wrapPasses kek n k (t + n) (wrapPass kek a t rs)

/-- Wrap a plaintext of 8n bytes. -/
def keyWrap (kek plain : List Byte) : List Byte :=
  let n := plain.length / 8
  let (a, rs) := wrapPasses kek n 6 1 (wrapIv, chunks 8 n plain)
  a ++ rs.flatten

/-- One pass of unwrapping, registers last first, t counting down. -/
def unwrapPass (kek : List Byte) : List Byte → Nat → List (List Byte) → List Byte × List (List Byte)
  | a, _, [] => (a, [])
  | a, t, r :: rs =>
    let b := aesDec kek (xorBytes a (beBytes 8 t) ++ r)
    let (a', rs') := unwrapPass kek (b.take 8) (t - 1) rs
    (a', b.drop 8 :: rs')

/-- Six passes of unwrapping. -/
def unwrapPasses (kek : List Byte) (n : Nat) : Nat → Nat → List Byte × List (List Byte) → List Byte × List (List Byte)
  | 0, _, x => x
  | k + 1, t, (a, rs) => unwrapPasses kek n k (t - n) (unwrapPass kek a t rs)

/-- Unwrap; none where the integrity check fails. -/
def keyUnwrap (kek wrapped : List Byte) : Option (List Byte) :=
  let n := wrapped.length / 8 - 1
  let (a, rs) := unwrapPasses kek n 6 (6 * n) (wrapped.take 8, (chunks 8 n (wrapped.drop 8)).reverse)
  if a = wrapIv then some rs.reverse.flatten else none

/-! ## SHA-256 (FIPS 180-4) -/

/-- The 64 round constants, constant i at bits 32i. -/
def shaK : Nat := 0xc67178f2bef9a3f7a4506ceb90befffa8cc7020884c8781478a5636f748f82ee682e6ff35b9cca4f4ed8aa4a391c0cb334b0bcb52748774c1e376c0819a4c116106aa070f40e3585d6990624d192e819c76c51a3c24b8b70a81a664ba2bfe8a192722c8581c2c92e766a0abb650a735453380d134d2c6dfc2e1b213827b70a851429296706ca6351d5a79147c6e00bf3bf597fc7b00327c8a831c66d983e515276f988da5cb0a9dc4a7484aa2de92c6f240ca1cc0fc19dc6efbe4786e49b69c1c19bf1749bdc06a780deb1fe72be5d74550c7dc3243185be12835b01d807aa98ab1c5ed5923f82a459f111f13956c25be9b5dba5b5c0fbcf71374491428a2f98
/-- The initial hash, word i at bits 32i. -/
def shaH0 : Nat := 0x5be0cd191f83d9ab9b05688c510e527fa54ff53a3c6ef372bb67ae856a09e667
/-- Word i of a packed list of 32-bit words. -/
def word32 (n i : Nat) : Word := BitVec.ofNat 32 (n >>> (32 * i))

/-- The message schedule, newest word first, extended by n words. -/
def shaSchedule : Nat → List Word → List Word
  | 0, ws => ws
  | n + 1, ws =>
    let g (i : Nat) : Word := (ws[i]?).getD 0
    let s0 := (g 14).rotateRight 7 ^^^ (g 14).rotateRight 18 ^^^ (g 14 >>> 3)
    let s1 := (g 1).rotateRight 17 ^^^ (g 1).rotateRight 19 ^^^ (g 1 >>> 10)
    shaSchedule n ((g 15 + s0 + g 6 + s1) :: ws)

/-- The eight working variables. -/
structure ShaVars where
  a : Word
  b : Word
  c : Word
  d : Word
  e : Word
  f : Word
  g : Word
  h : Word
  deriving DecidableEq, Repr

/-- One round. -/
def shaRound (v : ShaVars) (k w : Word) : ShaVars :=
  let s1 := v.e.rotateRight 6 ^^^ v.e.rotateRight 11 ^^^ v.e.rotateRight 25
  let t1 := v.h + s1 + ((v.e &&& v.f) ^^^ (~~~v.e &&& v.g)) + k + w
  let s0 := v.a.rotateRight 2 ^^^ v.a.rotateRight 13 ^^^ v.a.rotateRight 22
  let t2 := s0 + ((v.a &&& v.b) ^^^ (v.a &&& v.c) ^^^ (v.b &&& v.c))
  ⟨t1 + t2, v.a, v.b, v.c, v.d + t1, v.e, v.f, v.g⟩

/-- The rounds over a schedule from constant i on. -/
def shaRounds : Nat → List Word → ShaVars → ShaVars
  | _, [], v => v
  | i, w :: ws, v => shaRounds (i + 1) ws (shaRound v (word32 shaK i) w)

/-- One block of 64 bytes. -/
def shaBlock (v : ShaVars) (blk : List Byte) : ShaVars :=
  let ws := (chunks 4 16 blk).map (fun b => BitVec.ofNat 32 (beNat b))
  let r := shaRounds 0 (shaSchedule 48 ws.reverse).reverse v
  ⟨v.a + r.a, v.b + r.b, v.c + r.c, v.d + r.d, v.e + r.e, v.f + r.f, v.g + r.g, v.h + r.h⟩

/-- The digest of some bytes. -/
def sha256 (m : List Byte) : List Byte :=
  let zeros := (119 - m.length % 64) % 64
  let padded := m ++ (0x80 : Byte) :: List.replicate zeros 0 ++ beBytes 8 (8 * m.length)
  let h (i : Nat) : Word := word32 shaH0 i
  let v := (chunks 64 (padded.length / 64) padded).foldl shaBlock ⟨h 0, h 1, h 2, h 3, h 4, h 5, h 6, h 7⟩
  ([v.a, v.b, v.c, v.d, v.e, v.f, v.g, v.h].map (fun w => beBytes 4 w.toNat)).flatten

/-! ## CRCs (R36, R174) -/

/-- Reflected CRC of one byte: n bits left. -/
def crcBits (poly : Nat) : Nat → Nat → Nat
  | 0, c => c
  | n + 1, c => crcBits poly n (if c % 2 = 1 then (c >>> 1) ^^^ poly else c >>> 1)
/-- Reflected CRC over bytes. -/
def crcReflected (poly init : Nat) (l : List Byte) : Nat :=
  l.foldl (fun c b => crcBits poly 8 (c ^^^ b.toNat)) init
/-- CRC-32 of IEEE 802.3. -/
def crc32 (l : List Byte) : Nat := crcReflected 0xEDB88320 0xFFFFFFFF l ^^^ 0xFFFFFFFF
/-- The CRC-16 FCS of Table 07-2. -/
def crc16Fcs (l : List Byte) : Nat := crcReflected 0x8408 0 l

/-! ## ECDSA over P-256 with SHA-256 -/

/-- The field prime. -/
def p256p : Nat := 0xFFFFFFFF00000001000000000000000000000000FFFFFFFFFFFFFFFFFFFFFFFF
/-- The group order. -/
def p256n : Nat := 0xFFFFFFFF00000000FFFFFFFFFFFFFFFFBCE6FAADA7179E84F3B9CAC2FC632551
/-- The curve's b. -/
def p256b : Nat := 0x5AC635D8AA3A93E7B3EBBD55769886BC651D06B0CC53B0F63BCE3C3E27D2604B
/-- The base point. -/
def p256g : Nat × Nat :=
  (0x6B17D1F2E12C4247F8BCE6E563A440F277037D812DEB33A0F4A13945D898C296,
   0x4FE342E2FE1A7F9B8EE7EB4A7C0F9E162BCE33576B315ECECBB6406837BF51F5)

/-- x^e mod m by the n low bits of e. -/
def powMod (m : Nat) : Nat → Nat → Nat → Nat
  | 0, _, _ => 1
  | n + 1, x, e => (if e % 2 = 1 then x else 1) * powMod m n (x * x % m) (e / 2) % m
/-- The inverse modulo a prime. -/
def invMod (m x : Nat) : Nat := powMod m 256 (x % m) (m - 2)

/-- A point of the curve in Jacobian coordinates; z = 0 is the point at infinity. -/
structure EcPoint where
  x : Nat
  y : Nat
  z : Nat
  deriving DecidableEq, Repr

/-- a − b modulo p. -/
def fsub (a b : Nat) : Nat := (a + p256p - b % p256p) % p256p

/-- Twice a point. -/
def ecDouble (q : EcPoint) : EcPoint :=
  let yy := q.y * q.y % p256p
  let s := 4 * q.x * yy % p256p
  let zz := q.z * q.z % p256p
  let m := 3 * fsub q.x zz * (q.x + zz) % p256p
  let x := fsub (m * m) (2 * s)
  ⟨x, fsub (m * fsub s x) (8 * yy * yy), 2 * q.y * q.z % p256p⟩

/-- The sum of two points. -/
def ecAdd (q r : EcPoint) : EcPoint :=
  if q.z = 0 then r else if r.z = 0 then q else
  let zq := q.z * q.z % p256p
  let zr := r.z * r.z % p256p
  let u1 := q.x * zr % p256p
  let u2 := r.x * zq % p256p
  let s1 := q.y * zr * r.z % p256p
  let s2 := r.y * zq * q.z % p256p
  let h := fsub u2 u1
  let d := fsub s2 s1
  if h = 0 then (if d = 0 then ecDouble q else ⟨1, 1, 0⟩) else
  let h2 := h * h % p256p
  let h3 := h2 * h % p256p
  let v := u1 * h2 % p256p
  let x := fsub (fsub (d * d) h3) (2 * v)
  ⟨x, fsub (d * fsub v x) (s1 * h3), h * q.z * r.z % p256p⟩

/-- k times a point, by the n low bits of k. -/
def ecMul : Nat → Nat → EcPoint → EcPoint
  | 0, _, _ => ⟨1, 1, 0⟩
  | n + 1, k, q => let r := ecMul n (k / 2) (ecDouble q); if k % 2 = 1 then ecAdd q r else r

/-- The point lies on the curve and is not at infinity. -/
def onCurve (x y : Nat) : Bool :=
  decide (x < p256p) && decide (y < p256p) && y * y % p256p == (x * x * x + p256p * 3 * x - 3 * x + p256b) % p256p

/-- The signature (r, s) of a digest verifies under a public key. -/
def ecdsaVerify (pub : Nat × Nat) (digest : List Byte) (r s : Nat) : Bool :=
  if !onCurve pub.1 pub.2 || r = 0 || p256n ≤ r || s = 0 || p256n ≤ s then false else
  let w := invMod p256n s
  let u1 := beNat digest * w % p256n
  let u2 := r * w % p256n
  let q := ecAdd (ecMul 256 u1 ⟨p256g.1, p256g.2, 1⟩) (ecMul 256 u2 ⟨pub.1, pub.2, 1⟩)
  if q.z = 0 then false
  else
    let zi := invMod p256p q.z
    q.x * (zi * zi % p256p) % p256p % p256n == r

end Sys2Proof.Machine
end

