-- ==== Sys2Proof/Machine/RegSpec.lean ====
section
/-!
DEFINITION. The form of a register description (R12 to R15): a register, its fields, and a place inside one.
-/
namespace Sys2Proof.Machine

/-- Field type codes (Table 00-4). -/
inductive FTy where
  | rw | ro | wo | w1c | w1s | rc | rws
  deriving DecidableEq, Repr

/-- Where a field's reset value comes from (R14): the table, the non-volatile settings, the maker record, or
nowhere (undefined until written). -/
inductive FSrc where
  | fixed | nv | maker | undef
  deriving DecidableEq, Repr

/-- One row of a register table. Rights are a mask: 1 O, 2 I, 4 M, 8 K (R15). -/
structure FieldSpec where
  name   : String
  msb    : Nat
  lsb    : Nat
  ty     : FTy
  reset  : Nat
  src    : FSrc
  rights : Nat
  deriving DecidableEq, Repr

/-- A register of a block: its offset, up to two index dimensions (count and stride), whether only instance 0
of the block has it, and its fields; bits in no row are reserved (R11). -/
structure RegSpec where
  name   : String
  off    : Nat
  n1     : Nat
  s1     : Nat
  n2     : Nat
  s2     : Nat
  only0  : Bool
  fields : List FieldSpec
  deriving DecidableEq, Repr

/-- A place in a register: its physical address and bit range. -/
structure FRef where
  addr : Nat
  msb  : Nat
  lsb  : Nat
  deriving DecidableEq, Repr

/-- Row constructor used by the tables. -/
def fd (name : String) (msb lsb : Nat) (ty : FTy) (reset : Nat) (src : FSrc) (rights : Nat) : FieldSpec :=
  ⟨name, msb, lsb, ty, reset, src, rights⟩

end Sys2Proof.Machine
end

