-- ==== Sys2Proof/Machine/RegTableA.lean ====
section
/-!
DEFINITION. The register tables of the spec for the map entries hit, swap, nt, tsel, se: one row a register
(offset, instances, fields with type, reset value and rights), R12 to R15, R39, R52.
-/
namespace Sys2Proof.Machine.RegTable
open Sys2Proof.Machine

/-- HIT_ID (Table 02-3). -/
def hit_HIT_ID : RegSpec :=
  ⟨"HIT_ID", 0x0, 1, 0x0, 1, 0x0, false,
   [fd "PART" 31 16 .ro 0x3048 .fixed 0, fd "STEPPING" 15 8 .ro 0xb1 .fixed 0, fd "MAP_VERSION" 7 0 .ro 0x1 .fixed 0]⟩
/-- HIT_TABLE (Table 02-4). -/
def hit_HIT_TABLE : RegSpec :=
  ⟨"HIT_TABLE", 0x4, 1, 0x0, 1, 0x0, false,
   [fd "ENTRY_COUNT" 31 16 .ro 0x26 .fixed 0, fd "ENTRY_OFFSET" 15 0 .ro 0x100 .fixed 0]⟩
/-- HIT_ACCERR_STATUS (Table 02-10). -/
def hit_HIT_ACCERR_STATUS : RegSpec :=
  ⟨"HIT_ACCERR_STATUS", 0x10, 1, 0x0, 1, 0x0, false,
   [fd "VALID" 31 31 .w1c 0x0 .fixed 15, fd "OVERFLOW" 30 30 .w1c 0x0 .fixed 15, fd "WRITE" 29 29 .ro 0x0 .fixed 0, fd "REQUESTER" 28 24 .ro 0x0 .fixed 0, fd "STATUS" 23 16 .ro 0x0 .fixed 0, fd "ADDR_HI" 7 0 .ro 0x0 .fixed 0]⟩
/-- HIT_ACCERR_ADDR (Table 02-11). -/
def hit_HIT_ACCERR_ADDR : RegSpec :=
  ⟨"HIT_ACCERR_ADDR", 0x14, 1, 0x0, 1, 0x0, false,
   [fd "ADDR_LO" 31 0 .ro 0x0 .fixed 0]⟩

/-- Every register of map entry hit. -/
def hitRegs : List RegSpec :=
  [hit_HIT_ID, hit_HIT_TABLE, hit_HIT_ACCERR_STATUS, hit_HIT_ACCERR_ADDR]

/-- HIT_SWAP_SEC_LO (Table 02-13). -/
def swap_HIT_SWAP_SEC_LO : RegSpec :=
  ⟨"HIT_SWAP_SEC_LO", 0x100, 8, 0x20, 1, 0x0, false,
   [fd "SEC_LO" 31 0 .rw 0x0 .fixed 15]⟩
/-- HIT_SWAP_SEC_HI (Table 02-14). -/
def swap_HIT_SWAP_SEC_HI : RegSpec :=
  ⟨"HIT_SWAP_SEC_HI", 0x104, 8, 0x20, 1, 0x0, false,
   [fd "SEC_HI" 15 0 .rw 0x0 .fixed 15]⟩
/-- HIT_SWAP_NS (Table 02-15). -/
def swap_HIT_SWAP_NS : RegSpec :=
  ⟨"HIT_SWAP_NS", 0x108, 8, 0x20, 1, 0x0, false,
   [fd "NS" 29 0 .rw 0x0 .fixed 15]⟩
/-- HIT_SWAP_SETS (Table 02-16). -/
def swap_HIT_SWAP_SETS : RegSpec :=
  ⟨"HIT_SWAP_SETS", 0x10c, 8, 0x20, 1, 0x0, false,
   [fd "GEN" 19 19 .rw 0x0 .fixed 15, fd "SLALOM" 18 12 .rw 0x0 .fixed 7, fd "CAL" 11 9 .rw 0x0 .fixed 4, fd "RADIO" 8 6 .rw 0x0 .fixed 7, fd "PROG" 5 3 .rw 0x0 .fixed 7, fd "TABLE" 2 0 .rw 0x0 .fixed 7]⟩
/-- HIT_SWAP_CMD (Table 02-17). -/
def swap_HIT_SWAP_CMD : RegSpec :=
  ⟨"HIT_SWAP_CMD", 0x110, 8, 0x20, 1, 0x0, false,
   [fd "OP" 1 0 .wo 0x0 .fixed 15]⟩
/-- HIT_SWAP_STAT (Table 02-18). -/
def swap_HIT_SWAP_STAT : RegSpec :=
  ⟨"HIT_SWAP_STAT", 0x114, 8, 0x20, 1, 0x0, false,
   [fd "STATE" 31 30 .ro 0x0 .fixed 0, fd "STATUS" 29 22 .ro 0x0 .fixed 0, fd "REFUSED" 20 20 .w1c 0x0 .fixed 15, fd "DONE" 19 0 .ro 0x0 .fixed 0]⟩

/-- Every register of map entry swap. -/
def swapRegs : List RegSpec :=
  [swap_HIT_SWAP_SEC_LO, swap_HIT_SWAP_SEC_HI, swap_HIT_SWAP_NS, swap_HIT_SWAP_SETS, swap_HIT_SWAP_CMD, swap_HIT_SWAP_STAT]

/-- NT_CTL (Table 03-2). -/
def nt_NT_CTL : RegSpec :=
  ⟨"NT_CTL", 0x0, 1, 0x0, 1, 0x0, false,
   [fd "HOLDOVER" 2 2 .rw 0x0 .fixed 7, fd "MARK_COARSE" 1 1 .wo 0x0 .fixed 7, fd "MARK_FINE" 0 0 .wo 0x0 .fixed 7]⟩
/-- NT_STAT (Table 03-3). -/
def nt_NT_STAT : RegSpec :=
  ⟨"NT_STAT", 0x4, 1, 0x0, 1, 0x0, false,
   [fd "STEP_REFUSALS" 31 24 .rc 0x0 .fixed 0, fd "STEP_REFUSED" 2 2 .w1c 0x0 .fixed 15, fd "INCR_CLAMPED" 1 1 .w1c 0x0 .fixed 15, fd "COARSE" 0 0 .ro 0x1 .fixed 0]⟩
/-- NT_INCR_LO (Table 03-4). -/
def nt_NT_INCR_LO : RegSpec :=
  ⟨"NT_INCR_LO", 0x8, 1, 0x0, 1, 0x0, false,
   [fd "INCR_LO" 31 0 .rw 0x0 .fixed 7]⟩
/-- NT_INCR_HI (Table 03-5). -/
def nt_NT_INCR_HI : RegSpec :=
  ⟨"NT_INCR_HI", 0xc, 1, 0x0, 1, 0x0, false,
   [fd "INCR_HI" 7 0 .rw 0x5 .fixed 7]⟩
/-- NT_NOW_FRAC (Table 03-6). -/
def nt_NT_NOW_FRAC : RegSpec :=
  ⟨"NT_NOW_FRAC", 0x10, 1, 0x0, 1, 0x0, false,
   [fd "FRAC" 15 0 .ro 0x0 .fixed 0]⟩
/-- NT_NOW_NS (Table 03-7). -/
def nt_NT_NOW_NS : RegSpec :=
  ⟨"NT_NOW_NS", 0x14, 1, 0x0, 1, 0x0, false,
   [fd "NS" 29 0 .ro 0x0 .fixed 0]⟩
/-- NT_NOW_SEC_LO (Table 03-8). -/
def nt_NT_NOW_SEC_LO : RegSpec :=
  ⟨"NT_NOW_SEC_LO", 0x18, 1, 0x0, 1, 0x0, false,
   [fd "SEC_LO" 31 0 .ro 0x0 .fixed 0]⟩
/-- NT_NOW_SEC_HI (Table 03-9). -/
def nt_NT_NOW_SEC_HI : RegSpec :=
  ⟨"NT_NOW_SEC_HI", 0x1c, 1, 0x0, 1, 0x0, false,
   [fd "SEC_HI" 15 0 .ro 0x0 .fixed 0]⟩
/-- NT_ADJ_FRAC (Table 03-11). -/
def nt_NT_ADJ_FRAC : RegSpec :=
  ⟨"NT_ADJ_FRAC", 0x20, 1, 0x0, 1, 0x0, false,
   [fd "FRAC" 15 0 .rw 0x0 .fixed 7]⟩
/-- NT_ADJ_NS (Table 03-12). -/
def nt_NT_ADJ_NS : RegSpec :=
  ⟨"NT_ADJ_NS", 0x24, 1, 0x0, 1, 0x0, false,
   [fd "NS" 31 0 .rw 0x0 .fixed 7]⟩
/-- NT_ADJ_SEC_LO (Table 03-13). -/
def nt_NT_ADJ_SEC_LO : RegSpec :=
  ⟨"NT_ADJ_SEC_LO", 0x28, 1, 0x0, 1, 0x0, false,
   [fd "SEC_LO" 31 0 .rw 0x0 .fixed 7]⟩
/-- NT_ADJ_SEC_HI (Table 03-14). -/
def nt_NT_ADJ_SEC_HI : RegSpec :=
  ⟨"NT_ADJ_SEC_HI", 0x2c, 1, 0x0, 1, 0x0, false,
   [fd "SEC_HI" 15 0 .rw 0x0 .fixed 7]⟩
/-- NT_ADJ_CMD (Table 03-15). -/
def nt_NT_ADJ_CMD : RegSpec :=
  ⟨"NT_ADJ_CMD", 0x30, 1, 0x0, 1, 0x0, false,
   [fd "STATUS" 31 24 .ro 0x0 .fixed 0, fd "FORCE" 2 2 .wo 0x0 .fixed 2, fd "OP" 1 0 .wo 0x0 .fixed 7]⟩
/-- NT_STEP_LIMIT (Table 03-16). -/
def nt_NT_STEP_LIMIT : RegSpec :=
  ⟨"NT_STEP_LIMIT", 0x34, 1, 0x0, 1, 0x0, false,
   [fd "LIMIT" 15 0 .rw 0x3e8 .nv 6]⟩
/-- NT_CAP_FRAC (Table 03-6). -/
def nt_NT_CAP_FRAC : RegSpec :=
  ⟨"NT_CAP_FRAC", 0x100, 5, 0x20, 1, 0x0, false,
   [fd "FRAC" 15 0 .ro 0x0 .fixed 0]⟩
/-- NT_CAP_NS (Table 03-7). -/
def nt_NT_CAP_NS : RegSpec :=
  ⟨"NT_CAP_NS", 0x104, 5, 0x20, 1, 0x0, false,
   [fd "NS" 29 0 .ro 0x0 .fixed 0]⟩
/-- NT_CAP_SEC_LO (Table 03-8). -/
def nt_NT_CAP_SEC_LO : RegSpec :=
  ⟨"NT_CAP_SEC_LO", 0x108, 5, 0x20, 1, 0x0, false,
   [fd "SEC_LO" 31 0 .ro 0x0 .fixed 0]⟩
/-- NT_CAP_SEC_HI (Table 03-9). -/
def nt_NT_CAP_SEC_HI : RegSpec :=
  ⟨"NT_CAP_SEC_HI", 0x10c, 5, 0x20, 1, 0x0, false,
   [fd "SEC_HI" 15 0 .ro 0x0 .fixed 0]⟩
/-- NT_CAP_STAT (Table 03-22). -/
def nt_NT_CAP_STAT : RegSpec :=
  ⟨"NT_CAP_STAT", 0x110, 5, 0x20, 1, 0x0, false,
   [fd "VALID" 31 31 .w1c 0x0 .fixed 15, fd "OVERRUN" 30 30 .w1c 0x0 .fixed 15, fd "COUNT" 15 0 .ro 0x0 .fixed 0]⟩
/-- NT_IN_CFG (Table 03-23). -/
def nt_NT_IN_CFG : RegSpec :=
  ⟨"NT_IN_CFG", 0x114, 5, 0x20, 1, 0x0, false,
   [fd "EDGE" 1 1 .rw 0x0 .fixed 7, fd "EN" 0 0 .rw 0x0 .fixed 7]⟩
/-- NT_IN_DELAY (Table 03-24). -/
def nt_NT_IN_DELAY : RegSpec :=
  ⟨"NT_IN_DELAY", 0x118, 5, 0x20, 1, 0x0, false,
   [fd "DELAY" 31 0 .rw 0x0 .nv 6]⟩
/-- NT_OUT_CFG (Table 03-27). -/
def nt_NT_OUT_CFG : RegSpec :=
  ⟨"NT_OUT_CFG", 0x200, 3, 0x10, 1, 0x0, true,
   [fd "WIDTH" 27 8 .rw 0x186a0 .fixed 7, fd "POL" 3 3 .rw 0x0 .fixed 7, fd "SRC" 2 1 .rw 0x0 .fixed 7, fd "EN" 0 0 .rw 0x0 .fixed 7]⟩
/-- NT_OUT_OFFSET (Table 03-28). -/
def nt_NT_OUT_OFFSET : RegSpec :=
  ⟨"NT_OUT_OFFSET", 0x204, 3, 0x10, 1, 0x0, true,
   [fd "OFFSET" 31 0 .rw 0x0 .nv 6]⟩
/-- NT_TSYNC_RX_SEC_LO (Table 03-30). -/
def nt_NT_TSYNC_RX_SEC_LO : RegSpec :=
  ⟨"NT_TSYNC_RX_SEC_LO", 0x240, 1, 0x0, 1, 0x0, true,
   [fd "SEC_LO" 31 0 .ro 0x0 .fixed 0]⟩
/-- NT_TSYNC_RX_SEC_HI (Table 03-31). -/
def nt_NT_TSYNC_RX_SEC_HI : RegSpec :=
  ⟨"NT_TSYNC_RX_SEC_HI", 0x244, 1, 0x0, 1, 0x0, true,
   [fd "VALID" 31 31 .w1c 0x0 .fixed 15, fd "CRC_ERR" 30 30 .w1c 0x0 .fixed 15, fd "DOMAIN" 29 29 .ro 0x0 .fixed 0, fd "HOLDOVER" 28 28 .ro 0x0 .fixed 0, fd "SEC_HI" 15 0 .ro 0x0 .fixed 0]⟩
/-- NT_TOD_CFG (Table 03-25). -/
def nt_NT_TOD_CFG : RegSpec :=
  ⟨"NT_TOD_CFG", 0x280, 2, 0x8, 1, 0x0, true,
   [fd "EN" 20 20 .rw 0x0 .fixed 7, fd "BAUD" 19 0 .rw 0x2580 .fixed 7]⟩
/-- NT_TOD_DATA (Table 03-26). -/
def nt_NT_TOD_DATA : RegSpec :=
  ⟨"NT_TOD_DATA", 0x284, 2, 0x8, 1, 0x0, true,
   [fd "EMPTY" 31 31 .ro 0x1 .fixed 0, fd "OVERRUN" 30 30 .w1c 0x0 .fixed 15, fd "START" 29 29 .ro 0x0 .fixed 0, fd "BYTE" 7 0 .ro 0x0 .fixed 0]⟩

/-- Every register of map entry nt. -/
def ntRegs : List RegSpec :=
  [nt_NT_CTL, nt_NT_STAT, nt_NT_INCR_LO, nt_NT_INCR_HI, nt_NT_NOW_FRAC, nt_NT_NOW_NS, nt_NT_NOW_SEC_LO, nt_NT_NOW_SEC_HI, nt_NT_ADJ_FRAC, nt_NT_ADJ_NS, nt_NT_ADJ_SEC_LO, nt_NT_ADJ_SEC_HI] ++
  [nt_NT_ADJ_CMD, nt_NT_STEP_LIMIT, nt_NT_CAP_FRAC, nt_NT_CAP_NS, nt_NT_CAP_SEC_LO, nt_NT_CAP_SEC_HI, nt_NT_CAP_STAT, nt_NT_IN_CFG, nt_NT_IN_DELAY, nt_NT_OUT_CFG, nt_NT_OUT_OFFSET, nt_NT_TSYNC_RX_SEC_LO] ++
  [nt_NT_TSYNC_RX_SEC_HI, nt_NT_TOD_CFG, nt_NT_TOD_DATA]

/-- TSEL_CTL (Table 03-18). -/
def tsel_TSEL_CTL : RegSpec :=
  ⟨"TSEL_CTL", 0x0, 1, 0x0, 1, 0x0, false,
   [fd "SLEW_RATE" 11 4 .rw 0x64 .fixed 6, fd "SEL" 0 0 .rw 0x0 .fixed 7]⟩
/-- TSEL_STAT (Table 03-19). -/
def tsel_TSEL_STAT : RegSpec :=
  ⟨"TSEL_STAT", 0x4, 1, 0x0, 1, 0x0, false,
   [fd "LAST_STATUS" 31 24 .ro 0x0 .fixed 0, fd "COARSE" 2 2 .ro 0x1 .fixed 0, fd "SLEWING" 1 1 .ro 0x0 .fixed 0, fd "CUR" 0 0 .ro 0x0 .fixed 0]⟩
/-- TSEL_REF (Table 03-10). -/
def tsel_TSEL_REF : RegSpec :=
  ⟨"TSEL_REF", 0x8, 1, 0x0, 1, 0x0, false,
   [fd "REF_LOST" 7 7 .w1c 0x0 .fixed 15, fd "REF_PRESENT" 6 6 .ro 0x0 .fixed 0, fd "ACTIVE" 5 5 .ro 0x0 .fixed 0, fd "SRC" 1 0 .rw 0x2 .fixed 6]⟩
/-- TSEL_NOW_FRAC (Table 03-6). -/
def tsel_TSEL_NOW_FRAC : RegSpec :=
  ⟨"TSEL_NOW_FRAC", 0x10, 1, 0x0, 1, 0x0, false,
   [fd "FRAC" 15 0 .ro 0x0 .fixed 0]⟩
/-- TSEL_NOW_NS (Table 03-7). -/
def tsel_TSEL_NOW_NS : RegSpec :=
  ⟨"TSEL_NOW_NS", 0x14, 1, 0x0, 1, 0x0, false,
   [fd "NS" 29 0 .ro 0x0 .fixed 0]⟩
/-- TSEL_NOW_SEC_LO (Table 03-8). -/
def tsel_TSEL_NOW_SEC_LO : RegSpec :=
  ⟨"TSEL_NOW_SEC_LO", 0x18, 1, 0x0, 1, 0x0, false,
   [fd "SEC_LO" 31 0 .ro 0x0 .fixed 0]⟩
/-- TSEL_NOW_SEC_HI (Table 03-9). -/
def tsel_TSEL_NOW_SEC_HI : RegSpec :=
  ⟨"TSEL_NOW_SEC_HI", 0x1c, 1, 0x0, 1, 0x0, false,
   [fd "SEC_HI" 15 0 .ro 0x0 .fixed 0]⟩
/-- TSEL_OFS_FRAC (Table 03-20). -/
def tsel_TSEL_OFS_FRAC : RegSpec :=
  ⟨"TSEL_OFS_FRAC", 0x20, 1, 0x0, 1, 0x0, false,
   [fd "FRAC" 15 0 .ro 0x0 .fixed 0]⟩
/-- TSEL_OFS_NS (Table 03-21). -/
def tsel_TSEL_OFS_NS : RegSpec :=
  ⟨"TSEL_OFS_NS", 0x24, 1, 0x0, 1, 0x0, false,
   [fd "NS" 31 0 .ro 0x0 .fixed 0]⟩

/-- Every register of map entry tsel. -/
def tselRegs : List RegSpec :=
  [tsel_TSEL_CTL, tsel_TSEL_STAT, tsel_TSEL_REF, tsel_TSEL_NOW_FRAC, tsel_TSEL_NOW_NS, tsel_TSEL_NOW_SEC_LO, tsel_TSEL_NOW_SEC_HI, tsel_TSEL_OFS_FRAC, tsel_TSEL_OFS_NS]

/-- SE_STAT (Table 05-9). -/
def se_SE_STAT : RegSpec :=
  ⟨"SE_STAT", 0x0, 1, 0x0, 1, 0x0, false,
   [fd "POST_LEVEL" 20 16 .ro 0x0 .fixed 0, fd "LOAD_REJECT" 9 9 .w1c 0x0 .fixed 15, fd "POST_DROP" 8 8 .w1c 0x0 .fixed 15, fd "FIXED_TRIG" 7 7 .w1c 0x0 .fixed 15, fd "ACCESS_FAULT" 6 6 .w1c 0x0 .fixed 15, fd "STEP_SKIP" 5 5 .w1c 0x0 .fixed 15, fd "LATE_AT" 4 4 .w1c 0x0 .fixed 15, fd "LATE_WAIT" 3 3 .w1c 0x0 .fixed 15, fd "EV_TIMEOUT" 2 2 .w1c 0x0 .fixed 15, fd "WAITING" 1 1 .ro 0x0 .fixed 0, fd "SWAPPED" 0 0 .w1c 0x0 .fixed 15]⟩
/-- SE_LATE_COUNT (Table 05-10). -/
def se_SE_LATE_COUNT : RegSpec :=
  ⟨"SE_LATE_COUNT", 0x4, 1, 0x0, 1, 0x0, false,
   [fd "AT_LATE" 31 24 .rc 0x0 .fixed 0, fd "WAIT_LATE" 23 16 .rc 0x0 .fixed 0, fd "EV_TIMEOUTS" 15 8 .rc 0x0 .fixed 0, fd "CMD_LATE" 7 0 .rc 0x0 .fixed 0]⟩
/-- SE_FAULT (Table 05-11). -/
def se_SE_FAULT : RegSpec :=
  ⟨"SE_FAULT", 0x8, 1, 0x0, 1, 0x0, false,
   [fd "CAUSE" 31 24 .ro 0x0 .fixed 0, fd "PC" 15 0 .ro 0x0 .fixed 0]⟩
/-- SE_CFG (Table 05-12). -/
def se_SE_CFG : RegSpec :=
  ⟨"SE_CFG", 0x10, 1, 0x0, 1, 0x0, false,
   [fd "ENTRY" 13 2 .rws 0x0 .fixed 7]⟩
/-- SE_WAIT_LIMIT (Table 05-13). -/
def se_SE_WAIT_LIMIT : RegSpec :=
  ⟨"SE_WAIT_LIMIT", 0x14, 1, 0x0, 1, 0x0, false,
   [fd "LIMIT" 31 0 .rw 0x0 .fixed 7]⟩
/-- SE_LM_ADDR (Table 05-14). -/
def se_SE_LM_ADDR : RegSpec :=
  ⟨"SE_LM_ADDR", 0x20, 1, 0x0, 1, 0x0, false,
   [fd "ADDR" 15 2 .rw 0x0 .fixed 7]⟩
/-- SE_LM_DATA (Table 05-15). -/
def se_SE_LM_DATA : RegSpec :=
  ⟨"SE_LM_DATA", 0x24, 1, 0x0, 1, 0x0, false,
   [fd "DATA" 31 0 .rw 0x0 .undef 7]⟩
/-- SE_POST_LO (Table 05-16). -/
def se_SE_POST_LO : RegSpec :=
  ⟨"SE_POST_LO", 0x30, 1, 0x0, 1, 0x0, false,
   [fd "VALUE_LO" 31 0 .wo 0x0 .fixed 15]⟩
/-- SE_POST_HI (Table 05-17). -/
def se_SE_POST_HI : RegSpec :=
  ⟨"SE_POST_HI", 0x34, 1, 0x0, 1, 0x0, false,
   [fd "VALUE_HI" 31 0 .wo 0x0 .fixed 15]⟩
/-- SE_POP_LO (Table 05-18). -/
def se_SE_POP_LO : RegSpec :=
  ⟨"SE_POP_LO", 0x38, 1, 0x0, 1, 0x0, false,
   [fd "VALUE_LO" 31 0 .ro 0x0 .fixed 0]⟩
/-- SE_POP_HI (Table 05-19). -/
def se_SE_POP_HI : RegSpec :=
  ⟨"SE_POP_HI", 0x3c, 1, 0x0, 1, 0x0, false,
   [fd "VALUE_HI" 31 0 .ro 0x0 .fixed 0]⟩
/-- SE_EVPOST (Table 05-20). -/
def se_SE_EVPOST : RegSpec :=
  ⟨"SE_EVPOST", 0x40, 1, 0x0, 1, 0x0, false,
   [fd "LINE" 7 0 .wo 0x0 .fixed 15]⟩
/-- SE_FN_CTL (Table 02-19). -/
def se_SE_FN_CTL : RegSpec :=
  ⟨"SE_FN_CTL", 0x80, 1, 0x4, 1, 0x0, false,
   [fd "EN" 0 0 .rw 0x0 .fixed 15]⟩
/-- SE_FN_STAT (Table 02-20). -/
def se_SE_FN_STAT : RegSpec :=
  ⟨"SE_FN_STAT", 0xc0, 1, 0x4, 1, 0x0, false,
   [fd "LAST_STATUS" 31 24 .ro 0x0 .fixed 0, fd "RESTART_PENDING" 4 4 .ro 0x0 .fixed 0, fd "STATE" 2 0 .ro 0x0 .fixed 0]⟩

/-- Every register of map entry se. -/
def seRegs : List RegSpec :=
  [se_SE_STAT, se_SE_LATE_COUNT, se_SE_FAULT, se_SE_CFG, se_SE_WAIT_LIMIT, se_SE_LM_ADDR, se_SE_LM_DATA, se_SE_POST_LO, se_SE_POST_HI, se_SE_POP_LO, se_SE_POP_HI, se_SE_EVPOST] ++
  [se_SE_FN_CTL, se_SE_FN_STAT]

end Sys2Proof.Machine.RegTable
end

