-- ==== Sys2Proof/Machine/RegTableB.lean ====
section
/-!
DEFINITION. The register tables of the spec for the map entries rfs, rfm, rfh, dps, dpm, dph, cap: one row a register
(offset, instances, fields with type, reset value and rights), R12 to R15, R39, R52.
-/
namespace Sys2Proof.Machine.RegTable
open Sys2Proof.Machine

/-- RF_STAT (Table 06-10). -/
def rfs_RF_STAT : RegSpec :=
  ⟨"RF_STAT", 0x0, 1, 0x0, 1, 0x0, false,
   [fd "BAD_ARG" 7 7 .w1c 0x0 .fixed 15, fd "FEM_OVERRUN" 6 6 .w1c 0x0 .fixed 15, fd "POWER_CLAMPED" 5 5 .w1c 0x0 .fixed 15, fd "CAL_PENDING" 4 4 .ro 0x0 .fixed 0, fd "LOCKED" 3 0 .ro 0x0 .fixed 0]⟩
/-- RF_COUNT (Table 06-11). -/
def rfs_RF_COUNT : RegSpec :=
  ⟨"RF_COUNT", 0x4, 1, 0x0, 1, 0x0, false,
   [fd "LOCK_LATE" 31 24 .rc 0x0 .fixed 0, fd "YIELDS" 23 16 .rc 0x0 .fixed 0, fd "RX_CUT" 15 8 .rc 0x0 .fixed 0, fd "PA_LATE" 7 0 .rc 0x0 .fixed 0]⟩
/-- RF_CHAIN_STAT (Table 06-12). -/
def rfs_RF_CHAIN_STAT : RegSpec :=
  ⟨"RF_CHAIN_STAT", 0x10, 4, 0x4, 1, 0x0, false,
   [fd "CHAN" 31 16 .ro 0x0 .fixed 0, fd "LOCKED" 15 15 .ro 0x0 .fixed 0, fd "QUEUE" 11 8 .ro 0x0 .fixed 0, fd "STATE" 3 0 .ro 0x0 .fixed 0]⟩
/-- RF_FEM_CFG (Table 06-13). -/
def rfs_RF_FEM_CFG : RegSpec :=
  ⟨"RF_FEM_CFG", 0x20, 1, 0x0, 1, 0x0, false,
   [fd "FAST" 24 24 .rws 0x0 .fixed 4, fd "TAIL" 23 16 .rws 0x5 .fixed 4, fd "LEAD" 15 8 .rws 0x14 .fixed 4]⟩
/-- RF_FEM_AUTO (Table 06-14). -/
def rfs_RF_FEM_AUTO : RegSpec :=
  ⟨"RF_FEM_AUTO", 0x30, 4, 0x4, 1, 0x0, false,
   [fd "TX_ON" 31 24 .rws 0xff .fixed 4, fd "TX_OFF" 23 16 .rws 0xff .fixed 4, fd "RX_ON" 15 8 .rws 0xff .fixed 4, fd "CAL_ENTRY" 7 0 .rws 0xff .fixed 4]⟩
/-- RF_PA_NEED (Table 06-15). -/
def rfs_RF_PA_NEED : RegSpec :=
  ⟨"RF_PA_NEED", 0x40, 4, 0x10, 4, 0x4, false,
   [fd "VALID" 31 31 .rws 0x0 .fixed 4, fd "REGULATOR" 25 24 .rws 0x0 .fixed 4, fd "POWER_MAX" 23 16 .rws 0x0 .fixed 4, fd "LEVEL" 3 0 .rws 0x0 .fixed 4]⟩
/-- RF_FN_CTL (Table 02-19). -/
def rfs_RF_FN_CTL : RegSpec :=
  ⟨"RF_FN_CTL", 0x80, 5, 0x4, 1, 0x0, false,
   [fd "EN" 0 0 .rw 0x0 .fixed 15]⟩
/-- RF_FN_STAT (Table 02-20). -/
def rfs_RF_FN_STAT : RegSpec :=
  ⟨"RF_FN_STAT", 0xc0, 5, 0x4, 1, 0x0, false,
   [fd "LAST_STATUS" 31 24 .ro 0x0 .fixed 0, fd "RESTART_PENDING" 4 4 .ro 0x0 .fixed 0, fd "STATE" 2 0 .ro 0x0 .fixed 0]⟩
/-- RF_CAL_TXDLY (Table 06-16). -/
def rfs_RF_CAL_TXDLY : RegSpec :=
  ⟨"RF_CAL_TXDLY", 0x100, 4, 0x4, 1, 0x0, false,
   [fd "DELAY" 31 0 .rws 0x0 .maker 4]⟩
/-- RF_CAL_RXDLY (Table 06-16). -/
def rfs_RF_CAL_RXDLY : RegSpec :=
  ⟨"RF_CAL_RXDLY", 0x110, 4, 0x4, 1, 0x0, false,
   [fd "DELAY" 31 0 .rws 0x0 .maker 4]⟩
/-- RF_CAL_RXGAIN (Table 06-17). -/
def rfs_RF_CAL_RXGAIN : RegSpec :=
  ⟨"RF_CAL_RXGAIN", 0x120, 4, 0x4, 1, 0x0, false,
   [fd "GAIN" 7 0 .rws 0x0 .maker 4]⟩
/-- RF_CAL_FEMG (Table 06-18). -/
def rfs_RF_CAL_FEMG : RegSpec :=
  ⟨"RF_CAL_FEMG", 0x140, 4, 0x10, 4, 0x4, false,
   [fd "GAIN3" 31 24 .rws 0x0 .maker 4, fd "GAIN2" 23 16 .rws 0x0 .maker 4, fd "GAIN1" 15 8 .rws 0x0 .maker 4, fd "GAIN0" 7 0 .rws 0x0 .maker 4]⟩
/-- RF_FEM_SEQ (Table 06-19). -/
def rfs_RF_FEM_SEQ : RegSpec :=
  ⟨"RF_FEM_SEQ", 0x400, 32, 0x20, 8, 0x4, false,
   [fd "KIND" 31 30 .rws 0x0 .fixed 4, fd "USID" 29 26 .rws 0x0 .fixed 4, fd "ADDR" 23 16 .rws 0x0 .fixed 4, fd "DATA" 15 8 .rws 0x0 .fixed 4, fd "WAIT" 7 0 .rws 0x0 .fixed 4]⟩

/-- Every register of map entry rfs. -/
def rfsRegs : List RegSpec :=
  [rfs_RF_STAT, rfs_RF_COUNT, rfs_RF_CHAIN_STAT, rfs_RF_FEM_CFG, rfs_RF_FEM_AUTO, rfs_RF_PA_NEED, rfs_RF_FN_CTL, rfs_RF_FN_STAT, rfs_RF_CAL_TXDLY, rfs_RF_CAL_RXDLY, rfs_RF_CAL_RXGAIN, rfs_RF_CAL_FEMG] ++
  [rfs_RF_FEM_SEQ]

/-- RF_STAT (Table 06-10). -/
def rfm_RF_STAT : RegSpec :=
  ⟨"RF_STAT", 0x0, 1, 0x0, 1, 0x0, false,
   [fd "BAD_ARG" 7 7 .w1c 0x0 .fixed 15, fd "FEM_OVERRUN" 6 6 .w1c 0x0 .fixed 15, fd "POWER_CLAMPED" 5 5 .w1c 0x0 .fixed 15, fd "CAL_PENDING" 4 4 .ro 0x0 .fixed 0, fd "LOCKED" 3 0 .ro 0x0 .fixed 0]⟩
/-- RF_COUNT (Table 06-11). -/
def rfm_RF_COUNT : RegSpec :=
  ⟨"RF_COUNT", 0x4, 1, 0x0, 1, 0x0, false,
   [fd "LOCK_LATE" 31 24 .rc 0x0 .fixed 0, fd "YIELDS" 23 16 .rc 0x0 .fixed 0, fd "RX_CUT" 15 8 .rc 0x0 .fixed 0, fd "PA_LATE" 7 0 .rc 0x0 .fixed 0]⟩
/-- RF_CHAIN_STAT (Table 06-12). -/
def rfm_RF_CHAIN_STAT : RegSpec :=
  ⟨"RF_CHAIN_STAT", 0x10, 4, 0x4, 1, 0x0, false,
   [fd "CHAN" 31 16 .ro 0x0 .fixed 0, fd "LOCKED" 15 15 .ro 0x0 .fixed 0, fd "QUEUE" 11 8 .ro 0x0 .fixed 0, fd "STATE" 3 0 .ro 0x0 .fixed 0]⟩
/-- RF_FEM_CFG (Table 06-13). -/
def rfm_RF_FEM_CFG : RegSpec :=
  ⟨"RF_FEM_CFG", 0x20, 1, 0x0, 1, 0x0, false,
   [fd "FAST" 24 24 .rws 0x0 .fixed 4, fd "TAIL" 23 16 .rws 0x5 .fixed 4, fd "LEAD" 15 8 .rws 0x14 .fixed 4]⟩
/-- RF_FEM_AUTO (Table 06-14). -/
def rfm_RF_FEM_AUTO : RegSpec :=
  ⟨"RF_FEM_AUTO", 0x30, 4, 0x4, 1, 0x0, false,
   [fd "TX_ON" 31 24 .rws 0xff .fixed 4, fd "TX_OFF" 23 16 .rws 0xff .fixed 4, fd "RX_ON" 15 8 .rws 0xff .fixed 4, fd "CAL_ENTRY" 7 0 .rws 0xff .fixed 4]⟩
/-- RF_PA_NEED (Table 06-15). -/
def rfm_RF_PA_NEED : RegSpec :=
  ⟨"RF_PA_NEED", 0x40, 2, 0x10, 4, 0x4, false,
   [fd "VALID" 31 31 .rws 0x0 .fixed 4, fd "REGULATOR" 25 24 .rws 0x0 .fixed 4, fd "POWER_MAX" 23 16 .rws 0x0 .fixed 4, fd "LEVEL" 3 0 .rws 0x0 .fixed 4]⟩
/-- RF_FN_CTL (Table 02-19). -/
def rfm_RF_FN_CTL : RegSpec :=
  ⟨"RF_FN_CTL", 0x80, 5, 0x4, 1, 0x0, false,
   [fd "EN" 0 0 .rw 0x0 .fixed 15]⟩
/-- RF_FN_STAT (Table 02-20). -/
def rfm_RF_FN_STAT : RegSpec :=
  ⟨"RF_FN_STAT", 0xc0, 5, 0x4, 1, 0x0, false,
   [fd "LAST_STATUS" 31 24 .ro 0x0 .fixed 0, fd "RESTART_PENDING" 4 4 .ro 0x0 .fixed 0, fd "STATE" 2 0 .ro 0x0 .fixed 0]⟩
/-- RF_CAL_TXDLY (Table 06-16). -/
def rfm_RF_CAL_TXDLY : RegSpec :=
  ⟨"RF_CAL_TXDLY", 0x100, 2, 0x4, 1, 0x0, false,
   [fd "DELAY" 31 0 .rws 0x0 .maker 4]⟩
/-- RF_CAL_RXDLY (Table 06-16). -/
def rfm_RF_CAL_RXDLY : RegSpec :=
  ⟨"RF_CAL_RXDLY", 0x110, 4, 0x4, 1, 0x0, false,
   [fd "DELAY" 31 0 .rws 0x0 .maker 4]⟩
/-- RF_CAL_RXGAIN (Table 06-17). -/
def rfm_RF_CAL_RXGAIN : RegSpec :=
  ⟨"RF_CAL_RXGAIN", 0x120, 4, 0x4, 1, 0x0, false,
   [fd "GAIN" 7 0 .rws 0x0 .maker 4]⟩
/-- RF_CAL_FEMG (Table 06-18). -/
def rfm_RF_CAL_FEMG : RegSpec :=
  ⟨"RF_CAL_FEMG", 0x140, 2, 0x10, 4, 0x4, false,
   [fd "GAIN3" 31 24 .rws 0x0 .maker 4, fd "GAIN2" 23 16 .rws 0x0 .maker 4, fd "GAIN1" 15 8 .rws 0x0 .maker 4, fd "GAIN0" 7 0 .rws 0x0 .maker 4]⟩
/-- RF_FEM_SEQ (Table 06-19). -/
def rfm_RF_FEM_SEQ : RegSpec :=
  ⟨"RF_FEM_SEQ", 0x400, 32, 0x20, 8, 0x4, false,
   [fd "KIND" 31 30 .rws 0x0 .fixed 4, fd "USID" 29 26 .rws 0x0 .fixed 4, fd "ADDR" 23 16 .rws 0x0 .fixed 4, fd "DATA" 15 8 .rws 0x0 .fixed 4, fd "WAIT" 7 0 .rws 0x0 .fixed 4]⟩

/-- Every register of map entry rfm. -/
def rfmRegs : List RegSpec :=
  [rfm_RF_STAT, rfm_RF_COUNT, rfm_RF_CHAIN_STAT, rfm_RF_FEM_CFG, rfm_RF_FEM_AUTO, rfm_RF_PA_NEED, rfm_RF_FN_CTL, rfm_RF_FN_STAT, rfm_RF_CAL_TXDLY, rfm_RF_CAL_RXDLY, rfm_RF_CAL_RXGAIN, rfm_RF_CAL_FEMG] ++
  [rfm_RF_FEM_SEQ]

/-- RF_STAT (Table 06-10). -/
def rfh_RF_STAT : RegSpec :=
  ⟨"RF_STAT", 0x0, 1, 0x0, 1, 0x0, false,
   [fd "BAD_ARG" 7 7 .w1c 0x0 .fixed 15, fd "FEM_OVERRUN" 6 6 .w1c 0x0 .fixed 15, fd "POWER_CLAMPED" 5 5 .w1c 0x0 .fixed 15, fd "CAL_PENDING" 4 4 .ro 0x0 .fixed 0, fd "LOCKED" 3 0 .ro 0x0 .fixed 0]⟩
/-- RF_COUNT (Table 06-11). -/
def rfh_RF_COUNT : RegSpec :=
  ⟨"RF_COUNT", 0x4, 1, 0x0, 1, 0x0, false,
   [fd "LOCK_LATE" 31 24 .rc 0x0 .fixed 0, fd "YIELDS" 23 16 .rc 0x0 .fixed 0, fd "RX_CUT" 15 8 .rc 0x0 .fixed 0, fd "PA_LATE" 7 0 .rc 0x0 .fixed 0]⟩
/-- RF_CHAIN_STAT (Table 06-12). -/
def rfh_RF_CHAIN_STAT : RegSpec :=
  ⟨"RF_CHAIN_STAT", 0x10, 4, 0x4, 1, 0x0, false,
   [fd "CHAN" 31 16 .ro 0x0 .fixed 0, fd "LOCKED" 15 15 .ro 0x0 .fixed 0, fd "QUEUE" 11 8 .ro 0x0 .fixed 0, fd "STATE" 3 0 .ro 0x0 .fixed 0]⟩
/-- RF_FEM_CFG (Table 06-13). -/
def rfh_RF_FEM_CFG : RegSpec :=
  ⟨"RF_FEM_CFG", 0x20, 1, 0x0, 1, 0x0, false,
   [fd "FAST" 24 24 .rws 0x0 .fixed 4, fd "TAIL" 23 16 .rws 0x5 .fixed 4, fd "LEAD" 15 8 .rws 0x14 .fixed 4]⟩
/-- RF_FEM_AUTO (Table 06-14). -/
def rfh_RF_FEM_AUTO : RegSpec :=
  ⟨"RF_FEM_AUTO", 0x30, 4, 0x4, 1, 0x0, false,
   [fd "TX_ON" 31 24 .rws 0xff .fixed 4, fd "TX_OFF" 23 16 .rws 0xff .fixed 4, fd "RX_ON" 15 8 .rws 0xff .fixed 4, fd "CAL_ENTRY" 7 0 .rws 0xff .fixed 4]⟩
/-- RF_PA_NEED (Table 06-15). -/
def rfh_RF_PA_NEED : RegSpec :=
  ⟨"RF_PA_NEED", 0x40, 4, 0x10, 4, 0x4, false,
   [fd "VALID" 31 31 .rws 0x0 .fixed 4, fd "REGULATOR" 25 24 .rws 0x0 .fixed 4, fd "POWER_MAX" 23 16 .rws 0x0 .fixed 4, fd "LEVEL" 3 0 .rws 0x0 .fixed 4]⟩
/-- RF_FN_CTL (Table 02-19). -/
def rfh_RF_FN_CTL : RegSpec :=
  ⟨"RF_FN_CTL", 0x80, 1, 0x4, 1, 0x0, false,
   [fd "EN" 0 0 .rw 0x0 .fixed 15]⟩
/-- RF_FN_STAT (Table 02-20). -/
def rfh_RF_FN_STAT : RegSpec :=
  ⟨"RF_FN_STAT", 0xc0, 1, 0x4, 1, 0x0, false,
   [fd "LAST_STATUS" 31 24 .ro 0x0 .fixed 0, fd "RESTART_PENDING" 4 4 .ro 0x0 .fixed 0, fd "STATE" 2 0 .ro 0x0 .fixed 0]⟩
/-- RF_CAL_TXDLY (Table 06-16). -/
def rfh_RF_CAL_TXDLY : RegSpec :=
  ⟨"RF_CAL_TXDLY", 0x100, 4, 0x4, 1, 0x0, false,
   [fd "DELAY" 31 0 .rws 0x0 .maker 4]⟩
/-- RF_CAL_RXDLY (Table 06-16). -/
def rfh_RF_CAL_RXDLY : RegSpec :=
  ⟨"RF_CAL_RXDLY", 0x110, 4, 0x4, 1, 0x0, false,
   [fd "DELAY" 31 0 .rws 0x0 .maker 4]⟩
/-- RF_CAL_RXGAIN (Table 06-17). -/
def rfh_RF_CAL_RXGAIN : RegSpec :=
  ⟨"RF_CAL_RXGAIN", 0x120, 4, 0x4, 1, 0x0, false,
   [fd "GAIN" 7 0 .rws 0x0 .maker 4]⟩
/-- RF_CAL_FEMG (Table 06-18). -/
def rfh_RF_CAL_FEMG : RegSpec :=
  ⟨"RF_CAL_FEMG", 0x140, 4, 0x10, 4, 0x4, false,
   [fd "GAIN3" 31 24 .rws 0x0 .maker 4, fd "GAIN2" 23 16 .rws 0x0 .maker 4, fd "GAIN1" 15 8 .rws 0x0 .maker 4, fd "GAIN0" 7 0 .rws 0x0 .maker 4]⟩
/-- RF_FEM_SEQ (Table 06-19). -/
def rfh_RF_FEM_SEQ : RegSpec :=
  ⟨"RF_FEM_SEQ", 0x400, 32, 0x20, 8, 0x4, false,
   [fd "KIND" 31 30 .rws 0x0 .fixed 4, fd "USID" 29 26 .rws 0x0 .fixed 4, fd "ADDR" 23 16 .rws 0x0 .fixed 4, fd "DATA" 15 8 .rws 0x0 .fixed 4, fd "WAIT" 7 0 .rws 0x0 .fixed 4]⟩

/-- Every register of map entry rfh. -/
def rfhRegs : List RegSpec :=
  [rfh_RF_STAT, rfh_RF_COUNT, rfh_RF_CHAIN_STAT, rfh_RF_FEM_CFG, rfh_RF_FEM_AUTO, rfh_RF_PA_NEED, rfh_RF_FN_CTL, rfh_RF_FN_STAT, rfh_RF_CAL_TXDLY, rfh_RF_CAL_RXDLY, rfh_RF_CAL_RXGAIN, rfh_RF_CAL_FEMG] ++
  [rfh_RF_FEM_SEQ]

/-- DP_STAT (Table 07-14). -/
def dps_DP_STAT : RegSpec :=
  ⟨"DP_STAT", 0x0, 1, 0x0, 1, 0x0, false,
   [fd "BUSY" 24 16 .ro 0x0 .fixed 0, fd "BAD_ENTRY" 15 15 .w1c 0x0 .fixed 15, fd "HELD" 8 0 .ro 0x0 .fixed 0]⟩
/-- DP_COUNT0 (Table 07-15). -/
def dps_DP_COUNT0 : RegSpec :=
  ⟨"DP_COUNT0", 0x4, 1, 0x0, 1, 0x0, false,
   [fd "FCS_FAIL" 31 24 .rc 0x0 .fixed 0, fd "HDR_FAIL" 23 16 .rc 0x0 .fixed 0, fd "SYNC_MISS" 15 8 .rc 0x0 .fixed 0, fd "NO_LANE" 7 0 .rc 0x0 .fixed 0]⟩
/-- DP_COUNT1 (Table 07-16). -/
def dps_DP_COUNT1 : RegSpec :=
  ⟨"DP_COUNT1", 0x8, 1, 0x0, 1, 0x0, false,
   [fd "TOO_SHORT" 31 24 .rc 0x0 .fixed 0, fd "TOO_LONG" 23 16 .rc 0x0 .fixed 0, fd "PREEMPTED" 15 8 .rc 0x0 .fixed 0, fd "RSV_MISS" 7 0 .rc 0x0 .fixed 0]⟩
/-- DP_POLICY (Table 07-17). -/
def dps_DP_POLICY : RegSpec :=
  ⟨"DP_POLICY", 0x10, 1, 0x0, 1, 0x0, false,
   [fd "MARGIN" 3 0 .rws 0x6 .fixed 7]⟩
/-- DP_MODEM (Table 07-18). -/
def dps_DP_MODEM : RegSpec :=
  ⟨"DP_MODEM", 0x14, 1, 0x0, 1, 0x0, false,
   [fd "DRZ_PRE" 31 24 .rws 0x8 .fixed 7, fd "FSK_PRE" 23 16 .rws 0x8 .fixed 7, fd "SUN_SFD" 15 15 .rws 0x0 .fixed 7, fd "SUN_DW" 14 14 .rws 0x1 .fixed 7]⟩
/-- DP_SYNC (Table 07-19). -/
def dps_DP_SYNC : RegSpec :=
  ⟨"DP_SYNC", 0x18, 1, 0x0, 1, 0x0, false,
   [fd "SYNC" 31 0 .rws 0x7e2c91d6 .fixed 7]⟩
/-- DP_FN_CTL (Table 02-19). -/
def dps_DP_FN_CTL : RegSpec :=
  ⟨"DP_FN_CTL", 0x80, 1, 0x4, 1, 0x0, false,
   [fd "EN" 0 0 .rw 0x0 .fixed 15]⟩
/-- DP_FN_STAT (Table 02-20). -/
def dps_DP_FN_STAT : RegSpec :=
  ⟨"DP_FN_STAT", 0xc0, 1, 0x4, 1, 0x0, false,
   [fd "LAST_STATUS" 31 24 .ro 0x0 .fixed 0, fd "RESTART_PENDING" 4 4 .ro 0x0 .fixed 0, fd "STATE" 2 0 .ro 0x0 .fixed 0]⟩
/-- DP_SEARCH (Table 07-20). -/
def dps_DP_SEARCH : RegSpec :=
  ⟨"DP_SEARCH", 0x200, 4, 0x100, 64, 0x4, false,
   [fd "VALID" 31 31 .rws 0x0 .fixed 7, fd "MODE" 23 16 .rws 0x0 .fixed 7, fd "OFFSET" 15 0 .rws 0x0 .fixed 7]⟩

/-- Every register of map entry dps. -/
def dpsRegs : List RegSpec :=
  [dps_DP_STAT, dps_DP_COUNT0, dps_DP_COUNT1, dps_DP_POLICY, dps_DP_MODEM, dps_DP_SYNC, dps_DP_FN_CTL, dps_DP_FN_STAT, dps_DP_SEARCH]

/-- DP_STAT (Table 07-14). -/
def dpm_DP_STAT : RegSpec :=
  ⟨"DP_STAT", 0x0, 1, 0x0, 1, 0x0, false,
   [fd "BUSY" 24 16 .ro 0x0 .fixed 0, fd "BAD_ENTRY" 15 15 .w1c 0x0 .fixed 15, fd "HELD" 8 0 .ro 0x0 .fixed 0]⟩
/-- DP_COUNT0 (Table 07-15). -/
def dpm_DP_COUNT0 : RegSpec :=
  ⟨"DP_COUNT0", 0x4, 1, 0x0, 1, 0x0, false,
   [fd "FCS_FAIL" 31 24 .rc 0x0 .fixed 0, fd "HDR_FAIL" 23 16 .rc 0x0 .fixed 0, fd "SYNC_MISS" 15 8 .rc 0x0 .fixed 0, fd "NO_LANE" 7 0 .rc 0x0 .fixed 0]⟩
/-- DP_COUNT1 (Table 07-16). -/
def dpm_DP_COUNT1 : RegSpec :=
  ⟨"DP_COUNT1", 0x8, 1, 0x0, 1, 0x0, false,
   [fd "TOO_SHORT" 31 24 .rc 0x0 .fixed 0, fd "TOO_LONG" 23 16 .rc 0x0 .fixed 0, fd "PREEMPTED" 15 8 .rc 0x0 .fixed 0, fd "RSV_MISS" 7 0 .rc 0x0 .fixed 0]⟩
/-- DP_POLICY (Table 07-17). -/
def dpm_DP_POLICY : RegSpec :=
  ⟨"DP_POLICY", 0x10, 1, 0x0, 1, 0x0, false,
   [fd "MARGIN" 3 0 .rws 0x6 .fixed 7]⟩
/-- DP_SYNC (Table 07-19). -/
def dpm_DP_SYNC : RegSpec :=
  ⟨"DP_SYNC", 0x18, 1, 0x0, 1, 0x0, false,
   [fd "SYNC" 31 0 .rws 0x3b5ac0e9 .fixed 7]⟩
/-- DP_FN_CTL (Table 02-19). -/
def dpm_DP_FN_CTL : RegSpec :=
  ⟨"DP_FN_CTL", 0x80, 1, 0x4, 1, 0x0, false,
   [fd "EN" 0 0 .rw 0x0 .fixed 15]⟩
/-- DP_FN_STAT (Table 02-20). -/
def dpm_DP_FN_STAT : RegSpec :=
  ⟨"DP_FN_STAT", 0xc0, 1, 0x4, 1, 0x0, false,
   [fd "LAST_STATUS" 31 24 .ro 0x0 .fixed 0, fd "RESTART_PENDING" 4 4 .ro 0x0 .fixed 0, fd "STATE" 2 0 .ro 0x0 .fixed 0]⟩
/-- DP_SEARCH (Table 07-20). -/
def dpm_DP_SEARCH : RegSpec :=
  ⟨"DP_SEARCH", 0x200, 1, 0x100, 16, 0x4, false,
   [fd "VALID" 31 31 .rws 0x0 .fixed 7, fd "MODE" 23 16 .rws 0x0 .fixed 7, fd "OFFSET" 15 0 .rws 0x0 .fixed 7]⟩

/-- Every register of map entry dpm. -/
def dpmRegs : List RegSpec :=
  [dpm_DP_STAT, dpm_DP_COUNT0, dpm_DP_COUNT1, dpm_DP_POLICY, dpm_DP_SYNC, dpm_DP_FN_CTL, dpm_DP_FN_STAT, dpm_DP_SEARCH]

/-- DP_STAT (Table 07-14). -/
def dph_DP_STAT : RegSpec :=
  ⟨"DP_STAT", 0x0, 1, 0x0, 1, 0x0, false,
   [fd "BUSY" 24 16 .ro 0x0 .fixed 0, fd "BAD_ENTRY" 15 15 .w1c 0x0 .fixed 15, fd "HELD" 8 0 .ro 0x0 .fixed 0]⟩
/-- DP_COUNT0 (Table 07-15). -/
def dph_DP_COUNT0 : RegSpec :=
  ⟨"DP_COUNT0", 0x4, 1, 0x0, 1, 0x0, false,
   [fd "FCS_FAIL" 31 24 .rc 0x0 .fixed 0, fd "HDR_FAIL" 23 16 .rc 0x0 .fixed 0, fd "SYNC_MISS" 15 8 .rc 0x0 .fixed 0, fd "NO_LANE" 7 0 .rc 0x0 .fixed 0]⟩
/-- DP_COUNT1 (Table 07-16). -/
def dph_DP_COUNT1 : RegSpec :=
  ⟨"DP_COUNT1", 0x8, 1, 0x0, 1, 0x0, false,
   [fd "TOO_SHORT" 31 24 .rc 0x0 .fixed 0, fd "TOO_LONG" 23 16 .rc 0x0 .fixed 0, fd "PREEMPTED" 15 8 .rc 0x0 .fixed 0, fd "RSV_MISS" 7 0 .rc 0x0 .fixed 0]⟩
/-- DP_POLICY (Table 07-17). -/
def dph_DP_POLICY : RegSpec :=
  ⟨"DP_POLICY", 0x10, 1, 0x0, 1, 0x0, false,
   [fd "MARGIN" 3 0 .rws 0x6 .fixed 7]⟩
/-- DP_FN_CTL (Table 02-19). -/
def dph_DP_FN_CTL : RegSpec :=
  ⟨"DP_FN_CTL", 0x80, 1, 0x4, 1, 0x0, false,
   [fd "EN" 0 0 .rw 0x0 .fixed 15]⟩
/-- DP_FN_STAT (Table 02-20). -/
def dph_DP_FN_STAT : RegSpec :=
  ⟨"DP_FN_STAT", 0xc0, 1, 0x4, 1, 0x0, false,
   [fd "LAST_STATUS" 31 24 .ro 0x0 .fixed 0, fd "RESTART_PENDING" 4 4 .ro 0x0 .fixed 0, fd "STATE" 2 0 .ro 0x0 .fixed 0]⟩

/-- Every register of map entry dph. -/
def dphRegs : List RegSpec :=
  [dph_DP_STAT, dph_DP_COUNT0, dph_DP_COUNT1, dph_DP_POLICY, dph_DP_FN_CTL, dph_DP_FN_STAT]

/-- CAP_STAT (Table 07-22). -/
def cap_CAP_STAT : RegSpec :=
  ⟨"CAP_STAT", 0x0, 1, 0x0, 1, 0x0, false,
   [fd "TAPS" 19 16 .ro 0x0 .fixed 0, fd "RECORDS" 15 0 .ro 0x0 .fixed 0]⟩
/-- CAP_COUNT (Table 07-23). -/
def cap_CAP_COUNT : RegSpec :=
  ⟨"CAP_COUNT", 0x4, 1, 0x0, 1, 0x0, false,
   [fd "CAPTURED" 31 16 .rc 0x0 .fixed 0, fd "DROPPED" 15 8 .rc 0x0 .fixed 0, fd "TRUNCATED" 7 0 .rc 0x0 .fixed 0]⟩
/-- CAP_CFG (Table 07-24). -/
def cap_CAP_CFG : RegSpec :=
  ⟨"CAP_CFG", 0x10, 1, 0x0, 1, 0x0, false,
   [fd "PRE" 15 8 .rws 0x4 .fixed 7, fd "WIDTH" 7 6 .rws 0x1 .fixed 7, fd "RADIO_M" 5 5 .rws 0x0 .fixed 7, fd "RADIO_S" 4 4 .rws 0x0 .fixed 7, fd "T_NO_LANE" 3 3 .rws 0x0 .fixed 7, fd "T_SYNC" 2 2 .rws 0x0 .fixed 7, fd "T_HDR" 1 1 .rws 0x0 .fixed 7, fd "T_FCS" 0 0 .rws 0x0 .fixed 7]⟩
/-- CAP_LIMIT (Table 07-25). -/
def cap_CAP_LIMIT : RegSpec :=
  ⟨"CAP_LIMIT", 0x14, 1, 0x0, 1, 0x0, false,
   [fd "MAX_BLOCKS" 15 0 .rws 0x0 .fixed 7]⟩
/-- CAP_BASE_LO (Table 07-26). -/
def cap_CAP_BASE_LO : RegSpec :=
  ⟨"CAP_BASE_LO", 0x20, 1, 0x0, 1, 0x0, false,
   [fd "ADDR" 31 12 .rw 0x0 .fixed 7]⟩
/-- CAP_BASE_HI (Table 07-27). -/
def cap_CAP_BASE_HI : RegSpec :=
  ⟨"CAP_BASE_HI", 0x24, 1, 0x0, 1, 0x0, false,
   [fd "ADDR" 0 0 .rw 0x0 .fixed 7]⟩
/-- CAP_SIZE (Table 07-28). -/
def cap_CAP_SIZE : RegSpec :=
  ⟨"CAP_SIZE", 0x28, 1, 0x0, 1, 0x0, false,
   [fd "SIZE" 15 0 .rw 0x0 .fixed 7]⟩
/-- CAP_WR (Table 07-29). -/
def cap_CAP_WR : RegSpec :=
  ⟨"CAP_WR", 0x30, 1, 0x0, 1, 0x0, false,
   [fd "OFFSET" 31 0 .ro 0x0 .fixed 0]⟩
/-- CAP_RD (Table 07-29). -/
def cap_CAP_RD : RegSpec :=
  ⟨"CAP_RD", 0x34, 1, 0x0, 1, 0x0, false,
   [fd "OFFSET" 31 0 .ro 0x0 .fixed 0]⟩
/-- CAP_FN_CTL (Table 02-19). -/
def cap_CAP_FN_CTL : RegSpec :=
  ⟨"CAP_FN_CTL", 0x80, 1, 0x4, 1, 0x0, false,
   [fd "EN" 0 0 .rw 0x0 .fixed 15]⟩
/-- CAP_FN_STAT (Table 02-20). -/
def cap_CAP_FN_STAT : RegSpec :=
  ⟨"CAP_FN_STAT", 0xc0, 1, 0x4, 1, 0x0, false,
   [fd "LAST_STATUS" 31 24 .ro 0x0 .fixed 0, fd "RESTART_PENDING" 4 4 .ro 0x0 .fixed 0, fd "STATE" 2 0 .ro 0x0 .fixed 0]⟩

/-- Every register of map entry cap. -/
def capRegs : List RegSpec :=
  [cap_CAP_STAT, cap_CAP_COUNT, cap_CAP_CFG, cap_CAP_LIMIT, cap_CAP_BASE_LO, cap_CAP_BASE_HI, cap_CAP_SIZE, cap_CAP_WR, cap_CAP_RD, cap_CAP_FN_CTL, cap_CAP_FN_STAT]

end Sys2Proof.Machine.RegTable
end

