-- ==== Sys2Proof/Machine/RegTableC.lean ====
section
/-!
DEFINITION. The register tables of the spec for the map entries acc, drl, lnk, reg, rtr: one row a register
(offset, instances, fields with type, reset value and rights), R12 to R15, R39, R52.
-/
namespace Sys2Proof.Machine.RegTable
open Sys2Proof.Machine

/-- ACC_STAT (Table 08-6). -/
def acc_ACC_STAT : RegSpec :=
  ⟨"ACC_STAT", 0x0, 1, 0x0, 1, 0x0, false,
   [fd "NEXT_LEVEL" 22 16 .ro 0x0 .fixed 0, fd "SWAP_PENDING" 1 1 .ro 0x0 .fixed 0, fd "BAD_ENTRY" 0 0 .w1c 0x0 .fixed 15]⟩
/-- ACC_COUNT (Table 08-7). -/
def acc_ACC_COUNT : RegSpec :=
  ⟨"ACC_COUNT", 0x4, 1, 0x0, 1, 0x0, false,
   [fd "SKIPPED" 31 24 .rc 0x0 .fixed 0, fd "EDIT_BUSY" 23 16 .rc 0x0 .fixed 0, fd "CQ_FAILED" 15 8 .rc 0x0 .fixed 0, fd "BAD" 7 0 .rc 0x0 .fixed 0]⟩
/-- ACC_LAPNUM (Table 08-8). -/
def acc_ACC_LAPNUM : RegSpec :=
  ⟨"ACC_LAPNUM", 0x8, 1, 0x0, 1, 0x0, false,
   [fd "LAPNUM" 31 0 .ro 0x0 .fixed 0]⟩
/-- ACC_LAP (Table 08-9). -/
def acc_ACC_LAP : RegSpec :=
  ⟨"ACC_LAP", 0x10, 1, 0x0, 1, 0x0, false,
   [fd "LAP" 12 0 .rws 0x1 .fixed 7]⟩
/-- ACC_OFFER (Table 08-10). -/
def acc_ACC_OFFER : RegSpec :=
  ⟨"ACC_OFFER", 0x14, 1, 0x0, 1, 0x0, false,
   [fd "LEAD" 15 0 .rw 0x3e8 .fixed 7]⟩
/-- ACC_WAKE (Table 08-11). -/
def acc_ACC_WAKE : RegSpec :=
  ⟨"ACC_WAKE", 0x18, 1, 0x0, 1, 0x0, false,
   [fd "SETTLE" 15 0 .rws 0x7d0 .fixed 7]⟩
/-- ACC_BACKOFF (Table 08-12). -/
def acc_ACC_BACKOFF : RegSpec :=
  ⟨"ACC_BACKOFF", 0x1c, 1, 0x0, 1, 0x0, false,
   [fd "MAX_TRIES" 31 28 .rws 0x4 .fixed 7, fd "MAX_BE" 27 24 .rws 0x5 .fixed 7, fd "MIN_BE" 23 20 .rws 0x3 .fixed 7, fd "BSLOT" 15 0 .rws 0x140 .fixed 7]⟩
/-- ACC_NEXT (Table 05-21). -/
def acc_ACC_NEXT : RegSpec :=
  ⟨"ACC_NEXT", 0x20, 1, 0x0, 1, 0x0, false,
   [fd "VALID" 31 31 .ro 0x0 .fixed 0, fd "ENTRY" 13 0 .ro 0x0 .fixed 0]⟩
/-- ACC_EDIT_CMD (Table 08-13). -/
def acc_ACC_EDIT_CMD : RegSpec :=
  ⟨"ACC_EDIT_CMD", 0x30, 1, 0x0, 1, 0x0, false,
   [fd "STATUS" 31 24 .ro 0x0 .fixed 0, fd "BUSY" 8 8 .ro 0x0 .fixed 0, fd "ACTIVE" 3 3 .wo 0x0 .fixed 15, fd "OP" 2 0 .wo 0x0 .fixed 15]⟩
/-- ACC_EDIT_IDX (Table 08-14). -/
def acc_ACC_EDIT_IDX : RegSpec :=
  ⟨"ACC_EDIT_IDX", 0x34, 1, 0x0, 1, 0x0, false,
   [fd "COUNT" 30 16 .rw 0x1 .fixed 15, fd "IDX" 13 0 .rw 0x0 .fixed 15]⟩
/-- ACC_EDIT_ADDR_LO (Table 08-15). -/
def acc_ACC_EDIT_ADDR_LO : RegSpec :=
  ⟨"ACC_EDIT_ADDR_LO", 0x38, 1, 0x0, 1, 0x0, false,
   [fd "ADDR" 31 3 .rw 0x0 .fixed 15]⟩
/-- ACC_EDIT_ADDR_HI (Table 08-16). -/
def acc_ACC_EDIT_ADDR_HI : RegSpec :=
  ⟨"ACC_EDIT_ADDR_HI", 0x3c, 1, 0x0, 1, 0x0, false,
   [fd "ADDR" 7 0 .rw 0x0 .fixed 15]⟩
/-- ACC_EDIT_DATA (Table 08-17). -/
def acc_ACC_EDIT_DATA : RegSpec :=
  ⟨"ACC_EDIT_DATA", 0x40, 8, 0x4, 1, 0x0, false,
   [fd "DATA" 31 0 .rw 0x0 .fixed 15]⟩
/-- ACC_CQ_CFG (Table 08-18). -/
def acc_ACC_CQ_CFG : RegSpec :=
  ⟨"ACC_CQ_CFG", 0x100, 4, 0x8, 1, 0x0, false,
   [fd "SIZE" 31 20 .rw 0x0 .fixed 7, fd "BASE" 18 0 .rw 0x0 .fixed 7]⟩
/-- ACC_CQ_PTR (Table 08-19). -/
def acc_ACC_CQ_PTR : RegSpec :=
  ⟨"ACC_CQ_PTR", 0x104, 4, 0x8, 1, 0x0, false,
   [fd "TAIL" 27 16 .rw 0x0 .fixed 7, fd "HEAD" 11 0 .ro 0x0 .fixed 0]⟩

/-- Every register of map entry acc. -/
def accRegs : List RegSpec :=
  [acc_ACC_STAT, acc_ACC_COUNT, acc_ACC_LAPNUM, acc_ACC_LAP, acc_ACC_OFFER, acc_ACC_WAKE, acc_ACC_BACKOFF, acc_ACC_NEXT, acc_ACC_EDIT_CMD, acc_ACC_EDIT_IDX, acc_ACC_EDIT_ADDR_LO, acc_ACC_EDIT_ADDR_HI] ++
  [acc_ACC_EDIT_DATA, acc_ACC_CQ_CFG, acc_ACC_CQ_PTR]

/-- DRL_COUNT (Table 09-18). -/
def drl_DRL_COUNT : RegSpec :=
  ⟨"DRL_COUNT", 0x0, 1, 0x0, 1, 0x0, false,
   [fd "CONTACTS" 31 16 .rc 0x0 .fixed 0, fd "LOST" 15 8 .rc 0x0 .fixed 0, fd "RESETS" 7 0 .rc 0x0 .fixed 0]⟩
/-- DRL_LOST (Table 09-19). -/
def drl_DRL_LOST : RegSpec :=
  ⟨"DRL_LOST", 0x4, 1, 0x0, 1, 0x0, false,
   [fd "VALID" 31 31 .ro 0x0 .fixed 0, fd "OVERFLOW" 30 30 .w1c 0x0 .fixed 15, fd "HANDLE" 17 0 .ro 0x0 .fixed 0]⟩
/-- DRL_CFG0 (Table 09-20). -/
def drl_DRL_CFG0 : RegSpec :=
  ⟨"DRL_CFG0", 0x10, 1, 0x0, 1, 0x0, false,
   [fd "K" 31 24 .rws 0x30 .fixed 7, fd "GMIN" 15 0 .rws 0x3e8 .fixed 7]⟩
/-- DRL_CFG1 (Table 09-21). -/
def drl_DRL_CFG1 : RegSpec :=
  ⟨"DRL_CFG1", 0x14, 1, 0x0, 1, 0x0, false,
   [fd "TOL" 31 24 .rws 0x14 .fixed 7, fd "JIT" 15 0 .rws 0x1f4 .fixed 7]⟩
/-- DRL_CFG2 (Table 09-22). -/
def drl_DRL_CFG2 : RegSpec :=
  ⟨"DRL_CFG2", 0x18, 1, 0x0, 1, 0x0, false,
   [fd "QR" 31 24 .rws 0xa .fixed 7, fd "LEARN" 23 12 .rws 0x1f4 .fixed 7, fd "MINGAP" 11 0 .rws 0x258 .fixed 7]⟩
/-- DRL_GNEW (Table 09-23). -/
def drl_DRL_GNEW : RegSpec :=
  ⟨"DRL_GNEW", 0x1c, 1, 0x0, 1, 0x0, false,
   [fd "GNEW" 11 0 .rws 0x3e8 .fixed 7]⟩
/-- DRL_FN_CTL (Table 02-19). -/
def drl_DRL_FN_CTL : RegSpec :=
  ⟨"DRL_FN_CTL", 0x80, 1, 0x4, 1, 0x0, false,
   [fd "EN" 0 0 .rw 0x0 .fixed 15]⟩
/-- DRL_FN_STAT (Table 02-20). -/
def drl_DRL_FN_STAT : RegSpec :=
  ⟨"DRL_FN_STAT", 0xc0, 1, 0x4, 1, 0x0, false,
   [fd "LAST_STATUS" 31 24 .ro 0x0 .fixed 0, fd "RESTART_PENDING" 4 4 .ro 0x0 .fixed 0, fd "STATE" 2 0 .ro 0x0 .fixed 0]⟩

/-- Every register of map entry drl. -/
def drlRegs : List RegSpec :=
  [drl_DRL_COUNT, drl_DRL_LOST, drl_DRL_CFG0, drl_DRL_CFG1, drl_DRL_CFG2, drl_DRL_GNEW, drl_DRL_FN_CTL, drl_DRL_FN_STAT]

/-- LNK_STAT (Table 09-8). -/
def lnk_LNK_STAT : RegSpec :=
  ⟨"LNK_STAT", 0x0, 1, 0x0, 1, 0x0, false,
   [fd "HELD" 5 0 .ro 0x0 .fixed 0]⟩
/-- LNK_COUNT0 (Table 09-9). -/
def lnk_LNK_COUNT0 : RegSpec :=
  ⟨"LNK_COUNT0", 0x4, 1, 0x0, 1, 0x0, false,
   [fd "DUPLICATE" 31 24 .rc 0x0 .fixed 0, fd "STALE" 23 16 .rc 0x0 .fixed 0, fd "NO_CONTEXT" 15 8 .rc 0x0 .fixed 0, fd "MALFORMED" 7 0 .rc 0x0 .fixed 0]⟩
/-- LNK_COUNT1 (Table 09-10). -/
def lnk_LNK_COUNT1 : RegSpec :=
  ⟨"LNK_COUNT1", 0x8, 1, 0x0, 1, 0x0, false,
   [fd "ACK_FIRST" 31 24 .rc 0x0 .fixed 0, fd "ACK_SECOND" 23 16 .rc 0x0 .fixed 0, fd "ACK_MISSED" 15 8 .rc 0x0 .fixed 0, fd "HOLD_DROP" 7 0 .rc 0x0 .fixed 0]⟩
/-- LNK_CFG (Table 09-11). -/
def lnk_LNK_CFG : RegSpec :=
  ⟨"LNK_CFG", 0x10, 1, 0x0, 1, 0x0, false,
   [fd "COPY_SPAN" 31 24 .rws 0x14 .fixed 7, fd "ACK2" 23 16 .rws 0x0 .fixed 7, fd "ALT_DELAY" 15 0 .rws 0xc8 .fixed 7]⟩
/-- LNK_ACKPWR (Table 09-12). -/
def lnk_LNK_ACKPWR : RegSpec :=
  ⟨"LNK_ACKPWR", 0x14, 1, 0x0, 1, 0x0, false,
   [fd "POWER_H" 23 16 .rws 0x0 .fixed 7, fd "POWER_M" 15 8 .rws 0x0 .fixed 7, fd "POWER_S" 7 0 .rws 0x0 .fixed 7]⟩
/-- LNK_CMD (Table 09-13). -/
def lnk_LNK_CMD : RegSpec :=
  ⟨"LNK_CMD", 0x20, 1, 0x0, 1, 0x0, false,
   [fd "STATUS" 31 24 .ro 0x0 .fixed 0, fd "BUSY" 8 8 .ro 0x0 .fixed 0, fd "OP" 3 0 .wo 0x0 .fixed 7]⟩
/-- LNK_HANDLE (Table 09-14). -/
def lnk_LNK_HANDLE : RegSpec :=
  ⟨"LNK_HANDLE", 0x24, 1, 0x0, 1, 0x0, false,
   [fd "HANDLE" 17 0 .rw 0x0 .fixed 7]⟩
/-- LNK_DATA (Table 09-15). -/
def lnk_LNK_DATA : RegSpec :=
  ⟨"LNK_DATA", 0x40, 16, 0x4, 1, 0x0, false,
   [fd "DATA" 31 0 .rw 0x0 .fixed 7]⟩
/-- LNK_FN_CTL (Table 02-19). -/
def lnk_LNK_FN_CTL : RegSpec :=
  ⟨"LNK_FN_CTL", 0x80, 1, 0x4, 1, 0x0, false,
   [fd "EN" 0 0 .rw 0x0 .fixed 15]⟩
/-- LNK_FN_STAT (Table 02-20). -/
def lnk_LNK_FN_STAT : RegSpec :=
  ⟨"LNK_FN_STAT", 0xc0, 1, 0x4, 1, 0x0, false,
   [fd "LAST_STATUS" 31 24 .ro 0x0 .fixed 0, fd "RESTART_PENDING" 4 4 .ro 0x0 .fixed 0, fd "STATE" 2 0 .ro 0x0 .fixed 0]⟩
/-- LNK_PEER (Table 09-16). -/
def lnk_LNK_PEER : RegSpec :=
  ⟨"LNK_PEER", 0x100, 64, 0x4, 1, 0x0, false,
   [fd "VALID" 31 31 .rw 0x0 .fixed 7, fd "HANDLE" 17 0 .rw 0x0 .fixed 7]⟩

/-- Every register of map entry lnk. -/
def lnkRegs : List RegSpec :=
  [lnk_LNK_STAT, lnk_LNK_COUNT0, lnk_LNK_COUNT1, lnk_LNK_CFG, lnk_LNK_ACKPWR, lnk_LNK_CMD, lnk_LNK_HANDLE, lnk_LNK_DATA, lnk_LNK_FN_CTL, lnk_LNK_FN_STAT, lnk_LNK_PEER]

/-- REG_STAT (Table 06-21). -/
def reg_REG_STAT : RegSpec :=
  ⟨"REG_STAT", 0x0, 1, 0x0, 1, 0x0, false,
   [fd "RECOMPUTING" 3 3 .ro 0x0 .fixed 0, fd "MERGED" 2 2 .w1c 0x0 .fixed 14, fd "REGION_BUSY" 1 1 .w1c 0x0 .fixed 14, fd "BAD_REGION" 0 0 .w1c 0x0 .fixed 14]⟩
/-- REG_REGION (Table 06-22). -/
def reg_REG_REGION : RegSpec :=
  ⟨"REG_REGION", 0x4, 1, 0x0, 1, 0x0, false,
   [fd "ENABLED" 7 4 .rw 0x0 .nv 4, fd "PROFILE" 1 0 .rw 0x0 .nv 6]⟩
/-- REG_REFUSALS (Table 06-23). -/
def reg_REG_REFUSALS : RegSpec :=
  ⟨"REG_REFUSALS", 0x8, 1, 0x0, 1, 0x0, false,
   [fd "DUTY" 31 24 .rc 0x0 .fixed 0, fd "LBT" 23 16 .rc 0x0 .fixed 0, fd "LIMIT" 15 8 .rc 0x0 .fixed 0]⟩
/-- REG_SITE (Table 06-24). -/
def reg_REG_SITE : RegSpec :=
  ⟨"REG_SITE", 0x10, 12, 0x4, 1, 0x0, false,
   [fd "ANT_GAIN" 15 8 .rw 0x0 .nv 2, fd "CABLE_LOSS" 7 0 .rw 0x0 .nv 2]⟩
/-- REG_TIGHT (Table 06-25). -/
def reg_REG_TIGHT : RegSpec :=
  ⟨"REG_TIGHT", 0x200, 16, 0x4, 1, 0x0, false,
   [fd "EIRP_CAP" 31 24 .rw 0x7f .nv 2, fd "LBT_FORCE" 23 23 .rw 0x0 .nv 2, fd "DUTY_CAP" 21 0 .rw 0x36ee80 .nv 2]⟩
/-- REG_USED (Table 06-26). -/
def reg_REG_USED : RegSpec :=
  ⟨"REG_USED", 0x300, 16, 0x4, 1, 0x0, false,
   [fd "USED" 21 0 .ro 0x0 .fixed 0]⟩
/-- REG_SB_LO (Table 06-27). -/
def reg_REG_SB_LO : RegSpec :=
  ⟨"REG_SB_LO", 0x400, 4, 0x200, 16, 0x20, false,
   [fd "FREQ" 22 0 .rw 0x0 .nv 4]⟩
/-- REG_SB_HI (Table 06-27). -/
def reg_REG_SB_HI : RegSpec :=
  ⟨"REG_SB_HI", 0x404, 4, 0x200, 16, 0x20, false,
   [fd "FREQ" 22 0 .rw 0x0 .nv 4]⟩
/-- REG_SB_DUTY (Table 06-28). -/
def reg_REG_SB_DUTY : RegSpec :=
  ⟨"REG_SB_DUTY", 0x408, 4, 0x200, 16, 0x20, false,
   [fd "OFF" 31 22 .rw 0x0 .nv 4, fd "BUDGET" 21 0 .rw 0x0 .nv 4]⟩
/-- REG_SB_RULES (Table 06-29). -/
def reg_REG_SB_RULES : RegSpec :=
  ⟨"REG_SB_RULES", 0x40c, 4, 0x200, 16, 0x20, false,
   [fd "EIRP_MAX" 31 24 .rw 0x0 .nv 4, fd "DWELL" 23 8 .rw 0x0 .nv 4, fd "DFS" 2 2 .rw 0x0 .nv 4, fd "LBT" 1 1 .rw 0x0 .nv 4, fd "OPEN" 0 0 .rw 0x0 .nv 4]⟩
/-- REG_SB_LBT (Table 06-30). -/
def reg_REG_SB_LBT : RegSpec :=
  ⟨"REG_SB_LBT", 0x410, 4, 0x200, 16, 0x20, false,
   [fd "THRESH" 31 24 .rw 0x0 .nv 4, fd "LISTEN" 15 0 .rw 0x0 .nv 4]⟩

/-- Every register of map entry reg. -/
def regRegs : List RegSpec :=
  [reg_REG_STAT, reg_REG_REGION, reg_REG_REFUSALS, reg_REG_SITE, reg_REG_TIGHT, reg_REG_USED, reg_REG_SB_LO, reg_REG_SB_HI, reg_REG_SB_DUTY, reg_REG_SB_RULES, reg_REG_SB_LBT]

/-- RTR_STAT (Table 10-8). -/
def rtr_RTR_STAT : RegSpec :=
  ⟨"RTR_STAT", 0x0, 1, 0x0, 1, 0x0, false,
   [fd "INFLIGHT" 27 16 .ro 0x0 .fixed 0, fd "SWEEP" 2 2 .ro 0x0 .fixed 0, fd "COMMIT_PENDING" 1 1 .ro 0x0 .fixed 0, fd "CFG_LOCKED" 0 0 .w1c 0x0 .fixed 15]⟩
/-- RTR_COUNT0 (Table 10-9). -/
def rtr_RTR_COUNT0 : RegSpec :=
  ⟨"RTR_COUNT0", 0x4, 1, 0x0, 1, 0x0, false,
   [fd "NO_DEST" 31 24 .rc 0x0 .fixed 0, fd "PARSE_SHORT" 23 16 .rc 0x0 .fixed 0, fd "RECIRC_LIMIT" 15 8 .rc 0x0 .fixed 0, fd "TTL" 7 0 .rc 0x0 .fixed 0]⟩
/-- RTR_COUNT1 (Table 10-10). -/
def rtr_RTR_COUNT1 : RegSpec :=
  ⟨"RTR_COUNT1", 0x8, 1, 0x0, 1, 0x0, false,
   [fd "OFF_DROP" 31 24 .rc 0x0 .fixed 0, fd "INJ_REFUSED" 23 16 .rc 0x0 .fixed 0, fd "EDIT_SKIP" 15 8 .rc 0x0 .fixed 0, fd "RETIRED" 7 0 .rc 0x0 .fixed 0]⟩
/-- RTR_CFG (Table 10-11). -/
def rtr_RTR_CFG : RegSpec :=
  ⟨"RTR_CFG", 0xc, 1, 0x0, 1, 0x0, false,
   [fd "EXC_RQ" 15 0 .rw 0x0 .fixed 7]⟩
/-- RTR_VER (Table 10-12). -/
def rtr_RTR_VER : RegSpec :=
  ⟨"RTR_VER", 0x10, 1, 0x0, 1, 0x0, false,
   [fd "OPEN" 31 16 .ro 0x1 .fixed 0, fd "CURRENT" 15 0 .ro 0x0 .fixed 0]⟩
/-- RTR_LIVE (Table 10-13). -/
def rtr_RTR_LIVE : RegSpec :=
  ⟨"RTR_LIVE", 0x20, 4, 0x4, 1, 0x0, false,
   [fd "VALID" 31 31 .ro 0x0 .fixed 0, fd "INFLIGHT" 27 16 .ro 0x0 .fixed 0, fd "VERSION" 15 0 .ro 0x0 .fixed 0]⟩
/-- RTR_COMMIT_CMD (Table 10-14). -/
def rtr_RTR_COMMIT_CMD : RegSpec :=
  ⟨"RTR_COMMIT_CMD", 0x30, 1, 0x0, 1, 0x0, false,
   [fd "STATUS" 31 24 .ro 0x0 .fixed 0, fd "PENDING" 8 8 .ro 0x0 .fixed 0, fd "OP" 1 0 .wo 0x0 .fixed 7]⟩
/-- RTR_COMMIT_NS (Table 10-15). -/
def rtr_RTR_COMMIT_NS : RegSpec :=
  ⟨"RTR_COMMIT_NS", 0x34, 1, 0x0, 1, 0x0, false,
   [fd "NS" 29 0 .rw 0x0 .fixed 7]⟩
/-- RTR_COMMIT_SEC (Table 10-16). -/
def rtr_RTR_COMMIT_SEC : RegSpec :=
  ⟨"RTR_COMMIT_SEC", 0x38, 1, 0x0, 1, 0x0, false,
   [fd "SEC" 31 0 .rw 0x0 .fixed 7]⟩
/-- RTR_EDIT_CMD (Table 10-17). -/
def rtr_RTR_EDIT_CMD : RegSpec :=
  ⟨"RTR_EDIT_CMD", 0x40, 1, 0x0, 1, 0x0, false,
   [fd "STATUS" 31 24 .ro 0x0 .fixed 0, fd "FOUND" 9 9 .ro 0x0 .fixed 0, fd "BUSY" 8 8 .ro 0x0 .fixed 0, fd "OP" 3 0 .wo 0x0 .fixed 7]⟩
/-- RTR_EDIT_ARG (Table 10-18). -/
def rtr_RTR_EDIT_ARG : RegSpec :=
  ⟨"RTR_EDIT_ARG", 0x44, 1, 0x0, 1, 0x0, false,
   [fd "VER" 31 16 .rw 0x0 .fixed 7, fd "STAGE" 15 13 .rw 0x0 .fixed 7, fd "PARAM" 10 0 .rw 0x0 .fixed 7]⟩
/-- RTR_FN_CTL (Table 02-19). -/
def rtr_RTR_FN_CTL : RegSpec :=
  ⟨"RTR_FN_CTL", 0x80, 1, 0x4, 1, 0x0, false,
   [fd "EN" 0 0 .rw 0x0 .fixed 15]⟩
/-- RTR_FN_STAT (Table 02-20). -/
def rtr_RTR_FN_STAT : RegSpec :=
  ⟨"RTR_FN_STAT", 0xc0, 1, 0x4, 1, 0x0, false,
   [fd "LAST_STATUS" 31 24 .ro 0x0 .fixed 0, fd "RESTART_PENDING" 4 4 .ro 0x0 .fixed 0, fd "STATE" 2 0 .ro 0x0 .fixed 0]⟩
/-- RTR_EDIT_DATA (Table 10-19). -/
def rtr_RTR_EDIT_DATA : RegSpec :=
  ⟨"RTR_EDIT_DATA", 0x100, 24, 0x4, 1, 0x0, false,
   [fd "DATA" 31 0 .rw 0x0 .fixed 7]⟩
/-- RTR_STAGE_CFG (Table 10-20). -/
def rtr_RTR_STAGE_CFG : RegSpec :=
  ⟨"RTR_STAGE_CFG", 0x180, 6, 0x4, 1, 0x0, false,
   [fd "KIND" 31 30 .rw 0x0 .fixed 7, fd "V6" 29 29 .rw 0x0 .fixed 7, fd "SIZE" 26 16 .rw 0x0 .fixed 7, fd "BASE" 9 0 .rw 0x0 .fixed 7]⟩
/-- RTR_STAGE_KEY (Table 10-21). -/
def rtr_RTR_STAGE_KEY : RegSpec :=
  ⟨"RTR_STAGE_KEY", 0x1a0, 6, 0x10, 4, 0x4, false,
   [fd "SRC" 13 13 .rw 0x0 .fixed 7, fd "LEN" 12 8 .rw 0x0 .fixed 7, fd "OFFSET" 5 0 .rw 0x0 .fixed 7]⟩
/-- RTR_SEL_A (Table 10-22). -/
def rtr_RTR_SEL_A : RegSpec :=
  ⟨"RTR_SEL_A", 0x200, 32, 0x8, 1, 0x0, false,
   [fd "VALUE" 31 16 .rw 0x0 .fixed 7, fd "MASK" 15 0 .rw 0x0 .fixed 7]⟩
/-- RTR_SEL_B (Table 10-23). -/
def rtr_RTR_SEL_B : RegSpec :=
  ⟨"RTR_SEL_B", 0x204, 32, 0x8, 1, 0x0, false,
   [fd "VALID" 31 31 .rw 0x0 .fixed 7, fd "PORT" 30 24 .rw 0x0 .fixed 7, fd "PORT_MASK" 23 17 .rw 0x0 .fixed 7, fd "TEMPLATE" 11 8 .rw 0x0 .fixed 7, fd "OFFSET" 7 0 .rw 0x0 .fixed 7]⟩
/-- RTR_TPL_CFG (Table 10-24). -/
def rtr_RTR_TPL_CFG : RegSpec :=
  ⟨"RTR_TPL_CFG", 0x300, 16, 0x4, 1, 0x0, false,
   [fd "MISS" 1 0 .rw 0x1 .fixed 7]⟩
/-- RTR_INJ_CFG (Table 10-27). -/
def rtr_RTR_INJ_CFG : RegSpec :=
  ⟨"RTR_INJ_CFG", 0x340, 8, 0x8, 1, 0x0, false,
   [fd "SIZE" 31 20 .rw 0x0 .fixed 7, fd "BASE" 18 0 .rw 0x0 .fixed 7]⟩
/-- RTR_INJ_PTR (Table 10-28). -/
def rtr_RTR_INJ_PTR : RegSpec :=
  ⟨"RTR_INJ_PTR", 0x344, 8, 0x8, 1, 0x0, false,
   [fd "TAIL" 27 16 .rw 0x0 .fixed 7, fd "HEAD" 11 0 .ro 0x0 .fixed 0]⟩
/-- RTR_TPL_WIN (Table 10-25). -/
def rtr_RTR_TPL_WIN : RegSpec :=
  ⟨"RTR_TPL_WIN", 0x400, 16, 0x40, 16, 0x4, false,
   [fd "VALID" 31 31 .rw 0x0 .fixed 7, fd "REQ" 30 30 .rw 0x0 .fixed 7, fd "DEST" 29 24 .rw 0x0 .fixed 7, fd "LENM1" 23 20 .rw 0x0 .fixed 7, fd "OFFSET" 7 0 .rw 0x0 .fixed 7]⟩
/-- RTR_PORT (Table 10-26). -/
def rtr_RTR_PORT : RegSpec :=
  ⟨"RTR_PORT", 0x800, 128, 0x4, 1, 0x0, false,
   [fd "EN" 31 31 .rw 0x0 .fixed 7, fd "DEF_TPL" 11 8 .rw 0x0 .fixed 7, fd "PHYS" 2 0 .rw 0x0 .fixed 7]⟩

/-- Every register of map entry rtr. -/
def rtrRegs : List RegSpec :=
  [rtr_RTR_STAT, rtr_RTR_COUNT0, rtr_RTR_COUNT1, rtr_RTR_CFG, rtr_RTR_VER, rtr_RTR_LIVE, rtr_RTR_COMMIT_CMD, rtr_RTR_COMMIT_NS, rtr_RTR_COMMIT_SEC, rtr_RTR_EDIT_CMD, rtr_RTR_EDIT_ARG, rtr_RTR_FN_CTL] ++
  [rtr_RTR_FN_STAT, rtr_RTR_EDIT_DATA, rtr_RTR_STAGE_CFG, rtr_RTR_STAGE_KEY, rtr_RTR_SEL_A, rtr_RTR_SEL_B, rtr_RTR_TPL_CFG, rtr_RTR_INJ_CFG, rtr_RTR_INJ_PTR, rtr_RTR_TPL_WIN, rtr_RTR_PORT]

end Sys2Proof.Machine.RegTable
end

