-- ==== Sys2Proof/Machine/RegTableD.lean ====
section
/-!
DEFINITION. The register tables of the spec for the map entries tm, emac, pcie, spm, rq, dmc: one row a register
(offset, instances, fields with type, reset value and rights), R12 to R15, R39, R52.
-/
namespace Sys2Proof.Machine.RegTable
open Sys2Proof.Machine

/-- TM_STAT (Table 11-15). -/
def tm_TM_STAT : RegSpec :=
  ⟨"TM_STAT", 0x0, 1, 0x0, 1, 0x0, false,
   [fd "FREE" 31 16 .ro 0x4000 .fixed 0, fd "GATE_REJECT" 15 15 .w1c 0x0 .fixed 15, fd "PARKED" 11 0 .ro 0x0 .fixed 0]⟩
/-- TM_FRAME (Table 11-16). -/
def tm_TM_FRAME : RegSpec :=
  ⟨"TM_FRAME", 0x4, 1, 0x0, 1, 0x0, false,
   [fd "MAX_FRAME" 13 0 .rw 0x5f2 .fixed 7]⟩
/-- TM_SMP_CFG (Table 11-17). -/
def tm_TM_SMP_CFG : RegSpec :=
  ⟨"TM_SMP_CFG", 0x8, 1, 0x0, 1, 0x0, false,
   [fd "SKIPS" 31 24 .rc 0x0 .fixed 0, fd "EN" 23 23 .rw 0x0 .fixed 7, fd "PERIOD" 19 0 .rw 0x3e8 .fixed 7]⟩
/-- TM_QSEL (Table 11-18). -/
def tm_TM_QSEL : RegSpec :=
  ⟨"TM_QSEL", 0x10, 1, 0x0, 1, 0x0, false,
   [fd "Q" 10 0 .rw 0x0 .fixed 7]⟩
/-- TM_QCFG (Table 11-19). -/
def tm_TM_QCFG : RegSpec :=
  ⟨"TM_QCFG", 0x14, 1, 0x0, 1, 0x0, false,
   [fd "WEIGHT" 31 24 .rw 0x1 .fixed 7, fd "SAMPLE" 23 23 .rw 0x0 .fixed 7, fd "LIMIT" 14 0 .rw 0x400 .fixed 7]⟩
/-- TM_QSHAPE (Table 11-20). -/
def tm_TM_QSHAPE : RegSpec :=
  ⟨"TM_QSHAPE", 0x18, 1, 0x0, 1, 0x0, false,
   [fd "RATE" 31 8 .rw 0x0 .fixed 7, fd "BURST" 7 0 .rw 0x0 .fixed 7]⟩
/-- TM_QSTAT (Table 11-21). -/
def tm_TM_QSTAT : RegSpec :=
  ⟨"TM_QSTAT", 0x1c, 1, 0x0, 1, 0x0, false,
   [fd "DEPTH" 31 16 .ro 0x0 .fixed 0, fd "DROPS" 15 8 .rc 0x0 .fixed 0, fd "PARKED" 0 0 .ro 0x0 .fixed 0]⟩
/-- TM_SMP_RING_BASE_LO (Table 11-5). -/
def tm_TM_SMP_RING_BASE_LO : RegSpec :=
  ⟨"TM_SMP_RING_BASE_LO", 0x20, 1, 0x0, 1, 0x0, false,
   [fd "ADDR" 31 6 .rw 0x0 .fixed 7]⟩
/-- TM_SMP_RING_BASE_HI (Table 11-6). -/
def tm_TM_SMP_RING_BASE_HI : RegSpec :=
  ⟨"TM_SMP_RING_BASE_HI", 0x24, 1, 0x0, 1, 0x0, false,
   [fd "ADDR" 31 0 .rw 0x0 .fixed 7]⟩
/-- TM_SMP_RING_SIZE (Table 11-7). -/
def tm_TM_SMP_RING_SIZE : RegSpec :=
  ⟨"TM_SMP_RING_SIZE", 0x28, 1, 0x0, 1, 0x0, false,
   [fd "SIZE" 15 0 .rw 0x0 .fixed 7]⟩
/-- TM_SMP_RING_PTR (Table 11-8). -/
def tm_TM_SMP_RING_PTR : RegSpec :=
  ⟨"TM_SMP_RING_PTR", 0x2c, 1, 0x0, 1, 0x0, false,
   [fd "SW" 31 16 .rw 0x0 .fixed 7, fd "HW" 15 0 .ro 0x0 .fixed 0]⟩
/-- TM_GATE_ADDR (Table 11-22). -/
def tm_TM_GATE_ADDR : RegSpec :=
  ⟨"TM_GATE_ADDR", 0x30, 1, 0x0, 1, 0x0, false,
   [fd "PORT" 18 16 .rw 0x0 .fixed 7, fd "VIEW" 15 15 .rw 0x0 .fixed 7, fd "INDEX" 8 0 .rw 0x0 .fixed 7]⟩
/-- TM_GATE_LO (Table 11-23). -/
def tm_TM_GATE_LO : RegSpec :=
  ⟨"TM_GATE_LO", 0x34, 1, 0x0, 1, 0x0, false,
   [fd "DATA" 31 0 .rw 0x0 .undef 7]⟩
/-- TM_GATE_HI (Table 11-23). -/
def tm_TM_GATE_HI : RegSpec :=
  ⟨"TM_GATE_HI", 0x38, 1, 0x0, 1, 0x0, false,
   [fd "DATA" 31 0 .rw 0x0 .undef 7]⟩
/-- TM_SL_CFG (Table 11-24). -/
def tm_TM_SL_CFG : RegSpec :=
  ⟨"TM_SL_CFG", 0x40, 7, 0x4, 1, 0x0, false,
   [fd "COARSE_MASK" 31 16 .rw 0xffff .fixed 7, fd "COARSE_DOPEN" 1 1 .rw 0x1 .fixed 7, fd "STRICT" 0 0 .rw 0x0 .fixed 7]⟩
/-- TM_SL_STAT (Table 11-25). -/
def tm_TM_SL_STAT : RegSpec :=
  ⟨"TM_SL_STAT", 0x60, 7, 0x4, 1, 0x0, false,
   [fd "LAST" 31 24 .ro 0x0 .fixed 0, fd "LATE_STARTS" 23 16 .rc 0x0 .fixed 0, fd "PENDING" 15 15 .ro 0x0 .fixed 0, fd "COUNT" 8 0 .ro 0x0 .fixed 0]⟩
/-- TM_FN_CTL (Table 02-19). -/
def tm_TM_FN_CTL : RegSpec :=
  ⟨"TM_FN_CTL", 0x80, 1, 0x4, 1, 0x0, false,
   [fd "EN" 0 0 .rw 0x0 .fixed 15]⟩
/-- TM_FN_STAT (Table 02-20). -/
def tm_TM_FN_STAT : RegSpec :=
  ⟨"TM_FN_STAT", 0xc0, 1, 0x4, 1, 0x0, false,
   [fd "LAST_STATUS" 31 24 .ro 0x0 .fixed 0, fd "RESTART_PENDING" 4 4 .ro 0x0 .fixed 0, fd "STATE" 2 0 .ro 0x0 .fixed 0]⟩
/-- TM_PORT (Table 11-26). -/
def tm_TM_PORT : RegSpec :=
  ⟨"TM_PORT", 0x200, 128, 0x4, 1, 0x0, false,
   [fd "OVERHEAD" 7 0 .rw 0x0 .fixed 7]⟩

/-- Every register of map entry tm. -/
def tmRegs : List RegSpec :=
  [tm_TM_STAT, tm_TM_FRAME, tm_TM_SMP_CFG, tm_TM_QSEL, tm_TM_QCFG, tm_TM_QSHAPE, tm_TM_QSTAT, tm_TM_SMP_RING_BASE_LO, tm_TM_SMP_RING_BASE_HI, tm_TM_SMP_RING_SIZE, tm_TM_SMP_RING_PTR, tm_TM_GATE_ADDR] ++
  [tm_TM_GATE_LO, tm_TM_GATE_HI, tm_TM_SL_CFG, tm_TM_SL_STAT, tm_TM_FN_CTL, tm_TM_FN_STAT, tm_TM_PORT]

/-- EMAC_CFG (Table 11-28). -/
def emac_EMAC_CFG : RegSpec :=
  ⟨"EMAC_CFG", 0x0, 1, 0x0, 1, 0x0, false,
   [fd "TS_DOM" 7 6 .rw 0x0 .fixed 7, fd "AN" 2 2 .rw 0x1 .fixed 6, fd "MODE" 1 0 .rw 0x0 .fixed 6]⟩
/-- EMAC_STAT (Table 11-29). -/
def emac_EMAC_STAT : RegSpec :=
  ⟨"EMAC_STAT", 0x4, 1, 0x0, 1, 0x0, false,
   [fd "AN_DONE" 2 2 .ro 0x0 .fixed 0, fd "PCS_LOCK" 1 1 .ro 0x0 .fixed 0, fd "LINK" 0 0 .ro 0x0 .fixed 0]⟩
/-- EMAC_CNT (Table 11-30). -/
def emac_EMAC_CNT : RegSpec :=
  ⟨"EMAC_CNT", 0x10, 6, 0x4, 1, 0x0, false,
   [fd "FIRST" 31 16 .rc 0x0 .fixed 0, fd "SECOND" 15 0 .rc 0x0 .fixed 0]⟩
/-- EMAC_TSMATCH (Table 11-31). -/
def emac_EMAC_TSMATCH : RegSpec :=
  ⟨"EMAC_TSMATCH", 0x30, 1, 0x0, 1, 0x0, false,
   [fd "ETYPE" 31 16 .rw 0x88f7 .fixed 7, fd "CAPOFS" 15 8 .rw 0x0 .fixed 7, fd "EN" 0 0 .rw 0x0 .fixed 7]⟩
/-- EMAC_FN_CTL (Table 02-19). -/
def emac_EMAC_FN_CTL : RegSpec :=
  ⟨"EMAC_FN_CTL", 0x80, 1, 0x4, 1, 0x0, false,
   [fd "EN" 0 0 .rw 0x0 .fixed 15]⟩
/-- EMAC_FN_STAT (Table 02-20). -/
def emac_EMAC_FN_STAT : RegSpec :=
  ⟨"EMAC_FN_STAT", 0xc0, 1, 0x4, 1, 0x0, false,
   [fd "LAST_STATUS" 31 24 .ro 0x0 .fixed 0, fd "RESTART_PENDING" 4 4 .ro 0x0 .fixed 0, fd "STATE" 2 0 .ro 0x0 .fixed 0]⟩
/-- EMAC_TQ0_BASE_LO (Table 11-5). -/
def emac_EMAC_TQ0_BASE_LO : RegSpec :=
  ⟨"EMAC_TQ0_BASE_LO", 0x100, 1, 0x0, 1, 0x0, false,
   [fd "ADDR" 31 6 .rw 0x0 .fixed 7]⟩
/-- EMAC_TQ0_BASE_HI (Table 11-6). -/
def emac_EMAC_TQ0_BASE_HI : RegSpec :=
  ⟨"EMAC_TQ0_BASE_HI", 0x104, 1, 0x0, 1, 0x0, false,
   [fd "ADDR" 31 0 .rw 0x0 .fixed 7]⟩
/-- EMAC_TQ0_SIZE (Table 11-7). -/
def emac_EMAC_TQ0_SIZE : RegSpec :=
  ⟨"EMAC_TQ0_SIZE", 0x108, 1, 0x0, 1, 0x0, false,
   [fd "SIZE" 15 0 .rw 0x0 .fixed 7]⟩
/-- EMAC_TQ0_PTR (Table 11-8). -/
def emac_EMAC_TQ0_PTR : RegSpec :=
  ⟨"EMAC_TQ0_PTR", 0x10c, 1, 0x0, 1, 0x0, false,
   [fd "SW" 31 16 .rw 0x0 .fixed 7, fd "HW" 15 0 .ro 0x0 .fixed 0]⟩
/-- EMAC_TQ1_BASE_LO (Table 11-5). -/
def emac_EMAC_TQ1_BASE_LO : RegSpec :=
  ⟨"EMAC_TQ1_BASE_LO", 0x110, 1, 0x0, 1, 0x0, false,
   [fd "ADDR" 31 6 .rw 0x0 .fixed 7]⟩
/-- EMAC_TQ1_BASE_HI (Table 11-6). -/
def emac_EMAC_TQ1_BASE_HI : RegSpec :=
  ⟨"EMAC_TQ1_BASE_HI", 0x114, 1, 0x0, 1, 0x0, false,
   [fd "ADDR" 31 0 .rw 0x0 .fixed 7]⟩
/-- EMAC_TQ1_SIZE (Table 11-7). -/
def emac_EMAC_TQ1_SIZE : RegSpec :=
  ⟨"EMAC_TQ1_SIZE", 0x118, 1, 0x0, 1, 0x0, false,
   [fd "SIZE" 15 0 .rw 0x0 .fixed 7]⟩
/-- EMAC_TQ1_PTR (Table 11-8). -/
def emac_EMAC_TQ1_PTR : RegSpec :=
  ⟨"EMAC_TQ1_PTR", 0x11c, 1, 0x0, 1, 0x0, false,
   [fd "SW" 31 16 .rw 0x0 .fixed 7, fd "HW" 15 0 .ro 0x0 .fixed 0]⟩
/-- EMAC_RXLOG_BASE_LO (Table 11-5). -/
def emac_EMAC_RXLOG_BASE_LO : RegSpec :=
  ⟨"EMAC_RXLOG_BASE_LO", 0x120, 1, 0x0, 1, 0x0, false,
   [fd "ADDR" 31 6 .rw 0x0 .fixed 7]⟩
/-- EMAC_RXLOG_BASE_HI (Table 11-6). -/
def emac_EMAC_RXLOG_BASE_HI : RegSpec :=
  ⟨"EMAC_RXLOG_BASE_HI", 0x124, 1, 0x0, 1, 0x0, false,
   [fd "ADDR" 31 0 .rw 0x0 .fixed 7]⟩
/-- EMAC_RXLOG_SIZE (Table 11-7). -/
def emac_EMAC_RXLOG_SIZE : RegSpec :=
  ⟨"EMAC_RXLOG_SIZE", 0x128, 1, 0x0, 1, 0x0, false,
   [fd "SIZE" 15 0 .rw 0x0 .fixed 7]⟩
/-- EMAC_RXLOG_PTR (Table 11-8). -/
def emac_EMAC_RXLOG_PTR : RegSpec :=
  ⟨"EMAC_RXLOG_PTR", 0x12c, 1, 0x0, 1, 0x0, false,
   [fd "SW" 31 16 .rw 0x0 .fixed 7, fd "HW" 15 0 .ro 0x0 .fixed 0]⟩
/-- EMAC_WAKE_CFG (Table 11-32). -/
def emac_EMAC_WAKE_CFG : RegSpec :=
  ⟨"EMAC_WAKE_CFG", 0x400, 1, 0x0, 1, 0x0, true,
   [fd "PATTERNS" 31 16 .rw 0x0 .fixed 7, fd "PORT" 3 2 .rw 0x0 .fixed 7, fd "EN" 0 0 .rw 0x0 .fixed 7]⟩
/-- EMAC_WAKE_STAT (Table 11-33). -/
def emac_EMAC_WAKE_STAT : RegSpec :=
  ⟨"EMAC_WAKE_STAT", 0x404, 1, 0x0, 1, 0x0, true,
   [fd "VALID" 31 31 .w1c 0x0 .fixed 15, fd "PATTERN" 3 0 .ro 0x0 .fixed 0]⟩
/-- EMAC_WAKE_ADDR (Table 11-34). -/
def emac_EMAC_WAKE_ADDR : RegSpec :=
  ⟨"EMAC_WAKE_ADDR", 0x408, 1, 0x0, 1, 0x0, true,
   [fd "WORD" 9 0 .rw 0x0 .fixed 7]⟩
/-- EMAC_WAKE_DATA (Table 11-35). -/
def emac_EMAC_WAKE_DATA : RegSpec :=
  ⟨"EMAC_WAKE_DATA", 0x40c, 1, 0x0, 1, 0x0, true,
   [fd "DATA" 31 0 .rw 0x0 .undef 7]⟩

/-- Every register of map entry emac. -/
def emacRegs : List RegSpec :=
  [emac_EMAC_CFG, emac_EMAC_STAT, emac_EMAC_CNT, emac_EMAC_TSMATCH, emac_EMAC_FN_CTL, emac_EMAC_FN_STAT, emac_EMAC_TQ0_BASE_LO, emac_EMAC_TQ0_BASE_HI, emac_EMAC_TQ0_SIZE, emac_EMAC_TQ0_PTR, emac_EMAC_TQ1_BASE_LO, emac_EMAC_TQ1_BASE_HI] ++
  [emac_EMAC_TQ1_SIZE, emac_EMAC_TQ1_PTR, emac_EMAC_RXLOG_BASE_LO, emac_EMAC_RXLOG_BASE_HI, emac_EMAC_RXLOG_SIZE, emac_EMAC_RXLOG_PTR, emac_EMAC_WAKE_CFG, emac_EMAC_WAKE_STAT, emac_EMAC_WAKE_ADDR, emac_EMAC_WAKE_DATA]

/-- PCIE_STAT (Table 11-37). -/
def pcie_PCIE_STAT : RegSpec :=
  ⟨"PCIE_STAT", 0x0, 1, 0x0, 1, 0x0, false,
   [fd "WIDTH" 7 4 .ro 0x0 .fixed 0, fd "SPEED" 3 2 .ro 0x0 .fixed 0, fd "LINKUP" 0 0 .ro 0x0 .fixed 0]⟩
/-- PCIE_DOORBELL (Table 11-38). -/
def pcie_PCIE_DOORBELL : RegSpec :=
  ⟨"PCIE_DOORBELL", 0x4, 1, 0x0, 1, 0x0, false,
   [fd "VALUE" 31 0 .rw 0x0 .fixed 7]⟩
/-- PCIE_CNT (Table 11-39). -/
def pcie_PCIE_CNT : RegSpec :=
  ⟨"PCIE_CNT", 0x8, 1, 0x0, 1, 0x0, false,
   [fd "HRX_SMALL" 31 16 .rc 0x0 .fixed 0, fd "HTX_REFUSED" 15 0 .rc 0x0 .fixed 0]⟩
/-- PCIE_MSIX_MAP (Table 11-40). -/
def pcie_PCIE_MSIX_MAP : RegSpec :=
  ⟨"PCIE_MSIX_MAP", 0x20, 8, 0x4, 1, 0x0, false,
   [fd "LINE3" 31 24 .rw 0x0 .fixed 7, fd "LINE2" 23 16 .rw 0x0 .fixed 7, fd "LINE1" 15 8 .rw 0x0 .fixed 7, fd "LINE0" 7 0 .rw 0x0 .fixed 7]⟩
/-- PCIE_FN_CTL (Table 02-19). -/
def pcie_PCIE_FN_CTL : RegSpec :=
  ⟨"PCIE_FN_CTL", 0x80, 1, 0x4, 1, 0x0, false,
   [fd "EN" 0 0 .rw 0x0 .fixed 15]⟩
/-- PCIE_FN_STAT (Table 02-20). -/
def pcie_PCIE_FN_STAT : RegSpec :=
  ⟨"PCIE_FN_STAT", 0xc0, 1, 0x4, 1, 0x0, false,
   [fd "LAST_STATUS" 31 24 .ro 0x0 .fixed 0, fd "RESTART_PENDING" 4 4 .ro 0x0 .fixed 0, fd "STATE" 2 0 .ro 0x0 .fixed 0]⟩
/-- PCIE_HTX_BASE_LO (Table 11-5). -/
def pcie_PCIE_HTX_BASE_LO : RegSpec :=
  ⟨"PCIE_HTX_BASE_LO", 0x100, 4, 0x10, 1, 0x0, false,
   [fd "ADDR" 31 6 .rw 0x0 .fixed 7]⟩
/-- PCIE_HTX_BASE_HI (Table 11-6). -/
def pcie_PCIE_HTX_BASE_HI : RegSpec :=
  ⟨"PCIE_HTX_BASE_HI", 0x104, 4, 0x10, 1, 0x0, false,
   [fd "ADDR" 31 0 .rw 0x0 .fixed 7]⟩
/-- PCIE_HTX_SIZE (Table 11-7). -/
def pcie_PCIE_HTX_SIZE : RegSpec :=
  ⟨"PCIE_HTX_SIZE", 0x108, 4, 0x10, 1, 0x0, false,
   [fd "SIZE" 15 0 .rw 0x0 .fixed 7]⟩
/-- PCIE_HTX_PTR (Table 11-8). -/
def pcie_PCIE_HTX_PTR : RegSpec :=
  ⟨"PCIE_HTX_PTR", 0x10c, 4, 0x10, 1, 0x0, false,
   [fd "SW" 31 16 .rw 0x0 .fixed 7, fd "HW" 15 0 .ro 0x0 .fixed 0]⟩
/-- PCIE_HRX_BASE_LO (Table 11-5). -/
def pcie_PCIE_HRX_BASE_LO : RegSpec :=
  ⟨"PCIE_HRX_BASE_LO", 0x140, 4, 0x10, 1, 0x0, false,
   [fd "ADDR" 31 6 .rw 0x0 .fixed 7]⟩
/-- PCIE_HRX_BASE_HI (Table 11-6). -/
def pcie_PCIE_HRX_BASE_HI : RegSpec :=
  ⟨"PCIE_HRX_BASE_HI", 0x144, 4, 0x10, 1, 0x0, false,
   [fd "ADDR" 31 0 .rw 0x0 .fixed 7]⟩
/-- PCIE_HRX_SIZE (Table 11-7). -/
def pcie_PCIE_HRX_SIZE : RegSpec :=
  ⟨"PCIE_HRX_SIZE", 0x148, 4, 0x10, 1, 0x0, false,
   [fd "SIZE" 15 0 .rw 0x0 .fixed 7]⟩
/-- PCIE_HRX_PTR (Table 11-8). -/
def pcie_PCIE_HRX_PTR : RegSpec :=
  ⟨"PCIE_HRX_PTR", 0x14c, 4, 0x10, 1, 0x0, false,
   [fd "SW" 31 16 .rw 0x0 .fixed 7, fd "HW" 15 0 .ro 0x0 .fixed 0]⟩

/-- Every register of map entry pcie. -/
def pcieRegs : List RegSpec :=
  [pcie_PCIE_STAT, pcie_PCIE_DOORBELL, pcie_PCIE_CNT, pcie_PCIE_MSIX_MAP, pcie_PCIE_FN_CTL, pcie_PCIE_FN_STAT, pcie_PCIE_HTX_BASE_LO, pcie_PCIE_HTX_BASE_HI, pcie_PCIE_HTX_SIZE, pcie_PCIE_HTX_PTR, pcie_PCIE_HRX_BASE_LO, pcie_PCIE_HRX_BASE_HI] ++
  [pcie_PCIE_HRX_SIZE, pcie_PCIE_HRX_PTR]

/-- SPM_STAT (Table 12-4). -/
def spm_SPM_STAT : RegSpec :=
  ⟨"SPM_STAT", 0x0, 1, 0x0, 1, 0x0, false,
   [fd "BORROWING" 3 3 .ro 0x0 .fixed 0, fd "MARCH_FAIL" 2 2 .w1c 0x0 .fixed 15, fd "UE" 1 1 .w1c 0x0 .fixed 15, fd "CE" 0 0 .w1c 0x0 .fixed 15]⟩
/-- SPM_COUNT (Table 12-5). -/
def spm_SPM_COUNT : RegSpec :=
  ⟨"SPM_COUNT", 0x4, 1, 0x0, 1, 0x0, false,
   [fd "CE" 31 24 .rc 0x0 .fixed 0, fd "UE" 23 16 .rc 0x0 .fixed 0, fd "MARCH_FAIL" 15 8 .rc 0x0 .fixed 0, fd "DISCARDS" 7 0 .rc 0x0 .fixed 0]⟩
/-- SPM_PATROL (Table 12-6). -/
def spm_SPM_PATROL : RegSpec :=
  ⟨"SPM_PATROL", 0x10, 1, 0x0, 1, 0x0, false,
   [fd "EN" 31 31 .rw 0x0 .fixed 15, fd "CURSOR" 29 16 .ro 0x0 .fixed 0, fd "PERIOD" 15 0 .rw 0x3e8 .fixed 15]⟩
/-- SPM_ERR (Table 12-7). -/
def spm_SPM_ERR : RegSpec :=
  ⟨"SPM_ERR", 0x14, 1, 0x0, 1, 0x0, false,
   [fd "VALID" 31 31 .w1c 0x0 .fixed 15, fd "UE" 30 30 .ro 0x0 .fixed 0, fd "MARCH" 29 29 .ro 0x0 .fixed 0, fd "OFFSET" 23 0 .ro 0x0 .fixed 0]⟩

/-- Every register of map entry spm. -/
def spmRegs : List RegSpec :=
  [spm_SPM_STAT, spm_SPM_COUNT, spm_SPM_PATROL, spm_SPM_ERR]

/-- RQ_STAT (Table 12-9). -/
def rq_RQ_STAT : RegSpec :=
  ⟨"RQ_STAT", 0x0, 1, 0x0, 1, 0x0, false,
   [fd "BAD_PTR" 1 1 .w1c 0x0 .fixed 15, fd "BAD_CFG" 0 0 .w1c 0x0 .fixed 15]⟩
/-- RQ_COUNT0 (Table 12-10). -/
def rq_RQ_COUNT0 : RegSpec :=
  ⟨"RQ_COUNT0", 0x4, 1, 0x0, 1, 0x0, false,
   [fd "NO_BUFFER" 31 24 .rc 0x0 .fixed 0, fd "BAD_QUEUE" 23 16 .rc 0x0 .fixed 0, fd "DISABLED" 15 8 .rc 0x0 .fixed 0, fd "BAD_BUF" 7 0 .rc 0x0 .fixed 0]⟩
/-- RQ_COUNT1 (Table 12-11). -/
def rq_RQ_COUNT1 : RegSpec :=
  ⟨"RQ_COUNT1", 0x8, 1, 0x0, 1, 0x0, false,
   [fd "COMMITS" 31 16 .rc 0x0 .fixed 0, fd "REWOUND" 15 0 .rc 0x0 .fixed 0]⟩
/-- RQ_SRC (Table 12-12). -/
def rq_RQ_SRC : RegSpec :=
  ⟨"RQ_SRC", 0x10, 3, 0x4, 1, 0x0, false,
   [fd "QUEUE_NC" 13 8 .rw 0x0 .fixed 7, fd "QUEUE" 5 0 .rw 0x0 .fixed 7]⟩
/-- RQ_PEND_LO (Table 12-13). -/
def rq_RQ_PEND_LO : RegSpec :=
  ⟨"RQ_PEND_LO", 0x20, 1, 0x0, 1, 0x0, false,
   [fd "PEND" 31 0 .ro 0x0 .fixed 0]⟩
/-- RQ_PEND_HI (Table 12-13). -/
def rq_RQ_PEND_HI : RegSpec :=
  ⟨"RQ_PEND_HI", 0x24, 1, 0x0, 1, 0x0, false,
   [fd "PEND" 31 0 .ro 0x0 .fixed 0]⟩
/-- RQ_BASE (Table 12-14). -/
def rq_RQ_BASE : RegSpec :=
  ⟨"RQ_BASE", 0x100, 64, 0x20, 1, 0x0, false,
   [fd "ADDR" 31 0 .rw 0x0 .fixed 7]⟩
/-- RQ_CFG (Table 12-15). -/
def rq_RQ_CFG : RegSpec :=
  ⟨"RQ_CFG", 0x104, 64, 0x20, 1, 0x0, false,
   [fd "EN" 31 31 .rw 0x0 .fixed 7, fd "ACTIVE" 30 30 .ro 0x0 .fixed 0, fd "EVT" 29 29 .rw 0x0 .fixed 7, fd "DISP" 28 28 .rw 0x0 .fixed 7, fd "LEVEL" 27 25 .rw 0x0 .fixed 7, fd "POOL" 23 20 .rw 0x0 .fixed 7, fd "SIZE" 15 0 .rw 0x0 .fixed 7]⟩
/-- RQ_PTR_A (Table 12-16). -/
def rq_RQ_PTR_A : RegSpec :=
  ⟨"RQ_PTR_A", 0x108, 64, 0x20, 1, 0x0, false,
   [fd "READ" 31 16 .rw 0x0 .fixed 15, fd "COMMIT" 15 0 .ro 0x0 .fixed 0]⟩
/-- RQ_PTR_B (Table 12-17). -/
def rq_RQ_PTR_B : RegSpec :=
  ⟨"RQ_PTR_B", 0x10c, 64, 0x20, 1, 0x0, false,
   [fd "MARK" 31 16 .ro 0x0 .fixed 0, fd "RELEASE" 15 0 .ro 0x0 .fixed 0]⟩
/-- RQ_CMD (Table 12-18). -/
def rq_RQ_CMD : RegSpec :=
  ⟨"RQ_CMD", 0x110, 64, 0x20, 1, 0x0, false,
   [fd "OP" 1 0 .wo 0x0 .fixed 15]⟩
/-- RQ_POP_LO (Table 12-19). -/
def rq_RQ_POP_LO : RegSpec :=
  ⟨"RQ_POP_LO", 0x114, 64, 0x20, 1, 0x0, false,
   [fd "ADDR_LO" 31 0 .ro 0x0 .fixed 0]⟩
/-- RQ_POP_HI (Table 12-20). -/
def rq_RQ_POP_HI : RegSpec :=
  ⟨"RQ_POP_HI", 0x118, 64, 0x20, 1, 0x0, false,
   [fd "CALM" 31 31 .ro 0x0 .fixed 0, fd "ADDR_HI" 7 0 .ro 0x0 .fixed 0]⟩
/-- RQ_POOL_BASE (Table 12-14). -/
def rq_RQ_POOL_BASE : RegSpec :=
  ⟨"RQ_POOL_BASE", 0x900, 16, 0x10, 1, 0x0, false,
   [fd "ADDR" 31 0 .rw 0x0 .fixed 7]⟩
/-- RQ_POOL_CFG (Table 12-21). -/
def rq_RQ_POOL_CFG : RegSpec :=
  ⟨"RQ_POOL_CFG", 0x904, 16, 0x10, 1, 0x0, false,
   [fd "EN" 31 31 .rw 0x0 .fixed 7, fd "ACTIVE" 30 30 .ro 0x0 .fixed 0, fd "BSIZE" 29 27 .rw 0x0 .fixed 7, fd "STASHED" 25 16 .ro 0x0 .fixed 0, fd "SIZE" 15 0 .rw 0x0 .fixed 7]⟩
/-- RQ_POOL_PTR (Table 12-22). -/
def rq_RQ_POOL_PTR : RegSpec :=
  ⟨"RQ_POOL_PTR", 0x908, 16, 0x10, 1, 0x0, false,
   [fd "SW" 31 16 .rw 0x0 .fixed 7, fd "HW" 15 0 .ro 0x0 .fixed 0]⟩
/-- RQ_POOL_STASH (Table 12-23). -/
def rq_RQ_POOL_STASH : RegSpec :=
  ⟨"RQ_POOL_STASH", 0x90c, 16, 0x10, 1, 0x0, false,
   [fd "ADDR" 31 0 .ro 0x0 .fixed 0]⟩

/-- Every register of map entry rq. -/
def rqRegs : List RegSpec :=
  [rq_RQ_STAT, rq_RQ_COUNT0, rq_RQ_COUNT1, rq_RQ_SRC, rq_RQ_PEND_LO, rq_RQ_PEND_HI, rq_RQ_BASE, rq_RQ_CFG, rq_RQ_PTR_A, rq_RQ_PTR_B, rq_RQ_CMD, rq_RQ_POP_LO] ++
  [rq_RQ_POP_HI, rq_RQ_POOL_BASE, rq_RQ_POOL_CFG, rq_RQ_POOL_PTR, rq_RQ_POOL_STASH]

/-- DMC_STAT (Table 12-25). -/
def dmc_DMC_STAT : RegSpec :=
  ⟨"DMC_STAT", 0x0, 1, 0x0, 1, 0x0, false,
   [fd "FULL1" 5 5 .w1c 0x0 .fixed 15, fd "FULL0" 4 4 .w1c 0x0 .fixed 15, fd "SWEEP1" 3 3 .ro 0x0 .fixed 0, fd "SWEEP0" 2 2 .ro 0x0 .fixed 0, fd "UE" 1 1 .w1c 0x0 .fixed 15, fd "CE" 0 0 .w1c 0x0 .fixed 15]⟩
/-- DMC_COUNT (Table 12-26). -/
def dmc_DMC_COUNT : RegSpec :=
  ⟨"DMC_COUNT", 0x4, 1, 0x0, 1, 0x0, false,
   [fd "CE" 31 24 .rc 0x0 .fixed 0, fd "UE" 23 16 .rc 0x0 .fixed 0, fd "SENT_SWEEPS" 15 8 .rc 0x0 .fixed 0, fd "FULL_SWEEPS" 7 0 .rc 0x0 .fixed 0]⟩
/-- DMC_CFG (Table 12-27). -/
def dmc_DMC_CFG : RegSpec :=
  ⟨"DMC_CFG", 0x10, 1, 0x0, 1, 0x0, false,
   [fd "GRAIN" 7 4 .rw 0x0 .nv 4, fd "SENTINEL" 3 2 .rw 0x0 .nv 4]⟩
/-- DMC_TRAIN (Table 12-28). -/
def dmc_DMC_TRAIN : RegSpec :=
  ⟨"DMC_TRAIN", 0x14, 1, 0x0, 1, 0x0, false,
   [fd "SHIFT1" 31 24 .ro 0x0 .fixed 0, fd "SHIFT0" 23 16 .ro 0x0 .fixed 0]⟩
/-- DMC_ERR_LO (Table 12-29). -/
def dmc_DMC_ERR_LO : RegSpec :=
  ⟨"DMC_ERR_LO", 0x18, 1, 0x0, 1, 0x0, false,
   [fd "ADDR" 31 0 .ro 0x0 .fixed 0]⟩
/-- DMC_ERR_HI (Table 12-30). -/
def dmc_DMC_ERR_HI : RegSpec :=
  ⟨"DMC_ERR_HI", 0x1c, 1, 0x0, 1, 0x0, false,
   [fd "VALID" 31 31 .w1c 0x0 .fixed 15, fd "UE" 30 30 .ro 0x0 .fixed 0, fd "ADDR" 0 0 .ro 0x0 .fixed 0]⟩
/-- DMC_ECC (Table 12-31). -/
def dmc_DMC_ECC : RegSpec :=
  ⟨"DMC_ECC", 0x20, 8, 0x4, 1, 0x0, false,
   [fd "EN" 31 31 .rw 0x0 .nv 7, fd "INIT" 30 30 .rw 0x0 .fixed 7, fd "SIZE" 23 16 .rw 0x0 .nv 7, fd "BASE" 6 0 .rw 0x0 .nv 7]⟩
/-- DMC_FN_CTL (Table 02-19). -/
def dmc_DMC_FN_CTL : RegSpec :=
  ⟨"DMC_FN_CTL", 0x80, 1, 0x4, 1, 0x0, false,
   [fd "EN" 0 0 .rw 0x0 .fixed 15]⟩
/-- DMC_FN_STAT (Table 02-20). -/
def dmc_DMC_FN_STAT : RegSpec :=
  ⟨"DMC_FN_STAT", 0xc0, 1, 0x4, 1, 0x0, false,
   [fd "LAST_STATUS" 31 24 .ro 0x0 .fixed 0, fd "RESTART_PENDING" 4 4 .ro 0x0 .fixed 0, fd "STATE" 2 0 .ro 0x0 .fixed 0]⟩

/-- Every register of map entry dmc. -/
def dmcRegs : List RegSpec :=
  [dmc_DMC_STAT, dmc_DMC_COUNT, dmc_DMC_CFG, dmc_DMC_TRAIN, dmc_DMC_ERR_LO, dmc_DMC_ERR_HI, dmc_DMC_ECC, dmc_DMC_FN_CTL, dmc_DMC_FN_STAT]

end Sys2Proof.Machine.RegTable
end

