-- ==== Sys2Proof/Machine/RegTableE.lean ====
section
/-!
DEFINITION. The register tables of the spec for the map entries wd, lck, arb, cph, kst, ldg, pwr, sup, mon, kpr, aud, pass, pin: one row a register
(offset, instances, fields with type, reset value and rights), R12 to R15, R39, R52.
-/
namespace Sys2Proof.Machine.RegTable
open Sys2Proof.Machine

/-- WD_STAT (Table 13-6). -/
def wd_WD_STAT : RegSpec :=
  ⟨"WD_STAT", 0x0, 1, 0x0, 1, 0x0, false,
   [fd "WAITING" 29 16 .ro 0x0 .fixed 0, fd "RUNNING" 15 0 .ro 0x0 .fixed 0]⟩
/-- WD_COUNT (Table 13-7). -/
def wd_WD_COUNT : RegSpec :=
  ⟨"WD_COUNT", 0x4, 1, 0x0, 1, 0x0, false,
   [fd "FULL" 31 24 .rc 0x0 .fixed 0, fd "FAULTS" 23 16 .rc 0x0 .fixed 0, fd "TRACE_DROP" 15 8 .rc 0x0 .fixed 0, fd "LEAK" 7 0 .rc 0x0 .fixed 0]⟩
/-- WD_CFG (Table 13-8). -/
def wd_WD_CFG : RegSpec :=
  ⟨"WD_CFG", 0x8, 1, 0x0, 1, 0x0, false,
   [fd "TRACE_EN" 31 31 .rw 0x0 .fixed 7, fd "IDLE_WAIT" 15 0 .rw 0x100 .fixed 7]⟩
/-- WD_ENTRY_LO (Table 13-9). -/
def wd_WD_ENTRY_LO : RegSpec :=
  ⟨"WD_ENTRY_LO", 0x10, 1, 0x0, 1, 0x0, false,
   [fd "ADDR" 31 2 .rw 0x0 .fixed 15]⟩
/-- WD_ENTRY_HI (Table 13-10). -/
def wd_WD_ENTRY_HI : RegSpec :=
  ⟨"WD_ENTRY_HI", 0x14, 1, 0x0, 1, 0x0, false,
   [fd "ADDR" 7 0 .rw 0x0 .fixed 15]⟩
/-- WD_QITEM (Table 13-11). -/
def wd_WD_QITEM : RegSpec :=
  ⟨"WD_QITEM", 0x18, 1, 0x0, 1, 0x0, false,
   [fd "ADDR" 27 0 .rw 0x0 .fixed 7]⟩
/-- WD_TRACE_BASE_LO (Table 11-5). -/
def wd_WD_TRACE_BASE_LO : RegSpec :=
  ⟨"WD_TRACE_BASE_LO", 0x40, 1, 0x0, 1, 0x0, false,
   [fd "ADDR" 31 6 .rw 0x0 .fixed 7]⟩
/-- WD_TRACE_BASE_HI (Table 11-6). -/
def wd_WD_TRACE_BASE_HI : RegSpec :=
  ⟨"WD_TRACE_BASE_HI", 0x44, 1, 0x0, 1, 0x0, false,
   [fd "ADDR" 31 0 .rw 0x0 .fixed 7]⟩
/-- WD_TRACE_SIZE (Table 11-7). -/
def wd_WD_TRACE_SIZE : RegSpec :=
  ⟨"WD_TRACE_SIZE", 0x48, 1, 0x0, 1, 0x0, false,
   [fd "SIZE" 15 0 .rw 0x0 .fixed 7]⟩
/-- WD_TRACE_PTR (Table 11-8). -/
def wd_WD_TRACE_PTR : RegSpec :=
  ⟨"WD_TRACE_PTR", 0x4c, 1, 0x0, 1, 0x0, false,
   [fd "SW" 31 16 .rw 0x0 .fixed 7, fd "HW" 15 0 .ro 0x0 .fixed 0]⟩
/-- WD_CORE_CFG (Table 13-12). -/
def wd_WD_CORE_CFG : RegSpec :=
  ⟨"WD_CORE_CFG", 0x100, 16, 0x4, 1, 0x0, false,
   [fd "EN" 8 8 .rw 0x1 .fixed 7, fd "LEVELS" 7 0 .rw 0xff .fixed 7]⟩

/-- Every register of map entry wd. -/
def wdRegs : List RegSpec :=
  [wd_WD_STAT, wd_WD_COUNT, wd_WD_CFG, wd_WD_ENTRY_LO, wd_WD_ENTRY_HI, wd_WD_QITEM, wd_WD_TRACE_BASE_LO, wd_WD_TRACE_BASE_HI, wd_WD_TRACE_SIZE, wd_WD_TRACE_PTR, wd_WD_CORE_CFG]

/-- LCK_COUNT (Table 13-14). -/
def lck_LCK_COUNT : RegSpec :=
  ⟨"LCK_COUNT", 0x0, 1, 0x0, 1, 0x0, false,
   [fd "ORDER" 31 24 .rc 0x0 .fixed 0, fd "TAKE_BUSY" 23 16 .rc 0x0 .fixed 0, fd "GIVE_FAULT" 15 8 .rc 0x0 .fixed 0, fd "FORCED" 7 0 .rc 0x0 .fixed 0]⟩
/-- LCK_FORCE (Table 13-15). -/
def lck_LCK_FORCE : RegSpec :=
  ⟨"LCK_FORCE", 0x4, 1, 0x0, 1, 0x0, false,
   [fd "ALL" 13 13 .wo 0x0 .fixed 8, fd "CORE" 12 8 .wo 0x0 .fixed 8, fd "TOKEN" 7 0 .wo 0x0 .fixed 8]⟩
/-- LCK_HOLDER (Table 13-16). -/
def lck_LCK_HOLDER : RegSpec :=
  ⟨"LCK_HOLDER", 0x100, 256, 0x4, 1, 0x0, false,
   [fd "HELD" 31 31 .ro 0x0 .fixed 0, fd "CORE" 4 0 .ro 0x0 .fixed 0]⟩

/-- Every register of map entry lck. -/
def lckRegs : List RegSpec :=
  [lck_LCK_COUNT, lck_LCK_FORCE, lck_LCK_HOLDER]

/-- ARB_STAT (Table 13-18). -/
def arb_ARB_STAT : RegSpec :=
  ⟨"ARB_STAT", 0x0, 1, 0x0, 1, 0x0, false,
   [fd "HELD2" 23 23 .ro 0x0 .fixed 0, fd "HOLDER2" 20 16 .ro 0x0 .fixed 0, fd "HELD1" 15 15 .ro 0x0 .fixed 0, fd "HOLDER1" 12 8 .ro 0x0 .fixed 0, fd "HELD0" 7 7 .ro 0x0 .fixed 0, fd "HOLDER0" 4 0 .ro 0x0 .fixed 0]⟩
/-- ARB_COUNT (Table 13-19). -/
def arb_ARB_COUNT : RegSpec :=
  ⟨"ARB_COUNT", 0x4, 1, 0x0, 1, 0x0, false,
   [fd "CUT_OFF" 31 24 .rc 0x0 .fixed 0, fd "RETURNS" 23 16 .rc 0x0 .fixed 0, fd "BUSY" 15 8 .rc 0x0 .fixed 0]⟩
/-- ARB_CFG (Table 13-20). -/
def arb_ARB_CFG : RegSpec :=
  ⟨"ARB_CFG", 0x8, 1, 0x0, 1, 0x0, false,
   [fd "BREAK" 31 31 .wo 0x0 .fixed 8, fd "HOLD" 15 0 .rw 0xa .fixed 6]⟩
/-- ARB_REQ (Table 13-21). -/
def arb_ARB_REQ : RegSpec :=
  ⟨"ARB_REQ", 0x100, 32, 0x4, 1, 0x0, false,
   [fd "CPL_EV" 31 24 .rw 0x0 .fixed 7, fd "CUTOFF" 20 20 .ro 0x0 .fixed 0, fd "HOLDING" 19 19 .ro 0x0 .fixed 0, fd "OUTSTANDING" 18 16 .ro 0x0 .fixed 0, fd "ISSUED" 15 8 .ro 0x0 .fixed 0, fd "COMPLETED" 7 0 .ro 0x0 .fixed 0]⟩

/-- Every register of map entry arb. -/
def arbRegs : List RegSpec :=
  [arb_ARB_STAT, arb_ARB_COUNT, arb_ARB_CFG, arb_ARB_REQ]

/-- CPH_STAT (Table 14-12). -/
def cph_CPH_STAT : RegSpec :=
  ⟨"CPH_STAT", 0x0, 1, 0x0, 1, 0x0, false,
   [fd "PIPES" 7 4 .ro 0x0 .fixed 0, fd "EXHAUSTED" 2 2 .w1c 0x0 .fixed 15, fd "UNWRAP_FAIL" 1 1 .w1c 0x0 .fixed 15, fd "ARMED" 0 0 .ro 0x0 .fixed 0]⟩
/-- CPH_COUNT (Table 14-13). -/
def cph_CPH_COUNT : RegSpec :=
  ⟨"CPH_COUNT", 0x4, 1, 0x0, 1, 0x0, false,
   [fd "AUTH_FAIL" 31 24 .rc 0x0 .fixed 0, fd "UNWRAP_FAIL" 23 16 .rc 0x0 .fixed 0, fd "EXHAUSTED" 15 8 .rc 0x0 .fixed 0, fd "RESV_WAIT" 7 0 .rc 0x0 .fixed 0]⟩
/-- CPH_WRAP_BASE_LO (Table 14-14). -/
def cph_CPH_WRAP_BASE_LO : RegSpec :=
  ⟨"CPH_WRAP_BASE_LO", 0x10, 1, 0x0, 1, 0x0, false,
   [fd "ADDR" 31 6 .rw 0x0 .fixed 7]⟩
/-- CPH_WRAP_BASE_HI (Table 14-15). -/
def cph_CPH_WRAP_BASE_HI : RegSpec :=
  ⟨"CPH_WRAP_BASE_HI", 0x14, 1, 0x0, 1, 0x0, false,
   [fd "ADDR" 7 0 .rw 0x0 .fixed 7]⟩
/-- CPH_WRAP_COUNT (Table 14-16). -/
def cph_CPH_WRAP_COUNT : RegSpec :=
  ⟨"CPH_WRAP_COUNT", 0x18, 1, 0x0, 1, 0x0, false,
   [fd "COUNT" 18 0 .rw 0x0 .fixed 7]⟩
/-- CPH_INVAL (Table 14-17). -/
def cph_CPH_INVAL : RegSpec :=
  ⟨"CPH_INVAL", 0x20, 1, 0x0, 1, 0x0, false,
   [fd "ALL" 31 31 .wo 0x0 .fixed 15, fd "WIDX" 17 0 .wo 0x0 .fixed 15]⟩
/-- CPH_FN_CTL (Table 02-19). -/
def cph_CPH_FN_CTL : RegSpec :=
  ⟨"CPH_FN_CTL", 0x80, 1, 0x4, 1, 0x0, false,
   [fd "EN" 0 0 .rw 0x0 .fixed 15]⟩
/-- CPH_FN_STAT (Table 02-20). -/
def cph_CPH_FN_STAT : RegSpec :=
  ⟨"CPH_FN_STAT", 0xc0, 1, 0x4, 1, 0x0, false,
   [fd "LAST_STATUS" 31 24 .ro 0x0 .fixed 0, fd "RESTART_PENDING" 4 4 .ro 0x0 .fixed 0, fd "STATE" 2 0 .ro 0x0 .fixed 0]⟩

/-- Every register of map entry cph. -/
def cphRegs : List RegSpec :=
  [cph_CPH_STAT, cph_CPH_COUNT, cph_CPH_WRAP_BASE_LO, cph_CPH_WRAP_BASE_HI, cph_CPH_WRAP_COUNT, cph_CPH_INVAL, cph_CPH_FN_CTL, cph_CPH_FN_STAT]

/-- KST_STAT (Table 14-19). -/
def kst_KST_STAT : RegSpec :=
  ⟨"KST_STAT", 0x0, 1, 0x0, 1, 0x0, false,
   [fd "LOADED" 28 16 .ro 0x0 .fixed 0, fd "BUSY" 2 2 .ro 0x0 .fixed 0, fd "CLEARING" 1 1 .ro 0x0 .fixed 0, fd "ARMED" 0 0 .ro 0x0 .fixed 0]⟩
/-- KST_ALARM (Table 14-20). -/
def kst_KST_ALARM : RegSpec :=
  ⟨"KST_ALARM", 0x4, 1, 0x0, 1, 0x0, false,
   [fd "ACTIVE" 22 16 .ro 0x0 .fixed 0, fd "LATCHED" 14 8 .w1c 0x0 .nv 8, fd "EN" 6 0 .rw 0x0 .nv 8]⟩
/-- KST_CMD (Table 14-21). -/
def kst_KST_CMD : RegSpec :=
  ⟨"KST_CMD", 0x10, 1, 0x0, 1, 0x0, false,
   [fd "STATUS" 31 24 .ro 0x0 .fixed 0, fd "LONG" 5 5 .wo 0x0 .fixed 8, fd "OP" 3 0 .wo 0x0 .fixed 8]⟩
/-- KST_SLOT (Table 14-22). -/
def kst_KST_SLOT : RegSpec :=
  ⟨"KST_SLOT", 0x14, 1, 0x0, 1, 0x0, false,
   [fd "SLOT" 11 0 .rw 0x0 .fixed 8]⟩
/-- KST_DATA (Table 14-23). -/
def kst_KST_DATA : RegSpec :=
  ⟨"KST_DATA", 0x40, 12, 0x4, 1, 0x0, false,
   [fd "DATA" 31 0 .rw 0x0 .fixed 8]⟩

/-- Every register of map entry kst. -/
def kstRegs : List RegSpec :=
  [kst_KST_STAT, kst_KST_ALARM, kst_KST_CMD, kst_KST_SLOT, kst_KST_DATA]

/-- LDG_STAT (Table 15-16). -/
def ldg_LDG_STAT : RegSpec :=
  ⟨"LDG_STAT", 0x0, 1, 0x0, 1, 0x0, false,
   [fd "NAND_FULL" 7 7 .ro 0x0 .fixed 0, fd "LOW_SPARE" 6 6 .ro 0x0 .fixed 0, fd "FROZEN" 5 5 .ro 0x0 .nv 0, fd "RESTORED" 4 4 .w1c 0x0 .fixed 15, fd "SCRUBBING" 3 3 .ro 0x0 .fixed 0, fd "HIGH" 2 2 .ro 0x0 .fixed 0, fd "FLUSHING" 1 1 .ro 0x0 .fixed 0, fd "MOUNTED" 0 0 .ro 0x0 .fixed 0]⟩
/-- LDG_COUNT0 (Table 15-17). -/
def ldg_LDG_COUNT0 : RegSpec :=
  ⟨"LDG_COUNT0", 0x4, 1, 0x0, 1, 0x0, false,
   [fd "JFULL" 31 24 .rc 0x0 .fixed 0, fd "MRAM_CE" 23 16 .rc 0x0 .fixed 0, fd "MRAM_UE" 15 8 .rc 0x0 .fixed 0, fd "RESTORES" 7 0 .rc 0x0 .fixed 0]⟩
/-- LDG_COUNT1 (Table 15-18). -/
def ldg_LDG_COUNT1 : RegSpec :=
  ⟨"LDG_COUNT1", 0x8, 1, 0x0, 1, 0x0, false,
   [fd "RELOCATED" 31 24 .rc 0x0 .fixed 0, fd "RETIRED" 23 16 .rc 0x0 .fixed 0, fd "CKPT_WAITS" 15 8 .rc 0x0 .fixed 0, fd "NAND_UE" 7 0 .rc 0x0 .fixed 0]⟩
/-- LDG_CFG (Table 15-19). -/
def ldg_LDG_CFG : RegSpec :=
  ⟨"LDG_CFG", 0x10, 1, 0x0, 1, 0x0, false,
   [fd "NAND_DAYS" 23 16 .rw 0x1e .nv 4, fd "MRAM_HOURS" 15 8 .rw 0x18 .nv 4, fd "HIGH" 7 0 .rw 0x4b .nv 7]⟩
/-- LDG_JFILL (Table 15-20). -/
def ldg_LDG_JFILL : RegSpec :=
  ⟨"LDG_JFILL", 0x14, 1, 0x0, 1, 0x0, false,
   [fd "UNITS" 17 0 .ro 0x0 .fixed 0]⟩
/-- LDG_JSEQ_LO (Table 15-21). -/
def ldg_LDG_JSEQ_LO : RegSpec :=
  ⟨"LDG_JSEQ_LO", 0x18, 1, 0x0, 1, 0x0, false,
   [fd "JSEQ_LO" 31 0 .ro 0x0 .fixed 0]⟩
/-- LDG_JSEQ_HI (Table 15-22). -/
def ldg_LDG_JSEQ_HI : RegSpec :=
  ⟨"LDG_JSEQ_HI", 0x1c, 1, 0x0, 1, 0x0, false,
   [fd "JSEQ_HI" 31 0 .ro 0x0 .fixed 0]⟩
/-- LDG_WEAR (Table 15-23). -/
def ldg_LDG_WEAR : RegSpec :=
  ⟨"LDG_WEAR", 0x20, 1, 0x0, 1, 0x0, false,
   [fd "MAX_ERASE" 31 16 .ro 0x0 .fixed 0, fd "MIN_ERASE" 15 0 .ro 0x0 .fixed 0]⟩
/-- LDG_BLOCKS (Table 15-24). -/
def ldg_LDG_BLOCKS : RegSpec :=
  ⟨"LDG_BLOCKS", 0x24, 1, 0x0, 1, 0x0, false,
   [fd "GOOD" 31 16 .ro 0x0 .fixed 0, fd "FREE" 15 0 .ro 0x0 .fixed 0]⟩
/-- LDG_LIFE (Table 15-25). -/
def ldg_LDG_LIFE : RegSpec :=
  ⟨"LDG_LIFE", 0x28, 1, 0x0, 1, 0x0, false,
   [fd "FLUSHES" 31 16 .ro 0x0 .nv 0, fd "MOUNTS" 15 0 .ro 0x0 .nv 0]⟩
/-- LDG_AUDNEXT (Table 15-26). -/
def ldg_LDG_AUDNEXT : RegSpec :=
  ⟨"LDG_AUDNEXT", 0x2c, 1, 0x0, 1, 0x0, false,
   [fd "NEXT" 31 0 .ro 0x0 .nv 0]⟩
/-- LDG_ERR (Table 15-27). -/
def ldg_LDG_ERR : RegSpec :=
  ⟨"LDG_ERR", 0x30, 1, 0x0, 1, 0x0, false,
   [fd "VALID" 31 31 .w1c 0x0 .fixed 15, fd "AREA" 30 27 .ro 0x0 .fixed 0, fd "NAND" 26 26 .ro 0x0 .fixed 0, fd "OFFSET" 25 0 .ro 0x0 .fixed 0]⟩
/-- LDG_FN_CTL (Table 02-19). -/
def ldg_LDG_FN_CTL : RegSpec :=
  ⟨"LDG_FN_CTL", 0x80, 1, 0x4, 1, 0x0, false,
   [fd "EN" 0 0 .rw 0x0 .fixed 15]⟩
/-- LDG_FN_STAT (Table 02-20). -/
def ldg_LDG_FN_STAT : RegSpec :=
  ⟨"LDG_FN_STAT", 0xc0, 1, 0x4, 1, 0x0, false,
   [fd "LAST_STATUS" 31 24 .ro 0x0 .fixed 0, fd "RESTART_PENDING" 4 4 .ro 0x0 .fixed 0, fd "STATE" 2 0 .ro 0x0 .fixed 0]⟩

/-- Every register of map entry ldg. -/
def ldgRegs : List RegSpec :=
  [ldg_LDG_STAT, ldg_LDG_COUNT0, ldg_LDG_COUNT1, ldg_LDG_CFG, ldg_LDG_JFILL, ldg_LDG_JSEQ_LO, ldg_LDG_JSEQ_HI, ldg_LDG_WEAR, ldg_LDG_BLOCKS, ldg_LDG_LIFE, ldg_LDG_AUDNEXT, ldg_LDG_ERR] ++
  [ldg_LDG_FN_CTL, ldg_LDG_FN_STAT]

/-- PWR_STAT (Table 16-10). -/
def pwr_PWR_STAT : RegSpec :=
  ⟨"PWR_STAT", 0x0, 1, 0x0, 1, 0x0, false,
   [fd "LAST_STATUS" 31 24 .ro 0x0 .fixed 0, fd "SAFE" 20 20 .ro 0x0 .fixed 0, fd "DETACH" 19 19 .ro 0x0 .fixed 0, fd "RIDING" 18 18 .ro 0x0 .fixed 0, fd "BANK_OK" 17 17 .ro 0x0 .fixed 0, fd "ENABLE" 16 16 .ro 0x0 .fixed 0, fd "TARGET" 10 8 .ro 0x0 .fixed 0, fd "CHANGING" 7 7 .ro 0x0 .fixed 0, fd "PENDING" 6 6 .ro 0x0 .fixed 0, fd "STATE" 2 0 .ro 0x0 .fixed 0]⟩
/-- PWR_REQ (Table 16-11). -/
def pwr_PWR_REQ : RegSpec :=
  ⟨"PWR_REQ", 0x4, 1, 0x0, 1, 0x0, false,
   [fd "OP" 5 4 .wo 0x0 .fixed 15, fd "TARGET" 2 0 .rw 0x0 .fixed 15]⟩
/-- PWR_AT_NS (Table 10-15). -/
def pwr_PWR_AT_NS : RegSpec :=
  ⟨"PWR_AT_NS", 0x8, 1, 0x0, 1, 0x0, false,
   [fd "NS" 29 0 .rw 0x0 .fixed 15]⟩
/-- PWR_AT_SEC (Table 10-16). -/
def pwr_PWR_AT_SEC : RegSpec :=
  ⟨"PWR_AT_SEC", 0xc, 1, 0x0, 1, 0x0, false,
   [fd "SEC" 31 0 .rw 0x0 .fixed 15]⟩
/-- PWR_REFUSE (Table 16-12). -/
def pwr_PWR_REFUSE : RegSpec :=
  ⟨"PWR_REFUSE", 0x10, 1, 0x0, 1, 0x0, false,
   [fd "REFUSED" 31 24 .rc 0x0 .fixed 0, fd "ABORTED" 23 16 .rc 0x0 .fixed 0, fd "ABORT" 15 15 .ro 0x0 .fixed 0, fd "INSTANCE" 14 12 .ro 0x0 .fixed 0, fd "ENTRY" 11 6 .ro 0x0 .fixed 0]⟩
/-- PWR_CFG (Table 16-13). -/
def pwr_PWR_CFG : RegSpec :=
  ⟨"PWR_CFG", 0x14, 1, 0x0, 1, 0x0, false,
   [fd "DRAIN" 31 24 .rw 0x14 .fixed 7, fd "DETACH_WAIT" 23 16 .rw 0x32 .nv 6, fd "RIDE" 15 8 .rw 0xa .nv 4, fd "LINGER" 7 0 .rw 0xa .fixed 7]⟩
/-- PWR_WAKE (Table 16-14). -/
def pwr_PWR_WAKE : RegSpec :=
  ⟨"PWR_WAKE", 0x18, 1, 0x0, 1, 0x0, false,
   [fd "VALID" 31 31 .w1c 0x0 .fixed 15, fd "CAUSE" 30 28 .ro 0x0 .fixed 0, fd "WAKE_TO" 10 8 .rw 0x0 .fixed 7, fd "EN" 5 0 .rw 0x8 .fixed 7]⟩
/-- PWR_TIMER (Table 16-15). -/
def pwr_PWR_TIMER : RegSpec :=
  ⟨"PWR_TIMER", 0x1c, 1, 0x0, 1, 0x0, false,
   [fd "SEC" 31 0 .rw 0x0 .fixed 7]⟩
/-- PWR_DVFS (Table 16-16). -/
def pwr_PWR_DVFS : RegSpec :=
  ⟨"PWR_DVFS", 0x20, 1, 0x0, 1, 0x0, false,
   [fd "CUR" 23 22 .ro 0x3 .fixed 0, fd "CAP" 21 20 .ro 0x3 .fixed 0, fd "OPP" 1 0 .rw 0x3 .fixed 7]⟩
/-- PWR_DETACH (Table 16-17). -/
def pwr_PWR_DETACH : RegSpec :=
  ⟨"PWR_DETACH", 0x24, 1, 0x0, 1, 0x0, false,
   [fd "GO" 0 0 .wo 0x0 .fixed 15]⟩
/-- PWR_DOMAINS (Table 16-18). -/
def pwr_PWR_DOMAINS : RegSpec :=
  ⟨"PWR_DOMAINS", 0x28, 1, 0x0, 1, 0x0, false,
   [fd "ON" 16 0 .ro 0x1ffff .fixed 0]⟩
/-- PWR_SLEEP (Table 16-18). -/
def pwr_PWR_SLEEP : RegSpec :=
  ⟨"PWR_SLEEP", 0x2c, 1, 0x0, 1, 0x0, false,
   [fd "PERMIT" 16 0 .rw 0xfaf0 .fixed 8]⟩

/-- Every register of map entry pwr. -/
def pwrRegs : List RegSpec :=
  [pwr_PWR_STAT, pwr_PWR_REQ, pwr_PWR_AT_NS, pwr_PWR_AT_SEC, pwr_PWR_REFUSE, pwr_PWR_CFG, pwr_PWR_WAKE, pwr_PWR_TIMER, pwr_PWR_DVFS, pwr_PWR_DETACH, pwr_PWR_DOMAINS, pwr_PWR_SLEEP]

/-- SUP_STAT (Table 16-20). -/
def sup_SUP_STAT : RegSpec :=
  ⟨"SUP_STAT", 0x0, 1, 0x0, 1, 0x0, false,
   [fd "TIMEOUTS" 31 24 .rc 0x0 .fixed 0, fd "NACKS" 23 16 .rc 0x0 .fixed 0, fd "BUSY" 4 4 .ro 0x0 .fixed 0, fd "QUEUE" 3 0 .ro 0x0 .fixed 0]⟩
/-- SUP_CFG (Table 16-21). -/
def sup_SUP_CFG : RegSpec :=
  ⟨"SUP_CFG", 0x4, 1, 0x0, 1, 0x0, false,
   [fd "SPEED" 1 0 .rw 0x0 .nv 4]⟩
/-- SUP_DEV (Table 16-22). -/
def sup_SUP_DEV : RegSpec :=
  ⟨"SUP_DEV", 0x10, 5, 0x4, 1, 0x0, false,
   [fd "EN" 31 31 .rw 0x0 .nv 4, fd "VMODE" 15 8 .ro 0x0 .fixed 0, fd "ADDR" 6 0 .rw 0x0 .nv 4]⟩
/-- SUP_ACK (Table 16-23). -/
def sup_SUP_ACK : RegSpec :=
  ⟨"SUP_ACK", 0x30, 4, 0x4, 1, 0x0, false,
   [fd "PENDING" 4 4 .ro 0x0 .fixed 0, fd "LEVEL" 3 0 .ro 0x0 .fixed 0]⟩
/-- SUP_LEVEL (Table 16-24). -/
def sup_SUP_LEVEL : RegSpec :=
  ⟨"SUP_LEVEL", 0x104, 4, 0x40, 15, 0x4, false,
   [fd "VOUT" 15 0 .rw 0x0 .nv 4]⟩

/-- Every register of map entry sup. -/
def supRegs : List RegSpec :=
  [sup_SUP_STAT, sup_SUP_CFG, sup_SUP_DEV, sup_SUP_ACK, sup_SUP_LEVEL]

/-- MON_TEVT (Table 16-26). -/
def mon_MON_TEVT : RegSpec :=
  ⟨"MON_TEVT", 0x0, 1, 0x0, 1, 0x0, false,
   [fd "EVT" 31 0 .w1c 0x0 .fixed 15]⟩
/-- MON_VEVT (Table 16-26). -/
def mon_MON_VEVT : RegSpec :=
  ⟨"MON_VEVT", 0x4, 1, 0x0, 1, 0x0, false,
   [fd "EVT" 31 0 .w1c 0x0 .fixed 15]⟩
/-- MON_TEMP (Table 16-27). -/
def mon_MON_TEMP : RegSpec :=
  ⟨"MON_TEMP", 0x40, 16, 0x4, 1, 0x0, false,
   [fd "VALUE" 15 0 .ro 0x0 .fixed 0]⟩
/-- MON_TLIM (Table 16-28). -/
def mon_MON_TLIM : RegSpec :=
  ⟨"MON_TLIM", 0x80, 16, 0x4, 1, 0x0, false,
   [fd "ACTION" 31 30 .rws 0x0 .nv 4, fd "HIGH" 23 12 .rws 0x0 .nv 6, fd "LOW" 11 0 .rws 0x0 .nv 6]⟩
/-- MON_VOLT (Table 16-27). -/
def mon_MON_VOLT : RegSpec :=
  ⟨"MON_VOLT", 0x100, 24, 0x4, 1, 0x0, false,
   [fd "VALUE" 15 0 .ro 0x0 .fixed 0]⟩
/-- MON_VLIM (Table 16-29). -/
def mon_MON_VLIM : RegSpec :=
  ⟨"MON_VLIM", 0x180, 24, 0x4, 1, 0x0, false,
   [fd "SEC" 31 31 .rws 0x0 .nv 4, fd "HIGH" 30 16 .rws 0x0 .nv 4, fd "LOW" 14 0 .rws 0x0 .nv 4]⟩
/-- MON_PROC (Table 16-27). -/
def mon_MON_PROC : RegSpec :=
  ⟨"MON_PROC", 0x200, 8, 0x4, 1, 0x0, false,
   [fd "VALUE" 15 0 .ro 0x0 .fixed 0]⟩

/-- Every register of map entry mon. -/
def monRegs : List RegSpec :=
  [mon_MON_TEVT, mon_MON_VEVT, mon_MON_TEMP, mon_MON_TLIM, mon_MON_VOLT, mon_MON_VLIM, mon_MON_PROC]

/-- KPR_STAT (Table 17-14). -/
def kpr_KPR_STAT : RegSpec :=
  ⟨"KPR_STAT", 0x0, 1, 0x0, 1, 0x0, false,
   [fd "CYCLES" 23 16 .ro 0x0 .fixed 0, fd "START" 15 8 .ro 0x0 .fixed 0, fd "TRIAL" 2 2 .ro 0x0 .fixed 0, fd "HOLD" 1 1 .ro 0x0 .fixed 0, fd "DOORBELL" 0 0 .w1c 0x0 .fixed 8]⟩
/-- KPR_WDOG (Table 17-15). -/
def kpr_KPR_WDOG : RegSpec :=
  ⟨"KPR_WDOG", 0x4, 1, 0x0, 1, 0x0, false,
   [fd "KICK" 15 15 .wo 0x0 .fixed 8, fd "PERIOD" 9 0 .rw 0x64 .fixed 8]⟩
/-- KPR_HOLD (Table 17-16). -/
def kpr_KPR_HOLD : RegSpec :=
  ⟨"KPR_HOLD", 0x8, 1, 0x0, 1, 0x0, false,
   [fd "HOLD" 19 0 .rw 0xfffff .fixed 8]⟩

/-- Every register of map entry kpr. -/
def kprRegs : List RegSpec :=
  [kpr_KPR_STAT, kpr_KPR_WDOG, kpr_KPR_HOLD]

/-- AUD_STAT (Table 17-22). -/
def aud_AUD_STAT : RegSpec :=
  ⟨"AUD_STAT", 0x0, 1, 0x0, 1, 0x0, false,
   [fd "STALLS" 31 24 .rc 0x0 .fixed 0, fd "TAP" 6 0 .ro 0x0 .fixed 0]⟩
/-- AUD_HEAD (Table 17-23). -/
def aud_AUD_HEAD : RegSpec :=
  ⟨"AUD_HEAD", 0x4, 1, 0x0, 1, 0x0, false,
   [fd "NUMBER" 31 0 .ro 0x0 .fixed 0]⟩
/-- AUD_HASH (Table 17-24). -/
def aud_AUD_HASH : RegSpec :=
  ⟨"AUD_HASH", 0x20, 8, 0x4, 1, 0x0, false,
   [fd "HASH" 31 0 .ro 0x0 .fixed 0]⟩

/-- Every register of map entry aud. -/
def audRegs : List RegSpec :=
  [aud_AUD_STAT, aud_AUD_HEAD, aud_AUD_HASH]

/-- PASS_CMD (Table 17-18). -/
def pass_PASS_CMD : RegSpec :=
  ⟨"PASS_CMD", 0x0, 1, 0x0, 1, 0x0, false,
   [fd "STATUS" 31 24 .ro 0x0 .fixed 0, fd "BUSY" 8 8 .ro 0x0 .fixed 0, fd "SLOT" 4 2 .wo 0x0 .fixed 15, fd "OP" 1 0 .wo 0x0 .fixed 15]⟩
/-- PASS_DATA (Table 17-19). -/
def pass_PASS_DATA : RegSpec :=
  ⟨"PASS_DATA", 0x40, 32, 0x4, 1, 0x0, false,
   [fd "DATA" 31 0 .rw 0x0 .fixed 15]⟩
/-- PASS_SLOT (Table 17-20). -/
def pass_PASS_SLOT : RegSpec :=
  ⟨"PASS_SLOT", 0x100, 8, 0x4, 1, 0x0, false,
   [fd "VALID" 31 31 .ro 0x0 .fixed 0, fd "ROLE" 30 29 .ro 0x0 .fixed 0, fd "CORE" 28 24 .ro 0x0 .fixed 0, fd "COARSE" 23 23 .ro 0x0 .fixed 0, fd "RIGHTS" 7 0 .ro 0x0 .fixed 0]⟩

/-- Every register of map entry pass. -/
def passRegs : List RegSpec :=
  [pass_PASS_CMD, pass_PASS_DATA, pass_PASS_SLOT]

/-- PIN_GPIO_OUT (Table 18-11a). -/
def pin_PIN_GPIO_OUT : RegSpec :=
  ⟨"PIN_GPIO_OUT", 0x0, 1, 0x0, 1, 0x0, false,
   [fd "OUT" 31 0 .rw 0x0 .fixed 15]⟩
/-- PIN_GPIO_OE (Table 18-11a). -/
def pin_PIN_GPIO_OE : RegSpec :=
  ⟨"PIN_GPIO_OE", 0x4, 1, 0x0, 1, 0x0, false,
   [fd "OE" 31 0 .rw 0x0 .fixed 15]⟩
/-- PIN_GPIO_IN (Table 18-11a). -/
def pin_PIN_GPIO_IN : RegSpec :=
  ⟨"PIN_GPIO_IN", 0x8, 1, 0x0, 1, 0x0, false,
   [fd "IN" 31 0 .ro 0x0 .fixed 0]⟩
/-- PIN_GPIO_EDGE (Table 18-11a). -/
def pin_PIN_GPIO_EDGE : RegSpec :=
  ⟨"PIN_GPIO_EDGE", 0xc, 1, 0x0, 1, 0x0, false,
   [fd "EDGE" 31 0 .w1c 0x0 .fixed 15]⟩
/-- PIN_SER_CFG (Table 18-11b). -/
def pin_PIN_SER_CFG : RegSpec :=
  ⟨"PIN_SER_CFG", 0x100, 6, 0x10, 1, 0x0, false,
   [fd "EN" 31 31 .rw 0x0 .fixed 7, fd "MODE" 27 26 .rw 0x0 .fixed 7, fd "RATE" 19 0 .rw 0x480 .fixed 7]⟩
/-- PIN_SER_DESC (Table 18-11c). -/
def pin_PIN_SER_DESC : RegSpec :=
  ⟨"PIN_SER_DESC", 0x104, 6, 0x10, 1, 0x0, false,
   [fd "OFFSET" 18 0 .rw 0x0 .fixed 7]⟩
/-- PIN_SER_CMD (Table 18-11d). -/
def pin_PIN_SER_CMD : RegSpec :=
  ⟨"PIN_SER_CMD", 0x108, 6, 0x10, 1, 0x0, false,
   [fd "STATUS" 31 24 .ro 0x0 .fixed 0, fd "BUSY" 8 8 .ro 0x0 .fixed 0, fd "OP" 1 0 .wo 0x0 .fixed 7]⟩
/-- PIN_SER_RX (Table 18-11e). -/
def pin_PIN_SER_RX : RegSpec :=
  ⟨"PIN_SER_RX", 0x10c, 2, 0x10, 1, 0x0, false,
   [fd "EMPTY" 31 31 .ro 0x1 .fixed 0, fd "OVERRUN" 30 30 .w1c 0x0 .fixed 15, fd "FRAMING" 29 29 .w1c 0x0 .fixed 15, fd "BYTE" 7 0 .ro 0x0 .fixed 0]⟩

/-- Every register of map entry pin. -/
def pinRegs : List RegSpec :=
  [pin_PIN_GPIO_OUT, pin_PIN_GPIO_OE, pin_PIN_GPIO_IN, pin_PIN_GPIO_EDGE, pin_PIN_SER_CFG, pin_PIN_SER_DESC, pin_PIN_SER_CMD, pin_PIN_SER_RX]

end Sys2Proof.Machine.RegTable
end

