-- ==== Sys2Proof/Machine/HitasMap.lean ====
section
/-!
DEFINITION. The B1 map contents (Table 02-7) with the domain codes of Table 02-6, and the registers of each entry.
-/
namespace Sys2Proof.Machine

/-- One entry of the B1 map: name, power and clock domain codes, instances, granules per instance, port mask, the
flags S (shadow view) and F (function control), and the registers of the block (R36, R38). -/
structure MapEntry where
  name : String
  pwr : Nat
  clk : Nat
  insts : Nat
  granules : Nat
  ports : Nat
  shadow : Bool
  fn : Bool
  regs : List RegSpec
  deriving DecidableEq, Repr

/-- Entry 0, HIT. -/
def mapEntry0 : MapEntry := ⟨"HIT", 0, 11, 1, 1, 0x0, false, false, RegTable.hitRegs⟩
/-- Entry 1, HIT.SWAP. -/
def mapEntry1 : MapEntry := ⟨"HIT.SWAP", 2, 0, 1, 1, 0x0, false, false, RegTable.swapRegs⟩
/-- Entry 2, NT. -/
def mapEntry2 : MapEntry := ⟨"NT", 2, 0, 2, 1, 0xff800000, false, false, RegTable.ntRegs⟩
/-- Entry 3, TSEL. -/
def mapEntry3 : MapEntry := ⟨"TSEL", 2, 0, 1, 1, 0x0, false, false, RegTable.tselRegs⟩
/-- Entry 4, SE-S. -/
def mapEntry4 : MapEntry := ⟨"SE-S", 13, 0, 1, 1, 0x0, true, true, RegTable.seRegs⟩
/-- Entry 5, SE-M. -/
def mapEntry5 : MapEntry := ⟨"SE-M", 14, 0, 1, 1, 0x0, true, true, RegTable.seRegs⟩
/-- Entry 6, SE-H. -/
def mapEntry6 : MapEntry := ⟨"SE-H", 15, 0, 1, 1, 0x0, true, true, RegTable.seRegs⟩
/-- Entry 7, RFS. -/
def mapEntry7 : MapEntry := ⟨"RFS", 13, 6, 1, 1, 0x8000f, true, true, RegTable.rfsRegs⟩
/-- Entry 8, RFM. -/
def mapEntry8 : MapEntry := ⟨"RFM", 14, 7, 1, 1, 0x1000f0, true, true, RegTable.rfmRegs⟩
/-- Entry 9, RFH. -/
def mapEntry9 : MapEntry := ⟨"RFH", 15, 8, 1, 1, 0x200f00, true, true, RegTable.rfhRegs⟩
/-- Entry 10, DPS. -/
def mapEntry10 : MapEntry := ⟨"DPS", 13, 6, 1, 4, 0x0, true, true, RegTable.dpsRegs⟩
/-- Entry 11, DPM. -/
def mapEntry11 : MapEntry := ⟨"DPM", 14, 7, 1, 1, 0x0, true, true, RegTable.dpmRegs⟩
/-- Entry 12, DPH. -/
def mapEntry12 : MapEntry := ⟨"DPH", 15, 8, 1, 1, 0x0, true, true, RegTable.dphRegs⟩
/-- Entry 13, CAP. -/
def mapEntry13 : MapEntry := ⟨"CAP", 8, 2, 1, 1, 0x0, true, true, RegTable.capRegs⟩
/-- Entry 14, ACC. -/
def mapEntry14 : MapEntry := ⟨"ACC", 8, 2, 3, 1, 0x0, true, false, RegTable.accRegs⟩
/-- Entry 15, DRL. -/
def mapEntry15 : MapEntry := ⟨"DRL", 8, 2, 1, 1, 0x0, true, true, RegTable.drlRegs⟩
/-- Entry 16, LNK. -/
def mapEntry16 : MapEntry := ⟨"LNK", 8, 2, 1, 1, 0x0, true, true, RegTable.lnkRegs⟩
/-- Entry 17, REG. -/
def mapEntry17 : MapEntry := ⟨"REG", 0, 11, 1, 1, 0x0, false, false, RegTable.regRegs⟩
/-- Entry 18, RTR. -/
def mapEntry18 : MapEntry := ⟨"RTR", 9, 4, 1, 4, 0x0, false, true, RegTable.rtrRegs⟩
/-- Entry 19, TM. -/
def mapEntry19 : MapEntry := ⟨"TM", 9, 4, 1, 4, 0x0, true, true, RegTable.tmRegs⟩
/-- Entry 20, EMAC. -/
def mapEntry20 : MapEntry := ⟨"EMAC", 10, 5, 6, 1, 0x3f000, false, true, RegTable.emacRegs⟩
/-- Entry 21, PCIE. -/
def mapEntry21 : MapEntry := ⟨"PCIE", 10, 5, 1, 1, 0x40000, false, true, RegTable.pcieRegs⟩
/-- Entry 22, SPM. -/
def mapEntry22 : MapEntry := ⟨"SPM", 8, 2, 1, 1, 0x0, false, false, RegTable.spmRegs⟩
/-- Entry 23, RQ. -/
def mapEntry23 : MapEntry := ⟨"RQ", 8, 2, 1, 1, 0x0, false, false, RegTable.rqRegs⟩
/-- Entry 24, DMC. -/
def mapEntry24 : MapEntry := ⟨"DMC", 11, 3, 1, 1, 0x0, false, true, RegTable.dmcRegs⟩
/-- Entry 25, WD. -/
def mapEntry25 : MapEntry := ⟨"WD", 8, 2, 1, 1, 0x0, false, false, RegTable.wdRegs⟩
/-- Entry 26, LCK. -/
def mapEntry26 : MapEntry := ⟨"LCK", 8, 2, 1, 1, 0x0, false, false, RegTable.lckRegs⟩
/-- Entry 27, ARB. -/
def mapEntry27 : MapEntry := ⟨"ARB", 8, 2, 1, 1, 0x0, false, false, RegTable.arbRegs⟩
/-- Entry 28, CPH. -/
def mapEntry28 : MapEntry := ⟨"CPH", 16, 2, 1, 1, 0x0, false, true, RegTable.cphRegs⟩
/-- Entry 29, KST. -/
def mapEntry29 : MapEntry := ⟨"KST", 16, 2, 1, 1, 0x180000000000, false, false, RegTable.kstRegs⟩
/-- Entry 30, LDG. -/
def mapEntry30 : MapEntry := ⟨"LDG", 12, 10, 1, 1, 0x0, false, true, RegTable.ldgRegs⟩
/-- Entry 31, PWR. -/
def mapEntry31 : MapEntry := ⟨"PWR", 0, 11, 1, 1, 0xe00000000000, false, false, RegTable.pwrRegs⟩
/-- Entry 32, SUP. -/
def mapEntry32 : MapEntry := ⟨"SUP", 0, 9, 1, 1, 0x400000, false, false, RegTable.supRegs⟩
/-- Entry 33, MON. -/
def mapEntry33 : MapEntry := ⟨"MON", 0, 11, 1, 1, 0x0, true, false, RegTable.monRegs⟩
/-- Entry 34, KPR. -/
def mapEntry34 : MapEntry := ⟨"KPR", 1, 9, 1, 1, 0x0, false, false, RegTable.kprRegs⟩
/-- Entry 35, AUD. -/
def mapEntry35 : MapEntry := ⟨"AUD", 1, 9, 1, 1, 0x0, false, false, RegTable.audRegs⟩
/-- Entry 36, PASS. -/
def mapEntry36 : MapEntry := ⟨"PASS", 1, 9, 1, 1, 0x0, false, false, RegTable.passRegs⟩
/-- Entry 37, PIN. -/
def mapEntry37 : MapEntry := ⟨"PIN", 0, 11, 1, 1, 0x7ff00000000, false, false, RegTable.pinRegs⟩

/-- Table 02-7. -/
def mapEntries : List MapEntry :=
  [mapEntry0, mapEntry1, mapEntry2, mapEntry3, mapEntry4, mapEntry5, mapEntry6, mapEntry7, mapEntry8, mapEntry9] ++
  [mapEntry10, mapEntry11, mapEntry12, mapEntry13, mapEntry14, mapEntry15, mapEntry16, mapEntry17, mapEntry18, mapEntry19] ++
  [mapEntry20, mapEntry21, mapEntry22, mapEntry23, mapEntry24, mapEntry25, mapEntry26, mapEntry27, mapEntry28, mapEntry29] ++
  [mapEntry30, mapEntry31, mapEntry32, mapEntry33, mapEntry34, mapEntry35, mapEntry36, mapEntry37]

end Sys2Proof.Machine
end

