-- ==== Sys2Proof/Machine/RegNames.lean ====
section
/-!
DEFINITION. Names for the registers (R.<register>, an address) and fields (F.<register>_<field>, a place in a
register) of the spec, under the manual's own names; RF and DP stand for RFx and DPx, with the radio as argument.
-/
namespace Sys2Proof.Machine

/-- Address of HIT_ID (Table 02-3). -/
def R.HIT_ID : Nat := 0x8000000000
/-- HIT_ID.PART, bits [31:16]. -/
def F.HIT_ID_PART : FRef := ⟨R.HIT_ID, 31, 16⟩
/-- HIT_ID.STEPPING, bits [15:8]. -/
def F.HIT_ID_STEPPING : FRef := ⟨R.HIT_ID, 15, 8⟩
/-- HIT_ID.MAP_VERSION, bits [7:0]. -/
def F.HIT_ID_MAP_VERSION : FRef := ⟨R.HIT_ID, 7, 0⟩
/-- Address of HIT_TABLE (Table 02-4). -/
def R.HIT_TABLE : Nat := 0x8000000004
/-- HIT_TABLE.ENTRY_COUNT, bits [31:16]. -/
def F.HIT_TABLE_ENTRY_COUNT : FRef := ⟨R.HIT_TABLE, 31, 16⟩
/-- HIT_TABLE.ENTRY_OFFSET, bits [15:0]. -/
def F.HIT_TABLE_ENTRY_OFFSET : FRef := ⟨R.HIT_TABLE, 15, 0⟩
/-- Address of HIT_ACCERR_STATUS (Table 02-10). -/
def R.HIT_ACCERR_STATUS : Nat := 0x8000000010
/-- HIT_ACCERR_STATUS.VALID, bits [31:31]. -/
def F.HIT_ACCERR_STATUS_VALID : FRef := ⟨R.HIT_ACCERR_STATUS, 31, 31⟩
/-- HIT_ACCERR_STATUS.OVERFLOW, bits [30:30]. -/
def F.HIT_ACCERR_STATUS_OVERFLOW : FRef := ⟨R.HIT_ACCERR_STATUS, 30, 30⟩
/-- HIT_ACCERR_STATUS.WRITE, bits [29:29]. -/
def F.HIT_ACCERR_STATUS_WRITE : FRef := ⟨R.HIT_ACCERR_STATUS, 29, 29⟩
/-- HIT_ACCERR_STATUS.REQUESTER, bits [28:24]. -/
def F.HIT_ACCERR_STATUS_REQUESTER : FRef := ⟨R.HIT_ACCERR_STATUS, 28, 24⟩
/-- HIT_ACCERR_STATUS.STATUS, bits [23:16]. -/
def F.HIT_ACCERR_STATUS_STATUS : FRef := ⟨R.HIT_ACCERR_STATUS, 23, 16⟩
/-- HIT_ACCERR_STATUS.ADDR_HI, bits [7:0]. -/
def F.HIT_ACCERR_STATUS_ADDR_HI : FRef := ⟨R.HIT_ACCERR_STATUS, 7, 0⟩
/-- Address of HIT_ACCERR_ADDR (Table 02-11). -/
def R.HIT_ACCERR_ADDR : Nat := 0x8000000014
/-- HIT_ACCERR_ADDR.ADDR_LO, bits [31:0]. -/
def F.HIT_ACCERR_ADDR_ADDR_LO : FRef := ⟨R.HIT_ACCERR_ADDR, 31, 0⟩
/-- Address of HIT_SWAP_SEC_LO (Table 02-13). -/
def R.HIT_SWAP_SEC_LO (k : Nat) : Nat := 0x8000010100 + 0x20 * k
/-- HIT_SWAP_SEC_LO.SEC_LO, bits [31:0]. -/
def F.HIT_SWAP_SEC_LO_SEC_LO (k : Nat) : FRef := ⟨R.HIT_SWAP_SEC_LO k, 31, 0⟩
/-- Address of HIT_SWAP_SEC_HI (Table 02-14). -/
def R.HIT_SWAP_SEC_HI (k : Nat) : Nat := 0x8000010104 + 0x20 * k
/-- HIT_SWAP_SEC_HI.SEC_HI, bits [15:0]. -/
def F.HIT_SWAP_SEC_HI_SEC_HI (k : Nat) : FRef := ⟨R.HIT_SWAP_SEC_HI k, 15, 0⟩
/-- Address of HIT_SWAP_NS (Table 02-15). -/
def R.HIT_SWAP_NS (k : Nat) : Nat := 0x8000010108 + 0x20 * k
/-- HIT_SWAP_NS.NS, bits [29:0]. -/
def F.HIT_SWAP_NS_NS (k : Nat) : FRef := ⟨R.HIT_SWAP_NS k, 29, 0⟩
/-- Address of HIT_SWAP_SETS (Table 02-16). -/
def R.HIT_SWAP_SETS (k : Nat) : Nat := 0x800001010c + 0x20 * k
/-- HIT_SWAP_SETS.GEN, bits [19:19]. -/
def F.HIT_SWAP_SETS_GEN (k : Nat) : FRef := ⟨R.HIT_SWAP_SETS k, 19, 19⟩
/-- HIT_SWAP_SETS.SLALOM, bits [18:12]. -/
def F.HIT_SWAP_SETS_SLALOM (k : Nat) : FRef := ⟨R.HIT_SWAP_SETS k, 18, 12⟩
/-- HIT_SWAP_SETS.CAL, bits [11:9]. -/
def F.HIT_SWAP_SETS_CAL (k : Nat) : FRef := ⟨R.HIT_SWAP_SETS k, 11, 9⟩
/-- HIT_SWAP_SETS.RADIO, bits [8:6]. -/
def F.HIT_SWAP_SETS_RADIO (k : Nat) : FRef := ⟨R.HIT_SWAP_SETS k, 8, 6⟩
/-- HIT_SWAP_SETS.PROG, bits [5:3]. -/
def F.HIT_SWAP_SETS_PROG (k : Nat) : FRef := ⟨R.HIT_SWAP_SETS k, 5, 3⟩
/-- HIT_SWAP_SETS.TABLE, bits [2:0]. -/
def F.HIT_SWAP_SETS_TABLE (k : Nat) : FRef := ⟨R.HIT_SWAP_SETS k, 2, 0⟩
/-- Address of HIT_SWAP_CMD (Table 02-17). -/
def R.HIT_SWAP_CMD (k : Nat) : Nat := 0x8000010110 + 0x20 * k
/-- HIT_SWAP_CMD.OP, bits [1:0]. -/
def F.HIT_SWAP_CMD_OP (k : Nat) : FRef := ⟨R.HIT_SWAP_CMD k, 1, 0⟩
/-- Address of HIT_SWAP_STAT (Table 02-18). -/
def R.HIT_SWAP_STAT (k : Nat) : Nat := 0x8000010114 + 0x20 * k
/-- HIT_SWAP_STAT.STATE, bits [31:30]. -/
def F.HIT_SWAP_STAT_STATE (k : Nat) : FRef := ⟨R.HIT_SWAP_STAT k, 31, 30⟩
/-- HIT_SWAP_STAT.STATUS, bits [29:22]. -/
def F.HIT_SWAP_STAT_STATUS (k : Nat) : FRef := ⟨R.HIT_SWAP_STAT k, 29, 22⟩
/-- HIT_SWAP_STAT.REFUSED, bits [20:20]. -/
def F.HIT_SWAP_STAT_REFUSED (k : Nat) : FRef := ⟨R.HIT_SWAP_STAT k, 20, 20⟩
/-- HIT_SWAP_STAT.DONE, bits [19:0]. -/
def F.HIT_SWAP_STAT_DONE (k : Nat) : FRef := ⟨R.HIT_SWAP_STAT k, 19, 0⟩
/-- Address of NT_CTL (Table 03-2). -/
def R.NT_CTL (i : Nat) : Nat := 0x8000020000 + 0x1000 * i
/-- NT_CTL.HOLDOVER, bits [2:2]. -/
def F.NT_CTL_HOLDOVER (i : Nat) : FRef := ⟨R.NT_CTL i, 2, 2⟩
/-- NT_CTL.MARK_COARSE, bits [1:1]. -/
def F.NT_CTL_MARK_COARSE (i : Nat) : FRef := ⟨R.NT_CTL i, 1, 1⟩
/-- NT_CTL.MARK_FINE, bits [0:0]. -/
def F.NT_CTL_MARK_FINE (i : Nat) : FRef := ⟨R.NT_CTL i, 0, 0⟩
/-- Address of NT_STAT (Table 03-3). -/
def R.NT_STAT (i : Nat) : Nat := 0x8000020004 + 0x1000 * i
/-- NT_STAT.STEP_REFUSALS, bits [31:24]. -/
def F.NT_STAT_STEP_REFUSALS (i : Nat) : FRef := ⟨R.NT_STAT i, 31, 24⟩
/-- NT_STAT.STEP_REFUSED, bits [2:2]. -/
def F.NT_STAT_STEP_REFUSED (i : Nat) : FRef := ⟨R.NT_STAT i, 2, 2⟩
/-- NT_STAT.INCR_CLAMPED, bits [1:1]. -/
def F.NT_STAT_INCR_CLAMPED (i : Nat) : FRef := ⟨R.NT_STAT i, 1, 1⟩
/-- NT_STAT.COARSE, bits [0:0]. -/
def F.NT_STAT_COARSE (i : Nat) : FRef := ⟨R.NT_STAT i, 0, 0⟩
/-- Address of NT_INCR_LO (Table 03-4). -/
def R.NT_INCR_LO (i : Nat) : Nat := 0x8000020008 + 0x1000 * i
/-- NT_INCR_LO.INCR_LO, bits [31:0]. -/
def F.NT_INCR_LO_INCR_LO (i : Nat) : FRef := ⟨R.NT_INCR_LO i, 31, 0⟩
/-- Address of NT_INCR_HI (Table 03-5). -/
def R.NT_INCR_HI (i : Nat) : Nat := 0x800002000c + 0x1000 * i
/-- NT_INCR_HI.INCR_HI, bits [7:0]. -/
def F.NT_INCR_HI_INCR_HI (i : Nat) : FRef := ⟨R.NT_INCR_HI i, 7, 0⟩
/-- Address of NT_NOW_FRAC (Table 03-6). -/
def R.NT_NOW_FRAC (i : Nat) : Nat := 0x8000020010 + 0x1000 * i
/-- NT_NOW_FRAC.FRAC, bits [15:0]. -/
def F.NT_NOW_FRAC_FRAC (i : Nat) : FRef := ⟨R.NT_NOW_FRAC i, 15, 0⟩
/-- Address of NT_NOW_NS (Table 03-7). -/
def R.NT_NOW_NS (i : Nat) : Nat := 0x8000020014 + 0x1000 * i
/-- NT_NOW_NS.NS, bits [29:0]. -/
def F.NT_NOW_NS_NS (i : Nat) : FRef := ⟨R.NT_NOW_NS i, 29, 0⟩
/-- Address of NT_NOW_SEC_LO (Table 03-8). -/
def R.NT_NOW_SEC_LO (i : Nat) : Nat := 0x8000020018 + 0x1000 * i
/-- NT_NOW_SEC_LO.SEC_LO, bits [31:0]. -/
def F.NT_NOW_SEC_LO_SEC_LO (i : Nat) : FRef := ⟨R.NT_NOW_SEC_LO i, 31, 0⟩
/-- Address of NT_NOW_SEC_HI (Table 03-9). -/
def R.NT_NOW_SEC_HI (i : Nat) : Nat := 0x800002001c + 0x1000 * i
/-- NT_NOW_SEC_HI.SEC_HI, bits [15:0]. -/
def F.NT_NOW_SEC_HI_SEC_HI (i : Nat) : FRef := ⟨R.NT_NOW_SEC_HI i, 15, 0⟩
/-- Address of NT_ADJ_FRAC (Table 03-11). -/
def R.NT_ADJ_FRAC (i : Nat) : Nat := 0x8000020020 + 0x1000 * i
/-- NT_ADJ_FRAC.FRAC, bits [15:0]. -/
def F.NT_ADJ_FRAC_FRAC (i : Nat) : FRef := ⟨R.NT_ADJ_FRAC i, 15, 0⟩
/-- Address of NT_ADJ_NS (Table 03-12). -/
def R.NT_ADJ_NS (i : Nat) : Nat := 0x8000020024 + 0x1000 * i
/-- NT_ADJ_NS.NS, bits [31:0]. -/
def F.NT_ADJ_NS_NS (i : Nat) : FRef := ⟨R.NT_ADJ_NS i, 31, 0⟩
/-- Address of NT_ADJ_SEC_LO (Table 03-13). -/
def R.NT_ADJ_SEC_LO (i : Nat) : Nat := 0x8000020028 + 0x1000 * i
/-- NT_ADJ_SEC_LO.SEC_LO, bits [31:0]. -/
def F.NT_ADJ_SEC_LO_SEC_LO (i : Nat) : FRef := ⟨R.NT_ADJ_SEC_LO i, 31, 0⟩
/-- Address of NT_ADJ_SEC_HI (Table 03-14). -/
def R.NT_ADJ_SEC_HI (i : Nat) : Nat := 0x800002002c + 0x1000 * i
/-- NT_ADJ_SEC_HI.SEC_HI, bits [15:0]. -/
def F.NT_ADJ_SEC_HI_SEC_HI (i : Nat) : FRef := ⟨R.NT_ADJ_SEC_HI i, 15, 0⟩
/-- Address of NT_ADJ_CMD (Table 03-15). -/
def R.NT_ADJ_CMD (i : Nat) : Nat := 0x8000020030 + 0x1000 * i
/-- NT_ADJ_CMD.STATUS, bits [31:24]. -/
def F.NT_ADJ_CMD_STATUS (i : Nat) : FRef := ⟨R.NT_ADJ_CMD i, 31, 24⟩
/-- NT_ADJ_CMD.FORCE, bits [2:2]. -/
def F.NT_ADJ_CMD_FORCE (i : Nat) : FRef := ⟨R.NT_ADJ_CMD i, 2, 2⟩
/-- NT_ADJ_CMD.OP, bits [1:0]. -/
def F.NT_ADJ_CMD_OP (i : Nat) : FRef := ⟨R.NT_ADJ_CMD i, 1, 0⟩
/-- Address of NT_STEP_LIMIT (Table 03-16). -/
def R.NT_STEP_LIMIT (i : Nat) : Nat := 0x8000020034 + 0x1000 * i
/-- NT_STEP_LIMIT.LIMIT, bits [15:0]. -/
def F.NT_STEP_LIMIT_LIMIT (i : Nat) : FRef := ⟨R.NT_STEP_LIMIT i, 15, 0⟩
/-- Address of NT_CAP_FRAC (Table 03-6). -/
def R.NT_CAP_FRAC (i k : Nat) : Nat := 0x8000020100 + 0x1000 * i + 0x20 * k
/-- NT_CAP_FRAC.FRAC, bits [15:0]. -/
def F.NT_CAP_FRAC_FRAC (i k : Nat) : FRef := ⟨R.NT_CAP_FRAC i k, 15, 0⟩
/-- Address of NT_CAP_NS (Table 03-7). -/
def R.NT_CAP_NS (i k : Nat) : Nat := 0x8000020104 + 0x1000 * i + 0x20 * k
/-- NT_CAP_NS.NS, bits [29:0]. -/
def F.NT_CAP_NS_NS (i k : Nat) : FRef := ⟨R.NT_CAP_NS i k, 29, 0⟩
/-- Address of NT_CAP_SEC_LO (Table 03-8). -/
def R.NT_CAP_SEC_LO (i k : Nat) : Nat := 0x8000020108 + 0x1000 * i + 0x20 * k
/-- NT_CAP_SEC_LO.SEC_LO, bits [31:0]. -/
def F.NT_CAP_SEC_LO_SEC_LO (i k : Nat) : FRef := ⟨R.NT_CAP_SEC_LO i k, 31, 0⟩
/-- Address of NT_CAP_SEC_HI (Table 03-9). -/
def R.NT_CAP_SEC_HI (i k : Nat) : Nat := 0x800002010c + 0x1000 * i + 0x20 * k
/-- NT_CAP_SEC_HI.SEC_HI, bits [15:0]. -/
def F.NT_CAP_SEC_HI_SEC_HI (i k : Nat) : FRef := ⟨R.NT_CAP_SEC_HI i k, 15, 0⟩
/-- Address of NT_CAP_STAT (Table 03-22). -/
def R.NT_CAP_STAT (i k : Nat) : Nat := 0x8000020110 + 0x1000 * i + 0x20 * k
/-- NT_CAP_STAT.VALID, bits [31:31]. -/
def F.NT_CAP_STAT_VALID (i k : Nat) : FRef := ⟨R.NT_CAP_STAT i k, 31, 31⟩
/-- NT_CAP_STAT.OVERRUN, bits [30:30]. -/
def F.NT_CAP_STAT_OVERRUN (i k : Nat) : FRef := ⟨R.NT_CAP_STAT i k, 30, 30⟩
/-- NT_CAP_STAT.COUNT, bits [15:0]. -/
def F.NT_CAP_STAT_COUNT (i k : Nat) : FRef := ⟨R.NT_CAP_STAT i k, 15, 0⟩
/-- Address of NT_IN_CFG (Table 03-23). -/
def R.NT_IN_CFG (i k : Nat) : Nat := 0x8000020114 + 0x1000 * i + 0x20 * k
/-- NT_IN_CFG.EDGE, bits [1:1]. -/
def F.NT_IN_CFG_EDGE (i k : Nat) : FRef := ⟨R.NT_IN_CFG i k, 1, 1⟩
/-- NT_IN_CFG.EN, bits [0:0]. -/
def F.NT_IN_CFG_EN (i k : Nat) : FRef := ⟨R.NT_IN_CFG i k, 0, 0⟩
/-- Address of NT_IN_DELAY (Table 03-24). -/
def R.NT_IN_DELAY (i k : Nat) : Nat := 0x8000020118 + 0x1000 * i + 0x20 * k
/-- NT_IN_DELAY.DELAY, bits [31:0]. -/
def F.NT_IN_DELAY_DELAY (i k : Nat) : FRef := ⟨R.NT_IN_DELAY i k, 31, 0⟩
/-- Address of NT_OUT_CFG (Table 03-27). -/
def R.NT_OUT_CFG (i k : Nat) : Nat := 0x8000020200 + 0x1000 * i + 0x10 * k
/-- NT_OUT_CFG.WIDTH, bits [27:8]. -/
def F.NT_OUT_CFG_WIDTH (i k : Nat) : FRef := ⟨R.NT_OUT_CFG i k, 27, 8⟩
/-- NT_OUT_CFG.POL, bits [3:3]. -/
def F.NT_OUT_CFG_POL (i k : Nat) : FRef := ⟨R.NT_OUT_CFG i k, 3, 3⟩
/-- NT_OUT_CFG.SRC, bits [2:1]. -/
def F.NT_OUT_CFG_SRC (i k : Nat) : FRef := ⟨R.NT_OUT_CFG i k, 2, 1⟩
/-- NT_OUT_CFG.EN, bits [0:0]. -/
def F.NT_OUT_CFG_EN (i k : Nat) : FRef := ⟨R.NT_OUT_CFG i k, 0, 0⟩
/-- Address of NT_OUT_OFFSET (Table 03-28). -/
def R.NT_OUT_OFFSET (i k : Nat) : Nat := 0x8000020204 + 0x1000 * i + 0x10 * k
/-- NT_OUT_OFFSET.OFFSET, bits [31:0]. -/
def F.NT_OUT_OFFSET_OFFSET (i k : Nat) : FRef := ⟨R.NT_OUT_OFFSET i k, 31, 0⟩
/-- Address of NT_TSYNC_RX_SEC_LO (Table 03-30). -/
def R.NT_TSYNC_RX_SEC_LO (i : Nat) : Nat := 0x8000020240 + 0x1000 * i
/-- NT_TSYNC_RX_SEC_LO.SEC_LO, bits [31:0]. -/
def F.NT_TSYNC_RX_SEC_LO_SEC_LO (i : Nat) : FRef := ⟨R.NT_TSYNC_RX_SEC_LO i, 31, 0⟩
/-- Address of NT_TSYNC_RX_SEC_HI (Table 03-31). -/
def R.NT_TSYNC_RX_SEC_HI (i : Nat) : Nat := 0x8000020244 + 0x1000 * i
/-- NT_TSYNC_RX_SEC_HI.VALID, bits [31:31]. -/
def F.NT_TSYNC_RX_SEC_HI_VALID (i : Nat) : FRef := ⟨R.NT_TSYNC_RX_SEC_HI i, 31, 31⟩
/-- NT_TSYNC_RX_SEC_HI.CRC_ERR, bits [30:30]. -/
def F.NT_TSYNC_RX_SEC_HI_CRC_ERR (i : Nat) : FRef := ⟨R.NT_TSYNC_RX_SEC_HI i, 30, 30⟩
/-- NT_TSYNC_RX_SEC_HI.DOMAIN, bits [29:29]. -/
def F.NT_TSYNC_RX_SEC_HI_DOMAIN (i : Nat) : FRef := ⟨R.NT_TSYNC_RX_SEC_HI i, 29, 29⟩
/-- NT_TSYNC_RX_SEC_HI.HOLDOVER, bits [28:28]. -/
def F.NT_TSYNC_RX_SEC_HI_HOLDOVER (i : Nat) : FRef := ⟨R.NT_TSYNC_RX_SEC_HI i, 28, 28⟩
/-- NT_TSYNC_RX_SEC_HI.SEC_HI, bits [15:0]. -/
def F.NT_TSYNC_RX_SEC_HI_SEC_HI (i : Nat) : FRef := ⟨R.NT_TSYNC_RX_SEC_HI i, 15, 0⟩
/-- Address of NT_TOD_CFG (Table 03-25). -/
def R.NT_TOD_CFG (i k : Nat) : Nat := 0x8000020280 + 0x1000 * i + 0x8 * k
/-- NT_TOD_CFG.EN, bits [20:20]. -/
def F.NT_TOD_CFG_EN (i k : Nat) : FRef := ⟨R.NT_TOD_CFG i k, 20, 20⟩
/-- NT_TOD_CFG.BAUD, bits [19:0]. -/
def F.NT_TOD_CFG_BAUD (i k : Nat) : FRef := ⟨R.NT_TOD_CFG i k, 19, 0⟩
/-- Address of NT_TOD_DATA (Table 03-26). -/
def R.NT_TOD_DATA (i k : Nat) : Nat := 0x8000020284 + 0x1000 * i + 0x8 * k
/-- NT_TOD_DATA.EMPTY, bits [31:31]. -/
def F.NT_TOD_DATA_EMPTY (i k : Nat) : FRef := ⟨R.NT_TOD_DATA i k, 31, 31⟩
/-- NT_TOD_DATA.OVERRUN, bits [30:30]. -/
def F.NT_TOD_DATA_OVERRUN (i k : Nat) : FRef := ⟨R.NT_TOD_DATA i k, 30, 30⟩
/-- NT_TOD_DATA.START, bits [29:29]. -/
def F.NT_TOD_DATA_START (i k : Nat) : FRef := ⟨R.NT_TOD_DATA i k, 29, 29⟩
/-- NT_TOD_DATA.BYTE, bits [7:0]. -/
def F.NT_TOD_DATA_BYTE (i k : Nat) : FRef := ⟨R.NT_TOD_DATA i k, 7, 0⟩
/-- Address of TSEL_CTL (Table 03-18). -/
def R.TSEL_CTL : Nat := 0x8000030000
/-- TSEL_CTL.SLEW_RATE, bits [11:4]. -/
def F.TSEL_CTL_SLEW_RATE : FRef := ⟨R.TSEL_CTL, 11, 4⟩
/-- TSEL_CTL.SEL, bits [0:0]. -/
def F.TSEL_CTL_SEL : FRef := ⟨R.TSEL_CTL, 0, 0⟩
/-- Address of TSEL_STAT (Table 03-19). -/
def R.TSEL_STAT : Nat := 0x8000030004
/-- TSEL_STAT.LAST_STATUS, bits [31:24]. -/
def F.TSEL_STAT_LAST_STATUS : FRef := ⟨R.TSEL_STAT, 31, 24⟩
/-- TSEL_STAT.COARSE, bits [2:2]. -/
def F.TSEL_STAT_COARSE : FRef := ⟨R.TSEL_STAT, 2, 2⟩
/-- TSEL_STAT.SLEWING, bits [1:1]. -/
def F.TSEL_STAT_SLEWING : FRef := ⟨R.TSEL_STAT, 1, 1⟩
/-- TSEL_STAT.CUR, bits [0:0]. -/
def F.TSEL_STAT_CUR : FRef := ⟨R.TSEL_STAT, 0, 0⟩
/-- Address of TSEL_REF (Table 03-10). -/
def R.TSEL_REF : Nat := 0x8000030008
/-- TSEL_REF.REF_LOST, bits [7:7]. -/
def F.TSEL_REF_REF_LOST : FRef := ⟨R.TSEL_REF, 7, 7⟩
/-- TSEL_REF.REF_PRESENT, bits [6:6]. -/
def F.TSEL_REF_REF_PRESENT : FRef := ⟨R.TSEL_REF, 6, 6⟩
/-- TSEL_REF.ACTIVE, bits [5:5]. -/
def F.TSEL_REF_ACTIVE : FRef := ⟨R.TSEL_REF, 5, 5⟩
/-- TSEL_REF.SRC, bits [1:0]. -/
def F.TSEL_REF_SRC : FRef := ⟨R.TSEL_REF, 1, 0⟩
/-- Address of TSEL_NOW_FRAC (Table 03-6). -/
def R.TSEL_NOW_FRAC : Nat := 0x8000030010
/-- TSEL_NOW_FRAC.FRAC, bits [15:0]. -/
def F.TSEL_NOW_FRAC_FRAC : FRef := ⟨R.TSEL_NOW_FRAC, 15, 0⟩
/-- Address of TSEL_NOW_NS (Table 03-7). -/
def R.TSEL_NOW_NS : Nat := 0x8000030014
/-- TSEL_NOW_NS.NS, bits [29:0]. -/
def F.TSEL_NOW_NS_NS : FRef := ⟨R.TSEL_NOW_NS, 29, 0⟩
/-- Address of TSEL_NOW_SEC_LO (Table 03-8). -/
def R.TSEL_NOW_SEC_LO : Nat := 0x8000030018
/-- TSEL_NOW_SEC_LO.SEC_LO, bits [31:0]. -/
def F.TSEL_NOW_SEC_LO_SEC_LO : FRef := ⟨R.TSEL_NOW_SEC_LO, 31, 0⟩
/-- Address of TSEL_NOW_SEC_HI (Table 03-9). -/
def R.TSEL_NOW_SEC_HI : Nat := 0x800003001c
/-- TSEL_NOW_SEC_HI.SEC_HI, bits [15:0]. -/
def F.TSEL_NOW_SEC_HI_SEC_HI : FRef := ⟨R.TSEL_NOW_SEC_HI, 15, 0⟩
/-- Address of TSEL_OFS_FRAC (Table 03-20). -/
def R.TSEL_OFS_FRAC : Nat := 0x8000030020
/-- TSEL_OFS_FRAC.FRAC, bits [15:0]. -/
def F.TSEL_OFS_FRAC_FRAC : FRef := ⟨R.TSEL_OFS_FRAC, 15, 0⟩
/-- Address of TSEL_OFS_NS (Table 03-21). -/
def R.TSEL_OFS_NS : Nat := 0x8000030024
/-- TSEL_OFS_NS.NS, bits [31:0]. -/
def F.TSEL_OFS_NS_NS : FRef := ⟨R.TSEL_OFS_NS, 31, 0⟩
/-- Address of SE_STAT (Table 05-9). -/
def R.SE_STAT (i : Nat) : Nat := 0x8000040000 + 0x10000 * i
/-- SE_STAT.POST_LEVEL, bits [20:16]. -/
def F.SE_STAT_POST_LEVEL (i : Nat) : FRef := ⟨R.SE_STAT i, 20, 16⟩
/-- SE_STAT.LOAD_REJECT, bits [9:9]. -/
def F.SE_STAT_LOAD_REJECT (i : Nat) : FRef := ⟨R.SE_STAT i, 9, 9⟩
/-- SE_STAT.POST_DROP, bits [8:8]. -/
def F.SE_STAT_POST_DROP (i : Nat) : FRef := ⟨R.SE_STAT i, 8, 8⟩
/-- SE_STAT.FIXED_TRIG, bits [7:7]. -/
def F.SE_STAT_FIXED_TRIG (i : Nat) : FRef := ⟨R.SE_STAT i, 7, 7⟩
/-- SE_STAT.ACCESS_FAULT, bits [6:6]. -/
def F.SE_STAT_ACCESS_FAULT (i : Nat) : FRef := ⟨R.SE_STAT i, 6, 6⟩
/-- SE_STAT.STEP_SKIP, bits [5:5]. -/
def F.SE_STAT_STEP_SKIP (i : Nat) : FRef := ⟨R.SE_STAT i, 5, 5⟩
/-- SE_STAT.LATE_AT, bits [4:4]. -/
def F.SE_STAT_LATE_AT (i : Nat) : FRef := ⟨R.SE_STAT i, 4, 4⟩
/-- SE_STAT.LATE_WAIT, bits [3:3]. -/
def F.SE_STAT_LATE_WAIT (i : Nat) : FRef := ⟨R.SE_STAT i, 3, 3⟩
/-- SE_STAT.EV_TIMEOUT, bits [2:2]. -/
def F.SE_STAT_EV_TIMEOUT (i : Nat) : FRef := ⟨R.SE_STAT i, 2, 2⟩
/-- SE_STAT.WAITING, bits [1:1]. -/
def F.SE_STAT_WAITING (i : Nat) : FRef := ⟨R.SE_STAT i, 1, 1⟩
/-- SE_STAT.SWAPPED, bits [0:0]. -/
def F.SE_STAT_SWAPPED (i : Nat) : FRef := ⟨R.SE_STAT i, 0, 0⟩
/-- Address of SE_LATE_COUNT (Table 05-10). -/
def R.SE_LATE_COUNT (i : Nat) : Nat := 0x8000040004 + 0x10000 * i
/-- SE_LATE_COUNT.AT_LATE, bits [31:24]. -/
def F.SE_LATE_COUNT_AT_LATE (i : Nat) : FRef := ⟨R.SE_LATE_COUNT i, 31, 24⟩
/-- SE_LATE_COUNT.WAIT_LATE, bits [23:16]. -/
def F.SE_LATE_COUNT_WAIT_LATE (i : Nat) : FRef := ⟨R.SE_LATE_COUNT i, 23, 16⟩
/-- SE_LATE_COUNT.EV_TIMEOUTS, bits [15:8]. -/
def F.SE_LATE_COUNT_EV_TIMEOUTS (i : Nat) : FRef := ⟨R.SE_LATE_COUNT i, 15, 8⟩
/-- SE_LATE_COUNT.CMD_LATE, bits [7:0]. -/
def F.SE_LATE_COUNT_CMD_LATE (i : Nat) : FRef := ⟨R.SE_LATE_COUNT i, 7, 0⟩
/-- Address of SE_FAULT (Table 05-11). -/
def R.SE_FAULT (i : Nat) : Nat := 0x8000040008 + 0x10000 * i
/-- SE_FAULT.CAUSE, bits [31:24]. -/
def F.SE_FAULT_CAUSE (i : Nat) : FRef := ⟨R.SE_FAULT i, 31, 24⟩
/-- SE_FAULT.PC, bits [15:0]. -/
def F.SE_FAULT_PC (i : Nat) : FRef := ⟨R.SE_FAULT i, 15, 0⟩
/-- Address of SE_CFG (Table 05-12). -/
def R.SE_CFG (i : Nat) : Nat := 0x8000040010 + 0x10000 * i
/-- SE_CFG.ENTRY, bits [13:2]. -/
def F.SE_CFG_ENTRY (i : Nat) : FRef := ⟨R.SE_CFG i, 13, 2⟩
/-- Address of SE_WAIT_LIMIT (Table 05-13). -/
def R.SE_WAIT_LIMIT (i : Nat) : Nat := 0x8000040014 + 0x10000 * i
/-- SE_WAIT_LIMIT.LIMIT, bits [31:0]. -/
def F.SE_WAIT_LIMIT_LIMIT (i : Nat) : FRef := ⟨R.SE_WAIT_LIMIT i, 31, 0⟩
/-- Address of SE_LM_ADDR (Table 05-14). -/
def R.SE_LM_ADDR (i : Nat) : Nat := 0x8000040020 + 0x10000 * i
/-- SE_LM_ADDR.ADDR, bits [15:2]. -/
def F.SE_LM_ADDR_ADDR (i : Nat) : FRef := ⟨R.SE_LM_ADDR i, 15, 2⟩
/-- Address of SE_LM_DATA (Table 05-15). -/
def R.SE_LM_DATA (i : Nat) : Nat := 0x8000040024 + 0x10000 * i
/-- SE_LM_DATA.DATA, bits [31:0]. -/
def F.SE_LM_DATA_DATA (i : Nat) : FRef := ⟨R.SE_LM_DATA i, 31, 0⟩
/-- Address of SE_POST_LO (Table 05-16). -/
def R.SE_POST_LO (i : Nat) : Nat := 0x8000040030 + 0x10000 * i
/-- SE_POST_LO.VALUE_LO, bits [31:0]. -/
def F.SE_POST_LO_VALUE_LO (i : Nat) : FRef := ⟨R.SE_POST_LO i, 31, 0⟩
/-- Address of SE_POST_HI (Table 05-17). -/
def R.SE_POST_HI (i : Nat) : Nat := 0x8000040034 + 0x10000 * i
/-- SE_POST_HI.VALUE_HI, bits [31:0]. -/
def F.SE_POST_HI_VALUE_HI (i : Nat) : FRef := ⟨R.SE_POST_HI i, 31, 0⟩
/-- Address of SE_POP_LO (Table 05-18). -/
def R.SE_POP_LO (i : Nat) : Nat := 0x8000040038 + 0x10000 * i
/-- SE_POP_LO.VALUE_LO, bits [31:0]. -/
def F.SE_POP_LO_VALUE_LO (i : Nat) : FRef := ⟨R.SE_POP_LO i, 31, 0⟩
/-- Address of SE_POP_HI (Table 05-19). -/
def R.SE_POP_HI (i : Nat) : Nat := 0x800004003c + 0x10000 * i
/-- SE_POP_HI.VALUE_HI, bits [31:0]. -/
def F.SE_POP_HI_VALUE_HI (i : Nat) : FRef := ⟨R.SE_POP_HI i, 31, 0⟩
/-- Address of SE_EVPOST (Table 05-20). -/
def R.SE_EVPOST (i : Nat) : Nat := 0x8000040040 + 0x10000 * i
/-- SE_EVPOST.LINE, bits [7:0]. -/
def F.SE_EVPOST_LINE (i : Nat) : FRef := ⟨R.SE_EVPOST i, 7, 0⟩
/-- Address of SE_FN_CTL (Table 02-19). -/
def R.SE_FN_CTL (i k : Nat) : Nat := 0x8000040080 + 0x10000 * i + 0x4 * k
/-- SE_FN_CTL.EN, bits [0:0]. -/
def F.SE_FN_CTL_EN (i k : Nat) : FRef := ⟨R.SE_FN_CTL i k, 0, 0⟩
/-- Address of SE_FN_STAT (Table 02-20). -/
def R.SE_FN_STAT (i k : Nat) : Nat := 0x80000400c0 + 0x10000 * i + 0x4 * k
/-- SE_FN_STAT.LAST_STATUS, bits [31:24]. -/
def F.SE_FN_STAT_LAST_STATUS (i k : Nat) : FRef := ⟨R.SE_FN_STAT i k, 31, 24⟩
/-- SE_FN_STAT.RESTART_PENDING, bits [4:4]. -/
def F.SE_FN_STAT_RESTART_PENDING (i k : Nat) : FRef := ⟨R.SE_FN_STAT i k, 4, 4⟩
/-- SE_FN_STAT.STATE, bits [2:0]. -/
def F.SE_FN_STAT_STATE (i k : Nat) : FRef := ⟨R.SE_FN_STAT i k, 2, 0⟩
/-- Address of RF_STAT (Table 06-10). -/
def R.RF_STAT (i : Nat) : Nat := 0x8000070000 + 0x10000 * i
/-- RF_STAT.BAD_ARG, bits [7:7]. -/
def F.RF_STAT_BAD_ARG (i : Nat) : FRef := ⟨R.RF_STAT i, 7, 7⟩
/-- RF_STAT.FEM_OVERRUN, bits [6:6]. -/
def F.RF_STAT_FEM_OVERRUN (i : Nat) : FRef := ⟨R.RF_STAT i, 6, 6⟩
/-- RF_STAT.POWER_CLAMPED, bits [5:5]. -/
def F.RF_STAT_POWER_CLAMPED (i : Nat) : FRef := ⟨R.RF_STAT i, 5, 5⟩
/-- RF_STAT.CAL_PENDING, bits [4:4]. -/
def F.RF_STAT_CAL_PENDING (i : Nat) : FRef := ⟨R.RF_STAT i, 4, 4⟩
/-- RF_STAT.LOCKED, bits [3:0]. -/
def F.RF_STAT_LOCKED (i : Nat) : FRef := ⟨R.RF_STAT i, 3, 0⟩
/-- Address of RF_COUNT (Table 06-11). -/
def R.RF_COUNT (i : Nat) : Nat := 0x8000070004 + 0x10000 * i
/-- RF_COUNT.LOCK_LATE, bits [31:24]. -/
def F.RF_COUNT_LOCK_LATE (i : Nat) : FRef := ⟨R.RF_COUNT i, 31, 24⟩
/-- RF_COUNT.YIELDS, bits [23:16]. -/
def F.RF_COUNT_YIELDS (i : Nat) : FRef := ⟨R.RF_COUNT i, 23, 16⟩
/-- RF_COUNT.RX_CUT, bits [15:8]. -/
def F.RF_COUNT_RX_CUT (i : Nat) : FRef := ⟨R.RF_COUNT i, 15, 8⟩
/-- RF_COUNT.PA_LATE, bits [7:0]. -/
def F.RF_COUNT_PA_LATE (i : Nat) : FRef := ⟨R.RF_COUNT i, 7, 0⟩
/-- Address of RF_CHAIN_STAT (Table 06-12). -/
def R.RF_CHAIN_STAT (i k : Nat) : Nat := 0x8000070010 + 0x10000 * i + 0x4 * k
/-- RF_CHAIN_STAT.CHAN, bits [31:16]. -/
def F.RF_CHAIN_STAT_CHAN (i k : Nat) : FRef := ⟨R.RF_CHAIN_STAT i k, 31, 16⟩
/-- RF_CHAIN_STAT.LOCKED, bits [15:15]. -/
def F.RF_CHAIN_STAT_LOCKED (i k : Nat) : FRef := ⟨R.RF_CHAIN_STAT i k, 15, 15⟩
/-- RF_CHAIN_STAT.QUEUE, bits [11:8]. -/
def F.RF_CHAIN_STAT_QUEUE (i k : Nat) : FRef := ⟨R.RF_CHAIN_STAT i k, 11, 8⟩
/-- RF_CHAIN_STAT.STATE, bits [3:0]. -/
def F.RF_CHAIN_STAT_STATE (i k : Nat) : FRef := ⟨R.RF_CHAIN_STAT i k, 3, 0⟩
/-- Address of RF_FEM_CFG (Table 06-13). -/
def R.RF_FEM_CFG (i : Nat) : Nat := 0x8000070020 + 0x10000 * i
/-- RF_FEM_CFG.FAST, bits [24:24]. -/
def F.RF_FEM_CFG_FAST (i : Nat) : FRef := ⟨R.RF_FEM_CFG i, 24, 24⟩
/-- RF_FEM_CFG.TAIL, bits [23:16]. -/
def F.RF_FEM_CFG_TAIL (i : Nat) : FRef := ⟨R.RF_FEM_CFG i, 23, 16⟩
/-- RF_FEM_CFG.LEAD, bits [15:8]. -/
def F.RF_FEM_CFG_LEAD (i : Nat) : FRef := ⟨R.RF_FEM_CFG i, 15, 8⟩
/-- Address of RF_FEM_AUTO (Table 06-14). -/
def R.RF_FEM_AUTO (i k : Nat) : Nat := 0x8000070030 + 0x10000 * i + 0x4 * k
/-- RF_FEM_AUTO.TX_ON, bits [31:24]. -/
def F.RF_FEM_AUTO_TX_ON (i k : Nat) : FRef := ⟨R.RF_FEM_AUTO i k, 31, 24⟩
/-- RF_FEM_AUTO.TX_OFF, bits [23:16]. -/
def F.RF_FEM_AUTO_TX_OFF (i k : Nat) : FRef := ⟨R.RF_FEM_AUTO i k, 23, 16⟩
/-- RF_FEM_AUTO.RX_ON, bits [15:8]. -/
def F.RF_FEM_AUTO_RX_ON (i k : Nat) : FRef := ⟨R.RF_FEM_AUTO i k, 15, 8⟩
/-- RF_FEM_AUTO.CAL_ENTRY, bits [7:0]. -/
def F.RF_FEM_AUTO_CAL_ENTRY (i k : Nat) : FRef := ⟨R.RF_FEM_AUTO i k, 7, 0⟩
/-- Address of RF_PA_NEED (Table 06-15). -/
def R.RF_PA_NEED (i k j : Nat) : Nat := 0x8000070040 + 0x10000 * i + 0x10 * k + 0x4 * j
/-- RF_PA_NEED.VALID, bits [31:31]. -/
def F.RF_PA_NEED_VALID (i k j : Nat) : FRef := ⟨R.RF_PA_NEED i k j, 31, 31⟩
/-- RF_PA_NEED.REGULATOR, bits [25:24]. -/
def F.RF_PA_NEED_REGULATOR (i k j : Nat) : FRef := ⟨R.RF_PA_NEED i k j, 25, 24⟩
/-- RF_PA_NEED.POWER_MAX, bits [23:16]. -/
def F.RF_PA_NEED_POWER_MAX (i k j : Nat) : FRef := ⟨R.RF_PA_NEED i k j, 23, 16⟩
/-- RF_PA_NEED.LEVEL, bits [3:0]. -/
def F.RF_PA_NEED_LEVEL (i k j : Nat) : FRef := ⟨R.RF_PA_NEED i k j, 3, 0⟩
/-- Address of RF_FN_CTL (Table 02-19). -/
def R.RF_FN_CTL (i k : Nat) : Nat := 0x8000070080 + 0x10000 * i + 0x4 * k
/-- RF_FN_CTL.EN, bits [0:0]. -/
def F.RF_FN_CTL_EN (i k : Nat) : FRef := ⟨R.RF_FN_CTL i k, 0, 0⟩
/-- Address of RF_FN_STAT (Table 02-20). -/
def R.RF_FN_STAT (i k : Nat) : Nat := 0x80000700c0 + 0x10000 * i + 0x4 * k
/-- RF_FN_STAT.LAST_STATUS, bits [31:24]. -/
def F.RF_FN_STAT_LAST_STATUS (i k : Nat) : FRef := ⟨R.RF_FN_STAT i k, 31, 24⟩
/-- RF_FN_STAT.RESTART_PENDING, bits [4:4]. -/
def F.RF_FN_STAT_RESTART_PENDING (i k : Nat) : FRef := ⟨R.RF_FN_STAT i k, 4, 4⟩
/-- RF_FN_STAT.STATE, bits [2:0]. -/
def F.RF_FN_STAT_STATE (i k : Nat) : FRef := ⟨R.RF_FN_STAT i k, 2, 0⟩
/-- Address of RF_CAL_TXDLY (Table 06-16). -/
def R.RF_CAL_TXDLY (i k : Nat) : Nat := 0x8000070100 + 0x10000 * i + 0x4 * k
/-- RF_CAL_TXDLY.DELAY, bits [31:0]. -/
def F.RF_CAL_TXDLY_DELAY (i k : Nat) : FRef := ⟨R.RF_CAL_TXDLY i k, 31, 0⟩
/-- Address of RF_CAL_RXDLY (Table 06-16). -/
def R.RF_CAL_RXDLY (i k : Nat) : Nat := 0x8000070110 + 0x10000 * i + 0x4 * k
/-- RF_CAL_RXDLY.DELAY, bits [31:0]. -/
def F.RF_CAL_RXDLY_DELAY (i k : Nat) : FRef := ⟨R.RF_CAL_RXDLY i k, 31, 0⟩
/-- Address of RF_CAL_RXGAIN (Table 06-17). -/
def R.RF_CAL_RXGAIN (i k : Nat) : Nat := 0x8000070120 + 0x10000 * i + 0x4 * k
/-- RF_CAL_RXGAIN.GAIN, bits [7:0]. -/
def F.RF_CAL_RXGAIN_GAIN (i k : Nat) : FRef := ⟨R.RF_CAL_RXGAIN i k, 7, 0⟩
/-- Address of RF_CAL_FEMG (Table 06-18). -/
def R.RF_CAL_FEMG (i k j : Nat) : Nat := 0x8000070140 + 0x10000 * i + 0x10 * k + 0x4 * j
/-- RF_CAL_FEMG.GAIN3, bits [31:24]. -/
def F.RF_CAL_FEMG_GAIN3 (i k j : Nat) : FRef := ⟨R.RF_CAL_FEMG i k j, 31, 24⟩
/-- RF_CAL_FEMG.GAIN2, bits [23:16]. -/
def F.RF_CAL_FEMG_GAIN2 (i k j : Nat) : FRef := ⟨R.RF_CAL_FEMG i k j, 23, 16⟩
/-- RF_CAL_FEMG.GAIN1, bits [15:8]. -/
def F.RF_CAL_FEMG_GAIN1 (i k j : Nat) : FRef := ⟨R.RF_CAL_FEMG i k j, 15, 8⟩
/-- RF_CAL_FEMG.GAIN0, bits [7:0]. -/
def F.RF_CAL_FEMG_GAIN0 (i k j : Nat) : FRef := ⟨R.RF_CAL_FEMG i k j, 7, 0⟩
/-- Address of RF_FEM_SEQ (Table 06-19). -/
def R.RF_FEM_SEQ (i k j : Nat) : Nat := 0x8000070400 + 0x10000 * i + 0x20 * k + 0x4 * j
/-- RF_FEM_SEQ.KIND, bits [31:30]. -/
def F.RF_FEM_SEQ_KIND (i k j : Nat) : FRef := ⟨R.RF_FEM_SEQ i k j, 31, 30⟩
/-- RF_FEM_SEQ.USID, bits [29:26]. -/
def F.RF_FEM_SEQ_USID (i k j : Nat) : FRef := ⟨R.RF_FEM_SEQ i k j, 29, 26⟩
/-- RF_FEM_SEQ.ADDR, bits [23:16]. -/
def F.RF_FEM_SEQ_ADDR (i k j : Nat) : FRef := ⟨R.RF_FEM_SEQ i k j, 23, 16⟩
/-- RF_FEM_SEQ.DATA, bits [15:8]. -/
def F.RF_FEM_SEQ_DATA (i k j : Nat) : FRef := ⟨R.RF_FEM_SEQ i k j, 15, 8⟩
/-- RF_FEM_SEQ.WAIT, bits [7:0]. -/
def F.RF_FEM_SEQ_WAIT (i k j : Nat) : FRef := ⟨R.RF_FEM_SEQ i k j, 7, 0⟩
/-- Address of DP_STAT (Table 07-14). -/
def R.DP_STAT (i : Nat) : Nat := 0x80000a0000 + 0x10000 * i
/-- DP_STAT.BUSY, bits [24:16]. -/
def F.DP_STAT_BUSY (i : Nat) : FRef := ⟨R.DP_STAT i, 24, 16⟩
/-- DP_STAT.BAD_ENTRY, bits [15:15]. -/
def F.DP_STAT_BAD_ENTRY (i : Nat) : FRef := ⟨R.DP_STAT i, 15, 15⟩
/-- DP_STAT.HELD, bits [8:0]. -/
def F.DP_STAT_HELD (i : Nat) : FRef := ⟨R.DP_STAT i, 8, 0⟩
/-- Address of DP_COUNT0 (Table 07-15). -/
def R.DP_COUNT0 (i : Nat) : Nat := 0x80000a0004 + 0x10000 * i
/-- DP_COUNT0.FCS_FAIL, bits [31:24]. -/
def F.DP_COUNT0_FCS_FAIL (i : Nat) : FRef := ⟨R.DP_COUNT0 i, 31, 24⟩
/-- DP_COUNT0.HDR_FAIL, bits [23:16]. -/
def F.DP_COUNT0_HDR_FAIL (i : Nat) : FRef := ⟨R.DP_COUNT0 i, 23, 16⟩
/-- DP_COUNT0.SYNC_MISS, bits [15:8]. -/
def F.DP_COUNT0_SYNC_MISS (i : Nat) : FRef := ⟨R.DP_COUNT0 i, 15, 8⟩
/-- DP_COUNT0.NO_LANE, bits [7:0]. -/
def F.DP_COUNT0_NO_LANE (i : Nat) : FRef := ⟨R.DP_COUNT0 i, 7, 0⟩
/-- Address of DP_COUNT1 (Table 07-16). -/
def R.DP_COUNT1 (i : Nat) : Nat := 0x80000a0008 + 0x10000 * i
/-- DP_COUNT1.TOO_SHORT, bits [31:24]. -/
def F.DP_COUNT1_TOO_SHORT (i : Nat) : FRef := ⟨R.DP_COUNT1 i, 31, 24⟩
/-- DP_COUNT1.TOO_LONG, bits [23:16]. -/
def F.DP_COUNT1_TOO_LONG (i : Nat) : FRef := ⟨R.DP_COUNT1 i, 23, 16⟩
/-- DP_COUNT1.PREEMPTED, bits [15:8]. -/
def F.DP_COUNT1_PREEMPTED (i : Nat) : FRef := ⟨R.DP_COUNT1 i, 15, 8⟩
/-- DP_COUNT1.RSV_MISS, bits [7:0]. -/
def F.DP_COUNT1_RSV_MISS (i : Nat) : FRef := ⟨R.DP_COUNT1 i, 7, 0⟩
/-- Address of DP_POLICY (Table 07-17). -/
def R.DP_POLICY (i : Nat) : Nat := 0x80000a0010 + 0x10000 * i
/-- DP_POLICY.MARGIN, bits [3:0]. -/
def F.DP_POLICY_MARGIN (i : Nat) : FRef := ⟨R.DP_POLICY i, 3, 0⟩
/-- Address of DP_MODEM (Table 07-18). -/
def R.DP_MODEM (i : Nat) : Nat := 0x80000a0014 + 0x10000 * i
/-- DP_MODEM.DRZ_PRE, bits [31:24]. -/
def F.DP_MODEM_DRZ_PRE (i : Nat) : FRef := ⟨R.DP_MODEM i, 31, 24⟩
/-- DP_MODEM.FSK_PRE, bits [23:16]. -/
def F.DP_MODEM_FSK_PRE (i : Nat) : FRef := ⟨R.DP_MODEM i, 23, 16⟩
/-- DP_MODEM.SUN_SFD, bits [15:15]. -/
def F.DP_MODEM_SUN_SFD (i : Nat) : FRef := ⟨R.DP_MODEM i, 15, 15⟩
/-- DP_MODEM.SUN_DW, bits [14:14]. -/
def F.DP_MODEM_SUN_DW (i : Nat) : FRef := ⟨R.DP_MODEM i, 14, 14⟩
/-- Address of DP_SYNC (Table 07-19). -/
def R.DP_SYNC (i : Nat) : Nat := 0x80000a0018 + 0x10000 * i
/-- DP_SYNC.SYNC, bits [31:0]. -/
def F.DP_SYNC_SYNC (i : Nat) : FRef := ⟨R.DP_SYNC i, 31, 0⟩
/-- Address of DP_FN_CTL (Table 02-19). -/
def R.DP_FN_CTL (i k : Nat) : Nat := 0x80000a0080 + 0x10000 * i + 0x4 * k
/-- DP_FN_CTL.EN, bits [0:0]. -/
def F.DP_FN_CTL_EN (i k : Nat) : FRef := ⟨R.DP_FN_CTL i k, 0, 0⟩
/-- Address of DP_FN_STAT (Table 02-20). -/
def R.DP_FN_STAT (i k : Nat) : Nat := 0x80000a00c0 + 0x10000 * i + 0x4 * k
/-- DP_FN_STAT.LAST_STATUS, bits [31:24]. -/
def F.DP_FN_STAT_LAST_STATUS (i k : Nat) : FRef := ⟨R.DP_FN_STAT i k, 31, 24⟩
/-- DP_FN_STAT.RESTART_PENDING, bits [4:4]. -/
def F.DP_FN_STAT_RESTART_PENDING (i k : Nat) : FRef := ⟨R.DP_FN_STAT i k, 4, 4⟩
/-- DP_FN_STAT.STATE, bits [2:0]. -/
def F.DP_FN_STAT_STATE (i k : Nat) : FRef := ⟨R.DP_FN_STAT i k, 2, 0⟩
/-- Address of DP_SEARCH (Table 07-20). -/
def R.DP_SEARCH (i k j : Nat) : Nat := 0x80000a0200 + 0x10000 * i + 0x100 * k + 0x4 * j
/-- DP_SEARCH.VALID, bits [31:31]. -/
def F.DP_SEARCH_VALID (i k j : Nat) : FRef := ⟨R.DP_SEARCH i k j, 31, 31⟩
/-- DP_SEARCH.MODE, bits [23:16]. -/
def F.DP_SEARCH_MODE (i k j : Nat) : FRef := ⟨R.DP_SEARCH i k j, 23, 16⟩
/-- DP_SEARCH.OFFSET, bits [15:0]. -/
def F.DP_SEARCH_OFFSET (i k j : Nat) : FRef := ⟨R.DP_SEARCH i k j, 15, 0⟩
/-- Address of CAP_STAT (Table 07-22). -/
def R.CAP_STAT : Nat := 0x80000d0000
/-- CAP_STAT.TAPS, bits [19:16]. -/
def F.CAP_STAT_TAPS : FRef := ⟨R.CAP_STAT, 19, 16⟩
/-- CAP_STAT.RECORDS, bits [15:0]. -/
def F.CAP_STAT_RECORDS : FRef := ⟨R.CAP_STAT, 15, 0⟩
/-- Address of CAP_COUNT (Table 07-23). -/
def R.CAP_COUNT : Nat := 0x80000d0004
/-- CAP_COUNT.CAPTURED, bits [31:16]. -/
def F.CAP_COUNT_CAPTURED : FRef := ⟨R.CAP_COUNT, 31, 16⟩
/-- CAP_COUNT.DROPPED, bits [15:8]. -/
def F.CAP_COUNT_DROPPED : FRef := ⟨R.CAP_COUNT, 15, 8⟩
/-- CAP_COUNT.TRUNCATED, bits [7:0]. -/
def F.CAP_COUNT_TRUNCATED : FRef := ⟨R.CAP_COUNT, 7, 0⟩
/-- Address of CAP_CFG (Table 07-24). -/
def R.CAP_CFG : Nat := 0x80000d0010
/-- CAP_CFG.PRE, bits [15:8]. -/
def F.CAP_CFG_PRE : FRef := ⟨R.CAP_CFG, 15, 8⟩
/-- CAP_CFG.WIDTH, bits [7:6]. -/
def F.CAP_CFG_WIDTH : FRef := ⟨R.CAP_CFG, 7, 6⟩
/-- CAP_CFG.RADIO_M, bits [5:5]. -/
def F.CAP_CFG_RADIO_M : FRef := ⟨R.CAP_CFG, 5, 5⟩
/-- CAP_CFG.RADIO_S, bits [4:4]. -/
def F.CAP_CFG_RADIO_S : FRef := ⟨R.CAP_CFG, 4, 4⟩
/-- CAP_CFG.T_NO_LANE, bits [3:3]. -/
def F.CAP_CFG_T_NO_LANE : FRef := ⟨R.CAP_CFG, 3, 3⟩
/-- CAP_CFG.T_SYNC, bits [2:2]. -/
def F.CAP_CFG_T_SYNC : FRef := ⟨R.CAP_CFG, 2, 2⟩
/-- CAP_CFG.T_HDR, bits [1:1]. -/
def F.CAP_CFG_T_HDR : FRef := ⟨R.CAP_CFG, 1, 1⟩
/-- CAP_CFG.T_FCS, bits [0:0]. -/
def F.CAP_CFG_T_FCS : FRef := ⟨R.CAP_CFG, 0, 0⟩
/-- Address of CAP_LIMIT (Table 07-25). -/
def R.CAP_LIMIT : Nat := 0x80000d0014
/-- CAP_LIMIT.MAX_BLOCKS, bits [15:0]. -/
def F.CAP_LIMIT_MAX_BLOCKS : FRef := ⟨R.CAP_LIMIT, 15, 0⟩
/-- Address of CAP_BASE_LO (Table 07-26). -/
def R.CAP_BASE_LO : Nat := 0x80000d0020
/-- CAP_BASE_LO.ADDR, bits [31:12]. -/
def F.CAP_BASE_LO_ADDR : FRef := ⟨R.CAP_BASE_LO, 31, 12⟩
/-- Address of CAP_BASE_HI (Table 07-27). -/
def R.CAP_BASE_HI : Nat := 0x80000d0024
/-- CAP_BASE_HI.ADDR, bits [0:0]. -/
def F.CAP_BASE_HI_ADDR : FRef := ⟨R.CAP_BASE_HI, 0, 0⟩
/-- Address of CAP_SIZE (Table 07-28). -/
def R.CAP_SIZE : Nat := 0x80000d0028
/-- CAP_SIZE.SIZE, bits [15:0]. -/
def F.CAP_SIZE_SIZE : FRef := ⟨R.CAP_SIZE, 15, 0⟩
/-- Address of CAP_WR (Table 07-29). -/
def R.CAP_WR : Nat := 0x80000d0030
/-- CAP_WR.OFFSET, bits [31:0]. -/
def F.CAP_WR_OFFSET : FRef := ⟨R.CAP_WR, 31, 0⟩
/-- Address of CAP_RD (Table 07-29). -/
def R.CAP_RD : Nat := 0x80000d0034
/-- CAP_RD.OFFSET, bits [31:0]. -/
def F.CAP_RD_OFFSET : FRef := ⟨R.CAP_RD, 31, 0⟩
/-- Address of CAP_FN_CTL (Table 02-19). -/
def R.CAP_FN_CTL (k : Nat) : Nat := 0x80000d0080 + 0x4 * k
/-- CAP_FN_CTL.EN, bits [0:0]. -/
def F.CAP_FN_CTL_EN (k : Nat) : FRef := ⟨R.CAP_FN_CTL k, 0, 0⟩
/-- Address of CAP_FN_STAT (Table 02-20). -/
def R.CAP_FN_STAT (k : Nat) : Nat := 0x80000d00c0 + 0x4 * k
/-- CAP_FN_STAT.LAST_STATUS, bits [31:24]. -/
def F.CAP_FN_STAT_LAST_STATUS (k : Nat) : FRef := ⟨R.CAP_FN_STAT k, 31, 24⟩
/-- CAP_FN_STAT.RESTART_PENDING, bits [4:4]. -/
def F.CAP_FN_STAT_RESTART_PENDING (k : Nat) : FRef := ⟨R.CAP_FN_STAT k, 4, 4⟩
/-- CAP_FN_STAT.STATE, bits [2:0]. -/
def F.CAP_FN_STAT_STATE (k : Nat) : FRef := ⟨R.CAP_FN_STAT k, 2, 0⟩
/-- Address of ACC_STAT (Table 08-6). -/
def R.ACC_STAT (i : Nat) : Nat := 0x80000e0000 + 0x1000 * i
/-- ACC_STAT.NEXT_LEVEL, bits [22:16]. -/
def F.ACC_STAT_NEXT_LEVEL (i : Nat) : FRef := ⟨R.ACC_STAT i, 22, 16⟩
/-- ACC_STAT.SWAP_PENDING, bits [1:1]. -/
def F.ACC_STAT_SWAP_PENDING (i : Nat) : FRef := ⟨R.ACC_STAT i, 1, 1⟩
/-- ACC_STAT.BAD_ENTRY, bits [0:0]. -/
def F.ACC_STAT_BAD_ENTRY (i : Nat) : FRef := ⟨R.ACC_STAT i, 0, 0⟩
/-- Address of ACC_COUNT (Table 08-7). -/
def R.ACC_COUNT (i : Nat) : Nat := 0x80000e0004 + 0x1000 * i
/-- ACC_COUNT.SKIPPED, bits [31:24]. -/
def F.ACC_COUNT_SKIPPED (i : Nat) : FRef := ⟨R.ACC_COUNT i, 31, 24⟩
/-- ACC_COUNT.EDIT_BUSY, bits [23:16]. -/
def F.ACC_COUNT_EDIT_BUSY (i : Nat) : FRef := ⟨R.ACC_COUNT i, 23, 16⟩
/-- ACC_COUNT.CQ_FAILED, bits [15:8]. -/
def F.ACC_COUNT_CQ_FAILED (i : Nat) : FRef := ⟨R.ACC_COUNT i, 15, 8⟩
/-- ACC_COUNT.BAD, bits [7:0]. -/
def F.ACC_COUNT_BAD (i : Nat) : FRef := ⟨R.ACC_COUNT i, 7, 0⟩
/-- Address of ACC_LAPNUM (Table 08-8). -/
def R.ACC_LAPNUM (i : Nat) : Nat := 0x80000e0008 + 0x1000 * i
/-- ACC_LAPNUM.LAPNUM, bits [31:0]. -/
def F.ACC_LAPNUM_LAPNUM (i : Nat) : FRef := ⟨R.ACC_LAPNUM i, 31, 0⟩
/-- Address of ACC_LAP (Table 08-9). -/
def R.ACC_LAP (i : Nat) : Nat := 0x80000e0010 + 0x1000 * i
/-- ACC_LAP.LAP, bits [12:0]. -/
def F.ACC_LAP_LAP (i : Nat) : FRef := ⟨R.ACC_LAP i, 12, 0⟩
/-- Address of ACC_OFFER (Table 08-10). -/
def R.ACC_OFFER (i : Nat) : Nat := 0x80000e0014 + 0x1000 * i
/-- ACC_OFFER.LEAD, bits [15:0]. -/
def F.ACC_OFFER_LEAD (i : Nat) : FRef := ⟨R.ACC_OFFER i, 15, 0⟩
/-- Address of ACC_WAKE (Table 08-11). -/
def R.ACC_WAKE (i : Nat) : Nat := 0x80000e0018 + 0x1000 * i
/-- ACC_WAKE.SETTLE, bits [15:0]. -/
def F.ACC_WAKE_SETTLE (i : Nat) : FRef := ⟨R.ACC_WAKE i, 15, 0⟩
/-- Address of ACC_BACKOFF (Table 08-12). -/
def R.ACC_BACKOFF (i : Nat) : Nat := 0x80000e001c + 0x1000 * i
/-- ACC_BACKOFF.MAX_TRIES, bits [31:28]. -/
def F.ACC_BACKOFF_MAX_TRIES (i : Nat) : FRef := ⟨R.ACC_BACKOFF i, 31, 28⟩
/-- ACC_BACKOFF.MAX_BE, bits [27:24]. -/
def F.ACC_BACKOFF_MAX_BE (i : Nat) : FRef := ⟨R.ACC_BACKOFF i, 27, 24⟩
/-- ACC_BACKOFF.MIN_BE, bits [23:20]. -/
def F.ACC_BACKOFF_MIN_BE (i : Nat) : FRef := ⟨R.ACC_BACKOFF i, 23, 20⟩
/-- ACC_BACKOFF.BSLOT, bits [15:0]. -/
def F.ACC_BACKOFF_BSLOT (i : Nat) : FRef := ⟨R.ACC_BACKOFF i, 15, 0⟩
/-- Address of ACC_NEXT (Table 05-21). -/
def R.ACC_NEXT (i : Nat) : Nat := 0x80000e0020 + 0x1000 * i
/-- ACC_NEXT.VALID, bits [31:31]. -/
def F.ACC_NEXT_VALID (i : Nat) : FRef := ⟨R.ACC_NEXT i, 31, 31⟩
/-- ACC_NEXT.ENTRY, bits [13:0]. -/
def F.ACC_NEXT_ENTRY (i : Nat) : FRef := ⟨R.ACC_NEXT i, 13, 0⟩
/-- Address of ACC_EDIT_CMD (Table 08-13). -/
def R.ACC_EDIT_CMD (i : Nat) : Nat := 0x80000e0030 + 0x1000 * i
/-- ACC_EDIT_CMD.STATUS, bits [31:24]. -/
def F.ACC_EDIT_CMD_STATUS (i : Nat) : FRef := ⟨R.ACC_EDIT_CMD i, 31, 24⟩
/-- ACC_EDIT_CMD.BUSY, bits [8:8]. -/
def F.ACC_EDIT_CMD_BUSY (i : Nat) : FRef := ⟨R.ACC_EDIT_CMD i, 8, 8⟩
/-- ACC_EDIT_CMD.ACTIVE, bits [3:3]. -/
def F.ACC_EDIT_CMD_ACTIVE (i : Nat) : FRef := ⟨R.ACC_EDIT_CMD i, 3, 3⟩
/-- ACC_EDIT_CMD.OP, bits [2:0]. -/
def F.ACC_EDIT_CMD_OP (i : Nat) : FRef := ⟨R.ACC_EDIT_CMD i, 2, 0⟩
/-- Address of ACC_EDIT_IDX (Table 08-14). -/
def R.ACC_EDIT_IDX (i : Nat) : Nat := 0x80000e0034 + 0x1000 * i
/-- ACC_EDIT_IDX.COUNT, bits [30:16]. -/
def F.ACC_EDIT_IDX_COUNT (i : Nat) : FRef := ⟨R.ACC_EDIT_IDX i, 30, 16⟩
/-- ACC_EDIT_IDX.IDX, bits [13:0]. -/
def F.ACC_EDIT_IDX_IDX (i : Nat) : FRef := ⟨R.ACC_EDIT_IDX i, 13, 0⟩
/-- Address of ACC_EDIT_ADDR_LO (Table 08-15). -/
def R.ACC_EDIT_ADDR_LO (i : Nat) : Nat := 0x80000e0038 + 0x1000 * i
/-- ACC_EDIT_ADDR_LO.ADDR, bits [31:3]. -/
def F.ACC_EDIT_ADDR_LO_ADDR (i : Nat) : FRef := ⟨R.ACC_EDIT_ADDR_LO i, 31, 3⟩
/-- Address of ACC_EDIT_ADDR_HI (Table 08-16). -/
def R.ACC_EDIT_ADDR_HI (i : Nat) : Nat := 0x80000e003c + 0x1000 * i
/-- ACC_EDIT_ADDR_HI.ADDR, bits [7:0]. -/
def F.ACC_EDIT_ADDR_HI_ADDR (i : Nat) : FRef := ⟨R.ACC_EDIT_ADDR_HI i, 7, 0⟩
/-- Address of ACC_EDIT_DATA (Table 08-17). -/
def R.ACC_EDIT_DATA (i k : Nat) : Nat := 0x80000e0040 + 0x1000 * i + 0x4 * k
/-- ACC_EDIT_DATA.DATA, bits [31:0]. -/
def F.ACC_EDIT_DATA_DATA (i k : Nat) : FRef := ⟨R.ACC_EDIT_DATA i k, 31, 0⟩
/-- Address of ACC_CQ_CFG (Table 08-18). -/
def R.ACC_CQ_CFG (i k : Nat) : Nat := 0x80000e0100 + 0x1000 * i + 0x8 * k
/-- ACC_CQ_CFG.SIZE, bits [31:20]. -/
def F.ACC_CQ_CFG_SIZE (i k : Nat) : FRef := ⟨R.ACC_CQ_CFG i k, 31, 20⟩
/-- ACC_CQ_CFG.BASE, bits [18:0]. -/
def F.ACC_CQ_CFG_BASE (i k : Nat) : FRef := ⟨R.ACC_CQ_CFG i k, 18, 0⟩
/-- Address of ACC_CQ_PTR (Table 08-19). -/
def R.ACC_CQ_PTR (i k : Nat) : Nat := 0x80000e0104 + 0x1000 * i + 0x8 * k
/-- ACC_CQ_PTR.TAIL, bits [27:16]. -/
def F.ACC_CQ_PTR_TAIL (i k : Nat) : FRef := ⟨R.ACC_CQ_PTR i k, 27, 16⟩
/-- ACC_CQ_PTR.HEAD, bits [11:0]. -/
def F.ACC_CQ_PTR_HEAD (i k : Nat) : FRef := ⟨R.ACC_CQ_PTR i k, 11, 0⟩
/-- Address of DRL_COUNT (Table 09-18). -/
def R.DRL_COUNT : Nat := 0x80000f0000
/-- DRL_COUNT.CONTACTS, bits [31:16]. -/
def F.DRL_COUNT_CONTACTS : FRef := ⟨R.DRL_COUNT, 31, 16⟩
/-- DRL_COUNT.LOST, bits [15:8]. -/
def F.DRL_COUNT_LOST : FRef := ⟨R.DRL_COUNT, 15, 8⟩
/-- DRL_COUNT.RESETS, bits [7:0]. -/
def F.DRL_COUNT_RESETS : FRef := ⟨R.DRL_COUNT, 7, 0⟩
/-- Address of DRL_LOST (Table 09-19). -/
def R.DRL_LOST : Nat := 0x80000f0004
/-- DRL_LOST.VALID, bits [31:31]. -/
def F.DRL_LOST_VALID : FRef := ⟨R.DRL_LOST, 31, 31⟩
/-- DRL_LOST.OVERFLOW, bits [30:30]. -/
def F.DRL_LOST_OVERFLOW : FRef := ⟨R.DRL_LOST, 30, 30⟩
/-- DRL_LOST.HANDLE, bits [17:0]. -/
def F.DRL_LOST_HANDLE : FRef := ⟨R.DRL_LOST, 17, 0⟩
/-- Address of DRL_CFG0 (Table 09-20). -/
def R.DRL_CFG0 : Nat := 0x80000f0010
/-- DRL_CFG0.K, bits [31:24]. -/
def F.DRL_CFG0_K : FRef := ⟨R.DRL_CFG0, 31, 24⟩
/-- DRL_CFG0.GMIN, bits [15:0]. -/
def F.DRL_CFG0_GMIN : FRef := ⟨R.DRL_CFG0, 15, 0⟩
/-- Address of DRL_CFG1 (Table 09-21). -/
def R.DRL_CFG1 : Nat := 0x80000f0014
/-- DRL_CFG1.TOL, bits [31:24]. -/
def F.DRL_CFG1_TOL : FRef := ⟨R.DRL_CFG1, 31, 24⟩
/-- DRL_CFG1.JIT, bits [15:0]. -/
def F.DRL_CFG1_JIT : FRef := ⟨R.DRL_CFG1, 15, 0⟩
/-- Address of DRL_CFG2 (Table 09-22). -/
def R.DRL_CFG2 : Nat := 0x80000f0018
/-- DRL_CFG2.QR, bits [31:24]. -/
def F.DRL_CFG2_QR : FRef := ⟨R.DRL_CFG2, 31, 24⟩
/-- DRL_CFG2.LEARN, bits [23:12]. -/
def F.DRL_CFG2_LEARN : FRef := ⟨R.DRL_CFG2, 23, 12⟩
/-- DRL_CFG2.MINGAP, bits [11:0]. -/
def F.DRL_CFG2_MINGAP : FRef := ⟨R.DRL_CFG2, 11, 0⟩
/-- Address of DRL_GNEW (Table 09-23). -/
def R.DRL_GNEW : Nat := 0x80000f001c
/-- DRL_GNEW.GNEW, bits [11:0]. -/
def F.DRL_GNEW_GNEW : FRef := ⟨R.DRL_GNEW, 11, 0⟩
/-- Address of DRL_FN_CTL (Table 02-19). -/
def R.DRL_FN_CTL (k : Nat) : Nat := 0x80000f0080 + 0x4 * k
/-- DRL_FN_CTL.EN, bits [0:0]. -/
def F.DRL_FN_CTL_EN (k : Nat) : FRef := ⟨R.DRL_FN_CTL k, 0, 0⟩
/-- Address of DRL_FN_STAT (Table 02-20). -/
def R.DRL_FN_STAT (k : Nat) : Nat := 0x80000f00c0 + 0x4 * k
/-- DRL_FN_STAT.LAST_STATUS, bits [31:24]. -/
def F.DRL_FN_STAT_LAST_STATUS (k : Nat) : FRef := ⟨R.DRL_FN_STAT k, 31, 24⟩
/-- DRL_FN_STAT.RESTART_PENDING, bits [4:4]. -/
def F.DRL_FN_STAT_RESTART_PENDING (k : Nat) : FRef := ⟨R.DRL_FN_STAT k, 4, 4⟩
/-- DRL_FN_STAT.STATE, bits [2:0]. -/
def F.DRL_FN_STAT_STATE (k : Nat) : FRef := ⟨R.DRL_FN_STAT k, 2, 0⟩
/-- Address of LNK_STAT (Table 09-8). -/
def R.LNK_STAT : Nat := 0x8000100000
/-- LNK_STAT.HELD, bits [5:0]. -/
def F.LNK_STAT_HELD : FRef := ⟨R.LNK_STAT, 5, 0⟩
/-- Address of LNK_COUNT0 (Table 09-9). -/
def R.LNK_COUNT0 : Nat := 0x8000100004
/-- LNK_COUNT0.DUPLICATE, bits [31:24]. -/
def F.LNK_COUNT0_DUPLICATE : FRef := ⟨R.LNK_COUNT0, 31, 24⟩
/-- LNK_COUNT0.STALE, bits [23:16]. -/
def F.LNK_COUNT0_STALE : FRef := ⟨R.LNK_COUNT0, 23, 16⟩
/-- LNK_COUNT0.NO_CONTEXT, bits [15:8]. -/
def F.LNK_COUNT0_NO_CONTEXT : FRef := ⟨R.LNK_COUNT0, 15, 8⟩
/-- LNK_COUNT0.MALFORMED, bits [7:0]. -/
def F.LNK_COUNT0_MALFORMED : FRef := ⟨R.LNK_COUNT0, 7, 0⟩
/-- Address of LNK_COUNT1 (Table 09-10). -/
def R.LNK_COUNT1 : Nat := 0x8000100008
/-- LNK_COUNT1.ACK_FIRST, bits [31:24]. -/
def F.LNK_COUNT1_ACK_FIRST : FRef := ⟨R.LNK_COUNT1, 31, 24⟩
/-- LNK_COUNT1.ACK_SECOND, bits [23:16]. -/
def F.LNK_COUNT1_ACK_SECOND : FRef := ⟨R.LNK_COUNT1, 23, 16⟩
/-- LNK_COUNT1.ACK_MISSED, bits [15:8]. -/
def F.LNK_COUNT1_ACK_MISSED : FRef := ⟨R.LNK_COUNT1, 15, 8⟩
/-- LNK_COUNT1.HOLD_DROP, bits [7:0]. -/
def F.LNK_COUNT1_HOLD_DROP : FRef := ⟨R.LNK_COUNT1, 7, 0⟩
/-- Address of LNK_CFG (Table 09-11). -/
def R.LNK_CFG : Nat := 0x8000100010
/-- LNK_CFG.COPY_SPAN, bits [31:24]. -/
def F.LNK_CFG_COPY_SPAN : FRef := ⟨R.LNK_CFG, 31, 24⟩
/-- LNK_CFG.ACK2, bits [23:16]. -/
def F.LNK_CFG_ACK2 : FRef := ⟨R.LNK_CFG, 23, 16⟩
/-- LNK_CFG.ALT_DELAY, bits [15:0]. -/
def F.LNK_CFG_ALT_DELAY : FRef := ⟨R.LNK_CFG, 15, 0⟩
/-- Address of LNK_ACKPWR (Table 09-12). -/
def R.LNK_ACKPWR : Nat := 0x8000100014
/-- LNK_ACKPWR.POWER_H, bits [23:16]. -/
def F.LNK_ACKPWR_POWER_H : FRef := ⟨R.LNK_ACKPWR, 23, 16⟩
/-- LNK_ACKPWR.POWER_M, bits [15:8]. -/
def F.LNK_ACKPWR_POWER_M : FRef := ⟨R.LNK_ACKPWR, 15, 8⟩
/-- LNK_ACKPWR.POWER_S, bits [7:0]. -/
def F.LNK_ACKPWR_POWER_S : FRef := ⟨R.LNK_ACKPWR, 7, 0⟩
/-- Address of LNK_CMD (Table 09-13). -/
def R.LNK_CMD : Nat := 0x8000100020
/-- LNK_CMD.STATUS, bits [31:24]. -/
def F.LNK_CMD_STATUS : FRef := ⟨R.LNK_CMD, 31, 24⟩
/-- LNK_CMD.BUSY, bits [8:8]. -/
def F.LNK_CMD_BUSY : FRef := ⟨R.LNK_CMD, 8, 8⟩
/-- LNK_CMD.OP, bits [3:0]. -/
def F.LNK_CMD_OP : FRef := ⟨R.LNK_CMD, 3, 0⟩
/-- Address of LNK_HANDLE (Table 09-14). -/
def R.LNK_HANDLE : Nat := 0x8000100024
/-- LNK_HANDLE.HANDLE, bits [17:0]. -/
def F.LNK_HANDLE_HANDLE : FRef := ⟨R.LNK_HANDLE, 17, 0⟩
/-- Address of LNK_DATA (Table 09-15). -/
def R.LNK_DATA (k : Nat) : Nat := 0x8000100040 + 0x4 * k
/-- LNK_DATA.DATA, bits [31:0]. -/
def F.LNK_DATA_DATA (k : Nat) : FRef := ⟨R.LNK_DATA k, 31, 0⟩
/-- Address of LNK_FN_CTL (Table 02-19). -/
def R.LNK_FN_CTL (k : Nat) : Nat := 0x8000100080 + 0x4 * k
/-- LNK_FN_CTL.EN, bits [0:0]. -/
def F.LNK_FN_CTL_EN (k : Nat) : FRef := ⟨R.LNK_FN_CTL k, 0, 0⟩
/-- Address of LNK_FN_STAT (Table 02-20). -/
def R.LNK_FN_STAT (k : Nat) : Nat := 0x80001000c0 + 0x4 * k
/-- LNK_FN_STAT.LAST_STATUS, bits [31:24]. -/
def F.LNK_FN_STAT_LAST_STATUS (k : Nat) : FRef := ⟨R.LNK_FN_STAT k, 31, 24⟩
/-- LNK_FN_STAT.RESTART_PENDING, bits [4:4]. -/
def F.LNK_FN_STAT_RESTART_PENDING (k : Nat) : FRef := ⟨R.LNK_FN_STAT k, 4, 4⟩
/-- LNK_FN_STAT.STATE, bits [2:0]. -/
def F.LNK_FN_STAT_STATE (k : Nat) : FRef := ⟨R.LNK_FN_STAT k, 2, 0⟩
/-- Address of LNK_PEER (Table 09-16). -/
def R.LNK_PEER (k : Nat) : Nat := 0x8000100100 + 0x4 * k
/-- LNK_PEER.VALID, bits [31:31]. -/
def F.LNK_PEER_VALID (k : Nat) : FRef := ⟨R.LNK_PEER k, 31, 31⟩
/-- LNK_PEER.HANDLE, bits [17:0]. -/
def F.LNK_PEER_HANDLE (k : Nat) : FRef := ⟨R.LNK_PEER k, 17, 0⟩
/-- Address of REG_STAT (Table 06-21). -/
def R.REG_STAT : Nat := 0x8000110000
/-- REG_STAT.RECOMPUTING, bits [3:3]. -/
def F.REG_STAT_RECOMPUTING : FRef := ⟨R.REG_STAT, 3, 3⟩
/-- REG_STAT.MERGED, bits [2:2]. -/
def F.REG_STAT_MERGED : FRef := ⟨R.REG_STAT, 2, 2⟩
/-- REG_STAT.REGION_BUSY, bits [1:1]. -/
def F.REG_STAT_REGION_BUSY : FRef := ⟨R.REG_STAT, 1, 1⟩
/-- REG_STAT.BAD_REGION, bits [0:0]. -/
def F.REG_STAT_BAD_REGION : FRef := ⟨R.REG_STAT, 0, 0⟩
/-- Address of REG_REGION (Table 06-22). -/
def R.REG_REGION : Nat := 0x8000110004
/-- REG_REGION.ENABLED, bits [7:4]. -/
def F.REG_REGION_ENABLED : FRef := ⟨R.REG_REGION, 7, 4⟩
/-- REG_REGION.PROFILE, bits [1:0]. -/
def F.REG_REGION_PROFILE : FRef := ⟨R.REG_REGION, 1, 0⟩
/-- Address of REG_REFUSALS (Table 06-23). -/
def R.REG_REFUSALS : Nat := 0x8000110008
/-- REG_REFUSALS.DUTY, bits [31:24]. -/
def F.REG_REFUSALS_DUTY : FRef := ⟨R.REG_REFUSALS, 31, 24⟩
/-- REG_REFUSALS.LBT, bits [23:16]. -/
def F.REG_REFUSALS_LBT : FRef := ⟨R.REG_REFUSALS, 23, 16⟩
/-- REG_REFUSALS.LIMIT, bits [15:8]. -/
def F.REG_REFUSALS_LIMIT : FRef := ⟨R.REG_REFUSALS, 15, 8⟩
/-- Address of REG_SITE (Table 06-24). -/
def R.REG_SITE (k : Nat) : Nat := 0x8000110010 + 0x4 * k
/-- REG_SITE.ANT_GAIN, bits [15:8]. -/
def F.REG_SITE_ANT_GAIN (k : Nat) : FRef := ⟨R.REG_SITE k, 15, 8⟩
/-- REG_SITE.CABLE_LOSS, bits [7:0]. -/
def F.REG_SITE_CABLE_LOSS (k : Nat) : FRef := ⟨R.REG_SITE k, 7, 0⟩
/-- Address of REG_TIGHT (Table 06-25). -/
def R.REG_TIGHT (k : Nat) : Nat := 0x8000110200 + 0x4 * k
/-- REG_TIGHT.EIRP_CAP, bits [31:24]. -/
def F.REG_TIGHT_EIRP_CAP (k : Nat) : FRef := ⟨R.REG_TIGHT k, 31, 24⟩
/-- REG_TIGHT.LBT_FORCE, bits [23:23]. -/
def F.REG_TIGHT_LBT_FORCE (k : Nat) : FRef := ⟨R.REG_TIGHT k, 23, 23⟩
/-- REG_TIGHT.DUTY_CAP, bits [21:0]. -/
def F.REG_TIGHT_DUTY_CAP (k : Nat) : FRef := ⟨R.REG_TIGHT k, 21, 0⟩
/-- Address of REG_USED (Table 06-26). -/
def R.REG_USED (k : Nat) : Nat := 0x8000110300 + 0x4 * k
/-- REG_USED.USED, bits [21:0]. -/
def F.REG_USED_USED (k : Nat) : FRef := ⟨R.REG_USED k, 21, 0⟩
/-- Address of REG_SB_LO (Table 06-27). -/
def R.REG_SB_LO (k j : Nat) : Nat := 0x8000110400 + 0x200 * k + 0x20 * j
/-- REG_SB_LO.FREQ, bits [22:0]. -/
def F.REG_SB_LO_FREQ (k j : Nat) : FRef := ⟨R.REG_SB_LO k j, 22, 0⟩
/-- Address of REG_SB_HI (Table 06-27). -/
def R.REG_SB_HI (k j : Nat) : Nat := 0x8000110404 + 0x200 * k + 0x20 * j
/-- REG_SB_HI.FREQ, bits [22:0]. -/
def F.REG_SB_HI_FREQ (k j : Nat) : FRef := ⟨R.REG_SB_HI k j, 22, 0⟩
/-- Address of REG_SB_DUTY (Table 06-28). -/
def R.REG_SB_DUTY (k j : Nat) : Nat := 0x8000110408 + 0x200 * k + 0x20 * j
/-- REG_SB_DUTY.OFF, bits [31:22]. -/
def F.REG_SB_DUTY_OFF (k j : Nat) : FRef := ⟨R.REG_SB_DUTY k j, 31, 22⟩
/-- REG_SB_DUTY.BUDGET, bits [21:0]. -/
def F.REG_SB_DUTY_BUDGET (k j : Nat) : FRef := ⟨R.REG_SB_DUTY k j, 21, 0⟩
/-- Address of REG_SB_RULES (Table 06-29). -/
def R.REG_SB_RULES (k j : Nat) : Nat := 0x800011040c + 0x200 * k + 0x20 * j
/-- REG_SB_RULES.EIRP_MAX, bits [31:24]. -/
def F.REG_SB_RULES_EIRP_MAX (k j : Nat) : FRef := ⟨R.REG_SB_RULES k j, 31, 24⟩
/-- REG_SB_RULES.DWELL, bits [23:8]. -/
def F.REG_SB_RULES_DWELL (k j : Nat) : FRef := ⟨R.REG_SB_RULES k j, 23, 8⟩
/-- REG_SB_RULES.DFS, bits [2:2]. -/
def F.REG_SB_RULES_DFS (k j : Nat) : FRef := ⟨R.REG_SB_RULES k j, 2, 2⟩
/-- REG_SB_RULES.LBT, bits [1:1]. -/
def F.REG_SB_RULES_LBT (k j : Nat) : FRef := ⟨R.REG_SB_RULES k j, 1, 1⟩
/-- REG_SB_RULES.OPEN, bits [0:0]. -/
def F.REG_SB_RULES_OPEN (k j : Nat) : FRef := ⟨R.REG_SB_RULES k j, 0, 0⟩
/-- Address of REG_SB_LBT (Table 06-30). -/
def R.REG_SB_LBT (k j : Nat) : Nat := 0x8000110410 + 0x200 * k + 0x20 * j
/-- REG_SB_LBT.THRESH, bits [31:24]. -/
def F.REG_SB_LBT_THRESH (k j : Nat) : FRef := ⟨R.REG_SB_LBT k j, 31, 24⟩
/-- REG_SB_LBT.LISTEN, bits [15:0]. -/
def F.REG_SB_LBT_LISTEN (k j : Nat) : FRef := ⟨R.REG_SB_LBT k j, 15, 0⟩
/-- Address of RTR_STAT (Table 10-8). -/
def R.RTR_STAT : Nat := 0x8000120000
/-- RTR_STAT.INFLIGHT, bits [27:16]. -/
def F.RTR_STAT_INFLIGHT : FRef := ⟨R.RTR_STAT, 27, 16⟩
/-- RTR_STAT.SWEEP, bits [2:2]. -/
def F.RTR_STAT_SWEEP : FRef := ⟨R.RTR_STAT, 2, 2⟩
/-- RTR_STAT.COMMIT_PENDING, bits [1:1]. -/
def F.RTR_STAT_COMMIT_PENDING : FRef := ⟨R.RTR_STAT, 1, 1⟩
/-- RTR_STAT.CFG_LOCKED, bits [0:0]. -/
def F.RTR_STAT_CFG_LOCKED : FRef := ⟨R.RTR_STAT, 0, 0⟩
/-- Address of RTR_COUNT0 (Table 10-9). -/
def R.RTR_COUNT0 : Nat := 0x8000120004
/-- RTR_COUNT0.NO_DEST, bits [31:24]. -/
def F.RTR_COUNT0_NO_DEST : FRef := ⟨R.RTR_COUNT0, 31, 24⟩
/-- RTR_COUNT0.PARSE_SHORT, bits [23:16]. -/
def F.RTR_COUNT0_PARSE_SHORT : FRef := ⟨R.RTR_COUNT0, 23, 16⟩
/-- RTR_COUNT0.RECIRC_LIMIT, bits [15:8]. -/
def F.RTR_COUNT0_RECIRC_LIMIT : FRef := ⟨R.RTR_COUNT0, 15, 8⟩
/-- RTR_COUNT0.TTL, bits [7:0]. -/
def F.RTR_COUNT0_TTL : FRef := ⟨R.RTR_COUNT0, 7, 0⟩
/-- Address of RTR_COUNT1 (Table 10-10). -/
def R.RTR_COUNT1 : Nat := 0x8000120008
/-- RTR_COUNT1.OFF_DROP, bits [31:24]. -/
def F.RTR_COUNT1_OFF_DROP : FRef := ⟨R.RTR_COUNT1, 31, 24⟩
/-- RTR_COUNT1.INJ_REFUSED, bits [23:16]. -/
def F.RTR_COUNT1_INJ_REFUSED : FRef := ⟨R.RTR_COUNT1, 23, 16⟩
/-- RTR_COUNT1.EDIT_SKIP, bits [15:8]. -/
def F.RTR_COUNT1_EDIT_SKIP : FRef := ⟨R.RTR_COUNT1, 15, 8⟩
/-- RTR_COUNT1.RETIRED, bits [7:0]. -/
def F.RTR_COUNT1_RETIRED : FRef := ⟨R.RTR_COUNT1, 7, 0⟩
/-- Address of RTR_CFG (Table 10-11). -/
def R.RTR_CFG : Nat := 0x800012000c
/-- RTR_CFG.EXC_RQ, bits [15:0]. -/
def F.RTR_CFG_EXC_RQ : FRef := ⟨R.RTR_CFG, 15, 0⟩
/-- Address of RTR_VER (Table 10-12). -/
def R.RTR_VER : Nat := 0x8000120010
/-- RTR_VER.OPEN, bits [31:16]. -/
def F.RTR_VER_OPEN : FRef := ⟨R.RTR_VER, 31, 16⟩
/-- RTR_VER.CURRENT, bits [15:0]. -/
def F.RTR_VER_CURRENT : FRef := ⟨R.RTR_VER, 15, 0⟩
/-- Address of RTR_LIVE (Table 10-13). -/
def R.RTR_LIVE (k : Nat) : Nat := 0x8000120020 + 0x4 * k
/-- RTR_LIVE.VALID, bits [31:31]. -/
def F.RTR_LIVE_VALID (k : Nat) : FRef := ⟨R.RTR_LIVE k, 31, 31⟩
/-- RTR_LIVE.INFLIGHT, bits [27:16]. -/
def F.RTR_LIVE_INFLIGHT (k : Nat) : FRef := ⟨R.RTR_LIVE k, 27, 16⟩
/-- RTR_LIVE.VERSION, bits [15:0]. -/
def F.RTR_LIVE_VERSION (k : Nat) : FRef := ⟨R.RTR_LIVE k, 15, 0⟩
/-- Address of RTR_COMMIT_CMD (Table 10-14). -/
def R.RTR_COMMIT_CMD : Nat := 0x8000120030
/-- RTR_COMMIT_CMD.STATUS, bits [31:24]. -/
def F.RTR_COMMIT_CMD_STATUS : FRef := ⟨R.RTR_COMMIT_CMD, 31, 24⟩
/-- RTR_COMMIT_CMD.PENDING, bits [8:8]. -/
def F.RTR_COMMIT_CMD_PENDING : FRef := ⟨R.RTR_COMMIT_CMD, 8, 8⟩
/-- RTR_COMMIT_CMD.OP, bits [1:0]. -/
def F.RTR_COMMIT_CMD_OP : FRef := ⟨R.RTR_COMMIT_CMD, 1, 0⟩
/-- Address of RTR_COMMIT_NS (Table 10-15). -/
def R.RTR_COMMIT_NS : Nat := 0x8000120034
/-- RTR_COMMIT_NS.NS, bits [29:0]. -/
def F.RTR_COMMIT_NS_NS : FRef := ⟨R.RTR_COMMIT_NS, 29, 0⟩
/-- Address of RTR_COMMIT_SEC (Table 10-16). -/
def R.RTR_COMMIT_SEC : Nat := 0x8000120038
/-- RTR_COMMIT_SEC.SEC, bits [31:0]. -/
def F.RTR_COMMIT_SEC_SEC : FRef := ⟨R.RTR_COMMIT_SEC, 31, 0⟩
/-- Address of RTR_EDIT_CMD (Table 10-17). -/
def R.RTR_EDIT_CMD : Nat := 0x8000120040
/-- RTR_EDIT_CMD.STATUS, bits [31:24]. -/
def F.RTR_EDIT_CMD_STATUS : FRef := ⟨R.RTR_EDIT_CMD, 31, 24⟩
/-- RTR_EDIT_CMD.FOUND, bits [9:9]. -/
def F.RTR_EDIT_CMD_FOUND : FRef := ⟨R.RTR_EDIT_CMD, 9, 9⟩
/-- RTR_EDIT_CMD.BUSY, bits [8:8]. -/
def F.RTR_EDIT_CMD_BUSY : FRef := ⟨R.RTR_EDIT_CMD, 8, 8⟩
/-- RTR_EDIT_CMD.OP, bits [3:0]. -/
def F.RTR_EDIT_CMD_OP : FRef := ⟨R.RTR_EDIT_CMD, 3, 0⟩
/-- Address of RTR_EDIT_ARG (Table 10-18). -/
def R.RTR_EDIT_ARG : Nat := 0x8000120044
/-- RTR_EDIT_ARG.VER, bits [31:16]. -/
def F.RTR_EDIT_ARG_VER : FRef := ⟨R.RTR_EDIT_ARG, 31, 16⟩
/-- RTR_EDIT_ARG.STAGE, bits [15:13]. -/
def F.RTR_EDIT_ARG_STAGE : FRef := ⟨R.RTR_EDIT_ARG, 15, 13⟩
/-- RTR_EDIT_ARG.PARAM, bits [10:0]. -/
def F.RTR_EDIT_ARG_PARAM : FRef := ⟨R.RTR_EDIT_ARG, 10, 0⟩
/-- Address of RTR_FN_CTL (Table 02-19). -/
def R.RTR_FN_CTL (k : Nat) : Nat := 0x8000120080 + 0x4 * k
/-- RTR_FN_CTL.EN, bits [0:0]. -/
def F.RTR_FN_CTL_EN (k : Nat) : FRef := ⟨R.RTR_FN_CTL k, 0, 0⟩
/-- Address of RTR_FN_STAT (Table 02-20). -/
def R.RTR_FN_STAT (k : Nat) : Nat := 0x80001200c0 + 0x4 * k
/-- RTR_FN_STAT.LAST_STATUS, bits [31:24]. -/
def F.RTR_FN_STAT_LAST_STATUS (k : Nat) : FRef := ⟨R.RTR_FN_STAT k, 31, 24⟩
/-- RTR_FN_STAT.RESTART_PENDING, bits [4:4]. -/
def F.RTR_FN_STAT_RESTART_PENDING (k : Nat) : FRef := ⟨R.RTR_FN_STAT k, 4, 4⟩
/-- RTR_FN_STAT.STATE, bits [2:0]. -/
def F.RTR_FN_STAT_STATE (k : Nat) : FRef := ⟨R.RTR_FN_STAT k, 2, 0⟩
/-- Address of RTR_EDIT_DATA (Table 10-19). -/
def R.RTR_EDIT_DATA (k : Nat) : Nat := 0x8000120100 + 0x4 * k
/-- RTR_EDIT_DATA.DATA, bits [31:0]. -/
def F.RTR_EDIT_DATA_DATA (k : Nat) : FRef := ⟨R.RTR_EDIT_DATA k, 31, 0⟩
/-- Address of RTR_STAGE_CFG (Table 10-20). -/
def R.RTR_STAGE_CFG (k : Nat) : Nat := 0x8000120180 + 0x4 * k
/-- RTR_STAGE_CFG.KIND, bits [31:30]. -/
def F.RTR_STAGE_CFG_KIND (k : Nat) : FRef := ⟨R.RTR_STAGE_CFG k, 31, 30⟩
/-- RTR_STAGE_CFG.V6, bits [29:29]. -/
def F.RTR_STAGE_CFG_V6 (k : Nat) : FRef := ⟨R.RTR_STAGE_CFG k, 29, 29⟩
/-- RTR_STAGE_CFG.SIZE, bits [26:16]. -/
def F.RTR_STAGE_CFG_SIZE (k : Nat) : FRef := ⟨R.RTR_STAGE_CFG k, 26, 16⟩
/-- RTR_STAGE_CFG.BASE, bits [9:0]. -/
def F.RTR_STAGE_CFG_BASE (k : Nat) : FRef := ⟨R.RTR_STAGE_CFG k, 9, 0⟩
/-- Address of RTR_STAGE_KEY (Table 10-21). -/
def R.RTR_STAGE_KEY (k j : Nat) : Nat := 0x80001201a0 + 0x10 * k + 0x4 * j
/-- RTR_STAGE_KEY.SRC, bits [13:13]. -/
def F.RTR_STAGE_KEY_SRC (k j : Nat) : FRef := ⟨R.RTR_STAGE_KEY k j, 13, 13⟩
/-- RTR_STAGE_KEY.LEN, bits [12:8]. -/
def F.RTR_STAGE_KEY_LEN (k j : Nat) : FRef := ⟨R.RTR_STAGE_KEY k j, 12, 8⟩
/-- RTR_STAGE_KEY.OFFSET, bits [5:0]. -/
def F.RTR_STAGE_KEY_OFFSET (k j : Nat) : FRef := ⟨R.RTR_STAGE_KEY k j, 5, 0⟩
/-- Address of RTR_SEL_A (Table 10-22). -/
def R.RTR_SEL_A (k : Nat) : Nat := 0x8000120200 + 0x8 * k
/-- RTR_SEL_A.VALUE, bits [31:16]. -/
def F.RTR_SEL_A_VALUE (k : Nat) : FRef := ⟨R.RTR_SEL_A k, 31, 16⟩
/-- RTR_SEL_A.MASK, bits [15:0]. -/
def F.RTR_SEL_A_MASK (k : Nat) : FRef := ⟨R.RTR_SEL_A k, 15, 0⟩
/-- Address of RTR_SEL_B (Table 10-23). -/
def R.RTR_SEL_B (k : Nat) : Nat := 0x8000120204 + 0x8 * k
/-- RTR_SEL_B.VALID, bits [31:31]. -/
def F.RTR_SEL_B_VALID (k : Nat) : FRef := ⟨R.RTR_SEL_B k, 31, 31⟩
/-- RTR_SEL_B.PORT, bits [30:24]. -/
def F.RTR_SEL_B_PORT (k : Nat) : FRef := ⟨R.RTR_SEL_B k, 30, 24⟩
/-- RTR_SEL_B.PORT_MASK, bits [23:17]. -/
def F.RTR_SEL_B_PORT_MASK (k : Nat) : FRef := ⟨R.RTR_SEL_B k, 23, 17⟩
/-- RTR_SEL_B.TEMPLATE, bits [11:8]. -/
def F.RTR_SEL_B_TEMPLATE (k : Nat) : FRef := ⟨R.RTR_SEL_B k, 11, 8⟩
/-- RTR_SEL_B.OFFSET, bits [7:0]. -/
def F.RTR_SEL_B_OFFSET (k : Nat) : FRef := ⟨R.RTR_SEL_B k, 7, 0⟩
/-- Address of RTR_TPL_CFG (Table 10-24). -/
def R.RTR_TPL_CFG (k : Nat) : Nat := 0x8000120300 + 0x4 * k
/-- RTR_TPL_CFG.MISS, bits [1:0]. -/
def F.RTR_TPL_CFG_MISS (k : Nat) : FRef := ⟨R.RTR_TPL_CFG k, 1, 0⟩
/-- Address of RTR_INJ_CFG (Table 10-27). -/
def R.RTR_INJ_CFG (k : Nat) : Nat := 0x8000120340 + 0x8 * k
/-- RTR_INJ_CFG.SIZE, bits [31:20]. -/
def F.RTR_INJ_CFG_SIZE (k : Nat) : FRef := ⟨R.RTR_INJ_CFG k, 31, 20⟩
/-- RTR_INJ_CFG.BASE, bits [18:0]. -/
def F.RTR_INJ_CFG_BASE (k : Nat) : FRef := ⟨R.RTR_INJ_CFG k, 18, 0⟩
/-- Address of RTR_INJ_PTR (Table 10-28). -/
def R.RTR_INJ_PTR (k : Nat) : Nat := 0x8000120344 + 0x8 * k
/-- RTR_INJ_PTR.TAIL, bits [27:16]. -/
def F.RTR_INJ_PTR_TAIL (k : Nat) : FRef := ⟨R.RTR_INJ_PTR k, 27, 16⟩
/-- RTR_INJ_PTR.HEAD, bits [11:0]. -/
def F.RTR_INJ_PTR_HEAD (k : Nat) : FRef := ⟨R.RTR_INJ_PTR k, 11, 0⟩
/-- Address of RTR_TPL_WIN (Table 10-25). -/
def R.RTR_TPL_WIN (k j : Nat) : Nat := 0x8000120400 + 0x40 * k + 0x4 * j
/-- RTR_TPL_WIN.VALID, bits [31:31]. -/
def F.RTR_TPL_WIN_VALID (k j : Nat) : FRef := ⟨R.RTR_TPL_WIN k j, 31, 31⟩
/-- RTR_TPL_WIN.REQ, bits [30:30]. -/
def F.RTR_TPL_WIN_REQ (k j : Nat) : FRef := ⟨R.RTR_TPL_WIN k j, 30, 30⟩
/-- RTR_TPL_WIN.DEST, bits [29:24]. -/
def F.RTR_TPL_WIN_DEST (k j : Nat) : FRef := ⟨R.RTR_TPL_WIN k j, 29, 24⟩
/-- RTR_TPL_WIN.LENM1, bits [23:20]. -/
def F.RTR_TPL_WIN_LENM1 (k j : Nat) : FRef := ⟨R.RTR_TPL_WIN k j, 23, 20⟩
/-- RTR_TPL_WIN.OFFSET, bits [7:0]. -/
def F.RTR_TPL_WIN_OFFSET (k j : Nat) : FRef := ⟨R.RTR_TPL_WIN k j, 7, 0⟩
/-- Address of RTR_PORT (Table 10-26). -/
def R.RTR_PORT (k : Nat) : Nat := 0x8000120800 + 0x4 * k
/-- RTR_PORT.EN, bits [31:31]. -/
def F.RTR_PORT_EN (k : Nat) : FRef := ⟨R.RTR_PORT k, 31, 31⟩
/-- RTR_PORT.DEF_TPL, bits [11:8]. -/
def F.RTR_PORT_DEF_TPL (k : Nat) : FRef := ⟨R.RTR_PORT k, 11, 8⟩
/-- RTR_PORT.PHYS, bits [2:0]. -/
def F.RTR_PORT_PHYS (k : Nat) : FRef := ⟨R.RTR_PORT k, 2, 0⟩
/-- Address of TM_STAT (Table 11-15). -/
def R.TM_STAT : Nat := 0x8000130000
/-- TM_STAT.FREE, bits [31:16]. -/
def F.TM_STAT_FREE : FRef := ⟨R.TM_STAT, 31, 16⟩
/-- TM_STAT.GATE_REJECT, bits [15:15]. -/
def F.TM_STAT_GATE_REJECT : FRef := ⟨R.TM_STAT, 15, 15⟩
/-- TM_STAT.PARKED, bits [11:0]. -/
def F.TM_STAT_PARKED : FRef := ⟨R.TM_STAT, 11, 0⟩
/-- Address of TM_FRAME (Table 11-16). -/
def R.TM_FRAME : Nat := 0x8000130004
/-- TM_FRAME.MAX_FRAME, bits [13:0]. -/
def F.TM_FRAME_MAX_FRAME : FRef := ⟨R.TM_FRAME, 13, 0⟩
/-- Address of TM_SMP_CFG (Table 11-17). -/
def R.TM_SMP_CFG : Nat := 0x8000130008
/-- TM_SMP_CFG.SKIPS, bits [31:24]. -/
def F.TM_SMP_CFG_SKIPS : FRef := ⟨R.TM_SMP_CFG, 31, 24⟩
/-- TM_SMP_CFG.EN, bits [23:23]. -/
def F.TM_SMP_CFG_EN : FRef := ⟨R.TM_SMP_CFG, 23, 23⟩
/-- TM_SMP_CFG.PERIOD, bits [19:0]. -/
def F.TM_SMP_CFG_PERIOD : FRef := ⟨R.TM_SMP_CFG, 19, 0⟩
/-- Address of TM_QSEL (Table 11-18). -/
def R.TM_QSEL : Nat := 0x8000130010
/-- TM_QSEL.Q, bits [10:0]. -/
def F.TM_QSEL_Q : FRef := ⟨R.TM_QSEL, 10, 0⟩
/-- Address of TM_QCFG (Table 11-19). -/
def R.TM_QCFG : Nat := 0x8000130014
/-- TM_QCFG.WEIGHT, bits [31:24]. -/
def F.TM_QCFG_WEIGHT : FRef := ⟨R.TM_QCFG, 31, 24⟩
/-- TM_QCFG.SAMPLE, bits [23:23]. -/
def F.TM_QCFG_SAMPLE : FRef := ⟨R.TM_QCFG, 23, 23⟩
/-- TM_QCFG.LIMIT, bits [14:0]. -/
def F.TM_QCFG_LIMIT : FRef := ⟨R.TM_QCFG, 14, 0⟩
/-- Address of TM_QSHAPE (Table 11-20). -/
def R.TM_QSHAPE : Nat := 0x8000130018
/-- TM_QSHAPE.RATE, bits [31:8]. -/
def F.TM_QSHAPE_RATE : FRef := ⟨R.TM_QSHAPE, 31, 8⟩
/-- TM_QSHAPE.BURST, bits [7:0]. -/
def F.TM_QSHAPE_BURST : FRef := ⟨R.TM_QSHAPE, 7, 0⟩
/-- Address of TM_QSTAT (Table 11-21). -/
def R.TM_QSTAT : Nat := 0x800013001c
/-- TM_QSTAT.DEPTH, bits [31:16]. -/
def F.TM_QSTAT_DEPTH : FRef := ⟨R.TM_QSTAT, 31, 16⟩
/-- TM_QSTAT.DROPS, bits [15:8]. -/
def F.TM_QSTAT_DROPS : FRef := ⟨R.TM_QSTAT, 15, 8⟩
/-- TM_QSTAT.PARKED, bits [0:0]. -/
def F.TM_QSTAT_PARKED : FRef := ⟨R.TM_QSTAT, 0, 0⟩
/-- Address of TM_SMP_RING_BASE_LO (Table 11-5). -/
def R.TM_SMP_RING_BASE_LO : Nat := 0x8000130020
/-- TM_SMP_RING_BASE_LO.ADDR, bits [31:6]. -/
def F.TM_SMP_RING_BASE_LO_ADDR : FRef := ⟨R.TM_SMP_RING_BASE_LO, 31, 6⟩
/-- Address of TM_SMP_RING_BASE_HI (Table 11-6). -/
def R.TM_SMP_RING_BASE_HI : Nat := 0x8000130024
/-- TM_SMP_RING_BASE_HI.ADDR, bits [31:0]. -/
def F.TM_SMP_RING_BASE_HI_ADDR : FRef := ⟨R.TM_SMP_RING_BASE_HI, 31, 0⟩
/-- Address of TM_SMP_RING_SIZE (Table 11-7). -/
def R.TM_SMP_RING_SIZE : Nat := 0x8000130028
/-- TM_SMP_RING_SIZE.SIZE, bits [15:0]. -/
def F.TM_SMP_RING_SIZE_SIZE : FRef := ⟨R.TM_SMP_RING_SIZE, 15, 0⟩
/-- Address of TM_SMP_RING_PTR (Table 11-8). -/
def R.TM_SMP_RING_PTR : Nat := 0x800013002c
/-- TM_SMP_RING_PTR.SW, bits [31:16]. -/
def F.TM_SMP_RING_PTR_SW : FRef := ⟨R.TM_SMP_RING_PTR, 31, 16⟩
/-- TM_SMP_RING_PTR.HW, bits [15:0]. -/
def F.TM_SMP_RING_PTR_HW : FRef := ⟨R.TM_SMP_RING_PTR, 15, 0⟩
/-- Address of TM_GATE_ADDR (Table 11-22). -/
def R.TM_GATE_ADDR : Nat := 0x8000130030
/-- TM_GATE_ADDR.PORT, bits [18:16]. -/
def F.TM_GATE_ADDR_PORT : FRef := ⟨R.TM_GATE_ADDR, 18, 16⟩
/-- TM_GATE_ADDR.VIEW, bits [15:15]. -/
def F.TM_GATE_ADDR_VIEW : FRef := ⟨R.TM_GATE_ADDR, 15, 15⟩
/-- TM_GATE_ADDR.INDEX, bits [8:0]. -/
def F.TM_GATE_ADDR_INDEX : FRef := ⟨R.TM_GATE_ADDR, 8, 0⟩
/-- Address of TM_GATE_LO (Table 11-23). -/
def R.TM_GATE_LO : Nat := 0x8000130034
/-- TM_GATE_LO.DATA, bits [31:0]. -/
def F.TM_GATE_LO_DATA : FRef := ⟨R.TM_GATE_LO, 31, 0⟩
/-- Address of TM_GATE_HI (Table 11-23). -/
def R.TM_GATE_HI : Nat := 0x8000130038
/-- TM_GATE_HI.DATA, bits [31:0]. -/
def F.TM_GATE_HI_DATA : FRef := ⟨R.TM_GATE_HI, 31, 0⟩
/-- Address of TM_SL_CFG (Table 11-24). -/
def R.TM_SL_CFG (k : Nat) : Nat := 0x8000130040 + 0x4 * k
/-- TM_SL_CFG.COARSE_MASK, bits [31:16]. -/
def F.TM_SL_CFG_COARSE_MASK (k : Nat) : FRef := ⟨R.TM_SL_CFG k, 31, 16⟩
/-- TM_SL_CFG.COARSE_DOPEN, bits [1:1]. -/
def F.TM_SL_CFG_COARSE_DOPEN (k : Nat) : FRef := ⟨R.TM_SL_CFG k, 1, 1⟩
/-- TM_SL_CFG.STRICT, bits [0:0]. -/
def F.TM_SL_CFG_STRICT (k : Nat) : FRef := ⟨R.TM_SL_CFG k, 0, 0⟩
/-- Address of TM_SL_STAT (Table 11-25). -/
def R.TM_SL_STAT (k : Nat) : Nat := 0x8000130060 + 0x4 * k
/-- TM_SL_STAT.LAST, bits [31:24]. -/
def F.TM_SL_STAT_LAST (k : Nat) : FRef := ⟨R.TM_SL_STAT k, 31, 24⟩
/-- TM_SL_STAT.LATE_STARTS, bits [23:16]. -/
def F.TM_SL_STAT_LATE_STARTS (k : Nat) : FRef := ⟨R.TM_SL_STAT k, 23, 16⟩
/-- TM_SL_STAT.PENDING, bits [15:15]. -/
def F.TM_SL_STAT_PENDING (k : Nat) : FRef := ⟨R.TM_SL_STAT k, 15, 15⟩
/-- TM_SL_STAT.COUNT, bits [8:0]. -/
def F.TM_SL_STAT_COUNT (k : Nat) : FRef := ⟨R.TM_SL_STAT k, 8, 0⟩
/-- Address of TM_FN_CTL (Table 02-19). -/
def R.TM_FN_CTL (k : Nat) : Nat := 0x8000130080 + 0x4 * k
/-- TM_FN_CTL.EN, bits [0:0]. -/
def F.TM_FN_CTL_EN (k : Nat) : FRef := ⟨R.TM_FN_CTL k, 0, 0⟩
/-- Address of TM_FN_STAT (Table 02-20). -/
def R.TM_FN_STAT (k : Nat) : Nat := 0x80001300c0 + 0x4 * k
/-- TM_FN_STAT.LAST_STATUS, bits [31:24]. -/
def F.TM_FN_STAT_LAST_STATUS (k : Nat) : FRef := ⟨R.TM_FN_STAT k, 31, 24⟩
/-- TM_FN_STAT.RESTART_PENDING, bits [4:4]. -/
def F.TM_FN_STAT_RESTART_PENDING (k : Nat) : FRef := ⟨R.TM_FN_STAT k, 4, 4⟩
/-- TM_FN_STAT.STATE, bits [2:0]. -/
def F.TM_FN_STAT_STATE (k : Nat) : FRef := ⟨R.TM_FN_STAT k, 2, 0⟩
/-- Address of TM_PORT (Table 11-26). -/
def R.TM_PORT (k : Nat) : Nat := 0x8000130200 + 0x4 * k
/-- TM_PORT.OVERHEAD, bits [7:0]. -/
def F.TM_PORT_OVERHEAD (k : Nat) : FRef := ⟨R.TM_PORT k, 7, 0⟩
/-- Address of EMAC_CFG (Table 11-28). -/
def R.EMAC_CFG (i : Nat) : Nat := 0x8000140000 + 0x1000 * i
/-- EMAC_CFG.TS_DOM, bits [7:6]. -/
def F.EMAC_CFG_TS_DOM (i : Nat) : FRef := ⟨R.EMAC_CFG i, 7, 6⟩
/-- EMAC_CFG.AN, bits [2:2]. -/
def F.EMAC_CFG_AN (i : Nat) : FRef := ⟨R.EMAC_CFG i, 2, 2⟩
/-- EMAC_CFG.MODE, bits [1:0]. -/
def F.EMAC_CFG_MODE (i : Nat) : FRef := ⟨R.EMAC_CFG i, 1, 0⟩
/-- Address of EMAC_STAT (Table 11-29). -/
def R.EMAC_STAT (i : Nat) : Nat := 0x8000140004 + 0x1000 * i
/-- EMAC_STAT.AN_DONE, bits [2:2]. -/
def F.EMAC_STAT_AN_DONE (i : Nat) : FRef := ⟨R.EMAC_STAT i, 2, 2⟩
/-- EMAC_STAT.PCS_LOCK, bits [1:1]. -/
def F.EMAC_STAT_PCS_LOCK (i : Nat) : FRef := ⟨R.EMAC_STAT i, 1, 1⟩
/-- EMAC_STAT.LINK, bits [0:0]. -/
def F.EMAC_STAT_LINK (i : Nat) : FRef := ⟨R.EMAC_STAT i, 0, 0⟩
/-- Address of EMAC_CNT (Table 11-30). -/
def R.EMAC_CNT (i k : Nat) : Nat := 0x8000140010 + 0x1000 * i + 0x4 * k
/-- EMAC_CNT.FIRST, bits [31:16]. -/
def F.EMAC_CNT_FIRST (i k : Nat) : FRef := ⟨R.EMAC_CNT i k, 31, 16⟩
/-- EMAC_CNT.SECOND, bits [15:0]. -/
def F.EMAC_CNT_SECOND (i k : Nat) : FRef := ⟨R.EMAC_CNT i k, 15, 0⟩
/-- Address of EMAC_TSMATCH (Table 11-31). -/
def R.EMAC_TSMATCH (i : Nat) : Nat := 0x8000140030 + 0x1000 * i
/-- EMAC_TSMATCH.ETYPE, bits [31:16]. -/
def F.EMAC_TSMATCH_ETYPE (i : Nat) : FRef := ⟨R.EMAC_TSMATCH i, 31, 16⟩
/-- EMAC_TSMATCH.CAPOFS, bits [15:8]. -/
def F.EMAC_TSMATCH_CAPOFS (i : Nat) : FRef := ⟨R.EMAC_TSMATCH i, 15, 8⟩
/-- EMAC_TSMATCH.EN, bits [0:0]. -/
def F.EMAC_TSMATCH_EN (i : Nat) : FRef := ⟨R.EMAC_TSMATCH i, 0, 0⟩
/-- Address of EMAC_FN_CTL (Table 02-19). -/
def R.EMAC_FN_CTL (i k : Nat) : Nat := 0x8000140080 + 0x1000 * i + 0x4 * k
/-- EMAC_FN_CTL.EN, bits [0:0]. -/
def F.EMAC_FN_CTL_EN (i k : Nat) : FRef := ⟨R.EMAC_FN_CTL i k, 0, 0⟩
/-- Address of EMAC_FN_STAT (Table 02-20). -/
def R.EMAC_FN_STAT (i k : Nat) : Nat := 0x80001400c0 + 0x1000 * i + 0x4 * k
/-- EMAC_FN_STAT.LAST_STATUS, bits [31:24]. -/
def F.EMAC_FN_STAT_LAST_STATUS (i k : Nat) : FRef := ⟨R.EMAC_FN_STAT i k, 31, 24⟩
/-- EMAC_FN_STAT.RESTART_PENDING, bits [4:4]. -/
def F.EMAC_FN_STAT_RESTART_PENDING (i k : Nat) : FRef := ⟨R.EMAC_FN_STAT i k, 4, 4⟩
/-- EMAC_FN_STAT.STATE, bits [2:0]. -/
def F.EMAC_FN_STAT_STATE (i k : Nat) : FRef := ⟨R.EMAC_FN_STAT i k, 2, 0⟩
/-- Address of EMAC_TQ0_BASE_LO (Table 11-5). -/
def R.EMAC_TQ0_BASE_LO (i : Nat) : Nat := 0x8000140100 + 0x1000 * i
/-- EMAC_TQ0_BASE_LO.ADDR, bits [31:6]. -/
def F.EMAC_TQ0_BASE_LO_ADDR (i : Nat) : FRef := ⟨R.EMAC_TQ0_BASE_LO i, 31, 6⟩
/-- Address of EMAC_TQ0_BASE_HI (Table 11-6). -/
def R.EMAC_TQ0_BASE_HI (i : Nat) : Nat := 0x8000140104 + 0x1000 * i
/-- EMAC_TQ0_BASE_HI.ADDR, bits [31:0]. -/
def F.EMAC_TQ0_BASE_HI_ADDR (i : Nat) : FRef := ⟨R.EMAC_TQ0_BASE_HI i, 31, 0⟩
/-- Address of EMAC_TQ0_SIZE (Table 11-7). -/
def R.EMAC_TQ0_SIZE (i : Nat) : Nat := 0x8000140108 + 0x1000 * i
/-- EMAC_TQ0_SIZE.SIZE, bits [15:0]. -/
def F.EMAC_TQ0_SIZE_SIZE (i : Nat) : FRef := ⟨R.EMAC_TQ0_SIZE i, 15, 0⟩
/-- Address of EMAC_TQ0_PTR (Table 11-8). -/
def R.EMAC_TQ0_PTR (i : Nat) : Nat := 0x800014010c + 0x1000 * i
/-- EMAC_TQ0_PTR.SW, bits [31:16]. -/
def F.EMAC_TQ0_PTR_SW (i : Nat) : FRef := ⟨R.EMAC_TQ0_PTR i, 31, 16⟩
/-- EMAC_TQ0_PTR.HW, bits [15:0]. -/
def F.EMAC_TQ0_PTR_HW (i : Nat) : FRef := ⟨R.EMAC_TQ0_PTR i, 15, 0⟩
/-- Address of EMAC_TQ1_BASE_LO (Table 11-5). -/
def R.EMAC_TQ1_BASE_LO (i : Nat) : Nat := 0x8000140110 + 0x1000 * i
/-- EMAC_TQ1_BASE_LO.ADDR, bits [31:6]. -/
def F.EMAC_TQ1_BASE_LO_ADDR (i : Nat) : FRef := ⟨R.EMAC_TQ1_BASE_LO i, 31, 6⟩
/-- Address of EMAC_TQ1_BASE_HI (Table 11-6). -/
def R.EMAC_TQ1_BASE_HI (i : Nat) : Nat := 0x8000140114 + 0x1000 * i
/-- EMAC_TQ1_BASE_HI.ADDR, bits [31:0]. -/
def F.EMAC_TQ1_BASE_HI_ADDR (i : Nat) : FRef := ⟨R.EMAC_TQ1_BASE_HI i, 31, 0⟩
/-- Address of EMAC_TQ1_SIZE (Table 11-7). -/
def R.EMAC_TQ1_SIZE (i : Nat) : Nat := 0x8000140118 + 0x1000 * i
/-- EMAC_TQ1_SIZE.SIZE, bits [15:0]. -/
def F.EMAC_TQ1_SIZE_SIZE (i : Nat) : FRef := ⟨R.EMAC_TQ1_SIZE i, 15, 0⟩
/-- Address of EMAC_TQ1_PTR (Table 11-8). -/
def R.EMAC_TQ1_PTR (i : Nat) : Nat := 0x800014011c + 0x1000 * i
/-- EMAC_TQ1_PTR.SW, bits [31:16]. -/
def F.EMAC_TQ1_PTR_SW (i : Nat) : FRef := ⟨R.EMAC_TQ1_PTR i, 31, 16⟩
/-- EMAC_TQ1_PTR.HW, bits [15:0]. -/
def F.EMAC_TQ1_PTR_HW (i : Nat) : FRef := ⟨R.EMAC_TQ1_PTR i, 15, 0⟩
/-- Address of EMAC_RXLOG_BASE_LO (Table 11-5). -/
def R.EMAC_RXLOG_BASE_LO (i : Nat) : Nat := 0x8000140120 + 0x1000 * i
/-- EMAC_RXLOG_BASE_LO.ADDR, bits [31:6]. -/
def F.EMAC_RXLOG_BASE_LO_ADDR (i : Nat) : FRef := ⟨R.EMAC_RXLOG_BASE_LO i, 31, 6⟩
/-- Address of EMAC_RXLOG_BASE_HI (Table 11-6). -/
def R.EMAC_RXLOG_BASE_HI (i : Nat) : Nat := 0x8000140124 + 0x1000 * i
/-- EMAC_RXLOG_BASE_HI.ADDR, bits [31:0]. -/
def F.EMAC_RXLOG_BASE_HI_ADDR (i : Nat) : FRef := ⟨R.EMAC_RXLOG_BASE_HI i, 31, 0⟩
/-- Address of EMAC_RXLOG_SIZE (Table 11-7). -/
def R.EMAC_RXLOG_SIZE (i : Nat) : Nat := 0x8000140128 + 0x1000 * i
/-- EMAC_RXLOG_SIZE.SIZE, bits [15:0]. -/
def F.EMAC_RXLOG_SIZE_SIZE (i : Nat) : FRef := ⟨R.EMAC_RXLOG_SIZE i, 15, 0⟩
/-- Address of EMAC_RXLOG_PTR (Table 11-8). -/
def R.EMAC_RXLOG_PTR (i : Nat) : Nat := 0x800014012c + 0x1000 * i
/-- EMAC_RXLOG_PTR.SW, bits [31:16]. -/
def F.EMAC_RXLOG_PTR_SW (i : Nat) : FRef := ⟨R.EMAC_RXLOG_PTR i, 31, 16⟩
/-- EMAC_RXLOG_PTR.HW, bits [15:0]. -/
def F.EMAC_RXLOG_PTR_HW (i : Nat) : FRef := ⟨R.EMAC_RXLOG_PTR i, 15, 0⟩
/-- Address of EMAC_WAKE_CFG (Table 11-32). -/
def R.EMAC_WAKE_CFG (i : Nat) : Nat := 0x8000140400 + 0x1000 * i
/-- EMAC_WAKE_CFG.PATTERNS, bits [31:16]. -/
def F.EMAC_WAKE_CFG_PATTERNS (i : Nat) : FRef := ⟨R.EMAC_WAKE_CFG i, 31, 16⟩
/-- EMAC_WAKE_CFG.PORT, bits [3:2]. -/
def F.EMAC_WAKE_CFG_PORT (i : Nat) : FRef := ⟨R.EMAC_WAKE_CFG i, 3, 2⟩
/-- EMAC_WAKE_CFG.EN, bits [0:0]. -/
def F.EMAC_WAKE_CFG_EN (i : Nat) : FRef := ⟨R.EMAC_WAKE_CFG i, 0, 0⟩
/-- Address of EMAC_WAKE_STAT (Table 11-33). -/
def R.EMAC_WAKE_STAT (i : Nat) : Nat := 0x8000140404 + 0x1000 * i
/-- EMAC_WAKE_STAT.VALID, bits [31:31]. -/
def F.EMAC_WAKE_STAT_VALID (i : Nat) : FRef := ⟨R.EMAC_WAKE_STAT i, 31, 31⟩
/-- EMAC_WAKE_STAT.PATTERN, bits [3:0]. -/
def F.EMAC_WAKE_STAT_PATTERN (i : Nat) : FRef := ⟨R.EMAC_WAKE_STAT i, 3, 0⟩
/-- Address of EMAC_WAKE_ADDR (Table 11-34). -/
def R.EMAC_WAKE_ADDR (i : Nat) : Nat := 0x8000140408 + 0x1000 * i
/-- EMAC_WAKE_ADDR.WORD, bits [9:0]. -/
def F.EMAC_WAKE_ADDR_WORD (i : Nat) : FRef := ⟨R.EMAC_WAKE_ADDR i, 9, 0⟩
/-- Address of EMAC_WAKE_DATA (Table 11-35). -/
def R.EMAC_WAKE_DATA (i : Nat) : Nat := 0x800014040c + 0x1000 * i
/-- EMAC_WAKE_DATA.DATA, bits [31:0]. -/
def F.EMAC_WAKE_DATA_DATA (i : Nat) : FRef := ⟨R.EMAC_WAKE_DATA i, 31, 0⟩
/-- Address of PCIE_STAT (Table 11-37). -/
def R.PCIE_STAT : Nat := 0x8000150000
/-- PCIE_STAT.WIDTH, bits [7:4]. -/
def F.PCIE_STAT_WIDTH : FRef := ⟨R.PCIE_STAT, 7, 4⟩
/-- PCIE_STAT.SPEED, bits [3:2]. -/
def F.PCIE_STAT_SPEED : FRef := ⟨R.PCIE_STAT, 3, 2⟩
/-- PCIE_STAT.LINKUP, bits [0:0]. -/
def F.PCIE_STAT_LINKUP : FRef := ⟨R.PCIE_STAT, 0, 0⟩
/-- Address of PCIE_DOORBELL (Table 11-38). -/
def R.PCIE_DOORBELL : Nat := 0x8000150004
/-- PCIE_DOORBELL.VALUE, bits [31:0]. -/
def F.PCIE_DOORBELL_VALUE : FRef := ⟨R.PCIE_DOORBELL, 31, 0⟩
/-- Address of PCIE_CNT (Table 11-39). -/
def R.PCIE_CNT : Nat := 0x8000150008
/-- PCIE_CNT.HRX_SMALL, bits [31:16]. -/
def F.PCIE_CNT_HRX_SMALL : FRef := ⟨R.PCIE_CNT, 31, 16⟩
/-- PCIE_CNT.HTX_REFUSED, bits [15:0]. -/
def F.PCIE_CNT_HTX_REFUSED : FRef := ⟨R.PCIE_CNT, 15, 0⟩
/-- Address of PCIE_MSIX_MAP (Table 11-40). -/
def R.PCIE_MSIX_MAP (k : Nat) : Nat := 0x8000150020 + 0x4 * k
/-- PCIE_MSIX_MAP.LINE3, bits [31:24]. -/
def F.PCIE_MSIX_MAP_LINE3 (k : Nat) : FRef := ⟨R.PCIE_MSIX_MAP k, 31, 24⟩
/-- PCIE_MSIX_MAP.LINE2, bits [23:16]. -/
def F.PCIE_MSIX_MAP_LINE2 (k : Nat) : FRef := ⟨R.PCIE_MSIX_MAP k, 23, 16⟩
/-- PCIE_MSIX_MAP.LINE1, bits [15:8]. -/
def F.PCIE_MSIX_MAP_LINE1 (k : Nat) : FRef := ⟨R.PCIE_MSIX_MAP k, 15, 8⟩
/-- PCIE_MSIX_MAP.LINE0, bits [7:0]. -/
def F.PCIE_MSIX_MAP_LINE0 (k : Nat) : FRef := ⟨R.PCIE_MSIX_MAP k, 7, 0⟩
/-- Address of PCIE_FN_CTL (Table 02-19). -/
def R.PCIE_FN_CTL (k : Nat) : Nat := 0x8000150080 + 0x4 * k
/-- PCIE_FN_CTL.EN, bits [0:0]. -/
def F.PCIE_FN_CTL_EN (k : Nat) : FRef := ⟨R.PCIE_FN_CTL k, 0, 0⟩
/-- Address of PCIE_FN_STAT (Table 02-20). -/
def R.PCIE_FN_STAT (k : Nat) : Nat := 0x80001500c0 + 0x4 * k
/-- PCIE_FN_STAT.LAST_STATUS, bits [31:24]. -/
def F.PCIE_FN_STAT_LAST_STATUS (k : Nat) : FRef := ⟨R.PCIE_FN_STAT k, 31, 24⟩
/-- PCIE_FN_STAT.RESTART_PENDING, bits [4:4]. -/
def F.PCIE_FN_STAT_RESTART_PENDING (k : Nat) : FRef := ⟨R.PCIE_FN_STAT k, 4, 4⟩
/-- PCIE_FN_STAT.STATE, bits [2:0]. -/
def F.PCIE_FN_STAT_STATE (k : Nat) : FRef := ⟨R.PCIE_FN_STAT k, 2, 0⟩
/-- Address of PCIE_HTX_BASE_LO (Table 11-5). -/
def R.PCIE_HTX_BASE_LO (k : Nat) : Nat := 0x8000150100 + 0x10 * k
/-- PCIE_HTX_BASE_LO.ADDR, bits [31:6]. -/
def F.PCIE_HTX_BASE_LO_ADDR (k : Nat) : FRef := ⟨R.PCIE_HTX_BASE_LO k, 31, 6⟩
/-- Address of PCIE_HTX_BASE_HI (Table 11-6). -/
def R.PCIE_HTX_BASE_HI (k : Nat) : Nat := 0x8000150104 + 0x10 * k
/-- PCIE_HTX_BASE_HI.ADDR, bits [31:0]. -/
def F.PCIE_HTX_BASE_HI_ADDR (k : Nat) : FRef := ⟨R.PCIE_HTX_BASE_HI k, 31, 0⟩
/-- Address of PCIE_HTX_SIZE (Table 11-7). -/
def R.PCIE_HTX_SIZE (k : Nat) : Nat := 0x8000150108 + 0x10 * k
/-- PCIE_HTX_SIZE.SIZE, bits [15:0]. -/
def F.PCIE_HTX_SIZE_SIZE (k : Nat) : FRef := ⟨R.PCIE_HTX_SIZE k, 15, 0⟩
/-- Address of PCIE_HTX_PTR (Table 11-8). -/
def R.PCIE_HTX_PTR (k : Nat) : Nat := 0x800015010c + 0x10 * k
/-- PCIE_HTX_PTR.SW, bits [31:16]. -/
def F.PCIE_HTX_PTR_SW (k : Nat) : FRef := ⟨R.PCIE_HTX_PTR k, 31, 16⟩
/-- PCIE_HTX_PTR.HW, bits [15:0]. -/
def F.PCIE_HTX_PTR_HW (k : Nat) : FRef := ⟨R.PCIE_HTX_PTR k, 15, 0⟩
/-- Address of PCIE_HRX_BASE_LO (Table 11-5). -/
def R.PCIE_HRX_BASE_LO (k : Nat) : Nat := 0x8000150140 + 0x10 * k
/-- PCIE_HRX_BASE_LO.ADDR, bits [31:6]. -/
def F.PCIE_HRX_BASE_LO_ADDR (k : Nat) : FRef := ⟨R.PCIE_HRX_BASE_LO k, 31, 6⟩
/-- Address of PCIE_HRX_BASE_HI (Table 11-6). -/
def R.PCIE_HRX_BASE_HI (k : Nat) : Nat := 0x8000150144 + 0x10 * k
/-- PCIE_HRX_BASE_HI.ADDR, bits [31:0]. -/
def F.PCIE_HRX_BASE_HI_ADDR (k : Nat) : FRef := ⟨R.PCIE_HRX_BASE_HI k, 31, 0⟩
/-- Address of PCIE_HRX_SIZE (Table 11-7). -/
def R.PCIE_HRX_SIZE (k : Nat) : Nat := 0x8000150148 + 0x10 * k
/-- PCIE_HRX_SIZE.SIZE, bits [15:0]. -/
def F.PCIE_HRX_SIZE_SIZE (k : Nat) : FRef := ⟨R.PCIE_HRX_SIZE k, 15, 0⟩
/-- Address of PCIE_HRX_PTR (Table 11-8). -/
def R.PCIE_HRX_PTR (k : Nat) : Nat := 0x800015014c + 0x10 * k
/-- PCIE_HRX_PTR.SW, bits [31:16]. -/
def F.PCIE_HRX_PTR_SW (k : Nat) : FRef := ⟨R.PCIE_HRX_PTR k, 31, 16⟩
/-- PCIE_HRX_PTR.HW, bits [15:0]. -/
def F.PCIE_HRX_PTR_HW (k : Nat) : FRef := ⟨R.PCIE_HRX_PTR k, 15, 0⟩
/-- Address of SPM_STAT (Table 12-4). -/
def R.SPM_STAT : Nat := 0x8000160000
/-- SPM_STAT.BORROWING, bits [3:3]. -/
def F.SPM_STAT_BORROWING : FRef := ⟨R.SPM_STAT, 3, 3⟩
/-- SPM_STAT.MARCH_FAIL, bits [2:2]. -/
def F.SPM_STAT_MARCH_FAIL : FRef := ⟨R.SPM_STAT, 2, 2⟩
/-- SPM_STAT.UE, bits [1:1]. -/
def F.SPM_STAT_UE : FRef := ⟨R.SPM_STAT, 1, 1⟩
/-- SPM_STAT.CE, bits [0:0]. -/
def F.SPM_STAT_CE : FRef := ⟨R.SPM_STAT, 0, 0⟩
/-- Address of SPM_COUNT (Table 12-5). -/
def R.SPM_COUNT : Nat := 0x8000160004
/-- SPM_COUNT.CE, bits [31:24]. -/
def F.SPM_COUNT_CE : FRef := ⟨R.SPM_COUNT, 31, 24⟩
/-- SPM_COUNT.UE, bits [23:16]. -/
def F.SPM_COUNT_UE : FRef := ⟨R.SPM_COUNT, 23, 16⟩
/-- SPM_COUNT.MARCH_FAIL, bits [15:8]. -/
def F.SPM_COUNT_MARCH_FAIL : FRef := ⟨R.SPM_COUNT, 15, 8⟩
/-- SPM_COUNT.DISCARDS, bits [7:0]. -/
def F.SPM_COUNT_DISCARDS : FRef := ⟨R.SPM_COUNT, 7, 0⟩
/-- Address of SPM_PATROL (Table 12-6). -/
def R.SPM_PATROL : Nat := 0x8000160010
/-- SPM_PATROL.EN, bits [31:31]. -/
def F.SPM_PATROL_EN : FRef := ⟨R.SPM_PATROL, 31, 31⟩
/-- SPM_PATROL.CURSOR, bits [29:16]. -/
def F.SPM_PATROL_CURSOR : FRef := ⟨R.SPM_PATROL, 29, 16⟩
/-- SPM_PATROL.PERIOD, bits [15:0]. -/
def F.SPM_PATROL_PERIOD : FRef := ⟨R.SPM_PATROL, 15, 0⟩
/-- Address of SPM_ERR (Table 12-7). -/
def R.SPM_ERR : Nat := 0x8000160014
/-- SPM_ERR.VALID, bits [31:31]. -/
def F.SPM_ERR_VALID : FRef := ⟨R.SPM_ERR, 31, 31⟩
/-- SPM_ERR.UE, bits [30:30]. -/
def F.SPM_ERR_UE : FRef := ⟨R.SPM_ERR, 30, 30⟩
/-- SPM_ERR.MARCH, bits [29:29]. -/
def F.SPM_ERR_MARCH : FRef := ⟨R.SPM_ERR, 29, 29⟩
/-- SPM_ERR.OFFSET, bits [23:0]. -/
def F.SPM_ERR_OFFSET : FRef := ⟨R.SPM_ERR, 23, 0⟩
/-- Address of RQ_STAT (Table 12-9). -/
def R.RQ_STAT : Nat := 0x8000170000
/-- RQ_STAT.BAD_PTR, bits [1:1]. -/
def F.RQ_STAT_BAD_PTR : FRef := ⟨R.RQ_STAT, 1, 1⟩
/-- RQ_STAT.BAD_CFG, bits [0:0]. -/
def F.RQ_STAT_BAD_CFG : FRef := ⟨R.RQ_STAT, 0, 0⟩
/-- Address of RQ_COUNT0 (Table 12-10). -/
def R.RQ_COUNT0 : Nat := 0x8000170004
/-- RQ_COUNT0.NO_BUFFER, bits [31:24]. -/
def F.RQ_COUNT0_NO_BUFFER : FRef := ⟨R.RQ_COUNT0, 31, 24⟩
/-- RQ_COUNT0.BAD_QUEUE, bits [23:16]. -/
def F.RQ_COUNT0_BAD_QUEUE : FRef := ⟨R.RQ_COUNT0, 23, 16⟩
/-- RQ_COUNT0.DISABLED, bits [15:8]. -/
def F.RQ_COUNT0_DISABLED : FRef := ⟨R.RQ_COUNT0, 15, 8⟩
/-- RQ_COUNT0.BAD_BUF, bits [7:0]. -/
def F.RQ_COUNT0_BAD_BUF : FRef := ⟨R.RQ_COUNT0, 7, 0⟩
/-- Address of RQ_COUNT1 (Table 12-11). -/
def R.RQ_COUNT1 : Nat := 0x8000170008
/-- RQ_COUNT1.COMMITS, bits [31:16]. -/
def F.RQ_COUNT1_COMMITS : FRef := ⟨R.RQ_COUNT1, 31, 16⟩
/-- RQ_COUNT1.REWOUND, bits [15:0]. -/
def F.RQ_COUNT1_REWOUND : FRef := ⟨R.RQ_COUNT1, 15, 0⟩
/-- Address of RQ_SRC (Table 12-12). -/
def R.RQ_SRC (k : Nat) : Nat := 0x8000170010 + 0x4 * k
/-- RQ_SRC.QUEUE_NC, bits [13:8]. -/
def F.RQ_SRC_QUEUE_NC (k : Nat) : FRef := ⟨R.RQ_SRC k, 13, 8⟩
/-- RQ_SRC.QUEUE, bits [5:0]. -/
def F.RQ_SRC_QUEUE (k : Nat) : FRef := ⟨R.RQ_SRC k, 5, 0⟩
/-- Address of RQ_PEND_LO (Table 12-13). -/
def R.RQ_PEND_LO : Nat := 0x8000170020
/-- RQ_PEND_LO.PEND, bits [31:0]. -/
def F.RQ_PEND_LO_PEND : FRef := ⟨R.RQ_PEND_LO, 31, 0⟩
/-- Address of RQ_PEND_HI (Table 12-13). -/
def R.RQ_PEND_HI : Nat := 0x8000170024
/-- RQ_PEND_HI.PEND, bits [31:0]. -/
def F.RQ_PEND_HI_PEND : FRef := ⟨R.RQ_PEND_HI, 31, 0⟩
/-- Address of RQ_BASE (Table 12-14). -/
def R.RQ_BASE (k : Nat) : Nat := 0x8000170100 + 0x20 * k
/-- RQ_BASE.ADDR, bits [31:0]. -/
def F.RQ_BASE_ADDR (k : Nat) : FRef := ⟨R.RQ_BASE k, 31, 0⟩
/-- Address of RQ_CFG (Table 12-15). -/
def R.RQ_CFG (k : Nat) : Nat := 0x8000170104 + 0x20 * k
/-- RQ_CFG.EN, bits [31:31]. -/
def F.RQ_CFG_EN (k : Nat) : FRef := ⟨R.RQ_CFG k, 31, 31⟩
/-- RQ_CFG.ACTIVE, bits [30:30]. -/
def F.RQ_CFG_ACTIVE (k : Nat) : FRef := ⟨R.RQ_CFG k, 30, 30⟩
/-- RQ_CFG.EVT, bits [29:29]. -/
def F.RQ_CFG_EVT (k : Nat) : FRef := ⟨R.RQ_CFG k, 29, 29⟩
/-- RQ_CFG.DISP, bits [28:28]. -/
def F.RQ_CFG_DISP (k : Nat) : FRef := ⟨R.RQ_CFG k, 28, 28⟩
/-- RQ_CFG.LEVEL, bits [27:25]. -/
def F.RQ_CFG_LEVEL (k : Nat) : FRef := ⟨R.RQ_CFG k, 27, 25⟩
/-- RQ_CFG.POOL, bits [23:20]. -/
def F.RQ_CFG_POOL (k : Nat) : FRef := ⟨R.RQ_CFG k, 23, 20⟩
/-- RQ_CFG.SIZE, bits [15:0]. -/
def F.RQ_CFG_SIZE (k : Nat) : FRef := ⟨R.RQ_CFG k, 15, 0⟩
/-- Address of RQ_PTR_A (Table 12-16). -/
def R.RQ_PTR_A (k : Nat) : Nat := 0x8000170108 + 0x20 * k
/-- RQ_PTR_A.READ, bits [31:16]. -/
def F.RQ_PTR_A_READ (k : Nat) : FRef := ⟨R.RQ_PTR_A k, 31, 16⟩
/-- RQ_PTR_A.COMMIT, bits [15:0]. -/
def F.RQ_PTR_A_COMMIT (k : Nat) : FRef := ⟨R.RQ_PTR_A k, 15, 0⟩
/-- Address of RQ_PTR_B (Table 12-17). -/
def R.RQ_PTR_B (k : Nat) : Nat := 0x800017010c + 0x20 * k
/-- RQ_PTR_B.MARK, bits [31:16]. -/
def F.RQ_PTR_B_MARK (k : Nat) : FRef := ⟨R.RQ_PTR_B k, 31, 16⟩
/-- RQ_PTR_B.RELEASE, bits [15:0]. -/
def F.RQ_PTR_B_RELEASE (k : Nat) : FRef := ⟨R.RQ_PTR_B k, 15, 0⟩
/-- Address of RQ_CMD (Table 12-18). -/
def R.RQ_CMD (k : Nat) : Nat := 0x8000170110 + 0x20 * k
/-- RQ_CMD.OP, bits [1:0]. -/
def F.RQ_CMD_OP (k : Nat) : FRef := ⟨R.RQ_CMD k, 1, 0⟩
/-- Address of RQ_POP_LO (Table 12-19). -/
def R.RQ_POP_LO (k : Nat) : Nat := 0x8000170114 + 0x20 * k
/-- RQ_POP_LO.ADDR_LO, bits [31:0]. -/
def F.RQ_POP_LO_ADDR_LO (k : Nat) : FRef := ⟨R.RQ_POP_LO k, 31, 0⟩
/-- Address of RQ_POP_HI (Table 12-20). -/
def R.RQ_POP_HI (k : Nat) : Nat := 0x8000170118 + 0x20 * k
/-- RQ_POP_HI.CALM, bits [31:31]. -/
def F.RQ_POP_HI_CALM (k : Nat) : FRef := ⟨R.RQ_POP_HI k, 31, 31⟩
/-- RQ_POP_HI.ADDR_HI, bits [7:0]. -/
def F.RQ_POP_HI_ADDR_HI (k : Nat) : FRef := ⟨R.RQ_POP_HI k, 7, 0⟩
/-- Address of RQ_POOL_BASE (Table 12-14). -/
def R.RQ_POOL_BASE (k : Nat) : Nat := 0x8000170900 + 0x10 * k
/-- RQ_POOL_BASE.ADDR, bits [31:0]. -/
def F.RQ_POOL_BASE_ADDR (k : Nat) : FRef := ⟨R.RQ_POOL_BASE k, 31, 0⟩
/-- Address of RQ_POOL_CFG (Table 12-21). -/
def R.RQ_POOL_CFG (k : Nat) : Nat := 0x8000170904 + 0x10 * k
/-- RQ_POOL_CFG.EN, bits [31:31]. -/
def F.RQ_POOL_CFG_EN (k : Nat) : FRef := ⟨R.RQ_POOL_CFG k, 31, 31⟩
/-- RQ_POOL_CFG.ACTIVE, bits [30:30]. -/
def F.RQ_POOL_CFG_ACTIVE (k : Nat) : FRef := ⟨R.RQ_POOL_CFG k, 30, 30⟩
/-- RQ_POOL_CFG.BSIZE, bits [29:27]. -/
def F.RQ_POOL_CFG_BSIZE (k : Nat) : FRef := ⟨R.RQ_POOL_CFG k, 29, 27⟩
/-- RQ_POOL_CFG.STASHED, bits [25:16]. -/
def F.RQ_POOL_CFG_STASHED (k : Nat) : FRef := ⟨R.RQ_POOL_CFG k, 25, 16⟩
/-- RQ_POOL_CFG.SIZE, bits [15:0]. -/
def F.RQ_POOL_CFG_SIZE (k : Nat) : FRef := ⟨R.RQ_POOL_CFG k, 15, 0⟩
/-- Address of RQ_POOL_PTR (Table 12-22). -/
def R.RQ_POOL_PTR (k : Nat) : Nat := 0x8000170908 + 0x10 * k
/-- RQ_POOL_PTR.SW, bits [31:16]. -/
def F.RQ_POOL_PTR_SW (k : Nat) : FRef := ⟨R.RQ_POOL_PTR k, 31, 16⟩
/-- RQ_POOL_PTR.HW, bits [15:0]. -/
def F.RQ_POOL_PTR_HW (k : Nat) : FRef := ⟨R.RQ_POOL_PTR k, 15, 0⟩
/-- Address of RQ_POOL_STASH (Table 12-23). -/
def R.RQ_POOL_STASH (k : Nat) : Nat := 0x800017090c + 0x10 * k
/-- RQ_POOL_STASH.ADDR, bits [31:0]. -/
def F.RQ_POOL_STASH_ADDR (k : Nat) : FRef := ⟨R.RQ_POOL_STASH k, 31, 0⟩
/-- Address of DMC_STAT (Table 12-25). -/
def R.DMC_STAT : Nat := 0x8000180000
/-- DMC_STAT.FULL1, bits [5:5]. -/
def F.DMC_STAT_FULL1 : FRef := ⟨R.DMC_STAT, 5, 5⟩
/-- DMC_STAT.FULL0, bits [4:4]. -/
def F.DMC_STAT_FULL0 : FRef := ⟨R.DMC_STAT, 4, 4⟩
/-- DMC_STAT.SWEEP1, bits [3:3]. -/
def F.DMC_STAT_SWEEP1 : FRef := ⟨R.DMC_STAT, 3, 3⟩
/-- DMC_STAT.SWEEP0, bits [2:2]. -/
def F.DMC_STAT_SWEEP0 : FRef := ⟨R.DMC_STAT, 2, 2⟩
/-- DMC_STAT.UE, bits [1:1]. -/
def F.DMC_STAT_UE : FRef := ⟨R.DMC_STAT, 1, 1⟩
/-- DMC_STAT.CE, bits [0:0]. -/
def F.DMC_STAT_CE : FRef := ⟨R.DMC_STAT, 0, 0⟩
/-- Address of DMC_COUNT (Table 12-26). -/
def R.DMC_COUNT : Nat := 0x8000180004
/-- DMC_COUNT.CE, bits [31:24]. -/
def F.DMC_COUNT_CE : FRef := ⟨R.DMC_COUNT, 31, 24⟩
/-- DMC_COUNT.UE, bits [23:16]. -/
def F.DMC_COUNT_UE : FRef := ⟨R.DMC_COUNT, 23, 16⟩
/-- DMC_COUNT.SENT_SWEEPS, bits [15:8]. -/
def F.DMC_COUNT_SENT_SWEEPS : FRef := ⟨R.DMC_COUNT, 15, 8⟩
/-- DMC_COUNT.FULL_SWEEPS, bits [7:0]. -/
def F.DMC_COUNT_FULL_SWEEPS : FRef := ⟨R.DMC_COUNT, 7, 0⟩
/-- Address of DMC_CFG (Table 12-27). -/
def R.DMC_CFG : Nat := 0x8000180010
/-- DMC_CFG.GRAIN, bits [7:4]. -/
def F.DMC_CFG_GRAIN : FRef := ⟨R.DMC_CFG, 7, 4⟩
/-- DMC_CFG.SENTINEL, bits [3:2]. -/
def F.DMC_CFG_SENTINEL : FRef := ⟨R.DMC_CFG, 3, 2⟩
/-- Address of DMC_TRAIN (Table 12-28). -/
def R.DMC_TRAIN : Nat := 0x8000180014
/-- DMC_TRAIN.SHIFT1, bits [31:24]. -/
def F.DMC_TRAIN_SHIFT1 : FRef := ⟨R.DMC_TRAIN, 31, 24⟩
/-- DMC_TRAIN.SHIFT0, bits [23:16]. -/
def F.DMC_TRAIN_SHIFT0 : FRef := ⟨R.DMC_TRAIN, 23, 16⟩
/-- Address of DMC_ERR_LO (Table 12-29). -/
def R.DMC_ERR_LO : Nat := 0x8000180018
/-- DMC_ERR_LO.ADDR, bits [31:0]. -/
def F.DMC_ERR_LO_ADDR : FRef := ⟨R.DMC_ERR_LO, 31, 0⟩
/-- Address of DMC_ERR_HI (Table 12-30). -/
def R.DMC_ERR_HI : Nat := 0x800018001c
/-- DMC_ERR_HI.VALID, bits [31:31]. -/
def F.DMC_ERR_HI_VALID : FRef := ⟨R.DMC_ERR_HI, 31, 31⟩
/-- DMC_ERR_HI.UE, bits [30:30]. -/
def F.DMC_ERR_HI_UE : FRef := ⟨R.DMC_ERR_HI, 30, 30⟩
/-- DMC_ERR_HI.ADDR, bits [0:0]. -/
def F.DMC_ERR_HI_ADDR : FRef := ⟨R.DMC_ERR_HI, 0, 0⟩
/-- Address of DMC_ECC (Table 12-31). -/
def R.DMC_ECC (k : Nat) : Nat := 0x8000180020 + 0x4 * k
/-- DMC_ECC.EN, bits [31:31]. -/
def F.DMC_ECC_EN (k : Nat) : FRef := ⟨R.DMC_ECC k, 31, 31⟩
/-- DMC_ECC.INIT, bits [30:30]. -/
def F.DMC_ECC_INIT (k : Nat) : FRef := ⟨R.DMC_ECC k, 30, 30⟩
/-- DMC_ECC.SIZE, bits [23:16]. -/
def F.DMC_ECC_SIZE (k : Nat) : FRef := ⟨R.DMC_ECC k, 23, 16⟩
/-- DMC_ECC.BASE, bits [6:0]. -/
def F.DMC_ECC_BASE (k : Nat) : FRef := ⟨R.DMC_ECC k, 6, 0⟩
/-- Address of DMC_FN_CTL (Table 02-19). -/
def R.DMC_FN_CTL (k : Nat) : Nat := 0x8000180080 + 0x4 * k
/-- DMC_FN_CTL.EN, bits [0:0]. -/
def F.DMC_FN_CTL_EN (k : Nat) : FRef := ⟨R.DMC_FN_CTL k, 0, 0⟩
/-- Address of DMC_FN_STAT (Table 02-20). -/
def R.DMC_FN_STAT (k : Nat) : Nat := 0x80001800c0 + 0x4 * k
/-- DMC_FN_STAT.LAST_STATUS, bits [31:24]. -/
def F.DMC_FN_STAT_LAST_STATUS (k : Nat) : FRef := ⟨R.DMC_FN_STAT k, 31, 24⟩
/-- DMC_FN_STAT.RESTART_PENDING, bits [4:4]. -/
def F.DMC_FN_STAT_RESTART_PENDING (k : Nat) : FRef := ⟨R.DMC_FN_STAT k, 4, 4⟩
/-- DMC_FN_STAT.STATE, bits [2:0]. -/
def F.DMC_FN_STAT_STATE (k : Nat) : FRef := ⟨R.DMC_FN_STAT k, 2, 0⟩
/-- Address of WD_STAT (Table 13-6). -/
def R.WD_STAT : Nat := 0x8000190000
/-- WD_STAT.WAITING, bits [29:16]. -/
def F.WD_STAT_WAITING : FRef := ⟨R.WD_STAT, 29, 16⟩
/-- WD_STAT.RUNNING, bits [15:0]. -/
def F.WD_STAT_RUNNING : FRef := ⟨R.WD_STAT, 15, 0⟩
/-- Address of WD_COUNT (Table 13-7). -/
def R.WD_COUNT : Nat := 0x8000190004
/-- WD_COUNT.FULL, bits [31:24]. -/
def F.WD_COUNT_FULL : FRef := ⟨R.WD_COUNT, 31, 24⟩
/-- WD_COUNT.FAULTS, bits [23:16]. -/
def F.WD_COUNT_FAULTS : FRef := ⟨R.WD_COUNT, 23, 16⟩
/-- WD_COUNT.TRACE_DROP, bits [15:8]. -/
def F.WD_COUNT_TRACE_DROP : FRef := ⟨R.WD_COUNT, 15, 8⟩
/-- WD_COUNT.LEAK, bits [7:0]. -/
def F.WD_COUNT_LEAK : FRef := ⟨R.WD_COUNT, 7, 0⟩
/-- Address of WD_CFG (Table 13-8). -/
def R.WD_CFG : Nat := 0x8000190008
/-- WD_CFG.TRACE_EN, bits [31:31]. -/
def F.WD_CFG_TRACE_EN : FRef := ⟨R.WD_CFG, 31, 31⟩
/-- WD_CFG.IDLE_WAIT, bits [15:0]. -/
def F.WD_CFG_IDLE_WAIT : FRef := ⟨R.WD_CFG, 15, 0⟩
/-- Address of WD_ENTRY_LO (Table 13-9). -/
def R.WD_ENTRY_LO : Nat := 0x8000190010
/-- WD_ENTRY_LO.ADDR, bits [31:2]. -/
def F.WD_ENTRY_LO_ADDR : FRef := ⟨R.WD_ENTRY_LO, 31, 2⟩
/-- Address of WD_ENTRY_HI (Table 13-10). -/
def R.WD_ENTRY_HI : Nat := 0x8000190014
/-- WD_ENTRY_HI.ADDR, bits [7:0]. -/
def F.WD_ENTRY_HI_ADDR : FRef := ⟨R.WD_ENTRY_HI, 7, 0⟩
/-- Address of WD_QITEM (Table 13-11). -/
def R.WD_QITEM : Nat := 0x8000190018
/-- WD_QITEM.ADDR, bits [27:0]. -/
def F.WD_QITEM_ADDR : FRef := ⟨R.WD_QITEM, 27, 0⟩
/-- Address of WD_TRACE_BASE_LO (Table 11-5). -/
def R.WD_TRACE_BASE_LO : Nat := 0x8000190040
/-- WD_TRACE_BASE_LO.ADDR, bits [31:6]. -/
def F.WD_TRACE_BASE_LO_ADDR : FRef := ⟨R.WD_TRACE_BASE_LO, 31, 6⟩
/-- Address of WD_TRACE_BASE_HI (Table 11-6). -/
def R.WD_TRACE_BASE_HI : Nat := 0x8000190044
/-- WD_TRACE_BASE_HI.ADDR, bits [31:0]. -/
def F.WD_TRACE_BASE_HI_ADDR : FRef := ⟨R.WD_TRACE_BASE_HI, 31, 0⟩
/-- Address of WD_TRACE_SIZE (Table 11-7). -/
def R.WD_TRACE_SIZE : Nat := 0x8000190048
/-- WD_TRACE_SIZE.SIZE, bits [15:0]. -/
def F.WD_TRACE_SIZE_SIZE : FRef := ⟨R.WD_TRACE_SIZE, 15, 0⟩
/-- Address of WD_TRACE_PTR (Table 11-8). -/
def R.WD_TRACE_PTR : Nat := 0x800019004c
/-- WD_TRACE_PTR.SW, bits [31:16]. -/
def F.WD_TRACE_PTR_SW : FRef := ⟨R.WD_TRACE_PTR, 31, 16⟩
/-- WD_TRACE_PTR.HW, bits [15:0]. -/
def F.WD_TRACE_PTR_HW : FRef := ⟨R.WD_TRACE_PTR, 15, 0⟩
/-- Address of WD_CORE_CFG (Table 13-12). -/
def R.WD_CORE_CFG (k : Nat) : Nat := 0x8000190100 + 0x4 * k
/-- WD_CORE_CFG.EN, bits [8:8]. -/
def F.WD_CORE_CFG_EN (k : Nat) : FRef := ⟨R.WD_CORE_CFG k, 8, 8⟩
/-- WD_CORE_CFG.LEVELS, bits [7:0]. -/
def F.WD_CORE_CFG_LEVELS (k : Nat) : FRef := ⟨R.WD_CORE_CFG k, 7, 0⟩
/-- Address of LCK_COUNT (Table 13-14). -/
def R.LCK_COUNT : Nat := 0x80001a0000
/-- LCK_COUNT.ORDER, bits [31:24]. -/
def F.LCK_COUNT_ORDER : FRef := ⟨R.LCK_COUNT, 31, 24⟩
/-- LCK_COUNT.TAKE_BUSY, bits [23:16]. -/
def F.LCK_COUNT_TAKE_BUSY : FRef := ⟨R.LCK_COUNT, 23, 16⟩
/-- LCK_COUNT.GIVE_FAULT, bits [15:8]. -/
def F.LCK_COUNT_GIVE_FAULT : FRef := ⟨R.LCK_COUNT, 15, 8⟩
/-- LCK_COUNT.FORCED, bits [7:0]. -/
def F.LCK_COUNT_FORCED : FRef := ⟨R.LCK_COUNT, 7, 0⟩
/-- Address of LCK_FORCE (Table 13-15). -/
def R.LCK_FORCE : Nat := 0x80001a0004
/-- LCK_FORCE.ALL, bits [13:13]. -/
def F.LCK_FORCE_ALL : FRef := ⟨R.LCK_FORCE, 13, 13⟩
/-- LCK_FORCE.CORE, bits [12:8]. -/
def F.LCK_FORCE_CORE : FRef := ⟨R.LCK_FORCE, 12, 8⟩
/-- LCK_FORCE.TOKEN, bits [7:0]. -/
def F.LCK_FORCE_TOKEN : FRef := ⟨R.LCK_FORCE, 7, 0⟩
/-- Address of LCK_HOLDER (Table 13-16). -/
def R.LCK_HOLDER (k : Nat) : Nat := 0x80001a0100 + 0x4 * k
/-- LCK_HOLDER.HELD, bits [31:31]. -/
def F.LCK_HOLDER_HELD (k : Nat) : FRef := ⟨R.LCK_HOLDER k, 31, 31⟩
/-- LCK_HOLDER.CORE, bits [4:0]. -/
def F.LCK_HOLDER_CORE (k : Nat) : FRef := ⟨R.LCK_HOLDER k, 4, 0⟩
/-- Address of ARB_STAT (Table 13-18). -/
def R.ARB_STAT : Nat := 0x80001b0000
/-- ARB_STAT.HELD2, bits [23:23]. -/
def F.ARB_STAT_HELD2 : FRef := ⟨R.ARB_STAT, 23, 23⟩
/-- ARB_STAT.HOLDER2, bits [20:16]. -/
def F.ARB_STAT_HOLDER2 : FRef := ⟨R.ARB_STAT, 20, 16⟩
/-- ARB_STAT.HELD1, bits [15:15]. -/
def F.ARB_STAT_HELD1 : FRef := ⟨R.ARB_STAT, 15, 15⟩
/-- ARB_STAT.HOLDER1, bits [12:8]. -/
def F.ARB_STAT_HOLDER1 : FRef := ⟨R.ARB_STAT, 12, 8⟩
/-- ARB_STAT.HELD0, bits [7:7]. -/
def F.ARB_STAT_HELD0 : FRef := ⟨R.ARB_STAT, 7, 7⟩
/-- ARB_STAT.HOLDER0, bits [4:0]. -/
def F.ARB_STAT_HOLDER0 : FRef := ⟨R.ARB_STAT, 4, 0⟩
/-- Address of ARB_COUNT (Table 13-19). -/
def R.ARB_COUNT : Nat := 0x80001b0004
/-- ARB_COUNT.CUT_OFF, bits [31:24]. -/
def F.ARB_COUNT_CUT_OFF : FRef := ⟨R.ARB_COUNT, 31, 24⟩
/-- ARB_COUNT.RETURNS, bits [23:16]. -/
def F.ARB_COUNT_RETURNS : FRef := ⟨R.ARB_COUNT, 23, 16⟩
/-- ARB_COUNT.BUSY, bits [15:8]. -/
def F.ARB_COUNT_BUSY : FRef := ⟨R.ARB_COUNT, 15, 8⟩
/-- Address of ARB_CFG (Table 13-20). -/
def R.ARB_CFG : Nat := 0x80001b0008
/-- ARB_CFG.BREAK, bits [31:31]. -/
def F.ARB_CFG_BREAK : FRef := ⟨R.ARB_CFG, 31, 31⟩
/-- ARB_CFG.HOLD, bits [15:0]. -/
def F.ARB_CFG_HOLD : FRef := ⟨R.ARB_CFG, 15, 0⟩
/-- Address of ARB_REQ (Table 13-21). -/
def R.ARB_REQ (k : Nat) : Nat := 0x80001b0100 + 0x4 * k
/-- ARB_REQ.CPL_EV, bits [31:24]. -/
def F.ARB_REQ_CPL_EV (k : Nat) : FRef := ⟨R.ARB_REQ k, 31, 24⟩
/-- ARB_REQ.CUTOFF, bits [20:20]. -/
def F.ARB_REQ_CUTOFF (k : Nat) : FRef := ⟨R.ARB_REQ k, 20, 20⟩
/-- ARB_REQ.HOLDING, bits [19:19]. -/
def F.ARB_REQ_HOLDING (k : Nat) : FRef := ⟨R.ARB_REQ k, 19, 19⟩
/-- ARB_REQ.OUTSTANDING, bits [18:16]. -/
def F.ARB_REQ_OUTSTANDING (k : Nat) : FRef := ⟨R.ARB_REQ k, 18, 16⟩
/-- ARB_REQ.ISSUED, bits [15:8]. -/
def F.ARB_REQ_ISSUED (k : Nat) : FRef := ⟨R.ARB_REQ k, 15, 8⟩
/-- ARB_REQ.COMPLETED, bits [7:0]. -/
def F.ARB_REQ_COMPLETED (k : Nat) : FRef := ⟨R.ARB_REQ k, 7, 0⟩
/-- Address of CPH_STAT (Table 14-12). -/
def R.CPH_STAT : Nat := 0x80001c0000
/-- CPH_STAT.PIPES, bits [7:4]. -/
def F.CPH_STAT_PIPES : FRef := ⟨R.CPH_STAT, 7, 4⟩
/-- CPH_STAT.EXHAUSTED, bits [2:2]. -/
def F.CPH_STAT_EXHAUSTED : FRef := ⟨R.CPH_STAT, 2, 2⟩
/-- CPH_STAT.UNWRAP_FAIL, bits [1:1]. -/
def F.CPH_STAT_UNWRAP_FAIL : FRef := ⟨R.CPH_STAT, 1, 1⟩
/-- CPH_STAT.ARMED, bits [0:0]. -/
def F.CPH_STAT_ARMED : FRef := ⟨R.CPH_STAT, 0, 0⟩
/-- Address of CPH_COUNT (Table 14-13). -/
def R.CPH_COUNT : Nat := 0x80001c0004
/-- CPH_COUNT.AUTH_FAIL, bits [31:24]. -/
def F.CPH_COUNT_AUTH_FAIL : FRef := ⟨R.CPH_COUNT, 31, 24⟩
/-- CPH_COUNT.UNWRAP_FAIL, bits [23:16]. -/
def F.CPH_COUNT_UNWRAP_FAIL : FRef := ⟨R.CPH_COUNT, 23, 16⟩
/-- CPH_COUNT.EXHAUSTED, bits [15:8]. -/
def F.CPH_COUNT_EXHAUSTED : FRef := ⟨R.CPH_COUNT, 15, 8⟩
/-- CPH_COUNT.RESV_WAIT, bits [7:0]. -/
def F.CPH_COUNT_RESV_WAIT : FRef := ⟨R.CPH_COUNT, 7, 0⟩
/-- Address of CPH_WRAP_BASE_LO (Table 14-14). -/
def R.CPH_WRAP_BASE_LO : Nat := 0x80001c0010
/-- CPH_WRAP_BASE_LO.ADDR, bits [31:6]. -/
def F.CPH_WRAP_BASE_LO_ADDR : FRef := ⟨R.CPH_WRAP_BASE_LO, 31, 6⟩
/-- Address of CPH_WRAP_BASE_HI (Table 14-15). -/
def R.CPH_WRAP_BASE_HI : Nat := 0x80001c0014
/-- CPH_WRAP_BASE_HI.ADDR, bits [7:0]. -/
def F.CPH_WRAP_BASE_HI_ADDR : FRef := ⟨R.CPH_WRAP_BASE_HI, 7, 0⟩
/-- Address of CPH_WRAP_COUNT (Table 14-16). -/
def R.CPH_WRAP_COUNT : Nat := 0x80001c0018
/-- CPH_WRAP_COUNT.COUNT, bits [18:0]. -/
def F.CPH_WRAP_COUNT_COUNT : FRef := ⟨R.CPH_WRAP_COUNT, 18, 0⟩
/-- Address of CPH_INVAL (Table 14-17). -/
def R.CPH_INVAL : Nat := 0x80001c0020
/-- CPH_INVAL.ALL, bits [31:31]. -/
def F.CPH_INVAL_ALL : FRef := ⟨R.CPH_INVAL, 31, 31⟩
/-- CPH_INVAL.WIDX, bits [17:0]. -/
def F.CPH_INVAL_WIDX : FRef := ⟨R.CPH_INVAL, 17, 0⟩
/-- Address of CPH_FN_CTL (Table 02-19). -/
def R.CPH_FN_CTL (k : Nat) : Nat := 0x80001c0080 + 0x4 * k
/-- CPH_FN_CTL.EN, bits [0:0]. -/
def F.CPH_FN_CTL_EN (k : Nat) : FRef := ⟨R.CPH_FN_CTL k, 0, 0⟩
/-- Address of CPH_FN_STAT (Table 02-20). -/
def R.CPH_FN_STAT (k : Nat) : Nat := 0x80001c00c0 + 0x4 * k
/-- CPH_FN_STAT.LAST_STATUS, bits [31:24]. -/
def F.CPH_FN_STAT_LAST_STATUS (k : Nat) : FRef := ⟨R.CPH_FN_STAT k, 31, 24⟩
/-- CPH_FN_STAT.RESTART_PENDING, bits [4:4]. -/
def F.CPH_FN_STAT_RESTART_PENDING (k : Nat) : FRef := ⟨R.CPH_FN_STAT k, 4, 4⟩
/-- CPH_FN_STAT.STATE, bits [2:0]. -/
def F.CPH_FN_STAT_STATE (k : Nat) : FRef := ⟨R.CPH_FN_STAT k, 2, 0⟩
/-- Address of KST_STAT (Table 14-19). -/
def R.KST_STAT : Nat := 0x80001d0000
/-- KST_STAT.LOADED, bits [28:16]. -/
def F.KST_STAT_LOADED : FRef := ⟨R.KST_STAT, 28, 16⟩
/-- KST_STAT.BUSY, bits [2:2]. -/
def F.KST_STAT_BUSY : FRef := ⟨R.KST_STAT, 2, 2⟩
/-- KST_STAT.CLEARING, bits [1:1]. -/
def F.KST_STAT_CLEARING : FRef := ⟨R.KST_STAT, 1, 1⟩
/-- KST_STAT.ARMED, bits [0:0]. -/
def F.KST_STAT_ARMED : FRef := ⟨R.KST_STAT, 0, 0⟩
/-- Address of KST_ALARM (Table 14-20). -/
def R.KST_ALARM : Nat := 0x80001d0004
/-- KST_ALARM.ACTIVE, bits [22:16]. -/
def F.KST_ALARM_ACTIVE : FRef := ⟨R.KST_ALARM, 22, 16⟩
/-- KST_ALARM.LATCHED, bits [14:8]. -/
def F.KST_ALARM_LATCHED : FRef := ⟨R.KST_ALARM, 14, 8⟩
/-- KST_ALARM.EN, bits [6:0]. -/
def F.KST_ALARM_EN : FRef := ⟨R.KST_ALARM, 6, 0⟩
/-- Address of KST_CMD (Table 14-21). -/
def R.KST_CMD : Nat := 0x80001d0010
/-- KST_CMD.STATUS, bits [31:24]. -/
def F.KST_CMD_STATUS : FRef := ⟨R.KST_CMD, 31, 24⟩
/-- KST_CMD.LONG, bits [5:5]. -/
def F.KST_CMD_LONG : FRef := ⟨R.KST_CMD, 5, 5⟩
/-- KST_CMD.OP, bits [3:0]. -/
def F.KST_CMD_OP : FRef := ⟨R.KST_CMD, 3, 0⟩
/-- Address of KST_SLOT (Table 14-22). -/
def R.KST_SLOT : Nat := 0x80001d0014
/-- KST_SLOT.SLOT, bits [11:0]. -/
def F.KST_SLOT_SLOT : FRef := ⟨R.KST_SLOT, 11, 0⟩
/-- Address of KST_DATA (Table 14-23). -/
def R.KST_DATA (k : Nat) : Nat := 0x80001d0040 + 0x4 * k
/-- KST_DATA.DATA, bits [31:0]. -/
def F.KST_DATA_DATA (k : Nat) : FRef := ⟨R.KST_DATA k, 31, 0⟩
/-- Address of LDG_STAT (Table 15-16). -/
def R.LDG_STAT : Nat := 0x80001e0000
/-- LDG_STAT.NAND_FULL, bits [7:7]. -/
def F.LDG_STAT_NAND_FULL : FRef := ⟨R.LDG_STAT, 7, 7⟩
/-- LDG_STAT.LOW_SPARE, bits [6:6]. -/
def F.LDG_STAT_LOW_SPARE : FRef := ⟨R.LDG_STAT, 6, 6⟩
/-- LDG_STAT.FROZEN, bits [5:5]. -/
def F.LDG_STAT_FROZEN : FRef := ⟨R.LDG_STAT, 5, 5⟩
/-- LDG_STAT.RESTORED, bits [4:4]. -/
def F.LDG_STAT_RESTORED : FRef := ⟨R.LDG_STAT, 4, 4⟩
/-- LDG_STAT.SCRUBBING, bits [3:3]. -/
def F.LDG_STAT_SCRUBBING : FRef := ⟨R.LDG_STAT, 3, 3⟩
/-- LDG_STAT.HIGH, bits [2:2]. -/
def F.LDG_STAT_HIGH : FRef := ⟨R.LDG_STAT, 2, 2⟩
/-- LDG_STAT.FLUSHING, bits [1:1]. -/
def F.LDG_STAT_FLUSHING : FRef := ⟨R.LDG_STAT, 1, 1⟩
/-- LDG_STAT.MOUNTED, bits [0:0]. -/
def F.LDG_STAT_MOUNTED : FRef := ⟨R.LDG_STAT, 0, 0⟩
/-- Address of LDG_COUNT0 (Table 15-17). -/
def R.LDG_COUNT0 : Nat := 0x80001e0004
/-- LDG_COUNT0.JFULL, bits [31:24]. -/
def F.LDG_COUNT0_JFULL : FRef := ⟨R.LDG_COUNT0, 31, 24⟩
/-- LDG_COUNT0.MRAM_CE, bits [23:16]. -/
def F.LDG_COUNT0_MRAM_CE : FRef := ⟨R.LDG_COUNT0, 23, 16⟩
/-- LDG_COUNT0.MRAM_UE, bits [15:8]. -/
def F.LDG_COUNT0_MRAM_UE : FRef := ⟨R.LDG_COUNT0, 15, 8⟩
/-- LDG_COUNT0.RESTORES, bits [7:0]. -/
def F.LDG_COUNT0_RESTORES : FRef := ⟨R.LDG_COUNT0, 7, 0⟩
/-- Address of LDG_COUNT1 (Table 15-18). -/
def R.LDG_COUNT1 : Nat := 0x80001e0008
/-- LDG_COUNT1.RELOCATED, bits [31:24]. -/
def F.LDG_COUNT1_RELOCATED : FRef := ⟨R.LDG_COUNT1, 31, 24⟩
/-- LDG_COUNT1.RETIRED, bits [23:16]. -/
def F.LDG_COUNT1_RETIRED : FRef := ⟨R.LDG_COUNT1, 23, 16⟩
/-- LDG_COUNT1.CKPT_WAITS, bits [15:8]. -/
def F.LDG_COUNT1_CKPT_WAITS : FRef := ⟨R.LDG_COUNT1, 15, 8⟩
/-- LDG_COUNT1.NAND_UE, bits [7:0]. -/
def F.LDG_COUNT1_NAND_UE : FRef := ⟨R.LDG_COUNT1, 7, 0⟩
/-- Address of LDG_CFG (Table 15-19). -/
def R.LDG_CFG : Nat := 0x80001e0010
/-- LDG_CFG.NAND_DAYS, bits [23:16]. -/
def F.LDG_CFG_NAND_DAYS : FRef := ⟨R.LDG_CFG, 23, 16⟩
/-- LDG_CFG.MRAM_HOURS, bits [15:8]. -/
def F.LDG_CFG_MRAM_HOURS : FRef := ⟨R.LDG_CFG, 15, 8⟩
/-- LDG_CFG.HIGH, bits [7:0]. -/
def F.LDG_CFG_HIGH : FRef := ⟨R.LDG_CFG, 7, 0⟩
/-- Address of LDG_JFILL (Table 15-20). -/
def R.LDG_JFILL : Nat := 0x80001e0014
/-- LDG_JFILL.UNITS, bits [17:0]. -/
def F.LDG_JFILL_UNITS : FRef := ⟨R.LDG_JFILL, 17, 0⟩
/-- Address of LDG_JSEQ_LO (Table 15-21). -/
def R.LDG_JSEQ_LO : Nat := 0x80001e0018
/-- LDG_JSEQ_LO.JSEQ_LO, bits [31:0]. -/
def F.LDG_JSEQ_LO_JSEQ_LO : FRef := ⟨R.LDG_JSEQ_LO, 31, 0⟩
/-- Address of LDG_JSEQ_HI (Table 15-22). -/
def R.LDG_JSEQ_HI : Nat := 0x80001e001c
/-- LDG_JSEQ_HI.JSEQ_HI, bits [31:0]. -/
def F.LDG_JSEQ_HI_JSEQ_HI : FRef := ⟨R.LDG_JSEQ_HI, 31, 0⟩
/-- Address of LDG_WEAR (Table 15-23). -/
def R.LDG_WEAR : Nat := 0x80001e0020
/-- LDG_WEAR.MAX_ERASE, bits [31:16]. -/
def F.LDG_WEAR_MAX_ERASE : FRef := ⟨R.LDG_WEAR, 31, 16⟩
/-- LDG_WEAR.MIN_ERASE, bits [15:0]. -/
def F.LDG_WEAR_MIN_ERASE : FRef := ⟨R.LDG_WEAR, 15, 0⟩
/-- Address of LDG_BLOCKS (Table 15-24). -/
def R.LDG_BLOCKS : Nat := 0x80001e0024
/-- LDG_BLOCKS.GOOD, bits [31:16]. -/
def F.LDG_BLOCKS_GOOD : FRef := ⟨R.LDG_BLOCKS, 31, 16⟩
/-- LDG_BLOCKS.FREE, bits [15:0]. -/
def F.LDG_BLOCKS_FREE : FRef := ⟨R.LDG_BLOCKS, 15, 0⟩
/-- Address of LDG_LIFE (Table 15-25). -/
def R.LDG_LIFE : Nat := 0x80001e0028
/-- LDG_LIFE.FLUSHES, bits [31:16]. -/
def F.LDG_LIFE_FLUSHES : FRef := ⟨R.LDG_LIFE, 31, 16⟩
/-- LDG_LIFE.MOUNTS, bits [15:0]. -/
def F.LDG_LIFE_MOUNTS : FRef := ⟨R.LDG_LIFE, 15, 0⟩
/-- Address of LDG_AUDNEXT (Table 15-26). -/
def R.LDG_AUDNEXT : Nat := 0x80001e002c
/-- LDG_AUDNEXT.NEXT, bits [31:0]. -/
def F.LDG_AUDNEXT_NEXT : FRef := ⟨R.LDG_AUDNEXT, 31, 0⟩
/-- Address of LDG_ERR (Table 15-27). -/
def R.LDG_ERR : Nat := 0x80001e0030
/-- LDG_ERR.VALID, bits [31:31]. -/
def F.LDG_ERR_VALID : FRef := ⟨R.LDG_ERR, 31, 31⟩
/-- LDG_ERR.AREA, bits [30:27]. -/
def F.LDG_ERR_AREA : FRef := ⟨R.LDG_ERR, 30, 27⟩
/-- LDG_ERR.NAND, bits [26:26]. -/
def F.LDG_ERR_NAND : FRef := ⟨R.LDG_ERR, 26, 26⟩
/-- LDG_ERR.OFFSET, bits [25:0]. -/
def F.LDG_ERR_OFFSET : FRef := ⟨R.LDG_ERR, 25, 0⟩
/-- Address of LDG_FN_CTL (Table 02-19). -/
def R.LDG_FN_CTL (k : Nat) : Nat := 0x80001e0080 + 0x4 * k
/-- LDG_FN_CTL.EN, bits [0:0]. -/
def F.LDG_FN_CTL_EN (k : Nat) : FRef := ⟨R.LDG_FN_CTL k, 0, 0⟩
/-- Address of LDG_FN_STAT (Table 02-20). -/
def R.LDG_FN_STAT (k : Nat) : Nat := 0x80001e00c0 + 0x4 * k
/-- LDG_FN_STAT.LAST_STATUS, bits [31:24]. -/
def F.LDG_FN_STAT_LAST_STATUS (k : Nat) : FRef := ⟨R.LDG_FN_STAT k, 31, 24⟩
/-- LDG_FN_STAT.RESTART_PENDING, bits [4:4]. -/
def F.LDG_FN_STAT_RESTART_PENDING (k : Nat) : FRef := ⟨R.LDG_FN_STAT k, 4, 4⟩
/-- LDG_FN_STAT.STATE, bits [2:0]. -/
def F.LDG_FN_STAT_STATE (k : Nat) : FRef := ⟨R.LDG_FN_STAT k, 2, 0⟩
/-- Address of PWR_STAT (Table 16-10). -/
def R.PWR_STAT : Nat := 0x80001f0000
/-- PWR_STAT.LAST_STATUS, bits [31:24]. -/
def F.PWR_STAT_LAST_STATUS : FRef := ⟨R.PWR_STAT, 31, 24⟩
/-- PWR_STAT.SAFE, bits [20:20]. -/
def F.PWR_STAT_SAFE : FRef := ⟨R.PWR_STAT, 20, 20⟩
/-- PWR_STAT.DETACH, bits [19:19]. -/
def F.PWR_STAT_DETACH : FRef := ⟨R.PWR_STAT, 19, 19⟩
/-- PWR_STAT.RIDING, bits [18:18]. -/
def F.PWR_STAT_RIDING : FRef := ⟨R.PWR_STAT, 18, 18⟩
/-- PWR_STAT.BANK_OK, bits [17:17]. -/
def F.PWR_STAT_BANK_OK : FRef := ⟨R.PWR_STAT, 17, 17⟩
/-- PWR_STAT.ENABLE, bits [16:16]. -/
def F.PWR_STAT_ENABLE : FRef := ⟨R.PWR_STAT, 16, 16⟩
/-- PWR_STAT.TARGET, bits [10:8]. -/
def F.PWR_STAT_TARGET : FRef := ⟨R.PWR_STAT, 10, 8⟩
/-- PWR_STAT.CHANGING, bits [7:7]. -/
def F.PWR_STAT_CHANGING : FRef := ⟨R.PWR_STAT, 7, 7⟩
/-- PWR_STAT.PENDING, bits [6:6]. -/
def F.PWR_STAT_PENDING : FRef := ⟨R.PWR_STAT, 6, 6⟩
/-- PWR_STAT.STATE, bits [2:0]. -/
def F.PWR_STAT_STATE : FRef := ⟨R.PWR_STAT, 2, 0⟩
/-- Address of PWR_REQ (Table 16-11). -/
def R.PWR_REQ : Nat := 0x80001f0004
/-- PWR_REQ.OP, bits [5:4]. -/
def F.PWR_REQ_OP : FRef := ⟨R.PWR_REQ, 5, 4⟩
/-- PWR_REQ.TARGET, bits [2:0]. -/
def F.PWR_REQ_TARGET : FRef := ⟨R.PWR_REQ, 2, 0⟩
/-- Address of PWR_AT_NS (Table 10-15). -/
def R.PWR_AT_NS : Nat := 0x80001f0008
/-- PWR_AT_NS.NS, bits [29:0]. -/
def F.PWR_AT_NS_NS : FRef := ⟨R.PWR_AT_NS, 29, 0⟩
/-- Address of PWR_AT_SEC (Table 10-16). -/
def R.PWR_AT_SEC : Nat := 0x80001f000c
/-- PWR_AT_SEC.SEC, bits [31:0]. -/
def F.PWR_AT_SEC_SEC : FRef := ⟨R.PWR_AT_SEC, 31, 0⟩
/-- Address of PWR_REFUSE (Table 16-12). -/
def R.PWR_REFUSE : Nat := 0x80001f0010
/-- PWR_REFUSE.REFUSED, bits [31:24]. -/
def F.PWR_REFUSE_REFUSED : FRef := ⟨R.PWR_REFUSE, 31, 24⟩
/-- PWR_REFUSE.ABORTED, bits [23:16]. -/
def F.PWR_REFUSE_ABORTED : FRef := ⟨R.PWR_REFUSE, 23, 16⟩
/-- PWR_REFUSE.ABORT, bits [15:15]. -/
def F.PWR_REFUSE_ABORT : FRef := ⟨R.PWR_REFUSE, 15, 15⟩
/-- PWR_REFUSE.INSTANCE, bits [14:12]. -/
def F.PWR_REFUSE_INSTANCE : FRef := ⟨R.PWR_REFUSE, 14, 12⟩
/-- PWR_REFUSE.ENTRY, bits [11:6]. -/
def F.PWR_REFUSE_ENTRY : FRef := ⟨R.PWR_REFUSE, 11, 6⟩
/-- Address of PWR_CFG (Table 16-13). -/
def R.PWR_CFG : Nat := 0x80001f0014
/-- PWR_CFG.DRAIN, bits [31:24]. -/
def F.PWR_CFG_DRAIN : FRef := ⟨R.PWR_CFG, 31, 24⟩
/-- PWR_CFG.DETACH_WAIT, bits [23:16]. -/
def F.PWR_CFG_DETACH_WAIT : FRef := ⟨R.PWR_CFG, 23, 16⟩
/-- PWR_CFG.RIDE, bits [15:8]. -/
def F.PWR_CFG_RIDE : FRef := ⟨R.PWR_CFG, 15, 8⟩
/-- PWR_CFG.LINGER, bits [7:0]. -/
def F.PWR_CFG_LINGER : FRef := ⟨R.PWR_CFG, 7, 0⟩
/-- Address of PWR_WAKE (Table 16-14). -/
def R.PWR_WAKE : Nat := 0x80001f0018
/-- PWR_WAKE.VALID, bits [31:31]. -/
def F.PWR_WAKE_VALID : FRef := ⟨R.PWR_WAKE, 31, 31⟩
/-- PWR_WAKE.CAUSE, bits [30:28]. -/
def F.PWR_WAKE_CAUSE : FRef := ⟨R.PWR_WAKE, 30, 28⟩
/-- PWR_WAKE.WAKE_TO, bits [10:8]. -/
def F.PWR_WAKE_WAKE_TO : FRef := ⟨R.PWR_WAKE, 10, 8⟩
/-- PWR_WAKE.EN, bits [5:0]. -/
def F.PWR_WAKE_EN : FRef := ⟨R.PWR_WAKE, 5, 0⟩
/-- Address of PWR_TIMER (Table 16-15). -/
def R.PWR_TIMER : Nat := 0x80001f001c
/-- PWR_TIMER.SEC, bits [31:0]. -/
def F.PWR_TIMER_SEC : FRef := ⟨R.PWR_TIMER, 31, 0⟩
/-- Address of PWR_DVFS (Table 16-16). -/
def R.PWR_DVFS : Nat := 0x80001f0020
/-- PWR_DVFS.CUR, bits [23:22]. -/
def F.PWR_DVFS_CUR : FRef := ⟨R.PWR_DVFS, 23, 22⟩
/-- PWR_DVFS.CAP, bits [21:20]. -/
def F.PWR_DVFS_CAP : FRef := ⟨R.PWR_DVFS, 21, 20⟩
/-- PWR_DVFS.OPP, bits [1:0]. -/
def F.PWR_DVFS_OPP : FRef := ⟨R.PWR_DVFS, 1, 0⟩
/-- Address of PWR_DETACH (Table 16-17). -/
def R.PWR_DETACH : Nat := 0x80001f0024
/-- PWR_DETACH.GO, bits [0:0]. -/
def F.PWR_DETACH_GO : FRef := ⟨R.PWR_DETACH, 0, 0⟩
/-- Address of PWR_DOMAINS (Table 16-18). -/
def R.PWR_DOMAINS : Nat := 0x80001f0028
/-- PWR_DOMAINS.ON, bits [16:0]. -/
def F.PWR_DOMAINS_ON : FRef := ⟨R.PWR_DOMAINS, 16, 0⟩
/-- Address of PWR_SLEEP (Table 16-18). -/
def R.PWR_SLEEP : Nat := 0x80001f002c
/-- PWR_SLEEP.PERMIT, bits [16:0]. -/
def F.PWR_SLEEP_PERMIT : FRef := ⟨R.PWR_SLEEP, 16, 0⟩
/-- Address of SUP_STAT (Table 16-20). -/
def R.SUP_STAT : Nat := 0x8000200000
/-- SUP_STAT.TIMEOUTS, bits [31:24]. -/
def F.SUP_STAT_TIMEOUTS : FRef := ⟨R.SUP_STAT, 31, 24⟩
/-- SUP_STAT.NACKS, bits [23:16]. -/
def F.SUP_STAT_NACKS : FRef := ⟨R.SUP_STAT, 23, 16⟩
/-- SUP_STAT.BUSY, bits [4:4]. -/
def F.SUP_STAT_BUSY : FRef := ⟨R.SUP_STAT, 4, 4⟩
/-- SUP_STAT.QUEUE, bits [3:0]. -/
def F.SUP_STAT_QUEUE : FRef := ⟨R.SUP_STAT, 3, 0⟩
/-- Address of SUP_CFG (Table 16-21). -/
def R.SUP_CFG : Nat := 0x8000200004
/-- SUP_CFG.SPEED, bits [1:0]. -/
def F.SUP_CFG_SPEED : FRef := ⟨R.SUP_CFG, 1, 0⟩
/-- Address of SUP_DEV (Table 16-22). -/
def R.SUP_DEV (k : Nat) : Nat := 0x8000200010 + 0x4 * k
/-- SUP_DEV.EN, bits [31:31]. -/
def F.SUP_DEV_EN (k : Nat) : FRef := ⟨R.SUP_DEV k, 31, 31⟩
/-- SUP_DEV.VMODE, bits [15:8]. -/
def F.SUP_DEV_VMODE (k : Nat) : FRef := ⟨R.SUP_DEV k, 15, 8⟩
/-- SUP_DEV.ADDR, bits [6:0]. -/
def F.SUP_DEV_ADDR (k : Nat) : FRef := ⟨R.SUP_DEV k, 6, 0⟩
/-- Address of SUP_ACK (Table 16-23). -/
def R.SUP_ACK (k : Nat) : Nat := 0x8000200030 + 0x4 * k
/-- SUP_ACK.PENDING, bits [4:4]. -/
def F.SUP_ACK_PENDING (k : Nat) : FRef := ⟨R.SUP_ACK k, 4, 4⟩
/-- SUP_ACK.LEVEL, bits [3:0]. -/
def F.SUP_ACK_LEVEL (k : Nat) : FRef := ⟨R.SUP_ACK k, 3, 0⟩
/-- Address of SUP_LEVEL[k][j], levels j from 1 (Table 16-24). -/
def R.SUP_LEVEL (k j : Nat) : Nat := 0x8000200100 + 0x40 * k + 0x4 * j
/-- SUP_LEVEL.VOUT, bits [15:0]. -/
def F.SUP_LEVEL_VOUT (k j : Nat) : FRef := ⟨R.SUP_LEVEL k j, 15, 0⟩
/-- Address of MON_TEVT (Table 16-26). -/
def R.MON_TEVT : Nat := 0x8000210000
/-- MON_TEVT.EVT, bits [31:0]. -/
def F.MON_TEVT_EVT : FRef := ⟨R.MON_TEVT, 31, 0⟩
/-- Address of MON_VEVT (Table 16-26). -/
def R.MON_VEVT : Nat := 0x8000210004
/-- MON_VEVT.EVT, bits [31:0]. -/
def F.MON_VEVT_EVT : FRef := ⟨R.MON_VEVT, 31, 0⟩
/-- Address of MON_TEMP (Table 16-27). -/
def R.MON_TEMP (k : Nat) : Nat := 0x8000210040 + 0x4 * k
/-- MON_TEMP.VALUE, bits [15:0]. -/
def F.MON_TEMP_VALUE (k : Nat) : FRef := ⟨R.MON_TEMP k, 15, 0⟩
/-- Address of MON_TLIM (Table 16-28). -/
def R.MON_TLIM (k : Nat) : Nat := 0x8000210080 + 0x4 * k
/-- MON_TLIM.ACTION, bits [31:30]. -/
def F.MON_TLIM_ACTION (k : Nat) : FRef := ⟨R.MON_TLIM k, 31, 30⟩
/-- MON_TLIM.HIGH, bits [23:12]. -/
def F.MON_TLIM_HIGH (k : Nat) : FRef := ⟨R.MON_TLIM k, 23, 12⟩
/-- MON_TLIM.LOW, bits [11:0]. -/
def F.MON_TLIM_LOW (k : Nat) : FRef := ⟨R.MON_TLIM k, 11, 0⟩
/-- Address of MON_VOLT (Table 16-27). -/
def R.MON_VOLT (k : Nat) : Nat := 0x8000210100 + 0x4 * k
/-- MON_VOLT.VALUE, bits [15:0]. -/
def F.MON_VOLT_VALUE (k : Nat) : FRef := ⟨R.MON_VOLT k, 15, 0⟩
/-- Address of MON_VLIM (Table 16-29). -/
def R.MON_VLIM (k : Nat) : Nat := 0x8000210180 + 0x4 * k
/-- MON_VLIM.SEC, bits [31:31]. -/
def F.MON_VLIM_SEC (k : Nat) : FRef := ⟨R.MON_VLIM k, 31, 31⟩
/-- MON_VLIM.HIGH, bits [30:16]. -/
def F.MON_VLIM_HIGH (k : Nat) : FRef := ⟨R.MON_VLIM k, 30, 16⟩
/-- MON_VLIM.LOW, bits [14:0]. -/
def F.MON_VLIM_LOW (k : Nat) : FRef := ⟨R.MON_VLIM k, 14, 0⟩
/-- Address of MON_PROC (Table 16-27). -/
def R.MON_PROC (k : Nat) : Nat := 0x8000210200 + 0x4 * k
/-- MON_PROC.VALUE, bits [15:0]. -/
def F.MON_PROC_VALUE (k : Nat) : FRef := ⟨R.MON_PROC k, 15, 0⟩
/-- Address of KPR_STAT (Table 17-14). -/
def R.KPR_STAT : Nat := 0x8000220000
/-- KPR_STAT.CYCLES, bits [23:16]. -/
def F.KPR_STAT_CYCLES : FRef := ⟨R.KPR_STAT, 23, 16⟩
/-- KPR_STAT.START, bits [15:8]. -/
def F.KPR_STAT_START : FRef := ⟨R.KPR_STAT, 15, 8⟩
/-- KPR_STAT.TRIAL, bits [2:2]. -/
def F.KPR_STAT_TRIAL : FRef := ⟨R.KPR_STAT, 2, 2⟩
/-- KPR_STAT.HOLD, bits [1:1]. -/
def F.KPR_STAT_HOLD : FRef := ⟨R.KPR_STAT, 1, 1⟩
/-- KPR_STAT.DOORBELL, bits [0:0]. -/
def F.KPR_STAT_DOORBELL : FRef := ⟨R.KPR_STAT, 0, 0⟩
/-- Address of KPR_WDOG (Table 17-15). -/
def R.KPR_WDOG : Nat := 0x8000220004
/-- KPR_WDOG.KICK, bits [15:15]. -/
def F.KPR_WDOG_KICK : FRef := ⟨R.KPR_WDOG, 15, 15⟩
/-- KPR_WDOG.PERIOD, bits [9:0]. -/
def F.KPR_WDOG_PERIOD : FRef := ⟨R.KPR_WDOG, 9, 0⟩
/-- Address of KPR_HOLD (Table 17-16). -/
def R.KPR_HOLD : Nat := 0x8000220008
/-- KPR_HOLD.HOLD, bits [19:0]. -/
def F.KPR_HOLD_HOLD : FRef := ⟨R.KPR_HOLD, 19, 0⟩
/-- Address of AUD_STAT (Table 17-22). -/
def R.AUD_STAT : Nat := 0x8000230000
/-- AUD_STAT.STALLS, bits [31:24]. -/
def F.AUD_STAT_STALLS : FRef := ⟨R.AUD_STAT, 31, 24⟩
/-- AUD_STAT.TAP, bits [6:0]. -/
def F.AUD_STAT_TAP : FRef := ⟨R.AUD_STAT, 6, 0⟩
/-- Address of AUD_HEAD (Table 17-23). -/
def R.AUD_HEAD : Nat := 0x8000230004
/-- AUD_HEAD.NUMBER, bits [31:0]. -/
def F.AUD_HEAD_NUMBER : FRef := ⟨R.AUD_HEAD, 31, 0⟩
/-- Address of AUD_HASH (Table 17-24). -/
def R.AUD_HASH (k : Nat) : Nat := 0x8000230020 + 0x4 * k
/-- AUD_HASH.HASH, bits [31:0]. -/
def F.AUD_HASH_HASH (k : Nat) : FRef := ⟨R.AUD_HASH k, 31, 0⟩
/-- Address of PASS_CMD (Table 17-18). -/
def R.PASS_CMD : Nat := 0x8000240000
/-- PASS_CMD.STATUS, bits [31:24]. -/
def F.PASS_CMD_STATUS : FRef := ⟨R.PASS_CMD, 31, 24⟩
/-- PASS_CMD.BUSY, bits [8:8]. -/
def F.PASS_CMD_BUSY : FRef := ⟨R.PASS_CMD, 8, 8⟩
/-- PASS_CMD.SLOT, bits [4:2]. -/
def F.PASS_CMD_SLOT : FRef := ⟨R.PASS_CMD, 4, 2⟩
/-- PASS_CMD.OP, bits [1:0]. -/
def F.PASS_CMD_OP : FRef := ⟨R.PASS_CMD, 1, 0⟩
/-- Address of PASS_DATA (Table 17-19). -/
def R.PASS_DATA (k : Nat) : Nat := 0x8000240040 + 0x4 * k
/-- PASS_DATA.DATA, bits [31:0]. -/
def F.PASS_DATA_DATA (k : Nat) : FRef := ⟨R.PASS_DATA k, 31, 0⟩
/-- Address of PASS_SLOT (Table 17-20). -/
def R.PASS_SLOT (k : Nat) : Nat := 0x8000240100 + 0x4 * k
/-- PASS_SLOT.VALID, bits [31:31]. -/
def F.PASS_SLOT_VALID (k : Nat) : FRef := ⟨R.PASS_SLOT k, 31, 31⟩
/-- PASS_SLOT.ROLE, bits [30:29]. -/
def F.PASS_SLOT_ROLE (k : Nat) : FRef := ⟨R.PASS_SLOT k, 30, 29⟩
/-- PASS_SLOT.CORE, bits [28:24]. -/
def F.PASS_SLOT_CORE (k : Nat) : FRef := ⟨R.PASS_SLOT k, 28, 24⟩
/-- PASS_SLOT.COARSE, bits [23:23]. -/
def F.PASS_SLOT_COARSE (k : Nat) : FRef := ⟨R.PASS_SLOT k, 23, 23⟩
/-- PASS_SLOT.RIGHTS, bits [7:0]. -/
def F.PASS_SLOT_RIGHTS (k : Nat) : FRef := ⟨R.PASS_SLOT k, 7, 0⟩
/-- Address of PIN_GPIO_OUT (Table 18-11a). -/
def R.PIN_GPIO_OUT : Nat := 0x8000250000
/-- PIN_GPIO_OUT.OUT, bits [31:0]. -/
def F.PIN_GPIO_OUT_OUT : FRef := ⟨R.PIN_GPIO_OUT, 31, 0⟩
/-- Address of PIN_GPIO_OE (Table 18-11a). -/
def R.PIN_GPIO_OE : Nat := 0x8000250004
/-- PIN_GPIO_OE.OE, bits [31:0]. -/
def F.PIN_GPIO_OE_OE : FRef := ⟨R.PIN_GPIO_OE, 31, 0⟩
/-- Address of PIN_GPIO_IN (Table 18-11a). -/
def R.PIN_GPIO_IN : Nat := 0x8000250008
/-- PIN_GPIO_IN.IN, bits [31:0]. -/
def F.PIN_GPIO_IN_IN : FRef := ⟨R.PIN_GPIO_IN, 31, 0⟩
/-- Address of PIN_GPIO_EDGE (Table 18-11a). -/
def R.PIN_GPIO_EDGE : Nat := 0x800025000c
/-- PIN_GPIO_EDGE.EDGE, bits [31:0]. -/
def F.PIN_GPIO_EDGE_EDGE : FRef := ⟨R.PIN_GPIO_EDGE, 31, 0⟩
/-- Address of PIN_SER_CFG (Table 18-11b). -/
def R.PIN_SER_CFG (k : Nat) : Nat := 0x8000250100 + 0x10 * k
/-- PIN_SER_CFG.EN, bits [31:31]. -/
def F.PIN_SER_CFG_EN (k : Nat) : FRef := ⟨R.PIN_SER_CFG k, 31, 31⟩
/-- PIN_SER_CFG.MODE, bits [27:26]. -/
def F.PIN_SER_CFG_MODE (k : Nat) : FRef := ⟨R.PIN_SER_CFG k, 27, 26⟩
/-- PIN_SER_CFG.RATE, bits [19:0]. -/
def F.PIN_SER_CFG_RATE (k : Nat) : FRef := ⟨R.PIN_SER_CFG k, 19, 0⟩
/-- Address of PIN_SER_DESC (Table 18-11c). -/
def R.PIN_SER_DESC (k : Nat) : Nat := 0x8000250104 + 0x10 * k
/-- PIN_SER_DESC.OFFSET, bits [18:0]. -/
def F.PIN_SER_DESC_OFFSET (k : Nat) : FRef := ⟨R.PIN_SER_DESC k, 18, 0⟩
/-- Address of PIN_SER_CMD (Table 18-11d). -/
def R.PIN_SER_CMD (k : Nat) : Nat := 0x8000250108 + 0x10 * k
/-- PIN_SER_CMD.STATUS, bits [31:24]. -/
def F.PIN_SER_CMD_STATUS (k : Nat) : FRef := ⟨R.PIN_SER_CMD k, 31, 24⟩
/-- PIN_SER_CMD.BUSY, bits [8:8]. -/
def F.PIN_SER_CMD_BUSY (k : Nat) : FRef := ⟨R.PIN_SER_CMD k, 8, 8⟩
/-- PIN_SER_CMD.OP, bits [1:0]. -/
def F.PIN_SER_CMD_OP (k : Nat) : FRef := ⟨R.PIN_SER_CMD k, 1, 0⟩
/-- Address of PIN_SER_RX (Table 18-11e). -/
def R.PIN_SER_RX (k : Nat) : Nat := 0x800025010c + 0x10 * k
/-- PIN_SER_RX.EMPTY, bits [31:31]. -/
def F.PIN_SER_RX_EMPTY (k : Nat) : FRef := ⟨R.PIN_SER_RX k, 31, 31⟩
/-- PIN_SER_RX.OVERRUN, bits [30:30]. -/
def F.PIN_SER_RX_OVERRUN (k : Nat) : FRef := ⟨R.PIN_SER_RX k, 30, 30⟩
/-- PIN_SER_RX.FRAMING, bits [29:29]. -/
def F.PIN_SER_RX_FRAMING (k : Nat) : FRef := ⟨R.PIN_SER_RX k, 29, 29⟩
/-- PIN_SER_RX.BYTE, bits [7:0]. -/
def F.PIN_SER_RX_BYTE (k : Nat) : FRef := ⟨R.PIN_SER_RX k, 7, 0⟩

end Sys2Proof.Machine
end

