-- ==== Sys2Proof/Machine/SMap.lean ====
section
/-!
DEFINITION. Sparse tables: reading a key (the default where it is not listed) and writing it so that the canonical
form is kept. Memory, the register file and every numbered store of the model use these.
-/
namespace Sys2Proof.Machine

/-- The value at key k, or d k where the table lists none. -/
def SMap.get {V : Type} (d : Nat → V) : SMap V → Nat → V
  | [], k => d k
  | (j, v) :: m, k => if j = k then v else SMap.get d m k

/-- The table without any entry for k. -/
def SMap.erase {V : Type} : SMap V → Nat → SMap V
  | [], _ => []
  | (j, v) :: m, k => if j = k then SMap.erase m k else (j, v) :: SMap.erase m k

/-- The table with an entry for k placed before the first larger key. -/
def SMap.place {V : Type} : SMap V → Nat → V → SMap V
  | [], k, v => [(k, v)]
  | (j, w) :: m, k, v => if k < j then (k, v) :: (j, w) :: m else (j, w) :: SMap.place m k v

/-- Write v at k: the entry is dropped when v is what an unlisted k holds. -/
def SMap.set {V : Type} [DecidableEq V] (d : Nat → V) (m : SMap V) (k : Nat) (v : V) : SMap V :=
  if v = d k then SMap.erase m k else SMap.place (SMap.erase m k) k v

/-- Keys strictly rising from above lo, and no entry equal to the default. -/
def SMap.wfFrom {V : Type} [DecidableEq V] (d : Nat → V) : Nat → SMap V → Bool
  | _, [] => true
  | lo, (k, v) :: m => decide (lo ≤ k) && decide (v ≠ d k) && SMap.wfFrom d (k + 1) m

/-- The canonical form of a table. -/
def SMap.wf {V : Type} [DecidableEq V] (d : Nat → V) (m : SMap V) : Bool := SMap.wfFrom d 0 m

end Sys2Proof.Machine
end

