-- ==== Sys2Proof/Config.lean ====
section
/-!
DEFINITION. What the spec leaves open or keeps secret, as constants without a body: nothing in Lean can evaluate
them, so a theorem that mentions one holds for every value of it.
-/
namespace Sys2Proof.Config

/-- The stream of free values: the n-th open value of a run (an undefined result, an unfixed count, a random
draw). State.freeCtr counts the ones used (log entry 3). -/
opaque freeNat : Nat → Nat

/-- The fuse root secret of this module, from which the key-encryption key is derived (R311, R388): 32 bytes as
one number, never readable by any path. -/
opaque fuseSecret : Nat

/-- The Maker authority public key of the maker record, a P-256 point (R380). -/
opaque makerKey : Nat × Nat

/-- The digest of the Maker key fused at manufacture (R380, R388), 32 bytes as a number. -/
opaque makerDigest : Nat

/-- The module serial of the maker record (R19), eight bytes as a number. -/
opaque serial : Nat

/-- The EUI-64 of the maker record (R19). -/
opaque eui64 : Nat

/-- Vendor ID of the host link, from the maker record (R271). -/
opaque vendorId : Nat

/-- A byte of module state whose layout the spec leaves open (superblock, maker record, settings, duty ring: Table 15-3), as a
function of the figures that its contents give and of its offset (log entry 120). -/
opaque moduleByte : List Nat → Nat → BitVec 8

/-- Tininess is detected after rounding (true) or before it (false): IEEE 754-2019 leaves this to the implementation and
R88 does not fix it (log entry 5). -/
opaque tinyAfter : Bool

/-- (0 × ∞) + quiet NaN signals invalid: IEEE 754-2019 leaves this to the implementation (log entry 5). -/
opaque fmaNanInvalid : Bool

end Sys2Proof.Config
end

