-- ==== Sys2Proof/Machine/State.lean ====
section
/-!
DEFINITION. The state of the module as plain data: registers, memories, queues and engines of every block, and the
queue of waiting commands; the reasons a step can stop; the state after power-on reset.
-/
namespace Sys2Proof.Machine

/-! ## Accesses and registers (ch. 02) -/

/-- What an access is for: a requester's own read or write; a core's load (register, sign extension), load of a
floating-point register, store, LR (register), SC (register), or atomic operation (funct6, register); a store of the bytes
of a floating-point register is a store of its own kind. -/
inductive AccessUse where
  | plain
  | load (rd : Nat) (signed : Bool)
  | fload (rd : Nat)
  | store
  | fstore
  | lr (rd : Nat)
  | sc (rd : Nat)
  | atomic (op rd : Nat)
  deriving DecidableEq, Repr

/-- An access: requester, physical address, bytes, the value written, a second operand (the new value of CAS), its use; kept
while it is stalled on a domain (Table 02-9, Order 4), with the virtual address it came from. -/
structure Stalled where
  req   : Nat
  addr  : Nat
  size  : Nat
  write : Option Nat
  arg   : Nat
  use   : AccessUse
  virt  : Nat
  deriving DecidableEq, Repr

/-- The answer to the last register or memory access of a requester: its status code (Table 02-8) and the value
read. The model's own: it shows what a read returned. -/
structure Resp where
  req    : Nat
  status : Nat
  value  : Nat
  deriving DecidableEq, Repr

/-- Captures and write latches of wide values (R40), stalled accesses (R43), the Keeper's own fault log (R44). -/
structure BusState where
  captures : List (Nat × Nat × List Word)
  latches  : List (Nat × Nat × Word)
  stalled  : List Stalled
  kprFaults : List (Nat × Nat)
  resp     : Option Resp
  deriving DecidableEq, Repr

/-! ## Network time (ch. 03) -/

/-- A step or load waiting for the next tick (R59), with the amounts of NT_ADJ at its write, and its requester with
the tag and the pass behind it (R60). -/
structure Adj where
  load  : Bool
  force : Bool
  req   : Nat
  role  : Nat
  pass  : Nat
  frac  : Nat
  ns    : Nat
  sec   : Nat
  deriving DecidableEq, Repr

/-- One network-time domain: the counter of R54 (seconds, nanoseconds, fraction in 2^-32 ns), the NT from which
the last tick counted and how far it counted, the amount counted since power-on with steps left out (R61), and a waiting step
or load. -/
structure NtDomain where
  sec     : Nat
  ns      : Nat
  frac    : Nat
  start   : Nat
  len     : Nat
  counted : Nat
  adj     : Option Adj
  deriving DecidableEq, Repr

/-- The rate scale of R65: it moves linearly from one NT_INCR to another over 1 ms from an instant of counted NT. -/
structure RateScale where
  old   : Nat
  new   : Nat
  since : Nat
  deriving DecidableEq, Repr

/-- A launch output (R69, R70): the last edge as (source, NT counted at it), whether its pulse is in progress, the counted NT
at which its last edge lies (to 62.5 ps) and at which its pulse ends, and the half bits of the last TSYNC frame as sent. -/
structure OutState where
  last   : Option (Nat × Nat)
  active : Bool
  edge   : Nat
  endAt  : Nat
  sent   : Option (BitVec 160)
  deriving DecidableEq, Repr

/-- Network time as a whole: domains A and B, the selector's signed offset in 2^-32 ns (R62), a switch request
waiting for the next tick, where the selected NT's last count began and how far it went, the selected NT counted since power-on,
that count at the last entry to Standby (R74), the rate scale, the time PLL, the TOD FIFOs,
each TOD line as (counted NT at which its last byte ended, whether the edge that begins a message has been captured), the outputs, and the forward
steps of the fine selected NT, each with the NT that counting alone gave and the NT it went to (R61). -/
structure TimeState where
  a        : NtDomain
  b        : NtDomain
  offset   : Int
  swReq    : Option Nat
  selFrom  : Nat
  selLen   : Nat
  selCount : Nat
  slept    : Nat
  rho      : RateScale
  refEver  : Bool
  pllHeld  : Bool
  refSince : Nat
  tod0     : List (Byte × Bool)
  tod1     : List (Byte × Bool)
  todLine  : SMap (Option Nat × Bool)
  outs     : SMap OutState
  jumps    : List (Nat × Nat)
  deriving DecidableEq, Repr

/-- A pulse in the event fabric: its line and the tick on which it entered (R122). -/
structure Pulse where
  line : Nat
  tick : Nat
  deriving DecidableEq, Repr

/-! ## Cores (ch. 04) and slot engines (ch. 05) -/

/-- What a core is doing: running, stalled in WFI (R95), stopped in double fault (R97), halted for the debugger
(R99), stalled on an access (R43), or a work core waiting in DONE (R298). -/
inductive CoreMode where
  | run | wfi | dfault | debug | access | idle
  deriving DecidableEq, Repr

/-- A cached translation (R102): ASID, virtual page number, level of the leaf, and the leaf. -/
structure TlbEntry where
  asid  : Nat
  vpn   : Nat
  level : Nat
  pte   : Nat
  deriving DecidableEq, Repr

/-- An Iblek core (R77, R78, Table 04-9): program counter, general and floating-point registers, level, system
registers, pending lines, instructions retired, the LR reservation (granule, width), its mode, cached translations, failed
stores that have retired as (virtual address, status), oldest first (R94), the half cycles of its clock at its reset and the CYCLE
last read. -/
structure Core where
  pc       : DWord
  g        : SMap DWord
  f        : SMap DWord
  sup      : Bool
  status   : DWord
  fcsr     : DWord
  evec     : DWord
  epc      : DWord
  ecause   : DWord
  eaddr    : DWord
  escratch : DWord
  ptroot   : DWord
  ien      : BitVec 256
  ipend    : BitVec 256
  retired  : Nat
  resv     : Option (Nat × Nat)
  mode     : CoreMode
  haltOnBreak : Bool
  tlb      : List TlbEntry
  badStores : List (Nat × Nat)
  cycle0   : Nat
  cycleSeen : Nat
  deriving DecidableEq, Repr

/-- What a slot engine waits for (R116 to R121): nothing; an NT target (true for ATTICK); an event line with its
destination register, its issue tick, and whether its pulse has arrived. -/
inductive EWait where
  | none
  | until (target : Nat) (attick : Bool)
  | event (line rd issue : Nat) (arrived : Bool)
  deriving DecidableEq, Repr

/-- A slot engine's own state beside its core: local memory by physical byte (pages 0 and 1, then the data area),
the active page, event latches, the wait, the late-ATTICK mark on the next instruction, the post queue, CYCLE. -/
structure Engine where
  lm       : SMap Byte
  active   : Nat
  latches  : BitVec 256
  wait     : EWait
  lateNext : Bool
  posts    : List DWord
  cycle    : Nat
  deriving DecidableEq, Repr

/-- An event of the audit tap (R385): a register write (entry, instance, offset, value) or ledger command, its
requester and tag, its status, the NT second it fell in, and how many it stands for (kind 0 write, 1 command). -/
structure TapEvent where
  kind   : Nat
  req    : Nat
  role   : Nat
  status : Nat
  entry  : Nat
  inst   : Nat
  off    : Nat
  value  : Nat
  sec    : Nat
  count  : Nat
  deriving DecidableEq, Repr

/-! ## Power (ch. 16) -/

/-- A change of state under way (R358), or a warm restart's drain (R391, target 5): its target, who asked (a requester; for a
request slot its number and OP), the groups of functions already stopped, the functions stopped as (entry, instance, function),
whether it is draining, since which tick, and its request for rails: 0 not made, 1 waiting, 2 acknowledged. -/
structure PwrEntry where
  target  : Nat
  by_     : Nat
  op      : Nat
  group   : Nat
  stopped : List (Nat × Nat × Nat)
  drain   : Bool
  since   : Nat
  rail    : Nat
  deriving DecidableEq, Repr

/-- Power (ch. 16): domains in the middle of powering down and the tick of the last access to each (R363); functions with an
abandon pending and stops that follow one, by FN_STAT address (R415, R53); whether the Keeper has started since the power came
up; the change under way; the requester of a timed request; work cores withdrawn from the dispatcher; VIN held at
8.8 V or above; the tick of input loss; a hold-up flush begun; a detach as (stage, tick): 1 stopping the radios, 2 the window open, 3 closed; the safe-to-remove
latch and whether ENABLE has been cycled since; whether the DETACH pin is low; the tick of the last move of CAP; the limits that
a monitor has crossed and not come back inside of (i and 64 + i: HIGH and LOW of temperature monitor i; 16 + j and 80 + j: of
voltage monitor j); a detach asked for while a change of state is in progress; the writes of the transaction on the supply bus, as
(address, command, data bytes). -/
structure PwrState where
  goingDown  : List Nat
  lastAccess : SMap Nat
  abandons   : List Nat
  abandoned  : List Nat
  booted     : Bool
  entry      : Option PwrEntry
  timed      : Option Nat
  withdrawn  : List Nat
  vin        : Bool
  ride       : Option Nat
  flushing   : Bool
  detach     : Option (Nat × Nat)
  safeLatch  : Bool
  cycled     : Bool
  detachLow  : Bool
  capAt      : Nat
  crossed    : List Nat
  detachDue  : Bool
  busWrites  : List (Nat × Nat × List Byte)
  deriving DecidableEq, Repr

/-! ## Radios (ch. 06) -/

/-- An occurrence as access resolved it (R203): entry, physical table, lap; what the entry says for it; T and port time in
units; window in µs; buffer address; handle; the preamble (symbols or octets on S, flurry frames on M), or a FAULT in it;
its wake tag; the peer link its header names on Radio H; the contention queue of an attempt; whether it stands in ACC_NEXT;
whether it waits for room there (R201). -/
structure Occ where
  entry  : Nat
  table  : Nat
  lap    : Nat
  action : Nat
  chain  : Nat
  lbt    : Bool
  chan   : Nat
  mode   : Nat
  power  : Nat
  t      : Nat
  port   : Nat
  window : Nat
  buf    : Nat
  handle : Nat
  drl    : Bool
  pre    : Option Nat
  badPre : Bool
  tag    : Nat
  peer   : Option Nat
  cq     : Option Nat
  inNext : Bool
  waits  : Bool
  deriving DecidableEq, Repr

/-- A radio command as a chain holds it (Table 05-4): what it copied from the record, the port time in units, and
how far its checks have gone (Table 06-5), the number of its duty reservation and the regulator it holds from its check at
P − 50 µs (R146, R156), and the peer link that its header names on Radio H where the spec gives one. Acknowledgements that the module places itself have no record. -/
structure QCmd where
  op     : Nat
  recAt  : Option Nat
  lbt    : Bool
  evt    : Bool
  doneEv : Nat
  chan   : Nat
  mode   : Nat
  power  : Nat
  port   : Nat
  window : Nat
  buf    : Nat
  len    : Nat
  arg    : Nat
  pre    : Option Nat
  slot   : Option Occ
  ack    : Option Nat
  moved  : Bool
  regOk  : Bool
  lockOk : Bool
  lbtOk  : Bool
  path   : Bool
  passed : Bool
  resv   : Option Nat
  paReg  : Option Nat
  peer   : Option Nat
  deriving DecidableEq, Repr

/-- What the framing of a transmission takes from the modem's configuration as it begins (R33, Table 07-3, R176): the preamble in
symbols or octets, the sync word, phyFskSfd and whitening. -/
structure Modem where
  pre  : Nat
  sync : Nat
  sfd  : Bool
  dw   : Bool
  deriving DecidableEq, Repr

/-- What a subcarrier carries (R178 to R180): exp(jπ num/den), or the point (i, q) of the constellation of b bits, whose levels
are odd whole numbers before the scaling to mean power 1. -/
inductive Tone where
  | phase (num den : Nat)
  | point (i q : Int) (b : Nat)
  deriving DecidableEq, Repr

/-- A symbol of a Gale chain: its duration in 0.1 µs, its cyclic shift in 0.2 µs, and its subcarriers (Table 07-5, R181). -/
structure OfdmSym where
  dur   : Nat
  shift : Nat
  tones : List (Int × Tone)
  deriving DecidableEq, Repr

/-- A frame on air: bits or symbols in the order sent, or the symbols of the four chains of Radio H. -/
inductive AirFrame where
  | bits (l : List Bool)
  | ofdm (chains : List (List OfdmSym))
  deriving DecidableEq, Repr

/-- A frame that was sent: its PSDU with the FCS, and what went on air. -/
structure SentFrame where
  psdu : List Byte
  air  : AirFrame
  deriving DecidableEq, Repr

/-- What a chain does at its port. -/
inductive ActKind where
  | tx | win | cca | tune | cal
  deriving DecidableEq, Repr

/-- An action in progress: its command, the NT at which it ends, an RX window's reserved lane, a calibration step's trim value
before it began, and a transmission's modem configuration. -/
structure Act where
  kind  : ActKind
  cmd   : QCmd
  ends  : Nat
  lane  : Option Nat
  saved : Nat
  modem : Option Modem
  deriving DecidableEq, Repr

/-- A LISTEN in force (R139, R140): its command, whether it is suspended, and when it may resume. -/
structure Listen where
  cmd       : QCmd
  suspended : Bool
  resumeAt  : Nat
  deriving DecidableEq, Repr

/-- An entry of a front-end sequence (Table 06-19): its time on the bus in units, and the slave register it writes (USID × 256 +
address) with the byte, none for a wait. -/
structure FemStep where
  time  : Nat
  write : Option (Nat × Byte)
  deriving DecidableEq, Repr

/-- What follows an action at the front end (R153): TX_OFF after FEM_TAIL units, then RX_ON; each with its number, none where the
number means no sequence. -/
structure FemAfter where
  tail : Nat
  off  : Option (Nat × List FemStep)
  on   : Option (Nat × List FemStep)
  deriving DecidableEq, Repr

/-- A chain of a radio: its queue, the action in progress, the LISTEN in force, its synthesiser (channel and width at
which it stands or to which it moves, moving, locked, the NT of lock), the end of the last action at the port (true for a
transmission; true for an RX window, its frame or a CCA), its trims by step kind, a calibration set not yet applied (the
earlier words by address, and the tick of the swap), ABORTs accepted with their ticks,
the frames of the last transmission as sent, the last bit of the last frame received in an RX window (R138), the
NT at which a LISTEN's reception stopped, and the front-end sequences that follow the action in progress as the configuration
it began with gives them (R33, R153). -/
structure Chain where
  queue   : List QCmd
  act     : Option Act
  listen  : Option Listen
  chan    : Nat
  width   : Nat
  moving  : Bool
  locked  : Bool
  lockAt  : Nat
  lastEnd : Option Nat
  lastTx  : Bool
  lastWin : Bool
  trims   : SMap Nat
  calOld  : Option (Nat × List (Nat × Word))
  aborts  : List (Nat × QCmd)
  sent    : List SentFrame
  winEnd  : Option Nat
  rxEnd   : Option Nat
  after   : Option FemAfter
  deriving DecidableEq, Repr

/-- A front-end sequence on a radio's RFFE bus (R152, R153): its number, its entries as they stood when the operation it serves
began, the port, which automatic kind it is (0 TX_ON, 1 TX_OFF, 2 RX_ON, 3 CAL_ENTRY) or none for ANT, its first and last
instants, whether it has started, and the ANT command. -/
structure FemRun where
  seq   : Nat
  steps : List FemStep
  port  : Nat
  auto  : Option Nat
  start : Nat
  ends  : Nat
  begun : Bool
  cmd   : Option QCmd
  deriving DecidableEq, Repr

/-- A radio's front-end bus: sequences due or running, and the bytes written to slave registers (USID × 256 + address). -/
structure FemState where
  runs : List FemRun
  regs : SMap Byte
  deriving DecidableEq, Repr

/-- One transmission of a duty record: its occupied band in Hz, and its first and last bit on the duty ring's time in units. -/
structure DutyBand where
  lo   : Nat
  hi   : Nat
  port : Nat
  last : Nat
  deriving DecidableEq, Repr

/-- A record of the duty ring (R161, R162): its number, the whole millisecond s0, D in ms, the sub-bands it counts in
as a mask, the transmissions it stands for, and whether it is still a reservation. -/
structure DutyRec where
  id    : Nat
  s0    : Nat
  d     : Nat
  subs  : Nat
  bands : List DutyBand
  resv  : Bool
  deriving DecidableEq, Repr

/-- The regulatory meters: the ring, the next record number, when a recomputation began, and the milliseconds by which the
ring's time is ahead of the NT (R162). -/
structure DutyState where
  ring    : List DutyRec
  nextId  : Nat
  recalc  : Option Nat
  epoch   : Int
  deriving DecidableEq, Repr

/-- A supply-bus request (R366, R367): who asked (the radio and the PAREQ command, or a level for the Keeper), its
regulator (4 the power die) and level, the NT its timeout counts from, whether it is on the bus, and when it repeats after a NACK;
snow marks the snowplough's own writes. -/
structure SupReq where
  radio : Option Nat
  cmd   : Option QCmd
  dev   : Nat
  level : Nat
  since : Nat
  onBus : Bool
  retry : Option Nat
  snow  : Bool
  deriving DecidableEq, Repr

/-! ## Reception (ch. 07) -/

/-- A frame in a lane: chain, the mode of the detecting entry, its own mode, centre in Hz, preamble SNR in 0.001 dB and RSSI in
0.001 dBm as estimated, the branches of Radio M that have contributed so far as a mask, its preamble's beginning and its
detection, its arrival instant once the sync is found, what its header gave, and the reception-queue record it began once
its SID was decoded (none: not begun; some none: refused, so the frame is dropped). -/
structure RxFrame where
  chain   : Nat
  entry   : Nat
  mode    : Nat
  centre  : Nat
  snr     : Int
  rssi    : Int
  parts   : Nat
  began   : Nat
  detect  : Nat
  inWin   : Bool
  arrival : Option Nat
  hdrOk   : Bool
  len     : Nat
  fcs     : Nat
  peer    : Nat
  lastBit : Nat
  rqid    : Option (Option Nat)
  deriving DecidableEq, Repr

/-- A lane (R169): its frame, and the chain whose RX window reserves it. -/
structure Lane where
  frame : Option RxFrame
  resv  : Option Nat
  deriving DecidableEq, Repr

/-- A frost capture span in progress (R188): its radio, lane (none when a tap records it all), whether a tap records
now, its frame and reason, when it ends, and whether MAX_BLOCKS cut it. -/
structure CapSpan where
  radio  : Nat
  lane   : Option Nat
  tap    : Bool
  frame  : RxFrame
  reason : Nat
  ends   : Nat
  cut    : Bool
  deriving DecidableEq, Repr

/-- Frost capture: spans in progress, and the unreleased records of the ring as (offset, bytes, pad). -/
structure CapState where
  spans : List CapSpan
  recs  : List (Nat × Nat × Bool)
  deriving DecidableEq, Repr
/-! ## Memory, queues, work and services (ch. 12, 13) -/

/-- The memory arrays beside their bytes: wrong bits found in an aligned 8-byte word by its address (R275, R292), regions
whose march result waits for a retry as (region, regions still to pass, discards), the DRAM settings in force as (GRAIN, SENTINEL) and
ECC regions as (base, size) in bytes, the monitored temperature at each channel's last sentinel sweep in 0.125 °C, the
intervals by which a bank's refresh has been postponed; on the clock of elapsed NT, when the patrol takes its next region and its
borrow ends (R278), when a bank's next refresh falls due (R290) and a channel's sweep ends; and the delay of lane l of channel c in
use at 4 c + l, less the maker record's, signed, in 1/64 UI (R291). -/
structure MemState where
  flips    : SMap Nat
  retry    : List (Nat × Nat × Nat)
  grain    : Nat
  sentinel : Nat
  regions  : List (Nat × Nat)
  swept    : SMap Nat
  postponed : SMap Nat
  patrolAt : Nat
  borrowEnds : Nat
  refreshAt : SMap Nat
  sweepEnds : SMap Nat
  delays   : SMap Byte
  deriving DecidableEq, Repr

/-- A reception-queue record that has started (R284): its queue and pool, KIND, bytes filled, the buffers it holds in
order, and whether its closing word has landed. -/
structure RqRec where
  id     : Nat
  queue  : Nat
  pool   : Nat
  kind   : Nat
  len    : Nat
  bufs   : List Nat
  closed : Bool
  deriving DecidableEq, Repr

/-- The reception queues: records in progress, each pool's stash (top first), each queue's next SEQ, and the queues and
pools that are draining after EN := 0 (R287). -/
structure RqState where
  recs   : List RqRec
  nextId : Nat
  stash  : SMap (List Nat)
  seqs   : SMap Nat
  qDrain : List Nat
  pDrain : List Nat
  popped : SMap Nat
  deriving DecidableEq, Repr

/-- A work item the dispatcher holds (R293 to R295): descriptor address, level, and its queue for a queue item. -/
structure WorkItem where
  addr  : Nat
  level : Nat
  queue : Option Nat
  deriving DecidableEq, Repr

/-- The dispatcher: waiting items in post order, queue items held for room, the item each core runs, and cores waiting in
DONE as (core, rd, tick of asking), first asked first. -/
structure WdState where
  waiting : List WorkItem
  held    : List (Nat × Nat)
  running : List (Nat × WorkItem)
  asking  : List (Nat × Nat × Nat)
  deriving DecidableEq, Repr

/-- The lock mark of a service request (Table 04-15). -/
inductive SvcMark where
  | none | open_ | cont | close_
  deriving DecidableEq, Repr

/-- What a service request asks: the command of a descriptor, or the link unit's own work on a frame. -/
inductive SvcJob where
  | desc
  | openFrame (frame : Nat)
  | sealAck (ack : Nat)
  | frameEntry (frame : Nat)
  | lnkEntry
  deriving DecidableEq, Repr

/-- How far a service request has come: waiting, granted, its journal entry written and awaited by JSEQ, ended with a
status not yet reported, or reported. -/
inductive SvcPhase where
  | waiting | granted
  | journal (jseq : Nat)
  | ended (status : Nat)
  | written
  deriving DecidableEq, Repr

/-- A service request (R303 to R306), its number being its age; desc holds the descriptor as the engine read it at the
grant, items a link-unit entry's MRAM writes, backoff the last B. -/
structure SvcReq where
  id      : Nat
  req     : Nat
  engine  : Nat
  mark    : SvcMark
  job     : SvcJob
  addr    : Nat
  rb      : Nat
  role    : Nat
  items   : List (Nat × List Nat)
  desc    : List Byte
  backoff : Nat
  readyAt : Nat
  phase   : SvcPhase
  deriving DecidableEq, Repr

/-- The service arbiter: requests by age; each engine held by a granted locked sequence as (engine, holder, elapsed NT at the grant,
number of its open); requesters with an open sequence from its issue as (requester, engine); sequences that a DONE closes after the
commands issued up to a number as (requester, engine, number); sequences cut off and not reset since as (requester, engine). -/
structure ArbState where
  reqs    : List SvcReq
  nextId  : Nat
  holds   : List (Nat × Nat × Nat × Nat)
  opened  : List (Nat × Nat)
  closing : List (Nat × Nat × Nat)
  cuts    : List (Nat × Nat)
  deriving DecidableEq, Repr

/-! ## The ledger (ch. 15) -/

/-- What a journal entry's durability brings about: nothing more, the end of a request, a counter record's new ceiling
(R322), a settle of a record (R341), or the end of a key store command. -/
inductive JTag where
  | plain
  | req (id : Nat)
  | resv (n ceil : Nat)
  | settle (n : Nat)
  deriving DecidableEq, Repr

/-- A journal entry from its first word to its apply (R332 to R334): JSEQ, unit, length in units, items as (MRAM offset,
8-byte words), whether its SEAL is written, its KIND (0x4A entry, 0x50 pad) and the requester in SRC (30 the ledger itself). -/
structure JEntry where
  jseq    : Nat
  pos     : Nat
  units   : Nat
  items   : List (Nat × List Nat)
  durable : Bool
  tag     : JTag
  kind    : Nat
  src     : Nat
  deriving DecidableEq, Repr

/-- A NAND block (R330, R346 to R348): erase count, state (0 erased, 1 in use, 2 retired, 3 erasing), pages programmed,
reads since its erase, the tick of its first program. -/
structure NandBlock where
  erases : Nat
  state  : Nat
  used   : Nat
  reads  : Nat
  born   : Nat
  deriving DecidableEq, Repr

/-- A NAND page program in progress: logical and physical page, its bytes, MRAM items journaled with its map entry, and
what its completion brings about. -/
structure Prog where
  logical : Nat
  phys    : Nat
  data    : List Byte
  items   : List (Nat × List Nat)
  tag     : JTag
  deriving DecidableEq, Repr

/-- The ledger: MRAM by 8-byte word, unapplied entries oldest first, head and first unapplied unit, next JSEQ, JSEQ of the
first unapplied entry; NAND bytes by physical address, blocks, the block being filled, programs in progress, scheduled
checkpoints, calibration records as (number, first page, length), 32-byte MRAM groups and NAND sectors with wrong bits,
rebuilds in progress, the cause of the last close, and counter records to be settled; the words (as a mask of four) of an
uncorrectable MRAM group that have been rewritten since, the tag of each programmed page as (logical page, JSEQ) (R330), and when
the next MRAM scrub is due on the clock of elapsed NT (R349). -/
structure LdgState where
  mram    : SMap Nat
  ring    : List JEntry
  head    : Nat
  tail    : Nat
  next    : Nat
  applied : Nat
  nand    : SMap Byte
  blocks  : SMap NandBlock
  filling : Option Nat
  progs   : List Prog
  ckpts   : List Nat
  calRecs : List (Nat × Nat × Nat)
  wrong   : SMap Nat
  sectors : SMap Nat
  indexRebuild : Bool
  mapRebuild   : Bool
  closeCause : Nat
  settling : List Nat
  rewritten : SMap Nat
  tags     : SMap (Option (Nat × Nat))
  scrubAt  : Nat
  deriving DecidableEq, Repr

/-! ## Cipher and key store (ch. 14) -/

/-- A loaded key: its 8-byte attribute block as a number, and the key bytes as a number with their count. -/
structure Key where
  attr : Nat
  key  : Nat
  len  : Nat
  deriving DecidableEq, Repr

/-- A counter record as the engine holds it (R321): KEY_ID, NEXT, CEIL, W in bits, LOCKED, FROZEN, a reservation in flight. -/
structure Counter where
  keyId  : Nat
  next   : Nat
  ceil   : Nat
  width  : Nat
  locked : Bool
  frozen : Bool
  flight : Bool
  deriving DecidableEq, Repr

/-- Key store and cipher: the KEK when armed, the DISARMED mark, slot keys, the unwrap cache (most recently used first),
counter records held by number (most recently used first),
the wrapped-key table in force as (base, entries), and the pipes that commands took as (pipe, request); a pipe is free again once
its request has left the engine. -/
structure CphState where
  kek      : Option Nat
  disarmed : Bool
  slots    : SMap (Option Key)
  cache    : List (Nat × Key)
  ctrs     : List (Nat × Counter)
  table    : Nat × Nat
  pipes    : List (Nat × Nat)
  deriving DecidableEq, Repr


/-! ## The Keeper (ch. 17) -/

/-- A pass in its slot beside PASS_SLOT: its number, the authority key that signed it as (kind 0 Maker, 1 Installer,
2 Operator; index), its window in NT seconds, the tick of its load, and its coarse limit in seconds. -/
structure PassHeld where
  id     : Nat
  kind   : Nat
  index  : Nat
  from_  : Nat
  until_ : Nat
  since  : Nat
  limit  : Nat
  deriving DecidableEq, Repr

/-- A snowplough in effect: its failure row of Table 17-12 and its tick. -/
structure Snow where
  row  : Nat
  tick : Nat
  deriving DecidableEq, Repr

/-- The Keeper's own state: passes by slot, the pass slot whose check is in progress with its
requester and pass, authority keys and
their floors by 4 × kind + index (kind 1, 2), the time floor, request slots written by another requester, the tick of an
unacknowledged doorbell, of the last kick, of the trial's activation, and from which all control cores have been held, the
snowplough in effect, the ticks at which power-die cycles began, the latch of R396, and the number of Keeper
messages written. -/
structure KprState where
  passes    : SMap PassHeld
  check     : Option (Nat × Nat × List Byte)
  keys      : SMap (Option (Nat × Nat))
  floors    : SMap Nat
  timeFloor : Nat
  foreign   : List Nat
  bellAt    : Option Nat
  kickAt    : Nat
  trialAt   : Option Nat
  heldAt    : Option Nat
  snow      : Option Snow
  cycles    : List Nat
  latched   : Bool
  nextMsg   : Nat
  deriving DecidableEq, Repr

/-! ## Links (ch. 09) -/

/-- Where a received frame stands after its last bit: waiting for its class, for its context, for OPEN, held as a copy,
authenticated, waiting for its acknowledgement to be sealed, for a checkpoint or its journal entry, or for the commit. -/
inductive FrameStep where
  | lookup | fetch | opening | held | opened | sealing | journal | commit
  deriving DecidableEq, Repr

/-- A frame between steps 2 and 7: its number, reception-queue record, radio, lane and chain, mode, centre, what was measured, the
branches that contributed,
arrival and last bit in units, FCS bytes, peer link number, PSDU without FCS; its context and SEQ; whether it is delivered without
one; its residual, whether an acknowledgement is due with its radio (3 none), and its request. -/
structure LinkFrame where
  id      : Nat
  rqid    : Option Nat
  radio   : Nat
  lane    : Nat
  chain   : Nat
  mode    : Nat
  centre  : Nat
  rx      : RxMeta
  parts   : Nat
  inWin   : Bool
  arrival : Nat
  lastBit : Nat
  fcs     : Nat
  peer    : Nat
  psdu    : List Byte
  handle  : Option Nat
  seq     : Nat
  step    : FrameStep
  noCtx   : Bool
  resid   : Option Int
  ackDue  : Bool
  ackRad  : Nat
  req     : Option Nat
  deriving DecidableEq, Repr

/-- An acknowledgement as the module builds it (R219 to R222): its context, whether it takes a new ACTR, whether it is to be sent,
its 28 header bytes but for ACTR as the acceptance left the context, target (radio, chain, channel, mode), the last bit it counts
from, the peer link of its frame on Radio H, the opportunity (1 or 2), the frame record it must follow,
its PSDU once sealed, and its request. -/
structure AckJob where
  id      : Nat
  handle  : Nat
  fresh   : Bool
  body    : List Byte
  due     : Bool
  radio   : Nat
  chain   : Nat
  chan    : Nat
  mode    : Nat
  lastBit : Nat
  peer    : Option Nat
  opp     : Nat
  frame   : Option Nat
  psdu    : Option (List Byte)
  req     : Option Nat
  deriving DecidableEq, Repr

/-- An RX window of a DRL occurrence until its contact or miss is known (R224, R227): radio, handle, T, opening and closing
in units, whether it has made its contact, and whether it has completed OK. -/
structure DrlWatch where
  radio   : Nat
  handle  : Nat
  t       : Nat
  opens   : Nat
  closes  : Nat
  contact : Bool
  ended   : Bool
  deriving DecidableEq, Repr

/-- The link unit and drift learner: images changed and not yet durable (by handle), frames between steps 2 and 7, their next
number, acknowledgements due, a context command in progress as (journal request, handle), (SEQ, last bit) of the delivered
frames by 64 × handle + SEQ mod 64, DRL_LOST handles, the DRL windows watched, the contexts cached, most recently used first, and
the 28 header bytes of the acknowledgement last sealed for a context (R219). -/
structure LinkState where
  dirty   : List (Nat × List Byte)
  frames  : List LinkFrame
  nextId  : Nat
  acks    : List AckJob
  cmd     : Option (Nat × Nat)
  last    : SMap (Nat × Nat)
  lost    : List Nat
  watch   : List DrlWatch
  cache   : List Nat
  sealed  : SMap (List Byte)
  deriving DecidableEq, Repr

/-! ## Slot tables (ch. 08) -/

/-- A contention window (R210): its entry, table, lap and queue, opening and closing in units, whether it is open, t of the
next attempt, the status of an attempt that has ended, and whether serving has ended in it. -/
structure ConWin where
  entry  : Nat
  table  : Nat
  lap    : Nat
  queue  : Nat
  opens  : Nat
  closes : Nat
  isOpen : Bool
  t      : Nat
  trying : Bool
  status : Option Nat
  spent  : Bool
  deriving DecidableEq, Repr

/-- One ACC instance: the entries of both physical tables (32 bytes as a number, at table × 16,384 + index), the active table,
guards taken as (entry, lap, G, PRE_MODE as it acts), occurrences offered (or passed over) as (entry, lap), the offers, the
contention windows, attempts and exponent of each queue's descriptor at HEAD, and an edit in progress. -/
structure AccState where
  tab     : SMap Nat
  active  : Nat
  guards  : List (Nat × Nat × Nat × Nat)
  given   : List (Nat × Nat)
  offers  : List Occ
  wins    : List ConWin
  cq      : SMap (Nat × Nat)
  editing : Bool
  deriving DecidableEq, Repr

/-! ## The packet router (ch. 10) -/

/-- Where a pass sends a packet: a traffic-manager queue of a logical port, or a reception queue with its REASON. -/
inductive RtrDest where
  | port (p q : Nat)
  | rq (q reason : Nat)
  deriving DecidableEq, Repr

/-- What a pass's lookups left (R236, R241): its flags, destination, queued edits as action records in stage order, the template
named for a recirculation. -/
structure PassResult where
  drop   : Bool
  recirc : Bool
  tpl    : Option Nat
  dest   : Option RtrDest
  edits  : List (List Byte)
  deriving DecidableEq, Repr

/-- A packet in or before the router: its source (0 to 5 Ethernet, 6 host link, 7 an injection ring), ingress logical port,
version, PASS, ingress timestamp packed, bytes without FCS, the 32 metadata bytes, the template that an injection or a
recirculation names, and the result of the pass it is in. -/
structure Packet where
  source  : Nat
  inport  : Nat
  version : Nat
  pass    : Nat
  stamp   : Nat
  data    : List Byte
  info    : List Byte
  tpl     : Option Nat
  result  : Option PassResult
  deriving DecidableEq, Repr

/-- A table entry (R240, R247): stage, KIND of the stage as it was added (0 a default), key, mask, prefix length or index, action
record, ADD_VER, SETTLED, DEL_VER. -/
structure RtrEntry where
  stage   : Nat
  kind    : Nat
  key     : List Byte
  mask    : List Byte
  param   : Nat
  action  : List Byte
  addVer  : Nat
  settled : Bool
  delVer  : Option Nat
  deriving DecidableEq, Repr

/-- The router: packets waiting at the parser, in a pass (oldest first), and waiting to recirculate; the sources last served;
entries; live versions with their in-flight counts, current first; the commit NT of a pending commit; the code of an edit in
progress. -/
structure RtrState where
  waiting : List Packet
  inPass  : List Packet
  recirc  : List Packet
  source  : Nat
  ring    : Nat
  entries : List RtrEntry
  live    : List (Nat × Nat)
  commit  : Option Nat
  edit    : Option Nat
  deriving DecidableEq, Repr

/-! ## Traffic manager, Ethernet and host link (ch. 11) -/

/-- A frame in a queue: bytes without FCS and its NT of enqueue. -/
structure TmFrame where
  data : List Byte
  at_  : Nat
  deriving DecidableEq, Repr

/-- A queue (R255 to R259): TM_QCFG and TM_QSHAPE, DROPS, frames from the head, DEF, NEW, TAT in 2^-8 ns, the eligible time of a
parked queue in 2^-8 ns with whether it waits in the overflow ring, and what a sweep reports. -/
structure TmQueue where
  cfg      : Word
  shape    : Word
  drops    : Nat
  frames   : List TmFrame
  deficit  : Nat
  isNew    : Bool
  tat      : Nat
  parked   : Option (Nat × Bool)
  peak     : Nat
  lost     : Nat
  maxDelay : Nat
  deriving DecidableEq, Repr

/-- A frame leaving an Ethernet port: its TQ (0 to 3), bytes, the preamble's beginning and the end of the last bit in selected NT, its timestamp in
TS_DOM, and the address of its descriptor (TQ0, TQ1). -/
structure EthSend where
  tq    : Nat
  data  : List Byte
  start : Nat
  ends  : Nat
  stamp : Nat
  desc  : Option Nat
  deriving DecidableEq, Repr

/-- Traffic manager, MACs and host link: queues by global number; DRR pointers by port and strict turns by 4 × port + queue;
frames leaving by port, and the instants from which a port may begin again; slalom list memories (at (2 × j + memory) × 512 +
index), the memory in the active view, the start of the list in force, a pending start with its swap slot, the gate last entered; the tick of the last sample
sweep; the NT at which each TQ0 head came up and whether a step passed its preamble; wake pattern words; host memory as the link
reached it, the MSI-X table words and pending bits, the host ring served last; MODE of each port as its last start took it. -/
structure TmState where
  queues  : SMap TmQueue
  drr     : SMap Nat
  turns   : SMap Nat
  sends   : SMap (Option EthSend)
  freeAt  : SMap Nat
  gates   : SMap Nat
  active  : SMap Nat
  starts  : SMap Nat
  next    : SMap (Option (Nat × Nat))
  gateNow : SMap Nat
  wheelAt : Nat
  swept   : Nat
  tq0     : SMap (Option (Nat × Bool))
  wake    : SMap Word
  host    : SMap Byte
  msix    : SMap Word
  pba     : Nat
  hostRing : Nat
  modes   : SMap Nat
  deriving DecidableEq, Repr

/-! ## Ports (ch. 18) -/

/-- A serial descriptor in progress (R410): its scratchpad address, OP, target, WLEN, RLEN, BUF, and a stop asked for. -/
structure SerRun where
  at_    : Nat
  op     : Nat
  target : Nat
  wlen   : Nat
  rlen   : Nat
  buf    : Nat
  stop   : Bool
  deriving DecidableEq, Repr

/-- The pin block and the debug port (R410 to R412): descriptors by unit, the bytes each unit sent in its last transfer, the UART FIFOs
oldest first, the JTAG instruction register, GPIO levels captured and preloaded in the boundary-scan
register, and the tamper loops whose last check lay outside their window. -/
structure PinState where
  runs   : SMap (Option SerRun)
  sent   : SMap (List Byte)
  fifo   : SMap (List Byte)
  ir     : Byte
  scanIn : Word
  scanOut : Word
  tamp   : List Nat
  deriving DecidableEq, Repr

/-- The state of the module. Every register of the spec's register tables lives in regs under its physical
address (unlisted addresses hold the reset value of RegTable); shadow holds the shadow values of RWS fields (R46). -/
structure State where
  pending : List Instr
  ticks   : Nat
  cpuHalf : Nat
  freeCtr : Nat
  regs    : SMap Word
  shadow  : SMap Word
  bus     : BusState
  mem     : List Host.Cell
  time    : TimeState
  fabric  : List Pulse
  cores   : SMap Core
  eng     : SMap Engine
  kprMem  : SMap Byte
  tap     : List TapEvent
  pwr     : PwrState
  chains  : SMap Chain
  fem     : SMap FemState
  duty    : DutyState
  sup     : List SupReq
  lanes   : SMap Lane
  cap     : CapState
  arrays  : MemState
  rq      : RqState
  wd      : WdState
  arb     : ArbState
  ldg     : LdgState
  cph     : CphState
  kpr     : KprState
  lnk     : LinkState
  acc     : SMap AccState
  rtr     : RtrState
  tm      : TmState
  pin     : PinState
  deriving DecidableEq, Repr

/-- Reasons the machine stops. -/
inductive Fault where
  /-- Raised by no meaning of this model: the spec ends every failure of the module in a status code, a
  latch, a power state or an exception, all of which are next states. Safe. -/
  | none
  deriving DecidableEq, Repr

/-- Reasons a command is turned away. -/
inductive Refusal where
  /-- A command that has no meaning yet; used by the dispatch alone. Safe. -/
  | notModelled (mnemonic : String)
  deriving DecidableEq, Repr

/-- A core as it is held in reset (R90); control cores, slot engines and the Keeper start at supervisor level. -/
def Core.reset (sup : Bool) : Core :=
  { pc := 0, g := [], f := [], sup := sup, status := 0, fcsr := 0, evec := 0, epc := 0, ecause := 0, eaddr := 0,
    escratch := 0, ptroot := 0, ien := 0, ipend := 0, retired := 0, resv := none, mode := .run, haltOnBreak := false, tlb := [], badStores := [], cycle0 := 0, cycleSeen := 0 }

/-- A slot engine after power-on reset of its domain. -/
def Engine.reset : Engine :=
  { lm := [], active := 0, latches := 0, wait := .none, lateNext := false, posts := [], cycle := 0 }

/-- A domain after Off: coarse at NT 0.000000000 (R74). -/
def NtDomain.reset : NtDomain := { sec := 0, ns := 0, frac := 0, start := 0, len := 0, counted := 0, adj := none }

/-- An output that has made no edge. -/
def OutState.reset : OutState := { last := none, active := false, edge := 0, endAt := 0, sent := none }

/-- Network time after power-on (R58, R74): both domains at 0, the offset 0, the rate scale nominal. -/
def TimeState.reset : TimeState :=
  { a := NtDomain.reset, b := NtDomain.reset, offset := 0, swReq := none, selFrom := 0, selLen := 0, selCount := 0, slept := 0,
    rho := { old := 0x500000000, new := 0x500000000, since := 0 },
    refEver := false, pllHeld := false, refSince := 0, tod0 := [], tod1 := [], todLine := [], outs := [], jumps := [] }

/-- A chain after power-on: nothing queued, its synthesiser at channel 0, not locked. -/
def Chain.reset : Chain :=
  { queue := [], act := none, listen := none, chan := 0, width := 0, moving := false, locked := false, lockAt := 0,
    lastEnd := none, lastTx := false, lastWin := false, trims := [], calOld := none, aborts := [], sent := [], winEnd := none,
    rxEnd := none, after := none }

/-- An ACC instance with empty tables. -/
def AccState.reset : AccState :=
  { tab := [], active := 0, guards := [], given := [], offers := [], wins := [], cq := [], editing := false }

/-- The ledger of a module at manufacture: nothing written, JSEQ 1 next (R333). -/
def LdgState.reset : LdgState :=
  { mram := [], ring := [], head := 0, tail := 0, next := 1, applied := 1, nand := [], blocks := [], filling := none,
    progs := [], ckpts := [], calRecs := [], wrong := [], sectors := [], indexRebuild := false, mapRebuild := false,
    closeCause := 0, settling := [], rewritten := [], tags := [], scrubAt := 0 }

/-- The router after power-on: empty tables but for the default entry of each stage, version 0 alone live (R240, R245). -/
def RtrState.reset : RtrState :=
  { waiting := [], inPass := [], recirc := [], source := 7, ring := 7,
    entries := (List.range 6).map (fun i => ⟨i, 0, [], [], 0, List.replicate 32 0, 0, false, none⟩),
    live := [(0, 0)], commit := none, edit := none }

/-- A queue that holds nothing: WEIGHT 1, LIMIT 0x400, unshaped. -/
def TmQueue.reset : TmQueue :=
  { cfg := 0x01000400, shape := 0, drops := 0, frames := [], deficit := 0, isNew := true, tat := 0, parked := none, peak := 0,
    lost := 0, maxDelay := 0 }

/-- The traffic manager and the links after power-on: every MSI-X vector masked. -/
def TmState.reset : TmState :=
  { queues := [], drr := [], turns := [], sends := [], freeAt := [], gates := [], active := [], starts := [], next := [],
    gateNow := [], wheelAt := 0, swept := 0, tq0 := [], wake := [], host := [], msix := [], pba := 0, hostRing := 3, modes := [] }

/-- The machine right after power-on reset, in Full: every register at its reset value, nothing queued. -/
def State.reset : State :=
  { pending := [], ticks := 0, cpuHalf := 0, freeCtr := 0, regs := [], shadow := [],
    bus := { captures := [], latches := [], stalled := [], kprFaults := [], resp := none },
    mem := [], time := TimeState.reset, fabric := [], cores := [], eng := [], kprMem := [], tap := [],
    pwr := { goingDown := [], lastAccess := [], abandons := [], abandoned := [], booted := false, entry := none, timed := none,
             withdrawn := [], vin := false, ride := none, flushing := false, detach := none, safeLatch := false, cycled := false,
             detachLow := false, capAt := 0, crossed := [], detachDue := false, busWrites := [] },
    chains := [], fem := [], duty := { ring := [], nextId := 0, recalc := none, epoch := 0 }, sup := [],
    lanes := [], cap := { spans := [], recs := [] },
    arrays := { flips := [], retry := [], grain := 0, sentinel := 0, regions := [], swept := [], postponed := [], patrolAt := 0, borrowEnds := 0, refreshAt := [],
                sweepEnds := [], delays := [] },
    rq := { recs := [], nextId := 0, stash := [], seqs := [], qDrain := [], pDrain := [], popped := [] },
    wd := { waiting := [], held := [], running := [], asking := [] },
    arb := { reqs := [], nextId := 0, holds := [], opened := [], closing := [], cuts := [] },
    ldg := LdgState.reset,
    cph := { kek := none, disarmed := false, slots := [], cache := [], ctrs := [], table := (0, 0), pipes := [] },
    kpr := { passes := [], check := none, keys := [], floors := [], timeFloor := 0, foreign := [], bellAt := none,
             kickAt := 0, trialAt := none, heldAt := none, snow := none, cycles := [], latched := false, nextMsg := 0 },
    lnk := { dirty := [], frames := [], nextId := 0, acks := [], cmd := none, last := [], lost := [], watch := [], cache := [], sealed := [] },
    acc := [],
    rtr := RtrState.reset, tm := TmState.reset,
    pin := { runs := [], sent := [], fifo := [], ir := 1, scanIn := 0, scanOut := 0, tamp := [] } }

end Sys2Proof.Machine
end

