-- ==== Sys2Proof/Machine/Ops.lean ====
section
/-!
DEFINITION. The named operations over the state that every family uses: registers and fields, status codes, the
map, memory, network-time readings, event pulses, free values.
-/
namespace Sys2Proof.Machine

/-- The answer of a meaning. -/
abbrev Out := Host.Outcome State Fault Refusal

/-- Status codes (Table 02-8). -/
inductive Status where
  | ok | late | refusedRegulatory | busy | noBuffer | authFail | counterExhausted | domainOff | noRight
  | versionRetired | duplicate | tooShort | tooLong | aborted | cutOff | order | lateStart | fault
  deriving DecidableEq, Repr

/-- The 8-bit code of a status (R42). -/
def Status.code : Status → Nat
  | .ok => 0x00 | .late => 0x01 | .refusedRegulatory => 0x02 | .busy => 0x03 | .noBuffer => 0x04 | .authFail => 0x05
  | .counterExhausted => 0x06 | .domainOff => 0x07 | .noRight => 0x08 | .versionRetired => 0x09 | .duplicate => 0x0A
  | .tooShort => 0x0B | .tooLong => 0x0C | .aborted => 0x0D | .cutOff => 0x0E | .order => 0x0F | .lateStart => 0x10
  | .fault => 0x11

/-! ## The map -/

/-- Start of the register range (Table 02-1). -/
def regBase : Nat := 0x8000000000
/-- End of the register range, exclusive. -/
def regEnd : Nat := 0x8000260000
/-- Address of instance i of map entry e (R38). -/
def blockAddr (e i : Nat) : Nat := 0x8000000000 + 0x10000 * e + 0x1000 * i

/-- A place that a register address names: entry, instance, whether the shadow view, and the offset in the
active view. -/
structure RegPlace where
  entry  : Nat
  inst   : Nat
  shadow : Bool
  off    : Nat
  deriving DecidableEq, Repr

/-- The map entry with this index. -/
def mapEntry (n : Nat) : Option MapEntry := mapEntries[n]?

/-- The place an address names, or none where no granule is mapped (R35, R46). -/
def locate (a : Nat) : Option RegPlace :=
  if a < regBase ∨ regEnd ≤ a then none else
  let n := (a - regBase) / 0x10000
  let o := (a - regBase) % 0x10000
  match mapEntry n with
  | none => none
  | some e =>
    let i := if e.insts = 1 then 0 else o / 0x1000
    let r := if e.insts = 1 then o else o % 0x1000
    if i < e.insts ∧ r < e.granules * 0x1000 then
      let sh := e.shadow && bitOf r 11
      some { entry := n, inst := i, shadow := sh, off := if sh then r - 0x800 else r }
    else none

/-- The indices (k, j) at which a register description covers an offset. -/
def RegSpec.index (r : RegSpec) (off : Nat) : Option (Nat × Nat) :=
  if off < r.off then none else
  let d := off - r.off
  let k := if r.s1 = 0 then 0 else d / r.s1
  let m := if r.s1 = 0 then d else d % r.s1
  let j := if r.s2 = 0 then 0 else m / r.s2
  let q := if r.s2 = 0 then m else m % r.s2
  if k < r.n1 ∧ j < r.n2 ∧ q = 0 then some (k, j) else none

/-- The first description of a list that covers an offset in an instance. -/
def findSpec (inst off : Nat) : List RegSpec → Option (RegSpec × Nat × Nat)
  | [] => none
  | r :: rs =>
    match (if r.only0 && inst != 0 then none else r.index off) with
    | some (k, j) => some (r, k, j)
    | none => findSpec inst off rs

/-- The register at a place: its description and indices; none where the offset holds no register (R39). -/
def regAt (p : RegPlace) : Option (RegSpec × Nat × Nat) :=
  match mapEntry p.entry with
  | none => none
  | some e => findSpec p.inst p.off e.regs

/-- Nominal rail value of voltage monitor j (Table 16-8) as shipped limits (LOW, HIGH); the limits are the nominal
value less and plus 5 %, but for VIN and the hold-up bank, and the CPU rail takes its range's ends. -/
def voltShipped (j : Nat) : Nat × Nat :=
  match j with
  | 0 => (2250, 15000) | 1 => (11250, 12500) | 2 => (712, 787) | 3 => (712, 787) | 4 => (617, 945)
  | 5 => (760, 840) | 6 => (807, 892) | 7 => (760, 840) | 8 => (1710, 1890) | 9 => (1045, 1155) | 10 => (570, 630)
  | 11 => (1140, 1260) | 12 => (3135, 3465) | 13 => (1710, 1890) | 14 => (855, 945) | 15 => (1140, 1260)
  | 16 => (1710, 1890) | 17 => (1710, 1890) | 18 => (1710, 1890) | 19 => (1140, 1260) | 20 => (3135, 3465)
  | 21 => (1710, 1890) | 22 => (3135, 3465) | _ => (1710, 1890)

/-- HIGH as shipped of temperature monitor i, in 0.125 °C (Table 16-7, the -I ordering code for monitor 14). -/
def tempShipped (i : Nat) : Nat := if i ≤ 9 then 920 else if i ≤ 11 then 840 else if i ≤ 14 then 760 else 840

/-- Reset value of a field; the rows whose reset depends on the instance or on the shipped settings come first. -/
def fieldReset (p : RegPlace) (r : RegSpec) (k : Nat) (f : FieldSpec) : Nat :=
  match p.entry, r.off, f.lsb with
  | 18, 0x20, 31 => b2n (k = 0)
  | 18, 0x800, 31 => b2n (k ≤ 6)
  | 19, 0x200, 0 => if k ≤ 5 then 0x14 else 0
  | 20, 0x0, 0 => if p.inst ≤ 1 then 0b10 else 0b00
  | 33, 0x80, 30 => if k ≤ 9 then 1 else if k = 14 then 2 else 0
  | 33, 0x80, 12 => tempShipped k
  | 33, 0x180, 31 => b2n (k = 2 ∨ k = 3 ∨ k = 20 ∨ k = 23)
  | 33, 0x180, 16 => (voltShipped k).2
  | 33, 0x180, 0 => (voltShipped k).1
  | _, _, _ => f.reset

/-- The word a register holds at reset, from its fields (R14). -/
def specReset (p : RegPlace) (r : RegSpec) (k : Nat) : Word :=
  r.fields.foldl (fun w f => setBits w f.msb f.lsb (fieldReset p r k f)) 0

/-- What the register at an address holds while nothing has changed it. -/
def resetWord (a : Nat) : Word :=
  match locate a with
  | none => 0
  | some p =>
    match regAt p with
    | none => 0
    | some (r, k, _) => specReset p r k

/-! ## Registers and fields -/

/-- The current word of the register at an address. -/
def State.reg (s : State) (a : Nat) : Word := SMap.get resetWord s.regs a
/-- Replace the word of a register. -/
def State.setReg (s : State) (a : Nat) (w : Word) : State := { s with regs := SMap.set resetWord s.regs a w }
/-- The shadow word of a register (R46). -/
def State.shw (s : State) (a : Nat) : Word := SMap.get resetWord s.shadow a
/-- Replace the shadow word of a register. -/
def State.setShw (s : State) (a : Nat) (w : Word) : State := { s with shadow := SMap.set resetWord s.shadow a w }
/-- The value of a field. -/
def State.fld (s : State) (f : FRef) : Nat := getBits (s.reg f.addr) f.msb f.lsb
/-- Set a field (hardware's own change). -/
def State.setFld (s : State) (f : FRef) (v : Nat) : State := s.setReg f.addr (setBits (s.reg f.addr) f.msb f.lsb v)
/-- A one-bit field as a truth value. -/
def State.bit (s : State) (f : FRef) : Bool := s.fld f != 0
/-- Count n in a counter field that saturates at all ones. -/
def State.count (s : State) (f : FRef) (n : Nat := 1) : State :=
  s.setFld f (satAdd (2 ^ (f.msb + 1 - f.lsb) - 1) (s.fld f) n)
/-- Count one in a counter field that wraps. -/
def State.countWrap (s : State) (f : FRef) : State := s.setFld f (s.fld f + 1)
/-- A value made of a low 32-bit register and bits of the next. -/
def State.wide2 (s : State) (lo hi : FRef) : Nat := s.fld lo + 2 ^ 32 * s.fld hi

/-! ## Functions (R52) -/

/-- FN_CTL[f].EN of an entry's instance. -/
def fnCtl (e i f : Nat) : FRef := ⟨blockAddr e i + 0x80 + 4 * f, 0, 0⟩
/-- FN_STAT[f].STATE. -/
def fnState (e i f : Nat) : FRef := ⟨blockAddr e i + 0xC0 + 4 * f, 2, 0⟩
/-- FN_STAT[f].RESTART_PENDING. -/
def fnRestart (e i f : Nat) : FRef := ⟨blockAddr e i + 0xC0 + 4 * f, 4, 4⟩
/-- FN_STAT[f].LAST_STATUS. -/
def fnLast (e i f : Nat) : FRef := ⟨blockAddr e i + 0xC0 + 4 * f, 31, 24⟩
/-- The function is on. -/
def State.fnOn (s : State) (e i f : Nat) : Bool := s.fld (fnState e i f) == 2
/-- The function is off. -/
def State.fnOff (s : State) (e i f : Nat) : Bool := s.fld (fnState e i f) == 0

/-! ## Events and free values -/

/-- Enter a pulse on a line into the event fabric; two pulses of one line on one tick are one (R122). -/
def State.pulse (s : State) (line : Nat) : State :=
  if s.fabric.any (fun p => p.line == line && p.tick == s.ticks) then s
  else { s with fabric := s.fabric ++ [⟨line, s.ticks⟩] }
/-- Pulse a free line, EV64 to EV255; other numbers pulse nothing (R123). -/
def State.pulseFree (s : State) (line : Nat) : State := if 64 ≤ line ∧ line ≤ 255 then s.pulse line else s
/-- The next free value, below n bits (log entry 3). -/
def State.free (s : State) (bits : Nat) : Nat := Config.freeNat s.freeCtr % 2 ^ bits
/-- The state with the free value taken. -/
def State.takeFree (s : State) : State := { s with freeCtr := s.freeCtr + 1 }

/-! ## Network time -/

/-- Units of 2^-32 ns in a second. -/
def secU : Nat := 1000000000 * 2 ^ 32
/-- Units in a nanosecond. -/
def nsU : Nat := 2 ^ 32
/-- Units in a microsecond. -/
def usU : Nat := 1000 * 2 ^ 32
/-- All NT values: seconds wrap at 2^48 (R54). -/
def ntMod : Nat := 2 ^ 48 * secU
/-- The counter of a domain as one number of units. -/
def NtDomain.units (d : NtDomain) : Nat := d.sec * secU + d.ns * nsU + d.frac
/-- A domain with its counter set from a number of units. -/
def NtDomain.setUnits (d : NtDomain) (u : Nat) : NtDomain :=
  { d with sec := u / secU % 2 ^ 48, ns := u % secU / nsU, frac := u % nsU }
/-- Domain A (0) or B (1). -/
def State.dom (s : State) (d : Nat) : NtDomain := if d = 0 then s.time.a else s.time.b
/-- Replace a domain. -/
def State.setDom (s : State) (d : Nat) (x : NtDomain) : State :=
  if d = 0 then { s with time := { s.time with a := x } } else { s with time := { s.time with b := x } }
/-- The selected domain, TSEL_STAT.CUR. -/
def State.cur (s : State) : Nat := s.fld F.TSEL_STAT_CUR
/-- The selected NT (R62): NT of the selected domain plus the offset. -/
def State.now (s : State) : Nat := (((s.dom s.cur).units + s.time.offset) % (ntMod : Int)).toNat
/-- A domain is coarse (R58). -/
def State.coarseDom (s : State) (d : Nat) : Bool := s.bit (F.NT_STAT_COARSE d)
/-- The selected NT is coarse. -/
def State.coarse (s : State) : Bool := s.coarseDom s.cur
/-- NT_INCR of a domain. -/
def State.incr (s : State) (d : Nat) : Nat := s.wide2 (F.NT_INCR_LO_INCR_LO d) (F.NT_INCR_HI_INCR_HI d)
/-- Seconds of an NT in units. -/
def ntSec (u : Nat) : Nat := u / secU
/-- Nanoseconds of an NT in units. -/
def ntNs (u : Nat) : Nat := u % secU / nsU
/-- Fraction of an NT in units of 2^-16 ns (R8). -/
def ntFrac (u : Nat) : Nat := u % nsU / 2 ^ 16
/-- The packed form of an NT: (seconds mod 2^32) × 2^32 + nanoseconds (R116). -/
def packNt (u : Nat) : Nat := ntSec u % 2 ^ 32 * 2 ^ 32 + ntNs u
/-- The whole second S (48 bits) of a 32-bit seconds part, within 2^31 s of the NT now (R116). -/
def extendSec (now part : Nat) : Nat :=
  let cand := ntSec now / 2 ^ 32 * 2 ^ 32 + part % 2 ^ 32
  if ntSec now + 2 ^ 31 < cand then (cand + 2 ^ 48 - 2 ^ 32) % 2 ^ 48
  else if cand + 2 ^ 31 < ntSec now then (cand + 2 ^ 32) % 2 ^ 48
  else cand
/-- A packed target as units against the NT now; nanoseconds above 999,999,999 carry (R116). -/
def packedTarget (now packed : Nat) : Nat :=
  extendSec now (packed / 2 ^ 32) * secU + packed % 2 ^ 32 * nsU
/-- A packed NT with a fraction in 2^-16 ns. -/
def packedTargetF (now packed frac : Nat) : Nat := packedTarget now packed + frac % 2 ^ 16 * 2 ^ 16
/-- The network time counted since power-on, steps and loads left out: durations in seconds and their subdivisions are
measured on it (R7, log entry 94). -/
def State.clock (s : State) : Nat := s.time.selCount
/-- Counted NT of a number of milliseconds. -/
def msU (ms : Nat) : Nat := ms * 1000 * usU

/-! ## Memory (Table 02-1, R10) -/

/-- What a byte of memory that nothing has written reads as (log entry 4). -/
def memDefault (_ : Nat) : Byte := 0
/-- A byte of DRAM, scratchpad or mailbox memory at its physical address. -/
def State.byte (s : State) (a : Nat) : Byte := SMap.get memDefault s.mem a
/-- Write one byte. -/
def State.setByte (s : State) (a : Nat) (b : Byte) : State := { s with mem := SMap.set memDefault s.mem a b }
/-- The n bytes that memory holds from an address, in rising order. -/
def State.stored (s : State) (a : Nat) : Nat → List Byte
  | 0 => []
  | n + 1 => s.byte a :: s.stored (a + 1) n
/-- Write bytes in rising order. -/
def State.setBytes (s : State) (a : Nat) : List Byte → State
  | [] => s
  | b :: bs => (s.setByte a b).setBytes (a + 1) bs
/-- Write an n-byte little-endian number. -/
def State.wrLe (s : State) (a n v : Nat) : State := s.setBytes a (leBytes n v)
/-- DRAM. -/
def isDram (a : Nat) : Bool := a < 0x200000000
/-- The scratchpad. -/
def isSpad (a : Nat) : Bool := 0x4000000000 ≤ a && a < 0x4000800000
/-- The mailbox banks. -/
def isMbox (a : Nat) : Bool := 0x4000800000 ≤ a && a < 0x4000840000
/-- The bit-set alias window. -/
def isBitSet (a : Nat) : Bool := 0x4100000000 ≤ a && a < 0x4100800000
/-- The bit-clear alias window. -/
def isBitClear (a : Nat) : Bool := 0x4200000000 ≤ a && a < 0x4200800000
/-- The register range. -/
def isReg (a : Nat) : Bool := regBase ≤ a && a < regEnd
/-- Start of the scratchpad. -/
def spadBase : Nat := 0x4000000000

/-! ## Codes (R275, R292) -/

/-- Replace the memory arrays' state. -/
def State.setArrays (s : State) (a : MemState) : State := { s with arrays := a }
/-- Wrong bits in the aligned 8-byte word that holds an address. -/
def State.wrongBits (s : State) (a : Nat) : Nat := SMap.get (fun _ => 0) s.arrays.flips (a / 8 * 8)
/-- Set the wrong bits of a word. -/
def State.setWrong (s : State) (a n : Nat) : State :=
  s.setArrays { s.arrays with flips := SMap.set (fun _ => 0) s.arrays.flips (a / 8 * 8) n }

/-- The ECC region of DRAM that holds an address, as (base, size). -/
def State.eccRegion (s : State) (a : Nat) : Option (Nat × Nat) :=
  s.arrays.regions.find? (fun r => decide (r.1 ≤ a) && decide (a < r.1 + r.2))
/-- The address lies in the last eighth of a region, which holds codes. -/
def State.inCodes (s : State) (a : Nat) : Bool :=
  match s.eccRegion a with
  | some (b, n) => decide (b + n / 8 * 7 ≤ a)
  | none => false
/-- An address whose words carry a code. -/
def State.coded (s : State) (a : Nat) : Bool := if isDram a then (s.eccRegion a).isSome else true

/-- Log a word of the scratchpad or mailbox banks in SPM_ERR when it holds none. -/
def State.logSpm (s : State) (a : Nat) (ue march : Bool) : State :=
  if s.bit F.SPM_ERR_VALID then s else
  (((s.setFld F.SPM_ERR_VALID 1).setFld F.SPM_ERR_UE (b2n ue)).setFld F.SPM_ERR_MARCH (b2n march)).setFld
    F.SPM_ERR_OFFSET ((a - spadBase) / 8 * 8)
/-- Log a DRAM word in DMC_ERR when it holds none. -/
def State.logDmc (s : State) (a : Nat) (ue : Bool) : State :=
  if s.bit F.DMC_ERR_HI_VALID then s else
  (((s.setFld F.DMC_ERR_HI_VALID 1).setFld F.DMC_ERR_HI_UE (b2n ue)).setFld F.DMC_ERR_LO_ADDR (a / 8 * 8)).setFld
    F.DMC_ERR_HI_ADDR (a / 2 ^ 32)

/-- A single wrong bit was corrected and written back: CE. -/
def State.corrected (s : State) (a : Nat) : State :=
  let s1 := s.setWrong a 0
  if isDram a then ((s1.count F.DMC_COUNT_CE).setFld F.DMC_STAT_CE 1).logDmc a false
  else ((s1.count F.SPM_COUNT_CE).setFld F.SPM_STAT_CE 1).logSpm a false false
/-- Two wrong bits were read: UE. -/
def State.uncorrectable (s : State) (a : Nat) : State :=
  if isDram a then ((s.count F.DMC_COUNT_UE).setFld F.DMC_STAT_UE 1).logDmc a true
  else ((s.count F.SPM_COUNT_UE).setFld F.SPM_STAT_UE 1).logSpm a true false

/-- Check the word behind an access that reads it: corrected, or FAULT. -/
def State.checkWord (s : State) (a : Nat) : State × Bool :=
  if !s.coded a then (s, true)
  else if s.wrongBits a = 0 then (s, true)
  else if s.wrongBits a = 1 then (s.corrected a, true)
  else (s.uncorrectable a, false)

/-! ## Accesses of the engines (R275, R292, R44) -/

/-- DRAM cannot be reached: PD_DMC is powered and MEM is not on (R292). -/
def State.memOff (s : State) (a : Nat) : Bool := isDram a && bitOf (s.fld F.PWR_DOMAINS_ON) 11 && !s.fnOn 24 0 0
/-- An access to an address completes with a failure: the codes of a region, DRAM while MEM is not on, a word with two wrong
bits. -/
def State.shut (s : State) (a : Nat) : Bool := s.inCodes a || s.memOff a || (s.coded a && decide (2 ≤ s.wrongBits a))
/-- The byte that a read of an engine, a fetch or a walk gets: all ones where the access fails (R44). -/
def State.readByte (s : State) (a : Nat) : Byte := if s.shut a then 0xFF else s.byte a
/-- The n bytes that a read gets, in rising order. -/
def State.bytes (s : State) (a : Nat) : Nat → List Byte
  | 0 => []
  | n + 1 => s.readByte a :: s.bytes (a + 1) n
/-- The n-byte little-endian number that a read gets. -/
def State.rdLe (s : State) (a n : Nat) : Nat := leNat (s.bytes a n)

/-- What a read of bytes a to a + n − 1 does to a word with wrong bits: one is corrected and written back, two count UE. -/
def State.seenWord (s : State) (a n : Nat) (x : Nat × Nat) : State :=
  if n = 0 ∨ x.1 + 8 ≤ a ∨ a + n ≤ x.1 ∨ s.coded x.1 = false then s else if x.2 = 1 then s.corrected x.1 else s.uncorrectable x.1
/-- Bytes a to a + n − 1 have been read: every word with wrong bits among them is dealt with. -/
def State.seen (s : State) (a n : Nat) : State := s.arrays.flips.foldl (fun (s : State) x => s.seenWord a n x) s
/-- What a store of bytes a to a + n − 1 does to a word with wrong bits: one stored whole is rewritten; one merged is read first. -/
def State.mendWord (s : State) (a n : Nat) (x : Nat × Nat) : State :=
  if a ≤ x.1 ∧ x.1 + 8 ≤ a + n then s.setWrong x.1 0 else s.seenWord a n x
/-- Bytes a to a + n − 1 are about to be stored. -/
def State.mend (s : State) (a n : Nat) : State := s.arrays.flips.foldl (fun (s : State) x => s.mendWord a n x) s
/-- Write bytes in rising order, those whose access fails left as they are. -/
def State.fill (s : State) (a : Nat) : List Byte → State
  | [] => s
  | b :: bs => (if s.shut a then s else s.setByte a b).fill (a + 1) bs

/-! ## Cores and engines -/

/-- Core c as the table holds it; cores not yet changed are as held in reset (R90): work cores at user level. -/
def coreReset (c : Nat) : Core := Core.reset (!(4 ≤ c && c ≤ 19))
/-- Core number c. -/
def State.core (s : State) (c : Nat) : Core := SMap.get coreReset s.cores c
/-- Replace a core. -/
def State.setCore (s : State) (c : Nat) (x : Core) : State := { s with cores := SMap.set coreReset s.cores c x }
/-- Slot engine e: 0 SE-S, 1 SE-M, 2 SE-H. -/
def State.engine (s : State) (e : Nat) : Engine := SMap.get (fun _ => Engine.reset) s.eng e
/-- Replace a slot engine. -/
def State.setEngine (s : State) (e : Nat) (x : Engine) : State :=
  { s with eng := SMap.set (fun _ => Engine.reset) s.eng e x }
/-- General register r; g0 reads as zero (R77). -/
def Core.gr (c : Core) (r : Nat) : DWord := if r = 0 then 0 else SMap.get (fun _ => 0) c.g r
/-- Write general register r; a write to g0 is discarded (R77). -/
def Core.setG (c : Core) (r : Nat) (v : DWord) : Core :=
  if r = 0 then c else { c with g := SMap.set (fun _ => 0) c.g r v }
/-- Floating-point register r (R78). -/
def Core.fr (c : Core) (r : Nat) : DWord := SMap.get (fun _ => 0) c.f r
/-- Write floating-point register r. -/
def Core.setF (c : Core) (r : Nat) (v : DWord) : Core := { c with f := SMap.set (fun _ => 0) c.f r v }

/-- Half cycles of a core's clock in a tick: CPU at 300 MHz times the operating point in force plus 1, the Keeper at 100 MHz
(Table 01-7, R365). -/
def State.halfRate (s : State) (c : Nat) : Nat := if c = 23 then 1 else 3 * (s.fld F.PWR_DVFS_CUR + 1)
/-- Half cycles of a core's clock since power-on, counted at the last tick. -/
def State.halfCycles (s : State) (c : Nat) : Nat := if c = 23 then s.ticks else s.cpuHalf

/-! ## Stores and reservations (R87) -/

/-- The reservation of a core is on a granule that bytes a to a + n − 1 touch. -/
def Core.reserves (c : Core) (a n : Nat) : Bool :=
  match c.resv with
  | some (g, _) => decide (g * 64 < a + n) && decide (a < g * 64 + 64)
  | none => false

/-- Clear the reservations of every core but one that bytes a to a + n − 1 of the address map touch. The Keeper sees its own local
memory below the mailbox banks (R76), which no store to the map reaches. -/
def State.breakResv (s : State) (writer a n : Nat) : State :=
  (List.range 24).foldl (fun s c =>
    if c ≠ writer ∧ (c ≠ 23 ∨ isMbox a) ∧ (s.core c).reserves a n then s.setCore c { s.core c with resv := none } else s) s

/-- A store by a requester: the bytes, and the reservations it breaks. -/
def State.store (s : State) (writer a : Nat) (bs : List Byte) : State := (s.setBytes a bs).breakResv writer a bs.length
/-- The number under which engines of the die write memory; no core has it. -/
def engineId : Nat := 99
/-- Bytes written by an engine (R275): words with wrong bits are rewritten or merged, and an access that fails has no effect. -/
def State.put (s : State) (a : Nat) (bs : List Byte) : State :=
  ((s.mend a bs.length).fill a bs).breakResv engineId a bs.length
/-- An n-byte little-endian number written by an engine. -/
def State.putLe (s : State) (a n v : Nat) : State := s.put a (leBytes n v)
/-- Bytes a to a + n − 1 lie wholly in DRAM or wholly in the scratchpad. -/
def inNormal (a n : Nat) : Bool :=
  (isDram a && decide (a + n ≤ 0x200000000)) || (isSpad a && decide (a + n ≤ 0x4000800000))
/-- Bytes a to a + n − 1 lie wholly in the mailbox banks. -/
def inMbox (a n : Nat) : Bool := isMbox a && decide (a + n ≤ 0x4000840000)

/-! ## Role tags (R41, R113, R383) -/

/-- The tag of a requester: 0 O, 1 I, 2 M, 3 K. The Keeper has K, slot engines O; any other the highest ROLE among
the valid pass slots that grant it TAG, else O. -/
def roleFrom (s : State) (req : Nat) : Nat → Nat
  | 0 => 0
  | n + 1 =>
    let r := roleFrom s req n
    if s.bit (F.PASS_SLOT_VALID n) && s.fld (F.PASS_SLOT_CORE n) == req && bitOf (s.fld (F.PASS_SLOT_RIGHTS n)) 0
    then max r (s.fld (F.PASS_SLOT_ROLE n)) else r
/-- The role tag of a requester. -/
def State.role (s : State) (req : Nat) : Nat :=
  if req = 23 then 3 else if 20 ≤ req ∧ req ≤ 22 then 0 else roleFrom s req 8

end Sys2Proof.Machine
end

