-- ==== Sys2Proof/Machine/Access.lean ====
section
/-!
DEFINITION. How an access is judged and recorded (R35, R39 to R46, R76, R385): the power of domains, the outcomes of
Table 02-9, the failure capture, rights, field types, wide values, the audit tap.
-/
namespace Sys2Proof.Machine

/-! ## Power domains -/

/-- WAKE_US of a domain code (Table 02-6); 0 always on, 0xFFFF no wake on access. -/
def wakeUs (d : Nat) : Nat :=
  match d with
  | 0 | 1 => 0
  | 4 | 5 | 6 | 7 | 12 => 60
  | 9 => 80
  | 11 => 25
  | 13 | 14 | 15 => 400
  | _ => 0xFFFF

/-- The domains a domain requires (Table 01-8), by code. -/
def requires (d : Nat) : List Nat :=
  match d with
  | 0 => []
  | 1 | 2 | 8 => [0]
  | 10 => [8, 2]
  | 13 | 14 | 15 => [2, 8, 16, 12]
  | _ => [8]

/-- A domain is powered: its bit of PWR_DOMAINS.ON. -/
def State.powered (s : State) (d : Nat) : Bool := bitOf (s.fld F.PWR_DOMAINS_ON) d

/-- A powered-down domain that the Keeper lets wake on access (R43, R362). -/
def State.asleep (s : State) (d : Nat) : Bool :=
  !s.powered d && wakeUs d != 0 && wakeUs d != 0xFFFF && bitOf (s.fld F.PWR_SLEEP_PERMIT) d
    && (requires d).all s.powered

/-- Mark an access to a domain for the linger rule (R363). -/
def State.touchDomain (s : State) (d : Nat) : State :=
  { s with pwr := { s.pwr with lastAccess := SMap.set (fun _ => 0) s.pwr.lastAccess d s.clock } }

/-! ## The outcome of an access (Table 02-9) -/

/-- The domain that serves an address. -/
def domainOf (a : Nat) : Nat :=
  if isDram a then 11
  else if isReg a then (match locate a with | some p => (mapEntry p.entry).elim 8 MapEntry.pwr | none => 8)
  else 8

/-- An address a requester can reach at all, with an access size the place takes (R35, R39, R76, R83). -/
def mapped (req a size : Nat) : Bool :=
  a % size == 0 &&
  (if isReg a then size == 4 && (locate a).isSome
   else if 20 ≤ req ∧ req ≤ 22 then false
   else if req = 23 then isMbox a && isMbox (a + size - 1)
   else if req = 31 then (isSpad a || isMbox a)
   else isDram a || isSpad a || isMbox a || isBitSet a || isBitClear a)

/-- The block's REACH has the tag, and the host link may reach it (R38): KPR and KST are the Keeper's alone. -/
def reaches (req role a : Nat) : Bool :=
  match locate a with
  | none => true
  | some p => if p.entry = 34 ∨ p.entry = 29 then role == 3 && req != 31 else true

/-- How an access stands before the rights of Order 5. -/
inductive Verdict where
  | go
  | fail (code : Status)
  | stall
  deriving DecidableEq, Repr

/-- The first row of Table 02-9 that applies, Orders 1 to 4; to a slot engine a sleeping domain is held off (R45),
and DRAM answers DOMAIN_OFF while MEM is not on in a powered PD_DMC (ch. 12). -/
def State.judge (s : State) (req a size : Nat) : Verdict :=
  if !mapped req a size then .fail .fault
  else if !reaches req (s.role req) a then .fail .domainOff
  else
    let d := domainOf a
    if s.pwr.goingDown.contains d then (if 20 ≤ req ∧ req ≤ 22 then .fail .domainOff else .stall)
    else if isDram a && s.powered 11 && !s.fnOn 24 0 0 then .fail .domainOff
    else if s.powered d then .go
    else if s.asleep d then (if 20 ≤ req ∧ req ≤ 22 then .fail .domainOff else .stall)
    else .fail .domainOff

/-! ## Failures (R44) -/

/-- Capture a failed access in HIT_ACCERR_STATUS, with EV23 when VALID becomes 1. -/
def State.captureFailure (s : State) (req a : Nat) (write : Bool) (code : Status) : State :=
  if s.bit F.HIT_ACCERR_STATUS_VALID then s.setFld F.HIT_ACCERR_STATUS_OVERFLOW 1
  else
    ((((((s.setFld F.HIT_ACCERR_STATUS_WRITE (b2n write)).setFld F.HIT_ACCERR_STATUS_REQUESTER req).setFld
      F.HIT_ACCERR_STATUS_STATUS code.code).setFld F.HIT_ACCERR_STATUS_ADDR_HI (a / 2 ^ 32)).setFld
      F.HIT_ACCERR_ADDR_ADDR_LO a).setFld F.HIT_ACCERR_STATUS_VALID 1).pulse 23

/-- Answer an access: what its requester is told. -/
def State.answer (s : State) (req : Nat) (code : Status) (v : Nat) : State :=
  { s with bus := { s.bus with resp := some ⟨req, code.code, v⟩ } }

/-- A failed access: captured, logged by the Keeper or flagged by a slot engine, and answered with all ones. -/
def State.failAccess (s : State) (req a : Nat) (write : Bool) (code : Status) : State :=
  let s1 := s.captureFailure req a write code
  let s2 := if req = 23 then { s1 with bus := { s1.bus with kprFaults := s1.bus.kprFaults ++ [(a, code.code)] } }
    else if 20 ≤ req ∧ req ≤ 22 then s1.setFld (F.SE_STAT_ACCESS_FAULT (req - 20)) 1 else s1
  s2.answer req code 0xFFFFFFFF

/-! ## Rights and field types (R13, R15, R41) -/

/-- A rights mask holds a role tag. -/
def hasRight (mask role : Nat) : Bool := bitOf mask role

/-- The rights of a function's EN where the block's chapter narrows them (Table 02-19), by entry and function;
PORT functions of Radios S and M take I and M, MEM takes I, M and K, LEDGER K alone. -/
def fnRights (entry f : Nat) : Nat :=
  match entry with
  | 7 | 8 => if f = 0 then 7 else 6
  | 9 | 10 | 11 | 12 | 13 | 15 | 16 | 18 | 19 | 20 | 21 | 28 => 7
  | 24 => 14
  | 30 => 8
  | _ => 15

/-- The rights of a field at a place; FN_CTL.EN has those of its function. -/
def rightsOf (p : RegPlace) (r : RegSpec) (f : FieldSpec) : Nat :=
  if r.off = 0x80 ∧ (mapEntry p.entry).elim false MapEntry.fn then fnRights p.entry ((p.off - 0x80) / 4) else f.rights

/-- A write of v triggers a WO field's action: by a value other than 0; in LCK_FORCE every write acts, on TOKEN, or on ALL and CORE
when ALL is 1 (Table 13-11). -/
def triggers (r : RegSpec) (v : Word) (f : FieldSpec) : Bool :=
  if r.name == "LCK_FORCE" then bitOf v.toNat 13 == (f.lsb != 0) else getBits v f.msb f.lsb != 0

/-- A write of v touches a field (R41): it would change the value, or trigger a WO, W1C or W1S field's action. -/
def touches (r : RegSpec) (cur shw v : Word) (f : FieldSpec) : Bool :=
  let n := getBits v f.msb f.lsb
  match f.ty with
  | .rw => n != getBits cur f.msb f.lsb
  | .rws => n != getBits shw f.msb f.lsb
  | .wo => triggers r v f
  | .w1c | .w1s => n != 0
  | .ro | .rc => false

/-- Every field that the write touches may be written with this tag. -/
def rightsOk (p : RegPlace) (r : RegSpec) (role : Nat) (cur shw v : Word) : Bool :=
  r.fields.all (fun f => !touches r cur shw v f || hasRight (rightsOf p r f) role)

/-- The write uses a right above O: it touches a field whose Rights lack O (R384). -/
def usesHigherRight (p : RegPlace) (r : RegSpec) (cur shw v : Word) : Bool :=
  r.fields.any (fun f => touches r cur shw v f && !hasRight (rightsOf p r f) 0)

/-- The active word after a write in the active view: RW set, W1C cleared and W1S set bit by bit, others kept. -/
def applyActive (r : RegSpec) (cur v : Word) : Word :=
  r.fields.foldl (fun w f =>
    let n := getBits v f.msb f.lsb
    let c := getBits w f.msb f.lsb
    match f.ty with
    | .rw => setBits w f.msb f.lsb n
    | .w1c => setBits w f.msb f.lsb (c - (c &&& n))
    | .w1s => setBits w f.msb f.lsb (c ||| n)
    | .ro | .wo | .rc | .rws => w) cur

/-- The shadow word after a write in either view: RWS fields set (R13, R46). -/
def applyShadow (r : RegSpec) (shw v : Word) : Word :=
  r.fields.foldl (fun w f => if f.ty = .rws then setBits w f.msb f.lsb (getBits v f.msb f.lsb) else w) shw

/-- What a read of the active view returns from the current word: WO fields read 0 (R13). -/
def readActive (r : RegSpec) (cur : Word) : Word :=
  r.fields.foldl (fun w f => if f.ty = .wo then setBits w f.msb f.lsb 0 else w) cur

/-- What a read of the shadow view returns: shadow values of RWS fields, current values of the others (R46). -/
def readShadow (r : RegSpec) (cur shw : Word) : Word :=
  r.fields.foldl (fun w f => if f.ty = .rws then setBits w f.msb f.lsb (getBits shw f.msb f.lsb) else w)
    (readActive r cur)

/-- The word after a read clears its RC fields (R13). -/
def clearRc (r : RegSpec) (cur : Word) : Word :=
  r.fields.foldl (fun w f => if f.ty = .rc then setBits w f.msb f.lsb 0 else w) cur

/-! ## Wide values (R40) -/

/-- A group of registers that form one wide value: map entries, offsets of its parts from the lowest upward, and the
count and stride of its instances in the block. -/
structure WideRow where
  entries : List Nat
  offs    : List Nat
  count   : Nat
  stride  : Nat
  deriving DecidableEq, Repr

/-- The values wider than 32 bits of the register tables (log entry 9). -/
def wideRows : List WideRow :=
  [⟨[1], [0x100, 0x104], 8, 0x20⟩,
   ⟨[2], [0x08, 0x0C], 1, 0⟩,
   ⟨[2], [0x10, 0x14, 0x18, 0x1C], 1, 0⟩,
   ⟨[2], [0x28, 0x2C], 1, 0⟩,
   ⟨[2], [0x100, 0x104, 0x108, 0x10C], 5, 0x20⟩,
   ⟨[2], [0x240, 0x244], 1, 0⟩,
   ⟨[3], [0x10, 0x14, 0x18, 0x1C], 1, 0⟩,
   ⟨[3], [0x20, 0x24], 1, 0⟩,
   ⟨[4, 5, 6], [0x30, 0x34], 1, 0⟩,
   ⟨[4, 5, 6], [0x38, 0x3C], 1, 0⟩,
   ⟨[13], [0x20, 0x24], 1, 0⟩,
   ⟨[14], [0x38, 0x3C], 1, 0⟩] ++
  [⟨[19], [0x20, 0x24], 1, 0⟩,
   ⟨[19], [0x34, 0x38], 1, 0⟩,
   ⟨[20], [0x100, 0x104], 3, 0x10⟩,
   ⟨[21], [0x100, 0x104], 8, 0x10⟩,
   ⟨[23], [0x20, 0x24], 1, 0⟩,
   ⟨[23], [0x114, 0x118], 64, 0x20⟩,
   ⟨[24], [0x18, 0x1C], 1, 0⟩,
   ⟨[25], [0x10, 0x14], 1, 0⟩,
   ⟨[25], [0x40, 0x44], 1, 0⟩,
   ⟨[28], [0x10, 0x14], 1, 0⟩,
   ⟨[30], [0x18, 0x1C], 1, 0⟩,
   ⟨[35], [0x04, 0x20, 0x24, 0x28, 0x2C, 0x30, 0x34, 0x38, 0x3C], 1, 0⟩]

/-- The parts of the instance of a row that holds an offset. -/
def WideRow.parts (w : WideRow) (off : Nat) : Option (List Nat) :=
  let k := if w.stride = 0 then 0 else (off - w.offs.headD 0) / w.stride
  let ps := w.offs.map (· + k * w.stride)
  if k < w.count ∧ ps.contains off then some ps else none

/-- The wide value that a register belongs to: the addresses of its parts, lowest first. -/
def wideGroup (p : RegPlace) : Option (List Nat) :=
  (wideRows.findSome? (fun w => if w.entries.contains p.entry then w.parts p.off else none)).map
    (fun l => l.map (fun o => blockAddr p.entry p.inst + o))

/-- The requester's capture of the value whose lowest register is lo. -/
def State.captureOf (s : State) (req lo : Nat) : Option (List Word) :=
  (s.bus.captures.find? (fun c => c.1 == req && c.2.1 == lo)).map (fun c => c.2.2)
/-- Keep a capture of the higher parts. -/
def State.setCapture (s : State) (req lo : Nat) (ws : List Word) : State :=
  { s with bus := { s.bus with
      captures := (s.bus.captures.filter (fun c => !(c.1 == req && c.2.1 == lo))) ++ [(req, lo, ws)] } }
/-- The requester's latch of a lower part. -/
def State.latchOf (s : State) (req a : Nat) : Option Word :=
  (s.bus.latches.find? (fun c => c.1 == req && c.2.1 == a)).map (fun c => c.2.2)
/-- Fill a latch. -/
def State.setLatch (s : State) (req a : Nat) (w : Word) : State :=
  { s with bus := { s.bus with
      latches := (s.bus.latches.filter (fun c => !(c.1 == req && c.2.1 == a))) ++ [(req, a, w)] } }
/-- Empty the requester's latches of some parts. -/
def State.emptyLatches (s : State) (req : Nat) (as : List Nat) : State :=
  { s with bus := { s.bus with latches := s.bus.latches.filter (fun c => !(c.1 == req && as.contains c.2.1)) } }
/-- A reset of a requester's core clears its captures and latches. -/
def State.dropWide (s : State) (req : Nat) : State :=
  { s with bus := { s.bus with captures := s.bus.captures.filter (fun c => c.1 != req),
                               latches := s.bus.latches.filter (fun c => c.1 != req) } }

/-! ## Audit tap (R385) -/

/-- The tap holds 64 events. -/
def tapFull (s : State) : Bool := 64 ≤ s.tap.length

/-- The newest event takes a further write of the same register by the same requester in the same NT second. -/
def tapMerges (s : State) (req entry inst off : Nat) : Bool :=
  match s.tap.getLast? with
  | some e => e.kind == 0 && e.req == req && e.entry == entry && e.inst == inst && e.off == off
      && e.sec == ntSec s.now
  | none => false

/-- Capture a register write in the tap, or merge it into the newest event. -/
def State.tapWrite (s : State) (req role entry inst off value : Nat) : State :=
  if tapMerges s req entry inst off then
    match s.tap.getLast? with
    | some e => { s with tap := s.tap.dropLast ++ [{ e with value := value, count := satAdd 65535 e.count 1 }] }
    | none => s
  else
    { s with tap := s.tap ++ [⟨0, req, role, 0, entry, inst, off, value, ntSec s.now, 1⟩] }

/-- Capture a ledger command in the tap: its OP, INDEX and COUNT in the places of instance, offset and value. -/
def State.tapCommand (s : State) (req role status op index count : Nat) : State :=
  { s with tap := s.tap ++ [⟨1, req, role, status, 30, op, index, count, ntSec s.now, 1⟩] }

/-! ## Passes (R383) -/

/-- The pass behind a slot. -/
def State.passHeld (s : State) (n : Nat) : PassHeld := SMap.get (fun _ => ⟨0, 0, 0, 0, 0, 0, 0⟩) s.kpr.passes n
/-- PASS_ID behind the acting tag of a requester; 0 for none. -/
def State.passIdOf (s : State) (req : Nat) : Nat :=
  let r := s.role req
  ((List.range 8).find? (fun n => s.bit (F.PASS_SLOT_VALID n) && s.fld (F.PASS_SLOT_CORE n) == req
    && bitOf (s.fld (F.PASS_SLOT_RIGHTS n)) 0 && s.fld (F.PASS_SLOT_ROLE n) == r)).elim 0 (fun n => (s.passHeld n).id)


end Sys2Proof.Machine
end

