-- ==== Sys2Proof/Machine/NetTime.lean ====
section
/-!
DEFINITION. Network time (ch. 03): counting, steps and loads, the selector and its slew, the time PLL, captures, the
TOD receivers, and the launch outputs; and what writes of the NT and TSEL registers do.
-/
namespace Sys2Proof.Machine

/-! ## Counting -/

/-- One tick of a counter by R55: the three parts after adding NT_INCR. -/
def ntCount (incr : Nat) (d : NtDomain) : NtDomain :=
  let acc := d.ns * 2 ^ 32 + d.frac + incr
  let whole := decide (1000000000 * 2 ^ 32 ≤ acc)
  let acc' := if whole then acc - 1000000000 * 2 ^ 32 else acc
  { d with
    sec := if whole then (d.sec + 1) % 2 ^ 48 else d.sec
    ns := acc' / 2 ^ 32
    frac := acc' % 2 ^ 32
    start := d.units
    len := incr
    counted := d.counted + incr }

/-- The signed amount of a step in units: NS + FRAC / 65,536 ns (Table 03-12). -/
def Adj.amount (a : Adj) : Int := sgn 32 a.ns * (nsU : Int) + ((a.frac * 2 ^ 16 : Nat) : Int)

/-- The value a load sets, in units: its residue is 0 (R60). -/
def Adj.loaded (a : Adj) : Nat := (a.sec * secU + a.ns * nsU + a.frac * 2 ^ 16) % ntMod

/-- The magnitude of a step or load against what the domain would otherwise show (R59). -/
def Adj.magnitude (a : Adj) (shown : Nat) : Nat :=
  if a.load then ((a.loaded : Int) - shown).natAbs else a.amount.natAbs

/-- The code of a step or load on its tick (R59). -/
def Adj.decide (a : Adj) (fine : Bool) (limitNs shown : Nat) : Status :=
  if a.load && 999999999 < a.ns then .fault
  else if fine && !a.force && limitNs * nsU < a.magnitude shown then .noRight
  else .ok

/-- The signed change that a step or load makes to what the domain would otherwise show. -/
def Adj.delta (a : Adj) (shown : Nat) : Int := if a.load then (a.loaded : Int) - shown else a.amount

/-- A domain with a step or load applied to what it counted to. What a backward step takes off again is not reached by this
tick's count (R60, R61, log entry 95). -/
def NtDomain.adjusted (d : NtDomain) (a : Adj) : NtDomain :=
  let y := { d with len := ((d.len : Int) + min 0 (a.delta d.units)).toNat }
  if a.load then y.setUnits a.loaded else y.setUnits (((d.units : Int) + a.amount) % (ntMod : Int)).toNat

/-- The status of the last step or load, and the refusal marks with EV9 (R59, Table 05-3). -/
def State.adjStatus (s : State) (d : Nat) (code : Status) : State :=
  let s1 := s.setFld (F.NT_ADJ_CMD_STATUS d) code.code
  if code = .noRight then
    ((s1.setFld (F.NT_STAT_STEP_REFUSED d) 1).count (F.NT_STAT_STEP_REFUSALS d)).pulse 9
  else s1

/-- One tick of a domain: it counts, then its waiting step or load is decided and applied. -/
def State.tickDomain (s : State) (d : Nat) : State :=
  let x := ntCount (s.incr d) (s.dom d)
  match x.adj with
  | none => s.setDom d x
  | some a =>
    let code := a.decide (!s.coarseDom d) (s.fld (F.NT_STEP_LIMIT_LIMIT d)) x.units
    let y := if code = .ok then x.adjusted a else x
    (s.setDom d { y with adj := none }).adjStatus d code

/-! ## The selector (R62 to R64) -/

/-- SLEW_RATE in use: 0 acts as 1, values above 100 act as 100. -/
def slewRate (v : Nat) : Nat := if v = 0 then 1 else if 100 < v then 100 else v

/-- D of R64: what the offset moves on a tick, in units. -/
def State.slewStep (s : State) : Nat := s.incr s.cur * slewRate (s.fld F.TSEL_CTL_SLEW_RATE) / 10000000

/-- The offset after moving toward 0 by D. -/
def slewOffset (offset : Int) (d : Nat) : Int :=
  if offset.natAbs ≤ d then 0 else if 0 < offset then offset - d else offset + d

/-- The code of a switch to a domain (R63). -/
def State.switchCode (s : State) (target : Nat) : Status :=
  if s.coarseDom target && !s.coarse then .fault
  else if 2 * secU ≤ ((s.now : Int) - (s.dom target).units).natAbs then .fault
  else .ok

/-- The rate scale of R65 now, as an NT_INCR value: linear from the old to the new over 1.000 ms. -/
def State.rhoNow (s : State) : Nat :=
  let dt := s.clock - s.time.rho.since
  if msU 1 ≤ dt then s.time.rho.new
  else (((s.time.rho.old : Int) + ((s.time.rho.new : Int) - s.time.rho.old) * dt / (msU 1 : Int))).toNat

/-- The ratio of a synthesiser fed from TCK that is set to f, in units of 2^-32 of a TCK cycle of 200 MHz: multiplied by
the rate scale (R65). Sample clocks, channel centres and regulator switching frequencies are all such ratios (R29). -/
def State.synthRatio (s : State) (f : Nat) : Nat := f * 2 ^ 32 * s.rhoNow / (200000000 * 0x500000000)

/-- The scale starts toward the NT_INCR of the selected domain (R65). -/
def State.rescale (s : State) : State :=
  { s with time := { s.time with rho := { old := s.rhoNow, new := s.incr s.cur, since := s.clock } } }

/-- A switch request is decided: the offset keeps the selected NT where it is, or SEL reads back CUR; EV8. -/
def State.decideSwitch (s : State) (target : Nat) : State :=
  let code := s.switchCode target
  let s1 := ({ s with time := { s.time with swReq := none } }.setFld F.TSEL_STAT_LAST_STATUS code.code).pulse 8
  if code = .ok then
    let off : Int := (s.now : Int) - (s.dom target).units
    let s2 := ({ s1 with time := { s1.time with offset := off } }.setFld F.TSEL_STAT_CUR target)
    (s2.setFld F.TSEL_STAT_SLEWING (b2n (off != 0))).rescale
  else s1.setFld F.TSEL_CTL_SEL s.cur

/-! ## The tick (R55, R61, R64) -/

/-- The tick of a powered PD_TIME: both domains count and take their steps; the selected NT's count is kept; the offset slews; a
switch is decided; EV5 pulses for a whole second that a fine selected NT reaches by counting. -/
def State.tickOn (s : State) : State :=
  let c := s.cur
  let before := s.now
  let s1 := (s.tickDomain 0).tickDomain 1
  let off := slewOffset s1.time.offset s1.slewStep
  let len := (((s1.dom c).len : Int) + (off - s1.time.offset)).toNat
  let s2 := { s1 with time := { s1.time with offset := off, selFrom := before, selLen := len,
                                             selCount := s1.time.selCount + s.incr c } }
  let s3 := if !s2.coarse && (before + len) / secU != before / secU then s2.pulse 5 else s2
  match s3.time.swReq with
  | none => s3
  | some t => s3.decideSwitch t

/-- A domain while PD_TIME is off in Standby: coarse time counts on in its place, nominally 5 ns a tick (R74). -/
def NtDomain.coarseTick (d : NtDomain) : NtDomain :=
  { d.setUnits ((d.units + 5 * nsU) % ntMod) with start := d.units, len := 0 }

/-- A tick (R7). While PD_TIME is off, elapsed time passes at 5 ns a tick: in Standby on coarse time, in Off with NT lost (R74). -/
def State.tickTime (s : State) : State :=
  let s0 := { s with ticks := s.ticks + 1, cpuHalf := s.cpuHalf + s.halfRate 0 }
  if s.powered 2 then s0.tickOn
  else
    let t := { s0.time with selCount := s0.time.selCount + 5 * nsU }
    if s.fld F.PWR_STAT_STATE = 3 then { s0 with time := { t with a := t.a.coarseTick, b := t.b.coarseTick } }
    else { s0 with time := t }

/-- SLEW_END: the offset has reached 0; SLEWING clears with EV8 (R64, Table 05-3). -/
def State.slewEnd (s : State) : State :=
  if s.bit F.TSEL_STAT_SLEWING ∧ s.time.offset = 0 then (s.setFld F.TSEL_STAT_SLEWING 0).pulse 8 else s

/-! ## Register writes -/

/-- Lowest NT_INCR, nominal less 200 ppm (R56). -/
def incrMin : Nat := 0x4FFBE76C9
/-- Highest NT_INCR, nominal plus 200 ppm. -/
def incrMax : Nat := 0x500418937

/-- A whole NT_INCR as written: replaced by the nearer limit when out of range (R56). -/
def clampIncr (v : Nat) : Nat := if v < incrMin then incrMin else if incrMax < v then incrMax else v

/-- After a write of NT_INCR_HI: the limit in use is what the registers read, and the rate scale follows. -/
def State.afterIncr (s : State) (d : Nat) : State :=
  let v := s.incr d
  let w := clampIncr v
  let s1 := (s.setFld (F.NT_INCR_LO_INCR_LO d) w).setFld (F.NT_INCR_HI_INCR_HI d) (w / 2 ^ 32)
  let s2 := if w = v then s1 else s1.setFld (F.NT_STAT_INCR_CLAMPED d) 1
  if s2.cur = d then s2.rescale else s2

/-- A write of NT_CTL marks the domain coarse, or fine when MARK_FINE comes alone (R58). -/
def State.afterNtCtl (s : State) (d v : Nat) : State :=
  if bitOf v 1 then s.setFld (F.NT_STAT_COARSE d) 1
  else if bitOf v 0 then s.setFld (F.NT_STAT_COARSE d) 0
  else s

/-- A write of NT_ADJ_CMD: a step or load waits for the next tick (R59). -/
def State.afterAdjCmd (s : State) (req d v : Nat) : State :=
  let op := v % 4
  if op = 1 ∨ op = 2 then
    let a : Adj := ⟨op == 2, bitOf v 2, req, s.role req, s.passIdOf req, s.fld (F.NT_ADJ_FRAC_FRAC d), s.fld (F.NT_ADJ_NS_NS d),
      s.wide2 (F.NT_ADJ_SEC_LO_SEC_LO d) (F.NT_ADJ_SEC_HI_SEC_HI d)⟩
    s.setDom d { s.dom d with adj := some a }
  else s

/-- A write of TSEL_CTL: SEL other than CUR asks for a switch on the next tick (R63). -/
def State.afterTselCtl (s : State) : State :=
  let sel := s.fld F.TSEL_CTL_SEL
  { s with time := { s.time with swReq := if sel = s.cur then none else some sel } }

/-- The time PLL after a write of SRC (R57): TCXO, REF10, or REF10 with fallback. A write that leaves SRC as it acted changes
nothing in use. With 0b01 written while REF10 is absent it holds its last control value: ACTIVE then reads 1 where that value was
taken from REF10. A PLL that had already left REF10 for the TCXO holds the TCXO's ratio (log entry 96). -/
def State.afterRefSrc (s : State) (old : Word) : State :=
  let src := min 2 (s.fld F.TSEL_REF_SRC)
  let was := min 2 (getBits old 1 0)
  let present := s.bit F.TSEL_REF_REF_PRESENT
  if src = was then s
  else if src = 0 then (s.setFld F.TSEL_REF_ACTIVE 0)
  else if present then s.setFld F.TSEL_REF_ACTIVE 1
  else if src = 1 then { s with time := { s.time with pllHeld := s.time.refEver && s.bit F.TSEL_REF_ACTIVE } }
  else s.setFld F.TSEL_REF_ACTIVE 0

/-! ## The reference (R57) -/

/-- REF10 is lost: REF_LOST and EV7; with fallback TCK moves to the TCXO, with SRC 0b01 it holds its value. -/
def State.refLost (s : State) : State :=
  if !s.bit F.TSEL_REF_REF_PRESENT then s else
  let s1 := ((s.setFld F.TSEL_REF_REF_PRESENT 0).setFld F.TSEL_REF_REF_LOST 1).pulse 7
  if 2 ≤ s1.fld F.TSEL_REF_SRC then s1.setFld F.TSEL_REF_ACTIVE 0
  else { s1 with time := { s1.time with pllHeld := s1.bit F.TSEL_REF_ACTIVE } }

/-- REF10 becomes present; with SRC 0b01 the time PLL moves to it. -/
def State.refArrive (s : State) : State :=
  if s.bit F.TSEL_REF_REF_PRESENT then s else
  let s1 := s.setFld F.TSEL_REF_REF_PRESENT 1
  let s2 := { s1 with time := { s1.time with refEver := true, refSince := s1.clock, pllHeld := false } }
  if s2.fld F.TSEL_REF_SRC = 1 then s2.setFld F.TSEL_REF_ACTIVE 1 else s2

/-- REF10 present for 10 s continuously: with fallback the time PLL moves back to it. -/
def State.refReturn (s : State) : State :=
  if s.bit F.TSEL_REF_REF_PRESENT && 2 ≤ s.fld F.TSEL_REF_SRC && !s.bit F.TSEL_REF_ACTIVE
      && s.time.refSince + 10 * secU ≤ s.clock
  then s.setFld F.TSEL_REF_ACTIVE 1 else s

/-! ## Captures (R66, R67) -/

/-- An NT rounded to the nearest 62.5 ps, ties upward. -/
def captureRound (u : Int) : Nat := (((u + 2 ^ 27) / 2 ^ 28 * 2 ^ 28) % (ntMod : Int)).toNat

/-- Write an NT image of four registers from its FRAC register upward. -/
def State.setImage (s : State) (frac ns lo hi : FRef) (u : Nat) : State :=
  (((s.setFld frac (ntFrac u)).setFld ns (ntNs u)).setFld lo (ntSec u)).setFld hi (ntSec u / 2 ^ 32)

/-- Input k is enabled in an instance and takes an edge of this sense: as EDGE says on a PPS input; the leading edge of a frame,
a rising one, on TSYNC_IN (R70); the falling edge of a start bit on a TOD input (R67). -/
def State.capEnabled (s : State) (d k : Nat) (falling : Bool) : Bool :=
  s.bit (F.NT_IN_CFG_EN d k) && (if k < 2 then s.bit (F.NT_IN_CFG_EDGE d k) == falling else falling == decide (3 ≤ k))

/-- Latch the NT of an edge, phase/65,536 of a tick after the tick's NT, less IN_DELAY. -/
def State.captureDom (s : State) (d k : Nat) (phase : Nat) : State :=
  let u := captureRound (((s.dom d).units : Int) + ((s.incr d * phase / 2 ^ 16 : Nat) : Int)
    - sgn 32 (s.fld (F.NT_IN_DELAY_DELAY d k)) * 2 ^ 16)
  let s1 := s.setImage (F.NT_CAP_FRAC_FRAC d k) (F.NT_CAP_NS_NS d k) (F.NT_CAP_SEC_LO_SEC_LO d k)
    (F.NT_CAP_SEC_HI_SEC_HI d k) u
  let s2 := if s1.bit (F.NT_CAP_STAT_VALID d k) then s1.setFld (F.NT_CAP_STAT_OVERRUN d k) 1 else s1
  (s2.setFld (F.NT_CAP_STAT_VALID d k) 1).countWrap (F.NT_CAP_STAT_COUNT d k)

/-- Enter a pulse on the tick after this one (R66, R120). -/
def State.pulseNext (s : State) (line : Nat) : State :=
  if s.fabric.any (fun p => p.line == line && p.tick == s.ticks + 1) then s
  else { s with fabric := s.fabric ++ [⟨line, s.ticks + 1⟩] }

/-- A capture edge at an input: every instance that takes it captures, and its line pulses once. -/
def State.captureAt (s : State) (k : Nat) (falling : Bool) (phase : Nat) : State :=
  let c0 := s.capEnabled 0 k falling
  let c1 := s.capEnabled 1 k falling
  let s1 := if c0 then s.captureDom 0 k phase else s
  let s2 := if c1 then s1.captureDom 1 k phase else s1
  if c0 || c1 then s2.pulseNext k else s2

/-- The FIFO of a TOD receiver. -/
def State.tod (s : State) (m : Nat) : List (Byte × Bool) := if m = 0 then s.time.tod0 else s.time.tod1
/-- Replace the FIFO of a TOD receiver. -/
def State.setTod (s : State) (m : Nat) (l : List (Byte × Bool)) : State :=
  if m = 0 then { s with time := { s.time with tod0 := l } } else { s with time := { s.time with tod1 := l } }

/-- A TOD receiver is enabled: EN with a BAUD in range (Table 03-25). -/
def State.todOn (s : State) (m : Nat) : Bool :=
  s.bit (F.NT_TOD_CFG_EN 0 m) && 4800 ≤ s.fld (F.NT_TOD_CFG_BAUD 0 m) && s.fld (F.NT_TOD_CFG_BAUD 0 m) ≤ 921600

/-- The line of a TOD receiver. -/
def State.todLineOf (s : State) (m : Nat) : Option Nat × Bool := SMap.get (fun _ => (none, false)) s.time.todLine m
/-- Note a line's state. -/
def State.setTodLine (s : State) (m : Nat) (x : Option Nat × Bool) : State :=
  { s with time := { s.time with todLine := SMap.set (fun _ => (none, false)) s.time.todLine m x } }
/-- n bit times of a receiver. -/
def State.todBits (s : State) (m n : Nat) : Nat := n * secU / max 1 (s.fld (F.NT_TOD_CFG_BAUD 0 m))
/-- The line has been idle for at least 20 bit times: the next start bit begins a message (R67). -/
def State.todIdle (s : State) (m : Nat) : Bool :=
  match (s.todLineOf m).1 with | none => true | some c => decide (c + s.todBits m 20 ≤ s.clock)
/-- An edge at an input (R66). On a TOD input only the falling edge of the start bit that begins a message is a capture edge
(R67); the byte whose edge has been captured so makes no second capture. -/
def State.captureEdge (s : State) (k : Nat) (falling : Bool) (phase : Nat) : State :=
  if k < 3 then s.captureAt k falling phase
  else if falling && s.todOn (k - 3) && s.todIdle (k - 3) && !(s.todLineOf (k - 3)).2 then
    (s.captureAt k true phase).setTodLine (k - 3) ((s.todLineOf (k - 3)).1, true)
  else s
/-- A byte arrives, its start bit falling at this instant (log entry 97): the capture edge when it begins a message, then kept
with START or dropped with OVERRUN (R67). -/
def State.todByte (s : State) (m : Nat) (b : Byte) (phase : Nat) : State :=
  if !s.todOn m then s else
  let seen := (s.todLineOf m).2
  let start := seen || s.todIdle m
  let s1 := if start && !seen then s.captureAt (3 + m) true phase else s
  let s2 := s1.setTodLine m (some (s.clock + s.todBits m 10), false)
  if (s2.tod m).length < 256 then s2.setTod m (s2.tod m ++ [(b, start)])
  else s2.setFld (F.NT_TOD_DATA_OVERRUN 0 m) 1

/-- NT_TOD_DATA as it reads: the oldest byte, or EMPTY (Table 03-26). -/
def State.todWord (s : State) (m : Nat) : Word :=
  let w := s.reg (R.NT_TOD_DATA 0 m)
  match s.tod m with
  | [] => setBits (setBits (setBits w 31 31 1) 29 29 0) 7 0 0
  | (b, st) :: _ => setBits (setBits (setBits w 31 31 0) 29 29 (b2n st)) 7 0 b.toNat

/-! ## Launch outputs (R69, R70) -/

/-- Output j. -/
def State.out (s : State) (j : Nat) : OutState := SMap.get (fun _ => OutState.reset) s.time.outs j
/-- Replace an output. -/
def State.setOut (s : State) (j : Nat) (x : OutState) : State :=
  { s with time := { s.time with outs := SMap.set (fun _ => OutState.reset) s.time.outs j x } }

/-- The NT an output follows: 1 domain A, 2 domain B, else the selected NT (SRC 0b11 acts as 0b00). -/
def State.outSrc (s : State) (j : Nat) : Nat :=
  let v := s.fld (F.NT_OUT_CFG_SRC 0 j)
  if v = 3 then 0 else v
/-- That NT is coarse. -/
def State.srcCoarse (s : State) (src : Nat) : Bool := if src = 0 then s.coarse else s.coarseDom (src - 1)
/-- Its value now, in units. -/
def State.srcNow (s : State) (src : Nat) : Nat := if src = 0 then s.now else (s.dom (src - 1)).units
/-- Where its last tick began to count. -/
def State.srcFrom (s : State) (src : Nat) : Nat := if src = 0 then s.time.selFrom else (s.dom (src - 1)).start
/-- How far its last tick counted. -/
def State.srcLen (s : State) (src : Nat) : Nat := if src = 0 then s.time.selLen else (s.dom (src - 1)).len
/-- Its counted NT (R61). -/
def State.srcCount (s : State) (src : Nat) : Nat := if src = 0 then s.time.selCount else (s.dom (src - 1)).counted

/-- The whole second S whose instant S + off lies in the len units counted from an NT, if any, and how far before the end of
that count the instant lies. -/
def secondReached (from_ len : Nat) (off : Int) : Option (Nat × Nat) :=
  let a := ((from_ : Int) - off) / (secU : Int)
  let x := (from_ : Int) + len - off
  let b := x / (secU : Int)
  if a < b then some ((b % (2 ^ 48 : Int)).toNat, (x % (secU : Int)).toNat) else none

/-- The second an output marks now, and how far back its instant lies: enabled, against fine time, reached by counting, and not
within 0.5 s of counted NT of its last edge (R61, R69). -/
def State.outDue (s : State) (j : Nat) : Option (Nat × Nat) :=
  let src := s.outSrc j
  if !s.bit (F.NT_OUT_CFG_EN 0 j) || s.srcCoarse src then none else
  match secondReached (s.srcFrom src) (s.srcLen src) (sgn 32 (s.fld (F.NT_OUT_OFFSET_OFFSET 0 j)) * 2 ^ 16) with
  | none => none
  | some x =>
    match (s.out j).last with
    | some (src', c) => if src' = src ∧ s.srcCount src < c + secU / 2 then none else some x
    | none => some x

/-- An instant to the nearest 62.5 ps. -/
def edgeRound (u : Nat) : Nat := (u + 2 ^ 27) / 2 ^ 28 * 2 ^ 28

/-- Pulse width in µs in use: 0 acts as 1 and larger values act as 999,999. -/
def ppsWidth (v : Nat) : Nat := if v = 0 then 1 else if 999999 < v then 999999 else v

/-- PPS_OUT j starts its pulse at its instant, to 62.5 ps (R69). -/
def State.ppsEdge (s : State) (j : Nat) : State :=
  match s.outDue j with
  | none => s
  | some (_, back) =>
    let n := s.srcCount (s.outSrc j)
    let at_ := edgeRound (n - back)
    s.setOut j { s.out j with last := some (s.outSrc j, n), active := true, edge := at_
                              endAt := at_ + ppsWidth (s.fld (F.NT_OUT_CFG_WIDTH 0 j)) * usU }

/-- The counted NT by which an output's pulse is measured: of the source of its last edge. -/
def State.outCount (s : State) (j : Nat) : Nat := match (s.out j).last with | some (src, _) => s.srcCount src | none => s.clock

/-- A PPS_OUT pulse ends once its width has passed. -/
def State.ppsEnd (s : State) (j : Nat) : State :=
  let o := s.out j
  if o.active && o.endAt ≤ s.outCount j then s.setOut j { o with active := false } else s

/-- The level a PPS output drives: idle low, or high when POL is 1; idle while its NT is coarse (R69). -/
def State.ppsLevel (s : State) (j : Nat) : Bool :=
  ((s.out j).active && !s.srcCoarse (s.outSrc j)) != s.bit (F.NT_OUT_CFG_POL 0 j)

/-- CRC-16 with x^16 + x^12 + x^5 + 1, initial value 0xFFFF, over bits in the order sent (R70). -/
def crc16Ccitt (bits : List Bool) : Nat :=
  bits.foldl (fun c b =>
    let top := (c.testBit 15) != b
    let c2 := c * 2 % 65536
    if top then c2 ^^^ 0x1021 else c2) 0xFFFF

/-- The n low bits of a number, least significant first. -/
def lsbBits (v : Nat) : Nat → List Bool
  | 0 => []
  | n + 1 => v.testBit 0 :: lsbBits (v / 2) n

/-- A TSYNC frame (Table 03-29) as 80 bits, bit i being the i-th sent. -/
def tsyncFrame (sec dom : Nat) (holdover : Bool) : BitVec 80 :=
  let body := sec % 2 ^ 48 + 2 ^ 48 * dom + 2 ^ 49 * b2n holdover
  let crc := crc16Ccitt (lsbBits body 56)
  let crcSent := (List.range 16).foldl (fun v i => v + (if crc.testBit (15 - i) then 2 ^ i else 0)) 0
  BitVec.ofNat 80 (0xA5 + 2 ^ 8 * body + 2 ^ 64 * crcSent)

/-- A frame as Manchester half bits, bit 2i and 2i + 1 of the result being the halves of the i-th bit sent: a 1 is high then low,
a 0 low then high (R70). -/
def manchester (f : BitVec 80) : BitVec 160 :=
  BitVec.ofNat 160 ((List.range 80).foldl (fun v i => v + (if f.getLsbD i then 4 ^ i else 2 * 4 ^ i)) 0)

/-- TSYNC_OUT sends its frame, the leading edge of its first bit at its instant. -/
def State.tsyncSend (s : State) : State :=
  match s.outDue 2 with
  | none => s
  | some (sec, back) =>
    let src := s.outSrc 2
    let d := if src = 0 then s.cur else src - 1
    s.setOut 2 { s.out 2 with last := some (src, s.srcCount src), edge := edgeRound (s.srcCount src - back)
                              sent := some (manchester (tsyncFrame sec d (s.bit (F.NT_CTL_HOLDOVER d)))) }

/-- The level of the TSYNC_OUT line: the half bit of 50 ns that is being sent; idle low, POL ignored (R69, R70). -/
def State.tsyncLevel (s : State) : Bool :=
  match (s.out 2).sent with
  | some w =>
    let h := (s.outCount 2 - (s.out 2).edge) / (50 * nsU)
    decide ((s.out 2).edge ≤ s.outCount 2) && decide (h < 160) && !s.srcCoarse (s.outSrc 2) && w.getLsbD h
  | none => false

/-- TSYNC_IN decodes a frame: VALID with its fields, or CRC_ERR; EV6 pulses. A frame without SYNC is none. -/
def State.tsyncRx (s : State) (f : BitVec 80) : State :=
  let v := f.toNat
  let body := v / 2 ^ 8 % 2 ^ 56
  if v % 256 ≠ 0xA5 then s
  else if crc16Ccitt (lsbBits body 56) = (List.range 16).foldl (fun a i => 2 * a + b2n (v.testBit (64 + i))) 0 then
    (((((s.setFld (F.NT_TSYNC_RX_SEC_LO_SEC_LO 0) body).setFld (F.NT_TSYNC_RX_SEC_HI_SEC_HI 0) (body / 2 ^ 32)).setFld
      (F.NT_TSYNC_RX_SEC_HI_DOMAIN 0) (body / 2 ^ 48)).setFld (F.NT_TSYNC_RX_SEC_HI_HOLDOVER 0) (body / 2 ^ 49)).setFld
      (F.NT_TSYNC_RX_SEC_HI_VALID 0) 1).pulse 6
  else (s.setFld (F.NT_TSYNC_RX_SEC_HI_CRC_ERR 0) 1).pulse 6

end Sys2Proof.Machine
end

