-- ==== Sys2Proof/Machine/Modes.lean ====
section
/-!
DEFINITION. Mode codes, channels and durations on air (Tables 06-2, 07-1 to 07-7): occupied bandwidth, PSDU limits,
search spans, airtime, and what remains of a frame after its synchronisation field.
-/
namespace Sys2Proof.Machine

/-- What Table 07-1 says of a mode: occupied bandwidth in Hz, FCS bytes, PSDU limits. -/
structure ModeInfo where
  bw  : Nat
  fcs : Nat
  min : Nat
  max : Nat
  deriving DecidableEq, Repr

/-- SUN FSK occupied bandwidth by code offset 0 to 4. -/
def sunBw (i : Nat) : Nat := [100000, 150000, 225000, 300000, 450000].getD i 0
/-- SUN FSK rate in bit/s by code offset. -/
def sunRate (i : Nat) : Nat := [50000, 100000, 150000, 200000, 300000].getD i 1

/-- The mode of a code on a radio (0 S, 1 M, 2 H); SEARCH and codes not valid for the radio have none. -/
def modeInfo (radio code : Nat) : Option ModeInfo :=
  if radio = 0 then
    if code = 0x10 then some ⟨1800, 2, 6, 48⟩
    else if code = 0x20 then some ⟨100000, 2, 6, 255⟩
    else if 0x30 ≤ code ∧ code ≤ 0x34 then some ⟨sunBw (code - 0x30), 2, 6, 2047⟩
    else if 0x38 ≤ code ∧ code ≤ 0x3C then some ⟨sunBw (code - 0x38), 4, 6, 2047⟩
    else none
  else if radio = 1 then
    if code = 0x40 then some ⟨2000000, 2, 5, 127⟩
    else if code = 0x50 then some ⟨1200000, 2, 6, 255⟩
    else if code = 0x51 then some ⟨2400000, 2, 6, 255⟩
    else none
  else
    if 0x70 ≤ code ∧ code ≤ 0xFF then some ⟨[18000000, 36000000, 72000000].getD ((code - 0x70) / 48) 0, 4, 24, 16383⟩
    else none

/-- Search span of a mode's detectors in Hz (R166). -/
def searchSpan (code : Nat) : Nat :=
  if code = 0x10 then 30000 else if code < 0x40 then 60000 else if code = 0x40 then 120000
  else if code < 0x70 then 150000 else 250000

/-- Width index W of a Gale code; a code that is not Gale acts as 20 MHz (R165). -/
def galeWidth (code : Nat) : Nat := if 0x70 ≤ code then (code - 0x70) / 48 else 0

/-! ## Channels (Table 06-2) -/

/-- Lowest and highest valid CHAN of a port and width. -/
def chanRange (radio chain width : Nat) : Nat × Nat :=
  if radio = 0 then (if chain < 2 then (800, 8800) else (30320, 44800))
  else if radio = 1 then (1, 83)
  else if width = 0 then (32, 183) else if width = 1 then (34, 181) else (38, 177)
/-- The nearest valid CHAN (R137). -/
def clampChan (radio chain width n : Nat) : Nat :=
  let r := chanRange radio chain width
  if n < r.1 then r.1 else if r.2 < n then r.2 else n
/-- Frequency of a CHAN in Hz. -/
def chanHz (radio n : Nat) : Nat :=
  if radio = 0 then 400000000 + n * 12500 else if radio = 1 then 2400000000 + n * 1000000
  else 5000000000 + n * 5000000

/-! ## Durations, in units of 2^-32 ns -/

/-- n symbols or bits at a rate per second. -/
def durAt (n rate : Nat) : Nat := n * 1000000000 * 2 ^ 32 / rate

/-- A transmit preamble setting: values below 4 act as 4 (Table 07-18). -/
def preSetting (v : Nat) : Nat := if v < 4 then 4 else v

/-- Bits per subcarrier and code rate of a Gale MCS (Table 07-6). -/
def galeMcs (m : Nat) : Nat × Nat × Nat :=
  [(1, 1, 2), (2, 1, 2), (2, 3, 4), (4, 1, 2), (4, 3, 4), (6, 2, 3), (6, 3, 4), (6, 5, 6), (8, 3, 4), (8, 5, 6),
   (10, 5, 6), (10, 9, 10)].getD m (1, 1, 2)
/-- N_LTF of a number of spatial streams (R179). -/
def galeLtf (nss : Nat) : Nat := if nss ≤ 2 then nss else 4
/-- Data subcarriers of a width (Table 07-4). -/
def galeNsd (w : Nat) : Nat := [108, 216, 432].getD w 108
/-- Data symbols of a Gale frame with PSDU length L (R179). -/
def galeSyms (code len : Nat) : Nat :=
  let w := (code - 0x70) / 48
  let nss := (code - 0x70) % 48 / 12 + 1
  let (b, n, d) := galeMcs ((code - 0x70) % 12)
  let num := (16 + 8 * len + 6) * d
  let den := galeNsd w * b * n * nss
  (num + den - 1) / den
/-- Tenths of a µs as units. -/
def tenthUs (n : Nat) : Nat := n * 100 * 2 ^ 32
/-- Duration of a Gale frame after its STF. -/
def galeRest (code len : Nat) : Nat :=
  tenthUs 72 * (galeLtf ((code - 0x70) % 48 / 12 + 1) + 1 + galeSyms code len)

/-- The preamble length a mode sends, in symbols (Drizzle) or octets: a wake preamble, else the modem setting. -/
def sendPreamble (code drzPre fskPre : Nat) (pre : Option Nat) : Nat :=
  match pre with
  | some p => p
  | none =>
    if code = 0x10 then 8 * preSetting drzPre
    else if code < 0x40 then preSetting fskPre
    else if code = 0x40 then 4
    else if code = 0x50 then 1 else 2

/-- What follows the synchronisation field: header, PSDU and tail (R184). -/
def restAfterSync (code len : Nat) : Nat :=
  if code = 0x10 then durAt (2 * (16 + 8 * len + 6)) 1200
  else if code = 0x20 then durAt (8 * (2 + len)) 50000
  else if code < 0x38 then durAt (8 * (2 + len)) (sunRate (code - 0x30))
  else if code < 0x40 then durAt (8 * (2 + len)) (sunRate (code - 0x38))
  else if code = 0x40 then durAt (8 * (1 + len)) 250000
  else if code = 0x50 then durAt (8 * (2 + len)) 1000000
  else if code = 0x51 then durAt (8 * (2 + len)) 2000000
  else galeRest code len

/-- Preamble and synchronisation field of a frame, for a preamble of p symbols or octets. -/
def preAndSync (code p : Nat) : Nat :=
  if code = 0x10 then durAt (p + 32) 1200
  else if code = 0x20 then durAt (8 * (p + 4)) 50000
  else if code < 0x38 then durAt (8 * (p + 2)) (sunRate (code - 0x30))
  else if code < 0x40 then durAt (8 * (p + 2)) (sunRate (code - 0x38))
  else if code = 0x40 then durAt (8 * 5) 250000
  else if code = 0x50 then durAt (8 * (p + 4)) 1000000
  else if code = 0x51 then durAt (8 * (p + 4)) 2000000
  else tenthUs 144

/-- Airtime of a frame (Table 07-3, R176, R177, R179). -/
def airtime (code len p : Nat) : Nat := preAndSync code p + restAfterSync code len

/-- The longest ordinary preamble of a mode, in symbols or octets (R183). -/
def longestPre (code : Nat) : Nat :=
  if code = 0x10 then 2040 else if code < 0x40 then 255 else if code = 0x40 then 4 else if code = 0x50 then 1 else 2

/-- Duration of the longest frame of a mode (Table 07-10). -/
def longestFrame (radio code : Nat) : Nat :=
  match modeInfo radio code with
  | some m => airtime code m.max (longestPre code)
  | none => 0

/-! ## Metadata (Table 07-9) -/

/-- A measured value in steps of n, rounded to the nearest with ties away from zero, between end codes (R187). -/
def metaCode (v : Int) (n : Nat) (lo hi : Int) : Int :=
  let q : Int := (2 * v.natAbs + n) / (2 * n)
  max lo (min hi (if v < 0 then -q else q))
/-- RSSI of a value in 0.001 dBm. -/
def rssiCode (v : Int) : Nat := (metaCode (v + 160000) 500 0 255).toNat
/-- SNR of a value in 0.001 dB. -/
def snrCode (v : Int) : Int := metaCode v 250 (-128) 127
/-- FOFS of a value in 0.0001 ppm. -/
def fofsCode (v : Int) : Int := metaCode v 100 (-32767) 32767
/-- ARR_UNC of a value in ps. -/
def uncCode (v : Nat) : Nat := (metaCode v 1000 0 65535).toNat

/-! ## Radios -/

/-- The transmit path time of a radio in units (ch. 06). -/
def pathTime (radio : Nat) : Nat := (if radio = 1 then 12 else 20) * usU

end Sys2Proof.Machine
end

