-- ==== Sys2Proof/Machine/Duty.lean ====
section
/-!
DEFINITION. Regulatory control (R158 to R163): sub-bands of the active profile, radiated power, duty meters and their
ring of records, the listen-before-talk thresholds, and the check of a write of REG_REGION.
-/
namespace Sys2Proof.Machine

/-- The active profile. -/
def State.profile (s : State) : Nat := s.fld F.REG_REGION_PROFILE

/-- The sub-bands (0 to 15) of a profile that are open and satisfy a test on their edges in Hz. -/
def State.subsWhere (s : State) (q : Nat) (t : Nat → Nat → Bool) : List Nat :=
  (List.range 16).filter (fun b =>
    s.bit (F.REG_SB_RULES_OPEN q b) && t (s.fld (F.REG_SB_LO_FREQ q b) * 1000) (s.fld (F.REG_SB_HI_FREQ q b) * 1000))

/-- The open sub-bands of the active profile whose edges contain a band (R160). -/
def State.subsOf (s : State) (lo hi : Nat) : List Nat := s.subsWhere s.profile (fun a b => a ≤ lo && hi ≤ b)
/-- The open sub-bands of the active profile that overlap a band (R163). -/
def State.subsOver (s : State) (lo hi : Nat) : List Nat := s.subsWhere s.profile (fun a b => a < hi && lo < b)

/-- A list of sub-bands as a mask. -/
def subMask (l : List Nat) : Nat := l.foldl (fun m b => m ||| 2 ^ b) 0

/-- The millisecond of an NT. -/
def ntMs (u : Nat) : Nat := u / (1000000 * 2 ^ 32)
/-- An NT on the duty ring's own time, which time spent in Off does not advance (R162). -/
def State.dutyAt (s : State) (u : Nat) : Nat := (s.duty.epoch * (1000000 * 2 ^ 32) + u).toNat
/-- The millisecond by which the duty ring counts. -/
def State.dutyMs (s : State) (u : Nat) : Nat := ntMs (s.dutyAt u)
/-- The selected NT was set from one value to another while it was coarse: the ring's time goes on from where it was, since NT
before it is first set after Off tells no time (R74, R162, log entry 102). -/
def State.dutyRebase (s : State) (n0 n1 : Nat) : State :=
  { s with duty := { s.duty with epoch := s.duty.epoch + ntMs n0 - ntMs n1 } }

/-- The milliseconds of a record that lie after t − 3,600,000 (R161). -/
def DutyRec.part (r : DutyRec) (t : Nat) : Nat := (r.s0 + r.d) - max r.s0 (t + 1 - 3600000)

/-- U(s, t): the usage of sub-band b at millisecond t. -/
def State.usage (s : State) (b t : Nat) : Nat :=
  s.duty.ring.foldl (fun n r => if r.subs.testBit b then n + r.part t else n) 0

/-- A record whose every millisecond lies at or before t − 3,600,000 has left the ring (R162). -/
def DutyRec.expired (r : DutyRec) (t : Nat) : Bool := r.part t == 0

/-- Take expired records out of the ring. -/
def State.expireDuty (s : State) : State :=
  { s with duty := { s.duty with ring := s.duty.ring.filter (fun r => !(r.expired (s.dutyMs s.now)) || r.resv) } }

/-- Merge the two oldest records that are not reservations: the later s0, the summed D, the union of sub-bands. -/
def mergeOldest : List DutyRec → Option (List DutyRec)
  | [] => none
  | r :: rs =>
    if r.resv then (mergeOldest rs).map (fun l => r :: l)
    else
      match rs.find? (fun q => !q.resv) with
      | none => none
      | some q =>
        some ({ q with s0 := max r.s0 q.s0, d := r.d + q.d, subs := r.subs ||| q.subs, bands := r.bands ++ q.bands }
          :: rs.filter (fun x => x.id != q.id))

/-- Room for a record: expired ones leave, and a full ring of 16,384 merges its two oldest, setting MERGED (R162). -/
def State.roomForDuty (s : State) : State :=
  let s1 := s.expireDuty
  if s1.duty.ring.length < 16384 then s1 else
  match mergeOldest s1.duty.ring with
  | none => s1
  | some l => ({ s1 with duty := { s1.duty with ring := l } } : State).setFld F.REG_STAT_MERGED 1

/-- Airtime in whole milliseconds, rounded up. -/
def ceilMs (u : Nat) : Nat := (u + 1000000 * 2 ^ 32 - 1) / (1000000 * 2 ^ 32)

/-- Reserve the airtime of a transmission from a port time in a band: a new reservation record; answers its number (R146). -/
def State.reserveDuty (s : State) (port air subs : Nat) (band : Nat × Nat) : State × Nat :=
  let s1 := s.roomForDuty
  let id := s1.duty.nextId
  let b : DutyBand := ⟨band.1, band.2, s.dutyAt port, s.dutyAt port + air⟩
  ({ s1 with duty := { s1.duty with ring := s1.duty.ring ++ [⟨id, s.dutyMs port, ceilMs air, subs, [b], true⟩], nextId := id + 1 } }, id)

/-- Release a reservation (R146). -/
def State.releaseDuty (s : State) (id : Nat) : State :=
  { s with duty := { s.duty with ring := s.duty.ring.filter (fun r => r.id != id) } }

/-- Fix a reservation as the record of a transmission that sent for a time from its port time (R161). -/
def State.fixDuty (s : State) (id air : Nat) : State :=
  { s with duty := { s.duty with ring := s.duty.ring.map (fun r =>
      if r.id == id then { r with d := ceilMs air, resv := false, bands := r.bands.map (fun b => { b with last := b.port + air }) }
      else r) } }

/-- A duty figure in ms per hour: larger values act as 3,600,000. -/
def capDuty (v : Nat) : Nat := if 3600000 < v then 3600000 else v

/-- Site port number of a chain of a radio. -/
def sitePort (radio k : Nat) : Nat := 4 * radio + k

/-- A calibration word as a chain applies it: a swapped set waits for the chain's first gap (R150). -/
def State.calWord (s : State) (c : Chain) (a : Nat) : Word :=
  match c.calOld with
  | some (_, ws) => match ws.find? (fun x => x.1 == a) with | some x => x.2 | none => s.reg a
  | none => s.reg a

/-- CAL_FEMG[t](level) of a port, in 0.25 dB. -/
def State.femGain (s : State) (c : Chain) (radio t level : Nat) : Int :=
  sgn 8 (getBits (s.calWord c (R.RF_CAL_FEMG radio t (level / 4))) (8 * (level % 4) + 7) (8 * (level % 4)))

/-- Radiated power E of a transmission in 0.25 dB (R158). -/
def State.eirp (s : State) (c : Chain) (radio t level : Nat) (power : Int) : Int :=
  power + s.femGain c radio t level + sgn 8 (s.fld (F.REG_SITE_ANT_GAIN (sitePort radio t)))
    - s.fld (F.REG_SITE_CABLE_LOSS (sitePort radio t)) + (if radio = 2 then 24 else 0)

/-- What the regulatory part of the check at P − 50 µs says: allowed, or which counter of REG_REFUSALS counts. -/
inductive RegCheck where
  | allowed
  | limit
  | duty
  deriving DecidableEq, Repr

/-- A previous transmission of this module in a sub-band, one in progress or reserved included, leaves less than an off time
before a port time (R161). -/
def State.offShort (s : State) (b port off : Nat) : Bool :=
  let lo := s.fld (F.REG_SB_LO_FREQ s.profile b) * 1000
  let hi := s.fld (F.REG_SB_HI_FREQ s.profile b) * 1000
  s.duty.ring.any (fun r => r.bands.any (fun x =>
    decide (lo ≤ x.lo) && decide (x.hi ≤ hi) && decide (x.port ≤ s.dutyAt port) && decide (s.dutyAt port < x.last + off)))

/-- One sub-band's conditions of R158 to R161 on a transmission. -/
def State.subCheck (s : State) (b radio : Nat) (e : Int) (air port : Nat) : RegCheck :=
  let q := s.profile
  let off := s.fld (F.REG_SB_DUTY_OFF q b) * 10 * 1000000 * 2 ^ 32
  if min (sgn 8 (s.fld (F.REG_SB_RULES_EIRP_MAX q b))) (sgn 8 (s.fld (F.REG_TIGHT_EIRP_CAP b))) < e then .limit
  else if radio = 2 ∧ s.bit (F.REG_SB_RULES_DFS q b) then .limit
  else if s.fld (F.REG_SB_RULES_DWELL q b) ≠ 0 ∧ s.fld (F.REG_SB_RULES_DWELL q b) * 1000000 * 2 ^ 32 < air then .limit
  else if off ≠ 0 ∧ s.offShort b port off then .limit
  else if min (capDuty (s.fld (F.REG_SB_DUTY_BUDGET q b))) (capDuty (s.fld (F.REG_TIGHT_DUTY_CAP b)))
      < s.usage b (s.dutyMs s.now) + ceilMs air then .duty
  else .allowed

/-- The whole regulatory check over every sub-band the transmission belongs to; limits are told before duty. -/
def State.regCheck (s : State) (subs : List Nat) (radio : Nat) (e : Int) (air port : Nat) : RegCheck :=
  if subs.isEmpty then .limit
  else if subs.any (fun b => s.subCheck b radio e air port = .limit) then .limit
  else if subs.any (fun b => s.subCheck b radio e air port = .duty) then .duty
  else .allowed

/-! ## Listen-before-talk (R163) -/

/-- A sub-band demands listen-before-talk. -/
def State.subLbt (s : State) (b : Nat) : Bool :=
  s.bit (F.REG_SB_RULES_LBT s.profile b) || s.bit (F.REG_TIGHT_LBT_FORCE b)

/-- A transmission in these sub-bands listens before it talks. -/
def State.needsLbt (s : State) (flag : Bool) (subs : List Nat) : Bool := flag || subs.any s.subLbt

/-- The listen time in µs: the longest LISTEN among its sub-bands with LBT, or 128. -/
def State.listenUs (s : State) (subs : List Nat) : Nat :=
  let l := subs.filter s.subLbt
  if l.isEmpty then 128
  else l.foldl (fun n b => max n (max 8 (s.fld (F.REG_SB_LBT_LISTEN s.profile b)))) 0

/-- The lowest THRESH of some sub-bands in dBm, or −85 when there is none. -/
def State.lowThresh (s : State) (subs : List Nat) : Int :=
  match subs.map (fun b => sgn 8 (s.fld (F.REG_SB_LBT_THRESH s.profile b))) with
  | [] => -85
  | x :: xs => xs.foldl min x

/-- The threshold at a port in 0.25 dBm. -/
def State.portThresh (s : State) (c : Chain) (radio k : Nat) (subs : List Nat) : Int :=
  4 * s.lowThresh subs + sgn 8 (s.fld (F.REG_SITE_ANT_GAIN (sitePort radio k)))
    - s.fld (F.REG_SITE_CABLE_LOSS (sitePort radio k))
    + sgn 8 (getBits (s.calWord c (R.RF_CAL_RXGAIN radio k)) 7 0)

/-! ## Register behaviour (R159) -/

/-- Every radio's function RADIO is off. -/
def State.radiosOff (s : State) : Bool := s.fnOff 7 0 0 && s.fnOff 8 0 0 && s.fnOff 9 0 0

/-- A write of REG_REGION, checked as a whole: refused and marked, or applied with the meters recomputing. A write that names a
different profile which is not enabled while a radio is on meets both conditions of the rule; it sets BAD_REGION alone (DESIGN
CHOICE, log entry 103). -/
def State.regRegion (s : State) (v : Nat) : State :=
  let en := bitsOf v 7 4
  let pr := v % 4
  let changes := pr != s.profile
  if !en.testBit pr then s.setFld F.REG_STAT_BAD_REGION 1
  else if changes && !s.radiosOff then (s.setFld F.REG_STAT_BAD_REGION 1).setFld F.REG_STAT_REGION_BUSY 1
  else
    let s1 := (s.setFld F.REG_REGION_ENABLED en).setFld F.REG_REGION_PROFILE pr
    if changes then
      ({ s1 with duty := { s1.duty with recalc := some s1.ticks } } : State).setFld F.REG_STAT_RECOMPUTING 1
    else s1

/-- The meters finish recomputing: every record counts in the sub-bands of the active profile that contain one of its
bands. -/
def State.recomputeDone (s : State) : State :=
  match s.duty.recalc with
  | none => s
  | some _ =>
    let sub (r : DutyRec) : Nat := r.bands.foldl (fun m b => m ||| subMask (s.subsOf b.lo b.hi)) 0
    ({ s with duty := { s.duty with recalc := none, ring := s.duty.ring.map (fun r => { r with subs := sub r }) } } :
      State).setFld F.REG_STAT_RECOMPUTING 0

end Sys2Proof.Machine
end

