-- ==== Sys2Proof/Machine/Engine.lean ====
section
/-!
DEFINITION. Slot engines (ch. 05): local memory in the engine's view, the load window, the post queue, event triggers,
and halting.
-/
namespace Sys2Proof.Machine

/-! ## Local memory (R110, R130) -/

/-- The physical byte behind an engine address: the active page at 0x0000, the shadow page at 0x4000 (Table 05-1). -/
def lmPhys (active a : Nat) : Nat :=
  if a < 0x4000 then active % 2 * 0x4000 + a
  else if a < 0x8000 then (1 - active % 2) * 0x4000 + (a - 0x4000)
  else a

/-- What a byte of local memory that nothing has written reads as (log entry 4). -/
def lmDefault (_ : Nat) : Byte := 0

/-- n bytes of an engine's local memory in its view. -/
def Engine.bytes (e : Engine) (a : Nat) : Nat → List Byte
  | 0 => []
  | n + 1 => SMap.get lmDefault e.lm (lmPhys e.active a) :: e.bytes (a + 1) n
/-- Write bytes of an engine's local memory in its view. -/
def Engine.setBytes (e : Engine) (a : Nat) : List Byte → Engine
  | [] => e
  | b :: bs => Engine.setBytes { e with lm := SMap.set lmDefault e.lm (lmPhys e.active a) b } (a + 1) bs
/-- A little-endian number of n bytes in local memory. -/
def Engine.rd (e : Engine) (a n : Nat) : Nat := leNat (e.bytes a n)
/-- Write a little-endian number of n bytes. -/
def Engine.wr (e : Engine) (a n v : Nat) : Engine := e.setBytes a (leBytes n v)

/-- Function RUN of engine e. -/
def State.runState (s : State) (e : Nat) : Nat := s.fld (fnState (4 + e) 0 0)

/-- The word address of the load window, advanced by one word after each access, wrapping from 0xFFFC to 0. -/
def State.lmAdvance (s : State) (e : Nat) : State :=
  s.setFld (F.SE_LM_ADDR_ADDR e) ((s.fld (F.SE_LM_ADDR_ADDR e) + 1) % 0x4000)

/-- A window read of the word at SE_LM_ADDR (R130). -/
def State.lmWindowRead (s : State) (e : Nat) : Nat := (s.engine e).rd (4 * s.fld (F.SE_LM_ADDR_ADDR e)) 4

/-- A window write: dropped with LOAD_REJECT on the active page while RUN is not off (R130). -/
def State.lmWindowWrite (s : State) (e v : Nat) : State :=
  let a := 4 * s.fld (F.SE_LM_ADDR_ADDR e)
  let s1 := if a < 0x4000 ∧ s.runState e ≠ 0 then s.setFld (F.SE_STAT_LOAD_REJECT e) 1
    else s.setEngine e ((s.engine e).wr a 4 v)
  s1.lmAdvance e

/-! ## Posts and triggers (R120, R131) -/

/-- Append a value to an engine's post queue with its line, EV16 to EV18; a full queue of 16 drops it (R131). -/
def State.sePost (s : State) (e : Nat) (v : Nat) : State :=
  let x := s.engine e
  if 16 ≤ x.posts.length then s.setFld (F.SE_STAT_POST_DROP e) 1
  else (s.setEngine e { x with posts := x.posts ++ [BitVec.ofNat 64 v] }).pulse (16 + e)

/-- The oldest posted value, 0 when there is none. -/
def Engine.oldest (x : Engine) : Nat := (x.posts.headD 0).toNat

/-- A write of SE_EVPOST: 64 to 255 pulses that line (Table 05-20). -/
def State.seEvpost (s : State) (line : Nat) : State := s.pulseFree line

/-! ## Halting (R114) -/

/-- The cause of a halt in SE_FAULT, RUN failed with FAULT, and the engine's halt line EV19 to EV21. What the halt does
to queues and actions is the radio's part (R134). -/
def State.haltMark (s : State) (e cause pc : Nat) : State :=
  let s1 := (s.setFld (F.SE_FAULT_CAUSE e) cause).setFld (F.SE_FAULT_PC e) pc
  let s2 := (s1.setFld (fnState (4 + e) 0 0) 4).setFld (fnLast (4 + e) 0 0) Status.fault.code
  let s3 := (s2.setFld (fnRestart (4 + e) 0 0) 0).pulse (19 + e)
  s3.setEngine e { s3.engine e with wait := .none, lateNext := false }

end Sys2Proof.Machine
end

