-- ==== Sys2Proof/Machine/Domains.lean ====
section
/-!
DEFINITION. Waking a power domain (R362) and the functions of the map entries.
-/
namespace Sys2Proof.Machine

/-- How many functions the block of a map entry has. -/
def fnCount (entry : Nat) : Nat :=
  match mapEntry entry with
  | some e => (e.regs.find? (fun r => r.off == 0x80)).elim 0 (fun r => if e.fn then r.n1 else 0)
  | none => 0

/-- Functions that a wake on access leaves off: RUN, RADIO, PORTk and DEMOD (R362). -/
def radioEntry (e : Nat) : Bool := 4 ≤ e && e ≤ 12

/-! ## Training of the DRAM lanes (R291) -/

/-- Temperature of a DRAM channel as its monitor reads it, signed, in 0.125 °C. -/
def State.dramTemp (s : State) (ch : Nat) : Int := sgn 16 (s.fld (F.MON_TEMP_VALUE (12 + ch)))
/-- The delay of lane l of a channel, less the maker record's. -/
def State.setDelay (s : State) (ch l : Nat) (v : Byte) : State :=
  s.setArrays { s.arrays with delays := SMap.set (fun _ => 0) s.arrays.delays (4 * ch + l) v }
/-- A shift applied to every lane of a channel, over the maker record's delays. -/
def State.shiftLanes (s : State) (ch : Nat) (shift : Int) : State :=
  (List.range 4).foldl (fun (s : State) l => s.setDelay ch l (BitVec.ofInt 8 shift)) s
/-- A full sweep of a channel: the delays found are free values. -/
def State.sweepLanes (s : State) (ch : Nat) : State :=
  (List.range 4).foldl (fun (s : State) l => (s.setDelay ch l (BitVec.ofNat 8 (s.free 8))).takeFree) s

/-- A sentinel sweep of a channel found a shift in 1/64 UI: applied to every lane up to 1/8 UI, a full sweep past that. -/
def State.sentinelSweep (s : State) (ch : Nat) (shift : Int) : State :=
  let s1 := s.setArrays { s.arrays with swept := SMap.set (fun _ => 0) s.arrays.swept ch (s.fld (F.MON_TEMP_VALUE (12 + ch))) }
  let s2 := (s1.setFld (if ch = 0 then F.DMC_TRAIN_SHIFT0 else F.DMC_TRAIN_SHIFT1) (unsgn 8 shift)).count
    F.DMC_COUNT_SENT_SWEEPS
  if 8 < shift.natAbs then
    ((s2.setFld (if ch = 0 then F.DMC_STAT_FULL0 else F.DMC_STAT_FULL1) 1).count F.DMC_COUNT_FULL_SWEEPS).sweepLanes ch
  else s2.shiftLanes ch shift

/-- A sweep of a channel is in progress for a free time from a least to a most: SWEEP of DMC_STAT. -/
def State.sweepFor (s : State) (ch least most : Nat) : State :=
  s.takeFree.setArrays { s.arrays with
    sweepEnds := SMap.set (fun _ => 0) s.arrays.sweepEnds ch (s.clock + least + s.free 64 % (most - least + 1)) }

/-- A sweep of a channel is in progress. -/
def State.sweeping (s : State) (ch : Nat) : Bool := decide (s.clock < SMap.get (fun _ => 0) s.arrays.sweepEnds ch)

/-- Training at a start of MEM or a wake of PD_DMC: the maker record's delays, then a sentinel sweep of each channel, whose shift is a
free value, ended within 20 µs. -/
def State.trainMem (s : State) : State :=
  (List.range 2).foldl (fun (s : State) ch =>
    ((s.takeFree.shiftLanes ch 0).sentinelSweep ch (sgn 8 (s.free 8))).sweepFor ch 0 (20 * usU)) s

/-- Start one function whose EN is 1 after its domain woke; MEM is on again at the end of the wake. -/
def State.restartFn (s : State) (e i f : Nat) : State :=
  if s.bit (fnCtl e i f) && s.fnOff e i f then (if e = 24 then (s.setFld (fnState e i f) 2).trainMem else s.setFld (fnState e i f) 1)
  else s

/-- Start the enabled functions of an entry's instances. -/
def State.restartFns (s : State) (e insts : Nat) : State :=
  (List.range insts).foldl (fun s i => (List.range (fnCount e)).foldl (fun s f => s.restartFn e i f) s) s

/-- The domain is up: its bit of PWR_DOMAINS.ON, restored from retention, its enabled functions starting (R362). -/
def State.wakeDomain (s : State) (d : Nat) : State :=
  let s1 := (s.setFld F.PWR_DOMAINS_ON (s.fld F.PWR_DOMAINS_ON ||| 2 ^ d)).touchDomain d
  (List.range 38).foldl (fun s e =>
    match mapEntry e with
    | some m => if m.pwr = d ∧ m.fn ∧ radioEntry e = false then s.restartFns e m.insts else s
    | none => s) s1

end Sys2Proof.Machine
end

