-- ==== Sys2Proof/Machine/Locks.lean ====
section
/-!
DEFINITION. Lock tokens (R301, R302).
-/
namespace Sys2Proof.Machine

/-- Token t is held by core c. -/
def State.holdsToken (s : State) (c t : Nat) : Bool :=
  s.bit (F.LCK_HOLDER_HELD t) && s.fld (F.LCK_HOLDER_CORE t) == c
/-- The tokens a core holds. -/
def State.tokensOf (s : State) (c : Nat) : List Nat := (List.range 256).filter (s.holdsToken c)
/-- Token t is free again. -/
def State.freeToken (s : State) (t : Nat) : State := (s.setFld (F.LCK_HOLDER_HELD t) 0).setFld (F.LCK_HOLDER_CORE t) 0

/-- What TAKE and TAKEV answer (R301). -/
def State.takeCode (s : State) (c t : Nat) : Status :=
  if (s.tokensOf c).any (fun h => t ≤ h) then .order
  else if s.bit (F.LCK_HOLDER_HELD t) then .busy
  else .ok

/-- Take a token: nothing but the counters changes except on OK. -/
def State.takeToken (s : State) (c t : Nat) : State :=
  match s.takeCode c t with
  | .order => s.count F.LCK_COUNT_ORDER
  | .busy => s.count F.LCK_COUNT_TAKE_BUSY
  | _ => (s.setFld (F.LCK_HOLDER_HELD t) 1).setFld (F.LCK_HOLDER_CORE t) c

/-- What GIVE and GIVEV answer (R301). -/
def State.giveCode (s : State) (c t : Nat) : Status := if s.holdsToken c t then .ok else .fault
/-- Give a token back. -/
def State.giveToken (s : State) (c t : Nat) : State :=
  if s.holdsToken c t then s.freeToken t else s.count F.LCK_COUNT_GIVE_FAULT

/-- Release every token of a core, counting each in a field (R302). -/
def State.releaseTokens (s : State) (c : Nat) (counter : FRef) : State :=
  (s.tokensOf c).foldl (fun s t => (s.freeToken t).count counter) s

/-- Release every token of a core without a count, as a reset of the core by the Keeper does (R302). -/
def State.dropTokens (s : State) (c : Nat) : State := (s.tokensOf c).foldl (fun s t => s.freeToken t) s

/-- A write of LCK_FORCE (Table 13-15). -/
def State.forceTokens (s : State) (v : Nat) : State :=
  if bitOf v 13 then s.releaseTokens (bitsOf v 12 8) F.LCK_COUNT_FORCED
  else if s.bit (F.LCK_HOLDER_HELD (v % 256)) then (s.freeToken (v % 256)).count F.LCK_COUNT_FORCED
  else s

end Sys2Proof.Machine
end

