-- ==== Sys2Proof/Machine/Arbiter.lean ====
section
/-!
DEFINITION. The service arbiter (R303 to R307): accepting requests, choosing the one to grant, returning one, reporting
completions in issue order, locked sequences and cutting them off.
-/
namespace Sys2Proof.Machine

/-! ## Requests -/

/-- Replace the arbiter. -/
def State.setArb (s : State) (a : ArbState) : State := { s with arb := a }
/-- Change the request with a number. -/
def State.mapReq (s : State) (id : Nat) (f : SvcReq → SvcReq) : State :=
  s.setArb { s.arb with reqs := s.arb.reqs.map (fun r => if r.id == id then f r else r) }
/-- The request with a number. -/
def State.reqOf (s : State) (id : Nat) : Option SvcReq := s.arb.reqs.find? (fun r => r.id == id)
/-- A request whose completion has not been reported. -/
def SvcReq.open? (r : SvcReq) : Bool := r.phase != .written
/-- Requests of a requester not yet completed. -/
def State.outstanding (s : State) (r : Nat) : Nat := (s.arb.reqs.filter (fun q => q.req == r)).length
/-- A request waits for a grant. -/
def SvcReq.isWaiting (r : SvcReq) : Bool := r.phase == .waiting
/-- A request has been granted and still occupies its engine. -/
def SvcReq.inEngine (r : SvcReq) : Bool :=
  match r.phase with
  | .granted | .journal _ => true
  | _ => false

/-- The holder of an engine's locked sequence. -/
def State.holderOf (s : State) (e : Nat) : Option Nat := (s.arb.holds.find? (fun h => h.1 == e)).map (fun h => h.2.1)
/-- The engine on which a requester has an open sequence. -/
def State.openOf (s : State) (r : Nat) : Option Nat := (s.arb.opened.find? (fun o => o.1 == r)).map (fun o => o.2)
/-- The power domain of an engine: cipher PD_SEC, ledger PD_NVM, frost capture PD_FAB. -/
def engineDomain (e : Nat) : Nat := if e = 0 then 16 else if e = 1 then 12 else 8

/-- HELDe and HOLDERe of ARB_STAT, HOLDING and OUTSTANDING of ARB_REQ as they read now. -/
def State.arbStat (s : State) : State :=
  let hs (e : Nat) : Nat := b2n (s.holderOf e).isSome
  let hc (e : Nat) : Nat := (s.holderOf e).getD 0
  ((((((s.setFld F.ARB_STAT_HELD0 (hs 0)).setFld F.ARB_STAT_HOLDER0 (hc 0)).setFld F.ARB_STAT_HELD1 (hs 1)).setFld
    F.ARB_STAT_HOLDER1 (hc 1)).setFld F.ARB_STAT_HELD2 (hs 2)).setFld F.ARB_STAT_HOLDER2 (hc 2))

/-- The counts of a requester as ARB_REQ shows them. -/
def State.arbReqStat (s : State) (r : Nat) : State :=
  (s.setFld (F.ARB_REQ_OUTSTANDING r) (min 7 (s.outstanding r))).setFld (F.ARB_REQ_HOLDING r)
    (b2n (s.arb.holds.any (fun h => h.2.1 == r)))

/-- Where a requester's descriptor may lie (R303). -/
def descOk (req a n : Nat) : Bool := a % 8 == 0 && (if req = 23 then inMbox a n else inNormal a n)

/-- What SVC answers (R303). -/
def State.svcCode (s : State) (req e a : Nat) (m : SvcMark) : Status :=
  if !descOk req a (if e = 2 then 32 else 64) then .fault
  else if !s.powered (engineDomain e) && !s.asleep (engineDomain e) then .domainOff
  else if (m = .cont ∨ m = .close_) ∧ s.arb.cuts.contains (req, e) then .cutOff
  else if (m = .cont ∨ m = .close_) ∧ s.openOf req ≠ some e then .fault
  else if m = .open_ ∧ (s.openOf req).isSome then .fault
  else if 4 ≤ s.outstanding req then .busy
  else .ok

/-- Append a request; its number is its age. -/
def State.addReq (s : State) (req e : Nat) (m : SvcMark) (job : SvcJob) (a rb : Nat) (items : List (Nat × List Nat)) :
    State :=
  let q : SvcReq := ⟨s.arb.nextId, req, e, m, job, a, rb, s.role req, items, [], 0, 0, .waiting⟩
  ((s.setArb { s.arb with reqs := s.arb.reqs ++ [q], nextId := s.arb.nextId + 1 }).countWrap
    (F.ARB_REQ_ISSUED req)).arbReqStat req

/-- An open, or a command with mark none, resets what a cut-off left of a requester (R303). -/
def State.resetCut (s : State) (req : Nat) : State :=
  (s.setFld (F.ARB_REQ_CUTOFF req) 0).setArb { (s.setFld (F.ARB_REQ_CUTOFF req) 0).arb with
    cuts := s.arb.cuts.filter (fun c => c.1 != req) }

/-- Accept a request (R303): the cut-off mark ends at an open or an unmarked command, a sequence opens or closes at its
issue, and an asleep engine domain wakes. -/
def State.svcIssue (s : State) (req e a rb : Nat) (m : SvcMark) : State :=
  let code := s.svcCode req e a m
  let s0 := if m = .open_ ∨ m = .none then s.resetCut req else s
  match code with
  | .ok =>
    let s1 := if s0.powered (engineDomain e) then s0 else s0.wakeDomain (engineDomain e)
    let s2 := s1.addReq req e m .desc a rb []
    if m = .open_ then s2.setArb { s2.arb with opened := s2.arb.opened ++ [(req, e)] }
    else if m = .close_ then s2.setArb { s2.arb with opened := s2.arb.opened.filter (fun o => o.1 != req) }
    else s2
  | .busy => s0.count F.ARB_COUNT_BUSY
  | _ => s0

/-! ## Grants (R304, R305) -/

/-- A request may be granted now: it waits, its backoff has ended, its engine is free or held by its own requester, and no
earlier request of the requester to the engine waits. -/
def State.eligible (s : State) (r : SvcReq) : Bool :=
  r.isWaiting && decide (r.readyAt ≤ s.ticks) &&
  (match s.holderOf r.engine with | some h => h == r.req | none => true) &&
  !(s.arb.reqs.any (fun q => q.isWaiting && q.req == r.req && q.engine == r.engine && decide (q.id < r.id)))

/-- The oldest eligible request of an engine. -/
def State.nextGrant (s : State) (e : Nat) : Option SvcReq := s.arb.reqs.find? (fun r => r.engine == e && s.eligible r)

/-- Release an engine from its locked sequence. -/
def State.releaseEngine (s : State) (e : Nat) : State :=
  let h := s.holderOf e
  let s1 := (s.setArb { s.arb with holds := s.arb.holds.filter (fun x => x.1 != e) }).arbStat
  match h with | some r => s1.arbReqStat r | none => s1

/-- Sequences that a DONE closes end once the engine has accepted the commands issued before it (R298, R307). -/
def State.settleClosing (s : State) : State :=
  s.arb.closing.foldl (fun s c =>
    if s.arb.reqs.any (fun q => (q.isWaiting || q.phase == .granted) && q.req == c.1 && q.engine == c.2.1 && decide (q.id < c.2.2)) then s
    else
      let s1 := if s.holderOf c.2.1 = some c.1 then s.releaseEngine c.2.1 else s
      s1.setArb { s1.arb with closing := s1.arb.closing.filter (fun x => x != c) }) s

/-- An engine has accepted a granted command: it is under way or ended, and not returned. A close releases the engine from the
sequence that it closes (R307). -/
def State.acceptReq (s : State) (id : Nat) : State :=
  match s.reqOf id with
  | none => s
  | some q =>
    (if q.mark = .close_ ∧ s.arb.holds.any (fun h => h.1 == q.engine && h.2.1 == q.req && decide (h.2.2.2 < q.id)) then
      s.releaseEngine q.engine else s).settleClosing

/-- Grant a request: the engine reads its descriptor; an open holds the engine. -/
def State.grantReq (s : State) (r : SvcReq) : State :=
  let n := match r.job with | .desc => if r.engine = 2 then 32 else 64 | _ => 0
  let s1 := (s.seen r.addr n).mapReq r.id (fun q => { q with phase := .granted, desc := s.bytes r.addr n })
  if r.mark = .open_ then
    ((s1.setArb { s1.arb with holds := s1.arb.holds ++ [(r.engine, r.req, s1.clock, r.id)] }).arbStat).arbReqStat r.req
  else s1

/-- B of the next return in FAB cycles: 16, doubling up to 4,096 (R305). -/
def nextBackoff (b : Nat) : Nat := if b = 0 then 16 else min 4096 (2 * b)

/-- The engine returns a granted command (R305). -/
def State.returnReq (s : State) (r : SvcReq) : State :=
  (s.mapReq r.id (fun q =>
    let b := nextBackoff q.backoff
    { q with phase := .waiting, backoff := b, readyAt := s.ticks + (b + 3) / 4 })).count F.ARB_COUNT_RETURNS

/-! ## Completion (R306) -/

/-- The completions of a requester that may be reported now: every one whose earlier ones are written. -/
def writtenPrefix (req : Nat) (rs : List SvcReq) : Nat :=
  ((rs.filter (fun q => q.req == req)).takeWhile (fun q => q.phase == .written)).length

/-- Drop the first n requests of a requester. -/
def dropReqs (req : Nat) : Nat → List SvcReq → List SvcReq
  | _, [] => []
  | n, q :: qs => if q.req == req && n != 0 then dropReqs req (n - 1) qs else q :: dropReqs req n qs

/-- Advance COMPLETED over the written prefix, with CPL_EV. -/
def State.advanceReq (s : State) (req : Nat) : State :=
  let n := writtenPrefix req s.arb.reqs
  let s1 := s.setArb { s.arb with reqs := dropReqs req n s.arb.reqs }
  let s2 := (s1.setFld (F.ARB_REQ_COMPLETED req) (s1.fld (F.ARB_REQ_COMPLETED req) + n)).arbReqStat req
  if n = 0 ∨ req = 24 then s2 else s2.pulseFree (s2.fld (F.ARB_REQ_CPL_EV req))

/-- Report the completion of a request: STATUS in its descriptor, then the count in issue order. -/
def State.completeReq (s : State) (r : SvcReq) (status : Nat) : State :=
  let s1 := match r.job with | .desc => s.putLe (r.addr + 1) 1 status | _ => s
  (s1.mapReq r.id (fun q => { q with phase := .written })).advanceReq r.req

/-- A granted command has ended in its engine with a status. -/
def State.endReq (s : State) (id : Nat) (st : Status) : State :=
  (s.mapReq id (fun q => { q with phase := .ended st.code })).acceptReq id
/-- A granted command goes on until the entry with a JSEQ is durable. -/
def State.journalReq (s : State) (id jseq : Nat) : State := (s.mapReq id (fun q => { q with phase := .journal jseq })).acceptReq id

/-- The oldest request of an engine that has ended. -/
def State.endedReq (s : State) (e : Nat) : Option (SvcReq × Nat) :=
  s.arb.reqs.findSome? (fun r => if r.engine == e then (match r.phase with | .ended st => some (r, st) | _ => none) else none)

/-! ## Cutting off (R307) -/

/-- Hold limit in µs: 1 to 1,000. -/
def State.holdLimit (s : State) : Nat := max 1 (min 1000 (s.fld F.ARB_CFG_HOLD))

/-- The requests of a sequence that have not been granted: those of the holder on the engine up to its close. -/
def seqWaiting (req e : Nat) : List SvcReq → List SvcReq
  | [] => []
  | q :: qs =>
    if q.req == req && q.engine == e && q.isWaiting then
      (if q.mark = .close_ then [q] else q :: seqWaiting req e qs)
    else seqWaiting req e qs

/-- The requests of a sequence that waits from its open on. -/
def seqFrom (o : SvcReq) : List SvcReq → List SvcReq
  | [] => []
  | q :: qs => if q.id = o.id then o :: seqWaiting o.req o.engine qs else seqFrom o qs

/-- A requester has an open sequence on an engine that none of its waiting opens there began. -/
def State.openStill (s : State) (req e : Nat) : Bool :=
  s.arb.opened.contains (req, e) && !s.arb.reqs.any (fun q => q.isWaiting && q.mark == .open_ && q.req == req && q.engine == e)

/-- A sequence of a requester on an engine is cut off: its requests not granted complete CUT_OFF. Where the requester has not closed
it, that is told to its continues and closes until it resets it (R303). -/
def State.cutSequence (s : State) (req e : Nat) (cut : List SvcReq) (still : Bool) : State :=
  let s1 := cut.foldl (fun s r => s.completeReq r Status.cutOff.code) s
  let s2 := if still then
      (s1.setArb { s1.arb with opened := s1.arb.opened.filter (fun o => o != (req, e)), cuts := s1.arb.cuts ++ [(req, e)] }).setFld
        (F.ARB_REQ_CUTOFF req) 1
    else s1
  ((s2.pulse 42).count F.ARB_COUNT_CUT_OFF).arbReqStat req

/-- Cut off the sequence that holds an engine. -/
def State.cutOff (s : State) (e : Nat) : State :=
  match s.holderOf e with
  | none => s
  | some req =>
    let s1 := s.cutSequence req e (seqWaiting req e s.arb.reqs) (s.openStill req e)
    (s1.setArb { s1.arb with closing := s1.arb.closing.filter (fun c => !(c.1 == req && c.2.1 == e)) }).releaseEngine e

/-- Cut off the sequences whose open is not granted yet. -/
def State.cutWaiting (s : State) : State :=
  (s.arb.reqs.filter (fun q => q.isWaiting && q.mark == .open_)).foldl (fun (s : State) o =>
    let cut := seqFrom o s.arb.reqs
    s.cutSequence o.req o.engine cut (s.arb.opened.contains (o.req, o.engine) && !cut.any (fun q => q.mark == .close_))) s

/-- A sequence has held an engine for its limit. -/
def State.cutOffDue (s : State) (e : Nat) : Bool :=
  match s.arb.holds.find? (fun h => h.1 == e) with
  | some h => decide (h.2.2.1 + s.holdLimit * usU ≤ s.clock)
  | none => false

/-- A write of BREAK cuts off every open sequence, those that hold an engine and those whose open waits. -/
def State.breakSequences (s : State) : State := (((s.cutOff 0).cutOff 1).cutOff 2).cutWaiting

/-- A core's open sequence closes after the commands already issued (R298). -/
def State.closeSequence (s : State) (core : Nat) : State :=
  match s.openOf core with
  | none => s
  | some e =>
    (s.setArb { s.arb with opened := s.arb.opened.filter (fun o => o.1 != core),
                           closing := s.arb.closing ++ [(core, e, s.arb.nextId)] }).settleClosing

end Sys2Proof.Machine
end

