-- ==== Sys2Proof/Machine/Work.lean ====
section
/-!
DEFINITION. The dispatcher (R293 to R300): posting, queue items, handing out, completing an item, the scheduling trace.
-/
namespace Sys2Proof.Machine

/-- Replace the dispatcher, with WAITING and RUNNING as they read then. -/
def State.setWd (s : State) (w : WdState) : State :=
  (({ s with wd := w }.setFld F.WD_STAT_WAITING w.waiting.length).setFld F.WD_STAT_RUNNING
    (w.running.foldl (fun (m : Nat) (r : Nat × WorkItem) => m ||| 2 ^ (r.1 - 4)) 0))

/-! ## Scheduling trace (R300) -/

/-- Events of Table 13-2. -/
inductive TraceEv where
  | post | hand | done | fault | refused | held
  deriving DecidableEq, Repr

/-- EVENT code. -/
def TraceEv.code : TraceEv → Nat
  | .post => 0 | .hand => 1 | .done => 2 | .fault => 3 | .refused => 4 | .held => 5

/-- Base of the trace ring. -/
def State.traceBase (s : State) : Nat := s.fld F.WD_TRACE_BASE_LO_ADDR * 64 + s.fld F.WD_TRACE_BASE_HI_ADDR * 2 ^ 32

/-- Write one trace record, or drop it when the ring is full; EV41 as the unread records pass half the ring. -/
def State.trace (s : State) (ev : TraceEv) (addr level core status : Nat) : State :=
  if !s.bit F.WD_CFG_TRACE_EN then s else
  let size := s.fld F.WD_TRACE_SIZE_SIZE
  let hw := s.fld F.WD_TRACE_PTR_HW
  let sw := s.fld F.WD_TRACE_PTR_SW
  if size = 0 ∨ (hw + 1) % size = sw then s.count F.WD_COUNT_TRACE_DROP else
  let w := addr / 64 % 2 ^ 34 + level * 2 ^ 34 + core * 2 ^ 37 + ev.code * 2 ^ 42 + status * 2 ^ 45
  let s1 := (s.putLe (s.traceBase + 16 * hw) 8 (packNt s.now)).putLe (s.traceBase + 16 * hw + 8) 8 w
  let s2 := s1.setFld F.WD_TRACE_PTR_HW ((hw + 1) % size)
  let unread := (hw + 1 + size - sw) % size
  if 2 * (unread - 1) ≤ size ∧ size < 2 * unread then s2.pulse 41 else s2

/-! ## Handing out (R296, R297) -/

/-- A core may take an item of a level. -/
def State.takesLevel (s : State) (core l : Nat) : Bool :=
  s.bit (F.WD_CORE_CFG_EN (core - 4)) && bitOf (s.fld (F.WD_CORE_CFG_LEVELS (core - 4))) l

/-- The first item of the lowest level, among some items in post order. -/
def lowestItem : List WorkItem → Option WorkItem
  | [] => none
  | i :: is =>
    match lowestItem is with
    | none => some i
    | some j => if j.level < i.level then some j else some i

/-- The item a core would be handed now, which is also what its prefetch slot holds (R296, R297). -/
def State.nextItem (s : State) (core : Nat) : Option WorkItem :=
  if s.pwr.withdrawn.contains core then none else lowestItem (s.wd.waiting.filter (fun i => s.takesLevel core i.level))

/-- Hand an item to a core. -/
def State.handItem (s : State) (core : Nat) (i : WorkItem) : State :=
  (s.setWd { s.wd with waiting := s.wd.waiting.erase i, running := s.wd.running ++ [(core, i)] }).trace .hand i.addr
    i.level core 0

/-- A core waiting in DONE gets a value in its register and goes on behind the instruction. -/
def State.resumeDone (s : State) (core rd : Nat) (v : Nat) : State :=
  let c := s.core core
  (s.setWd { s.wd with asking := s.wd.asking.filter (fun a => a.1 != core) }).setCore core
    { c.setG rd (BitVec.ofNat 64 v) with mode := .run, pc := c.pc + 4, retired := c.retired + 1 }

/-- After a post: the first waiting core that can be handed an item gets it (R298; log entry 10). -/
def State.serveAsking (s : State) : State :=
  match s.wd.asking.find? (fun a => (s.nextItem a.1).isSome) with
  | none => s
  | some (core, rd, _) =>
    match s.nextItem core with
    | none => s
    | some i => (s.handItem core i).resumeDone core rd i.addr

/-! ## Posting (R294, R295) -/

/-- The calm word (R280). -/
def calmWord : Nat := 0x8000000000000000

/-- FLAGS of a descriptor. -/
def State.itemFlags (s : State) (a : Nat) : Nat := s.rdLe a 1

/-- An item joins the waiting items: POSTED set and DONE cleared. -/
def State.enqueueItem (s : State) (i : WorkItem) (core : Nat) : State :=
  let f := s.itemFlags i.addr
  let s1 := s.putLe i.addr 1 ((f ||| 0x40) &&& 0x7F)
  let s2 := match i.queue with | some q => s1.putLe (i.addr + 5) 1 (0x80 + q) | none => s1
  ((s2.setWd { s2.wd with waiting := s2.wd.waiting ++ [i] }).trace .post i.addr i.level core 0).serveAsking

/-- What POST answers (R294). -/
def State.postCode (s : State) (a : Nat) : Status :=
  if a % 64 ≠ 0 ∨ inNormal a 64 = false then .fault
  else if bitOf (s.itemFlags a) 6 then .busy
  else if 8192 ≤ s.wd.waiting.length then .noBuffer
  else .ok

/-- A core posts a descriptor at a level. -/
def State.postItem (s : State) (core a level : Nat) : State :=
  match s.postCode a with
  | .ok => s.enqueueItem ⟨a, level, none⟩ core
  | .noBuffer => (s.count F.WD_COUNT_FULL).trace .refused a level core 0
  | _ => s

/-- Address of queue item q. -/
def State.qItemAddr (s : State) (q : Nat) : Nat := s.fld F.WD_QITEM_ADDR * 4096 + 64 * q

/-- The held queue item that is posted next: the lowest queue number whose descriptor is not POSTED. -/
def State.heldNext (s : State) : Option (Nat × Nat) :=
  (s.wd.held.filter (fun h => !bitOf (s.itemFlags (s.qItemAddr h.1)) 6)).foldl (fun (m : Option (Nat × Nat)) h =>
    match m with
    | none => some h
    | some x => if h.1 < x.1 then some h else some x) none

/-- A held queue item is posted once there is room (R295); one that a core has posted meanwhile waits until it has completed. -/
def State.postHeld (s : State) : State :=
  match s.heldNext with
  | none => s
  | some (q, l) =>
    if s.wd.waiting.length < 8192 then
      (s.setWd { s.wd with held := s.wd.held.filter (fun h => h.1 != q) }).enqueueItem ⟨s.qItemAddr q, l, some q⟩ 30
    else s

/-- n held queue items are posted, as far as there is room. -/
def State.postHelds (s : State) : Nat → State
  | 0 => s
  | n + 1 => s.postHeld.postHelds n
/-- Held queue items go ahead of a post. -/
def State.settleHeld (s : State) : State := s.postHelds s.wd.held.length

/-- Post the queue item of queue q: nothing while it is posted; held while 8,192 items wait (R295). -/
def State.postQueueItem (s0 : State) (q level : Nat) : State :=
  let s := s0.settleHeld
  let a := s.qItemAddr q
  if bitOf (s.itemFlags a) 6 ∨ s.wd.held.any (fun h => h.1 == q) then s
  else if 8192 ≤ s.wd.waiting.length then
    (s.setWd { s.wd with held := s.wd.held ++ [(q, level)] }).trace .held a level 30 0
  else s.enqueueItem ⟨a, level, some q⟩ 30

/-! ## Completing (R298, R299) -/

/-- Status codes are those of Table 02-8; any other value ends as FAULT. -/
def knownStatus (v : Nat) : Nat := if v ≤ 0x11 then v else 0x11

/-- A queue holds unread records (R286). -/
def State.queueUnread (s : State) (q : Nat) : Bool := s.fld (F.RQ_PTR_A_READ q) != s.fld (F.RQ_PTR_A_COMMIT q)

/-- Complete the item of a core: the descriptor, DONE_EV, its tokens counted LEAK, its locked sequence, and a queue item's
next post. -/
def State.completeItem (s : State) (core status cause pc eaddr : Nat) (ev : TraceEv) : State :=
  match s.wd.running.find? (fun r => r.1 == core) with
  | none => s
  | some (_, i) =>
    let a := i.addr
    let f := s.itemFlags a
    let s1 := (((((s.putLe (a + 2) 1 status).putLe (a + 3) 1 cause).putLe (a + 4) 1 core).putLe (a + 5) 1
      (match i.queue with | some q => 0x80 + q | none => 0)).putLe (a + 8) 8 pc).putLe (a + 16) 8 eaddr
    let s2 := s1.putLe a 1 ((f &&& 0xBF) ||| 0x80)
    let s3 := (s2.setWd { s2.wd with running := s2.wd.running.filter (fun r => r.1 != core) }).trace ev a i.level core
      status
    let s4 := if bitOf f 0 then s3.pulseFree (s3.rdLe (a + 1) 1) else s3
    let s5 := (s4.releaseTokens core F.WD_COUNT_LEAK).closeSequence core
    match i.queue with
    | some q => if s5.queueUnread q then s5.postQueueItem q (s5.fld (F.RQ_CFG_LEVEL q)) else s5
    | none => s5

/-- DONE: complete, then be handed the next item or wait for one (R298). -/
def State.doneItem (s : State) (core rd status : Nat) : State :=
  let s1 := s.completeItem core (knownStatus (status % 256)) 0 0 0 .done
  let c := s1.core core
  match s1.nextItem core with
  | some i =>
    let s2 := s1.handItem core i
    s2.setCore core { c.setG rd (BitVec.ofNat 64 i.addr) with pc := c.pc + 4, retired := c.retired + 1 }
  | none =>
    (s1.setWd { s1.wd with asking := s1.wd.asking ++ [(core, rd, s1.ticks)] }).setCore core { c with mode := .idle }

/-- IDLE_WAIT has passed for a core waiting in DONE: it gets the calm word. -/
def State.doneTimeout (s : State) (core : Nat) : State :=
  match s.wd.asking.find? (fun a => a.1 == core) with
  | none => s
  | some (_, rd, since) =>
    if since + (s.fld F.WD_CFG_IDLE_WAIT + 3) / 4 ≤ s.ticks then s.resumeDone core rd calmWord else s

/-- Free values in every g and f register of a core (R299). -/
def State.scrambleRegs (s : State) (core : Nat) : State :=
  (List.range 31).foldl (fun s k =>
    let s1 := (s.setCore core ((s.core core).setG (k + 1) (BitVec.ofNat 64 (s.free 64)))).takeFree
    (s1.setCore core ((s1.core core).setF k (BitVec.ofNat 64 (s1.free 64)))).takeFree)
    ((s.setCore core ((s.core core).setF 31 (BitVec.ofNat 64 (s.free 64)))).takeFree)

/-- WD_ENTRY. -/
def State.wdEntry (s : State) : Nat := s.fld F.WD_ENTRY_LO_ADDR * 4 + s.fld F.WD_ENTRY_HI_ADDR * 2 ^ 32

/-- An exception on a work core: its item completes FAULT and it resumes at user level at WD_ENTRY (R98, R299). -/
def State.itemException (s : State) (core cause pc eaddr : Nat) : State :=
  let held := s.wd.running.any (fun r => r.1 == core)
  let s1 := s.completeItem core Status.fault.code (cause % 256) pc eaddr .fault
  let s2 := if held then s1.count F.WD_COUNT_FAULTS else (s1.releaseTokens core F.WD_COUNT_LEAK).closeSequence core
  let s3 := s2.scrambleRegs core
  s3.setCore core { s3.core core with pc := BitVec.ofNat 64 s3.wdEntry, sup := false, mode := .run, resv := none }

/-! ## Register writes -/

/-- WD_QITEM is not written where its 4 KiB would leave DRAM and the scratchpad (Table 13-11). -/
def State.afterQItem (s : State) (old : Word) : State :=
  if inNormal (s.fld F.WD_QITEM_ADDR * 4096) 4096 then s else s.setReg R.WD_QITEM old

/-- BASE and SIZE of the trace ring do not change while TRACE_EN is 1; SW takes only values below SIZE. -/
def State.afterTraceRing (s : State) (a : Nat) (old : Word) : State :=
  if a = R.WD_TRACE_PTR then
    (if s.fld F.WD_TRACE_PTR_SW < s.fld F.WD_TRACE_SIZE_SIZE then s else s.setReg a old)
  else if s.bit F.WD_CFG_TRACE_EN then s.setReg a old else s

end Sys2Proof.Machine
end

