-- ==== Sys2Proof/Machine/Queues.lean ====
section
/-!
DEFINITION. Buffer pools and reception queues (R280 to R287): buffers, records from their start to their commit or
rewind, reading, and the enables.
-/
namespace Sys2Proof.Machine

/-- Replace the queues' own state. -/
def State.setRq (s : State) (r : RqState) : State := { s with rq := r }

/-! ## Buffer pools (R281) -/

/-- Buffer size of a pool in bytes; BSIZE 7 acts as 6. -/
def State.bufSize (s : State) (b : Nat) : Nat := 256 * 2 ^ min 6 (s.fld (F.RQ_POOL_CFG_BSIZE b))
/-- A pool's stash, the most recent buffer first. -/
def State.stash (s : State) (b : Nat) : List Nat := SMap.get (fun _ => []) s.rq.stash b
/-- Replace a stash; STASHED follows. -/
def State.setStash (s : State) (b : Nat) (l : List Nat) : State :=
  (s.setRq { s.rq with stash := SMap.set (fun _ => []) s.rq.stash b l }).setFld (F.RQ_POOL_CFG_STASHED b) l.length
/-- Buffers of a pool that records hold. -/
def State.heldBufs (s : State) (b : Nat) : Nat :=
  s.rq.recs.foldl (fun n r => if r.pool = b then n + r.bufs.length else n) 0
/-- Outstanding buffers: held by records or in the stash. -/
def State.outstandingBufs (s : State) (b : Nat) : Nat := s.heldBufs b + (s.stash b).length
/-- A pool gives buffers: enabled, active and not draining (R287). -/
def State.poolLive (s : State) (b : Nat) : Bool :=
  s.bit (F.RQ_POOL_CFG_EN b) && s.bit (F.RQ_POOL_CFG_ACTIVE b) && !s.rq.pDrain.contains b

/-- The next usable ring entry of a pool, within n entries; entries outside memory are passed over, BAD_BUF. -/
def State.ringBuffer (s : State) (b : Nat) : Nat → State × Option Nat
  | 0 => (s, none)
  | n + 1 =>
    let hw := s.fld (F.RQ_POOL_PTR_HW b)
    if hw = s.fld (F.RQ_POOL_PTR_SW b) then (s, none) else
    let e := 256 * s.fld (F.RQ_POOL_BASE_ADDR b) + 4 * hw
    let a := 256 * s.rdLe e 4
    let s1 := (s.seen e 4).setFld (F.RQ_POOL_PTR_HW b) ((hw + 1) % max 1 (s.fld (F.RQ_POOL_CFG_SIZE b)))
    if inNormal a (s.bufSize b) then (s1, some a) else (s1.count F.RQ_COUNT0_BAD_BUF).ringBuffer b n

/-- Take a buffer: the stash first, then the ring while fewer than 512 are outstanding; none from a dry pool. -/
def State.takeBuffer (s : State) (b : Nat) : State × Option Nat :=
  if !s.poolLive b then (s, none) else
  match s.stash b with
  | x :: xs => (s.setStash b xs, some x)
  | [] => if 512 ≤ s.outstandingBufs b then (s, none) else s.ringBuffer b (s.fld (F.RQ_POOL_CFG_SIZE b))

/-! ## Records (R282 to R285) -/

/-- The record with a number. -/
def State.rqRec (s : State) (id : Nat) : Option RqRec := s.rq.recs.find? (fun r => r.id == id)
/-- Change a record. -/
def State.mapRec (s : State) (id : Nat) (f : RqRec → RqRec) : State :=
  s.setRq { s.rq with recs := s.rq.recs.map (fun r => if r.id == id then f r else r) }

/-- Where a record goes when it starts: refused by number, refused while disabled or draining, or taken (R283). -/
inductive Route where
  | bad | disabled | taken
  deriving DecidableEq, Repr

/-- The route of a record to a queue. -/
def State.route (s : State) (q : Nat) : Route :=
  if 64 ≤ q then .bad
  else if s.bit (F.RQ_CFG_EN q) && s.bit (F.RQ_CFG_ACTIVE q) && !s.rq.qDrain.contains q then .taken
  else .disabled

/-- Start a record in a queue; its number, or none where it is dropped and counted. -/
def State.rqStart (s : State) (q kind : Nat) : State × Option Nat :=
  match s.route q with
  | .bad => (s.count F.RQ_COUNT0_BAD_QUEUE, none)
  | .disabled => (s.count F.RQ_COUNT0_DISABLED, none)
  | .taken =>
    let id := s.rq.nextId
    (s.setRq { s.rq with recs := s.rq.recs ++ [⟨id, q, s.fld (F.RQ_CFG_POOL q), kind, 0, [], false⟩], nextId := id + 1 },
     some id)

/-- A record ends before its commit: its buffers go to the stash in the order taken; NO_BUFFER with EV35, or REWOUND. -/
def State.rewind (s : State) (id : Nat) (noBuffer : Bool) : State :=
  match s.rqRec id with
  | none => s
  | some r =>
    let s1 := s.setRq { s.rq with recs := s.rq.recs.filter (fun x => x.id != id) }
    let s2 := if r.bufs.isEmpty then s1 else s1.setStash r.pool (r.bufs.reverse ++ s1.stash r.pool)
    if noBuffer then (s2.count F.RQ_COUNT0_NO_BUFFER).pulse 35 else s2.count F.RQ_COUNT1_REWOUND

/-- Take buffers, at most n, until a record holds len bytes; false when the pool ran dry. -/
def State.rqGrow (s : State) (id len : Nat) : Nat → State × Bool
  | 0 => (s, match s.rqRec id with | some r => decide (len ≤ r.bufs.length * s.bufSize r.pool) | none => false)
  | n + 1 =>
    match s.rqRec id with
    | none => (s, false)
    | some r =>
      if len ≤ r.bufs.length * s.bufSize r.pool then (s, true) else
      match s.takeBuffer r.pool with
      | (s1, none) => (s1, false)
      | (s1, some a) => (s1.mapRec id (fun r => { r with bufs := r.bufs ++ [a] })).rqGrow id len n

/-- Bytes of a record up to len reach its buffers; a dry pool rewinds it, counted NO_BUFFER. -/
def State.rqReserve (s : State) (id len : Nat) : State × Bool :=
  match s.rqGrow id len 512 with
  | (s1, true) => (s1.mapRec id (fun r => { r with len := max r.len len }), true)
  | (s1, false) => (s1.rewind id true, false)

/-- The address of byte off of a record. -/
def RqRec.addrOf (r : RqRec) (size off : Nat) : Nat := (r.bufs[off / size]?).getD 0 + off % size

/-- Write the parts of a record from offset off on, each within one buffer. -/
def State.rqWrite (s : State) (r : RqRec) (off : Nat) : List (List Byte) → State
  | [] => s
  | p :: ps => (s.put (r.addrOf (s.bufSize r.pool) off) p).rqWrite r (off + p.length) ps

/-- Bytes from offset off cut where the aligned 8-byte words of a record begin; a buffer holds whole words. -/
def wordParts (off : Nat) (bs : List Byte) : List (List Byte) :=
  (bs.take (8 - off % 8) :: (List.range ((bs.length + 7) / 8)).map (fun i => (bs.drop (8 - off % 8 + 8 * i)).take 8)).filter
    (fun p => !p.isEmpty)

/-- Write bytes of the record with a number. -/
def State.rqPut (s : State) (id off : Nat) (bs : List Byte) : State :=
  match s.rqRec id with
  | some r => s.rqWrite r off (wordParts off bs)
  | none => s

/-- The closing word of a record lands (R284): it stands behind the records whose closing words landed before. -/
def State.rqClose (s : State) (id : Nat) : State :=
  s.setRq { s.rq with recs := s.rq.recs.filter (fun r => r.id != id) ++
    (s.rq.recs.filter (fun r => r.id == id)).map (fun r => { r with closed := true }) }

/-- Ring entries free for commits. -/
def State.freeEntries (s : State) (q : Nat) : Nat :=
  let size := max 1 (s.fld (F.RQ_CFG_SIZE q))
  (s.fld (F.RQ_PTR_B_RELEASE q) + 2 * size - s.fld (F.RQ_PTR_A_COMMIT q) - 1) % size

/-- Address of entry k of a queue's ring. -/
def State.entryAddr (s : State) (q k : Nat) : Nat := 256 * s.fld (F.RQ_BASE_ADDR q) + 16 * k

/-- Write the entries of a record from ring index k on (Table 12-2). -/
def State.writeEntries (s : State) (r : RqRec) (seq k left : Nat) (first : Bool) : List Nat → State
  | [] => s
  | b :: bs =>
    let n := min left (s.bufSize r.pool)
    let fl := b2n first + (if bs.isEmpty then 2 else 0)
    let s1 := s.put (s.entryAddr r.queue k) (leBytes 1 fl ++ leBytes 1 r.kind ++ leBytes 2 n ++ leBytes 4 seq
      ++ leBytes 4 (b / 256) ++ leBytes 1 r.pool ++ leBytes 3 0)
    s1.writeEntries r seq ((k + 1) % max 1 (s.fld (F.RQ_CFG_SIZE r.queue))) (left - n) false bs

/-- The commit of a closed record: its entries, COMMIT, EV34 and the report to the dispatcher, or a rewind for a short
ring (R284, R285). -/
def State.rqCommit (s : State) (id : Nat) : State :=
  match s.rqRec id with
  | none => s
  | some r =>
    if !r.closed then s
    else if s.freeEntries r.queue < r.bufs.length then s.rewind id true
    else
      let q := r.queue
      let seq := SMap.get (fun _ => 0) s.rq.seqs q
      let k := s.fld (F.RQ_PTR_A_COMMIT q)
      let s1 := s.writeEntries r seq k r.len true r.bufs
      let s2 := s1.setFld (F.RQ_PTR_A_COMMIT q) ((k + r.bufs.length) % max 1 (s.fld (F.RQ_CFG_SIZE q)))
      let s3 := s2.setRq { s2.rq with recs := s2.rq.recs.filter (fun x => x.id != id),
                                      seqs := SMap.set (fun _ => 0) s2.rq.seqs q ((seq + 1) % 2 ^ 32) }
      let s4 := s3.count F.RQ_COUNT1_COMMITS
      let s5 := if s4.bit (F.RQ_CFG_EVT q) then s4.pulse 34 else s4
      if s5.bit (F.RQ_CFG_DISP q) then s5.postQueueItem q (s5.fld (F.RQ_CFG_LEVEL q)) else s5

/-! ## Reading (R286) -/

/-- The ring index behind the LAST entry of the record at index k, within n entries. -/
def State.pastLast (s : State) (q k : Nat) : Nat → Nat
  | 0 => k
  | n + 1 =>
    let k' := (k + 1) % max 1 (s.fld (F.RQ_CFG_SIZE q))
    if bitOf (s.rdLe (s.entryAddr q k) 1) 1 ∨ k' = s.fld (F.RQ_PTR_A_COMMIT q) then k' else s.pastLast q k' n

/-- The 64-bit value of a pop: the address of entry READ, or the calm word. -/
def State.popValue (s : State) (q : Nat) : Nat :=
  if s.queueUnread q then s.entryAddr q (s.fld (F.RQ_PTR_A_READ q)) else calmWord

/-- The entries that the search for LAST reads, from index k within n, are dealt with (R275). -/
def State.seenEntries (s : State) (q k : Nat) : Nat → State
  | 0 => s
  | n + 1 =>
    let k' := (k + 1) % max 1 (s.fld (F.RQ_CFG_SIZE q))
    let s1 := s.seen (s.entryAddr q k) 1
    if bitOf (s.rdLe (s.entryAddr q k) 1) 1 ∨ k' = s.fld (F.RQ_PTR_A_COMMIT q) then s1 else s1.seenEntries q k' n

/-- A pop: READ moves past the record. -/
def State.popQueue (s0 : State) (q : Nat) : State :=
  let v := s0.popValue q
  let s := if s0.queueUnread q then s0.seenEntries q (s0.fld (F.RQ_PTR_A_READ q)) (s0.fld (F.RQ_CFG_SIZE q)) else s0
  let s1 := s.setRq { s.rq with popped := SMap.set (fun _ => 0) s.rq.popped q (v / 2 ^ 32) }
  if s.queueUnread q then
    s1.setFld (F.RQ_PTR_A_READ q) (s.pastLast q (s.fld (F.RQ_PTR_A_READ q)) (s.fld (F.RQ_CFG_SIZE q)))
  else s1

/-- RQ_PEND_LO (h 0) or RQ_PEND_HI (h 1) as it reads. -/
def State.pendWord (s : State) (h : Nat) : Word :=
  BitVec.ofNat 32 ((List.range 32).foldl (fun m k => if s.queueUnread (32 * h + k) then m + 2 ^ k else m) 0)

/-- RQ_POOL_STASH as it reads: the top buffer while the pool is not ACTIVE. -/
def State.stashWord (s : State) (b : Nat) : Word :=
  if s.bit (F.RQ_POOL_CFG_ACTIVE b) then 0 else BitVec.ofNat 32 ((s.stash b).headD 0 / 256)

/-- A read of RQ_POOL_STASH of a pool that is not ACTIVE removes the top buffer (R287). -/
def State.popStash (s : State) (b : Nat) : State :=
  if s.bit (F.RQ_POOL_CFG_ACTIVE b) then s
  else match s.stash b with
    | [] => s
    | _ :: xs => s.setStash b xs

/-- After a write of RQ_PTR_A: READ moves within the span from RELEASE forward to COMMIT, else BAD_PTR (R286). -/
def State.afterReadPtr (s : State) (q : Nat) (old : Word) : State :=
  let size := max 1 (s.fld (F.RQ_CFG_SIZE q))
  let new := s.fld (F.RQ_PTR_A_READ q)
  let rel := s.fld (F.RQ_PTR_B_RELEASE q)
  let com := s.fld (F.RQ_PTR_A_COMMIT q)
  if new < size ∧ (new + size - rel) % size ≤ (com + size - rel) % size then s
  else (s.setReg (R.RQ_PTR_A q) old).setFld F.RQ_STAT_BAD_PTR 1

/-- MARK lies behind RELEASE: it is not between RELEASE and COMMIT. -/
def State.markBehind (s : State) (q : Nat) : Bool :=
  let size := max 1 (s.fld (F.RQ_CFG_SIZE q))
  let rel := s.fld (F.RQ_PTR_B_RELEASE q)
  decide ((s.fld (F.RQ_PTR_A_COMMIT q) + size - rel) % size < (s.fld (F.RQ_PTR_B_MARK q) + size - rel) % size)

/-- RQ_CMD (R286): 1 MARK, 2 REWIND, 3 RELEASE. -/
def State.rqCmd (s : State) (q op : Nat) : State :=
  match op % 4 with
  | 1 => s.setFld (F.RQ_PTR_B_MARK q) (s.fld (F.RQ_PTR_A_READ q))
  | 2 => s.setFld (F.RQ_PTR_A_READ q) (s.fld (F.RQ_PTR_B_MARK q))
  | 3 =>
    let s1 := s.setFld (F.RQ_PTR_B_RELEASE q) (s.fld (F.RQ_PTR_A_READ q))
    if s1.markBehind q then s1.setFld (F.RQ_PTR_B_MARK q) (s1.fld (F.RQ_PTR_B_RELEASE q)) else s1
  | _ => s

/-! ## Enables (R287) -/

/-- An enable of a queue that is not ACTIVE: checked, then its pointers and SEQ become 0 and it is ACTIVE. -/
def State.enableQueue (s : State) (q : Nat) : State :=
  let size := s.fld (F.RQ_CFG_SIZE q)
  if 2 ≤ size ∧ inNormal (256 * s.fld (F.RQ_BASE_ADDR q)) (16 * size) then
    let s1 := ((s.setReg (R.RQ_PTR_A q) 0).setReg (R.RQ_PTR_B q) 0).setFld (F.RQ_CFG_ACTIVE q) 1
    s1.setRq { s1.rq with seqs := SMap.set (fun _ => 0) s1.rq.seqs q 0 }
  else (s.setFld (F.RQ_CFG_EN q) 0).setFld F.RQ_STAT_BAD_CFG 1

/-- After a write of RQ_CFG[q]. -/
def State.afterQueueCfg (s : State) (q : Nat) (old : Word) : State :=
  let active := s.bit (F.RQ_CFG_ACTIVE q)
  let sizeOld := getBits old 15 0
  let poolOld := getBits old 23 20
  let locked := active && (s.fld (F.RQ_CFG_SIZE q) != sizeOld || s.fld (F.RQ_CFG_POOL q) != poolOld)
  let s1 := if locked then
      ((s.setFld (F.RQ_CFG_SIZE q) sizeOld).setFld (F.RQ_CFG_POOL q) poolOld).setFld F.RQ_STAT_BAD_CFG 1 else s
  if s1.bit (F.RQ_CFG_EN q) then (if active then s1 else s1.enableQueue q)
  else if active && !s1.rq.qDrain.contains q then s1.setRq { s1.rq with qDrain := s1.rq.qDrain ++ [q] }
  else s1

/-- After a write of RQ_BASE[q]: not while ACTIVE. -/
def State.afterQueueBase (s : State) (q : Nat) (old : Word) : State :=
  if s.bit (F.RQ_CFG_ACTIVE q) ∧ s.reg (R.RQ_BASE q) ≠ old then
    (s.setReg (R.RQ_BASE q) old).setFld F.RQ_STAT_BAD_CFG 1 else s

/-- The drain of a queue ends once it has no record left; a waiting enable takes effect. -/
def State.queueDrained (s : State) (q : Nat) : State :=
  if s.rq.qDrain.contains q && !s.rq.recs.any (fun r => r.queue == q) then
    let s1 := (s.setRq { s.rq with qDrain := s.rq.qDrain.filter (· != q) }).setFld (F.RQ_CFG_ACTIVE q) 0
    if s1.bit (F.RQ_CFG_EN q) then s1.enableQueue q else s1
  else s

/-- An enable of a pool that is not ACTIVE: checked as a queue's, then HW becomes 0. -/
def State.enablePool (s : State) (b : Nat) : State :=
  let size := s.fld (F.RQ_POOL_CFG_SIZE b)
  if 2 ≤ size ∧ inNormal (256 * s.fld (F.RQ_POOL_BASE_ADDR b)) (4 * size) then
    (s.setFld (F.RQ_POOL_PTR_HW b) 0).setFld (F.RQ_POOL_CFG_ACTIVE b) 1
  else (s.setFld (F.RQ_POOL_CFG_EN b) 0).setFld F.RQ_STAT_BAD_CFG 1

/-- After a write of RQ_POOL_CFG[b]. -/
def State.afterPoolCfg (s : State) (b : Nat) (old : Word) : State :=
  let active := s.bit (F.RQ_POOL_CFG_ACTIVE b)
  let sizeOld := getBits old 15 0
  let bsOld := getBits old 29 27
  let locked := active && (s.fld (F.RQ_POOL_CFG_SIZE b) != sizeOld || s.fld (F.RQ_POOL_CFG_BSIZE b) != bsOld)
  let s1 := if locked then
      ((s.setFld (F.RQ_POOL_CFG_SIZE b) sizeOld).setFld (F.RQ_POOL_CFG_BSIZE b) bsOld).setFld F.RQ_STAT_BAD_CFG 1 else s
  if s1.bit (F.RQ_POOL_CFG_EN b) then (if active then s1 else s1.enablePool b)
  else if active && !s1.rq.pDrain.contains b then s1.setRq { s1.rq with pDrain := s1.rq.pDrain ++ [b] }
  else s1

/-- After a write of RQ_POOL_BASE[b]: not while ACTIVE. -/
def State.afterPoolBase (s : State) (b : Nat) (old : Word) : State :=
  if s.bit (F.RQ_POOL_CFG_ACTIVE b) ∧ s.reg (R.RQ_POOL_BASE b) ≠ old then
    (s.setReg (R.RQ_POOL_BASE b) old).setFld F.RQ_STAT_BAD_CFG 1 else s

/-- After a write of RQ_POOL_PTR[b]: SW takes only values below SIZE. -/
def State.afterPoolPtr (s : State) (b : Nat) (old : Word) : State :=
  if s.fld (F.RQ_POOL_PTR_SW b) < s.fld (F.RQ_POOL_CFG_SIZE b) then s else s.setReg (R.RQ_POOL_PTR b) old

/-- The drain of a pool ends once no record holds its buffers. -/
def State.poolDrained (s : State) (b : Nat) : State :=
  if s.rq.pDrain.contains b && s.heldBufs b == 0 then
    let s1 := (s.setRq { s.rq with pDrain := s.rq.pDrain.filter (· != b) }).setFld (F.RQ_POOL_CFG_ACTIVE b) 0
    if s1.bit (F.RQ_POOL_CFG_EN b) then s1.enablePool b else s1
  else s

end Sys2Proof.Machine
end

