-- ==== Sys2Proof/Machine/Memory.lean ====
section
/-!
DEFINITION. Memory behind its codes (R273 to R279, R288 to R292): loads and stores with their check, the alias windows,
the patrol, DRAM regions, interleave, training and refresh.
-/
namespace Sys2Proof.Machine

/-! ## Loads and stores of cores (R275, R276, R292) -/

/-- The scratchpad address behind an alias window address; other addresses stand for themselves. -/
def aliasOf (a : Nat) : Nat :=
  if isBitSet a then a - 0x4100000000 + spadBase
  else if isBitClear a then a - 0x4200000000 + spadBase
  else a

/-- Load n bytes; none where the access completes FAULT. -/
def State.memLoad (s : State) (a n : Nat) : State × Option Nat :=
  let p := aliasOf a
  if s.inCodes p then (s, none) else
  match s.checkWord p with
  | (s1, true) => (s1, some (s1.rdLe p n))
  | (s1, false) => (s1, none)

/-- What a store makes of old bytes: set or cleared bits through the windows (R276), else the value. -/
def storeValue (a old v : Nat) : Nat :=
  if isBitSet a then old ||| v else if isBitClear a then old - (old &&& v) else v

/-- Store the low n bytes of v; false where the access completes FAULT. An 8-byte store rewrites its word and ends an
uncorrectable mark; a narrower one merges, correcting a single wrong bit. -/
def State.memStore (s : State) (writer a n v : Nat) : State × Bool :=
  let p := aliasOf a
  if s.inCodes p then (s, false)
  else if n = 8 ∧ p = a then ((s.setWrong p 0).store writer p (leBytes n v), true)
  else
    match s.checkWord p with
    | (s1, true) => (s1.store writer p (leBytes n (storeValue a (s1.rdLe p n) (v % 256 ^ n))), true)
    | (s1, false) => (s1, false)

/-! ## Patrol (R278, R279) -/

/-- Address of word w (0 to 127) of patrol region r. -/
def patrolWord (r w : Nat) : Nat :=
  if r < 8192 then
    let bo := 1024 * (r / 32) + 8 * w
    spadBase + bo / 128 * 4096 + r % 32 * 128 + bo % 128
  else 0x4000800000 + 1024 * (r - 8192) + 8 * w

/-- The patrol copies a region: single wrong bits are corrected, uncorrectable words keep their mark. -/
def State.patrolCopy (s : State) (r : Nat) : State :=
  (List.range 128).foldl (fun s w => if s.wrongBits (patrolWord r w) = 1 then s.corrected (patrolWord r w) else s) s

/-- One region more has gone by for the regions waiting to be retried. -/
def State.patrolAge (s : State) : State :=
  s.setArrays { s.arrays with retry := s.arrays.retry.map (fun x => (x.1, x.2.1 - 1, x.2.2)) }

/-- The region the patrol takes next: the first whose retry is due and which this pass has not discarded 16 times, else the
cursor's. -/
def State.patrolNext (s : State) : Nat :=
  match s.arrays.retry.find? (fun x => x.2.1 == 0 && decide (x.2.2 < 16)) with
  | some (r, _, _) => r
  | none => s.fld F.SPM_PATROL_CURSOR

/-- The cursor moves on when the patrol took its region. A new pass counts discards afresh: regions discarded 16 times wait no
longer, their turn of the new pass comes; other retries stay due as they were. -/
def State.patrolMove (s : State) (r : Nat) : State :=
  let c := s.fld F.SPM_PATROL_CURSOR
  if r = c then
    let s1 := s.setFld F.SPM_PATROL_CURSOR (if c + 1 < 8448 then c + 1 else 0)
    if c + 1 < 8448 then s1
    else s1.setArrays { s1.arrays with
      retry := (s1.arrays.retry.filter (fun x => decide (x.2.2 < 16))).map (fun x => (x.1, x.2.1, 0)) }
  else s

/-- The patrol takes a region: the next one is due after PERIOD, at least 10 µs, and the borrow lasts a free time of at most 2 µs. -/
def State.patrolBorrow (s : State) : State :=
  s.takeFree.setArrays { s.arrays with patrolAt := s.clock + max 10 (s.fld F.SPM_PATROL_PERIOD) * usU
                                       borrowEnds := s.clock + s.free 64 % (2 * usU + 1) }

/-- One patrol step, when its time has come: a redirected access discards the march result and the region is retried after 64 more;
else a failing cell (a word of the region) is logged. -/
def State.patrolStep (s0 : State) (bad : Option Nat) (redirected : Bool) : State :=
  if !s0.bit F.SPM_PATROL_EN || decide (s0.clock < s0.arrays.patrolAt) then s0 else
  let s := s0.patrolBorrow
  let r := s.patrolNext
  let n := (s.arrays.retry.find? (fun x => x.1 == r)).elim 0 (fun x => x.2.2)
  let s1 := (s.patrolCopy r).patrolAge
  let rest := s1.arrays.retry.filter (fun x => x.1 != r)
  let s2 :=
    if redirected then (s1.count F.SPM_COUNT_DISCARDS).setArrays { s1.arrays with retry := rest ++ [(r, 64, n + 1)] }
    else
      let s3 := s1.setArrays { s1.arrays with retry := rest }
      match bad with
      | some w => ((s3.count F.SPM_COUNT_MARCH_FAIL).setFld F.SPM_STAT_MARCH_FAIL 1).logSpm (patrolWord r (w % 128)) false true
      | none => s3
  s2.patrolMove r

/-! ## DRAM (R288 to R292) -/

/-- Channel and address within it of a DRAM address for a GRAIN (R288). -/
def dramPlace (grain a : Nat) : Nat × Nat :=
  if grain = 0 then (a / 2 ^ 32, a % 2 ^ 32)
  else
    let g := 7 + min grain 9
    (a / 2 ^ g % 2, a / 2 ^ (g + 1) * 2 ^ g + a % 2 ^ g)

/-- The enabled ECC regions as (base, size) in bytes. -/
def State.cfgRegions (s : State) : List (Nat × Nat) :=
  (List.range 8).filterMap (fun r =>
    if s.bit (F.DMC_ECC_EN r) then some (s.fld (F.DMC_ECC_BASE r) * 2 ^ 26, s.fld (F.DMC_ECC_SIZE r) * 2 ^ 26) else none)

/-- No two regions overlap and none passes 8 GiB. -/
def regionsOk : List (Nat × Nat) → Bool
  | [] => true
  | r :: rs => decide (r.1 + r.2 ≤ 0x200000000) && rs.all (fun q => decide (r.1 + r.2 ≤ q.1) || decide (q.1 + q.2 ≤ r.1))
      && regionsOk rs

/-- Zero a span of memory with valid codes. -/
def State.zeroSpan (s : State) (b n : Nat) : State :=
  let inside (a : Nat) : Bool := decide (b ≤ a) && decide (a < b + n)
  { s with mem := s.mem.filter (fun c => !inside c.1)
           arrays := { s.arrays with flips := s.arrays.flips.filter (fun c => !inside c.1) } }

/-- A start of MEM: settings taken, the lanes trained, regions with INIT (every enabled one after power-on reset) written with zeros. -/
def State.memStart (s : State) (powerOn : Bool) : State :=
  let s1 := s.setArrays { s.arrays with grain := s.fld F.DMC_CFG_GRAIN, sentinel := s.fld F.DMC_CFG_SENTINEL,
                                        regions := s.cfgRegions }
  (List.range 8).foldl (fun s r =>
    if s.bit (F.DMC_ECC_EN r) && (powerOn || s.bit (F.DMC_ECC_INIT r)) then
      s.zeroSpan (s.fld (F.DMC_ECC_BASE r) * 2 ^ 26) (s.fld (F.DMC_ECC_SIZE r) * 2 ^ 26) else s) s1.trainMem

/-- The temperature has moved more than 10 °C since the channel's last sentinel sweep. -/
def State.sweepDue (s : State) (ch : Nat) : Bool :=
  80 < (s.dramTemp ch - sgn 16 (SMap.get (fun _ => 0) s.arrays.swept ch)).natAbs

/-- The interval to a bank's next refresh: 3.904 µs, or a half or a quarter of it as the device's MR4 field calls for, whose content
is a free value. -/
def State.refreshInterval (s : State) : Nat := 3904 * nsU / [1, 2, 4].getD (s.free 16 % 3) 1

/-- A bank's refresh that is due is placed in an idle bank, postponed for a busy one at most 8 times, then forced (R290); in Vigil
and below the DRAM refreshes itself. -/
def State.refreshBank (s : State) (bank : Nat) (busy : Bool) : State :=
  let n := SMap.get (fun _ => 0) s.arrays.postponed bank
  if 2 ≤ s.fld F.PWR_STAT_STATE ∨ s.clock < SMap.get (fun _ => 0) s.arrays.refreshAt bank then s
  else s.takeFree.setArrays { s.arrays with
    postponed := SMap.set (fun _ => 0) s.arrays.postponed bank (if busy && decide (n < 8) then n + 1 else 0)
    refreshAt := SMap.set (fun _ => 0) s.arrays.refreshAt bank (s.clock + s.refreshInterval) }

end Sys2Proof.Machine
end

