-- ==== Sys2Proof/Machine/Ledger.lean ====
section
/-!
DEFINITION. The ledger (ch. 15): MRAM through the journal, NAND pages and blocks, checkpoints, scrubs, mounting and closing.
-/
namespace Sys2Proof.Machine

/-- Replace the ledger. -/
def State.setLdg (s : State) (l : LdgState) : State := { s with ldg := l }

/-! ## MRAM areas (Table 15-1) -/

/-- Offset of the hot record of a handle. -/
def hotAt (h : Nat) : Nat := 64 * h
/-- Offset of SID bucket b. -/
def bucketAt (b : Nat) : Nat := 0x1800000 + 64 * b
/-- Offset of copy A of counter record n; copy B follows 16 bytes on. -/
def counterAt (n : Nat) : Nat := 0x1C00000 + 32 * n
/-- Offset of the calibration working set. -/
def calSetAt : Nat := 0x2500000
/-- Offset of copy A of the module state. -/
def moduleAt : Nat := 0x2700000
/-- Offset of copy B of the module state. -/
def moduleBAt : Nat := 0x2780000
/-- Offset of the map entry of a logical page. -/
def mapAt (l : Nat) : Nat := 0x2800000 + 4 * l
/-- Offset of CKHSEQ of a handle. -/
def ckptAt (h : Nat) : Nat := 0x2A00000 + 4 * h
/-- Offset of the persistent store. -/
def storeAt : Nat := 0x2B00000

/-- Area number of an MRAM offset in the row order of Table 15-1. -/
def mramArea (o : Nat) : Nat :=
  if o < 0x1000000 then 0 else if o < 0x1800000 then 1 else if o < 0x1C00000 then 2 else if o < 0x2500000 then 3
  else if o < 0x2700000 then 4 else if o < 0x2800000 then 5 else if o < 0x2900000 then 6 else if o < 0x2A00000 then 7
  else if o < 0x2B00000 then 8 else 9

/-! ## Reading (R335) -/

/-- The word an item writes at an 8-byte aligned offset, if it covers it. -/
def itemWord (o : Nat) (i : Nat × List Nat) : Option Nat := if i.1 ≤ o then i.2[(o - i.1) / 8]? else none

/-- The latest durable entry's word at an offset, entries oldest first. -/
def ringWord (o : Nat) : List JEntry → Option Nat
  | [] => none
  | e :: es =>
    match ringWord o es with
    | some w => some w
    | none => if e.durable then e.items.findSome? (itemWord o) else none

/-- The MRAM word at an aligned offset as every read sees it. -/
def State.mword (s : State) (o : Nat) : Nat :=
  match ringWord o s.ldg.ring with
  | some w => w
  | none => SMap.get (fun _ => 0) s.ldg.mram (o / 8)

/-- Bytes of MRAM from any offset. -/
def State.mbytes (s : State) (o n : Nat) : List Byte :=
  (List.range n).map (fun i => BitVec.ofNat 8 (s.mword ((o + i) / 8 * 8) >>> (8 * ((o + i) % 8))))
/-- A little-endian number of n bytes of MRAM. -/
def State.mnum (s : State) (o n : Nat) : Nat := leNat (s.mbytes o n)

/-- 8-byte words of a byte list. -/
def wordsOf (bs : List Byte) : List Nat := (chunks 8 (bs.length / 8 + 1) bs).map leNat

/-- The item that replaces n bytes at an offset inside aligned words, the rest as it reads now. -/
def State.patchItem (s : State) (o : Nat) (bs : List Byte) : Nat × List Nat :=
  let a := o / 8 * 8
  let z := (o + bs.length + 7) / 8 * 8
  (a, wordsOf (s.mbytes a (o - a) ++ bs ++ s.mbytes (o + bs.length) (z - (o + bs.length))))

/-! ## Journal (R332 to R334) -/

/-- Journal units in the ring. -/
def ringUnits : Nat := 131072
/-- Units of an entry. -/
def entryUnits (items : List (Nat × List Nat)) : Nat :=
  (16 + items.foldl (fun n i => n + 8 + 8 * i.2.length) 0 + 63) / 64
/-- Units not yet free. -/
def State.jfill (s : State) : Nat :=
  if s.ldg.ring.isEmpty then 0 else
  let d := (s.ldg.head + ringUnits - s.ldg.tail) % ringUnits
  if d = 0 then ringUnits else d

/-- High-water mark in percent, 50 to 95. -/
def State.highMark (s : State) : Nat := max 50 (min 95 (s.fld F.LDG_CFG_HIGH))

/-- LDG_JFILL and HIGH as they read; EV39 as the fill rises past the mark. -/
def State.jstat (s : State) : State :=
  let n := s.jfill
  let high := decide (s.highMark * ringUnits ≤ 100 * n)
  let was := s.bit F.LDG_STAT_HIGH
  let s1 := (s.setFld F.LDG_JFILL_UNITS n).setFld F.LDG_STAT_HIGH (b2n high)
  if high && !was then s1.pulse 39 else s1

/-- The pad an entry of u units needs before it, and whether both fit. -/
def State.jroom (s : State) (u : Nat) : Nat × Bool :=
  let pad := if s.ldg.head + u ≤ ringUnits then 0 else ringUnits - s.ldg.head
  (pad, decide (s.jfill + pad + u ≤ ringUnits))

/-- An item as an entry carries it: its header, then its words. -/
def itemBytes (i : Nat × List Nat) : List Byte := leBytes 8 (i.1 + 2 ^ 32 * (8 * i.2.length)) ++ i.2.flatMap (leBytes 8)
/-- An entry as it lies in its units (Table 15-6), SEAL included. -/
def JEntry.image (e : JEntry) : List Byte :=
  let head := leBytes 1 e.kind ++ leBytes 1 e.units ++ leBytes 1 e.items.length ++ leBytes 1 e.src
  let rest := padTo (64 * e.units - 16) (e.items.flatMap itemBytes)
  head ++ leBytes 4 (crc32 (head ++ rest)) ++ leBytes 8 e.jseq ++ rest
/-- The requester that an entry names: of the command it makes durable, else the one given. -/
def State.entrySrc (s : State) (tag : JTag) (other : Nat) : Nat :=
  match tag with
  | .req id => (s.reqOf id).elim other SvcReq.req
  | _ => other

/-- The words of an entry of a requester are written at the head; none where the journal is full (R334). -/
def State.journalFrom (s : State) (src : Nat) (items : List (Nat × List Nat)) (tag : JTag) : Option State :=
  let u := entryUnits items
  let (pad, fits) := s.jroom u
  if !fits then none else
  let l := s.ldg
  let pads := if pad = 0 then [] else [⟨l.next, l.head, pad, [], false, .plain, 0x50, 30⟩]
  let pos := if pad = 0 then l.head else 0
  let js := if pad = 0 then l.next else l.next + 1
  some ((s.setLdg { l with ring := l.ring ++ pads ++ [⟨js, pos, u, items, false, tag, 0x4A, s.entrySrc tag src⟩], head := (pos + u) % ringUnits,
                           next := js + 1, tail := if l.ring.isEmpty then l.head else l.tail }).jstat)

/-- An entry of the ledger's own, or of the request that it makes durable. -/
def State.journal (s : State) (items : List (Nat × List Nat)) (tag : JTag) : Option State := s.journalFrom 30 items tag

/-- Change a counter record that the cipher engine holds. -/
def State.mapCtr (s : State) (n : Nat) (f : Counter → Counter) : State :=
  { s with cph := { s.cph with ctrs := s.cph.ctrs.map (fun c => if c.1 == n then (n, f c.2) else c) } }

/-- What the durability of an entry brings about: a command ends OK, a reservation raises the ceiling in use (R322), a
settled record leaves the engine (R341). -/
def State.tagDone (s : State) (t : JTag) : State :=
  match t with
  | .plain => s
  | .req id => s.endReq id .ok
  | .resv n ceil => s.mapCtr n (fun c => { c with ceil := ceil, flight := false })
  | .settle n =>
    { s with cph := { s.cph with ctrs := s.cph.ctrs.filter (fun c => c.1 != n) },
             ldg := { s.ldg with settling := s.ldg.settling.filter (· != n) } }

/-- The oldest entry whose SEAL is not written. -/
def State.unsealed (s : State) : Option JEntry := s.ldg.ring.find? (fun e => !e.durable)

/-- The offset of copy B of a word whose area keeps two copies (R328). -/
def mirrorOf (o : Nat) : Option Nat :=
  if 0x1C00000 ≤ o ∧ o < 0x2500000 ∧ o % 32 < 16 then some (o + 16)
  else if 0x2700000 ≤ o ∧ o < 0x2780000 then some (o + 0x80000)
  else none

/-- Wrong bits of a 32-byte MRAM group. -/
def State.groupWrong (s : State) (g : Nat) : Nat := SMap.get (fun _ => 0) s.ldg.wrong g
/-- Set the wrong bits of a group. -/
def State.setGroupWrong (s : State) (g n : Nat) : State :=
  s.setLdg { s.ldg with wrong := SMap.set (fun _ => 0) s.ldg.wrong g n, rewritten := SMap.set (fun _ => 0) s.ldg.rewritten g 0 }
/-- The words of a group, as a mask, that an item writes, in copy B too. -/
def itemMask (g : Nat) (i : Nat × List Nat) : Nat :=
  (List.range i.2.length).foldl (fun m k =>
    let o := i.1 + 8 * k
    let m1 := if o / 32 = g then m ||| 2 ^ (o / 8 % 4) else m
    match mirrorOf o with
    | some p => if p / 32 = g then m1 ||| 2 ^ (p / 8 % 4) else m1
    | none => m1) 0
/-- The words of some items are written: a group that could be corrected is right again, one that could not once all of its words
have been rewritten (R329, Table 15-10). -/
def State.rewriteGroups (s : State) (items : List (Nat × List Nat)) : State :=
  s.ldg.wrong.foldl (fun (s : State) x =>
    let m := items.foldl (fun m i => m ||| itemMask x.1 i) 0
    let all := m ||| SMap.get (fun _ => 0) s.ldg.rewritten x.1
    if m = 0 then s
    else if x.2 ≤ 2 ∨ all = 15 then s.setGroupWrong x.1 0
    else s.setLdg { s.ldg with rewritten := SMap.set (fun _ => 0) s.ldg.rewritten x.1 all }) s

/-- Write the SEAL of the oldest entry without one: it is durable, LDG_JSEQ follows (R333). -/
def State.sealOldest (s : State) : State :=
  match s.unsealed with
  | none => s
  | some e =>
    let s1 := s.setLdg { s.ldg with
      ring := s.ldg.ring.map (fun x => if x.jseq == e.jseq then { x with durable := true } else x) }
    (((s1.rewriteGroups e.items).setFld F.LDG_JSEQ_LO_JSEQ_LO e.jseq).setFld F.LDG_JSEQ_HI_JSEQ_HI (e.jseq / 2 ^ 32)).tagDone e.tag

/-- Seal the oldest entries in order, n at most. -/
def State.sealAll (s : State) : Nat → State
  | 0 => s
  | n + 1 => (s.sealOldest).sealAll n

/-- Write one MRAM word, and its copy B after it. -/
def putWord (m : SMap Nat) (o w : Nat) : SMap Nat :=
  let m1 := SMap.set (fun _ => 0) m (o / 8) w
  match mirrorOf o with
  | some p => SMap.set (fun _ => 0) m1 (p / 8) w
  | none => m1

/-- Copy the words of an item to their place. -/
def applyItem (m : SMap Nat) (i : Nat × List Nat) : SMap Nat :=
  (i.2.zipIdx).foldl (fun m w => putWord m (i.1 + 8 * w.2) w.1) m

/-- Apply the oldest entry when it is durable and advance APPLIED (R334). -/
def State.applyOne (s : State) : State :=
  match s.ldg.ring with
  | [] => s
  | e :: es =>
    if e.durable then
      (s.setLdg { s.ldg with ring := es, mram := e.items.foldl applyItem s.ldg.mram,
                             tail := (e.pos + e.units) % ringUnits, applied := e.jseq + 1 }).jstat
    else s

/-- Apply every durable entry at the front, n at most. -/
def State.applyAll (s : State) : Nat → State
  | 0 => s
  | n + 1 => (s.applyOne).applyAll n

/-- An entry of a requester made and durable in one go, for changes that one step of this model makes whole: a full journal is
applied first. -/
def State.journalBy (s : State) (src : Nat) (items : List (Nat × List Nat)) : State :=
  let s0 := if (s.jroom (entryUnits items)).2 then s else
    let s1 := s.sealAll s.ldg.ring.length
    s1.applyAll s1.ldg.ring.length
  match s0.journalFrom src items .plain with
  | none => s0
  | some s1 => s1.sealAll s1.ldg.ring.length
/-- Such an entry of the ledger itself. -/
def State.journalNow (s : State) (items : List (Nat × List Nat)) : State := s.journalBy 30 items
/-- Many items in entries of at most three items of 64 bytes, so of at most 4 units each (R332). -/
def State.journalMany (s : State) (src : Nat) : Nat → List (Nat × List Nat) → State
  | 0, _ => s
  | n + 1, items => if items.isEmpty then s else (s.journalBy src (items.take 3)).journalMany src n (items.drop 3)

/-! ## NAND (R330, R331, R346, R348) -/

/-- Block b. -/
def State.nblock (s : State) (b : Nat) : NandBlock := SMap.get (fun _ => ⟨0, 0, 0, 0, 0⟩) s.ldg.blocks b
/-- Replace a block. -/
def State.setNblock (s : State) (b : Nat) (x : NandBlock) : State :=
  s.setLdg { s.ldg with blocks := SMap.set (fun _ => ⟨0, 0, 0, 0, 0⟩) s.ldg.blocks b x }
/-- What a NAND byte that nothing has programmed reads as. -/
def nandDefault (_ : Nat) : Byte := 0xFF
/-- The physical page of a logical page; the map holds it plus one, 0 for none. -/
def State.physOf (s : State) (l : Nat) : Option Nat :=
  let v := s.mnum (mapAt l) 4
  if v = 0 then none else some (v - 1)
/-- Bytes of a logical page from an offset; an unmapped page reads 0xFF. -/
def State.pageBytes (s : State) (l off n : Nat) : List Byte :=
  match s.physOf l with
  | none => List.replicate n 0xFF
  | some p => (List.range n).map (fun i => SMap.get nandDefault s.ldg.nand (p * 4096 + off + i))
/-- Sector k of a physical page cannot be corrected. -/
def State.sectorBad (s : State) (p k : Nat) : Bool := decide (40 < SMap.get (fun _ => 0) s.ldg.sectors (4 * p + k))
/-- A logical page has a sector that cannot be corrected in a span. -/
def State.pageBad (s : State) (l off n : Nat) : Bool :=
  match s.physOf l with
  | none => false
  | some p => (List.range 4).any (fun k => s.sectorBad p k && decide (1024 * k < off + n) && decide (off < 1024 * k + 1024))
/-- The bytes of a page as a move finds them: those of a sector that cannot be corrected are unknown (log entry 121). -/
def State.movedBytes (s : State) (l : Nat) : List Byte :=
  match s.physOf l with
  | none => s.pageBytes l 0 4096
  | some p => (List.range 4).flatMap (fun k =>
      if s.sectorBad p k then leBytes 1024 (s.free 32768 / 2 ^ (8192 * k)) else s.pageBytes l (1024 * k) 1024)

/-- Blocks that satisfy a test. -/
def State.blocksWhere (s : State) (t : NandBlock → Bool) : List Nat := (List.range 16384).filter (fun b => t (s.nblock b))
/-- Good blocks: those not retired. -/
def State.goodBlocks (s : State) : Nat := (s.blocksWhere (fun b => b.state != 2)).length
/-- Erased blocks ready for use. -/
def State.freeBlocks (s : State) : Nat := (s.blocksWhere (fun b => b.state == 0)).length
/-- The block of a list with the least measure, the earliest on a tie. -/
def leastBy (f : Nat → Nat) : List Nat → Option Nat
  | [] => none
  | b :: bs =>
    match leastBy f bs with
    | none => some b
    | some c => if f c < f b then some c else some b

/-- LDG_BLOCKS, LDG_WEAR, LOW_SPARE and NAND_FULL as they read. -/
def State.nandStat (s : State) : State :=
  let good := s.goodBlocks
  let er := (s.blocksWhere (fun b => b.state != 2)).map (fun b => (s.nblock b).erases)
  let s1 := (s.setFld F.LDG_BLOCKS_GOOD good).setFld F.LDG_BLOCKS_FREE s.freeBlocks
  let s2 := (s1.setFld F.LDG_WEAR_MAX_ERASE (min 0xFFFF (er.foldl max 0))).setFld F.LDG_WEAR_MIN_ERASE
    (min 0xFFFF (er.foldl min 0xFFFF))
  (s2.setFld F.LDG_STAT_LOW_SPARE (b2n (decide (good < 4096)))).setFld F.LDG_STAT_NAND_FULL (b2n (decide (good < 1600)))

/-- The next free physical page: of the block being filled, or of the free block with the lowest erase count (R346). -/
def State.allocPage (s : State) : Option (State × Nat) :=
  let blk := match s.ldg.filling with
    | some b => if (s.nblock b).used < 64 ∧ (s.nblock b).state = 1 then some b
                else leastBy (fun b => (s.nblock b).erases) (s.blocksWhere (fun b => b.state == 0))
    | none => leastBy (fun b => (s.nblock b).erases) (s.blocksWhere (fun b => b.state == 0))
  match blk with
  | none => none
  | some b =>
    let x := s.nblock b
    let y := { x with state := 1, used := x.used + 1, born := if x.used = 0 then s.clock else x.born }
    let s1 := if x.state = 0 then s.setFld F.LDG_BLOCKS_FREE (s.fld F.LDG_BLOCKS_FREE - 1) else s
    some ((s1.setNblock b y).setLdg { (s1.setNblock b y).ldg with filling := some b }, 64 * b + x.used)

/-- Program the bytes of a logical page into a physical page, with its tag (R330). -/
def State.programPage (s : State) (l p : Nat) (bs : List Byte) : State :=
  s.setLdg { s.ldg with
    tags := SMap.set (fun _ => none) s.ldg.tags p (some (l, s.ldg.next - 1))
    sectors := s.ldg.sectors.filter (fun (x : Nat × Nat) => x.1 / 4 != p)
    nand := (bs.zipIdx).foldl (fun m b => SMap.set nandDefault m (p * 4096 + b.2) b.1) s.ldg.nand }

/-- The map item of a logical page. -/
def State.mapItem (s : State) (l p : Nat) : Nat × List Nat := s.patchItem (mapAt l) (leBytes 4 (p + 1))

/-- Start a program of a logical page. -/
def State.startProg (s : State) (l : Nat) (bs : List Byte) (items : List (Nat × List Nat)) (tag : JTag) : State :=
  match s.allocPage with
  | none => s
  | some (s1, p) => s1.setLdg { s1.ldg with progs := s1.ldg.progs ++ [⟨l, p, bs, items, tag⟩] }

/-- Program a logical page whole within one step: page, map entry of a requester and further items. -/
def State.programBy (s : State) (src l : Nat) (bs : List Byte) (items : List (Nat × List Nat)) : State :=
  match s.allocPage with
  | none => s
  | some (s1, p) => (s1.programPage l p bs).journalBy src ((s1.mapItem l p) :: items)
/-- Such a program on the ledger's own account. -/
def State.programNow (s : State) (l : Nat) (bs : List Byte) (items : List (Nat × List Nat)) : State := s.programBy 30 l bs items
/-- Free pages are left for some programs. -/
def State.roomFor (s : State) (pages : Nat) : Bool :=
  decide (pages ≤ 64 * s.freeBlocks + (match s.ldg.filling with
    | some b => if (s.nblock b).state = 1 then 64 - (s.nblock b).used else 0
    | none => 0))

/-- Logical pages whose valid copy lies in a block. -/
def State.pagesIn (s : State) (b : Nat) : List Nat :=
  (List.range 98304).filter (fun l => match s.physOf l with | some p => p / 64 == b | none => false)

/-- Move the valid pages of a block elsewhere; the block is filled no further. -/
def State.evacuate (s : State) (b : Nat) : State :=
  (s.pagesIn b).foldl (fun s l => (s.programNow l (s.movedBytes l) []).takeFree)
    (s.setLdg { s.ldg with filling := if s.ldg.filling = some b then none else s.ldg.filling })

/-- Retire a block: its valid pages move first (R348). -/
def State.retireBlock (s : State) (b : Nat) : State :=
  let s1 := s.evacuate (b % 16384)
  ((s1.setNblock b { s1.nblock b with state := 2 }).count F.LDG_COUNT1_RETIRED).nandStat

/-- Begin the erase of a block whose pages have moved. -/
def State.eraseBlock (s : State) (b : Nat) : State := s.setNblock b { s.nblock b with state := 3 }

/-- Garbage collection: the block in use with the fewest valid pages, the lowest erase count on a tie, is emptied and
erased (R346). -/
def State.collect (s : State) : State :=
  if s.bit F.LDG_STAT_MOUNTED = false then s else
  let used := s.blocksWhere (fun b => b.state == 1 && b.used == 64)
  match leastBy (fun b => (s.pagesIn b).length * 2 ^ 32 + (s.nblock b).erases) used with
  | none => s
  | some b => ((s.evacuate b).eraseBlock b).nandStat

/-- Wear levelling: the data of the least-erased block in use moves (R346). -/
def State.levelWear (s : State) : State :=
  if s.bit F.LDG_STAT_MOUNTED = false then s else
  let good := s.blocksWhere (fun b => b.state != 2)
  let er := good.map (fun b => (s.nblock b).erases)
  if 2000 < er.foldl max 0 - er.foldl min (er.headD 0) then
    match leastBy (fun b => (s.nblock b).erases) (good.filter (fun b => (s.nblock b).state == 1)) with
    | none => s
    | some b => ((s.evacuate b).eraseBlock b).nandStat
  else s

/-! ## Cold records and checkpoints (Table 15-5, R338, R339) -/

/-- Logical page and byte of the cold record of a handle. -/
def coldAt (h : Nat) : Nat × Nat := (65536 + h / 8, 512 * (h % 8))

/-- The latest version of a logical page: of the newest program of it in progress, else as it reads (R339). -/
def State.latestPage (s : State) (l : Nat) : List Byte :=
  match (s.ldg.progs.filter (fun p => p.logical == l)).getLast? with
  | some p => p.data
  | none => s.pageBytes l 0 4096
/-- The logical page of a cold record with some of its bytes replaced. -/
def State.coldPage (s : State) (h off : Nat) (bs : List Byte) : List Byte :=
  let (l, o) := coldAt h
  let p := s.latestPage l
  p.take (o + off) ++ bs ++ p.drop (o + off + bs.length)

/-- The item that sets CKHSEQ of a handle. -/
def State.ckItem (s : State) (h v : Nat) : Nat × List Nat := s.patchItem (ckptAt h) (leBytes 4 v)

/-- Bytes 0 to 79 of a cold record for an image: CKPT, CKPT_NT and zeros. -/
def State.ckptBytes (s : State) (image : List Byte) : List Byte := image ++ leBytes 8 (packNt s.now) ++ leBytes 8 0

/-- Begin a checkpoint of a handle from an image; CKHSEQ follows with the page's map entry (R338). -/
def State.startCkpt (s : State) (h : Nat) (image : List Byte) (items : List (Nat × List Nat)) (tag : JTag) : State :=
  s.startProg (coldAt h).1 (s.coldPage h 0 (s.ckptBytes image)) (s.ckItem h (leNat ((image.drop 4).take 4)) :: items) tag

/-- A checkpoint of a handle is scheduled. -/
def State.scheduleCkpt (s : State) (h : Nat) : State :=
  if s.ldg.ckpts.contains h then s else s.setLdg { s.ldg with ckpts := s.ldg.ckpts ++ [h] }

/-! ## Errors (R349) -/

/-- The group that holds the other copy of a group of module state; any other group stands for itself. -/
def groupTwin (g : Nat) : Nat :=
  if 0x2700000 ≤ 32 * g ∧ 32 * g < 0x2780000 then g + 0x4000
  else if 0x2780000 ≤ 32 * g ∧ 32 * g < 0x2800000 then g - 0x4000
  else g
/-- A span of MRAM holds a group that no copy can replace. -/
def State.spanLost (s : State) (o n : Nat) : Bool :=
  s.ldg.wrong.any (fun g => decide (2 < g.2) && decide (32 * g.1 < o + n) && decide (o < 32 * g.1 + 32) &&
    decide (2 < s.groupWrong (groupTwin g.1)))
/-- A span of MRAM holds a group that cannot be corrected. -/
def State.spanBad (s : State) (o n : Nat) : Bool :=
  s.ldg.wrong.any (fun g => decide (2 < g.2) && decide (32 * g.1 < o + n) && decide (o < 32 * g.1 + 32))

/-- Log an error in LDG_ERR when it holds none. -/
def State.logLdg (s : State) (area : Nat) (nand : Bool) (off : Nat) : State :=
  if s.bit F.LDG_ERR_VALID then s else
  (((s.setFld F.LDG_ERR_VALID 1).setFld F.LDG_ERR_AREA area).setFld F.LDG_ERR_NAND (b2n nand)).setFld F.LDG_ERR_OFFSET off

/-- Write MRAM words in place, past the journal, as a repair does. -/
def State.mramPut (s : State) (o : Nat) (ws : List Nat) : State :=
  s.setLdg { s.ldg with mram := applyItem s.ldg.mram (o, ws) }

/-- A context image with VALID 0. -/
def cxValidOff (image : List Byte) : List Byte := image.take 60 ++ [byteAt image 60 &&& 0xFE] ++ image.drop 61
/-- A context image restored as Table 15-10 says: HSEQ, WMAP all ones, STALE 1. -/
def restoredImage (image : List Byte) (hseq : Nat) : List Byte :=
  image.take 4 ++ leBytes 4 hseq ++ leBytes 8 (2 ^ 64 - 1) ++ (image.drop 16).take 43
    ++ [byteAt image 59 ||| 0x80] ++ image.drop 60

/-- The offsets of index entries that may name a handle: every word of the SID index that something wrote. -/
def State.indexWords (s : State) : List Nat :=
  (s.ldg.mram.map (fun (x : Nat × Nat) => 8 * x.1) ++ s.ldg.ring.flatMap (fun (e : JEntry) => e.items.map (fun i => i.1))).filter
    (fun o => decide (0x1800000 ≤ o) && decide (o < 0x1C00000))
/-- The SID of a handle leaves the index. -/
def State.dropHandle (s : State) (h : Nat) : State :=
  s.indexWords.foldl (fun (s : State) o =>
    if (s.mword o).testBit 63 && s.mword o / 2 ^ 32 % 2 ^ 18 == h then s.journalNow [(o, [0])] else s) s
/-- The newest calibration record's bytes from an offset on, as the Keeper reloads the working set. -/
def State.newestCal (s : State) (off n : Nat) : List Byte :=
  match s.ldg.calRecs.getLast? with
  | some (_, p, _) => (List.range n).map (fun i => byteAt (s.pageBytes (32768 + (p + (16 + off + i) / 4096) % 16384) ((16 + off + i) % 4096) 1) 0)
  | none => List.replicate n 0

/-- The repair of an uncorrectable group, by area (Table 15-10). -/
def State.repairGroup (s : State) (g : Nat) : State :=
  let o := 32 * g
  match mramArea o with
  | 0 =>
    let h := o / 64
    let (l, b) := coldAt h
    if s.pageBad l b 64 || (s.physOf l).isNone then
      (s.mramPut (hotAt h) (wordsOf (cxValidOff (s.mbytes (hotAt h) 64)))).dropHandle h
    else
      (s.mramPut (hotAt h) (wordsOf (restoredImage (s.pageBytes l b 64) (s.mnum (ckptAt h) 4 + 64)))).count
        F.LDG_COUNT0_RESTORES
  | 2 => s.setLdg { s.ldg with indexRebuild := true }
  | 3 =>
    -- both copies of a counter record lie in one group: LOCKED and CEIL at the top of the range
    let n := (o - 0x1C00000) / 32
    let rec0 := leNat (s.mbytes (counterAt n) 16)
    let w := 32 + 16 * (rec0 / 2 ^ 96 % 4)
    let r := rec0 % 2 ^ 32 + (2 ^ w - 1) * 2 ^ 32 + (rec0 / 2 ^ 96 % 256 ||| 4) * 2 ^ 96
    s.mramPut (counterAt n) [r % 2 ^ 64, r / 2 ^ 64]
  | 4 => s.mramPut o (wordsOf (s.newestCal ((o - calSetAt) % 0x10000) 32))
  | 5 => s.mramPut o (wordsOf (s.mbytes (32 * groupTwin g) 32))
  | 6 | 7 => s.setLdg { s.ldg with mapRebuild := true }
  | 8 =>
    let h := (o - 0x2A00000) / 4
    s.mramPut o (wordsOf (((List.range 8).map (fun i => s.pageBytes (coldAt (h + i)).1 ((coldAt (h + i)).2 + 4) 4)).flatten))
  | _ => s

/-- An uncorrectable group is met: counted, logged, repaired. A store group keeps its mark until its words are rewritten; an
unapplied entry of the journal is lost at the replay; module state without a good copy is the Keeper's to hear of (R379). -/
def State.lostGroup (s : State) (g : Nat) : State :=
  let s1 := ((s.count F.LDG_COUNT0_MRAM_UE).logLdg (mramArea (32 * g)) false (32 * g)).setFld F.LDG_STAT_RESTORED 1
  if mramArea (32 * g) = 9 ∨ mramArea (32 * g) = 1 ∨ (mramArea (32 * g) = 5 ∧ 2 < s.groupWrong (groupTwin g)) then s1
  else (s1.repairGroup g).setGroupWrong g 0
/-- A read of a span of MRAM meets its uncorrectable groups (R349). -/
def State.meet (s : State) (o n : Nat) : State :=
  s.ldg.wrong.foldl (fun (s : State) x =>
    if 2 < x.2 ∧ 32 * x.1 < o + n ∧ o < 32 * x.1 + 32 then s.lostGroup x.1 else s) s

/-- One group of an MRAM scrub: rewritten after a correction, else met. -/
def State.scrubGroup (s : State) (g : Nat) : State :=
  let n := s.groupWrong g
  if n = 0 then s
  else if n ≤ 2 then (s.setGroupWrong g 0).count F.LDG_COUNT0_MRAM_CE
  else s.lostGroup g

/-- Hours between MRAM scrubs, 1 to 24. -/
def State.scrubHours (s : State) : Nat := max 1 (min 24 (s.fld F.LDG_CFG_MRAM_HOURS))
/-- An MRAM scrub that is due: every group with wrong bits; the next is due MRAM_HOURS later (R349). -/
def State.scrubMram (s : State) : State :=
  if s.bit F.LDG_STAT_MOUNTED = false ∨ s.clock < s.ldg.scrubAt then s else
  let s1 := s.ldg.wrong.foldl (fun s g => s.scrubGroup g.1) s
  s1.setLdg { s1.ldg with scrubAt := s.clock + 3600 * s.scrubHours * secU }

/-- A logical page is read: one more read of its block since its erase; a sector that cannot be corrected is counted and logged and
retires the block (R347, R348). -/
def State.readPage (s : State) (l : Nat) : State :=
  match s.physOf l with
  | none => s
  | some p =>
    let b := s.nblock (p / 64)
    let s0 := s.setNblock (p / 64) { b with reads := b.reads + 1 }
    if s.pageBad l 0 4096 then
      ((s0.count F.LDG_COUNT1_NAND_UE).logLdg (if l < 65536 then l / 16384 else 4) true l).retireBlock (p / 64)
    else s0

/-- A scrub read of a NAND page: rewritten elsewhere when worn, old or much read (R347). -/
def State.scrubPage (s : State) (l : Nat) : State :=
  if 98304 ≤ l ∨ s.bit F.LDG_STAT_MOUNTED = false then s else
  match s.physOf l with
  | none => s
  | some p =>
    let worst := (List.range 4).foldl (fun n k => max n (SMap.get (fun _ => 0) s.ldg.sectors (4 * p + k))) 0
    let b := s.nblock (p / 64)
    let s0 := s.readPage l
    if 40 < worst then s0
    else if 20 < worst ∨ 15552000 * secU < s0.clock - b.born ∨ 100000 < b.reads + 1 then
      (s0.programNow l (s0.pageBytes l 0 4096) []).count F.LDG_COUNT1_RELOCATED
    else s0

/-! ## Module state (Table 15-3) -/

/-- Items of at most 64 bytes that write bytes from an offset on, within n pieces. -/
def State.itemsAt (s : State) (o : Nat) (bs : List Byte) : Nat → List (Nat × List Nat)
  | 0 => []
  | n + 1 =>
    if bs.isEmpty then [] else
    let k := 64 - o % 64
    s.patchItem o (bs.take k) :: s.itemsAt (o + k) (bs.drop k) n
/-- The items that write bytes of the module state. -/
def State.moduleItems (s : State) (o : Nat) (bs : List Byte) : List (Nat × List Nat) :=
  s.itemsAt (moduleAt + o) bs (bs.length / 64 + 2)
/-- Bytes of the module state. -/
def State.moduleBytes (s : State) (o n : Nat) : List Byte := s.mbytes (moduleAt + o) n
/-- The active firmware area and the marks byte (R353). -/
def State.marks (s : State) : Nat := leNat (s.moduleBytes 0x68000 16)
/-- Active area: 0 FW_A, 1 FW_B. -/
def State.activeArea (s : State) : Nat := s.marks % 2

/-! ## Mount and close (R336, R343, R345) -/

/-- The fields of a register that survive Off: non-volatile settings, the other fields at reset. -/
def keepNv (a : Nat) (w : Word) : Word :=
  match locate a with
  | none => w
  | some p =>
    match regAt p with
    | none => w
    | some (r, _, _) => r.fields.foldl (fun x f => if f.src == .nv then setBits x f.msb f.lsb (getBits w f.msb f.lsb) else x) (resetWord a)

/-- The MRAM offset of byte b of an entry. -/
def JEntry.at_ (e : JEntry) (b : Nat) : Nat := 0x1000000 + 64 * e.pos + b
/-- A unit of an entry cannot be corrected. -/
def State.entryBad (s : State) (e : JEntry) : Bool := s.spanBad (e.at_ 0) (64 * e.units)
/-- The offsets of an entry's item headers. -/
def headerOffsets : Nat → List (Nat × List Nat) → List Nat
  | _, [] => []
  | o, i :: is => o :: headerOffsets (o + 8 + 8 * i.2.length) is
/-- Every header of an entry can be read. -/
def State.headersOk (s : State) (e : JEntry) : Bool :=
  !s.spanBad (e.at_ 0) 16 && (headerOffsets 16 e.items).all (fun o => !s.spanBad (e.at_ o) 8)

/-- A context whose update may be lost: HSEQ past its checkpoint by 64, WMAP all ones, STALE (Table 15-10). -/
def State.forgetCtx (s : State) (h : Nat) : State :=
  let c := s.mbytes (hotAt h) 64
  if bitOf (byteAt c 60).toNat 0 then
    s.mramPut (hotAt h) (wordsOf (restoredImage c (max (leNat ((c.drop 4).take 4)) (s.mnum (ckptAt h) 4 + 64))))
  else s
/-- A counter record whose reservations may be lost: CEIL + 4,096, at most the top of its range. -/
def State.forgetCtr (s : State) (n : Nat) : State :=
  let r := leNat (s.mbytes (counterAt n) 16)
  let w := 32 + 16 * (r / 2 ^ 96 % 4)
  let ceil := min (r / 2 ^ 32 % 2 ^ 64 + 4096) (2 ^ w - 1)
  let r1 := r % 2 ^ 32 + ceil * 2 ^ 32 + r / 2 ^ 96 * 2 ^ 96
  s.mramPut (counterAt n) [r1 % 2 ^ 64, r1 / 2 ^ 64]

/-- The replay stopped before an entry that cannot be corrected: it and every later one are discarded (Table 15-10). -/
def State.discardEntries (s : State) (lost : List JEntry) : State :=
  let hot := lost.flatMap (fun e => (e.items.filter (fun i => decide (i.1 < 0x1000000))).map (fun i => i.1 / 64))
  let hs := if lost.all s.headersOk then hot else List.range 262144
  let bad := s.ldg.wrong.filter (fun g => lost.any (fun e => decide (e.at_ 0 / 32 ≤ g.1) && decide (g.1 < (e.at_ 0 + 64 * e.units) / 32)))
  let s1 := bad.foldl (fun (s : State) g =>
    let t := if 2 < g.2 then ((s.count F.LDG_COUNT0_MRAM_UE).logLdg 1 false (32 * g.1)).setFld F.LDG_STAT_RESTORED 1 else s
    t.setGroupWrong g.1 0) s
  let s2 := (List.range 266240).foldl (fun (s : State) n => s.forgetCtr n) s1
  hs.foldl (fun (s : State) h => s.forgetCtx h) s2

/-- Replay: durable entries from the first unapplied on apply, up to one that cannot be corrected; the others are absent (R336,
R337). -/
def State.replayTo (s : State) (es : List JEntry) : State :=
  let stop := es.getLast?
  let m := es.foldl (fun m e => e.items.foldl applyItem m) s.ldg.mram
  let next := match stop with | some e => e.jseq + 1 | none => s.ldg.applied
  let head := match stop with | some e => (e.pos + e.units) % ringUnits | none => s.ldg.tail
  (s.setLdg { s.ldg with ring := [], mram := m, head := head, tail := head, next := next, applied := next, progs := [],
                         ckpts := [] }).jstat
/-- Replay the journal. -/
def State.replay (s : State) : State :=
  let whole := s.ldg.ring.takeWhile (fun e => e.durable)
  let es := whole.takeWhile (fun e => !s.entryBad e)
  if es.length = whole.length then s.replayTo es else (s.replayTo es).discardEntries (whole.drop es.length)

/-- Mount the ledger: the superblock read, replay, one more mount counted, MOUNTED (R336). Erases left unfinished are made again. -/
def State.mount (s : State) : State :=
  let s1 := ((s.meet moduleAt 0x1000).meet moduleBAt 0x1000).replay
  (((s1.setFld F.LDG_STAT_MOUNTED 1).setFld F.LDG_STAT_FLUSHING 0).count F.LDG_LIFE_MOUNTS).nandStat

/-- Close the ledger: entries in progress sealed, all applied, the close entry made, MOUNTED cleared (Table 15-8). -/
def State.closeLedger (s : State) (cause : Nat) : State :=
  let s1 := s.sealAll s.ldg.ring.length
  let s2 := s1.applyAll s1.ldg.ring.length
  let l := s2.ldg
  (((s2.setLdg { l with head := (l.head + 1) % ringUnits, tail := (l.head + 1) % ringUnits, next := l.next + 1,
                        applied := l.next + 1, closeCause := cause, ckpts := [] }).setFld F.LDG_STAT_MOUNTED 0).setFld F.LDG_STAT_FLUSHING 0).jstat

end Sys2Proof.Machine
end

