-- ==== Sys2Proof/Machine/Audit.lean ====
section
/-!
DEFINITION. The audit log (R384 to R386): an entry is built, chained to the one before it and staged in module state; 64
staged entries move to NAND together (R352).
-/
namespace Sys2Proof.Machine

/-- Replace the Keeper's own state. -/
def State.setKpr (s : State) (k : KprState) : State := { s with kpr := k }
/-- Replace the pass of a slot. -/
def State.setPassHeld (s : State) (n : Nat) (p : PassHeld) : State :=
  s.setKpr { s.kpr with passes := SMap.set (fun _ => ⟨0, 0, 0, 0, 0, 0, 0⟩) s.kpr.passes n p }

/-- Offset within the module state of the staging place of an entry number. -/
def stageAt (n : Nat) : Nat := 0x69000 + 64 * (n % 128)

/-- The 64 bytes that precede an entry number in the chain (R386). -/
def State.auditBefore (s : State) (n : Nat) : List Byte :=
  if n = 0 then leBytes 8 Config.serial ++ List.replicate 56 0 else s.moduleBytes (stageAt (n - 1)) 64

/-- Table 17-6. -/
def State.auditBytes (s : State) (kind role req status passId : Nat) (merged : Bool) (detail : List Byte) : List Byte :=
  let n := s.fld F.LDG_AUDNEXT_NEXT
  leBytes 1 kind ++ leBytes 1 role ++ leBytes 1 req ++ leBytes 1 status ++ leBytes 4 n ++ leBytes 8 (packNt s.now)
    ++ leBytes 4 passId ++ leBytes 1 (b2n s.coarse + 2 * b2n merged) ++ leBytes 3 0 ++ padTo 16 detail
    ++ (sha256 (s.auditBefore n)).take 24

/-- AUD_HEAD and AUD_HASH name the newest durable entry. -/
def State.auditHead (s : State) (n : Nat) (e : List Byte) : State :=
  (List.range 8).foldl (fun s i => s.setFld (F.AUD_HASH_HASH i) (leNat (((sha256 e).drop (4 * i)).take 4)))
    (s.setFld F.AUD_HEAD_NUMBER n)

/-- Move the 64 staged entries that end with number n to their page of the AUDIT ring. -/
def State.flushStage (s : State) (n : Nat) : State :=
  s.programNow (49152 + n / 64 % 16384) (((List.range 64).map (fun i => s.moduleBytes (stageAt (n / 64 * 64 + i)) 64)).flatten) []

/-- After the entry with LDG_AUDNEXT's number is staged: the number rises, and a full page moves to NAND. -/
def State.auditStaged (s : State) (e : List Byte) : State :=
  let n := s.fld F.LDG_AUDNEXT_NEXT
  let s1 := (s.setFld F.LDG_AUDNEXT_NEXT (n + 1)).auditHead n e
  if n % 64 = 63 then s1.flushStage n else s1

/-- The Keeper appends an entry, durable in the same step; a halted Keeper appends none (R393). -/
def State.audit (s : State) (kind role req status passId : Nat) (detail : List Byte) : State :=
  if s.kpr.snow.isSome then s else
  let e := s.auditBytes kind role req status passId false detail
  (s.journalBy 23 (s.moduleItems (stageAt (s.fld F.LDG_AUDNEXT_NEXT)) e)).auditStaged e

/-- The bytes of an audit entry held: staged, or in NAND. -/
def State.auditEntry (s : State) (n : Nat) : List Byte :=
  let next := s.fld F.LDG_AUDNEXT_NEXT
  if next / 64 * 64 ≤ n then s.moduleBytes (stageAt n) 64
  else s.pageBytes (49152 + n / 64 % 16384) (64 * (n % 64)) 64
/-- An audit entry is held: among the newest 1,048,576. -/
def State.auditHeld (s : State) (n : Nat) : Bool :=
  let next := s.fld F.LDG_AUDNEXT_NEXT
  decide (n < next) && decide (next - n ≤ 1048576)

/-- Image events (KIND 0x07). -/
def State.auditImage (s : State) (req action area version : Nat) : State :=
  s.audit 0x07 (s.role req) req 0 (s.passIdOf req) (leBytes 1 action ++ leBytes 1 area ++ leBytes 2 0 ++ leBytes 4 version)
/-- Key store events (KIND 0x08). -/
def State.auditKeyStore (s : State) (what : Nat) : State :=
  s.audit 0x08 3 30 0 0 (leBytes 1 what ++ leBytes 1 (s.fld F.KST_ALARM_LATCHED))
/-- Power events (KIND 0x09). -/
def State.auditPower (s : State) (what cause : Nat) : State := s.audit 0x09 3 30 0 0 (leBytes 1 what ++ leBytes 1 cause)
/-- Failures (KIND 0x0A). -/
def State.auditFailure (s : State) (row core : Nat) : State := s.audit 0x0A 3 30 0 0 (leBytes 1 row ++ leBytes 1 core)

end Sys2Proof.Machine
end

