-- ==== Sys2Proof/Machine/Contexts.lean ====
section
/-!
DEFINITION. Context images (Table 09-1), the link unit's copy of them, and the SID index (R211 to R214).
-/
namespace Sys2Proof.Machine

/-- A context image is a list of 64 bytes; the little-endian number of n bytes at byte b. -/
def cxGet (c : List Byte) (b n : Nat) : Nat := leNat ((c.drop b).take n)
/-- Replace n bytes at byte b. -/
def cxSet (c : List Byte) (b n v : Nat) : List Byte := c.take b ++ leBytes n v ++ c.drop (b + n)

/-- SID. -/
def cxSid (c : List Byte) : Nat := cxGet c 0 4
/-- HSEQ. -/
def cxHseq (c : List Byte) : Nat := cxGet c 4 4
/-- WMAP. -/
def cxWmap (c : List Byte) : Nat := cxGet c 8 8
/-- WRAPPED of KEY. -/
def cxWrapped (c : List Byte) : Bool := bitOf (cxGet c 55 3) 23
/-- The key slot or wrapped-key index of KEY. -/
def cxKey (c : List Byte) : Nat := if cxWrapped c then cxGet c 55 3 % 2 ^ 18 else cxGet c 55 3 % 2 ^ 12
/-- STATE byte. -/
def cxState (c : List Byte) : Nat := cxGet c 59 1
/-- DSTATE: 0 NEW, 1 LEARNING, 2 LEARNED, 3 LOST. -/
def cxDstate (c : List Byte) : Nat := cxState c % 4
/-- MISSES. -/
def cxMisses (c : List Byte) : Nat := cxState c / 4 % 4
/-- CONTACTS. -/
def cxContacts (c : List Byte) : Nat := cxState c / 16 % 8
/-- STALE. -/
def cxStale (c : List Byte) : Bool := bitOf (cxState c) 7
/-- The image with a STATE byte. -/
def cxSetState (c : List Byte) (dstate misses contacts : Nat) (stale : Bool) : List Byte :=
  cxSet c 59 1 (dstate % 4 + misses % 4 * 4 + contacts % 8 * 16 + b2n stale * 128)
/-- The image with STALE set or cleared. -/
def cxSetStale (c : List Byte) (b : Bool) : List Byte := cxSetState c (cxDstate c) (cxMisses c) (cxContacts c) b
/-- LCFG byte. -/
def cxLcfg (c : List Byte) : Nat := cxGet c 60 1
/-- VALID. -/
def cxValid (c : List Byte) : Bool := bitOf (cxLcfg c) 0
/-- PEER. -/
def cxPeer (c : List Byte) : Bool := bitOf (cxLcfg c) 1
/-- The corrections are pending: TADJ is not none. -/
def cxPending (c : List Byte) : Bool := cxGet c 50 3 != 0x800000

/-- Replace the link unit's state. -/
def State.setLnk (s : State) (l : LinkState) : State := { s with lnk := l }
/-- The context image of a handle as the link unit sees it: a change not yet durable, else the ledger's (R335). -/
def State.ctx (s : State) (h : Nat) : List Byte :=
  match s.lnk.dirty.find? (fun d => d.1 == h) with
  | some d => d.2
  | none => s.mbytes (hotAt h) 64
/-- Change a context in the link unit's cache. -/
def State.setCtx (s : State) (h : Nat) (c : List Byte) : State :=
  s.setLnk { s.lnk with dirty := s.lnk.dirty.filter (fun d => d.1 != h) ++ [(h, c)] }
/-- The cached change of a handle has become durable. -/
def State.cleanCtx (s : State) (h : Nat) : State :=
  s.setLnk { s.lnk with dirty := s.lnk.dirty.filter (fun d => d.1 != h) }
/-- The journal item of a context update. -/
def ctxItem (h : Nat) (c : List Byte) : Nat × List Nat := (hotAt h, wordsOf c)

/-! ## The SID index (R213) -/

/-- Bucket h1 of a SID. -/
def sidH1 (sid : Nat) : Nat := sid * 0x9E3779B1 % 2 ^ 32 / 2 ^ 16
/-- Bucket h2 of a SID. -/
def sidH2 (sid : Nat) : Nat := sid * 0x85EBCA6B % 2 ^ 32 / 2 ^ 16
/-- Entry k of bucket b. -/
def State.sidEntry (s : State) (b k : Nat) : Nat := s.mword (bucketAt b + 8 * k)
/-- An entry is used. -/
def entryUsed (e : Nat) : Bool := e.testBit 63
/-- The handle of a SID within a bucket. -/
def State.sidIn (s : State) (b sid : Nat) : Option (Nat × Nat) :=
  ((List.range 8).find? (fun k => entryUsed (s.sidEntry b k) && s.sidEntry b k % 2 ^ 32 == sid)).map
    (fun k => (k, s.sidEntry b k / 2 ^ 32 % 2 ^ 18))
/-- Where a SID is indexed: bucket, entry, handle. -/
def State.sidFind (s : State) (sid : Nat) : Option (Nat × Nat × Nat) :=
  match s.sidIn (sidH1 sid) sid with
  | some (k, h) => some (sidH1 sid, k, h)
  | none => (s.sidIn (sidH2 sid) sid).map (fun e => (sidH2 sid, e.1, e.2))
/-- The handle whose SID this is. -/
def State.handleOf (s : State) (sid : Nat) : Option Nat := (s.sidFind sid).map (fun e => e.2.2)
/-- Free entries of a bucket. -/
def State.bucketFree (s : State) (b : Nat) : Nat := ((List.range 8).filter (fun k => !entryUsed (s.sidEntry b k))).length
/-- A read of a context that is not in the link unit's cache meets its hot record (R349). -/
def State.meetCtx (s : State) (h : Nat) : State := if s.lnk.cache.contains h then s else s.meet (hotAt h) 64
/-- A lookup of a SID meets its two buckets (R349). -/
def State.meetSid (s : State) (sid : Nat) : State := (s.meet (bucketAt (sidH1 sid)) 64).meet (bucketAt (sidH2 sid)) 64
/-- The item that places a SID, in the bucket with more free entries, h1 when level; none where both are full. -/
def State.sidPlace (s : State) (sid h : Nat) : Option (Nat × List Nat) :=
  let b := if s.bucketFree (sidH1 sid) < s.bucketFree (sidH2 sid) then sidH2 sid else sidH1 sid
  ((List.range 8).find? (fun k => !entryUsed (s.sidEntry b k))).map
    (fun k => (bucketAt b + 8 * k, [sid + h * 2 ^ 32 + 2 ^ 63]))
/-- The item that takes a SID out of the index. -/
def State.sidRemove (s : State) (sid : Nat) : List (Nat × List Nat) :=
  match s.sidFind sid with
  | some (b, k, _) => [(bucketAt b + 8 * k, [0])]
  | none => []

end Sys2Proof.Machine
end

