-- ==== Sys2Proof/Machine/Cipher.lean ====
section
/-!
DEFINITION. The cipher engine and the key store (ch. 14): keys, nonce counters, the six operations, key store commands and
whiteout.
-/
namespace Sys2Proof.Machine

/-- Replace the cipher's and key store's state. -/
def State.setCph (s : State) (c : CphState) : State := { s with cph := c }

/-! ## Keys (R309 to R312) -/

/-- KLEN of an attribute block. -/
def Key.klen (k : Key) : Nat := k.attr % 256
/-- KMODE: 0 raw, 1 CCM*, 2 GCM, 3 transport. -/
def Key.kmode (k : Key) : Nat := k.attr / 2 ^ 8 % 256
/-- MIC length M. -/
def Key.mic (k : Key) : Nat := k.attr / 2 ^ 16 % 256
/-- CWIDTH. -/
def Key.cwidth (k : Key) : Nat := k.attr / 2 ^ 24 % 4
/-- KEY_ID. -/
def Key.id (k : Key) : Nat := k.attr / 2 ^ 32
/-- Nonce counter width W in bits. -/
def Key.width (k : Key) : Nat := 32 + 16 * k.cwidth
/-- The key's bytes. -/
def Key.bytes (k : Key) : List Byte := leBytes k.len k.key
/-- Attribute block and key as wrapped. -/
def Key.plain (k : Key) : List Byte := leBytes 8 k.attr ++ k.bytes

/-- The attribute block is valid (R309) and fits the key's length. -/
def Key.valid (k : Key) : Bool :=
  (k.klen == 0 && k.len == 16 || k.klen == 1 && k.len == 32) && decide (k.kmode ≤ 3) && k.attr / 2 ^ 26 % 64 == 0 &&
  (match k.kmode with
   | 1 => (k.mic == 4 || k.mic == 8 || k.mic == 16) && decide (k.cwidth ≤ 2)
   | 2 => (k.mic == 8 || k.mic == 16) && decide (k.cwidth ≤ 1)
   | _ => k.mic == 0 && k.cwidth == 0)

/-- A key from attribute block and key bytes. -/
def keyOf (plain : List Byte) : Key := ⟨leNat (plain.take 8), leNat (plain.drop 8), plain.length - 8⟩

/-- Unwrap under a wrapping key: none when the integrity check fails or the attribute block is not valid. -/
def unwrapKey (kek wrap : List Byte) : Option Key :=
  if wrap.length = 32 ∨ wrap.length = 48 then
    match keyUnwrap kek wrap with
    | some p => if (keyOf p).valid then some (keyOf p) else none
    | none => none
  else none

/-- The KEK that the fused secret and serial give (R311). -/
def derivedKek : Nat :=
  leNat (sha256 (leBytes 32 Config.fuseSecret ++ [0x4B, 0x45, 0x4B] ++ leBytes 8 Config.serial))
/-- The key store is armed. -/
def State.armed (s : State) : Bool := s.cph.kek.isSome
/-- The KEK's bytes. -/
def State.kekBytes (s : State) : List Byte := leBytes 32 (s.cph.kek.getD 0)
/-- The key in a slot. -/
def State.slotKey (s : State) (n : Nat) : Option Key := SMap.get (fun _ => none) s.cph.slots n
/-- A wrapped-key entry's wrap (Table 14-4): WLEN bytes of WRAP. -/
def entryWrap (e : List Byte) : List Byte := e.take (byteAt e 48).toNat
/-- A wrapped-key entry for a wrap. -/
def wrapEntry (w : List Byte) : List Byte := padTo 48 w ++ leBytes 1 w.length ++ List.replicate 15 0

/-- KST_STAT.LOADED follows the slots; ARMED of KST_STAT and CPH_STAT follows the KEK. -/
def State.kstStat (s : State) : State :=
  (((s.setFld F.KST_STAT_LOADED (s.cph.slots.length)).setFld F.KST_STAT_ARMED (b2n s.armed)).setFld F.CPH_STAT_ARMED
    (b2n s.armed))
/-- Put a key in a slot or empty it. -/
def State.setSlot (s : State) (n : Nat) (k : Option Key) : State :=
  (s.setCph { s.cph with slots := SMap.set (fun _ => none) s.cph.slots n k }).kstStat

/-! ## Counter records (R321 to R323, R340 to R342) -/

/-- The record of number n as the ledger keeps it: NEXT resumes at CEIL. -/
def State.ledgerCtr (s : State) (n : Nat) : Counter :=
  let v := leNat (s.mbytes (counterAt n) 16)
  let fl := v / 2 ^ 96 % 256
  let ceil := v / 2 ^ 32 % 2 ^ 64
  ⟨v % 2 ^ 32, ceil, ceil, 32 + 16 * (fl % 4), fl.testBit 2, fl.testBit 3, false⟩
/-- The record the engine holds, or the ledger's. -/
def State.ctr (s : State) (n : Nat) : Counter :=
  match s.cph.ctrs.find? (fun c => c.1 == n) with
  | some c => c.2
  | none => s.ledgerCtr n
/-- The engine holds a record. -/
def State.holdsCtr (s : State) (n : Nat) : Bool := s.cph.ctrs.any (fun c => c.1 == n)

/-- A fetch of a record that the engine does not hold meets its group (R349). -/
def State.meetCtr (s : State) (n : Nat) : State := if s.holdsCtr n then s else s.meet (counterAt n) 32

/-- Table records beyond 16,384 are evicted, the least recently used first: a settle becomes due. -/
def State.evictCtr (s : State) : State :=
  let tbl := s.cph.ctrs.filter (fun c => decide (4096 ≤ c.1) && !s.ldg.settling.contains c.1)
  if tbl.length ≤ 16384 then s else
  match tbl.getLast? with
  | some (n, _) => s.setLdg { s.ldg with settling := s.ldg.settling ++ [n] }
  | none => s

/-- Hold a record as the most recently used. -/
def State.setCtr (s : State) (n : Nat) (c : Counter) : State :=
  (s.setCph { s.cph with ctrs := (n, c) :: s.cph.ctrs.filter (fun x => x.1 != n) }).evictCtr

/-- The journal item of a record (Table 15-4). -/
def ctrItem (n : Nat) (c : Counter) (ceil : Nat) : Nat × List Nat :=
  (counterAt n, wordsOf (leBytes 4 c.keyId ++ leBytes 8 ceil
    ++ leBytes 1 ((c.width - 32) / 16 % 4 + 4 * b2n c.locked + 8 * b2n c.frozen) ++ leBytes 3 0))

/-- A key is loaded or unwrapped under record n: another KEY_ID sets the record afresh (R321). -/
def State.keyLoaded (s : State) (n : Nat) (k : Key) : State :=
  if k.kmode ≠ 1 ∧ k.kmode ≠ 2 then s else
  let s := s.meetCtr n
  let c := s.ctr n
  if k.id = c.keyId then s.setCtr n { c with width := k.width }
  else
    let c' : Counter := ⟨k.id, 0, 0, k.width, false, false, false⟩
    (s.setCtr n c').journalNow [ctrItem n c' 0]

/-- Request a reservation: its entry raises CEIL once durable; a full journal refuses it, counted JFULL. -/
def State.reserveCtr (s : State) (n : Nat) : State :=
  let c := s.ctr n
  let ceil := min (c.next + 4096) (2 ^ c.width - 1)
  match s.journal [ctrItem n c ceil] (.resv n ceil) with
  | some s1 => s1.mapCtr n (fun c => { c with flight := true })
  | none => s.count F.LDG_COUNT0_JFULL

/-- What a SEAL with GEN 1 gets (R322). -/
inductive Take where
  | value (v : Nat)
  | exhausted
  | returned
  deriving DecidableEq, Repr

/-- Take a counter value of record n (R322, R342). A record that is being settled is not used. -/
def State.takeCtr (s : State) (n : Nat) : State × Take :=
  if s.ldg.settling.contains n then (s, .returned) else
  let s := s.meetCtr n
  let c := s.ctr n
  let s0 := s.setCtr n c
  let exh (x : State) : State := x.count F.CPH_COUNT_EXHAUSTED
  if c.locked then (exh s0, .exhausted)
  else if c.frozen && decide (c.ceil ≤ c.next) then (exh s0, .exhausted)
  else if c.next = 2 ^ c.width - 1 then
    let c' := { c with locked := true }
    (exh (((s0.setCtr n c').journalNow [ctrItem n c' c.ceil]).setFld F.CPH_STAT_EXHAUSTED 1 |>.pulse 37), .exhausted)
  else if c.ceil ≤ c.next then
    ((if c.flight then s0 else s0.reserveCtr n).count F.CPH_COUNT_RESV_WAIT, .returned)
  else
    let s1 := s0.setCtr n { c with next := c.next + 1 }
    (if decide (c.ceil ≤ c.next + 1 + 512) && !c.flight && !c.frozen then s1.reserveCtr n else s1, .value c.next)

/-- Settle a record (R341): once no reservation of it is in flight, CEIL := NEXT is journaled. -/
def State.settleCtr (s : State) (n : Nat) : State :=
  let c := s.ctr n
  if !s.ldg.settling.contains n || !s.holdsCtr n || c.flight then s
  else if s.ldg.ring.any (fun e => e.tag == .settle n) then s
  else (s.journal [ctrItem n c c.next] (.settle n)).getD (s.count F.LDG_COUNT0_JFULL)

/-- Every record the engine holds becomes due for a settle, as a stop of CRYPT asks. -/
def State.settleAll (s : State) : State :=
  s.setLdg { s.ldg with settling := s.ldg.settling
    ++ (s.cph.ctrs.map (fun c => c.1)).filter (fun n => !s.ldg.settling.contains n) }

/-! ## Finding a key (Table 14-3, R312) -/

/-- How a command names its key. -/
inductive KeyRef where
  | slot (n : Nat)
  | table (w : Nat)
  | at_ (a : Nat)
  deriving DecidableEq, Repr

/-- The counter record of a reference. -/
def KeyRef.record : KeyRef → Option Nat
  | .slot n => some n
  | .table w => some (4096 + w)
  | .at_ _ => none

/-- The key of a reference, or the code that ends the command. -/
inductive Found where
  | key (k : Key)
  | code (c : Status)
  deriving DecidableEq, Repr

/-- Entries of the wrapped-key table in force. -/
def State.wrapCount (s : State) : Nat := s.cph.table.2
/-- Base of the wrapped-key table in force. -/
def State.wrapBase (s : State) : Nat := s.cph.table.1
/-- The table settings, as a start of CRYPT takes them: base and entries. -/
def State.wrapCfg (s : State) : Nat × Nat :=
  (s.fld F.CPH_WRAP_BASE_LO_ADDR * 64 + s.fld F.CPH_WRAP_BASE_HI_ADDR * 2 ^ 32, min 262144 (s.fld F.CPH_WRAP_COUNT_COUNT))

/-- A failed unwrap is counted. -/
def State.unwrapFailed (s : State) : State := (s.count F.CPH_COUNT_UNWRAP_FAIL).setFld F.CPH_STAT_UNWRAP_FAIL 1

/-- Keep a table key as the most recently used of at most 256. -/
def State.cacheKey (s : State) (w : Nat) (k : Key) : State :=
  s.setCph { s.cph with cache := ((w, k) :: s.cph.cache.filter (fun c => c.1 != w)).take 256 }

/-- Find the key of a reference (R314 steps 1 to 3 as far as they concern it). -/
def State.findKey (s : State) (r : KeyRef) : State × Found :=
  match r with
  | .slot n =>
    match s.slotKey n with
    | none => (s, .code .fault)
    | some k => (s, if s.armed then .key k else .code .aborted)
  | .table w =>
    if s.wrapCount ≤ w then (s, .code .fault)
    else if !s.armed then (s, .code .aborted)
    else
      match s.cph.cache.find? (fun c => c.1 == w) with
      | some (_, k) => (s.cacheKey w k, .key k)
      | none =>
        let e := s.wrapBase + 64 * w
        match unwrapKey s.kekBytes (entryWrap (s.bytes e 64)) with
        | some k => (((s.seen e 64).cacheKey w k).keyLoaded (4096 + w) k, .key k)
        | none => ((s.seen e 64).unwrapFailed, .code .authFail)
  | .at_ a =>
    if !s.armed then (s, .code .aborted)
    else
      match unwrapKey s.kekBytes (entryWrap (s.bytes a 64)) with
      | some k => (s.seen a 64, .key k)
      | none => ((s.seen a 64).unwrapFailed, .code .authFail)

/-! ## Sealing and opening (R315, Table 14-7) -/

/-- What names the nonce of a command. -/
structure NonceArgs where
  nform  : Bool
  dir    : Nat
  sid    : Nat
  ext    : List Byte
  seclvl : Nat
  deriving DecidableEq, Repr

/-- The nonce for a key's mode. -/
def NonceArgs.nonce (a : NonceArgs) (k : Key) (ctr : Nat) : List Byte :=
  if a.nform then a.ext.reverse ++ beBytes 4 ctr ++ leBytes 1 a.seclvl
  else if k.kmode = 2 then leBytes 1 a.dir ++ leBytes 4 a.sid ++ leBytes 7 ctr
  else leBytes 1 a.dir ++ leBytes 4 a.sid ++ leBytes 8 ctr

/-- Ciphertext and MIC of a message under a key. -/
def sealWith (k : Key) (nonce hdr msg : List Byte) : List Byte × List Byte :=
  if k.kmode = 2 then gcmSeal k.bytes nonce hdr msg k.mic else ccmSeal k.bytes nonce hdr msg k.mic
/-- The plaintext, or none where the MIC differs. -/
def openWith (k : Key) (nonce hdr ct tag : List Byte) : Option (List Byte) :=
  if k.kmode = 2 then gcmOpen k.bytes nonce hdr ct tag k.mic else ccmOpen k.bytes nonce hdr ct tag k.mic

/-! ## Commands of the engine (Table 14-5, R314) -/

/-- Fields of a cipher descriptor. -/
structure CipherCmd where
  op     : Nat
  flags  : Nat
  ksel   : Nat
  key    : Nat
  kaddr  : Nat
  src    : Nat
  dst    : Nat
  hdr    : Nat
  len    : Nat
  sid    : Nat
  ctr    : Nat
  ext    : List Byte
  seclvl : Nat
  resvd  : Nat
  deriving DecidableEq, Repr

/-- Read a descriptor. -/
def cipherCmd (d : List Byte) : CipherCmd :=
  ⟨cxGet d 0 1, cxGet d 2 1, cxGet d 3 1, cxGet d 4 4, cxGet d 8 8, cxGet d 16 8, cxGet d 24 8, cxGet d 32 2,
   cxGet d 34 2, cxGet d 36 4, cxGet d 40 8, (d.drop 48).take 8, cxGet d 56 1, cxGet d 57 5⟩

/-- GEN. -/
def CipherCmd.gen (c : CipherCmd) : Bool := bitOf c.flags 0
/-- NFORM. -/
def CipherCmd.nform (c : CipherCmd) : Bool := bitOf c.flags 2
/-- The key reference of a descriptor. -/
def CipherCmd.ref (c : CipherCmd) : KeyRef :=
  if c.ksel = 0 then .slot (c.key % 4096) else if c.ksel = 1 then .table (c.key % 2 ^ 18) else .at_ c.kaddr
/-- The nonce fields. -/
def CipherCmd.nonceArgs (c : CipherCmd) : NonceArgs := ⟨c.nform, b2n (bitOf c.flags 1), c.sid, c.ext, c.seclvl⟩

/-- Spans of SRC and DST: 8-byte aligned, in memory, not overlapping unless equal. -/
def spansOk (src n dst m : Nat) : Bool :=
  src % 8 == 0 && dst % 8 == 0 && inNormal src n && inNormal dst m &&
  (decide (src + n ≤ dst) || decide (dst + m ≤ src) || (src == dst && n == m))

/-- Faults that need no key (R314 step 1); m is the MIC length where it matters. -/
def CipherCmd.badForm (c : CipherCmd) : Bool :=
  decide (c.op = 0 ∨ 6 < c.op) || decide (8 ≤ c.flags) || decide (2 < c.ksel) || c.resvd != 0 ||
  (c.ksel == 0 && decide (4095 < c.key)) || (c.ksel == 1 && decide (2 ^ 18 ≤ c.key)) ||
  (if c.ksel == 2 then c.kaddr % 8 != 0 || !inNormal c.kaddr 64 else c.kaddr != 0) ||
  decide (65535 < c.hdr + c.len) || (c.op == 1 && !c.gen) || (c.op == 2 && c.gen) || (c.gen && c.ksel == 2) ||
  ((c.op == 3 || c.op == 4) && c.len % 16 != 0) ||
  (c.op == 5 && (c.len != 32 && c.len != 48 || c.hdr != 0 || c.ksel != 0)) ||
  (c.op == 6 && (c.ksel != 0 || c.key != 0 || c.kaddr != 0 || c.flags != 0 || c.hdr != 0))

/-- Bytes read at SRC for a MIC of m bytes. -/
def CipherCmd.inBytes (c : CipherCmd) (m : Nat) : Nat :=
  match c.op with
  | 1 => c.hdr + c.len
  | 2 => c.hdr + c.len + m
  | _ => c.len
/-- Bytes written at DST for a MIC of m bytes (Table 14-6). -/
def CipherCmd.outBytes (c : CipherCmd) (m : Nat) : Nat :=
  match c.op with
  | 1 => c.hdr + c.len + m
  | 2 => c.hdr + c.len
  | 5 => 64
  | 6 => 32
  | _ => c.len

/-- Faults that need the key: KMODE, NFORM, and the spans (R309, R314). -/
def CipherCmd.badKey (c : CipherCmd) (k : Key) : Bool :=
  (match c.op with
   | 1 | 2 => k.kmode != 1 && k.kmode != 2
   | 3 | 4 => k.kmode != 0
   | _ => k.kmode != 3) ||
  (c.nform && (k.kmode != 1 || k.cwidth != 0)) || !spansOk c.src (c.inBytes k.mic) c.dst (c.outBytes k.mic)

/-- How a command leaves its pipe: ended with a code, or returned to the arbiter. -/
inductive CipherEnd where
  | code (c : Status)
  | returned
  deriving DecidableEq, Repr

/-- Write a result at DST and OUTLEN in the descriptor at a. -/
def State.cipherOut (s : State) (a : Nat) (c : CipherCmd) (bs : List Byte) : State :=
  (s.put c.dst bs).putLe (a + 62) 2 bs.length
/-- Zero n bytes of the DST span, with OUTLEN. -/
def State.cipherZero (s : State) (a : Nat) (c : CipherCmd) (n : Nat) : State := s.cipherOut a c (List.replicate n 0)

/-- SEAL with a key. -/
def State.runSeal (s : State) (a : Nat) (c : CipherCmd) (k : Key) : State × CipherEnd :=
  match c.ref.record with
  | none => (s, .code .fault)
  | some n =>
    match s.takeCtr n with
    | (s1, .exhausted) => (s1, .code .counterExhausted)
    | (s1, .returned) => (s1, .returned)
    | (s1, .value v) =>
      let h := s1.bytes c.src c.hdr
      let (ct, tag) := sealWith k (c.nonceArgs.nonce k v) h (s1.bytes (c.src + c.hdr) c.len)
      (((s1.seen c.src (c.hdr + c.len)).cipherOut a c (h ++ ct ++ tag)).putLe (a + 40) 8 v, .code .ok)

/-- OPEN with a key: AUTH_FAIL leaves zeros. -/
def State.runOpen (s0 : State) (a : Nat) (c : CipherCmd) (k : Key) : State × CipherEnd :=
  let s := s0.seen c.src (c.hdr + c.len + k.mic)
  let h := s.bytes c.src c.hdr
  match openWith k (c.nonceArgs.nonce k c.ctr) h (s.bytes (c.src + c.hdr) c.len)
      (s.bytes (c.src + c.hdr + c.len) k.mic) with
  | some p => (s.cipherOut a c (h ++ p), .code .ok)
  | none => ((s.cipherZero a c (c.hdr + c.len)).count F.CPH_COUNT_AUTH_FAIL, .code .authFail)

/-- ENC_RAW and DEC_RAW: every block on its own (R316). -/
def State.runRaw (s : State) (a : Nat) (c : CipherCmd) (k : Key) (enc : Bool) : State × CipherEnd :=
  let f := if enc then aesEnc k.bytes else aesDec k.bytes
  ((s.seen c.src c.len).cipherOut a c (((blocks16 (s.bytes c.src c.len)).map f).flatten), .code .ok)

/-- IMPORT: rewrap under the KEK; an inner block that is not valid, or names transport, is AUTH_FAIL (R317). -/
def State.runImport (s0 : State) (a : Nat) (c : CipherCmd) (k : Key) : State × CipherEnd :=
  let s := s0.seen c.src c.len
  match unwrapKey k.bytes (s.bytes c.src c.len) with
  | some i =>
    if i.kmode = 3 then (s.cipherZero a c 64, .code .authFail)
    else (s.cipherOut a c (wrapEntry (keyWrap s.kekBytes i.plain)), .code .ok)
  | none => ((s.cipherZero a c 64).unwrapFailed, .code .authFail)

/-- The MIC length that stands for one no unwrap gives: a free value among those of Table 14-2 for SEAL, whose OUTLEN it is part of. -/
def State.unknownMic (s : State) (op : Nat) : Nat := if op = 1 then [4, 8, 16, 4].getD (s.free 2) 4 else 4

/-- The checks of R314 from the key on, and the operation. The spans are checked first with the least MIC that a key can have; a key
that does not unwrap leaves the MIC open. -/
def State.runWith (s : State) (a : Nat) (c : CipherCmd) : State × CipherEnd :=
  if !spansOk c.src (c.inBytes 4) c.dst (c.outBytes 4) then (s, .code .fault) else
  match s.findKey c.ref with
  | (s1, .code .authFail) =>
    let m := s.unknownMic c.op
    if spansOk c.src (c.inBytes m) c.dst (c.outBytes m) then (s1.takeFree.cipherZero a c (c.outBytes m), .code .authFail)
    else (s.takeFree, .code .fault)
  | (s1, .code e) => (s1, .code e)
  | (s1, .key k) =>
    if c.badKey k then (s1, .code .fault)
    else
      match c.op with
      | 1 => s1.runSeal a c k
      | 2 => s1.runOpen a c k
      | 3 => s1.runRaw a c k true
      | 4 => s1.runRaw a c k false
      | _ => s1.runImport a c k

/-- A granted descriptor command of the engine runs (R314). -/
def State.runCipher (s : State) (a : Nat) (c : CipherCmd) : State × CipherEnd :=
  if c.badForm then (s, .code .fault)
  else if c.op = 6 then
    if spansOk c.src c.len c.dst 32 then ((s.seen c.src c.len).cipherOut a c (sha256 (s.bytes c.src c.len)), .code .ok)
    else (s, .code .fault)
  else
    match c.ref, s.slotKey (c.key % 4096) with
    | .slot _, some k => if c.badKey k then (s, .code .fault) else s.runWith a c
    | _, _ => s.runWith a c

/-- CPH_INVAL (R312). -/
def State.cphInval (s : State) (v : Nat) : State :=
  s.setCph { s.cph with cache := if bitOf v 31 then [] else s.cph.cache.filter (fun c => c.1 != v % 2 ^ 18) }

/-- The request in a pipe. -/
def State.inPipe (s : State) (p : Nat) : Option SvcReq :=
  (s.cph.pipes.find? (fun x => x.1 == p)).bind (fun x => s.arb.reqs.find? (fun q => q.id == x.2 && q.inEngine))
/-- The pipes that hold no command. -/
def State.freePipes (s : State) : List Nat := (List.range 4).filter (fun p => (s.inPipe p).isNone)
/-- PIPES of CPH_STAT: bit n for pipe n. -/
def State.pipeBits (s : State) : Nat := (List.range 4).foldl (fun m p => if (s.inPipe p).isSome then m + 2 ^ p else m) 0
/-- A granted command takes a free pipe: which one is a free value (log entry 119). -/
def State.takePipe (s : State) (id : Nat) : State :=
  match s.freePipes[s.free 2 % max 1 s.freePipes.length]? with
  | none => s
  | some p => s.takeFree.setCph { s.cph with pipes := (p, id) :: s.cph.pipes.filter (fun x => x.1 != p && x.2 != id) }
/-- The table settings are sound for a start of CRYPT (Table 14-16). -/
def State.wrapTableOk (s : State) : Bool := inNormal s.wrapCfg.1 (64 * s.wrapCfg.2)

/-- PD_SEC loses power: slots, unwrap cache and counter copies are gone. -/
def State.secLost (s : State) : State :=
  ({ s with cph := { s.cph with slots := [], cache := [], ctrs := [] },
            ldg := { s.ldg with settling := [] } } : State).kstStat

/-! ## Whiteout (R325, R326) -/

/-- The key that a command in a pipe holds. -/
def State.pipeKey (s : State) (r : KeyRef) : Option Key :=
  match r with
  | .slot n => s.slotKey n
  | .table w =>
    match s.cph.cache.find? (fun c => c.1 == w) with
    | some (_, k) => some k
    | none => unwrapKey s.kekBytes (entryWrap (s.bytes (s.wrapBase + 64 * w) 64))
  | .at_ a => unwrapKey s.kekBytes (entryWrap (s.bytes a 64))

/-- Zero the DST span of a descriptor command in a pipe, with OUTLEN. -/
def State.zeroDst (s : State) (q : SvcReq) : State :=
  match q.job with
  | .desc =>
    let c := cipherCmd q.desc
    let m := if c.op = 6 then 0 else (s.pipeKey c.ref).elim (s.unknownMic c.op) Key.mic
    if c.badForm || !spansOk c.src (c.inBytes m) c.dst (c.outBytes m) then s
    else s.cipherZero q.addr c (c.outBytes m)
  | _ => s

/-- Zero KST_DATA. -/
def State.clearKstData (s : State) : State := (List.range 12).foldl (fun s i => s.setReg (R.KST_DATA i) 0) s

/-- Whiteout: KEK, slots, unwrap cache and counter copies zeroed, DISARMED, pipes' commands ABORTED with zeroed DST, EV38. -/
def State.whiteout (s : State) : State :=
  let inPipe := s.arb.reqs.filter (fun q => q.engine == 0 && q.inEngine)
  let s1 := inPipe.foldl (fun s q => (s.zeroDst q).endReq q.id .aborted) s
  let s2 := s1.setCph { s1.cph with kek := none, disarmed := true }
  ((s2.secLost.pulse 38).clearKstData).auditKeyStore 0

/-- Source n is enabled; FORCE always is. -/
def State.alarmEnabled (s : State) (n : Nat) : Bool := n == 6 || bitOf (s.fld F.KST_ALARM_EN) n

/-- An alarm source enters or leaves its alarm condition (Table 14-9). -/
def State.alarmActive (s : State) (n : Nat) (on : Bool) : State :=
  let v := s.fld F.KST_ALARM_ACTIVE
  s.setFld F.KST_ALARM_ACTIVE (if on then v ||| 2 ^ n else v - (v &&& 2 ^ n))

/-- A source raises its alarm where enabled: LATCHED, and whiteout while armed (R325). -/
def State.raiseAlarm (s : State) (n : Nat) : State :=
  if s.alarmEnabled n then
    let s1 := s.setFld F.KST_ALARM_LATCHED (s.fld F.KST_ALARM_LATCHED ||| 2 ^ n)
    if s1.armed then s1.whiteout else s1
  else s

/-! ## Key store commands (R324) -/

/-- The key bytes that KST_DATA holds. -/
def State.kstData (s : State) (n : Nat) : List Byte :=
  ((List.range 12).map (fun i => leBytes 4 (s.reg (R.KST_DATA i)).toNat)).flatten.take n
/-- Put bytes into KST_DATA. -/
def State.setKstData (s : State) (bs : List Byte) : State :=
  (List.range 12).foldl (fun s i => s.setReg (R.KST_DATA i) (BitVec.ofNat 32 (leNat (((padTo 48 bs).drop (4 * i)).take 4)))) s

/-- A validated pass carries the re-arm right (R324). -/
def State.rearmPass (s : State) : Bool :=
  (List.range 8).any (fun n => s.bit (F.PASS_SLOT_VALID n) && bitOf (s.fld (F.PASS_SLOT_RIGHTS n)) 3)

/-- The code of a key store command with its key where it loads one. -/
def State.kstCode (s : State) (op : Nat) (long : Bool) : Status × Option Key :=
  let p8 := keyOf (s.kstData 40)
  let plain := if p8.klen = 0 then keyOf (s.kstData 24) else p8
  if s.bit F.KST_STAT_BUSY then (.busy, none)
  else if op = 0 ∨ 6 < op then (.fault, none)
  else if op = 2 ∧ plain.valid = false then (.fault, none)
  else if (op = 1 ∨ op = 2 ∨ op = 3) ∧ s.armed = false then (.aborted, none)
  else if op = 1 then
    match unwrapKey s.kekBytes (s.kstData (if long then 48 else 32)) with
    | some k => (.ok, some k)
    | none => (.authFail, none)
  else if op = 2 then (.ok, some plain)
  else if op = 5 ∧ s.rearmPass = false then (.noRight, none)
  else if op = 5 ∧ (s.fld F.KST_ALARM_ACTIVE ≠ 0 ∨ s.fld F.KST_ALARM_LATCHED ≠ 0) then (.busy, none)
  else (.ok, none)

/-- A key store command runs and completes; KST_DATA reads 0 afterwards but for WRAP, whose data of an empty slot is free
(log entry 11). -/
def State.kstRun (s : State) (op : Nat) (long : Bool) : State :=
  if op = 0 then s else
  let n := s.fld F.KST_SLOT_SLOT
  let (code, key) := s.kstCode op long
  let done (x : State) : State := x.setFld F.KST_CMD_STATUS code.code
  match code with
  | .ok =>
    match op, key with
    | 1, some k => done (((s.setSlot n (some k)).keyLoaded n k).clearKstData)
    | 2, some k => done (((s.setSlot n (some k)).keyLoaded n k).clearKstData)
    | 3, _ =>
      match s.slotKey n with
      | some k => done (s.setKstData (keyWrap s.kekBytes k.plain))
      | none => done ((s.setKstData (leBytes 48 (s.free 384))).takeFree)
    | 4, _ => done ((s.setSlot n none).clearKstData)
    | 5, _ => done (((s.setCph { s.cph with kek := some derivedKek, disarmed := false }).kstStat.clearKstData).auditKeyStore 1)
    | _, _ => done ((s.clearKstData).raiseAlarm 6)
  | .busy => if s.bit F.KST_STAT_BUSY then s else done s.clearKstData
  | _ => done s.clearKstData

end Sys2Proof.Machine
end

