-- ==== Sys2Proof/Machine/LedgerCmds.lean ====
section
/-!
DEFINITION. The ledger's commands (Table 15-13, R351 to R355), handover images, and what its lanes do on their own.
-/
namespace Sys2Proof.Machine

/-- Fields of a ledger descriptor (Table 15-12). -/
structure LdgCmd where
  op     : Nat
  area   : Nat
  index  : Nat
  count  : Nat
  offset : Nat
  src    : Nat
  dst    : Nat
  len    : Nat
  resvd  : Nat
  deriving DecidableEq, Repr

/-- Read a descriptor; resvd is 0 when every reserved byte is. -/
def ldgCmd (d : List Byte) : LdgCmd :=
  ⟨cxGet d 0 1, cxGet d 2 1, cxGet d 4 4, cxGet d 8 4, cxGet d 12 4, cxGet d 16 8, cxGet d 24 8, cxGet d 32 4,
   cxGet d 3 1 + cxGet d 48 16⟩

/-- The operation is the Keeper's alone. -/
def keeperOp (op : Nat) : Bool := op == 8 || op == 9 || op == 11 || op == 13 || op == 15 || op == 16
/-- The operation runs in the NAND lane. -/
def nandOp (op : Nat) : Bool := (3 ≤ op && op ≤ 12) || op == 14
/-- The operation writes NAND pages. -/
def nandWrites (op : Nat) : Bool := op == 4 || op == 5 || op == 7 || op == 9 || op == 11

/-- Bytes an operation reads at SRC; none where it has no source. -/
def LdgCmd.srcBytes (c : LdgCmd) : Option Nat :=
  match c.op with
  | 2 | 7 | 11 | 15 => some c.len
  | 4 => some 432
  | 9 => some 4096
  | 13 => some 64
  | _ => none

/-- The calibration record of a number. -/
def State.calRec (s : State) (n : Nat) : Option (Nat × Nat × Nat) := s.ldg.calRecs.find? (fun r => r.1 == n)

/-- Bytes an operation writes at DST; none where it writes none. -/
def State.ldgOut (s : State) (c : LdgCmd) : Option Nat :=
  match c.op with
  | 1 | 16 => some c.len
  | 3 => some 512
  | 6 => some (128 + 512 * c.count)
  | 10 => some 4096
  | 12 => (s.calRec c.index).map (fun r => r.2.2)
  | 14 => some 64
  | _ => none

/-- Where a requester's data may lie. -/
def ldgSpan (req a n : Nat) : Bool := a % 8 == 0 && (inNormal a n || (req == 23 && inMbox a n))

/-- Size of the area that KWRITE and KREAD name: module state 512 KiB, calibration working set 2 MiB. -/
def kAreaSize (a : Nat) : Nat := if a = 0 then 0x80000 else 0x200000
/-- MRAM offset of that area. -/
def kAreaAt (a : Nat) : Nat := if a = 0 then moduleAt else calSetAt

/-- KWRITE touches the maker record or the duty ring. -/
def kProtected (c : LdgCmd) : Bool :=
  c.area == 0 && (decide (c.offset < 0x2000 ∧ 0x1000 < c.offset + c.len) ||
    decide (c.offset < 0x68000 ∧ 0x48000 < c.offset + c.len))

/-- AREA, INDEX, OFFSET, LEN or COUNT outside Table 15-13. -/
def State.ldgRange (s : State) (c : LdgCmd) : Bool :=
  let store (max : Nat) : Bool := decide (8 ≤ c.len ∧ c.len ≤ max ∧ c.offset + c.len ≤ 0x1500000)
  let area (max : Nat) : Bool :=
    decide (c.area ≤ 1 ∧ 8 ≤ c.len ∧ c.len ≤ max ∧ c.offset + c.len ≤ kAreaSize c.area)
  (if c.op = 8 ∨ c.op = 9 ∨ c.op = 10 then decide (c.area ≤ 1) else if c.op = 15 ∨ c.op = 16 then true else c.area == 0) &&
  (c.op == 6 || c.count == 0) &&
  (match c.op with
   | 1 => store 4096
   | 2 => store 192
   | 3 | 4 | 5 => decide (c.index < 262144)
   | 6 => decide (c.index + c.count ≤ 262144)
   | 9 | 10 => decide (c.index < 16384)
   | 11 => decide (8 ≤ c.len ∧ c.len ≤ 65536)
   | 12 => (s.calRec c.index).isSome
   | 14 => s.auditHeld c.index
   | 15 => area 192 && !kProtected c
   | 16 => area 4096
   | _ => true)

/-- A read meets an uncorrectable group or sector. -/
def State.ldgUnreadable (s : State) (c : LdgCmd) : Bool :=
  match c.op with
  | 1 => s.spanLost (storeAt + c.offset) c.len
  | 3 => s.pageBad (coldAt c.index).1 (coldAt c.index).2 512
  | 10 => s.pageBad (16384 * c.area + c.index) 0 4096
  | 12 => match s.calRec c.index with
    | some (_, p, n) => (List.range ((n + 4111) / 4096)).any (fun i => s.pageBad (32768 + (p + i) % 16384) 0 4096)
    | none => false
  | 14 => s.pageBad (49152 + c.index / 64 % 16384) (64 * (c.index % 64)) 64
  | 16 => s.spanLost (kAreaAt c.area + c.offset) c.len
  | _ => false

/-- The logical pages that a command reads. -/
def State.ldgPages (s : State) (c : LdgCmd) : List Nat :=
  match c.op with
  | 3 | 4 | 5 => [(coldAt c.index).1]
  | 6 => (List.range c.count).map (fun i => (coldAt (c.index + i)).1)
  | 10 => [16384 * c.area + c.index]
  | 12 => match s.calRec c.index with
    | some (_, p, n) => (List.range ((n + 4111) / 4096)).map (fun i => 32768 + (p + i) % 16384)
    | none => []
  | 14 => if s.fld F.LDG_AUDNEXT_NEXT / 64 * 64 ≤ c.index then [] else [49152 + c.index / 64 % 16384]
  | _ => []
/-- The MRAM spans that a command reads, beside those of Table 15-10 that it finds good. -/
def State.ldgSpans (s : State) (c : LdgCmd) : List (Nat × Nat) :=
  match c.op with
  | 1 => [(storeAt + c.offset, c.len)]
  | 5 => [(hotAt c.index, 64), (ckptAt c.index, 4)]
  | 6 => (List.range c.count).flatMap (fun i =>
      let h := c.index + i
      let x := s.mbytes (hotAt h) 64
      (hotAt h, 64) :: (if cxWrapped x then [(counterAt (4096 + cxKey x), 32)] else []))
  | 16 => [(kAreaAt c.area + c.offset, c.len)]
  | _ => []
/-- What a command's reads meet: uncorrectable groups are handled as Table 15-10 says, each page read counts (R347, R349). -/
def State.ldgMeets (s : State) (c : LdgCmd) : State :=
  (s.ldgPages c).foldl (fun (s : State) l => s.readPage l) ((s.ldgSpans c).foldl (fun (s : State) x => s.meet x.1 x.2) s)

/-! ## Handover images (Table 15-14) -/

/-- The counter record's 16 bytes that travels with a context. -/
def State.handCtr (s : State) (c : List Byte) : List Byte :=
  if cxWrapped c then s.mbytes (counterAt (4096 + cxKey c)) 16 else List.replicate 16 0

/-- One record of an export. -/
def State.handRecord (s : State) (h : Nat) : List Byte :=
  let c := s.mbytes (hotAt h) 64
  let (l, o) := coldAt h
  c ++ s.handCtr c ++ List.replicate 64 0 ++ s.pageBytes l (o + 144) 368

/-- The whole image of some handles, with its digest. -/
def State.handImage (s : State) (first n : Nat) : List Byte :=
  let body := [0x48, 0x01, 0, 0] ++ leBytes 4 n ++ leBytes 4 first ++ leBytes 4 0 ++ leBytes 8 Config.serial
    ++ leBytes 8 (packNt s.now) ++ List.replicate 32 0
    ++ ((List.range n).map (fun i => s.handRecord (first + i))).flatten
  body ++ sha256 body ++ List.replicate 32 0

/-- Freeze a counter record with CEIL unchanged (R342), in the ledger and in the engine's copy. -/
def State.freezeCtr (s : State) (n : Nat) : State :=
  let c := s.ledgerCtr n
  (s.journalNow [ctrItem n { c with frozen := true } c.ceil]).mapCtr n (fun c => { c with frozen := true })

/-- EXPORT: freeze the records carried, then write the image (R354). -/
def State.runExport (s : State) (c : LdgCmd) : State :=
  let hs := (List.range c.count).map (· + c.index)
  let s1 := hs.foldl (fun (s : State) h =>
    let x := s.mbytes (hotAt h) 64
    if cxValid x && cxWrapped x then (s.freezeCtr (4096 + cxKey x)).setFld F.LDG_STAT_FROZEN 1 else s) s
  s1.put c.dst (s1.handImage c.index c.count)

/-- An image follows Table 15-14. -/
def handOk (img : List Byte) : Bool :=
  let n := cxGet img 4 4
  cxGet img 0 1 == 0x48 && cxGet img 1 1 == 1 && img.length == 128 + 512 * n && decide (cxGet img 8 4 + n ≤ 262144)
    && cxGet img 2 2 == 0 && cxGet img 12 4 == 0 && cxGet img 32 32 == 0 && cxGet img (64 + 512 * n + 32) 32 == 0
    && (List.range n).all (fun i =>
      cxGet img (64 + 512 * i + 80) 64 == 0 &&
      (cxWrapped ((img.drop (64 + 512 * i)).take 64) || cxGet img (64 + 512 * i + 64) 16 == 0))

/-- The digest of an image matches. -/
def handDigest (img : List Byte) : Bool :=
  let n := 64 + 512 * cxGet img 4 4
  sha256 (img.take n) == (img.drop n).take 32

/-- Record i of an image. -/
def handRec (img : List Byte) (i : Nat) : List Byte := (img.drop (64 + 512 * i)).take 512

/-- What IMPORT does with a record: nothing, install it, or turn the command away. -/
def State.handVerdict (s : State) (h : Nat) (r : List Byte) : Option Bool :=
  let old := s.mbytes (hotAt h) 64
  if !cxValid r then some false
  else if !cxValid old then some true
  else if cxSid old = cxSid r ∧ cxHseq old = cxHseq r then some false
  else none

/-- The counter record that an imported one leaves: the larger CEIL under the same KEY_ID, FROZEN 0 (R355). -/
def State.mergeCtr (s : State) (n : Nat) (r : List Byte) : Counter :=
  let o := s.ledgerCtr n
  let v := cxGet r 64 16
  let fl := v / 2 ^ 96 % 256
  let ceil := v / 2 ^ 32 % 2 ^ 64
  let c : Counter := ⟨v % 2 ^ 32, ceil, ceil, 32 + 16 * (fl % 4), fl.testBit 2, false, false⟩
  if o.keyId = c.keyId then { c with ceil := max c.ceil o.ceil, next := max c.ceil o.ceil } else c

/-- Install one record: context with STALE, SID, CKHSEQ, counter record and USER in one entry, then the checkpoint (R355). None where
the SID cannot be placed. -/
def State.handInstall (s : State) (src h : Nat) (r : List Byte) : Option State :=
  let c := cxSetStale (r.take 64) true
  match s.sidPlace (cxSid c) h with
  | none => none
  | some place =>
    let n := 4096 + cxKey c
    let m := s.mergeCtr n r
    let ctr := if cxWrapped c then [ctrItem n m m.ceil] else []
    let s1 := s.programBy src (coldAt h).1 (s.coldPage h 144 (r.drop 144)) ([ctxItem h c, place, s.ckItem h (cxHseq c)] ++ ctr)
    let s2 := if cxWrapped c then s1.setCph { s1.cph with ctrs := s1.cph.ctrs.filter (fun x => x.1 != n) } else s1
    some (s2.programNow (coldAt h).1 (s2.coldPage h 0 (s2.ckptBytes c)) [s2.ckItem h (cxHseq c)])

/-- Take in record i of an image whose first handle is given. -/
def State.handOne (s : State) (src : Nat) (img : List Byte) (first i : Nat) : Option State :=
  if s.handVerdict (first + i) (handRec img i) = some true then s.handInstall src (first + i) (handRec img i) else some s
/-- Install the records of an image from number i on, n of them. -/
def State.handAll (s : State) (src : Nat) (img : List Byte) (first i : Nat) : Nat → Option State
  | 0 => some s
  | n + 1 =>
    match s.handOne src img first i with
    | none => none
    | some s1 => s1.handAll src img first (i + 1) n

/-- Rebuild the SID index from the hot records (Table 15-10). -/
def State.rebuildIndex (s : State) : State :=
  let cleared := s.setLdg { s.ldg with mram := s.ldg.mram.filter (fun w => !(decide (0x300000 ≤ w.1 ∧ w.1 < 0x380000))) }
  let s1 := (List.range 262144).foldl (fun s h =>
    let c := s.mbytes (hotAt h) 64
    if cxValid c then (match s.sidPlace (cxSid c) h with | some i => s.mramPut i.1 i.2 | none => s) else s) cleared
  s1.setLdg { s1.ldg with indexRebuild := false }

/-- Records an image installs. -/
def State.handCount (s : State) (img : List Byte) : Nat :=
  ((List.range (cxGet img 4 4)).filter (fun i => s.handVerdict (cxGet img 8 4 + i) (handRec img i) == some true)).length
/-- Some record makes the whole command BUSY. -/
def State.handBusy (s : State) (img : List Byte) : Bool :=
  (List.range (cxGet img 4 4)).any (fun i => s.handVerdict (cxGet img 8 4 + i) (handRec img i) == none)

/-! ## Codes (R351) -/

/-- The image at SRC of an IMPORT. -/
def State.importImage (s : State) (c : LdgCmd) : List Byte := s.bytes c.src c.len

/-- Code 1 of R351, but for what a read meets. -/
def State.ldgMalformed (s : State) (req : Nat) (c : LdgCmd) : Bool :=
  decide (c.op = 0 ∨ 16 < c.op ∨ c.resvd ≠ 0) ||
  (match c.srcBytes with | some n => !ldgSpan req c.src n | none => false) ||
  !s.ldgRange c ||
  ((s.ldgOut c).isSome && !ldgSpan req c.dst c.len) ||
  (c.op == 7 && !handOk (s.importImage c))
/-- The code of a granted command before its effect. -/
def State.ldgCode (s : State) (req role : Nat) (c : LdgCmd) : Status :=
  if s.ldgMalformed req c || s.ldgUnreadable c then .fault
  else if keeperOp c.op && req != 23 then .noRight
  else if (c.op = 6 ∨ c.op = 7) ∧ role ≠ 1 ∧ role ≠ 2 then .noRight
  else if s.pwr.flushing then .aborted
  else if (c.op = 6 ∨ c.op = 7) ∧ s.radiosOff = false then .busy
  else if (c.op = 8 ∨ c.op = 9) ∧ c.area = s.activeArea then .busy
  else if c.op = 7 ∧ s.handBusy (s.importImage c) then .busy
  else if c.op = 7 ∧ handDigest (s.importImage c) = false then .authFail
  else if nandWrites c.op && s.bit F.LDG_STAT_NAND_FULL then .noBuffer
  else if (match s.ldgOut c with | some n => decide (c.len < n) | none => false) then .noBuffer
  else .ok

/-! ## Effects -/

/-- The first granted request of the ledger whose descriptor has an OP. -/
def State.ldgGranted (s : State) (op : Nat) : Option SvcReq :=
  s.arb.reqs.find? (fun q => q.engine == 1 && q.phase == .granted && q.job == .desc && cxGet q.desc 0 1 == op)

/-- A read ends: data at DST, OUTLEN, JSEQ 0. -/
def State.ldgRead (s : State) (q : SvcReq) (c : LdgCmd) (bs : List Byte) : State :=
  (((s.put c.dst bs).putLe (q.addr + 36) 4 bs.length).putLe (q.addr + 40) 8 0).endReq q.id .ok

/-- A command's single entry is written; a full journal returns the command (R334). -/
def State.ldgJournal (s : State) (q : SvcReq) (items : List (Nat × List Nat)) : State :=
  match s.journal items (.req q.id) with
  | some s1 => (s1.putLe (q.addr + 40) 8 (s1.ldg.next - 1)).journalReq q.id (s1.ldg.next - 1)
  | none => (s.count F.LDG_COUNT0_JFULL).returnReq q

/-- A command's page program starts; its completion journals the map entry with further items and ends the command. Without a
free page the command stays granted until garbage collection has freed one (R346). -/
def State.ldgProgram (s : State) (q : SvcReq) (l : Nat) (bs : List Byte) (items : List (Nat × List Nat)) : State :=
  if s.allocPage.isNone then s else
  (s.startProg l bs items (.req q.id)).journalReq q.id 0

/-- A command made durable within the step ends OK with the JSEQ of its last entry. -/
def State.ldgDone (s : State) (q : SvcReq) : State := (s.putLe (q.addr + 40) 8 (s.ldg.next - 1)).endReq q.id .ok

/-- First page of the next calibration record, and its number. -/
def State.calNext (s : State) : Nat × Nat :=
  match s.ldg.calRecs.getLast? with
  | some (n, p, len) => (n + 1, (p + (len + 4111) / 4096) % 16384)
  | none => (0, 0)

/-- Pages of a calibration record of some bytes. -/
def calPages (n : Nat) : Nat := (n + 16 + 4095) / 4096
/-- Append a calibration record: header and bytes over whole pages; records it overwrites are gone (R352). -/
def State.calAppend (s : State) (bs : List Byte) : State :=
  let (n, p) := s.calNext
  let all := leBytes 8 n ++ leBytes 4 bs.length ++ leBytes 4 0 ++ bs
  let k := (all.length + 4095) / 4096
  let s1 := (List.range k).foldl (fun s i =>
    s.programBy 23 (32768 + (p + i) % 16384) (padTo 4096 ((all.drop (4096 * i)).take 4096)) []) s
  let hit (r : Nat × Nat × Nat) : Bool :=
    (List.range k).any (fun i => decide (((p + i) + 16384 - r.2.1) % 16384 < (r.2.2 + 4111) / 4096))
  s1.setLdg { s1.ldg with calRecs := s1.ldg.calRecs.filter (fun r => !hit r) ++ [(n, p, bs.length)] }

/-- The bytes of a calibration record. -/
def State.calBytes (s : State) (n : Nat) : List Byte :=
  match s.calRec n with
  | some (_, p, len) =>
    (((List.range ((len + 4111) / 4096)).map (fun i => s.pageBytes (32768 + (p + i) % 16384) 0 4096)).flatten.drop 16).take len
  | none => []

/-- Unmap every page of an area. -/
def State.unmapArea (s : State) (area : Nat) : State :=
  s.journalMany 23 342 ((List.range 1024).map (fun i => (mapAt (16384 * area + 16 * i), List.replicate 8 0)))

/-- The Keeper takes the oldest event off the tap as it appends its entry (R385). -/
def State.tapTaken (s : State) (kind : Nat) : State :=
  if 3 ≤ kind ∧ kind ≤ 5 then { s with tap := s.tap.drop 1 } else s

/-- A byte of module state as KREAD gives it: what the ledger keeps in a form that the spec does not lay out is a byte that nothing
fixes, but that it follows from the figures kept and from what was last written there (R19, Table 15-3, log entry 120). -/
def State.moduleByte (s : State) (o : Nat) : Byte :=
  let raw := byteAt (s.moduleBytes o 1) 0
  let dep (l : List Nat) : Byte := Config.moduleByte (raw.toNat :: l) o
  if o < 0x1000 then dep [s.ldg.applied, s.ldg.tail, s.fld F.LDG_LIFE_MOUNTS, s.fld F.LDG_LIFE_FLUSHES, s.ldg.closeCause]
  else if o < 0x2000 then dep [Config.serial, Config.eui64, Config.makerKey.1, Config.makerKey.2]
  else if o < 0x8000 then
    dep (b2n s.cph.disarmed :: s.fld F.KST_ALARM_LATCHED :: s.fld F.KST_ALARM_EN ::
      s.regs.flatMap (fun (x : Nat × Word) => [x.1, (keepNv x.1 x.2).toNat]))
  else if 0x48000 ≤ o ∧ o < 0x68000 then dep (s.duty.ring.flatMap (fun r => [r.s0, r.d, r.subs]))
  else raw
/-- Bytes that KREAD gives of an area. -/
def State.kRead (s : State) (area o n : Nat) : List Byte :=
  if area = 0 then (List.range n).map (fun i => s.moduleByte (o + i)) else s.mbytes (calSetAt + o) n

/-- The effect of a command whose code is OK. -/
def State.ldgEffect (s : State) (q : SvcReq) (c : LdgCmd) : State :=
  match c.op with
  | 1 => s.ldgRead q c (s.mbytes (storeAt + c.offset) c.len)
  | 2 => s.ldgJournal q (s.itemsAt (storeAt + c.offset) (s.bytes c.src c.len) 5)
  | 3 => s.ldgRead q c (s.pageBytes (coldAt c.index).1 (coldAt c.index).2 512)
  | 4 => s.ldgProgram q (coldAt c.index).1 (s.coldPage c.index 80 (s.bytes c.src 432)) []
  | 5 => if s.allocPage.isNone then s else
    (s.startCkpt c.index (s.mbytes (hotAt c.index) 64) [] (.req q.id)).journalReq q.id 0
  | 6 => ((s.runExport c).putLe (q.addr + 36) 4 (128 + 512 * c.count)).ldgDone q
  | 7 =>
    let s0 := if s.ldg.indexRebuild then s.rebuildIndex else s
    if !s0.roomFor (2 * s0.handCount (s.importImage c)) then s else
    match s0.handAll q.req (s.importImage c) (cxGet (s.importImage c) 8 4) 0 (cxGet (s.importImage c) 4 4) with
    | some s1 => (s1.putLe (q.addr + 36) 4 (512 * s.handCount (s.importImage c))).ldgDone q
    | none => s.endReq q.id .noBuffer
  | 8 => (s.unmapArea c.area).ldgDone q
  | 9 => s.ldgProgram q (16384 * c.area + c.index) (s.bytes c.src 4096) []
  | 10 => s.ldgRead q c (s.pageBytes (16384 * c.area + c.index) 0 4096)
  | 11 => if !s.roomFor (calPages c.len) then s else ((s.calAppend (s.bytes c.src c.len)).putLe (q.addr + 4) 4 s.calNext.1).ldgDone q
  | 12 => s.ldgRead q c (s.calBytes c.index)
  | 13 =>
    let n := s.fld F.LDG_AUDNEXT_NEXT
    let e := s.bytes c.src 64
    if n % 64 = 63 ∧ s.roomFor 1 = false then s else
    (((s.journalBy 23 (s.moduleItems (stageAt n) e)).auditStaged e).putLe (q.addr + 4) 4 n |>.tapTaken (cxGet e 0 1)).ldgDone q
  | 14 => s.ldgRead q c (s.auditEntry c.index)
  | 15 => s.ldgJournal q (s.itemsAt (kAreaAt c.area + c.offset) (s.bytes c.src c.len) 5)
  | 16 => s.ldgRead q c (s.kRead c.area c.offset c.len)
  | _ => s.endReq q.id .fault

/-- The ledger runs its granted command with an OP; EXPORT and IMPORT are taken down by the audit tap. -/
def State.ldgRun (s : State) (op : Nat) : State :=
  match s.ldgGranted op with
  | none => s
  | some q =>
    let c := ldgCmd q.desc
    let code := s.ldgCode q.req q.role c
    let tapped := (op = 6 ∨ op = 7)
    if tapped ∧ tapFull s then s.count F.AUD_STAT_STALLS else
    let s1 := if tapped then s.tapCommand q.req q.role code.code op c.index c.count else s
    let s2 := if code = .ok ∨ (s.ldgMalformed q.req c = false ∧ s.ldgUnreadable c) then s1.ldgMeets c else s1
    if code = .ok then (match c.srcBytes with | some n => s2.seen c.src n | none => s2).ldgEffect q c else s2.endReq q.id code

/-! ## What the lanes do on their own -/

/-- The NAND lane writes a scheduled checkpoint of a context, once a page is free (R338, R346). -/
def State.runCkpt (s : State) (h : Nat) : State :=
  if s.ldg.ckpts.contains h ∧ s.allocPage.isSome then
    let s1 := (s.meet (hotAt h) 64).readPage (coldAt h).1
    (s1.setLdg { s1.ldg with ckpts := s1.ldg.ckpts.filter (· != h) }).startCkpt h (s1.mbytes (hotAt h) 64) [] .plain
  else s

/-- The JSEQ of the newest entry goes into the descriptor of a request. -/
def State.stampJseq (s : State) (t : JTag) : State :=
  match t with
  | .req id =>
    match s.reqOf id with
    | some q => if q.job = .desc then s.putLe (q.addr + 40) 8 (s.ldg.next - 1) else s
    | none => s
  | _ => s

/-- The oldest NAND program ends: its page, then its map entry journaled with the items it carries; a failed program, or one
read back with more than 8 corrected bits, retires the block and is made again elsewhere (R331, R348). -/
def State.progDone (s : State) (failed : Bool) (worst : Nat) : State :=
  match s.ldg.progs with
  | [] => s
  | p :: ps =>
    if failed ∨ 8 < worst then
      let s1 := (s.setLdg { s.ldg with progs := ps }).retireBlock (p.phys / 64)
      s1.startProg p.logical p.data p.items p.tag
    else
      let s1 := s.programPage p.logical p.phys p.data
      match s1.journal (s1.mapItem p.logical p.phys :: p.items) p.tag with
      | some s2 => (s2.setLdg { s2.ldg with progs := ps }).stampJseq p.tag
      | none => s1.count F.LDG_COUNT0_JFULL

/-- The erase of a block ends, well or not (R348). -/
def State.eraseDone (s : State) (b : Nat) (failed : Bool) : State :=
  let x := s.nblock b
  if x.state ≠ 3 then s
  else if failed then s.retireBlock b
  else
    let keep (a : Nat × Byte) : Bool := a.1 / 262144 != b
    ((s.setNblock b { x with state := 0, used := 0, reads := 0, erases := x.erases + 1 }).setLdg
      { (s.setNblock b { x with state := 0, used := 0, reads := 0, erases := x.erases + 1 }).ldg with
        nand := s.ldg.nand.filter keep, tags := s.ldg.tags.filter (fun (x : Nat × Option (Nat × Nat)) => x.1 / 64 != b)
        sectors := s.ldg.sectors.filter (fun (x : Nat × Nat) => x.1 / 256 != b) }).nandStat

/-- The program of a logical page that the page tags show as the newest: its physical page and JSEQ (Table 15-10). -/
def bestTag (l : Nat) : List (Nat × Option (Nat × Nat)) → Option (Nat × Nat)
  | [] => none
  | (_, none) :: ts => bestTag l ts
  | (p, some (k, j)) :: ts =>
    if k ≠ l then bestTag l ts else
    match bestTag l ts with
    | some (q, i) => if i ≤ j then some (p, j) else some (q, i)
    | none => some (p, j)
/-- Rebuild the NAND map from the page tags: for each logical page the tag with the highest JSEQ wins (Table 15-10). -/
def State.rebuildMap (s : State) : State :=
  let cleared := s.setLdg { s.ldg with mram := s.ldg.mram.filter (fun w => !(decide (0x500000 ≤ w.1 ∧ w.1 < 0x520000))) }
  let s1 := s.ldg.tags.foldl (fun (s : State) (t : Nat × Option (Nat × Nat)) =>
    match t.2 with
    | some (l, _) => (match bestTag l s.ldg.tags with | some (p, _) => s.mramPut (s.mapItem l p).1 (s.mapItem l p).2 | none => s)
    | none => s) cleared
  s1.setLdg { s1.ldg with mapRebuild := false }
/-- A rebuild of Table 15-10 ends. -/
def State.rebuildDone (s : State) : State :=
  let s1 := if s.ldg.indexRebuild then s.rebuildIndex else s
  if s1.ldg.mapRebuild then s1.rebuildMap else s1

end Sys2Proof.Machine
end

