-- ==== Sys2Proof/Machine/Air.lean ====
section
/-!
DEFINITION. Frames as they are sent (R174 to R181): header and frame checks, the Greudan code, whitening, the framings of
Drizzle, Sleet, Squall, SUN FSK and O-QPSK as bits in the order sent, and Gale as the subcarriers of each chain.
-/
namespace Sys2Proof.Machine

/-! ## Common coding (Table 07-2) -/

/-- The FCS of a mode over PSDU bytes, as bytes in the order sent. -/
def fcsBytes (radio mode : Nat) (bs : List Byte) : List Byte :=
  if (modeInfo radio mode).elim 2 ModeInfo.fcs = 4 then leBytes 4 (crc32 bs) else leBytes 2 (crc16Fcs bs)
/-- CRC-8 of Table 07-2 over n header bits in the order sent. -/
def crc8 (init n h : Nat) : Nat :=
  (List.range n).foldl (fun c i =>
    let top := (c.testBit 7) != (h.testBit i)
    let c2 := c * 2 % 256
    if top then c2 ^^^ 0x07 else c2) init
/-- The eight CRC bits at bit b of a header, sent most significant bit first. -/
def crcField (h b : Nat) : Nat := (List.range 8).foldl (fun a i => 2 * a + b2n (h.testBit (b + i))) 0

/-- The low n bits of a number, most significant first. -/
def msbBits (n v : Nat) : List Bool := (lsbBits v n).reverse
/-- Bytes as bits in the order sent, least significant bit first (R174). -/
def byteBits (l : List Byte) : List Bool := l.flatMap (fun b => lsbBits b.toNat 8)

/-- The parity of the seven low bits of a number. -/
def parity7 (n : Nat) : Bool := (List.range 7).foldl (fun p i => p != n.testBit i) false
/-- The Greudan code: two output bits for each input bit. The leftmost digit of a generator takes the present bit, bit 6 of the
register; the encoder's six earlier bits are its state (log entry 111). -/
def convCode : Nat → List Bool → List (Bool × Bool)
  | _, [] => []
  | st, b :: bs =>
    let reg := 64 * b2n b + st
    (parity7 (reg &&& 0o171), parity7 (reg &&& 0o133)) :: convCode (reg / 2) bs
/-- The coded bits that a pattern keeps, column i first: A then B of each column. -/
def puncture (pa pb : List Bool) : Nat → List (Bool × Bool) → List Bool
  | _, [] => []
  | i, x :: xs =>
    let j := i % pa.length
    (if pa.getD j true then [x.1] else []) ++ (if pb.getD j true then [x.2] else []) ++ puncture pa pb (i + 1) xs
/-- The code at rate 1/2. -/
def convHalf (l : List Bool) : List Bool := puncture [true] [true] 0 (convCode 0 l)

/-- The PN9 sequence, n bits from a state of the last nine, the newest lowest: the feedback of x⁹ + x⁵ + 1 is each output bit (log
entry 111). -/
def pn9 : Nat → Nat → List Bool
  | _, 0 => []
  | st, n + 1 => let b := st.testBit 8 != st.testBit 3; b :: pn9 (2 * st % 512 + b2n b) n
/-- Whiten bits with PN9 from its seed of all ones. -/
def whiten (l : List Bool) : List Bool := List.zipWith (fun x y => x != y) l (pn9 511 l.length)

/-! ## Framings of one bit per symbol (Table 07-3, R176, R177) -/

/-- Octets 0x55, sent from bit 0. -/
def octets55 (n : Nat) : List Bool := (List.replicate n (lsbBits 0x55 8)).flatten
/-- A Greudan header: LENGTH in 8 bits and its CRC-8, the CRC most significant bit first. -/
def greudanHeader (len : Nat) : List Bool := lsbBits len 8 ++ msbBits 8 (crc8 0 8 len)
/-- The uncoded SFD of SUN FSK, sent from its leftmost bit (IEEE 802.15.4-2020; log entry 112). -/
def sunSfd (sfd : Bool) : List Bool := msbBits 16 (if sfd then 0x7A0E else 0x904E)
/-- The PHR of SUN FSK: Mode Switch 0, two reserved bits, FCS type, whitening, and 11 bits of length, most significant first. -/
def sunPhr (mode len : Nat) (dw : Bool) : List Bool :=
  [false, false, false, decide (mode < 0x38), dw] ++ msbBits 11 len

/-- A frame of radios S and M as bits or symbols in the order sent, for a PSDU with its FCS. -/
def frameBits (mode : Nat) (m : Modem) (psdu : List Byte) : List Bool :=
  let n := psdu.length
  if mode = 0x10 then
    (List.range m.pre).map (fun i => i % 2 == 0) ++ lsbBits 0x9D3B6A15 32 ++
      convHalf (greudanHeader n ++ byteBits psdu ++ List.replicate 6 false)
  else if mode = 0x20 then octets55 m.pre ++ lsbBits m.sync 32 ++ greudanHeader n ++ whiten (byteBits psdu)
  else if mode < 0x40 then
    (List.replicate m.pre (msbBits 8 0x55)).flatten ++ sunSfd m.sfd ++ sunPhr mode n m.dw ++
      (if m.dw then whiten (byteBits psdu) else byteBits psdu)
  else if mode = 0x40 then lsbBits 0 32 ++ lsbBits 0xA7 8 ++ lsbBits (n % 128) 8 ++ byteBits psdu
  else octets55 m.pre ++ lsbBits m.sync 32 ++ greudanHeader n ++ whiten (byteBits psdu)

/-! ## Gale (R178 to R181) -/

/-- The highest used subcarrier of a width (Table 07-4). -/
def galeTop (w : Nat) : Nat := [56, 112, 224].getD w 56
/-- The pilots of a width, rising. -/
def galePilots (w : Nat) : List Int :=
  let p := (List.range ((galeTop w + 14) / 28)).map (fun (j : Nat) => 14 + 28 * (j : Int))
  (p.map (fun x => -x)).reverse ++ p
/-- The used subcarriers of a width, rising; subcarrier 0 carries nothing. -/
def galeUsed (w : Nat) : List Int :=
  let p := (List.range (galeTop w)).map (fun (i : Nat) => (i : Int) + 1)
  (p.map (fun x => -x)).reverse ++ p
/-- The data subcarriers of a width, rising. -/
def galeData (w : Nat) : List Int := (galeUsed w).filter (fun k => !(galePilots w).contains k)

/-- The width index, streams and MCS of a Gale code. -/
def galeParts (code : Nat) : Nat × Nat × Nat := ((code - 0x70) / 48, (code - 0x70) % 48 / 12 + 1, (code - 0x70) % 12)

/-- The puncturing pattern of a code rate by its denominator. -/
def galePattern (d : Nat) : List Bool × List Bool :=
  let bits (l : List Nat) : List Bool := l.map (· == 1)
  match d with
  | 3 => (bits [1, 1], bits [1, 0]) | 4 => (bits [1, 1, 0], bits [1, 0, 1])
  | 6 => (bits [1, 1, 0, 1, 0], bits [1, 0, 1, 0, 1])
  | 10 => (bits [1, 1, 0, 1, 0, 1, 0, 1, 1], bits [1, 0, 1, 0, 1, 0, 1, 0, 0])
  | _ => ([true], [true])

/-- The scrambler x⁷ + x⁴ + 1: n bits from a state whose bit i is stage i + 1 (log entry 113). -/
def scrambler : Nat → Nat → List Bool
  | _, 0 => []
  | st, n + 1 => let b := st.testBit 6 != st.testBit 3; b :: scrambler (2 * st % 128 + b2n b) n
/-- The data bits of a frame: SERVICE with its seed, PSDU, tail and zero pad, scrambled behind the seed, the tail set to 0
afterwards (step 1 of R180, log entry 113). -/
def galeBits (seed : Nat) (psdu : List Byte) (total : Nat) : List Bool :=
  let head := 16 + 8 * psdu.length
  let plain := lsbBits (seed % 128) 16 ++ byteBits psdu ++ List.replicate (total - head) false
  let mixed := plain.take 7 ++ List.zipWith (fun x y => x != y) (plain.drop 7) (scrambler (seed % 128) (total - 7))
  mixed.take head ++ List.replicate 6 false ++ mixed.drop (head + 6)
/-- The coded bits of stream s of n: groups of g bits to the streams in turn (step 3). -/
def galeStream (coded : Array Bool) (n g s count : Nat) : List Bool :=
  (List.range count).map (fun j => coded.getD (((j / g) * n + s) * g + j % g) false)
/-- The bits of one symbol of a stream in their positions: bit i goes to 17 × i modulo their number (step 4). -/
def galePlace (bits : List Bool) : List Bool :=
  let n := bits.length
  let inv := ((List.range n).find? (fun v => 17 * v % n == 1)).getD 1
  (List.range n).map (fun p => bits.getD (p * inv % n) false)
/-- The index of a binary-reflected Gray code word, its first bit the most significant. -/
def grayIndex (l : List Bool) : Nat := (l.foldl (fun (x : Bool × Nat) b => let t := x.1 != b; (t, 2 * x.2 + b2n t)) (false, 0)).2
/-- The level of some bits on an axis (step 5). -/
def galeLevel (l : List Bool) : Int := 2 * (grayIndex l : Int) - (2 ^ l.length - 1)
/-- The constellation point of a group of bits. -/
def galePoint (l : List Bool) : Tone :=
  if l.length ≤ 1 then .point (galeLevel l) 0 1 else .point (galeLevel (l.take (l.length / 2))) (galeLevel (l.drop (l.length / 2))) l.length
/-- Groups of b bits, k of them. -/
def bitGroups (b : Nat) : Nat → List Bool → List (List Bool)
  | 0, _ => []
  | k + 1, l => l.take b :: bitGroups b k (l.drop b)

/-- Row s, column l of the Hadamard matrix of Table 07-5: true for −1. -/
def hadamardNeg (s l : Nat) : Bool := (s.testBit 0 && l.testBit 0) != (s.testBit 1 && l.testBit 1)
/-- The tones of the STF. -/
def galeStf (w : Nat) : List (Int × Tone) :=
  ((galeUsed w).filter (fun k => k % 8 == 0)).map (fun k => (k, .phase ((k / 8).natAbs ^ 2) 16))
/-- The tones of LTF l for stream s. -/
def galeLtfTones (w s l : Nat) : List (Int × Tone) :=
  let n := 2 * galeTop w
  (galeUsed w).map (fun k => (k, .phase (k.natAbs ^ 2 + (if hadamardNeg s l then n else 0)) n))
/-- The header of a frame: 40 bits and their CRC-8 (R180). -/
def galeHeader (code len peer : Nat) : List Bool :=
  let (w, nss, mcs) := galeParts code
  let h := mcs + 16 * (nss - 1) + 64 * w + 2 ^ 8 * (len % 2 ^ 14) + 2 ^ 22 * (peer % 64)
  lsbBits h 40 ++ msbBits 8 (crc8 0xFF 40 h)
/-- The tones of the GHDR: the 108 coded bits on the data subcarriers of each 20 MHz part. -/
def galeGhdr (code len peer : Nat) : List (Int × Tone) :=
  let coded := convHalf (galeHeader code len peer ++ List.replicate 6 false)
  ((galeData (galeParts code).1).zipIdx).map (fun x => (x.1, galePoint [coded.getD (x.2 % 108) false]))
/-- The tones of data symbol n of a stream: its bits on the data subcarriers, and the pilots. -/
def galeDataTones (w b n : Nat) (bits : List Bool) : List (Int × Tone) :=
  (galeData w).zip ((bitGroups b (galeNsd w) (galePlace bits)).map galePoint) ++
  ((galePilots w).zipIdx).map (fun x => (x.1, .point (if (n + x.2) % 2 = 0 then 1 else -1) 0 1))

/-- A Gale frame as chain c sends it: STF, LTFs, GHDR and data with the chain's stream and cyclic shifts (R179 to R181). -/
def galeChain (code peer seed : Nat) (psdu : List Byte) (c : Nat) : List OfdmSym :=
  let (w, nss, mcs) := galeParts code
  let (b, _, d) := galeMcs mcs
  let syms := galeSyms code psdu.length
  let cbps := galeNsd w * b
  let pat := galePattern d
  let total := syms * cbps * nss * (galeMcs mcs).2.1 / d
  let coded := (puncture pat.1 pat.2 0 (convCode 0 (galeBits seed psdu total))).toArray
  let s := if nss = 4 then c else c % nss
  let sh := if nss = 4 then 0 else c / nss
  let bits := galeStream coded nss (max 1 (b / 2)) s (syms * cbps)
  [⟨144, c, galeStf w⟩] ++ (List.range (galeLtf nss)).map (fun l => ⟨72, sh, galeLtfTones w s l⟩) ++
    [⟨72, c, galeGhdr code psdu.length peer⟩] ++
    (List.range syms).map (fun n => ⟨72, sh, galeDataTones w b n ((bits.drop (n * cbps)).take cbps)⟩)

/-- A frame as it is sent: bits on Radios S and M, the symbols of the four chains on Radio H. -/
def sentFrame (radio mode : Nat) (m : Modem) (peer seed : Nat) (psdu : List Byte) : SentFrame :=
  ⟨psdu, if radio = 2 then .ofdm ((List.range 4).map (galeChain mode peer seed psdu)) else .bits (frameBits mode m psdu)⟩

end Sys2Proof.Machine
end

