-- ==== Sys2Proof/Machine/SoftFloat.lean ====
section
/-!
DEFINITION. IEEE 754-2019 binary32 and binary64 arithmetic as R88 and Table 04-8 use it: exact results, one rounding, the
five flags, the canonical NaN.
-/
namespace Sys2Proof.Machine

/-- A format: width, precision with the hidden bit, and largest exponent. -/
structure FloatFmt where
  w    : Nat
  p    : Nat
  emax : Nat
  deriving DecidableEq, Repr

/-- binary32. -/
def f32 : FloatFmt := ⟨32, 24, 127⟩
/-- binary64. -/
def f64 : FloatFmt := ⟨64, 53, 1023⟩
/-- The format of the precision bit P. -/
def fmtOf (dbl : Bool) : FloatFmt := if dbl then f64 else f32

/-- A decoded value: a NaN (signalling or not), an infinity, or (−1)^neg × m × 2^e. -/
inductive FVal where
  | nan (signalling : Bool)
  | inf (neg : Bool)
  | fin (neg : Bool) (m : Nat) (e : Int)
  deriving DecidableEq, Repr

/-- Exponents of 2 below normal numbers' last place. -/
def FloatFmt.eMin (f : FloatFmt) : Int := 1 - (f.emax : Int) - ((f.p : Int) - 1)

/-- Decode a number of the format. -/
def FloatFmt.decode (f : FloatFmt) (b : Nat) : FVal :=
  let neg := b.testBit (f.w - 1)
  let frac := b % 2 ^ (f.p - 1)
  let ex := b / 2 ^ (f.p - 1) % 2 ^ (f.w - f.p)
  if ex = 2 * f.emax + 1 then (if frac = 0 then .inf neg else .nan (!b.testBit (f.p - 2)))
  else if ex = 0 then .fin neg frac f.eMin
  else .fin neg (frac + 2 ^ (f.p - 1)) (f.eMin + ((ex : Int) - 1))

/-- Flag bits as FCSR has them. -/
def flNV : Nat := 16
/-- Division by zero. -/
def flDZ : Nat := 8
/-- Overflow. -/
def flOF : Nat := 4
/-- Underflow. -/
def flUF : Nat := 2
/-- Inexact. -/
def flNX : Nat := 1

/-- A result and the flags it sets. -/
abbrev FRes := Nat × Nat

/-- The canonical NaN. -/
def FloatFmt.qnan (f : FloatFmt) : Nat := (2 * f.emax + 1) * 2 ^ (f.p - 1) + 2 ^ (f.p - 2)
/-- The sign bit's weight. -/
def FloatFmt.signBit (f : FloatFmt) (neg : Bool) : Nat := if neg then 2 ^ (f.w - 1) else 0
/-- An infinity. -/
def FloatFmt.infinity (f : FloatFmt) (neg : Bool) : Nat := f.signBit neg + (2 * f.emax + 1) * 2 ^ (f.p - 1)
/-- The largest finite number. -/
def FloatFmt.largest (f : FloatFmt) (neg : Bool) : Nat := f.signBit neg + (2 * f.emax + 1) * 2 ^ (f.p - 1) - 1

/-- Bits of a positive number. -/
def bitLen (m : Nat) : Nat := if m = 0 then 0 else Nat.log2 m + 1

/-- Whether a magnitude rounds up: rounding mode, sign, odd last place, remainder against the half. -/
def roundsUp (rm : Nat) (neg odd : Bool) (rem half : Nat) : Bool :=
  if rem = 0 then false
  else match rm with
    | 0 => decide (half < rem) || (rem == half && odd)
    | 1 => false
    | 2 => neg
    | 3 => !neg
    | _ => decide (half ≤ rem)

/-- m × 2^e rounded to a multiple of 2^q: the multiple, and whether it is inexact. -/
def roundAt (rm : Nat) (neg : Bool) (m : Nat) (e q : Int) : Nat × Bool :=
  if q ≤ e then (m * 2 ^ (e - q).toNat, false)
  else
    let sh := (q - e).toNat
    let rem := m % 2 ^ sh
    let k := m / 2 ^ sh
    (if roundsUp rm neg (k % 2 == 1) rem (2 ^ (sh - 1)) then k + 1 else k, rem != 0)

/-- The number of the format nearest to (−1)^neg × m × 2^e under a rounding mode, with its flags. -/
def FloatFmt.round (f : FloatFmt) (rm : Nat) (neg : Bool) (m : Nat) (e : Int) : FRes :=
  if m = 0 then (f.signBit neg, 0) else
  let top := e + bitLen m
  let q := max (top - f.p) f.eMin
  let r := roundAt rm neg m e q
  let free := roundAt rm neg m e (top - f.p)
  let low := decide (top - f.p < f.eMin)
  let tiny := low && !(Config.tinyAfter && top - f.p == f.eMin - 1 && free.1 == 2 ^ f.p)
  let ex := (q - f.eMin).toNat
  let bits := if r.1 < 2 ^ (f.p - 1) then r.1 else (ex + 1) * 2 ^ (f.p - 1) + (r.1 - 2 ^ (f.p - 1))
  if (2 * f.emax + 1) * 2 ^ (f.p - 1) ≤ bits then
    let toInf := match rm with | 0 => true | 1 => false | 2 => neg | 3 => !neg | _ => true
    (if toInf then f.infinity neg else f.largest neg, flOF + flNX)
  else (f.signBit neg + bits, (if r.2 then flNX else 0) + (if r.2 && tiny then flUF else 0))

/-- A signalling NaN. -/
def FVal.isSnan : FVal → Bool
  | .nan true => true
  | _ => false
/-- Any NaN. -/
def FVal.isNan : FVal → Bool
  | .nan _ => true
  | _ => false
/-- The value with its sign changed. -/
def FVal.neg : FVal → FVal
  | .nan b => .nan b
  | .inf n => .inf (!n)
  | .fin n m e => .fin (!n) m e
/-- The sign. -/
def FVal.sign : FVal → Bool
  | .nan _ => false
  | .inf n => n
  | .fin n _ _ => n

/-- The canonical NaN with invalid where an operand signals. -/
def FloatFmt.nanOf (f : FloatFmt) (xs : List FVal) : FRes := (f.qnan, if xs.any FVal.isSnan then flNV else 0)
/-- An invalid operation. -/
def FloatFmt.invalid (f : FloatFmt) : FRes := (f.qnan, flNV)

/-- The exact sum of two finite values, rounded; an exact zero sum is −0 only when both are or when rounding down. -/
def FloatFmt.addFin (f : FloatFmt) (rm : Nat) (n1 : Bool) (m1 : Nat) (e1 : Int) (n2 : Bool) (m2 : Nat) (e2 : Int) : FRes :=
  let e := min e1 e2
  let v (n : Bool) (m : Nat) (x : Int) : Int := (if n then -1 else 1) * ((m * 2 ^ (x - e).toNat : Nat) : Int)
  let t := v n1 m1 e1 + v n2 m2 e2
  if t = 0 then (f.signBit (if n1 = n2 then n1 else rm == 2), 0) else f.round rm (decide (t < 0)) t.natAbs e

/-- Sum of two values. -/
def FloatFmt.addV (f : FloatFmt) (rm : Nat) (x y : FVal) : FRes :=
  match x, y with
  | .nan a, y => f.nanOf [.nan a, y]
  | x, .nan b => f.nanOf [x, .nan b]
  | .inf a, .inf b => if a = b then (f.infinity a, 0) else f.invalid
  | .inf a, _ => (f.infinity a, 0)
  | _, .inf b => (f.infinity b, 0)
  | .fin n1 m1 e1, .fin n2 m2 e2 => f.addFin rm n1 m1 e1 n2 m2 e2

/-- FADD. -/
def FloatFmt.add (f : FloatFmt) (rm a b : Nat) : FRes := f.addV rm (f.decode a) (f.decode b)
/-- FSUB. -/
def FloatFmt.sub (f : FloatFmt) (rm a b : Nat) : FRes := f.addV rm (f.decode a) (f.decode b).neg

/-- FMUL. -/
def FloatFmt.mul (f : FloatFmt) (rm a b : Nat) : FRes :=
  match f.decode a, f.decode b with
  | .nan p, y => f.nanOf [.nan p, y]
  | x, .nan q => f.nanOf [x, .nan q]
  | .inf p, .inf q => (f.infinity (p != q), 0)
  | .inf p, .fin n m _ => if m = 0 then f.invalid else (f.infinity (p != n), 0)
  | .fin n m _, .inf q => if m = 0 then f.invalid else (f.infinity (n != q), 0)
  | .fin n1 m1 e1, .fin n2 m2 e2 => f.round rm (n1 != n2) (m1 * m2) (e1 + e2)

/-- FDIV. -/
def FloatFmt.div (f : FloatFmt) (rm a b : Nat) : FRes :=
  match f.decode a, f.decode b with
  | .nan p, y => f.nanOf [.nan p, y]
  | x, .nan q => f.nanOf [x, .nan q]
  | .inf _, .inf _ => f.invalid
  | .inf p, .fin n _ _ => (f.infinity (p != n), 0)
  | .fin n _ _, .inf q => (f.signBit (n != q), 0)
  | .fin n1 m1 e1, .fin n2 m2 e2 =>
    if m2 = 0 then (if m1 = 0 then f.invalid else (f.infinity (n1 != n2), flDZ))
    else if m1 = 0 then (f.signBit (n1 != n2), 0)
    else
      let k := f.p + 3 + bitLen m2
      let q := m1 * 2 ^ k / m2
      let r := m1 * 2 ^ k % m2
      f.round rm (n1 != n2) (2 * q + b2n (r != 0)) (e1 - e2 - k - 1)

/-- Integer square root by bits from 2^(k−1) down, r so far. -/
def sqrtBits (n : Nat) : Nat → Nat → Nat
  | 0, r => r
  | k + 1, r => sqrtBits n k (if (r + 2 ^ k) * (r + 2 ^ k) ≤ n then r + 2 ^ k else r)
/-- ⌊√n⌋. -/
def isqrt (n : Nat) : Nat := sqrtBits n (bitLen n / 2 + 1) 0

/-- FSQRT. -/
def FloatFmt.sqrt (f : FloatFmt) (rm a : Nat) : FRes :=
  match f.decode a with
  | .nan p => f.nanOf [.nan p]
  | .inf n => if n then f.invalid else (f.infinity false, 0)
  | .fin n m e =>
    if m = 0 then (f.signBit n, 0)
    else if n then f.invalid
    else
      let k := 2 * f.p + 4 + (if e % 2 = 0 then 0 else 1)
      let x := m * 2 ^ k
      let r := isqrt x
      f.round rm false (2 * r + b2n (r * r != x)) ((e - k) / 2 - 1)

/-- (x × y) + z with a single rounding. -/
def FloatFmt.fmaV (f : FloatFmt) (rm : Nat) (x y z : FVal) : FRes :=
  let infZero := match x, y with
    | .inf _, .fin _ m _ => m == 0
    | .fin _ m _, .inf _ => m == 0
    | _, _ => false
  if infZero then
    (if z.isNan then (f.qnan, if z.isSnan || Config.fmaNanInvalid then flNV else 0) else f.invalid)
  else if x.isNan || y.isNan || z.isNan then f.nanOf [x, y, z]
  else
    let s := x.sign != y.sign
    match x, y with
    | .fin _ m1 e1, .fin _ m2 e2 => f.addV rm (.fin s (m1 * m2) (e1 + e2)) z
    | _, _ => f.addV rm (.inf s) z

/-- A result with its sign changed; NaNs stay canonical. -/
def FloatFmt.negate (f : FloatFmt) (r : FRes) : FRes :=
  if (f.decode r.1).isNan then r else (r.1 ^^^ 2 ^ (f.w - 1), r.2)

/-- The four fused forms: (a × b) ± c, negated after the rounding for FNMADD and FNMSUB (log entry 6). -/
def FloatFmt.fma (f : FloatFmt) (rm a b c : Nat) (negRes negAdd : Bool) : FRes :=
  let r := f.fmaV rm (f.decode a) (f.decode b) (if negAdd then (f.decode c).neg else f.decode c)
  if negRes then f.negate r else r

/-- Order of two values that are not NaN: less. −0 and +0 are equal. -/
def FVal.lt : FVal → FVal → Bool
  | .inf a, .inf b => a && !b
  | .inf a, .fin _ _ _ => a
  | .fin _ _ _, .inf b => !b
  | .fin n1 m1 e1, .fin n2 m2 e2 =>
    let e := min e1 e2
    let v (n : Bool) (m : Nat) (x : Int) : Int := (if n then -1 else 1) * ((m * 2 ^ (x - e).toNat : Nat) : Int)
    decide (v n1 m1 e1 < v n2 m2 e2)
  | _, _ => false

/-- FMIN (max false) and FMAX: −0 below +0; a NaN yields to a number; a signalling NaN sets NV. -/
def FloatFmt.minMax (f : FloatFmt) (maxi : Bool) (a b : Nat) : FRes :=
  let x := f.decode a
  let y := f.decode b
  let fl := if x.isSnan || y.isSnan then flNV else 0
  if x.isNan && y.isNan then (f.qnan, fl)
  else if x.isNan then (b, fl)
  else if y.isNan then (a, fl)
  else
    let less := x.lt y || (!y.lt x && x.sign && !y.sign)
    (if less != maxi then a else b, fl)

/-- FEQ, FLT, FLE: 0, 1 and 2. -/
def FloatFmt.compare (f : FloatFmt) (op a b : Nat) : FRes :=
  let x := f.decode a
  let y := f.decode b
  if x.isNan || y.isNan then (0, if x.isSnan || y.isSnan || op != 0 then flNV else 0)
  else
    let r := match op with
      | 0 => !x.lt y && !y.lt x
      | 1 => x.lt y
      | _ => !y.lt x
    (b2n r, 0)

/-- FCLASS. -/
def FloatFmt.classify (f : FloatFmt) (a : Nat) : Nat :=
  match f.decode a with
  | .nan sn => if sn then 2 ^ 8 else 2 ^ 9
  | .inf n => if n then 1 else 2 ^ 7
  | .fin n m _ =>
    if m = 0 then (if n then 2 ^ 3 else 2 ^ 4)
    else if m < 2 ^ (f.p - 1) then (if n then 2 ^ 2 else 2 ^ 5)
    else if n then 2 else 2 ^ 6

/-- FSGNJ, FSGNJN, FSGNJX: 0, 1 and 2. -/
def FloatFmt.signInject (f : FloatFmt) (op a b : Nat) : Nat :=
  let sa := a.testBit (f.w - 1)
  let sb := b.testBit (f.w - 1)
  let s := match op with | 0 => sb | 1 => !sb | _ => sa != sb
  a % 2 ^ (f.w - 1) + f.signBit s

/-- An integer converted and rounded. -/
def FloatFmt.ofInt (f : FloatFmt) (rm : Nat) (i : Int) : FRes := f.round rm (decide (i < 0)) i.natAbs 0

/-- A value converted to a 64-bit integer: out of range gives the nearest and NV, a NaN the largest positive and NV. -/
def FloatFmt.toInt (f : FloatFmt) (rm : Nat) (signed : Bool) (a : Nat) : FRes :=
  let hi : Int := if signed then 2 ^ 63 - 1 else 2 ^ 64 - 1
  let lo : Int := if signed then -(2 ^ 63) else 0
  match f.decode a with
  | .nan _ => (hi.toNat, flNV)
  | .inf n => (unsgn 64 (if n then lo else hi), flNV)
  | .fin n m e =>
    let r := roundAt rm n m e 0
    let v : Int := if n then -(r.1 : Int) else r.1
    if hi < v then (hi.toNat, flNV)
    else if v < lo then (unsgn 64 lo, flNV)
    else (unsgn 64 v, if r.2 then flNX else 0)

/-- A value converted to another format. -/
def FloatFmt.convert (src dst : FloatFmt) (rm a : Nat) : FRes :=
  match src.decode a with
  | .nan sn => dst.nanOf [.nan sn]
  | .inf n => (dst.infinity n, 0)
  | .fin n m e => dst.round rm n m e

end Sys2Proof.Machine
end

