-- ==== Sys2Proof/Machine/Drift.lean ====
section
/-!
DEFINITION. The drift learner (R223 to R227): guards, the model update of a contact, corrections, misses and LOST.
-/
namespace Sys2Proof.Machine

/-! ## Binary64 arithmetic to nearest even (R212) -/

/-- Sum. -/
def dAdd (a b : Nat) : Nat := (f64.add 0 a b).1
/-- Difference. -/
def dSub (a b : Nat) : Nat := (f64.sub 0 a b).1
/-- Product. -/
def dMul (a b : Nat) : Nat := (f64.mul 0 a b).1
/-- Quotient. -/
def dDiv (a b : Nat) : Nat := (f64.div 0 a b).1
/-- Square root. -/
def dSqrt (a : Nat) : Nat := (f64.sqrt 0 a).1
/-- An integer. -/
def dInt (i : Int) : Nat := (f64.ofInt 0 i).1
/-- Less than. -/
def dLt (a b : Nat) : Bool := (f64.compare 1 a b).1 == 1
/-- Less than or equal. -/
def dLe (a b : Nat) : Bool := (f64.compare 2 a b).1 == 1
/-- The larger of two numbers. -/
def dMax (a b : Nat) : Nat := if dLt a b then b else a
/-- The smaller of two numbers. -/
def dMin (a b : Nat) : Nat := if dLt b a then b else a
/-- The magnitude. -/
def dAbs (a : Nat) : Nat := a % 2 ^ 63
/-- A stored binary32 value widened. -/
def dFrom32 (a : Nat) : Nat := (f32.convert f64 0 a).1
/-- A result stored in binary32. -/
def dTo32 (a : Nat) : Nat := (f64.convert f32 0 a).1
/-- A binary32 value that is an infinity or a NaN. -/
def f32Wild (a : Nat) : Bool := a / 2 ^ 23 % 256 == 255
/-- Rounded to a whole number by a rounding mode. -/
def dToInt (rm a : Nat) : Int := sgn 64 (f64.toInt rm true a).1

/-! ## Settings -/

/-- J in ns. -/
def State.drlJ (s : State) : Nat := dInt (1000 * s.fld F.DRL_CFG1_JIT)
/-- TOL in ppb. -/
def State.drlTol (s : State) : Nat := dInt (1000 * max 1 (s.fld F.DRL_CFG1_TOL))
/-- QR in ppb²/s. -/
def State.drlQr (s : State) : Nat := dInt (s.fld F.DRL_CFG2_QR)
/-- K. -/
def State.drlK (s : State) : Nat := dDiv (dInt (s.fld F.DRL_CFG0_K)) (dInt 16)
/-- GMIN in ns. -/
def State.drlGmin (s : State) : Nat := dInt (1000 * s.fld F.DRL_CFG0_GMIN)
/-- GNEW in µs: up to 2,000 ms. -/
def State.drlGnewUs (s : State) : Nat := 1000 * min 2000 (s.fld F.DRL_GNEW_GNEW)

/-! ## The model of a context -/

/-- The five model values of an image, widened. -/
structure DriftModel where
  theta : Nat
  rate  : Nat
  ptt   : Nat
  ptr   : Nat
  prr   : Nat
  deriving DecidableEq, Repr

/-- The model of an image. -/
def cxModel (c : List Byte) : DriftModel :=
  ⟨dFrom32 (cxGet c 24 4), dFrom32 (cxGet c 28 4), dFrom32 (cxGet c 32 4), dFrom32 (cxGet c 36 4),
   dFrom32 (cxGet c 40 4)⟩
/-- Store a model into an image. -/
def cxSetModel (c : List Byte) (m : DriftModel) : List Byte :=
  cxSet (cxSet (cxSet (cxSet (cxSet c 24 4 (dTo32 m.theta)) 28 4 (dTo32 m.rate)) 32 4 (dTo32 m.ptt)) 36 4 (dTo32 m.ptr))
    40 4 (dTo32 m.prr)
/-- Some model value exceeds binary32. -/
def DriftModel.wild (m : DriftModel) : Bool :=
  [m.theta, m.rate, m.ptt, m.ptr, m.prr].any (fun x => f32Wild (dTo32 x))
/-- TADJ in µs. -/
def cxTadj (c : List Byte) : Int := sgn 24 (cxGet c 50 3)
/-- RADJ in units of 4 ppb. -/
def cxRadj (c : List Byte) : Int := sgn 16 (cxGet c 53 2)
/-- Both corrections set to none. -/
def cxNoAdj (c : List Byte) : List Byte := cxSet (cxSet c 50 3 0x800000) 53 2 0x8000
/-- RESETDRIFT's image: NEW, no misses, contacts or corrections (R225, R229). -/
def cxResetDrift (c : List Byte) (stale : Bool) : List Byte := cxSetState (cxNoAdj c) 0 0 0 stale
/-- A model reset for range (R225): what RESETDRIFT does to it (Table 09-6), with the values it held left as they are (DEDUCED, log
entry 91). -/
def cxResetRange (c : List Byte) : List Byte := cxResetDrift c true

/-- T − ANCHOR in s, the anchor being read against T. -/
def cxAge (c : List Byte) (t : Nat) : Nat :=
  dDiv (dInt (((t : Int) - packedTarget t (cxGet c 16 8)) / (nsU : Int))) (dInt 1000000000)

/-- Variance of THETA after d seconds. -/
def DriftModel.pttAt (m : DriftModel) (qr d : Nat) : Nat :=
  dAdd (dAdd (dAdd m.ptt (dMul (dMul (dInt 2) d) m.ptr)) (dMul (dMul d d) m.prr))
    (dDiv (dMul qr (dMul (dMul d d) d)) (dInt 3))

/-! ## Guard (R226) -/

/-- 4^n as a number of the format. -/
def dPow4 (n : Nat) : Nat := dInt (4 ^ n)

/-- The guard G in µs for an occurrence with nominal instant T. -/
def State.guardOf (s : State) (c : List Byte) (t : Nat) : Nat :=
  if !cxValid c || cxPeer c then 0
  else if cxDstate c = 0 then s.drlGnewUs
  else
    let d := cxAge c t
    let m := cxModel c
    let tp := dAdd m.theta (dMul m.rate d)
    let m0 := dAbs tp
    let m1 := if cxPending c then
        dMax m0 (dAbs (dSub (dSub tp (dMul (dInt 1000) (dInt (cxTadj c)))) (dMul (dMul (dInt 4) (dInt (cxRadj c))) d)))
      else m0
    let pt := m.pttAt s.drlQr d
    let g := dAdd (dAdd m1 (dMul s.drlK (dSqrt (dAdd pt (dMul s.drlJ s.drlJ))))) s.drlGmin
    let gt := dMul s.drlTol d
    let g1 := if cxDstate c = 3 then gt else dMin (dMul (dPow4 (cxMisses c)) g) gt
    (dToInt 3 (dDiv (dMax g1 s.drlGmin) (dInt 1000))).toNat

/-! ## Contacts (R223 to R225) -/

/-- A correction value saturated to ±limit. -/
def saturate (limit v : Int) : Int := if limit < v then limit else if v < -limit then -limit else v

/-- The correction of R223 from the model, rounded to nearest even as R212 has the learner round (log entry 42). -/
def cxCorrect (c : List Byte) : List Byte :=
  let m := cxModel c
  let ta := saturate 8388607 (dToInt 0 (dDiv m.theta (dInt 1000)))
  let ra := saturate 32767 (dToInt 0 (dDiv m.rate (dInt 4)))
  cxSet (cxSet c 50 3 (unsgn 24 ta)) 53 2 (unsgn 16 ra)

/-- An accepted frame with ADJ 1 applies a pending correction (R223). -/
def cxApplyAdj (c : List Byte) : List Byte :=
  if !cxPending c then c else
  let m := cxModel c
  let m' := { m with theta := dSub m.theta (dMul (dInt 1000) (dInt (cxTadj c)))
                     rate := dSub m.rate (dMul (dInt 4) (dInt (cxRadj c))) }
  cxNoAdj (cxSetModel c m')

/-- The update of R225 for a contact with offset z in 1/16 ns and uncertainty u in ns at nominal instant T: the image, the residual y,
saturated as R187 codes it, and whether the model was reset. -/
def State.driftUpdate (s : State) (c : List Byte) (z : Int) (u t : Nat) : List Byte × Option Int × Bool :=
  let j2u2 := dAdd (dMul s.drlJ s.drlJ) (dMul (dInt u) (dInt u))
  let tol2 := dMul s.drlTol s.drlTol
  let ds := cxDstate c
  let zz := dDiv (dInt z) (dInt 16)
  let (m, y, contacts, age) : DriftModel × Option Nat × Nat × Bool :=
    if ds = 0 then (⟨zz, dInt 0, j2u2, dInt 0, tol2⟩, none, 1, false)
    else
      let m0 := cxModel c
      let m1 := if ds = 3 then { m0 with prr := dMax m0.prr tol2, ptr := dInt 0 } else m0
      let k0 := if ds = 3 then 0 else cxContacts c
      let qr := s.drlQr
      let d := cxAge c t
      let tp := dAdd m1.theta (dMul m1.rate d)
      let ptt := m1.pttAt qr d
      let ptr := dAdd (dAdd m1.ptr (dMul d m1.prr)) (dDiv (dMul qr (dMul d d)) (dInt 2))
      let prr := dAdd m1.prr (dMul qr d)
      let sv := dAdd (dAdd ptt (dMul s.drlJ s.drlJ)) (dMul (dInt u) (dInt u))
      let y := dSub zz tp
      let far := dLe (dInt (s.fld F.DRL_CFG2_MINGAP)) d
      (⟨dAdd tp (dMul (dDiv ptt sv) y), dAdd m1.rate (dMul (dDiv ptr sv) y), dSub ptt (dDiv (dMul ptt ptt) sv),
        dSub ptr (dDiv (dMul ptt ptr) sv), dSub prr (dDiv (dMul ptr ptr) sv)⟩, some y,
       if far then min 7 (k0 + 1) else k0, true)
  let ds1 := if ds = 0 ∨ ds = 3 then 1 else ds
  let prr32 := dFrom32 (dTo32 m.prr)
  let ds2 := if decide (4 ≤ contacts) && dLe (dSqrt prr32) (dInt (s.fld F.DRL_CFG2_LEARN)) then 2 else ds1
  let resid := if age then y.map (fun v => saturate 2147483647 (dToInt 4 v)) else none
  if m.wild then (cxResetRange c, resid, true)
  else (cxCorrect (cxSetModel (cxSet (cxSetState c ds2 0 contacts (cxStale c)) 16 8 (packNt t)) m), resid, false)

/-! ## Misses (R227) -/

/-- DRL_LOST shows the oldest handle. -/
def State.showLost (s : State) : State :=
  (s.setFld F.DRL_LOST_VALID (b2n (!s.lnk.lost.isEmpty))).setFld F.DRL_LOST_HANDLE (s.lnk.lost.headD 0)
/-- A handle enters DRL_LOST; a full FIFO of 64 drops it. -/
def State.pushLost (s : State) (h : Nat) : State :=
  if 64 ≤ s.lnk.lost.length then s.setFld F.DRL_LOST_OVERFLOW 1
  else (s.setLnk { s.lnk with lost := s.lnk.lost ++ [h] }).showLost
/-- A read of DRL_LOST removes the oldest handle. -/
def State.popLost (s : State) : State := (s.setLnk { s.lnk with lost := s.lnk.lost.drop 1 }).showLost

/-- A context changed outside a frame: cached, and journaled behind the entries already asked for (R25, R214). -/
def State.storeCtx (s : State) (h : Nat) (c : List Byte) : State := (s.setCtx h c).addReq 24 1 .none .lnkEntry 0 0 [ctxItem h c]

/-- A miss of a context (R227): the third marks it LOST with EV36. -/
def State.driftMiss (s : State) (h : Nat) : State :=
  let c := s.ctx h
  if !s.fnOn 15 0 0 || !cxValid c || cxPeer c || (cxDstate c != 1 && cxDstate c != 2) then s
  else if cxMisses c < 2 then
    s.storeCtx h (cxSetState c (cxDstate c) (cxMisses c + 1) (cxContacts c) (cxStale c))
  else
    (((s.storeCtx h (cxSetState c 3 0 (cxContacts c) (cxStale c))).count F.DRL_COUNT_LOST).pushLost h).pulse 36

end Sys2Proof.Machine
end

