-- ==== Sys2Proof/Machine/Slots.lean ====
section
/-!
DEFINITION. The access block (ch. 08): laps, slot-table entries, occurrences and their offers, edits, wake preambles,
contention queues.
-/
namespace Sys2Proof.Machine

/-! ## The instances -/

/-- ACC instance of a radio. -/
def State.accOf (s : State) (r : Nat) : AccState := SMap.get (fun _ => AccState.reset) s.acc r
/-- Replace an instance. -/
def State.setAcc (s : State) (r : Nat) (a : AccState) : State :=
  { s with acc := SMap.set (fun _ => AccState.reset) s.acc r a }
/-- Entries of a table. -/
def tableSize (r : Nat) : Nat := if r = 2 then 1024 else 16384
/-- LAP in seconds. -/
def State.lapSec (s : State) (r : Nat) : Nat := max 1 (min 4096 (s.fld (F.ACC_LAP_LAP r)))
/-- The current lap number. -/
def State.lapNum (s : State) (r : Nat) : Nat := ntSec s.now / s.lapSec r
/-- LEAD in units. -/
def State.offerLead (s : State) (r : Nat) : Nat := max 50 (s.fld (F.ACC_OFFER_LEAD r)) * usU
/-- SETTLE in µs. -/
def State.settleUs (s : State) (r : Nat) : Nat := s.fld (F.ACC_WAKE_SETTLE r)

/-- The lap line pulses when counting carried the fine selected NT to or past a boundary (R194). -/
def State.lapPulse (s : State) (r : Nat) : State :=
  let l := s.lapSec r * secU
  if !s.coarse && (s.time.selFrom + s.time.selLen) / l != s.time.selFrom / l then s.pulse (10 + r) else s

/-! ## Entries (Table 08-1) -/

/-- Entry idx of a physical table, as a number of 32 bytes. -/
def AccState.entry (a : AccState) (table idx : Nat) : Nat := SMap.get (fun _ => 0) a.tab (table * 16384 + idx)
/-- Replace an entry. -/
def AccState.setEntry (a : AccState) (table idx v : Nat) : AccState :=
  { a with tab := SMap.set (fun _ => 0) a.tab (table * 16384 + idx) v }
/-- Bits hi to lo of byte b onward of an entry. -/
def eb (e b hi lo : Nat) : Nat := bitsOf (e / 2 ^ (8 * b)) hi lo
/-- ACTION: 0 empty, 1 RX, 2 TX, 3 CONTEND. -/
def entAction (e : Nat) : Nat := eb e 0 1 0
/-- CHAIN. -/
def entChain (e : Nat) : Nat := eb e 0 3 2
/-- PRE_MODE. -/
def entPre (e : Nat) : Nat := eb e 0 5 4
/-- DRL. -/
def entDrl (e : Nat) : Bool := e.testBit 6
/-- ROT. -/
def entRot (e : Nat) : Bool := e.testBit 8
/-- OPT. -/
def entOpt (e : Nat) : Bool := e.testBit 9
/-- PMUL. -/
def entPmul (e : Nat) : Nat := eb e 1 7 4
/-- PHASE. -/
def entPhase (e : Nat) : Nat := eb e 2 11 0
/-- CHAN. -/
def entChan (e : Nat) : Nat := eb e 4 15 0
/-- MODE. -/
def entMode (e : Nat) : Nat := eb e 6 7 0
/-- POWER. -/
def entPower (e : Nat) : Nat := eb e 7 7 0
/-- OFFSET in µs. -/
def entOffset (e : Nat) : Nat := eb e 8 31 0
/-- WINDOW in µs. -/
def entWindow (e : Nat) : Nat := eb e 12 21 0
/-- CQ. -/
def entCq (e : Nat) : Nat := eb e 15 1 0
/-- HANDLE. -/
def entHandle (e : Nat) : Nat := eb e 16 17 0
/-- BUF in 8-byte units. -/
def entBuf (e : Nat) : Nat := eb e 19 19 0
/-- BSTRIDE in 8-byte units. -/
def entStride (e : Nat) : Nat := eb e 22 15 0
/-- WAKE_TAG. -/
def entTag (e : Nat) : Nat := eb e 24 15 0
/-- SNIFF in 10 ms. -/
def entSniff (e : Nat) : Nat := eb e 26 15 0
/-- A reserved bit of an entry is set. -/
def entReserved (r e : Nat) : Bool :=
  eb e 1 3 2 != 0 || eb e 2 15 12 != 0 || eb e 12 23 22 != 0 || eb e 15 7 2 != 0 || eb e 16 23 18 != 0
    || eb e 19 23 20 != 0 || (r == 2 && eb e 16 17 6 != 0)
/-- The entry with OUT_STATUS and OUT_LAP written. -/
def entOutcome (e status lap : Nat) : Nat := e % 2 ^ 224 + status % 256 * 2 ^ 224 + lap % 2 ^ 24 * 2 ^ 232

/-- The rotation index r of a lap (R198). -/
def entTurn (e lap : Nat) : Nat := if entRot e then lap % 2 ^ entPmul e else 0
/-- The entry has an occurrence in a lap; one whose PHASE can never come is treated as though it had (R199). -/
def entOccurs (e lap : Nat) : Bool :=
  entAction e != 0 && (entRot e || lap % 2 ^ entPmul e == entPhase e || decide (2 ^ entPmul e ≤ entPhase e))
/-- An action uses a guard (R200). -/
def entGuarded (e : Nat) : Bool := (entAction e == 1 && entDrl e) || (entAction e == 2 && entPre e == 1)
/-- The handle of an occurrence; on H the context of the peer link (R228). -/
def State.occHandle (s : State) (r e lap : Nat) : Nat :=
  if r = 2 then s.fld (F.LNK_PEER_HANDLE (entHandle e % 64)) else entHandle e + entTurn e lap

/-- Chains that take a kind of action on a radio (Table 05-5): 1 RX, 2 TX. -/
def chainTakes (r action chain : Nat) : Bool :=
  if r = 0 then decide (chain ≤ 3) else if r = 1 then (if action = 2 then decide (chain ≤ 1) else chain == 0) else chain == 0

/-- An occurrence is ignored at its offer (R199). -/
def State.entBad (s : State) (r e lap : Nat) : Bool :=
  let act := entAction e
  decide (s.lapSec r * 1000000 ≤ entOffset e) || decide (12 < entPmul e) ||
  (!entRot e && decide (2 ^ entPmul e ≤ entPhase e)) ||
  !chainTakes r (if act = 1 then 1 else 2) (entChain e) ||
  (if (modeInfo r (entMode e)).isSome then false else !(entMode e == 1 && act == 1 && r != 2)) ||
  decide (262143 < entHandle e + entTurn e lap) || entReserved r e ||
  (act != 2 && (entWindow e == 0 || decide (4000000 < entWindow e))) ||
  (r == 2 && (entPre e != 0 || entDrl e || entRot e || act == 3)) || entPre e == 3

/-! ## Wake preambles (R206, R207) -/

/-- Rate in bit/s of a Sleet or SUN FSK mode. -/
def fskRate (mode : Nat) : Nat :=
  if mode = 0x20 then 50000 else if mode < 0x38 then sunRate (mode - 0x30) else sunRate (mode - 0x38)
/-- n / d rounded up. -/
def ceilDiv (n d : Nat) : Nat := (n + d - 1) / d
/-- DRZ_PRE in force. -/
def State.drzPre (s : State) : Nat := preSetting (s.fld (F.DP_MODEM_DRZ_PRE 0))
/-- FSK_PRE in force. -/
def State.fskPre (s : State) : Nat := preSetting (s.fld (F.DP_MODEM_FSK_PRE 0))
/-- Length of a flurry frame in µs. -/
def flurryUs (mode : Nat) : Nat := if mode = 0x40 then 448 else if mode = 0x50 then 120 else 64
/-- Flurry period F in µs. -/
def flurryPeriod (mode : Nat) : Nat := flurryUs mode + 16

/-- The preamble for a wake span in µs: symbols or octets on S, flurry frames on M; true where it is a FAULT. -/
def State.wakePre (s : State) (r mode span : Nat) : Nat × Bool :=
  if r = 1 then
    let n := ceilDiv span (flurryPeriod mode)
    (n, decide (16777215 < n * flurryPeriod mode))
  else if mode = 0x10 then
    let n := ceilDiv (span * 1200) 1000000 + 32
    let p := max (8 * ceilDiv n 8) (8 * s.drzPre)
    (p, decide (65528 < p))
  else
    let p := max (ceilDiv (span * fskRate mode) 8000000 + 4) s.fskPre
    (p, decide (65535 < p))

/-! ## Occurrences (R198 to R201) -/

/-- Nominal instant T of an entry in a lap. -/
def State.occT (s : State) (r e lap : Nat) : Nat := lap * s.lapSec r * secU + entOffset e * usU

/-- The guard taken for an occurrence as (G in µs, PRE_MODE as it acts). -/
def AccState.guardOf (a : AccState) (idx lap : Nat) : Option (Nat × Nat) :=
  (a.guards.find? (fun g => g.1 == idx && g.2.1 == lap)).map (fun g => (g.2.2.1, g.2.2.2))

/-- Resolve an occurrence of an entry of the active table with its guard. -/
def State.resolveOcc (s : State) (r idx lap : Nat) (g pre : Nat) : Occ :=
  let a := s.accOf r
  let e := a.entry a.active idx
  let t := s.occT r e lap
  let win := if entGuarded e && entAction e == 1 then min 4000000 (entWindow e + 2 * g) else entWindow e
  let span := if pre = 1 then 2 * g + s.settleUs r else entSniff e * 10000 + s.settleUs r
  let wp := if entAction e = 2 ∧ pre ≠ 0 then some (s.wakePre r (entMode e) span) else none
  ⟨idx, a.active, lap, entAction e, entChain e, entLbt e, entChan e, entMode e, entPower e, t, t - g * usU, win,
   spadBase + 8 * (entBuf e + entTurn e lap * entStride e), s.occHandle r e lap, entDrl e, wp.map (·.1),
   wp.elim false (·.2), entTag e, if r = 2 then some (entHandle e % 64) else none, none, false, true⟩
where
  /-- LBT. -/
  entLbt (e : Nat) : Bool := e.testBit 7

/-- Occurrences in ACC_NEXT, in order of port time. -/
def AccState.inNext (a : AccState) : List Occ := a.offers.filter (fun o => o.inNext)
/-- Where ACC_NEXT holds fewer than 64, the first offers that wait enter (R201). -/
def AccState.refill (a : AccState) : AccState :=
  let enter := ((a.offers.filter (fun o => o.waits)).take (64 - a.inNext.length)).map (fun o => (o.entry, o.lap, o.port))
  { a with offers := a.offers.map (fun o =>
      if o.waits && enter.contains (o.entry, o.lap, o.port) then { o with inNext := true, waits := false } else o) }

/-- NEXT_LEVEL, VALID and ENTRY as they read. -/
def State.accStat (s : State) (r : Nat) : State :=
  let l := (s.accOf r).inNext
  ((s.setFld (F.ACC_STAT_NEXT_LEVEL r) l.length).setFld (F.ACC_NEXT_VALID r) (b2n (!l.isEmpty))).setFld
    (F.ACC_NEXT_ENTRY r) (l.head?.elim 0 (fun o => o.entry))

/-- Insert an offer in order of port time, ties by rising entry. -/
def insertOcc (o : Occ) : List Occ → List Occ
  | [] => [o]
  | x :: xs =>
    if decide (o.port < x.port) || (o.port == x.port && decide (o.entry < x.entry)) then o :: x :: xs
    else x :: insertOcc o xs

/-- Place an offer, which enters ACC_NEXT where there is room; the line pulses when ACC_NEXT was empty. -/
def State.placeOffer (s : State) (r : Nat) (o : Occ) : State :=
  let a := s.accOf r
  let was := a.inNext.isEmpty
  let s1 := (s.setAcc r ({ a with offers := insertOcc o a.offers } : AccState).refill).accStat r
  if was then s1.pulse (13 + r) else s1

/-- Mark an occurrence as offered or passed over. -/
def State.giveOcc (s : State) (r idx lap : Nat) : State :=
  let a := s.accOf r
  s.setAcc r { a with given := a.given ++ [(idx, lap)] }

/-- An occurrence has been offered or passed over. -/
def AccState.wasGiven (a : AccState) (idx lap : Nat) : Bool := a.given.any (fun g => g.1 == idx && g.2 == lap)

/-! ## Contexts cached (R214) -/

/-- Chain k of a radio. -/
def State.chain (s : State) (r k : Nat) : Chain := SMap.get (fun _ => Chain.reset) s.chains (4 * r + k)
/-- A command, or one in progress, serves an occurrence for a handle. -/
def Chain.serves (c : Chain) (h : Nat) : Bool :=
  let mine (q : QCmd) : Bool := match q.slot with | some o => o.handle == h | none => false
  c.queue.any mine || (match c.act with | some a => mine a.cmd | none => false)
/-- An occurrence for a handle, offered and not complete or with its guard taken, of a radio. -/
def State.occUses (s : State) (r h : Nat) : Bool :=
  let a := s.accOf r
  a.offers.any (fun o => o.handle == h) || (List.range 4).any (fun k => (s.chain r k).serves h) ||
  a.wins.any (fun w => s.occHandle r (a.entry w.table w.entry) w.lap == h)
/-- A frame, an occurrence or a journal entry refers to a context. -/
def State.ctxRefers (s : State) (h : Nat) : Bool :=
  s.lnk.frames.any (fun f => f.handle == some h) || s.lnk.dirty.any (fun d => d.1 == h) || s.lnk.acks.any (fun j => j.handle == h) ||
  s.arb.reqs.any (fun q => q.items.any (fun i => i.1 == hotAt h)) ||
  (List.range 3).any (fun r => s.occUses r h ||
    (s.accOf r).guards.any (fun g => s.occHandle r ((s.accOf r).entry (s.accOf r).active g.1) g.2.1 == h))
/-- A context is used: first in the cache of 16,384, from which the least recently used context that nothing refers to is evicted. -/
def State.touchCtx (s : State) (h : Nat) : State :=
  let l := h :: s.lnk.cache.filter (· != h)
  let keep := if l.length ≤ 16384 then l else
    match l.reverse.find? (fun x => !s.ctxRefers x) with
    | some x => l.erase x
    | none => l
  s.setLnk { s.lnk with cache := keep }

/-- The guard instant of an occurrence has come: G is taken, LOST turning PRE_MODE 1 into 2 (R200, R206). -/
def State.takeGuard (s : State) (r idx lap : Nat) : State :=
  let a := s.accOf r
  let e := a.entry a.active idx
  let t := s.occT r e lap
  if !entGuarded e || !entOccurs e lap || (a.guardOf idx lap).isSome || a.wasGiven idx lap then s
  else if s.now + s.offerLead r + 60 * secU < t then s
  else
    let h := s.occHandle r e lap
    let s := s.meetCtx h
    let c := s.ctx h
    let pre := if entPre e = 1 ∧ cxDstate c = 3 ∧ entSniff e ≠ 0 then 2 else entPre e
    let g := if entAction e = 2 ∧ pre = 2 then 0 else s.guardOf c t
    (s.setAcc r { a with guards := a.guards ++ [(idx, lap, g, pre)] }).touchCtx h

/-- READY of a transmit buffer. -/
def State.bufReady (s : State) (a : Nat) : Bool := bitOf (s.rdLe a 1) 0
/-- LENGTH of a transmit buffer. -/
def State.bufLen (s : State) (a : Nat) : Nat := s.rdLe (a + 2) 2

/-- A window of a CONTEND occurrence, planned at its offer. -/
def Occ.window_ (o : Occ) (q : Nat) : ConWin :=
  ⟨o.entry, o.table, o.lap, q, o.t, o.t + o.window * usU, false, o.t, false, none, false⟩

/-- Swap NT of a swap slot in units. -/
def State.swapNt (s : State) (n : Nat) : Nat :=
  (s.fld (F.HIT_SWAP_SEC_LO_SEC_LO n) + 2 ^ 32 * s.fld (F.HIT_SWAP_SEC_HI_SEC_HI n)) * secU
    + s.fld (F.HIT_SWAP_NS_NS n) * nsU
/-- The shadow LAP of a radio's table. -/
def State.shadowLap (s : State) (r : Nat) : Nat := max 1 (min 4096 (getBits (s.shw (F.ACC_LAP_LAP r).addr) 12 0))
/-- The tick of a table swap asked for at an NT: the first boundary of both lap lengths at or after it (R34, R195). -/
def State.tableSwapAt (s : State) (r u : Nat) : Nat :=
  let l := Nat.lcm (s.lapSec r) (s.shadowLap r) * secU
  (u + l - 1) / l * l
/-- A swap of the radio's table is pending: ACC_STAT.SWAP_PENDING. -/
def State.tablePending (s : State) (r : Nat) : Bool :=
  (List.range 8).any (fun n => s.fld (F.HIT_SWAP_STAT_STATE n) == 1 && bitOf (s.fld (F.HIT_SWAP_SETS_TABLE n)) r &&
    !bitOf (s.fld (F.HIT_SWAP_STAT_DONE n)) r)
/-- A pending swap of the radio's table has its swap tick at or before a port time (R205). -/
def State.swapAt (s : State) (r port : Nat) : Bool :=
  (List.range 8).any (fun n => s.fld (F.HIT_SWAP_STAT_STATE n) == 1 && bitOf (s.fld (F.HIT_SWAP_SETS_TABLE n)) r &&
    !bitOf (s.fld (F.HIT_SWAP_STAT_DONE n)) r && decide (s.tableSwapAt r (s.swapNt n) ≤ port))

/-! ## Outcomes and skips (R202, R203) -/

/-- Write OUT_STATUS and OUT_LAP of an occurrence into its table. -/
def State.outcome (s : State) (r : Nat) (o : Occ) (status : Nat) : State :=
  let a := s.accOf r
  s.setAcc r { a with tab := (a.setEntry o.table o.entry (entOutcome (a.entry o.table o.entry) status o.lap)).tab,
                      guards := a.guards.filter (fun g => !(g.1 == o.entry && g.2.1 == o.lap)) }

/-- The attempt of a contention queue has ended with a status. -/
def State.attemptEnded (s : State) (r q status : Nat) : State :=
  let a := s.accOf r
  s.setAcc r { a with wins := a.wins.map (fun w =>
    if w.queue == q && w.trying then { w with trying := false, status := some status } else w) }

/-- An occurrence completes: its outcome, and what waits for an attempt. -/
def State.occDone (s : State) (r : Nat) (o : Occ) (status : Nat) : State :=
  let s1 := s.outcome r o status
  match o.cq with
  | some q => s1.attemptEnded r q status
  | none => s1

/-- The lead of an action in µs (Table 05-5). -/
def leadUs (r op : Nat) : Nat :=
  match op with
  | 1 => [20, 12, 30].getD r 0
  | 2 | 3 | 7 => [10, 6, 8].getD r 0
  | 4 | 5 | 9 => 2
  | 6 => 5
  | 8 => 1
  | _ => 0

/-- The issue lead of an occurrence in units. -/
def Occ.lead (o : Occ) (r : Nat) : Nat := leadUs r (if o.action = 1 then 2 else 1) * usU

/-- Withdraw an offered occurrence. -/
def State.dropOffer (s : State) (r : Nat) (o : Occ) : State :=
  let a := s.accOf r
  (s.setAcc r ({ a with offers := a.offers.erase o } : AccState).refill).accStat r

/-- ACC_NEXT as it reads: the first offer. A read by the radio's slot engine takes it out (R132). -/
def State.readNext (s : State) (r : Nat) : State :=
  let a := s.accOf r
  match a.inNext with
  | [] => s
  | o :: _ => (s.setAcc r ({ a with offers := a.offers.map (fun x =>
      if x = o then { x with inNext := false } else x) } : AccState).refill).accStat r

/-- The occurrence that RCMD SLOT of an entry issues: the earliest port time among the offered ones (R203). -/
def State.slotOcc (s : State) (r idx : Nat) : Option Occ := (s.accOf r).offers.find? (fun o => o.entry == idx)

/-- An entry of the active table is in use (R204): offered, issued and not complete, or with an open window. -/
def State.entryInUse (s : State) (r idx : Nat) : Bool :=
  let a := s.accOf r
  let mine (c : QCmd) : Bool := match c.slot with | some o => o.entry == idx && o.table == a.active | none => false
  a.offers.any (fun o => o.entry == idx && o.table == a.active) ||
  a.wins.any (fun w => w.entry == idx && w.table == a.active) ||
  (List.range 4).any (fun k =>
    let c := SMap.get (fun _ => Chain.reset) s.chains (4 * r + k)
    c.queue.any mine || (match c.act with | some x => mine x.cmd | none => false))

/-! ## Edits (R204) -/

/-- LOAD source address. -/
def State.editAddr (s : State) (r : Nat) : Nat := s.fld (F.ACC_EDIT_ADDR_LO_ADDR r) * 8 + s.fld (F.ACC_EDIT_ADDR_HI_ADDR r) * 2 ^ 32
/-- COUNT of a LOAD. -/
def State.editCount (s : State) (r : Nat) : Nat := max 1 (s.fld (F.ACC_EDIT_IDX_COUNT r))
/-- The code of an edit operation. COUNT gives the entries of a LOAD (Table 08-14): a WRITE or READ names the one entry IDX, and a
COPY, which is of the whole table, makes no check of IDX and COUNT (DESIGN CHOICE, log entry 115). -/
def State.editCode (s : State) (r op : Nat) (active : Bool) : Status :=
  let n := if op = 3 then s.editCount r else 1
  let idx := s.fld (F.ACC_EDIT_IDX_IDX r)
  if (s.accOf r).editing then .busy
  else if op = 0 ∨ 4 < op ∨ (op ≠ 4 ∧ tableSize r < idx + n) ∨ (active ∧ (op = 3 ∨ op = 4))
      ∨ (op = 3 ∧ inNormal (s.editAddr r) (32 * n) = false) then .fault
  else if op = 1 ∧ active ∧ s.entryInUse r idx then .busy
  else if !active && s.tablePending r then .busy
  else .ok

/-- The entry in ACC_EDIT_DATA. -/
def State.editData (s : State) (r : Nat) : Nat := leNat (((List.range 8).map (fun i => leBytes 4 (s.reg (R.ACC_EDIT_DATA r i)).toNat)).flatten)
/-- A new entry that keeps the outcome of the old one. -/
def keepOutcome (old new : Nat) : Nat := new % 2 ^ 224 + old / 2 ^ 224 * 2 ^ 224

/-- Entries copied from a source function into a table. -/
def AccState.fill (a : AccState) (table idx : Nat) (f : Nat → Nat) (n : Nat) : AccState :=
  (List.range n).foldl (fun a i => a.setEntry table (idx + i) (f i)) a

/-- The action of an edit whose code is OK (Table 08-14). -/
def State.editApply (s : State) (r op : Nat) (active : Bool) : State :=
  let a := s.accOf r
  let idx := s.fld (F.ACC_EDIT_IDX_IDX r)
  let tb := if active then a.active else 1 - a.active
  match op with
  | 1 => s.setAcc r (a.setEntry tb idx (keepOutcome (a.entry tb idx) (s.editData r)))
  | 2 => (List.range 8).foldl (fun s i => s.setReg (R.ACC_EDIT_DATA r i) (BitVec.ofNat 32 (a.entry tb idx / 2 ^ (32 * i)))) s
  | 3 => (s.seen (s.editAddr r) (32 * s.editCount r)).setAcc r (a.fill tb idx (fun i => keepOutcome (a.entry tb (idx + i)) (s.rdLe (s.editAddr r + 32 * i) 32)) (s.editCount r))
  | _ => s.setAcc r (a.fill tb 0 (fun i => a.entry a.active i) (tableSize r))

/-- A write of ACC_EDIT_CMD: the operation is decided and, when OK, carried out; a WRITE or READ completes at once, a LOAD or
COPY is in progress until ACC_EDIT_COMPLETE (log entry 41). -/
def State.editCmd (s : State) (r op : Nat) (active : Bool) : State :=
  if op = 0 then s else
  match s.editCode r op active with
  | .ok =>
    let s1 := s.editApply r op active
    if op = 1 ∨ op = 2 then s1.setFld (F.ACC_EDIT_CMD_STATUS r) 0
    else (s1.setAcc r { s1.accOf r with editing := true }).setFld (F.ACC_EDIT_CMD_BUSY r) 1
  | c =>
    let s1 := s.setFld (F.ACC_EDIT_CMD_STATUS r) c.code
    if c = .busy then s1.count (F.ACC_COUNT_EDIT_BUSY r) else s1

/-- The operation in progress completes. -/
def State.editDone (s : State) (r : Nat) : State :=
  if (s.accOf r).editing then
    ((s.setAcc r { s.accOf r with editing := false }).setFld (F.ACC_EDIT_CMD_BUSY r) 0).setFld (F.ACC_EDIT_CMD_STATUS r) 0
  else s

/-! ## Contention (R209, R210) -/

/-- Address of the descriptor at HEAD of a queue, if there is one. -/
def State.cqHead (s : State) (r q : Nat) : Option Nat :=
  let h := s.fld (F.ACC_CQ_PTR_HEAD r q)
  if s.fld (F.ACC_CQ_CFG_SIZE r q) = 0 ∨ h = s.fld (F.ACC_CQ_PTR_TAIL r q) then none
  else some (spadBase + 16 * s.fld (F.ACC_CQ_CFG_BASE r q) + 16 * h)

/-- MAX_BE in force. -/
def State.maxBe (s : State) (r : Nat) : Nat := min 10 (s.fld (F.ACC_BACKOFF_MAX_BE r))
/-- MIN_BE in force. -/
def State.minBe (s : State) (r : Nat) : Nat := min (s.maxBe r) (s.fld (F.ACC_BACKOFF_MIN_BE r))
/-- MAX_TRIES in force. -/
def State.maxTries (s : State) (r : Nat) : Nat := max 1 (s.fld (F.ACC_BACKOFF_MAX_TRIES r))
/-- BSLOT in µs. -/
def State.bslot (s : State) (r : Nat) : Nat := max 1 (s.fld (F.ACC_BACKOFF_BSLOT r))

/-- Attempts made and exponent of the descriptor at HEAD: none of its own means a fresh one at MIN_BE. -/
def State.cqState (s : State) (r q : Nat) : Nat × Nat :=
  match (s.accOf r).cq.find? (fun x => x.1 == q) with
  | some (_, v) => v
  | none => (0, s.minBe r)

/-- Airtime of a contention frame. -/
def State.cqAir (s : State) (a : Nat) : Nat :=
  let mode := s.rdLe (a + 6) 1
  airtime mode (s.bufLen (spadBase + 8 * (s.rdLe (a + 8) 3 % 2 ^ 20))) (sendPreamble mode s.drzPre s.fskPre none)

/-- The occupied band of a mode at a CHAN as (low, high) in Hz. -/
def bandOf (r mode chan : Nat) : Nat × Nat :=
  let bw := (modeInfo r mode).elim 0 ModeInfo.bw
  (chanHz r chan - bw / 2, chanHz r chan + bw / 2)

/-- Serve the first open window of a queue: offer the next attempt of the descriptor at HEAD, or end serving where it cannot end in
the window, which stays open until it closes. No attempt is offered while the NT is coarse or RUN is not on (R201). -/
def State.serveWindow (s0 : State) (r q : Nat) : State :=
  let a := s0.accOf r
  match a.wins.find? (fun w => w.queue == q && w.isOpen) with
  | none => s0
  | some w =>
    if w.trying || w.status.isSome || w.spent || s0.coarse || !s0.fnOn (4 + r) 0 0 then s0 else
    match s0.cqHead r q with
    | none => s0
    | some d =>
      let s := s0.seen d 16
      let (_, be) := s.cqState r q
      let t := max w.t (s.now + s.offerLead r)
      let k := s.free be
      let mode := s.rdLe (d + 6) 1
      let chan := s.rdLe (d + 4) 2
      let (lo, hi) := bandOf r mode chan
      let p := t + (k * s.bslot r + s.listenUs (s.subsOf lo hi) + 24) * usU
      if w.closes < p + s.cqAir d then
        s.takeFree.setAcc r { a with wins := a.wins.map (fun x => if x = w then { x with spent := true } else x) }
      else
        let o : Occ := ⟨w.entry, w.table, w.lap, 3, s.rdLe (d + 11) 1 % 4, true, chan, mode, s.rdLe (d + 7) 1, p, p, 0,
          spadBase + 8 * (s.rdLe (d + 8) 3 % 2 ^ 20), s.occHandle r (a.entry w.table w.entry) w.lap, false, none, false, 0, none, some q, false, true⟩
        (s.takeFree.setAcc r { a with wins := a.wins.map (fun x => if x = w then { x with trying := true, t := t } else x) }).placeOffer r o

/-- A window opens at its port time. -/
def State.openWindow (s : State) (r idx lap : Nat) : State :=
  let a := s.accOf r
  match a.wins.find? (fun w => w.entry == idx && w.lap == lap && !w.isOpen) with
  | none => s
  | some w =>
    if s.now < w.opens then s
    else (s.setAcc r { a with wins := a.wins.map (fun x => if x = w then { x with isOpen := true } else x) }).serveWindow r w.queue

/-- The descriptor at HEAD ends: STATUS, TRIES, DONE, its line, HEAD; one that is not OK is counted. -/
def State.cqEnd (s : State) (r q d status tries : Nat) : State :=
  let s1 := (s.putLe (d + 2) 1 status).putLe (d + 3) 1 tries
  let f := s1.rdLe d 1
  let s2 := s1.putLe d 1 (f ||| 0x80)
  let s3 := if bitOf f 0 then s2.pulseFree (s2.rdLe (d + 1) 1) else s2
  let h := (s3.fld (F.ACC_CQ_PTR_HEAD r q) + 1) % max 1 (s3.fld (F.ACC_CQ_CFG_SIZE r q))
  let a := s3.accOf r
  let s4 := (s3.setFld (F.ACC_CQ_PTR_HEAD r q) h).setAcc r { a with cq := a.cq.filter (fun x => x.1 != q) }
  if status = 0 then s4 else s4.count (F.ACC_COUNT_CQ_FAILED r)

/-- The loop of R210 takes the status of an attempt that has ended. -/
def State.attemptComplete (s : State) (r q : Nat) : State :=
  let a := s.accOf r
  match a.wins.find? (fun w => w.queue == q && w.status.isSome), s.cqHead r q with
  | some w, some d =>
    let st := w.status.getD 0
    let (tries0, be0) := s.cqState r q
    let tries := tries0 + 1
    let be := if st = 2 ∨ st = 3 then min (be0 + 1) (s.maxBe r) else be0
    let s1 := s.setAcc r { a with
      wins := a.wins.map (fun x => if x = w then { x with status := none, t := s.now + 16 * usU } else x)
      cq := (q, (tries, be)) :: a.cq.filter (fun x => x.1 != q) }
    if (st ≠ 1 ∧ st ≠ 2 ∧ st ≠ 3) ∨ tries = s.maxTries r then (s1.cqEnd r q d st tries).serveWindow r q
    else s1.serveWindow r q
  | _, _ => s

/-- A window closes: the next open one of its queue serves. -/
def State.closeWindow (s : State) (r q : Nat) : State :=
  let a := s.accOf r
  match a.wins.find? (fun w => w.queue == q && w.isOpen) with
  | none => s
  | some w =>
    if s.now < w.closes || w.trying || w.status.isSome then s
    else (s.setAcc r { a with wins := a.wins.erase w }).serveWindow r q

/-- A write of ACC_CQ_CFG[q] has no effect while a window of the queue is open; TAIL takes only values below SIZE. -/
def State.afterCqCfg (s : State) (r q : Nat) (old : Word) : State :=
  if (s.accOf r).wins.any (fun w => w.queue == q && w.isOpen) then s.setReg (R.ACC_CQ_CFG r q) old else s
/-- After a write of ACC_CQ_PTR[q]: an open window with an idle queue serves the new descriptor. -/
def State.afterCqPtr (s : State) (r q : Nat) (old : Word) : State :=
  if s.fld (F.ACC_CQ_PTR_TAIL r q) < s.fld (F.ACC_CQ_CFG_SIZE r q) then s.serveWindow r q
  else s.setReg (R.ACC_CQ_PTR r q) old

/-! ## Offers (R199, R201, R202, R205) -/

/-- ACC makes no offer of an entry with this buffer: NT coarse, RUN of the engine not on, or an optional TX not ready (R201). -/
def State.noOffer (s : State) (r e buf : Nat) : Bool :=
  s.coarse || !s.fnOn (4 + r) 0 0 || (entAction e == 2 && entOpt e && !s.bufReady buf)
/-- A forward step carried the fine selected NT past an instant that it had not reached. -/
def State.jumped (s : State) (u : Nat) : Bool := s.time.jumps.any (fun j => decide (j.1 < u) && decide (u < j.2))

/-- An occurrence that a forward step carried the NT past before its offer is skipped: LATE, SKIPPED (R202). -/
def State.skipPast (s : State) (r idx lap : Nat) (o : Occ) : State :=
  let s1 := s.giveOcc r idx lap
  if s.noOffer r ((s.accOf r).entry (s.accOf r).active idx) o.buf ||
    s.entBad r ((s.accOf r).entry (s.accOf r).active idx) lap then s1
  else (s1.outcome r o Status.late.code).count (F.ACC_COUNT_SKIPPED r)

/-- The read of READY of an optional TX's buffer meets words with wrong bits (R275). -/
def State.seenReady (s : State) (e buf : Nat) : State := if entAction e = 2 ∧ entOpt e = true then s.seen buf 1 else s

/-- The offer instant of an occurrence: offered, ignored, passed over, or skipped where a step carried the NT past it; nothing is
offered whose nominal instant is over. An open contention window whose queue stands idle serves again. -/
def State.offerOcc (s : State) (r idx lap : Nat) : State :=
  let a := s.accOf r
  let e := a.entry a.active idx
  match a.wins.find? (fun w => w.entry == idx && w.lap == lap && w.isOpen) with
  | some w => s.serveWindow r w.queue
  | none =>
    if !entOccurs e lap || a.wasGiven idx lap then s else
    match (if entGuarded e then a.guardOf idx lap else some (0, entPre e)) with
    | none => s
    | some (g, pre) =>
      let o := s.resolveOcc r idx lap g pre
      if s.jumped o.port then s.skipPast r idx lap o
      else if s.now + s.offerLead r < o.port || decide (o.t < s.now) then s
      else if s.tablePending r && s.swapAt r o.port then s
      else
        let s1 := (s.seenReady e o.buf).giveOcc r idx lap
        if s.noOffer r e o.buf then s1
        else if s.entBad r e lap then (s1.count (F.ACC_COUNT_BAD r)).setFld (F.ACC_STAT_BAD_ENTRY r) 1
        else if entAction e = 3 then
          let b := s1.accOf r
          s1.setAcc r { b with wins := b.wins ++ [o.window_ (entCq e)] }
        else s1.placeOffer r o

/-- An offered occurrence can no longer meet its lead, or a step carried NT past one not offered: skipped, LATE. -/
def State.skipOcc (s : State) (r idx lap : Nat) : State :=
  let a := s.accOf r
  match a.offers.find? (fun o => o.entry == idx && o.lap == lap) with
  | some o =>
    if o.port < s.now + o.lead r then
      ((s.dropOffer r o).occDone r o Status.late.code).count (F.ACC_COUNT_SKIPPED r)
    else s
  | none =>
    let e := a.entry a.active idx
    if !entOccurs e lap || a.wasGiven idx lap then s else
    match (if entGuarded e then a.guardOf idx lap else some (0, entPre e)) with
    | none => s
    | some (g, pre) =>
      let o := s.resolveOcc r idx lap g pre
      if s.jumped o.port then s.skipPast r idx lap o else s

/-! ## Table swap (R195, R196, R205) -/

/-- An occurrence of the active table, with its guard, whose offer the pending swap held back: its offer instant has come, its port
time has not passed the swap tick, and ACC would have offered it. -/
def State.heldBack (s : State) (r idx lap g pre : Nat) : Bool :=
  let a := s.accOf r
  let e := a.entry a.active idx
  let o := s.resolveOcc r idx lap g pre
  entOccurs e lap && !a.wasGiven idx lap && decide (s.now ≤ o.port) && decide (o.port ≤ s.now + s.offerLead r) &&
    !s.noOffer r e o.buf && !s.entBad r e lap
/-- The occurrences that a table swap drops: those without a guard in the laps that LEAD reaches, and those whose guard was taken. -/
def State.heldCount (s : State) (r : Nat) : Nat :=
  let a := s.accOf r
  let laps := (List.range (s.offerLead r / (s.lapSec r * secU) + 2)).map (fun i => s.lapNum r + i)
  let plain := (List.range (tableSize r)).foldl (fun n idx =>
    let e := a.entry a.active idx
    if entGuarded e then n else n + (laps.filter (fun l => s.heldBack r idx l 0 (entPre e))).length) 0
  plain + (a.guards.filter (fun g => s.heldBack r g.1 g.2.1 g.2.2.1 g.2.2.2)).length

/-- The tables exchange roles: held-back occurrences of the old table are dropped and counted, guards and marks start
afresh. What the new table has within LEAD is offered by the OCCURRENCE_OFFER commands that follow. -/
def State.swapTable (s : State) (r : Nat) : State :=
  let a := s.accOf r
  let s1 := s.setAcc r { a with active := 1 - a.active, guards := [], given := [] }
  s1.count (F.ACC_COUNT_SKIPPED r) (s.heldCount r)

end Sys2Proof.Machine
end

