-- ==== Sys2Proof/Machine/Lanes.lean ====
section
/-!
DEFINITION. Lanes (R169 to R173), frost capture spans as they begin (R188), the frames a chain receives, cuts (R139), and
window reservations (R170); whether a DRL window has missed (R227).
-/
namespace Sys2Proof.Machine

/-! ## Lanes -/

/-- A free lane. -/
def Lane.empty : Lane := ⟨none, none⟩
/-- Lane n of a radio. -/
def State.lane (s : State) (r n : Nat) : Lane := SMap.get (fun _ => Lane.empty) s.lanes (256 * r + n)
/-- Replace a lane. -/
def State.setLane (s : State) (r n : Nat) (l : Lane) : State :=
  { s with lanes := SMap.set (fun _ => Lane.empty) s.lanes (256 * r + n) l }
/-- Lanes of a radio's pool. -/
def laneMax (r : Nat) : Nat := if r = 0 then 256 else if r = 1 then 32 else 1
/-- Lanes that take new frames: in Vigil Radio S uses lanes 0 to 31 (R169). -/
def State.laneLimit (s : State) (r : Nat) : Nat := if r = 0 ∧ s.fld F.PWR_STAT_STATE = 2 then 32 else laneMax r
/-- BUSY of DPx_STAT. -/
def State.lanesBusy (s : State) (r : Nat) : Nat :=
  ((List.range (laneMax r)).filter (fun n => (s.lane r n).frame.isSome)).length
/-- HELD of DPx_STAT. -/
def State.lanesHeld (s : State) (r : Nat) : Nat :=
  ((List.range (laneMax r)).filter (fun n => (s.lane r n).resv.isSome)).length

/-- Every frame that a radio's lanes hold, with its lane. -/
def State.framesIn (s : State) (r : Nat) : List (Nat × RxFrame) :=
  (List.range (laneMax r)).filterMap (fun n => (s.lane r n).frame.map (fun f => (n, f)))

/-- Replace a chain. -/
def State.setChain (s : State) (r k : Nat) (c : Chain) : State :=
  { s with chains := SMap.set (fun _ => Chain.reset) s.chains (4 * r + k) c }

/-- Drop the frame of a lane. -/
def State.freeLane (s : State) (r n : Nat) : State := s.setLane r n { s.lane r n with frame := none }

/-! ## Misses (R227) -/

/-- A frame still in progress might be the contact of a watched window. -/
def State.mayContact (s : State) (w : DrlWatch) : Bool :=
  (s.framesIn w.radio).any (fun (x : Nat × RxFrame) =>
    match x.2.arrival with | some a => decide (w.opens ≤ a) && decide (a < w.closes) | none => decide (x.2.detect < w.closes)) ||
  s.lnk.frames.any (fun f => f.radio == w.radio && !f.noCtx && decide (w.opens ≤ f.arrival) && decide (f.arrival < w.closes) &&
    (match f.handle with | some h => h == w.handle | none => true))

/-- A watched window that has ended, and that no frame still in progress can have as its contact, leaves the list; without a
contact it is a miss. A miss waits while the arbiter holds 32 requests of the link unit. -/
def State.settleWatch (s : State) (w : DrlWatch) : State :=
  if !w.ended || s.mayContact w then s
  else
    let s1 := s.setLnk { s.lnk with watch := s.lnk.watch.erase w }
    if w.contact then s1 else if 32 ≤ s.outstanding 24 then s else s1.driftMiss w.handle
/-- Watched windows whose contact or miss is now known leave the list. -/
def State.settleMisses (s : State) : State := s.lnk.watch.foldl State.settleWatch s

/-! ## Frost capture spans (R188, R189) -/

/-- Samples per second of a mode's capture. -/
def capRate (mode : Nat) : Nat :=
  if mode = 0x10 then 4800 else if mode = 0x40 then 4000000 else if mode = 0x50 then 4000000
  else if mode = 0x51 then 8000000 else 4 * fskRate mode

/-- Width of a mantissa. -/
def State.capWidth (s : State) : Nat :=
  match s.fld F.CAP_CFG_WIDTH with
  | 0 => 6
  | 2 => 10
  | _ => 8

/-- The trigger bit of a reason. -/
def State.capTrigger (s : State) (reason : Nat) : Bool :=
  match reason with
  | 0 => s.bit F.CAP_CFG_T_SYNC
  | 1 => s.bit F.CAP_CFG_T_HDR
  | 2 => s.bit F.CAP_CFG_T_FCS
  | _ => s.bit F.CAP_CFG_T_NO_LANE

/-- The last instant for a frame's sync: the longest ordinary preamble and the sync length after detection (R183). -/
def RxFrame.syncBy (f : RxFrame) : Nat := f.detect + preAndSync f.mode (longestPre f.mode)

/-- The instant of the first sample of a span: 16 × PRE samples before detection. -/
def State.capFirst (s : State) (f : RxFrame) : Nat := f.detect - durAt (16 * s.fld F.CAP_CFG_PRE) (capRate f.mode)
/-- MAX_BLOCKS in force for a mode. -/
def State.capMax (s : State) (r mode : Nat) : Nat :=
  let m := s.fld F.CAP_LIMIT_MAX_BLOCKS
  if m = 0 then ceilDiv (longestFrame r mode * capRate mode) (16 * secU) else m

/-- Taps recording. -/
def State.tapsUsed (s : State) : Nat := (s.cap.spans.filter (fun x => x.tap)).length
/-- Replace the frost capture. -/
def State.setCap (s : State) (c : CapState) : State := ({ s with cap := c } : State).setFld F.CAP_STAT_TAPS
  (c.spans.filter (fun x => x.tap)).length

/-- RFx_CAL_RXDLY of a chain as it applies it, in units. On Radio M, where four branches are combined, it is that of the chain that
holds the receiver, chain 0 (DESIGN CHOICE, log entry 114). -/
def State.rxDelay (s : State) (r k : Nat) : Int := sgn 32 (getBits (s.calWord (s.chain r k) (R.RF_CAL_RXDLY r k)) 31 0) * 2 ^ 16

/-- A frame that failed, found no lane or was preempted gives a span, where its trigger and radio are enabled (R188). -/
def State.capStart (s : State) (r : Nat) (lane : Option Nat) (f : RxFrame) (reason : Nat) : State :=
  let on := if r = 0 then s.bit F.CAP_CFG_RADIO_S else s.bit F.CAP_CFG_RADIO_M
  if 2 ≤ r ∨ !s.fnOn 13 0 0 ∨ !on ∨ !s.capTrigger reason then s else
  let ends := if reason = 0 then f.syncBy else if reason = 2 then f.lastBit else f.began + longestFrame r f.mode
  let last := s.capFirst f + durAt (16 * s.capMax r f.mode) (capRate f.mode)
  let tap := reason == 3 || ((reason == 1 || reason == 4) && decide (s.now < min ends last))
  if tap ∧ 8 ≤ s.tapsUsed then s.count F.CAP_COUNT_DROPPED
  else s.setCap { s.cap with spans := s.cap.spans ++ [⟨r, lane, tap, f, reason, min ends last, decide (last < ends)⟩] }

/-! ## Cuts (R139, R173) -/

/-- A record that begins and ends before its commit: it takes buffers for its header and len PSDU bytes and is rewound (R285). -/
def State.ghostRecord (s : State) (q len : Nat) : State :=
  match s.rqStart q 1 with
  | (s1, none) => s1
  | (s1, some id) =>
    match s1.rqReserve id (32 + len) with
    | (s2, true) => s2.rewind id false
    | (s2, false) => s2

/-- PSDU bytes of a frame that have arrived: those whose last bit has (R283, R284); on Gale in proportion. -/
def State.bytesSoFar (s : State) (f : RxFrame) : Nat :=
  match f.arrival with
  | some a =>
    if !f.hdrOk then 0
    else if 0x70 ≤ f.mode then min f.len (f.len * (s.now - a) / max 1 (f.lastBit - a))
    else
      let head := if f.mode = 0x10 then durAt 32 1200 else restAfterSync f.mode 0
      min f.len ((s.now - a - head) / (restAfterSync f.mode 1 - restAfterSync f.mode 0))
  | none => 0

/-- The record of a frame that ends before its commit, len PSDU bytes of it having arrived: one begun in a lane, one refused there,
or one that the frame begins only now in queue q. -/
def State.endRecord (s : State) (q : Nat) (rec : Option (Option Nat)) (len : Nat) : State :=
  match rec with
  | none => s.ghostRecord q len
  | some none => s
  | some (some id) =>
    match s.rqReserve id (32 + len) with
    | (s1, true) => s1.rewind id false
    | (s1, false) => s1

/-- The record that a frame had begun once its SID had arrived ends with it. -/
def State.cutRecord (s : State) (r : Nat) (f : RxFrame) : State :=
  if f.rqid.isSome || decide (6 ≤ s.bytesSoFar f) then
    s.endRecord (s.fld (F.RQ_SRC_QUEUE r)) f.rqid (min (s.bytesSoFar f) (f.len - f.fcs))
  else s

/-- Reception on a chain stops: every frame arriving there is dropped, counted RX_CUT. -/
def State.cutFrames (s : State) (r k : Nat) : State :=
  let l := (s.framesIn r).filter (fun (x : Nat × RxFrame) => x.2.chain == k)
  (l.foldl (fun (s : State) (x : Nat × RxFrame) => (s.freeLane r x.1).cutRecord r x.2) s).count (F.RF_COUNT_RX_CUT r) l.length

/-! ## Preemption and windows (R170, R171) -/

/-- The candidate lane with the lowest SNR, the highest number on a tie. -/
def State.weakest (s : State) (r : Nat) (ok : RxFrame → Bool) : Option (Nat × RxFrame) :=
  (List.range (s.laneLimit r)).foldl (fun best n =>
    let l := s.lane r n
    match l.frame with
    | some f =>
      if f.hdrOk || l.resv.isSome || !ok f then best else
      match best with
      | some (b : Nat × RxFrame) => if f.snr ≤ b.2.snr then some (n, f) else best
      | none => some (n, f)
    | none => best) none

/-- Take a lane from its frame, which meets the fate of a preempted frame (R171). -/
def State.preempt (s : State) (r n : Nat) (f : RxFrame) : State :=
  ((s.freeLane r n).count (F.DP_COUNT1_PREEMPTED r)).capStart r (some n) f 4

/-- The first lane that is free and not reserved. -/
def State.firstFree (s : State) (r : Nat) : Option Nat :=
  (List.range (s.laneLimit r)).find? (fun n => (s.lane r n).frame.isNone && (s.lane r n).resv.isNone)

/-- A window of chain k reserves a lane at its port time, by preemption if it must (R170). -/
def State.reserveLane (s : State) (r k : Nat) : State × Option Nat :=
  if r = 2 then (s, none) else
  match s.firstFree r with
  | some n => (s.setLane r n ⟨none, some k⟩, some n)
  | none =>
    match s.weakest r (fun _ => true) with
    | some (n, f) => let s1 := s.preempt r n f; (s1.setLane r n ⟨none, some k⟩, some n)
    | none => (s.count (F.DP_COUNT1_RSV_MISS r), none)

/-- The reservation of a lane ends with its window; a frame in it stays. -/
def State.unreserve (s : State) (r : Nat) (lane : Option Nat) : State :=
  match lane with
  | some n => s.setLane r n { s.lane r n with resv := none }
  | none => s

/-! ## Chains -/

/-- Function RADIO is on, and PORTk where the radio has ports. -/
def State.portOn (s : State) (r k : Nat) : Bool := s.fnOn (7 + r) 0 0 && (r == 2 || s.fnOn (7 + r) 0 (k + 1))

/-- The synthesiser serves a frequency as it stands (R141): within 3.8 MHz for a transmission on S; on M only transmissions
use it; on H channel and width must agree. -/
def Chain.stands (c : Chain) (r : Nat) (tx : Bool) (chan width : Nat) : Bool :=
  if r = 0 then (if tx then decide (((chanHz 0 chan : Int) - chanHz 0 c.chan).natAbs ≤ 3800000) && c.chan != 0 else chan == c.chan)
  else if r = 1 then !tx || chan == c.chan
  else chan == c.chan && width == c.width && c.chan != 0

/-- What a chain receives now: its channel and MODE, in a window or under a LISTEN (R143, Table 06-4). On Radios M and H a
calibration step blanks only its own port of a receiver that takes in all four (R136, R147). -/
def State.receiving (s : State) (r k : Nat) : Option (Nat × Nat) :=
  let c := s.chain r k
  let settled := r == 1 || (c.locked && !c.moving && decide (c.lockAt + 30 * usU ≤ s.now))
  let listening := match c.listen with
    | some l => if l.suspended || !settled || !c.stands r false l.cmd.chan (galeWidth l.cmd.mode) then none
        else some (l.cmd.chan, l.cmd.mode)
    | none => none
  match c.act with
  | some a => if a.kind = .win then some (a.cmd.chan, a.cmd.mode)
      else if (r = 1 ∧ (a.kind = .tx ∨ a.kind = .tune)) ∨ (r ≠ 0 ∧ a.kind = .cal) then listening else none
  | none => listening

end Sys2Proof.Machine
end

