-- ==== Sys2Proof/Machine/Radio.lean ====
section
/-!
DEFINITION. The chains of the radios (ch. 06, R127 to R134): completion, synthesiser moves, the decision instants, actions at
the port, LISTEN in force, front-end sequences, calibration steps, calibration sets, ABORT and stops.
-/
namespace Sys2Proof.Machine

/-! ## Frames as sent (R174, R207) -/

/-- The modem configuration that a transmission begins with. -/
def State.modem (s : State) (r : Nat) (c : QCmd) : Modem :=
  ⟨sendPreamble c.mode s.drzPre s.fskPre (if r = 0 then c.pre else none), s.fld (F.DP_SYNC_SYNC r), s.bit (F.DP_MODEM_SUN_SFD 0),
   s.bit (F.DP_MODEM_SUN_DW 0)⟩
/-- PSDU of flurry frame i of n (Table 08-3). -/
def flurryPsdu (mode tag n i : Nat) : List Byte :=
  let b := leBytes 1 0xC3 ++ leBytes 2 tag ++ leBytes 3 ((n - 1 - i) * flurryPeriod mode + 16)
  b ++ leBytes 2 (crc16Fcs b)

/-! ## Commands -/

/-- The command transmits. -/
def QCmd.isTx (c : QCmd) : Bool := c.op == 1
/-- Width index that a command asks of the synthesiser. -/
def QCmd.width (c : QCmd) : Nat := galeWidth c.mode
/-- Airtime of a transmission, its flurry included (R206 to R208). -/
def State.cmdAir (s : State) (r : Nat) (c : QCmd) : Nat :=
  let a := airtime c.mode c.len (sendPreamble c.mode s.drzPre s.fskPre (if r = 0 then c.pre else none))
  if r = 1 then c.pre.getD 0 * flurryPeriod c.mode * usU + a else a
/-- The sub-bands a transmission belongs to. -/
def State.cmdSubs (s : State) (r : Nat) (c : QCmd) : List Nat :=
  let b := bandOf r c.mode c.chan
  s.subsOf b.1 b.2
/-- The transmission listens before it talks (R163). -/
def State.cmdLbt (s : State) (r : Nat) (c : QCmd) : Bool := s.needsLbt c.lbt (s.cmdSubs r c)
/-- Listen time in units, 0 without listen-before-talk. -/
def State.cmdListen (s : State) (r : Nat) (c : QCmd) : Nat :=
  if s.cmdLbt r c then s.listenUs (s.cmdSubs r c) * usU else 0
/-- The instant at which a command that needs a channel change starts its move (R142). -/
def State.moveInstant (s : State) (r : Nat) (c : QCmd) : Nat :=
  if c.op = 4 then c.port
  else if c.isTx ∧ s.cmdLbt r c then c.port - (124 * usU + s.cmdListen r c) else c.port - 100 * usU
/-- Commands that use the chain's synthesiser through Table 06-5 or R142: TX, RX, LISTEN, CCA. -/
def QCmd.needsSynth (c : QCmd) : Bool := c.op == 1 || c.op == 2 || c.op == 3 || c.op == 7
/-- A command needs a channel change as the synthesiser stands (R141). -/
def Chain.needsMove (c : Chain) (r : Nat) (q : QCmd) : Bool := q.needsSynth && !c.stands r q.isTx q.chan q.width

/-! ## Completion (R124) -/

/-- Write a command's record: STATUS, PORT_NT and PORT_FRAC, DONE last. Byte 1 keeps its other bits as the engine left them
(DESIGN CHOICE, log entry 104: the rule says that the byte is overwritten, not with which FLAGS). -/
def State.writeRecord (s : State) (r a st t : Nat) : State :=
  let x := s.engine r
  let x1 := ((x.wr (a + 3) 1 st).wr (a + 8) 8 (packNt t)).wr (a + 16) 2 (ntFrac t)
  s.setEngine r (x1.wr (a + 1) 1 (x1.rd (a + 1) 1 ||| 0x80))

/-- An opportunity of an acknowledgement was not sent: the second follows, or none is left (R221). -/
def State.ackFailed (s : State) (id : Nat) : State :=
  match s.lnk.acks.find? (fun j => j.id == id) with
  | none => s
  | some j =>
    if j.opp = 1 ∧ s.fld F.LNK_CFG_ACK2 ≠ 0 then
      s.setLnk { s.lnk with acks := s.lnk.acks.map (fun x => if x.id == id then { x with opp := 2 } else x) }
    else (s.setLnk { s.lnk with acks := s.lnk.acks.filter (fun x => x.id != id) }).count F.LNK_COUNT1_ACK_MISSED

/-- An opportunity was sent. -/
def State.ackSent (s : State) (id : Nat) : State :=
  match s.lnk.acks.find? (fun j => j.id == id) with
  | none => s
  | some j =>
    (s.setLnk { s.lnk with acks := s.lnk.acks.filter (fun x => x.id != id) }).count
      (if j.opp = 1 then F.LNK_COUNT1_ACK_FIRST else F.LNK_COUNT1_ACK_SECOND)

/-- When a suspended LISTEN may resume (R140): nothing in progress, no queued command within 200 µs after that instant; the
chain moves back if it must. -/
def State.afterAction (s : State) (r k : Nat) : State :=
  let c := s.chain r k
  match c.listen, c.act with
  | some l, none =>
    if !l.suspended || c.queue.any (fun q => q.path) then s else
    let back := !c.stands r false l.cmd.chan l.cmd.width
    let gap := if back then 100 else if c.lastTx then 16 else 0
    let at_ := max s.now (max l.resumeAt (c.lastEnd.getD 0 + gap * usU))
    if c.queue.any (fun q => decide (q.port ≤ at_ + 200 * usU)) then s
    else if back && !c.moving then
      s.setChain r k { c with listen := some { l with resumeAt := at_ }, moving := true, locked := false,
                              chan := l.cmd.chan, width := l.cmd.width }
    else s.setChain r k { c with listen := some { l with resumeAt := at_ } }
  | _, _ => s

/-- A command completes with a code, having begun, or been decided, at t: record, line, refusal line, slot entry,
acknowledgement; a LISTEN that it held suspended may resume. -/
def State.endCmd (s : State) (r k : Nat) (c : QCmd) (st : Status) (t : Nat) : State :=
  let s1 := match c.recAt with
    | some a => let s0 := s.writeRecord r a st.code t; if c.evt then s0.pulseFree c.doneEv else s0
    | none => s
  let s2 := if st = Status.refusedRegulatory then s1.pulse (27 + r) else s1
  let s3 := match c.slot with | some o => s2.occDone r o st.code | none => s2
  let s4 := match c.ack with | some id => if st = Status.ok then s3.ackSent id else s3.ackFailed id | none => s3
  s4.afterAction r k

/-- A queued command leaves the queue and completes without having begun; its reservation is released (R146). -/
def State.failCmd (s : State) (r k : Nat) (c : QCmd) (st : Status) : State :=
  let h := s.chain r k
  let s1 := s.setChain r k { h with queue := h.queue.erase c }
  let s2 := match c.resv with | some id => s1.releaseDuty id | none => s1
  s2.endCmd r k c st s.now

/-- Replace a queued command. -/
def State.setCmd (s : State) (r k : Nat) (old new : QCmd) : State :=
  let h := s.chain r k
  s.setChain r k { h with queue := h.queue.map (fun q => if q = old then new else q) }

/-! ## LISTEN in force (R139) -/

/-- Suspend a LISTEN; a frame arriving is cut. On Radio M a transmission leaves the combined receiver running (R136). -/
def State.suspendListen (s : State) (r k : Nat) : State :=
  let c := s.chain r k
  match c.listen with
  | some l => if l.suspended then s else
      (s.setChain r k { c with listen := some { l with suspended := true, resumeAt := 0 }, rxEnd := some s.now }).cutFrames r k
  | none => s

/-- End a LISTEN with a code; frames arriving under it are cut unless the chain keeps receiving its channel. -/
def State.endListen (s : State) (r k : Nat) (st : Status) (keep : Bool) : State :=
  let c := s.chain r k
  match c.listen with
  | some l =>
    let s1 := s.setChain r k { c with listen := none, rxEnd := if l.suspended then c.rxEnd else some s.now }
    let s2 := if keep && !l.suspended then s1 else s1.cutFrames r k
    s2.endCmd r k l.cmd st l.cmd.port
  | none => s

/-! ## Calibration steps (R147, R148) -/

/-- Duration of a step kind in µs on a radio, none for a kind not listed (Table 06-7). -/
def calUs (r kind : Nat) : Option Nat :=
  match kind with
  | 1 => some ([40, 30, 20].getD r 0) | 2 => some ([120, 90, 60].getD r 0) | 3 => some ([80, 60, 40].getD r 0)
  | 4 => some ([120, 90, 60].getD r 0) | 5 => some ([200, 150, 100].getD r 0) | 6 => some ([60, 60, 60].getD r 0)
  | 7 => some ([50, 40, 30].getD r 0) | _ => none
/-- A transmit step: 0x03 to 0x06. -/
def calTx (kind : Nat) : Bool := 3 ≤ kind && kind ≤ 6

/-- A running step yields: its trim is restored, it completes ABORTED, YIELDS counts one; the turn-round from it is 0. -/
def State.yieldCal (s : State) (r k : Nat) : State :=
  let c := s.chain r k
  match c.act with
  | some a =>
    if a.kind = .cal then
      ((s.setChain r k { c with act := none, trims := SMap.set (fun _ => 0) c.trims a.cmd.arg a.saved,
                                lastEnd := none, lastTx := false, lastWin := false }).count
        (F.RF_COUNT_YIELDS r)).endCmd r k a.cmd .aborted a.cmd.port
    else s
  | none => s

/-! ## Synthesisers (R141 to R144) -/

/-- A chain is free to start a move: no TX, RX window, CCA or TUNE in progress, and none in its transmit path. -/
def Chain.free (c : Chain) : Bool :=
  (match c.act with | some a => a.kind == .cal | none => true) && !c.queue.any (fun q => q.path)

/-! ## Branches of Radio M (R167) -/

/-- One symbol, bit or chip of a mode, in units (R168). -/
def symbolTime (mode : Nat) : Nat :=
  if mode = 0x10 then durAt 1 1200 else if mode < 0x40 then durAt 1 (fskRate mode) else if mode = 0x40 then durAt 1 2000000
  else if mode = 0x50 then durAt 1 1000000 else if mode = 0x51 then durAt 1 2000000 else tenthUs 72

/-- The NT from which a branch of a radio's combined receiver has been receiving, or none while a transmission, its path or a
calibration step on its port stops it. -/
def State.branchFrom (s : State) (r k : Nat) : Option Nat :=
  let c := s.chain r k
  let stopped := !s.portOn r k || c.queue.any (fun q => q.path) ||
    (match c.act with | some a => a.kind == .tx || a.kind == .cal | none => false)
  if stopped then none
  else match c.lastEnd with
    | some e => some (if c.lastTx then e + 16 * usU else if c.lastWin then 0 else e)
    | none => some 0

/-- A branch contributes to a frame by an instant: it received as the frame began, or has come back by a symbol boundary of it. -/
def State.branchIn (s : State) (r k : Nat) (f : RxFrame) (t : Nat) : Bool :=
  match s.branchFrom r k with
  | none => false
  | some u =>
    let d := symbolTime f.mode
    decide (u ≤ f.began) || decide (f.began + (u - f.began + d - 1) / d * d ≤ t)

/-- The branches that have contributed to a frame by now. -/
def State.branchMask (s : State) (r : Nat) (f : RxFrame) (t : Nat) : Nat :=
  (List.range 4).foldl (fun m k => if f.parts.testBit k || s.branchIn r k f t then m + 2 ^ k else m) 0
/-- A branch is about to stop: what has contributed to each frame of the radio is kept. -/
def State.keepBranches (s : State) (r : Nat) : State :=
  if r = 0 then s else (s.framesIn r).foldl (fun (s : State) (x : Nat × RxFrame) =>
    s.setLane r x.1 { s.lane r x.1 with frame := some { x.2 with parts := s.branchMask r x.2 s.now } }) s

/-- A frame found in an RX window of the chain still arrives (R138). -/
def State.windowFrame (s : State) (r k : Nat) : Bool :=
  (s.framesIn r).any (fun (x : Nat × RxFrame) => x.2.chain == k && x.2.inWin)

/-- Start the synthesiser toward a channel. -/
def State.startMove (s : State) (r k chan width : Nat) : State :=
  s.setChain r k { s.chain r k with moving := true, locked := false, chan := chan, width := width }

/-- The move of a queued command at its instant: LATE where the chain is not free (a LISTEN waits), else it starts. -/
def State.moveCmd (s : State) (r k : Nat) (c : QCmd) : State :=
  let h := s.chain r k
  if !h.free || (s.windowFrame r k && c.op != 3) then (if c.op = 3 then s else s.failCmd r k c .late)
  else
    let s1 := (s.setCmd r k c { c with moved := true }).yieldCal r k
    let s2 := if r = 1 then s1 else s1.suspendListen r k
    s2.startMove r k c.chan c.width

/-- A queued command whose move is due. -/
def State.moveDue (s : State) (r k : Nat) : Option QCmd :=
  let h := s.chain r k
  h.queue.find? (fun q => !q.moved && h.needsMove r q && decide (s.moveInstant r q ≤ s.now))

/-- SYNTH_MOVE_START: the first due move of the queue, or that of a LISTEN in force on the first tick on which its chain is
free. -/
def State.synthMove (s : State) (r k : Nat) : State :=
  match s.moveDue r k with
  | some q => s.moveCmd r k q
  | none =>
    let h := s.chain r k
    match h.listen with
    | some l =>
      if !l.suspended && h.free && !h.moving && !h.stands r false l.cmd.chan l.cmd.width then
        (s.yieldCal r k).startMove r k l.cmd.chan l.cmd.width
      else s
    | none => s

/-- A synthesiser reports lock: LOCKED, its line, the end of a TUNE. No row of Table 06-4 counts from a TUNE's end; a LISTEN that
must move back from its channel resumes 100 µs after it. -/
def State.synthLock (s : State) (r k : Nat) : State :=
  let h := s.chain r k
  if !h.moving then s else
  let s1 := (s.setChain r k { h with moving := false, locked := true, lockAt := s.now }).pulse (24 + r)
  match h.act with
  | some a =>
    if a.kind = .tune then
      let l' := h.listen.map (fun l => if h.stands r false l.cmd.chan l.cmd.width then l else
        { l with resumeAt := max l.resumeAt (s.now + 100 * usU) })
      (s1.setChain r k { s1.chain r k with act := none, listen := l' }).endCmd r k a.cmd .ok a.cmd.port
    else s1
  | none => s1.afterAction r k

/-! ## Turn-rounds (R138) -/

/-- The end at the port that a turn-round counts from, with whether it is a transmission's, and whether an RX window's or a
CCA's: the end of the action in progress where it is known, else of the last action. -/
def Chain.turnFrom (h : Chain) : Option Nat × Bool × Bool :=
  match h.act with
  | some a => (match a.kind with
      | .tx => (some a.ends, true, false)
      | .win | .cca => (some a.ends, false, true)
      | .tune => (h.lastEnd, h.lastTx, h.lastWin)
      | .cal => (none, false, false))
  | none => (h.lastEnd, h.lastTx, h.lastWin)

/-- What an action, a frame found in a window, or a LISTEN's reception before one on a new channel, leaves before a port time;
false where it falls short. An acknowledgement is placed by the module at its exact interval. -/
def State.turnOk (s : State) (r k : Nat) (c : QCmd) : Bool :=
  let h := s.chain r k
  let f := h.turnFrom
  let change := c.moved || h.needsMove r c
  let gap := if change then 100
    else if c.isTx then (if f.2.1 then 16 else if f.2.2 then 24 else 0)
    else (if f.2.1 then 16 else 0)
  let own := match f.1 with | some e => decide (e + gap * usU ≤ c.port) | none => true
  let wgap := if change then 100 else if c.isTx then 24 else 0
  let after (e : Option Nat) (us : Nat) : Bool := match e with | some t => decide (t + us * usU ≤ c.port) | none => true
  if c.ack.isSome then !f.2.1 || own else
  own && (c.op == 1 || c.op == 3 || !change || after h.rxEnd 100) && (wgap = 0 || after h.winEnd wgap &&
    (s.framesIn r).all (fun (x : Nat × RxFrame) =>
      !(x.2.chain == k && x.2.inWin && x.2.hdrOk) || decide (x.2.lastBit + wgap * usU ≤ c.port)))

/-- A frame found in a window has not ended at the port time of a command that must keep a turn-round from it. -/
def State.windowBlocks (s : State) (r k : Nat) (c : QCmd) : Bool :=
  s.windowFrame r k && (c.isTx || c.moved || (s.chain r k).needsMove r c)

/-! ## The checks at P − 50 µs (R145, R146, R155 to R161) -/

/-- The entry of RFx_PA_NEED that covers a power on a port: none needed, not covered, or a regulator and level. -/
inductive PaNeed where
  | none
  | uncovered
  | need (reg level : Nat)
  deriving DecidableEq, Repr

/-- The PA supply a transmission needs (R155). -/
def State.paNeed (s : State) (r k : Nat) (power : Int) : PaNeed :=
  let valid := (List.range 4).filter (fun j => s.bit (F.RF_PA_NEED_VALID r k j))
  match valid.find? (fun j => decide (power ≤ sgn 8 (s.fld (F.RF_PA_NEED_POWER_MAX r k j)))) with
  | some j => .need (s.fld (F.RF_PA_NEED_REGULATOR r k j)) (s.fld (F.RF_PA_NEED_LEVEL r k j))
  | none => if valid.isEmpty then .none else .uncovered

/-- The PA supply rule holds (R155, R156). -/
def State.paOk (s : State) (n : PaNeed) : Bool :=
  match n with
  | .none => true
  | .uncovered => false
  | .need g l => decide (l ≤ s.fld (F.SUP_ACK_LEVEL g)) && !s.sup.any (fun q => q.radio.isSome && q.dev == g)

/-- Level used in CAL_FEMG: the acknowledged level of the needed regulator, or 0 (R158). -/
def State.paLevel (s : State) (n : PaNeed) : Nat :=
  match n with
  | .need g _ => s.fld (F.SUP_ACK_LEVEL g)
  | _ => 0

/-- Another port of the band is transmitting at P on Radio S. -/
def State.bandBusy (s : State) (r k p : Nat) : Bool :=
  if r ≠ 0 then false else
  let h := s.chain 0 (if k % 2 = 0 then k + 1 else k - 1)
  (match h.act with | some a => a.kind == .tx && decide (p < a.ends) | none => false) ||
  h.queue.any (fun q => q.isTx && q.regOk && decide (q.port ≤ p) && decide (p < q.port + s.cmdAir 0 q))

/-- The synthesiser serves a command and had locked 30 µs before its port time. -/
def State.lockReady (s : State) (r k : Nat) (c : QCmd) : Bool :=
  let h := s.chain r k
  (r == 1 && !c.isTx) || (h.locked && !h.moving && h.stands r c.isTx c.chan c.width && decide (h.lockAt + 30 * usU ≤ c.port))

/-- The regulator a need names. -/
def needReg (n : PaNeed) : Option Nat :=
  match n with
  | .need g _ => some g
  | _ => none

/-- The checks of a TX at P − 50 µs; a pass reserves its airtime and holds its regulator. Where P − 30 µs has come as well the
lock check fails at the same instant, and its LATE comes before the codes that follow (R145). A transmission of Radio H, on all
four ports, uses the figures of port 0 (DESIGN CHOICE, log entry 105). -/
def State.txCheck (s : State) (r k : Nat) (c : QCmd) : State :=
  let h := s.chain r k
  let p := sgn 8 c.power
  let need := s.paNeed r k p
  let subs := s.cmdSubs r c
  let air := s.cmdAir r c
  if !s.turnOk r k c then s.failCmd r k c .late
  else if !s.paOk need then (s.count (F.RF_COUNT_PA_LATE r)).failCmd r k c .late
  else if decide (c.port ≤ s.now + 30 * usU) && !s.lockReady r k c then (s.count (F.RF_COUNT_LOCK_LATE r)).failCmd r k c .late
  else match s.regCheck subs r (s.eirp h r k (s.paLevel need) p) air c.port with
    | .limit => (s.count F.REG_REFUSALS_LIMIT).failCmd r k c .refusedRegulatory
    | .duty => (s.count F.REG_REFUSALS_DUTY).failCmd r k c .refusedRegulatory
    | .allowed =>
      if s.bandBusy r k c.port then s.failCmd r k c .busy
      else
        let b := bandOf r c.mode c.chan
        let (s1, id) := s.reserveDuty c.port air (subMask subs) b
        s1.setCmd r k c { c with regOk := true, resv := some id, paReg := needReg need }

/-- The transmission whose check at P − 50 µs is due on a chain. -/
def State.checkDue (s : State) (r k : Nat) : Option QCmd :=
  (s.chain r k).queue.find? (fun q => q.isTx && !q.regOk && decide (q.port ≤ s.now + 50 * usU))

/-! ## The check at P − 30 µs (R143) -/

/-- The lock check of a TX, RX or CCA. -/
def State.lockCheck (s : State) (r k : Nat) (c : QCmd) : State :=
  if s.lockReady r k c then s.setCmd r k c { c with lockOk := true }
  else (s.count (F.RF_COUNT_LOCK_LATE r)).failCmd r k c .late

/-- The command whose lock check is due on a chain. -/
def State.lockDue (s : State) (r k : Nat) : Option QCmd :=
  (s.chain r k).queue.find? (fun q => q.needsSynth && q.op != 3 && !q.lockOk && decide (q.port ≤ s.now + 30 * usU))

/-! ## Listen-before-talk at P − 24 µs (R163) -/

/-- The decision on the highest 8 µs window of the listen, in 0.25 dBm at the port. -/
def State.lbtDecide (s : State) (r k : Nat) (peak : Int) : State :=
  let h := s.chain r k
  match h.queue.find? (fun q => q.isTx && !q.lbtOk && s.cmdLbt r q && decide (q.port ≤ s.now + 24 * usU)) with
  | none => s
  | some q =>
    if s.portThresh h r k (s.cmdSubs r q) < peak then (s.count F.REG_REFUSALS_LBT).failCmd r k q .refusedRegulatory
    else s.setCmd r k q { q with lbtOk := true }

/-! ## Front-end sequences (R152, R153) -/

/-- The front-end bus of a radio. -/
def State.femOf (s : State) (r : Nat) : FemState := SMap.get (fun _ => ⟨[], []⟩) s.fem r
/-- Replace it. -/
def State.setFem (s : State) (r : Nat) (f : FemState) : State := { s with fem := SMap.set (fun _ => ⟨[], []⟩) s.fem r f }
/-- Time of an entry on the bus in tenths of a µs; 0 for an end. -/
def State.femTime (s : State) (r q e : Nat) : Nat :=
  let fast := s.bit (F.RF_FEM_CFG_FAST r)
  match s.fld (F.RF_FEM_SEQ_KIND r q e) with
  | 1 => if fast then 10 else 20
  | 2 => if fast then 15 else 30
  | 3 => max 1 (s.fld (F.RF_FEM_SEQ_WAIT r q e))
  | _ => 0
/-- The entries of a sequence that run: up to an end, at most eight. -/
def State.femEntries (s : State) (r q : Nat) : List Nat :=
  (List.range 8).takeWhile (fun e => s.fld (F.RF_FEM_SEQ_KIND r q e) != 0)
/-- An entry as it stands. -/
def State.femStep (s : State) (r q e : Nat) : FemStep :=
  ⟨tenthUs (s.femTime r q e), if s.fld (F.RF_FEM_SEQ_KIND r q e) = 3 then none else
    some (256 * s.fld (F.RF_FEM_SEQ_USID r q e) + s.fld (F.RF_FEM_SEQ_ADDR r q e), BitVec.ofNat 8 (s.fld (F.RF_FEM_SEQ_DATA r q e)))⟩
/-- A sequence as it stands. -/
def State.femSteps (s : State) (r q : Nat) : List FemStep := (s.femEntries r q).map (s.femStep r q)
/-- Duration of a sequence in units. -/
def stepsTime (l : List FemStep) : Nat := l.foldl (fun n x => n + x.time) 0
/-- The register writes of a sequence that end within a time from its start, t of it gone. -/
def stepsWrite (limit : Nat) : SMap Byte → Nat → List FemStep → SMap Byte
  | m, _, [] => m
  | m, t, x :: xs =>
    if limit < t + x.time then m
    else stepsWrite limit (match x.write with | some w => SMap.set (fun _ => 0) m w.1 w.2 | none => m) (t + x.time) xs

/-- The sequence number of an automatic kind on a port. -/
def State.femAuto (s : State) (r port kind : Nat) : Nat :=
  match kind with
  | 0 => s.fld (F.RF_FEM_AUTO_TX_ON r port) | 1 => s.fld (F.RF_FEM_AUTO_TX_OFF r port)
  | 2 => s.fld (F.RF_FEM_AUTO_RX_ON r port) | _ => s.fld (F.RF_FEM_AUTO_CAL_ENTRY r port)
/-- The sequence of an automatic kind on a port as it stands; numbers of 32 and up mean none. -/
def State.autoSeq (s : State) (r port kind : Nat) : Option (Nat × List FemStep) :=
  let q := s.femAuto r port kind
  if 32 ≤ q then none else some (q, s.femSteps r q)
/-- Time of a sequence on the bus, 0 for none. -/
def seqTime (q : Option (Nat × List FemStep)) : Nat := match q with | some x => stepsTime x.2 | none => 0

/-- Place an automatic sequence on the bus over a span. -/
def State.planFem (s : State) (r port kind : Nat) (q : Option (Nat × List FemStep)) (start ends : Nat) : State :=
  match q with
  | none => s
  | some x => s.setFem r { s.femOf r with runs := (s.femOf r).runs ++ [⟨x.1, x.2, port, some kind, start, ends, false, none⟩] }

/-- The span (start, end) and overrun of TX_ON before a port time (R153). -/
def State.txOnSpan (s : State) (r port p : Nat) : Nat × Nat × Bool :=
  let e := p - tenthUs (s.fld (F.RF_FEM_CFG_LEAD r))
  let d := seqTime (s.autoSeq r port 0)
  let lo := p - pathTime r
  (max lo (e - d), e, decide (e < lo + d))

/-- Plan TX_ON as the transmit path begins; a cut one sets FEM_OVERRUN. -/
def State.planTxOn (s : State) (r k p : Nat) : State :=
  match s.autoSeq r k 0 with
  | none => s
  | some x =>
    let (a, b, late) := s.txOnSpan r k p
    let s1 := s.planFem r k 0 (some x) a b
    if late then s1.setFld (F.RF_STAT_FEM_OVERRUN r) 1 else s1

/-- What follows a transmission, or a transmit calibration step, that begins now on a port (R153). -/
def State.femAfter (s : State) (r k : Nat) (tx : Bool) : FemAfter :=
  if tx then ⟨tenthUs (s.fld (F.RF_FEM_CFG_TAIL r)), s.autoSeq r k 1, s.autoSeq r k 2⟩ else ⟨0, none, s.autoSeq r k 2⟩
/-- Keep what follows the action that begins now, so that it ends under the configuration it began with (R33). -/
def State.keepAfter (s : State) (r k : Nat) (p : Option FemAfter) : State := s.setChain r k { s.chain r k with after := p }
/-- Spans on the bus of what follows an action that ends at t: TX_OFF, and RX_ON right after it. -/
def FemAfter.spans (p : FemAfter) (t : Nat) : List (Nat × Nat) :=
  let a := t + p.tail
  let e := a + seqTime p.off
  [(a, e), (e, e + seqTime p.on)]
/-- Plan TX_OFF FEM_TAIL after the end of an action and RX_ON right after it. -/
def State.planAfter (s : State) (r k t : Nat) : State :=
  match (s.chain r k).after with
  | none => s
  | some p =>
    let a := t + p.tail
    let e := a + seqTime p.off
    (((s.keepAfter r k none).planFem r k 1 p.off a e).planFem r k 2 p.on e (e + seqTime p.on))

/-- FEM_AUTO_SEQUENCE: a planned sequence starts at its fixed time. -/
def State.femStart (s : State) (r port kind : Nat) : State :=
  let f := s.femOf r
  match f.runs.find? (fun x => !x.begun && x.port == port && x.auto == some kind && decide (x.start ≤ s.now)) with
  | some x => s.setFem r { f with runs := f.runs.map (fun y => if y = x then { y with begun := true } else y) }
  | none => s

/-- FEM_SEQUENCE_END: the oldest started sequence that is due ends; its writes stand, and an ANT completes. -/
def State.femEnd (s : State) (r : Nat) : State :=
  let f := s.femOf r
  match f.runs.find? (fun x => x.begun && decide (x.ends ≤ s.now)) with
  | none => s
  | some x =>
    let m := stepsWrite (x.ends - x.start) f.regs 0 x.steps
    let s1 := s.setFem r { runs := f.runs.erase x, regs := m }
    match x.cmd with
    | some c => s1.endCmd r 0 c .ok c.port
    | none => s1

/-- What a queued command will put on the bus by itself: TX_ON before a transmission with TX_OFF and RX_ON after it; CAL_ENTRY
before a transmit calibration step with RX_ON after it. -/
def State.queuedSpans (s : State) (r k : Nat) (q : QCmd) : List (Nat × Nat) :=
  if q.isTx then
    let (a, b, _) := s.txOnSpan r k q.port
    let p := if q.path then (s.chain r k).after.getD (s.femAfter r k true) else s.femAfter r k true
    (if q.path || (s.autoSeq r k 0).isNone then [] else [(a, b)]) ++ p.spans (q.port + s.cmdAir r q)
  else if q.op = 5 ∧ calTx q.arg then
    (q.port, q.port + seqTime (s.autoSeq r k 3)) :: (s.femAfter r k false).spans (q.port + (calUs r q.arg).getD 0 * usU)
  else []

/-- What the action in progress of a chain will put on the bus after it. -/
def Chain.afterSpans (c : Chain) : List (Nat × Nat) :=
  match c.act, c.after with
  | some a, some p => if a.kind = .tx ∨ a.kind = .cal then p.spans a.ends else []
  | _, _ => []

/-- Sequences on the bus of a radio, or that its chains will put there, as (start, end). -/
def State.femPlanned (s : State) (r : Nat) : List (Nat × Nat) :=
  (s.femOf r).runs.map (fun x => (x.start, x.ends)) ++
  (List.range 4).flatMap (fun k => (s.chain r k).afterSpans ++ (s.chain r k).queue.flatMap (s.queuedSpans r k))

/-- ANT at its port time (R154). One that another ANT's run overlaps completes LATE like one that an automatic sequence overlaps
(DESIGN CHOICE, log entry 106). -/
def State.beginAnt (s : State) (r k : Nat) (c : QCmd) : State :=
  let h := s.chain r k
  let s1 := s.setChain r k { h with queue := h.queue.erase c }
  if 31 < c.arg then (s1.setFld (F.RF_STAT_BAD_ARG r) 1).endCmd r k c .ok c.port
  else
    let steps := s.femSteps r c.arg
    let e := c.port + stepsTime steps
    if (s.femPlanned r).any (fun (x : Nat × Nat) => decide (x.1 < e) && decide (c.port < x.2)) then s1.endCmd r k c .late s.now
    else s1.setFem r { s1.femOf r with runs := (s1.femOf r).runs ++ [⟨c.arg, steps, k, none, c.port, e, true, some c⟩] }

end Sys2Proof.Machine
end

