-- ==== Sys2Proof/Machine/RadioActs.lean ====
section
/-!
DEFINITION. Actions of the radios: what begins at the port and how it ends (R127, Table 05-5), resuming a LISTEN (R140), ABORT
(R129), stops (R134), calibration sets (R150), and handing a command to a chain (R124 to R126).
-/
namespace Sys2Proof.Machine

/-! ## Search entries (R166) -/

/-- A search entry's centre in Hz when it is valid, for a capture centre. -/
def State.entryCentre (s : State) (r k i : Nat) (cap : Nat) : Option Nat :=
  let mode := s.fld (F.DP_SEARCH_MODE r k i)
  let off := s.fld (F.DP_SEARCH_OFFSET r k i)
  if !s.bit (F.DP_SEARCH_VALID r k i) then none
  else if r = 0 then
    match modeInfo 0 mode with
    | some m =>
      let o : Int := sgn 16 off * 12500
      if o.natAbs + m.bw / 2 + searchSpan mode ≤ 4000000 then some ((cap : Int) + o).toNat else none
    | none => none
  else if mode = 0x50 ∨ mode = 0x51 then
    let half := (modeInfo 1 mode).elim 0 (fun m => m.bw / 2)
    let f := chanHz 1 off
    if 2 ≤ off ∧ off ≤ 82 ∧ 2400000000 + half ≤ f ∧ f + half ≤ 2483500000 then some f else none
  else none

/-- As a port begins to receive, an entry with VALID 1 that is not valid sets BAD_ENTRY. -/
def State.checkEntries (s : State) (r k : Nat) (cap : Nat) : State :=
  if r = 2 then s else
  let n := if r = 0 then 64 else 16
  if (List.range n).any (fun i => s.bit (F.DP_SEARCH_VALID r k i) && (s.entryCentre r k i cap).isNone) then
    s.setFld (F.DP_STAT_BAD_ENTRY r) 1 else s

/-! ## Actions -/

/-- Put an action in progress and take its command out of the queue. -/
def State.setAct (s : State) (r k : Nat) (q : QCmd) (a : Act) : State :=
  let h := s.chain r k
  s.setChain r k { h with queue := h.queue.erase q, act := some a }

/-- The action of a chain is over at t: what the turn-rounds count from. -/
def State.clearAct (s : State) (r k t : Nat) (tx win : Bool) : State :=
  s.setChain r k { s.chain r k with act := none, lastEnd := some t, lastTx := tx, lastWin := win }

/-- Some TX, RX window, CCA or TUNE occupies the chain (Table 05-6). -/
def Chain.occupied (c : Chain) : Bool := match c.act with | some a => a.kind != .cal | none => false

/-- TRANSMIT_PATH_BEGIN for a command: LISTEN suspended, frames cut, TX_ON planned, what follows kept. -/
def State.pathBegin (s : State) (r k : Nat) (q : QCmd) : State :=
  let s1 := ((s.keepBranches r).yieldCal r k).setCmd r k q { q with path := true }
  let s2 := if r = 1 then s1 else s1.suspendListen r k
  (s2.keepAfter r k (some (s2.femAfter r k true))).planTxOn r k q.port

/-- An acknowledgement waits for the commit of its frame record (R221). -/
def State.ackHeld (s : State) (q : QCmd) : Bool :=
  match q.ack with
  | some id => s.lnk.acks.any (fun j => j.id == id && j.frame.isSome)
  | none => false

/-- The instant from which a command disturbs the port: its move, its listen, or its port time (R142, R148, R163). -/
def State.claims (s : State) (r : Nat) (c : Chain) (q : QCmd) : Nat :=
  let m := if c.needsMove r q then min q.port (s.moveInstant r q) else q.port
  if q.isTx ∧ s.cmdLbt r q then min m (q.port - (24 * usU + s.cmdListen r q)) else m
/-- How long the action of a queued command keeps its chain: airtime, window, calibration step, front-end sequence, or the longest
move to lock (R142). -/
def State.actionTime (s : State) (r : Nat) (q : QCmd) : Nat :=
  match q.op with
  | 1 => s.cmdAir r q
  | 2 | 7 => q.window * usU
  | 4 => [70, 45, 35].getD r 0 * usU
  | 5 => (calUs r q.arg).getD 0 * usU
  | 6 => stepsTime (s.femSteps r q.arg)
  | _ => 0
/-- The action in progress of a chain leaves no room for a transmit path that begins at b: one whose end is known must be over,
and a TUNE must have had the time to lock. -/
def Act.covers (a : Act) (r b : Nat) : Bool :=
  match a.kind with
  | .cal => false
  | .tune => decide (b < a.cmd.port + [70, 45, 35].getD r 0 * usU)
  | _ => decide (b < a.ends)
/-- A command of the target chain, or its action in progress, overlaps an acknowledgement's transmit path, airtime or the turn-round
behind it (R221, R138); a PAREQ is no action of the chain. The synthesiser then stands where the acknowledgement left it. -/
def State.ackBlocked (s : State) (r k : Nat) (q : QCmd) : Bool :=
  let h := s.chain r k
  let left := if h.needsMove r q then { h with chan := q.chan, width := q.width } else h
  let b := q.port - pathTime r
  let ends := q.port + s.cmdAir r q + 16 * usU
  h.act.any (fun a => a.covers r b) || !s.portOn r k ||
  h.queue.any (fun x => x.ack != q.ack && x.op != 8 &&
    decide (s.claims r (if x.port < q.port then h else left) x < ends) && decide (b < max (x.port + 1) (x.port + s.actionTime r x)))

/-- The transmission whose transmit path is due on a chain. -/
def State.pathDue (s : State) (r k : Nat) : Option QCmd :=
  (s.chain r k).queue.find? (fun q => q.isTx && q.regOk && q.lockOk && !q.path && (q.lbtOk || !s.cmdLbt r q) &&
    decide (q.port ≤ s.now + pathTime r))

/-- TRANSMIT_PATH_BEGIN of a chain. -/
def State.transmitPath (s : State) (r k : Nat) : State :=
  match s.pathDue r k with
  | none => s
  | some q =>
    if (s.chain r k).occupied then s
    else if s.ackHeld q || (q.ack.isSome && s.ackBlocked r k q) then s.failCmd r k q .late
    else s.pathBegin r k q

/-- The queued command that a check left in the queue. -/
def QCmd.same (q x : QCmd) : Bool := x.recAt == q.recAt && x.port == q.port && x.ack == q.ack && x.op == q.op
/-- Find it again. -/
def State.again (s : State) (r k : Nat) (q : QCmd) : Option QCmd := (s.chain r k).queue.find? q.same

/-- Run the checks of a command that have not been made, each ending it where it fails. -/
def State.runChecks (s : State) (r k : Nat) (q : QCmd) : State × Option QCmd :=
  let s1 := if q.isTx && !q.regOk then s.txCheck r k q else s
  match s1.again r k q with
  | none => (s1, none)
  | some q1 =>
    let s2 := if q1.needsSynth && q1.op != 3 && !q1.lockOk then s1.lockCheck r k q1 else s1
    (s2, s2.again r k q1)

/-- A TX at its port time. -/
def State.beginTx (s : State) (r k : Nat) (q : QCmd) : State :=
  let s1 := if q.path then s else s.pathBegin r k q
  match s1.again r k q with
  | none => s1
  | some q1 => s1.setAct r k q1 ⟨.tx, { q1 with path := true }, q1.port + s1.cmdAir r q1, none, 0, some (s1.modem r q1)⟩

/-- An RX window opens: a lane is reserved, the LISTEN in force ends OK, a DRL occurrence is watched. -/
def State.beginRx (s : State) (r k : Nat) (q : QCmd) : State :=
  let ends := q.port + q.window * usU
  let keep := match (s.chain r k).listen with | some l => r == 1 || (l.cmd.chan == q.chan && l.cmd.width == q.width) | none => false
  let (s1, lane) := (s.endListen r k .ok keep).reserveLane r k
  let s2 := s1.setAct r k q ⟨.win, q, ends, lane, 0, none⟩
  let s3 := match q.slot with
    | some o => if o.drl then s2.setLnk { s2.lnk with watch := s2.lnk.watch ++ [DrlWatch.mk r o.handle o.t q.port ends false false] } else s2
    | none => s2
  if (s.receiving r k).isSome then s3 else s3.checkEntries r k (chanHz r q.chan)

/-- A LISTEN takes effect: the one in force ends OK. -/
def State.beginListen (s : State) (r k : Nat) (q : QCmd) : State :=
  let keep := match (s.chain r k).listen with | some l => r == 1 || (l.cmd.chan == q.chan && l.cmd.width == q.width) | none => false
  let s1 := s.endListen r k .ok keep
  let h := s1.chain r k
  let s2 := s1.setChain r k { h with queue := h.queue.erase q, listen := some (Listen.mk q false 0) }
  if (s.receiving r k).isSome then s2 else s2.checkEntries r k (chanHz r q.chan)

/-- A TUNE: LATE while an earlier move settles, else its move begins (R144). -/
def State.beginTune (s : State) (r k : Nat) (q : QCmd) : State :=
  if (s.chain r k).moving then s.failCmd r k q .late
  else ((s.suspendListen r k).setAct r k q ⟨.tune, q, 0, none, 0, none⟩).startMove r k q.chan q.width

/-- A calibration step (R147); a kind not listed, or a transmit step on a port that cannot transmit, only sets BAD_ARG. -/
def State.beginCal (s : State) (r k : Nat) (q : QCmd) : State :=
  let h := s.chain r k
  match (if calTx q.arg && r == 1 && decide (1 < k) then none else calUs r q.arg) with
  | none => ((s.setChain r k { h with queue := h.queue.erase q }).setFld (F.RF_STAT_BAD_ARG r) 1).endCmd r k q .ok q.port
  | some us =>
    let s1 := (s.keepBranches r).setAct r k q ⟨.cal, q, q.port + us * usU, none, SMap.get (fun _ => 0) h.trims q.arg, none⟩
    if calTx q.arg then
      let e := s.autoSeq r k 3
      (s1.keepAfter r k (some (s.femAfter r k false))).planFem r k 3 e q.port (q.port + seqTime e)
    else s1.keepAfter r k none

/-- A PAREQ asks the supply bus (R156, R366). -/
def State.beginPareq (s : State) (r k : Nat) (q : QCmd) : State :=
  let h := s.chain r k
  if !s.bit (F.SUP_DEV_EN (q.arg % 4 + 1)) then (s.setFld (F.SUP_ACK_LEVEL (q.arg % 4)) 0).failCmd r k q .fault else
  let s1 := s.setChain r k { h with queue := h.queue.erase q }
  { s1 with sup := s1.sup ++ [⟨some r, some q, q.arg % 4, q.power % 16, q.port, false, none, false⟩] }

/-- QUEUED_COMMAND_BEGIN: the first command whose port time has come begins, or completes with a code of Table 05-6, or FAULT
where the NT has become coarse (R71). A PAREQ is not LATE behind an action of its chain: R156 has it wait (log entry 107). A step
that runs yields to whatever begins, another step included (log entry 108). -/
def State.beginQueued (s : State) (r k : Nat) : State :=
  match (s.chain r k).queue.find? (fun q => q.passed || decide (q.port ≤ s.now)) with
  | none => s
  | some q =>
    let h := s.chain r k
    if q.passed then s.failCmd r k q .late
    else if s.coarse && q.op != 9 && q.ack.isNone then s.failCmd r k q .fault
    else if !s.portOn r k then s.failCmd r k q .aborted
    else if q.op = 8 then s.beginPareq r k q
    else if h.occupied then s.failCmd r k q .late
    else if q.op = 6 then s.beginAnt r k q
    else if (q.needsSynth && !s.turnOk r k q) || (q.needsSynth && s.windowBlocks r k q) then s.failCmd r k q .late
    else match s.runChecks r k q with
      | (s1, none) => s1
      | (s1, some q1) =>
        let s2 := s1.yieldCal r k
        match q1.op with
        | 1 => if s2.cmdLbt r q1 && !q1.lbtOk then (s2.count F.REG_REFUSALS_LBT).failCmd r k q1 .refusedRegulatory
               else if s2.ackHeld q1 then s2.failCmd r k q1 .late else s2.beginTx r k q1
        | 2 => s2.beginRx r k q1
        | 3 => s2.beginListen r k q1
        | 4 => s2.beginTune r k q1
        | 5 => s2.beginCal r k q1
        | 7 => (s2.suspendListen r k).setAct r k q1 ⟨.cca, q1, q1.port + q1.window * usU, none, 0, none⟩
        | _ =>
          let s3 := s2.endListen r k .ok false
          let h3 := s3.chain r k
          (s3.setChain r k { h3 with queue := h3.queue.erase q1 }).endCmd r k q1 .ok q1.port

/-! ## Ends -/

/-- What a transmission sent: its flurry frames and its frame (R128, R207), each as its framing gives it (R174 to R181). On Radio H
the scrambler's seed is any nonzero value, and so is the peer link of a frame that no slot entry or received frame names. -/
def State.framesSent (s : State) (r : Nat) (q : QCmd) (m : Modem) : List SentFrame :=
  let fcs := (modeInfo r q.mode).elim 2 ModeInfo.fcs
  let psdu := match q.ack with
    | some id => (s.lnk.acks.find? (fun j => j.id == id)).elim [] (fun j => j.psdu.getD [])
    | none => s.bytes (q.buf + 8) (q.len - fcs)
  let tag := q.slot.elim 0 (fun o => o.tag)
  let n := if r = 1 then q.pre.getD 0 else 0
  let peer := q.peer.getD (Config.freeNat (s.freeCtr + 1))
  ((List.range n).map (flurryPsdu q.mode tag n) ++ [psdu ++ fcsBytes r q.mode psdu]).map
    (sentFrame r q.mode m peer (1 + Config.freeNat s.freeCtr % 127))

/-- The frame that a transmission reads from its buffer meets words with wrong bits (R275). -/
def State.seenFrame (s : State) (q : QCmd) : State := if q.ack.isSome then s else s.seen q.buf (8 + q.len)

/-- Fix the duty record of a transmission that sent for a time. -/
def State.fixCmd (s : State) (q : QCmd) (air : Nat) : State :=
  match q.resv with
  | some id => s.fixDuty id air
  | none => s

/-- TX_LAST_BIT. -/
def State.txLastBit (s : State) (r k : Nat) : State :=
  match (s.chain r k).act with
  | some a =>
    if a.kind = .tx ∧ a.ends ≤ s.now then
      let s1 := ((s.seenFrame a.cmd).fixCmd a.cmd (a.ends - a.cmd.port)).clearAct r k a.ends true false
      let s2 := (s1.setChain r k { s1.chain r k with sent := s.framesSent r a.cmd (a.modem.getD (s.modem r a.cmd)) }).takeFree.takeFree
      (s2.planAfter r k a.ends).endCmd r k a.cmd .ok a.cmd.port
    else s
  | none => s

/-- The watched window of a command is over; a miss is told from a contact (R227). -/
def State.watchOver (s : State) (r : Nat) (q : QCmd) (ok : Bool) : State :=
  let mine (w : DrlWatch) : Bool := w.radio == r && w.opens == q.port && q.slot.isSome && w.handle == q.slot.elim 0 (fun o => o.handle)
  if ok then (s.setLnk { s.lnk with watch := s.lnk.watch.map (fun w => if mine w then { w with ended := true } else w) }).settleMisses
  else s.setLnk { s.lnk with watch := s.lnk.watch.filter (fun w => !mine w) }

/-- RX_WINDOW_CLOSE. -/
def State.rxClose (s : State) (r k : Nat) : State :=
  match (s.chain r k).act with
  | some a =>
    if a.kind = .win ∧ a.ends ≤ s.now then
      let s1 := ((s.unreserve r a.lane).clearAct r k a.ends false true).endCmd r k a.cmd .ok a.cmd.port
      s1.watchOver r a.cmd true
    else s
  | none => s

/-- The threshold of a CCA (R163, R165) in 0.25 dBm at the port. -/
def State.ccaThresh (s : State) (r k : Nat) (q : QCmd) : Int :=
  let f := chanHz r q.chan
  let half := if q.mode = 1 then (if r = 0 then 4000000 else 1000000) else (modeInfo r q.mode).elim 0 (fun m => m.bw / 2)
  s.portThresh (s.chain r k) r k (s.subsOver (f - half) (f + half))

/-- CCA_END on the highest window energy in 0.25 dBm. -/
def State.ccaEnd (s : State) (r k : Nat) (peak : Int) : State :=
  match (s.chain r k).act with
  | some a =>
    if a.kind = .cca ∧ a.ends ≤ s.now then
      (s.clearAct r k a.ends false true).endCmd r k a.cmd (if s.ccaThresh r k a.cmd < peak then .busy else .ok) a.cmd.port
    else s
  | none => s

/-- CAL_STEP_END: the trim found takes effect; RX_ON follows a transmit step as reception restarts. -/
def State.calEnd (s : State) (r k trim : Nat) : State :=
  match (s.chain r k).act with
  | some a =>
    if a.kind = .cal ∧ a.ends ≤ s.now then
      let s1 := s.clearAct r k a.ends false false
      let s2 := s1.setChain r k { s1.chain r k with trims := SMap.set (fun _ => 0) (s1.chain r k).trims a.cmd.arg trim }
      (s2.planAfter r k a.ends).endCmd r k a.cmd .ok a.cmd.port
    else s
  | none => s

/-- LISTEN_RESUME: at the instant R140 gives, unless a queued command is now within 200 µs. -/
def State.listenResume (s : State) (r k : Nat) : State :=
  let c := s.chain r k
  match c.listen with
  | some l =>
    if l.suspended && l.resumeAt != 0 && decide (l.resumeAt ≤ s.now) && c.act.isNone &&
        (r == 1 || (c.locked && !c.moving && c.stands r false l.cmd.chan l.cmd.width && decide (c.lockAt + 30 * usU ≤ s.now))) &&
        !c.queue.any (fun q => q.path || decide (q.port ≤ s.now + 200 * usU)) then
      (s.setChain r k { c with listen := some { l with suspended := false, resumeAt := 0 } }).checkEntries r k (chanHz r l.cmd.chan)
    else s
  | none => s

/-! ## ABORT and stops (R129, R134) -/

/-- End the action in progress of a chain ABORTED. -/
def State.abortAct (s : State) (r k : Nat) : State :=
  match (s.chain r k).act with
  | none => s
  | some a =>
    match a.kind with
    | .cal => s.yieldCal r k
    | .tx => (((s.fixCmd a.cmd (s.now - a.cmd.port)).clearAct r k s.now true false).planAfter r k s.now).endCmd r k a.cmd
        .aborted a.cmd.port
    | .win => ((((s.unreserve r a.lane).cutFrames r k).clearAct r k s.now false true).endCmd r k a.cmd .aborted a.cmd.port).watchOver
        r a.cmd false
    | .cca => (s.clearAct r k s.now false true).endCmd r k a.cmd .aborted a.cmd.port
    | .tune => (s.setChain r k { s.chain r k with act := none }).endCmd r k a.cmd .aborted a.cmd.port

/-- Complete every queued command of a chain that passes a test ABORTED. -/
def State.flushQueue (s : State) (r k : Nat) (p : QCmd → Bool) : State :=
  ((s.chain r k).queue.filter p).foldl (fun s q => s.failCmd r k q .aborted) s

/-- PAREQs of a radio that have not started on the supply bus complete ABORTED. -/
def State.flushPareqs (s : State) (r : Nat) : State :=
  (s.sup.filter (fun q => q.radio == some r && !q.onBus)).foldl (fun s q =>
    match q.cmd with
    | some c => ({ s with sup := s.sup.erase q } : State).endCmd r 0 c .aborted s.now
    | none => s) s

/-- All of a chain ends ABORTED: action, LISTEN, queue. A front-end sequence of an ANT that runs goes on (DESIGN CHOICE, log entry
109: the rule names the chain's current action, and no code for an ANT in progress). -/
def State.abortChain (s : State) (r k : Nat) : State :=
  let s1 := (s.flushQueue r k (fun _ => true)).abortAct r k
  let s2 := s1.endListen r k .aborted false
  if k = 0 then s2.flushPareqs r else s2

/-- ABORT_EFFECT: 2 ticks after its issue. -/
def State.abortEffect (s : State) (r k : Nat) : State :=
  let h := s.chain r k
  match h.aborts.find? (fun x => decide (x.1 + 2 ≤ s.ticks)) with
  | none => s
  | some x =>
    let s1 := (s.setChain r k { h with aborts := h.aborts.erase x }).abortChain r k
    s1.endCmd r k x.2 .ok s1.now

/-- RUN leaves on: queued commands complete ABORTED and LISTENs end ABORTED; actions at the port run on (R134). -/
def State.stopQueues (s : State) (r : Nat) : State :=
  let s1 := (List.range 4).foldl (fun s k =>
    (s.flushQueue r k (fun q => q.ack.isNone)).endListen r k .aborted false) s
  s1.flushPareqs r

/-- An action of the radio's engine is still in progress (R134). -/
def State.actionsLeft (s : State) (r : Nat) : Bool :=
  (List.range 4).any (fun k => match (s.chain r k).act with | some a => a.cmd.ack.isNone | none => false) ||
  s.sup.any (fun q => q.radio == some r) || (s.femOf r).runs.any (fun x => x.cmd.isSome)

/-- A slot engine halts (R114, R134). -/
def State.haltEngine (s : State) (e cause pc : Nat) : State := (s.haltMark e cause pc).stopQueues e

/-! ## Calibration sets (R150) -/

/-- A chain is in a gap. -/
def State.inGap (s : State) (r k : Nat) : Bool :=
  let h := s.chain r k
  h.act.isNone && !(s.framesIn r).any (fun (x : Nat × RxFrame) => x.2.chain == k) &&
  !h.queue.any (fun q =>
    let begins := if q.op = 4 || h.needsMove r q then s.moveInstant r q
      else if q.isTx then q.port - max (pathTime r) (if s.cmdLbt r q then s.cmdListen r q + 24 * usU else 0) else s.now + secU
    decide (begins < s.now + 100 * usU))

/-- Apply the swapped set on a chain; CAL_PENDING ends with the last. -/
def State.applyCal (s : State) (r k : Nat) : State :=
  let s1 := s.setChain r k { s.chain r k with calOld := none }
  if (List.range 4).any (fun j => (s1.chain r j).calOld.isSome) then s1 else s1.setFld (F.RF_STAT_CAL_PENDING r) 0

/-- CAL_SET_APPLY at a gap. -/
def State.calApply (s : State) (r k : Nat) : State :=
  if (s.chain r k).calOld.isSome && s.inGap r k then s.applyCal r k else s

/-- CAL_GAP_TIMEOUT: no gap for 1 s after the swap; frames arriving are cut. -/
def State.calTimeout (s : State) (r k : Nat) : State :=
  let h := s.chain r k
  match h.calOld with
  | some (t, _) => if t + secU ≤ s.clock ∧ h.act.isNone then (s.cutFrames r k).applyCal r k else s
  | none => s

/-! ## Chain state (Table 06-3) -/

/-- STATE of RFx_CHAIN_STAT[k]. -/
def State.chainState (s : State) (r k : Nat) : Nat :=
  let c := s.chain r k
  if s.fnOff (7 + r) 0 0 || (r != 2 && s.fnOff (7 + r) 0 (k + 1)) then 0 else
  match c.act with
  | some a => (match a.kind with | .tx => 8 | .win => 3 | .cca => 4 | .tune => 5 | .cal => 9)
  | none =>
    if c.queue.any (fun q => q.path) then 7
    else if c.queue.any (fun q => q.isTx && s.cmdLbt r q && !q.lbtOk && decide (q.port ≤ s.now + 24 * usU + s.cmdListen r q)) then 4
    else match c.listen with
      | some l =>
        if l.suspended then (if c.moving && c.queue.any (fun q => q.moved) then 5 else 6)
        else if r = 1 then 2 else if c.moving then 5
        else if c.lockAt + 30 * usU ≤ s.now then 2 else 6
      | none =>
        if c.moving then 5
        else if c.queue.any (fun q => q.moved) then 6
        else match c.lastEnd with
          | some e => if !c.queue.isEmpty && decide (s.now < e + (if c.lastTx then 16 else if c.lastWin then 24 else 0) * usU) then 6 else 1
          | none => 1

/-- RFx_CHAIN_STAT[k] as it reads. -/
def State.chainStat (s : State) (r k : Nat) : Word :=
  let c := s.chain r k
  BitVec.ofNat 32 (c.chan % 2 ^ 16 * 2 ^ 16 + b2n c.locked * 2 ^ 15
    + min 8 (c.queue.filter (fun q => q.ack.isNone)).length * 2 ^ 8 + s.chainState r k)

/-- LOCKED of RFx_STAT. -/
def State.lockedMask (s : State) (r : Nat) : Nat :=
  (List.range 4).foldl (fun m k => if (s.chain r k).locked then m + 2 ^ k else m) 0

/-! ## Issue (R124 to R126) -/

/-- A chain accepts an operation (Table 05-5). -/
def chainAccepts (r op k : Nat) : Bool :=
  match op with
  | 1 | 4 => if r = 0 then decide (k ≤ 3) else if r = 1 then decide (k ≤ 1) else k == 0
  | 2 | 3 | 7 | 9 => if r = 0 then decide (k ≤ 3) else k == 0
  | 5 | 10 => decide (k ≤ 3)
  | 6 | 8 | 11 => k == 0
  | _ => false

/-- Output range of a radio in 0.25 dBm (Table 06-8). -/
def powerRange (r : Nat) : Int × Int := if r = 0 then (-64, 56) else if r = 1 then (-80, 32) else (-68, 12)

/-- A command with CHAN, MODE and POWER as they act (R137, R157, R165); true where one was replaced. -/
def normalCmd (r k : Nat) (c : QCmd) : QCmd × Bool × Bool :=
  let rxOp := c.op == 2 || c.op == 3 || c.op == 7
  let badMode := rxOp && (modeInfo r c.mode).isNone && !(c.mode == 1 && r != 2)
  let mode := if badMode then (if r = 2 then 0x70 else 1) else c.mode
  let usesChan := c.op == 1 || c.op == 4 || c.op == 7 || (rxOp && r != 1)
  let chan := if usesChan then clampChan r k (galeWidth mode) c.chan else c.chan
  let p := sgn 8 c.power
  let lim := powerRange r
  let p' := if p < lim.1 then lim.1 else if lim.2 < p then lim.2 else p
  let power := if c.op = 1 then unsgn 8 p' else c.power
  ({ c with mode := mode, chan := chan, power := power }, badMode || chan != c.chan, power != c.power)

/-- The instant from which a command disturbs a running calibration step (R148). -/
def State.disturbs (s : State) (r k : Nat) (c : QCmd) : Nat := s.claims r (s.chain r k) c

/-- BAD_ARG and POWER_CLAMPED for a command (R138, R165). -/
def State.flagCmd (s : State) (r : Nat) (bad clamped : Bool) : State :=
  let s0 := if bad then s.setFld (F.RF_STAT_BAD_ARG r) 1 else s
  if clamped then s0.setFld (F.RF_STAT_POWER_CLAMPED r) 1 else s0
/-- A calibration that the command would disturb yields; RX_ON follows a transmit step as reception restarts (R153). -/
def State.claimChain (s : State) (r k : Nat) (c : QCmd) : State :=
  match (s.chain r k).act with
  | some a => if a.kind = ActKind.cal ∧ s.disturbs r k c < a.ends then (s.yieldCal r k).planAfter r k s.now else s
  | none => s
/-- The command joins its queue; its synthesiser moves at once when the instant has come. -/
def State.lineUp (s : State) (r k : Nat) (c : QCmd) : State :=
  let s1 := s.setChain r k { s.chain r k with queue := (s.chain r k).queue ++ [c] }
  if (s1.chain r k).needsMove r c && decide (s1.moveInstant r c ≤ s1.now) then s1.moveCmd r k c else s1
/-- Every transmission of the module whose check at P − 50 µs is due, with the index 4 × radio + chain. -/
def State.checksDue (s : State) : List (Nat × QCmd) :=
  (List.range 12).flatMap (fun i => ((s.chain (i / 4) (i % 4)).queue.filter (fun q =>
    q.isTx && !q.regOk && decide (q.port ≤ s.now + 50 * usU))).map (fun q => (i, q)))
/-- The earlier of two checks: by instant, then Radio S, M, H, then chain (R146). -/
def checkBefore (x y : Nat × QCmd) : Bool := decide (x.2.port < y.2.port) || (x.2.port == y.2.port && decide (x.1 < y.1))
/-- The first due check of the module but for one command. -/
def State.firstCheck (s : State) (but : Option QCmd) : Option (Nat × QCmd) :=
  s.checksDue.foldl (fun b x => if some x.2 = but then b else match b with
    | none => some x
    | some y => if checkBefore x y then some x else b) none
/-- Make the module's first due check where it comes before, or is, a given place in the order. -/
def State.oneCheck (s : State) (but : Option QCmd) (port i : Nat) : State :=
  match s.firstCheck but with
  | some x => if x.2.port < port ∨ (x.2.port = port ∧ x.1 ≤ i) then s.txCheck (x.1 / 4) (x.1 % 4) x.2 else s
  | none => s
/-- Make every due check of the module up to a place in the order (R146). -/
def State.checksUpTo (s : State) (but : Option QCmd) (port i : Nat) : State :=
  (List.range s.checksDue.length).foldl (fun s _ => s.oneCheck but port i) s
/-- The checks at P − 50 µs, made at once when that instant has passed, after those of the module that come before. -/
def State.txCheckNow (s : State) (r k : Nat) (c : QCmd) : State :=
  match s.again r k c with
  | none => s
  | some c1 =>
    if c1.isTx && decide (c1.port ≤ s.now + 50 * usU) then
      (s.checksUpTo (some c1) (s.now + 50 * usU) (4 * r + k)).txCheck r k c1
    else s
/-- The lock check at P − 30 µs, made at once when that instant has passed. -/
def State.lockCheckNow (s : State) (r k : Nat) (c : QCmd) : State :=
  match s.again r k c with
  | none => s
  | some c1 => if c1.needsSynth && c1.op != 3 && decide (c1.port ≤ s.now + 30 * usU) then s.lockCheck r k c1 else s
/-- Queue a command: a step it disturbs yields; instants already passed are dealt with at once (R143). -/
def State.enqueue (s : State) (r k : Nat) (c0 : QCmd) : State :=
  match normalCmd r k c0 with
  | (c, bad, clamped) => ((((s.flagCmd r bad clamped).claimChain r k c).lineUp r k c).txCheckNow r k c).lockCheckNow r k c

/-- A command as a record at a local-memory address gives it, with rb and its chain's radio. -/
def State.recordCmd (s : State) (r a rb : Nat) : QCmd :=
  let x := s.engine r
  let op := x.rd a 1
  let fl := x.rd (a + 1) 1
  let imm := bitOf fl 0
  let port := if imm then s.now + leadUs r op * usU else packedTargetF s.now (x.rd (a + 8) 8) (x.rd (a + 16) 2)
  let buf := x.rd (a + 24) 5
  { op := op, recAt := some a, lbt := bitOf fl 1, evt := bitOf fl 2, doneEv := x.rd (a + 2) 1, chan := x.rd (a + 4) 2,
    mode := x.rd (a + 6) 1, power := x.rd (a + 7) 1, port := port, window := x.rd (a + 20) 4, buf := buf, len := s.bufLen buf,
    arg := rb % 256, pre := none, slot := none, ack := none, moved := false, regOk := false, lockOk := false, lbtOk := false,
    path := false, passed := false, resv := none, paReg := none, peer := none }

/-- The command that SLOT makes of an occurrence: the record gives only EVT and DONE_EV (R203). -/
def State.slotCmd (s : State) (c : QCmd) (o : Occ) : QCmd :=
  { c with op := if o.action = 1 then 2 else 1, lbt := o.lbt, chan := o.chan, mode := o.mode, power := o.power, port := o.port,
           window := if o.action = 1 then o.window else 0, buf := o.buf, len := s.bufLen o.buf, pre := o.pre, slot := some o, peer := o.peer }

/-- Conditions of item 1 of R126 on the window and the buffer of a command. -/
def QCmd.bad (c : QCmd) : Bool :=
  (if c.op = 2 ∨ c.op = 7 then c.window == 0 || decide (4000000 < c.window) else c.window != 0) ||
  (c.op == 1 && (!isSpad c.buf || c.buf % 8 != 0))
/-- Conditions of item 1 of R126 on a record's own fields. -/
def State.recordBad (s : State) (r a : Nat) (c : QCmd) : Bool :=
  let x := s.engine r
  c.bad || x.rd (a + 18) 2 != 0 || x.rd (a + 29) 3 != 0

/-- Conditions of item 1 of R126 on the port time. -/
def State.portBad (s : State) (r k : Nat) (c : QCmd) : Bool :=
  decide (s.now + 4096 * secU < c.port) || (s.chain r k).queue.any (fun q => q.ack.isNone && decide (c.port < q.port))

/-- Items 2 to 7 of R126. An ABORT, which has no lead and takes effect 2 ticks after its issue, is not bound to a port time: item 4
and the port-time conditions of item 1 pass it over (DESIGN CHOICE, log entry 110). -/
def State.issueCode (s : State) (r k : Nat) (c : QCmd) (late imm : Bool) : Status :=
  if s.coarse && c.op != 9 && c.op != 10 then .fault
  else if late then .late
  else if c.op != 10 && !imm && decide (c.port < s.now + leadUs r c.op * usU) then .late
  else if c.isTx && !s.bufReady c.buf then .late
  else if c.isTx && ((modeInfo r c.mode).elim (c.len == 0) (fun m => decide (c.len < m.min))) then .tooShort
  else if c.isTx && ((modeInfo r c.mode).elim true (fun m => decide (m.max < c.len))) then .tooLong
  else if decide (8 ≤ ((s.chain r k).queue.filter (fun q => q.ack.isNone)).length) then .busy
  else .ok

/-- RCMD of engine r: the record at a, argument rb, imm8; late marks the instruction behind a passed ATTICK. A record lies in the
data area (R124): an address outside 0x8000 to 0xFFE0 names none to write to. -/
def State.rcmd (s : State) (r a rb imm8 : Nat) (late : Bool) : State × Status :=
  if a < 0x8000 ∨ 0xFFE0 < a then (s, .fault) else
  let c0 := s.recordCmd r a rb
  let imm := bitOf ((s.engine r).rd (a + 1) 1) 0
  let occ := if c0.op = 11 then s.slotOcc r (rb % 16384) else none
  let c := match occ with | some o => s.slotCmd c0 o | none => c0
  let k := match occ with | some o => o.chain | none => imm8
  let bad := decide (a % 8 ≠ 0) || !chainAccepts r c0.op imm8 ||
    (if c0.op = 11 then decide (tableSize r ≤ rb % 16384) || occ.isNone || occ.elim false (fun o => o.badPre) ||
       !chainAccepts r c.op k || c.bad || s.portBad r k c
     else s.recordBad r a c || (c0.op != 10 && s.portBad r k c))
  let code := if bad then .fault else s.issueCode r k c late (imm && c0.op != 11)
  let s0 := match occ with | some o => s.dropOffer r o | none => s
  match code with
  | .ok =>
    let x := s0.engine r
    let s1 := s0.setEngine r (x.wr (a + 1) 1 (x.rd (a + 1) 1 &&& 0x7F))
    if c.op = 10 then (s1.setChain r k { s1.chain r k with aborts := (s1.chain r k).aborts ++ [(s1.ticks, c)] }, .ok)
    else (s1.enqueue r k c, .ok)
  | st =>
    let s1 := s0.writeRecord r a st.code s0.now
    let s2 := if c.evt then s1.pulseFree c.doneEv else s1
    let s3 := match c.slot with | some o => s2.occDone r o st.code | none => s2
    (if st = .late then s3.count (F.SE_LATE_COUNT_CMD_LATE r) else s3, st)

/-- A step carried the selected NT from n0 past every port time before n1: those commands complete LATE (R61). -/
def State.passPorts (s : State) (n0 n1 : Nat) : State :=
  if n1 ≤ n0 then s else
  (List.range 12).foldl (fun s i =>
    let h := s.chain (i / 4) (i % 4)
    if h.queue.any (fun q => decide (n0 < q.port) && decide (q.port < n1)) then
      s.setChain (i / 4) (i % 4) { h with queue := h.queue.map (fun q =>
        if n0 < q.port ∧ q.port < n1 then { q with passed := true } else q) }
    else s) s

end Sys2Proof.Machine
end

