-- ==== Sys2Proof/Machine/Reception.lean ====
section
/-!
DEFINITION. Reception (ch. 07): detection, sync, header and last bit of a frame in a lane, the stop of DEMOD, and frost capture
records, EXPAND and RELEASE.
-/
namespace Sys2Proof.Machine

/-! ## Detection (R166 to R172) -/

/-- The mode of a detector: one SUN FSK detector takes both FCS types of its rate (R176). -/
def detectorMode (mode : Nat) : Nat := if 0x38 ≤ mode ∧ mode ≤ 0x3C then mode - 8 else mode

/-- The mode of the detector of a chain that watches this centre in this mode, its search entry's where it has one (R165, R166). -/
def State.detector (s : State) (r k mode centre : Nat) : Option Nat :=
  match s.receiving r k with
  | none => none
  | some (chan, sel) =>
    if r = 2 then (if 0x70 ≤ mode ∧ galeWidth mode = galeWidth sel ∧ centre = chanHz 2 chan then some mode else none)
    else if sel ≠ 1 ∧ detectorMode sel ≠ detectorMode mode then none
    else if mode = 0x40 then (if r = 1 ∧ (List.range 16).any (fun i => centre == 2405000000 + 5000000 * i) then some mode else none)
    else ((List.range (if r = 0 then 64 else 16)).find? (fun i =>
      detectorMode (s.fld (F.DP_SEARCH_MODE r k i)) == detectorMode mode && s.entryCentre r k i (chanHz r chan) == some centre)).map
        (fun i => s.fld (F.DP_SEARCH_MODE r k i))
/-- A detector of the chain watches this centre in this mode. -/
def State.detects (s : State) (r k mode centre : Nat) : Bool := (s.detector r k mode centre).isSome

/-- A lane already holds the frame of a new detection (R168). -/
def State.sameFrame (s : State) (r : Nat) (f : RxFrame) : Bool :=
  (s.framesIn r).any (fun (x : Nat × RxFrame) =>
    let g := x.2
    detectorMode g.mode == detectorMode f.mode && (r != 0 || g.chain == f.chain) &&
    decide (((g.centre : Int) - f.centre).natAbs ≤ 2 * searchSpan f.mode) &&
    decide (((g.began : Int) - f.began).natAbs ≤ symbolTime f.mode))

/-- A lane for a detection: the window's, a free one, or one by preemption (R171). -/
def State.placeFrame (s : State) (r : Nat) (f : RxFrame) : State :=
  let win := if f.inWin then
      (List.range (s.laneLimit r)).find? (fun n => (s.lane r n).resv == some f.chain && (s.lane r n).frame.isNone)
    else none
  match win with
  | some n => s.setLane r n { s.lane r n with frame := some f }
  | none =>
    match s.firstFree r with
    | some n => s.setLane r n { s.lane r n with frame := some f }
    | none =>
      let m := s.fld (F.DP_POLICY_MARGIN r)
      match (if r = 2 ∨ m = 15 then none else s.weakest r (fun g => decide (g.snr + 1000 * (m : Int) ≤ f.snr))) with
      | some (n, g) => let s1 := s.preempt r n g; s1.setLane r n { s1.lane r n with frame := some f }
      | none => ((s.count (F.DP_COUNT0_NO_LANE r)).pulse (30 + r)).capStart r none f 3

/-- PREAMBLE_DETECT: a detector of a chain finds a preamble that began some ns ago. -/
def State.preamble (s : State) (r k mode centre : Nat) (snr rssi : Int) (agoNs : Nat) : State :=
  if !s.fnOn (10 + r) 0 0 then s else
  match s.detector r k mode centre with
  | none => s
  | some e =>
    let win := match (s.chain r k).act with | some a => a.kind == .win | none => false
    let f : RxFrame := ⟨k, e, mode, centre, snr, rssi, 0, s.now - agoNs * nsU, s.now, win, none, false, 0, 0, 0, 0, none⟩
    if s.sameFrame r f then s else s.placeFrame r f

/-! ## Sync and header (R180, R182 to R184) -/

/-- A lane's frame has no sync in time: SYNC_MISS. -/
def State.syncMiss (s : State) (r n : Nat) (f : RxFrame) : State :=
  (((s.freeLane r n).count (F.DP_COUNT0_SYNC_MISS r)).capStart r (some n) f 0).settleMisses

/-- SYNC_FOUND: the arrival instant, phase/65,536 of a tick after this tick's NT, less the path delay, on the 62.5 ps grid. A sync
beyond the longest ordinary preamble comes too late (R183). -/
def State.syncFound (s : State) (r n phase : Nat) : State :=
  match (s.lane r n).frame with
  | none => s
  | some f =>
    if f.arrival.isSome then s
    else if f.syncBy < s.now then s.syncMiss r n f
    else
      let a := captureRound ((s.now : Int) + ((s.incr s.cur * phase / 2 ^ 16 : Nat) : Int) - s.rxDelay r f.chain)
      s.setLane r n { s.lane r n with frame := some { f with arrival := some a } }

/-- SYNC_TIMEOUT: no sync within the longest ordinary preamble and the sync length. -/
def State.syncTimeout (s : State) (r n : Nat) : State :=
  match (s.lane r n).frame with
  | none => s
  | some f => if f.arrival.isNone && decide (f.syncBy ≤ s.now) then s.syncMiss r n f else s

/-- What a header gives: the mode recorded, PSDU length, FCS bytes, peer link. -/
structure HeaderInfo where
  mode : Nat
  len  : Nat
  fcs  : Nat
  peer : Nat
  deriving DecidableEq, Repr

/-- The PHR length of SUN FSK: 11 bits, most significant first, from bit 5 (log entry 12). -/
def phrLength (h : Nat) : Nat := (List.range 11).foldl (fun a i => 2 * a + b2n (h.testBit (5 + i))) 0

/-- Read a header, bit i being the i-th sent; none where it fails its CRC or holds a rejected value (Table 07-3, R176, R177,
R180). -/
def readHeader (mode h : Nat) : Option HeaderInfo :=
  if mode = 0x10 ∨ mode = 0x20 ∨ mode = 0x50 ∨ mode = 0x51 then
    if crc8 0 8 h = crcField h 8 then some ⟨mode, if mode = 0x10 then h % 64 else h % 256, 2, 0⟩ else none
  else if mode < 0x40 then
    if h.testBit 0 then none
    else
      let two := h.testBit 3
      let base := if mode < 0x38 then mode else mode - 8
      some ⟨if two then base else base + 8, phrLength h, if two then 2 else 4, 0⟩
  else if mode = 0x40 then some ⟨mode, h % 128, 2, 0⟩
  else
    let mcs := h % 16
    let nss := h / 16 % 4
    let w := h / 64 % 4
    if crc8 0xFF 40 h ≠ crcField h 40 ∨ 12 ≤ mcs ∨ w = 3 ∨ galeWidth mode < w then none
    else some ⟨0x70 + 48 * w + 12 * nss + mcs, h / 2 ^ 8 % 2 ^ 14, 4, h / 2 ^ 22 % 64⟩

/-- The context a frame's sender is bound to: by its peer link on Radio H, else by its SID (R228). -/
def State.linkHandle (s : State) (r peer sid : Nat) : Option Nat :=
  if r = 2 then (if s.bit (F.LNK_PEER_VALID peer) then some (s.fld (F.LNK_PEER_HANDLE peer)) else none) else s.handleOf sid

/-- A frame of len PSDU bytes without the FCS is to be delivered without a context, as its LTYPE and SID show (R215). -/
def State.goesPlain (s : State) (r peer len lt sid : Nat) : Bool :=
  !s.fnOn 16 0 0 || len == 0 || lt / 16 != 4 || ((lt == 0x41 || lt == 0x42 || lt == 0x4A) && decide (6 ≤ len) &&
    (match s.linkHandle r peer sid with
     | none => true
     | some h => !cxValid (s.ctx h) && r != 2))

/-- A lane's frame has begun, or been refused, a record. -/
def State.laneRecord (s : State) (r n : Nat) (x : Option Nat) : State :=
  s.setLane r n { s.lane r n with frame := (s.lane r n).frame.map (fun f => { f with rqid := some x }) }

/-- The record of a lane's frame takes the buffers that the octets so far have reached; a dry pool rewinds it (R284, R285). -/
def State.growRecord (s : State) (r n : Nat) (f : RxFrame) (id : Nat) : State :=
  match s.rqReserve id (32 + min (s.bytesSoFar f) (f.len - f.fcs)) with
  | (s1, true) => s1.laneRecord r n (some id)
  | (s1, false) => s1.laneRecord r n none

/-- The SID of a frame is decoded, w its PSDU's first six octets, the first lowest: its record starts in the queue of R283 with the
buffers that the octets so far have reached. Later the record takes those that further octets have reached. -/
def State.sidDecoded (s : State) (r n w : Nat) : State :=
  match (s.lane r n).frame with
  | none => s
  | some f =>
    match f.rqid with
    | some none => s
    | some (some id) => s.growRecord r n f id
    | none =>
      if !f.hdrOk || decide (s.bytesSoFar f < min 6 (f.len - f.fcs)) then s else
      let plain := s.goesPlain r f.peer (f.len - f.fcs) (w % 2 ^ 8) (w / 2 ^ 16 % 2 ^ 32)
      match s.rqStart (if plain then s.fld (F.RQ_SRC_QUEUE_NC r) else s.fld (F.RQ_SRC_QUEUE r)) 1 with
      | (s1, none) => s1.laneRecord r n none
      | (s1, some id) => s1.growRecord r n f id

/-- HEADER_DECODED: the PHY header; once that stands, the link header up to the SID (R283). -/
def State.headerDecoded (s : State) (r n h : Nat) : State :=
  match (s.lane r n).frame with
  | none => s
  | some f =>
    match f.arrival with
    | none => s
    | some a =>
      if f.hdrOk then s.sidDecoded r n h else
      match readHeader f.mode h with
      | none => (((s.freeLane r n).count (F.DP_COUNT0_HDR_FAIL r)).capStart r (some n) f 1).settleMisses
      | some i =>
        let lim := (modeInfo r i.mode).getD ⟨0, 2, 0, 0⟩
        if i.len < lim.min then ((s.freeLane r n).count (F.DP_COUNT1_TOO_SHORT r)).settleMisses
        else if lim.max < i.len then ((s.freeLane r n).count (F.DP_COUNT1_TOO_LONG r)).settleMisses
        else s.setLane r n { s.lane r n with
          frame := some { f with mode := i.mode, hdrOk := true, len := i.len, fcs := i.fcs, peer := i.peer,
                                 lastBit := a + restAfterSync i.mode i.len } }

/-! ## Last bit (R183) -/

/-- BRANCHES of a frame at an instant (Table 07-8): its port on Radio S; on M the branches that contributed; all four on H. -/
def State.rxParts (s : State) (r : Nat) (f : RxFrame) (t : Nat) : Nat :=
  if r = 0 then 2 ^ f.chain else if r = 1 then s.branchMask r f t else 15

/-- FRAME_END: PSDU bytes with their FCS, and what was measured. A failed FCS drops the frame and rewinds its record; else it
goes to the link unit, unless its record was refused (R283). -/
def State.frameEnd (s : State) (r n : Nat) (psdu : List Byte) (x : RxMeta) : State :=
  match (s.lane r n).frame with
  | none => s
  | some f =>
    match f.arrival with
    | none => s
    | some a =>
      if !f.hdrOk || decide (s.now < f.lastBit) then s else
      let all := padTo f.len psdu
      let body := all.take (f.len - f.fcs)
      let c := s.chain r f.chain
      let s1 := (s.freeLane r n).setChain r f.chain { c with winEnd := if f.inWin then some f.lastBit else c.winEnd }
      if all.drop (f.len - f.fcs) ≠ fcsBytes r f.mode body then
        (((s1.count (F.DP_COUNT0_FCS_FAIL r)).endRecord (s.fld (F.RQ_SRC_QUEUE r)) f.rqid body.length).capStart r (some n) f 2).settleMisses
      else if f.rqid = some none then s1.settleMisses
      else
        let l : LinkFrame := ⟨s.lnk.nextId, f.rqid.join, r, n, f.chain, f.mode, f.centre, x, s.rxParts r f f.lastBit, f.inWin, a, f.lastBit, f.fcs, f.peer, body,
          none, 0, .lookup, false, none, false, 3, none⟩
        s1.setLnk { s1.lnk with frames := s1.lnk.frames ++ [l], nextId := s1.lnk.nextId + 1 }

/-- DEMOD stops: every lane drops its frame, uncounted; a record begun is rewound (R173). -/
def State.dropLanes (s : State) (r : Nat) : State :=
  ((s.framesIn r).foldl (fun (s : State) (x : Nat × RxFrame) => (s.freeLane r x.1).cutRecord r x.2) s).settleMisses

/-! ## Frost capture (R188 to R192) -/

/-- floor(x / 2^e + 1/2). -/
def bfpRound (x : Int) (e : Nat) : Int := if e = 0 then x else (x + 2 ^ (e - 1)) / 2 ^ e
/-- A mantissa fits in w bits. -/
def bfpFits (w : Nat) (m : Int) : Bool := decide (-(2 ^ (w - 1) : Int) ≤ m) && decide (m ≤ 2 ^ (w - 1) - 1)
/-- The exponent of a block: from e upward, n more at most. -/
def bfpExp (w : Nat) (xs : List Int) (e : Nat) : Nat → Nat
  | 0 => e
  | n + 1 => if xs.all (fun x => bfpFits w (bfpRound x e)) then e else bfpExp w xs (e + 1) n
/-- The bits of a block as a number, 4 + 32 × w of them (R190). -/
def bfpBlock (w : Nat) (xs : List Int) : Nat :=
  let e := bfpExp w xs 0 (17 - w)
  e + 16 * (xs.zipIdx).foldl (fun (a : Nat) (x : Int × Nat) => a + unsgn w (bfpRound x.1 e) * 2 ^ (w * x.2)) 0
/-- Cut a list into pieces of n, k at most. -/
def pieces (n : Nat) : Nat → List Int → List (List Int)
  | 0, _ => []
  | k + 1, l => if l.isEmpty then [] else l.take n :: pieces n k (l.drop n)
/-- The coded stream of some blocks of 32 components, padded to 8 bytes. -/
def bfpStream (w : Nat) (blocks : List (List Int)) : List Byte :=
  let bits := 4 + 32 * w
  let v := (blocks.zipIdx).foldl (fun (a : Nat) (x : List Int × Nat) => a + bfpBlock w x.1 * 2 ^ (bits * x.2)) 0
  leBytes ((bits * blocks.length + 63) / 64 * 8) v

/-- Base of the capture ring. -/
def State.capBase (s : State) : Nat := s.fld F.CAP_BASE_LO_ADDR * 4096 + s.fld F.CAP_BASE_HI_ADDR * 2 ^ 32
/-- Size of the capture ring in bytes. -/
def State.capSize (s : State) : Nat := s.fld F.CAP_SIZE_SIZE * 4096
/-- Bytes of the ring that unreleased records take. -/
def State.capUsed (s : State) : Nat := s.cap.recs.foldl (fun (n : Nat) (x : Nat × Nat × Bool) => n + x.2.1) 0
/-- RECORDS as it reads. -/
def State.capRecords (s : State) : State := s.setFld F.CAP_STAT_RECORDS s.cap.recs.length

/-- Append a record of n bytes at the write offset. -/
def State.capPush (s : State) (n : Nat) (pad : Bool) : State :=
  let w := s.fld F.CAP_WR_OFFSET
  ((s.setCap { s.cap with recs := s.cap.recs ++ [(w, n, pad)] }).setFld F.CAP_WR_OFFSET
    (if w + n = s.capSize then 0 else w + n)).capRecords

/-- A record header (Table 07-11) but for KIND. -/
def State.capHeader (s : State) (x : CapSpan) (m : RxMeta) (blocks bytes : Nat) : List Byte :=
  let f := x.frame
  let first := captureRound ((s.capFirst f : Int) - s.rxDelay x.radio f.chain)
  leBytes 1 x.reason ++ leBytes 1 f.entry ++ leBytes 1 (if x.radio = 0 then f.chain else m.port.val) ++
  leBytes 1 (s.rxParts x.radio f x.ends) ++ leBytes 1 s.capWidth ++
  leBytes 2 (x.lane.getD 0xFFFF) ++ leBytes 8 (packNt first) ++ leBytes 2 (ntFrac first) ++ leBytes 2 0 ++
  leBytes 4 (capRate f.mode) ++ leBytes 4 (16 * s.fld F.CAP_CFG_PRE) ++ leBytes 4 f.centre ++ leBytes 1 (rssiCode f.rssi) ++
  leBytes 1 (unsgn 8 (snrCode f.snr)) ++ leBytes 2 (unsgn 16 (fofsCode m.fofs.toInt)) ++ leBytes 4 blocks ++ leBytes 4 bytes ++
  leBytes 2 (if f.hdrOk then f.len else 0xFFFF) ++ leBytes 18 0

/-- Write a finished span: a pad where it would pass the end, DROPPED where it does not fit, KIND last, EV33. One that MAX_BLOCKS
cut is counted TRUNCATED whether or not it fits (R188). -/
def State.capWrite (s0 : State) (x : CapSpan) (m : RxMeta) (samples : List Int) : State :=
  let s := if x.cut then s0.count F.CAP_COUNT_TRUNCATED else s0
  let n := ceilDiv ((x.ends - s.capFirst x.frame) * capRate x.frame.mode) (16 * secU)
  let blocks := pieces 32 n (samples.take (32 * n) ++ List.replicate (32 * n - samples.length) 0)
  let data := bfpStream s.capWidth blocks
  let size := (64 + data.length + 63) / 64 * 64
  let w := s.fld F.CAP_WR_OFFSET
  let rest := s.capSize - w
  let pad := decide (rest < size)
  let need := if pad then rest + size else size
  if s.capSize < s.capUsed + need ∨ (pad ∧ s.capSize < size) then s.count F.CAP_COUNT_DROPPED
  else
    let s1 := if pad then (s.put (s.capBase + w) (List.replicate 40 0 ++ leBytes 4 (rest - 64) ++ List.replicate 20 0)).capPush rest true else s
    let a := s1.capBase + s1.fld F.CAP_WR_OFFSET
    let s2 := (s1.put (a + 1) (s1.capHeader x m blocks.length data.length ++ data)).putLe a 1 2
    ((s2.capPush size false).count F.CAP_COUNT_CAPTURED).pulse 33

/-- CAPTURE_SPAN_END: the oldest span that is due ends with its samples, I and Q in turn. -/
def State.capEnd (s : State) (m : RxMeta) (samples : List Int) : State :=
  match s.cap.spans.find? (fun x => decide (x.ends ≤ s.now)) with
  | none => s
  | some x => (s.setCap { s.cap with spans := s.cap.spans.erase x }).capWrite x m samples

/-! ## Commands of the engine (R193) -/

/-- A value restored from a mantissa, saturating at 16 bits. -/
def bfpRestore (m : Int) (e : Nat) : Int := max (-32768) (min 32767 (m * 2 ^ e))
/-- The samples of a coded stream of n blocks. -/
def bfpSamples (w n v : Nat) : List Byte :=
  (List.range n).flatMap (fun b =>
    let x := v >>> ((4 + 32 * w) * b)
    (List.range 32).flatMap (fun i => leBytes 2 (unsgn 16 (bfpRestore (sgn w (x >>> (4 + w * i))) (x % 16)))))

/-- The unreleased record, a pad included (Table 07-22), that starts at an offset, and how many lie up to it. -/
def recAt (off : Nat) : List (Nat × Nat × Bool) → Nat → Option (Nat × Nat)
  | [], _ => none
  | (o, n, _) :: l, i => if o = off then some (i, n) else recAt off l (i + 1)

/-- A capture command of a granted request: EXPAND (1) or RELEASE (2). -/
def State.capRun (s : State) (q : SvcReq) : State :=
  let d := q.desc
  let g (b n : Nat) : Nat := leNat ((d.drop b).take n)
  let op := g 0 1
  let rec_ := g 4 4
  match (if (op = 1 ∨ op = 2) ∧ g 2 2 = 0 ∧ g 24 8 = 0 then recAt rec_ s.cap.recs 0 else none) with
  | none => s.endReq q.id .fault
  | some (i, _) =>
    let a := s.capBase + rec_
    if op = 2 then
      let left := s.cap.recs.drop (i + 1)
      (((s.setCap { s.cap with recs := left }).setFld F.CAP_RD_OFFSET
        (left.head?.elim (s.fld F.CAP_WR_OFFSET) (fun x => x.1))).capRecords).endReq q.id .ok
    else
      let n := s.rdLe (a + 36) 4
      let dst := g 8 8
      if dst % 8 ≠ 0 ∨ inNormal dst (64 * n) = false then s.endReq q.id .fault
      else if g 16 4 < 64 * n then s.endReq q.id .noBuffer
      else
        let len := s.rdLe (a + 40) 4
        let out := bfpSamples (s.rdLe (a + 5) 1) n (s.rdLe (a + 64) len)
        (((s.seen a (64 + len)).put dst out).putLe (q.addr + 20) 4 (16 * n)).endReq q.id .ok

/-- The first granted request of the capture engine with an OP. -/
def State.capGranted (s : State) (op : Nat) : Option SvcReq :=
  s.arb.reqs.find? (fun q => q.engine == 2 && q.phase == .granted && leNat (q.desc.take 1) == op)
/-- EXPAND or CAPTURE_RELEASE: the granted request with that OP runs. -/
def State.capService (s : State) (op : Nat) : State :=
  match s.capGranted op with
  | some q => s.capRun q
  | none => s

end Sys2Proof.Machine
end

