-- ==== Sys2Proof/Machine/Link.lean ====
section
/-!
DEFINITION. The link unit (R215 to R224, R228, R229, R319, R320): from a frame's last bit to the commit of its record, its
acknowledgement, and the context commands.
-/
namespace Sys2Proof.Machine

/-! ## Frames and records -/

/-- Change a frame. -/
def State.mapFrame (s : State) (id : Nat) (f : LinkFrame → LinkFrame) : State :=
  s.setLnk { s.lnk with frames := s.lnk.frames.map (fun x => if x.id == id then f x else x) }
/-- The frame with a number. -/
def State.frameOf (s : State) (id : Nat) : Option LinkFrame := s.lnk.frames.find? (fun x => x.id == id)
/-- HELD of LNK_STAT. -/
def State.heldCopies (s : State) : Nat := (s.lnk.frames.filter (fun f => f.step == .held)).length
/-- A frame leaves; a window waiting for it is settled. -/
def State.removeFrame (s : State) (id : Nat) : State :=
  (s.setLnk { s.lnk with frames := s.lnk.frames.filter (fun x => x.id != id) }).settleMisses
/-- A frame is dropped: its record is rewound (R285). -/
def State.dropFrame (s : State) (f : LinkFrame) : State :=
  let s1 := match f.rqid with | some q => s.rewind q false | none => s
  s1.removeFrame f.id

/-- Bytes of a frame's record. -/
def recordLen (f : LinkFrame) : Nat := 32 + (f.psdu.length + 7) / 8 * 8
/-- The 32-byte header of a record (Table 07-8). -/
def recordHeader (f : LinkFrame) : List Byte :=
  leBytes 1 1 ++ leBytes 1 f.mode ++ leBytes 1 (if f.radio = 2 then 8 else if f.radio = 0 then f.chain else f.rx.port.val) ++
  leBytes 1 f.parts ++
  leBytes 2 f.lane ++ leBytes 2 (f.psdu.length + f.fcs) ++ leBytes 8 (packNt f.arrival) ++ leBytes 2 (ntFrac f.arrival) ++
  leBytes 1 (rssiCode f.rx.rssi.toInt) ++ leBytes 1 (unsgn 8 (snrCode f.rx.snr.toInt)) ++
  leBytes 2 (unsgn 16 (fofsCode f.rx.fofs.toInt)) ++ leBytes 2 (uncCode f.rx.unc.toNat) ++
  leBytes 4 ((if f.noCtx then 0 else f.handle.getD 0) + b2n f.noCtx * 2 ^ 18 + b2n f.ackDue * 2 ^ 19 + f.ackRad * 2 ^ 20) ++
  leBytes 4 (unsgn 32 (f.resid.getD (-2147483648)))

/-- The record of a frame: the one its lane began, else a new one in queue q. -/
def State.frameRecord (s : State) (rqid : Option Nat) (q : Nat) : State × Option Nat :=
  match rqid with
  | some id => (s, some id)
  | none => s.rqStart q 1

/-- Start a frame's record in a queue, unless its lane began it, and let its PSDU reach its buffers; true where it goes on. -/
def State.startRecord (s : State) (f : LinkFrame) (q : Nat) : State × Bool :=
  match s.frameRecord f.rqid q with
  | (s1, none) => (s1.removeFrame f.id, false)
  | (s1, some id) =>
    match s1.rqReserve id (recordLen f) with
    | (s2, false) => (s2.removeFrame f.id, false)
    | (s2, true) => ((s2.rqPut id 32 (padTo (recordLen f - 32) f.psdu)).mapFrame f.id (fun x => { x with rqid := some id }), true)

/-- A frame's header is written, the closing word last (R284). -/
def State.closeRecord (s : State) (f : LinkFrame) : State :=
  match f.rqid with
  | some id => (((s.rqPut id 32 (padTo (recordLen f - 32) f.psdu)).rqPut id 0 (recordHeader f)).rqClose id).mapFrame f.id
      (fun x => { x with step := .commit })
  | none => s.removeFrame f.id

/-- Deliver a frame without a context (R215). -/
def State.deliverPlain (s : State) (f : LinkFrame) : State :=
  let s1 := s.mapFrame f.id (fun x => { x with noCtx := true, ackRad := 3, resid := none, handle := none })
  match s1.startRecord { f with noCtx := true } (s1.fld (F.RQ_SRC_QUEUE_NC f.radio)) with
  | (s2, true) =>
    match s2.frameOf f.id with
    | some g => s2.closeRecord g
    | none => s2
  | (s2, false) => s2

/-! ## Acknowledgements (R219 to R222) -/

/-- The key reference of a context. -/
def cxKeyRef (c : List Byte) : KeyRef := if cxWrapped c then .table (cxKey c) else .slot (cxKey c)
/-- MIC length of a context's key; 0 where there is no key. -/
def State.cxMic (s : State) (c : List Byte) : Nat :=
  match cxKeyRef c with
  | .slot n => (s.slotKey n).elim 0 Key.mic
  | r => match (s.findKey r).2 with | .key k => k.mic | .code _ => 0
/-- ACK_SEL of a context. -/
def cxAckSel (c : List Byte) : Nat := cxLcfg c / 4 % 4
/-- Target of Table 09-4: radio, chain, channel, mode. -/
def ackTarget (c : List Byte) (f : LinkFrame) : Nat × Nat × Nat × Nat :=
  if cxAckSel c = 1 then (min 2 (cxLcfg c / 16 % 4), cxLcfg c / 64 % 4, cxGet c 62 2, cxGet c 61 1)
  else if f.radio = 0 then (0, f.chain, (f.centre - 400000000) / 12500, f.mode)
  else if f.radio = 1 then (1, b2n f.rx.upper, (f.centre - 2400000000) / 1000000, f.mode)
  else (2, 0, (f.centre - 5000000000) / 5000000, f.mode)
/-- An acknowledgement is due for a frame (R220). -/
def ackDueFor (c : List Byte) (f : LinkFrame) : Bool := byteAt f.psdu 0 == 0x42 && cxAckSel c ≤ 1
/-- Bytes 0 to 27 of an acknowledgement (Table 09-3). -/
def ackBody (c : List Byte) (actr : Nat) : List Byte :=
  leBytes 1 0x4A ++ leBytes 1 0 ++ leBytes 4 (cxSid c) ++ leBytes 4 actr ++ leBytes 4 (cxHseq c) ++ leBytes 8 (cxWmap c) ++
  leBytes 1 (cxGet c 58 1) ++ leBytes 3 (cxGet c 50 3) ++ leBytes 2 (cxGet c 53 2)

/-- The default of the table of sealed acknowledgements. -/
def noSealed (_ : Nat) : List Byte := []
/-- The header bytes of the acknowledgement last sealed for a context: none where this power-up has sealed none. -/
def State.sealedBody (s : State) (h : Nat) : List Byte := SMap.get noSealed s.lnk.sealed h
/-- Keep the header bytes of a context's cached acknowledgement. -/
def State.keepSealed (s : State) (h : Nat) (b : List Byte) : State :=
  s.setLnk { s.lnk with sealed := SMap.set noSealed s.lnk.sealed h b }
/-- Before an acceptance changes a context, the acknowledgement it stands for is kept for resends still waiting. -/
def State.keepOld (s : State) (h : Nat) : State :=
  let c := s.ctx h
  if (s.sealedBody h).isEmpty && !cxStale c then s.keepSealed h (ackBody c (cxGet c 44 4)) else s

/-- Ask the cipher engine to seal an acknowledgement: fresh takes a new ACTR. -/
def State.askSeal (s : State) (f : LinkFrame) (h : Nat) (fresh due rec_ : Bool) : State :=
  let c := s.ctx h
  let (r, k, ch, m) := ackTarget c f
  let id := s.lnk.nextId
  let j : AckJob := ⟨id, h, fresh, ackBody c 0, due, r, k, ch, m, f.lastBit, if f.radio = 2 then some f.peer else none, 1, if rec_ then some f.id else none, none, some s.arb.nextId⟩
  (s.setLnk { s.lnk with acks := s.lnk.acks ++ [j], nextId := id + 1 }).addReq 24 0 .none (.sealAck id) 0 0 []

/-- Header bytes with an ACTR. -/
def withActr (b : List Byte) (v : Nat) : List Byte := cxSet b 6 4 v
/-- Seal an acknowledgement with a key: the status, and on OK the header bytes, the PSDU and its ACTR. An acceptance's is built as
that acceptance left the context; a resend is the last one sealed, byte for byte, or is built afresh where STALE is 1 (R219). A key
whose KMODE is not CCM* or GCM serves no SEAL (R309). -/
def State.sealAck (s : State) (j : AckJob) : State × CipherEnd × Option (List Byte × List Byte × Nat) :=
  let c := s.ctx j.handle
  let ref := cxKeyRef c
  match s.findKey ref with
  | (s1, .code e) => (s1, .code e, none)
  | (s1, .key k) =>
    if k.cwidth ≠ 0 ∨ (k.kmode ≠ 1 ∧ k.kmode ≠ 2) then (s1, .code .fault, none) else
    let made (x : State) (b0 : List Byte) (v : Nat) : State × CipherEnd × Option (List Byte × List Byte × Nat) :=
      let b := withActr b0 v
      (x, .code .ok, some (b, b ++ (sealWith k (NonceArgs.nonce ⟨false, 1, cxSid c, [], 0⟩ k v) b []).2, v))
    let body := if j.fresh then j.body else ackBody c 0
    if j.fresh || cxStale c then
      match s1.takeCtr (ref.record.getD 0) with
      | (s2, .exhausted) => (s2, .code .counterExhausted, none)
      | (s2, .returned) => (s2, .returned, none)
      | (s2, .value v) => made s2 body v
    else
      let b := s.sealedBody j.handle
      if b.isEmpty then made s1 body (cxGet c 44 4) else made s1 b (cxGet b 6 4)

/-! ## Classes (R216, R218) -/

/-- The class of a sequence number. -/
inductive SeqClass where
  | new_ | stale | repeat_
  deriving DecidableEq, Repr

/-- R216. -/
def seqClass (c : List Byte) (s : Nat) : SeqClass :=
  if cxHseq c < s then .new_
  else if 64 ≤ cxHseq c - s then .stale
  else if (cxWmap c).testBit (cxHseq c - s) then .repeat_ else .new_

/-- The window after an accepted sequence number (R217). -/
def cxAccept (c : List Byte) (s : Nat) : List Byte :=
  let h := cxHseq c
  if h < s then
    cxSet (cxSet c 8 8 (if 64 ≤ s - h then 1 else (cxWmap c * 2 ^ (s - h)) % 2 ^ 64 + 1)) 4 4 s
  else cxSet c 8 8 (cxWmap c ||| 2 ^ (h - s))

/-- A REPEAT: counted, rewound, and answered where R222 says. -/
def State.repeatFrame (s : State) (f : LinkFrame) (h : Nat) : State :=
  let c := s.ctx h
  let s1 := (s.dropFrame f).count F.LNK_COUNT0_DUPLICATE
  let (sq, lb) := SMap.get (fun _ => (0, 0)) s.lnk.last (64 * h + f.seq % 64)
  let near := (byteAt f.psdu 1).getLsbD 0 && sq == f.seq && lb != 0 &&
    decide (f.lastBit ≤ lb + s.fld F.LNK_CFG_COPY_SPAN * 1000 * usU)
  if ackDueFor c f && !near then s1.askSeal f h false true false else s1

/-- Another data frame of the same context and SEQ is between steps 2 and 4. An acknowledgement's header holds ACTR, not SEQ
(Table 09-3), so a frame of LTYPE 0x4A is no copy of one (DEDUCED, log entry 117). -/
def State.copyAhead (s : State) (f : LinkFrame) (h : Nat) : Bool :=
  s.lnk.frames.any (fun x => x.id != f.id && x.handle == some h && x.seq == f.seq && byteAt x.psdu 0 != 0x4A &&
    (x.step == .opening || x.step == .opened || x.step == .held))

/-- Go to the cipher engine (step 3). -/
def State.toCipher (s : State) (id : Nat) : State :=
  let s1 := s.mapFrame id (fun x => { x with step := .opening, req := some s.arb.nextId })
  s1.addReq 24 0 .none (.openFrame id) 0 0 []

/-- The class of a frame whose context is at hand (R215, R216, R218). -/
def State.classWith (s : State) (f0 : LinkFrame) (h : Nat) : State :=
  let c := s.ctx h
  let seq := leNat ((f0.psdu.drop 6).take 4)
  let f := { f0 with handle := some h, seq := seq }
  let bad := (byteAt f.psdu 1).toNat / 8 != 0 || decide (f.psdu.length < 10 + s.cxMic c) ||
    (f.radio == 2 && (!cxPeer c || cxSid c != leNat ((f.psdu.drop 2).take 4)))
  let s0 := (s.touchCtx h).mapFrame f.id (fun _ => f)
  match s0.startRecord f (s0.fld (F.RQ_SRC_QUEUE f.radio)) with
  | (s1, false) => if bad then s1.count F.LNK_COUNT0_MALFORMED else s1
  | (s1, true) =>
    match s1.frameOf f.id with
    | none => s1
    | some g =>
      if bad then (s1.dropFrame g).count F.LNK_COUNT0_MALFORMED
      else if byteAt g.psdu 0 = 0x4A then s1.toCipher g.id
      else match seqClass c seq with
        | .stale => (s1.dropFrame g).count F.LNK_COUNT0_STALE
        | .repeat_ => s1.repeatFrame g h
        | .new_ =>
          if s1.copyAhead g h then
            (if 32 ≤ s1.heldCopies then (s1.dropFrame g).count F.LNK_COUNT1_HOLD_DROP
             else s1.mapFrame g.id (fun x => { x with step := .held }))
          else s1.toCipher g.id

/-- Ticks since an instant. -/
def State.ticksAgo (s : State) (t : Nat) : Nat := (s.now - t) / max 1 (s.incr s.cur)
/-- A frame comes before another: by the tick of its last bit, then radio, then lane (R218). -/
def State.comesBefore (s : State) (f g : LinkFrame) : Bool :=
  if s.ticksAgo f.lastBit ≠ s.ticksAgo g.lastBit then decide (s.ticksAgo g.lastBit < s.ticksAgo f.lastBit)
  else if f.radio ≠ g.radio then decide (f.radio < g.radio) else decide (f.lane < g.lane)
/-- The first frame in that order. -/
def State.firstFrame (s : State) : List LinkFrame → Option LinkFrame
  | [] => none
  | f :: fs =>
    match s.firstFrame fs with
    | none => some f
    | some g => if s.comesBefore g f then some g else some f

/-- A MALFORMED frame: counted, and the record it began rewound (R215, R285). -/
def State.malformed (s : State) (f : LinkFrame) : State :=
  ((s.endRecord (s.fld (F.RQ_SRC_QUEUE f.radio)) (f.rqid.map some) f.psdu.length).removeFrame f.id).count F.LNK_COUNT0_MALFORMED

/-- A frame whose handle the index names: without a valid context there it has none (R215), else it is classed once its context is at
hand. -/
def State.classKnown (s : State) (f : LinkFrame) (h : Nat) : State :=
  if !cxValid (s.ctx h) then
    (if f.radio = 2 then s.malformed f
     else (s.count F.LNK_COUNT0_NO_CONTEXT).deliverPlain f)
  else if s.lnk.cache.contains h then s.classWith f h
  else s.mapFrame f.id (fun x => { x with step := .fetch, handle := some h })

/-- LINK_HEADER_CLASSIFY: the first frame at step 2 (R215, R228); it waits while the arbiter holds 32 requests of the link unit. -/
def State.classify (s : State) : State :=
  match s.firstFrame (s.lnk.frames.filter (fun f => f.step == .lookup && f.req.isNone)) with
  | none => s
  | some f =>
    let lt := (byteAt f.psdu 0).toNat
    let sid := leNat ((f.psdu.drop 2).take 4)
    if 32 ≤ s.outstanding 24 then s
    else if !s.fnOn 16 0 0 || f.psdu.isEmpty || lt / 16 != 4 then s.deliverPlain f
    else if (lt ≠ 0x41 ∧ lt ≠ 0x42 ∧ lt ≠ 0x4A) ∨ f.psdu.length < 6 then
      s.malformed f
    else
      let s1 := if f.radio = 2 then s else s.meetSid sid
      if f.radio ≠ 2 ∧ s1.ldg.indexRebuild then s1 else
      match s1.linkHandle f.radio f.peer sid with
      | none => (s1.count F.LNK_COUNT0_NO_CONTEXT).deliverPlain f
      | some h => (s1.meetCtx h).classKnown f h

/-- CONTEXT_FETCH_DONE: the first frame that waits for a context has it. -/
def State.fetchDone (s : State) : State :=
  match s.firstFrame (s.lnk.frames.filter (fun f => f.step == .fetch)) with
  | none => s
  | some f =>
    match f.handle with
    | some h => if 32 ≤ s.outstanding 24 then s else (s.mapFrame f.id (fun x => { x with step := .lookup })).classWith { f with step := .lookup } h
    | none => s

/-! ## Step 3 (R319) -/

/-- Authenticate and decrypt a frame; a key whose KMODE is not CCM* or GCM serves no OPEN (R309). -/
def State.openFrame (s : State) (f : LinkFrame) (h : Nat) : State × Status × List Byte :=
  let c := s.ctx h
  match s.findKey (cxKeyRef c) with
  | (s1, .code e) => (s1, e, [])
  | (s1, .key k) =>
    if k.kmode ≠ 1 ∧ k.kmode ≠ 2 then (s1, .fault, []) else
    let n := f.psdu.length - 10 - k.mic
    let hdr := f.psdu.take 10
    let tag := f.psdu.drop (10 + n)
    match openWith k (NonceArgs.nonce ⟨false, 0, cxSid c, [], 0⟩ k f.seq) hdr ((f.psdu.drop 10).take n) tag with
    | some p => (s1, .ok, hdr ++ p ++ tag)
    | none => (s1.count F.CPH_COUNT_AUTH_FAIL, .authFail, [])

/-- A granted link request runs in the cipher engine; true where it stays with the engine. -/
def State.linkCipher (s : State) (q : SvcReq) : State :=
  match q.job with
  | .openFrame id =>
    match s.frameOf id with
    | none => s.endReq q.id .ok
    | some f =>
      let (s1, st, p) := s.openFrame f (f.handle.getD 0)
      (if st = .ok then s1.mapFrame id (fun x => { x with psdu := p }) else s1).endReq q.id st
  | .sealAck id =>
    match s.lnk.acks.find? (fun j => j.id == id) with
    | none => s.endReq q.id .ok
    | some j =>
      match s.sealAck j with
      | (s1, .returned, _) => s1.returnReq q
      | (s1, .code st, some (b, p, v)) =>
        let s2 := if j.fresh || cxStale (s1.ctx j.handle) then
            (s1.setCtx j.handle (cxSetStale (cxSet (s1.ctx j.handle) 44 4 v) false)).keepSealed j.handle b else s1
        (s2.setLnk { s2.lnk with acks := s2.lnk.acks.map (fun x => if x.id == id then { x with psdu := some p } else x) }).endReq q.id st
      | (s1, .code st, none) =>
        (if j.fresh then s1.setCtx j.handle (cxSetStale (s1.ctx j.handle) true) else s1).endReq q.id st
  | _ => s

/-! ## Step 4 to 6 (R217, R223 to R225) -/

/-- The lead of R224 in 1/16 ns. -/
def contactLead (c : List Byte) (radio mode : Nat) : Nat :=
  16 * (if radio = 0 then 8000 * cxGet c 48 2 else if mode = 0x40 then 160000 else if mode = 0x50 then 40000 else 24000)

/-- The watched window that makes a frame a contact (R224). -/
def State.contactWindow (s : State) (c : List Byte) (f : LinkFrame) (h : Nat) : Option DrlWatch :=
  if cxPeer c || (byteAt f.psdu 1).getLsbD 1 then none
  else s.lnk.watch.find? (fun w => w.radio == f.radio && w.handle == h && decide (w.opens ≤ f.arrival) && decide (f.arrival < w.closes))

/-- Journal a frame's context (step 6): request 24 to the ledger engine. -/
def State.askJournal (s : State) (id h : Nat) : State :=
  let s1 := s.mapFrame id (fun x => { x with step := .journal, req := some s.arb.nextId })
  s1.addReq 24 1 .none (.frameEntry id) 0 0 [ctxItem h (s1.ctx h)]

/-- The copies held behind a frame that was accepted: each is a REPEAT. -/
def State.repeatHeld (s : State) (f : LinkFrame) (h : Nat) : State :=
  (s.lnk.frames.filter (fun x => x.step == .held && x.handle == some h && x.seq == f.seq)).foldl
    (fun s x => s.repeatFrame x h) s

/-- The copies held behind a frame that was STALE at step 4: each is STALE in its turn (DEDUCED, log entry 118). -/
def State.staleHeld (s : State) (f : LinkFrame) (h : Nat) : State :=
  (s.lnk.frames.filter (fun x => x.step == .held && x.handle == some h && x.seq == f.seq)).foldl
    (fun s x => (s.dropFrame x).count F.LNK_COUNT0_STALE) s

/-- The oldest held copy goes on in the place of a frame that failed. -/
def State.promoteHeld (s : State) (f : LinkFrame) : State :=
  match s.lnk.frames.find? (fun x => x.step == .held && x.handle == f.handle && x.seq == f.seq) with
  | some x => s.toCipher x.id
  | none => s

/-- An authenticated frame that is NEW is accepted. -/
def State.acceptFrame (s : State) (f : LinkFrame) (h : Nat) : State :=
  let c0 := s.ctx h
  let learn := s.fnOn 15 0 0
  let c1 := if learn && !cxPeer c0 && (byteAt f.psdu 1).getLsbD 2 && cxPending c0 then cxApplyAdj c0 else c0
  let c2 := cxAccept c1 f.seq
  let w := s.contactWindow c2 f h
  let (c3, resid, reset) : List Byte × Option Int × Bool := match w with
    | some x =>
      if learn then s.driftUpdate c2 (((f.arrival : Int) - x.t) / 2 ^ 28 - contactLead c2 f.radio f.mode) (uncCode f.rx.unc.toNat) x.t
      else (c2, none, false)
    | none => (c2, none, false)
  let due := ackDueFor c3 f
  let s1 := (s.keepOld h).setCtx h c3
  let s2 := match w with
    | some x => s1.setLnk { s1.lnk with watch := s1.lnk.watch.map (fun y => if y = x then { y with contact := true } else y) }
    | none => s1
  let s3 := if learn && w.isSome then s2.count F.DRL_COUNT_CONTACTS else s2
  let s4 := if reset then s3.count F.DRL_COUNT_RESETS else s3
  let s5 := s4.setLnk { s4.lnk with last := SMap.set (fun _ => (0, 0)) s4.lnk.last (64 * h + f.seq % 64) (f.seq, f.lastBit) }
  let rad := if due then (ackTarget c3 f).1 else 3
  let s6 := s5.mapFrame f.id (fun x => { x with step := .sealing, resid := resid, ackDue := due, ackRad := rad })
  (s6.askSeal f h true due true).repeatHeld f h

/-- FRAME_ACCEPT: the first authenticated frame is classed again. -/
def State.frameAccept (s : State) : State :=
  match s.lnk.frames.find? (fun f => f.step == .opened) with
  | none => s
  | some f =>
    let h := f.handle.getD 0
    if byteAt f.psdu 0 = 0x4A then s.closeRecord f
    else match seqClass (s.ctx h) f.seq with
      | .stale => ((s.dropFrame f).count F.LNK_COUNT0_STALE).staleHeld f h
      | .repeat_ => (s.repeatFrame f h).repeatHeld f h
      | .new_ => s.acceptFrame f h

/-! ## Completion of the link unit's requests -/

/-- An acknowledgement that failed to seal, or is not to be sent, is gone; one that was due counts as missed. -/
def State.sealEnded (s : State) (id : Nat) : State :=
  match s.lnk.acks.find? (fun j => j.id == id) with
  | none => s
  | some j =>
    let s1 := if !j.due then s.setLnk { s.lnk with acks := s.lnk.acks.filter (fun x => x.id != id) }
      else if j.psdu.isNone then
        (s.setLnk { s.lnk with acks := s.lnk.acks.filter (fun x => x.id != id) }).count F.LNK_COUNT1_ACK_MISSED
      else s
    match j.frame with
    | some fid => s1.askJournal fid j.handle
    | none =>
      if s1.lnk.dirty.any (fun d => d.1 == j.handle) then
        s1.addReq 24 1 .none .lnkEntry 0 0 [ctxItem j.handle (s1.ctx j.handle)]
      else s1

/-- The entry of a context is durable: the cached change is the ledger's, unless a later one is under way. -/
def State.entryDurable (s : State) (items : List (Nat × List Nat)) : State :=
  s.setLnk { s.lnk with dirty := s.lnk.dirty.filter (fun d => !items.contains (ctxItem d.1 d.2)) }

/-- A completed request of the link unit drives its frame on. -/
def State.linkDone (s : State) (q : SvcReq) (status : Nat) : State :=
  match q.job with
  | .openFrame id =>
    match s.frameOf id with
    | none => s
    | some f =>
      if status = 0 then s.mapFrame id (fun x => { x with step := .opened, req := none })
      else (s.dropFrame f).promoteHeld f
  | .sealAck id => s.sealEnded id
  | .frameEntry id =>
    let s1 := if status = 0 then s.entryDurable q.items else s
    match s1.frameOf id with
    | some f => if status = 0 then s1.closeRecord f else s1.dropFrame f
    | none => s1
  | .lnkEntry =>
    let s1 := if status = 0 then s.entryDurable q.items else s
    if s1.lnk.cmd.any (fun c => c.1 == q.id) then s1.setFld F.LNK_CMD_STATUS status else s1
  | .desc => s

/-- A frame's record has been committed (or rewound at the commit): the frame is done; acknowledgements may follow a commit. -/
def State.commitFrame (s : State) (f : LinkFrame) : State :=
  match f.rqid with
  | none => s.removeFrame f.id
  | some id =>
    let before := match s.rqRec id with | some r => s.fld (F.RQ_PTR_A_COMMIT r.queue) | none => 0
    let q := match s.rqRec id with | some r => r.queue | none => 0
    let s1 := s.rqCommit id
    let ok := s1.fld (F.RQ_PTR_A_COMMIT q) != before
    let s2 := if ok then s1.setLnk { s1.lnk with acks := s1.lnk.acks.map (fun j =>
        if j.frame = some f.id then { j with frame := none } else j) } else s1
    s2.removeFrame f.id

/-- RECORD_COMMIT: the first record whose closing word has landed. -/
def State.commitNext (s : State) : State :=
  match s.rq.recs.find? (fun r => r.closed) with
  | none => s
  | some r =>
    match s.lnk.frames.find? (fun f => f.rqid == some r.id) with
    | some f => s.commitFrame f
    | none => s.rqCommit r.id

/-! ## ACK_OPPORTUNITY (R220, R221) -/

/-- An acknowledgement as a command of its chain. -/
def State.ackCmd (s : State) (j : AckJob) (port : Nat) : QCmd :=
  let power := if j.radio = 0 then s.fld F.LNK_ACKPWR_POWER_S else if j.radio = 1 then s.fld F.LNK_ACKPWR_POWER_M
    else s.fld F.LNK_ACKPWR_POWER_H
  { op := 1, recAt := none, lbt := false, evt := false, doneEv := 0, chan := j.chan, mode := j.mode, power := power, port := port,
    window := 0, buf := 0, len := (j.psdu.getD []).length + (modeInfo j.radio j.mode).elim 2 ModeInfo.fcs, arg := 0, pre := none,
    slot := none, ack := some j.id, moved := false, regOk := false, lockOk := false, lbtOk := false, path := false, passed := false,
    resv := none, paReg := none, peer := j.peer }

/-- The port time of an opportunity. -/
def State.ackPort (s : State) (j : AckJob) : Nat :=
  let c := s.ctx j.handle
  if j.opp = 2 then j.lastBit + s.fld F.LNK_CFG_ACK2 * 1000 * usU
  else if cxAckSel c = 1 then j.lastBit + max 100 (s.fld F.LNK_CFG_ALT_DELAY) * usU
  else if (s.chain j.radio j.chain).stands j.radio true j.chan (galeWidth j.mode) then j.lastBit + 24 * usU
  else j.lastBit + 100 * usU

/-- The first due acknowledgement that is not in a queue is placed, or its opportunity is not sent. -/
def State.ackOpportunity (s : State) : State :=
  let placed (j : AckJob) : Bool := (s.chain j.radio j.chain).queue.any (fun q => q.ack == some j.id) ||
    (match (s.chain j.radio j.chain).act with | some a => a.cmd.ack == some j.id | none => false)
  let late (j : AckJob) : Bool := decide (s.ackPort j < s.now + pathTime j.radio)
  match s.lnk.acks.find? (fun j => j.due && !placed j && (late j || j.psdu.isSome)) with
  | none => s
  | some j =>
    let q := s.ackCmd j (s.ackPort j)
    if late j || (modeInfo j.radio j.mode).isNone || s.ackBlocked j.radio j.chain q || (j.opp == 1 && s.cmdLbt j.radio q) then s.ackFailed j.id
    else s.enqueue j.radio j.chain q

/-! ## Context commands (R229) -/

/-- An occurrence for a handle is in use (R204, R229). -/
def State.handleInUse (s : State) (h : Nat) : Bool :=
  s.lnk.frames.any (fun f => f.handle == some h) || (List.range 3).any (fun r => s.occUses r h)

/-- The image in LNK_DATA. -/
def State.lnkData (s : State) : List Byte := ((List.range 16).map (fun i => leBytes 4 (s.reg (R.LNK_DATA i)).toNat)).flatten

/-- The code of a context command. -/
def State.ctxCode (s : State) (op : Nat) : Status :=
  let h := s.fld F.LNK_HANDLE_HANDLE
  let c := s.ctx h
  let d := s.lnkData
  if s.lnk.cmd.isSome || s.handleInUse h then .busy
  else if op = 0 ∨ 5 < op ∨ 262143 < h then .fault
  else match op with
    | 1 => if cxValid c || (s.handleOf (cxSid d)).isSome || cxSid d == 0 || cxSid d == 0xFFFFFFFF then .fault
           else if (s.sidPlace (cxSid d) h).isNone then .noBuffer else .ok
    | 2 | 5 => if cxValid c then .ok else .fault
    | 4 => if !cxValid c || cxValid d != cxValid c || cxPeer d != cxPeer c then .fault else .ok
    | _ => .ok

/-- The image that SETCFG leaves: bytes 48 and 49 and 55 to 63, but DSTATE, MISSES and CONTACTS. -/
def cxSetCfg (c d : List Byte) : List Byte :=
  let c1 := c.take 48 ++ (d.drop 48).take 2 ++ (c.drop 50).take 5 ++ (d.drop 55).take 4 ++ (c.drop 59).take 1 ++ d.drop 60
  let stale := (cxStale d) || cxGet d 58 1 != cxGet c 58 1
  cxSetStale c1 stale

/-- A command whose code is OK: its image, and the journal items of its entry. -/
def State.ctxEffect (s : State) (op h : Nat) : List Byte × List (Nat × List Nat) :=
  let c := s.ctx h
  let d := s.lnkData
  match op with
  | 1 =>
    let d1 := cxSet d 60 1 (cxLcfg d ||| 1)
    (d1, ctxItem h d1 :: (s.sidPlace (cxSid d) h).toList)
  | 2 => let c1 := cxSet c 60 1 (cxLcfg c - cxLcfg c % 2); (c1, ctxItem h c1 :: s.sidRemove (cxSid c))
  | 4 => let c1 := cxSetCfg c d; (c1, [ctxItem h c1])
  | _ => let c1 := cxResetDrift c true; (c1, [ctxItem h c1])

/-- What a context command's reads meet; a lookup waits until the index is rebuilt (Table 15-10). -/
def State.ctxMeets (s : State) (op : Nat) : State :=
  let h := s.fld F.LNK_HANDLE_HANDLE
  let s1 := s.meetCtx h
  if op = 1 ∨ op = 2 then
    let s2 := s1.meetSid (if op = 1 then cxSid s1.lnkData else cxSid (s1.ctx h))
    if s2.ldg.indexRebuild then s2.rebuildIndex else s2
  else s1
/-- A context command: decided, and carried to the ledger; READ completes at once. -/
def State.ctxRun (s : State) (op : Nat) : State :=
  let h := s.fld F.LNK_HANDLE_HANDLE
  match s.ctxCode op with
  | .ok =>
    if op = 3 then
      let c := s.ctx h
      ((List.range 16).foldl (fun s i => s.setReg (R.LNK_DATA i) (BitVec.ofNat 32 (cxGet c (4 * i) 4))) s).setFld F.LNK_CMD_STATUS 0
    else
      let (c, items) := s.ctxEffect op h
      let s0 := if op = 1 then (s.setCtx h c).keepSealed h [] else s.setCtx h c
      let s1 := s0.setLnk { s0.lnk with cmd := some (s.arb.nextId, h) }
      (s1.addReq 24 1 .none .lnkEntry 0 0 items).setFld F.LNK_CMD_BUSY 1
  | st => s.setFld F.LNK_CMD_STATUS st.code

/-- A write of LNK_CMD. -/
def State.ctxCmd (s : State) (op : Nat) : State := if op = 0 then s else (s.ctxMeets op).ctxRun op

/-- How the request of a link command has ended, if it has; one already reported left its status in LNK_CMD. -/
def State.ctxEnd (s : State) (id : Nat) : Option Nat :=
  match s.reqOf id with
  | some q => (match q.phase with | .ended st => some st | .written => some (s.fld F.LNK_CMD_STATUS) | _ => none)
  | none => some (s.fld F.LNK_CMD_STATUS)

/-- LNK_CMD_COMPLETE: the command's entry has ended; its status is the command's. -/
def State.ctxDone (s : State) : State :=
  match s.lnk.cmd with
  | none => s
  | some (id, _) =>
    match s.ctxEnd id with
    | some st => ((s.setLnk { s.lnk with cmd := none }).setFld F.LNK_CMD_BUSY 0).setFld F.LNK_CMD_STATUS st
    | none => s

end Sys2Proof.Machine
end

