-- ==== Sys2Proof/Machine/Traffic.lean ====
section
/-!
DEFINITION. The traffic manager (R253 to R264): queues and admission, shapers and the timing wheel, slalom lists, the choice of
the next queue, depth samples; and the rings of the chapter (R265).
-/
namespace Sys2Proof.Machine

/-- Replace the traffic manager. -/
def State.setTm (s : State) (t : TmState) : State := { s with tm := t }

/-! ## Rings (R265) -/

/-- SIZE of the ring whose registers begin at an address. -/
def State.ringSize (s : State) (a : Nat) : Nat := s.fld ⟨a + 8, 15, 0⟩
/-- HW. -/
def State.ringHw (s : State) (a : Nat) : Nat := s.fld ⟨a + 12, 15, 0⟩
/-- SW. -/
def State.ringSw (s : State) (a : Nat) : Nat := s.fld ⟨a + 12, 31, 16⟩
/-- The base address of a ring. -/
def State.ringBase (s : State) (a : Nat) : Nat := s.fld ⟨a, 31, 6⟩ * 64 + s.fld ⟨a + 4, 31, 0⟩ * 2 ^ 32
/-- Advance HW by n units. -/
def State.ringStep (s : State) (a n : Nat) : State := s.setFld ⟨a + 12, 15, 0⟩ ((s.ringHw a + n) % max 1 (s.ringSize a))
/-- Units between HW and SW: filled ones of a software-filled ring. -/
def State.ringFilled (s : State) (a : Nat) : Nat :=
  let n := s.ringSize a
  if n = 0 then 0 else (s.ringSw a + n - s.ringHw a % n) % n
/-- Free units of a module-filled ring. -/
def State.ringFree (s : State) (a : Nat) : Nat :=
  let n := s.ringSize a
  if n = 0 then 0 else n - 1 - (s.ringHw a + n - s.ringSw a % n) % n
/-- A ring on the module has BASE bits [63:40] 0 and lies in DRAM or the scratchpad; one of SIZE 0 covers no bytes. -/
def State.ringOk (s : State) (a unit : Nat) : Bool :=
  decide (s.ringBase a < 2 ^ 40) && (s.ringSize a == 0 || inNormal (s.ringBase a) (unit * s.ringSize a))

/-! ## Queues (R253 to R255) -/

/-- Global queue number g. -/
def State.tq (s : State) (g : Nat) : TmQueue := SMap.get (fun _ => TmQueue.reset) s.tm.queues g
/-- Replace a queue. -/
def State.setTq (s : State) (g : Nat) (q : TmQueue) : State :=
  s.setTm { s.tm with queues := SMap.set (fun _ => TmQueue.reset) s.tm.queues g q }
/-- Physical port of a logical port; 7 for none. -/
def State.physOfPort (s : State) (p : Nat) : Nat := if p < 8 then p else s.fld (F.RTR_PORT_PHYS p)
/-- MAX_FRAME in use. -/
def State.maxFrame (s : State) : Nat := max 1518 (min 9600 (s.fld F.TM_FRAME_MAX_FRAME))
/-- Cells of a frame of n bytes without FCS. -/
def cellsOf (n : Nat) : Nat := (n + 4 + 255) / 256
/-- Cells that a queue holds. -/
def TmQueue.cells (q : TmQueue) : Nat := q.frames.foldl (fun n f => n + cellsOf f.data.length) 0
/-- Cells in use. -/
def State.cellsUsed (s : State) : Nat := s.tm.queues.foldl (fun (n : Nat) (q : Nat × TmQueue) => n + q.2.cells) 0
/-- OVERHEAD of a logical port in use, −64 to 63. -/
def State.overhead (s : State) (p : Nat) : Int := max (-64) (min 63 (sgn 8 (s.fld (F.TM_PORT_OVERHEAD p))))
/-- L of R254 for a packet of n bytes without FCS. -/
def State.measured (s : State) (p n : Nat) : Nat := (max 1 ((n : Int) + 4 + s.overhead p)).toNat

/-- NT in units of 2^-8 ns. -/
def ntFine (u : Nat) : Nat := u / 2 ^ 24
/-- µs in units of 2^-8 ns. -/
def usFine : Nat := 256000

/-- A frame reaches the head of a queue: a shaped queue gets E and TAT, and parks until E (R258, R259). -/
def State.newHead (s : State) (g : Nat) : State :=
  let q := s.tq g
  let rate := q.shape.toNat / 256
  match q.frames with
  | [] => s.setTq g { q with parked := none }
  | f :: _ =>
    if rate = 0 then s.setTq g { q with parked := none } else
    let t := ntFine s.now
    let tau := q.shape.toNat % 256 * 1024 * 8 * 256000000 / rate
    let e := max t (q.tat - tau)
    let tat := max q.tat e + s.measured (g / 16) f.data.length * 8 * 256000000 / rate
    s.setTq g { q with tat := tat, parked := if e ≤ t then none else some (e, decide (4096 * usFine ≤ e - t)) }

/-- A dropped frame. -/
def TmQueue.dropOne (q : TmQueue) : TmQueue := { q with drops := satAdd 255 q.drops 1, lost := satAdd 65535 q.lost 1 }

/-- Enqueue a packet of the router (R255). -/
def State.enqueueTm (s : State) (p i : Nat) (data : List Byte) : State :=
  let g := 16 * p + i
  let q := s.tq g
  let c := cellsOf data.length
  if q.cells + c ≤ q.cfg.toNat % 2 ^ 15 ∧ s.cellsUsed + c ≤ 16384 ∧ data.length + 4 ≤ s.maxFrame then
    let q1 := { q with frames := q.frames ++ [⟨data, s.now⟩], peak := max q.peak (q.cells + c) }
    let s1 := s.setTq g q1
    if q.frames.isEmpty then s1.newHead g else s1
  else s.setTq g q.dropOne

/-- Take the head of a queue as it starts; lead is how long from now its first byte leaves (R264), none for a frame that is not
sent. -/
def State.takeHead (s : State) (g : Nat) (lead : Option Nat) : State :=
  let q := s.tq g
  match q.frames with
  | [] => s
  | f :: fs =>
    let d := match lead with | some n => max q.maxDelay ((s.now + n - f.at_) / nsU) | none => q.maxDelay
    (s.setTq g { q with frames := fs, maxDelay := d }).newHead g

/-- Drop the head of a queue. -/
def State.dropHead (s : State) (g : Nat) : State :=
  let q := s.tq g
  (s.setTq g { q.dropOne with frames := q.frames.drop 1 }).newHead g

/-- WHEEL_ADVANCE: every queue whose slot the wheel reaches is unparked; as it passes slot 0, queues of the overflow ring
whose E lies less than 4,096 µs ahead move in. -/
def State.wheelAdvance (s : State) : State :=
  let t := s.now / usU
  let passed := s.tm.wheelAt / 4096 != t / 4096
  let turn (q : TmQueue) : TmQueue :=
    match q.parked with
    | some (e, ring) =>
      let inRing := ring && !(passed && decide (e < ntFine s.now + 4096 * usFine))
      if !inRing && decide ((e + usFine - 1) / usFine ≤ t) then { q with parked := none } else { q with parked := some (e, inRing) }
    | none => q
  let s1 := s.tm.queues.foldl (fun (s : State) (g : Nat × TmQueue) => s.setTq g.1 (turn (s.tq g.1))) s
  s1.setTm { s1.tm with wheelAt := t }

/-- Queues in the wheel or the ring. -/
def State.parkedCount (s : State) : Nat :=
  (s.tm.queues.filter (fun (q : Nat × TmQueue) => q.2.parked.isSome)).length

/-! ## Slalom lists (R260 to R263) -/

/-- Memory m of port j: its 64-bit entry at an index. -/
def State.gateWord (s : State) (j m i : Nat) : Nat := SMap.get (fun _ => 0) s.tm.gates ((2 * j + m) * 512 + i)
/-- Memory in the active view of port j. -/
def State.gateActive (s : State) (j : Nat) : Nat := SMap.get (fun _ => 0) s.tm.active j
/-- COUNT of a memory. -/
def State.gateCount (s : State) (j m : Nat) : Nat := s.gateWord j m 258 % 512
/-- CYCLE of a memory in units. -/
def State.gateCycle (s : State) (j m : Nat) : Nat := s.gateWord j m 257 / 2 ^ 32 % 2 ^ 30 * nsU
/-- BASE of a memory in units. -/
def State.gateBase (s : State) (j m : Nat) : Nat := s.gateWord j m 256 % 2 ^ 48 * secU + s.gateWord j m 257 % 2 ^ 30 * nsU
/-- Start of the list in force. -/
def State.gateStart (s : State) (j : Nat) : Nat := SMap.get (fun _ => 0) s.tm.starts j
/-- A pending start: S and the swap slot it closes. -/
def State.gateNext (s : State) (j : Nat) : Option (Nat × Nat) := SMap.get (fun _ => none) s.tm.next j
/-- The memory of the list in force: the old one while a new list is pending. -/
def State.gateMem (s : State) (j : Nat) : Nat := if (s.gateNext j).isSome then 1 - s.gateActive j else s.gateActive j
/-- Send mask of an entry: QOPEN, and DOPEN as bit 16. -/
def gateMask (e : Nat) : Nat := e / 2 ^ 32 % 2 ^ 17

/-- The gates of a memory over one cycle as (start, end, mask): cut at CYCLE, the last extended to it. -/
def gateSegs (cycle : Nat) (at_ : Nat) : List Nat → List (Nat × Nat × Nat)
  | [] => []
  | [e] => if at_ < cycle then [(at_, cycle, gateMask e)] else []
  | e :: es =>
    let n := at_ + e % 2 ^ 30 * nsU
    if at_ < cycle then (at_, min n cycle, gateMask e) :: gateSegs cycle n es else []

/-- The gates of memory m of port j. -/
def State.segs (s : State) (j m : Nat) : List (Nat × Nat × Nat) :=
  gateSegs (s.gateCycle j m) 0 ((List.range (s.gateCount j m)).map (s.gateWord j m))

/-- How long the gates stay open from the front of a list of gates, from position x. -/
def openFront (bit x : Nat) : List (Nat × Nat × Nat) → Nat
  | [] => 0
  | (a, b, m) :: gs => if m.testBit bit then (b - max a x) + openFront bit 0 gs else 0

/-- The open run of a bit from position x: none when it never closes. -/
def openRun (segs : List (Nat × Nat × Nat)) (cycle bit x : Nat) : Option Nat :=
  if segs.all (fun g => g.2.2.testBit bit) then none
  else some (min cycle (openFront bit x (segs.filter (fun g => decide (x < g.2.1))) +
    (if (segs.filter (fun g => decide (x < g.2.1))).all (fun g => g.2.2.testBit bit) then openFront bit 0 segs else 0)))

/-- Open time of a bit in the list of memory m that started at S, from NT t; none when it never closes. -/
def State.openFor (s : State) (j m start bit t : Nat) : Option Nat :=
  let c := s.gateCycle j m
  if s.gateCount j m = 0 ∨ c = 0 then none
  else openRun (s.segs j m) c bit ((((t : Int) - start) % (c : Int)).toNat)

/-- The gate of a bit is open at NT t (R260), or by the coarse settings (R263). -/
def State.gateOpen (s : State) (j bit t : Nat) : Bool :=
  if s.coarse then
    (if bit = 16 then s.bit (F.TM_SL_CFG_COARSE_DOPEN j) else bitOf (s.fld (F.TM_SL_CFG_COARSE_MASK j)) bit)
  else match s.openFor j (s.gateMem j) (s.gateStart j) bit t with | none => true | some n => n != 0

/-- A tenfold airtime ends within n units. -/
def within (air10 : Nat) : Option Nat → Bool
  | none => true
  | some n => decide (air10 ≤ 10 * n)

/-- A frame of a tenfold airtime fits the gates at NT t (R261): the list in force up to a pending start, the new one from it. -/
def State.fitsGates (s : State) (j bit t air10 : Nat) : Bool :=
  if s.coarse then s.gateOpen j bit t else
  let run := s.openFor j (s.gateMem j) (s.gateStart j) bit t
  match s.gateNext j with
  | some (st, _) =>
    if t < st ∧ 10 * (st - t) < air10 then
      within (10 * (st - t)) run && within (air10 - 10 * (st - t)) (s.openFor j (s.gateActive j) st bit st)
    else s.gateOpen j bit t && within air10 run
  | none => s.gateOpen j bit t && within air10 run

/-- No open run of the whole cycle holds the airtime (R261). -/
def State.neverFits (s : State) (j bit air10 : Nat) : Bool :=
  let m := s.gateMem j
  let sg := s.segs j m
  !s.coarse && decide (0 < s.gateCount j m) && sg.all (fun g => !within air10 (openRun sg (s.gateCycle j m) bit g.1))

/-- A list breaks Table 11-2. -/
def State.listBad (s : State) (j m : Nat) : Bool :=
  let c := s.gateWord j m 257 / 2 ^ 32 % 2 ^ 30
  decide (256 < s.gateCount j m) || decide (999999999 < s.gateWord j m 257 % 2 ^ 30) || decide (c < 1000 ∨ 1000000000 < c) ||
    (List.range (s.gateCount j m)).any (fun i =>
      let n := s.gateWord j m i % 2 ^ 30
      n == 0 || decide (1000000000 < n))

/-- The first boundary BASE + k × CYCLE at or after t. -/
def boundaryAfter (base cycle t : Nat) : Nat := if t ≤ base then base else base + (t - base + cycle - 1) / cycle * cycle

/-- Exchange the memories of port j. -/
def State.exchange (s : State) (j : Nat) : State :=
  s.setTm { s.tm with active := SMap.set (fun _ => 0) s.tm.active j (1 - s.gateActive j) }

/-- PENDING and COUNT of a port as they read. -/
def State.slStat (s : State) (j : Nat) : State :=
  (s.setFld (F.TM_SL_STAT_PENDING j) (b2n (s.gateNext j).isSome)).setFld (F.TM_SL_STAT_COUNT j) (s.gateCount j (s.gateActive j))

/-- The swap of the list of port j on a tick, for a slot and its swap NT (R262): the answer is LAST's code of a refused list, none
where its start is pending. -/
def State.listSwap (s : State) (j slot swapNt : Nat) : State × Option Status :=
  let m := 1 - s.gateActive j
  let refuse (st : Status) : State × Option Status := ((s.setFld (F.TM_SL_STAT_LAST j) st.code).slStat j, some st)
  let pend (x : State) (start : Nat) : State × Option Status :=
    let y := x.exchange j
    ((y.setTm { y.tm with next := SMap.set (fun _ => none) y.tm.next j (some (start, slot)) }).slStat j, none)
  let base := s.gateBase j m
  if s.listBad j m then refuse .fault
  else if swapNt ≤ base then pend (s.setFld (F.TM_SL_STAT_LAST j) 0) base
  else if s.bit (F.TM_SL_CFG_STRICT j) then refuse .late
  else
    pend ((((s.setFld (F.TM_SL_STAT_LAST j) Status.lateStart.code).count (F.TM_SL_STAT_LATE_STARTS j)).pulse 43))
      (boundaryAfter base (s.gateCycle j m) (swapNt + 2 * usU))

/-- The pending list of port j starts once its S is reached; the answer is the slot that it closes. -/
def State.listStart (s : State) (j : Nat) : State × Option Nat :=
  match s.gateNext j with
  | some (st, slot) =>
    if st ≤ s.now ∧ s.coarse = false then
      ((s.setTm { s.tm with next := SMap.set (fun _ => none) s.tm.next j none,
                            starts := SMap.set (fun _ => 0) s.tm.starts j st }).slStat j, some slot)
    else (s, none)
  | none => (s, none)

/-- The gate in force on port j, from 0; 256 with no gates. -/
def State.gateIndex (s : State) (j : Nat) : Nat :=
  let m := s.gateMem j
  let c := s.gateCycle j m
  if s.gateCount j m = 0 ∨ c = 0 then 256 else
  let x := (((s.now : Int) - s.gateStart j) % (c : Int)).toNat
  ((s.segs j m).filter (fun g => decide (g.2.1 ≤ x))).length

/-- GATE_CHANGE: the gate in force is the one at the NT now. -/
def State.gateChange (s : State) (j : Nat) : State :=
  if s.coarse then s else s.setTm { s.tm with gateNow := SMap.set (fun _ => 256) s.tm.gateNow j (s.gateIndex j) }

/-! ## The list window (Tables 11-22 and 11-23) -/

/-- Port of the window. -/
def State.gatePort (s : State) : Nat := min 6 (s.fld F.TM_GATE_ADDR_PORT)
/-- The entry that the window shows. -/
def State.gateShown (s : State) : Nat :=
  let j := s.gatePort
  let m := if s.bit F.TM_GATE_ADDR_VIEW then s.gateActive j else 1 - s.gateActive j
  s.gateWord j m (s.fld F.TM_GATE_ADDR_INDEX)
/-- INDEX moves on after each access to TM_GATE_HI, from 258 to 0. -/
def State.gateAdvance (s : State) : State :=
  s.setFld F.TM_GATE_ADDR_INDEX (if 258 ≤ s.fld F.TM_GATE_ADDR_INDEX then 0 else s.fld F.TM_GATE_ADDR_INDEX + 1)
/-- Bits of an entry that hold something; the reserved ones read 0. -/
def gateKept (i v : Nat) : Nat :=
  if i < 256 then v % 2 ^ 30 + v / 2 ^ 32 % 2 ^ 17 * 2 ^ 32
  else if i = 256 then v % 2 ^ 48
  else if i = 257 then v % 2 ^ 30 + v / 2 ^ 32 % 2 ^ 30 * 2 ^ 32
  else v % 2 ^ 9
/-- A swap slot waits for set 12 + j. -/
def State.listSwapPending (s : State) (j : Nat) : Bool :=
  (s.gateNext j).isSome || (List.range 8).any (fun k =>
    s.fld (F.HIT_SWAP_STAT_STATE k) == 1 && bitOf (s.reg (R.HIT_SWAP_SETS k)).toNat (12 + j))
/-- A write of TM_GATE_HI stores the whole entry, unless its list's swap is pending or the view is the active one. -/
def State.gateWrite (s : State) (v : Nat) : State :=
  let j := s.gatePort
  let i := s.fld F.TM_GATE_ADDR_INDEX
  let s1 := if s.bit F.TM_GATE_ADDR_VIEW then s.setFld F.TM_STAT_GATE_REJECT 1
    else if s.listSwapPending j ∨ 258 < i then s
    else s.setTm { s.tm with gates := SMap.set (fun _ => 0) s.tm.gates ((2 * j + (1 - s.gateActive j)) * 512 + i) (gateKept i v) }
  s1.gateAdvance

/-! ## The choice among the queues (R256, R257) -/

/-- MODE of a port as its last start took it (Table 11-28). -/
def State.portMode (s : State) (j : Nat) : Nat := SMap.get (fun _ => 0) s.tm.modes j
/-- A start of PORT takes MODE. -/
def State.takeMode (s : State) (j : Nat) : State :=
  s.setTm { s.tm with modes := SMap.set (fun _ => 0) s.tm.modes j (s.fld (F.EMAC_CFG_MODE j)) }
/-- Tenths of a nanosecond a bit takes on port j: 1 at 10 Gbit/s, 4 at 2.5, 10 at 1. -/
def State.bitTenths (s : State) (j : Nat) : Nat := if j ≤ 1 then 1 else if s.portMode j = 1 then 4 else 10
/-- Tenfold airtime of L bytes on port j (R254); 0 on the host link. -/
def State.air10 (s : State) (j l : Nat) : Nat := if 6 ≤ j then 0 else l * 8 * s.bitTenths j * nsU

/-- The keys of queues that hold frames and leave on port j. -/
def State.portQueues (s : State) (j : Nat) : List Nat :=
  (s.tm.queues.filter (fun (q : Nat × TmQueue) => !q.2.frames.isEmpty && s.physOfPort (q.1 / 16) == j)).map (fun q => q.1)

/-- Length with overhead of the head of a queue. -/
def State.headL (s : State) (g : Nat) : Nat :=
  match (s.tq g).frames with | f :: _ => s.measured (g / 16) f.data.length | [] => 1

/-- A queue may send now: a head not parked, its gate open and long enough, ended before the preamble of a waiting TQ0 head, and on
the host link a descriptor for it. -/
def State.queueReady (s : State) (j g : Nat) (before : Option Nat) : Bool :=
  let q := s.tq g
  let a := s.air10 j (s.headL g)
  !q.frames.isEmpty && q.parked.isNone && s.fitsGates j (g % 16) s.now a &&
  (match before with | some p => decide (10 * s.now + a ≤ 10 * p) | none => true) &&
  (j != 6 || decide (0 < s.ringFilled (0x8000150140 + 0x10 * (g % 16 / 4))))

/-- Heads that no open run can ever hold are dropped. -/
def State.dropHopeless (s : State) (j : Nat) : State :=
  (s.portQueues j).foldl (fun s g => if s.neverFits j (g % 16) (s.air10 j (s.headL g)) then s.dropHead g else s) s

/-- The first of some numbers above x, else the first of all: a cyclic order. -/
def cyclicNext (x : Nat) (l : List Nat) : Option Nat :=
  match l.find? (fun g => decide (x < g)) with
  | some g => some g
  | none => l.head?

/-- The strict class: the lowest queue with a ready head, logical ports in turn. -/
def State.strictChoice (s : State) (j : Nat) (before : Option Nat) : Option Nat :=
  (List.range 4).findSome? (fun i =>
    cyclicNext (SMap.get (fun _ => 4096) s.tm.turns (4 * j + i))
      ((s.portQueues j).filter (fun g => g % 16 == i && s.queueReady j g before)))

/-- One round of the deficit round robin over some queues; the answer is the queue that sends. -/
def State.drrVisit (s : State) (j : Nat) (before : Option Nat) : List Nat → State × Option Nat
  | [] => (s, none)
  | g :: gs =>
    let q := s.tq g
    if q.frames.isEmpty then ((s.setTq g { q with deficit := 0, isNew := true }).drrVisit j before gs)
    else if !s.queueReady j g before then (s.setTq g { q with isNew := true }).drrVisit j before gs
    else
      let d := if q.isNew then q.deficit + 64 * max 1 (q.cfg.toNat / 2 ^ 24) else q.deficit
      if s.headL g ≤ d then
        let s1 := s.setTq g { q with deficit := d - s.headL g, isNew := false }
        (s1.setTm { s1.tm with drr := SMap.set (fun _ => 0) s1.tm.drr j g }, some g)
      else (s.setTq g { q with deficit := d, isNew := true }).drrVisit j before gs

/-- The weighted class (R257): every weighted queue of the port once, from the pointer on. -/
def State.weightedChoice (s : State) (j : Nat) (before : Option Nat) : State × Option Nat :=
  let all := (s.tm.queues.filter (fun (q : Nat × TmQueue) => decide (4 ≤ q.1 % 16) && s.physOfPort (q.1 / 16) == j)).map (fun q => q.1)
  let p := SMap.get (fun _ => 0) s.tm.drr j
  s.drrVisit j before (all.filter (fun g => decide (p ≤ g)) ++ all.filter (fun g => decide (g < p)))

/-! ## Samples (R264) -/

/-- PERIOD in use, in µs. -/
def State.samplePeriod (s : State) : Nat := max 10 (min 1000000 (s.fld F.TM_SMP_CFG_PERIOD))
/-- One entry of a sweep. -/
def State.sampleEntry (s : State) (g : Nat) : List Byte :=
  let q := s.tq g
  let age := match q.frames with | f :: _ => min (2 ^ 32 - 1) ((s.now - f.at_) / nsU) | [] => 0
  leBytes 2 g ++ leBytes 2 q.cells ++ leBytes 2 (max q.peak q.cells) ++ leBytes 2 q.lost ++ leBytes 4 age ++
    leBytes 4 (min (2 ^ 32 - 1) q.maxDelay)
/-- Write units of 16 bytes at HW onward, wrapping in the ring. -/
def State.ringPut (s : State) (ring unit : Nat) : List (List Byte) → State
  | [] => s
  | b :: bs => (((s.put (s.ringBase ring + unit * s.ringHw ring) b).ringStep ring 1).ringPut ring unit bs)

/-- SAMPLE_SWEEP: on the first tick at or after a whole multiple of PERIOD, once, while EN is 1 and the block has power. -/
def State.sampleSweep (s : State) : State :=
  let p := s.samplePeriod * usU
  let at_ := s.now / p * p
  if !s.powered ((mapEntry 19).elim 0 MapEntry.pwr) || !s.bit F.TM_SMP_CFG_EN || decide (s.incr s.cur ≤ s.now - at_) || s.tm.swept == s.ticks + 1 then s else
  let gs := (s.tm.queues.filter (fun (q : Nat × TmQueue) => bitOf q.2.cfg.toNat 23)).map (fun q => q.1)
  let head := leBytes 1 4 ++ leBytes 1 0 ++ leBytes 2 gs.length ++ leBytes 4 0 ++ leBytes 8 (packNt at_)
  let s1 := if gs.length + 1 ≤ s.ringFree R.TM_SMP_RING_BASE_LO then
      s.ringPut R.TM_SMP_RING_BASE_LO 16 (head :: gs.map s.sampleEntry)
    else s.count F.TM_SMP_CFG_SKIPS
  let s2 := s1.tm.queues.foldl (fun (s : State) (g : Nat × TmQueue) =>
    s.setTq g.1 { s.tq g.1 with peak := (s.tq g.1).cells, lost := 0, maxDelay := 0 }) s1
  s2.setTm { s2.tm with swept := s2.ticks + 1 }

end Sys2Proof.Machine
end

