-- ==== Sys2Proof/Machine/Router.lean ====
section
/-!
DEFINITION. The packet router (R230 to R252): sources, parsing, the match stages, edits and disposition, commit versions, table
edits.
-/
namespace Sys2Proof.Machine

/-- Replace the router. -/
def State.setRtr (s : State) (r : RtrState) : State := { s with rtr := r }
/-- Replace byte i of a list. -/
def setAt (l : List Byte) (i : Nat) (bs : List Byte) : List Byte := l.take i ++ bs ++ l.drop (i + bs.length)

/-! ## Versions (R245 to R247) -/

/-- The versions that are live: the current one, and each whose in-flight count is above 0 (R245). One whose count has reached 0
retires at the end of that PKT cycle (R246). -/
def State.liveVers (s : State) : List (Nat × Nat) :=
  match s.rtr.live with
  | [] => []
  | c :: vs => c :: vs.filter (fun x => x.2 != 0)
/-- The current version. -/
def State.curVer (s : State) : Nat := (s.rtr.live.headD (0, 0)).1
/-- The open version. -/
def State.openVer (s : State) : Nat := (s.curVer + 1) % 65536
/-- The oldest live version. -/
def State.oldestVer (s : State) : Nat := (s.liveVers.getLastD (0, 0)).1
/-- A version is live. -/
def State.isLive (s : State) (v : Nat) : Bool := s.liveVers.any (fun x => x.1 == v)
/-- r(x) = (x − L) mod 2^16. -/
def verAge (l x : Nat) : Nat := (x + 65536 - l) % 65536
/-- Visibility of an entry to version v with oldest live version l (R247). -/
def RtrEntry.visible (e : RtrEntry) (l v : Nat) : Bool :=
  (e.settled || decide (4 < verAge l e.addVer) || decide (verAge l e.addVer ≤ verAge l v)) &&
  (match e.delVer with
   | none => true
   | some d => decide (verAge l d ≤ 4) && decide (verAge l v < verAge l d))

/-- RTR_VER, RTR_LIVE and INFLIGHT as they read. -/
def State.rtrStat (s : State) : State :=
  let n := s.rtr.inPass.length + s.rtr.recirc.length
  let s1 := ((s.setFld F.RTR_VER_CURRENT s.curVer).setFld F.RTR_VER_OPEN s.openVer).setFld F.RTR_STAT_INFLIGHT n
  (List.range 4).foldl (fun s i =>
    match s.liveVers[i]? with
    | some (v, c) =>
      ((s.setFld (F.RTR_LIVE_VALID i) 1).setFld (F.RTR_LIVE_VERSION i) v).setFld (F.RTR_LIVE_INFLIGHT i) c
    | none => ((s.setFld (F.RTR_LIVE_VALID i) 0).setFld (F.RTR_LIVE_VERSION i) 0).setFld (F.RTR_LIVE_INFLIGHT i) 0) s1

/-- Change the in-flight count of a version. -/
def State.mapLive (s : State) (v : Nat) (f : Nat → Nat) : State :=
  s.setRtr { s.rtr with live := s.rtr.live.map (fun x => if x.1 == v then (v, f x.2) else x) }

/-- VERSION_RETIRE: the oldest version that is not current and that no packet carries retires, and a sweep starts. -/
def State.retireVersion (s : State) : State :=
  match (s.rtr.live.drop 1).reverse.find? (fun x => x.2 == 0) with
  | none => s
  | some (v, _) =>
    (((s.setRtr { s.rtr with live := s.rtr.live.filter (fun x => x.1 != v) }).pulse 44).count F.RTR_COUNT1_RETIRED).setFld
      F.RTR_STAT_SWEEP 1 |>.rtrStat

/-- SWEEP_DONE: entries added in L or before are settled, those deleted in L or before are freed. -/
def State.sweepDone (s : State) : State :=
  if !s.bit F.RTR_STAT_SWEEP then s else
  let l := s.oldestVer
  let old (v : Nat) : Bool := verAge l v == 0 || decide (4 < verAge l v)
  let kept := s.rtr.entries.filter (fun e => match e.delVer with | some d => !old d | none => true)
  let settle (e : RtrEntry) : RtrEntry := if old e.addVer then { e with settled := true } else e
  (s.setRtr { s.rtr with entries := kept.map settle }).setFld F.RTR_STAT_SWEEP 0

/-- The open version becomes current (R250). -/
def State.commitOpen (s : State) : State :=
  (((s.setRtr { s.rtr with live := (s.openVer, 0) :: s.rtr.live, commit := none }).setFld F.RTR_COMMIT_CMD_PENDING 0).setFld
    F.RTR_STAT_COMMIT_PENDING 0).setFld F.RTR_COMMIT_CMD_STATUS 0 |>.rtrStat

/-- The commit NT of SEC and NS. -/
def State.commitNt (s : State) : Nat := packedTarget s.now (s.fld F.RTR_COMMIT_SEC_SEC * 2 ^ 32 + s.fld F.RTR_COMMIT_NS_NS)

/-- The code of a commit (R250). -/
def State.commitCode (s : State) (op : Nat) : Status :=
  if s.rtr.commit.isSome || s.rtr.edit.isSome || decide (4 ≤ s.liveVers.length) then .busy
  else if op = 2 ∧ (999999999 < s.fld F.RTR_COMMIT_NS_NS ∨ s.coarse = true) then .fault
  else if op = 2 ∧ s.commitNt < s.now + 2 * usU then .late
  else .ok

/-- A write of RTR_COMMIT_CMD.OP. -/
def State.commitCmd (s : State) (op : Nat) : State :=
  if op = 1 ∨ op = 2 then
    match s.commitCode op with
    | .ok =>
      if op = 1 then s.commitOpen
      else ((s.setRtr { s.rtr with commit := some s.commitNt }).setFld F.RTR_COMMIT_CMD_PENDING 1).setFld F.RTR_STAT_COMMIT_PENDING 1
    | c => s.setFld F.RTR_COMMIT_CMD_STATUS c.code
  else if op = 3 ∧ s.rtr.commit.isSome then
    (((s.setRtr { s.rtr with commit := none }).setFld F.RTR_COMMIT_CMD_PENDING 0).setFld F.RTR_STAT_COMMIT_PENDING 0).setFld
      F.RTR_COMMIT_CMD_STATUS Status.aborted.code
  else s

/-- COMMIT_TAKE_EFFECT: the selected NT has reached the commit NT. -/
def State.commitDue (s : State) : State :=
  match s.rtr.commit with
  | some t => if t ≤ s.now then s.commitOpen else s
  | none => s

/-! ## Parsing (R234 to R236) -/

/-- The template of a packet: one it names, else a selector's, else its port's. -/
def State.templateOf (s : State) (p : Packet) : Nat :=
  let sel (i : Nat) : Option Nat :=
    let o := s.fld (F.RTR_SEL_B_OFFSET i)
    let m := s.fld (F.RTR_SEL_A_MASK i)
    let pm := s.fld (F.RTR_SEL_B_PORT_MASK i)
    let v := (byteAt p.data o).toNat * 256 + (byteAt p.data (o + 1)).toNat
    if s.bit (F.RTR_SEL_B_VALID i) ∧ p.inport &&& pm = s.fld (F.RTR_SEL_B_PORT i) &&& pm ∧ o + 2 ≤ p.data.length ∧
        v &&& m = s.fld (F.RTR_SEL_A_VALUE i) &&& m
    then some (s.fld (F.RTR_SEL_B_TEMPLATE i)) else none
  match p.tpl with
  | some t => t
  | none => ((List.range 32).findSome? sel).getD (s.fld (F.RTR_PORT_DEF_TPL p.inport))

/-- Field vector, WMISS, and whether a required window is missing. -/
structure Parsed where
  fields  : List Byte
  wmiss   : Nat
  reqMiss : Bool
  deriving DecidableEq, Repr

/-- Apply window w of a template. -/
def State.applyWindow (s : State) (t : Nat) (data : List Byte) (p : Parsed) (w : Nat) : Parsed :=
  if !s.bit (F.RTR_TPL_WIN_VALID t w) then p else
  let o := s.fld (F.RTR_TPL_WIN_OFFSET t w)
  let n := s.fld (F.RTR_TPL_WIN_LENM1 t w) + 1
  let missing := decide (data.length < o + n)
  { fields := (setAt p.fields (s.fld (F.RTR_TPL_WIN_DEST t w)) ((List.range n).map (fun i => byteAt data (o + i)))).take 64,
    wmiss := if missing then p.wmiss ||| 2 ^ w else p.wmiss,
    reqMiss := p.reqMiss || (missing && s.bit (F.RTR_TPL_WIN_REQ t w)) }

/-- Parse a packet with a template. -/
def State.parse (s : State) (t : Nat) (data : List Byte) : Parsed :=
  (List.range 16).foldl (s.applyWindow t data) ⟨List.replicate 64 0, 0, false⟩

/-! ## Match stages (R238 to R241) -/

/-- KIND of a stage: 0 bypass, 1 exact, 2 LPM, 3 ternary. -/
def State.stageKind (s : State) (n : Nat) : Nat := s.fld (F.RTR_STAGE_CFG_KIND n)
/-- Bytes that segment g of a stage takes. -/
def State.segBytes (s : State) (n g : Nat) (fields info : List Byte) : List Byte :=
  let l := if s.bit (F.RTR_STAGE_KEY_SRC n g) then info else fields
  (l.drop (s.fld (F.RTR_STAGE_KEY_OFFSET n g))).take (s.fld (F.RTR_STAGE_KEY_LEN n g))
/-- Width of a stage's key in bytes. -/
def State.keyWidth (s : State) (n : Nat) : Nat := (List.range 4).foldl (fun w g => w + s.fld (F.RTR_STAGE_KEY_LEN n g)) 0
/-- The key of a stage. -/
def State.stageKey (s : State) (n : Nat) (fields info : List Byte) : List Byte :=
  ((List.range 4).map (fun g => s.segBytes n g fields info)).flatten
/-- Bytes of the exact part of an LPM stage. -/
def State.exactPart (s : State) (n : Nat) : Nat := s.fld (F.RTR_STAGE_KEY_LEN n 0)
/-- The first p bits of two equally long byte lists agree, from the most significant bit of the first byte. -/
def prefixEq (p : Nat) (a b : List Byte) : Bool :=
  let w := 8 * a.length
  beNat a / 2 ^ (w - p) == beNat b / 2 ^ (w - p)
/-- Bytewise AND. -/
def maskBytes (a m : List Byte) : List Byte := List.zipWith (· &&& ·) a m

/-- An entry matches a key in its stage. -/
def State.entryHits (s : State) (e : RtrEntry) (key : List Byte) : Bool :=
  let x := s.exactPart e.stage
  match e.kind with
  | 1 => e.key == key
  | 2 => e.key.take x == key.take x && prefixEq e.param (e.key.drop x) (key.drop x)
  | _ => maskBytes key e.mask == e.key

/-- The better of two hits: the longer prefix, the lower index. -/
def betterHit (kind : Nat) (a b : RtrEntry) : RtrEntry :=
  if kind = 2 then (if a.param < b.param then b else a)
  else if kind = 3 then (if b.param < a.param then b else a)
  else a

/-- The result of a lookup in a stage for a version (R240). -/
def State.lookup (s : State) (n v : Nat) (key : List Byte) : Option RtrEntry :=
  let k := s.stageKind n
  let hits := s.rtr.entries.filter (fun e => e.stage == n && e.kind == k && e.visible s.oldestVer v && s.entryHits e key)
  match hits with
  | [] => none
  | e :: es => some (es.foldl (betterHit k) e)

/-- The default action of a stage for a version. -/
def State.defaultAction (s : State) (n v : Nat) : List Byte :=
  match s.rtr.entries.find? (fun e => e.stage == n && e.kind == 0 && e.visible s.oldestVer v) with
  | some e => e.action
  | none => List.replicate 32 0

/-- An action record's bit of OPS. -/
def opBit (a : List Byte) (i : Nat) : Bool := (byteAt a 0).getLsbD i
/-- A number in an action record. -/
def actByte (a : List Byte) (i : Nat) : Nat := (byteAt a i).toNat

/-- What an action does to a pass (R241): metadata and result. -/
def applyAction (a info : List Byte) (r : PassResult) : List Byte × PassResult :=
  let info1 := if opBit a 5 then setAt info (actByte a 11) ((a.drop 16).take (actByte a 12)) else info
  let dest := if opBit a 1 then some (.rq (cxGet a 4 2) 0)
    else if opBit a 0 then some (.port (actByte a 2 % 128) (actByte a 3 % 16)) else r.dest
  (info1, { drop := r.drop || opBit a 2, recirc := r.recirc || opBit a 3,
            tpl := if opBit a 3 && (byteAt a 6).getLsbD 4 then some (actByte a 6 % 16) else r.tpl,
            dest := dest, edits := if actByte a 7 % 4 = 0 then r.edits else r.edits ++ [a] })

/-- Where the lookups go after stage n: none at the end of the pass. -/
def nextStage (a : List Byte) (n : Nat) : Option Nat :=
  let x := actByte a 1 % 8
  if opBit a 4 ∨ x = 6 then none else if x < 6 ∧ n < x then some x else some (n + 1)

/-- The stages from n on, with a fuel of six (R238 to R241). -/
def State.runStages (s : State) (v : Nat) (fields : List Byte) : Nat → Nat → List Byte → PassResult → List Byte × PassResult
  | 0, _, info, r => (info, r)
  | fuel + 1, n, info, r =>
    if 6 ≤ n then (info, r)
    else if s.stageKind n = 0 then s.runStages v fields fuel (n + 1) info r
    else
      match s.lookup n v (s.stageKey n fields info) with
      | some e =>
        let info1 := setAt info 3 [byteAt info 3 ||| BitVec.ofNat 8 (2 ^ n)]
        let (info2, r2) := applyAction e.action info1 r
        (match nextStage e.action n with | some m => s.runStages v fields fuel m info2 r2 | none => (info2, r2))
      | none =>
        let a := s.defaultAction n v
        let (info2, r2) := applyAction a info r
        (match nextStage a n with | some m => s.runStages v fields fuel m info2 r2 | none => (info2, r2))

/-- A pass of a packet: parse, then stages 0 to 5; a missing required window decides before stage 0 (R236). -/
def State.runPass (s : State) (p : Packet) : State × Packet :=
  let t := s.templateOf p
  let x := s.parse t p.data
  let info := leBytes 1 p.inport ++ leBytes 1 t ++ leBytes 1 p.pass ++ [0] ++ leBytes 2 p.version ++ leBytes 2 x.wmiss ++
    leBytes 2 p.data.length ++ (p.info.drop 10)
  let none_ : PassResult := ⟨false, false, none, none, []⟩
  let miss := s.fld (F.RTR_TPL_CFG_MISS t)
  if x.reqMiss && miss != 0 then
    let r : PassResult := if miss = 2 then { none_ with dest := some (.rq (s.fld F.RTR_CFG_EXC_RQ) 1) } else { none_ with drop := true }
    (s.count F.RTR_COUNT0_PARSE_SHORT, { p with info := info, result := some r })
  else
    let (info1, r) := s.runStages p.version x.fields 6 0 info none_
    (s, { p with info := info1, result := some r })

/-! ## Sources (R231, R233) -/

/-- Start the pass of a packet. -/
def State.enterPass (s : State) (p : Packet) : State :=
  let (s1, q) := s.runPass p
  (s1.setRtr { s1.rtr with inPass := s1.rtr.inPass ++ [q] }).rtrStat

/-- A packet enters the router on pass 0 with a version. -/
def State.enterRouter (s : State) (p : Packet) : State := (s.mapLive p.version (· + 1)).enterPass p

/-- Base and size of an injection ring. -/
def State.injSize (s : State) (r : Nat) : Nat := s.fld (F.RTR_INJ_CFG_SIZE r)
/-- Address of the HEAD descriptor of a ring. -/
def State.injAddr (s : State) (r : Nat) : Nat := spadBase + 16 * s.fld (F.RTR_INJ_CFG_BASE r) + 16 * s.fld (F.RTR_INJ_PTR_HEAD r)
/-- A ring holds a descriptor. -/
def State.injReady (s : State) (r : Nat) : Bool := decide (0 < s.injSize r) && s.fld (F.RTR_INJ_PTR_HEAD r) != s.fld (F.RTR_INJ_PTR_TAIL r)
/-- The injection ring whose turn it is. -/
def State.injTurn (s : State) : Option Nat := cyclicNext s.rtr.ring ((List.range 8).filter s.injReady)

/-- STATUS of an injection descriptor. -/
def State.injCode (s : State) (a : Nat) : Status :=
  let d := s.bytes a 16
  let fl := cxGet d 0 1
  let len := cxGet d 4 2
  let buf := cxGet d 8 5
  let ver := cxGet d 6 2
  if fl / 8 % 16 ≠ 0 ∨ 128 ≤ cxGet d 3 1 ∨ cxGet d 14 2 ≠ 0 ∨ 16 ≤ cxGet d 13 1 ∨ buf % 8 ≠ 0 ∨ inNormal buf len = false then .fault
  else if len < 60 then .tooShort
  else if s.maxFrame - 4 < len then .tooLong
  else if bitOf fl 1 ∧ ver = s.openVer then .fault
  else if bitOf fl 1 ∧ s.isLive ver = false then .versionRetired
  else .ok

/-- The turn of the injection rings (R233). -/
def State.injectServe (s : State) : State :=
  match s.injTurn with
  | none => s
  | some r =>
    let a := s.injAddr r
    let d := s.bytes a 16
    let fl := cxGet d 0 1
    let code := s.injCode a
    let s0 := (s.seen a 16).setRtr { s.rtr with ring := r, source := 7 }
    let s1 := if code = .ok then
        (s0.seen (cxGet d 8 5) (cxGet d 4 2)).enterRouter ⟨7, cxGet d 3 1, if bitOf fl 1 then cxGet d 6 2 else s0.curVer, 0, 0, s0.bytes (cxGet d 8 5) (cxGet d 4 2),
          List.replicate 32 0, if bitOf fl 2 then some (cxGet d 13 1 % 16) else none, none⟩
      else s0.count F.RTR_COUNT1_INJ_REFUSED
    let s2 := (s1.putLe (a + 2) 1 code.code).putLe a 1 (fl ||| 0x80)
    let s3 := if bitOf fl 0 then s2.pulseFree (cxGet d 1 1) else s2
    s3.setFld (F.RTR_INJ_PTR_HEAD r) ((s3.fld (F.RTR_INJ_PTR_HEAD r) + 1) % s3.injSize r)

/-- The ready sources: Ethernet, the host link, and the injection rings as source 7. -/
def State.readySources (s : State) : List Nat :=
  (List.range 7).filter (fun n => s.rtr.waiting.any (fun p => p.source == n)) ++ (if s.injTurn.isSome then [7] else [])

/-- The source that the parser takes next. -/
def State.nextSource (s : State) : Option Nat := cyclicNext s.rtr.source s.readySources

/-- PARSER_ACCEPT: a packet waiting to recirculate, which a stop of FORWARD still takes, else the next ready source (R231). -/
def State.parserAccept (s : State) : State :=
  match s.rtr.recirc with
  | p :: ps => (s.setRtr { s.rtr with recirc := ps }).enterPass p
  | [] =>
    if !s.fnOn 18 0 0 then s else
    match s.nextSource with
    | none => s
    | some n =>
      if n = 7 then s.injectServe else
      match s.rtr.waiting.find? (fun p => p.source == n) with
      | none => s
      | some p => (s.setRtr { s.rtr with waiting := s.rtr.waiting.erase p, source := n }).enterRouter { p with version := s.curVer }

/-- INJECTION_SERVE: the injection rings' turn at the parser, when it is theirs. -/
def State.injectionTurn (s : State) : State :=
  if s.fnOn 18 0 0 && s.rtr.recirc.isEmpty && s.nextSource == some 7 then s.injectServe else s

/-- A packet offered by Ethernet or the host link; dropped while FORWARD is not on (R252). -/
def State.offerPacket (s : State) (source stamp : Nat) (data : List Byte) : State :=
  if s.fnOn 18 0 0 then
    s.setRtr { s.rtr with waiting := s.rtr.waiting ++ [⟨source, source, 0, 0, stamp, data, List.replicate 32 0, none, none⟩] }
  else s.count F.RTR_COUNT1_OFF_DROP

/-! ## The end of a pass (R242 to R244, R251) -/

/-- A one's-complement checksum after the 16-bit word that holds a TTL as its upper byte falls by 0x0100. -/
def checksumDec (c : Nat) : Nat :=
  let t := (65535 - c) + 0xFEFF
  65535 - (if 65535 < t then t - 65535 else t)

/-- Bytes an edit touches, as first and one past last. -/
def editSpan (a : List Byte) : Nat × Nat :=
  let o := actByte a 8
  match actByte a 7 % 4 with
  | 1 => (o, o + actByte a 10)
  | 2 => (o, o + 4)
  | _ => (o, o + 1)

/-- One queued edit (R242): data, whether it drops, and the counts TTL and EDIT_SKIP. -/
def State.applyEdit (x : State × List Byte × Bool) (info a : List Byte) : State × List Byte × Bool :=
  let (s, data, drop) := x
  let (o, e) := editSpan a
  if data.length < e ∨ 256 < e then (s.count F.RTR_COUNT1_EDIT_SKIP, data, drop)
  else if actByte a 7 % 4 = 1 then (s, setAt data o ((info.drop (actByte a 9)).take (actByte a 10)), drop)
  else
    let v := (byteAt data o).toNat
    if v ≤ 1 then (s.count F.RTR_COUNT0_TTL, data, true)
    else
      let d1 := setAt data o (leBytes 1 (v - 1))
      if actByte a 7 % 4 = 2 then
        let c := (byteAt data (o + 2)).toNat * 256 + (byteAt data (o + 3)).toNat
        (s, setAt d1 (o + 2) (beBytes 2 (checksumDec c)), drop)
      else (s, d1, drop)

/-- A packet leaves the router. -/
def State.leaveRouter (s : State) (p : Packet) : State := (s.mapLive p.version (· - 1)).rtrStat

/-- Deliver a packet to a reception queue (R244). -/
def State.deliverRq (s : State) (p : Packet) (q reason : Nat) : State :=
  let n := 48 + (p.data.length + 7) / 8 * 8
  match s.rqStart q 3 with
  | (s1, none) => s1
  | (s1, some id) =>
    match s1.rqReserve id n with
    | (s2, false) => s2
    | (s2, true) =>
      let h := leBytes 1 3 ++ leBytes 1 reason ++ leBytes 2 p.data.length ++ leBytes 4 0 ++ leBytes 8 p.stamp ++ p.info
      ((s2.rqPut id 48 (padTo (n - 48) p.data)).rqPut id 0 h).rqClose id

/-- A logical port takes packets (R243). -/
def State.portTakes (s : State) (p : Nat) : Bool := s.bit (F.RTR_PORT_EN p) && p != 7 && (p < 8 || s.fld (F.RTR_PORT_PHYS p) != 7)

/-- PASS_END: the oldest pass ends; edits, then the disposition (R243). -/
def State.passEnd (s : State) : State :=
  match s.rtr.inPass with
  | [] => s
  | p :: ps =>
    let s0 := s.setRtr { s.rtr with inPass := ps }
    let r := p.result.getD ⟨true, false, none, none, []⟩
    let (s1, data, drop) := r.edits.foldl (fun x a => State.applyEdit x p.info a) (s0, p.data, r.drop)
    let q := { p with data := data, result := none }
    if drop then s1.leaveRouter q
    else if r.recirc ∧ p.pass < 2 then
      (s1.setRtr { s1.rtr with recirc := s1.rtr.recirc ++ [{ q with pass := p.pass + 1, tpl := r.tpl }] }).rtrStat
    else if r.recirc then (s1.count F.RTR_COUNT0_RECIRC_LIMIT).leaveRouter q
    else match r.dest with
      | some (.rq n reason) => (s1.deliverRq q n reason).leaveRouter q
      | some (.port n i) =>
        if s1.portTakes n then (s1.enqueueTm n i data).leaveRouter q else (s1.count F.RTR_COUNT0_NO_DEST).leaveRouter q
      | none => (s1.count F.RTR_COUNT0_NO_DEST).leaveRouter q

/-! ## Edits (R248, R249) -/

/-- The edit record in RTR_EDIT_DATA. -/
def State.editRecord (s : State) : List Byte := ((List.range 24).map (fun i => leBytes 4 (s.reg (R.RTR_EDIT_DATA i)).toNat)).flatten
/-- Put an edit record into RTR_EDIT_DATA. -/
def State.setEditRecord (s : State) (bs : List Byte) : State :=
  (List.range 24).foldl (fun s i => s.setReg (R.RTR_EDIT_DATA i) (BitVec.ofNat 32 (leNat (((padTo 96 bs).drop (4 * i)).take 4)))) s

/-- An action record follows Table 10-5. -/
def actionOk (a : List Byte) : Bool :=
  let op := actByte a 7
  let len := actByte a 10
  decide (actByte a 0 < 64 ∧ actByte a 1 < 8 ∧ actByte a 2 < 128 ∧ actByte a 3 < 16 ∧ actByte a 6 < 32 ∧ op < 4) &&
  cxGet a 13 3 == 0 && cxGet a 24 8 == 0 &&
  (if op = 1 then decide (1 ≤ len ∧ len ≤ 16 ∧ actByte a 8 + len ≤ 256 ∧ actByte a 9 + len ≤ 32) else len == 0) &&
  (!opBit a 5 || decide (10 ≤ actByte a 11 ∧ 1 ≤ actByte a 12 ∧ actByte a 12 ≤ 8 ∧ actByte a 11 + actByte a 12 ≤ 32))

/-- Width of the address of an LPM stage in bits. -/
def State.addrBits (s : State) (n : Nat) : Nat := if s.bit (F.RTR_STAGE_CFG_V6 n) then 128 else 32

/-- The entry that an edit names, visible to a version. -/
def State.editTarget (s : State) (n param v : Nat) (key : List Byte) : Option RtrEntry :=
  let k := s.stageKind n
  let x := s.exactPart n
  s.rtr.entries.find? (fun e => e.stage == n && e.kind == k && e.visible s.oldestVer v &&
    (if k = 1 then e.key == key
     else if k = 2 then e.param == param && e.key.take x == key.take x && prefixEq param (e.key.drop x) (key.drop x)
     else e.param == param))

/-- Places that the entries of a stage take in its pool, those not yet freed included. -/
def State.stageHeld (s : State) (n : Nat) : Nat := (s.rtr.entries.filter (fun e => e.stage == n && e.kind == s.stageKind n)).length
/-- Entries a partition can hold. -/
def State.stageRoom (s : State) (n : Nat) : Nat :=
  let u := s.fld (F.RTR_STAGE_CFG_SIZE n)
  match s.stageKind n with
  | 1 => 64 * u
  | 2 => if s.bit (F.RTR_STAGE_CFG_V6 n) then 8 * u else 16 * u
  | _ => 2 * u

/-- A place for a new entry: an exact stage with fewer than 8 entries always finds one, one with more may fail before it is
full, as its hashes decide (a free value; R249). -/
def State.placeFound (s : State) (n : Nat) : Bool :=
  let held := s.stageHeld n
  if s.stageRoom n ≤ held then false
  else if s.stageKind n = 1 ∧ 8 ≤ held then s.free 1 == 1
  else true

/-- The code of an edit, checks 2 to 6 (R248). -/
def State.rtrEditCode (s : State) (op : Nat) : Status :=
  let n := s.fld F.RTR_EDIT_ARG_STAGE
  let param := s.fld F.RTR_EDIT_ARG_PARAM
  let ver := s.fld F.RTR_EDIT_ARG_VER
  let rec_ := s.editRecord
  let k := s.stageKind n
  let w := s.keyWidth n
  let key := rec_.take w
  let mask := (rec_.drop 32).take w
  let bad :=
    op == 0 || decide (4 < op) || decide (5 < n) || k == 0 ||
    cxGet rec_ w (32 - w) != 0 || cxGet rec_ (32 + (if k = 3 then w else 0)) (if k = 3 then 32 - w else 32) != 0 ||
    (k == 3 && maskBytes key mask != key) || (k == 2 && decide (s.addrBits n < param)) ||
    (k == 3 && decide (2 * s.fld (F.RTR_STAGE_CFG_SIZE n) ≤ param)) || !actionOk (rec_.drop 64) ||
    (op == 2 && (s.editTarget n param s.openVer key).isNone)
  if bad then .fault
  else if op = 1 ∧ k ≠ 3 ∧ (s.editTarget n param s.openVer key).isSome then .busy
  else if op = 1 ∧ k = 3 ∧ s.rtr.entries.any (fun e => e.stage == n && e.kind == 3 && e.param == param) then .busy
  else if op = 1 ∧ s.placeFound n = false then .noBuffer
  else if op = 4 ∧ s.isLive ver = false ∧ ver ≠ s.openVer then .versionRetired
  else .ok

/-- Delete an entry in the open version; one added in it is freed at once. -/
def State.deleteEntry (s : State) (e : RtrEntry) : State :=
  if e.addVer = s.openVer ∧ e.settled = false then s.setRtr { s.rtr with entries := s.rtr.entries.erase e }
  else s.setRtr { s.rtr with entries := s.rtr.entries.map (fun x => if x = e then { x with delVer := some s.openVer } else x) }

/-- What an edit whose code is OK does (Table 10-6). -/
def State.rtrEditEffect (s : State) (op : Nat) : State :=
  let n := s.fld F.RTR_EDIT_ARG_STAGE
  let param := s.fld F.RTR_EDIT_ARG_PARAM
  let rec_ := s.editRecord
  let k := s.stageKind n
  let w := s.keyWidth n
  let key := rec_.take w
  let mask := if k = 3 then (rec_.drop 32).take w else []
  match op with
  | 1 => s.setRtr { s.rtr with entries := s.rtr.entries ++
      [⟨n, k, key, mask, if k = 1 then 0 else param, rec_.drop 64, s.openVer, false, none⟩] }
  | 2 => match s.editTarget n param s.openVer key with | some e => s.deleteEntry e | none => s
  | 3 =>
    let s1 := match s.rtr.entries.find? (fun e => e.stage == n && e.kind == 0 && e.visible s.oldestVer s.openVer) with
      | some e => s.deleteEntry e
      | none => s
    s1.setRtr { s1.rtr with entries := s1.rtr.entries ++ [⟨n, 0, [], [], 0, rec_.drop 64, s.openVer, false, none⟩] }
  | _ =>
    match s.editTarget n param (s.fld F.RTR_EDIT_ARG_VER) key with
    | some e => (s.setEditRecord (padTo 32 e.key ++ padTo 32 e.mask ++ e.action)).setFld F.RTR_EDIT_CMD_FOUND 1
    | none => (s.setEditRecord []).setFld F.RTR_EDIT_CMD_FOUND 0

/-- A write of RTR_EDIT_CMD.OP (R248): the code is decided, and the edit is in progress until its completion. -/
def State.rtrEdit (s : State) (op : Nat) : State :=
  if op = 0 then s
  else if s.rtr.edit.isSome || s.rtr.commit.isSome then s.setFld F.RTR_EDIT_CMD_STATUS Status.busy.code
  else
    let n := s.fld F.RTR_EDIT_ARG_STAGE
    let code := s.rtrEditCode op
    let drew := decide (op = 1 ∧ s.stageKind n = 1 ∧ 8 ≤ s.stageHeld n ∧ s.stageHeld n < s.stageRoom n ∧ (code = .ok ∨ code = .noBuffer))
    let s0 := if drew then s.takeFree else s
    let s1 := if code = .ok then s0.rtrEditEffect op else s0
    (s1.setRtr { s1.rtr with edit := some code.code }).setFld F.RTR_EDIT_CMD_BUSY 1

/-- ROUTER_EDIT_COMPLETE: the edit in progress writes its status. -/
def State.rtrEditDone (s : State) : State :=
  match s.rtr.edit with
  | none => s
  | some c => ((s.setRtr { s.rtr with edit := none }).setFld F.RTR_EDIT_CMD_BUSY 0).setFld F.RTR_EDIT_CMD_STATUS c

/-! ## Settings and function (R252) -/

/-- A structural setting. -/
def structural (off : Nat) : Bool :=
  off == 0x00C || (decide (0x180 ≤ off) && decide (off < 0x340)) || (decide (0x340 ≤ off ∧ off < 0x380) && off % 8 == 0) ||
    decide (0x400 ≤ off ∧ off < 0xA00)

/-- A write of a structural setting while FORWARD is not off has no effect and sets CFG_LOCKED. -/
def State.afterStructural (s : State) (a : Nat) (old : Word) : State :=
  if s.fnOff 18 0 0 then s else (s.setReg a old).setFld F.RTR_STAT_CFG_LOCKED 1

/-- TAIL takes only values below SIZE. -/
def State.afterInjPtr (s : State) (r : Nat) (old : Word) : State :=
  if s.fld (F.RTR_INJ_PTR_TAIL r) < s.injSize r then s else s.setReg (R.RTR_INJ_PTR r) old

/-- Units a stage's partition covers, as first and one past last. -/
def State.partition_ (s : State) (n : Nat) : Nat × Nat :=
  (s.fld (F.RTR_STAGE_CFG_BASE n), s.fld (F.RTR_STAGE_CFG_BASE n) + s.fld (F.RTR_STAGE_CFG_SIZE n))

/-- A stage's partition is sound. -/
def State.partitionOk (s : State) (n : Nat) : Bool :=
  let (b, e) := s.partition_ n
  s.stageKind n == 0 || (decide (b < e ∧ e ≤ 1024) && (List.range 6).all (fun m =>
    m == n || s.stageKind m != s.stageKind n || decide ((s.partition_ m).2 ≤ b ∨ e ≤ (s.partition_ m).1)))

/-- A stage's key keeps the widths of Table 10-4 and lies in its source. -/
def State.keyOk (s : State) (n : Nat) : Bool :=
  let len (g : Nat) : Nat := s.fld (F.RTR_STAGE_KEY_LEN n g)
  let inside (g : Nat) : Bool :=
    len g == 0 || decide (s.fld (F.RTR_STAGE_KEY_OFFSET n g) + len g ≤ (if s.bit (F.RTR_STAGE_KEY_SRC n g) then 32 else 64))
  (List.range 4).all (fun g => decide (len g ≤ 16) && inside g) &&
  (match s.stageKind n with
   | 0 => true
   | 1 => decide (1 ≤ s.keyWidth n ∧ s.keyWidth n ≤ 16)
   | 2 => decide (len 0 ≤ 4) && len 1 == s.addrBits n / 8 && len 2 == 0 && len 3 == 0
   | _ => decide (1 ≤ s.keyWidth n ∧ s.keyWidth n ≤ 32))

/-- The settings let FORWARD start (R252). -/
def State.forwardOk (s : State) : Bool :=
  (List.range 6).all (fun n => s.partitionOk n && (s.stageKind n == 0 || s.keyOk n)) &&
  (List.range 16).all (fun t => (List.range 16).all (fun w =>
    !s.bit (F.RTR_TPL_WIN_VALID t w) ||
      decide (s.fld (F.RTR_TPL_WIN_OFFSET t w) + s.fld (F.RTR_TPL_WIN_LENM1 t w) + 1 ≤ 256 ∧
        s.fld (F.RTR_TPL_WIN_DEST t w) + s.fld (F.RTR_TPL_WIN_LENM1 t w) + 1 ≤ 64))) &&
  (List.range 32).all (fun i => !s.bit (F.RTR_SEL_B_VALID i) || s.fld (F.RTR_SEL_B_OFFSET i) != 255)

/-- No packet is in the router: a stop of FORWARD is done. -/
def State.routerEmpty (s : State) : Bool := s.rtr.inPass.isEmpty && s.rtr.recirc.isEmpty

end Sys2Proof.Machine
end

