-- ==== Sys2Proof/Machine/Ethernet.lean ====
section
/-!
DEFINITION. Ethernet MACs and host link (R256, R265 to R272): descriptor rings, launches, the transmit choice of a port, receive
checks and log, wake patterns, link changes, host rings and MSI-X.
-/
namespace Sys2Proof.Machine

/-! ## Time of a port -/

/-- NT of a port's TS_DOM. -/
def State.portNt (s : State) (j : Nat) : Nat :=
  let d := s.fld (F.EMAC_CFG_TS_DOM j)
  if d = 1 then (s.dom 0).units else if d = 2 then (s.dom 1).units else s.now
/-- The domain of a port is coarse. -/
def State.portCoarse (s : State) (j : Nat) : Bool :=
  let d := s.fld (F.EMAC_CFG_TS_DOM j)
  if d = 1 then s.coarseDom 0 else if d = 2 then s.coarseDom 1 else s.coarse
/-- Elapsed ticks that a number of octets takes on a port, rounded up. -/
def State.octetTicks (s : State) (j n : Nat) : Nat := (n * 8 * s.bitTenths j + 49) / 50
/-- Preamble and SFD, eight octets, in units. -/
def State.preambleU (s : State) (j : Nat) : Nat := 64 * s.bitTenths j * nsU / 10
/-- The distance of start positions in units: 3.2, 6.4 or 16 ns. -/
def State.grain (s : State) (j : Nat) : Nat := (if s.bitTenths j = 1 then 32 else if s.bitTenths j = 4 then 64 else 160) * nsU / 10
/-- The frame leaving a port. -/
def State.sendOf (s : State) (j : Nat) : Option EthSend := SMap.get (fun _ => none) s.tm.sends j
/-- Replace it. -/
def State.setSend (s : State) (j : Nat) (x : Option EthSend) : State :=
  s.setTm { s.tm with sends := SMap.set (fun _ => none) s.tm.sends j x }
/-- The port sends nothing and its gap is over. -/
def State.portIdle (s : State) (j : Nat) : Bool := (s.sendOf j).isNone && decide (SMap.get (fun _ => 0) s.tm.freeAt j ≤ s.ticks)

/-! ## Descriptors (R266) -/

/-- Base of the registers of TQ0 (0) or TQ1 (1) of a port. -/
def tqRing (j k : Nat) : Nat := 0x8000140100 + 0x1000 * j + 0x10 * k
/-- Address of the descriptor at HW. -/
def State.descAt (s : State) (ring : Nat) : Nat := s.ringBase ring + 32 * s.ringHw ring

/-- Checks that need no launch time; host descriptors take BUF anywhere in host memory. -/
def State.txCode (s : State) (launch host : Bool) (d : List Byte) : Status :=
  let fl := cxGet d 0 1
  let len := cxGet d 4 2
  let buf := cxGet d 16 8
  if fl / 8 % 16 ≠ 0 ∨ bitOf fl 1 ≠ launch ∨ cxGet d 3 1 ≠ 0 ∨ (launch = false ∧ cxGet d 8 8 ≠ 0) ∨ buf % 8 ≠ 0 ∨
      (host = false ∧ inNormal buf len = false) then .fault
  else if len < 60 then .tooShort
  else if s.maxFrame - 4 < len then .tooLong
  else .ok

/-- Complete the descriptor at HW of a ring on the module, with a timestamp where one is written. -/
def State.descDone (s : State) (ring : Nat) (st : Status) (stamp : Option Nat) : State :=
  let a := s.descAt ring
  let fl := s.rdLe a 1
  let s1 := s.putLe (a + 2) 1 st.code
  let s2 := match stamp with
    | some t => (s1.putLe (a + 6) 2 (ntFrac t / 4096 * 4096)).putLe (a + 24) 8 (packNt t)
    | none => s1
  let s3 := s2.putLe a 1 (fl ||| 0x80)
  let s4 := if bitOf fl 2 then s3.pulseFree (s3.rdLe (a + 1) 1) else s3
  s4.ringStep ring 1

/-- What a completion that sent nothing counts: TX_LATE, or TX_REFUSED. -/
def State.txRefused (s : State) (j : Nat) (st : Status) : State :=
  if st = .late then s.count (F.EMAC_CNT_FIRST j 4) else s.count (F.EMAC_CNT_SECOND j 4)

/-! ## TQ0 (R267) -/

/-- The NT at which the TQ0 head came up, and whether a step has passed its preamble. -/
def State.tq0Of (s : State) (j : Nat) : Option (Nat × Bool) := SMap.get (fun _ => none) s.tm.tq0 j
/-- Replace it. -/
def State.setTq0 (s : State) (j : Nat) (x : Option (Nat × Bool)) : State :=
  s.setTm { s.tm with tq0 := SMap.set (fun _ => none) s.tm.tq0 j x }
/-- A head that has just come up is noted with the NT now. -/
def State.noteHead (s : State) (j : Nat) : State :=
  if s.fnOn 20 j 0 ∧ 0 < s.ringFilled (tqRing j 0) then
    (if (s.tq0Of j).isNone then s.setTq0 j (some (s.portNt j, false)) else s)
  else s.setTq0 j none
/-- LAUNCH_NT of the head in units. -/
def State.launchNt (s : State) (j : Nat) : Nat := packedTarget (s.portNt j) (s.rdLe (s.descAt (tqRing j 0) + 8) 8)
/-- The instant at which the head's preamble begins at the earliest. -/
def State.preambleAt (s : State) (j : Nat) : Nat := s.launchNt j - s.preambleU j

/-- How the head stands: a code that completes it now, or none while it waits for its preamble. -/
def State.tq0Verdict (s : State) (j : Nat) : Option Status :=
  let c := s.txCode true false (s.bytes (s.descAt (tqRing j 0)) 32)
  match s.tq0Of j with
  | none => none
  | some (seen, past) =>
    if c ≠ .ok then some c
    else if s.portCoarse j then some .fault
    else if seen + 4096 * secU < s.launchNt j then some .fault
    else if s.launchNt j < seen + 2 * usU ∨ past = true then some .late
    else none

/-- Complete the TQ0 head without sending. -/
def State.tq0Refuse (s : State) (j : Nat) (st : Status) : State :=
  (((s.descDone (tqRing j 0) st none).txRefused j st).setTq0 j none).noteHead j

/-- How long after the earliest instant the next frame starts: the start position, a free value within one grain (log entry 13). -/
def State.startLag (s : State) (j : Nat) : Nat := s.free 40 % s.grain j
/-- Begin a frame on a port whose preamble may begin at an NT of its TS_DOM: its end, and its timestamp, at most one grain late. -/
def State.beginFrame (s : State) (j tq from_ : Nat) (data : List Byte) (desc : Option Nat) : State :=
  let n := s.octetTicks j (8 + data.length + 4)
  let stamp := from_ + s.preambleU j + s.startLag j
  (s.takeFree.setSend j (some ⟨tq, data, s.ticks, s.ticks + n, stamp, desc⟩))

/-- TQ0_LAUNCH of a port: refused, late, or its preamble begins. -/
def State.tq0Launch (s0 : State) (j : Nat) : State :=
  let s := s0.noteHead j
  if (s.tq0Of j).isNone then s else
  match s.tq0Verdict j with
  | some st => s.tq0Refuse j st
  | none =>
    if s.portNt j < s.preambleAt j then s
    else if !s.portIdle j then s.tq0Refuse j .late
    else
      let a := s.descAt (tqRing j 0)
      let buf := s.rdLe (a + 16) 8
      let len := s.rdLe (a + 4) 2
      ((s.seen a 32).seen buf len).beginFrame j 0 (s.preambleAt j) (s.bytes buf len) (some a)

/-- A step or load carries the domain of a port past a pending preamble: the launch completes LATE (R61). -/
def State.launchPassed (s : State) (j old : Nat) : State :=
  match s.tq0Of j with
  | some (seen, _) =>
    if s.fnOn 20 j 0 && (s.sendOf j).all (fun x => x.tq != 0) && decide (old < s.preambleAt j) && decide (s.preambleAt j ≤ s.portNt j) then
      s.setTq0 j (some (seen, true))
    else s
  | none => s

/-! ## The choice of a port (R256) -/

/-- The instant in selected NT by which another frame must have ended. -/
def State.beforeTq0 (s : State) (j : Nat) : Option Nat :=
  if j < 6 ∧ (s.tq0Of j).isSome ∧ s.tq0Verdict j = none then some (s.now + (s.preambleAt j - s.portNt j)) else none

/-- TQ1: a bad head completes; a good one whose gate lets it go begins. -/
def State.tq1Serve (s : State) (j : Nat) : Option State :=
  let ring := tqRing j 1
  if s.ringFilled ring = 0 then none else
  let a := s.descAt ring
  let d := s.bytes a 32
  match s.txCode false false d with
  | .ok =>
    let len := cxGet d 4 2
    let air := s.air10 j (s.measured j len)
    if s.fitsGates j 16 s.now air && (match s.beforeTq0 j with | some p => decide (10 * s.now + air ≤ 10 * p) | none => true) then
      some (((s.seen a 32).seen (cxGet d 16 8) len).beginFrame j 1 (s.portNt j) (s.bytes (cxGet d 16 8) len) (some a))
    else none
  | st => some ((s.descDone ring st none).txRefused j st)

/-- Bytes of host memory as the link reached it. -/
def State.hostBytes (s : State) (a : Nat) : Nat → List Byte
  | 0 => []
  | n + 1 => SMap.get (fun _ => 0) s.tm.host a :: s.hostBytes (a + 1) n
/-- Write bytes of host memory. -/
def State.hostPut (s : State) (a : Nat) : List Byte → State
  | [] => s
  | b :: bs => (s.setTm { s.tm with host := SMap.set (fun _ => 0) s.tm.host a b }).hostPut (a + 1) bs

/-- Complete the descriptor at HW of a host ring. -/
def State.hostDone (s : State) (ring : Nat) (st : Status) : State :=
  let a := s.descAt ring
  let fl := leNat (s.hostBytes a 1)
  let s1 := (s.hostPut (a + 2) (leBytes 1 st.code)).hostPut a (leBytes 1 (fl ||| 0x80))
  let s2 := if bitOf fl 2 then s1.pulseFree (leNat (s1.hostBytes (a + 1) 1)) else s1
  s2.ringStep ring 1

/-- Registers of host receive ring r. -/
def hrxRing (r : Nat) : Nat := 0x8000150140 + 0x10 * r
/-- Registers of host transmit ring r. -/
def htxRing (r : Nat) : Nat := 0x8000150100 + 0x10 * r

/-- HOST_RX_WRITE: the head of a queue goes to its host ring; a frame longer than the buffer is dropped (R272). -/
def State.hostReceive (s : State) (g : Nat) : State :=
  let ring := hrxRing (g % 16 / 4)
  let a := s.descAt ring
  match (s.tq g).frames with
  | [] => s
  | f :: _ =>
    if leNat (s.hostBytes (a + 4) 2) < f.data.length then (s.takeHead g none).count F.PCIE_CNT_HRX_SMALL
    else
      let s1 := s.takeHead g (some 0)
      let s2 := s1.hostPut (leNat (s1.hostBytes (a + 16) 8)) f.data
      ((s2.hostPut (a + 3) (leBytes 1 (g / 16))).hostPut (a + 4) (leBytes 2 f.data.length)).hostDone ring .ok

/-- A queue's head begins on its port. -/
def State.sendHead (s : State) (j g tq : Nat) : State :=
  if j = 6 then s.hostReceive g
  else
    match (s.tq g).frames with
    | f :: _ => (s.takeHead g (some (s.preambleU j + s.startLag j))).beginFrame j tq (s.portNt j) f.data none
    | [] => s

/-- The queues of a port, strict class before weighted (Table 11-1, orders 3 and 4). -/
def State.queueChoice (s0 : State) (j : Nat) : State :=
  if !s0.fnOn 19 0 0 then s0 else
  let s := s0.dropHopeless j
  let b := s.beforeTq0 j
  match s.strictChoice j b with
  | some g => (s.setTm { s.tm with turns := SMap.set (fun _ => 4096) s.tm.turns (4 * j + g % 16) g }).sendHead j g 2
  | none =>
    match s.weightedChoice j b with
    | (s1, some g) => s1.sendHead j g 3
    | (s1, none) => s1

/-- PORT_TRANSMIT_CHOICE of a port, which can start a frame now. For the host link, desc is what the descriptor at the receive
ring of each queue group holds in host memory. -/
def State.portChoice (s0 : State) (j : Nat) : State :=
  if j = 6 then (if s0.fnOn 21 0 0 then s0.queueChoice 6 else s0)
  else
    let s := s0.noteHead j
    if !s.fnOn 20 j 0 || !s.portIdle j then s
    else if (s.tq0Of j).isSome ∧ (s.tq0Verdict j ≠ none ∨ s.preambleAt j ≤ s.portNt j) then s.tq0Launch j
    else
      match s.tq1Serve j with
      | some s1 => s1
      | none => s.queueChoice j

/-- ETH_FRAME_TX_END of a port: the last bit has left; a descriptor completes with its timestamp, and the gap begins. -/
def State.txEnd (s : State) (j : Nat) : State :=
  match s.sendOf j with
  | none => s
  | some x =>
    if s.ticks < x.ends then s else
    let s1 := (((s.setSend j none).setTm { (s.setSend j none).tm with
      freeAt := SMap.set (fun _ => 0) s.tm.freeAt j (x.ends + s.octetTicks j 12) })).count (F.EMAC_CNT_SECOND j 0)
    match x.desc with
    | none => s1
    | some a =>
      let ts := bitOf (s1.rdLe a 1) 0
      let s2 := s1.descDone (tqRing j x.tq) .ok (if ts then some x.stamp else none)
      let s3 := if ts then s2.pulse (45 + j) else s2
      if x.tq = 0 then (s3.setTq0 j none).noteHead j else s3

/-! ## Reception (R268) -/

/-- Bytes 2i of a frame as a big-endian number of two. -/
def be16 (f : List Byte) (i : Nat) : Nat := (byteAt f i).toNat * 256 + (byteAt f (i + 1)).toNat
/-- The FCS passes: the last four bytes of a frame follow from the others. -/
def fcsPasses (f : List Byte) : Bool := f.drop (f.length - 4) == leBytes 4 (crc32 (f.take (f.length - 4)))
/-- Where the bytes after the matched EtherType begin. -/
def tsMatch (f : List Byte) (etype : Nat) : Option Nat :=
  if be16 f 12 = etype then some 14 else if be16 f 12 = 0x8100 ∧ be16 f 16 = etype then some 18 else none

/-- An entry of the receive log (Table 11-11). -/
def State.rxLog (s : State) (j : Nat) (f : List Byte) (ts : Nat) : State :=
  if !s.bit (F.EMAC_TSMATCH_EN j) then s else
  match tsMatch f (s.fld (F.EMAC_TSMATCH_ETYPE j)) with
  | none => s
  | some p =>
    let ring := 0x8000140120 + 0x1000 * j
    if s.ringFree ring = 0 then s.count (F.EMAC_CNT_FIRST j 5) else
    let e := leBytes 1 5 ++ leBytes 1 0 ++ leBytes 2 f.length ++ leBytes 2 (ntFrac ts / 4096 * 4096) ++ leBytes 2 0 ++
      leBytes 8 (packNt ts) ++ padTo 48 ((f.drop (p + s.fld (F.EMAC_TSMATCH_CAPOFS j))).take 48)
    s.ringPut ring 64 [e]

/-- Bytes that the receive buffer of a port holds. -/
def State.rxHeld (s : State) (j : Nat) : Nat :=
  (s.rtr.waiting.filter (fun p => p.source == j)).foldl (fun n p => n + p.data.length + 4) 0

/-- ETH_FRAME_RX: the checks in order, the log, and the router; ago is how long before now, in 1/16 ns, its timestamp point
crossed the connector. -/
def State.ethRx (s : State) (j : Nat) (f : List Byte) (codeErr : Bool) (ago : Nat) : State :=
  if !s.fnOn 20 j 0 then s
  else if codeErr then s.count (F.EMAC_CNT_SECOND j 2)
  else if !fcsPasses f then s.count (F.EMAC_CNT_FIRST j 2)
  else if f.length < 64 then s.count (F.EMAC_CNT_FIRST j 1)
  else if s.maxFrame < f.length then s.count (F.EMAC_CNT_SECOND j 1)
  else if be16 f 12 = 0x8808 then s.count (F.EMAC_CNT_SECOND j 3)
  else if 65536 < s.rxHeld j + f.length then s.count (F.EMAC_CNT_FIRST j 3)
  else
    let ts := (s.portNt j - ago * (nsU / 16)) / (nsU / 16) * (nsU / 16)
    ((s.count (F.EMAC_CNT_FIRST j 0)).rxLog j f ts).offerPacket j (packNt ts) (f.take (f.length - 4))

/-- LINK_STATE_CHANGE of Ethernet port n, or of the host link as 6. -/
def State.linkChange (s : State) (n : Nat) (up an lock : Bool) (width speed : Nat) : State :=
  if n < 6 then
    let was := s.bit (F.EMAC_STAT_LINK n)
    let s1 := ((s.setFld (F.EMAC_STAT_LINK n) (b2n up)).setFld (F.EMAC_STAT_AN_DONE n) (b2n an)).setFld (F.EMAC_STAT_PCS_LOCK n) (b2n lock)
    let s2 := if was && !up then s1.count (F.EMAC_CNT_SECOND n 5) else s1
    if was = up then s2 else s2.pulse (45 + n)
  else
    let was := s.bit F.PCIE_STAT_LINKUP
    let s1 := ((s.setFld F.PCIE_STAT_LINKUP (b2n up)).setFld F.PCIE_STAT_WIDTH (if up then width else 0)).setFld F.PCIE_STAT_SPEED
      (if up then speed else 0)
    if was = up then s1 else s1.pulse 52

/-! ## Wake patterns (R270) -/

/-- Word w of the pattern memory. -/
def State.wakeWord (s : State) (w : Nat) : Word := SMap.get (fun _ => 0) s.tm.wake w
/-- Byte b of pattern n's value. -/
def State.wakeValue (s : State) (n b : Nat) : Byte := byteAt (leBytes 4 (s.wakeWord (36 * n + b / 4)).toNat) (b % 4)
/-- Mask bit b of pattern n. -/
def State.wakeMask (s : State) (n b : Nat) : Bool := (s.wakeWord (36 * n + 32 + b / 32)).getLsbD (b % 32)
/-- Pattern n matches a frame whose FCS passes. -/
def State.patternHits (s : State) (n : Nat) (f : List Byte) : Bool :=
  bitOf (s.fld (F.EMAC_WAKE_CFG_PATTERNS 0)) n && (List.range 128).any (s.wakeMask n) &&
  (List.range 128).all (fun b => !s.wakeMask n b || (decide (b < f.length) && byteAt f b == s.wakeValue n b))
/-- The lowest pattern that a frame matches at the armed detector. -/
def State.wakeMatch (s : State) (f : List Byte) : Option Nat :=
  if s.bit (F.EMAC_WAKE_CFG_EN 0) && !s.powered 10 && fcsPasses f then
    (List.range 16).find? (fun n => s.patternHits n f)
  else none
/-- WORD moves on after each access to EMAC_WAKE_DATA. -/
def State.wakeAdvance (s : State) : State :=
  s.setFld (F.EMAC_WAKE_ADDR_WORD 0) (if 575 ≤ s.fld (F.EMAC_WAKE_ADDR_WORD 0) then 0 else s.fld (F.EMAC_WAKE_ADDR_WORD 0) + 1)
/-- A write of EMAC_WAKE_DATA. -/
def State.wakeWrite (s : State) (v : Word) : State :=
  let w := s.fld (F.EMAC_WAKE_ADDR_WORD 0)
  (if w < 576 then s.setTm { s.tm with wake := SMap.set (fun _ => 0) s.tm.wake w v } else s).wakeAdvance

/-! ## Host link (R271, R272) -/

/-- HOST_TX_SERVE: the next host transmit ring with a descriptor; desc and frame are what host memory holds there. -/
def State.hostServe (s : State) (desc frame : List Byte) : State :=
  if !s.fnOn 21 0 0 then s else
  match cyclicNext s.tm.hostRing ((List.range 4).filter (fun r => decide (0 < s.ringFilled (htxRing r)))) with
  | none => s
  | some r =>
    let ring := htxRing r
    let d := padTo 32 (desc.take 32)
    let s1 := (s.setTm { s.tm with hostRing := r }).hostPut (s.descAt ring) d
    let s2 := s1.hostPut (cxGet d 16 8) (padTo (cxGet d 4 2) (frame.take (cxGet d 4 2)))
    match s2.txCode false true d with
    | .ok => (s2.offerPacket 6 (packNt s2.now) (s2.hostBytes (cxGet d 16 8) (cxGet d 4 2))).hostDone ring .ok
    | st => (s2.count F.PCIE_CNT_HTX_REFUSED).hostDone ring st

/-- The descriptor of host receive ring r as it stands in host memory. -/
def State.hostDesc (s : State) (r : Nat) (d : List Byte) : State :=
  if 0 < s.ringFilled (hrxRing r) then s.hostPut (s.descAt (hrxRing r)) (padTo 32 (d.take 32)) else s

/-- Word w of the MSI-X table: a vector is address low, high, data and control, masked at reset. -/
def msixReset (w : Nat) : Word := if w % 4 = 3 then 1 else 0
/-- Word w of the table. -/
def State.msixWord (s : State) (w : Nat) : Word := SMap.get msixReset s.tm.msix w
/-- Vector v sends its message. -/
def State.msixSend (s : State) (v : Nat) : State :=
  s.hostPut ((s.msixWord (4 * v)).toNat + (s.msixWord (4 * v + 1)).toNat * 2 ^ 32) (leBytes 4 (s.msixWord (4 * v + 2)).toNat)
/-- Vector v fires: its message goes out, or stays pending while it is masked. -/
def State.msixFire (s : State) (v : Nat) : State :=
  if s.powered 10 && s.bit F.PCIE_STAT_LINKUP then
    if (s.msixWord (4 * v + 3)).getLsbD 0 then s.setTm { s.tm with pba := s.tm.pba ||| 2 ^ v } else s.msixSend v
  else s
/-- The event line of vector v. -/
def State.msixLine (s : State) (v : Nat) : Nat := getBits (s.reg (R.PCIE_MSIX_MAP (v / 4))) (8 * (v % 4) + 7) (8 * (v % 4))
/-- A pulse of a line at its receivers: every vector that it is assigned to fires. -/
def State.msixPulse (s : State) (line : Nat) : State :=
  (List.range 32).foldl (fun s v => if s.msixLine v = line then s.msixFire v else s) s
/-- The host writes a word of the table: unmasking a pending vector sends its message. -/
def State.msixWrite (s : State) (w : Nat) (v : Word) : State :=
  let s1 := s.setTm { s.tm with msix := SMap.set msixReset s.tm.msix w v }
  if w % 4 = 3 ∧ v.getLsbD 0 = false ∧ bitOf s1.tm.pba (w / 4) then
    (s1.setTm { s1.tm with pba := s1.tm.pba - 2 ^ (w / 4) }).msixSend (w / 4)
  else s1

/-! ## Register writes (R265) -/

/-- A ring is PTR, BASE or SIZE of some owner: SW takes only values below SIZE; BASE and SIZE only change while the owner is off. -/
def State.afterRing (s : State) (a base : Nat) (off : Bool) (old : Word) : State :=
  if a = base + 12 then (if s.ringSw base < s.ringSize base then s else s.setReg a old)
  else if off then s else s.setReg a old

/-! ## The host link's endpoint (R271) -/

/-- What the host reads of the endpoint's one function in its configuration space, as Vendor ID and Device ID; the space is available
while the link's domain has power. -/
def State.hostId (s : State) : Option (Nat × Nat) :=
  if s.powered ((mapEntry 21).elim 0 MapEntry.pwr) then some (Config.vendorId % 2 ^ 16, 0x3048) else none

end Sys2Proof.Machine
end

