-- ==== Sys2Proof/Machine/Services.lean ====
section
/-!
DEFINITION. What the service engines do with granted requests (R304 to R307, R313, R335, R338): the grant of each engine, the
cipher pipes, the lanes of the ledger, frost capture, and the report of a completion.
-/
namespace Sys2Proof.Machine

/-! ## Readiness -/

/-- An engine can take a command: CRYPT on with a pipe free; LEDGER on, and neither flush nor snowplough; CAP on and idle. -/
def State.engineReady (s : State) (e : Nat) : Bool :=
  if e = 0 then s.fnOn 28 0 0 && s.powered 16 && !s.freePipes.isEmpty
  else if e = 1 then s.fnOn 30 0 0 && s.powered 12 && !s.pwr.flushing && s.kpr.snow.isNone
  else s.fnOn 13 0 0 && s.powered 8 && !(s.arb.reqs.any (fun q => q.engine == 2 && q.inEngine))

/-- The OP byte of a request: link requests to the cipher engine run as OPEN and SEAL. -/
def SvcReq.op (q : SvcReq) : Nat :=
  match q.job with
  | .desc => cxGet q.desc 0 1
  | .openFrame _ => 2
  | .sealAck _ => 1
  | .frameEntry _ | .lnkEntry => 0

/-- A ledger request runs in the NAND lane. -/
def SvcReq.nandLane (q : SvcReq) : Bool := match q.job with | .desc => nandOp q.op | _ => false

/-- Another request occupies the lane of a ledger request (R335). -/
def State.laneTaken (s : State) (q : SvcReq) : Bool :=
  s.arb.reqs.any (fun x => x.id != q.id && x.engine == 1 && x.inEngine && x.nandLane == q.nandLane)

/-! ## The link unit's entries (R338) -/

/-- Handle and image of the context that a link entry journals. -/
def SvcReq.ctxOf (q : SvcReq) : Option (Nat × List Byte) :=
  (q.items.find? (fun i => decide (i.1 < 0x1000000) && i.1 % 64 == 0 && i.2.length == 8)).map
    (fun i => (i.1 / 64, (i.2.map (leBytes 8)).flatten))

/-- A granted link entry: held for a checkpoint where HSEQ would pass CKHSEQ + 64, else journaled with a checkpoint
scheduled from CKHSEQ + 32, and at every context command (R338). -/
def State.runEntry (s : State) (q : SvcReq) : State :=
  let held (s : State) (h : Nat) (img : List Byte) : Bool := decide (s.mnum (ckptAt h) 4 + 64 < cxHseq img)
  let plain (x : State) : State :=
    match x.journal q.items (.req q.id) with
    | some y => y.journalReq q.id (y.ldg.next - 1)
    | none => (x.count F.LDG_COUNT0_JFULL).returnReq q
  match q.ctxOf with
  | some (h, img) =>
    let s0 := s.meet (ckptAt h) 4
    if held s0 h img then
      (if s0.allocPage.isNone then s0.returnReq q
       else ((s0.startCkpt h img q.items (.req q.id)).count F.LDG_COUNT1_CKPT_WAITS).journalReq q.id 0)
    else
      let s1 := if s0.mnum (ckptAt h) 4 + 32 ≤ cxHseq img || s0.lnk.cmd.any (fun c => c.1 == q.id) then s0.scheduleCkpt h else s0
      plain s1
  | none => plain s

/-! ## Grants -/

/-- What an engine does as it takes a command: an OP that its chapter does not list ends FAULT (R303); a busy lane returns the
command, and so does a NAND command while the map is rebuilt (R335, Table 15-10); a link entry is carried out. -/
def State.takeIn (s : State) (q : SvcReq) : State :=
  if q.engine = 1 then
    (if s.laneTaken q || (q.nandLane && s.ldg.mapRebuild) then s.returnReq q
     else match q.job with
       | .desc => if q.op = 0 ∨ 16 < q.op then s.endReq q.id .fault else s
       | _ => s.runEntry q)
  else if q.engine = 0 then
    (match q.job with
     | .desc => if q.op = 0 ∨ 6 < q.op then s.endReq q.id .fault else s.takePipe q.id
     | _ => s.takePipe q.id)
  else if q.op = 0 ∨ 2 < q.op then s.endReq q.id .fault
  else s

/-- ARBITER_GRANT of an engine: its oldest eligible request is granted while the engine can take one (R304). -/
def State.arbiterGrant (s : State) (e : Nat) : State :=
  if s.engineReady e then
    match s.nextGrant e with
    | none => s
    | some r =>
      let s1 := s.grantReq r
      match s1.reqOf r.id with
      | some q => s1.takeIn q
      | none => s1
  else s

/-- SERVICE_COMPLETION of an engine: the oldest command that has ended is reported in issue order (R306); a command of the link
unit drives its frame on. -/
def State.serviceDone (s : State) (e : Nat) : State :=
  match s.endedReq e with
  | none => s
  | some (q, st) =>
    let s1 := s.completeReq q st
    if q.req = 24 then s1.linkDone q st else s1

/-- BACKOFF_EXPIRY: the backoff of a returned command has ended; it waits like any other from then on. -/
def State.backoffOver (s : State) : State :=
  s.setArb { s.arb with reqs := s.arb.reqs.map (fun r => if r.isWaiting && decide (r.readyAt ≤ s.ticks) then { r with readyAt := 0 } else r) }

/-! ## The cipher pipes (R313, R314) -/

/-- The request in a pipe, where its OP is the one given. -/
def State.pipeReq (s : State) (op p : Nat) : Option SvcReq := (s.inPipe p).filter (fun q => q.op == op)

/-- A pipe runs its command. -/
def State.pipeRun (s : State) (op k : Nat) : State :=
  match s.pipeReq op k with
  | none => s
  | some q =>
    match q.job with
    | .desc =>
      match s.runCipher q.addr (cipherCmd q.desc) with
      | (s1, .code c) => s1.endReq q.id c
      | (s1, .returned) => s1.returnReq q
    | _ => s.linkCipher q

/-- SEQUENCE_CUT_OFF of an engine, when its sequence has held it for the limit (R307). -/
def State.cutOffNow (s : State) (e : Nat) : State := if s.cutOffDue e then s.cutOff e else s

end Sys2Proof.Machine
end

