-- ==== Sys2Proof/Machine/Functions.lean ====
section
/-!
DEFINITION. Switchable functions (R52, R53, R415): the write of EN, the completions, and what each block does at a start
and at a stop.
-/
namespace Sys2Proof.Machine

/-- Replace the power block's own state. -/
def State.setPwr (s : State) (p : PwrState) : State := { s with pwr := p }

/-- The FN_STAT address by which abandons are kept. -/
def fnAt (e i f : Nat) : Nat := (fnState e i f).addr
/-- An abandon of the function's start is pending (R415). -/
def State.abandoning (s : State) (e i f : Nat) : Bool := s.pwr.abandons.contains (fnAt e i f)
/-- Note or drop an abandon. -/
def State.setAbandon (s : State) (e i f : Nat) (b : Bool) : State :=
  let rest := s.pwr.abandons.filter (· != fnAt e i f)
  s.setPwr { s.pwr with abandons := if b then rest ++ [fnAt e i f] else rest }
/-- Note or forget that the stop in progress follows an abandon (R53). -/
def State.setAbandoned (s : State) (e i f : Nat) (b : Bool) : State :=
  let rest := s.pwr.abandoned.filter (· != fnAt e i f)
  s.setPwr { s.pwr with abandoned := if b then rest ++ [fnAt e i f] else rest }

/-- The function exists: its entry has functions, and the instance and number are in range. -/
def fnExists (e i f : Nat) : Bool :=
  match mapEntry e with
  | some m => m.fn && decide (i < m.insts) && decide (f < fnCount e)
  | none => false

/-! ## What a block does as a function moves -/

/-- Entering starting: RUN sets pc to 4 × ENTRY, clears the registers g and every latch (R133). -/
def State.fnStarting (s : State) (e _i f : Nat) : State :=
  if 4 ≤ e ∧ e ≤ 6 ∧ f = 0 then
    let c := 16 + e
    let x := s.core c
    let s1 := s.setCore c { x with pc := BitVec.ofNat 64 (4 * s.fld (F.SE_CFG_ENTRY (e - 4))), g := [], mode := .run }
    s1.setEngine (e - 4) { s1.engine (e - 4) with latches := 0, wait := .none, lateNext := false }
  else s

/-- Reception resumes on a radio's chains: search entries outside what a chain receives are marked (R171). -/
def State.markEntries (s : State) (r : Nat) : State :=
  (List.range 4).foldl (fun s k =>
    match s.receiving r k with
    | some (chan, _) => s.checkEntries r k (chanHz r chan)
    | none => s) s

/-- Entering on: MEM takes its settings and clears its regions (R291, R292), CRYPT takes
its wrapped-key table, LEDGER mounts (R336), a radio or its
demodulator checks the search entries, PORT takes its MODE and looks at the head of TQ0. -/
def State.fnStarted (s : State) (e i _f : Nat) : State :=
  match e with
  | 7 | 8 | 9 => s.markEntries (e - 7)
  | 10 | 11 | 12 => s.markEntries (e - 10)
  | 20 => (s.takeMode i).noteHead i
  | 24 => s.memStart false
  | 28 => s.setCph { s.cph with table := s.wrapCfg }
  | 30 => s.mount
  | _ => s

/-- Entering stopping: RUN flushes the queues and ends LISTENs (R134), RADIO and PORTk end every action, DEMOD drops what
its lanes hold, CRYPT settles every counter record (R341). -/
def State.fnStopping (s : State) (e _i f : Nat) : State :=
  match e with
  | 4 | 5 | 6 =>
    let x := s.engine (e - 4)
    (s.setEngine (e - 4) { x with wait := .none, lateNext := false }).stopQueues (e - 4)
  | 7 | 8 | 9 =>
    if f = 0 then (List.range 4).foldl (fun s k => s.abortChain (e - 7) k) s else s.abortChain (e - 7) (f - 1)
  | 10 | 11 | 12 => s.dropLanes (e - 10)
  | 28 => s.settleAll
  | 30 => s.setFld F.LDG_STAT_FLUSHING 1
  | _ => s

/-- The conditions under which a start succeeds where the spec names some: the router's settings (R252), rings wholly in
DRAM or the scratchpad (R265), memory regions, a capture ring of some size, the wrap table, the module state's copies. -/
def State.startSound (s : State) (e i : Nat) : Bool :=
  match e with
  | 13 => s.fld F.CAP_SIZE_SIZE != 0
  | 18 => s.forwardOk
  | 19 => s.ringOk R.TM_SMP_RING_BASE_LO 16
  | 20 => s.ringOk (tqRing i 0) 32 && s.ringOk (tqRing i 1) 32 && s.ringOk (0x8000140120 + 0x1000 * i) 64
  | 24 => regionsOk s.cfgRegions
  | 28 => s.wrapTableOk
  | 30 => !s.spanLost moduleAt 0x80000
  | _ => true

/-- A start may end now: a radio waits while the regulatory meters are recomputed (R159). -/
def State.startReady (s : State) (e : Nat) : Bool := !((e == 7 || e == 8 || e == 9) && s.bit F.REG_STAT_RECOMPUTING)

/-- A stop has run its course: nothing it lets run out is left. -/
def State.stopReady (s : State) (e i f : Nat) : Bool :=
  match e with
  | 4 | 5 | 6 => !s.actionsLeft (e - 4)
  | 7 | 8 | 9 =>
    (List.range 4).all (fun k => (f != 0 && f != k + 1) || (s.chain (e - 7) k).act.isNone)
  | 13 => s.cap.spans.isEmpty
  | 16 => s.lnk.frames.isEmpty
  | 18 => s.routerEmpty
  | 19 => (List.range 6).all (fun j => match s.sendOf j with | some x => x.tq < 2 | none => true)
  | 20 => (s.sendOf i).isNone
  | 28 => s.freePipes.length == 4 && s.ldg.settling.isEmpty
  | 30 => s.ldg.progs.isEmpty && s.blocksWhere (fun b => b.state == 3) == [] &&
    !s.arb.reqs.any (fun q => q.engine == 1 && q.phase == .granted)
  | _ => true

/-- Leaving stopping: LEDGER seals, applies and closes (R345). -/
def State.fnStopped (s : State) (e _i _f : Nat) : State := if e = 30 then s.closeLedger 0 else s

/-! ## Table 02-21 -/

/-- To starting; in the maintenance hold the radios never start (R397). -/
def State.toStarting (s : State) (e i f : Nat) : State :=
  if radioEntry e && s.bit F.KPR_STAT_HOLD then s else (s.setFld (fnState e i f) 1).fnStarting e i f
/-- To stopping. -/
def State.toStopping (s : State) (e i f : Nat) : State := (s.setFld (fnState e i f) 3).fnStopping e i f

/-- The requests an engine has taken end FAULT. -/
def State.failTaken (s : State) (e : Nat) : State :=
  (s.arb.reqs.filter (fun q => q.engine == e && q.inEngine)).foldl (fun (s : State) q => s.endReq q.id .fault) s

/-- The packets in and before the parser and its stages are gone, and no longer counted for their versions. -/
def State.dropPackets (s : State) : State :=
  let gone := s.rtr.waiting ++ s.rtr.inPass ++ s.rtr.recirc
  s.setRtr { s.rtr with waiting := [], inPass := [], recirc := []
                        live := s.rtr.live.map (fun x => (x.1, x.2 - (gone.filter (fun p => p.version == x.1)).length)) }

/-- A failed function is forced to its reset condition (Table 02-21): what a start or stop left unfinished in it is dropped. -/
def State.fnForced (s : State) (e i f : Nat) : State :=
  match e with
  | 4 | 5 | 6 =>
    let x := s.engine (e - 4)
    (List.range 4).foldl (fun s k => s.abortChain (e - 4) k) (s.setEngine (e - 4) { x with wait := .none, lateNext := false, latches := 0 })
  | 7 | 8 | 9 =>
    if f = 0 then (List.range 4).foldl (fun s k => s.abortChain (e - 7) k) s else s.abortChain (e - 7) (f - 1)
  | 10 | 11 | 12 => s.dropLanes (e - 10)
  | 13 => s.setCap { s.cap with spans := [] }
  | 16 =>
    let s1 := s.lnk.frames.foldl (fun (s : State) x => s.dropFrame x) s
    s1.setLnk { s1.lnk with acks := [] }
  | 18 => s.dropPackets
  | 19 => (List.range 6).foldl (fun (s : State) j => match s.sendOf j with | some x => if 2 ≤ x.tq then s.setSend j none else s | none => s) s
  | 20 => s.setSend i none
  | 28 =>
    let s1 := s.failTaken 0
    { s1 with ldg := { s1.ldg with settling := [] } }
  | 30 =>
    let s1 := s.failTaken 1
    { s1 with ldg := { s1.ldg with progs := [] } }
  | _ => s

/-- A write of EN (R52, R415). -/
def State.fnWrite (s : State) (e i f : Nat) (en : Bool) : State :=
  match s.fld (fnState e i f), en with
  | 0, true => s.toStarting e i f
  | 1, true => if s.abandoning e i f then s.setFld (fnRestart e i f) 1 else s
  | 1, false => (s.setAbandon e i f true).setFld (fnRestart e i f) 0
  | 2, false => s.toStopping e i f
  | 3, true => s.setFld (fnRestart e i f) 1
  | 3, false => s.setFld (fnRestart e i f) 0
  | 4, false => (s.fnForced e i f).setFld (fnState e i f) 0
  | _, _ => s

/-- A start is done: to on, or to stopping when an abandon is pending (Table 02-21). The end of the start is then also the safe
point: it is a start done, and writes OK until the stop completes with ABORTED (R53, log entry 99). -/
def State.fnStartDone (s : State) (e i f : Nat) : State :=
  if s.fld (fnState e i f) = 1 ∧ s.startReady e ∧ s.startSound e i then
    let s1 := s.setFld (fnLast e i f) Status.ok.code
    if s1.abandoning e i f then ((s1.setAbandon e i f false).setAbandoned e i f true).toStopping e i f
    else (s1.setFld (fnState e i f) 2).fnStarted e i f
  else s

/-- A start fails: to failed with FAULT. -/
def State.fnStartFail (s : State) (e i f : Nat) : State :=
  if s.fld (fnState e i f) = 1 then
    (((s.setFld (fnState e i f) 4).setFld (fnRestart e i f) 0).setFld (fnLast e i f) Status.fault.code).setAbandon e i f false
  else s

/-- A safe point with an abandon pending: to stopping, LAST_STATUS as it was (R415). -/
def State.fnSafePoint (s : State) (e i f : Nat) : State :=
  if s.fld (fnState e i f) = 1 ∧ s.abandoning e i f then
    ((s.setAbandon e i f false).setAbandoned e i f true).toStopping e i f
  else s

/-- A stop is done: ABORTED after an abandon, else OK; a queued restart goes to starting (Table 02-21, R53). -/
def State.fnStopDone (s : State) (e i f : Nat) : State :=
  if s.fld (fnState e i f) = 3 ∧ s.stopReady e i f then
    let code := if s.pwr.abandoned.contains (fnAt e i f) then Status.aborted.code else Status.ok.code
    let s1 := (((s.fnStopped e i f).setAbandoned e i f false).setFld (fnLast e i f) code)
    if s1.bit (fnRestart e i f) then ((s1.setFld (fnRestart e i f) 0).setFld (fnState e i f) 0).toStarting e i f
    else s1.setFld (fnState e i f) 0
  else s

/-- A stop fails: to failed with FAULT. -/
def State.fnStopFail (s : State) (e i f : Nat) : State :=
  if s.fld (fnState e i f) = 3 then
    (((s.setFld (fnState e i f) 4).setFld (fnRestart e i f) 0).setFld (fnLast e i f) Status.fault.code).setAbandoned e i f false
  else s

/-- The functions of an entry's instances as (entry, instance, function). -/
def fnsOf (e : Nat) : List (Nat × Nat × Nat) :=
  match mapEntry e with
  | some m => if m.fn then (List.range m.insts).flatMap (fun i => (List.range (fnCount e)).map (fun f => (e, i, f))) else []
  | none => []

end Sys2Proof.Machine
end

