-- ==== Sys2Proof/Machine/Holds.lean ====
section
/-!
DEFINITION. Holding cores in reset and releasing them (R390, R395, Table 17-16), the boot section, the Keeper's messages.
-/
namespace Sys2Proof.Machine

/-- The power domain of a core (Table 01-8). -/
def coreDomain (c : Nat) : Nat :=
  if c ≤ 3 then 3 else if c ≤ 19 then 4 + (c - 4) / 4 else if c ≤ 22 then 13 + (c - 20) else 1

/-- The core is held in reset by KPR_HOLD; slot engines and the Keeper have no bit there. -/
def State.held (s : State) (c : Nat) : Bool := decide (c ≤ 19) && bitOf (s.fld F.KPR_HOLD_HOLD) c

/-- A core can execute: its domain is powered, it is not held, a slot engine's RUN is on, the Keeper is not halted. -/
def State.live (s : State) (c : Nat) : Bool :=
  s.powered (coreDomain c) && !s.held c &&
  (if 20 ≤ c ∧ c ≤ 22 then s.fnOn (c - 16) 0 0 else if c = 23 then s.kpr.snow.isNone else true)

/-- Hold a core in reset: its state is that of R90, its tokens go (R302), its open sequence closes. -/
def State.holdCore (s : State) (c : Nat) : State :=
  let s1 := (s.setFld F.KPR_HOLD_HOLD (s.fld F.KPR_HOLD_HOLD ||| 2 ^ c)).setCore c (coreReset c)
  let s2 := ((s1.dropTokens c).closeSequence c).dropWide c
  let s3 := s2.setWd { s2.wd with asking := s2.wd.asking.filter (fun a => a.1 != c) }
  if (List.range 4).all s3.held && s3.kpr.heldAt.isNone then
    { s3 with kpr := { s3.kpr with heldAt := some s3.clock } } else s3

/-! ## The image in force (Table 17-9) -/

/-- A number of the header of an area's image. -/
def State.imageNum (s : State) (area b n : Nat) : Nat := leNat (s.pageBytes (16384 * area) b n)

/-- BOOT_ENTRY of the active image. -/
def State.bootEntry (s : State) : Nat := s.imageNum s.activeArea 36 4

/-- Bytes of an area from an offset. -/
def State.areaBytes (s : State) (area off n : Nat) : List Byte :=
  (((List.range (n / 4096 + 2)).map (fun i => s.pageBytes (16384 * area + off / 4096 + i) 0 4096)).flatten.drop (off % 4096)).take n

/-- Load the boot section of the active image at the base of mailbox bank 0 (R390). -/
def State.loadBoot (s : State) : State :=
  s.put 0x4000800000 (s.areaBytes s.activeArea (s.imageNum s.activeArea 28 4) (min 131072 (s.imageNum s.activeArea 32 4)))

/-- Write the start word (R378, R390). -/
def State.startWord (s : State) (cause : Nat) : State := s.putLe 0x4000820FF0 8 cause

/-- The address at which a core starts: BOOT_ENTRY in mailbox bank 0, or WD_ENTRY (R390). -/
def State.startAddr (s : State) (c : Nat) : Nat := if c ≤ 3 then 0x4000800000 + s.bootEntry else s.wdEntry

/-- Release a core at its start address. -/
def State.releaseCore (s : State) (c : Nat) : State :=
  let s1 := s.setFld F.KPR_HOLD_HOLD (setBits (BitVec.ofNat 32 (s.fld F.KPR_HOLD_HOLD)) c c 0).toNat
  let s2 := s1.setCore c { coreReset c with pc := BitVec.ofNat 64 (s.startAddr c), cycle0 := s.halfCycles c }
  if c ≤ 3 then { s2 with kpr := { s2.kpr with heldAt := none } } else s2

/-- Release control cores with a cause. -/
def State.releaseControl (s : State) (cs : List Nat) (cause : Nat) : State :=
  cs.foldl (fun (s : State) c => s.releaseCore c) (if cs = [] then s else s.startWord cause)

/-- A write of KPR_HOLD: rising bits hold cores, falling ones release them (Table 17-16). -/
def State.afterHold (s : State) (old : Word) : State :=
  let new := s.fld F.KPR_HOLD_HOLD
  (List.range 20).foldl (fun (s : State) c =>
    if bitOf new c && !bitOf old.toNat c then s.holdCore c
    else if !bitOf new c && bitOf old.toNat c then s.releaseCore c else s) s

/-- The Keeper appends a message to its ring in bank 1, then pulses EV58 (R378); the spec gives a message's 16 bytes no
layout, so they are a free value. -/
def State.postMessage (s : State) : State :=
  let a := 0x4000821000 + 16 * (s.kpr.nextMsg % 32)
  let s1 := (s.putLe a 16 (s.free 128)).takeFree
  ({ s1 with kpr := { s1.kpr with nextMsg := s1.kpr.nextMsg + 1 } } : State).pulse 58

end Sys2Proof.Machine
end

