-- ==== Sys2Proof/Machine/Swap.lean ====
section
/-!
DEFINITION. The swap unit (R46 to R50) and what each set does on its swap tick (R33, R34, R135, R150, R195, R205, R262).
-/
namespace Sys2Proof.Machine

/-! ## Shadow copies -/

/-- The registers of an entry's instance that have RWS fields, with their addresses. -/
def rwsRegs (e i : Nat) : List (Nat × RegSpec) :=
  match mapEntry e with
  | none => []
  | some m => (m.regs.filter (fun r => r.fields.any (fun f => f.ty == .rws))).flatMap (fun r =>
      (List.range r.n1).flatMap (fun k => (List.range r.n2).map (fun j => (blockAddr e i + r.off + r.s1 * k + r.s2 * j, r))))

/-- Copy the RWS fields of a register from the shadow to the active value (R49). -/
def State.copyReg (s : State) (a : Nat) (r : RegSpec) : State :=
  s.setReg a (r.fields.foldl (fun w f => if f.ty == .rws then setBits w f.msb f.lsb (getBits (s.shw a) f.msb f.lsb) else w) (s.reg a))

/-- Copy the RWS fields of the registers of an instance that satisfy a test on their offset. -/
def State.copyRws (s : State) (e i : Nat) (t : Nat → Bool) : State :=
  (rwsRegs e i).foldl (fun (s : State) (x : Nat × RegSpec) => if t x.2.off then s.copyReg x.1 x.2 else s) s

/-- A calibration register of a radio: TXDLY, RXDLY, RXGAIN, FEMG (ch. 06). -/
def isCal (r off : Nat) : Bool :=
  (rwsRegs (7 + r) 0).any (fun (x : Nat × RegSpec) => x.2.off == off && "RF_CAL_".isPrefixOf x.2.name)

/-! ## The sets, by their bit in HIT_SWAP_SETS -/

/-- Domains of a set. -/
def setDomains (b : Nat) : List Nat :=
  if b < 3 then [8] else if b < 6 then [10 + b] else if b < 9 then [7 + b] else if b < 12 then [4 + b]
  else if b < 19 then [9] else [8, 13, 14, 15, 0]

/-- Tags that may ask for a set (Table 02-16). -/
def setRights (b : Nat) : Nat := if 9 ≤ b ∧ b ≤ 11 then 4 else if b = 19 then 15 else 7

/-- The sets of a mask. -/
def setsOf (mask : Nat) : List Nat := (List.range 20).filter (bitOf mask)

/-- The covered sets of a slot that have not swapped. -/
def State.setsLeft (s : State) (n : Nat) : List Nat :=
  (setsOf (getBits (s.reg (R.HIT_SWAP_SETS n)) 19 0)).filter (fun b => !bitOf (s.fld (F.HIT_SWAP_STAT_DONE n)) b)

/-- A program swap (R135): the pages exchange roles and ENTRY takes its shadow value; with RUN on the wait ends and the new
program issues at its ENTRY. -/
def State.swapProg (s : State) (e : Nat) : State :=
  let s1 := (s.copyRws (4 + e) 0 (fun _ => true)).setFld (F.SE_STAT_SWAPPED e) 1
  let x := s1.engine e
  let s2 := s1.setEngine e { x with active := 1 - x.active }
  if s.runState e = 2 then
    let s3 := s2.setEngine e { s2.engine e with wait := .none, lateNext := false }
    s3.setCore (20 + e) { s3.core (20 + e) with pc := BitVec.ofNat 64 (4 * s3.fld (F.SE_CFG_ENTRY e)) }
  else s2

/-- A calibration-set swap (R150): the set is copied, and each chain keeps the earlier words until its first gap. -/
def State.swapCal (s : State) (r : Nat) : State :=
  let old := ((rwsRegs (7 + r) 0).filter (fun (x : Nat × RegSpec) => isCal r x.2.off)).map (fun (x : Nat × RegSpec) => (x.1, s.reg x.1))
  let s1 := s.copyRws (7 + r) 0 (isCal r)
  let s2 := (List.range 4).foldl (fun s k =>
    let c := s.chain r k
    if c.calOld.isSome then s else s.setChain r k { c with calOld := some (s.clock, old) }) s1
  s2.setFld (F.RF_STAT_CAL_PENDING r) 1

/-- What a set does on its swap tick. -/
def State.swapSet (s : State) (b : Nat) : State :=
  if b < 3 then (s.swapTable b).copyRws 14 b (fun _ => true)
  else if b < 6 then s.swapProg (b - 3)
  else if b < 9 then
    (((s.copyRws (b + 1) 0 (fun off => !isCal (b - 6) off)).copyRws (b + 4) 0 (fun off => off != 0x10)).markEntries (b - 6))
  else if b < 12 then s.swapCal (b - 9)
  else if b = 19 then
    let s1 := [13, 15, 16, 33].foldl (fun (s : State) e => s.copyRws e 0 (fun _ => true)) s
    [10, 11, 12].foldl (fun (s : State) e => s.copyRws e 0 (fun off => off == 0x10)) s1
  else s

/-! ## Slots -/

/-- A slot closes with a status; its line EV22 pulses. -/
def State.closeSlot (s : State) (n : Nat) (st : Status) : State :=
  (((s.setFld (F.HIT_SWAP_STAT_STATE n) 2).setFld (F.HIT_SWAP_STAT_STATUS n) st.code)).pulse 22

/-- Close the slot OK when every covered set has swapped (R48). -/
def State.slotComplete (s : State) (n : Nat) : State := if s.setsLeft n = [] then s.closeSlot n .ok else s

/-- A set has swapped. -/
def State.setDone (s : State) (n b : Nat) : State :=
  s.setFld (F.HIT_SWAP_STAT_DONE n) (s.fld (F.HIT_SWAP_STAT_DONE n) ||| 2 ^ b)

/-- The domain is held off: powered down and not asleep (R43). -/
def State.heldOff (s : State) (d : Nat) : Bool := !s.powered d && !s.asleep d

/-- The code of a request (R47). -/
def State.swapCode (s : State) (req n : Nat) : Status :=
  let sets := setsOf (getBits (s.reg (R.HIT_SWAP_SETS n)) 19 0)
  if sets = [] ∨ 999999999 < s.fld (F.HIT_SWAP_NS_NS n) then .fault
  else if (List.range 8).any (fun m => m != n && s.fld (F.HIT_SWAP_STAT_STATE m) == 1 && (s.setsLeft m).any sets.contains) then .busy
  else if sets.any (fun b => !hasRight (setRights b) (s.role req)) then .noRight
  else if s.coarse then .fault
  else if sets.any (fun b => (setDomains b).any s.heldOff) then .domainOff
  else if s.swapNt n < s.now + 2 * usU then .late
  else .ok

/-- A request of the swap a slot describes (R47). -/
def State.swapRequest (s : State) (req n : Nat) : State :=
  if s.fld (F.HIT_SWAP_STAT_STATE n) = 1 then s.setFld (F.HIT_SWAP_STAT_REFUSED n) 1 else
  let s1 := s.setFld (F.HIT_SWAP_STAT_DONE n) 0
  match s.swapCode req n with
  | .ok => s1.setFld (F.HIT_SWAP_STAT_STATE n) 1
  | st => s1.closeSlot n st

/-- Lists of a slot that have been given a start and not reached it are exchanged back (R50, R262). -/
def State.dropLists (s : State) (n : Nat) : State :=
  ((s.setsLeft n).filter (fun b => decide (12 ≤ b ∧ b ≤ 18))).foldl (fun (s : State) b =>
    match s.gateNext (b - 12) with
    | some (_, m) => if m = n then
        let y := s.exchange (b - 12)
        (y.setTm { y.tm with next := SMap.set (fun _ => none) y.tm.next (b - 12) none }).slStat (b - 12) else s
    | none => s) s

/-- A cancel (R50): the sets that have not swapped do not; an accepted list not yet started does not start. -/
def State.swapCancel (s : State) (n : Nat) : State :=
  if s.fld (F.HIT_SWAP_STAT_STATE n) ≠ 1 then s else
  (s.dropLists n).closeSlot n .aborted

/-- A set other than a list is due: a table at its lap boundary, any other at the swap NT (R34). -/
def State.setDue (s : State) (n b : Nat) : Bool :=
  if b < 3 then decide (s.tableSwapAt b (s.swapNt n) ≤ s.now)
  else if 12 ≤ b ∧ b ≤ 18 then
    (match s.gateNext (b - 12) with
     | some (st, m) => m == n && decide (st ≤ s.now)
     | none => decide (s.swapNt n ≤ s.now))
  else decide (s.swapNt n ≤ s.now)

/-- Give a slot's lists their start, or exchange them back with the code of a refusal (R262); the first refusal's code. -/
def State.listsSwap (s : State) (n : Nat) : List Nat → State × Option Status
  | [] => (s, none)
  | b :: bs =>
    if (s.gateNext (b - 12)).isSome then s.listsSwap n bs else
    match s.listSwap (b - 12) n (s.swapNt n) with
    | (s1, none) => s1.listsSwap n bs
    | (s1, some st) => let (s2, r) := s1.listsSwap n bs; (s2, some (r.elim st (fun _ => st)))

/-- A list starts at its S. -/
def State.listBegin (s : State) (n b : Nat) : State :=
  match s.listStart (b - 12) with
  | (s1, some m) => if m = n then s1.setDone n b else s1
  | (s1, none) => s1

/-- SWAP_TAKE_EFFECT: the sets of a pending slot that are due on this tick swap together (R48); coarse time closes the slot
FAULT with none of them swapped. -/
def State.swapTake (s : State) (n : Nat) : State :=
  if s.fld (F.HIT_SWAP_STAT_STATE n) ≠ 1 then s else
  let due := (s.setsLeft n).filter (s.setDue n)
  if due = [] then s else
  if s.coarse then
    (s.dropLists n).closeSlot n .fault
  else
    let lists := due.filter (fun b => decide (12 ≤ b ∧ b ≤ 18))
    let s1 := (due.filter (fun b => !lists.contains b)).foldl (fun (s : State) b => (s.swapSet b).setDone n b) s
    let fresh := lists.filter (fun b => (s.gateNext (b - 12)).isNone)
    let s2 := (lists.filter (fun b => !fresh.contains b)).foldl (fun (s : State) b => s.listBegin n b) s1
    let (s3, refused) := s2.listsSwap n fresh
    let s4 := fresh.foldl (fun (s : State) b => s.listBegin n b) s3
    match refused with
    | some st => (s4.dropLists n).closeSlot n st
    | none => s4.slotComplete n

/-- SLALOM_LIST_START: the list of a port starts at its S; its slot closes OK when all its sets have swapped (R262). -/
def State.slalomStart (s : State) (j : Nat) : State :=
  match s.gateNext j with
  | some (st, n) =>
    if st ≤ s.now ∧ s.fld (F.HIT_SWAP_STAT_STATE n) = 1 then s.swapTake n else s
  | none => s

end Sys2Proof.Machine
end

