-- ==== Sys2Proof/Machine/Power.lean ====
section
/-!
DEFINITION. Power states (ch. 16): requests, refusals, entries with their drains, aborted entries, sleep, Standby and Off.
-/
namespace Sys2Proof.Machine

/-! ## Which domains a state powers (Table 01-8) -/

/-- The domains of a power state as a mask by domain code. -/
def stateDomains (t : Nat) : Nat :=
  match t with
  | 0 => 0x1FFFF | 1 => 0x17F3F | 2 => 0x1310F | 3 => 0x00003 | _ => 0
/-- The power state in force. -/
def State.pstate (s : State) : Nat := s.fld F.PWR_STAT_STATE
/-- The state in force holds a domain on. -/
def State.stateHolds (s : State) (d : Nat) : Bool := bitOf (stateDomains s.pstate) d
/-- Domains that the target powers down. -/
def State.goesDown (s : State) (t d : Nat) : Bool := s.powered d && !bitOf (stateDomains t) d
/-- The module is in Off. -/
def State.isOff (s : State) : Bool := s.pstate == 4
/-- The domain of a map entry. -/
def entryDomain (e : Nat) : Nat := (mapEntry e).elim 0 MapEntry.pwr

/-! ## Off and Standby -/

/-- Registers that show the ledger's own content, read back at the mount. -/
def ledgerShown (a : Nat) : Bool :=
  decide (R.LDG_LIFE = a) || decide (R.LDG_AUDNEXT = a) || decide (R.LDG_WEAR = a) || decide (R.LDG_BLOCKS = a) ||
  decide (R.AUD_HEAD ≤ a ∧ a < R.AUD_HASH 8)

/-- Every valid pass slot ends with Off, each end audited (R383). -/
def State.endPasses (s : State) : State :=
  (List.range 8).foldl (fun (s : State) n =>
    if s.bit (F.PASS_SLOT_VALID n) then
      s.audit 0x02 (s.fld (F.PASS_SLOT_ROLE n)) (s.fld (F.PASS_SLOT_CORE n)) 0 (s.passHeld n).id (leBytes 1 n ++ leBytes 1 4) else s) s

/-- Off: what the ledger, the non-volatile settings and the power die keep; everything else is lost (R361, R383, R74). The
duty ring keeps its age (R162), and a snowplough holds FAULT# low until the next cold start (R397). -/
def State.goOff (s0 : State) : State :=
  let s := s0.endPasses
  let regs := s.regs.foldl (fun (m : SMap Word) (x : Nat × Word) =>
    SMap.set resetWord m x.1 (if ledgerShown x.1 then x.2 else keepNv x.1 x.2)) []
  let shadow := regs.filter (fun (x : Nat × Word) => decide (entryDomain ((locate x.1).elim 0 RegPlace.entry) = 0))
  let z := { State.reset with time := { TimeState.reset with selCount := s.time.selCount } }
  let l := s.ldg
  let k := { z.kpr with keys := s.kpr.keys, floors := s.kpr.floors, timeFloor := s.kpr.timeFloor, cycles := s.kpr.cycles, latched := s.kpr.latched, snow := s.kpr.snow, kickAt := s.clock }
  let p := { z.pwr with vin := s.pwr.vin, ride := none, safeLatch := s.pwr.safeLatch, detachLow := s.pwr.detachLow, capAt := s.clock }
  let d := { z.duty with ring := s.duty.ring.filter (fun r => !r.resv), nextId := s.duty.nextId, epoch := s.dutyMs s.now }
  let z1 : State := { z with pending := s.pending, ticks := s.ticks, cpuHalf := s.cpuHalf, freeCtr := s.freeCtr, regs := regs, shadow := shadow, ldg := l, kpr := k, pwr := p, duty := d }
  let z2 : State := { z1 with cph := { z1.cph with disarmed := s.cph.disarmed }, tm := { z1.tm with host := s.tm.host } }
  let z3 := (z2.setFld F.PWR_STAT_STATE 4).setFld F.PWR_DOMAINS_ON 0
  ((z3.setFld F.PWR_STAT_ENABLE (s.fld F.PWR_STAT_ENABLE)).setFld F.PWR_STAT_BANK_OK (s.fld F.PWR_STAT_BANK_OK)).setFld
    F.PWR_STAT_SAFE (b2n s.pwr.safeLatch)

/-- A register that a cut does not save: NT_ADJ, ring pointers, edit, command and data registers, FN_CTL (R361). -/
def cutLoses (n : String) : Bool :=
  ["NT_ADJ_FRAC", "NT_ADJ_NS", "NT_ADJ_SEC_LO", "NT_ADJ_SEC_HI", "SE_LM_ADDR", "SE_LM_DATA", "SE_FN_CTL", "RF_FN_CTL",
   "DP_FN_CTL", "CAP_FN_CTL", "CAP_RD", "CAP_WR", "ACC_EDIT_IDX", "ACC_EDIT_ADDR_LO", "ACC_EDIT_ADDR_HI", "ACC_EDIT_DATA"].contains n ||
  ["ACC_CQ_PTR", "DRL_FN_CTL", "LNK_DATA", "LNK_FN_CTL", "RTR_EDIT_ARG", "RTR_FN_CTL", "RTR_EDIT_DATA", "RTR_INJ_PTR",
   "TM_SMP_RING_PTR", "TM_FN_CTL", "EMAC_FN_CTL", "EMAC_TQ0_PTR", "EMAC_TQ1_PTR", "EMAC_RXLOG_PTR", "PCIE_FN_CTL"].contains n ||
  ["PCIE_HTX_PTR", "PCIE_HRX_PTR", "RQ_PTR_A", "RQ_POOL_PTR", "DMC_FN_CTL", "WD_TRACE_PTR", "CPH_FN_CTL", "KST_DATA",
   "LDG_FN_CTL"].contains n

/-- A register's word after a cut of its domain: RW and RWS fields saved and restored, the rest at reset (R361). The wake detector
lies in PD_AON, so what it recorded stays (R270). -/
def keepSaved (a : Nat) (w : Word) : Word :=
  match locate a with
  | none => w
  | some p =>
    if entryDomain p.entry ≤ 1 then w else
    match regAt p with
    | none => w
    | some (r, _, _) =>
      if r.name == "EMAC_WAKE_STAT" then w else if cutLoses r.name then resetWord a else
      r.fields.foldl (fun x f => if f.ty == .rw || f.ty == .rws || f.src == .nv then setBits x f.msb f.lsb (getBits w f.msb f.lsb) else x) (resetWord a)

/-- Network time as PD_TIME powers down for Standby: the selected NT of the last tick passes to coarse time, which both domains are
loaded from; the offset is 0 (R74). Counts of elapsed time go on. -/
def State.coarseTransfer (s : State) : TimeState :=
  let load (d : NtDomain) : NtDomain := { d.setUnits s.now with start := s.now, len := 0, adj := none }
  { TimeState.reset with
    a := load s.time.a, b := load s.time.b, selFrom := s.now, selCount := s.clock, slept := s.clock
    refEver := s.time.refEver, refSince := s.time.refSince, pllHeld := s.time.pllHeld }

/-- On wake both domains are loaded from coarse time, which lies within 61 µs + 10 ppm of the time in Standby of what has
elapsed: a free value in that range (R74, log entry 98). They are coarse, and the rate scale is that of the restored NT_INCR. -/
def State.wakeTime (s : State) : State :=
  let bound := 61 * usU + (s.clock - s.time.slept) / 100000
  let u := (s.time.a.units + ntMod - bound + Config.freeNat s.freeCtr % (2 * bound + 1)) % ntMod
  let load (d : NtDomain) : NtDomain := { d.setUnits u with start := u, len := 0 }
  let t := { s.time with a := load s.time.a, b := load s.time.b, offset := 0, selFrom := u, selLen := 0
                         rho := { old := s.incr s.cur, new := s.incr s.cur, since := s.clock } }
  ((({ s with time := t } : State).takeFree).setFld (F.NT_STAT_COARSE 0) 1).setFld (F.NT_STAT_COARSE 1) 1

/-- The bus as Standby leaves it: the requesters whose core it resets lose their captures, latches and stalled accesses; the Keeper
and the host link keep theirs, and a stalled access completes DOMAIN_OFF when it is judged again (R40, R43). -/
def State.standbyBus (s : State) : BusState :=
  { captures := s.bus.captures.filter (fun c => decide (23 ≤ c.1)), latches := s.bus.latches.filter (fun c => decide (23 ≤ c.1))
    stalled := s.bus.stalled.filter (fun x => decide (23 ≤ x.req)), kprFaults := s.bus.kprFaults, resp := none }

/-- Standby cuts every domain but PD_AON and PD_KPR (R361); NT goes to coarse time (R74). -/
def State.goStandby (s : State) : State :=
  let regs := s.regs.foldl (fun (m : SMap Word) (x : Nat × Word) =>
    SMap.set resetWord m x.1 (if ledgerShown x.1 then x.2 else keepSaved x.1 x.2)) []
  let z := State.reset
  let t := s.coarseTransfer
  let tm := { z.tm with wake := s.tm.wake, host := s.tm.host }
  let s1 : State := { s with regs := regs, time := t, fabric := [], cores := s.cores.filter (fun (x : Nat × Core) => x.1 == 23), eng := [], chains := [], fem := [], lanes := [] }
  let s2 : State := { s1 with mem := s.mem.filter (fun (x : Nat × Byte) => isDram x.1), bus := s.standbyBus, cap := z.cap, rq := z.rq, wd := z.wd, arb := z.arb }
  let s3 : State := { s2 with acc := [], rtr := z.rtr, tm := tm, lnk := z.lnk, arrays := { z.arrays with delays := s.arrays.delays, flips := s.arrays.flips.filter (fun (x : Nat × Nat) => isDram x.1) } }
  let s4 := (s3.secLost.setFld (F.NT_STAT_COARSE 0) 1).setFld (F.NT_STAT_COARSE 1) 1
  s4.setFld F.KPR_HOLD_HOLD 0xFFFFF

/-! ## Stopping functions in order (R358) -/

/-- The groups of R358 step 1. -/
def stopGroup (g : Nat) : List Nat :=
  match g with
  | 0 => [4, 5, 6, 7, 8, 9, 10, 11, 12]
  | 1 => [13] | 2 => [16] | 3 => [15] | 4 => [28] | 5 => [30] | 6 => [18] | 7 => [19] | 8 => [20, 21] | 9 => [24]
  | _ => []

/-- The functions of a group in domains that a target powers down. -/
def State.groupFns (s : State) (t g : Nat) : List (Nat × Nat × Nat) :=
  ((stopGroup g).filter (fun e => s.goesDown t (entryDomain e))).flatMap fnsOf

/-- Stop a function on the Keeper's account: its EN stays as it is. -/
def State.stopFn (s : State) (x : Nat × Nat × Nat) : State :=
  match s.fld (fnState x.1 x.2.1 x.2.2) with
  | 1 => (s.setAbandon x.1 x.2.1 x.2.2 true).setFld (fnRestart x.1 x.2.1 x.2.2) 0
  | 2 => s.toStopping x.1 x.2.1 x.2.2
  | 3 => s.setFld (fnRestart x.1 x.2.1 x.2.2) 0
  | _ => s

/-- The function neither runs nor is on its way up or down. -/
def State.fnDown (s : State) (x : Nat × Nat × Nat) : Bool :=
  s.fld (fnState x.1 x.2.1 x.2.2) == 0 || s.fld (fnState x.1 x.2.1 x.2.2) == 4

/-- Start a function whose EN is 1 (R358 step 6, R359). -/
def State.startFn (s : State) (x : Nat × Nat × Nat) : State :=
  if !s.bit (fnCtl x.1 x.2.1 x.2.2) then s else
  match s.fld (fnState x.1 x.2.1 x.2.2) with
  | 0 => s.toStarting x.1 x.2.1 x.2.2
  | 3 => s.setFld (fnRestart x.1 x.2.1 x.2.2) 1
  | _ => s

/-- Every function of the map. -/
def allFns : List (Nat × Nat × Nat) := (List.range 38).flatMap fnsOf

/-- Control cores that a target parks: C1 to C3 in Vigil, all in Standby and Off, none in Lean and Full; a warm restart
(target 5) parks all. -/
def parks (t : Nat) : List Nat := match t with | 2 => [1, 2, 3] | 3 | 4 | 5 => [0, 1, 2, 3] | _ => []

/-- Work cores that an entry withdraws: those of clusters going down; a warm restart withdraws all. -/
def State.withdraws (s : State) (t : Nat) : List Nat :=
  ((List.range 20).filter (fun c => decide (4 ≤ c))).filter (fun c => t == 5 || s.goesDown t (coreDomain c))

/-- Begin the drain of step 2: withdraw the work cores and ask the control cores to park (EV58). -/
def State.beginDrain (s : State) (e : PwrEntry) : State :=
  let s1 := s.setPwr { s.pwr with entry := some { e with drain := true, since := s.clock }, withdrawn := s.withdraws e.target }
  if parks e.target = [] then s1 else s1.pulse 58

/-- Carry an entry through its stop groups as far as it goes (R358 step 1). -/
def State.entryAdvance (s : State) : Nat → State
  | 0 => s
  | fuel + 1 =>
    match s.pwr.entry with
    | none => s
    | some e =>
      if e.drain then s
      else if 10 ≤ e.group then s.beginDrain e
      else if (s.groupFns e.target e.group).all s.fnDown then
        let g := e.group + 1
        let fs := if g ≤ 9 then s.groupFns e.target g else []
        let s1 := fs.foldl (fun (s : State) x => s.stopFn x) s
        (s1.setPwr { s1.pwr with entry := some { e with group := g, stopped := e.stopped ++ fs } }).entryAdvance fuel
      else s

/-- Start an entry to a target asked for by a requester. -/
def State.entryBegin (s : State) (req t : Nat) : State :=
  let s1 := ((s.setFld F.PWR_STAT_CHANGING 1).setFld F.PWR_STAT_TARGET t).setFld F.PWR_STAT_PENDING 0
  let fs := s1.groupFns t 0
  let s2 := fs.foldl (fun (s : State) x => s.stopFn x) s1
  (s2.setPwr { s2.pwr with timed := none, entry := some ⟨t, req, 0, 0, fs, false, s.clock, 0⟩ }).entryAdvance 12

/-! ## Decision of a request (R356, R357) -/

/-- Record a refuser (Table 16-12). -/
def State.refuser (s : State) (entry inst : Nat) (abort : Bool) : State :=
  ((s.setFld F.PWR_REFUSE_ENTRY entry).setFld F.PWR_REFUSE_INSTANCE inst).setFld F.PWR_REFUSE_ABORT (b2n abort)

/-- The first refusal of Table 16-2 that holds, by its refuser's entry. -/
def State.refusal (s : State) (t : Nat) : Option Nat :=
  if (List.range 8).any (fun n => s.fld (F.HIT_SWAP_STAT_STATE n) == 1 &&
      (setsOf (getBits (s.reg (R.HIT_SWAP_SETS n)) 19 0)).any (fun b => (setDomains b).any (s.goesDown t))) then some 1
  else if t ≤ 1 && (List.range 16).any (fun i => s.fld (F.MON_TLIM_ACTION i) == 2 &&
      decide (sgn 12 (s.fld (F.MON_TLIM_HIGH i)) - 40 < sgn 16 (s.fld (F.MON_TEMP_VALUE i)))) then some 33
  else if t ≤ 2 && s.pstate == 3 && !s.bit F.PWR_STAT_BANK_OK then some 31
  else none

/-- A decided request (R357). -/
def State.decidePower (s : State) (req t : Nat) : State :=
  if t = s.pstate then (s.setFld F.PWR_STAT_LAST_STATUS Status.ok.code).setFld F.PWR_STAT_PENDING 0 else
  match s.refusal t with
  | some e =>
    ((((s.setFld F.PWR_STAT_LAST_STATUS Status.busy.code).setFld F.PWR_STAT_PENDING 0).count F.PWR_REFUSE_REFUSED).refuser e 0 false).pulse 53
  | none => s.entryBegin req t

/-- A change is in progress or pending, a detach, a ride-through, or a flush (R356). -/
def State.powerBusy (s : State) : Bool :=
  s.bit F.PWR_STAT_CHANGING || s.bit F.PWR_STAT_PENDING || s.bit F.PWR_STAT_DETACH || s.bit F.PWR_STAT_RIDING || s.pwr.flushing
    || s.pwr.entry.isSome

/-- The NT of a timed request. -/
def State.powerAt (s : State) : Nat := extendSec s.now (s.fld F.PWR_AT_SEC_SEC) * secU + s.fld F.PWR_AT_NS_NS * nsU

/-- The code of a request (R356). -/
def State.powerCode (s : State) (req op t : Nat) : Status :=
  if 4 < t ∨ (op = 2 ∧ (999999999 < s.fld F.PWR_AT_NS_NS ∨ s.coarse)) then .fault
  else if !hasRight (if t = 4 then 14 else 15) (s.role req) then .noRight
  else if s.powerBusy then .busy
  else if op = 2 ∧ s.powerAt < s.now + 2 * usU then .late
  else .ok

/-- A write of PWR_REQ (R356). -/
def State.powerRequest (s : State) (req op t : Nat) : State :=
  if op = 3 then
    (if s.bit F.PWR_STAT_PENDING then
      ((s.setFld F.PWR_STAT_PENDING 0).setFld F.PWR_STAT_LAST_STATUS Status.aborted.code).setPwr { s.pwr with timed := none }
     else s)
  else if op = 0 then s
  else match s.powerCode req op t with
    | .ok =>
      if op = 1 then (s.setFld F.PWR_STAT_LAST_STATUS Status.ok.code).decidePower req t
      else (((s.setFld F.PWR_STAT_PENDING 1).setFld F.PWR_STAT_TARGET t).setFld F.PWR_STAT_LAST_STATUS Status.ok.code).setPwr
        { s.pwr with timed := some req }
    | st => s.setFld F.PWR_STAT_LAST_STATUS st.code

/-- POWER_REQUEST_DUE: the first tick whose selected NT is at or after the requested NT. -/
def State.powerDue (s : State) : State :=
  match s.pwr.timed with
  | some req =>
    if s.bit F.PWR_STAT_PENDING ∧ s.powerAt ≤ s.now then
      let s1 := (s.setFld F.PWR_STAT_PENDING 0).setPwr { s.pwr with timed := none }
      s1.decidePower req (s.fld F.PWR_STAT_TARGET)
    else s
  | none => s

/-! ## The end of an entry -/

/-- The function states of a domain that powers down read off (R358). -/
def State.fnsOff (s : State) (d : Nat) : State :=
  (allFns.filter (fun x => entryDomain x.1 == d)).foldl (fun (s : State) x =>
    (s.setFld (fnState x.1 x.2.1 x.2.2) 0).setFld (fnRestart x.1 x.2.1 x.2.2) 0) s

/-- A domain powers down retained: its bit of ON, its functions off; PD_SEC is never retained (R361). -/
def State.dropDomain (s : State) (d : Nat) : State :=
  let s1 := (s.fnsOff d).setFld F.PWR_DOMAINS_ON (setBits (BitVec.ofNat 32 (s.fld F.PWR_DOMAINS_ON)) d d 0).toNat
  if d = 16 then s1.secLost else s1

/-- Domains by descending order of power-up: a domain comes after all it requires (R31). -/
def powerOrder : List Nat := [0, 1, 2, 8, 3, 4, 5, 6, 7, 9, 10, 11, 12, 16, 13, 14, 15]

/-- The time floor of R382: the whole seconds of a fine selected NT. -/
def State.writeFloor (s : State) : State :=
  if s.coarse then s else { s with kpr := { s.kpr with timeFloor := ntSec s.now } }

/-- Every condition of step 2 is met: withdrawn cores hold no item, and cores to park stall in WFI with no line enabled. -/
def State.drained (s : State) (e : PwrEntry) : Bool :=
  e.drain && s.pwr.withdrawn.all (fun c => s.held c || !(s.wd.running.any (fun (x : Nat × WorkItem) => x.1 == c))) &&
  (parks e.target).all (fun c => s.held c || ((s.core c).mode == .wfi && (s.core c).ien == 0))

/-- Powering down, up, starting and releasing for a target other than Off (R358 steps 3 to 6). -/
def State.enterState (s : State) (t : Nat) : State :=
  let from_ := s.pstate
  let down := powerOrder.reverse.filter (s.goesDown t)
  let s1 := down.foldl (fun (s : State) d => s.dropDomain d) s
  let s2 := if t = 3 then s1.goStandby else s1
  let up := powerOrder.filter (fun d => bitOf (stateDomains t) d && !s2.powered d)
  let s3 := up.foldl (fun (s : State) d => (s.setFld F.PWR_DOMAINS_ON (s.fld F.PWR_DOMAINS_ON ||| 2 ^ d)).touchDomain d) s2
  let s4 := s3.setFld F.PWR_STAT_STATE t
  let s5 := if from_ = 3 ∧ t ≤ 2 then (s4.wakeTime.setFld (fnCtl 30 0 0) 1).loadBoot else s4
  let s6 := (allFns.filter (fun x => bitOf (stateDomains t) (entryDomain x.1))).foldl (fun (s : State) x => s.startFn x) s5
  let back := (List.range 4).filter (fun c => decide (t ≤ 2) && s6.held c && !(parks t).contains c)
  let s7 := s6.releaseControl back (if from_ = 3 then 3 else 5)
  ((List.range 20).filter (fun c => decide (4 ≤ c) && up.contains (coreDomain c))).foldl (fun (s : State) c => s.releaseCore c) s7

/-- A request to the power die is an entry's, for the rails of its target, not for an operating point. -/
def SupReq.forEntry (q : SupReq) : Bool := q.dev == 4 && decide (16 ≤ q.level)
/-- Leave the change: no core withdrawn, not changing, its rail request withdrawn. -/
def State.entryOver (s : State) : State :=
  let s1 : State := { s with sup := s.sup.filter (fun q => !q.forEntry) }
  (s1.setPwr { s1.pwr with entry := none, withdrawn := [] }).setFld F.PWR_STAT_CHANGING 0

/-- A drained power entry completes (R358). -/
def State.entryDone (s : State) (e : PwrEntry) : State :=
  let hold := (parks e.target ++ s.pwr.withdrawn).filter (fun c => !s.held c)
  let s1 := hold.foldl (fun (s : State) c => s.holdCore c) s
  if e.target = 4 then (s1.entryOver.writeFloor).goOff
  else ((s1.enterState e.target).entryOver.setFld F.PWR_STAT_LAST_STATUS Status.ok.code).pulse 53

/-- An entry is aborted back to the state it left (R359). -/
def State.entryAbort (s : State) (entry inst : Nat) : State :=
  match s.pwr.entry with
  | none => s
  | some e =>
    let s1 := s.entryOver
    let s2 := e.stopped.foldl (fun (s : State) x => s.startFn x) s1
    (((s2.setFld F.PWR_STAT_LAST_STATUS Status.aborted.code).count F.PWR_REFUSE_ABORTED).refuser entry inst true).pulse 53

/-- The drain limit in NT (PWR_CFG.DRAIN, 0 acts as 1). -/
def State.drainLimit (s : State) : Nat := msU (max 1 (s.fld F.PWR_CFG_DRAIN))

/-- The refuser of a drain that ran out: WD for a work core, KPR with the first control core that did not park. -/
def State.drainRefuser (s : State) (e : PwrEntry) : Nat × Nat :=
  if s.pwr.withdrawn.any (fun c => !s.held c && s.wd.running.any (fun (x : Nat × WorkItem) => x.1 == c)) then (25, 0)
  else (34, ((parks e.target).find? (fun c => !(s.held c || ((s.core c).mode == .wfi && (s.core c).ien == 0)))).getD 0)

/-! ## Sleep (R362, R363) -/

/-- The linger in NT. -/
def State.linger (s : State) : Nat := 100 * max 1 (s.fld F.PWR_CFG_LINGER) * usU

/-- DOMAIN_LINGER_EXPIRY: a domain that the state does not hold goes back down once the linger has passed (R363). -/
def State.lingerExpiry (s : State) (d : Nat) : State :=
  if s.powered d ∧ s.stateHolds d = false ∧ SMap.get (fun _ => 0) s.pwr.lastAccess d + s.linger ≤ s.clock
    ∧ !(powerOrder.any (fun x => s.powered x && (requires x).contains d)) then s.dropDomain d else s

end Sys2Proof.Machine
end

