-- ==== Sys2Proof/Machine/Supply.lean ====
section
/-!
DEFINITION. The supply bus (R366, R367), the operating point (R365) and the monitors (R374).
-/
namespace Sys2Proof.Machine

/-! ## Requests -/

/-- The SUP_DEV index of a request's device: regulator r is device r + 1, the power die device 0. -/
def SupReq.devIndex (q : SupReq) : Nat := if q.dev = 4 then 0 else q.dev + 1
/-- Set the acknowledged level of a regulator; the power die has none. -/
def State.setLevel (s : State) (dev l : Nat) : State := if dev ≤ 3 then s.setFld (F.SUP_ACK_LEVEL dev) l else s
/-- Replace the list of requests. -/
def State.setSup (s : State) (l : List SupReq) : State := { s with sup := l }

/-- A regulator that a transmission holds: from P − 50 µs to the last bit of a TX that needs it (R156). -/
def State.regulatorHeld (s : State) (g : Nat) : Bool :=
  (List.range 3).any (fun r => (List.range 4).any (fun k =>
    (match (s.chain r k).act with | some a => a.kind == .tx && a.cmd.paReg == some g | none => false) ||
    (s.chain r k).queue.any (fun c => c.isTx && c.paReg == some g)))

/-- Whether a PAREQ may start: its port time has come and no transmission holds its regulator. -/
def State.supReady (s : State) (q : SupReq) : Bool :=
  !q.onBus && (match q.retry with | some u => decide (u ≤ s.now) | none => true) &&
  (q.radio.isNone || !s.regulatorHeld q.dev)

/-- The earlier of two PAREQs by port time. -/
def earlierReq : List SupReq → Option SupReq
  | [] => none
  | q :: qs => match earlierReq qs with | some x => if x.since < q.since then some x else some q | none => some q

/-- The request that starts next: the snowplough's writes, PAREQs by port time, Keeper requests by issue (R367). -/
def State.supNext (s : State) : Option SupReq :=
  let ready := s.sup.filter s.supReady
  match ready.find? (fun q => q.snow) with
  | some q => some q
  | none =>
    match earlierReq (ready.filter (fun q => q.radio.isSome)) with
    | some q => some q
    | none => ready.head?

/-- The request on the bus. -/
def State.onBus (s : State) : Option SupReq := s.sup.find? (fun q => q.onBus)

/-- The writes that carry out a request, as (address, command, data): OPERATION 0x00 for level 0; else VOUT_COMMAND with the level's
value, after OPERATION 0x80 where the acknowledged level is 0 (R366). Of the power die's rails the spec gives no values. -/
def State.supWrites (s : State) (q : SupReq) : List (Nat × Nat × List Byte) :=
  let a := s.fld (F.SUP_DEV_ADDR q.devIndex)
  if 3 < q.dev then []
  else if q.level = 0 then [(a, 0x01, [0x00])]
  else (if s.fld (F.SUP_ACK_LEVEL q.dev) = 0 then [(a, 0x01, [0x80])] else []) ++
    [(a, 0x21, leBytes 2 (s.fld (F.SUP_LEVEL_VOUT q.dev q.level)))]
/-- Nothing is on the bus. -/
def State.supIdle (s : State) : State := s.setPwr { s.pwr with busWrites := [] }

/-- SUPPLY_TRANSACTION_START: the next request takes the bus. A snowplough write ends a transaction in progress, which waits
again. -/
def State.supStart (s : State) : State :=
  match s.supNext with
  | none => s
  | some q =>
    if s.onBus.isSome && !(q.snow && !(s.onBus.elim false SupReq.snow)) then s else
    let since := if q.radio.isSome then q.since else if q.retry.isSome then q.since else s.now
    let free := s.sup.map (fun x => if x.onBus then { x with onBus := false } else x)
    (s.setSup (free.map (fun x => if x = q then { q with onBus := true, retry := none, since := since } else x))).setPwr
      { s.pwr with busWrites := s.supWrites q }

/-- The rails of an entry are acknowledged (R358). -/
def State.railsUp (s : State) : State :=
  s.setPwr { s.pwr with entry := s.pwr.entry.map (fun e => { e with rail := 2 }) }
/-- The Keeper's request to the power die is done: the entry's rails, or the operating point; on FAULT an entry is aborted (R359,
R365). -/
def State.keeperRail (s : State) (q : SupReq) (ok : Bool) : State :=
  if q.dev ≠ 4 then s
  else if ok && q.forEntry then s.railsUp
  else if ok then s.setFld F.PWR_DVFS_CUR (min q.level (min (s.fld F.PWR_DVFS_OPP) (s.fld F.PWR_DVFS_CAP)))
  else s.entryAbort 32 0

/-- A request leaves the bus for good with a code; a PAREQ's action began at its port time (R124, R156). -/
def State.supEnd (s : State) (q : SupReq) (st : Status) : State :=
  let s1 := (s.setSup (s.sup.erase q)).supIdle
  match q.radio, q.cmd with
  | some r, some c => s1.endCmd r 0 c st c.port
  | _, _ => s1.keeperRail q (st == .ok)

/-- A Keeper request, or a write of the snowplough: FAULT at once where the device is not enabled (R366). -/
def State.supIssue (s : State) (dev level : Nat) (snow : Bool) : State :=
  let q : SupReq := ⟨none, none, dev, level, s.now, false, none, snow⟩
  if s.bit (F.SUP_DEV_EN q.devIndex) then s.setSup (s.sup ++ [q]) else (s.setLevel dev 0).keeperRail q false

/-- SUPPLY_ACK: the device acknowledges every byte of the last write (R366). -/
def State.supAck (s : State) : State :=
  match s.onBus with
  | none => s
  | some q => (s.setLevel q.dev q.level).supEnd q .ok

/-- SUPPLY_NACK_RETRY: the whole request repeats 20 µs later (R367). -/
def State.supNack (s : State) : State :=
  match s.onBus with
  | none => s
  | some q =>
    ((s.count F.SUP_STAT_NACKS).supIdle).setSup (s.sup.map (fun x => if x = q then { q with onBus := false, retry := some (s.now + 20 * usU) } else x))

/-- SUPPLY_TIMEOUT: a request not acknowledged within 500 µs of its start completes FAULT (R367). -/
def State.supTimeout (s : State) : State :=
  match s.sup.find? (fun q => (q.onBus || q.retry.isSome || q.radio.isSome) && decide (q.since + 500 * usU ≤ s.now)) with
  | none => s
  | some q => (((s.count F.SUP_STAT_TIMEOUTS).pulse 57).setLevel q.dev 0).supEnd q .fault

/-- The reads of VOUT_MODE of every enabled device at a cold start, before any other transaction; the answers are free values (R366). -/
def State.readModes (s : State) : State :=
  (List.range 5).foldl (fun (s : State) n =>
    if s.bit (F.SUP_DEV_EN n) then (s.setFld (F.SUP_DEV_VMODE n) (s.free 8)).takeFree else s) s
/-- A write of SUP_DEV: VOUT_MODE is read when EN goes to 1 (R366); the device's answer is a free value. -/
def State.afterSupDev (s : State) (n : Nat) (old : Word) : State :=
  if s.bit (F.SUP_DEV_EN n) && !bitOf old.toNat 31 then (s.setFld (F.SUP_DEV_VMODE n) (s.free 8)).takeFree else s

/-! ## The operating point (R365) -/

/-- The point in force: the lower of OPP and CAP. -/
def State.oppWanted (s : State) : Nat := min (s.fld F.PWR_DVFS_OPP) (s.fld F.PWR_DVFS_CAP)

/-- DVFS_CHANGE: to raise the point the rail comes first and the clock on its power good; to lower it the clock changes first
and the rail after. -/
def State.dvfsChange (s : State) : State :=
  let want := s.oppWanted
  let cur := s.fld F.PWR_DVFS_CUR
  if want < cur then (s.setFld F.PWR_DVFS_CUR want).supIssue 4 want false
  else if cur < want ∧ !(s.sup.any (fun q => q.dev == 4 && q.level == want)) then s.supIssue 4 want false
  else s

/-- Some monitor with ACTION 1 reads above its HIGH. -/
def State.throttleHot (s : State) : Bool :=
  (List.range 16).any (fun i => s.fld (F.MON_TLIM_ACTION i) == 1 &&
    decide (sgn 12 (s.fld (F.MON_TLIM_HIGH i)) < sgn 16 (s.fld (F.MON_TEMP_VALUE i))))
/-- Every monitor with ACTION 1 reads at or below HIGH − 5.0 °C. -/
def State.throttleCool (s : State) : Bool :=
  (List.range 16).all (fun i => s.fld (F.MON_TLIM_ACTION i) != 1 ||
    decide (sgn 16 (s.fld (F.MON_TEMP_VALUE i)) ≤ sgn 12 (s.fld (F.MON_TLIM_HIGH i)) - 40))

/-- THERMAL_CAP_STEP: CAP falls by one every 100 ms while hot, and rises by one each second once cool (R365). -/
def State.capStep (s : State) : State :=
  let c := s.fld F.PWR_DVFS_CAP
  if s.throttleHot ∧ 0 < c ∧ s.pwr.capAt + msU 100 ≤ s.clock then
    (s.setFld F.PWR_DVFS_CAP (c - 1)).setPwr { s.pwr with capAt := s.clock }
  else if s.throttleCool ∧ c < 3 ∧ s.pwr.capAt + secU ≤ s.clock then
    (s.setFld F.PWR_DVFS_CAP (c + 1)).setPwr { s.pwr with capAt := s.clock }
  else s

/-! ## Monitors (R374) -/

/-- Where a monitor's sensor lies, as far as its domain can power down (Tables 16-7, 16-8). -/
def monDomain (volt : Bool) (i : Nat) : Nat :=
  if volt then (if i = 7 then 11 else if i = 14 ∨ i = 15 then 10 else if i = 16 then 13 else if i = 17 then 14 else if i = 18 then 15 else 0)
  else
    match i with
    | 0 => 3 | 1 => 4 | 2 => 6 | 3 => 8 | 4 => 9 | 5 => 13 | 6 => 14 | 7 => 15 | 8 => 12 | 9 => 16 | _ => 0

/-- Where a process monitor lies: clusters C and W0 to W3, the fabric, the router, the radio basebands (R374). -/
def procDomains (k : Nat) : List Nat := if k ≤ 4 then [3 + k] else if k = 5 then [8] else if k = 6 then [9] else [13, 14, 15]
/-- The highest of die monitors 0 to 9, in 0.125 °C. -/
def State.dieTemp (s : State) : Int :=
  (List.range 10).foldl (fun m i => max m (sgn 16 (s.fld (F.MON_TEMP_VALUE i)))) (sgn 16 (s.fld (F.MON_TEMP_VALUE 0)))

/-- The Keeper asks for an entry on its own account. -/
def State.keeperEntry (s : State) (t : Nat) : State := if s.powerBusy ∨ s.isOff then s else s.decidePower 23 t

/-- A crossing of a limit, by its number: EV56 unless it stands already (R374). -/
def State.crossLimit (s : State) (k : Nat) : State :=
  if s.pwr.crossed.contains k then s else (s.setPwr { s.pwr with crossed := s.pwr.crossed ++ [k] }).pulse 56
/-- A monitor's value is well inside its limits again: both may be crossed anew. -/
def State.insideAgain (s : State) (k : Nat) : State :=
  s.setPwr { s.pwr with crossed := s.pwr.crossed.filter (fun x => x != k && x != 64 + k) }
/-- Some voltage monitor with SEC other than one stands past a limit. -/
def State.otherVolt (s : State) (j : Nat) : Bool :=
  (List.range 24).any (fun k => k != j && s.bit (F.MON_VLIM_SEC k) && (s.pwr.crossed.contains (16 + k) || s.pwr.crossed.contains (80 + k)))
/-- The alarm condition of a monitor source comes about: it is raised as it does, not while it lasts. -/
def State.monAlarm (s : State) (n : Nat) : State :=
  if bitOf (s.fld F.KST_ALARM_ACTIVE) n then s else (s.alarmActive n true).raiseAlarm n

/-- A temperature monitor's sample. -/
def State.tempSample (s : State) (i : Nat) (v : Int) : State :=
  let hi := sgn 12 (s.fld (F.MON_TLIM_HIGH i))
  let lo := sgn 12 (s.fld (F.MON_TLIM_LOW i))
  let s1 := s.setFld (F.MON_TEMP_VALUE i) (v % 65536).toNat
  let die := s1.dieTemp
  let bad := decide (i ≤ 9 ∧ (die < -400 ∨ 1000 < die))
  let s2 := if i ≤ 9 then (if bad then s1.monAlarm 5 else s1.alarmActive 5 false) else s1
  if hi < v ∨ v < lo then
    let s3 := (s2.setFld F.MON_TEVT_EVT (s2.fld F.MON_TEVT_EVT ||| 2 ^ i)).crossLimit (if hi < v then i else 64 + i)
    if hi < v ∧ s.pwr.crossed.contains i = false ∧ s.fld (F.MON_TLIM_ACTION i) = 2 ∧ s.pstate ≤ 1 then s3.keeperEntry 2 else s3
  else if v ≤ hi - 40 ∧ lo + 40 ≤ v then s2.insideAgain i
  else s2

/-- A voltage monitor's sample. -/
def State.voltSample (s : State) (j : Nat) (v : Nat) : State :=
  let hi := s.fld (F.MON_VLIM_HIGH j)
  let lo := s.fld (F.MON_VLIM_LOW j)
  let s1 := s.setFld (F.MON_VOLT_VALUE j) v
  if hi < v ∨ v < lo then
    let s3 := (s1.setFld F.MON_VEVT_EVT (s1.fld F.MON_VEVT_EVT ||| 2 ^ j)).crossLimit (if hi < v then 16 + j else 80 + j)
    if s.bit (F.MON_VLIM_SEC j) then s3.monAlarm 3 else s3
  else if v + 8 ≤ hi ∧ lo + 8 ≤ v then
    if s.otherVolt j then s1.insideAgain (16 + j) else (s1.insideAgain (16 + j)).alarmActive 3 false
  else s1

/-- MONITOR_SAMPLE: kind 0 temperature, 1 voltage, 2 process; a sensor in a powered-down domain holds its last value. -/
def State.monitorSample (s : State) (kind i : Nat) (v : BitVec 16) : State :=
  if s.isOff then s
  else if kind = 0 then (if i < 16 ∧ s.powered (monDomain false i) then s.tempSample i v.toInt else s)
  else if kind = 1 then (if i < 24 ∧ s.powered (monDomain true i) then s.voltSample i v.toNat else s)
  else if i < 8 ∧ (procDomains i).any s.powered then s.setFld (F.MON_PROC_VALUE i) v.toNat else s

/-- TAMPER_CHECK: a loop outside its window at two consecutive checks raises its source (Table 14-9). -/
def State.tamperCheck (s : State) (loop : Nat) (inside : Bool) : State :=
  let rest := s.pin.tamp.filter (· != loop)
  if inside then ({ s with pin := { s.pin with tamp := rest } } : State).alarmActive loop false
  else
    let s1 : State := { s with pin := { s.pin with tamp := rest ++ [loop] } }
    if s.pin.tamp.contains loop && !bitOf (s.fld F.KST_ALARM_ACTIVE) loop then (s1.alarmActive loop true).raiseAlarm loop else s1

/-- ALARM_RAISED: a source enters its alarm condition, or leaves it (Table 14-9). -/
def State.alarmSource (s : State) (n : Nat) (on : Bool) : State :=
  if 6 < n then s
  else if !on then s.alarmActive n false
  else if n = 6 then s.raiseAlarm 6
  else (s.alarmActive n true).raiseAlarm n

end Sys2Proof.Machine
end

