-- ==== Sys2Proof/Machine/PowerEvents.lean ====
section
/-!
DEFINITION. What the carrier, the input and the Keeper's clock do to power (ch. 16): the ends of entries, wakes, input loss and
the hold-up flush, orderly detach and stop.
-/
namespace Sys2Proof.Machine

/-! ## The pins the module drives (Table 16-5, R397) -/

/-- FAULT# is driven low: a snowplough, the latch of R396 with VIN present, the maintenance hold. -/
def State.faultLow (s : State) : Bool := s.kpr.snow.isSome || (s.kpr.latched && s.pwr.vin) || s.bit F.KPR_STAT_HOLD
/-- READY is high. -/
def State.ready (s : State) : Bool :=
  !s.isOff && s.pwr.booted && s.kpr.snow.isNone && s.bit F.LDG_STAT_MOUNTED && s.bit F.PWR_STAT_BANK_OK &&
  !s.bit F.PWR_STAT_DETACH && !s.faultLow
/-- VIO of a radio's front-end connector supplies 1.8 V (R406). -/
def State.vioOn (s : State) (r : Nat) : Bool := s.fnOn (7 + r) 0 0
/-- ALERT# is low. -/
def State.alertLow (s : State) : Bool :=
  if s.ready then s.fld F.MON_TEVT_EVT != 0 || s.fld F.MON_VEVT_EVT != 0 else s.pwr.safeLatch

/-! ## Wakes (R364) -/

/-- What a wake source stands for has come about: a wake frame recorded (R270), the timer's second reached, GPIO A line 0 low, a limit
crossed, an alarm. -/
def State.wakeDue (s : State) (n : Nat) : Bool :=
  match n with
  | 0 => (List.range 6).any (fun i => s.bit (F.EMAC_WAKE_STAT_VALID i))
  | 1 => s.fld F.PWR_TIMER_SEC != 0 && decide (extendSec s.now (s.fld F.PWR_TIMER_SEC) ≤ ntSec s.now)
  | 2 => !bitOf (s.reg R.PIN_GPIO_IN).toNat 0
  | 4 => s.pwr.crossed != []
  | 5 => s.fld F.KST_ALARM_LATCHED != 0 || s.fld F.KST_ALARM_ACTIVE != 0
  | _ => true
/-- A wake source makes a wake request: EN of DETACH_REQ# reads 1. -/
def State.wakeEnabled (s : State) (n : Nat) : Bool :=
  decide (n ≤ 5) && (n == 3 || bitOf (s.fld F.PWR_WAKE_EN) n) && s.wakeDue n

/-! ## Orderly stops -/

/-- Stop functions at once: an orderly stop runs its stops to their end in one step of the model. -/
def State.stopNow (s : State) (fs : List (Nat × Nat × Nat)) : State :=
  fs.foldl (fun (s : State) x =>
    if s.fnDown x then s else
    let s1 := if s.fld (fnState x.1 x.2.1 x.2.2) = 3 then s else s.toStopping x.1 x.2.1 x.2.2
    let s2 := if x.1 = 28 then s1.ldg.settling.foldl (fun (s : State) n => s.settleCtr n) s1 else s1
    let s3 := if x.1 = 30 then s2.fnStopped 30 0 0 else s2
    ((s3.setFld (fnState x.1 x.2.1 x.2.2) 0).setFld (fnRestart x.1 x.2.1 x.2.2) 0).setFld (fnLast x.1 x.2.1 x.2.2) Status.ok.code) s

/-- The orderly stop to Off: every function in the order of R358, the time floor, Off. -/
def State.orderlyOff (s : State) : State :=
  let fs := (List.range 10).flatMap (fun g => (stopGroup g).flatMap fnsOf)
  ((s.entryOver.stopNow fs).writeFloor).goOff

/-- ENABLE_LOW: an acting low on ENABLE while the module runs starts the orderly stop to Off (R371, Table 16-5). -/
def State.enableLow (s : State) : State :=
  let s1 := s.setFld F.PWR_STAT_ENABLE 0
  if s.isOff then s1.setPwr { s1.pwr with cycled := true }
  else if s.kpr.snow.isSome then s1.goOff
  else s1.orderlyOff

/-! ## Detach (R372) -/

/-- The functions of step 1: RUN, RADIO and DEMOD of every radio. -/
def radioFns : List (Nat × Nat × Nat) :=
  [(4, 0, 0), (5, 0, 0), (6, 0, 0), (7, 0, 0), (8, 0, 0), (9, 0, 0), (10, 0, 0), (11, 0, 0), (12, 0, 0)]

/-- Step 1 of a detach, and of a loss of module state: the radios stop, and their supplies go to level 0 (R372, Table 17-12). -/
def State.stopRadios (s : State) : State :=
  let s1 := radioFns.foldl (fun (s : State) x => s.stopFn x) s
  (List.range 4).foldl (fun (s : State) r => if s.bit (F.SUP_DEV_EN (r + 1)) then s.supIssue r 0 false else s) s1
/-- The export window is open. -/
def State.windowOpen (s : State) : Bool := match s.pwr.detach with | some (2, _) => true | _ => false
/-- The window opens once the radios are off: DETACH_WAIT counts from then (R372). -/
def State.openExport (s : State) : State :=
  match s.pwr.detach with
  | some (1, _) => if radioFns.all s.fnDown then s.setPwr { s.pwr with detach := some (2, s.clock) } else s
  | _ => s

/-- Step 3 and 4: LINK, CRYPT, LEDGER and every other function stop, SAFE is set, and the module enters Off. -/
def State.detachFinish (s : State) : State :=
  let s1 := (s.setPwr { s.pwr with detach := none, safeLatch := true, cycled := false }).setFld F.PWR_STAT_SAFE 1
  (s1.setFld F.PWR_STAT_LAST_STATUS Status.ok.code).orderlyOff

/-- An orderly detach begins; in Standby it passes to step 3 (R372). -/
def State.detachBegin (s : State) : State :=
  let s0 := s.setPwr { s.pwr with detachDue := false }
  let s1 := (s0.pulse 54).setFld F.PWR_STAT_DETACH 1
  if s.pstate = 3 then s1.detachFinish else
  let s2 := s1.stopRadios
  (s2.setPwr { s2.pwr with detach := some (1, s2.clock) }).openExport
/-- DETACH_REQUEST: an acting low on DETACH_REQ# (R371, R372); a change of state in progress completes first. -/
def State.detachRequest (s : State) : State :=
  let s0 := s.setPwr { s.pwr with detachLow := true }
  if s.isOff ∨ s.pwr.detach.isSome ∨ s.pwr.flushing ∨ s.kpr.snow.isSome then s0
  else if s.pwr.entry.isSome then s0.setPwr { s0.pwr with detachDue := true }
  else s0.detachBegin
/-- A change of state has ended: a detach asked for meanwhile begins. -/
def State.detachNext (s : State) : State :=
  if s.pwr.detachDue ∧ s.pwr.entry.isNone then
    (if s.isOff ∨ s.pwr.flushing ∨ s.kpr.snow.isSome then s.setPwr { s.pwr with detachDue := false } else s.detachBegin)
  else s

/-- DETACH_GO: a write of GO closes the window; no effect outside it. -/
def State.detachGo (s : State) : State := if s.windowOpen then s.detachFinish else s

/-- DETACH_WAIT_EXPIRY: the window closes once DETACH_WAIT has passed. -/
def State.detachExpiry (s : State) : State :=
  match s.pwr.detach with
  | some (_, since) => if s.windowOpen ∧ since + msU (100 * s.fld F.PWR_CFG_DETACH_WAIT) ≤ s.clock then s.detachFinish else s
  | none => s

/-- DETACH_CANCEL: DETACH_REQ# goes high before the window closes; the radios restart. -/
def State.detachCancel (s : State) : State :=
  let s0 := s.setPwr { s.pwr with detachLow := false, detachDue := false }
  if s.pwr.detach.isNone then s0 else
  let s1 := (s0.setPwr { s0.pwr with detach := none }).setFld F.PWR_STAT_DETACH 0
  (radioFns.foldl (fun (s : State) x => s.startFn x) s1).setFld F.PWR_STAT_LAST_STATUS Status.aborted.code

/-- WAKE_REQUEST: in Vigil and Standby an enabled source makes the Keeper record the cause and enter WAKE_TO (R364). -/
def State.wakeRequest (s : State) (n : Nat) : State :=
  if (s.pstate = 2 ∨ s.pstate = 3) ∧ s.wakeEnabled n then
    let s1 := (s.setFld F.PWR_WAKE_VALID 1).setFld F.PWR_WAKE_CAUSE n
    if n = 3 then s1.detachRequest
    else s1.keeperEntry (if 2 < s.fld F.PWR_WAKE_WAKE_TO then 0 else s.fld F.PWR_WAKE_WAKE_TO)
  else s

/-! ## Input and hold-up (R343, R368, R369) -/

/-- POWER_DIE_START: VIN has held at or above 8.8 V for 10 ms. -/
def State.dieStart (s : State) : State := s.setPwr { s.pwr with vin := true }

/-- BANK_CHARGED: the bank rises to 45.0 V. -/
def State.bankCharged (s : State) : State := if s.pwr.vin then s.setFld F.PWR_STAT_BANK_OK 1 else s

/-- INPUT_LOSS: EV55, RIDING; a change in progress is aborted, and the loss is audited (R359, R368, R384). -/
def State.inputLoss (s : State) : State :=
  if s.pwr.vin = false then s else
  let s1 := s.setPwr { s.pwr with vin := false, ride := some s.clock }
  if s.isOff then s1 else
  (((s1.entryAbort 31 0).pulse 55).setFld F.PWR_STAT_RIDING 1).auditPower 1 0

/-- INPUT_RETURN: VIN back for 10 ms before a flush: RIDING clears. -/
def State.inputReturn (s : State) : State :=
  let s1 := s.setPwr { s.pwr with vin := true, ride := none }
  if s.pwr.flushing then s1 else s1.setFld F.PWR_STAT_RIDING 0

/-- Requests not granted to the ledger complete ABORTED (R343). -/
def State.abortLedgerWaiting (s : State) : State :=
  (s.arb.reqs.filter (fun q => q.engine == 1 && q.isWaiting)).foldl (fun (s : State) q => s.endReq q.id .aborted) s

/-- Frames whose entry is not durable get no record and no acknowledgement (R25, R343). -/
def State.dropUndurable (s : State) : State :=
  (s.lnk.frames.filter (fun f => f.step != .commit)).foldl (fun (s : State) f => s.dropFrame f) s

/-- Every chain of every radio ABORTed (Table 15-8, Table 17-11). -/
def State.silence (s : State) : State :=
  (List.range 3).foldl (fun s r => (List.range 4).foldl (fun s k => s.abortChain r k) s) s

/-- The domains that the hold-up flush powers down without retention, their cores held in reset (Table 15-8). -/
def State.flushDomains (s : State) : State :=
  let s1 := (List.range 20).foldl (fun (s : State) c => if s.held c then s else s.holdCore c) s
  [13, 14, 15, 9, 10, 11, 16, 3, 4, 5, 6, 7].foldl (fun (s : State) d => if s.powered d then s.dropDomain d else s) s1

/-- RIDE_EXPIRY: RIDE has passed, or the bank falls below 45.0 V: the flush begins with EV40. -/
def State.rideExpiry (s : State) (bankLow : Bool) : State :=
  match s.pwr.ride with
  | none => s
  | some t =>
    if s.pwr.flushing ∨ s.isOff then s
    else if bankLow ∨ t + 100 * s.fld F.PWR_CFG_RIDE * usU ≤ s.clock then
      let s1 := if bankLow then s.setFld F.PWR_STAT_BANK_OK 0 else s
      let s2 := ((s1.setPwr { s1.pwr with flushing := true }).setFld F.LDG_STAT_FLUSHING 1).pulse 40
      s2.abortLedgerWaiting.dropUndurable.silence.flushDomains
    else s

/-- HOLDUP_FLUSH: entries sealed, the flush audited, the duty ring kept, programs in progress completed, the close entry
written; the module goes through Off (R343, R369). -/
def State.holdupFlush (s : State) : State :=
  if s.pwr.flushing then
    let s1 := s.auditPower 2 0
    let s2 := (List.range s1.ldg.progs.length).foldl (fun (s : State) _ => s.progDone false 0) s1
    let s3 := (if s.kpr.snow.isSome then s2 else s2.closeLedger 0).count F.LDG_LIFE_FLUSHES
    (s3.setFld F.PWR_STAT_BANK_OK 0).goOff
  else s

/-- Module state found lost in service: the failure of row 6 of Table 17-12, for the maintenance hold. -/
def State.moduleLost (s : State) : State :=
  if s.bit F.LDG_STAT_MOUNTED ∧ s.bit F.KPR_STAT_HOLD = false ∧ s.spanLost moduleAt 0x80000 then
    (s.auditFailure 6 23).stopRadios.setFld F.KPR_STAT_HOLD 1
  else s

/-! ## Ends of entries (R358, R359) -/

/-- After a function's stop or its failure, an entry in progress goes on or is aborted. -/
def State.afterStop (s : State) (e i f : Nat) : State :=
  match s.pwr.entry with
  | none => s.openExport
  | some x =>
    if s.fld (fnState e i f) = 4 ∧ x.stopped.contains (e, i, f) ∧ x.drain = false then (s.entryAbort e i).detachNext
    else s.entryAdvance 12

end Sys2Proof.Machine
end

