-- ==== Sys2Proof/Machine/Keeper.lean ====
section
/-!
DEFINITION. The Keeper (ch. 17): lift passes, the requests of mailbox bank 1, images, cold and warm starts, the snowplough.
-/
namespace Sys2Proof.Machine

/-! ## Authority keys (R380) -/

/-- An authority key: kind 0 Maker, 1 Installer, 2 Operator, with its index. -/
def State.authKey (s : State) (kind index : Nat) : Option (Nat × Nat) :=
  if kind = 0 then some Config.makerKey else SMap.get (fun _ => none) s.kpr.keys (4 * kind + index)
/-- The floor of an authority key; the Maker key has none. -/
def State.keyFloor (s : State) (kind index : Nat) : Option Nat :=
  if kind = 0 then none else some (SMap.get (fun _ => 0) s.kpr.floors (4 * kind + index))
/-- Set a floor. -/
def State.setFloor (s : State) (kind index v : Nat) : State :=
  { s with kpr := { s.kpr with floors := SMap.set (fun _ => 0) s.kpr.floors (4 * kind + index) v } }
/-- X and Y of a key. -/
def keyBytes (k : Nat × Nat) : List Byte := beBytes 32 k.1 ++ beBytes 32 k.2
/-- The keys that may sign a pass of a role: Maker alone for M, Maker and Installer for I, any for O. -/
def signersFor (role : Nat) : List (Nat × Nat) :=
  (0, 0) :: ((if role ≤ 1 then [(1, 0), (1, 1), (1, 2), (1, 3)] else []) ++ (if role = 0 then [(2, 0), (2, 1), (2, 2), (2, 3)] else []))
/-- The key that an ISSUER names among those permitted for a role. -/
def State.issuerKey (s : State) (role : Nat) (issuer : List Byte) : Option (Nat × Nat) :=
  (signersFor role).find? (fun (x : Nat × Nat) =>
    match s.authKey x.1 x.2 with | some k => (sha256 (keyBytes k)).take 8 == issuer | none => false)

/-! ## Passes (R381 to R383, Table 17-4) -/

/-- A number in a pass. -/
def pnum (p : List Byte) (b n : Nat) : Nat := leNat ((p.drop b).take n)
/-- The least role of a right (Table 17-5). -/
def leastRole (bit : Nat) : Nat := if bit ≤ 1 then 0 else if bit ≤ 4 then 1 else 2
/-- Code 2 of R381. -/
def passFault (p : List Byte) : Bool :=
  pnum p 0 1 != 0x4C || pnum p 1 1 != 1 || pnum p 48 16 != 0 || pnum p 22 2 != 0 || pnum p 30 2 != 0 ||
  decide (2 < pnum p 2 1) || !(decide (pnum p 3 1 ≤ 19) || pnum p 3 1 == 31) || decide (256 ≤ pnum p 32 8) ||
  (List.range 8).any (fun b => bitOf (pnum p 32 8) b && decide (pnum p 2 1 < leastRole b)) ||
  decide (2678400 + pnum p 16 8 < pnum p 24 8)
/-- A pass is in time (R382). -/
def State.passInTime (s : State) (from_ until_ : Nat) : Bool :=
  if s.coarse then decide (s.kpr.timeFloor < until_) else decide (from_ ≤ ntSec s.now) && decide (ntSec s.now < until_)
/-- The code of a pass once checked (R381), and the key that signed it. -/
def State.passCode (s : State) (p : List Byte) : Status × Nat × Nat :=
  if passFault p then (.fault, 0, 0)
  else if pnum p 8 8 ≠ Config.serial then (.noRight, 0, 0)
  else match s.issuerKey (pnum p 2 1) ((p.drop 40).take 8) with
    | none => (.noRight, 0, 0)
    | some (kind, index) =>
      if (match s.keyFloor kind index with | some f => decide (pnum p 4 4 ≤ f) | none => false) then (.noRight, kind, index)
      else if !(match s.authKey kind index with
          | some k => ecdsaVerify k (sha256 (p.take 64)) (beNat ((p.drop 64).take 32)) (beNat ((p.drop 96).take 32))
          | none => false) then (.authFail, kind, index)
      else if !s.passInTime (pnum p 16 8) (pnum p 24 8) then (.late, kind, index)
      else (.ok, kind, index)

/-- The bytes of PASS_DATA. -/
def State.passData (s : State) : List Byte := (List.range 32).flatMap (fun i => leBytes 4 (s.reg (R.PASS_DATA i)).toNat)
/-- PASS_DATA zeroed. -/
def State.clearPassData (s : State) : State := (List.range 32).foldl (fun (s : State) i => s.setReg (R.PASS_DATA i) 0) s
/-- A load completes with a code, and is audited (R381). -/
def State.passLoaded (s : State) (req : Nat) (p : List Byte) (st : Status) : State :=
  ((s.setFld F.PASS_CMD_STATUS st.code).clearPassData).audit 0x01 (s.role req) req st.code (s.passIdOf req)
    ((p.drop 40).take 8 ++ (p.drop 24).take 8)

/-- PASS_LOAD: a check starts, or the load completes BUSY (R381). -/
def State.passLoad (s : State) (req n : Nat) : State :=
  if s.bit (F.PASS_SLOT_VALID n) ∨ s.kpr.check.isSome then s.passLoaded req s.passData .busy
  else ({ s with kpr := { s.kpr with check := some (n, req, s.passData) } } : State).setFld F.PASS_CMD_BUSY 1

/-- PASS_VERIFY_DONE: the verifier finishes; the slot becomes valid or the load fails. -/
def State.passVerify (s : State) : State :=
  match s.kpr.check with
  | none => s
  | some (n, req, p) =>
    let (st, kind, index) := s.passCode p
    let s1 := ({ s with kpr := { s.kpr with check := none } } : State).setFld F.PASS_CMD_BUSY 0
    let s2 := if st = .ok then
        let lim := min 3600 (pnum p 24 8 - s.kpr.timeFloor)
        let h : PassHeld := ⟨pnum p 4 4, kind, index, pnum p 16 8, pnum p 24 8, s.clock, lim⟩
        let a := ((s1.setPassHeld n h).setFld (F.PASS_SLOT_VALID n) 1).setFld (F.PASS_SLOT_ROLE n) (pnum p 2 1)
        ((a.setFld (F.PASS_SLOT_CORE n) (pnum p 3 1)).setFld (F.PASS_SLOT_COARSE n) (b2n s.coarse)).setFld (F.PASS_SLOT_RIGHTS n) (pnum p 32 8)
      else s1
    s2.passLoaded req p st

/-- A slot ends for a reason of Table 17-7, audited. -/
def State.passOver (s : State) (n reason : Nat) : State :=
  let core := s.fld (F.PASS_SLOT_CORE n)
  let role := s.fld (F.PASS_SLOT_ROLE n)
  (s.setReg (R.PASS_SLOT n) 0).audit 0x02 role core 0 (s.passHeld n).id (leBytes 1 n ++ leBytes 1 reason)

/-- PASS_RELEASE: by the slot's CORE or the Keeper, else NO_RIGHT (R383, Table 17-18). -/
def State.passRelease (s : State) (req n : Nat) : State :=
  if req = 23 ∨ (s.bit (F.PASS_SLOT_VALID n) ∧ s.fld (F.PASS_SLOT_CORE n) = req) then
    let s1 := s.setFld F.PASS_CMD_STATUS Status.ok.code
    if s.bit (F.PASS_SLOT_VALID n) then s1.passOver n 3 else s1
  else s.setFld F.PASS_CMD_STATUS Status.noRight.code

/-- PASS_SLOT_END: a slot ends at its window's edge under fine time, or at its coarse limit (R382, R383). -/
def State.passSlotEnd (s : State) (n : Nat) : State :=
  let h := s.passHeld n
  if !s.bit (F.PASS_SLOT_VALID n) then s
  else if !s.coarse ∧ s.passInTime h.from_ h.until_ = false then s.passOver n 0
  else if s.bit (F.PASS_SLOT_COARSE n) ∧ h.since + h.limit * secU ≤ s.clock then s.passOver n 1
  else s

/-- The NT comes fine: every COARSE slot clears COARSE and is checked against its window at once (R382). -/
def State.passesFine (s : State) : State :=
  (List.range 8).foldl (fun (s : State) n =>
    if s.bit (F.PASS_SLOT_VALID n) && s.bit (F.PASS_SLOT_COARSE n) then (s.setFld (F.PASS_SLOT_COARSE n) 0).passSlotEnd n else s) s

/-- TIME_FLOOR_WRITE: the whole seconds of a fine NT (R382). -/
def State.floorWrite (s : State) : State := s.writeFloor

/-! ## Request slots (R378, R379) -/

/-- Address of request slot k in mailbox bank 1. -/
def slotAt (k : Nat) : Nat := 0x4000820000 + 64 * k
/-- Address of a staging page. -/
def stagePage (p : Nat) : Nat := 0x4000830000 + 4096 * p
/-- OP of a slot. -/
def State.kOp (s : State) (k : Nat) : Nat := s.rdLe (slotAt k) 1
/-- ARGj of a slot. -/
def State.kArg (s : State) (k j : Nat) : Nat := s.rdLe (slotAt k + 8 + 8 * j) 8
/-- PSLOT of a slot. -/
def State.kPslot (s : State) (k : Nat) : Nat := s.rdLe (slotAt k + 4) 1
/-- Operations of Table 17-3. -/
def kOps : List Nat := [0x01, 0x02, 0x03, 0x10, 0x11, 0x12, 0x20, 0x21, 0x22, 0x23, 0x30, 0x31, 0x40, 0x41, 0x50]

/-- Arguments lie in their ranges. -/
def State.kArgsOk (s : State) (k op : Nat) : Bool :=
  let a := s.kArg k 0
  let b := s.kArg k 1
  let c := s.kArg k 2
  match op with
  | 0x01 => decide (a ≤ 3)
  | 0x10 => decide (a ≤ 16383 ∧ 1 ≤ b ∧ b ≤ 16 ∧ c + b ≤ 16 ∧ a + b ≤ 16384)
  | 0x20 | 0x21 | 0x23 => decide (a ≤ 4095 ∧ b ≤ 15)
  | 0x22 => decide (a ≤ 4095)
  | 0x30 => decide (1 ≤ a ∧ a ≤ 2 ∧ b ≤ 3 ∧ c ≤ 15)
  | 0x31 => decide (1 ≤ a ∧ a ≤ 2 ∧ b ≤ 3 ∧ c < 2 ^ 32)
  | 0x41 => decide (a ≤ 127 ∧ b ≤ 127)
  | 0x50 => decide (a ≤ 2)
  | _ => true

/-- Code 1 of R379. -/
def State.kFault (s : State) (k : Nat) : Bool :=
  !kOps.contains (s.kOp k) || !s.kArgsOk k (s.kOp k) || s.rdLe (slotAt k + 5) 3 != 0 || s.kpr.foreign.contains k

/-- The rights a request needs, as bits of RIGHTS (Table 17-3). -/
def State.kRights (s : State) (k op : Nat) : List Nat :=
  match op with
  | 0x20 | 0x21 | 0x22 | 0x23 => [1]
  | 0x30 | 0x31 => if s.kArg k 0 = 1 then [6] else [2]
  | 0x40 => [3]
  | 0x41 => (if s.kArg k 0 = 0 then [] else [4]) ++ (if s.kArg k 1 = 0 then [] else [5])
  | 0x50 => [7]
  | _ => []

/-- Code 2 of R379: the pass slot that authorises the request is valid, the requester's, and grants what is needed. -/
def State.kAllowed (s : State) (k op : Nat) : Bool :=
  let n := s.kPslot k
  s.kRights k op == [] ||
  (decide (n ≤ 7) && s.bit (F.PASS_SLOT_VALID n) && s.fld (F.PASS_SLOT_CORE n) == k &&
    (s.kRights k op).all (bitOf (s.fld (F.PASS_SLOT_RIGHTS n))) && (op != 0x21 || decide (1 ≤ s.fld (F.PASS_SLOT_ROLE n))))

/-- Code 3 of R379: the Keeper is carrying out a power change, a detach, or an IMG_ACTIVATE or WARM. -/
def State.kBusy (s : State) : Bool := s.pwr.entry.isSome || s.pwr.detach.isSome

/-- A request completes: STATUS and OUT, DONE, its line, EV58; a request that needs a right is audited (R378, R384). OUT
has no layout in the spec: a free value. -/
def State.kDone (s : State) (k : Nat) (st : Status) : State :=
  let op := s.kOp k
  let s0 := if s.kRights k op = [] then s else
    s.audit 0x06 (s.role k) k st.code (if s.kPslot k ≤ 7 then (s.passHeld (s.kPslot k)).id else 0)
      (leBytes 1 op ++ List.replicate 7 0 ++ leBytes 8 (s.kArg k 0))
  let s1 := ((s0.putLe (slotAt k + 1) 1 st.code).putLe (slotAt k + 32) 32 (s0.free 256)).takeFree
  let fl := s1.rdLe (slotAt k + 2) 1
  let s2 := s1.putLe (slotAt k + 2) 1 (fl ||| 0x80)
  let ev := s2.rdLe (slotAt k + 3) 1
  let s3 := if bitOf fl 0 then s2.pulseFree ev else s2
  ({ s3 with kpr := { s3.kpr with foreign := s3.kpr.foreign.filter (· != k) } } : State).pulse 58

/-! ## Images (R389, R392) -/

/-- The image marks (16 bytes) rewritten by one KWRITE. -/
def State.setMarks (s : State) (v : Nat) : State := s.journalBy 23 (s.moduleItems 0x68000 (leBytes 16 v))
/-- The marks with a byte field replaced. -/
def marksField (m b n v : Nat) : Nat := m - getN m b n * 2 ^ (8 * b) + v * 2 ^ (8 * b)
where getN (m b n : Nat) : Nat := m / 2 ^ (8 * b) % 2 ^ (8 * n)
/-- A byte field of the marks. -/
def State.mark (s : State) (b n : Nat) : Nat := s.marks / 2 ^ (8 * b) % 2 ^ (8 * n)

/-- An area is good (R389). -/
def State.areaGood (s : State) (area : Nat) : Bool :=
  let h := s.pageBytes (16384 * area) 0 4096
  let n (b k : Nat) : Nat := leNat ((h.drop b).take k)
  let len := n 16 4
  (h.take 4 == [0x41, 0x46, 0x56, 0x49]) && n 4 2 == 0x3048 && n 6 1 == 0xB1 && n 7 1 == 0 && n 40 24 == 0 &&
  (h.drop 96).take 3872 == List.replicate 3872 0 && n 4032 64 == 0 &&
  decide (len % 4096 = 0 ∧ len ≤ 67104768 ∧ n 20 4 % 4096 = 0 ∧ n 24 4 ≤ 262144 ∧ n 28 4 % 4096 = 0 ∧ n 32 4 ≤ 131072 ∧ n 36 4 % 4 = 0) &&
  decide (s.mark 4 4 ≤ n 8 4) &&
  sha256 (s.areaBytes area 4096 len) == (h.drop 64).take 32 &&
  ecdsaVerify Config.makerKey (sha256 (h.take 3968)) (beNat ((h.drop 3968).take 32)) (beNat ((h.drop 4000).take 32))

/-- Show TRIAL as the marks have it. -/
def State.showTrial (s : State) : State := s.setFld F.KPR_STAT_TRIAL (s.mark 0 1 / 2 % 2)

/-- Each start into a trial area raises TRIES by one (R392). -/
def State.countTry (s : State) : State :=
  if s.mark 0 1 / 2 % 2 = 1 then s.setMarks (marksField s.marks 1 1 (min 255 (s.mark 1 1 + 1))) else s
/-- The marks with the version of an area, which is 0 while the area is not good. -/
def marksVersion (m area v : Nat) : Nat := marksField m (8 + 4 * area) 4 v

/-- ACTIVE set back and TRIAL 0, audited (R392). -/
def State.revertTrial (s : State) : State :=
  let area := s.activeArea
  let s1 := s.setMarks (marksField s.marks 0 1 (1 - area))
  (({ s1 with kpr := { s1.kpr with trialAt := none } } : State).showTrial).auditImage 23 3 (1 - area) (s1.mark (8 + 4 * (1 - area)) 4)

/-- A start finds TRIES at 3 with TRIAL still 1: the trial is reverted; else the start counts (R392). -/
def State.startTrial (s : State) : State := if s.mark 0 1 / 2 % 2 = 1 ∧ 3 ≤ s.mark 1 1 then s.revertTrial else s.countTry

/-- A warm restart begins to drain (R391), for a request slot or, as 99, the Keeper itself. -/
def State.warmBegin (s : State) (k op : Nat) : State := s.beginDrain ⟨5, k, op, 10, [], false, s.clock, 0⟩

/-- The drained warm restart: cores held, the boot section loaded, the control cores of the state released with cause 2. -/
def State.warmDone (s : State) (e : PwrEntry) : State :=
  let s1 := (List.range 20).foldl (fun (s : State) c => if s.held c then s else s.holdCore c) s
  let back := (List.range 4).filter (fun c => s1.powered 3 && !(parks s1.pstate).contains c)
  let s2 := (s1.entryOver.startTrial.loadBoot).releaseControl back 2
  if e.by_ = 99 then s2 else s2.kDone e.by_ .ok

/-! ## The requests of Table 17-3 -/

/-- Run a KST command for a slot with data, and give its status. -/
def State.kst (s : State) (slot op : Nat) (long : Bool) (data : List Byte) : State × Nat :=
  let s1 := ((s.setFld F.KST_SLOT_SLOT slot).setKstData (padTo 48 data)).kstRun op long
  (s1, s1.fld F.KST_CMD_STATUS)

/-- The status whose code this is; FAULT for another number. -/
def statusOf (c : Nat) : Status :=
  ([.ok, .late, .refusedRegulatory, .busy, .noBuffer, .authFail, .counterExhausted, .domainOff, .noRight, .versionRetired,
    .duplicate, .tooShort, .tooLong, .aborted, .cutOff, .order, .lateStart] : List Status).find? (fun (x : Status) => x.code == c) |>.getD .fault

/-- Store a slot wrap in module state. -/
def State.putSlotWrap (s : State) (n : Nat) (e : List Byte) : State := s.journalBy 23 (s.moduleItems (0x8000 + 64 * n) (padTo 64 e))

/-- Reload every slot from its slot wrap (R390 row, R327). -/
def State.reloadSlots (s : State) : State :=
  (List.range 4096).foldl (fun (s : State) n =>
    let e := s.moduleBytes (0x8000 + 64 * n) 64
    let w := entryWrap e
    if w.length = 40 ∨ w.length = 32 ∨ w.length = 48 then (s.kst n 1 (w.length == 48) w).1 else s) s

/-- RESTART (R395). -/
def State.kRestart (s : State) (k : Nat) : State :=
  let c := s.kArg k 0
  (if s.held c && s.powered 3 then s.releaseControl [c] 4 else s).kDone k .ok

/-- WORK_START (R390): the held work cores whose cluster is powered start at WD_ENTRY. -/
def State.kWorkStart (s : State) (k : Nat) : State :=
  (((List.range 20).filter (fun c => decide (4 ≤ c) && s.held c && s.powered (coreDomain c))).foldl
    (fun (s : State) c => s.releaseCore c) s).kDone k .ok

/-- WARM (R391): in Full, Lean and Vigil. -/
def State.kWarm (s : State) (k : Nat) : State := if s.pstate ≤ 2 then s.warmBegin k 0x03 else s.kDone k .busy

/-- IMG_PAGES (R379): page 0 first unmaps the inactive area. An area being written is not good: its version in the marks is 0. -/
def State.kImgPages (s : State) (k : Nat) : State :=
  let area := 1 - s.activeArea
  let first := s.kArg k 0
  let s0 := if s.mark (8 + 4 * area) 4 = 0 then s else s.setMarks (marksVersion s.marks area 0)
  let s1 := if first = 0 then s0.unmapArea area else s0
  let s2 := (List.range (s.kArg k 1)).foldl (fun (s : State) i =>
    (s.seen (stagePage (s.kArg k 2 + i)) 4096).programBy 23 (16384 * area + first + i) (s.bytes (stagePage (s.kArg k 2 + i)) 4096) []) s1
  (s2.auditImage k 0 area (s2.imageNum area 8 4)).kDone k .ok

/-- IMG_ACTIVATE (R392): AUTH_FAIL where the inactive area is not good; else on trial, then a warm restart. -/
def State.kImgActivate (s : State) (k : Nat) : State :=
  let area := 1 - s.activeArea
  if s.areaGood area then
    let v := s.imageNum area 8 4
    let m := marksVersion (marksField (marksField s.marks 0 1 (2 + area)) 1 1 0) area v
    let s1 := (s.setMarks m).showTrial
    (({ s1 with kpr := { s1.kpr with trialAt := some s1.clock } } : State).auditImage k 1 area v).warmBegin k 0x11
  else s.kDone k .authFail

/-- IMG_CONFIRM (R392). -/
def State.kImgConfirm (s : State) (k : Nat) : State :=
  let area := s.activeArea
  let m := marksField (marksField s.marks 0 1 area) 4 4 (max (s.mark 4 4) (s.imageNum area 12 4))
  let s1 := (s.setMarks m).showTrial
  (({ s1 with kpr := { s1.kpr with trialAt := none } } : State).auditImage k 2 area (s.imageNum area 8 4)).kDone k .ok

/-- KEY_LOADW. -/
def State.kKeyLoadw (s : State) (k : Nat) : State :=
  let n := s.kArg k 0
  let e := s.bytes (stagePage (s.kArg k 1)) 64
  let (s1, c) := (s.seen (stagePage (s.kArg k 1)) 64).kst n 1 ((entryWrap e).length == 48) (entryWrap e)
  (if c = 0 then s1.putSlotWrap n e else s1).kDone k (statusOf c)

/-- KEY_TRANSPORT: LOADP of the staged attribute block and key, its WRAP stored as the slot wrap. -/
def State.kKeyTransport (s : State) (k : Nat) : State :=
  let n := s.kArg k 0
  let (s1, c) := (s.seen (stagePage (s.kArg k 1)) 40).kst n 2 false (s.bytes (stagePage (s.kArg k 1)) 40)
  if c ≠ 0 then s1.kDone k (statusOf c) else
  let (s2, c2) := s1.kst n 3 false []
  let len := match s2.slotKey n with | some key => key.plain.length + 8 | none => 0
  (if c2 = 0 then (s2.putSlotWrap n (wrapEntry (s2.kstData len))).clearKstData else s2).kDone k (statusOf c2)

/-- KEY_CLEAR. -/
def State.kKeyClear (s : State) (k : Nat) : State :=
  let n := s.kArg k 0
  let (s1, c) := s.kst n 4 false []
  (if c = 0 then s1.putSlotWrap n [] else s1).kDone k (statusOf c)

/-- KEY_WRAP: the slot's wrapped-key entry to a staging page. -/
def State.kKeyWrap (s : State) (k : Nat) : State :=
  let n := s.kArg k 0
  let (s1, c) := s.kst n 3 false []
  let len := match s1.slotKey n with | some key => key.plain.length + 8 | none => 48
  (if c = 0 then (s1.put (stagePage (s.kArg k 1)) (wrapEntry (s1.kstData len))).clearKstData else s1).kDone k (statusOf c)

/-- AUTH_KEY: installs an authority key, its floor 0. -/
def State.kAuthKey (s : State) (k : Nat) : State :=
  let b := s.bytes (stagePage (s.kArg k 2)) 64
  let key := (beNat (b.take 32), beNat (b.drop 32))
  let s0 := s.seen (stagePage (s.kArg k 2)) 64
  let s1 : State := { s0 with kpr := { s0.kpr with keys := SMap.set (fun _ => none) s0.kpr.keys (4 * s.kArg k 0 + s.kArg k 1) (some key) } }
  (s1.setFloor (s.kArg k 0) (s.kArg k 1) 0).kDone k .ok

/-- REVOKE: raises the floor; slots whose pass lies at or below it end. -/
def State.kRevoke (s : State) (k : Nat) : State :=
  let kind := s.kArg k 0
  let index := s.kArg k 1
  let f := max ((s.keyFloor kind index).getD 0) (s.kArg k 2)
  ((List.range 8).foldl (fun (s : State) n =>
    let h := s.passHeld n
    if s.bit (F.PASS_SLOT_VALID n) && h.kind == kind && h.index == index && decide (h.id ≤ f) then s.passOver n 2 else s)
    (s.setFloor kind index f)).kDone k .ok

/-- REARM: KST ARM, then the slots from their wraps (R327). -/
def State.kRearm (s : State) (k : Nat) : State :=
  let (s1, c) := s.kst 0 5 false []
  (if c = 0 then s1.reloadSlots else s1).kDone k (statusOf c)

/-- ALARM: EN bits set and cleared; bit 6 reads 1 and ignores writes. -/
def State.kAlarm (s : State) (k : Nat) : State :=
  let v := (s.fld F.KST_ALARM_EN ||| s.kArg k 0) &&& (127 ^^^ s.kArg k 1)
  (s.setFld F.KST_ALARM_EN (v ||| 64)).kDone k .ok

/-- CAL_SAVE: the active calibration set to the working set, appended as a calibration record. -/
def State.kCalSave (s : State) (k : Nat) : State :=
  let r := s.kArg k 0
  let words := ((rwsRegs (7 + r) 0).filter (fun (x : Nat × RegSpec) => isCal r x.2.off)).map (fun (x : Nat × RegSpec) => (s.reg x.1).toNat)
  let bs := words.flatMap (leBytes 4)
  let s1 := (s.journalMany 23 (bs.length / 64 + 2) (s.itemsAt (calSetAt + 0x10000 * r) bs (bs.length / 64 + 2))).calAppend bs
  (s1.auditImage k 0 2 r).kDone k .ok

/-- What a request does once it has passed codes 1 to 3. -/
def State.kAction (s : State) (k : Nat) : Nat → State
  | 0x01 => s.kRestart k | 0x02 => s.kWorkStart k | 0x03 => s.kWarm k
  | 0x10 => s.kImgPages k | 0x11 => s.kImgActivate k | 0x12 => s.kImgConfirm k
  | 0x20 => s.kKeyLoadw k | 0x21 => s.kKeyTransport k | 0x22 => s.kKeyClear k | 0x23 => s.kKeyWrap k
  | 0x30 => s.kAuthKey k | 0x31 => s.kRevoke k | 0x40 => s.kRearm k | 0x41 => s.kAlarm k | 0x50 => s.kCalSave k
  | _ => s

/-- The Keeper serves a request slot whose OP is op, or an OP of no row, in the order of R379; in the maintenance hold only
image and authority-key requests of the host link (R397). -/
def State.kServe (s : State) (k op : Nat) : State :=
  if 20 ≤ k ∧ k ≠ 31 then s
  else if s.kpr.snow.isSome || s.isOff then s
  else if s.bit F.KPR_STAT_HOLD && !(k == 31 && (op == 0x10 || op == 0x11 || op == 0x12 || op == 0x30 || op == 0x31)) then s
  else if 128 ≤ s.rdLe (slotAt k + 2) 1 then s
  else if kOps.contains (s.kOp k) ∧ s.kOp k ≠ op then s
  else
    let s1 := s.seen (slotAt k) 64
    if s.kFault k then s1.kDone k .fault
    else if !s.kAllowed k op then s1.kDone k .noRight
    else if s.kBusy then s1.kDone k .busy
    else s1.kAction k op

/-- TRIAL_REVERT: 600 s without a confirm, or a third trial start, reverts and restarts warm (R392). -/
def State.trialRevert (s : State) : State :=
  let late := match s.kpr.trialAt with | some t => decide (t + 600 * secU ≤ s.clock) | none => false
  if s.mark 0 1 / 2 % 2 = 1 ∧ (3 ≤ s.mark 1 1 ∨ late = true) then s.revertTrial.warmBegin 99 0 else s

/-! ## Doorbell and watchdog (R376 to R378) -/

/-- A write to the doorbell of bank 1 sets DOORBELL; the 100 ms count from the write that set it. -/
def State.doorbell (s : State) : State :=
  let s1 := s.setFld F.KPR_STAT_DOORBELL 1
  if s.bit F.KPR_STAT_DOORBELL then s1 else { s1 with kpr := { s1.kpr with bellAt := some s1.clock } }

/-- A store into bank 1: a request slot written by another requester is remembered, the doorbell rings (R378). -/
def State.afterBank1 (s : State) (req a n : Nat) : State :=
  if a + n ≤ 0x4000820000 ∨ 0x4000840000 ≤ a then s else
  let hit (k : Nat) : Bool := decide (slotAt k < a + n) && decide (a < slotAt k + 64) && req != k && req != 23
  let bad := (List.range 32).filter (fun k => hit k && !s.kpr.foreign.contains k)
  let s1 : State := { s with kpr := { s.kpr with foreign := s.kpr.foreign ++ bad } }
  if 0x4000820FF8 < a + n ∧ a < 0x4000821000 then s1.doorbell else s1

/-- The acknowledgement of the doorbell. -/
def State.doorbellAck (s : State) : State :=
  ({ s with kpr := { s.kpr with bellAt := none } } : State).setFld F.KPR_STAT_DOORBELL 0

/-- The watchdog period in ticks; the oscillator's ±10 % is a free choice of the event. -/
def State.wdogPeriod (s : State) : Nat := msU (max 10 (min 1000 (s.fld F.KPR_WDOG_PERIOD)))

/-- A kick restarts the period. -/
def State.kick (s : State) : State := { s with kpr := { s.kpr with kickAt := s.clock } }

/-! ## The snowplough (R393, R394) -/

/-- Requests granted or not complete ABORTED at the ledger. -/
def State.abortLedgerAll (s : State) : State :=
  (s.arb.reqs.filter (fun q => q.engine == 1 && (match q.phase with | .ended _ => false | .written => false | _ => true))).foldl
    (fun (s : State) q => s.endReq q.id .aborted) s

/-- The snowplough of a failure row: every Iblek core held, every chain ABORTed, the ledger closed with the cause, level 0 to
the enabled regulators ahead of all else, a detach aborted (Table 17-11). -/
def State.snowplough (s : State) (row : Nat) : State :=
  if s.kpr.snow.isSome || s.isOff then s else
  let s1 : State := { s with kpr := { s.kpr with snow := some ⟨row, s.clock⟩, check := none } }
  let s2 := (List.range 20).foldl (fun (s : State) c => if s.held c then s else s.holdCore c) s1
  let s3 := [4, 5, 6].foldl (fun (s : State) e => (s.setFld (fnState e 0 0) 0).setFld (fnRestart e 0 0) 0) s2
  let s4 := s3.silence.abortLedgerAll.dropUndurable
  let s5 := if s4.pwr.flushing then s4 else s4.closeLedger (row + 2)
  let s6 := (List.range 4).foldl (fun (s : State) r => if s.bit (F.SUP_DEV_EN (r + 1)) then s.supIssue r 0 true else s) s5
  let s7 := s6.entryOver
  if s7.pwr.detach.isSome then
    ((s7.setPwr { s7.pwr with detach := none }).setFld F.PWR_STAT_DETACH 0).setFld F.PWR_STAT_LAST_STATUS Status.aborted.code
  else s7

/-- WATCHDOG_EXPIRY (R376): the period may run 10 % fast. -/
def State.watchdogExpiry (s : State) : State :=
  if s.kpr.kickAt + s.wdogPeriod * 9 / 10 ≤ s.clock then s.snowplough 2 else s
/-- DOORBELL_TIMEOUT (R377): 100 ms without an acknowledgement. -/
def State.doorbellTimeout (s : State) : State :=
  match s.kpr.bellAt with | some t => if t + msU 100 ≤ s.clock then s.snowplough 3 else s | none => s

/-- The cycles that began in the last 3,600 s. -/
def State.recentCycles (s : State) : List Nat := s.kpr.cycles.filter (fun t => decide (s.clock < t + 3600 * secU))

/-- SNOWPLOUGH_WAIT_EXPIRY (R396): the power die removes the rails, for a cold start unless three cycles began in 3,600 s;
then it stays off with FAULT# latched. -/
def State.snowWait (s : State) : State :=
  match s.kpr.snow with
  | none => s
  | some w =>
    if s.isOff then s
    else if w.tick + 10 * secU ≤ s.clock then
      let old := s.recentCycles
      let k := if old.length < 3 then { s.kpr with cycles := old ++ [s.clock] } else { s.kpr with cycles := old, latched := true }
      let s1 : State := { s with kpr := k }
      let s2 := s1.goOff
      { s2 with ldg := { s2.ldg with closeCause := w.row + 2 } }
    else s

/-! ## Double faults of control cores (R395) -/

/-- CORE_DOUBLE_FAULT: the Keeper holds the core in reset, audits the failure and posts a message. -/
def State.coreDoubleFault (s : State) (c : Nat) : State :=
  if c ≤ 3 ∧ (s.core c).mode = .dfault ∧ s.held c = false then ((s.holdCore c).auditFailure 0 c).postMessage else s

/-- ALL_CORES_HELD_EXPIRY: all four held for 1 s makes a warm restart. -/
def State.allHeldExpiry (s : State) : State :=
  match s.kpr.heldAt with
  | some t =>
    if (List.range 4).all s.held ∧ t + secU ≤ s.clock ∧ s.pwr.entry.isNone ∧ s.pstate ≤ 2 then s.warmBegin 99 0 else s
  | none => s

/-! ## Cold start (R387 to R390) -/

/-- The maintenance hold (Table 17-12 row 5). -/
def State.maintenance (s : State) : State := s.setFld F.KPR_STAT_HOLD 1

/-- The Maker key agrees with its fused digest (R380). -/
def makerOk : Bool := leNat (sha256 (keyBytes Config.makerKey)) == Config.makerDigest

/-- The area the Keeper takes: the active one when good, else the other after a fallback (R389). -/
def State.pickArea (s : State) : State × Bool :=
  if s.areaGood s.activeArea then (s, true)
  else if s.areaGood (1 - s.activeArea) then
    let a := 1 - s.activeArea
    let s1 := s.setMarks (marksVersion (marksVersion (marksField s.marks 0 1 a) (1 - a) 0) a (s.imageNum a 8 4))
    ((s1.showTrial).auditImage 23 4 a (s.imageNum a 8 4), true)
  else (s, false)

/-- Where the start cause comes from: a carrier's act, or the cause of the close that a failure left (Table 17-12). -/
def State.startCause (s : State) (cause : Nat) : Nat := if 3 ≤ s.ldg.closeCause then s.ldg.closeCause else cause

/-- Put bytes into a memory held as a map. -/
def putBytes (m : SMap Byte) (a : Nat) : List Byte → SMap Byte
  | [] => m
  | b :: bs => putBytes (SMap.set (fun _ => 0) m a b) (a + 1) bs

/-- Put bytes into the Keeper's local memory. -/
def State.putLocal (s : State) (a : Nat) (bs : List Byte) : State := { s with kprMem := putBytes s.kprMem a bs }

/-- A cold start into a trial counts its 600 s from the start: the time the module was off is not known (log entry 127). -/
def State.onTrial (s : State) : State :=
  if s.mark 0 1 / 2 % 2 = 1 then { s with kpr := { s.kpr with trialAt := some s.clock } } else s

/-- The boot: mount, image, keys, audit, the domains of Full, MEM, the boot section and the control cores (Table 17-8). The Keeper's two
halves start at address 0 of their local memory (R388). A failure of the Keeper is audited for core 23: after a lockstep mismatch the
spec leaves open which half an entry names, and the model always names the leading one (DESIGN CHOICE, log entry 122). -/
def State.boot (s : State) (cause : Nat) : State :=
  let c := s.startCause cause
  let s0 := (s.setFld F.KPR_STAT_START c).setFld (fnCtl 30 0 0) 1
  if makerOk = false then s0.maintenance
  else if s0.startSound 30 0 = false then ((s0.setFld (fnState 30 0 0) 4).setFld (fnLast 30 0 0) Status.fault.code).maintenance else
  let s2 := (s0.setFld (fnState 30 0 0) 2).mount
  let (s3, good) := s2.pickArea
  if good = false then s3.maintenance else
  let s4 := s3.startTrial.onTrial
  let sec := s4.areaBytes s4.activeArea (s4.imageNum s4.activeArea 20 4) (min 262144 (s4.imageNum s4.activeArea 24 4))
  let s5 := (s4.showTrial.putLocal 0 sec).setCore 23 { coreReset 23 with cycle0 := s4.halfCycles 23 }
  let s6 := if s5.cph.disarmed then s5.kstStat else
    ((s5.setCph { s5.cph with kek := some derivedKek }).kstStat).reloadSlots
  let s7 := (s6.auditPower 0 c)
  let s8 := if 3 ≤ c ∧ c ≤ 6 then s7.auditFailure (c - 2) 23 else s7
  let s9 := (((s8.setFld (fnCtl 24 0 0) 1).setFld (fnState 24 0 0) 2).memStart true).loadBoot
  s9.releaseControl [0, 1, 2, 3] 1

/-- COLD_START: cause 0 first power-up, 1 VIN restored, 2 ENABLE cycled; longLow that ENABLE was held low for 1 s, which clears
the latch and the cycle count of R396; the safe-to-remove indication needs ENABLE cycled with DETACH_REQ# high (R372). -/
def State.coldStart (s : State) (cause : Nat) (longLow : Bool) : State :=
  if s.pwr.booted then s
  else if s.kpr.latched && !longLow then s
  else if s.pwr.safeLatch && !(cause == 2 && s.pwr.cycled && !s.pwr.detachLow) then s
  else
    let k := if longLow then { s.kpr with latched := false, cycles := [] } else s.kpr
    let p := { s.pwr with vin := true, booted := true, safeLatch := false, cycled := false }
    let s1 : State := { s with kpr := { k with kickAt := s.clock, snow := none }, pwr := p }
    let s2 := ((s1.setFld F.PWR_STAT_STATE 0).setFld F.PWR_DOMAINS_ON 0x1FFFF).setFld F.PWR_STAT_ENABLE 1
    let s3 := (s2.setFld F.PWR_STAT_SAFE 0).setFld F.KPR_STAT_CYCLES s2.recentCycles.length
    let s4 := s3.readModes
    let t := { TimeState.reset with selCount := s.clock, refEver := s.time.refEver, refSince := s.time.refSince }
    (((({ s4 with time := t } : State).setFld (F.NT_STAT_COARSE 0) 1).setFld (F.NT_STAT_COARSE 1) 1)).boot cause

end Sys2Proof.Machine
end

