-- ==== Sys2Proof/Machine/Pins.lean ====
section
/-!
DEFINITION. The pin block and the debug port (R410 to R412): serial descriptors, UART FIFOs, GPIO, JTAG instructions.
-/
namespace Sys2Proof.Machine

/-- Replace the pin block's state. -/
def State.setPin (s : State) (p : PinState) : State := { s with pin := p }
/-- The descriptor a unit runs. -/
def State.serRun (s : State) (u : Nat) : Option SerRun := SMap.get (fun _ => none) s.pin.runs u
/-- Replace the descriptor a unit runs. -/
def State.setSerRun (s : State) (u : Nat) (r : Option SerRun) : State :=
  s.setPin { s.pin with runs := SMap.set (fun _ => none) s.pin.runs u r }
/-- A UART's receive FIFO, oldest first. -/
def State.uartFifo (s : State) (u : Nat) : List Byte := SMap.get (fun _ => []) s.pin.fifo u
/-- Replace a FIFO. -/
def State.setUartFifo (s : State) (u : Nat) (l : List Byte) : State :=
  s.setPin { s.pin with fifo := SMap.set (fun _ => []) s.pin.fifo u l }

/-- Address of a unit's descriptor. -/
def State.serDesc (s : State) (u : Nat) : Nat := spadBase + 16 * s.fld (F.PIN_SER_DESC_OFFSET u)

/-- A descriptor's parameters as the unit reads them (Table 18-10). -/
def State.serRead (s : State) (a : Nat) : SerRun :=
  ⟨a, s.rdLe a 1, s.rdLe (a + 2) 1, s.rdLe (a + 4) 2, s.rdLe (a + 6) 2, s.rdLe (a + 8) 5, false⟩

/-- Code 3 of R410. -/
def State.serFault (s : State) (u a : Nat) : Bool :=
  let r := s.serRead a
  !(r.op == 1 || r.op == 2 || r.op == 3) || s.rdLe (a + 3) 1 != 0 || s.rdLe (a + 13) 1 != 0 ||
  decide (4096 < r.wlen) || decide (4096 < r.rlen) || r.wlen + r.rlen == 0 ||
  !(isSpad r.buf && decide (r.buf + r.wlen + r.rlen ≤ 0x4000800000)) ||
  (decide (u ≤ 1) && (r.op != 1 || r.rlen != 0))

/-- A descriptor completes: XFER then STATUS, STATUS copied, BUSY cleared (R410). -/
def State.serEnd (s : State) (u a xfer : Nat) (st : Status) : State :=
  let s1 := (s.putLe (a + 14) 2 xfer).putLe (a + 1) 1 st.code
  ((s1.setSerRun u none).setFld (F.PIN_SER_CMD_STATUS u) st.code).setFld (F.PIN_SER_CMD_BUSY u) 0

/-- SERIAL_START: OP 0b01 (R410). While the unit runs, or with PD_FAB off, the descriptor is not touched. -/
def State.serStart (s : State) (u : Nat) : State :=
  let a := s.serDesc u
  if s.bit (F.PIN_SER_CMD_BUSY u) then s.setFld (F.PIN_SER_CMD_STATUS u) Status.busy.code
  else if !s.powered 8 then s.setFld (F.PIN_SER_CMD_STATUS u) Status.domainOff.code
  else if !s.bit (F.PIN_SER_CFG_EN u) then s.serEnd u a 0 .domainOff
  else if s.serFault u a then (s.seen a 16).serEnd u a 0 .fault
  else ((s.seen a 16).setSerRun u (some (s.serRead a))).setFld (F.PIN_SER_CMD_BUSY u) 1

/-- SERIAL_ABORT: OP 0b10 stops the transfer at the next byte boundary. -/
def State.serAbort (s : State) (u : Nat) : State :=
  match s.serRun u with
  | some r => s.setSerRun u (some { r with stop := true })
  | none => s

/-- Bytes a whole transfer moves. -/
def SerRun.total (r : SerRun) : Nat := (if r.op = 2 then 0 else r.wlen) + (if r.op = 1 then 0 else r.rlen)

/-- Bytes that a transfer of which some bytes moved has sent from BUF. -/
def SerRun.sentBytes (r : SerRun) (moved : Nat) : Nat := if r.op = 2 then 0 else min r.wlen moved
/-- The unit sends bytes from BUF. -/
def State.serSend (s : State) (u : Nat) (r : SerRun) (moved : Nat) : State :=
  let n := r.sentBytes moved
  let s1 := s.seen r.buf n
  s1.setPin { s1.pin with sent := SMap.set (fun _ => []) s1.pin.sent u (s.bytes r.buf n) }

/-- SERIAL_COMPLETE: the transfer ends, with the bytes received; ended early with what had moved (R410). -/
def State.serComplete (s : State) (u : Nat) (data : List Byte) (failed : Bool) (moved : Nat) : State :=
  match s.serRun u with
  | none => s
  | some r =>
    let early := r.stop || (failed && (u == 2 || u == 3))
    let got := if r.op = 1 then [] else (padTo r.rlen data).take r.rlen
    let n := if early then min moved r.total else r.total
    let kept := if early then got.take (n - (if r.op = 2 then 0 else r.wlen)) else got
    ((s.serSend u r n).put (r.buf + r.wlen) kept).serEnd u r.at_ n (if early then .aborted else .ok)

/-- UART_BYTE_RX: a full FIFO of 256 drops the byte with OVERRUN; a bad stop bit sets FRAMING (R411). -/
def State.uartRx (s : State) (u : Nat) (b : Byte) (stop : Bool) : State :=
  if !s.bit (F.PIN_SER_CFG_EN u) ∨ s.powered 8 = false then s
  else if 256 ≤ (s.uartFifo u).length then s.setFld (F.PIN_SER_RX_OVERRUN u) 1
  else
    let s1 := s.setUartFifo u (s.uartFifo u ++ [b])
    if stop then s1 else s1.setFld (F.PIN_SER_RX_FRAMING u) 1

/-- PIN_SER_RX as it reads. -/
def State.serRxWord (s : State) (u : Nat) : Word :=
  let w := s.reg (R.PIN_SER_RX u)
  let l := s.uartFifo u
  setBits (setBits w 31 31 (b2n l.isEmpty)) 7 0 (l.headD 0).toNat

/-- A read of PIN_SER_RX removes the oldest byte. -/
def State.serRxPop (s : State) (u : Nat) : State := s.setUartFifo u (s.uartFifo u).tail

/-- GPIO_SAMPLE: each AON cycle the levels at the positions are sampled; a driven line shows OUT, and under EXTEST the
boundary-scan cells drive; each change sets EDGE (R411, R412). -/
def State.gpioSample (s : State) (levels : Word) : State :=
  if s.isOff then s else
  let oe := s.reg R.PIN_GPIO_OE
  let lv := if s.pin.ir = 0 then s.pin.scanOut else (s.reg R.PIN_GPIO_OUT &&& oe) ||| (levels &&& ~~~oe)
  let old := s.reg R.PIN_GPIO_IN
  (s.setReg R.PIN_GPIO_IN lv).setReg R.PIN_GPIO_EDGE (s.reg R.PIN_GPIO_EDGE ||| (old ^^^ lv))

/-! ## The debug port (R412) -/

/-- The instruction register takes an instruction as it acts; the port is unpowered in Off. -/
def State.jtag (s : State) (ir : Byte) : State := if s.isOff then s else s.setPin { s.pin with ir := ir }
/-- EXTEST is refused, acting as BYPASS, while READY is high. -/
def State.extest (s : State) : State := if s.ready then s.jtag 0xFF else s.jtag 0x00
/-- BYPASS, or a code of no instruction: bypass is selected; the codes of the other instructions are no BYPASS (R412). -/
def State.bypass (s : State) (code : Byte) : State :=
  if code = 0x00 ∨ code = 0x01 ∨ code = 0x02 ∨ (code = 0x20 ∧ s.bit F.KPR_STAT_HOLD) then s else s.jtag 0xFF
/-- SAMPLE/PRELOAD captures the levels at the positions and loads the cells. -/
def State.samplePreload (s : State) (cells : Word) : State :=
  if s.isOff then s else
  s.setPin { s.pin with ir := 0x02, scanIn := s.reg R.PIN_GPIO_IN, scanOut := cells }
/-- The Iblek debug instruction reaches the cores in the maintenance hold only, where it can enable halt-on-break for a core
(R99); otherwise it acts as BYPASS. -/
def State.iblekDebug (s : State) (core : Nat) (halt : Bool) : State :=
  if s.bit F.KPR_STAT_HOLD then (s.jtag 0x20).setCore core { s.core core with haltOnBreak := halt } else s.jtag 0xFF

end Sys2Proof.Machine
end

