-- ==== Sys2Proof/Machine/Bus.lean ====
section
/-!
DEFINITION. Register accesses in full (R35 to R46): the current word of registers that show a block's own state, what a
read takes with it, what a write to each register brings about, wide values, the shadow view, the audit tap; memory accesses.
-/
namespace Sys2Proof.Machine

/-- How an access that was judged ended: done with a value, failed with a status, or stalled. -/
inductive BusEnd where
  | ok (v : Nat)
  | fail (code : Status)
  | stalled
  deriving DecidableEq, Repr

/-- A word with a field replaced. -/
def ov (f : FRef) (v : Nat) (w : Word) : Word := setBits w f.msb f.lsb v
/-- A number as a register word. -/
def w32 (v : Nat) : Word := BitVec.ofNat 32 v

/-! ## The Hitas map (R36, R38) -/

/-- The first 44 bytes of an entry (Table 02-5). -/
def mapHead (n : Nat) (e : MapEntry) : List Byte :=
  let kOnly := n == 34 || n == 29
  let name := padTo 16 (e.name.toList.map (fun c => BitVec.ofNat 8 c.toNat))
  leBytes 5 (blockAddr n 0) ++ leBytes 1 e.pwr ++ leBytes 1 e.clk ++ leBytes 1 0 ++ name ++ leBytes 2 e.insts
    ++ leBytes 2 e.granules ++ leBytes 4 (if e.insts = 1 then 0 else 0x1000) ++ leBytes 2 0x0100
    ++ leBytes 2 (wakeUs e.pwr) ++ leBytes 1 (if kOnly then 8 else 15)
    ++ leBytes 1 (2 * b2n e.shadow + 4 * b2n e.fn + 8 * b2n (!kOnly) + 128 * b2n (n == 37)) ++ leBytes 6 e.ports
/-- An entry of the map, with its CHECK. -/
def mapBytes (n : Nat) : List Byte :=
  match mapEntry n with
  | some e => mapHead n e ++ leBytes 4 (crc32 (mapHead n e))
  | none => []
/-- The word at an offset of the entry array. -/
def mapWord (off : Nat) : Word := w32 (leNat ((mapBytes ((off - 0x100) / 48)).drop ((off - 0x100) % 48) |>.take 4))

/-! ## Registers that show a block's own state -/

/-- An NT as the four registers FRAC, NS, SEC_LO, SEC_HI, by the part's number. -/
def ntPart (u k : Nat) : Word :=
  w32 (match k with | 0 => ntFrac u | 1 => ntNs u | 2 => ntSec u % 2 ^ 32 | _ => ntSec u / 2 ^ 32)
/-- The signed offset of the selector as FRAC and NS. -/
def ofsPart (o : Int) (k : Nat) : Word := if k = 0 then BitVec.ofInt 32 (o / 2 ^ 16 % 2 ^ 16) else BitVec.ofInt 32 (o / 2 ^ 32)
/-- The queue that TM_QSEL names. -/
def State.qsel (s : State) : Nat := s.fld F.TM_QSEL_Q
/-- The current word of a register: its stored word, with the fields that show a block's own state. -/
def State.liveWord (s : State) (p : RegPlace) (r : RegSpec) (k : Nat) : Word :=
  let a := blockAddr p.entry p.inst + p.off
  let w := s.reg a
  let i := p.inst
  let e := p.entry - 4
  match p.entry, r.off with
  | 2, 0x10 => ntPart (s.dom i).units 0
  | 2, 0x14 => ntPart (s.dom i).units 1
  | 2, 0x18 => ntPart (s.dom i).units 2
  | 2, 0x1C => ntPart (s.dom i).units 3
  | 2, 0x284 => s.todWord k
  | 3, 0x04 => ov F.TSEL_STAT_COARSE (b2n s.coarse) w
  | 3, 0x10 => ntPart s.now 0
  | 3, 0x14 => ntPart s.now 1
  | 3, 0x18 => ntPart s.now 2
  | 3, 0x1C => ntPart s.now 3
  | 3, 0x20 => ofsPart s.time.offset 0
  | 3, 0x24 => ofsPart s.time.offset 1
  | 4, 0x00 | 5, 0x00 | 6, 0x00 =>
    ov (F.SE_STAT_WAITING e) (b2n ((s.engine e).wait != .none)) (ov (F.SE_STAT_POST_LEVEL e) (s.engine e).posts.length w)
  | 4, 0x24 | 5, 0x24 | 6, 0x24 => w32 (s.lmWindowRead e)
  | 4, 0x38 | 5, 0x38 | 6, 0x38 => w32 (s.engine e).oldest
  | 4, 0x3C | 5, 0x3C | 6, 0x3C => w32 ((s.engine e).oldest / 2 ^ 32)
  | 7, 0x00 | 8, 0x00 | 9, 0x00 => ov (F.RF_STAT_LOCKED (p.entry - 7)) (s.lockedMask (p.entry - 7)) w
  | 7, 0x10 | 8, 0x10 | 9, 0x10 => s.chainStat (p.entry - 7) k
  | 10, 0x00 | 11, 0x00 | 12, 0x00 =>
    ov (F.DP_STAT_HELD (p.entry - 10)) (s.lanesHeld (p.entry - 10)) (ov (F.DP_STAT_BUSY (p.entry - 10)) (s.lanesBusy (p.entry - 10)) w)
  | 14, 0x00 => ov (F.ACC_STAT_SWAP_PENDING i) (b2n (s.tablePending i)) w
  | 14, 0x08 => w32 (s.lapNum i)
  | 16, 0x00 => ov F.LNK_STAT_HELD s.heldCopies w
  | 17, 0x300 => ov (F.REG_USED_USED k) (s.usage k (s.dutyMs s.now)) w
  | 19, 0x00 => ov F.TM_STAT_FREE (16384 - s.cellsUsed) (ov F.TM_STAT_PARKED s.parkedCount w)
  | 19, 0x14 => (s.tq s.qsel).cfg
  | 19, 0x18 => (s.tq s.qsel).shape
  | 19, 0x1C => ov F.TM_QSTAT_DEPTH (s.tq s.qsel).cells (ov F.TM_QSTAT_DROPS (s.tq s.qsel).drops (ov F.TM_QSTAT_PARKED (b2n (s.tq s.qsel).parked.isSome) 0))
  | 19, 0x34 => w32 s.gateShown
  | 19, 0x38 => w32 (s.gateShown / 2 ^ 32)
  | 20, 0x40C => s.wakeWord (s.fld (F.EMAC_WAKE_ADDR_WORD 0))
  | 23, 0x20 => s.pendWord 0
  | 23, 0x24 => s.pendWord 1
  | 23, 0x114 => w32 (s.popValue k)
  | 23, 0x118 => w32 (SMap.get (fun _ => 0) s.rq.popped k)
  | 23, 0x90C => s.stashWord k
  | 22, 0x00 => ov F.SPM_STAT_BORROWING (b2n (decide (s.clock < s.arrays.borrowEnds))) w
  | 24, 0x00 => ov F.DMC_STAT_SWEEP0 (b2n (s.sweeping 0)) (ov F.DMC_STAT_SWEEP1 (b2n (s.sweeping 1)) w)
  | 28, 0x00 => ov F.CPH_STAT_PIPES s.pipeBits w
  | 32, 0x00 => ov F.SUP_STAT_QUEUE (s.sup.filter (fun q => !q.onBus)).length (ov F.SUP_STAT_BUSY (b2n s.onBus.isSome) w)
  | 32, 0x30 => ov (F.SUP_ACK_PENDING k) (b2n (s.sup.any (fun q => q.dev == k))) w
  | 35, 0x00 => ov F.AUD_STAT_TAP s.tap.length w
  | 37, 0x10C => s.serRxWord k
  | _, _ => w

/-! ## Reads -/

/-- What a read in the active view takes with it, beside clearing RC fields: bytes and entries removed, windows advanced. The
post FIFO of an engine and ACC_NEXT give up an entry to their own engine alone. -/
def State.readEffect (s : State) (req : Nat) (p : RegPlace) (r : RegSpec) (k : Nat) : State :=
  let e := p.entry - 4
  let i := p.inst
  match p.entry, r.off with
  | 2, 0x284 => s.setTod k (s.tod k).tail
  | 4, 0x24 | 5, 0x24 | 6, 0x24 => s.lmAdvance e
  | 4, 0x38 | 5, 0x38 | 6, 0x38 => if req = 20 + e then s.setEngine e { s.engine e with posts := (s.engine e).posts.tail } else s
  | 14, 0x20 => if req = 20 + i then s.readNext i else s
  | 15, 0x04 => s.popLost
  | 19, 0x1C => s.setTq s.qsel { s.tq s.qsel with drops := 0 }
  | 19, 0x38 => s.gateAdvance
  | 20, 0x40C => s.wakeAdvance
  | 23, 0x114 => s.popQueue k
  | 23, 0x90C => s.popStash k
  | 37, 0x10C => s.serRxPop k
  | _, _ => s

/-- A read in the active view that reached its block: the word, with its RC fields cleared, what it takes with it, and the
captures of a wide value (R13, R40). A higher part reads as captured where the requester holds a capture. The capture of a
record queue's pop (entry 23) holds what that pop found. -/
def State.regRead (s : State) (req : Nat) (p : RegPlace) : State × Word :=
  match regAt p with
  | none => (s, if p.entry = 0 ∧ 0x100 ≤ p.off ∧ p.off < 0x820 then mapWord p.off else 0)
  | some (r, k, _) =>
    let a := blockAddr p.entry p.inst + p.off
    let w := readActive r (s.liveWord p r k)
    let s1 := (if r.fields.any (fun f => f.ty == .rc) then s.setReg a (clearRc r (s.reg a)) else s).readEffect req p r k
    match wideGroup p with
    | none => (s1, w)
    | some [] => (s1, w)
    | some (lo :: hs) =>
      if a = lo then
        (s1.setCapture req lo (hs.map (fun h => match locate h with
          | some q => (match regAt q with
            | some (rq, kq, _) => readActive rq ((if p.entry = 23 then s1 else s).liveWord q rq kq) | none => 0)
          | none => 0)), w)
      else (s1, match s.captureOf req lo with | some ws => (ws[hs.idxOf a]?).getD w | none => w)
/-- A read in the shadow view: no other effect (R46). -/
def State.shadowRead (s : State) (p : RegPlace) : Word :=
  match regAt p with
  | none => 0
  | some (r, k, _) => readShadow r (s.liveWord p r k) (s.shw (blockAddr p.entry p.inst + p.off))

/-! ## Writes -/

/-- A register whose writes have no effect for now, the latches of a wide value included: a pending slot's (R47), a span of captures while CAPTURE is not off, the base
and size of a ring while its owner is not off (ch. 11, 13). -/
def State.lockedNow (s : State) (p : RegPlace) (r : RegSpec) (k : Nat) : Bool :=
  match p.entry with
  | 1 => decide (r.off ≤ 0x10C) && s.fld (F.HIT_SWAP_STAT_STATE k) == 1
  | 13 => decide (0x20 ≤ r.off ∧ r.off ≤ 0x28) && !s.fnOff 13 0 0
  | 19 => decide (0x20 ≤ r.off ∧ r.off ≤ 0x28) && !s.fnOff 19 0 0
  | 20 => decide (0x100 ≤ r.off ∧ r.off ≤ 0x128) && r.off % 16 != 12 && !s.fnOff 20 p.inst 0
  | 21 => decide (0x100 ≤ r.off ∧ r.off ≤ 0x148) && r.off % 16 != 12 && !s.fnOff 21 0 0
  | 25 => decide (0x40 ≤ r.off ∧ r.off ≤ 0x48) && s.bit F.WD_CFG_TRACE_EN
  | _ => false

/-- What a write of the time registers brings about: entries 2 (NT) and 3 (TSEL). -/
def State.timeHook (s : State) (req : Nat) (p : RegPlace) (off : Nat) (old : Word) (v : Nat) : State :=
  match p.entry, off with
  | 2, 0x00 =>
    let s1 := s.afterNtCtl p.inst v
    if s.coarse ∧ !s1.coarse then s1.passesFine else s1
  | 2, 0x0C => s.afterIncr p.inst
  | 2, 0x30 => s.afterAdjCmd req p.inst v
  | 3, 0x00 => s.afterTselCtl
  | 3, 0x08 => s.afterRefSrc old
  | _, _ => s

/-- What a write of the radio and link blocks brings about: entries 4 to 17. -/
def State.radioHook (s : State) (p : RegPlace) (off k : Nat) (old : Word) (v wide : Nat) : State :=
  let e := p.entry - 4
  let a := blockAddr p.entry p.inst + p.off
  match p.entry, off with
  | 4, 0x24 | 5, 0x24 | 6, 0x24 => s.lmWindowWrite e v
  | 4, 0x34 | 5, 0x34 | 6, 0x34 => s.sePost e wide
  | 4, 0x40 | 5, 0x40 | 6, 0x40 => s.seEvpost (v % 256)
  | 14, 0x30 => s.editCmd p.inst (v % 8) (bitOf v 3)
  | 14, 0x100 => s.afterCqCfg p.inst k old
  | 14, 0x104 => s.afterCqPtr p.inst k old
  | 16, 0x20 => s.ctxCmd (v % 16)
  | 17, 0x04 => (s.setReg a old).regRegion v
  | _, _ => s

/-- What a write of the packet blocks brings about: entries 18 to 21. -/
def State.packetHook (s : State) (p : RegPlace) (off k : Nat) (old : Word) (v wide : Nat) : State :=
  let a := blockAddr p.entry p.inst + p.off
  match p.entry, off with
  | 18, 0x30 => s.commitCmd (v % 4)
  | 18, 0x40 => s.rtrEdit (v % 16)
  | 18, 0x344 => s.afterInjPtr k old
  | 18, _ => if structural p.off then s.afterStructural a old else s
  | 19, 0x14 => s.setTq s.qsel { s.tq s.qsel with cfg := s.reg a }
  | 19, 0x18 => s.setTq s.qsel { s.tq s.qsel with shape := s.reg a }
  | 19, 0x2C => s.afterRing a (a - 12) (s.fnOff 19 0 0) old
  | 19, 0x38 => s.gateWrite wide
  | 20, 0x00 => if p.inst ≤ 1 then s.setFld (F.EMAC_CFG_MODE p.inst) 2 else s
  | 20, 0x10C => (s.afterRing a (a - 12) (s.fnOff 20 p.inst 0) old).noteHead p.inst
  | 20, 0x11C | 20, 0x12C => s.afterRing a (a - 12) (s.fnOff 20 p.inst 0) old
  | 20, 0x40C => s.wakeWrite (w32 v)
  | 21, 0x04 => s.pulse 51
  | 21, 0x10C | 21, 0x14C => s.afterRing a (a - 12) (s.fnOff 21 0 0) old
  | _, _ => s

/-- What a write of the memory, work and cipher blocks brings about: entries 23 to 29. -/
def State.workHook (s : State) (p : RegPlace) (off k : Nat) (old : Word) (v : Nat) : State :=
  let a := blockAddr p.entry p.inst + p.off
  match p.entry, off with
  | 23, 0x100 => s.afterQueueBase k old
  | 23, 0x104 => s.afterQueueCfg k old
  | 23, 0x108 => s.afterReadPtr k old
  | 23, 0x110 => s.rqCmd k (v % 4)
  | 23, 0x900 => s.afterPoolBase k old
  | 23, 0x904 => s.afterPoolCfg k old
  | 23, 0x908 => s.afterPoolPtr k old
  | 25, 0x18 => s.afterQItem old
  | 25, 0x4C => s.afterTraceRing a old
  | 25, 0x100 => s.serveAsking
  | 26, 0x04 => s.forceTokens v
  | 27, 0x08 => if bitOf v 31 then s.breakSequences else s
  | 28, 0x20 => s.cphInval v
  | 29, 0x04 => s.setFld F.KST_ALARM_EN (s.fld F.KST_ALARM_EN ||| 64)
  | 29, 0x10 => s.kstRun (v % 16) (bitOf v 5)
  | _, _ => s

/-- What a write of the power, Keeper and port blocks brings about: entries 1 and 31 to 37. -/
def State.keeperHook (s : State) (req : Nat) (p : RegPlace) (off k : Nat) (old : Word) (v : Nat) : State :=
  match p.entry, off with
  | 1, 0x110 => if v % 4 = 1 then s.swapRequest req k else if v % 4 = 2 then s.swapCancel k else s
  | 31, 0x04 => s.powerRequest req (v / 16 % 4) (v % 8)
  | 31, 0x18 => s.setFld F.PWR_WAKE_EN (s.fld F.PWR_WAKE_EN ||| 8)
  | 31, 0x24 => if bitOf v 0 then s.detachGo else s
  | 31, 0x2C => s.setFld F.PWR_SLEEP_PERMIT (s.fld F.PWR_SLEEP_PERMIT &&& 0x0FAF0)
  | 32, 0x10 => s.afterSupDev k old
  | 34, 0x00 => if bitOf v 0 then s.doorbellAck else s
  | 34, 0x04 => if bitOf v 15 then s.kick else s
  | 34, 0x08 => s.afterHold old
  | 36, 0x00 => if v % 4 = 1 then s.passLoad req (v / 4 % 8) else if v % 4 = 2 then s.passRelease req (v / 4 % 8) else s
  | 37, 0x108 => if v % 4 = 1 then s.serStart k else if v % 4 = 2 then s.serAbort k else s
  | _, _ => s

/-- What a write that changed a register brings about. -/
def State.writeHook (s : State) (req : Nat) (p : RegPlace) (r : RegSpec) (k : Nat) (old : Word) (v wide : Nat) : State :=
  if r.off = 0x80 ∧ (mapEntry p.entry).elim false MapEntry.fn then s.fnWrite p.entry p.inst k (bitOf v 0)
  else if p.entry = 2 ∨ p.entry = 3 then s.timeHook req p r.off old v
  else if 4 ≤ p.entry ∧ p.entry ≤ 17 then s.radioHook p r.off k old v wide
  else if 18 ≤ p.entry ∧ p.entry ≤ 21 then s.packetHook p r.off k old v wide
  else if 23 ≤ p.entry ∧ p.entry ≤ 29 then s.workHook p r.off k old v
  else s.keeperHook req p r.off k old v

/-- The word of a lower part that a latch fills: RW fields as in any write, and the data of a write-only part. -/
def applyPart (r : RegSpec) (cur v : Word) : Word :=
  r.fields.foldl (fun w f => if f.ty = .wo then setBits w f.msb f.lsb (getBits v f.msb f.lsb) else w) (applyActive r cur v)

/-- A lower part takes its requester's latch, if it is filled. -/
def State.applyLatch (s : State) (req a : Nat) : State :=
  match s.latchOf req a, (locate a).bind regAt with
  | some v, some (r, _, _) => s.setReg a (applyPart r (s.reg a) v)
  | _, _ => s

/-- The word that a register reads as. -/
def State.liveAt (s : State) (a : Nat) : Word :=
  match locate a with
  | some p => (match regAt p with | some (r, k, _) => s.liveWord p r k | none => 0)
  | none => 0
/-- The 64-bit value written whole by a write of the highest part: the lowest part that the requester's latch gave, as s1 stores it,
or as it stands where the latch is empty (R40). -/
def State.wholeOf (s s1 : State) (req lo : Nat) (v : Word) : Nat :=
  (match s.latchOf req lo with | some _ => s1.reg lo | none => s.liveAt lo).toNat + 2 ^ 32 * v.toNat

/-- A write in the active view whose rights hold: stored, with what it brings about (R13, R40). -/
def State.regApply (s : State) (req : Nat) (p : RegPlace) (r : RegSpec) (k : Nat) (v : Word) : State :=
  let a := blockAddr p.entry p.inst + p.off
  let old := s.reg a
  let stored (x : State) : State := (x.setReg a (applyActive r (s.liveWord p r k) v)).setShw a (applyShadow r (s.shw a) v)
  match wideGroup p with
  | some (lo :: hs) =>
    if s.lockedNow p r k then s
    else if a ≠ (lo :: hs).getLastD 0 then s.setLatch req a v
    else
      let s1 := stored ((lo :: hs).dropLast.foldl (fun (x : State) b => x.applyLatch req b) s)
      (s1.emptyLatches req (lo :: hs)).writeHook req p r k old v.toNat (s.wholeOf s1 req lo v)
  | _ => if s.lockedNow p r k then s else (stored s).writeHook req p r k old v.toNat v.toNat

/-- A write of the highest part of a wide value that completes NO_RIGHT empties the requester's latches (R40). -/
def State.refuseWide (s : State) (req : Nat) (p : RegPlace) : State :=
  match wideGroup p with
  | some l => if blockAddr p.entry p.inst + p.off = l.getLastD 0 then s.emptyLatches req l else s
  | none => s

/-- A write that reached its block, in either view: Order 5 of Table 02-9, the audit tap (R384, R385: tags I and M), and the
write itself. -/
def State.regWrite (s : State) (req : Nat) (p : RegPlace) (v : Word) : State × BusEnd :=
  match regAt p with
  | none => (s, .ok 0)
  | some (r0, k, _) =>
    let a := blockAddr p.entry p.inst + p.off
    let r := if p.shadow then { r0 with fields := r0.fields.filter (fun f => f.ty == .rws) } else r0
    let role := s.role req
    let cur := s.liveWord p r k
    if !rightsOk p r role cur (s.shw a) v then (s.refuseWide req p, .fail .noRight)
    else
      let taps := (role == 1 || role == 2) && usesHigherRight p r cur (s.shw a) v
      if taps && tapFull s && !tapMerges s req p.entry p.inst p.off then (s, .stalled)
      else
        let s1 := if taps then s.tapWrite req role p.entry p.inst p.off v.toNat else s
        (if p.shadow then s1.setShw a (applyShadow r (s.shw a) v) else s1.regApply req p r k v, .ok 0)

/-! ## Memory and the whole access -/

/-- A memory access that reached its memory: a value loaded, or bytes stored; a store into bank 1 rings what lies there. -/
def State.memAccess (s : State) (x : Stalled) : State × BusEnd :=
  match x.write with
  | some v =>
    let (s1, ok) := s.memStore x.req x.addr x.size v
    if ok then (if isMbox x.addr then s1.afterBank1 x.req x.addr x.size else s1, .ok 0) else (s1, .fail .fault)
  | none =>
    match s.memLoad x.addr x.size with
    | (s1, some v) => (s1, .ok v)
    | (s1, none) => (s1, .fail .fault)

/-- The requester has a stalled access to the same register block (R41). -/
def State.behind (s : State) (x : Stalled) : Bool :=
  match locate x.addr with
  | some p => s.bus.stalled.any (fun y => y.req == x.req && (locate y.addr).any (fun q => q.entry == p.entry && q.inst == p.inst))
  | none => false

/-- An access as the module judges it (Table 02-9): done, failed and captured (R44), or stalled; a stalled access is not kept
here. An access to a block at which an earlier one of its requester stalls waits behind it (R41). -/
def State.access (s : State) (x : Stalled) : State × BusEnd :=
  if s.behind x then (s, .stalled) else
  match s.judge x.req x.addr x.size with
  | .stall => (s, .stalled)
  | .fail st => (s.failAccess x.req x.addr x.write.isSome st, .fail st)
  | .go =>
    let s1 := s.touchDomain (domainOf x.addr)
    let (s2, e) := match locate x.addr, x.write with
      | some p, some v => s1.regWrite x.req p (w32 v)
      | some p, none => if p.shadow then (s1, .ok (s1.shadowRead p).toNat) else
          let (s2, w) := s1.regRead x.req p
          (s2, .ok w.toNat)
      | none, _ => s1.memAccess x
    match e with
    | .fail st => (s2.failAccess x.req x.addr x.write.isSome st, e)
    | _ => (s2, e)

/-- An access waits: a domain that is asleep, or the full audit tap, which counts the stall (R43, R385). -/
def State.stallAccess (s : State) (x : Stalled) : State :=
  let s1 := if s.judge x.req x.addr x.size = .go && !s.behind x then s.count F.AUD_STAT_STALLS else s
  { s1 with bus := { s1.bus with stalled := s1.bus.stalled ++ [x] } }

/-- A word of the MSI-X table in BAR0 (Table 11-14), for an address that the host link reaches through it. -/
def msixAt (req a : Nat) : Option Nat :=
  if req = 31 ∧ 0x80003F0000 ≤ a ∧ a < 0x80003F0200 ∧ a % 4 = 0 then some ((a - 0x80003F0000) / 4) else none

end Sys2Proof.Machine
end

