-- ==== Sys2Proof/Machine/Iblek.lean ====
section
/-!
DEFINITION. The Iblek cores (ch. 04): instruction words, the frame that every instruction shares, exceptions and their
return, address translation, loads, stores and atomic accesses with what each does when its access ends.
-/
namespace Sys2Proof.Machine

/-! ## Instruction words (Table 04-2) -/

/-- An R format word. -/
def encR (op : Nat) (rd ra rb : Fin 32) (fn : Nat) : Nat := op * 2 ^ 26 + rd.val * 2 ^ 21 + ra.val * 2 ^ 16 + rb.val * 2 ^ 11 + fn
/-- An I format word. -/
def encI (op : Nat) (rd ra : Fin 32) (imm : Nat) : Nat := op * 2 ^ 26 + rd.val * 2 ^ 21 + ra.val * 2 ^ 16 + imm % 2 ^ 16
/-- A J or U format word. -/
def encU (op : Nat) (rd : Fin 32) (imm : Nat) : Nat := op * 2 ^ 26 + rd.val * 2 ^ 21 + imm % 2 ^ 21
/-- An F format word. -/
def encF (op : Nat) (rd ra rb rc : Fin 32) (rm p : Nat) : Nat :=
  op * 2 ^ 26 + rd.val * 2 ^ 21 + ra.val * 2 ^ 16 + rb.val * 2 ^ 11 + rc.val * 2 ^ 6 + rm * 2 ^ 3 + p * 2 ^ 2

/-! ## Kinds of core (Table 04-1) -/

/-- The kinds of core. -/
inductive CoreKind where
  | control | work | engine | keeper
  deriving DecidableEq, Repr
/-- The kind of core c (R20). -/
def kindOf (c : Nat) : CoreKind := if c ≤ 3 then .control else if c ≤ 19 then .work else if c ≤ 22 then .engine else .keeper
/-- Parts of Iblek that not every kind of core has. -/
inductive Part where
  | base | divide | atom | float | timed | post | done | lock | svc
  deriving DecidableEq, Repr
/-- A kind of core has a part. -/
def hasPart (k : CoreKind) (p : Part) : Bool :=
  match p with
  | .base => true
  | .divide | .atom => k != .engine
  | .float | .lock | .post => k == .control || k == .work
  | .timed => k == .engine
  | .done => k == .work
  | .svc => k != .engine

/-! ## Exceptions (R92 to R98) -/

/-- STATUS.EXL of a core. -/
def Core.exl (x : Core) : Bool := x.status.getLsbD 3
/-- STATUS.IE of a core. -/
def Core.ie (x : Core) : Bool := x.status.getLsbD 0
/-- STATUS.FPEN of a core. -/
def Core.fpen (x : Core) : Bool := x.status.getLsbD 5
/-- STATUS.SUA of a core. -/
def Core.sua (x : Core) : Bool := x.status.getLsbD 4
/-- STATUS after exception or interrupt entry: PIE takes IE, IE clears, PPL takes the level, EXL is set. -/
def Core.entryStatus (x : Core) : DWord :=
  (x.status &&& 0x30) ||| 8 ||| (if x.sup then 4 else 0) ||| (if x.ie then 2 else 0)
/-- Exception or interrupt entry (R92, R96): what is saved, the level, the vector, and the reservation lost (R87). -/
def Core.enter (x : Core) (epc cause eaddr vector : DWord) : Core :=
  { x with epc := epc, ecause := cause, eaddr := eaddr, status := x.entryStatus, sup := true, pc := vector, resv := none }

/-- ECAUSE of an exception: IMPRECISE, the status code of a bus error, the cause. -/
def ecauseOf (imprecise : Bool) (status cause : Nat) : DWord :=
  BitVec.ofNat 64 ((if imprecise then 2 ^ 62 else 0) + status * 2 ^ 8 + cause)

/-- An exception of core c: entry on a control core or the Keeper, double fault while EXL is 1 (R97), the end of the item on
a work core (R98), a halt of a slot engine (R114). -/
def State.raise (s : State) (c cause status eaddr : Nat) (imprecise : Bool) : State :=
  let x := s.core c
  match kindOf c with
  | .work => s.itemException c cause x.pc.toNat eaddr
  | .engine => s.haltEngine (c - 20) cause x.pc.toNat
  | .control =>
    if x.exl then (s.setCore c { x with mode := .dfault }).pulse (59 + c)
    else s.setCore c (x.enter x.pc (ecauseOf imprecise status cause) (BitVec.ofNat 64 eaddr) x.evec)
  | .keeper =>
    if x.exl then s.snowplough 4
    else s.setCore c (x.enter x.pc (ecauseOf imprecise status cause) (BitVec.ofNat 64 eaddr) x.evec)

/-- An illegal instruction: EADDR holds its word. -/
def State.illegal (s : State) (c word : Nat) : State := s.raise c 0x03 0 word false
/-- A privileged instruction at user level. -/
def State.privileged (s : State) (c : Nat) : State := s.raise c 0x04 0 0 false

/-- ERET (R95). The Keeper runs at supervisor level only: its level stays (R91). -/
def Core.eret (x : Core) (keeper : Bool) : Core :=
  { x with pc := x.epc, sup := keeper || x.status.getLsbD 2, resv := none,
           status := (x.status &&& 0x36) ||| (if x.status.getLsbD 1 then 1 else 0), retired := x.retired + 1 }

/-- The lines both pending and enabled. -/
def Core.wanted (x : Core) : BitVec 256 := x.ipend &&& x.ien
/-- The lowest-numbered line that is pending and enabled. -/
def Core.lowest (x : Core) : Option Nat := (List.range 256).find? (fun n => x.wanted.getLsbD n)
/-- ECAUSE of an interrupt: INT and the line (R96). -/
def intCause (line : Nat) : DWord := BitVec.ofNat 64 (2 ^ 63 + line)

/-! ## Address translation (R100 to R103) -/

/-- What an access is to translation: a fetch, a load, a store, an atomic access. -/
inductive MemKind where
  | fetch | load | store | atomic
  deriving DecidableEq, Repr
/-- The cause of a page fault of a kind. -/
def MemKind.pageCause : MemKind → Nat
  | .fetch => 0x01 | .load => 0x0B | .store | .atomic => 0x0C
/-- The cause of a bus error of a kind. -/
def MemKind.busCause : MemKind → Nat
  | .fetch => 0x02 | .load => 0x0D | .store | .atomic => 0x0E

/-- How a translation ends: a physical address, whether its memory is of type normal, and a leaf to cache; a page fault; a
failed access of the walk; a walk that waits for a domain. -/
inductive Trans where
  | to (pa : Nat) (normal : Bool) (leaf : Option TlbEntry)
  | page
  | bus (at_ : Nat) (code : Status)
  | wait (at_ : Nat)
  deriving DecidableEq, Repr

/-- Address bits a leaf of a level leaves to the page. -/
def pageBits (level : Nat) : Nat := 12 + 9 * level
/-- A field of a page table entry. -/
def ptePpn (p : Nat) : Nat := p / 2 ^ 12 % 2 ^ 28
/-- An entry that no walk takes: not valid, reserved bits set, W without R. -/
def pteBad (p : Nat) : Bool :=
  !bitOf p 0 || decide (p / 2 ^ 40 ≠ 0) || decide (p / 2 ^ 10 % 4 ≠ 0) || decide (p / 2 ^ 8 % 4 = 3) || (bitOf p 2 && !bitOf p 1)
/-- An entry is a leaf. -/
def pteLeaf (p : Nat) : Bool := bitOf p 1 || bitOf p 2 || bitOf p 3
/-- The leaf permits an access of a kind at the core's level (R101). R101 asks D of a store and R and W of an atomic access; the
model asks D of every atomic access, LR included, though LR alone writes nothing (DESIGN CHOICE, log entry 101). -/
def Core.permits (x : Core) (kind : MemKind) (p : Nat) : Bool :=
  bitOf p 6 &&
  (match kind with
   | .fetch => bitOf p 3
   | .load => bitOf p 1
   | .store => bitOf p 2 && bitOf p 7
   | .atomic => bitOf p 1 && bitOf p 2 && bitOf p 7) &&
  (if x.sup then !bitOf p 4 || (kind != .fetch && x.sua) else bitOf p 4)
/-- The memory type normal of an access (R103): DRAM and the scratchpad as the leaf says, mailbox banks always memory,
register blocks and alias windows never. -/
def normalAt (pa : Nat) (device : Bool) : Bool := (isDram pa || isSpad pa || isMbox pa) && !device
/-- A leaf maps an address. -/
def leafAddr (level p va : Nat) : Nat := ptePpn p * 2 ^ 12 + va % 2 ^ pageBits level
/-- What a permitted or refused leaf answers. -/
def Core.useLeaf (x : Core) (kind : MemKind) (e : TlbEntry) (fresh : Bool) (va : Nat) : Trans :=
  if x.permits kind e.pte then
    let pa := leafAddr e.level e.pte va
    .to pa (normalAt pa (e.pte / 2 ^ 8 % 4 = 2)) (if fresh then some e else none)
  else .page

/-- The walk from a table at a level (R100, R101): core c, its state, the kind, the virtual address. -/
def State.walk (s : State) (c : Nat) (x : Core) (kind : MemKind) (va : Nat) : Nat → Nat → Trans
  | 0, _ => .page
  | n + 1, table =>
    let a := table + 8 * (va / 2 ^ pageBits n % 512)
    if !inNormal table 4096 then .page
    else match s.judge c a 8 with
    | .fail code => .bus a code
    | .stall => .wait a
    | .go =>
      let p := s.rdLe a 8
      if s.shut a then .bus a .fault
      else if pteBad p then .page
      else if pteLeaf p then
        (if leafAddr n p 0 % 2 ^ pageBits n ≠ 0 then .page
         else x.useLeaf kind ⟨x.ptroot.toNat / 2 ^ 48, va / 2 ^ 12 % 2 ^ 27, n, p⟩ true va)
      else s.walk c x kind va n (ptePpn p * 2 ^ 12)

/-- The addresses of the entries that such a walk reads, in order. -/
def State.walkReads (s : State) (c va : Nat) : Nat → Nat → List Nat
  | 0, _ => []
  | n + 1, table =>
    let a := table + 8 * (va / 2 ^ pageBits n % 512)
    let p := s.rdLe a 8
    if !inNormal table 4096 || s.judge c a 8 != .go then []
    else if s.shut a || pteBad p || pteLeaf p then [a]
    else a :: s.walkReads c va n (ptePpn p * 2 ^ 12)

/-- A cached translation serves an address under an ASID. -/
def TlbEntry.serves (e : TlbEntry) (asid va : Nat) : Bool :=
  (bitOf e.pte 5 || e.asid == asid) && e.vpn / 2 ^ (9 * e.level) == va / 2 ^ 12 % 2 ^ 27 / 2 ^ (9 * e.level)

/-- Translate a virtual address of core c for an access of a kind: on a control core by TE (R100), elsewhere the address itself. -/
def State.translate (s : State) (c : Nat) (kind : MemKind) (va : Nat) : Trans :=
  let x := s.core c
  if kindOf c ≠ .control then .to va (normalAt va false) none
  else if x.ptroot.getLsbD 0 = false then (if va < 2 ^ 40 then .to va (normalAt va false) none else .page)
  else if va / 2 ^ 38 ≠ 0 ∧ va / 2 ^ 38 ≠ 2 ^ 26 - 1 then .page
  else match x.tlb.find? (fun e => e.serves (x.ptroot.toNat / 2 ^ 48) va) with
    | some e => x.useLeaf kind e false va
    | none => s.walk c x kind (va % 2 ^ 39) 3 (ptePpn x.ptroot.toNat * 2 ^ 12)

/-- What translating an address does to words with wrong bits among the entries read on the way (R275, R292). -/
def State.walkSeen (s : State) (c va : Nat) : State :=
  let x := s.core c
  if kindOf c ≠ .control ∨ x.ptroot.getLsbD 0 = false ∨ (va / 2 ^ 38 ≠ 0 ∧ va / 2 ^ 38 ≠ 2 ^ 26 - 1) ∨
      x.tlb.any (fun e => e.serves (x.ptroot.toNat / 2 ^ 48) va) then s
  else (s.walkReads c (va % 2 ^ 39) 3 (ptePpn x.ptroot.toNat * 2 ^ 12)).foldl (fun (s : State) a => s.seen a 8) s

/-- Keep a translation just walked (R102). -/
def State.cacheLeaf (s : State) (c : Nat) (leaf : Option TlbEntry) : State :=
  match leaf with
  | some e => s.setCore c { s.core c with tlb := (s.core c).tlb ++ [e] }
  | none => s

/-- TLBINV by scope (R102): everything; an address; an ASID except global entries; both. -/
def TlbEntry.drops (e : TlbEntry) (scope asid va : Nat) : Bool :=
  let hitVa := e.vpn / 2 ^ (9 * e.level) == va / 2 ^ 12 % 2 ^ 27 / 2 ^ (9 * e.level)
  let hitAsid := e.asid == asid && !bitOf e.pte 5
  match scope with
  | 0 => true
  | 1 => hitVa
  | 2 => hitAsid
  | _ => hitVa && hitAsid

/-! ## Fetching and the frame of an instruction -/

/-- Where a core fetches from: its own program memory, or the address map. -/
def fetchable (c pa : Nat) : Bool :=
  match kindOf c with
  | .engine => decide (pa < 0x4000)
  | .keeper => decide (pa < 0x40000) || (decide (0x100000 ≤ pa) && decide (pa < 0x108000))
  | _ => isDram pa || isSpad pa || isMbox pa

/-- How the fetch of the instruction at pc ends: nothing against it (with a translation to keep), an exception as cause, status
and the address that failed, or a wait. -/
inductive Fetch where
  | fine (leaf : Option TlbEntry)
  | trap (cause : Nat) (code : Option (Nat × Status))
  | wait
  deriving DecidableEq, Repr

/-- The fetch of a core's next instruction (R76, R93, R110). A slot engine's fetch outside its active page is no access to the
map: it halts the engine (R114). -/
def State.fetch (s : State) (c : Nat) : Fetch :=
  let pc := (s.core c).pc.toNat
  match s.translate c .fetch pc with
  | .page => .trap 0x01 none
  | .bus a code => .trap 0x02 (some (a, code))
  | .wait _ => .wait
  | .to pa _ leaf =>
    if !fetchable c pa then .trap 0x02 (if kindOf c = .engine then none else some (pa, .fault))
    else if 20 ≤ c then .fine leaf
    else match s.judge c pa 4 with
      | .go => if s.shut pa then .trap 0x02 (some (pa, .fault)) else .fine leaf
      | .stall => .wait
      | .fail code => .trap 0x02 (some (pa, code))

/-- What the fetch of a core's next instruction does to words with wrong bits: those of its walk and its own (R275, R292). -/
def State.fetchSeen (s : State) (c : Nat) : State :=
  let pc := (s.core c).pc.toNat
  let s1 := s.walkSeen c pc
  match s.translate c .fetch pc with
  | .to pa _ _ => if fetchable c pa && decide (c < 20) && s.judge c pa 4 == .go then s1.seen pa 4 else s1
  | _ => s1

/-- A core may issue an instruction now: it executes (R90, R133), it is running, and a slot engine is in no wait. -/
def State.mayIssue (s : State) (c : Nat) : Bool :=
  s.live c && (s.core c).mode == .run && (!(decide (20 ≤ c) && decide (c ≤ 22)) || (s.engine (c - 20)).wait == .none)

/-- The mark of a late ATTICK is on one instruction only (R118). -/
def State.dropLate (s : State) (c : Nat) : State :=
  if kindOf c = .engine then s.setEngine (c - 20) { s.engine (c - 20) with lateNext := false } else s

/-- The domain that memory at an address lies in wakes for a fetch or walk that waits for it (R43). -/
def State.wakeFor (s : State) (a : Nat) : State := if s.asleep (domainOf a) then s.wakeDomain (domainOf a) else s
/-- A core's wait for a fetch wakes the memory that the fetch or its walk needs. -/
def State.wakeFetch (s : State) (c : Nat) : State :=
  match s.translate c .fetch (s.core c).pc.toNat with
  | .to pa _ _ => s.wakeFor pa
  | .wait a => s.wakeFor a
  | _ => s

/-- One instruction of core c: nothing where the core cannot issue; a fetch exception; illegal where the core lacks its part
(R75) or its word is not listed (R80); otherwise what it does. -/
def State.ins (s : State) (c : Nat) (part : Part) (legal : Bool) (word : Nat) (body : State → State) : State :=
  if !s.mayIssue c then s
  else match s.fetch c with
  | .wait => s.wakeFetch c
  | .trap cause none => ((s.fetchSeen c).dropLate c).raise c cause 0 (s.core c).pc.toNat false
  | .trap cause (some (a, code)) =>
    (((s.fetchSeen c).dropLate c).failAccess c a false code).raise c cause code.code (s.core c).pc.toNat false
  | .fine leaf =>
    let s1 := ((s.fetchSeen c).dropLate c).cacheLeaf c leaf
    if hasPart (kindOf c) part && legal then body s1 else s1.illegal c word

/-- The next instruction, with one more retired; a slot engine counts RETIRED by ticks (R115). -/
def Core.next (x : Core) (c : Nat) : Core :=
  { x with pc := x.pc + 4, retired := if kindOf c = .engine then x.retired else x.retired + 1 }
/-- An instruction that goes on to the next with the core changed. -/
def State.advance (s : State) (c : Nat) (f : Core → Core) : State := s.setCore c ((f (s.core c)).next c)
/-- An instruction that writes register rd and goes on. -/
def State.result (s : State) (c rd : Nat) (v : DWord) : State := s.advance c (fun x => x.setG rd v)
/-- An instruction of the integer base that writes rd from the core's registers. -/
def State.compute (s : State) (c : Fin 24) (part : Part) (rd : Fin 32) (word : Nat) (f : Core → DWord) : State :=
  s.ins c part true word (fun s => s.result c rd (f (s.core c)))

/-! ## Memory (R83 to R87, R94) -/

/-- What an access is to translation, by its use. -/
def AccessUse.kind : AccessUse → MemKind
  | .plain | .load .. | .fload .. => .load
  | .store | .fstore => .store
  | .lr .. | .sc .. | .atomic .. => .atomic

/-- The local memory of a requester holds an address (R76). -/
def localMem (req a : Nat) : Bool := (20 ≤ req && req ≤ 22 && decide (a < 0x10000)) || (req == 23 && decide (a < 0x40000))
/-- Bytes of the Keeper's local memory. -/
def State.kprBytes (s : State) (a : Nat) : Nat → List Byte
  | 0 => []
  | n + 1 => SMap.get lmDefault s.kprMem a :: s.kprBytes (a + 1) n
/-- Read local memory. -/
def State.localRead (s : State) (req a n : Nat) : Nat := if req = 23 then leNat (s.kprBytes a n) else (s.engine (req - 20)).rd a n
/-- Write local memory. -/
def State.localWrite (s : State) (req a n v : Nat) : State :=
  if req = 23 then s.putLocal a (leBytes n v)
  else s.setEngine (req - 20) ((s.engine (req - 20)).wr a n v)

/-- Read memory for a core: local memory, or the arrays with their ECC. -/
def State.readMem (s : State) (req a n : Nat) : State × Option Nat :=
  if localMem req a then (s, some (s.localRead req a n)) else s.memLoad a n
/-- Write memory for a core, with what a store into bank 1 rings. -/
def State.writeMem (s : State) (req a n v : Nat) : State × Bool :=
  if localMem req a then (s.localWrite req a n v, true) else
  let (s1, ok) := s.memStore req a n v
  (if ok && isMbox a then s1.afterBank1 req a n else s1, ok)

/-- The value an atomic operation leaves in memory (Table 04-7): operation, width in bits, earlier value, operand, and the
earlier rd of CAS. -/
def atomicValue (op w old y cmp : Nat) : Nat :=
  let o := old % 2 ^ w
  let b := y % 2 ^ w
  match op with
  | 0x2 => b
  | 0x3 => (o + b) % 2 ^ w
  | 0x4 => o &&& b
  | 0x5 => o ||| b
  | 0x6 => o ^^^ b
  | 0x7 => if sgn w o ≤ sgn w b then o else b
  | 0x8 => if sgn w o ≤ sgn w b then b else o
  | 0x9 => min o b
  | 0xA => max o b
  | _ => if o = cmp % 2 ^ w then b else o

/-- An atomic access that reaches its place (R86, R87): the value for rd. -/
def State.atomicRun (s : State) (x : Stalled) : State × BusEnd :=
  let c := s.core x.req
  match x.use, x.write with
  | .lr _, _ =>
    match s.readMem x.req x.addr x.size with
    | (s1, some v) => (s1.setCore x.req { s1.core x.req with resv := some (x.addr / 64, x.size) }, .ok v)
    | (s1, none) => (s1, .fail .fault)
  | .sc _, some y =>
    let s0 := s.setCore x.req { c with resv := none }
    if c.resv = some (x.addr / 64, x.size) then
      (match s0.writeMem x.req x.addr x.size y with
       | (s1, true) => (s1, .ok 0)
       | (s1, false) => (s1, .fail .fault))
    else (s0, .ok 1)
  | .atomic op _, some y =>
    match s.readMem x.req x.addr x.size with
    | (s1, none) => (s1, .fail .fault)
    | (s1, some v) =>
      match s1.writeMem x.req x.addr x.size (atomicValue op (8 * x.size) v y x.arg) with
      | (s2, true) => (s2, .ok v)
      | (s2, false) => (s2, .fail .fault)
  | _, _ => (s, .ok 0)

/-- A load or store of a floating-point register. -/
def AccessUse.float : AccessUse → Bool
  | .fload .. | .fstore => true
  | _ => false

/-- The access itself, at its physical address: local memory, an atomic access, or any other access of Table 02-9. A slot
engine's store to its active page completes FAULT (Table 05-1); so does a floating-point access to a register block (R83). -/
def State.perform (s : State) (x : Stalled) : State × BusEnd :=
  let atomic := x.use.kind == .atomic
  if localMem x.req x.addr then
    (if x.req ≠ 23 ∧ x.write.isSome ∧ x.addr < 0x4000 then (s.failAccess x.req x.addr true .fault, .fail .fault)
     else if atomic then s.atomicRun x
     else match x.write with
      | some v => (s.localWrite x.req x.addr x.size v, .ok 0)
      | none => (s, .ok (s.localRead x.req x.addr x.size)))
  else if atomic then
    (if isReg x.addr ∨ isBitSet x.addr ∨ isBitClear x.addr then (s.failAccess x.req x.addr x.write.isSome .fault, .fail .fault)
     else match s.judge x.req x.addr x.size with
      | .stall => (s, .stalled)
      | .fail st => (s.failAccess x.req x.addr x.write.isSome st, .fail st)
      | .go =>
        match (s.touchDomain (domainOf x.addr)).atomicRun x with
        | (s1, .fail st) => (s1.failAccess x.req x.addr x.write.isSome st, .fail st)
        | r => r)
  else if x.use.float && isReg x.addr then (s.failAccess x.req x.addr x.write.isSome .fault, .fail .fault)
  else s.access x

/-- A loaded value as it enters a register: extended by sign or with zeros from the access's size. -/
def extended (size v : Nat) (signed : Bool) : DWord := if signed then BitVec.ofInt 64 (sgn (8 * size) v) else BitVec.ofNat 64 (v % 2 ^ (8 * size))

/-- A core takes the value of its access and goes on. -/
def State.finish (s : State) (x : Stalled) (v : Nat) : State :=
  s.advance x.req (fun c => match x.use with
    | .load rd signed => c.setG rd (extended x.size v signed)
    | .fload rd => c.setF rd (BitVec.ofNat 64 (v % 2 ^ (8 * x.size)))
    | .lr rd | .atomic _ rd => c.setG rd (extended x.size v true)
    | .sc rd => c.setG rd (BitVec.ofNat 64 v)
    | .plain | .store | .fstore => c)

/-- A core's access has failed (R44, R94): a slot engine goes on with all ones; a store to normal memory has retired and its
error waits; any other access raises its bus error. -/
def State.failed (s : State) (x : Stalled) (normal : Bool) (code : Status) : State :=
  if kindOf x.req = .engine then s.finish x (2 ^ (8 * x.size) - 1)
  else if (x.use = .store ∨ x.use = .fstore) ∧ normal then s.advance x.req (fun c => { c with badStores := c.badStores ++ [(x.virt, code.code)] })
  else s.raise x.req x.use.kind.busCause code.code x.virt false

/-- A core's access waits (R43, R385). -/
def State.hold (s : State) (x : Stalled) : State :=
  let s1 := s.stallAccess x
  s1.setCore x.req { s1.core x.req with mode := .access }

/-- The access of a core from its virtual address: translated, made, and ended. -/
def State.runAccess (s0 : State) (x : Stalled) : State :=
  let s := s0.walkSeen x.req x.virt
  match s0.translate x.req x.use.kind x.virt with
  | .page => s.raise x.req x.use.kind.pageCause 0 x.virt false
  | .bus a code => (s.failAccess x.req a false code).raise x.req x.use.kind.busCause code.code x.virt false
  | .wait a => s.hold { x with addr := a }
  | .to pa normal leaf =>
    match (s.cacheLeaf x.req leaf).perform { x with addr := pa } with
    | (s1, .ok v) => s1.finish x v
    | (s1, .fail code) => s1.failed x normal code
    | (s1, .stalled) => s1.hold { x with addr := pa }

/-- A load, store or atomic instruction at an effective address: misaligned ones raise their exception and touch no memory
(R83, R86). -/
def State.memory (s : State) (c size va : Nat) (use : AccessUse) (write : Option Nat) (arg : Nat) : State :=
  if va % size ≠ 0 then s.raise c (if use.kind = .load then 0x09 else 0x0A) 0 va false
  else s.runAccess ⟨c, va, size, write, arg, use, va⟩

/-- The effective address of a load or store. -/
def Core.ea (x : Core) (ra : Nat) (imm : BitVec 16) : Nat := (x.gr ra + imm.signExtend 64).toNat

/-- A failed access that a control or work core made in a register row is a load or store of that core: it takes a bus-error
exception (R44). A held core makes none. -/
def State.plainFailed (s : State) (x : Stalled) (code : Status) : State :=
  if x.req ≤ 19 ∧ s.live x.req then s.raise x.req (if x.write.isSome then MemKind.store else MemKind.load).busCause code.code x.addr false else s

/-- A requester's own register or memory access: done and answered, failed, or stalled; the host's MSI-X table and its pending bits
lie in BAR0 beside the blocks, and only while PD_SRD is powered. -/
def State.plainAccess (s : State) (x : Stalled) : State :=
  let bar := (msixAt x.req x.addr).isSome || (x.req == 31 && x.addr == 0x80003F8000 && x.write.isNone)
  if bar && !s.powered 10 then s.failAccess x.req x.addr x.write.isSome .domainOff else
  match msixAt x.req x.addr, x.write with
  | some w, some v => (s.msixWrite w (w32 v)).answer x.req .ok 0
  | some w, none => s.answer x.req .ok (s.msixWord w).toNat
  | none, _ =>
  if x.req = 31 ∧ x.addr = 0x80003F8000 ∧ x.write = none then s.answer x.req .ok s.tm.pba else
  match s.access x with
  | (s1, .ok v) => s1.answer x.req .ok v
  | (s1, .fail code) => s1.plainFailed x code
  | (s1, .stalled) => s1.stallAccess x

/-- A requester writes a register. -/
def State.busWrite (s : State) (req a : Nat) (v : Word) : State := s.plainAccess ⟨req, a, 4, some v.toNat, 0, .plain, a⟩
/-- A requester reads a register. -/
def State.busRead (s : State) (req a : Nat) : State := s.plainAccess ⟨req, a, 4, none, 0, .plain, a⟩

/-- ACCESS_STALL_END: the oldest stalled access of a requester is judged again; a domain that is asleep has woken (R43). -/
def State.stallEnd (s : State) (req : Nat) : State :=
  match s.bus.stalled.filter (fun x => x.req == req) with
  | [] => s
  | x :: later =>
    let s0 : State := { s with bus := { s.bus with stalled := s.bus.stalled.filter (fun x => x.req != req) } }
    let s1 := if s0.pwr.goingDown.contains (domainOf x.addr) then s0 else s0.wakeFor x.addr
    let s2 :=
      if x.use = .plain then
        (match s1.access x with
         | (s2, .ok v) => s2.answer req .ok v
         | (s2, .fail code) => s2.plainFailed x code
         | (s2, .stalled) => { s2 with bus := { s2.bus with stalled := s2.bus.stalled ++ [x] } })
      else if (s.core req).mode ≠ .access then s0
      else
        let s2 := (s1.setCore req { s1.core req with mode := .run }).runAccess x
        if (s2.core req).mode = .access ∧ s0.judge req x.addr x.size = .go then { s0 with bus := { s0.bus with stalled := s0.bus.stalled ++ [x] } } else s2
    { s2 with bus := { s2.bus with stalled := s2.bus.stalled ++ later } }

end Sys2Proof.Machine
end

