-- ==== Sys2Proof/Machine/MapCommands.lean ====
section
/-!
DEFINITION. The commands of the HITAS map: register writes and reads, swap slots and switchable functions (chapter 02).
-/
namespace Sys2Proof.Machine

/-- A register access: a write of the value given, else a read. -/
def State.busAccess (s : State) (req a : Nat) (w : Option Word) : State :=
  match w with
  | some v => s.busWrite req a v
  | none => s.busRead req a
/-- An act of a switchable function that exists; what does not exist does nothing. -/
def State.forFn (s : State) (x : FnRef) (g : State → Nat → Nat → Nat → State) : State :=
  if fnExists x.entry.val x.inst.val x.f.val then g s x.entry.val x.inst.val x.f.val else s
/-- The address of FN_CTL of a function. -/
def fnCtlAddr (x : FnRef) : Nat := (fnCtl x.entry.val x.inst.val x.f.val).addr

/-! ## Register accesses (R13, R40, R43, R46) -/

/-- REGISTER_WRITE: a write judged against the access outcomes (R43). -/
def execRegisterWrite (req : Fin 32) (addr : BitVec 40) (value : Word) (s : State) : Out :=
  .next (s.busWrite req.val addr.toNat value)
/-- ACCESS_STALL_END: a stalled access is judged again (R43). -/
def execAccessStallEnd (req : Fin 32) (s : State) : Out :=
  .next (s.stallEnd req.val)
/-- DOMAIN_LINGER_EXPIRY: a woken domain goes back down (R363). -/
def execDomainLingerExpiry (dom : Fin 17) (s : State) : Out :=
  .next (s.lingerExpiry dom.val)
/-- RC_FIELD_READ: a read of a register; RC fields are cleared in the same access (R13). -/
def execRcFieldRead (req : Fin 32) (addr : BitVec 40) (s : State) : Out :=
  .next (s.busRead req.val addr.toNat)
/-- WIDE_VALUE_LOW_READ: a read of the lowest register of a wide value (R40). -/
def execWideValueLowRead (req : Fin 32) (addr : BitVec 40) (s : State) : Out :=
  .next (s.busRead req.val addr.toNat)
/-- WIDE_VALUE_LOW_WRITE: a write of a lower register of a wide value (R40). -/
def execWideValueLowWrite (req : Fin 32) (addr : BitVec 40) (value : Word) (s : State) : Out :=
  .next (s.busWrite req.val addr.toNat value)
/-- WIDE_VALUE_HIGH_WRITE: a write of the highest register of a wide value (R40). -/
def execWideValueHighWrite (req : Fin 32) (addr : BitVec 40) (value : Word) (s : State) : Out :=
  .next (s.busWrite req.val addr.toNat value)
/-- SHADOW_WRITE: a write in the shadow view (R46). -/
def execShadowWrite (req : Fin 32) (addr : BitVec 40) (value : Word) (s : State) : Out :=
  .next (s.busWrite req.val addr.toNat value)
/-! ## Swap slots (R47, R48, R50) -/

/-- SWAP_REQUEST: OP 0b01 of HIT_SWAP_CMD (R47). -/
def execSwapRequest (req : Fin 32) (slot : Fin 8) (s : State) : Out :=
  .next (s.busWrite req.val (R.HIT_SWAP_CMD slot.val) 1)
/-- SWAP_CANCEL: OP 0b10 of HIT_SWAP_CMD (R50). -/
def execSwapCancel (req : Fin 32) (slot : Fin 8) (s : State) : Out :=
  .next (s.busWrite req.val (R.HIT_SWAP_CMD slot.val) 2)
/-- SWAP_TAKE_EFFECT: the covered sets that are due become active (R48). -/
def execSwapTakeEffect (slot : Fin 8) (s : State) : Out :=
  .next (s.swapTake slot.val)
/-! ## Switchable functions (R52, R415) -/

/-- FN_ENABLE: EN 1 is written (R52). -/
def execFnEnable (req : Fin 32) (fn : FnRef) (s : State) : Out :=
  .next (s.busWrite req.val (fnCtlAddr fn) 1)
/-- FN_DISABLE: EN 0 is written (R52). -/
def execFnDisable (req : Fin 32) (fn : FnRef) (s : State) : Out :=
  .next (s.busWrite req.val (fnCtlAddr fn) 0)
/-- FN_START_DONE: a start completes (R52). -/
def execFnStartDone (fn : FnRef) (s : State) : Out :=
  .next (s.forFn fn State.fnStartDone)
/-- FN_START_FAIL: a start fails (R52). -/
def execFnStartFail (fn : FnRef) (s : State) : Out :=
  .next (s.forFn fn State.fnStartFail)
/-- FN_SAFE_POINT: a safe point with an abandon pending (R415). -/
def execFnSafePoint (fn : FnRef) (s : State) : Out :=
  .next (s.forFn fn (fun s e i f => (s.fnSafePoint e i f).afterStop e i f))
/-- FN_STOP_DONE: a stop completes; a power entry waiting for it goes on (R52, R357). -/
def execFnStopDone (fn : FnRef) (s : State) : Out :=
  .next (s.forFn fn (fun s e i f => (s.fnStopDone e i f).afterStop e i f))
/-- FN_STOP_FAIL: a stop fails; a power entry waiting for it is refused (R52, R359). -/
def execFnStopFail (fn : FnRef) (s : State) : Out :=
  .next (s.forFn fn (fun s e i f => (s.fnStopFail e i f).afterStop e i f))

end Sys2Proof.Machine
end

