-- ==== Sys2Proof/Machine/CipherCommands.lean ====
section
/-!
DEFINITION. The commands of the cipher and the key store (chapter 14).
-/
namespace Sys2Proof.Machine

/-! ## The cipher (R312 to R322, R341) -/

/-- SEAL: the SEAL of a pipe runs (R322). -/
def execSeal (pipe : Fin 4) (s : State) : Out :=
  .next (s.pipeRun 1 pipe.val)
/-- OPEN: the OPEN of a pipe runs (R315). -/
def execOpen (pipe : Fin 4) (s : State) : Out :=
  .next (s.pipeRun 2 pipe.val)
/-- ENC_RAW: the ENC_RAW of a pipe runs (R316). -/
def execEncRaw (pipe : Fin 4) (s : State) : Out :=
  .next (s.pipeRun 3 pipe.val)
/-- DEC_RAW: the DEC_RAW of a pipe runs (R316). -/
def execDecRaw (pipe : Fin 4) (s : State) : Out :=
  .next (s.pipeRun 4 pipe.val)
/-- CIPHER_IMPORT: the IMPORT of a pipe runs (R317). -/
def execCipherImport (pipe : Fin 4) (s : State) : Out :=
  .next (s.pipeRun 5 pipe.val)
/-- SHA256: the SHA256 of a pipe runs (R318). -/
def execSha256 (pipe : Fin 4) (s : State) : Out :=
  .next (s.pipeRun 6 pipe.val)
/-- CPH_INVAL: CPH_INVAL is written (R312). -/
def execCphInval (req : Fin 32) (value : Word) (s : State) : Out :=
  .next (s.busWrite req.val R.CPH_INVAL value)
/-- COUNTER_SETTLE: a counter record is settled (R341). -/
def execCounterSettle (n : BitVec 19) (s : State) : Out :=
  .next (s.settleCtr n.toNat)
/-! ## The key store (R324 to R327, R407) -/

/-- LOADW: OP 1 of KST_CMD (R324). -/
def execLoadw (req : Fin 32) (long : Bool) (s : State) : Out :=
  .next (s.busWrite req.val R.KST_CMD (BitVec.ofNat 32 (1 + 32 * b2n long)))
/-- LOADP: OP 2 of KST_CMD (R324). -/
def execLoadp (req : Fin 32) (long : Bool) (s : State) : Out :=
  .next (s.busWrite req.val R.KST_CMD (BitVec.ofNat 32 (2 + 32 * b2n long)))
/-- WRAP: OP 3 of KST_CMD (R324). -/
def execWrap (req : Fin 32) (long : Bool) (s : State) : Out :=
  .next (s.busWrite req.val R.KST_CMD (BitVec.ofNat 32 (3 + 32 * b2n long)))
/-- CLEAR: OP 4 of KST_CMD (R324). -/
def execKstClear (req : Fin 32) (long : Bool) (s : State) : Out :=
  .next (s.busWrite req.val R.KST_CMD (BitVec.ofNat 32 (4 + 32 * b2n long)))
/-- ARM: OP 5 of KST_CMD (R327). -/
def execArm (req : Fin 32) (long : Bool) (s : State) : Out :=
  .next (s.busWrite req.val R.KST_CMD (BitVec.ofNat 32 (5 + 32 * b2n long)))
/-- WHITEOUT: OP 6 of KST_CMD (R324). -/
def execWhiteout (req : Fin 32) (long : Bool) (s : State) : Out :=
  .next (s.busWrite req.val R.KST_CMD (BitVec.ofNat 32 (6 + 32 * b2n long)))
/-- TAMPER_CHECK: a check of a tamper loop (R407). -/
def execTamperCheck (loop : Fin 2) (inside : Bool) (s : State) : Out :=
  .next (s.tamperCheck loop.val inside)
/-- ALARM_RAISED: an alarm source enters or leaves its condition (R325). -/
def execAlarmRaised (source : Fin 7) (active : Bool) (s : State) : Out :=
  .next (s.alarmSource source.val active)

end Sys2Proof.Machine
end

