-- ==== Sys2Proof/Machine/IblekInt.lean ====
section
/-!
DEFINITION. The integer instructions, branches and jumps of Iblek (R81, R82, R85; Tables 04-4 and 04-6).
-/
namespace Sys2Proof.Machine

/-! ## Operations on 64-bit values (Table 04-4) -/

/-- sext32: bits [31:0] sign-extended. -/
def sext32 (v : DWord) : DWord := (v.truncate 32).signExtend 64
/-- A truth value as 1 or 0. -/
def flag (b : Bool) : DWord := if b then 1 else 0
/-- The shift amount y[5:0]. -/
def sh6 (y : DWord) : Nat := y.toNat % 64
/-- The shift amount y[4:0] of a W form. -/
def sh5 (y : DWord) : Nat := y.toNat % 32
/-- Bits [31:0]. -/
def low32 (v : DWord) : BitVec 32 := v.truncate 32
/-- SLLW. -/
def sllw (x : DWord) (n : Nat) : DWord := (low32 x <<< n).signExtend 64
/-- SRLW. -/
def srlw (x : DWord) (n : Nat) : DWord := (low32 x >>> n).signExtend 64
/-- SRAW. -/
def sraw (x : DWord) (n : Nat) : DWord := ((low32 x).sshiftRight n).signExtend 64
/-- The W form of a rotate. -/
def rorw (x : DWord) (n : Nat) : DWord := ((low32 x).rotateRight n).signExtend 64
/-- Bits [127:64] of a product of integers. -/
def mulHigh (a b : Int) : DWord := BitVec.ofInt 64 (a * b / 2 ^ 64)
/-- DIV (R82): truncated toward zero; all ones by zero. −2^63 by −1 wraps to −2^63. -/
def divS (x y : DWord) : DWord := if y = 0 then BitVec.allOnes 64 else BitVec.ofInt 64 (x.toInt.tdiv y.toInt)
/-- DIVU. -/
def divU (x y : DWord) : DWord := if y = 0 then BitVec.allOnes 64 else BitVec.ofNat 64 (x.toNat / y.toNat)
/-- REM: with the sign of x; x by zero. -/
def remS (x y : DWord) : DWord := if y = 0 then x else BitVec.ofInt 64 (x.toInt.tmod y.toInt)
/-- REMU. -/
def remU (x y : DWord) : DWord := if y = 0 then x else BitVec.ofNat 64 (x.toNat % y.toNat)
/-- Leading zero bits of the low n bits of a number. -/
def leadZeros (v : Nat) : Nat → Nat
  | 0 => 0
  | n + 1 => if v.testBit n then 0 else 1 + leadZeros v n
/-- Trailing zero bits among n bits. -/
def trailZeros (v : Nat) : Nat → Nat
  | 0 => 0
  | n + 1 => if v.testBit 0 then 0 else 1 + trailZeros (v / 2) n
/-- Bits set among n bits. -/
def onesIn (v : Nat) : Nat → Nat
  | 0 => 0
  | n + 1 => v % 2 + onesIn (v / 2) n
/-- BSWAP. -/
def byteSwap (x : DWord) : DWord := BitVec.ofNat 64 (beNat (leBytes 8 x.toNat))
/-- SHI is a listed word: bits [15:9] are 0, and a W form has bit [5] 0. -/
def shiLegal (imm : BitVec 16) : Bool := decide (imm.toNat / 2 ^ 9 = 0) && !(imm.getLsbD 8 && imm.getLsbD 5)
/-- SHI: the shift that imm16[8:0] selects. -/
def shiValue (x : DWord) (imm : BitVec 16) : DWord :=
  let n := imm.toNat % 64
  match imm.getLsbD 8, imm.toNat / 64 % 4 with
  | false, 0 => x <<< n
  | false, 1 => x >>> n
  | false, 2 => x.sshiftRight n
  | false, _ => x.rotateRight n
  | true, 0 => sllw x n
  | true, 1 => srlw x n
  | true, 2 => sraw x n
  | true, _ => rorw x n

/-- The frame of the two-operand register forms: x of ra and y of rb. -/
def State.op3 (s : State) (c : Fin 24) (part : Part) (fn : Nat) (rd ra rb : Fin 32) (f : DWord → DWord → DWord) : State :=
  s.compute c part rd (encR 0x01 rd ra rb fn) (fun x => f (x.gr ra) (x.gr rb))
/-- The frame of the immediate forms: x of ra. -/
def State.opImm (s : State) (c : Fin 24) (op : Nat) (rd ra : Fin 32) (imm : BitVec 16) (f : DWord → DWord) : State :=
  s.compute c .base rd (encI op rd ra imm.toNat) (fun x => f (x.gr ra))

/-! ## Register forms -/

/-- ADD (Table 04-4). -/
def execAdd (core : Fin 24) (rd ra rb : Fin 32) (s : State) : Out :=
  .next (s.op3 core .base 0x000 rd ra rb (fun x y => x + y))
/-- SUB (Table 04-4). -/
def execSub (core : Fin 24) (rd ra rb : Fin 32) (s : State) : Out :=
  .next (s.op3 core .base 0x001 rd ra rb (fun x y => x - y))
/-- AND (Table 04-4). -/
def execAnd (core : Fin 24) (rd ra rb : Fin 32) (s : State) : Out :=
  .next (s.op3 core .base 0x002 rd ra rb (fun x y => x &&& y))
/-- OR (Table 04-4). -/
def execOr (core : Fin 24) (rd ra rb : Fin 32) (s : State) : Out :=
  .next (s.op3 core .base 0x003 rd ra rb (fun x y => x ||| y))
/-- XOR (Table 04-4). -/
def execXor (core : Fin 24) (rd ra rb : Fin 32) (s : State) : Out :=
  .next (s.op3 core .base 0x004 rd ra rb (fun x y => x ^^^ y))
/-- SLT (Table 04-4). -/
def execSlt (core : Fin 24) (rd ra rb : Fin 32) (s : State) : Out :=
  .next (s.op3 core .base 0x005 rd ra rb (fun x y => flag (x.slt y)))
/-- SLTU (Table 04-4). -/
def execSltu (core : Fin 24) (rd ra rb : Fin 32) (s : State) : Out :=
  .next (s.op3 core .base 0x006 rd ra rb (fun x y => flag (x.ult y)))
/-- SLL (Table 04-4). -/
def execSll (core : Fin 24) (rd ra rb : Fin 32) (s : State) : Out :=
  .next (s.op3 core .base 0x007 rd ra rb (fun x y => x <<< sh6 y))
/-- SRL (Table 04-4). -/
def execSrl (core : Fin 24) (rd ra rb : Fin 32) (s : State) : Out :=
  .next (s.op3 core .base 0x008 rd ra rb (fun x y => x >>> sh6 y))
/-- SRA (Table 04-4). -/
def execSra (core : Fin 24) (rd ra rb : Fin 32) (s : State) : Out :=
  .next (s.op3 core .base 0x009 rd ra rb (fun x y => x.sshiftRight (sh6 y)))
/-- ROR (Table 04-4). -/
def execRor (core : Fin 24) (rd ra rb : Fin 32) (s : State) : Out :=
  .next (s.op3 core .base 0x00A rd ra rb (fun x y => x.rotateRight (sh6 y)))
/-- ADDW (Table 04-4). -/
def execAddw (core : Fin 24) (rd ra rb : Fin 32) (s : State) : Out :=
  .next (s.op3 core .base 0x00B rd ra rb (fun x y => sext32 (x + y)))
/-- SUBW (Table 04-4). -/
def execSubw (core : Fin 24) (rd ra rb : Fin 32) (s : State) : Out :=
  .next (s.op3 core .base 0x00C rd ra rb (fun x y => sext32 (x - y)))
/-- SLLW (Table 04-4). -/
def execSllw (core : Fin 24) (rd ra rb : Fin 32) (s : State) : Out :=
  .next (s.op3 core .base 0x00D rd ra rb (fun x y => sllw x (sh5 y)))
/-- SRLW (Table 04-4). -/
def execSrlw (core : Fin 24) (rd ra rb : Fin 32) (s : State) : Out :=
  .next (s.op3 core .base 0x00E rd ra rb (fun x y => srlw x (sh5 y)))
/-- SRAW (Table 04-4). -/
def execSraw (core : Fin 24) (rd ra rb : Fin 32) (s : State) : Out :=
  .next (s.op3 core .base 0x00F rd ra rb (fun x y => sraw x (sh5 y)))
/-- MUL (Table 04-4). -/
def execMul (core : Fin 24) (rd ra rb : Fin 32) (s : State) : Out :=
  .next (s.op3 core .base 0x010 rd ra rb (fun x y => x * y))
/-- MULH (Table 04-4). -/
def execMulh (core : Fin 24) (rd ra rb : Fin 32) (s : State) : Out :=
  .next (s.op3 core .base 0x011 rd ra rb (fun x y => mulHigh x.toInt y.toInt))
/-- MULHU (Table 04-4). -/
def execMulhu (core : Fin 24) (rd ra rb : Fin 32) (s : State) : Out :=
  .next (s.op3 core .base 0x012 rd ra rb (fun x y => mulHigh x.toNat y.toNat))
/-- MULHSU (Table 04-4). -/
def execMulhsu (core : Fin 24) (rd ra rb : Fin 32) (s : State) : Out :=
  .next (s.op3 core .base 0x013 rd ra rb (fun x y => mulHigh x.toInt y.toNat))
/-- DIV (Table 04-4). -/
def execDiv (core : Fin 24) (rd ra rb : Fin 32) (s : State) : Out :=
  .next (s.op3 core .divide 0x014 rd ra rb (fun x y => divS x y))
/-- DIVU (Table 04-4). -/
def execDivu (core : Fin 24) (rd ra rb : Fin 32) (s : State) : Out :=
  .next (s.op3 core .divide 0x015 rd ra rb (fun x y => divU x y))
/-- REM (Table 04-4). -/
def execRem (core : Fin 24) (rd ra rb : Fin 32) (s : State) : Out :=
  .next (s.op3 core .divide 0x016 rd ra rb (fun x y => remS x y))
/-- REMU (Table 04-4). -/
def execRemu (core : Fin 24) (rd ra rb : Fin 32) (s : State) : Out :=
  .next (s.op3 core .divide 0x017 rd ra rb (fun x y => remU x y))
/-- MIN (Table 04-4). -/
def execMin (core : Fin 24) (rd ra rb : Fin 32) (s : State) : Out :=
  .next (s.op3 core .base 0x018 rd ra rb (fun x y => if x.slt y then x else y))
/-- MAX (Table 04-4). -/
def execMax (core : Fin 24) (rd ra rb : Fin 32) (s : State) : Out :=
  .next (s.op3 core .base 0x019 rd ra rb (fun x y => if x.slt y then y else x))
/-- MINU (Table 04-4). -/
def execMinu (core : Fin 24) (rd ra rb : Fin 32) (s : State) : Out :=
  .next (s.op3 core .base 0x01A rd ra rb (fun x y => if x.ult y then x else y))
/-- MAXU (Table 04-4). -/
def execMaxu (core : Fin 24) (rd ra rb : Fin 32) (s : State) : Out :=
  .next (s.op3 core .base 0x01B rd ra rb (fun x y => if x.ult y then y else x))
/-- SELNZ (Table 04-4): rd keeps its value where y is 0. -/
def execSelnz (core : Fin 24) (rd ra rb : Fin 32) (s : State) : Out :=
  .next (s.compute core .base rd (encR 0x01 rd ra rb 0x020) (fun x => if x.gr rb ≠ 0 then x.gr ra else x.gr rd))
/-- CLZ (Table 04-4). -/
def execClz (core : Fin 24) (rd ra : Fin 32) (s : State) : Out :=
  .next (s.op3 core .base 0x01C rd ra 0 (fun x _ => BitVec.ofNat 64 (leadZeros x.toNat 64)))
/-- CTZ (Table 04-4). -/
def execCtz (core : Fin 24) (rd ra : Fin 32) (s : State) : Out :=
  .next (s.op3 core .base 0x01D rd ra 0 (fun x _ => BitVec.ofNat 64 (trailZeros x.toNat 64)))
/-- POPC (Table 04-4). -/
def execPopc (core : Fin 24) (rd ra : Fin 32) (s : State) : Out :=
  .next (s.op3 core .base 0x01E rd ra 0 (fun x _ => BitVec.ofNat 64 (onesIn x.toNat 64)))
/-- BSWAP (Table 04-4). -/
def execBswap (core : Fin 24) (rd ra : Fin 32) (s : State) : Out :=
  .next (s.op3 core .base 0x01F rd ra 0 (fun x _ => byteSwap x))

/-! ## Immediate forms -/

/-- ADDI (Table 04-4). -/
def execAddi (core : Fin 24) (rd ra : Fin 32) (imm : BitVec 16) (s : State) : Out :=
  .next (s.opImm core 0x02 rd ra imm (fun x => x + imm.signExtend 64))
/-- ANDI (Table 04-4). -/
def execAndi (core : Fin 24) (rd ra : Fin 32) (imm : BitVec 16) (s : State) : Out :=
  .next (s.opImm core 0x03 rd ra imm (fun x => x &&& imm.zeroExtend 64))
/-- ORI (Table 04-4). -/
def execOri (core : Fin 24) (rd ra : Fin 32) (imm : BitVec 16) (s : State) : Out :=
  .next (s.opImm core 0x04 rd ra imm (fun x => x ||| imm.zeroExtend 64))
/-- XORI (Table 04-4). -/
def execXori (core : Fin 24) (rd ra : Fin 32) (imm : BitVec 16) (s : State) : Out :=
  .next (s.opImm core 0x05 rd ra imm (fun x => x ^^^ imm.zeroExtend 64))
/-- SLTI (Table 04-4). -/
def execSlti (core : Fin 24) (rd ra : Fin 32) (imm : BitVec 16) (s : State) : Out :=
  .next (s.opImm core 0x06 rd ra imm (fun x => flag (x.slt (imm.signExtend 64))))
/-- SLTIU (Table 04-4). -/
def execSltiu (core : Fin 24) (rd ra : Fin 32) (imm : BitVec 16) (s : State) : Out :=
  .next (s.opImm core 0x07 rd ra imm (fun x => flag (x.ult (imm.signExtend 64))))
/-- ADDIW (Table 04-4). -/
def execAddiw (core : Fin 24) (rd ra : Fin 32) (imm : BitVec 16) (s : State) : Out :=
  .next (s.opImm core 0x09 rd ra imm (fun x => sext32 (x + imm.signExtend 64)))
/-- SHI (Table 04-4). -/
def execShi (core : Fin 24) (rd ra : Fin 32) (imm : BitVec 16) (s : State) : Out :=
  .next (s.ins core .base (shiLegal imm) (encI 0x08 rd ra imm.toNat) (fun s => s.result core rd (shiValue ((s.core core).gr ra) imm)))
/-- LUI (Table 04-4). -/
def execLui (core : Fin 24) (rd : Fin 32) (imm : BitVec 21) (s : State) : Out :=
  .next (s.compute core .base rd (encU 0x0A rd imm.toNat) (fun _ => imm.signExtend 64 <<< 16))
/-- AUIPC (Table 04-4). -/
def execAuipc (core : Fin 24) (rd : Fin 32) (imm : BitVec 21) (s : State) : Out :=
  .next (s.compute core .base rd (encU 0x0B rd imm.toNat) (fun x => x.pc + (imm.signExtend 64 <<< 16)))

/-! ## Branches and jumps (Table 04-6) -/

/-- A jump: the link register, the target, one instruction more retired. -/
def State.jump (s : State) (c : Fin 24) (rd : Nat) (target : DWord) : State :=
  let x := s.core c
  s.setCore c { (x.setG rd (x.pc + 4)).next c with pc := target }
/-- A branch: taken where the comparison of x and y holds (R85). -/
def State.branch (s : State) (c : Fin 24) (op : Nat) (ra rb : Fin 32) (off : BitVec 16) (test : DWord → DWord → Bool) : State :=
  s.ins c .base true (encI op ra rb off.toNat) (fun s =>
    let x := s.core c
    if test (x.gr ra) (x.gr rb) then s.setCore c { x.next c with pc := x.pc + (off.signExtend 64 <<< 2) } else s.advance c id)
/-- JAL (Table 04-6). -/
def execJal (core : Fin 24) (rd : Fin 32) (imm : BitVec 21) (s : State) : Out :=
  .next (s.ins core .base true (encU 0x0C rd imm.toNat) (fun s => s.jump core rd ((s.core core).pc + (imm.signExtend 64 <<< 2))))
/-- JALR (Table 04-6): the target is computed before rd is written (R85). -/
def execJalr (core : Fin 24) (rd ra : Fin 32) (imm : BitVec 16) (s : State) : Out :=
  .next (s.ins core .base true (encI 0x0D rd ra imm.toNat) (fun s =>
    s.jump core rd (((s.core core).gr ra + imm.signExtend 64) &&& ~~~(3 : DWord))))
/-- BEQ (Table 04-6). -/
def execBeq (core : Fin 24) (ra rb : Fin 32) (off : BitVec 16) (s : State) : Out :=
  .next (s.branch core 0x10 ra rb off (fun x y => x == y))
/-- BNE (Table 04-6). -/
def execBne (core : Fin 24) (ra rb : Fin 32) (off : BitVec 16) (s : State) : Out :=
  .next (s.branch core 0x11 ra rb off (fun x y => x != y))
/-- BLT (Table 04-6). -/
def execBlt (core : Fin 24) (ra rb : Fin 32) (off : BitVec 16) (s : State) : Out :=
  .next (s.branch core 0x12 ra rb off (fun x y => x.slt y))
/-- BGE (Table 04-6). -/
def execBge (core : Fin 24) (ra rb : Fin 32) (off : BitVec 16) (s : State) : Out :=
  .next (s.branch core 0x13 ra rb off (fun x y => y.sle x))
/-- BLTU (Table 04-6). -/
def execBltu (core : Fin 24) (ra rb : Fin 32) (off : BitVec 16) (s : State) : Out :=
  .next (s.branch core 0x14 ra rb off (fun x y => x.ult y))
/-- BGEU (Table 04-6). -/
def execBgeu (core : Fin 24) (ra rb : Fin 32) (off : BitVec 16) (s : State) : Out :=
  .next (s.branch core 0x15 ra rb off (fun x y => y.ule x))

end Sys2Proof.Machine
end

