-- ==== Sys2Proof/Machine/IblekMem.lean ====
section
/-!
DEFINITION. The loads, stores and atomic operations of Iblek (R83 to R87; Tables 04-5 and 04-7).
-/
namespace Sys2Proof.Machine

/-- The frame of an integer load. -/
def State.loadIns (s : State) (c : Fin 24) (op size : Nat) (signed : Bool) (rd ra : Fin 32) (imm : BitVec 16) : State :=
  s.ins c .base true (encI op rd ra imm.toNat) (fun s => s.memory c size ((s.core c).ea ra imm) (.load rd signed) none 0)
/-- The frame of an integer store. -/
def State.storeIns (s : State) (c : Fin 24) (op size : Nat) (rs ra : Fin 32) (imm : BitVec 16) : State :=
  s.ins c .base true (encI op rs ra imm.toNat) (fun s =>
    s.memory c size ((s.core c).ea ra imm) .store (some (((s.core c).gr rs).toNat % 2 ^ (8 * size))) 0)
/-- Floating point is enabled on a core (R88). -/
def Core.fpOn (x : Core) (c : Nat) : Bool := kindOf c == .work || x.fpen
/-- The frame of a load of an f register. -/
def State.floadIns (s : State) (c : Fin 24) (op size : Nat) (fd ra : Fin 32) (imm : BitVec 16) : State :=
  s.ins c .float true (encI op fd ra imm.toNat) (fun s =>
    if (s.core c).fpOn c then s.memory c size ((s.core c).ea ra imm) (.fload fd) none 0 else s.raise c 0x05 0 0 false)
/-- The frame of a store of an f register. -/
def State.fstoreIns (s : State) (c : Fin 24) (op size : Nat) (fs ra : Fin 32) (imm : BitVec 16) : State :=
  s.ins c .float true (encI op fs ra imm.toNat) (fun s =>
    if (s.core c).fpOn c then
      s.memory c size ((s.core c).ea ra imm) .fstore (some (((s.core c).fr fs).toNat % 2 ^ (8 * size))) 0
    else s.raise c 0x05 0 0 false)
/-- The word of an atomic operation. -/
def atomWord (op : Nat) (rd ra rb : Fin 32) (dbl aq rl : Bool) : Nat :=
  encR 0x28 rd ra rb (op * 2 ^ 7 + b2n dbl * 2 ^ 6 + b2n aq * 2 ^ 5 + b2n rl * 2 ^ 4)
/-- The frame of an atomic operation with an operand; its AQ and RL order accesses of a core that makes them one after
another. -/
def State.atomIns (s : State) (c : Fin 24) (op : Nat) (rd ra rb : Fin 32) (dbl aq rl : Bool) : State :=
  s.ins c .atom true (atomWord op rd ra rb dbl aq rl) (fun s =>
    let x := s.core c
    s.memory c (if dbl then 8 else 4) (x.gr ra).toNat (if op = 1 then .sc rd else .atomic op rd) (some (x.gr rb).toNat) (x.gr rd).toNat)

/-- LB (Table 04-5). -/
def execLb (core : Fin 24) (rd ra : Fin 32) (imm : BitVec 16) (s : State) : Out :=
  .next (s.loadIns core 0x18 1 true rd ra imm)
/-- LBU (Table 04-5). -/
def execLbu (core : Fin 24) (rd ra : Fin 32) (imm : BitVec 16) (s : State) : Out :=
  .next (s.loadIns core 0x19 1 false rd ra imm)
/-- LH (Table 04-5). -/
def execLh (core : Fin 24) (rd ra : Fin 32) (imm : BitVec 16) (s : State) : Out :=
  .next (s.loadIns core 0x1A 2 true rd ra imm)
/-- LHU (Table 04-5). -/
def execLhu (core : Fin 24) (rd ra : Fin 32) (imm : BitVec 16) (s : State) : Out :=
  .next (s.loadIns core 0x1B 2 false rd ra imm)
/-- LW (Table 04-5). -/
def execLw (core : Fin 24) (rd ra : Fin 32) (imm : BitVec 16) (s : State) : Out :=
  .next (s.loadIns core 0x1C 4 true rd ra imm)
/-- LWU (Table 04-5). -/
def execLwu (core : Fin 24) (rd ra : Fin 32) (imm : BitVec 16) (s : State) : Out :=
  .next (s.loadIns core 0x1D 4 false rd ra imm)
/-- LD (Table 04-5). -/
def execLd (core : Fin 24) (rd ra : Fin 32) (imm : BitVec 16) (s : State) : Out :=
  .next (s.loadIns core 0x1E 8 true rd ra imm)
/-- SB (Table 04-5). -/
def execSb (core : Fin 24) (rs ra : Fin 32) (imm : BitVec 16) (s : State) : Out :=
  .next (s.storeIns core 0x20 1 rs ra imm)
/-- SH (Table 04-5). -/
def execSh (core : Fin 24) (rs ra : Fin 32) (imm : BitVec 16) (s : State) : Out :=
  .next (s.storeIns core 0x21 2 rs ra imm)
/-- SW (Table 04-5). -/
def execSw (core : Fin 24) (rs ra : Fin 32) (imm : BitVec 16) (s : State) : Out :=
  .next (s.storeIns core 0x22 4 rs ra imm)
/-- SD (Table 04-5). -/
def execSd (core : Fin 24) (rs ra : Fin 32) (imm : BitVec 16) (s : State) : Out :=
  .next (s.storeIns core 0x23 8 rs ra imm)
/-- FLW (Table 04-5). -/
def execFlw (core : Fin 24) (fd ra : Fin 32) (imm : BitVec 16) (s : State) : Out :=
  .next (s.floadIns core 0x24 4 fd ra imm)
/-- FLD (Table 04-5). -/
def execFld (core : Fin 24) (fd ra : Fin 32) (imm : BitVec 16) (s : State) : Out :=
  .next (s.floadIns core 0x25 8 fd ra imm)
/-- FSW (Table 04-5). -/
def execFsw (core : Fin 24) (fs ra : Fin 32) (imm : BitVec 16) (s : State) : Out :=
  .next (s.fstoreIns core 0x26 4 fs ra imm)
/-- FSD (Table 04-5). -/
def execFsd (core : Fin 24) (fs ra : Fin 32) (imm : BitVec 16) (s : State) : Out :=
  .next (s.fstoreIns core 0x27 8 fs ra imm)
/-- LR (Table 04-7). -/
def execLr (core : Fin 24) (rd ra : Fin 32) (dbl aq rl : Bool) (s : State) : Out :=
  .next (s.ins core .atom true (atomWord 0x0 rd ra 0 dbl aq rl) (fun s =>
    s.memory core (if dbl then 8 else 4) ((s.core core).gr ra).toNat (.lr rd) none 0))
/-- SC (Table 04-7). -/
def execSc (core : Fin 24) (rd ra rb : Fin 32) (dbl aq rl : Bool) (s : State) : Out :=
  .next (s.atomIns core 0x1 rd ra rb dbl aq rl)
/-- SWAP (Table 04-7). -/
def execSwapAtomic (core : Fin 24) (rd ra rb : Fin 32) (dbl aq rl : Bool) (s : State) : Out :=
  .next (s.atomIns core 0x2 rd ra rb dbl aq rl)
/-- AADD (Table 04-7). -/
def execAadd (core : Fin 24) (rd ra rb : Fin 32) (dbl aq rl : Bool) (s : State) : Out :=
  .next (s.atomIns core 0x3 rd ra rb dbl aq rl)
/-- AAND (Table 04-7). -/
def execAand (core : Fin 24) (rd ra rb : Fin 32) (dbl aq rl : Bool) (s : State) : Out :=
  .next (s.atomIns core 0x4 rd ra rb dbl aq rl)
/-- AOR (Table 04-7). -/
def execAor (core : Fin 24) (rd ra rb : Fin 32) (dbl aq rl : Bool) (s : State) : Out :=
  .next (s.atomIns core 0x5 rd ra rb dbl aq rl)
/-- AXOR (Table 04-7). -/
def execAxor (core : Fin 24) (rd ra rb : Fin 32) (dbl aq rl : Bool) (s : State) : Out :=
  .next (s.atomIns core 0x6 rd ra rb dbl aq rl)
/-- AMIN (Table 04-7). -/
def execAmin (core : Fin 24) (rd ra rb : Fin 32) (dbl aq rl : Bool) (s : State) : Out :=
  .next (s.atomIns core 0x7 rd ra rb dbl aq rl)
/-- AMAX (Table 04-7). -/
def execAmax (core : Fin 24) (rd ra rb : Fin 32) (dbl aq rl : Bool) (s : State) : Out :=
  .next (s.atomIns core 0x8 rd ra rb dbl aq rl)
/-- AMINU (Table 04-7). -/
def execAminu (core : Fin 24) (rd ra rb : Fin 32) (dbl aq rl : Bool) (s : State) : Out :=
  .next (s.atomIns core 0x9 rd ra rb dbl aq rl)
/-- AMAXU (Table 04-7). -/
def execAmaxu (core : Fin 24) (rd ra rb : Fin 32) (dbl aq rl : Bool) (s : State) : Out :=
  .next (s.atomIns core 0xA rd ra rb dbl aq rl)
/-- CAS (Table 04-7). -/
def execCas (core : Fin 24) (rd ra rb : Fin 32) (dbl aq rl : Bool) (s : State) : Out :=
  .next (s.atomIns core 0xB rd ra rb dbl aq rl)

end Sys2Proof.Machine
end

