-- ==== Sys2Proof/Machine/IblekFloat.lean ====
section
/-!
DEFINITION. The floating-point instructions of Iblek (R78, R88; Table 04-8).
-/
namespace Sys2Proof.Machine

/-- FCSR.RM of a core. -/
def Core.frm (x : Core) : Nat := x.fcsr.toNat / 2 ^ 5 % 8
/-- The rounding mode in use: the instruction's, or the mode in FCSR for 7. -/
def Core.rounding (x : Core) (rm : Nat) : Nat := if rm = 7 then x.frm else rm
/-- A rounding-mode value that the opcode lists: 5 and 6 are illegal, and 7 while FCSR.RM holds a reserved value. -/
def Core.rmLegal (x : Core) (rm : Nat) : Bool := decide (x.rounding rm ≤ 4)
/-- An operand of a precision (R78): a binary32 operand is bits [31:0]. -/
def Core.fop (x : Core) (dbl : Bool) (r : Nat) : Nat := (x.fr r).toNat % 2 ^ (fmtOf dbl).w
/-- Flags a result raises stay in FCSR. -/
def Core.raiseFlags (x : Core) (fl : Nat) : Core := { x with fcsr := x.fcsr ||| BitVec.ofNat 64 (fl % 32) }
/-- A result into an f register: a binary32 result has zeros above it. -/
def Core.toF (x : Core) (fd : Nat) (r : FRes) : Core := (x.setF fd (BitVec.ofNat 64 r.1)).raiseFlags r.2
/-- A result into a g register. -/
def Core.toG (x : Core) (rd : Nat) (r : FRes) : Core := (x.setG rd (BitVec.ofNat 64 r.1)).raiseFlags r.2

/-- The frame of a floating-point instruction: illegal, then FP disabled, then what it does with the rounding mode in use. -/
def State.fpIns (s : State) (c : Fin 24) (rm word : Nat) (f : Nat → Core → Core) : State :=
  s.ins c .float ((s.core c).rmLegal rm) word (fun s =>
    if (s.core c).fpOn c then s.advance c (f ((s.core c).rounding rm)) else s.raise c 0x05 0 0 false)
/-- The word of an FOP instruction. -/
def fopWord (op : Nat) (rd ra rb : Fin 32) (dbl : Bool) (rm : Nat) : Nat := encR 0x30 rd ra rb (op * 2 ^ 4 + b2n dbl * 2 ^ 3 + rm)
/-- The frame of two f operands. -/
def State.fop2 (s : State) (c : Fin 24) (op : Nat) (rd ra rb : Fin 32) (dbl : Bool) (rm : Fin 8)
    (f : FloatFmt → Nat → Nat → Nat → Core → Core) : State :=
  s.fpIns c rm (fopWord op rd ra rb dbl rm) (fun m x => f (fmtOf dbl) m (x.fop dbl ra) (x.fop dbl rb) x)
/-- The frame of a fused multiply-add: op is the major opcode. -/
def State.fused (s : State) (c : Fin 24) (op : Nat) (rd ra rb rc : Fin 32) (dbl : Bool) (rm : Fin 8) (negRes negAdd : Bool) : State :=
  s.fpIns c rm (encF op rd ra rb rc rm (b2n dbl)) (fun m x =>
    x.toF rd ((fmtOf dbl).fma m (x.fop dbl ra) (x.fop dbl rb) (x.fop dbl rc) negRes negAdd))

/-- FADD (Table 04-8). -/
def execFadd (core : Fin 24) (rd ra rb : Fin 32) (dbl : Bool) (rm : Fin 8) (s : State) : Out :=
  .next (s.fop2 core 0 rd ra rb dbl rm (fun f m a b x => x.toF rd (f.add m a b)))
/-- FSUB (Table 04-8). -/
def execFsub (core : Fin 24) (rd ra rb : Fin 32) (dbl : Bool) (rm : Fin 8) (s : State) : Out :=
  .next (s.fop2 core 1 rd ra rb dbl rm (fun f m a b x => x.toF rd (f.sub m a b)))
/-- FMUL (Table 04-8). -/
def execFmul (core : Fin 24) (rd ra rb : Fin 32) (dbl : Bool) (rm : Fin 8) (s : State) : Out :=
  .next (s.fop2 core 2 rd ra rb dbl rm (fun f m a b x => x.toF rd (f.mul m a b)))
/-- FDIV (Table 04-8). -/
def execFdiv (core : Fin 24) (rd ra rb : Fin 32) (dbl : Bool) (rm : Fin 8) (s : State) : Out :=
  .next (s.fop2 core 3 rd ra rb dbl rm (fun f m a b x => x.toF rd (f.div m a b)))
/-- FMIN (Table 04-8). -/
def execFmin (core : Fin 24) (rd ra rb : Fin 32) (dbl : Bool) (rm : Fin 8) (s : State) : Out :=
  .next (s.fop2 core 5 rd ra rb dbl rm (fun f _ a b x => x.toF rd (f.minMax false a b)))
/-- FMAX (Table 04-8). -/
def execFmax (core : Fin 24) (rd ra rb : Fin 32) (dbl : Bool) (rm : Fin 8) (s : State) : Out :=
  .next (s.fop2 core 6 rd ra rb dbl rm (fun f _ a b x => x.toF rd (f.minMax true a b)))
/-- FSGNJ (Table 04-8). -/
def execFsgnj (core : Fin 24) (rd ra rb : Fin 32) (dbl : Bool) (rm : Fin 8) (s : State) : Out :=
  .next (s.fop2 core 7 rd ra rb dbl rm (fun f _ a b x => x.toF rd (f.signInject 0 a b, 0)))
/-- FSGNJN (Table 04-8). -/
def execFsgnjn (core : Fin 24) (rd ra rb : Fin 32) (dbl : Bool) (rm : Fin 8) (s : State) : Out :=
  .next (s.fop2 core 8 rd ra rb dbl rm (fun f _ a b x => x.toF rd (f.signInject 1 a b, 0)))
/-- FSGNJX (Table 04-8). -/
def execFsgnjx (core : Fin 24) (rd ra rb : Fin 32) (dbl : Bool) (rm : Fin 8) (s : State) : Out :=
  .next (s.fop2 core 9 rd ra rb dbl rm (fun f _ a b x => x.toF rd (f.signInject 2 a b, 0)))
/-- FEQ (Table 04-8). -/
def execFeq (core : Fin 24) (rd ra rb : Fin 32) (dbl : Bool) (rm : Fin 8) (s : State) : Out :=
  .next (s.fop2 core 10 rd ra rb dbl rm (fun f _ a b x => x.toG rd (f.compare 0 a b)))
/-- FLT (Table 04-8). -/
def execFlt (core : Fin 24) (rd ra rb : Fin 32) (dbl : Bool) (rm : Fin 8) (s : State) : Out :=
  .next (s.fop2 core 11 rd ra rb dbl rm (fun f _ a b x => x.toG rd (f.compare 1 a b)))
/-- FLE (Table 04-8). -/
def execFle (core : Fin 24) (rd ra rb : Fin 32) (dbl : Bool) (rm : Fin 8) (s : State) : Out :=
  .next (s.fop2 core 12 rd ra rb dbl rm (fun f _ a b x => x.toG rd (f.compare 2 a b)))
/-- FSQRT (Table 04-8). -/
def execFsqrt (core : Fin 24) (rd ra : Fin 32) (dbl : Bool) (rm : Fin 8) (s : State) : Out :=
  .next (s.fop2 core 4 rd ra 0 dbl rm (fun f m a _ x => x.toF rd (f.sqrt m a)))
/-- FCLASS (Table 04-8). -/
def execFclass (core : Fin 24) (rd ra : Fin 32) (dbl : Bool) (rm : Fin 8) (s : State) : Out :=
  .next (s.fop2 core 13 rd ra 0 dbl rm (fun f _ a _ x => x.toG rd (f.classify a, 0)))
/-- FCVT_F_I (Table 04-8). -/
def execFcvtFI (core : Fin 24) (rd ra : Fin 32) (dbl : Bool) (rm : Fin 8) (s : State) : Out :=
  .next (s.fop2 core 14 rd ra 0 dbl rm (fun f m _ _ x => x.toF rd (f.ofInt m (x.gr ra).toInt)))
/-- FCVT_F_IU (Table 04-8). -/
def execFcvtFIu (core : Fin 24) (rd ra : Fin 32) (dbl : Bool) (rm : Fin 8) (s : State) : Out :=
  .next (s.fop2 core 15 rd ra 0 dbl rm (fun f m _ _ x => x.toF rd (f.ofInt m (x.gr ra).toNat)))
/-- FCVT_I_F (Table 04-8). -/
def execFcvtIF (core : Fin 24) (rd ra : Fin 32) (dbl : Bool) (rm : Fin 8) (s : State) : Out :=
  .next (s.fop2 core 16 rd ra 0 dbl rm (fun f m a _ x => x.toG rd (f.toInt m true a)))
/-- FCVT_IU_F (Table 04-8). -/
def execFcvtIuF (core : Fin 24) (rd ra : Fin 32) (dbl : Bool) (rm : Fin 8) (s : State) : Out :=
  .next (s.fop2 core 17 rd ra 0 dbl rm (fun f m a _ x => x.toG rd (f.toInt m false a)))
/-- FCVT_P (Table 04-8). -/
def execFcvtP (core : Fin 24) (rd ra : Fin 32) (dbl : Bool) (rm : Fin 8) (s : State) : Out :=
  .next (s.fop2 core 18 rd ra 0 dbl rm (fun f m _ _ x => x.toF rd ((fmtOf (!dbl)).convert f m (x.fop (!dbl) ra))))
/-- FMV_I_F (Table 04-8). -/
def execFmvIF (core : Fin 24) (rd ra : Fin 32) (dbl : Bool) (rm : Fin 8) (s : State) : Out :=
  .next (s.fop2 core 19 rd ra 0 dbl rm (fun f _ a _ x => x.setG rd (extended (f.w / 8) a true)))
/-- FMV_F_I (Table 04-8). -/
def execFmvFI (core : Fin 24) (rd ra : Fin 32) (dbl : Bool) (rm : Fin 8) (s : State) : Out :=
  .next (s.fop2 core 20 rd ra 0 dbl rm (fun f _ _ _ x => x.setF rd (BitVec.ofNat 64 ((x.gr ra).toNat % 2 ^ f.w))))
/-- FMADD (Table 04-8). -/
def execFmadd (core : Fin 24) (rd ra rb rc : Fin 32) (dbl : Bool) (rm : Fin 8) (s : State) : Out :=
  .next (s.fused core 0x31 rd ra rb rc dbl rm false false)
/-- FMSUB (Table 04-8). -/
def execFmsub (core : Fin 24) (rd ra rb rc : Fin 32) (dbl : Bool) (rm : Fin 8) (s : State) : Out :=
  .next (s.fused core 0x32 rd ra rb rc dbl rm false true)
/-- FNMADD (Table 04-8). -/
def execFnmadd (core : Fin 24) (rd ra rb rc : Fin 32) (dbl : Bool) (rm : Fin 8) (s : State) : Out :=
  .next (s.fused core 0x33 rd ra rb rc dbl rm true false)
/-- FNMSUB (Table 04-8). -/
def execFnmsub (core : Fin 24) (rd ra rb rc : Fin 32) (dbl : Bool) (rm : Fin 8) (s : State) : Out :=
  .next (s.fused core 0x34 rd ra rb rc dbl rm true true)

end Sys2Proof.Machine
end

