-- ==== Sys2Proof/Machine/IblekSys.lean ====
section
/-!
DEFINITION. The system registers and system instructions of Iblek, interrupts and imprecise errors (R89 to R102; Tables 04-9 to
04-13).
-/
namespace Sys2Proof.Machine

/-! ## System registers (Table 04-9) -/

/-- Numbers at user level. -/
def srUser (n : Nat) : Bool := decide (n ≤ 4)
/-- A number listed in Table 04-9 and present on a kind of core. -/
def srPresent (k : CoreKind) (n : Nat) : Bool :=
  let listed := decide (n ≤ 4) || (decide (0x100 ≤ n) && decide (n ≤ 0x106)) || (decide (0x110 ≤ n) && decide (n ≤ 0x113)) ||
    (decide (0x118 ≤ n) && decide (n ≤ 0x11C))
  listed && (match k with
    | .control => true
    | .work => srUser n
    | .engine => decide (n ≤ 2)
    | .keeper => n != 3 && n != 0x106)
/-- The read-only registers: CORENUM, CYCLE, RETIRED, ROLE, IPEND0 to IPEND3, ICLAIM. -/
def srReadOnly (n : Nat) : Bool := decide (n ≤ 2) || n == 4 || (decide (0x118 ≤ n) && decide (n ≤ 0x11C))

/-- The bits of a register that a write changes; the others read 0 (R11). -/
def srMask (k : CoreKind) (n : Nat) : DWord :=
  match n with
  | 0x003 => 0xFF
  | 0x100 => if k = .control then 0x3F else 0x1F
  | 0x101 => ~~~(0xFFF : DWord)
  | 0x102 => ~~~(3 : DWord)
  | 0x103 => 0xC00000000000FFFF
  | 0x106 => 0xFFFF00FFFFFFF001
  | _ => BitVec.allOnes 64

/-- CYCLE: whole cycles of the core's own clock since its reset. Between two ticks the count lies at a free place within the tick's
cycles, never below what a read has shown (log entry 14). -/
def State.cycleNow (s : State) (c : Nat) : Nat :=
  if kindOf c = .engine then (s.engine (c - 20)).cycle else
  let x := s.core c
  max x.cycleSeen ((s.halfCycles c - x.cycle0 + Config.freeNat s.freeCtr % s.halfRate c) / 2)
/-- The value of a register. -/
def State.srValue (s : State) (c n : Nat) : DWord :=
  let x := s.core c
  match n with
  | 0x000 => BitVec.ofNat 64 c
  | 0x001 => BitVec.ofNat 64 (s.cycleNow c)
  | 0x002 => BitVec.ofNat 64 x.retired
  | 0x003 => x.fcsr
  | 0x004 => BitVec.ofNat 64 (s.role c)
  | 0x100 => x.status
  | 0x101 => x.evec
  | 0x102 => x.epc
  | 0x103 => x.ecause
  | 0x104 => x.eaddr
  | 0x105 => x.escratch
  | 0x106 => x.ptroot
  | 0x11C => match x.lowest with | some l => BitVec.ofNat 64 (2 ^ 63 + l) | none => 0
  | _ =>
    if n < 0x118 then (x.ien >>> (64 * (n - 0x110))).truncate 64 else (x.ipend >>> (64 * (n - 0x118))).truncate 64

/-- What a read takes with it: ICLAIM claims the line it returns, CYCLE takes its free value and is remembered. -/
def State.srRead (s : State) (c n : Nat) : State :=
  let x := s.core c
  if n = 0x11C then (match x.lowest with
    | some l => s.setCore c { x with ipend := x.ipend &&& ~~~(BitVec.ofNat 256 (2 ^ l)) }
    | none => s)
  else if n = 0x001 ∧ kindOf c ≠ .engine then (s.setCore c { x with cycleSeen := s.cycleNow c }).takeFree else s

/-- A register takes a value. -/
def Core.srWrite (x : Core) (k : CoreKind) (n : Nat) (v : DWord) : Core :=
  let w := v &&& srMask k n
  match n with
  | 0x003 => { x with fcsr := w }
  | 0x100 => { x with status := w }
  | 0x101 => { x with evec := w }
  | 0x102 => { x with epc := w }
  | 0x103 => { x with ecause := w }
  | 0x104 => { x with eaddr := w }
  | 0x105 => { x with escratch := w }
  | 0x106 => { x with ptroot := w }
  | 0x110 | 0x111 | 0x112 | 0x113 =>
    let sh := 64 * (n - 0x110)
    { x with ien := (x.ien &&& ~~~((BitVec.ofNat 256 (2 ^ 64 - 1)) <<< sh)) ||| (w.zeroExtend 256 <<< sh) }
  | _ => x

/-- The frame of SRSWAP, SRSET and SRCLR: presence, the level, a write of a nonzero value to a read-only register, FP disabled for
FCSR; then t := sr, sr := f t x, rd := t (Table 04-10). -/
def State.srIns (s : State) (c : Fin 24) (sub : Nat) (rd ra : Fin 32) (sr : BitVec 12) (f : DWord → DWord → DWord) : State :=
  let word := encI 0x2F rd ra (sub * 2 ^ 12 + sr.toNat)
  let k := kindOf c
  let n := sr.toNat
  s.ins c .base (srPresent k n && !(srReadOnly n && (s.core c).gr ra != 0)) word (fun s =>
    let x := s.core c
    if !srUser n && !x.sup then s.privileged c
    else if n = 3 && k == .control && !x.fpen then s.raise c 0x05 0 0 false
    else
      let t := s.srValue c n
      (s.srRead c n).advance c (fun y => (if srReadOnly n then y else y.srWrite k n (f t (x.gr ra))).setG rd t))

/-- SRSWAP (Table 04-10). -/
def execSrswap (core : Fin 24) (rd ra : Fin 32) (sr : BitVec 12) (s : State) : Out :=
  .next (s.srIns core 0 rd ra sr (fun _ x => x))
/-- SRSET (Table 04-10). -/
def execSrset (core : Fin 24) (rd ra : Fin 32) (sr : BitVec 12) (s : State) : Out :=
  .next (s.srIns core 1 rd ra sr (fun t x => t ||| x))
/-- SRCLR (Table 04-10). -/
def execSrclr (core : Fin 24) (rd ra : Fin 32) (sr : BitVec 12) (s : State) : Out :=
  .next (s.srIns core 2 rd ra sr (fun t x => t &&& ~~~x))

/-! ## System instructions (Table 04-10) -/

/-- The word of a system instruction without operands. -/
def sysWord (sub : Nat) : Nat := encI 0x2F 0 0 (sub * 2 ^ 12)
/-- The cause with which a slot engine halts on a system instruction that it lacks (R114). -/
def haltCause (sub : Nat) : Nat := if sub = 4 then 0x07 else 0x03
/-- The frame of an instruction that halts a slot engine and needs supervisor level where sup is true. -/
def State.sysIns (s : State) (c : Fin 24) (sub word : Nat) (sup : Bool) (body : State → State) : State :=
  s.ins c .base true word (fun s =>
    if kindOf c = .engine then s.raise c (haltCause sub) 0 word false
    else if sup && !(s.core c).sup then s.privileged c
    else body s)

/-- ECALL: the exception at the current level (Table 04-10). -/
def execEcall (core : Fin 24) (s : State) : Out :=
  .next (s.sysIns core 4 (sysWord 4) false (fun s => s.raise core (if (s.core core).sup then 0x07 else 0x06) 0 0 false))
/-- EBREAK: a debug halt, NOP on a slot engine, else its exception (R99). -/
def execEbreak (core : Fin 24) (s : State) : Out :=
  .next (s.ins core .base true (sysWord 5) (fun s =>
    if (s.core core).haltOnBreak then s.setCore core { s.core core with mode := .debug }
    else if kindOf core = .engine then s.advance core id
    else s.raise core 0x08 0 0 false))
/-- ERET (R95). -/
def execEret (core : Fin 24) (s : State) : Out :=
  .next (s.sysIns core 6 (sysWord 6) true (fun s => s.setCore core ((s.core core).eret (kindOf core == .keeper))))
/-- The interrupt of a core whose IE is 1 with a line both pending and enabled, taken before its next instruction (R96). -/
def Core.takeInterrupt (x : Core) : Core :=
  if x.ie then (match x.lowest with | some l => x.enter x.pc (intCause l) 0 (x.evec + 0x100) | none => x) else x
/-- WFI: the core stalls unless a line is both pending and enabled; an enabled interrupt is then taken before the next instruction
(R95). -/
def execWfi (core : Fin 24) (s : State) : Out :=
  .next (s.sysIns core 7 (sysWord 7) true (fun s =>
    let s1 := s.advance core id
    if (s.core core).wanted = 0 then s1.setCore core { s1.core core with mode := .wfi }
    else s1.setCore core (s1.core core).takeInterrupt))
/-- FENCE: a core of this model makes its accesses one after another, so nothing is left to order (R105). -/
def execFence (core : Fin 24) (pred succ : BitVec 4) (s : State) : Out :=
  .next (s.ins core .base true (encI 0x2F 0 0 (8 * 2 ^ 12 + pred.toNat * 2 ^ 4 + succ.toNat)) (fun s => s.advance core id))
/-- ISYNC: the next instruction is fetched anew, as every instruction of this model is (R107). -/
def execIsync (core : Fin 24) (s : State) : Out := .next (s.ins core .base true (sysWord 9) (fun s => s.advance core id))
/-- TLBINV (R102). -/
def execTlbinv (core : Fin 24) (asidReg ra : Fin 32) (scope : Fin 4) (s : State) : Out :=
  .next (s.sysIns core 10 (encI 0x2F asidReg ra (10 * 2 ^ 12 + scope.val)) true (fun s =>
    s.advance core (fun x =>
      { x with tlb := x.tlb.filter (fun e => !e.drops scope ((x.gr asidReg).toNat % 2 ^ 16) (x.gr ra).toNat) })))

/-! ## Interrupts and late errors (R94 to R96) -/

/-- INTERRUPT_ENTRY: a running core with IE and a line both pending and enabled is entered at EVEC + 0x100 (R96). -/
def execInterruptEntry (core : Fin 24) (s : State) : Out :=
  let x := s.core core
  .next (if !s.mayIssue core || kindOf core == .work || kindOf core == .engine || !x.ie then s else
    match x.lowest with
    | none => s
    | some l => s.setCore core (x.enter x.pc (intCause l) 0 (x.evec + 0x100)))
/-- WFI_RESUME: a line both pending and enabled ends the stall; with IE 1 the interrupt is taken before the next instruction
(R95). -/
def execWfiResume (core : Fin 24) (s : State) : Out :=
  let x := s.core core
  .next (if s.live core && x.mode == .wfi && x.wanted != 0 then s.setCore core ({ x with mode := .run } : Core).takeInterrupt else s)
/-- IMPRECISE_STORE_ERROR: the oldest failed store that has retired raises its error at the next instruction (R94); the operands
name it. -/
def execImpreciseStoreError (core : Fin 24) (addr : DWord) (status : Byte) (s : State) : Out :=
  let x := s.core core
  .next (if s.mayIssue core && x.badStores.head? == some (addr.toNat, status.toNat) then
    (s.setCore core { x with badStores := x.badStores.tail }).raise core 0x0E status.toNat addr.toNat true else s)

end Sys2Proof.Machine
end

