-- ==== Sys2Proof/Machine/KeeperCommands.lean ====
section
/-!
DEFINITION. The commands of the Keeper, its request slots and the passes (chapter 17).
-/
namespace Sys2Proof.Machine

/-! ## Watching the Keeper (R375 to R378, R396) -/

/-- LOCKSTEP_MISMATCH: the two halves differ (R375). -/
def execLockstepMismatch (s : State) : Out :=
  .next (s.snowplough 1)
/-- WATCHDOG_KICK: the Keeper writes KICK, PERIOD as it stands (R376). -/
def execWatchdogKick (s : State) : Out :=
  .next (s.busWrite 23 R.KPR_WDOG (BitVec.ofNat 32 (0x8000 + s.fld F.KPR_WDOG_PERIOD)))
/-- WATCHDOG_EXPIRY: a period without a kick (R376). -/
def execWatchdogExpiry (s : State) : Out :=
  .next (s.watchdogExpiry)
/-- DOORBELL_WRITE: a store to the mailbox's doorbell (R378). -/
def execDoorbellWrite (req : Fin 32) (value : DWord) (s : State) : Out :=
  .next (s.plainAccess ⟨req.val, 0x4000820FF8, 8, some value.toNat, 0, .plain, 0x4000820FF8⟩)
/-- DOORBELL_ACK: the Keeper acknowledges (R378). -/
def execDoorbellAck (s : State) : Out :=
  .next (s.busWrite 23 R.KPR_STAT 1)
/-- DOORBELL_TIMEOUT: no acknowledgement in 100 ms (R377). -/
def execDoorbellTimeout (s : State) : Out :=
  .next (s.doorbellTimeout)
/-- SNOWPLOUGH_WAIT_EXPIRY: the carrier has not acted in 10 s (R396). -/
def execSnowploughWaitExpiry (s : State) : Out :=
  .next (s.snowWait)
/-- CORE_DOUBLE_FAULT: a double-faulted control core is held (R395). -/
def execCoreDoubleFault (core : Fin 24) (s : State) : Out :=
  .next (s.coreDoubleFault core.val)
/-- ALL_CORES_HELD_EXPIRY: four held control cores for 1 s (R395). -/
def execAllCoresHeldExpiry (s : State) : Out :=
  .next (s.allHeldExpiry)
/-- KPR_HOLD_WRITE: the Keeper writes KPR_HOLD (R390). -/
def execKprHoldWrite (value : Word) (s : State) : Out :=
  .next (s.busWrite 23 R.KPR_HOLD value)
/-! ## The requests of Table 17-3 (R379, R380, R390 to R395) -/

/-- RESTART: a request slot of this OP is served (R395). -/
def execKprRestart (slot : Fin 32) (s : State) : Out :=
  .next (s.kServe slot.val 0x01)
/-- WORK_START: a request slot of this OP is served (R390). -/
def execWorkStart (slot : Fin 32) (s : State) : Out :=
  .next (s.kServe slot.val 0x02)
/-- WARM: a request slot of this OP is served (R391). -/
def execKprWarm (slot : Fin 32) (s : State) : Out :=
  .next (s.kServe slot.val 0x03)
/-- IMG_PAGES: a request slot of this OP is served (R379). -/
def execImgPages (slot : Fin 32) (s : State) : Out :=
  .next (s.kServe slot.val 0x10)
/-- IMG_ACTIVATE: a request slot of this OP is served (R392). -/
def execImgActivate (slot : Fin 32) (s : State) : Out :=
  .next (s.kServe slot.val 0x11)
/-- IMG_CONFIRM: a request slot of this OP is served (R392). -/
def execImgConfirm (slot : Fin 32) (s : State) : Out :=
  .next (s.kServe slot.val 0x12)
/-- KEY_LOADW: a request slot of this OP is served (R379). -/
def execKeyLoadw (slot : Fin 32) (s : State) : Out :=
  .next (s.kServe slot.val 0x20)
/-- KEY_TRANSPORT: a request slot of this OP is served (R379). -/
def execKeyTransport (slot : Fin 32) (s : State) : Out :=
  .next (s.kServe slot.val 0x21)
/-- KEY_CLEAR: a request slot of this OP is served (R379). -/
def execKeyClear (slot : Fin 32) (s : State) : Out :=
  .next (s.kServe slot.val 0x22)
/-- KEY_WRAP: a request slot of this OP is served (R379). -/
def execKeyWrap (slot : Fin 32) (s : State) : Out :=
  .next (s.kServe slot.val 0x23)
/-- AUTH_KEY: a request slot of this OP is served (R380). -/
def execAuthKey (slot : Fin 32) (s : State) : Out :=
  .next (s.kServe slot.val 0x30)
/-- REVOKE: a request slot of this OP is served (R379). -/
def execRevoke (slot : Fin 32) (s : State) : Out :=
  .next (s.kServe slot.val 0x31)
/-- REARM: a request slot of this OP is served (R327). -/
def execRearm (slot : Fin 32) (s : State) : Out :=
  .next (s.kServe slot.val 0x40)
/-- ALARM: a request slot of this OP is served (R325). -/
def execKprAlarm (slot : Fin 32) (s : State) : Out :=
  .next (s.kServe slot.val 0x41)
/-- CAL_SAVE: a request slot of this OP is served (R379). -/
def execCalSave (slot : Fin 32) (s : State) : Out :=
  .next (s.kServe slot.val 0x50)
/-! ## Passes, time and images (R381 to R383, R392) -/

/-- PASS_LOAD: OP 0b01 of PASS_CMD (R381). -/
def execPassLoad (req : Fin 32) (slot : Fin 8) (s : State) : Out :=
  .next (s.busWrite req.val R.PASS_CMD (BitVec.ofNat 32 (1 + 4 * slot.val)))
/-- PASS_VERIFY_DONE: the verifier finishes (R381). -/
def execPassVerifyDone (s : State) : Out :=
  .next (s.passVerify)
/-- PASS_RELEASE: OP 0b10 of PASS_CMD (R383). -/
def execPassRelease (req : Fin 32) (slot : Fin 8) (s : State) : Out :=
  .next (s.busWrite req.val R.PASS_CMD (BitVec.ofNat 32 (2 + 4 * slot.val)))
/-- PASS_SLOT_END: a pass ends (R383). -/
def execPassSlotEnd (slot : Fin 8) (s : State) : Out :=
  .next (s.passSlotEnd slot.val)
/-- TIME_FLOOR_WRITE: the time floor is written (R382). -/
def execTimeFloorWrite (s : State) : Out :=
  .next (s.floorWrite)
/-- TRIAL_REVERT: the trial is over (R392). -/
def execTrialRevert (s : State) : Out :=
  .next (s.trialRevert)

end Sys2Proof.Machine
end

