-- ==== Sys2Proof/Machine/LedgerCommands.lean ====
section
/-!
DEFINITION. The commands of the ledger (chapter 15).
-/
namespace Sys2Proof.Machine

/-! ## Granted commands (R338, R339, R351 to R355) -/

/-- STORE_READ: the ledger runs a granted command of OP 1 (R351). -/
def execStoreRead (s : State) : Out :=
  .next (s.ldgRun 1)
/-- STORE_WRITE: the ledger runs a granted command of OP 2 (R351). -/
def execStoreWrite (s : State) : Out :=
  .next (s.ldgRun 2)
/-- COLD_READ: the ledger runs a granted command of OP 3 (R351). -/
def execColdRead (s : State) : Out :=
  .next (s.ldgRun 3)
/-- COLD_WRITE: the ledger runs a granted command of OP 4 (R339). -/
def execColdWrite (s : State) : Out :=
  .next (s.ldgRun 4)
/-- CKPT: the ledger runs a granted command of OP 5 (R338). -/
def execCkpt (s : State) : Out :=
  .next (s.ldgRun 5)
/-- EXPORT: the ledger runs a granted command of OP 6 (R354). -/
def execExport (s : State) : Out :=
  .next (s.ldgRun 6)
/-- LEDGER_IMPORT: the ledger runs a granted command of OP 7 (R355). -/
def execLedgerImport (s : State) : Out :=
  .next (s.ldgRun 7)
/-- IMG_BEGIN: the ledger runs a granted command of OP 8 (R351). -/
def execImgBegin (s : State) : Out :=
  .next (s.ldgRun 8)
/-- IMG_WRITE: the ledger runs a granted command of OP 9 (R351). -/
def execImgWrite (s : State) : Out :=
  .next (s.ldgRun 9)
/-- IMG_READ: the ledger runs a granted command of OP 10 (R351). -/
def execImgRead (s : State) : Out :=
  .next (s.ldgRun 10)
/-- CAL_APPEND: the ledger runs a granted command of OP 11 (R352). -/
def execCalAppend (s : State) : Out :=
  .next (s.ldgRun 11)
/-- CAL_READ: the ledger runs a granted command of OP 12 (R351). -/
def execCalRead (s : State) : Out :=
  .next (s.ldgRun 12)
/-- AUD_APPEND: the ledger runs a granted command of OP 13 (R352). -/
def execAudAppend (s : State) : Out :=
  .next (s.ldgRun 13)
/-- AUD_READ: the ledger runs a granted command of OP 14 (R351). -/
def execAudRead (s : State) : Out :=
  .next (s.ldgRun 14)
/-- KWRITE: the ledger runs a granted command of OP 15 (R351). -/
def execKwrite (s : State) : Out :=
  .next (s.ldgRun 15)
/-- KREAD: the ledger runs a granted command of OP 16 (R351); module state found lost is told to the Keeper (Table 15-10). -/
def execKread (s : State) : Out :=
  .next (s.ldgRun 16).moduleLost
/-! ## The journal, the NAND and the MRAM (R331 to R349) -/

/-- JOURNAL_ENTRY_DURABLE: the oldest unsealed entry becomes durable (R333). -/
def execJournalEntryDurable (s : State) : Out :=
  .next (s.sealOldest)
/-- JOURNAL_APPLY: the next durable entry is applied (R334). -/
def execJournalApply (s : State) : Out :=
  .next (s.applyOne)
/-- CHECKPOINT: a scheduled checkpoint is written (R338). -/
def execCheckpoint (handle : BitVec 18) (s : State) : Out :=
  .next (s.runCkpt handle.toNat)
/-- NAND_PROGRAM_DONE: the oldest program ends, worst the corrected bits of its worst codeword (R331). -/
def execNandProgramDone (failed : Bool) (worst : Byte) (s : State) : Out :=
  .next (s.progDone failed worst.toNat)
/-- NAND_ERASE_DONE: an erase ends (R348). -/
def execNandEraseDone (block : BitVec 14) (failed : Bool) (s : State) : Out :=
  .next (s.eraseDone block.toNat failed)
/-- REBUILD_DONE: a rebuild finishes (R349). -/
def execRebuildDone (s : State) : Out :=
  .next (s.rebuildDone)
/-- GARBAGE_COLLECT: the block with the fewest valid pages is collected (R346). -/
def execGarbageCollect (s : State) : Out :=
  .next (s.collect)
/-- WEAR_LEVEL_MOVE: the least-erased block's data moves (R346). -/
def execWearLevelMove (s : State) : Out :=
  .next (s.levelWear)
/-- NAND_SCRUB: a valid page is read and relocated if needed (R347). -/
def execNandScrub (page : Word) (s : State) : Out :=
  .next (s.scrubPage page.toNat)
/-- MRAM_SCRUB: the groups are read and rewritten (R349); module state found lost is told to the Keeper (Table 15-10). -/
def execMramScrub (s : State) : Out :=
  .next (s.scrubMram).moduleLost
/-- HOLDUP_FLUSH: the hold-up flush (R343). -/
def execHoldupFlush (s : State) : Out :=
  .next (s.holdupFlush)

end Sys2Proof.Machine
end

