-- ==== Sys2Proof/Machine/LinkCommands.lean ====
section
/-!
DEFINITION. The commands of laps, slots, drift and links (chapters 08 and 09).
-/
namespace Sys2Proof.Machine

/-! ## Laps, guards and occurrences (R194 to R202) -/

/-- LAP_BOUNDARY: the lap line pulses (R194). -/
def execLapBoundary (radio : Fin 3) (s : State) : Out :=
  .next (s.lapPulse radio.val)
/-- GUARD_INSTANT: the guard instant of an occurrence (R200). -/
def execGuardInstant (radio : Fin 3) (entry : BitVec 14) (lap : Word) (s : State) : Out :=
  .next (s.takeGuard radio.val entry.toNat lap.toNat)
/-- OCCURRENCE_OFFER: an occurrence is offered (R201). -/
def execOccurrenceOffer (radio : Fin 3) (entry : BitVec 14) (lap : Word) (s : State) : Out :=
  .next (s.offerOcc radio.val entry.toNat lap.toNat)
/-- OCCURRENCE_SKIP: an occurrence is withdrawn (R202). -/
def execOccurrenceSkip (radio : Fin 3) (entry : BitVec 14) (lap : Word) (s : State) : Out :=
  .next (s.skipOcc radio.val entry.toNat lap.toNat)
/-! ## Table edits (R204) -/

/-- WRITE: OP 1 of ACC_EDIT_CMD (R204). -/
def execAccWrite (req : Fin 32) (radio : Fin 3) (active : Bool) (s : State) : Out :=
  .next (s.busWrite req.val (R.ACC_EDIT_CMD radio.val) (BitVec.ofNat 32 (1 + 8 * b2n active)))
/-- EDIT_READ: OP 2 of ACC_EDIT_CMD (R204). -/
def execEditRead (req : Fin 32) (radio : Fin 3) (active : Bool) (s : State) : Out :=
  .next (s.busWrite req.val (R.ACC_EDIT_CMD radio.val) (BitVec.ofNat 32 (2 + 8 * b2n active)))
/-- LOAD: OP 3 of ACC_EDIT_CMD (R204). -/
def execAccLoad (req : Fin 32) (radio : Fin 3) (active : Bool) (s : State) : Out :=
  .next (s.busWrite req.val (R.ACC_EDIT_CMD radio.val) (BitVec.ofNat 32 (3 + 8 * b2n active)))
/-- COPY: OP 4 of ACC_EDIT_CMD (R204). -/
def execAccCopy (req : Fin 32) (radio : Fin 3) (active : Bool) (s : State) : Out :=
  .next (s.busWrite req.val (R.ACC_EDIT_CMD radio.val) (BitVec.ofNat 32 (4 + 8 * b2n active)))
/-- ACC_EDIT_COMPLETE: a LOAD or COPY finishes (R204). -/
def execAccEditComplete (radio : Fin 3) (s : State) : Out :=
  .next (s.editDone radio.val)
/-! ## Contention (R210) -/

/-- CONTEND_WINDOW_OPEN: a window opens (R210). -/
def execContendWindowOpen (radio : Fin 3) (entry : BitVec 14) (lap : Word) (s : State) : Out :=
  .next (s.openWindow radio.val entry.toNat lap.toNat)
/-- CONTEND_ATTEMPT_COMPLETE: an attempt completes (R210). -/
def execContendAttemptComplete (radio : Fin 3) (queue : Fin 4) (s : State) : Out :=
  .next (s.attemptComplete radio.val queue.val)
/-- CONTEND_WINDOW_CLOSE: a window closes (R210). -/
def execContendWindowClose (radio : Fin 3) (queue : Fin 4) (s : State) : Out :=
  .next (s.closeWindow radio.val queue.val)
/-! ## The link unit (R214 to R229) -/

/-- LINK_HEADER_CLASSIFY: the oldest frame is classed (R215). -/
def execLinkHeaderClassify (s : State) : Out :=
  .next (s.classify)
/-- CONTEXT_FETCH_DONE: a context arrives from the MRAM (R214). -/
def execContextFetchDone (s : State) : Out :=
  .next (s.fetchDone)
/-- FRAME_ACCEPT: an authenticated frame is classed again (R217). -/
def execFrameAccept (s : State) : Out :=
  .next (s.frameAccept)
/-- ACK_OPPORTUNITY: an acknowledgement opportunity arrives (R221). -/
def execAckOpportunity (s : State) : Out :=
  .next (s.ackOpportunity)
/-- REGISTER: OP 1 of LNK_CMD (R229). -/
def execLnkRegister (req : Fin 32) (s : State) : Out :=
  .next (s.busWrite req.val R.LNK_CMD 1)
/-- UNREGISTER: OP 2 of LNK_CMD (R229). -/
def execUnregister (req : Fin 32) (s : State) : Out :=
  .next (s.busWrite req.val R.LNK_CMD 2)
/-- CONTEXT_READ: OP 3 of LNK_CMD (R229). -/
def execContextRead (req : Fin 32) (s : State) : Out :=
  .next (s.busWrite req.val R.LNK_CMD 3)
/-- SETCFG: OP 4 of LNK_CMD (R229). -/
def execSetcfg (req : Fin 32) (s : State) : Out :=
  .next (s.busWrite req.val R.LNK_CMD 4)
/-- RESETDRIFT: OP 5 of LNK_CMD (R229). -/
def execResetdrift (req : Fin 32) (s : State) : Out :=
  .next (s.busWrite req.val R.LNK_CMD 5)
/-- LNK_CMD_COMPLETE: a context command completes (R229). -/
def execLnkCmdComplete (s : State) : Out :=
  .next (s.ctxDone)
/-- DRL_LOST_READ: the oldest LOST handle (R227). -/
def execDrlLostRead (req : Fin 32) (s : State) : Out :=
  .next (s.busRead req.val R.DRL_LOST)

end Sys2Proof.Machine
end

