-- ==== Sys2Proof/Machine/PinCommands.lean ====
section
/-!
DEFINITION. The commands of the serial units, the pins and the debug port (chapter 18).
-/
namespace Sys2Proof.Machine

/-! ## Serial units and pins (R410, R411) -/

/-- SERIAL_START: OP 0b01 of PIN_SER_CMD (R410). -/
def execSerialStart (req : Fin 32) (unit : Fin 6) (s : State) : Out :=
  .next (s.busWrite req.val (R.PIN_SER_CMD unit.val) 1)
/-- SERIAL_ABORT: OP 0b10 of PIN_SER_CMD (R410). -/
def execSerialAbort (req : Fin 32) (unit : Fin 6) (s : State) : Out :=
  .next (s.busWrite req.val (R.PIN_SER_CMD unit.val) 2)
/-- SERIAL_COMPLETE: a transfer ends with the bytes received (R410). -/
def execSerialComplete (unit : Fin 6) (data : List Byte) (failed : Bool) (moved : BitVec 16) (s : State) : Out :=
  .next (s.serComplete unit.val data failed moved.toNat)
/-- UART_BYTE_RX: a byte arrives, with or without a stop bit (R411). -/
def execUartByteRx (unit : Fin 2) (byte : Byte) (stop : Bool) (s : State) : Out :=
  .next (s.uartRx unit.val byte stop)
/-- PIN_SER_RX_READ: PIN_SER_RX is read (R411). -/
def execPinSerRxRead (req : Fin 32) (unit : Fin 2) (s : State) : Out :=
  .next (s.busRead req.val (R.PIN_SER_RX unit.val))
/-- GPIO_SAMPLE: the levels of the GPIO pins (R411). -/
def execGpioSample (levels : Word) (s : State) : Out :=
  .next (s.gpioSample levels)
/-! ## The debug port (R412) -/

/-- EXTEST: EXTEST is selected, unless READY is high (R412). -/
def execExtest (s : State) : Out :=
  .next (s.extest)
/-- IDCODE: IDCODE is selected (R412). -/
def execIdcode (s : State) : Out :=
  .next (s.jtag 0x01)
/-- SAMPLE_PRELOAD: SAMPLE/PRELOAD is selected; cells are shifted in (R412). -/
def execSamplePreload (cells : Word) (s : State) : Out :=
  .next (s.samplePreload cells)
/-- BYPASS: BYPASS, or a code of no instruction, selects bypass (R412). -/
def execBypass (code : Byte) (s : State) : Out :=
  .next (s.bypass code)
/-- IBLEK_DEBUG: instruction 0x20 reaches a core (R412). -/
def execIblekDebug (core : Fin 24) (halt : Bool) (s : State) : Out :=
  .next (s.iblekDebug core.val halt)
/-- TEST_LOGIC_RESET: a test-logic reset selects IDCODE (R412). -/
def execTestLogicReset (s : State) : Out :=
  .next (s.jtag 0x01)

end Sys2Proof.Machine
end

