-- ==== Sys2Proof/Machine/PowerCommands.lean ====
section
/-!
DEFINITION. The commands of power, supply and monitors (chapter 16).
-/
namespace Sys2Proof.Machine

/-- A drained entry completes: a warm restart by its own rule; a power entry first asks the power die for its target's rails, and
completes once they are acknowledged (R358 step 4). -/
def State.completeEntry (s : State) : State :=
  match s.pwr.entry with
  | none => s
  | some e =>
    if s.drained e = false then s
    else if e.target = 5 then (s.warmDone e).detachNext
    else if e.rail = 2 then (s.entryDone e).detachNext
    else if e.rail = 1 then s
    else ((s.setPwr { s.pwr with entry := some { e with rail := 1 } }).supIssue 4 (16 + e.target) false).detachNext
/-- A drain that has run out: the entry is aborted back; a warm restart ends ABORTED. -/
def State.drainTimeout (s : State) : State :=
  match s.pwr.entry with
  | none => s
  | some e =>
    if e.drain ∧ s.drained e = false ∧ e.since + s.drainLimit ≤ s.clock then
      if e.target = 5 then (if e.by_ = 99 then s.entryOver else s.entryOver.kDone e.by_ .aborted).detachNext
      else (s.entryAbort (s.drainRefuser e).1 (s.drainRefuser e).2).detachNext
    else s

/-! ## Power requests and entries (R356 to R364) -/

/-- POWER_REQUEST_NOW: OP 0b01 of PWR_REQ (R356). -/
def execPowerRequestNow (req : Fin 32) (target : Fin 8) (s : State) : Out :=
  .next (s.busWrite req.val R.PWR_REQ (BitVec.ofNat 32 (0x10 + target.val)))
/-- POWER_REQUEST_AT: OP 0b10 of PWR_REQ (R356). -/
def execPowerRequestAt (req : Fin 32) (target : Fin 8) (s : State) : Out :=
  .next (s.busWrite req.val R.PWR_REQ (BitVec.ofNat 32 (0x20 + target.val)))
/-- POWER_REQUEST_CANCEL: OP 0b11 of PWR_REQ, TARGET as it stands (R356). -/
def execPowerRequestCancel (req : Fin 32) (s : State) : Out :=
  .next (s.busWrite req.val R.PWR_REQ (BitVec.ofNat 32 (0x30 + s.fld F.PWR_REQ_TARGET)))
/-- POWER_REQUEST_DUE: a pending request reaches its NT (R356). -/
def execPowerRequestDue (s : State) : Out :=
  .next (s.powerDue)
/-- POWER_ENTRY_COMPLETE: the drained entry completes (R358). -/
def execPowerEntryComplete (s : State) : Out :=
  .next (s.completeEntry)
/-- POWER_ENTRY_DRAIN_TIMEOUT: the drain has run out (R359). -/
def execPowerEntryDrainTimeout (s : State) : Out :=
  .next (s.drainTimeout)
/-- WAKE_REQUEST: a wake source (R364). -/
def execWakeRequest (source : Fin 6) (s : State) : Out :=
  .next (s.wakeRequest source.val)
/-! ## Operating points and the supply bus (R365 to R367) -/

/-- DVFS_CHANGE: the operating point changes (R365). -/
def execDvfsChange (s : State) : Out :=
  .next (s.dvfsChange)
/-- THERMAL_CAP_STEP: the thermal cap moves (R365). -/
def execThermalCapStep (s : State) : Out :=
  .next (s.capStep)
/-- SUPPLY_TRANSACTION_START: the next request starts (R367). -/
def execSupplyTransactionStart (s : State) : Out :=
  .next (s.supStart)
/-- SUPPLY_ACK: the request is acknowledged (R366). -/
def execSupplyAck (s : State) : Out :=
  .next (s.supAck)
/-- SUPPLY_NACK_RETRY: the request is NACKed (R367). -/
def execSupplyNackRetry (s : State) : Out :=
  .next (s.supNack)
/-- SUPPLY_TIMEOUT: no acknowledgement within 500 µs (R367). -/
def execSupplyTimeout (s : State) : Out :=
  .next (s.supTimeout)
/-! ## Input, hold-up and start (R368 to R372, R387) -/

/-- POWER_DIE_START: VIN has been at 8.8 V for 10 ms (R368). -/
def execPowerDieStart (s : State) : Out :=
  .next (s.dieStart)
/-- BANK_CHARGED: the bank reaches 45.0 V (R368). -/
def execBankCharged (s : State) : Out :=
  .next (s.bankCharged)
/-- INPUT_LOSS: the input is lost (R368). -/
def execInputLoss (s : State) : Out :=
  .next (s.inputLoss)
/-- INPUT_RETURN: the input is back (R368). -/
def execInputReturn (s : State) : Out :=
  .next (s.inputReturn)
/-- RIDE_EXPIRY: RIDE passes or the bank falls below 45.0 V (R368). -/
def execRideExpiry (bankLow : Bool) (s : State) : Out :=
  .next (s.rideExpiry bankLow)
/-- COLD_START: the module starts cold, by a first power-up (0), VIN restored (1) or ENABLE cycled (2) (R387). -/
def execColdStart (cause : Fin 3) (longLow : Bool) (s : State) : Out :=
  .next (s.coldStart cause.val longLow)
/-- ENABLE_LOW: an acting low on ENABLE (R371). -/
def execEnableLow (s : State) : Out :=
  .next (s.enableLow)
/-- DETACH_REQUEST: an acting low on DETACH_REQ# (R372). -/
def execDetachRequest (s : State) : Out :=
  .next (s.detachRequest)
/-- DETACH_GO: GO is written (R372). -/
def execDetachGo (req : Fin 32) (s : State) : Out :=
  .next (s.busWrite req.val R.PWR_DETACH 1)
/-- DETACH_WAIT_EXPIRY: DETACH_WAIT has passed (R372). -/
def execDetachWaitExpiry (s : State) : Out :=
  .next (s.detachExpiry)
/-- DETACH_CANCEL: DETACH_REQ# is high again (R372). -/
def execDetachCancel (s : State) : Out :=
  .next (s.detachCancel)
/-! ## Monitors (R374) -/

/-- MONITOR_SAMPLE: a temperature (0), voltage (1) or process (2) sample (R374). -/
def execMonitorSample (kind : Fin 3) (index : Byte) (value : BitVec 16) (s : State) : Out :=
  .next (s.monitorSample kind.val index.toNat value)

end Sys2Proof.Machine
end

