-- ==== Sys2Proof/Machine/QueueCommands.lean ====
section
/-!
DEFINITION. The commands of memory, reception queues, locks and the arbiter (chapters 12 and 13).
-/
namespace Sys2Proof.Machine

/-- A store to a window of the scratchpad's bit operations. -/
def State.bitStore (s : State) (req base : Nat) (off : BitVec 23) (size : Nat) (v : DWord) : State :=
  s.plainAccess ⟨req, base + off.toNat, 2 ^ size, some (v.toNat % 2 ^ (8 * 2 ^ size)), 0, .plain, base + off.toNat⟩
/-- A sentinel sweep, when the temperature calls for one. -/
def State.sweepIfDue (s : State) (ch : Nat) (shift : Int) : State :=
  if s.sweepDue ch then (s.sentinelSweep ch shift).sweepFor ch (300 * usU) (300 * usU + 2 ^ 64 - 1) else s

/-! ## Memory (R276, R278, R290, R291) -/

/-- BIT_SET_STORE: a store of 2^size bytes to the bit-set window (R276). -/
def execBitSetStore (req : Fin 32) (off : BitVec 23) (size : Fin 4) (value : DWord) (s : State) : Out :=
  .next (s.bitStore req.val 0x4100000000 off size.val value)
/-- BIT_CLEAR_STORE: a store of 2^size bytes to the bit-clear window (R276). -/
def execBitClearStore (req : Fin 32) (off : BitVec 23) (size : Fin 4) (value : DWord) (s : State) : Out :=
  .next (s.bitStore req.val 0x4200000000 off size.val value)
/-- PATROL_REGION: one region; bad is a failing word of it (R278). -/
def execPatrolRegion (bad : Option Word) (redirected : Bool) (s : State) : Out :=
  .next (s.patrolStep (bad.map (fun v => v.toNat)) redirected)
/-- DRAM_REFRESH: a bank's refresh falls due (R290). -/
def execDramRefresh (bank : Byte) (busy : Bool) (s : State) : Out :=
  .next (s.refreshBank bank.toNat busy)
/-- SENTINEL_SWEEP: a sweep, with the shift found in 1/64 UI (R291). -/
def execSentinelSweep (ch : Fin 2) (shift : Byte) (s : State) : Out :=
  .next (s.sweepIfDue ch.val shift.toInt)
/-! ## Reception queues (R284, R286, R287) -/

/-- RECORD_COMMIT: the next finished record is committed (R284). -/
def execRecordCommit (s : State) : Out :=
  .next (s.commitNext)
/-- RQ_POP: RQ_POP_LO is read (R286). -/
def execRqPop (req : Fin 32) (queue : Fin 64) (s : State) : Out :=
  .next (s.busRead req.val (R.RQ_POP_LO queue.val))
/-- RQ_READ_WRITE: READ is written (R286). -/
def execRqReadWrite (req : Fin 32) (queue : Fin 64) (value : BitVec 16) (s : State) : Out :=
  .next (s.busWrite req.val (R.RQ_PTR_A queue.val) (BitVec.ofNat 32 (65536 * value.toNat)))
/-- MARK: OP 1 of RQ_CMD (R286). -/
def execRqMark (req : Fin 32) (queue : Fin 64) (s : State) : Out :=
  .next (s.busWrite req.val (R.RQ_CMD queue.val) 1)
/-- REWIND: OP 2 of RQ_CMD (R286). -/
def execRewind (req : Fin 32) (queue : Fin 64) (s : State) : Out :=
  .next (s.busWrite req.val (R.RQ_CMD queue.val) 2)
/-- RELEASE: OP 3 of RQ_CMD (R286). -/
def execRelease (req : Fin 32) (queue : Fin 64) (s : State) : Out :=
  .next (s.busWrite req.val (R.RQ_CMD queue.val) 3)
/-- QUEUE_ENABLE: RQ_CFG is written with EN 1 (R287). -/
def execQueueEnable (req : Fin 32) (queue : Fin 64) (cfg : Word) (s : State) : Out :=
  .next (s.busWrite req.val (R.RQ_CFG queue.val) (setBits cfg 31 31 1))
/-- QUEUE_DISABLE: RQ_CFG is written as it stands with EN 0 (R287). -/
def execQueueDisable (req : Fin 32) (queue : Fin 64) (s : State) : Out :=
  .next (s.busWrite req.val (R.RQ_CFG queue.val) (setBits (s.reg (R.RQ_CFG queue.val)) 31 31 0))
/-- QUEUE_DRAIN_END: a draining queue holds no record (R287). -/
def execQueueDrainEnd (queue : Fin 64) (s : State) : Out :=
  .next (s.queueDrained queue.val)
/-- POOL_ENABLE: RQ_POOL_CFG is written with EN 1 (R287). -/
def execPoolEnable (req : Fin 32) (pool : Fin 16) (cfg : Word) (s : State) : Out :=
  .next (s.busWrite req.val (R.RQ_POOL_CFG pool.val) (setBits cfg 31 31 1))
/-- POOL_DISABLE: RQ_POOL_CFG is written as it stands with EN 0 (R287). -/
def execPoolDisable (req : Fin 32) (pool : Fin 16) (s : State) : Out :=
  .next (s.busWrite req.val (R.RQ_POOL_CFG pool.val) (setBits (s.reg (R.RQ_POOL_CFG pool.val)) 31 31 0))
/-- POOL_DRAIN_END: no record holds a buffer of the pool (R287). -/
def execPoolDrainEnd (pool : Fin 16) (s : State) : Out :=
  .next (s.poolDrained pool.val)
/-- POOL_STASH_READ: RQ_POOL_STASH is read (R287). -/
def execPoolStashRead (req : Fin 32) (pool : Fin 16) (s : State) : Out :=
  .next (s.busRead req.val (R.RQ_POOL_STASH pool.val))
/-! ## Locks and the arbiter (R302 to R307) -/

/-- LCK_FORCE_RELEASE: LCK_FORCE is written (R302). -/
def execLckForceRelease (req : Fin 32) (value : Word) (s : State) : Out :=
  .next (s.busWrite req.val R.LCK_FORCE value)
/-- ARBITER_GRANT: an engine is granted its next request (R304). -/
def execArbiterGrant (engine : Fin 3) (s : State) : Out :=
  .next (s.arbiterGrant engine.val)
/-- BACKOFF_EXPIRY: a returned request becomes eligible again (R305). -/
def execBackoffExpiry (s : State) : Out :=
  .next (s.backoffOver)
/-- SERVICE_COMPLETION: an engine completes a command (R306). -/
def execServiceCompletion (engine : Fin 3) (s : State) : Out :=
  .next (s.serviceDone engine.val)
/-- SEQUENCE_CUT_OFF: a locked sequence reaches its limit (R307). -/
def execSequenceCutOff (engine : Fin 3) (s : State) : Out :=
  .next (s.cutOffNow engine.val)
/-- SEQUENCE_BREAK: ARB_CFG is written as it stands with BREAK 1 (R307). -/
def execSequenceBreak (req : Fin 32) (s : State) : Out :=
  .next (s.busWrite req.val R.ARB_CFG (setBits (s.reg R.ARB_CFG) 31 31 1))

end Sys2Proof.Machine
end

