-- ==== Sys2Proof/Machine/RadioCommands.lean ====
section
/-!
DEFINITION. The commands of the radios and of reception (chapters 06 and 07).
-/
namespace Sys2Proof.Machine

/-- The checks of a TX made before its port time, when they are due, after those of the module that come before (R146). -/
def State.txCheckDue (s : State) (r k : Nat) : State :=
  match s.checkDue r k with
  | some c => s.checksUpTo none c.port (4 * r + k)
  | none => s
/-- The lock check of a command, when it is due. -/
def State.lockCheckDue (s : State) (r k : Nat) : State :=
  match s.lockDue r k with
  | some c => s.lockCheck r k c
  | none => s

/-! ## Commands and actions of a chain (R127, R129, R140 to R163) -/

/-- ABORT_EFFECT: ABORT takes effect (R129). -/
def execAbortEffect (radio : Fin 3) (chain : Fin 4) (s : State) : Out :=
  .next ((s.abortEffect radio.val chain.val).settleMisses)
/-- QUEUED_COMMAND_BEGIN: a command's port time has come (R127). -/
def execQueuedCommandBegin (radio : Fin 3) (chain : Fin 4) (s : State) : Out :=
  .next ((s.beginQueued radio.val chain.val).settleMisses)
/-- TX_LAST_BIT: the last bit leaves the port (R161). -/
def execTxLastBit (radio : Fin 3) (chain : Fin 4) (s : State) : Out :=
  .next ((s.txLastBit radio.val chain.val).settleMisses)
/-- RX_WINDOW_CLOSE: a window closes (R170). -/
def execRxWindowClose (radio : Fin 3) (chain : Fin 4) (s : State) : Out :=
  .next ((s.rxClose radio.val chain.val).settleMisses)
/-- CCA_END: a CCA window ends with the peak measured (R163). -/
def execCcaEnd (radio : Fin 3) (chain : Fin 4) (peak : BitVec 16) (s : State) : Out :=
  .next ((s.ccaEnd radio.val chain.val peak.toInt).settleMisses)
/-- CAL_STEP_END: a calibration step ends with the trim found (R147). -/
def execCalStepEnd (radio : Fin 3) (chain : Fin 4) (trim : Word) (s : State) : Out :=
  .next ((s.calEnd radio.val chain.val trim.toNat).settleMisses)
/-- FEM_SEQUENCE_END: the last entry of a sequence ends (R152). -/
def execFemSequenceEnd (radio : Fin 3) (s : State) : Out :=
  .next (s.femEnd radio.val)
/-- FEM_AUTO_SEQUENCE: an automatic sequence starts (R153). -/
def execFemAutoSequence (radio : Fin 3) (port : Fin 4) (kind : Fin 4) (s : State) : Out :=
  .next (s.femStart radio.val port.val kind.val)
/-- SYNTH_MOVE_START: a synthesiser starts to move (R142). -/
def execSynthMoveStart (radio : Fin 3) (chain : Fin 4) (s : State) : Out :=
  .next ((s.synthMove radio.val chain.val).settleMisses)
/-- SYNTH_LOCK: a synthesiser reports lock (R142). -/
def execSynthLock (radio : Fin 3) (chain : Fin 4) (s : State) : Out :=
  .next ((s.synthLock radio.val chain.val).settleMisses)
/-- TX_REGULATORY_CHECK: the checks at P − 50 µs (R145). -/
def execTxRegulatoryCheck (radio : Fin 3) (chain : Fin 4) (s : State) : Out :=
  .next ((s.txCheckDue radio.val chain.val).settleMisses)
/-- LOCK_CHECK: the lock check at P − 30 µs (R143). -/
def execLockCheck (radio : Fin 3) (chain : Fin 4) (s : State) : Out :=
  .next ((s.lockCheckDue radio.val chain.val).settleMisses)
/-- LBT_DECISION: the decision at P − 24 µs with the peak measured (R163). -/
def execLbtDecision (radio : Fin 3) (chain : Fin 4) (peak : BitVec 16) (s : State) : Out :=
  .next ((s.lbtDecide radio.val chain.val peak.toInt).settleMisses)
/-- TRANSMIT_PATH_BEGIN: the compensated transmit path begins (R145). -/
def execTransmitPathBegin (radio : Fin 3) (chain : Fin 4) (s : State) : Out :=
  .next ((s.transmitPath radio.val chain.val).settleMisses)
/-- LISTEN_RESUME: a suspended LISTEN resumes (R140). -/
def execListenResume (radio : Fin 3) (chain : Fin 4) (s : State) : Out :=
  .next ((s.listenResume radio.val chain.val).settleMisses)
/-- CAL_SET_APPLY: a swapped calibration set is applied at a gap (R150). -/
def execCalSetApply (radio : Fin 3) (chain : Fin 4) (s : State) : Out :=
  .next ((s.calApply radio.val chain.val).settleMisses)
/-- CAL_GAP_TIMEOUT: no gap for 1 s (R150). -/
def execCalGapTimeout (radio : Fin 3) (chain : Fin 4) (s : State) : Out :=
  .next ((s.calTimeout radio.val chain.val).settleMisses)
/-! ## Regulation (R159, R162) -/

/-- REG_REGION_WRITE: REG_REGION is written (R159). -/
def execRegRegionWrite (req : Fin 32) (value : Word) (s : State) : Out :=
  .next (s.busWrite req.val R.REG_REGION value)
/-- METER_RECOMPUTE_DONE: the meters are recomputed (R159). -/
def execMeterRecomputeDone (s : State) : Out :=
  .next (s.recomputeDone)
/-- DUTY_RECORD_EXPIRE: the oldest record leaves the ring (R162). -/
def execDutyRecordExpire (s : State) : Out :=
  .next (s.expireDuty)
/-! ## Reception (R171, R182 to R184, R188, R193) -/

/-- PREAMBLE_DETECT: a detector finds a preamble of a mode about a frequency, begun agoNs before (R171). -/
def execPreambleDetect (radio : Fin 3) (chain : Fin 4) (mode : Byte) (centre : BitVec 40) (snr : Word) (rssi : Word) (agoNs : Word) (s : State) : Out :=
  .next ((s.preamble radio.val chain.val mode.toNat centre.toNat snr.toInt rssi.toInt agoNs.toNat).settleMisses)
/-- SYNC_FOUND: a lane finds the sync word (R184). -/
def execSyncFound (radio : Fin 3) (lane : Byte) (phase : BitVec 16) (s : State) : Out :=
  .next (s.syncFound radio.val lane.toNat phase.toNat)
/-- SYNC_TIMEOUT: no sync in time (R183). -/
def execSyncTimeout (radio : Fin 3) (lane : Byte) (s : State) : Out :=
  .next (s.syncTimeout radio.val lane.toNat)
/-- HEADER_DECODED: a header of these bits (R182); where the frame's PHY header stands already, its PSDU's first six octets, which
hold the SID (R283). -/
def execHeaderDecoded (radio : Fin 3) (lane : Byte) (bits : BitVec 48) (s : State) : Out :=
  .next (s.headerDecoded radio.val lane.toNat bits.toNat)
/-- FRAME_END: the frame's last bit, with its octets and what was measured (R183). -/
def execFrameEnd (radio : Fin 3) (lane : Byte) (psdu : List Byte) (rx : RxMeta) (s : State) : Out :=
  .next ((s.frameEnd radio.val lane.toNat psdu rx).settleMisses)
/-- CAPTURE_SPAN_END: a capture span ends with its samples (R188). -/
def execCaptureSpanEnd (rx : RxMeta) (samples : List (BitVec 16)) (s : State) : Out :=
  .next (s.capEnd rx (samples.map (fun v => v.toInt)))
/-- EXPAND: a record's samples are restored (R193). -/
def execExpand (s : State) : Out :=
  .next (s.capService 1)
/-- CAPTURE_RELEASE: records up to REC are freed (R193). -/
def execCaptureRelease (s : State) : Out :=
  .next (s.capService 2)

end Sys2Proof.Machine
end

