-- ==== Sys2Proof/Machine/RouterCommands.lean ====
section
/-!
DEFINITION. The commands of the router, the traffic manager and the Ethernet and host ports (chapters 10 and 11).
-/
namespace Sys2Proof.Machine

/-- A frame reaches the wake detector: a match is recorded and the Keeper gets a wake request (R270). -/
def State.wakeFrame (s : State) (f : List Byte) : State :=
  match s.wakeMatch f with
  | some n => ((s.setFld (F.EMAC_WAKE_STAT_VALID 0) 1).setFld (F.EMAC_WAKE_STAT_PATTERN 0) n).wakeRequest 0
  | none => s
/-- A port chooses, with the descriptor that host memory holds next for a receive ring (none where it is empty). -/
def State.chooseWith (s : State) (port ring : Nat) (desc : List Byte) : State :=
  (if desc.isEmpty then s else s.hostDesc ring desc).portChoice port

/-! ## Passes and versions (R231 to R250) -/

/-- PARSER_ACCEPT: a pass starts (R231). -/
def execParserAccept (s : State) : Out :=
  .next (s.parserAccept)
/-- INJECTION_SERVE: an injection ring's head descriptor is served (R233). -/
def execInjectionServe (s : State) : Out :=
  .next (s.injectionTurn)
/-- PASS_END: the oldest pass ends (R243). -/
def execPassEnd (s : State) : Out :=
  .next (s.passEnd)
/-- VERSION_RETIRE: a version retires (R246). -/
def execVersionRetire (s : State) : Out :=
  .next (s.retireVersion)
/-- SWEEP_DONE: a sweep finishes (R247). -/
def execSweepDone (s : State) : Out :=
  .next (s.sweepDone)
/-- ADD_ENTRY: OP 1 of RTR_EDIT_CMD (R248). -/
def execAddEntry (req : Fin 32) (s : State) : Out :=
  .next (s.busWrite req.val R.RTR_EDIT_CMD 1)
/-- DEL: OP 2 of RTR_EDIT_CMD (R248). -/
def execRtrDel (req : Fin 32) (s : State) : Out :=
  .next (s.busWrite req.val R.RTR_EDIT_CMD 2)
/-- SETDEF: OP 3 of RTR_EDIT_CMD (R248). -/
def execSetdef (req : Fin 32) (s : State) : Out :=
  .next (s.busWrite req.val R.RTR_EDIT_CMD 3)
/-- ROUTER_READ: OP 4 of RTR_EDIT_CMD (R248). -/
def execRouterRead (req : Fin 32) (s : State) : Out :=
  .next (s.busWrite req.val R.RTR_EDIT_CMD 4)
/-- ROUTER_EDIT_COMPLETE: an edit finishes (R248). -/
def execRouterEditComplete (s : State) : Out :=
  .next (s.rtrEditDone)
/-- COMMIT_NOW: OP 0b01 of RTR_COMMIT_CMD (R250). -/
def execCommitNow (req : Fin 32) (s : State) : Out :=
  .next (s.busWrite req.val R.RTR_COMMIT_CMD 1)
/-- COMMIT_AT_NT: OP 0b10 of RTR_COMMIT_CMD (R250). -/
def execCommitAtNt (req : Fin 32) (s : State) : Out :=
  .next (s.busWrite req.val R.RTR_COMMIT_CMD 2)
/-- COMMIT_CANCEL: OP 0b11 of RTR_COMMIT_CMD (R250). -/
def execCommitCancel (req : Fin 32) (s : State) : Out :=
  .next (s.busWrite req.val R.RTR_COMMIT_CMD 3)
/-- COMMIT_TAKE_EFFECT: a pending commit reaches its tick (R250). -/
def execCommitTakeEffect (s : State) : Out :=
  .next (s.commitDue)
/-! ## The traffic manager (R256 to R264) -/

/-- PORT_TRANSMIT_CHOICE: a port takes its next frame; desc is the next descriptor of a host receive ring (R256). -/
def execPortTransmitChoice (port : Fin 7) (ring : Fin 4) (desc : List Byte) (s : State) : Out :=
  .next (s.chooseWith port.val ring.val desc)
/-- WHEEL_ADVANCE: the timing wheel advances (R259). -/
def execWheelAdvance (s : State) : Out :=
  .next (s.wheelAdvance)
/-- GATE_CHANGE: a gate changes (R260). -/
def execGateChange (port : Fin 7) (s : State) : Out :=
  .next (s.gateChange port.val)
/-- SLALOM_LIST_START: a swapped list starts (R262). -/
def execSlalomListStart (port : Fin 7) (s : State) : Out :=
  .next (s.slalomStart port.val)
/-- SAMPLE_SWEEP: a sweep of samples (R264). -/
def execSampleSweep (s : State) : Out :=
  .next (s.sampleSweep)
/-- TM_GATE_ACCESS: an entry of a list is stored or read (R260). -/
def execTmGateAccess (req : Fin 32) (write : Option Word) (s : State) : Out :=
  .next (s.busAccess req.val R.TM_GATE_HI write)
/-! ## Ethernet and host ports (R266 to R272) -/

/-- TQ0_LAUNCH: a timed frame's preamble begins (R267). -/
def execTq0Launch (port : Fin 6) (s : State) : Out :=
  .next (s.tq0Launch port.val)
/-- ETH_FRAME_TX_END: a frame's last bit leaves (R266). -/
def execEthFrameTxEnd (port : Fin 6) (s : State) : Out :=
  .next (s.txEnd port.val)
/-- ETH_FRAME_RX: a frame has arrived, its start delimiter ago ticks before (R268). -/
def execEthFrameRx (port : Fin 6) (frame : List Byte) (codeErr : Bool) (ago : Word) (s : State) : Out :=
  .next (s.ethRx port.val frame codeErr ago.toNat)
/-- LINK_STATE_CHANGE: a link changes state (R269). -/
def execLinkStateChange (link : Fin 7) (up : Bool) (an : Bool) (lock : Bool) (width : Byte) (speed : Byte) (s : State) : Out :=
  .next (s.linkChange link.val up an lock width.toNat speed.toNat)
/-- WAKE_PATTERN_MATCH: a frame at the wake detector (R270). -/
def execWakePatternMatch (frame : List Byte) (s : State) : Out :=
  .next (s.wakeFrame frame)
/-- HOST_TX_SERVE: a host transmit descriptor is served with its frame (R272). -/
def execHostTxServe (desc : List Byte) (frame : List Byte) (s : State) : Out :=
  .next (s.hostServe desc frame)
/-- PCIE_DOORBELL: PCIE_DOORBELL is written (R272). -/
def execPcieDoorbell (req : Fin 32) (value : Word) (s : State) : Out :=
  .next (s.busWrite req.val R.PCIE_DOORBELL value)

end Sys2Proof.Machine
end

