-- ==== Sys2Proof/Machine/TimeCommands.lean ====
section
/-!
DEFINITION. The commands of network time (chapter 03) and the windows of the slot engines (R130 to R132).
-/
namespace Sys2Proof.Machine

/-! ## Steering, marks and references (R56 to R64) -/

/-- SLEW_END: the offset has reached 0 (R64). -/
def execSlewEnd (s : State) : Out :=
  .next (s.slewEnd)
/-- NT_INCR_WRITE: the whole increment is applied (R56). -/
def execNtIncrWrite (req : Fin 32) (dom : Fin 2) (hi : Word) (s : State) : Out :=
  .next (s.busWrite req.val (R.NT_INCR_HI dom.val) hi)
/-- MARK_COARSE: MARK_COARSE 1, with or without MARK_FINE (R58). -/
def execMarkCoarse (req : Fin 32) (dom : Fin 2) (holdover : Bool) (fine : Bool) (s : State) : Out :=
  .next (s.busWrite req.val (R.NT_CTL dom.val) (BitVec.ofNat 32 (2 + 4 * b2n holdover + b2n fine)))
/-- MARK_FINE: MARK_FINE alone (R58). -/
def execMarkFine (req : Fin 32) (dom : Fin 2) (holdover : Bool) (s : State) : Out :=
  .next (s.busWrite req.val (R.NT_CTL dom.val) (BitVec.ofNat 32 (1 + 4 * b2n holdover)))
/-- REF_SRC_WRITE: the source of the time PLL (R57). -/
def execRefSrcWrite (req : Fin 32) (src : Fin 4) (s : State) : Out :=
  .next (s.busWrite req.val R.TSEL_REF (BitVec.ofNat 32 src.val))
/-- REF_LOST: four REF10 edges are missing (R57). -/
def execRefLost (s : State) : Out :=
  .next (s.refLost)
/-- REF_RETURN: REF10 has been present for 10 s (R57). -/
def execRefReturn (s : State) : Out :=
  .next (s.refReturn)
/-- REF10_ARRIVAL: REF10 becomes present (R57). -/
def execRef10Arrival (s : State) : Out :=
  .next (s.refArrive)
/-- NT_STEP: OP 0b01 of NT_ADJ_CMD (R59). -/
def execNtStep (req : Fin 32) (dom : Fin 2) (force : Bool) (s : State) : Out :=
  .next (s.busWrite req.val (R.NT_ADJ_CMD dom.val) (BitVec.ofNat 32 (1 + 4 * b2n force)))
/-- NT_LOAD: OP 0b10 of NT_ADJ_CMD (R59). -/
def execNtLoad (req : Fin 32) (dom : Fin 2) (force : Bool) (s : State) : Out :=
  .next (s.busWrite req.val (R.NT_ADJ_CMD dom.val) (BitVec.ofNat 32 (2 + 4 * b2n force)))
/-- TSEL_SWITCH: SEL is written, the rest of TSEL_CTL as it stands (R63). -/
def execTselSwitch (req : Fin 32) (sel : Fin 2) (s : State) : Out :=
  .next (s.busWrite req.val R.TSEL_CTL (setBits (s.reg R.TSEL_CTL) 0 0 sel.val))
/-! ## Capture, time of day and pulse outputs (R66 to R70) -/

/-- CAPTURE_EDGE: an edge on a capture input (R66). -/
def execCaptureEdge (input : Fin 5) (falling : Bool) (phase : BitVec 16) (s : State) : Out :=
  .next (s.captureEdge input.val falling phase.toNat)
/-- TOD_BYTE_RX: a byte of a TOD UART, its start bit falling phase/65,536 of a tick after the tick's NT (R67). -/
def execTodByteRx (rx : Fin 2) (byte : Byte) (phase : BitVec 16) (s : State) : Out :=
  .next (s.todByte rx.val byte phase.toNat)
/-- TOD_DATA_READ: the oldest byte is read (R67). -/
def execTodDataRead (req : Fin 32) (rx : Fin 2) (s : State) : Out :=
  .next (s.busRead req.val (R.NT_TOD_DATA 0 rx.val))
/-- PPS_OUT_EDGE: a pulse starts (R69). -/
def execPpsOutEdge (out : Fin 2) (s : State) : Out :=
  .next (s.ppsEdge out.val)
/-- PPS_PULSE_END: a pulse ends (R69). -/
def execPpsPulseEnd (out : Fin 2) (s : State) : Out :=
  .next (s.ppsEnd out.val)
/-- TSYNC_FRAME_SEND: a TSYNC frame goes out (R70). -/
def execTsyncFrameSend (s : State) : Out :=
  .next (s.tsyncSend)
/-- TSYNC_FRAME_RX: a decoded TSYNC frame (R70). -/
def execTsyncFrameRx (bits : BitVec 80) (s : State) : Out :=
  .next (s.tsyncRx bits)
/-! ## The windows of a slot engine (R130 to R132) -/

/-- SE_LM_DATA_ACCESS: a word of the local memory (R130). -/
def execSeLmDataAccess (req : Fin 32) (eng : Fin 3) (write : Option Word) (s : State) : Out :=
  .next (s.busAccess req.val (R.SE_LM_DATA eng.val) write)
/-- SE_POST: the value is appended to the post queue (R131). -/
def execSePost (req : Fin 32) (eng : Fin 3) (hi : Word) (s : State) : Out :=
  .next (s.busWrite req.val (R.SE_POST_HI eng.val) hi)
/-- SE_POP: the oldest value (R131). -/
def execSePop (req : Fin 32) (eng : Fin 3) (s : State) : Out :=
  .next (s.busRead req.val (R.SE_POP_LO eng.val))
/-- SE_EVPOST: an event line is pulsed (R131). -/
def execSeEvpost (req : Fin 32) (eng : Fin 3) (line : Byte) (s : State) : Out :=
  .next (s.busWrite req.val (R.SE_EVPOST eng.val) (BitVec.ofNat 32 line.toNat))
/-- ACC_NEXT_READ: the next offered entry (R132). -/
def execAccNextRead (req : Fin 32) (radio : Fin 3) (s : State) : Out :=
  .next (s.busRead req.val (R.ACC_NEXT radio.val))

end Sys2Proof.Machine
end

