-- ==== Sys2Proof/Machine/Timed.lean ====
section
/-!
DEFINITION. Timed instructions, waits, event delivery and radio commands of the slot engines (R111 to R126), and the work, lock
and service instructions (Table 04-15).
-/
namespace Sys2Proof.Machine

/-- The word of an extension instruction. -/
def extWord (op : Nat) (rd ra rb : Fin 32) (sub imm8 : Nat) : Nat := encR op rd ra rb (sub * 2 ^ 8 + imm8)
/-- A status code in a register. -/
def stWord (st : Status) : DWord := BitVec.ofNat 64 st.code

/-! ## Timed instructions (R116 to R121) -/

/-- The part of an NT that NTRD reads. -/
def ntrdPart (u part : Nat) : Nat :=
  match part with | 0 => ntSec u | 1 => ntNs u | 2 => ntFrac u | _ => packNt u
/-- NTRD (Table 05-2). -/
def execNtrd (core : Fin 24) (rd : Fin 32) (part : Byte) (s : State) : Out :=
  .next (s.ins core .timed (decide (part.toNat ≤ 3)) (extWord 0x38 rd 0 0 0 part.toNat) (fun s =>
    s.result core rd (BitVec.ofNat 64 (ntrdPart s.now part.toNat))))

/-- A slot engine waits. -/
def State.setWait (s : State) (e : Nat) (w : EWait) : State := s.setEngine e { s.engine e with wait := w }
/-- The late rule of ATTICK (R118). -/
def State.lateAt (s : State) (e : Nat) : State :=
  ((s.setFld (F.SE_STAT_LATE_AT e) 1).count (F.SE_LATE_COUNT_AT_LATE e)).setEngine e { s.engine e with lateNext := true }
/-- The late rule of WAITNT (R117). -/
def State.lateWait (s : State) (e : Nat) : State := (s.setFld (F.SE_STAT_LATE_WAIT e) 1).count (F.SE_LATE_COUNT_WAIT_LATE e)
/-- WAITNT and ATTICK: the next instruction waits for its target, unless the target has passed. -/
def State.timed (s : State) (c : Fin 24) (ra : Fin 32) (attick : Bool) : State :=
  let e := c.val - 20
  let target := packedTarget s.now ((s.core c).gr ra).toNat
  let s1 := s.advance c id
  if target ≤ s.now then (if attick then s1.lateAt e else s1.lateWait e) else s1.setWait e (.until target attick)
/-- WAITNT (R117). -/
def execWaitnt (core : Fin 24) (ra : Fin 32) (s : State) : Out :=
  .next (s.ins core .timed true (extWord 0x38 0 ra 0 1 0) (fun s => s.timed core ra false))
/-- ATTICK (R118). -/
def execAttick (core : Fin 24) (ra : Fin 32) (s : State) : Out :=
  .next (s.ins core .timed true (extWord 0x38 0 ra 0 2 0) (fun s => s.timed core ra true))
/-- EVTRIG (R120): a pulse on a free line enters on the next tick; a fixed line is marked. -/
def execEvtrig (core : Fin 24) (ra : Fin 32) (line : Byte) (s : State) : Out :=
  .next (s.ins core .timed true (extWord 0x38 0 ra 0 3 line.toNat) (fun s =>
    let n := if line = 0 then ((s.core core).gr ra).toNat % 256 else line.toNat
    let s1 := if 64 ≤ n then s.pulseNext n else s.setFld (F.SE_STAT_FIXED_TRIG (core.val - 20)) 1
    s1.advance core id))
/-- EVWAIT (R121): a latch that is set answers at once; otherwise the engine waits, its register written at the end. -/
def execEvwait (core : Fin 24) (rd : Fin 32) (line : Byte) (s : State) : Out :=
  .next (s.ins core .timed true (extWord 0x38 rd 0 0 4 line.toNat) (fun s =>
    let e := core.val - 20
    let x := s.engine e
    if x.latches.getLsbD line.toNat then
      (s.setEngine e { x with latches := x.latches &&& ~~~(BitVec.ofNat 256 (2 ^ line.toNat)) }).result core rd 0
    else (s.advance core id).setWait e (.event line.toNat rd s.ticks false)))

/-- An engine's wait counts while RUN is on and its domain is powered. -/
def State.waits (s : State) (e : Nat) : Bool := s.live (20 + e)
/-- TIMED_TARGET_REACHED: the tick on which a target is reached ends the wait (Table 05-2). -/
def execTimedTargetReached (eng : Fin 3) (s : State) : Out :=
  .next (match (s.engine eng).wait with
    | .until target _ => if s.waits eng ∧ target ≤ s.now then s.setWait eng .none else s
    | _ => s)
/-- EVWAIT_PULSE: the pulse that has arrived ends the wait with OK (R121). -/
def execEvwaitPulse (eng : Fin 3) (s : State) : Out :=
  .next (match (s.engine eng).wait with
    | .event _ rd _ true =>
      if s.waits eng then (s.setWait eng .none).setCore (20 + eng.val) ((s.core (20 + eng.val)).setG rd 0) else s
    | _ => s)
/-- EVWAIT_TIMEOUT: LIMIT ticks have passed since the issue tick without a pulse (R121). -/
def execEvwaitTimeout (eng : Fin 3) (s : State) : Out :=
  .next (match (s.engine eng).wait with
    | .event _ rd issue false =>
      let limit := s.fld (F.SE_WAIT_LIMIT_LIMIT eng)
      if s.waits eng ∧ limit ≠ 0 ∧ issue + limit ≤ s.ticks then
        ((((s.setWait eng .none).setCore (20 + eng.val) ((s.core (20 + eng.val)).setG rd 1)).setFld (F.SE_STAT_EV_TIMEOUT eng) 1).count
          (F.SE_LATE_COUNT_EV_TIMEOUTS eng))
      else s
    | _ => s)

/-! ## Event delivery (R96, R121, R122) -/

/-- A pulse reaches a slot engine: it ends a wait for its line, or sets the latch. -/
def State.pulseEngine (s : State) (e line : Nat) : State :=
  let x := s.engine e
  if !s.powered (13 + e) then s
  else match x.wait with
    | .event l rd issue false => if l = line then s.setWait e (.event l rd issue true)
        else s.setEngine e { x with latches := x.latches ||| BitVec.ofNat 256 (2 ^ line) }
    | _ => s.setEngine e { x with latches := x.latches ||| BitVec.ofNat 256 (2 ^ line) }
/-- A pulse reaches a core that takes interrupts: its IPEND bit. -/
def State.pulseCore (s : State) (line : Nat) (c : Nat) : State :=
  if s.powered (coreDomain c) && !s.held c then
    s.setCore c { s.core c with ipend := (s.core c).ipend ||| BitVec.ofNat 256 (2 ^ line) }
  else s
/-- A pulse reaches its receivers: every slot engine, the control cores, the Keeper, and the host's vectors. -/
def State.deliver (s : State) (p : Pulse) : State :=
  (([0, 1, 2, 3, 23].foldl (State.pulseCore · p.line ·) ([0, 1, 2].foldl (State.pulseEngine · · p.line) s))).msixPulse p.line
/-- EVENT_DELIVERY: the pulses that entered two ticks ago or earlier reach their receivers (R122). -/
def execEventDelivery (s : State) : Out :=
  let due := s.fabric.filter (fun p => decide (p.tick + 2 ≤ s.ticks))
  .next (due.foldl State.deliver { s with fabric := s.fabric.filter (fun p => !decide (p.tick + 2 ≤ s.ticks)) })

/-! ## The tick (R54, R55, R61, R115, R119) -/

/-- A step or load of a domain was taken on the tick that led from s to t. -/
def State.stepped (s t : State) (d : Nat) : Bool := (s.dom d).adj.isSome && t.fld (F.NT_ADJ_CMD_STATUS d) == 0
/-- The tick as counting alone makes it, without the steps and loads that wait for it. -/
def State.counted (s : State) : State :=
  ((s.setDom 0 { s.dom 0 with adj := none }).setDom 1 { s.dom 1 with adj := none }).tickTime
/-- A forward step carries a wait past its target (R119). A step that lands on the target does not pass it: that tick reaches
it (R116, log entry 32). -/
def State.skipWait (s : State) (n0 n1 e : Nat) : State :=
  match (s.engine e).wait with
  | .until target attick =>
    if n0 < target ∧ target < n1 then
      let s1 := (s.setWait e .none).setFld (F.SE_STAT_STEP_SKIP e) 1
      if attick then s1.lateAt e else s1
    else s
  | _ => s
/-- CYCLE counts while the engine's domain is powered, RETIRED while RUN is on (R115). -/
def State.countTick (s : State) (e : Nat) : State :=
  let s1 := if s.powered (13 + e) then s.setEngine e { s.engine e with cycle := (s.engine e).cycle + 1 } else s
  if s1.fnOn (4 + e) 0 0 then s1.setCore (20 + e) { s1.core (20 + e) with retired := (s1.core (20 + e)).retired + 1 } else s1
/-- The domain that a port's timestamps follow: 0 or 1, the selected one for the selected NT. -/
def State.portDom (s : State) (j : Nat) : Nat :=
  match s.fld (F.EMAC_CFG_TS_DOM j) with | 1 => 0 | 2 => 1 | _ => s.cur
/-- A step or load made with FORCE goes to the audit log with its requester's pass and its magnitude (R60, R384, Table 17-7). -/
def State.auditAdj (s t : State) (d : Nat) : State :=
  match (s.dom d).adj with
  | some a =>
    if a.force && s.stepped t d then
      let m := a.delta (ntCount (s.incr d) (s.dom d)).units / 2 ^ 16
      t.audit 0x05 a.role a.req 0 a.pass
        (leBytes 1 d ++ leBytes 1 (if a.load then 2 else 1) ++ leBytes 6 0 ++ leBytes 8 (m % 2 ^ 64).toNat)
    else t
  | none => t
/-- A forward step of the fine selected NT is kept (R61, R202). -/
def State.noteJump (s : State) (n0 n1 : Nat) : State :=
  if s.coarse then s else { s with time := { s.time with jumps := s.time.jumps ++ [(n0, n1)] } }
/-- NT_TICK: both domains count, a forced step is audited; engines count; a step carries waits, port times and launches past
(R61). -/
def State.ntTick (s : State) : State :=
  let t := s.tickTime
  let s0 := if s.coarse && s.stepped t s.cur then t.dutyRebase s.counted.now t.now else t
  let s1 := [0, 1, 2].foldl State.countTick (s.auditAdj (s.auditAdj s0 0) 1)
  let s2 := if s.stepped s1 s.cur && decide (s.counted.now < s1.now) then
      (([0, 1, 2].foldl (State.skipWait · s.counted.now s1.now ·) s1).passPorts s.counted.now s1.now).noteJump s.counted.now s1.now
    else s1
  (List.range 6).foldl (fun (x : State) j =>
    if s.stepped s1 (s.portDom j) then x.launchPassed j (s.counted.portNt j) else x) s2
/-- NT_TICK (R54, R55). -/
def execNtTick (s : State) : Out := .next s.ntTick

/-! ## Radio commands (R124 to R126) -/

/-- RCMD of a slot engine: the record at ra, the argument in rb, the chain in imm8; the status code in rd. -/
def State.rcmdIns (s : State) (c : Fin 24) (rd ra rb : Fin 32) (chain : Byte) : State :=
  let late := (s.engine (c.val - 20)).lateNext
  s.ins c .timed true (extWord 0x38 rd ra rb 5 chain.toNat) (fun s =>
    let (s1, st) := s.rcmd (c.val - 20) ((s.core c).gr ra).toNat ((s.core c).gr rb).toNat chain.toNat late
    s1.result c rd (stWord st))
/-- RCMD TX (R126): the operation is the OP of its record. -/
def execTx (core : Fin 24) (rd ra rb : Fin 32) (chain : Byte) (s : State) : Out :=
  .next (s.rcmdIns core rd ra rb chain)
/-- RCMD RX (R126): the operation is the OP of its record. -/
def execRx (core : Fin 24) (rd ra rb : Fin 32) (chain : Byte) (s : State) : Out :=
  .next (s.rcmdIns core rd ra rb chain)
/-- RCMD LISTEN (R126): the operation is the OP of its record. -/
def execListen (core : Fin 24) (rd ra rb : Fin 32) (chain : Byte) (s : State) : Out :=
  .next (s.rcmdIns core rd ra rb chain)
/-- RCMD TUNE (R126): the operation is the OP of its record. -/
def execTune (core : Fin 24) (rd ra rb : Fin 32) (chain : Byte) (s : State) : Out :=
  .next (s.rcmdIns core rd ra rb chain)
/-- RCMD CAL (R126): the operation is the OP of its record. -/
def execCal (core : Fin 24) (rd ra rb : Fin 32) (chain : Byte) (s : State) : Out :=
  .next (s.rcmdIns core rd ra rb chain)
/-- RCMD ANT (R126): the operation is the OP of its record. -/
def execAnt (core : Fin 24) (rd ra rb : Fin 32) (chain : Byte) (s : State) : Out :=
  .next (s.rcmdIns core rd ra rb chain)
/-- RCMD CCA (R126): the operation is the OP of its record. -/
def execCca (core : Fin 24) (rd ra rb : Fin 32) (chain : Byte) (s : State) : Out :=
  .next (s.rcmdIns core rd ra rb chain)
/-- RCMD PAREQ (R126): the operation is the OP of its record. -/
def execPareq (core : Fin 24) (rd ra rb : Fin 32) (chain : Byte) (s : State) : Out :=
  .next (s.rcmdIns core rd ra rb chain)
/-- RCMD IDLE (R126): the operation is the OP of its record. -/
def execIdle (core : Fin 24) (rd ra rb : Fin 32) (chain : Byte) (s : State) : Out :=
  .next (s.rcmdIns core rd ra rb chain)
/-- RCMD ABORT (R126): the operation is the OP of its record. -/
def execAbort (core : Fin 24) (rd ra rb : Fin 32) (chain : Byte) (s : State) : Out :=
  .next (s.rcmdIns core rd ra rb chain)
/-- RCMD SLOT (R126): the operation is the OP of its record. -/
def execSlot (core : Fin 24) (rd ra rb : Fin 32) (chain : Byte) (s : State) : Out :=
  .next (s.rcmdIns core rd ra rb chain)

/-! ## Work, locks and services (R294, R298, R301, R303) -/

/-- POST (R294). -/
def execPost (core : Fin 24) (rd ra : Fin 32) (level : Byte) (s : State) : Out :=
  .next (s.ins core .post (decide (level.toNat ≤ 7)) (extWord 0x39 rd ra 0 1 level.toNat) (fun s =>
    let a := ((s.core core).gr ra).toNat
    (s.settleHeld.postItem core a level.toNat).result core rd (stWord (s.settleHeld.postCode a))))
/-- DONE (R298). -/
def execWdDone (core : Fin 24) (rd ra : Fin 32) (s : State) : Out :=
  .next (s.ins core .done true (extWord 0x39 rd ra 0 0 0) (fun s => s.doneItem core rd ((s.core core).gr ra).toNat))
/-- DONE_IDLE_TIMEOUT (R298). -/
def execDoneIdleTimeout (core : Fin 24) (s : State) : Out := .next (s.doneTimeout core)
/-- QUEUE_ITEM_HELD_POST (R295). -/
def execQueueItemHeldPost (s : State) : Out := .next s.postHeld
/-- TAKE (R301). -/
def execLckTake (core : Fin 24) (rd : Fin 32) (token : Byte) (s : State) : Out :=
  .next (s.ins core .lock true (extWord 0x3A rd 0 0 0 token.toNat) (fun s =>
    (s.takeToken core token.toNat).result core rd (stWord (s.takeCode core token.toNat))))
/-- GIVE (R301). -/
def execLckGive (core : Fin 24) (rd : Fin 32) (token : Byte) (s : State) : Out :=
  .next (s.ins core .lock true (extWord 0x3A rd 0 0 1 token.toNat) (fun s =>
    (s.giveToken core token.toNat).result core rd (stWord (s.giveCode core token.toNat))))
/-- TAKEV (R301). -/
def execTakev (core : Fin 24) (rd ra : Fin 32) (s : State) : Out :=
  .next (s.ins core .lock true (extWord 0x3A rd ra 0 2 0) (fun s =>
    let t := ((s.core core).gr ra).toNat % 256
    (s.takeToken core t).result core rd (stWord (s.takeCode core t))))
/-- GIVEV (R301). -/
def execGivev (core : Fin 24) (rd ra : Fin 32) (s : State) : Out :=
  .next (s.ins core .lock true (extWord 0x3A rd ra 0 3 0) (fun s =>
    let t := ((s.core core).gr ra).toNat % 256
    (s.giveToken core t).result core rd (stWord (s.giveCode core t))))
/-- The lock mark in imm8[3:2]. -/
def svcMark (imm8 : Nat) : SvcMark :=
  match imm8 / 4 % 4 with | 0 => .none | 1 => .open_ | 2 => .cont | _ => .close_
/-- SVC (R303). -/
def execSvc (core : Fin 24) (rd ra rb : Fin 32) (imm : Byte) (s : State) : Out :=
  .next (s.ins core .svc (decide (imm.toNat % 4 ≠ 3) && decide (imm.toNat < 16)) (extWord 0x3B rd ra rb 0 imm.toNat) (fun s =>
    let x := s.core core
    let m := svcMark imm.toNat
    let e := imm.toNat % 4
    (s.svcIssue core e (x.gr ra).toNat (x.gr rb).toNat m).result core rd (stWord (s.svcCode core e (x.gr ra).toNat m))))

end Sys2Proof.Machine
end

