-- ==== Sys2Proof/Machine/Dispatch.lean ====
section
/-!
DEFINITION. The meaning of each command, one arm a constructor.
-/
namespace Sys2Proof.Machine

def exec (i : Instr) (s : State) : Host.Outcome State Fault Refusal :=
  match i with
  | .registerWrite req addr value => Sys2Proof.Machine.execRegisterWrite req addr value s
  | .accessStallEnd req => Sys2Proof.Machine.execAccessStallEnd req s
  | .domainLingerExpiry dom => Sys2Proof.Machine.execDomainLingerExpiry dom s
  | .rcFieldRead req addr => Sys2Proof.Machine.execRcFieldRead req addr s
  | .wideValueLowRead req addr => Sys2Proof.Machine.execWideValueLowRead req addr s
  | .wideValueLowWrite req addr value => Sys2Proof.Machine.execWideValueLowWrite req addr value s
  | .wideValueHighWrite req addr value => Sys2Proof.Machine.execWideValueHighWrite req addr value s
  | .shadowWrite req addr value => Sys2Proof.Machine.execShadowWrite req addr value s
  | .swapRequest req slot => Sys2Proof.Machine.execSwapRequest req slot s
  | .swapCancel req slot => Sys2Proof.Machine.execSwapCancel req slot s
  | .swapTakeEffect slot => Sys2Proof.Machine.execSwapTakeEffect slot s
  | .fnEnable req fn => Sys2Proof.Machine.execFnEnable req fn s
  | .fnDisable req fn => Sys2Proof.Machine.execFnDisable req fn s
  | .fnStartDone fn => Sys2Proof.Machine.execFnStartDone fn s
  | .fnStartFail fn => Sys2Proof.Machine.execFnStartFail fn s
  | .fnSafePoint fn => Sys2Proof.Machine.execFnSafePoint fn s
  | .fnStopDone fn => Sys2Proof.Machine.execFnStopDone fn s
  | .fnStopFail fn => Sys2Proof.Machine.execFnStopFail fn s
  | .ntTick => Sys2Proof.Machine.execNtTick s
  | .slewEnd => Sys2Proof.Machine.execSlewEnd s
  | .ntIncrWrite req dom hi => Sys2Proof.Machine.execNtIncrWrite req dom hi s
  | .markCoarse req dom holdover fine => Sys2Proof.Machine.execMarkCoarse req dom holdover fine s
  | .markFine req dom holdover => Sys2Proof.Machine.execMarkFine req dom holdover s
  | .refSrcWrite req src => Sys2Proof.Machine.execRefSrcWrite req src s
  | .refLost => Sys2Proof.Machine.execRefLost s
  | .refReturn => Sys2Proof.Machine.execRefReturn s
  | .ntStep req dom force => Sys2Proof.Machine.execNtStep req dom force s
  | .ntLoad req dom force => Sys2Proof.Machine.execNtLoad req dom force s
  | .tselSwitch req sel => Sys2Proof.Machine.execTselSwitch req sel s
  | .captureEdge input falling phase => Sys2Proof.Machine.execCaptureEdge input falling phase s
  | .todByteRx rx byte phase => Sys2Proof.Machine.execTodByteRx rx byte phase s
  | .todDataRead req rx => Sys2Proof.Machine.execTodDataRead req rx s
  | .ppsOutEdge out => Sys2Proof.Machine.execPpsOutEdge out s
  | .ppsPulseEnd out => Sys2Proof.Machine.execPpsPulseEnd out s
  | .tsyncFrameSend => Sys2Proof.Machine.execTsyncFrameSend s
  | .tsyncFrameRx bits => Sys2Proof.Machine.execTsyncFrameRx bits s
  | .add core rd ra rb => Sys2Proof.Machine.execAdd core rd ra rb s
  | .sub core rd ra rb => Sys2Proof.Machine.execSub core rd ra rb s
  | .and_ core rd ra rb => Sys2Proof.Machine.execAnd core rd ra rb s
  | .or_ core rd ra rb => Sys2Proof.Machine.execOr core rd ra rb s
  | .xor core rd ra rb => Sys2Proof.Machine.execXor core rd ra rb s
  | .slt core rd ra rb => Sys2Proof.Machine.execSlt core rd ra rb s
  | .sltu core rd ra rb => Sys2Proof.Machine.execSltu core rd ra rb s
  | .sll core rd ra rb => Sys2Proof.Machine.execSll core rd ra rb s
  | .srl core rd ra rb => Sys2Proof.Machine.execSrl core rd ra rb s
  | .sra core rd ra rb => Sys2Proof.Machine.execSra core rd ra rb s
  | .ror core rd ra rb => Sys2Proof.Machine.execRor core rd ra rb s
  | .addw core rd ra rb => Sys2Proof.Machine.execAddw core rd ra rb s
  | .subw core rd ra rb => Sys2Proof.Machine.execSubw core rd ra rb s
  | .sllw core rd ra rb => Sys2Proof.Machine.execSllw core rd ra rb s
  | .srlw core rd ra rb => Sys2Proof.Machine.execSrlw core rd ra rb s
  | .sraw core rd ra rb => Sys2Proof.Machine.execSraw core rd ra rb s
  | .mul core rd ra rb => Sys2Proof.Machine.execMul core rd ra rb s
  | .mulh core rd ra rb => Sys2Proof.Machine.execMulh core rd ra rb s
  | .mulhu core rd ra rb => Sys2Proof.Machine.execMulhu core rd ra rb s
  | .mulhsu core rd ra rb => Sys2Proof.Machine.execMulhsu core rd ra rb s
  | .div core rd ra rb => Sys2Proof.Machine.execDiv core rd ra rb s
  | .divu core rd ra rb => Sys2Proof.Machine.execDivu core rd ra rb s
  | .rem_ core rd ra rb => Sys2Proof.Machine.execRem core rd ra rb s
  | .remu core rd ra rb => Sys2Proof.Machine.execRemu core rd ra rb s
  | .min core rd ra rb => Sys2Proof.Machine.execMin core rd ra rb s
  | .max core rd ra rb => Sys2Proof.Machine.execMax core rd ra rb s
  | .minu core rd ra rb => Sys2Proof.Machine.execMinu core rd ra rb s
  | .maxu core rd ra rb => Sys2Proof.Machine.execMaxu core rd ra rb s
  | .clz core rd ra => Sys2Proof.Machine.execClz core rd ra s
  | .ctz core rd ra => Sys2Proof.Machine.execCtz core rd ra s
  | .popc core rd ra => Sys2Proof.Machine.execPopc core rd ra s
  | .bswap core rd ra => Sys2Proof.Machine.execBswap core rd ra s
  | .selnz core rd ra rb => Sys2Proof.Machine.execSelnz core rd ra rb s
  | .addi core rd ra imm => Sys2Proof.Machine.execAddi core rd ra imm s
  | .andi core rd ra imm => Sys2Proof.Machine.execAndi core rd ra imm s
  | .ori core rd ra imm => Sys2Proof.Machine.execOri core rd ra imm s
  | .xori core rd ra imm => Sys2Proof.Machine.execXori core rd ra imm s
  | .slti core rd ra imm => Sys2Proof.Machine.execSlti core rd ra imm s
  | .sltiu core rd ra imm => Sys2Proof.Machine.execSltiu core rd ra imm s
  | .shi core rd ra imm => Sys2Proof.Machine.execShi core rd ra imm s
  | .addiw core rd ra imm => Sys2Proof.Machine.execAddiw core rd ra imm s
  | .lui core rd imm => Sys2Proof.Machine.execLui core rd imm s
  | .auipc core rd imm => Sys2Proof.Machine.execAuipc core rd imm s
  | .jal core rd imm => Sys2Proof.Machine.execJal core rd imm s
  | .jalr core rd ra imm => Sys2Proof.Machine.execJalr core rd ra imm s
  | .beq core ra rb off => Sys2Proof.Machine.execBeq core ra rb off s
  | .bne core ra rb off => Sys2Proof.Machine.execBne core ra rb off s
  | .blt core ra rb off => Sys2Proof.Machine.execBlt core ra rb off s
  | .bge core ra rb off => Sys2Proof.Machine.execBge core ra rb off s
  | .bltu core ra rb off => Sys2Proof.Machine.execBltu core ra rb off s
  | .bgeu core ra rb off => Sys2Proof.Machine.execBgeu core ra rb off s
  | .lb core rd ra imm => Sys2Proof.Machine.execLb core rd ra imm s
  | .lbu core rd ra imm => Sys2Proof.Machine.execLbu core rd ra imm s
  | .lh core rd ra imm => Sys2Proof.Machine.execLh core rd ra imm s
  | .lhu core rd ra imm => Sys2Proof.Machine.execLhu core rd ra imm s
  | .lw core rd ra imm => Sys2Proof.Machine.execLw core rd ra imm s
  | .lwu core rd ra imm => Sys2Proof.Machine.execLwu core rd ra imm s
  | .ld core rd ra imm => Sys2Proof.Machine.execLd core rd ra imm s
  | .sb core rs ra imm => Sys2Proof.Machine.execSb core rs ra imm s
  | .sh core rs ra imm => Sys2Proof.Machine.execSh core rs ra imm s
  | .sw core rs ra imm => Sys2Proof.Machine.execSw core rs ra imm s
  | .sd core rs ra imm => Sys2Proof.Machine.execSd core rs ra imm s
  | .flw core fd ra imm => Sys2Proof.Machine.execFlw core fd ra imm s
  | .fld core fd ra imm => Sys2Proof.Machine.execFld core fd ra imm s
  | .fsw core fs ra imm => Sys2Proof.Machine.execFsw core fs ra imm s
  | .fsd core fs ra imm => Sys2Proof.Machine.execFsd core fs ra imm s
  | .lr core rd ra dbl aq rl => Sys2Proof.Machine.execLr core rd ra dbl aq rl s
  | .sc core rd ra rb dbl aq rl => Sys2Proof.Machine.execSc core rd ra rb dbl aq rl s
  | .swapAtomic core rd ra rb dbl aq rl => Sys2Proof.Machine.execSwapAtomic core rd ra rb dbl aq rl s
  | .aadd core rd ra rb dbl aq rl => Sys2Proof.Machine.execAadd core rd ra rb dbl aq rl s
  | .aand core rd ra rb dbl aq rl => Sys2Proof.Machine.execAand core rd ra rb dbl aq rl s
  | .aor core rd ra rb dbl aq rl => Sys2Proof.Machine.execAor core rd ra rb dbl aq rl s
  | .axor core rd ra rb dbl aq rl => Sys2Proof.Machine.execAxor core rd ra rb dbl aq rl s
  | .amin core rd ra rb dbl aq rl => Sys2Proof.Machine.execAmin core rd ra rb dbl aq rl s
  | .amax core rd ra rb dbl aq rl => Sys2Proof.Machine.execAmax core rd ra rb dbl aq rl s
  | .aminu core rd ra rb dbl aq rl => Sys2Proof.Machine.execAminu core rd ra rb dbl aq rl s
  | .amaxu core rd ra rb dbl aq rl => Sys2Proof.Machine.execAmaxu core rd ra rb dbl aq rl s
  | .cas core rd ra rb dbl aq rl => Sys2Proof.Machine.execCas core rd ra rb dbl aq rl s
  | .fadd core rd ra rb dbl rm => Sys2Proof.Machine.execFadd core rd ra rb dbl rm s
  | .fsub core rd ra rb dbl rm => Sys2Proof.Machine.execFsub core rd ra rb dbl rm s
  | .fmul core rd ra rb dbl rm => Sys2Proof.Machine.execFmul core rd ra rb dbl rm s
  | .fdiv core rd ra rb dbl rm => Sys2Proof.Machine.execFdiv core rd ra rb dbl rm s
  | .fsqrt core rd ra dbl rm => Sys2Proof.Machine.execFsqrt core rd ra dbl rm s
  | .fmin core rd ra rb dbl rm => Sys2Proof.Machine.execFmin core rd ra rb dbl rm s
  | .fmax core rd ra rb dbl rm => Sys2Proof.Machine.execFmax core rd ra rb dbl rm s
  | .fsgnj core rd ra rb dbl rm => Sys2Proof.Machine.execFsgnj core rd ra rb dbl rm s
  | .fsgnjn core rd ra rb dbl rm => Sys2Proof.Machine.execFsgnjn core rd ra rb dbl rm s
  | .fsgnjx core rd ra rb dbl rm => Sys2Proof.Machine.execFsgnjx core rd ra rb dbl rm s
  | .feq core rd ra rb dbl rm => Sys2Proof.Machine.execFeq core rd ra rb dbl rm s
  | .flt core rd ra rb dbl rm => Sys2Proof.Machine.execFlt core rd ra rb dbl rm s
  | .fle core rd ra rb dbl rm => Sys2Proof.Machine.execFle core rd ra rb dbl rm s
  | .fclass core rd ra dbl rm => Sys2Proof.Machine.execFclass core rd ra dbl rm s
  | .fcvtFI core rd ra dbl rm => Sys2Proof.Machine.execFcvtFI core rd ra dbl rm s
  | .fcvtFIu core rd ra dbl rm => Sys2Proof.Machine.execFcvtFIu core rd ra dbl rm s
  | .fcvtIF core rd ra dbl rm => Sys2Proof.Machine.execFcvtIF core rd ra dbl rm s
  | .fcvtIuF core rd ra dbl rm => Sys2Proof.Machine.execFcvtIuF core rd ra dbl rm s
  | .fcvtP core rd ra dbl rm => Sys2Proof.Machine.execFcvtP core rd ra dbl rm s
  | .fmvIF core rd ra dbl rm => Sys2Proof.Machine.execFmvIF core rd ra dbl rm s
  | .fmvFI core rd ra dbl rm => Sys2Proof.Machine.execFmvFI core rd ra dbl rm s
  | .fmadd core rd ra rb rc dbl rm => Sys2Proof.Machine.execFmadd core rd ra rb rc dbl rm s
  | .fmsub core rd ra rb rc dbl rm => Sys2Proof.Machine.execFmsub core rd ra rb rc dbl rm s
  | .fnmadd core rd ra rb rc dbl rm => Sys2Proof.Machine.execFnmadd core rd ra rb rc dbl rm s
  | .fnmsub core rd ra rb rc dbl rm => Sys2Proof.Machine.execFnmsub core rd ra rb rc dbl rm s
  | .srswap core rd ra sr => Sys2Proof.Machine.execSrswap core rd ra sr s
  | .srset core rd ra sr => Sys2Proof.Machine.execSrset core rd ra sr s
  | .srclr core rd ra sr => Sys2Proof.Machine.execSrclr core rd ra sr s
  | .ecall core => Sys2Proof.Machine.execEcall core s
  | .ebreak core => Sys2Proof.Machine.execEbreak core s
  | .eret core => Sys2Proof.Machine.execEret core s
  | .wfi core => Sys2Proof.Machine.execWfi core s
  | .fence core pred succ => Sys2Proof.Machine.execFence core pred succ s
  | .isync core => Sys2Proof.Machine.execIsync core s
  | .tlbinv core asidReg ra scope => Sys2Proof.Machine.execTlbinv core asidReg ra scope s
  | .impreciseStoreError core addr status => Sys2Proof.Machine.execImpreciseStoreError core addr status s
  | .interruptEntry core => Sys2Proof.Machine.execInterruptEntry core s
  | .wfiResume core => Sys2Proof.Machine.execWfiResume core s
  | .ntrd core rd part => Sys2Proof.Machine.execNtrd core rd part s
  | .waitnt core ra => Sys2Proof.Machine.execWaitnt core ra s
  | .attick core ra => Sys2Proof.Machine.execAttick core ra s
  | .timedTargetReached eng => Sys2Proof.Machine.execTimedTargetReached eng s
  | .evtrig core ra line => Sys2Proof.Machine.execEvtrig core ra line s
  | .evwait core rd line => Sys2Proof.Machine.execEvwait core rd line s
  | .evwaitPulse eng => Sys2Proof.Machine.execEvwaitPulse eng s
  | .evwaitTimeout eng => Sys2Proof.Machine.execEvwaitTimeout eng s
  | .eventDelivery => Sys2Proof.Machine.execEventDelivery s
  | .tx core rd ra rb chain => Sys2Proof.Machine.execTx core rd ra rb chain s
  | .rx core rd ra rb chain => Sys2Proof.Machine.execRx core rd ra rb chain s
  | .listen core rd ra rb chain => Sys2Proof.Machine.execListen core rd ra rb chain s
  | .tune core rd ra rb chain => Sys2Proof.Machine.execTune core rd ra rb chain s
  | .cal core rd ra rb chain => Sys2Proof.Machine.execCal core rd ra rb chain s
  | .ant core rd ra rb chain => Sys2Proof.Machine.execAnt core rd ra rb chain s
  | .cca core rd ra rb chain => Sys2Proof.Machine.execCca core rd ra rb chain s
  | .pareq core rd ra rb chain => Sys2Proof.Machine.execPareq core rd ra rb chain s
  | .idle_ core rd ra rb chain => Sys2Proof.Machine.execIdle core rd ra rb chain s
  | .abort core rd ra rb chain => Sys2Proof.Machine.execAbort core rd ra rb chain s
  | .slot core rd ra rb chain => Sys2Proof.Machine.execSlot core rd ra rb chain s
  | .abortEffect radio chain => Sys2Proof.Machine.execAbortEffect radio chain s
  | .queuedCommandBegin radio chain => Sys2Proof.Machine.execQueuedCommandBegin radio chain s
  | .txLastBit radio chain => Sys2Proof.Machine.execTxLastBit radio chain s
  | .rxWindowClose radio chain => Sys2Proof.Machine.execRxWindowClose radio chain s
  | .ccaEnd radio chain peak => Sys2Proof.Machine.execCcaEnd radio chain peak s
  | .calStepEnd radio chain trim => Sys2Proof.Machine.execCalStepEnd radio chain trim s
  | .femSequenceEnd radio => Sys2Proof.Machine.execFemSequenceEnd radio s
  | .femAutoSequence radio port kind => Sys2Proof.Machine.execFemAutoSequence radio port kind s
  | .synthMoveStart radio chain => Sys2Proof.Machine.execSynthMoveStart radio chain s
  | .synthLock radio chain => Sys2Proof.Machine.execSynthLock radio chain s
  | .txRegulatoryCheck radio chain => Sys2Proof.Machine.execTxRegulatoryCheck radio chain s
  | .lockCheck radio chain => Sys2Proof.Machine.execLockCheck radio chain s
  | .lbtDecision radio chain peak => Sys2Proof.Machine.execLbtDecision radio chain peak s
  | .transmitPathBegin radio chain => Sys2Proof.Machine.execTransmitPathBegin radio chain s
  | .listenResume radio chain => Sys2Proof.Machine.execListenResume radio chain s
  | .calSetApply radio chain => Sys2Proof.Machine.execCalSetApply radio chain s
  | .calGapTimeout radio chain => Sys2Proof.Machine.execCalGapTimeout radio chain s
  | .seLmDataAccess req eng write => Sys2Proof.Machine.execSeLmDataAccess req eng write s
  | .sePost req eng hi => Sys2Proof.Machine.execSePost req eng hi s
  | .sePop req eng => Sys2Proof.Machine.execSePop req eng s
  | .seEvpost req eng line => Sys2Proof.Machine.execSeEvpost req eng line s
  | .accNextRead req radio => Sys2Proof.Machine.execAccNextRead req radio s
  | .regRegionWrite req value => Sys2Proof.Machine.execRegRegionWrite req value s
  | .meterRecomputeDone => Sys2Proof.Machine.execMeterRecomputeDone s
  | .dutyRecordExpire => Sys2Proof.Machine.execDutyRecordExpire s
  | .preambleDetect radio chain mode centre snr rssi agoNs => Sys2Proof.Machine.execPreambleDetect radio chain mode centre snr rssi agoNs s
  | .syncFound radio lane phase => Sys2Proof.Machine.execSyncFound radio lane phase s
  | .syncTimeout radio lane => Sys2Proof.Machine.execSyncTimeout radio lane s
  | .headerDecoded radio lane bits => Sys2Proof.Machine.execHeaderDecoded radio lane bits s
  | .frameEnd radio lane psdu rx => Sys2Proof.Machine.execFrameEnd radio lane psdu rx s
  | .captureSpanEnd rx samples => Sys2Proof.Machine.execCaptureSpanEnd rx samples s
  | .expand => Sys2Proof.Machine.execExpand s
  | .captureRelease => Sys2Proof.Machine.execCaptureRelease s
  | .lapBoundary radio => Sys2Proof.Machine.execLapBoundary radio s
  | .guardInstant radio entry lap => Sys2Proof.Machine.execGuardInstant radio entry lap s
  | .occurrenceOffer radio entry lap => Sys2Proof.Machine.execOccurrenceOffer radio entry lap s
  | .occurrenceSkip radio entry lap => Sys2Proof.Machine.execOccurrenceSkip radio entry lap s
  | .accWrite req radio active => Sys2Proof.Machine.execAccWrite req radio active s
  | .editRead req radio active => Sys2Proof.Machine.execEditRead req radio active s
  | .accLoad req radio active => Sys2Proof.Machine.execAccLoad req radio active s
  | .accCopy req radio active => Sys2Proof.Machine.execAccCopy req radio active s
  | .accEditComplete radio => Sys2Proof.Machine.execAccEditComplete radio s
  | .contendWindowOpen radio entry lap => Sys2Proof.Machine.execContendWindowOpen radio entry lap s
  | .contendAttemptComplete radio queue => Sys2Proof.Machine.execContendAttemptComplete radio queue s
  | .contendWindowClose radio queue => Sys2Proof.Machine.execContendWindowClose radio queue s
  | .linkHeaderClassify => Sys2Proof.Machine.execLinkHeaderClassify s
  | .contextFetchDone => Sys2Proof.Machine.execContextFetchDone s
  | .frameAccept => Sys2Proof.Machine.execFrameAccept s
  | .ackOpportunity => Sys2Proof.Machine.execAckOpportunity s
  | .lnkRegister req => Sys2Proof.Machine.execLnkRegister req s
  | .unregister req => Sys2Proof.Machine.execUnregister req s
  | .contextRead req => Sys2Proof.Machine.execContextRead req s
  | .setcfg req => Sys2Proof.Machine.execSetcfg req s
  | .resetdrift req => Sys2Proof.Machine.execResetdrift req s
  | .lnkCmdComplete => Sys2Proof.Machine.execLnkCmdComplete s
  | .drlLostRead req => Sys2Proof.Machine.execDrlLostRead req s
  | .parserAccept => Sys2Proof.Machine.execParserAccept s
  | .injectionServe => Sys2Proof.Machine.execInjectionServe s
  | .passEnd => Sys2Proof.Machine.execPassEnd s
  | .versionRetire => Sys2Proof.Machine.execVersionRetire s
  | .sweepDone => Sys2Proof.Machine.execSweepDone s
  | .addEntry req => Sys2Proof.Machine.execAddEntry req s
  | .rtrDel req => Sys2Proof.Machine.execRtrDel req s
  | .setdef req => Sys2Proof.Machine.execSetdef req s
  | .routerRead req => Sys2Proof.Machine.execRouterRead req s
  | .routerEditComplete => Sys2Proof.Machine.execRouterEditComplete s
  | .commitNow req => Sys2Proof.Machine.execCommitNow req s
  | .commitAtNt req => Sys2Proof.Machine.execCommitAtNt req s
  | .commitCancel req => Sys2Proof.Machine.execCommitCancel req s
  | .commitTakeEffect => Sys2Proof.Machine.execCommitTakeEffect s
  | .portTransmitChoice port ring desc => Sys2Proof.Machine.execPortTransmitChoice port ring desc s
  | .wheelAdvance => Sys2Proof.Machine.execWheelAdvance s
  | .gateChange port => Sys2Proof.Machine.execGateChange port s
  | .slalomListStart port => Sys2Proof.Machine.execSlalomListStart port s
  | .sampleSweep => Sys2Proof.Machine.execSampleSweep s
  | .tq0Launch port => Sys2Proof.Machine.execTq0Launch port s
  | .ethFrameTxEnd port => Sys2Proof.Machine.execEthFrameTxEnd port s
  | .ethFrameRx port frame codeErr ago => Sys2Proof.Machine.execEthFrameRx port frame codeErr ago s
  | .linkStateChange link up an lock width speed => Sys2Proof.Machine.execLinkStateChange link up an lock width speed s
  | .wakePatternMatch frame => Sys2Proof.Machine.execWakePatternMatch frame s
  | .hostTxServe desc frame => Sys2Proof.Machine.execHostTxServe desc frame s
  | .pcieDoorbell req value => Sys2Proof.Machine.execPcieDoorbell req value s
  | .tmGateAccess req write => Sys2Proof.Machine.execTmGateAccess req write s
  | .bitSetStore req off size value => Sys2Proof.Machine.execBitSetStore req off size value s
  | .bitClearStore req off size value => Sys2Proof.Machine.execBitClearStore req off size value s
  | .patrolRegion bad redirected => Sys2Proof.Machine.execPatrolRegion bad redirected s
  | .recordCommit => Sys2Proof.Machine.execRecordCommit s
  | .queueItemHeldPost => Sys2Proof.Machine.execQueueItemHeldPost s
  | .rqPop req queue => Sys2Proof.Machine.execRqPop req queue s
  | .rqReadWrite req queue value => Sys2Proof.Machine.execRqReadWrite req queue value s
  | .rqMark req queue => Sys2Proof.Machine.execRqMark req queue s
  | .rewind req queue => Sys2Proof.Machine.execRewind req queue s
  | .release_ req queue => Sys2Proof.Machine.execRelease req queue s
  | .queueEnable req queue cfg => Sys2Proof.Machine.execQueueEnable req queue cfg s
  | .queueDisable req queue => Sys2Proof.Machine.execQueueDisable req queue s
  | .queueDrainEnd queue => Sys2Proof.Machine.execQueueDrainEnd queue s
  | .poolEnable req pool cfg => Sys2Proof.Machine.execPoolEnable req pool cfg s
  | .poolDisable req pool => Sys2Proof.Machine.execPoolDisable req pool s
  | .poolDrainEnd pool => Sys2Proof.Machine.execPoolDrainEnd pool s
  | .poolStashRead req pool => Sys2Proof.Machine.execPoolStashRead req pool s
  | .dramRefresh bank busy => Sys2Proof.Machine.execDramRefresh bank busy s
  | .sentinelSweep ch shift => Sys2Proof.Machine.execSentinelSweep ch shift s
  | .post_ core rd ra level => Sys2Proof.Machine.execPost core rd ra level s
  | .wdDone core rd ra => Sys2Proof.Machine.execWdDone core rd ra s
  | .doneIdleTimeout core => Sys2Proof.Machine.execDoneIdleTimeout core s
  | .lckTake core rd token => Sys2Proof.Machine.execLckTake core rd token s
  | .lckGive core rd token => Sys2Proof.Machine.execLckGive core rd token s
  | .takev core rd ra => Sys2Proof.Machine.execTakev core rd ra s
  | .givev core rd ra => Sys2Proof.Machine.execGivev core rd ra s
  | .lckForceRelease req value => Sys2Proof.Machine.execLckForceRelease req value s
  | .svc core rd ra rb imm => Sys2Proof.Machine.execSvc core rd ra rb imm s
  | .arbiterGrant engine => Sys2Proof.Machine.execArbiterGrant engine s
  | .backoffExpiry => Sys2Proof.Machine.execBackoffExpiry s
  | .serviceCompletion engine => Sys2Proof.Machine.execServiceCompletion engine s
  | .sequenceCutOff engine => Sys2Proof.Machine.execSequenceCutOff engine s
  | .sequenceBreak req => Sys2Proof.Machine.execSequenceBreak req s
  | .seal pipe => Sys2Proof.Machine.execSeal pipe s
  | .open_ pipe => Sys2Proof.Machine.execOpen pipe s
  | .encRaw pipe => Sys2Proof.Machine.execEncRaw pipe s
  | .decRaw pipe => Sys2Proof.Machine.execDecRaw pipe s
  | .cipherImport pipe => Sys2Proof.Machine.execCipherImport pipe s
  | .sha256 pipe => Sys2Proof.Machine.execSha256 pipe s
  | .cphInval req value => Sys2Proof.Machine.execCphInval req value s
  | .counterSettle n => Sys2Proof.Machine.execCounterSettle n s
  | .loadw req long => Sys2Proof.Machine.execLoadw req long s
  | .loadp req long => Sys2Proof.Machine.execLoadp req long s
  | .wrap req long => Sys2Proof.Machine.execWrap req long s
  | .kstClear req long => Sys2Proof.Machine.execKstClear req long s
  | .arm req long => Sys2Proof.Machine.execArm req long s
  | .whiteout req long => Sys2Proof.Machine.execWhiteout req long s
  | .tamperCheck loop inside => Sys2Proof.Machine.execTamperCheck loop inside s
  | .alarmRaised source active => Sys2Proof.Machine.execAlarmRaised source active s
  | .storeRead => Sys2Proof.Machine.execStoreRead s
  | .storeWrite => Sys2Proof.Machine.execStoreWrite s
  | .coldRead => Sys2Proof.Machine.execColdRead s
  | .coldWrite => Sys2Proof.Machine.execColdWrite s
  | .ckpt => Sys2Proof.Machine.execCkpt s
  | .export_ => Sys2Proof.Machine.execExport s
  | .ledgerImport => Sys2Proof.Machine.execLedgerImport s
  | .imgBegin => Sys2Proof.Machine.execImgBegin s
  | .imgWrite => Sys2Proof.Machine.execImgWrite s
  | .imgRead => Sys2Proof.Machine.execImgRead s
  | .calAppend => Sys2Proof.Machine.execCalAppend s
  | .calRead => Sys2Proof.Machine.execCalRead s
  | .audAppend => Sys2Proof.Machine.execAudAppend s
  | .audRead => Sys2Proof.Machine.execAudRead s
  | .kwrite => Sys2Proof.Machine.execKwrite s
  | .kread => Sys2Proof.Machine.execKread s
  | .journalEntryDurable => Sys2Proof.Machine.execJournalEntryDurable s
  | .journalApply => Sys2Proof.Machine.execJournalApply s
  | .checkpoint handle => Sys2Proof.Machine.execCheckpoint handle s
  | .nandProgramDone failed worst => Sys2Proof.Machine.execNandProgramDone failed worst s
  | .garbageCollect => Sys2Proof.Machine.execGarbageCollect s
  | .wearLevelMove => Sys2Proof.Machine.execWearLevelMove s
  | .nandScrub page => Sys2Proof.Machine.execNandScrub page s
  | .mramScrub => Sys2Proof.Machine.execMramScrub s
  | .holdupFlush => Sys2Proof.Machine.execHoldupFlush s
  | .powerRequestNow req target => Sys2Proof.Machine.execPowerRequestNow req target s
  | .powerRequestAt req target => Sys2Proof.Machine.execPowerRequestAt req target s
  | .powerRequestCancel req => Sys2Proof.Machine.execPowerRequestCancel req s
  | .powerRequestDue => Sys2Proof.Machine.execPowerRequestDue s
  | .powerEntryComplete => Sys2Proof.Machine.execPowerEntryComplete s
  | .powerEntryDrainTimeout => Sys2Proof.Machine.execPowerEntryDrainTimeout s
  | .wakeRequest source => Sys2Proof.Machine.execWakeRequest source s
  | .dvfsChange => Sys2Proof.Machine.execDvfsChange s
  | .thermalCapStep => Sys2Proof.Machine.execThermalCapStep s
  | .supplyTransactionStart => Sys2Proof.Machine.execSupplyTransactionStart s
  | .supplyAck => Sys2Proof.Machine.execSupplyAck s
  | .supplyNackRetry => Sys2Proof.Machine.execSupplyNackRetry s
  | .supplyTimeout => Sys2Proof.Machine.execSupplyTimeout s
  | .powerDieStart => Sys2Proof.Machine.execPowerDieStart s
  | .inputLoss => Sys2Proof.Machine.execInputLoss s
  | .inputReturn => Sys2Proof.Machine.execInputReturn s
  | .rideExpiry bankLow => Sys2Proof.Machine.execRideExpiry bankLow s
  | .coldStart cause longLow => Sys2Proof.Machine.execColdStart cause longLow s
  | .enableLow => Sys2Proof.Machine.execEnableLow s
  | .detachRequest => Sys2Proof.Machine.execDetachRequest s
  | .detachGo req => Sys2Proof.Machine.execDetachGo req s
  | .detachWaitExpiry => Sys2Proof.Machine.execDetachWaitExpiry s
  | .detachCancel => Sys2Proof.Machine.execDetachCancel s
  | .monitorSample kind index value => Sys2Proof.Machine.execMonitorSample kind index value s
  | .lockstepMismatch => Sys2Proof.Machine.execLockstepMismatch s
  | .watchdogKick => Sys2Proof.Machine.execWatchdogKick s
  | .watchdogExpiry => Sys2Proof.Machine.execWatchdogExpiry s
  | .doorbellWrite req value => Sys2Proof.Machine.execDoorbellWrite req value s
  | .doorbellAck => Sys2Proof.Machine.execDoorbellAck s
  | .doorbellTimeout => Sys2Proof.Machine.execDoorbellTimeout s
  | .kprRestart slot => Sys2Proof.Machine.execKprRestart slot s
  | .workStart slot => Sys2Proof.Machine.execWorkStart slot s
  | .kprWarm slot => Sys2Proof.Machine.execKprWarm slot s
  | .imgPages slot => Sys2Proof.Machine.execImgPages slot s
  | .imgActivate slot => Sys2Proof.Machine.execImgActivate slot s
  | .imgConfirm slot => Sys2Proof.Machine.execImgConfirm slot s
  | .keyLoadw slot => Sys2Proof.Machine.execKeyLoadw slot s
  | .keyTransport slot => Sys2Proof.Machine.execKeyTransport slot s
  | .keyClear slot => Sys2Proof.Machine.execKeyClear slot s
  | .keyWrap slot => Sys2Proof.Machine.execKeyWrap slot s
  | .authKey slot => Sys2Proof.Machine.execAuthKey slot s
  | .revoke slot => Sys2Proof.Machine.execRevoke slot s
  | .rearm slot => Sys2Proof.Machine.execRearm slot s
  | .kprAlarm slot => Sys2Proof.Machine.execKprAlarm slot s
  | .calSave slot => Sys2Proof.Machine.execCalSave slot s
  | .passLoad req slot => Sys2Proof.Machine.execPassLoad req slot s
  | .passVerifyDone => Sys2Proof.Machine.execPassVerifyDone s
  | .passRelease req slot => Sys2Proof.Machine.execPassRelease req slot s
  | .passSlotEnd slot => Sys2Proof.Machine.execPassSlotEnd slot s
  | .timeFloorWrite => Sys2Proof.Machine.execTimeFloorWrite s
  | .trialRevert => Sys2Proof.Machine.execTrialRevert s
  | .snowploughWaitExpiry => Sys2Proof.Machine.execSnowploughWaitExpiry s
  | .coreDoubleFault core => Sys2Proof.Machine.execCoreDoubleFault core s
  | .allCoresHeldExpiry => Sys2Proof.Machine.execAllCoresHeldExpiry s
  | .kprHoldWrite value => Sys2Proof.Machine.execKprHoldWrite value s
  | .serialStart req unit => Sys2Proof.Machine.execSerialStart req unit s
  | .serialAbort req unit => Sys2Proof.Machine.execSerialAbort req unit s
  | .serialComplete unit data failed moved => Sys2Proof.Machine.execSerialComplete unit data failed moved s
  | .uartByteRx unit byte stop => Sys2Proof.Machine.execUartByteRx unit byte stop s
  | .pinSerRxRead req unit => Sys2Proof.Machine.execPinSerRxRead req unit s
  | .gpioSample levels => Sys2Proof.Machine.execGpioSample levels s
  | .extest => Sys2Proof.Machine.execExtest s
  | .idcode => Sys2Proof.Machine.execIdcode s
  | .samplePreload cells => Sys2Proof.Machine.execSamplePreload cells s
  | .bypass code => Sys2Proof.Machine.execBypass code s
  | .iblekDebug core halt => Sys2Proof.Machine.execIblekDebug core halt s
  | .ref10Arrival => Sys2Proof.Machine.execRef10Arrival s
  | .nandEraseDone block failed => Sys2Proof.Machine.execNandEraseDone block failed s
  | .rebuildDone => Sys2Proof.Machine.execRebuildDone s
  | .bankCharged => Sys2Proof.Machine.execBankCharged s
  | .testLogicReset => Sys2Proof.Machine.execTestLogicReset s

end Sys2Proof.Machine
end

