-- ==== Sys2Proof/Machine/Words.lean ====
section
/-!
DEFINITION. An instruction as a core meets it in memory (R76, R79, R80): the word at its pc, and what the word does. Commands come to
the block already spelt out; these operations say which command a word is, and that every other word is illegal.
-/
namespace Sys2Proof.Machine

/-- The word at the pc of core c, where its fetch reaches memory: local memory in the core's own view, else the address map. The
content of the Keeper's boot ROM is not given (log entry 100). -/
def State.wordAt (s : State) (c : Nat) : Option Nat :=
  match s.translate c .fetch (s.core c).pc.toNat with
  | .to pa _ _ =>
    if !fetchable c pa then none
    else if localMem c pa then some (s.localRead c pa 4)
    else if c = 23 then none
    else some (s.rdLe pa 4)
  | _ => none

/-- Core c runs a word: the command it spells, or an illegal instruction (R80). -/
def execWord (c : Fin 24) (w : Nat) (s : State) : Out :=
  match decodeIblek c w with
  | some i => exec i s
  | none => .next (s.ins c .base false w id)

/-- Core c runs the instruction at its pc; where none can be fetched, an instruction's frame gives the exception or the wait. -/
def execNext (c : Fin 24) (s : State) : Out :=
  match s.wordAt c with
  | some w => execWord c w s
  | none => .next (s.ins c .base false 0 id)

end Sys2Proof.Machine
end

