-- ==== Sys2Proof/Safety.lean ====
section
/-!
DEFINITION. What counts as a safe state and a safe step, in the terms the claims use: the tables of a state are in their canonical
form, and a step neither touches the commands that wait, nor runs the clock back, nor hands out a free value twice.
-/
namespace Sys2Proof.Machine

/-- The canonical form of memory: addresses strictly rising, no entry equal to what an unlisted address reads as. -/
abbrev Memory.wf (m : List Host.Cell) : Prop := SMap.wf memDefault m = true

/-- The shared tables of a state are in canonical form, so that equal contents are equal data: memory, the Keeper's local memory,
registers, their shadow values, cores and slot engines. -/
structure State.Canonical (s : State) : Prop where
  mem    : Memory.wf s.mem
  kprMem : SMap.wf (fun _ => (0 : Byte)) s.kprMem = true
  regs   : SMap.wf resetWord s.regs = true
  shadow : SMap.wf resetWord s.shadow = true
  cores  : SMap.wf coreReset s.cores = true
  eng    : SMap.wf (fun _ => Engine.reset) s.eng = true

/-- State b can follow state a: the same commands wait, elapsed time has not run back, no free value has been put back, and canonical
tables have stayed canonical. -/
structure State.Follows (a b : State) : Prop where
  queue : b.pending = a.pending
  time  : a.ticks ≤ b.ticks
  fresh : a.freeCtr ≤ b.freeCtr
  form  : a.Canonical → b.Canonical

end Sys2Proof.Machine
end

