-- ==== Sys2Proof/WellFormed.lean ====
section
/-!
DEFINITION. Which commands are well formed: the ranges that the operand types leave open. A command that is not well formed is
still given an outcome by the machine; WellFormed says which commands an outside world that follows the spec can send.
-/
namespace Sys2Proof

open Sys2Proof.Machine

/-- A requester: a core number of R20, or 31, the host link. -/
def reqOk (r : Fin 32) : Bool := decide (r.val ≤ 23) || decide (r.val = 31)
/-- A register address: a whole word of the register range (Table 02-1). -/
def regOk (a : BitVec 40) : Bool := decide (a.toNat % 4 = 0) && isReg a.toNat
/-- The parts of the wide value that an address belongs to, lowest first. -/
def widePartsOf (a : BitVec 40) : List Nat := ((locate a.toNat).bind wideGroup).getD []
/-- The address of part n of a wide value (R40). -/
def widePart (a : BitVec 40) (n : Nat) : Bool := (widePartsOf a)[n]? == some a.toNat
/-- A part of a wide value below its highest. -/
def wideLower (a : BitVec 40) : Bool := (widePartsOf a).dropLast.contains a.toNat
/-- The highest part of a wide value. -/
def wideHighest (a : BitVec 40) : Bool := (widePartsOf a).getLast? == some a.toNat
/-- An address of a shadow view (R46). -/
def shadowOk (a : BitVec 40) : Bool := regOk a && ((locate a.toNat).elim false (fun p => p.shadow))
/-- A function that the map has (Table 02-19). -/
def fnOk (x : FnRef) : Bool := fnExists x.entry.val x.inst.val x.f.val
/-- A lane of a radio's pool (R169). -/
def laneOk (r : Fin 3) (n : Byte) : Bool := decide (n.toNat < laneMax r.val)
/-- A list of at most n bytes. -/
def bytesUpTo (n : Nat) (l : List Byte) : Bool := decide (l.length ≤ n)
/-- Whole I and Q pairs. -/
def pairsOk (l : List (BitVec 16)) : Bool := decide (l.length % 2 = 0)
/-- A descriptor of 32 bytes (Table 11-21). -/
def descOk (l : List Byte) : Bool := decide (l.length = 32)
/-- A sensor that exists: 16 temperatures, 24 voltages, 8 process monitors (R374). -/
def sensorOk (kind : Fin 3) (i : Byte) : Bool := decide (i.toNat < (if kind.val = 0 then 16 else if kind.val = 1 then 24 else 8))
/-- A control core. -/
def controlCore (c : Fin 24) : Bool := decide (c.val ≤ 3)
/-- A mode code of the radio (Table 07-1). -/
def modeOk (r : Fin 3) (m : Byte) : Bool := (modeInfo r.val m.toNat).isSome
/-- A code of no other instruction of the debug port (R412). -/
def bypassCode (c : Byte) : Bool := !(c == 0x00 || c == 0x01 || c == 0x02)

/-- The command is well formed. -/
def Instr.wf : Instr → Bool
  | .registerWrite req addr _ => reqOk req && regOk addr
  | .accessStallEnd req => reqOk req
  | .domainLingerExpiry _ => true
  | .rcFieldRead req addr => reqOk req && regOk addr
  | .wideValueLowRead req addr => reqOk req && widePart addr 0
  | .wideValueLowWrite req addr _ => reqOk req && wideLower addr
  | .wideValueHighWrite req addr _ => reqOk req && wideHighest addr
  | .shadowWrite req addr _ => reqOk req && shadowOk addr
  | .swapRequest req _ => reqOk req
  | .swapCancel req _ => reqOk req
  | .swapTakeEffect _ => true
  | .fnEnable req fn => reqOk req && fnOk fn
  | .fnDisable req fn => reqOk req && fnOk fn
  | .fnStartDone fn => fnOk fn
  | .fnStartFail fn => fnOk fn
  | .fnSafePoint fn => fnOk fn
  | .fnStopDone fn => fnOk fn
  | .fnStopFail fn => fnOk fn
  | .ntTick => true
  | .slewEnd => true
  | .ntIncrWrite req _ _ => reqOk req
  | .markCoarse req _ _ _ => reqOk req
  | .markFine req _ _ => reqOk req
  | .refSrcWrite req _ => reqOk req
  | .refLost => true
  | .refReturn => true
  | .ntStep req _ _ => reqOk req
  | .ntLoad req _ _ => reqOk req
  | .tselSwitch req _ => reqOk req
  | .captureEdge _ _ _ => true
  | .todByteRx _ _ _ => true
  | .todDataRead req _ => reqOk req
  | .ppsOutEdge _ => true
  | .ppsPulseEnd _ => true
  | .tsyncFrameSend => true
  | .tsyncFrameRx _ => true
  | .add _ _ _ _ => true
  | .sub _ _ _ _ => true
  | .and_ _ _ _ _ => true
  | .or_ _ _ _ _ => true
  | .xor _ _ _ _ => true
  | .slt _ _ _ _ => true
  | .sltu _ _ _ _ => true
  | .sll _ _ _ _ => true
  | .srl _ _ _ _ => true
  | .sra _ _ _ _ => true
  | .ror _ _ _ _ => true
  | .addw _ _ _ _ => true
  | .subw _ _ _ _ => true
  | .sllw _ _ _ _ => true
  | .srlw _ _ _ _ => true
  | .sraw _ _ _ _ => true
  | .mul _ _ _ _ => true
  | .mulh _ _ _ _ => true
  | .mulhu _ _ _ _ => true
  | .mulhsu _ _ _ _ => true
  | .div _ _ _ _ => true
  | .divu _ _ _ _ => true
  | .rem_ _ _ _ _ => true
  | .remu _ _ _ _ => true
  | .min _ _ _ _ => true
  | .max _ _ _ _ => true
  | .minu _ _ _ _ => true
  | .maxu _ _ _ _ => true
  | .clz _ _ _ => true
  | .ctz _ _ _ => true
  | .popc _ _ _ => true
  | .bswap _ _ _ => true
  | .selnz _ _ _ _ => true
  | .addi _ _ _ _ => true
  | .andi _ _ _ _ => true
  | .ori _ _ _ _ => true
  | .xori _ _ _ _ => true
  | .slti _ _ _ _ => true
  | .sltiu _ _ _ _ => true
  | .shi _ _ _ _ => true
  | .addiw _ _ _ _ => true
  | .lui _ _ _ => true
  | .auipc _ _ _ => true
  | .jal _ _ _ => true
  | .jalr _ _ _ _ => true
  | .beq _ _ _ _ => true
  | .bne _ _ _ _ => true
  | .blt _ _ _ _ => true
  | .bge _ _ _ _ => true
  | .bltu _ _ _ _ => true
  | .bgeu _ _ _ _ => true
  | .lb _ _ _ _ => true
  | .lbu _ _ _ _ => true
  | .lh _ _ _ _ => true
  | .lhu _ _ _ _ => true
  | .lw _ _ _ _ => true
  | .lwu _ _ _ _ => true
  | .ld _ _ _ _ => true
  | .sb _ _ _ _ => true
  | .sh _ _ _ _ => true
  | .sw _ _ _ _ => true
  | .sd _ _ _ _ => true
  | .flw _ _ _ _ => true
  | .fld _ _ _ _ => true
  | .fsw _ _ _ _ => true
  | .fsd _ _ _ _ => true
  | .lr _ _ _ _ _ _ => true
  | .sc _ _ _ _ _ _ _ => true
  | .swapAtomic _ _ _ _ _ _ _ => true
  | .aadd _ _ _ _ _ _ _ => true
  | .aand _ _ _ _ _ _ _ => true
  | .aor _ _ _ _ _ _ _ => true
  | .axor _ _ _ _ _ _ _ => true
  | .amin _ _ _ _ _ _ _ => true
  | .amax _ _ _ _ _ _ _ => true
  | .aminu _ _ _ _ _ _ _ => true
  | .amaxu _ _ _ _ _ _ _ => true
  | .cas _ _ _ _ _ _ _ => true
  | .fadd _ _ _ _ _ _ => true
  | .fsub _ _ _ _ _ _ => true
  | .fmul _ _ _ _ _ _ => true
  | .fdiv _ _ _ _ _ _ => true
  | .fsqrt _ _ _ _ _ => true
  | .fmin _ _ _ _ _ _ => true
  | .fmax _ _ _ _ _ _ => true
  | .fsgnj _ _ _ _ _ _ => true
  | .fsgnjn _ _ _ _ _ _ => true
  | .fsgnjx _ _ _ _ _ _ => true
  | .feq _ _ _ _ _ _ => true
  | .flt _ _ _ _ _ _ => true
  | .fle _ _ _ _ _ _ => true
  | .fclass _ _ _ _ _ => true
  | .fcvtFI _ _ _ _ _ => true
  | .fcvtFIu _ _ _ _ _ => true
  | .fcvtIF _ _ _ _ _ => true
  | .fcvtIuF _ _ _ _ _ => true
  | .fcvtP _ _ _ _ _ => true
  | .fmvIF _ _ _ _ _ => true
  | .fmvFI _ _ _ _ _ => true
  | .fmadd _ _ _ _ _ _ _ => true
  | .fmsub _ _ _ _ _ _ _ => true
  | .fnmadd _ _ _ _ _ _ _ => true
  | .fnmsub _ _ _ _ _ _ _ => true
  | .srswap _ _ _ _ => true
  | .srset _ _ _ _ => true
  | .srclr _ _ _ _ => true
  | .ecall _ => true
  | .ebreak _ => true
  | .eret _ => true
  | .wfi _ => true
  | .fence _ _ _ => true
  | .isync _ => true
  | .tlbinv _ _ _ _ => true
  | .impreciseStoreError _ _ _ => true
  | .interruptEntry _ => true
  | .wfiResume _ => true
  | .ntrd _ _ _ => true
  | .waitnt _ _ => true
  | .attick _ _ => true
  | .timedTargetReached _ => true
  | .evtrig _ _ _ => true
  | .evwait _ _ _ => true
  | .evwaitPulse _ => true
  | .evwaitTimeout _ => true
  | .eventDelivery => true
  | .tx _ _ _ _ _ => true
  | .rx _ _ _ _ _ => true
  | .listen _ _ _ _ _ => true
  | .tune _ _ _ _ _ => true
  | .cal _ _ _ _ _ => true
  | .ant _ _ _ _ _ => true
  | .cca _ _ _ _ _ => true
  | .pareq _ _ _ _ _ => true
  | .idle_ _ _ _ _ _ => true
  | .abort _ _ _ _ _ => true
  | .slot _ _ _ _ _ => true
  | .abortEffect _ _ => true
  | .queuedCommandBegin _ _ => true
  | .txLastBit _ _ => true
  | .rxWindowClose _ _ => true
  | .ccaEnd _ _ _ => true
  | .calStepEnd _ _ _ => true
  | .femSequenceEnd _ => true
  | .femAutoSequence _ _ _ => true
  | .synthMoveStart _ _ => true
  | .synthLock _ _ => true
  | .txRegulatoryCheck _ _ => true
  | .lockCheck _ _ => true
  | .lbtDecision _ _ _ => true
  | .transmitPathBegin _ _ => true
  | .listenResume _ _ => true
  | .calSetApply _ _ => true
  | .calGapTimeout _ _ => true
  | .seLmDataAccess req _ _ => reqOk req
  | .sePost req _ _ => reqOk req
  | .sePop req _ => reqOk req
  | .seEvpost req _ _ => reqOk req
  | .accNextRead req _ => reqOk req
  | .regRegionWrite req _ => reqOk req
  | .meterRecomputeDone => true
  | .dutyRecordExpire => true
  | .preambleDetect radio _ mode _ _ _ _ => modeOk radio mode
  | .syncFound radio lane _ => laneOk radio lane
  | .syncTimeout radio lane => laneOk radio lane
  | .headerDecoded radio lane _ => laneOk radio lane
  | .frameEnd radio lane psdu _ => laneOk radio lane && bytesUpTo 16383 psdu
  | .captureSpanEnd _ samples => pairsOk samples
  | .expand => true
  | .captureRelease => true
  | .lapBoundary _ => true
  | .guardInstant _ _ _ => true
  | .occurrenceOffer _ _ _ => true
  | .occurrenceSkip _ _ _ => true
  | .accWrite req _ _ => reqOk req
  | .editRead req _ _ => reqOk req
  | .accLoad req _ _ => reqOk req
  | .accCopy req _ _ => reqOk req
  | .accEditComplete _ => true
  | .contendWindowOpen _ _ _ => true
  | .contendAttemptComplete _ _ => true
  | .contendWindowClose _ _ => true
  | .linkHeaderClassify => true
  | .contextFetchDone => true
  | .frameAccept => true
  | .ackOpportunity => true
  | .lnkRegister req => reqOk req
  | .unregister req => reqOk req
  | .contextRead req => reqOk req
  | .setcfg req => reqOk req
  | .resetdrift req => reqOk req
  | .lnkCmdComplete => true
  | .drlLostRead req => reqOk req
  | .parserAccept => true
  | .injectionServe => true
  | .passEnd => true
  | .versionRetire => true
  | .sweepDone => true
  | .addEntry req => reqOk req
  | .rtrDel req => reqOk req
  | .setdef req => reqOk req
  | .routerRead req => reqOk req
  | .routerEditComplete => true
  | .commitNow req => reqOk req
  | .commitAtNt req => reqOk req
  | .commitCancel req => reqOk req
  | .commitTakeEffect => true
  | .portTransmitChoice _ _ desc => (descOk desc || desc.isEmpty)
  | .wheelAdvance => true
  | .gateChange _ => true
  | .slalomListStart _ => true
  | .sampleSweep => true
  | .tq0Launch _ => true
  | .ethFrameTxEnd _ => true
  | .ethFrameRx _ frame _ _ => bytesUpTo 9600 frame
  | .linkStateChange _ _ _ _ _ _ => true
  | .wakePatternMatch frame => bytesUpTo 9600 frame
  | .hostTxServe desc _ => descOk desc
  | .pcieDoorbell req _ => reqOk req
  | .tmGateAccess req _ => reqOk req
  | .bitSetStore req _ _ _ => reqOk req
  | .bitClearStore req _ _ _ => reqOk req
  | .patrolRegion _ _ => true
  | .recordCommit => true
  | .queueItemHeldPost => true
  | .rqPop req _ => reqOk req
  | .rqReadWrite req _ _ => reqOk req
  | .rqMark req _ => reqOk req
  | .rewind req _ => reqOk req
  | .release_ req _ => reqOk req
  | .queueEnable req _ _ => reqOk req
  | .queueDisable req _ => reqOk req
  | .queueDrainEnd _ => true
  | .poolEnable req _ _ => reqOk req
  | .poolDisable req _ => reqOk req
  | .poolDrainEnd _ => true
  | .poolStashRead req _ => reqOk req
  | .dramRefresh _ _ => true
  | .sentinelSweep _ _ => true
  | .post_ _ _ _ level => decide (level.toNat ≤ 7)
  | .wdDone _ _ _ => true
  | .doneIdleTimeout _ => true
  | .lckTake _ _ _ => true
  | .lckGive _ _ _ => true
  | .takev _ _ _ => true
  | .givev _ _ _ => true
  | .lckForceRelease req _ => reqOk req
  | .svc _ _ _ _ _ => true
  | .arbiterGrant _ => true
  | .backoffExpiry => true
  | .serviceCompletion _ => true
  | .sequenceCutOff _ => true
  | .sequenceBreak req => reqOk req
  | .seal _ => true
  | .open_ _ => true
  | .encRaw _ => true
  | .decRaw _ => true
  | .cipherImport _ => true
  | .sha256 _ => true
  | .cphInval req _ => reqOk req
  | .counterSettle _ => true
  | .loadw req _ => reqOk req
  | .loadp req _ => reqOk req
  | .wrap req _ => reqOk req
  | .kstClear req _ => reqOk req
  | .arm req _ => reqOk req
  | .whiteout req _ => reqOk req
  | .tamperCheck _ _ => true
  | .alarmRaised _ _ => true
  | .storeRead => true
  | .storeWrite => true
  | .coldRead => true
  | .coldWrite => true
  | .ckpt => true
  | .export_ => true
  | .ledgerImport => true
  | .imgBegin => true
  | .imgWrite => true
  | .imgRead => true
  | .calAppend => true
  | .calRead => true
  | .audAppend => true
  | .audRead => true
  | .kwrite => true
  | .kread => true
  | .journalEntryDurable => true
  | .journalApply => true
  | .checkpoint _ => true
  | .nandProgramDone _ _ => true
  | .garbageCollect => true
  | .wearLevelMove => true
  | .nandScrub _ => true
  | .mramScrub => true
  | .holdupFlush => true
  | .powerRequestNow req _ => reqOk req
  | .powerRequestAt req _ => reqOk req
  | .powerRequestCancel req => reqOk req
  | .powerRequestDue => true
  | .powerEntryComplete => true
  | .powerEntryDrainTimeout => true
  | .wakeRequest _ => true
  | .dvfsChange => true
  | .thermalCapStep => true
  | .supplyTransactionStart => true
  | .supplyAck => true
  | .supplyNackRetry => true
  | .supplyTimeout => true
  | .powerDieStart => true
  | .inputLoss => true
  | .inputReturn => true
  | .rideExpiry _ => true
  | .coldStart _ _ => true
  | .enableLow => true
  | .detachRequest => true
  | .detachGo req => reqOk req
  | .detachWaitExpiry => true
  | .detachCancel => true
  | .monitorSample kind index _ => sensorOk kind index
  | .lockstepMismatch => true
  | .watchdogKick => true
  | .watchdogExpiry => true
  | .doorbellWrite req _ => reqOk req
  | .doorbellAck => true
  | .doorbellTimeout => true
  | .kprRestart _ => true
  | .workStart _ => true
  | .kprWarm _ => true
  | .imgPages _ => true
  | .imgActivate _ => true
  | .imgConfirm _ => true
  | .keyLoadw _ => true
  | .keyTransport _ => true
  | .keyClear _ => true
  | .keyWrap _ => true
  | .authKey _ => true
  | .revoke _ => true
  | .rearm _ => true
  | .kprAlarm _ => true
  | .calSave _ => true
  | .passLoad req _ => reqOk req
  | .passVerifyDone => true
  | .passRelease req _ => reqOk req
  | .passSlotEnd _ => true
  | .timeFloorWrite => true
  | .trialRevert => true
  | .snowploughWaitExpiry => true
  | .coreDoubleFault core => controlCore core
  | .allCoresHeldExpiry => true
  | .kprHoldWrite _ => true
  | .serialStart req _ => reqOk req
  | .serialAbort req _ => reqOk req
  | .serialComplete _ _ _ _ => true
  | .uartByteRx _ _ _ => true
  | .pinSerRxRead req _ => reqOk req
  | .gpioSample _ => true
  | .extest => true
  | .idcode => true
  | .samplePreload _ => true
  | .bypass code => bypassCode code
  | .iblekDebug _ _ => true
  | .ref10Arrival => true
  | .nandEraseDone _ _ => true
  | .rebuildDone => true
  | .bankCharged => true
  | .testLogicReset => true

/-- A decidable proposition form. -/
abbrev Instr.WellFormed (i : Instr) : Prop := i.wf = true

end Sys2Proof
end

