-- ==== Sys2Proof/Certificates/Slice0/Obligations.lean ====
section
/-!
DEFINITION. The statements about the model, for the provers.
-/

namespace Sys2Proof.Machine

/-- Command c answers a next state on s, and P holds of it. -/
def Gives (c : Instr) (s : State) (P : State → Prop) : Prop := ∃ t, exec c s = .next t ∧ P t

/-- Core c can issue an instruction of a part now: it runs, its fetch is fine, and its kind has the part (R75, R110). -/
structure State.Issues (s : State) (c : Fin 24) (part : Part) : Prop where
  can   : s.mayIssue c = true
  fetch : ∃ leaf, s.fetch c = .fine leaf
  has   : hasPart (kindOf c) part = true

/-- The state an instruction of core c begins in once its fetch is fine: words with a wrong bit that it read are mended (R275), a
mark of a late ATTICK is spent (R118), and a translation just walked is kept (R102). -/
def State.begun (s : State) (c : Fin 24) : State :=
  match s.fetch c with
  | .fine leaf => ((s.fetchSeen c).dropLate c).cacheLeaf c leaf
  | _ => s

/-- Command c answers the state in which core has gone on by one instruction with v in register rd, v being computed from the
core as the instruction finds it. -/
def Computes (c : Instr) (s : State) (core : Fin 24) (rd : Fin 32) (v : Core → DWord) : Prop :=
  exec c s = .next ((s.begun core).advance core (fun x => x.setG rd (v x)))

/-- Bytes a to a + n − 1 are in order for an engine: no access to one of them fails (R44, R275, R292). -/
def State.Sound (s : State) (a n : Nat) : Prop := ∀ b, a ≤ b → b < a + n → s.shut b = false

/-- The constructors of the three-register integer forms. -/
abbrev Form3 := Fin 24 → Fin 32 → Fin 32 → Fin 32 → Instr

end Sys2Proof.Machine

open Sys2Proof Sys2Proof.Machine

/-- A step takes the command at the front and runs it on the state with the rest of the queue; an empty queue idles (log entry
16, the model's choice). -/
def Obligations.StepRunsTheFrontCommand : Prop :=
  (∀ (c : Instr) (rest : List Instr) (s : State), s.pending = c :: rest → step s = exec c { s with pending := rest }) ∧
  (∀ s : State, s.pending = [] → step s = .next s)

/-- Every failure the spec describes is a status code, a latch, an exception or a power state, so every command of every state
answers a next state; exec acts on everything but the queue. -/
def Obligations.EveryCommandCompletes : Prop :=
  ∀ (c : Instr) (s : State), ∃ t, exec c s = .next t ∧ t.pending = s.pending

/-- Every queue runs to its end, one command a step, first in, first out, from every state. -/
def Obligations.QueuedCommandsRunInOrder : Prop :=
  ∀ (s : State) (k : Nat), k ≤ s.pending.length →
    ∃ t, Sys2Proof.core.run k s = .next t ∧ t.pending = s.pending.drop k

/-- The canonical form is kept by every step from every state that has it, whatever command is at the front. -/
def Obligations.StepKeepsTablesCanonical : Prop :=
  ∀ s t : State, s.Canonical → step s = .next t → t.Canonical

/-- Reset has the invariant. -/
def Obligations.ResetIsCanonical : Prop := State.reset.Canonical ∧ State.reset.pending = []

/-- Elapsed time counts up only, through Off, cold starts and steps of network time alike; so does the counter of the model's
free values (log entry 3, the model's own field). -/
def Obligations.ElapsedTimeNeverRunsBack : Prop :=
  ∀ s t : State, step s = .next t → s.ticks ≤ t.ticks ∧ s.freeCtr ≤ t.freeCtr

/-- R77 on general registers: g0 is zero, every other register holds what was last written to it. Fields of registers (R12,
R39): setting one is exact and local. R10: multi-byte values are little-endian. -/
def Obligations.RegistersFieldsAndMemoryHoldWhatIsWritten : Prop :=
  (∀ (x : Core) (r q : Fin 32) (v : DWord),
     x.gr 0 = 0 ∧ x.setG 0 v = x ∧ (r ≠ 0 → (x.setG r v).gr r = v) ∧ (q ≠ r → (x.setG r v).gr q = x.gr q)) ∧
  (∀ (s : State) (f g : FRef) (v : Nat), f.msb ≤ 31 →
     (s.setFld f v).fld f = v % 2 ^ (f.msb + 1 - f.lsb) ∧
     (g.addr ≠ f.addr ∨ g.msb < f.lsb ∨ f.msb < g.lsb → (s.setFld f v).fld g = s.fld g)) ∧
  (∀ (s : State) (a n v b : Nat),
     leNat ((s.wrLe a n v).stored a n) = v % 256 ^ n ∧
     (∀ i, i < n → (s.wrLe a n v).byte (a + i) = BitVec.ofNat 8 (v / 256 ^ i)) ∧
     (b < a ∨ a + n ≤ b → (s.wrLe a n v).byte b = s.byte b))

namespace Sys2Proof.Machine

/-- Table 04-4, the sums, logic, comparisons and choices, in exact arithmetic on the operands' numbers. -/
def arithForms : List (Form3 × (DWord → DWord → DWord)) :=
  [(Instr.add, fun x y => BitVec.ofNat 64 (x.toNat + y.toNat)),
   (Instr.sub, fun x y => BitVec.ofInt 64 ((x.toNat : Int) - y.toNat)),
   (Instr.and_, fun x y => x &&& y), (Instr.or_, fun x y => x ||| y), (Instr.xor, fun x y => x ^^^ y),
   (Instr.slt, fun x y => if x.toInt < y.toInt then 1 else 0),
   (Instr.sltu, fun x y => if x.toNat < y.toNat then 1 else 0),
   (Instr.addw, fun x y => BitVec.ofInt 64 (sgn 32 (x.toNat + y.toNat))),
   (Instr.subw, fun x y => BitVec.ofInt 64 (sgn 32 (x.toNat + (2 ^ 64 - y.toNat)))),
   (Instr.min, fun x y => if x.toInt ≤ y.toInt then x else y),
   (Instr.max, fun x y => if x.toInt ≤ y.toInt then y else x),
   (Instr.minu, fun x y => if x.toNat ≤ y.toNat then x else y),
   (Instr.maxu, fun x y => if x.toNat ≤ y.toNat then y else x)]

/-- Table 04-4, the shifts by a register, in exact arithmetic. -/
def shiftForms : List (Form3 × (DWord → DWord → DWord)) :=
  [(Instr.sll, fun x y => BitVec.ofNat 64 (x.toNat * 2 ^ (y.toNat % 64))),
   (Instr.srl, fun x y => BitVec.ofNat 64 (x.toNat / 2 ^ (y.toNat % 64))),
   (Instr.sra, fun x y => BitVec.ofInt 64 (x.toInt / 2 ^ (y.toNat % 64))),
   (Instr.ror, fun x y => BitVec.ofNat 64 (x.toNat / 2 ^ (y.toNat % 64) + x.toNat * 2 ^ (64 - y.toNat % 64))),
   (Instr.sllw, fun x y => BitVec.ofInt 64 (sgn 32 (x.toNat * 2 ^ (y.toNat % 32)))),
   (Instr.srlw, fun x y => BitVec.ofInt 64 (sgn 32 (x.toNat % 2 ^ 32 / 2 ^ (y.toNat % 32)))),
   (Instr.sraw, fun x y => BitVec.ofInt 64 (sgn 32 x.toNat / 2 ^ (y.toNat % 32)))]

/-- Table 04-4, the products. -/
def productForms : List (Form3 × (DWord → DWord → DWord)) :=
  [(Instr.mul, fun x y => BitVec.ofInt 64 (x.toInt * y.toInt)),
   (Instr.mulh, fun x y => BitVec.ofInt 64 (x.toInt * y.toInt / 2 ^ 64)),
   (Instr.mulhu, fun x y => BitVec.ofNat 64 (x.toNat * y.toNat / 2 ^ 64)),
   (Instr.mulhsu, fun x y => BitVec.ofInt 64 (x.toInt * y.toNat / 2 ^ 64))]

/-- Table 04-4, quotients and remainders for a divisor that is not 0: truncated toward zero, the remainder with the sign of x. -/
def quotientForms : List (Form3 × (DWord → DWord → DWord)) :=
  [(Instr.div, fun x y => BitVec.ofInt 64 (Int.tdiv x.toInt y.toInt)),
   (Instr.divu, fun x y => BitVec.ofNat 64 (x.toNat / y.toNat)),
   (Instr.rem_, fun x y => BitVec.ofInt 64 (Int.tmod x.toInt y.toInt)),
   (Instr.remu, fun x y => BitVec.ofNat 64 (x.toNat % y.toNat))]

end Sys2Proof.Machine

/-- R82 whole. -/
def Obligations.DivisionCornersOfR82 : Prop :=
  (∀ (core : Fin 24) (rd ra rb : Fin 32) (s : State), s.Issues core .divide →
    let x := ((s.begun core).core core).gr ra
    let y := ((s.begun core).core core).gr rb
    (y = 0 → Computes (.div core rd ra rb) s core rd (fun _ => 0xFFFFFFFFFFFFFFFF) ∧
      Computes (.divu core rd ra rb) s core rd (fun _ => 0xFFFFFFFFFFFFFFFF) ∧
      Computes (.rem_ core rd ra rb) s core rd (fun _ => x) ∧ Computes (.remu core rd ra rb) s core rd (fun _ => x)) ∧
    (x = 0x8000000000000000 ∧ y = 0xFFFFFFFFFFFFFFFF → Computes (.div core rd ra rb) s core rd (fun _ => x) ∧
      Computes (.rem_ core rd ra rb) s core rd (fun _ => 0))) ∧
  (∀ (core : Fin 24) (rd ra rb : Fin 32) (s : State), s.Issues core .base →
    let x := ((s.begun core).core core).gr ra
    let y := ((s.begun core).core core).gr rb
    (y ≠ 0 → Computes (.selnz core rd ra rb) s core rd (fun _ => x)) ∧
    (y = 0 → ∃ t, exec (.selnz core rd ra rb) s = .next t ∧
      ∀ r : Fin 32, (t.core core).gr r = ((s.begun core).core core).gr r))

/-- Products and quotients in exact arithmetic; R82 gives the corners. The four forms by what their results are, not by how
they are counted. -/
def Obligations.ProductsQuotientsAndBitCountsCompute : Prop :=
  ((∀ p ∈ productForms, ∀ (core : Fin 24) (rd ra rb : Fin 32) (s : State), s.Issues core .base →
     Computes (p.1 core rd ra rb) s core rd (fun x => p.2 (x.gr ra) (x.gr rb))) ∧
   (∀ p ∈ quotientForms, ∀ (core : Fin 24) (rd ra rb : Fin 32) (s : State), s.Issues core .divide →
     ((s.begun core).core core).gr rb ≠ 0 →
     Computes (p.1 core rd ra rb) s core rd (fun x => p.2 (x.gr ra) (x.gr rb)))) ∧
  (∀ (core : Fin 24) (rd ra : Fin 32) (s : State), s.Issues core .base →
     ∃ n m k : DWord → Nat, ∃ w : DWord → DWord,
       Computes (.clz core rd ra) s core rd (fun c => BitVec.ofNat 64 (n (c.gr ra))) ∧
       Computes (.ctz core rd ra) s core rd (fun c => BitVec.ofNat 64 (m (c.gr ra))) ∧
       Computes (.popc core rd ra) s core rd (fun c => BitVec.ofNat 64 (k (c.gr ra))) ∧
       Computes (.bswap core rd ra) s core rd (fun c => w (c.gr ra)) ∧
       (∀ x, n x ≤ 64 ∧ x.toNat < 2 ^ (64 - n x) ∧ (n x < 64 → 2 ^ (63 - n x) ≤ x.toNat)) ∧
       (∀ x, m x ≤ 64 ∧ (∀ i, i < m x → x.getLsbD i = false) ∧ (m x < 64 → x.getLsbD (m x) = true)) ∧
       (∀ x, k x = ((List.range 64).filter (fun i => x.getLsbD i)).length) ∧
       (∀ x i, i < 8 → (w x).toNat / 256 ^ i % 256 = x.toNat / 256 ^ (7 - i) % 256))

/-- Result and frame in one equation, with the result in exact integer arithmetic. The immediate forms of Table 04-4. -/
def Obligations.IntegerFormsComputeTable0404 : Prop :=
  (∀ p ∈ arithForms ++ shiftForms, ∀ (core : Fin 24) (rd ra rb : Fin 32) (s : State), s.Issues core .base →
     Computes (p.1 core rd ra rb) s core rd (fun x => p.2 (x.gr ra) (x.gr rb))) ∧
  (∀ (core : Fin 24) (rd ra : Fin 32) (imm : BitVec 16) (u : BitVec 21) (s : State), s.Issues core .base →
     Computes (.addi core rd ra imm) s core rd (fun c => BitVec.ofInt 64 ((c.gr ra).toInt + imm.toInt)) ∧
     Computes (.slti core rd ra imm) s core rd (fun c => if (c.gr ra).toInt < imm.toInt then 1 else 0) ∧
     Computes (.sltiu core rd ra imm) s core rd (fun c => if (c.gr ra).toNat < (BitVec.ofInt 64 imm.toInt).toNat then 1 else 0) ∧
     Computes (.addiw core rd ra imm) s core rd (fun c => BitVec.ofInt 64 (sgn 32 ((c.gr ra).toNat + (BitVec.ofInt 64 imm.toInt).toNat))) ∧
     Computes (.andi core rd ra imm) s core rd (fun c => c.gr ra &&& BitVec.ofNat 64 imm.toNat) ∧
     Computes (.ori core rd ra imm) s core rd (fun c => c.gr ra ||| BitVec.ofNat 64 imm.toNat) ∧
     Computes (.xori core rd ra imm) s core rd (fun c => c.gr ra ^^^ BitVec.ofNat 64 imm.toNat) ∧
     Computes (.lui core rd u) s core rd (fun _ => BitVec.ofInt 64 (u.toInt * 65536)) ∧
     Computes (.auipc core rd u) s core rd (fun c => BitVec.ofInt 64 (c.pc.toNat + u.toInt * 65536)) ∧
     (shiLegal imm = true → Computes (.shi core rd ra imm) s core rd (fun c => shiValue (c.gr ra) imm)) ∧
     (shiLegal imm = false → exec (.shi core rd ra imm) s = .next ((s.begun core).illegal core (encI 0x08 rd ra imm.toNat))))

/-- R85: targets are relative to the branch itself; comparisons in exact arithmetic. -/
def Obligations.BranchesAndJumps : Prop :=
  ∀ (core : Fin 24) (rd ra rb : Fin 32) (off : BitVec 16) (u : BitVec 21) (s : State), s.Issues core .base →
    let s0 := s.begun core
    let c := s0.core core
    let x := c.gr ra
    let y := c.gr rb
    let goes (p : Prop) (t : State) : Prop :=
      (p → t = s0.setCore core { c.next core with pc := BitVec.ofInt 64 (c.pc.toNat + 4 * off.toInt) }) ∧
      (¬ p → t = s0.setCore core (c.next core))
    Gives (.beq core ra rb off) s (goes (x = y)) ∧ Gives (.bne core ra rb off) s (goes (x ≠ y)) ∧
    Gives (.blt core ra rb off) s (goes (x.toInt < y.toInt)) ∧ Gives (.bge core ra rb off) s (goes (y.toInt ≤ x.toInt)) ∧
    Gives (.bltu core ra rb off) s (goes (x.toNat < y.toNat)) ∧ Gives (.bgeu core ra rb off) s (goes (y.toNat ≤ x.toNat)) ∧
    exec (.jal core rd u) s = .next (s0.setCore core { (c.setG rd (c.pc + 4)).next core with pc := BitVec.ofInt 64 (c.pc.toNat + 4 * u.toInt) }) ∧
    exec (.jalr core rd ra off) s =
      .next (s0.setCore core { (c.setG rd (c.pc + 4)).next core with pc := BitVec.ofInt 64 (((x.toNat + off.toInt) / 4) * 4) })

namespace Sys2Proof.Machine

/-- The constructors of the loads and stores: core, register, base register, immediate. -/
abbrev MemForm := Fin 24 → Fin 32 → Fin 32 → BitVec 16 → Instr
/-- Table 04-5, the integer loads: size in bytes, and whether the value is sign-extended. -/
def loadForms : List (MemForm × Nat × Bool) :=
  [(Instr.lb, 1, true), (Instr.lbu, 1, false), (Instr.lh, 2, true), (Instr.lhu, 2, false), (Instr.lw, 4, true),
   (Instr.lwu, 4, false), (Instr.ld, 8, true)]
/-- Table 04-5, the integer stores: size in bytes. -/
def storeForms : List (MemForm × Nat) := [(Instr.sb, 1), (Instr.sh, 2), (Instr.sw, 4), (Instr.sd, 8)]

/-- A number of n bytes as a loaded value: sign-extended or with zeros above. -/
def loaded (n v : Nat) (signed : Bool) : DWord :=
  if signed ∧ 2 ^ (8 * n - 1) ≤ v then BitVec.ofInt 64 ((v : Int) - 2 ^ (8 * n)) else BitVec.ofNat 64 v

/-- A core's access goes to plain memory: its virtual address has a translation, the place is DRAM or the scratchpad, the access is
judged to go on (Table 02-9), and no byte of it fails: none lies in the codes of an ECC region or in a word with two wrong bits
(R275, R292). -/
structure State.Plain (s : State) (c : Fin 24) (kind : MemKind) (va pa n : Nat) : Prop where
  core  : c.val ≤ 19
  trans : ∃ normal leaf, s.translate c kind va = .to pa normal leaf
  place : isDram pa = true ∨ isSpad pa = true
  go    : s.judge c pa n = .go
  sound : ∀ i, i < n → s.shut (pa + i) = false

/-- What core c has in its registers after an instruction that changes register rd alone: the pc four on, rd with v (unless g0),
every other general register, every f register and FCSR as before. -/
def Core.WroteG (x y : Core) (rd : Fin 32) (v : DWord) : Prop :=
  y.pc = x.pc + 4 ∧ (rd ≠ 0 → y.gr rd = v) ∧ (∀ r : Fin 32, r ≠ rd → y.gr r = x.gr r) ∧
  (∀ r : Fin 32, y.fr r = x.fr r) ∧ y.fcsr = x.fcsr ∧ y.status = x.status ∧ y.sup = x.sup
/-- The same for an f register. -/
def Core.WroteF (x y : Core) (fd : Fin 32) (v : DWord) : Prop :=
  y.pc = x.pc + 4 ∧ y.fr fd = v ∧ (∀ r : Fin 32, r ≠ fd → y.fr r = x.fr r) ∧
  (∀ r : Fin 32, y.gr r = x.gr r) ∧ y.fcsr = x.fcsr ∧ y.status = x.status ∧ y.sup = x.sup
/-- The same where no register changes. -/
def Core.WroteNone (x y : Core) : Prop :=
  y.pc = x.pc + 4 ∧ (∀ r : Fin 32, y.gr r = x.gr r) ∧ (∀ r : Fin 32, y.fr r = x.fr r) ∧ y.fcsr = x.fcsr ∧
  y.status = x.status ∧ y.sup = x.sup
/-- Memory after a store of the low n bytes of v at pa: those bytes and no other byte. -/
def State.Stored (s t : State) (pa n v : Nat) : Prop :=
  ∀ b, t.byte b = if pa ≤ b ∧ b < pa + n then BitVec.ofNat 8 (v / 256 ^ (b - pa)) else s.byte b

end Sys2Proof.Machine

/-- Local memory lies at physical address 0 of its own core (R76); the stored bytes are those at the effective address of R83. -/
def Obligations.LoadsAndStoresOfLocalMemory : Prop :=
  (∀ p ∈ loadForms, ∀ (core : Fin 24) (rd ra : Fin 32) (imm : BitVec 16) (s : State), s.Issues core .base →
    let s0 := s.begun core
    let a := BitVec.toNat (BitVec.ofInt 64 (((s0.core core).gr ra).toNat + imm.toInt))
    a % p.2.1 = 0 → localMem core a = true →
    Computes (p.1 core rd ra imm) s core rd (fun _ => loaded p.2.1 (s0.localRead core a p.2.1) p.2.2)) ∧
  (∀ (s : State) (c a n : Nat), s.localRead c a (n + 1) = s.localRead c a 1 + 256 * s.localRead c (a + 1) n) ∧
  (∀ p ∈ storeForms, ∀ (core : Fin 24) (rs ra : Fin 32) (imm : BitVec 16) (s : State), s.Issues core .base →
    let s0 := s.begun core
    let a := BitVec.toNat (BitVec.ofInt 64 (((s0.core core).gr ra).toNat + imm.toInt))
    a % p.2 = 0 → localMem core a = true → (core.val ≠ 23 → 0x4000 ≤ a) →
    Gives (p.1 core rs ra imm) s fun t =>
      t.core core = (s0.core core).next core ∧
      ∀ b, localMem core b = true → t.localRead core b 1 =
        if a ≤ b ∧ b < a + p.2 then ((s0.core core).gr rs).toNat / 256 ^ (b - a) % 256 else s0.localRead core b 1)

/-- The address stored to is the translation of the effective address. Work cores always have floating point; a control core
has it while STATUS.FPEN is 1 (R88). -/
def Obligations.PlainAndFloatingLoadsAndStores : Prop :=
  ((∀ p ∈ loadForms, ∀ (core : Fin 24) (rd ra : Fin 32) (imm : BitVec 16) (pa : Nat) (s : State), s.Issues core .base →
     let s0 := s.begun core
     let va := (s0.core core).ea ra imm
     va % p.2.1 = 0 → s0.Plain core .load va pa p.2.1 →
     Gives (p.1 core rd ra imm) s fun t =>
       (s0.core core).WroteG (t.core core) rd (loaded p.2.1 (leNat (s0.stored pa p.2.1)) p.2.2) ∧ ∀ b, t.byte b = s.byte b) ∧
   (∀ p ∈ storeForms, ∀ (core : Fin 24) (rs ra : Fin 32) (imm : BitVec 16) (pa : Nat) (s : State), s.Issues core .base →
     let s0 := s.begun core
     let va := (s0.core core).ea ra imm
     va % p.2 = 0 → s0.Plain core .store va pa p.2 →
     Gives (p.1 core rs ra imm) s fun t =>
       (s0.core core).WroteNone (t.core core) ∧ s.Stored t pa p.2 ((s0.core core).gr rs).toNat)) ∧
  (∀ (core : Fin 24) (f ra : Fin 32) (imm : BitVec 16) (pa : Nat) (s : State), s.Issues core .float →
     let s0 := s.begun core
     let x := s0.core core
     let va := x.ea ra imm
     (kindOf core = .work ∨ x.fpen = true) →
     (va % 4 = 0 → s0.Plain core .load va pa 4 →
       Gives (.flw core f ra imm) s fun t => x.WroteF (t.core core) f (BitVec.ofNat 64 (leNat (s0.stored pa 4))) ∧ ∀ b, t.byte b = s.byte b) ∧
     (va % 8 = 0 → s0.Plain core .load va pa 8 →
       Gives (.fld core f ra imm) s fun t => x.WroteF (t.core core) f (BitVec.ofNat 64 (leNat (s0.stored pa 8))) ∧ ∀ b, t.byte b = s.byte b) ∧
     (va % 4 = 0 → s0.Plain core .store va pa 4 →
       Gives (.fsw core f ra imm) s fun t => x.WroteNone (t.core core) ∧ s.Stored t pa 4 (x.fr f).toNat) ∧
     (va % 8 = 0 → s0.Plain core .store va pa 8 →
       Gives (.fsd core f ra imm) s fun t => x.WroteNone (t.core core) ∧ s.Stored t pa 8 (x.fr f).toNat))

/-- R83 and R86, with the entry of R92. -/
def Obligations.MisalignedAccessesTouchNoMemory : Prop :=
  ∀ (core : Fin 24) (r ra rb : Fin 32) (imm : BitVec 16) (dbl aq rl : Bool) (s : State), core.val ≤ 3 →
    s.Issues core .base → ((s.begun core).core core).exl = false →
    let x := (s.begun core).core core
    let enters (cause va : Nat) (t : State) : Prop :=
      (t.core core).epc = x.pc ∧ (t.core core).ecause = BitVec.ofNat 64 cause ∧ (t.core core).eaddr = BitVec.ofNat 64 va ∧
      (t.core core).pc = x.evec ∧ (∀ q : Fin 32, (t.core core).gr q = x.gr q) ∧ ∀ b, t.byte b = s.byte b
    (∀ p ∈ loadForms, x.ea ra imm % p.2.1 ≠ 0 → Gives (p.1 core r ra imm) s (enters 0x09 (x.ea ra imm))) ∧
    (∀ p ∈ storeForms, x.ea ra imm % p.2 ≠ 0 → Gives (p.1 core r ra imm) s (enters 0x0A (x.ea ra imm))) ∧
    ((x.gr ra).toNat % (if dbl then 8 else 4) ≠ 0 →
      Gives (.aadd core r ra rb dbl aq rl) s (enters 0x0A (x.gr ra).toNat) ∧
      Gives (.cas core r ra rb dbl aq rl) s (enters 0x0A (x.gr ra).toNat) ∧
      Gives (.sc core r ra rb dbl aq rl) s (enters 0x0A (x.gr ra).toNat))

namespace Sys2Proof.Machine

/-- The constructors of the atomic operations with an operand. -/
abbrev AtomForm := Fin 24 → Fin 32 → Fin 32 → Fin 32 → Bool → Bool → Bool → Instr
/-- Table 04-7: what memory becomes, from the earlier value m, the operand y and the earlier rd, all of w bits. -/
def atomForms : List (AtomForm × (Nat → Nat → Nat → Nat → Nat)) :=
  [(Instr.swapAtomic, fun _ _ y _ => y), (Instr.aadd, fun w m y _ => (m + y) % 2 ^ w), (Instr.aand, fun _ m y _ => m &&& y),
   (Instr.aor, fun _ m y _ => m ||| y), (Instr.axor, fun _ m y _ => m ^^^ y),
   (Instr.amin, fun w m y _ => if sgn w m ≤ sgn w y then m else y), (Instr.amax, fun w m y _ => if sgn w m ≤ sgn w y then y else m),
   (Instr.aminu, fun _ m y _ => if m ≤ y then m else y), (Instr.amaxu, fun _ m y _ => if m ≤ y then y else m),
   (Instr.cas, fun _ m y c => if m = c then y else m)]
/-- Width in bytes of an atomic operation. -/
def atomSize (dbl : Bool) : Nat := if dbl then 8 else 4

end Sys2Proof.Machine

/-- One indivisible step (R86): read and write are one next state. -/
def Obligations.AtomicOperationsReadThenWrite : Prop :=
  ∀ p ∈ atomForms, ∀ (core : Fin 24) (rd ra rb : Fin 32) (dbl aq rl : Bool) (pa : Nat) (s : State), s.Issues core .atom →
    let s0 := s.begun core
    let x := s0.core core
    let n := atomSize dbl
    let va := (x.gr ra).toNat
    let becomes (m : Nat) : Nat := p.2 (8 * n) m ((x.gr rb).toNat % 256 ^ n) ((x.gr rd).toNat % 256 ^ n)
    va % n = 0 →
    (s0.Plain core .atomic va pa n →
      Gives (p.1 core rd ra rb dbl aq rl) s fun t =>
        x.WroteG (t.core core) rd (loaded n (leNat (s0.stored pa n)) true) ∧ s.Stored t pa n (becomes (leNat (s0.stored pa n)))) ∧
    (core.val = 23 → va < 0x40000 →
      Gives (p.1 core rd ra rb dbl aq rl) s fun t =>
        x.WroteG (t.core core) rd (loaded n (s0.localRead 23 va n) true) ∧
        t.localRead 23 va n = becomes (s0.localRead 23 va n))

/-- R87, the three conditions of SC; the granule is the address divided by 64. -/
def Obligations.LoadReservedAndStoreConditional : Prop :=
  (∀ (s : State) (writer a : Nat) (bs : List Byte) (c g n : Nat), c < 24 → (s.core c).resv = some (g, n) →
    (c ≠ writer → c ≠ 23 ∨ isMbox a = true → 64 * g < a + bs.length → a < 64 * g + 64 →
      ((s.store writer a bs).core c).resv = none) ∧
    (c = writer ∨ (c = 23 ∧ isMbox a = false) ∨ a + bs.length ≤ 64 * g ∨ 64 * g + 64 ≤ a →
      ((s.store writer a bs).core c).resv = some (g, n))) ∧
  ∀ (core : Fin 24) (rd ra rb : Fin 32) (dbl aq rl : Bool) (pa : Nat) (s : State), s.Issues core .atom →
    let s0 := s.begun core
    let x := s0.core core
    let n := atomSize dbl
    let va := (x.gr ra).toNat
    va % n = 0 → s0.Plain core .atomic va pa n →
    (Gives (.lr core rd ra dbl aq rl) s fun t =>
      x.WroteG (t.core core) rd (loaded n (leNat (s0.stored pa n)) true) ∧ (t.core core).resv = some (pa / 64, n) ∧ ∀ b, t.byte b = s.byte b) ∧
    (x.resv = some (pa / 64, n) → Gives (.sc core rd ra rb dbl aq rl) s fun t =>
      x.WroteG (t.core core) rd 0 ∧ (t.core core).resv = none ∧ s.Stored t pa n (x.gr rb).toNat) ∧
    (x.resv ≠ some (pa / 64, n) → Gives (.sc core rd ra rb dbl aq rl) s fun t =>
      x.WroteG (t.core core) rd 1 ∧ (t.core core).resv = none ∧ ∀ b, t.byte b = s.byte b)

namespace Sys2Proof.Machine

/-- The constructors of the floating-point forms with two f operands and with one. -/
abbrev FloatForm3 := Fin 24 → Fin 32 → Fin 32 → Fin 32 → Bool → Fin 8 → Instr
/-- The constructors with one operand. -/
abbrev FloatForm2 := Fin 24 → Fin 32 → Fin 32 → Bool → Fin 8 → Instr

/-- A core can run a floating-point instruction with a rounding mode: it issues, floating point is enabled (R88), and the mode in
use is one of the five. -/
structure State.IssuesFloat (s : State) (c : Fin 24) (rm : Fin 8) : Prop where
  issues  : s.Issues c .float
  enabled : kindOf c = .work ∨ (s.core c).fpen = true
  mode    : (if rm = 7 then (s.core c).fcsr.toNat / 32 % 8 else rm.val) ≤ 4

/-- The rounding mode in use (R88): the instruction's, or FCSR.RM for 7. -/
def Core.modeInUse (x : Core) (rm : Fin 8) : Nat := if rm = 7 then x.fcsr.toNat / 32 % 8 else rm.val
/-- The low w bits of an f register, the operand of a format (R78). -/
def Core.lowF (x : Core) (w : Nat) (r : Fin 32) : Nat := (x.fr r).toNat % 2 ^ w

/-- Command c answers the state in which core's f register fd holds a result, with zeros above binary32, and FCSR has its flags
set beside those it held; nothing else but the pc and the count of the core changes. -/
def ComputesF (c : Instr) (s : State) (core : Fin 24) (fd : Fin 32) (r : Core → FRes) : Prop :=
  exec c s = .next ((s.begun core).advance core (fun x =>
    let y := x.setF fd (BitVec.ofNat 64 (r x).1)
    { y with fcsr := y.fcsr ||| BitVec.ofNat 64 ((r x).2 % 32) }))
/-- The same for a result in a general register. -/
def ComputesGF (c : Instr) (s : State) (core : Fin 24) (rd : Fin 32) (r : Core → FRes) : Prop :=
  exec c s = .next ((s.begun core).advance core (fun x =>
    let y := x.setG rd (BitVec.ofNat 64 (r x).1)
    { y with fcsr := y.fcsr ||| BitVec.ofNat 64 ((r x).2 % 32) }))

/-- Table 04-8, the forms that round a result of two operands: format, rounding mode, operands. -/
def roundedForms : List (FloatForm3 × (FloatFmt → Nat → Nat → Nat → FRes)) :=
  [(Instr.fadd, FloatFmt.add), (Instr.fsub, FloatFmt.sub), (Instr.fmul, FloatFmt.mul), (Instr.fdiv, FloatFmt.div)]

/-- The exact value of a finite number. -/
def FVal.exact : FVal → Option Rat
  | .fin n m e => some ((if n then -1 else 1) * (m : Rat) * (2 : Rat) ^ e)
  | _ => none

end Sys2Proof.Machine

/-- Table 04-8; the arithmetic is that of SoftFloat.lean, whose results other statements pin down. -/
def Obligations.FloatingArithmeticAnswers : Prop :=
  ∀ (core : Fin 24) (rd ra rb rc : Fin 32) (dbl : Bool) (rm : Fin 8) (s : State), s.IssuesFloat core rm →
    let f := fmtOf dbl
    let g := fmtOf (!dbl)
    (∀ p ∈ roundedForms, ComputesF (p.1 core rd ra rb dbl rm) s core rd (fun x => p.2 f (x.modeInUse rm) (x.lowF f.w ra) (x.lowF f.w rb))) ∧
    ComputesF (.fsqrt core rd ra dbl rm) s core rd (fun x => f.sqrt (x.modeInUse rm) (x.lowF f.w ra)) ∧
    ComputesF (.fmadd core rd ra rb rc dbl rm) s core rd
      (fun x => f.fma (x.modeInUse rm) (x.lowF f.w ra) (x.lowF f.w rb) (x.lowF f.w rc) false false) ∧
    ComputesF (.fmsub core rd ra rb rc dbl rm) s core rd
      (fun x => f.fma (x.modeInUse rm) (x.lowF f.w ra) (x.lowF f.w rb) (x.lowF f.w rc) false true) ∧
    ComputesF (.fnmadd core rd ra rb rc dbl rm) s core rd
      (fun x => f.fma (x.modeInUse rm) (x.lowF f.w ra) (x.lowF f.w rb) (x.lowF f.w rc) true false) ∧
    ComputesF (.fnmsub core rd ra rb rc dbl rm) s core rd
      (fun x => f.fma (x.modeInUse rm) (x.lowF f.w ra) (x.lowF f.w rb) (x.lowF f.w rc) true true) ∧
    ComputesF (.fcvtFI core rd ra dbl rm) s core rd (fun x => f.ofInt (x.modeInUse rm) (x.gr ra).toInt) ∧
    ComputesF (.fcvtFIu core rd ra dbl rm) s core rd (fun x => f.ofInt (x.modeInUse rm) (x.gr ra).toNat) ∧
    ComputesF (.fcvtP core rd ra dbl rm) s core rd (fun x => g.convert f (x.modeInUse rm) (x.lowF g.w ra)) ∧
    ComputesGF (.fcvtIF core rd ra dbl rm) s core rd (fun x => f.toInt (x.modeInUse rm) true (x.lowF f.w ra)) ∧
    ComputesGF (.fcvtIuF core rd ra dbl rm) s core rd (fun x => f.toInt (x.modeInUse rm) false (x.lowF f.w ra))

/-- The forms that round nothing, each by the bits of its operands or by their exact values. R88: one NaN only. -/
def Obligations.FloatingBitFormsAndNansAnswer : Prop :=
  (∀ (core : Fin 24) (rd ra rb : Fin 32) (dbl : Bool) (rm : Fin 8) (s : State), s.IssuesFloat core rm →
     let f := fmtOf dbl
     let x := (s.begun core).core core
     let a := x.lowF f.w ra
     let b := x.lowF f.w rb
     let top (v : Nat) : Bool := v.testBit (f.w - 1)
     let signed (n : Bool) : FRes := (a % 2 ^ (f.w - 1) + (if n then 2 ^ (f.w - 1) else 0), 0)
     let ex := a / 2 ^ (f.p - 1) % 2 ^ (f.w - f.p)
     let frac := a % 2 ^ (f.p - 1)
     let ones := 2 ^ (f.w - f.p) - 1
     ComputesF (.fsgnj core rd ra rb dbl rm) s core rd (fun _ => signed (top b)) ∧
     ComputesF (.fsgnjn core rd ra rb dbl rm) s core rd (fun _ => signed (!top b)) ∧
     ComputesF (.fsgnjx core rd ra rb dbl rm) s core rd (fun _ => signed (top a != top b)) ∧
     (∃ bit, ComputesGF (.fclass core rd ra dbl rm) s core rd (fun _ => (2 ^ bit, 0)) ∧ bit ≤ 9 ∧
       (bit = 0 ↔ ex = ones ∧ frac = 0 ∧ top a) ∧ (bit = 1 ↔ 0 < ex ∧ ex < ones ∧ top a) ∧
       (bit = 2 ↔ ex = 0 ∧ frac ≠ 0 ∧ top a) ∧ (bit = 3 ↔ ex = 0 ∧ frac = 0 ∧ top a) ∧
       (bit = 4 ↔ ex = 0 ∧ frac = 0 ∧ ¬ top a) ∧ (bit = 5 ↔ ex = 0 ∧ frac ≠ 0 ∧ ¬ top a) ∧
       (bit = 6 ↔ 0 < ex ∧ ex < ones ∧ ¬ top a) ∧ (bit = 7 ↔ ex = ones ∧ frac = 0 ∧ ¬ top a) ∧
       (bit = 8 ↔ ex = ones ∧ frac ≠ 0 ∧ ¬ a.testBit (f.p - 2)) ∧ (bit = 9 ↔ ex = ones ∧ a.testBit (f.p - 2))) ∧
     Computes (.fmvIF core rd ra dbl rm) s core rd (fun y => if dbl then y.fr ra else BitVec.ofInt 64 (sgn 32 (y.fr ra).toNat)) ∧
     exec (.fmvFI core rd ra dbl rm) s = .next ((s.begun core).advance core (fun y => y.setF rd (BitVec.ofNat 64 ((y.gr ra).toNat % 2 ^ f.w)))) ∧
     (∃ lo hi, ComputesF (.fmin core rd ra rb dbl rm) s core rd (fun _ => lo) ∧ ComputesF (.fmax core rd ra rb dbl rm) s core rd (fun _ => hi) ∧
       (lo.1 = a ∨ lo.1 = b ∨ lo.1 = f.qnan) ∧ (hi.1 = a ∨ hi.1 = b ∨ hi.1 = f.qnan) ∧
       (∀ u v, (f.decode a).exact = some u → (f.decode b).exact = some v →
         (u < v → lo = (a, 0) ∧ hi = (b, 0)) ∧ (v < u → lo = (b, 0) ∧ hi = (a, 0)) ∧
         (u = v → top a → ¬ top b → lo = (a, 0) ∧ hi = (b, 0)))) ∧
     (∃ eq lt le, ComputesGF (.feq core rd ra rb dbl rm) s core rd (fun _ => eq) ∧ ComputesGF (.flt core rd ra rb dbl rm) s core rd (fun _ => lt) ∧
       ComputesGF (.fle core rd ra rb dbl rm) s core rd (fun _ => le) ∧
       ∀ u v, (f.decode a).exact = some u → (f.decode b).exact = some v →
         eq = ((if u = v then 1 else 0), 0) ∧ lt = ((if u < v then 1 else 0), 0) ∧ le = ((if u ≤ v then 1 else 0), 0))) ∧
  ((∀ (dbl : Bool) (rm a b c : Nat) (m n : Bool),
     let f := fmtOf dbl
     let canon := if dbl then 0x7FF8000000000000 else 0x7FC00000
     let ok (r : FRes) : Prop := (f.decode r.1).isNan = true → r.1 = canon
     ok (f.add rm a b) ∧ ok (f.sub rm a b) ∧ ok (f.mul rm a b) ∧ ok (f.div rm a b) ∧ ok (f.sqrt rm a) ∧ ok (f.fma rm a b c m n) ∧
     ok ((fmtOf (!dbl)).convert f rm a)) ∧
   (∀ (dbl : Bool) (rm x : Nat) (u : Rat) (s : Bool),
     let f := fmtOf dbl
     (f.decode x).exact = some u →
     f.add rm x (f.infinity s) = (f.infinity s, 0) ∧ f.sub rm (f.infinity s) (f.infinity s) = (f.qnan, 16) ∧
     (u = 0 → f.mul rm x (f.infinity s) = (f.qnan, 16))))

namespace Sys2Proof.Machine

/-- The command is an instruction of a core, and of a part of Iblek (Tables 04-1 and 04-15). -/
def coreAndPart (i : Instr) : Option (Fin 24 × Part) :=
  match i with
  | .add c _ _ _ | .sub c _ _ _ | .mul c _ _ _ | .selnz c _ _ _ | .addi c _ _ _ | .beq c _ _ _ | .jal c _ _ | .lw c _ _ _
  | .sw c _ _ _ | .fence c _ _ | .isync c | .ebreak c => some (c, .base)
  | .div c _ _ _ | .divu c _ _ _ | .rem_ c _ _ _ | .remu c _ _ _ => some (c, .divide)
  | .lr c _ _ _ _ _ | .sc c _ _ _ _ _ _ | .swapAtomic c _ _ _ _ _ _ | .aadd c _ _ _ _ _ _ | .aand c _ _ _ _ _ _
  | .aor c _ _ _ _ _ _ | .axor c _ _ _ _ _ _ | .amin c _ _ _ _ _ _ | .amax c _ _ _ _ _ _ | .aminu c _ _ _ _ _ _
  | .amaxu c _ _ _ _ _ _ | .cas c _ _ _ _ _ _ => some (c, .atom)
  | .fadd c _ _ _ _ _ | .fsub c _ _ _ _ _ | .fmul c _ _ _ _ _ | .fdiv c _ _ _ _ _ | .fmin c _ _ _ _ _ | .fmax c _ _ _ _ _
  | .fsgnj c _ _ _ _ _ | .fsgnjn c _ _ _ _ _ | .fsgnjx c _ _ _ _ _ | .feq c _ _ _ _ _ | .flt c _ _ _ _ _ | .fle c _ _ _ _ _
  | .fsqrt c _ _ _ _ | .fclass c _ _ _ _ | .fcvtFI c _ _ _ _ | .fcvtFIu c _ _ _ _ | .fcvtIF c _ _ _ _ | .fcvtIuF c _ _ _ _
  | .fcvtP c _ _ _ _ | .fmvIF c _ _ _ _ | .fmvFI c _ _ _ _ | .fmadd c _ _ _ _ _ _ | .fmsub c _ _ _ _ _ _
  | .fnmadd c _ _ _ _ _ _ | .fnmsub c _ _ _ _ _ _ | .flw c _ _ _ | .fld c _ _ _ | .fsw c _ _ _ | .fsd c _ _ _ => some (c, .float)
  | .ntrd c _ _ | .waitnt c _ | .attick c _ | .evtrig c _ _ | .evwait c _ _ | .tx c _ _ _ _ | .rx c _ _ _ _ | .listen c _ _ _ _
  | .tune c _ _ _ _ | .cal c _ _ _ _ | .ant c _ _ _ _ | .cca c _ _ _ _ | .pareq c _ _ _ _ | .idle_ c _ _ _ _ | .abort c _ _ _ _
  | .slot c _ _ _ _ => some (c, .timed)
  | .post_ c _ _ _ => some (c, .post)
  | .wdDone c _ _ => some (c, .done)
  | .lckTake c _ _ | .lckGive c _ _ | .takev c _ _ | .givev c _ _ => some (c, .lock)
  | .svc c _ _ _ _ => some (c, .svc)
  | _ => none

/-- Tables 04-1 and 04-15 for the parts above: control cores 0 to 3, work cores 4 to 19, slot engines 20 to 22, the Keeper 23. -/
def coreHas (c : Nat) (p : Part) : Bool :=
  match p with
  | .base => true
  | .divide | .atom | .svc => decide (c ≤ 19) || c == 23
  | .float | .post | .lock => decide (c ≤ 19)
  | .timed => decide (20 ≤ c) && decide (c ≤ 22)
  | .done => decide (4 ≤ c) && decide (c ≤ 19)

/-- Core c can issue an instruction now, whatever its part. -/
structure State.Runs (s : State) (c : Fin 24) : Prop where
  can   : s.mayIssue c = true
  fetch : ∃ leaf, s.fetch c = .fine leaf

/-- Entry into the handler of a control core or the Keeper (R92): what is saved, the level, the status and the vector; general and
f registers as before, the reservation gone (R87). -/
def Core.Entered (x y : Core) (epc cause eaddr vector : DWord) : Prop :=
  y.epc = epc ∧ y.ecause = cause ∧ y.eaddr = eaddr ∧ y.pc = vector ∧ y.sup = true ∧ y.resv = none ∧
  y.status.getLsbD 0 = false ∧ y.status.getLsbD 1 = x.status.getLsbD 0 ∧ y.status.getLsbD 2 = x.sup ∧ y.status.getLsbD 3 = true ∧
  y.status.getLsbD 4 = x.status.getLsbD 4 ∧ y.status.getLsbD 5 = x.status.getLsbD 5 ∧
  (∀ r : Fin 32, y.gr r = x.gr r) ∧ (∀ r : Fin 32, y.fr r = x.fr r) ∧ y.evec = x.evec ∧ y.ien = x.ien ∧ y.ipend = x.ipend

end Sys2Proof.Machine

/-- R88, and R93 for the order of the two. The last sentence of R75 over 75 instructions, against a table of its own. -/
def Obligations.DisabledOrAbsentPartsRaiseTheirException : Prop :=
  (∀ (core : Fin 24) (rd ra rb rc : Fin 32) (imm : BitVec 16) (dbl : Bool) (rm : Fin 8) (s : State), core.val ≤ 3 → s.Issues core .float →
     let s0 := s.begun core
     let x := s0.core core
     (x.fpen = false →
       (x.modeInUse rm ≤ 4 → ∀ i ∈ [Instr.fadd core rd ra rb dbl rm, .feq core rd ra rb dbl rm, .fmadd core rd ra rb rc dbl rm, .fmvIF core rd ra dbl rm],
         exec i s = .next (s0.raise core 0x05 0 0 false)) ∧
       exec (.flw core rd ra imm) s = .next (s0.raise core 0x05 0 0 false) ∧
       exec (.srset core rd 0 0x003) s = .next (s0.raise core 0x05 0 0 false)) ∧
     (5 ≤ x.modeInUse rm → ∀ i ∈ [Instr.fadd core rd ra rb dbl rm, .feq core rd ra rb dbl rm, .fmadd core rd ra rb rc dbl rm],
       ∃ word, exec i s = .next (s0.illegal core word))) ∧
  (∀ (i : Instr) (c : Fin 24) (p : Part) (s : State), coreAndPart i = some (c, p) → s.Runs c → coreHas c p = false →
     ∃ word, exec i s = .next ((s.begun c).raise c 0x03 0 word false))

/-- R92, R97 and R98 as one operation that every exception goes through. -/
def Obligations.ExceptionEntrySavesAndVectors : Prop :=
  ∀ (s : State) (c : Fin 24) (cause status eaddr : Nat), cause < 256 → status < 256 →
    let x := s.core c
    let t := s.raise c cause status eaddr false
    ((c.val ≤ 3 ∨ c.val = 23) → x.status.getLsbD 3 = false →
      x.Entered (t.core c) x.pc (BitVec.ofNat 64 (256 * status + cause)) (BitVec.ofNat 64 eaddr) x.evec ∧ t.mem = s.mem ∧ t.regs = s.regs) ∧
    (c.val ≤ 3 → x.status.getLsbD 3 = true →
      t.core c = { x with mode := .dfault } ∧ (∃ p ∈ t.fabric, p.line = 59 + c.val) ∧ t.mem = s.mem ∧ t.regs = s.regs) ∧
    (20 ≤ c.val → c.val ≤ 22 →
      let u := s.haltMark (c - 20) cause x.pc.toNat
      t = u.stopQueues (c - 20) ∧ u.fld (F.SE_FAULT_CAUSE (c - 20)) = cause ∧ u.fld (F.SE_FAULT_PC (c - 20)) = x.pc.toNat % 2 ^ 16 ∧
      u.fld (fnState (c - 16) 0 0) = 4 ∧ u.fld (fnLast (c - 16) 0 0) = 0x11 ∧ (∃ p ∈ u.fabric, p.line = c.val - 1) ∧
      (u.engine (c - 20)).wait = .none ∧ u.mem = s.mem)

/-- R99 whole: one command is one tick of a slot engine. -/
def Obligations.EbreakOfR99 : Prop :=
  ∀ (core : Fin 24) (s : State), s.Runs core →
    let s0 := s.begun core
    let x := s0.core core
    (x.haltOnBreak = true → exec (.ebreak core) s = .next (s0.setCore core { x with mode := .debug })) ∧
    (x.haltOnBreak = false → 20 ≤ core.val → core.val ≤ 22 → exec (.ebreak core) s = .next (s0.setCore core { x with pc := x.pc + 4 })) ∧
    (x.haltOnBreak = false → ¬ (20 ≤ core.val ∧ core.val ≤ 22) → exec (.ebreak core) s = .next (s0.raise core 0x08 0 0 false))

/-- Entry and return, and that one undoes the other. -/
def Obligations.EcallAndReturn : Prop :=
  ∀ (core : Fin 24) (r q : Fin 32) (scope : Fin 4) (s : State), s.Runs core →
    let s0 := s.begun core
    let x := s0.core core
    ((core.val ≤ 3 ∨ core.val = 23) →
      (x.status.getLsbD 3 = false → Gives (.ecall core) s fun t =>
        x.Entered (t.core core) x.pc (if x.sup then 0x07 else 0x06) 0 x.evec ∧ t.mem = s.mem) ∧
      (x.sup = true → Gives (.eret core) s fun t =>
        let y := t.core core
        y.pc = x.epc ∧ y.sup = (decide (core.val = 23) || x.status.getLsbD 2) ∧ y.status.getLsbD 0 = x.status.getLsbD 1 ∧ y.status.getLsbD 3 = false ∧ y.resv = none ∧
        (∀ n : Fin 32, y.gr n = x.gr n) ∧ (∀ n : Fin 32, y.fr n = x.fr n) ∧ y.epc = x.epc ∧ y.ecause = x.ecause ∧ t.mem = s.mem) ∧
      (x.sup = false → ∀ i ∈ [Instr.eret core, .wfi core, .tlbinv core r q scope], exec i s = .next (s0.raise core 0x04 0 0 false))) ∧
    (20 ≤ core.val → core.val ≤ 22 →
      exec (.ecall core) s = .next (s0.raise core 0x07 0 0xBC004000 false) ∧
      (∀ i ∈ [Instr.eret core, .wfi core], ∃ w, exec i s = .next (s0.raise core 0x03 0 w false))) ∧
    (∀ (y : Core) (keeper : Bool),
      let z := (y.enter y.pc 7 0 y.evec).eret keeper
      z.pc = y.pc ∧ z.sup = (keeper || y.sup) ∧ z.status.getLsbD 0 = y.status.getLsbD 0)

namespace Sys2Proof.Machine

/-- The registers of Table 04-9 that hold what is written to them, with the bits that a write reaches: on control cores; STATUS
without FPEN on the Keeper. -/
def storedSr (control : Bool) (n : Nat) : Option DWord :=
  match n with
  | 0x003 => if control then some 0xFF else none
  | 0x100 => some (if control then 0x3F else 0x1F)
  | 0x101 => some 0xFFFFFFFFFFFFF000
  | 0x102 => some 0xFFFFFFFFFFFFFFFC
  | 0x103 => some 0xC00000000000FFFF
  | 0x104 | 0x105 | 0x110 | 0x111 | 0x112 | 0x113 => some 0xFFFFFFFFFFFFFFFF
  | 0x106 => if control then some 0xFFFF00FFFFFFF001 else none
  | _ => none

/-- The three system-register instructions, with what each makes of the old value and the operand. -/
def srForms : List ((Fin 24 → Fin 32 → Fin 32 → BitVec 12 → Instr) × (DWord → DWord → DWord)) :=
  [(Instr.srswap, fun _ x => x), (Instr.srset, fun t x => t ||| x), (Instr.srclr, fun t x => t &&& ~~~x)]

end Sys2Proof.Machine

/-- R89 and Table 04-10, for every register that holds a value, and the claim of Table 04-9. -/
def Obligations.SystemRegistersSwapSetAndClear : Prop :=
  ∀ p ∈ srForms, ∀ (core : Fin 24) (rd ra : Fin 32) (sr : BitVec 12) (s : State), s.Runs core → (core.val ≤ 3 ∨ core.val = 23) →
    let s0 := s.begun core
    let x := s0.core core
    let ctl := decide (core.val ≤ 3)
    (∀ mask, storedSr ctl sr.toNat = some mask → (sr.toNat ≤ 4 ∨ x.sup = true) → (sr = 3 → x.fpen = true) →
      Gives (p.1 core rd ra sr) s fun t =>
        t.srValue core sr.toNat = p.2 (s0.srValue core sr.toNat) (x.gr ra) &&& mask ∧
        (∀ n, n ≠ sr.toNat → storedSr ctl n ≠ none → t.srValue core n = s0.srValue core n) ∧
        (rd ≠ 0 → (t.core core).gr rd = s0.srValue core sr.toNat) ∧
        (∀ r : Fin 32, r ≠ rd → (t.core core).gr r = x.gr r) ∧ (t.core core).pc = x.pc + 4 ∧ (t.core core).ipend = x.ipend ∧ t.mem = s.mem) ∧
    (sr ∈ [(0 : BitVec 12), 1, 2, 4, 0x118, 0x119, 0x11A, 0x11B, 0x11C, 5, 0x107, 0x114] → (x.gr ra ≠ 0 ∨ sr ∈ [(5 : BitVec 12), 0x107, 0x114]) →
      ∃ w, exec (p.1 core rd ra sr) s = .next (s0.raise core 0x03 0 w false)) ∧
    (x.sup = false → sr ∈ [(0x100 : BitVec 12), 0x101, 0x102, 0x103, 0x104, 0x105, 0x110, 0x113] →
      exec (p.1 core rd ra sr) s = .next (s0.raise core 0x04 0 0 false)) ∧
    (sr = 0x11C → x.sup = true → x.gr ra = 0 → ∀ line : Nat, line < 256 → (x.ipend &&& x.ien).getLsbD line = true →
      (∀ l, l < line → (x.ipend &&& x.ien).getLsbD l = false) →
      Gives (p.1 core rd ra sr) s fun t =>
        (rd ≠ 0 → (t.core core).gr rd = BitVec.ofNat 64 (2 ^ 63 + line)) ∧
        ∀ l, (t.core core).ipend.getLsbD l = (x.ipend.getLsbD l && decide (l ≠ line)))

/-- A core of this model makes its accesses one after another, so FENCE and ISYNC leave nothing to order. R96, the end of a
WFI (R95) and the imprecise store error (R94). -/
def Obligations.WaitsFencesAndInterruptsAct : Prop :=
  (∀ (core : Fin 24) (asid ra : Fin 32) (scope : Fin 4) (pr su : BitVec 4) (s : State), s.Runs core →
     let s0 := s.begun core
     let x := s0.core core
     exec (.fence core pr su) s = .next (s0.setCore core (x.next core)) ∧
     exec (.isync core) s = .next (s0.setCore core (x.next core)) ∧
     ((core.val ≤ 3 ∨ core.val = 23) → x.sup = true →
       (x.ipend &&& x.ien = 0 → exec (.wfi core) s = .next (s0.setCore core { x.next core with mode := .wfi })) ∧
       (x.ipend &&& x.ien ≠ 0 → x.status.getLsbD 0 = false → exec (.wfi core) s = .next (s0.setCore core (x.next core))) ∧
       (∀ line : Nat, x.status.getLsbD 0 = true → line < 256 → (x.ipend &&& x.ien).getLsbD line = true →
         (∀ l, l < line → (x.ipend &&& x.ien).getLsbD l = false) →
         Gives (.wfi core) s fun t =>
           x.Entered (t.core core) (x.pc + 4) (BitVec.ofNat 64 (2 ^ 63 + line)) 0 (x.evec + 0x100) ∧ (t.core core).mode = x.mode) ∧
       Gives (.tlbinv core asid ra scope) s (fun t => (t.core core).pc = x.pc + 4 ∧ (∀ r : Fin 32, (t.core core).gr r = x.gr r) ∧
         ∀ e, e ∈ (t.core core).tlb ↔ e ∈ x.tlb ∧
           let covers := e.vpn / 512 ^ e.level = (x.gr ra).toNat / 4096 % 2 ^ 27 / 512 ^ e.level
           let own := e.asid = (x.gr asid).toNat % 65536 ∧ e.pte / 32 % 2 = 0
           match scope.val with | 0 => False | 1 => ¬ covers | 2 => ¬ own | _ => ¬ (covers ∧ own)))) ∧
  (∀ (core : Fin 24) (s : State), (core.val ≤ 3 ∨ core.val = 23) →
     let x := s.core core
     (∀ line : Nat, s.mayIssue core = true → x.status.getLsbD 0 = true → line < 256 → (x.ipend &&& x.ien).getLsbD line = true →
       (∀ l, l < line → (x.ipend &&& x.ien).getLsbD l = false) →
       Gives (.interruptEntry core) s fun t =>
         x.Entered (t.core core) x.pc (BitVec.ofNat 64 (2 ^ 63 + line)) 0 (x.evec + 0x100) ∧ t.mem = s.mem ∧ t.regs = s.regs) ∧
     (x.status.getLsbD 0 = false ∨ x.ipend &&& x.ien = 0 → exec (.interruptEntry core) s = .next s) ∧
     (s.live core = true → x.mode = .wfi → x.ipend &&& x.ien ≠ 0 → x.status.getLsbD 0 = false →
       exec (.wfiResume core) s = .next (s.setCore core { x with mode := .run })) ∧
     (∀ line : Nat, s.live core = true → x.mode = .wfi → x.status.getLsbD 0 = true → line < 256 →
       (x.ipend &&& x.ien).getLsbD line = true → (∀ l, l < line → (x.ipend &&& x.ien).getLsbD l = false) →
       Gives (.wfiResume core) s fun t =>
         x.Entered (t.core core) x.pc (BitVec.ofNat 64 (2 ^ 63 + line)) 0 (x.evec + 0x100) ∧ (t.core core).mode = .run) ∧
     (∀ (a : DWord) (st : Byte) (rest : List (Nat × Nat)), s.mayIssue core = true → x.badStores = (a.toNat, st.toNat) :: rest →
       x.status.getLsbD 3 = false →
       Gives (.impreciseStoreError core a st) s fun t =>
         x.Entered (t.core core) x.pc (BitVec.ofNat 64 (2 ^ 62 + 256 * st.toNat + 0x0E)) a x.evec ∧ (t.core core).badStores = rest))

namespace Sys2Proof.Machine

/-- Core c is a slot engine. -/
def IsEngine (c : Fin 24) : Prop := 20 ≤ c.val ∧ c.val ≤ 22

end Sys2Proof.Machine

/-- R116; the span of seconds keeps clear of the wrap at 2^48 s (R54). -/
def Obligations.PackedTimesReadNearNow : Prop :=
  ∀ now packed : Nat, 2 ^ 31 ≤ now / secU → now / secU < 2 ^ 48 - 2 ^ 32 → packed < 2 ^ 64 →
    (∃ S, S % 2 ^ 32 = packed / 2 ^ 32 ∧ S ≤ now / secU + 2 ^ 31 ∧ now / secU ≤ S + 2 ^ 31 ∧
      packedTarget now packed = S * secU + packed % 2 ^ 32 * 2 ^ 32) ∧
    packedTarget now (packNt now) = now / 2 ^ 32 * 2 ^ 32

/-- R117 and R118 with the two sides of Table 05-2. -/
def Obligations.TimedInstructionsReadAndWait : Prop :=
  ∀ (core : Fin 24) (rd ra : Fin 32) (s : State), IsEngine core → s.Issues core .timed →
    let e := core.val - 20
    let s0 := s.begun core
    let x := s0.core core
    let n := s0.now
    let goal := packedTarget n (x.gr ra).toNat
    Computes (.ntrd core rd 0) s core rd (fun _ => BitVec.ofNat 64 (n / secU)) ∧
    Computes (.ntrd core rd 1) s core rd (fun _ => BitVec.ofNat 64 (n % secU / 2 ^ 32)) ∧
    Computes (.ntrd core rd 2) s core rd (fun _ => BitVec.ofNat 64 (n % 2 ^ 32 / 2 ^ 16)) ∧
    Computes (.ntrd core rd 3) s core rd (fun _ => BitVec.ofNat 64 (n / secU % 2 ^ 32 * 2 ^ 32 + n % secU / 2 ^ 32)) ∧
    (n < goal →
      Gives (.waitnt core ra) s (fun t => (t.core core).pc = x.pc + 4 ∧ (t.engine e).wait = .until goal false ∧ t.regs = s0.regs) ∧
      Gives (.attick core ra) s (fun t => (t.core core).pc = x.pc + 4 ∧ (t.engine e).wait = .until goal true ∧ t.regs = s0.regs)) ∧
    (goal ≤ n →
      Gives (.waitnt core ra) s (fun t => (t.core core).pc = x.pc + 4 ∧ (t.engine e).wait = .none ∧ t.fld (F.SE_STAT_LATE_WAIT e) = 1 ∧
        t.fld (F.SE_LATE_COUNT_WAIT_LATE e) = min 255 (s.fld (F.SE_LATE_COUNT_WAIT_LATE e) + 1) ∧ (t.engine e).lateNext = false) ∧
      Gives (.attick core ra) s (fun t => (t.core core).pc = x.pc + 4 ∧ (t.engine e).wait = .none ∧ t.fld (F.SE_STAT_LATE_AT e) = 1 ∧
        t.fld (F.SE_LATE_COUNT_AT_LATE e) = min 255 (s.fld (F.SE_LATE_COUNT_AT_LATE e) + 1) ∧ (t.engine e).lateNext = true)) ∧
    (∀ (eng : Fin 3) (u : State) (target : Nat) (late : Bool), (u.engine eng).wait = .until target late → u.live (20 + eng) = true →
      (target ≤ u.now → exec (.timedTargetReached eng) u = .next (u.setEngine eng { u.engine eng with wait := .none })) ∧
      (u.now < target → exec (.timedTargetReached eng) u = .next u))

/-- R120 whole. -/
def Obligations.EventTriggersOfR120 : Prop :=
  ∀ (core : Fin 24) (ra : Fin 32) (imm : Byte) (s : State), IsEngine core → s.Issues core .timed →
    let s0 := s.begun core
    let line := if imm = 0 then ((s0.core core).gr ra).toNat % 256 else imm.toNat
    Gives (.evtrig core ra imm) s fun t =>
      (64 ≤ line → (∀ p, p ∈ t.fabric ↔ p ∈ s.fabric ∨ p = ⟨line, s.ticks + 1⟩) ∧ t.regs = s.regs) ∧
      (line < 64 → t.fabric = s.fabric ∧ t.fld (F.SE_STAT_FIXED_TRIG (core - 20)) = 1) ∧
      (t.core core).pc = (s0.core core).pc + 4

/-- R121, the engine's side of the event fabric. R122 with R96: IPEND latches every line. -/
def Obligations.PulsesReachWaitsAndReceivers : Prop :=
  ((∀ (core : Fin 24) (rd : Fin 32) (line : Byte) (s : State), IsEngine core → s.Issues core .timed →
     let s0 := s.begun core
     let x := s0.core core
     let e := core.val - 20
     ((s0.engine e).latches.getLsbD line.toNat = true → Gives (.evwait core rd line) s fun t =>
       x.WroteG (t.core core) rd 0 ∧ (t.engine e).wait = (s0.engine e).wait ∧
       ∀ l, (t.engine e).latches.getLsbD l = ((s0.engine e).latches.getLsbD l && decide (l ≠ line.toNat))) ∧
     ((s0.engine e).latches.getLsbD line.toNat = false → Gives (.evwait core rd line) s fun t =>
       x.WroteNone (t.core core) ∧ (t.engine e).wait = .event line.toNat rd s.ticks false ∧ (t.engine e).latches = (s0.engine e).latches)) ∧
   (∀ (e : Fin 3) (line rd issue : Nat) (arrived : Bool) (s : State), rd < 32 → (s.engine e).wait = .event line rd issue arrived →
     s.live (20 + e) = true →
     let x := s.core (20 + e)
     (arrived = true → Gives (.evwaitPulse e) s fun t =>
       (t.engine e).wait = .none ∧ (t.core (20 + e)).pc = x.pc ∧ (rd ≠ 0 → (t.core (20 + e)).gr rd = 0) ∧
       (t.engine e).latches = (s.engine e).latches ∧ t.regs = s.regs) ∧
     (arrived = false → s.fld (F.SE_WAIT_LIMIT_LIMIT e) ≠ 0 → issue + s.fld (F.SE_WAIT_LIMIT_LIMIT e) ≤ s.ticks →
       Gives (.evwaitTimeout e) s fun t =>
         (t.engine e).wait = .none ∧ (rd ≠ 0 → (t.core (20 + e)).gr rd = 1) ∧ t.fld (F.SE_STAT_EV_TIMEOUT e) = 1 ∧
         t.fld (F.SE_LATE_COUNT_EV_TIMEOUTS e) = min 255 (s.fld (F.SE_LATE_COUNT_EV_TIMEOUTS e) + 1)) ∧
     (arrived = true ∨ s.fld (F.SE_WAIT_LIMIT_LIMIT e) = 0 ∨ s.ticks < issue + s.fld (F.SE_WAIT_LIMIT_LIMIT e) →
       exec (.evwaitTimeout e) s = .next s) ∧
     (arrived = false → s.powered (13 + e) = true → ∀ l, l < 256 →
       let t := s.pulseEngine e l
       (l = line → (t.engine e).wait = .event line rd issue true ∧ (t.engine e).latches = (s.engine e).latches) ∧
       (l ≠ line → (t.engine e).wait = (s.engine e).wait ∧ (t.engine e).latches.getLsbD l = true)))) ∧
  (∀ s : State, Gives .eventDelivery s fun t =>
     t.fabric.filter (fun p => decide (p.tick + 2 ≤ s.ticks)) = [] ∧
     (∀ p ∈ s.fabric, s.ticks < p.tick + 2 → p ∈ t.fabric) ∧
     (∀ c ∈ [0, 1, 2, 3, 23], ∀ l, l < 256 →
       ((∃ p ∈ s.fabric, p.line = l ∧ p.tick + 2 ≤ s.ticks) → s.powered (coreDomain c) = true → s.held c = false →
         (t.core c).ipend.getLsbD l = true) ∧
       ((∀ p ∈ s.fabric, p.tick + 2 ≤ s.ticks → p.line ≠ l) → (t.core c).ipend.getLsbD l = (s.core c).ipend.getLsbD l)) ∧
     (∀ c r, (t.core c).gr r = (s.core c).gr r ∧ (t.core c).pc = (s.core c).pc) ∧
     ((∀ p ∈ s.fabric, s.ticks < p.tick + 2) → t = s))

namespace Sys2Proof.Machine

/-- The RCMD rows: one form for every operation. -/
def rcmdForms : List (Fin 24 → Fin 32 → Fin 32 → Fin 32 → Byte → Instr) :=
  [Instr.tx, .rx, .listen, .tune, .cal, .ant, .cca, .pareq, .idle_, .abort, .slot]

/-- Table 05-5: the chains of Radio S, M and H that accept an operation. -/
def chainsOf (op : Nat) : List (List Nat) :=
  match op with
  | 1 | 4 => [[0, 1, 2, 3], [0, 1], [0]]
  | 2 | 3 | 7 | 9 => [[0, 1, 2, 3], [0], [0]]
  | 5 | 10 => [[0, 1, 2, 3], [0, 1, 2, 3], [0, 1, 2, 3]]
  | 6 | 8 | 11 => [[0], [0], [0]]
  | _ => [[], [], []]
/-- Table 05-5: the lead in µs. -/
def leadOf (op e : Nat) : Nat :=
  match op with
  | 1 => [20, 12, 30].getD e 0
  | 2 | 3 | 7 => [10, 6, 8].getD e 0
  | 4 | 5 | 9 => 2
  | 6 => 5
  | 8 => 1
  | _ => 0

/-- The code that R126 gives a record at address a of engine e, for the operations but SLOT, on an issue tick with the state s:
b is the argument's use of the record's fields, chain the chain named, late the mark of a passed ATTICK. -/
def State.codeOfR126 (s : State) (e a chain : Nat) (late : Bool) : Status :=
  let byte (i n : Nat) : Nat := (s.engine e).rd (a + i) n
  let op := byte 0 1
  let imm := byte 1 1 % 2 = 1
  let port := if imm then s.now + leadOf op e * usU else packedTarget s.now (byte 8 8) + byte 16 2 * 2 ^ 16
  let queue := (s.chain e chain).queue.filter (fun q => q.ack.isNone)
  let len := s.rdLe (byte 24 5 + 2) 2
  let least := match modeInfo e (byte 6 1) with | some m => m.min | none => 1
  let most := match modeInfo e (byte 6 1) with | some m => m.max | none => 0
  if a % 8 ≠ 0 ∨ op = 0 ∨ 10 < op ∨ chain ∉ (chainsOf op).getD e [] then .fault
  else if (op = 2 ∨ op = 7) ∧ (byte 20 4 = 0 ∨ 4000000 < byte 20 4) then .fault
  else if op ≠ 2 ∧ op ≠ 7 ∧ byte 20 4 ≠ 0 then .fault
  else if op = 1 ∧ (isSpad (byte 24 5) = false ∨ byte 24 5 % 8 ≠ 0) then .fault
  else if byte 18 2 ≠ 0 ∨ byte 29 3 ≠ 0 then .fault
  else if op ≠ 10 ∧ (s.now + 4096 * secU < port ∨ ∃ q ∈ queue, port < q.port) then .fault
  else if s.coarse = true ∧ op ≠ 9 ∧ op ≠ 10 then .fault
  else if late = true then .late
  else if op ≠ 10 ∧ ¬ imm ∧ port < s.now + leadOf op e * usU then .late
  else if op = 1 ∧ s.rdLe (byte 24 5) 1 % 2 = 0 then .late
  else if op = 1 ∧ len < least then .tooShort
  else if op = 1 ∧ most < len then .tooLong
  else if 8 ≤ queue.length then .busy
  else .ok

end Sys2Proof.Machine

namespace Sys2Proof.Machine

/-- The record of a radio command holds its completion (R124): STATUS, the NT of its beginning or decision, DONE; its line pulsed
where it asks for one. A command that came from no record has none. -/
def State.Recorded (s t : State) (r : Nat) (q : QCmd) (code at_ : Nat) : Prop :=
  ∀ a, q.recAt = some a →
    (t.engine r).rd (a + 3) 1 = code ∧ (t.engine r).rd (a + 1) 1 = (s.engine r).rd (a + 1) 1 % 128 + 128 ∧
    (t.engine r).rd (a + 8) 8 = at_ / secU % 2 ^ 32 * 2 ^ 32 + at_ % secU / 2 ^ 32 ∧ (t.engine r).rd (a + 16) 2 = at_ % 2 ^ 32 / 2 ^ 16 ∧
    (q.evt = true → 64 ≤ q.doneEv → q.doneEv ≤ 255 → ∃ p ∈ t.fabric, p.line = q.doneEv)

end Sys2Proof.Machine

/-- How actions end, by the row that ends them. -/
def Obligations.RadioActionsEndAndRecord : Prop :=
  ∀ (r : Fin 3) (k : Fin 4) (s : State),
    (∀ a, (s.chain r k).act = some a →
      let ended (tx win : Bool) (code : Nat) (t : State) : Prop :=
        (t.chain r k).act = none ∧ (t.chain r k).lastEnd = some a.ends ∧ (t.chain r k).lastTx = tx ∧ (t.chain r k).lastWin = win ∧
        s.Recorded t r a.cmd code a.cmd.port
      (a.kind = .tx → a.ends ≤ s.now → Gives (.txLastBit r k) s (ended true false 0)) ∧
      (a.kind = .win → a.ends ≤ s.now → Gives (.rxWindowClose r k) s (ended false true 0)) ∧
      (∀ peak : BitVec 16, a.kind = .cca → a.ends ≤ s.now →
        Gives (.ccaEnd r k peak) s (ended false true (if s.ccaThresh r k a.cmd < peak.toInt then 3 else 0))) ∧
      (∀ trim : Word, a.kind = .cal → a.ends ≤ s.now →
        Gives (.calStepEnd r k trim) s (fun t => ended false false 0 t ∧ SMap.get (fun _ => 0) (t.chain r k).trims a.cmd.arg = trim.toNat)) ∧
      (a.kind = .tune → (s.chain r k).moving = true → Gives (.synthLock r k) s fun t =>
        (t.chain r k).act = none ∧ s.Recorded t r a.cmd 0 a.cmd.port ∧ ∃ p ∈ t.fabric, p.line = 24 + r.val)) ∧
    ((s.chain r k).moving = true → (s.chain r k).listen = none → (s.chain r k).act = none → Gives (.synthLock r k) s fun t =>
      (t.chain r k).moving = false ∧ (t.chain r k).locked = true ∧ (t.chain r k).lockAt = s.now ∧ ∃ p ∈ t.fabric, p.line = 24 + r.val) ∧
    (∀ x rest, (s.femOf r).runs = x :: rest → x.begun = true → x.ends ≤ s.now → Gives (.femSequenceEnd r) s fun t =>
      (t.femOf r).runs = rest ∧ ∀ c, x.cmd = some c → s.Recorded t r c 0 c.port) ∧
    (∀ (port kind : Fin 4) x rest, (s.femOf r).runs = x :: rest → x.begun = false → x.port = port.val → x.auto = some kind.val →
      x.start ≤ s.now → x ∉ rest → Gives (.femAutoSequence r port kind) s fun t => (t.femOf r).runs = { x with begun := true } :: rest)

/-- R126, item by item, over the bytes of the record as they lie in the engine's local memory. Each decision instant, on the
command at the head of the queue. -/
def Obligations.RadioCommandsAreAnsweredAndChecked : Prop :=
  (∀ row ∈ rcmdForms, ∀ (core : Fin 24) (rd ra rb : Fin 32) (chain : Byte) (s : State), IsEngine core → s.Issues core .timed →
     let e := core.val - 20
     let s0 := s.begun core
     let x := s0.core core
     let a := (x.gr ra).toNat
     let late := (s.engine e).lateNext
     let byte (t : State) (i n : Nat) : Nat := (t.engine e).rd (a + i) n
     let op := byte s0 0 1
     (a < 0x8000 ∨ 0xFFE0 < a → Computes (row core rd ra rb chain) s core rd (fun _ => 0x11)) ∧
     (0x8000 ≤ a → a ≤ 0xFFE0 → op ≠ 11 →
       let code := s0.codeOfR126 e a chain.toNat late
       Gives (row core rd ra rb chain) s fun t =>
         x.WroteG (t.core core) rd (BitVec.ofNat 64 code.code) ∧
         (code ≠ .ok → (∀ r k, t.chain r k = s.chain r k) ∧ byte t 3 1 = code.code ∧ byte t 1 1 = byte s0 1 1 % 128 + 128 ∧
           (byte s0 1 1 / 4 % 2 = 1 → 64 ≤ byte s0 2 1 → ∃ p ∈ t.fabric, p.line = byte s0 2 1)) ∧
         (code = .ok → op = 10 → byte t 1 1 = byte s0 1 1 % 128 ∧ ∃ c, (t.chain e chain.toNat).aborts = (s.chain e chain.toNat).aborts ++ [(s.ticks, c)]) ∧
         (code = .ok → op ≠ 10 → (∀ y, (s.chain e chain.toNat).act = some y → y.kind ≠ .cal) →
           s.now + secU ≤ packedTarget s.now (byte s0 8 8) → byte s0 1 1 % 2 = 0 →
           byte t 1 1 = byte s0 1 1 % 128 ∧ (∃ c, (t.chain e chain.toNat).queue = (s.chain e chain.toNat).queue ++ [c] ∧ c.op = op ∧ c.recAt = some a ∧
             c.port = packedTarget s.now (byte s0 8 8) + byte s0 16 2 * 2 ^ 16) ∧
           ∀ r k, r < 3 → k < 4 → (r, k) ≠ (e, chain.toNat) → t.chain r k = s.chain r k)) ∧
     (0x8000 ≤ a → a ≤ 0xFFE0 → op = 11 →
       (tableSize e ≤ (x.gr rb).toNat % 16384 ∨ ∀ o ∈ (s0.accOf e).offers, o.entry ≠ (x.gr rb).toNat % 16384) →
       Gives (row core rd ra rb chain) s fun t =>
         (rd ≠ 0 → (t.core core).gr rd = 0x11) ∧ (∀ r k, (t.chain r k).queue = (s.chain r k).queue)) ∧
     (∀ o : Occ, 0x8000 ≤ a → a ≤ 0xFFE0 → a % 8 = 0 → op = 11 → chain = 0 → late = false → s.coarse = false →
       let idx := (x.gr rb).toNat % 16384
       let act := if o.action = 1 then 2 else 1
       let queue := (s.chain e o.chain).queue
       idx < tableSize e → s0.slotOcc e idx = some o → o.badPre = false → o.chain ∈ (chainsOf act).getD e [] →
       (o.action = 1 → 0 < o.window ∧ o.window ≤ 4000000) →
       (o.action ≠ 1 → isSpad o.buf = true ∧ o.buf % 8 = 0 ∧ s.rdLe o.buf 1 % 2 = 1 ∧
         ∃ m, modeInfo e o.mode = some m ∧ m.min ≤ s.rdLe (o.buf + 2) 2 ∧ s.rdLe (o.buf + 2) 2 ≤ m.max) →
       s.now + secU ≤ o.port → o.port ≤ s.now + 4096 * secU → (∀ q ∈ queue, q.ack = none → q.port ≤ o.port) →
       (queue.filter (fun q => q.ack.isNone)).length < 8 → (∀ y, (s.chain e o.chain).act = some y → y.kind ≠ .cal) →
       Gives (row core rd ra rb chain) s fun t =>
         x.WroteG (t.core core) rd 0 ∧ byte t 1 1 = byte s0 1 1 % 128 ∧
         (∃ c, (t.chain e o.chain).queue = queue ++ [c] ∧ c.op = act ∧ c.recAt = some a ∧ c.slot = some o ∧ c.port = o.port ∧ c.pre = o.pre) ∧
         ∃ l, (t.accOf e).offers = l ∧ l.length + 1 = (s.accOf e).offers.length)) ∧
  (∀ (r : Fin 3) (k : Fin 4) (s : State) (q : QCmd) (rest : List QCmd), (s.chain r k).queue = q :: rest → q ∉ rest →
     let ended (code : Nat) (t : State) : Prop := (t.chain r k).queue = rest ∧ (t.chain r k).act = (s.chain r k).act ∧ s.Recorded t r q code s.now
     let h := s.chain r k
     let ready := (r = 1 ∧ q.op ≠ 1) ∨
       (h.locked = true ∧ h.moving = false ∧ h.stands r (decide (q.op = 1)) q.chan (galeWidth q.mode) = true ∧ h.lockAt + 30 * usU ≤ q.port)
     let power := sgn 8 q.power
     let need := s.paNeed r k power
     let reg := s.regCheck (s.cmdSubs r q) r (s.eirp (s.chain r k) r k (s.paLevel need) power) (s.cmdAir r q) q.port
     (s.checksDue = [(4 * r.val + k.val, q)] →
       let first (code : Nat) : Prop := Gives (.txRegulatoryCheck r k) s (ended code)
       (s.turnOk r k q = false → first 1) ∧
       (s.turnOk r k q = true → s.paOk need = false → first 1) ∧
       (s.turnOk r k q = true → s.paOk need = true → q.port ≤ s.now + 30 * usU → ¬ ready → first 1) ∧
       (s.turnOk r k q = true → s.paOk need = true → (s.now + 30 * usU < q.port ∨ ready) →
         (reg ≠ .allowed → Gives (.txRegulatoryCheck r k) s (fun t => ended 2 t ∧ ∃ p ∈ t.fabric, p.line = 27 + r.val)) ∧
         (reg = .allowed → s.bandBusy r k q.port = true → first 3) ∧
         (reg = .allowed → s.bandBusy r k q.port = false → Gives (.txRegulatoryCheck r k) s fun t =>
           ∃ id g, (t.chain r k).queue = { q with regOk := true, resv := some id, paReg := g } :: rest ∧
             (∀ n, g = some n ↔ ∃ level, need = .need n level) ∧
             ∃ d ∈ t.duty.ring, d.id = id ∧ d.resv = true ∧ d.d = ceilMs (s.cmdAir r q)))) ∧
     (q.op = 1 ∨ q.op = 2 ∨ q.op = 7 → q.lockOk = false → q.port ≤ s.now + 30 * usU →
       (ready → Gives (.lockCheck r k) s fun t => (t.chain r k).queue = { q with lockOk := true } :: rest) ∧
       (¬ ready → Gives (.lockCheck r k) s (ended 1))) ∧
     (∀ peak : BitVec 16, q.op = 1 → q.lbtOk = false → s.cmdLbt r q = true → q.port ≤ s.now + 24 * usU →
       (s.portThresh (s.chain r k) r k (s.cmdSubs r q) < peak.toInt → Gives (.lbtDecision r k peak) s (ended 2)) ∧
       (peak.toInt ≤ s.portThresh (s.chain r k) r k (s.cmdSubs r q) → Gives (.lbtDecision r k peak) s fun t =>
         (t.chain r k).queue = { q with lbtOk := true } :: rest)) ∧
     (q.moved = false → (s.chain r k).needsMove r q = true → s.moveInstant r q ≤ s.now → (s.chain r k).act = none →
       (∀ x ∈ q :: rest, x.path = false) → s.windowFrame r k = false → Gives (.synthMoveStart r k) s fun t =>
         (t.chain r k).queue = { q with moved := true } :: rest ∧ (t.chain r k).moving = true ∧ (t.chain r k).locked = false ∧
         (t.chain r k).chan = q.chan) ∧
     (q.op = 1 → q.regOk = true → q.lockOk = true → q.path = false → (q.lbtOk = true ∨ s.cmdLbt r q = false) → q.port ≤ s.now + pathTime r →
       (s.chain r k).act = none → q.ack = none → Gives (.transmitPathBegin r k) s fun t =>
         (t.chain r k).queue = { q with path := true } :: rest ∧ ∀ l, (t.chain r k).listen = some l → r = 1 ∨ l.suspended = true))

/-- QUEUED_COMMAND_BEGIN on the head of the queue; coarse NT by R71. -/
def Obligations.QueuedCommandsBeginAtTheirPortTime : Prop :=
  ∀ (r : Fin 3) (k : Fin 4) (s : State) (q : QCmd) (rest : List QCmd), (s.chain r k).queue = q :: rest → q ∉ rest →
    let ended (code : Nat) (t : State) : Prop := (t.chain r k).queue = rest ∧ (t.chain r k).act = (s.chain r k).act ∧ s.Recorded t r q code s.now
    (q.passed = true → Gives (.queuedCommandBegin r k) s (ended 1)) ∧
    (q.passed = false → q.port ≤ s.now → s.coarse = true → q.op ≠ 9 → q.ack = none → Gives (.queuedCommandBegin r k) s (ended 17)) ∧
    (q.passed = false → q.port ≤ s.now → (s.coarse = false ∨ q.op = 9) → s.portOn r k = false → Gives (.queuedCommandBegin r k) s (ended 13)) ∧
    (q.passed = false → q.port ≤ s.now → (s.coarse = false ∨ q.op = 9) → s.portOn r k = true → q.op ∈ [1, 2, 3, 4, 5, 6, 7, 9] →
      (∀ a, (s.chain r k).act = some a → a.kind ≠ .cal → Gives (.queuedCommandBegin r k) s (ended 1)) ∧
      ((s.chain r k).act = none → s.turnOk r k q = true → s.windowBlocks r k q = false →
        (q.op = 1 → q.regOk = true → q.lockOk = true → q.path = true → (q.lbtOk = true ∨ s.cmdLbt r q = false) → q.ack = none →
          Gives (.queuedCommandBegin r k) s fun t =>
            (t.chain r k).queue = rest ∧ (t.chain r k).act = some ⟨.tx, q, q.port + s.cmdAir r q, none, 0, some (s.modem r q)⟩) ∧
        (q.op = 7 → q.lockOk = true → Gives (.queuedCommandBegin r k) s fun t =>
            (t.chain r k).queue = rest ∧ (t.chain r k).act = some ⟨.cca, q, q.port + q.window * usU, none, 0, none⟩) ∧
        (q.op = 9 → Gives (.queuedCommandBegin r k) s fun t =>
            (t.chain r k).queue = rest ∧ (t.chain r k).act = none ∧ (t.chain r k).listen = none ∧
            ∀ a, q.recAt = some a → (t.engine r).rd (a + 3) 1 = 0 ∧ 128 ≤ (t.engine r).rd (a + 1) 1))) ∧
    ((∀ x ∈ q :: rest, x.passed = false ∧ s.now < x.port) → exec (.queuedCommandBegin r k) s = .next s.settleMisses)

/-- R129, R140 and R150. The ring of duty records. -/
def Obligations.AbortsAndDutyRecords : Prop :=
  (∀ (r : Fin 3) (k : Fin 4) (s : State),
     (∀ x rest, (s.chain r k).aborts = x :: rest → x.1 + 2 ≤ s.ticks → Gives (.abortEffect r k) s fun t =>
       (t.chain r k).queue = [] ∧ (t.chain r k).act = none ∧ (t.chain r k).listen = none ∧ (t.chain r k).aborts = rest ∧
       ∀ a, x.2.recAt = some a → (t.engine r).rd (a + 3) 1 = 0) ∧
     ((∀ x ∈ (s.chain r k).aborts, s.ticks < x.1 + 2) → exec (.abortEffect r k) s = .next s.settleMisses) ∧
     (∀ l, (s.chain r k).listen = some l → l.suspended = true → l.resumeAt ≠ 0 → l.resumeAt ≤ s.now → (s.chain r k).act = none →
       (r = 1 ∨ ((s.chain r k).locked = true ∧ (s.chain r k).moving = false ∧
         (s.chain r k).stands r false l.cmd.chan l.cmd.width = true ∧ (s.chain r k).lockAt + 30 * usU ≤ s.now)) →
       (∀ q ∈ (s.chain r k).queue, q.path = false ∧ s.now + 200 * usU < q.port) → Gives (.listenResume r k) s fun t =>
         (t.chain r k).listen = some { l with suspended := false, resumeAt := 0 }) ∧
     (∀ at_ set, (s.chain r k).calOld = some (at_, set) →
       (s.inGap r k = true → Gives (.calSetApply r k) s fun t => (t.chain r k).calOld = none ∧
         ((∀ j : Fin 4, j ≠ k → (s.chain r j).calOld = none) → t.fld (F.RF_STAT_CAL_PENDING r) = 0)) ∧
       (at_ + secU ≤ s.clock → (s.chain r k).act = none → Gives (.calGapTimeout r k) s fun t => (t.chain r k).calOld = none))) ∧
  (∀ s : State,
     Gives .dutyRecordExpire s (fun t => (∀ d, d ∈ t.duty.ring ↔ d ∈ s.duty.ring ∧
       (d.resv = true ∨ (d.d ≠ 0 ∧ s.dutyMs s.now + 1 < d.s0 + d.d + 3600000))) ∧ t.duty.nextId = s.duty.nextId ∧ t.regs = s.regs) ∧
     (∀ since, s.duty.recalc = some since → Gives .meterRecomputeDone s (fun t => t.fld F.REG_STAT_RECOMPUTING = 0 ∧ t.duty.recalc = none ∧
       t.duty.ring.map (fun d => (d.id, d.d)) = s.duty.ring.map (fun d => (d.id, d.d)))) ∧
     (∀ (b at_ : Nat), (∀ d ∈ s.duty.ring, d.subs.testBit b = false) → s.usage b at_ = 0))

/-- The encodings of chapter 04 against the decoder. The words are put together by the formats of R79. -/
def Obligations.IblekWordsSpellTheirInstructions : Prop :=
  ∀ c : Fin 24,
    (∀ (d a b : Fin 32),
      (∀ p ∈ ([(0x00, .add), (0x01, .sub), (0x02, .and_), (0x03, .or_), (0x04, .xor), (0x05, .slt), (0x06, .sltu), (0x07, .sll),
          (0x08, .srl), (0x09, .sra), (0x0A, .ror), (0x0B, .addw), (0x0C, .subw), (0x0D, .sllw), (0x0E, .srlw), (0x0F, .sraw),
          (0x10, .mul), (0x11, .mulh), (0x12, .mulhu), (0x13, .mulhsu), (0x14, .div), (0x15, .divu), (0x16, .rem_), (0x17, .remu),
          (0x18, .min), (0x19, .max), (0x1A, .minu), (0x1B, .maxu), (0x20, .selnz)] : List (Nat × Form3)),
        decodeIblek c (encR 0x01 d a b p.1) = some (p.2 c d a b)) ∧
      (∀ p ∈ ([(0x1C, .clz), (0x1D, .ctz), (0x1E, .popc), (0x1F, .bswap)] : List (Nat × (Fin 24 → Fin 32 → Fin 32 → Instr))),
        decodeIblek c (encR 0x01 d a b p.1) = if b = 0 then some (p.2 c d a) else none) ∧
      ∀ fn, 0x20 < fn → fn < 2 ^ 11 → decodeIblek c (encR 0x01 d a b fn) = none) ∧
    (∀ (d a : Fin 32) (i : BitVec 16),
      ∀ p ∈ ([(0x02, .addi), (0x03, .andi), (0x04, .ori), (0x05, .xori), (0x06, .slti), (0x07, .sltiu), (0x08, .shi), (0x09, .addiw),
          (0x0D, .jalr), (0x10, .beq), (0x11, .bne), (0x12, .blt), (0x13, .bge), (0x14, .bltu), (0x15, .bgeu), (0x18, .lb), (0x19, .lbu),
          (0x1A, .lh), (0x1B, .lhu), (0x1C, .lw), (0x1D, .lwu), (0x1E, .ld), (0x20, .sb), (0x21, .sh), (0x22, .sw), (0x23, .sd),
          (0x24, .flw), (0x25, .fld), (0x26, .fsw), (0x27, .fsd)] : List (Nat × (Fin 24 → Fin 32 → Fin 32 → BitVec 16 → Instr))),
        decodeIblek c (encI p.1 d a i.toNat) = some (p.2 c d a i)) ∧
    (∀ (d : Fin 32) (i : BitVec 21),
      decodeIblek c (encU 0x0A d i.toNat) = some (.lui c d i) ∧ decodeIblek c (encU 0x0B d i.toNat) = some (.auipc c d i) ∧
      decodeIblek c (encU 0x0C d i.toNat) = some (.jal c d i)) ∧
    (∀ (d a b : Fin 32) (x aq rl : Bool),
      let w (op : Nat) : Nat := encR 0x28 d a b (op * 2 ^ 7 + b2n x * 2 ^ 6 + b2n aq * 2 ^ 5 + b2n rl * 2 ^ 4)
      decodeIblek c (w 0) = some (.lr c d a x aq rl) ∧
      (∀ p ∈ ([(1, .sc), (2, .swapAtomic), (3, .aadd), (4, .aand), (5, .aor), (6, .axor), (7, .amin), (8, .amax), (9, .aminu),
          (10, .amaxu), (11, .cas)] : List (Nat × (Fin 24 → Fin 32 → Fin 32 → Fin 32 → Bool → Bool → Bool → Instr))),
        decodeIblek c (w p.1) = some (p.2 c d a b x aq rl)) ∧
      (∀ op, 11 < op → op < 16 → decodeIblek c (w op) = none) ∧
      ∀ op low, op < 16 → low < 16 → 0 < low → decodeIblek c (w op + low) = none) ∧
    (∀ (d a b x : Fin 32) (dbl : Bool) (m : Fin 8),
      let w (op : Nat) : Nat := encR 0x30 d a b (op * 2 ^ 4 + b2n dbl * 2 ^ 3 + m)
      (∀ p ∈ ([(0, .fadd), (1, .fsub), (2, .fmul), (3, .fdiv), (5, .fmin), (6, .fmax), (7, .fsgnj), (8, .fsgnjn), (9, .fsgnjx),
          (10, .feq), (11, .flt), (12, .fle)] : List (Nat × (Fin 24 → Fin 32 → Fin 32 → Fin 32 → Bool → Fin 8 → Instr))),
        decodeIblek c (w p.1) = some (p.2 c d a b dbl m)) ∧
      (∀ p ∈ ([(4, .fsqrt), (13, .fclass), (14, .fcvtFI), (15, .fcvtFIu), (16, .fcvtIF), (17, .fcvtIuF), (18, .fcvtP), (19, .fmvIF),
          (20, .fmvFI)] : List (Nat × (Fin 24 → Fin 32 → Fin 32 → Bool → Fin 8 → Instr))),
        decodeIblek c (w p.1) = if b = 0 then some (p.2 c d a dbl m) else none) ∧
      (∀ op, 20 < op → op < 128 → decodeIblek c (w op) = none) ∧
      ∀ p ∈ ([(0x31, .fmadd), (0x32, .fmsub), (0x33, .fnmadd), (0x34, .fnmsub)] :
          List (Nat × (Fin 24 → Fin 32 → Fin 32 → Fin 32 → Fin 32 → Bool → Fin 8 → Instr))),
        decodeIblek c (encF p.1 d a b x m (b2n dbl)) = some (p.2 c d a b x dbl m) ∧
        ∀ low, 0 < low → low < 4 → decodeIblek c (encF p.1 d a b x m (b2n dbl) + low) = none) ∧
    (∀ (d a : Fin 32) (sr : BitVec 12) (scope : Fin 4) (pre suc : BitVec 4),
      let w (op low : Nat) : Nat := encI 0x2F d a (op * 2 ^ 12 + low)
      decodeIblek c (w 0 sr.toNat) = some (.srswap c d a sr) ∧ decodeIblek c (w 1 sr.toNat) = some (.srset c d a sr) ∧
      decodeIblek c (w 2 sr.toNat) = some (.srclr c d a sr) ∧ decodeIblek c (w 10 scope) = some (.tlbinv c d a scope) ∧
      (let bare : Prop := d = 0 ∧ a = 0
       (bare → decodeIblek c (w 4 0) = some (.ecall c) ∧ decodeIblek c (w 5 0) = some (.ebreak c) ∧
         decodeIblek c (w 6 0) = some (.eret c) ∧ decodeIblek c (w 7 0) = some (.wfi c) ∧
         decodeIblek c (w 8 (16 * pre.toNat + suc.toNat)) = some (.fence c pre suc) ∧ decodeIblek c (w 9 0) = some (.isync c)) ∧
       (¬ bare ∨ sr ≠ 0 → ∀ op, 4 ≤ op → op ≤ 7 → decodeIblek c (w op sr.toNat) = none) ∧
       (¬ bare ∨ 256 ≤ sr.toNat → decodeIblek c (w 8 sr.toNat) = none ∧ decodeIblek c (w 9 sr.toNat) = none)) ∧
      ∀ op, op = 3 ∨ 10 < op → op < 16 → decodeIblek c (w op sr.toNat) = none) ∧
    (∀ (d a b : Fin 32) (n : Byte),
      let w (op sub : Nat) : Nat := encR op d a b (sub * 2 ^ 8 + n.toNat)
      let if_ (p : Bool) (i : Instr) : Option Instr := if p = true then some i else none
      decodeIblek c (w 0x38 0) = if_ (a == 0 && b == 0) (.ntrd c d n) ∧
      decodeIblek c (w 0x38 1) = if_ (d == 0 && b == 0 && n == 0) (.waitnt c a) ∧
      decodeIblek c (w 0x38 2) = if_ (d == 0 && b == 0 && n == 0) (.attick c a) ∧
      decodeIblek c (w 0x38 3) = if_ (d == 0 && b == 0) (.evtrig c a n) ∧ decodeIblek c (w 0x38 4) = if_ (a == 0 && b == 0) (.evwait c d n) ∧
      decodeIblek c (w 0x38 5) = some (.tx c d a b n) ∧ decodeIblek c (w 0x39 0) = if_ (b == 0 && n == 0) (.wdDone c d a) ∧
      decodeIblek c (w 0x39 1) = if_ (b == 0) (.post_ c d a n) ∧ decodeIblek c (w 0x3A 0) = if_ (a == 0 && b == 0) (.lckTake c d n) ∧
      decodeIblek c (w 0x3A 1) = if_ (a == 0 && b == 0) (.lckGive c d n) ∧ decodeIblek c (w 0x3A 2) = if_ (b == 0 && n == 0) (.takev c d a) ∧
      decodeIblek c (w 0x3A 3) = if_ (b == 0 && n == 0) (.givev c d a) ∧ decodeIblek c (w 0x3B 0) = some (.svc c d a b n) ∧
      (∀ x ∈ ([(0x38, 6), (0x39, 2), (0x3A, 4), (0x3B, 1)] : List (Nat × Nat)), ∀ sub, x.2 ≤ sub → sub < 8 → decodeIblek c (w x.1 sub) = none)) ∧
    (∀ w, w / 2 ^ 26 % 64 ∈ [0x00, 0x0E, 0x0F, 0x16, 0x17, 0x1F, 0x29, 0x2A, 0x2B, 0x2C, 0x2D, 0x2E, 0x35, 0x36, 0x37, 0x3C, 0x3D, 0x3E, 0x3F] →
      decodeIblek c w = none) ∧
    (∀ (w : Nat) (s : State),
      (decodeIblek c w = none → s.Issues c .base → execWord c w s = .next ((s.begun c).illegal c w)) ∧
      (∀ i, decodeIblek c w = some i → execWord c w s = exec i s))

namespace Sys2Proof.Machine

/-- The command is one access of a requester to one register: who makes it, the register's address, the word written (none for a
read), with the bits that a row leaves as they stand taken from the state. -/
def regRow (s : State) (i : Instr) : Option (Nat × Nat × Option Word) :=
  match i with
  | .registerWrite req addr value => some (req.val, addr.toNat, some value)
  | .rcFieldRead req addr => some (req.val, addr.toNat, none)
  | .wideValueLowRead req addr => some (req.val, addr.toNat, none)
  | .wideValueLowWrite req addr value => some (req.val, addr.toNat, some value)
  | .wideValueHighWrite req addr value => some (req.val, addr.toNat, some value)
  | .shadowWrite req addr value => some (req.val, addr.toNat, some value)
  | .swapRequest req slot => some (req.val, (R.HIT_SWAP_CMD slot.val), some 1)
  | .swapCancel req slot => some (req.val, (R.HIT_SWAP_CMD slot.val), some 2)
  | .fnEnable req fn => some (req.val, (fnCtlAddr fn), some 1)
  | .fnDisable req fn => some (req.val, (fnCtlAddr fn), some 0)
  | .ntIncrWrite req dom hi => some (req.val, (R.NT_INCR_HI dom.val), some hi)
  | .markCoarse req dom holdover fine => some (req.val, (R.NT_CTL dom.val), some (BitVec.ofNat 32 (2 + 4 * b2n holdover + b2n fine)))
  | .markFine req dom holdover => some (req.val, (R.NT_CTL dom.val), some (BitVec.ofNat 32 (1 + 4 * b2n holdover)))
  | .refSrcWrite req src => some (req.val, R.TSEL_REF, some (BitVec.ofNat 32 src.val))
  | .ntStep req dom force => some (req.val, (R.NT_ADJ_CMD dom.val), some (BitVec.ofNat 32 (1 + 4 * b2n force)))
  | .ntLoad req dom force => some (req.val, (R.NT_ADJ_CMD dom.val), some (BitVec.ofNat 32 (2 + 4 * b2n force)))
  | .tselSwitch req sel => some (req.val, R.TSEL_CTL, some (setBits (s.reg R.TSEL_CTL) 0 0 sel.val))
  | .todDataRead req rx => some (req.val, (R.NT_TOD_DATA 0 rx.val), none)
  | .seLmDataAccess req eng write => some (req.val, (R.SE_LM_DATA eng.val), write)
  | .sePost req eng hi => some (req.val, (R.SE_POST_HI eng.val), some hi)
  | .sePop req eng => some (req.val, (R.SE_POP_LO eng.val), none)
  | .seEvpost req eng line => some (req.val, (R.SE_EVPOST eng.val), some (BitVec.ofNat 32 line.toNat))
  | .accNextRead req radio => some (req.val, (R.ACC_NEXT radio.val), none)
  | .regRegionWrite req value => some (req.val, R.REG_REGION, some value)
  | .accWrite req radio active => some (req.val, (R.ACC_EDIT_CMD radio.val), some (BitVec.ofNat 32 (1 + 8 * b2n active)))
  | .editRead req radio active => some (req.val, (R.ACC_EDIT_CMD radio.val), some (BitVec.ofNat 32 (2 + 8 * b2n active)))
  | .accLoad req radio active => some (req.val, (R.ACC_EDIT_CMD radio.val), some (BitVec.ofNat 32 (3 + 8 * b2n active)))
  | .accCopy req radio active => some (req.val, (R.ACC_EDIT_CMD radio.val), some (BitVec.ofNat 32 (4 + 8 * b2n active)))
  | .lnkRegister req => some (req.val, R.LNK_CMD, some 1)
  | .unregister req => some (req.val, R.LNK_CMD, some 2)
  | .contextRead req => some (req.val, R.LNK_CMD, some 3)
  | .setcfg req => some (req.val, R.LNK_CMD, some 4)
  | .resetdrift req => some (req.val, R.LNK_CMD, some 5)
  | .drlLostRead req => some (req.val, R.DRL_LOST, none)
  | .addEntry req => some (req.val, R.RTR_EDIT_CMD, some 1)
  | .rtrDel req => some (req.val, R.RTR_EDIT_CMD, some 2)
  | .setdef req => some (req.val, R.RTR_EDIT_CMD, some 3)
  | .routerRead req => some (req.val, R.RTR_EDIT_CMD, some 4)
  | .commitNow req => some (req.val, R.RTR_COMMIT_CMD, some 1)
  | .commitAtNt req => some (req.val, R.RTR_COMMIT_CMD, some 2)
  | .commitCancel req => some (req.val, R.RTR_COMMIT_CMD, some 3)
  | .pcieDoorbell req value => some (req.val, R.PCIE_DOORBELL, some value)
  | .tmGateAccess req write => some (req.val, R.TM_GATE_HI, write)
  | .rqPop req queue => some (req.val, (R.RQ_POP_LO queue.val), none)
  | .rqReadWrite req queue value => some (req.val, (R.RQ_PTR_A queue.val), some (BitVec.ofNat 32 (65536 * value.toNat)))
  | .rqMark req queue => some (req.val, (R.RQ_CMD queue.val), some 1)
  | .rewind req queue => some (req.val, (R.RQ_CMD queue.val), some 2)
  | .release_ req queue => some (req.val, (R.RQ_CMD queue.val), some 3)
  | .queueEnable req queue cfg => some (req.val, (R.RQ_CFG queue.val), some (setBits cfg 31 31 1))
  | .queueDisable req queue => some (req.val, (R.RQ_CFG queue.val), some (setBits (s.reg (R.RQ_CFG queue.val)) 31 31 0))
  | .poolEnable req pool cfg => some (req.val, (R.RQ_POOL_CFG pool.val), some (setBits cfg 31 31 1))
  | .poolDisable req pool => some (req.val, (R.RQ_POOL_CFG pool.val), some (setBits (s.reg (R.RQ_POOL_CFG pool.val)) 31 31 0))
  | .poolStashRead req pool => some (req.val, (R.RQ_POOL_STASH pool.val), none)
  | .lckForceRelease req value => some (req.val, R.LCK_FORCE, some value)
  | .sequenceBreak req => some (req.val, R.ARB_CFG, some (setBits (s.reg R.ARB_CFG) 31 31 1))
  | .cphInval req value => some (req.val, R.CPH_INVAL, some value)
  | .loadw req long => some (req.val, R.KST_CMD, some (BitVec.ofNat 32 (1 + 32 * b2n long)))
  | .loadp req long => some (req.val, R.KST_CMD, some (BitVec.ofNat 32 (2 + 32 * b2n long)))
  | .wrap req long => some (req.val, R.KST_CMD, some (BitVec.ofNat 32 (3 + 32 * b2n long)))
  | .kstClear req long => some (req.val, R.KST_CMD, some (BitVec.ofNat 32 (4 + 32 * b2n long)))
  | .arm req long => some (req.val, R.KST_CMD, some (BitVec.ofNat 32 (5 + 32 * b2n long)))
  | .whiteout req long => some (req.val, R.KST_CMD, some (BitVec.ofNat 32 (6 + 32 * b2n long)))
  | .powerRequestNow req target => some (req.val, R.PWR_REQ, some (BitVec.ofNat 32 (0x10 + target.val)))
  | .powerRequestAt req target => some (req.val, R.PWR_REQ, some (BitVec.ofNat 32 (0x20 + target.val)))
  | .powerRequestCancel req => some (req.val, R.PWR_REQ, some (BitVec.ofNat 32 (0x30 + s.fld F.PWR_REQ_TARGET)))
  | .detachGo req => some (req.val, R.PWR_DETACH, some 1)
  | .watchdogKick => some (23, R.KPR_WDOG, some (BitVec.ofNat 32 (0x8000 + s.fld F.KPR_WDOG_PERIOD)))
  | .doorbellAck => some (23, R.KPR_STAT, some 1)
  | .passLoad req slot => some (req.val, R.PASS_CMD, some (BitVec.ofNat 32 (1 + 4 * slot.val)))
  | .passRelease req slot => some (req.val, R.PASS_CMD, some (BitVec.ofNat 32 (2 + 4 * slot.val)))
  | .kprHoldWrite value => some (23, R.KPR_HOLD, some value)
  | .serialStart req unit => some (req.val, (R.PIN_SER_CMD unit.val), some 1)
  | .serialAbort req unit => some (req.val, (R.PIN_SER_CMD unit.val), some 2)
  | .pinSerRxRead req unit => some (req.val, (R.PIN_SER_RX unit.val), none)
  | _ => none

/-- Tags I and M leave a mark in the audit tap when they use a right that O lacks (R384). -/
def State.taped (s : State) (req : Nat) (p : RegPlace) (r : RegSpec) (k : Nat) (v : Word) : Prop :=
  (s.role req = 1 ∨ s.role req = 2) ∧ usesHigherRight p r (s.liveWord p r k) (s.shw (blockAddr p.entry p.inst + p.off)) v = true

/-- No earlier access of a requester waits at the block of a place: its accesses to a block take effect in order (R41). -/
def State.InOrder (s : State) (req : Nat) (p : RegPlace) : Prop :=
  ∀ y ∈ s.bus.stalled, y.req = req → ∀ q, locate y.addr = some q → ¬ (q.entry = p.entry ∧ q.inst = p.inst)

/-- A register write that is allowed: mapped to a register of the active view, judged to go on, in order, every field it touches
writable by its requester (R41). -/
structure State.Allows (s : State) (req a : Nat) (v : Word) (p : RegPlace) (r : RegSpec) (k : Nat) : Prop where
  place  : locate a = some p
  active : p.shadow = false
  reg    : ∃ j, regAt p = some (r, k, j)
  go     : s.judge req a 4 = .go
  first  : s.InOrder req p
  rights : rightsOk p r (s.role req) (s.liveWord p r k) (s.shw (blockAddr p.entry p.inst + p.off)) v = true

end Sys2Proof.Machine

/-- One statement for every row that is a register access; regApply is the one operation through which register writes pass. -/
def Obligations.RegisterCommandsReachTheirRegister : Prop :=
  ∀ (i : Instr) (s : State) (req a : Nat),
    let s1 := s.touchDomain (domainOf a)
    (∀ v p r k, regRow s i = some (req, a, some v) → s.Allows req a v p r k →
      (¬ s.taped req p r k v → exec i s = .next ((s1.regApply req p r k v).answer req .ok 0)) ∧
      (s.taped req p r k v → s.tap.length < 64 →
        exec i s = .next (((s1.tapWrite req (s.role req) p.entry p.inst p.off v.toNat).regApply req p r k v).answer req .ok 0))) ∧
    (∀ p, regRow s i = some (req, a, none) → locate a = some p → p.shadow = false → s.judge req a 4 = .go → s.InOrder req p →
      exec i s = .next ((s1.regRead req p).1.answer req .ok (s1.regRead req p).2.toNat)) ∧
    (∀ v p r k j, regRow s i = some (req, a, some v) → locate a = some p → p.shadow = true → regAt p = some (r, k, j) →
      s.judge req a 4 = .go → s.InOrder req p → s.role req ≠ 1 → s.role req ≠ 2 →
      (∀ f ∈ r.fields, f.ty = .rws → hasRight (rightsOf p { r with fields := r.fields.filter (fun f => f.ty == .rws) } f) (s.role req) = true) →
      Gives i s fun t =>
        t.regs = s.regs ∧ t.mem = s.mem ∧ (∀ b, b ≠ blockAddr p.entry p.inst + p.off → t.shw b = s.shw b) ∧
        t.shw (blockAddr p.entry p.inst + p.off) =
          applyShadow { r with fields := r.fields.filter (fun f => f.ty == .rws) } (s.shw (blockAddr p.entry p.inst + p.off)) v)

/-- R13 field by field, and R12 over the whole map. -/
def Obligations.RegisterFieldsActByType : Prop :=
  (∀ (r : RegSpec) (cur v : Word) (f : FieldSpec), r.fields.Pairwise (fun x y => x.msb < y.lsb ∨ y.msb < x.lsb) →
    (∀ x ∈ r.fields, x.lsb ≤ x.msb ∧ x.msb ≤ 31) → f ∈ r.fields →
    let was := getBits cur f.msb f.lsb
    let new := getBits v f.msb f.lsb
    (getBits (applyActive r cur v) f.msb f.lsb =
      match f.ty with | .rw => new | .w1c => was - (was &&& new) | .w1s => was ||| new | .ro | .wo | .rc | .rws => was) ∧
    (getBits (applyShadow r cur v) f.msb f.lsb = if f.ty = .rws then new else was) ∧
    (getBits (readActive r cur) f.msb f.lsb = if f.ty = .wo then 0 else was) ∧
    (getBits (clearRc r cur) f.msb f.lsb = if f.ty = .rc then 0 else was)) ∧
  (∀ e ∈ mapEntries, ∀ r ∈ e.regs, r.fields.Pairwise (fun x y => x.msb < y.lsb ∨ y.msb < x.lsb) ∧ ∀ x ∈ r.fields, x.lsb ≤ x.msb ∧ x.msb ≤ 31)

/-- Table 02-9's outcomes as rows of commands. -/
def Obligations.AccessesFailStallAndWake : Prop :=
  (∀ (req : Fin 32) (addr : BitVec 40) (v : Word) (s : State) (code : Status), s.judge req addr.toNat 4 = .fail code →
    isReg addr.toNat = true → (∀ y ∈ s.bus.stalled, y.req ≠ req.val) → Gives (.registerWrite req addr v) s fun t =>
      t.bus.resp = some ⟨req, code.code, 0xFFFFFFFF⟩ ∧
      (20 ≤ req.val ∨ s.live req = false → t.mem = s.mem ∧ t.cores = s.cores) ∧
      (req.val ≤ 3 → s.live req = true → (s.core req).status.getLsbD 3 = false → t.mem = s.mem ∧
        (s.core req).Entered (t.core req) (s.core req).pc (BitVec.ofNat 64 (256 * code.code + 0x0E)) (BitVec.ofNat 64 addr.toNat) (s.core req).evec) ∧
      (s.fld F.HIT_ACCERR_STATUS_VALID = 0 → t.fld F.HIT_ACCERR_STATUS_VALID = 1 ∧ t.fld F.HIT_ACCERR_STATUS_STATUS = code.code ∧
        t.fld F.HIT_ACCERR_STATUS_REQUESTER = req.val ∧ t.fld F.HIT_ACCERR_STATUS_WRITE = 1 ∧
        t.fld F.HIT_ACCERR_ADDR_ADDR_LO = addr.toNat % 2 ^ 32 ∧ t.fld F.HIT_ACCERR_STATUS_ADDR_HI = addr.toNat / 2 ^ 32 ∧
        ∃ p ∈ t.fabric, p.line = 23) ∧
      (s.fld F.HIT_ACCERR_STATUS_VALID = 1 → t.fld F.HIT_ACCERR_STATUS_OVERFLOW = 1 ∧ t.fld F.HIT_ACCERR_STATUS_STATUS = s.fld F.HIT_ACCERR_STATUS_STATUS)) ∧
  (∀ (s : State) (req a size : Nat), 20 ≤ req → req ≤ 22 → s.judge req a size ≠ .stall ∧
    (s.asleep (domainOf a) = true → s.judge req a size ≠ .go)) ∧
  (∀ (req : Fin 32) (addr : BitVec 40) (v : Word) (s : State), s.judge req addr.toNat 4 = .stall → isReg addr.toNat = true →
    Gives (.registerWrite req addr v) s fun t => t.regs = s.regs ∧
      t.bus.stalled = s.bus.stalled ++ [⟨req, addr.toNat, 4, some v.toNat, 0, .plain, addr.toNat⟩]) ∧
  (∀ (req : Fin 32) (a n : Nat) (s : State) (rest : List Stalled), s.bus.stalled = ⟨req, a, n, none, 0, .plain, a⟩ :: rest →
    (∀ y ∈ rest, y.req ≠ req.val) → s.asleep (domainOf a) = false → s.judge req a n = .go → isDram a = true → s.inCodes a = false →
    s.wrongBits a = 0 →
    Gives (.accessStallEnd req) s fun t => t.bus.stalled = rest ∧ t.bus.resp = some ⟨req, 0, s.rdLe a n⟩ ∧ t.mem = s.mem) ∧
  (∀ (req : Fin 32) (addr : BitVec 40) (v : Word) (s : State) (p : RegPlace) (r : RegSpec) (k lo : Nat) (hs : List Nat),
    s.Allows req addr.toNat v p r k → ¬ s.taped req p r k v → wideGroup p = some (lo :: hs) → addr.toNat ∈ (lo :: hs).dropLast →
    s.lockedNow p r k = false → (lo :: hs).Nodup → Gives (.wideValueLowWrite req addr v) s fun t => t.regs = s.regs ∧ t.latchOf req addr.toNat = some v) ∧
  (∀ (req : Fin 32) (addr : BitVec 40) (s : State) (p : RegPlace) (hs : List Nat), locate addr.toNat = some p → p.shadow = false →
    (regAt p).isSome = true → s.judge req addr.toNat 4 = .go → s.InOrder req p → wideGroup p = some (addr.toNat :: hs) →
    Gives (.wideValueLowRead req addr) s fun t => ∃ ws, t.captureOf req addr.toNat = some ws ∧ ws.length = hs.length) ∧
  (∀ (d : Fin 17) (s : State), d.val ≠ 16 → s.powered d = true → s.stateHolds d = false →
    SMap.get (fun _ => 0) s.pwr.lastAccess d + s.linger ≤ s.clock →
    (∀ x ∈ powerOrder, s.powered x = true → d.val ∉ requires x) → Gives (.domainLingerExpiry d) s fun t =>
      t.powered d = false ∧ t.mem = s.mem ∧ ∀ c, t.core c = s.core c)

/-- What the block itself does at a start or stop follows in fnStarted, fnStarting and fnStopping; the state given to it is
pinned here. The swap unit, with the program swap as the set whose effect is told. -/
def Obligations.FunctionsMoveAndSwapsTakeEffect : Prop :=
  (∀ (x : FnRef) (s : State), fnExists x.entry x.inst x.f = true →
     let e := x.entry.val
     let i := x.inst.val
     let f := x.f.val
     let st (u : State) : Nat := u.fld (fnState e i f)
     let last (u : State) : Nat := u.fld (fnLast e i f)
     let again (u : State) : Nat := u.fld (fnRestart e i f)
     (st s = 1 → s.startReady e = true → s.startSound e i = true →
       (s.abandoning e i f = false → ∃ u, exec (.fnStartDone x) s = .next (u.fnStarted e i f) ∧ st u = 2 ∧ last u = 0 ∧ u.mem = s.mem) ∧
       (s.abandoning e i f = true → ∃ u, exec (.fnStartDone x) s = .next (u.fnStopping e i f) ∧ st u = 3 ∧ last u = 0 ∧
         u.abandoning e i f = false ∧ u.pwr.abandoned.contains (fnAt e i f) = true)) ∧
     (st s = 1 → Gives (.fnStartFail x) s fun t => st t = 4 ∧ last t = 0x11 ∧ again t = 0 ∧ t.mem = s.mem ∧ t.cores = s.cores) ∧
     (st s = 1 → s.abandoning e i f = true → ∃ u, exec (.fnSafePoint x) s = .next ((u.fnStopping e i f).afterStop e i f) ∧ st u = 3 ∧
       last u = last s ∧ u.abandoning e i f = false) ∧
     (st s = 3 → s.stopReady e i f = true → e ≠ 30 → ∃ u,
       last u = (if s.pwr.abandoned.contains (fnAt e i f) then 0x0D else 0) ∧
       (again s = 0 → st u = 0 ∧ exec (.fnStopDone x) s = .next (u.afterStop e i f)) ∧
       (again s = 1 → radioEntry e = false ∨ s.fld F.KPR_STAT_HOLD = 0 → st u = 1 ∧ again u = 0 ∧
         exec (.fnStopDone x) s = .next ((u.fnStarting e i f).afterStop e i f))) ∧
     (st s = 3 → ∃ u, exec (.fnStopFail x) s = .next (u.afterStop e i f) ∧ st u = 4 ∧ last u = 0x11 ∧ again u = 0) ∧
     (st s ≠ 1 → exec (.fnStartDone x) s = .next s ∧ exec (.fnStartFail x) s = .next s) ∧
     (st s = 0 → radioEntry e = false ∨ s.fld F.KPR_STAT_HOLD = 0 → ∃ u, s.fnWrite e i f true = u.fnStarting e i f ∧ st u = 1) ∧
     (st s = 0 → radioEntry e = true → s.fld F.KPR_STAT_HOLD = 1 → s.fnWrite e i f true = s) ∧
     (st s = 2 → ∃ u, s.fnWrite e i f false = u.fnStopping e i f ∧ st u = 3) ∧
     (st s = 1 → st (s.fnWrite e i f false) = 1 ∧ (s.fnWrite e i f false).abandoning e i f = true ∧
       (s.abandoning e i f = true → again (s.fnWrite e i f true) = 1)) ∧
     (st s = 3 → again (s.fnWrite e i f true) = 1 ∧ again (s.fnWrite e i f false) = 0 ∧ st (s.fnWrite e i f true) = 3) ∧
     (st s = 4 → st (s.fnWrite e i f false) = 0 ∧ s.fnWrite e i f true = s)) ∧
  (∀ (n : Fin 8) (s : State),
     let pending := s.fld (F.HIT_SWAP_STAT_STATE n) = 1
     (∀ e : Fin 3, pending → getBits (s.reg (R.HIT_SWAP_SETS n)) 19 0 = 2 ^ (3 + e.val) → bitOf (s.fld (F.HIT_SWAP_STAT_DONE n)) (3 + e.val) = false →
       (s.coarse = false → s.swapNt n ≤ s.now → Gives (.swapTakeEffect n) s fun t =>
         (t.engine e).active = 1 - (s.engine e).active ∧ (t.engine e).lm = (s.engine e).lm ∧ (t.engine e).posts = (s.engine e).posts ∧
         (t.engine e).latches = (s.engine e).latches ∧
         t.fld (F.SE_CFG_ENTRY e) = getBits (s.shw (F.SE_CFG_ENTRY e).addr) (F.SE_CFG_ENTRY e).msb (F.SE_CFG_ENTRY e).lsb ∧
         (s.runState e = 2 → (t.engine e).wait = .none ∧ (t.core (20 + e)).pc = BitVec.ofNat 64 (4 * t.fld (F.SE_CFG_ENTRY e)) ∧
           ∀ r : Fin 32, (t.core (20 + e)).gr r = (s.core (20 + e)).gr r) ∧
         t.fld (F.HIT_SWAP_STAT_STATE n) = 2 ∧ t.fld (F.HIT_SWAP_STAT_STATUS n) = 0 ∧ bitOf (t.fld (F.HIT_SWAP_STAT_DONE n)) (3 + e.val) = true ∧
         ∃ p ∈ t.fabric, p.line = 22) ∧
       (s.now < s.swapNt n → exec (.swapTakeEffect n) s = .next s) ∧
       (s.coarse = true → s.swapNt n ≤ s.now → Gives (.swapTakeEffect n) s fun t =>
         t.engine e = s.engine e ∧ t.fld (F.HIT_SWAP_STAT_STATE n) = 2 ∧ t.fld (F.HIT_SWAP_STAT_STATUS n) = 0x11)) ∧
     (¬ pending → exec (.swapTakeEffect n) s = .next s ∧ s.swapCancel n = s) ∧
     (∀ req : Nat,
       (pending → (s.swapRequest req n).fld (F.HIT_SWAP_STAT_REFUSED n) = 1 ∧ (s.swapRequest req n).fld (F.HIT_SWAP_STAT_STATE n) = 1) ∧
       (¬ pending → s.swapCode req n = .ok → (s.swapRequest req n).fld (F.HIT_SWAP_STAT_STATE n) = 1 ∧ (s.swapRequest req n).fld (F.HIT_SWAP_STAT_DONE n) = 0) ∧
       (¬ pending → s.swapCode req n ≠ .ok → (s.swapRequest req n).fld (F.HIT_SWAP_STAT_STATE n) = 2 ∧
         (s.swapRequest req n).fld (F.HIT_SWAP_STAT_STATUS n) = (s.swapCode req n).code)) ∧
     (pending → (s.swapCancel n).fld (F.HIT_SWAP_STAT_STATE n) = 2 ∧ (s.swapCancel n).fld (F.HIT_SWAP_STAT_STATUS n) = 0x0D ∧
       (s.swapCancel n).fld (F.HIT_SWAP_STAT_DONE n) = s.fld (F.HIT_SWAP_STAT_DONE n)))

/-- R55 in exact arithmetic on units of 2^-32 ns, and R64. -/
def Obligations.NetworkTimeCountsAndSlews : Prop :=
  ∀ s : State,
    let rate := max 1 (min 100 (s.fld F.TSEL_CTL_SLEW_RATE))
    let d : Int := ((s.incr s.cur * rate / 10000000 : Nat) : Int)
    let o := s.time.offset
    (Gives .ntTick s fun t => t.ticks = s.ticks + 1 ∧
      (s.powered 2 = true → s.time.swReq = none → t.time.offset = if -d ≤ o ∧ o ≤ d then 0 else if 0 < o then o - d else o + d) ∧
      (∀ e : Fin 3, (t.engine e).cycle = (s.engine e).cycle + (if s.powered (13 + e) then 1 else 0) ∧
        (t.core (20 + e)).retired = (s.core (20 + e)).retired + (if s.fnOn (4 + e) 0 0 then 1 else 0)) ∧
      ∀ k : Fin 2, let x := s.dom k
        x.sec < 2 ^ 48 → x.ns < 1000000000 → x.frac < 2 ^ 32 → s.incr k < 2 ^ 40 →
        let y := t.dom k
        (s.powered 2 = false → y.units % ntMod = (x.units + (if s.fld F.PWR_STAT_STATE = 3 then 5 * 2 ^ 32 else 0)) % ntMod ∧ y.adj = x.adj ∧
          t.time.offset = s.time.offset) ∧
        (s.powered 2 = true → x.adj = none → y.units = (x.units + s.incr k) % ntMod ∧ y.ns < 1000000000 ∧ y.frac < 2 ^ 32) ∧
        (∀ a : Adj, s.powered 2 = true → x.adj = some a → a.ns ≤ 999999999 → a.sec < 2 ^ 48 → a.frac < 2 ^ 16 → a.force = true ∨ s.coarseDom k = true → a.load = true →
          y.units = a.sec * secU + a.ns * 2 ^ 32 + a.frac * 2 ^ 16 ∧ y.adj = none ∧ t.fld (F.NT_ADJ_CMD_STATUS k) = 0) ∧
        (∀ a : Adj, s.powered 2 = true → x.adj = some a → a.force = true ∨ s.coarseDom k = true → a.load = false →
          (y.units : Int) = (((x.units + s.incr k : Nat) : Int) + sgn 32 a.ns * 2 ^ 32 + a.frac * 2 ^ 16) % ntMod ∧ y.adj = none)) ∧
    (s.fld F.TSEL_STAT_SLEWING = 1 → o = 0 → Gives .slewEnd s fun t => t.fld F.TSEL_STAT_SLEWING = 0 ∧ ∃ p ∈ t.fabric, p.line = 8) ∧
    (o ≠ 0 → exec .slewEnd s = .next s)

/-- Chapter 03's events. -/
def Obligations.ReferencesCapturesAndOutputs : Prop :=
  (∀ s : State,
    (s.fld F.TSEL_REF_REF_PRESENT = 1 → Gives .refLost s fun t => t.fld F.TSEL_REF_REF_PRESENT = 0 ∧ t.fld F.TSEL_REF_REF_LOST = 1 ∧
      (∃ p ∈ t.fabric, p.line = 7) ∧ (2 ≤ s.fld F.TSEL_REF_SRC → t.fld F.TSEL_REF_ACTIVE = 0) ∧
      (s.fld F.TSEL_REF_SRC = 1 → t.fld F.TSEL_REF_ACTIVE = s.fld F.TSEL_REF_ACTIVE ∧ t.time.pllHeld = s.bit F.TSEL_REF_ACTIVE)) ∧
    (s.fld F.TSEL_REF_REF_PRESENT = 0 → exec .refLost s = .next s ∧ Gives .ref10Arrival s fun t => t.fld F.TSEL_REF_REF_PRESENT = 1 ∧
      t.time.refSince = s.clock ∧ (s.fld F.TSEL_REF_SRC = 1 → t.fld F.TSEL_REF_ACTIVE = 1)) ∧
    (s.fld F.TSEL_REF_REF_PRESENT = 1 → 2 ≤ s.fld F.TSEL_REF_SRC → s.time.refSince + 10 * secU ≤ s.clock → s.fld F.TSEL_REF_ACTIVE = 0 →
      Gives .refReturn s fun t => t.fld F.TSEL_REF_ACTIVE = 1) ∧
    (s.clock < s.time.refSince + 10 * secU → exec .refReturn s = .next s)) ∧
  (∀ (k : Fin 5) (fall : Bool) (phase : BitVec 16) (d : Fin 2) (s : State), s.fld (F.NT_IN_CFG_EN d k) = 1 →
    (k.val < 2 ∧ s.fld (F.NT_IN_CFG_EDGE d k) = b2n fall ∨ k.val = 2 ∧ fall = false ∨
      3 ≤ k.val ∧ fall = true ∧ s.todOn (k - 3) = true ∧ s.todIdle (k - 3) = true ∧ (s.todLineOf (k - 3)).2 = false) → Gives (.captureEdge k fall phase) s fun t =>
      let edge : Int := (((s.dom d).units + s.incr d * phase.toNat / 2 ^ 16 : Nat) : Int) - sgn 32 (s.fld (F.NT_IN_DELAY_DELAY d k)) * 2 ^ 16
      let u : Nat := t.fld (F.NT_CAP_NS_NS d k) * 2 ^ 32 + t.fld (F.NT_CAP_FRAC_FRAC d k) * 2 ^ 16 +
        (t.fld (F.NT_CAP_SEC_LO_SEC_LO d k) + 2 ^ 32 * t.fld (F.NT_CAP_SEC_HI_SEC_HI d k)) * secU
      (0 ≤ edge → edge + 2 ^ 28 < ntMod → (u : Int) - edge ≤ 2 ^ 27 ∧ edge - (u : Int) < 2 ^ 27 ∧ u % 2 ^ 28 = 0) ∧
      t.fld (F.NT_CAP_STAT_VALID d k) = 1 ∧ (s.fld (F.NT_CAP_STAT_VALID d k) = 1 → t.fld (F.NT_CAP_STAT_OVERRUN d k) = 1) ∧
      ∃ p ∈ t.fabric, p.line = k.val ∧ p.tick = s.ticks + 1) ∧
  (∀ (m : Fin 2) (b : Byte) (phase : BitVec 16) (s : State), s.todOn m = true →
    let begins := (s.todLineOf m).2 || s.todIdle m
    ((s.tod m).length < 256 → Gives (.todByteRx m b phase) s fun t => t.tod m = s.tod m ++ [(b, begins)]) ∧
    (256 ≤ (s.tod m).length → Gives (.todByteRx m b phase) s fun t => t.tod m = s.tod m ∧ t.fld (F.NT_TOD_DATA_OVERRUN 0 m) = 1)) ∧
  (∀ (j : Fin 2) (s : State),
    (∀ sec back, s.outDue j = some (sec, back) → Gives (.ppsOutEdge j) s fun t => (t.out j).active = true ∧
      (t.out j).edge % 2 ^ 28 = 0 ∧ (t.out j).edge ≤ s.srcCount (s.outSrc j) - back + 2 ^ 27 ∧ s.srcCount (s.outSrc j) - back < (t.out j).edge + 2 ^ 27 ∧
      (t.out j).endAt = (t.out j).edge + max 1 (min 999999 (s.fld (F.NT_OUT_CFG_WIDTH 0 j))) * 1000 * 2 ^ 32 ∧ t.ppsLevel j = !s.bit (F.NT_OUT_CFG_POL 0 j)) ∧
    (s.outDue j = none → exec (.ppsOutEdge j) s = .next s) ∧
    ((s.out j).active = true → (s.out j).endAt ≤ s.outCount j → Gives (.ppsPulseEnd j) s fun t => t.ppsLevel j = s.bit (F.NT_OUT_CFG_POL 0 j)) ∧
    ((s.out j).active = true → s.outCount j < (s.out j).endAt → exec (.ppsPulseEnd j) s = .next s)) ∧
  (∀ s : State, (∀ sec back, s.outDue 2 = some (sec, back) → Gives .tsyncFrameSend s fun t => ∃ (f : BitVec 80) (w : BitVec 160), (t.out 2).sent = some w ∧
      (∀ i, i < 80 → w.getLsbD (2 * i) = f.getLsbD i ∧ w.getLsbD (2 * i + 1) = !f.getLsbD i) ∧
      f.toNat % 256 = 0xA5 ∧ f.toNat / 256 % 2 ^ 48 = sec % 2 ^ 48 ∧ ∀ u : State, Gives (.tsyncFrameRx f) u fun v =>
        v.fld (F.NT_TSYNC_RX_SEC_HI_VALID 0) = 1 ∧ v.fld (F.NT_TSYNC_RX_SEC_LO_SEC_LO 0) = sec % 2 ^ 32 ∧
        v.fld (F.NT_TSYNC_RX_SEC_HI_SEC_HI 0) = sec / 2 ^ 32 % 2 ^ 16 ∧ ∃ p ∈ v.fabric, p.line = 6) ∧
    (s.outDue 2 = none → exec .tsyncFrameSend s = .next s))

namespace Sys2Proof.Machine

/-- Some request of this number has ended in its engine with a status. -/
def State.EndedAs (t : State) (id code : Nat) : Prop := ∃ x ∈ t.arb.reqs, x.id = id ∧ x.phase = .ended code

end Sys2Proof.Machine

/-- Detection to the last bit. The ring of frost capture. -/
def Obligations.FramesAndFrostCaptureAreReceived : Prop :=
  ((∀ (r : Fin 3) (k : Fin 4) (mode : Byte) (centre : BitVec 40) (snr rssi ago : Word) (s : State) (e : Nat),
     s.fnOn (10 + r.val) 0 0 = true → (∀ a, (s.chain r k).act = some a → a.kind ≠ .win) →
     s.detector r k mode.toNat centre.toNat = some e →
     let f : RxFrame := ⟨k, e, mode.toNat, centre.toNat, snr.toInt, rssi.toInt, 0, s.now - ago.toNat * nsU, s.now, false, none, false, 0, 0, 0, 0, none⟩
     let row : Instr := .preambleDetect r k mode centre snr rssi ago
     (s.sameFrame r f = true → exec row s = .next s.settleMisses) ∧
     (s.sameFrame r f = false →
       (∀ n, s.firstFree r = some n → Gives row s fun t => (t.lane r n).frame = some f ∧ ∀ m, m ≠ n → t.lane r m = s.lane r m) ∧
       (s.firstFree r = none → (r = 2 ∨ s.fld (F.DP_POLICY_MARGIN r) = 15) → Gives row s fun t => t.lanes = s.lanes ∧
         t.fld (F.DP_COUNT0_NO_LANE r) = min 255 (s.fld (F.DP_COUNT0_NO_LANE r) + 1) ∧ ∃ p ∈ t.fabric, p.line = 30 + r.val) ∧
       (s.firstFree r = none → r ≠ 2 → s.fld (F.DP_POLICY_MARGIN r) ≠ 15 → ∀ n g,
         s.weakest r (fun g => decide (g.snr + 1000 * ((s.fld (F.DP_POLICY_MARGIN r) : Nat) : Int) ≤ f.snr)) = some (n, g) →
         Gives row s fun t => (t.lane r n).frame = some f ∧
           t.fld (F.DP_COUNT1_PREEMPTED r) = min 255 (s.fld (F.DP_COUNT1_PREEMPTED r) + 1)))) ∧
   (∀ (r : Fin 3) (n : Byte) (s : State),
     ((s.lane r n.toNat).frame = none → ∀ (ph : BitVec 16) (h : BitVec 48), exec (.syncFound r n ph) s = .next s ∧
       exec (.syncTimeout r n) s = .next s ∧ exec (.headerDecoded r n h) s = .next s) ∧
     ∀ f, (s.lane r n.toNat).frame = some f →
     (∀ ph : BitVec 16, f.arrival = none → s.now ≤ f.syncBy → Gives (.syncFound r n ph) s fun t => ∃ a,
       (t.lane r n.toNat).frame = some { f with arrival := some a } ∧ a % 2 ^ 28 = 0 ∧
       let i : Int := ((s.now + s.incr s.cur * ph.toNat / 2 ^ 16 : Nat) : Int) -
         sgn 32 (getBits (s.calWord (s.chain r f.chain) (R.RF_CAL_RXDLY r f.chain)) 31 0) * 2 ^ 16
       (0 ≤ i → i + 2 ^ 28 < ntMod → ((a : Nat) : Int) - i ≤ 2 ^ 27 ∧ i - ((a : Nat) : Int) < 2 ^ 27)) ∧
     (f.arrival = none → let missed (t : State) : Prop :=
         (t.lane r n.toNat).frame = none ∧ t.fld (F.DP_COUNT0_SYNC_MISS r) = min 255 (s.fld (F.DP_COUNT0_SYNC_MISS r) + 1)
       (f.syncBy ≤ s.now → Gives (.syncTimeout r n) s missed) ∧
       (∀ ph : BitVec 16, f.syncBy < s.now → Gives (.syncFound r n ph) s missed)) ∧
     (f.arrival ≠ none ∨ s.now < f.syncBy → exec (.syncTimeout r n) s = .next s) ∧
     (∀ a (h : BitVec 48), f.arrival = some a → f.hdrOk = false →
       (readHeader f.mode h.toNat = none → Gives (.headerDecoded r n h) s fun t =>
         (t.lane r n.toNat).frame = none ∧ t.fld (F.DP_COUNT0_HDR_FAIL r) = min 255 (s.fld (F.DP_COUNT0_HDR_FAIL r) + 1)) ∧
       (∀ i l, readHeader f.mode h.toNat = some i → modeInfo r i.mode = some l →
         (i.len < l.min → Gives (.headerDecoded r n h) s fun t =>
           (t.lane r n.toNat).frame = none ∧ t.fld (F.DP_COUNT1_TOO_SHORT r) = min 255 (s.fld (F.DP_COUNT1_TOO_SHORT r) + 1)) ∧
         (l.min ≤ i.len → l.max < i.len → Gives (.headerDecoded r n h) s fun t =>
           (t.lane r n.toNat).frame = none ∧ t.fld (F.DP_COUNT1_TOO_LONG r) = min 255 (s.fld (F.DP_COUNT1_TOO_LONG r) + 1)) ∧
         (l.min ≤ i.len → i.len ≤ l.max → Gives (.headerDecoded r n h) s fun t => ∃ g, (t.lane r n.toNat).frame = some g ∧
           g.hdrOk = true ∧ g.len = i.len ∧ g.fcs = i.fcs ∧ g.mode = i.mode ∧ g.arrival = some a ∧ g.lastBit = a + restAfterSync i.mode i.len))) ∧
     (∀ a (psdu : List Byte) (x : RxMeta), f.arrival = some a → f.hdrOk = true → f.lastBit ≤ s.now → psdu.length = f.len → f.fcs ≤ f.len →
       let body := psdu.take (f.len - f.fcs)
       (psdu.drop (f.len - f.fcs) = fcsBytes r f.mode body → f.rqid ≠ some none → Gives (.frameEnd r n psdu x) s fun t =>
         (t.lane r n.toNat).frame = none ∧ ∃ l, t.lnk.frames = s.lnk.frames ++ [l] ∧ l.psdu = body ∧ l.rqid = f.rqid.join ∧ l.arrival = a ∧ l.lastBit = f.lastBit ∧
           l.radio = r.val ∧ l.chain = f.chain ∧ l.mode = f.mode ∧ l.inWin = f.inWin) ∧
       (psdu.drop (f.len - f.fcs) ≠ fcsBytes r f.mode body → Gives (.frameEnd r n psdu x) s fun t =>
         (t.lane r n.toNat).frame = none ∧ t.lnk.frames = s.lnk.frames ∧
         t.fld (F.DP_COUNT0_FCS_FAIL r) = min 255 (s.fld (F.DP_COUNT0_FCS_FAIL r) + 1)) ∧
       (psdu.drop (f.len - f.fcs) = fcsBytes r f.mode body → f.rqid = some none → Gives (.frameEnd r n psdu x) s fun t =>
         (t.lane r n.toNat).frame = none ∧ t.lnk.frames = s.lnk.frames)) ∧
     (∀ a (h : BitVec 48), f.arrival = some a → f.hdrOk = true →
       (f.rqid = some none → exec (.headerDecoded r n h) s = .next s) ∧ (f.rqid = none →
       (s.bytesSoFar f < min 6 (f.len - f.fcs) → exec (.headerDecoded r n h) s = .next s) ∧
       (min 6 (f.len - f.fcs) ≤ s.bytesSoFar f →
         let q := if s.goesPlain r f.peer (f.len - f.fcs) (h.toNat % 2 ^ 8) (h.toNat / 2 ^ 16 % 2 ^ 32) = true
           then s.fld (F.RQ_SRC_QUEUE_NC r) else s.fld (F.RQ_SRC_QUEUE r)
         (s.route q = .taken → (∀ x ∈ s.rq.recs, x.id ≠ s.rq.nextId) → Gives (.headerDecoded r n h) s fun t =>
           ((t.lane r n.toNat).frame = some { f with rqid := some (some s.rq.nextId) } ∧
             ∃ x, t.rq.recs = s.rq.recs ++ [x] ∧ x.id = s.rq.nextId ∧ x.queue = q) ∨
           ((t.lane r n.toNat).frame = some { f with rqid := some none } ∧ t.rq.recs = s.rq.recs ∧
             t.fld F.RQ_COUNT0_NO_BUFFER = min 255 (s.fld F.RQ_COUNT0_NO_BUFFER + 1))) ∧
         (s.route q ≠ .taken → Gives (.headerDecoded r n h) s fun t =>
           (t.lane r n.toNat).frame = some { f with rqid := some none } ∧ t.rq.recs = s.rq.recs))))) ∧
   (∀ (mode : Nat) (h : BitVec 48) (c : Nat), mode = 0x10 ∨ mode = 0x20 ∨ mode = 0x50 ∨ mode = 0x51 → c < 16 →
     ∀ i, readHeader mode h.toNat = some i → readHeader mode (h ^^^ (1#48 <<< c)).toNat = none)) ∧
  ((∀ (x : RxMeta) (v : List (BitVec 16)) (s : State),
     ((∀ y ∈ s.cap.spans, s.now < y.ends) → exec (.captureSpanEnd x v) s = .next s) ∧
     ∀ y, s.cap.spans.find? (fun y => decide (y.ends ≤ s.now)) = some y →
       let n := ceilDiv ((y.ends - s.capFirst y.frame) * capRate y.frame.mode) (16 * secU)
       let size := (64 + ((4 + 32 * s.capWidth) * n + 63) / 64 * 8 + 63) / 64 * 64
       let w := s.fld F.CAP_WR_OFFSET
       (w + size ≤ s.capSize → s.capUsed + size ≤ s.capSize → s.Sound (s.capBase + w) size → Gives (.captureSpanEnd x v) s fun t =>
         t.cap.spans = s.cap.spans.erase y ∧ t.cap.recs = s.cap.recs ++ [(w, size, false)] ∧
         t.fld F.CAP_WR_OFFSET = (if w + size = s.capSize then 0 else w + size) ∧
         t.fld F.CAP_COUNT_CAPTURED = min 65535 (s.fld F.CAP_COUNT_CAPTURED + 1) ∧ t.rdLe (s.capBase + w) 1 = 2 ∧
         t.rdLe (s.capBase + w + 36) 4 = n % 2 ^ 32 ∧ ∃ p ∈ t.fabric, p.line = 33) ∧
       (s.capSize < s.capUsed + size → Gives (.captureSpanEnd x v) s fun t =>
         t.cap.spans = s.cap.spans.erase y ∧ t.cap.recs = s.cap.recs ∧ t.mem = s.mem ∧
         t.fld F.CAP_COUNT_DROPPED = min 255 (s.fld F.CAP_COUNT_DROPPED + 1))) ∧
   (∀ (w : Nat) (xs : List Int), 6 ≤ w → w ≤ 10 → xs.length = 32 → (∀ x ∈ xs, -(2 ^ (w - 1) : Int) ≤ x ∧ x < 2 ^ (w - 1)) →
     bfpSamples w 1 (bfpBlock w xs) = xs.flatMap (fun x => leBytes 2 (unsgn 16 x))) ∧
   (∀ s : State, (∀ q ∈ s.arb.reqs, q.engine = 2 → q.phase ≠ .granted) → exec .expand s = .next s ∧ exec .captureRelease s = .next s) ∧
   (∀ (s : State) (q : SvcReq) (op : Nat), s.capGranted op = some q →
     let row : Instr := if op = 1 then .expand else .captureRelease
     let off := leNat ((q.desc.drop 4).take 4)
     op = 1 ∨ op = 2 →
     (recAt off s.cap.recs 0 = none → Gives row s fun t => t.EndedAs q.id Status.fault.code ∧ t.mem = s.mem ∧ t.cap = s.cap) ∧
     (∀ i n, recAt off s.cap.recs 0 = some (i, n) → leNat ((q.desc.drop 2).take 2) = 0 → leNat ((q.desc.drop 24).take 8) = 0 →
       (op = 2 → Gives row s fun t => t.cap.recs = s.cap.recs.drop (i + 1) ∧ t.EndedAs q.id 0 ∧
         t.fld F.CAP_RD_OFFSET % 2 ^ 32 = (match s.cap.recs.drop (i + 1) with | [] => s.fld F.CAP_WR_OFFSET | x :: _ => x.1 % 2 ^ 32)) ∧
       (op = 1 →
         let m := s.rdLe (s.capBase + off + 36) 4
         let dst := leNat ((q.desc.drop 8).take 8)
         dst % 8 = 0 → inNormal dst (64 * m) = true → s.Sound dst (64 * m) → s.Sound (q.addr + 20) 4 →
         (64 * m ≤ leNat ((q.desc.drop 16).take 4) → Gives row s fun t => t.EndedAs q.id 0 ∧ t.rdLe (q.addr + 20) 4 = 16 * m ∧ t.cap = s.cap ∧
           (q.addr + 24 ≤ dst ∨ dst + 64 * m ≤ q.addr + 20 → t.bytes dst (64 * m) =
             bfpSamples (s.rdLe (s.capBase + off + 5) 1) m (s.rdLe (s.capBase + off + 64) (s.rdLe (s.capBase + off + 40) 4)))) ∧
         (leNat ((q.desc.drop 16).take 4) < 64 * m → Gives row s fun t => t.EndedAs q.id Status.noBuffer.code ∧ t.mem = s.mem)))))

namespace Sys2Proof.Machine

/-- What places an offer among the others; whether it stands in ACC_NEXT goes beside it. -/
def Occ.place (o : Occ) : Nat × Nat × Nat := (o.entry, o.lap, o.port)

end Sys2Proof.Machine

/-- Chapter 08 up to issue. R209 and R210. -/
def Obligations.OccurrencesAndContentionAreServed : Prop :=
  ((∀ (r : Fin 3) (s : State),
     (s.coarse = false → (s.time.selFrom + s.time.selLen) / (s.lapSec r * secU) ≠ s.time.selFrom / (s.lapSec r * secU) →
       Gives (.lapBoundary r) s fun t => (∃ p ∈ t.fabric, p.line = 10 + r.val ∧ p.tick = s.ticks) ∧ t = { s with fabric := t.fabric }) ∧
     (s.coarse = true ∨ (s.time.selFrom + s.time.selLen) / (s.lapSec r * secU) = s.time.selFrom / (s.lapSec r * secU) →
       exec (.lapBoundary r) s = .next s) ∧
     ((s.accOf r).editing = true → Gives (.accEditComplete r) s fun t => (t.accOf r).editing = false ∧
       t.fld (F.ACC_EDIT_CMD_BUSY r) = 0 ∧ t.fld (F.ACC_EDIT_CMD_STATUS r) = 0 ∧ (t.accOf r).tab = (s.accOf r).tab) ∧
     ((s.accOf r).editing = false → exec (.accEditComplete r) s = .next s)) ∧
   (∀ (r : Fin 3) (idx : BitVec 14) (lap : Word) (s : State),
     let a := s.accOf r
     let i := idx.toNat
     let n := lap.toNat
     let e := a.entry a.active i
     (entGuarded e = true → entOccurs e n = true → a.guardOf i n = none → a.wasGiven i n = false →
       s.occT r e n ≤ s.now + s.offerLead r + 60 * secU → Gives (.guardInstant r idx lap) s fun t =>
         ∃ g pre, (t.accOf r).guards = a.guards ++ [(i, n, g, pre)] ∧ (t.accOf r).offers = a.offers ∧
           (entAction e = 2 ∧ pre = 2 → g = 0) ∧ (entPre e ≠ 1 → pre = entPre e) ∧ (entPre e = 1 → pre = 1 ∨ pre = 2)) ∧
     (entGuarded e = false ∨ entOccurs e n = false ∨ a.guardOf i n ≠ none ∨ a.wasGiven i n = true ∨
       s.now + s.offerLead r + 60 * secU < s.occT r e n → exec (.guardInstant r idx lap) s = .next s) ∧
     ((∀ w ∈ a.wins, ¬ (w.entry = i ∧ w.lap = n ∧ w.isOpen = true)) →
       (entOccurs e n = false ∨ a.wasGiven i n = true → exec (.occurrenceOffer r idx lap) s = .next s) ∧
       (∀ g pre, entOccurs e n = true → a.wasGiven i n = false → (entGuarded e = true → a.guardOf i n = some (g, pre)) →
         (entGuarded e = false → g = 0 ∧ pre = entPre e) →
         let o := s.resolveOcc r i n g pre
         let passedOver (t : State) : Prop := (t.accOf r).offers = a.offers ∧ (t.accOf r).wins = a.wins ∧ (t.accOf r).given = a.given ++ [(i, n)]
         let uncounted (t : State) : Prop := passedOver t ∧ t.reg (R.ACC_COUNT r) = s.reg (R.ACC_COUNT r) ∧ (t.accOf r).tab = a.tab
         let skipped (t : State) : Prop := passedOver t ∧ t.fld (F.ACC_COUNT_SKIPPED r) = min 255 (s.fld (F.ACC_COUNT_SKIPPED r) + 1) ∧
           eb ((t.accOf r).entry a.active i) 28 7 0 = Status.late.code ∧ eb ((t.accOf r).entry a.active i) 29 23 0 = n % 2 ^ 24
         (s.jumped o.port = true →
           (s.noOffer r e o.buf = true ∨ s.entBad r e n = true → Gives (.occurrenceOffer r idx lap) s uncounted) ∧
           (s.noOffer r e o.buf = false → s.entBad r e n = false → Gives (.occurrenceOffer r idx lap) s skipped ∧
             (a.offers.find? (fun x => x.entry == i && x.lap == n) = none → Gives (.occurrenceSkip r idx lap) s skipped))) ∧
         (s.jumped o.port = false →
           (a.offers.find? (fun x => x.entry == i && x.lap == n) = none → exec (.occurrenceSkip r idx lap) s = .next s) ∧
           (s.now + s.offerLead r < o.port ∨ o.t < s.now → exec (.occurrenceOffer r idx lap) s = .next s) ∧
           (o.port ≤ s.now + s.offerLead r → s.now ≤ o.t → s.tablePending r = false ∨ s.swapAt r o.port = false →
             Gives (.occurrenceOffer r idx lap) s (fun t => (t.accOf r).given = a.given ++ [(i, n)]) ∧
             (s.noOffer r e o.buf = true → Gives (.occurrenceOffer r idx lap) s uncounted) ∧
             (s.noOffer r e o.buf = false → s.entBad r e n = true → Gives (.occurrenceOffer r idx lap) s fun t => passedOver t ∧
               t.fld (F.ACC_COUNT_BAD r) = min 255 (s.fld (F.ACC_COUNT_BAD r) + 1) ∧ t.fld (F.ACC_STAT_BAD_ENTRY r) = 1) ∧
             (s.noOffer r e o.buf = false → s.entBad r e n = false →
               (entAction e = 3 → Gives (.occurrenceOffer r idx lap) s fun t => ∃ w, (t.accOf r).wins = a.wins ++ [w] ∧ w.entry = i ∧ w.lap = n ∧
                 w.queue = entCq e ∧ w.opens = s.occT r e n ∧ w.closes = s.occT r e n + entWindow e * usU ∧ w.isOpen = false ∧ w.spent = false) ∧
               (entAction e ≠ 3 → Gives (.occurrenceOffer r idx lap) s fun t =>
                 (∃ x ∈ (t.accOf r).offers, { x with inNext := o.inNext, waits := o.waits } = o) ∧
                 (∀ x ∈ a.offers, ∃ y ∈ (t.accOf r).offers, { y with inNext := x.inNext, waits := x.waits } = x) ∧
                 (t.accOf r).offers.length = a.offers.length + 1 ∧ (a.inNext = [] → ∃ p ∈ t.fabric, p.line = 13 + r.val))))))) ∧
     (∀ o, a.offers.find? (fun x => x.entry == i && x.lap == n) = some o →
       (s.now + o.lead r ≤ o.port → exec (.occurrenceSkip r idx lap) s = .next s) ∧
       (o.port < s.now + o.lead r → Gives (.occurrenceSkip r idx lap) s fun t =>
         (t.accOf r).offers.map Occ.place = (a.offers.erase o).map Occ.place ∧
         t.fld (F.ACC_COUNT_SKIPPED r) = min 255 (s.fld (F.ACC_COUNT_SKIPPED r) + 1) ∧
         eb ((t.accOf r).entry o.table i) 28 7 0 = Status.late.code ∧ eb ((t.accOf r).entry o.table i) 29 23 0 = n % 2 ^ 24 ∧
         (t.accOf r).entry o.table i % 2 ^ 224 = a.entry o.table i % 2 ^ 224)))) ∧
  ((∀ (r : Fin 3) (idx : BitVec 14) (lap : Word) (s : State) (w : ConWin),
     (s.accOf r).wins.find? (fun w => w.entry == idx.toNat && w.lap == lap.toNat && !w.isOpen) = some w →
     (s.now < w.opens → exec (.contendWindowOpen r idx lap) s = .next s) ∧
     (w.opens ≤ s.now → Gives (.contendWindowOpen r idx lap) s (fun t => w ∉ (t.accOf r).wins) ∧
       (s.cqHead r w.queue = none → Gives (.contendWindowOpen r idx lap) s fun t =>
         (t.accOf r).wins = (s.accOf r).wins.map (fun x => if x = w then { x with isOpen := true } else x) ∧ (t.accOf r).offers = (s.accOf r).offers) ∧
       (∀ d, s.cqHead r w.queue = some d → s.coarse = true ∨ s.fnOn (4 + r.val) 0 0 = false → Gives (.contendWindowOpen r idx lap) s fun t =>
         (t.accOf r).wins = (s.accOf r).wins.map (fun x => if x = w then { x with isOpen := true } else x) ∧ (t.accOf r).offers = (s.accOf r).offers) ∧
       (∀ d, s.cqHead r w.queue = some d → (s.accOf r).wins = [w] → w.trying = false → w.status = none → w.spent = false → s.coarse = false →
         s.fnOn (4 + r.val) 0 0 = true →
         let be := (s.cqState r w.queue).2
         let (lo, hi) := bandOf r (s.rdLe (d + 6) 1) (s.rdLe (d + 4) 2)
         ∃ k, k < 2 ^ be ∧
           let p := max w.t (s.now + s.offerLead r) + (k * s.bslot r + s.listenUs (s.subsOf lo hi) + 24) * usU
           (p + s.cqAir d ≤ w.closes → Gives (.contendWindowOpen r idx lap) s fun t => (t.accOf r).wins.any (fun x => x.trying && x.isOpen) = true ∧
             ∃ o ∈ (t.accOf r).offers, o.port = p ∧ o.action = 3 ∧ o.cq = some w.queue ∧ o.mode = s.rdLe (d + 6) 1 ∧ o.lbt = true) ∧
           (w.closes < p + s.cqAir d → Gives (.contendWindowOpen r idx lap) s fun t =>
             (t.accOf r).wins = [{ w with isOpen := true, spent := true }] ∧ (t.accOf r).offers = (s.accOf r).offers)))) ∧
   (∀ (r : Fin 3) (q : Fin 4) (s : State),
     ((∀ w ∈ (s.accOf r).wins, w.queue = q.val → w.status = none) → exec (.contendAttemptComplete r q) s = .next s) ∧
     (∀ w d st, (s.accOf r).wins.find? (fun w => w.queue == q.val && w.status.isSome) = some w → w.status = some st → s.cqHead r q = some d →
       let tries := (s.cqState r q).1 + 1
       let be := if st = 2 ∨ st = 3 then min ((s.cqState r q).2 + 1) (s.maxBe r) else (s.cqState r q).2
       (st = 1 ∨ st = 2 ∨ st = 3 → tries ≠ s.maxTries r → Gives (.contendAttemptComplete r q) s fun t => t.cqState r q = (tries, be) ∧
         t.fld (F.ACC_CQ_PTR_HEAD r q) = s.fld (F.ACC_CQ_PTR_HEAD r q) ∧ t.mem = s.mem) ∧
       ((st ≠ 1 ∧ st ≠ 2 ∧ st ≠ 3) ∨ tries = s.maxTries r → s.Sound d 4 → Gives (.contendAttemptComplete r q) s fun t =>
         t.rdLe (d + 2) 1 = st % 256 ∧ t.rdLe (d + 3) 1 = tries % 256 ∧ 128 ≤ t.rdLe d 1 ∧ t.rdLe d 1 % 128 = s.rdLe d 1 % 128 ∧
         t.fld (F.ACC_CQ_PTR_HEAD r q) = (s.fld (F.ACC_CQ_PTR_HEAD r q) + 1) % s.fld (F.ACC_CQ_CFG_SIZE r q) ∧
         (st ≠ 0 → t.fld (F.ACC_COUNT_CQ_FAILED r) = min 255 (s.fld (F.ACC_COUNT_CQ_FAILED r) + 1)))) ∧
     (∀ w, (s.accOf r).wins.find? (fun w => w.queue == q.val && w.isOpen) = some w →
       (s.now < w.closes ∨ w.trying = true ∨ w.status ≠ none → exec (.contendWindowClose r q) s = .next s) ∧
       (w.closes ≤ s.now → w.trying = false → w.status = none →
         ((s.accOf r).wins.erase w).find? (fun w => w.queue == q.val && w.isOpen) = none → Gives (.contendWindowClose r q) s fun t =>
           (t.accOf r).wins = (s.accOf r).wins.erase w ∧ (t.accOf r).offers = (s.accOf r).offers))))

/-- R216 and R217: the replay window. -/
def Obligations.ReplayWindowAcceptsANumberOnce : Prop :=
  ∀ (c : List Byte) (m n : Nat), c.length = 64 → m < 2 ^ 32 → n < 2 ^ 32 →
    (seqClass c m = .new_ → seqClass (cxAccept c m) m = .repeat_) ∧
    (seqClass c m = .new_ → seqClass c n = .repeat_ → seqClass (cxAccept c m) n ≠ .new_) ∧
    (seqClass c m = .new_ → seqClass c n = .stale → seqClass (cxAccept c m) n = .stale) ∧
    cxHseq (cxAccept c m) = max (cxHseq c) m ∧
    (seqClass c m = .stale ↔ m + 64 ≤ cxHseq c) ∧
    (cxAccept c m).length = 64 ∧ cxSid (cxAccept c m) = cxSid c ∧ (cxAccept c m).drop 16 = c.drop 16

/-- Chapter 09, row by row. -/
def Obligations.LinkUnitClassesAndAnswersFrames : Prop :=
  (∀ s : State, s.lnk.frames.filter (fun f => f.step == .lookup && f.req.isNone) = [] → exec .linkHeaderClassify s = .next s) ∧
  (∀ (s : State) (f : LinkFrame), s.firstFrame (s.lnk.frames.filter (fun f => f.step == .lookup && f.req.isNone)) = some f →
    s.outstanding 24 < 32 → (∀ x ∈ s.ldg.wrong, x.2 ≤ 2) → (f.radio ≠ 2 → s.ldg.indexRebuild = false) →
    let lt := (byteAt f.psdu 0).toNat
    let others (t : State) : Prop := t.lnk.frames.filter (fun x => x.id != f.id) = s.lnk.frames.filter (fun x => x.id != f.id)
    let plain (t : State) : Prop := others t ∧ ∀ x ∈ t.lnk.frames, x.id = f.id → x.noCtx = true
    let gone (t : State) : Prop := t.lnk.frames = s.lnk.frames.filter (fun x => x.id != f.id)
    (s.fnOn 16 0 0 = false ∨ f.psdu = [] ∨ lt / 16 ≠ 4 → Gives .linkHeaderClassify s plain) ∧
    (s.fnOn 16 0 0 = true → f.psdu ≠ [] → lt / 16 = 4 →
      ((lt ≠ 0x41 ∧ lt ≠ 0x42 ∧ lt ≠ 0x4A) ∨ f.psdu.length < 6 → Gives .linkHeaderClassify s fun t => gone t ∧
        t.fld F.LNK_COUNT0_MALFORMED = min 255 (s.fld F.LNK_COUNT0_MALFORMED + 1)) ∧
      (lt = 0x41 ∨ lt = 0x42 ∨ lt = 0x4A → 6 ≤ f.psdu.length →
        (f.radio ≠ 2 → (∀ h, s.handleOf (leNat ((f.psdu.drop 2).take 4)) = some h → cxValid (s.ctx h) = false) → Gives .linkHeaderClassify s fun t => plain t ∧
          t.fld F.LNK_COUNT0_NO_CONTEXT = min 255 (s.fld F.LNK_COUNT0_NO_CONTEXT + 1)) ∧
        (∀ h, f.radio ≠ 2 → s.handleOf (leNat ((f.psdu.drop 2).take 4)) = some h → cxValid (s.ctx h) = true →
          (h ∉ s.lnk.cache → Gives .linkHeaderClassify s fun t => others t ∧ ∀ x ∈ t.lnk.frames, x.id = f.id → x.step = .fetch ∧ x.handle = some h) ∧
          (h ∈ s.lnk.cache → Gives .linkHeaderClassify s fun t => others t ∧
            (∀ x ∈ t.lnk.frames, x.id = f.id → (x.step = .opening ∨ x.step = .held) ∧ x.handle = some h) ∧
            (lt ≠ 0x4A → seqClass (s.ctx h) (leNat ((f.psdu.drop 6).take 4)) ≠ .new_ → gone t)))))) ∧
  (∀ (s : State) (f : LinkFrame) (h : Nat), s.firstFrame (s.lnk.frames.filter (fun f => f.step == .fetch)) = some f → f.handle = some h →
    s.outstanding 24 < 32 → Gives .contextFetchDone s fun t =>
      (t.lnk.frames.filter (fun x => x.id != f.id) = s.lnk.frames.filter (fun x => x.id != f.id)) ∧
      ∀ x ∈ t.lnk.frames, x.id = f.id → (x.step = .opening ∨ x.step = .held) ∧ x.handle = some h) ∧
  (∀ s : State, (∀ f ∈ s.lnk.frames, f.step ≠ .fetch) → exec .contextFetchDone s = .next s) ∧
  (∀ s : State, (∀ f ∈ s.lnk.frames, f.step ≠ .opened) → exec .frameAccept s = .next s) ∧
  (∀ (s : State) (f : LinkFrame) (h : Nat), s.lnk.frames.find? (fun f => f.step == .opened) = some f → f.handle = some h →
    (∀ x ∈ s.lnk.frames, x.id = f.id → x = f) →
    let copy (x : LinkFrame) : Bool := x.step == .held && x.handle == some h && x.seq == f.seq
    (byteAt f.psdu 0 = 0x4A → Gives .frameAccept s fun t => ∀ x ∈ t.lnk.frames, x.id = f.id → x.step = .commit) ∧
    (byteAt f.psdu 0 ≠ 0x4A → seqClass (s.ctx h) f.seq = .stale → Gives .frameAccept s fun t =>
      (∀ x ∈ t.lnk.frames, x ∈ s.lnk.frames ∧ x ≠ f ∧ copy x = false) ∧
      (∀ x ∈ s.lnk.frames, x ≠ f → (∀ y ∈ s.lnk.frames, copy y = true → y.id ≠ x.id) → x ∈ t.lnk.frames) ∧
      t.fld F.LNK_COUNT0_STALE = min 255 (s.fld F.LNK_COUNT0_STALE + 1 + (s.lnk.frames.filter copy).length)) ∧
    (byteAt f.psdu 0 ≠ 0x4A → seqClass (s.ctx h) f.seq = .repeat_ → Gives .frameAccept s fun t => ∀ x ∈ t.lnk.frames, x.id ≠ f.id) ∧
    (byteAt f.psdu 0 ≠ 0x4A → seqClass (s.ctx h) f.seq = .new_ → Gives .frameAccept s fun t =>
      (∃ x ∈ t.lnk.frames, x.id = f.id ∧ x.step = .sealing) ∧ (∃ j ∈ t.lnk.acks, j.handle = h ∧ j.fresh = true ∧ j.frame = some f.id) ∧
      (s.lnk.watch = [] → s.fnOn 15 0 0 = false ∨ (byteAt f.psdu 1).getLsbD 2 = false → t.ctx h = cxAccept (s.ctx h) f.seq))) ∧
  (∀ (s : State) (j : AckJob) (rest : List AckJob), s.lnk.acks = j :: rest → j.due = true → (s.chain j.radio j.chain).act = none →
    (∀ q ∈ (s.chain j.radio j.chain).queue, q.ack ≠ some j.id) → (∀ x ∈ rest, x.id ≠ j.id) →
    let p := s.ackPort j
    (p < s.now + pathTime j.radio → j.opp = 1 → s.fld F.LNK_CFG_ACK2 ≠ 0 → Gives .ackOpportunity s fun t =>
      t.lnk.acks = { j with opp := 2 } :: rest) ∧
    (p < s.now + pathTime j.radio → j.opp ≠ 1 ∨ s.fld F.LNK_CFG_ACK2 = 0 → Gives .ackOpportunity s fun t =>
      t.lnk.acks = rest ∧ t.fld F.LNK_COUNT1_ACK_MISSED = min 255 (s.fld F.LNK_COUNT1_ACK_MISSED + 1)) ∧
    (s.now + pathTime j.radio ≤ p → j.psdu = none → rest = [] → exec .ackOpportunity s = .next s) ∧
    (s.now + 50 * usU < p → (s.chain j.radio j.chain).queue = [] → s.windowFrame j.radio j.chain = false → j.psdu ≠ none → modeInfo j.radio j.mode ≠ none → s.ackBlocked j.radio j.chain (s.ackCmd j p) = false →
      (j.opp ≠ 1 ∨ s.cmdLbt j.radio (s.ackCmd j p) = false) → Gives .ackOpportunity s fun t =>
        ∃ q ∈ (t.chain j.radio j.chain).queue, q.ack = some j.id ∧ q.port = p ∧ q.op = 1)) ∧
  (∀ s : State, (∀ j ∈ s.lnk.acks, j.due = false) → exec .ackOpportunity s = .next s) ∧
  (∀ s : State, (s.lnk.cmd = none → exec .lnkCmdComplete s = .next s) ∧
    ∀ id h, s.lnk.cmd = some (id, h) →
      ((∀ q, s.reqOf id = some q → q.phase = .waiting ∨ q.phase = .granted) → s.reqOf id ≠ none → exec .lnkCmdComplete s = .next s) ∧
      ((∀ q, s.reqOf id = some q → q.phase = .written) → Gives .lnkCmdComplete s fun t => t.lnk.cmd = none ∧
        t.fld F.LNK_CMD_BUSY = 0 ∧ t.fld F.LNK_CMD_STATUS = s.fld F.LNK_CMD_STATUS) ∧
      (∀ q st, s.reqOf id = some q → q.phase = .ended st → st < 256 → Gives .lnkCmdComplete s fun t => t.lnk.cmd = none ∧
        t.fld F.LNK_CMD_BUSY = 0 ∧ t.fld F.LNK_CMD_STATUS = st)) ∧
  (∀ (s : State) (c : List Byte) (t : Nat), (cxValid c = false ∨ cxPeer c = true → s.guardOf c t = 0) ∧
    (cxValid c = true → cxPeer c = false → cxDstate c = 0 → s.guardOf c t = 1000 * min 2000 (s.fld F.DRL_GNEW_GNEW))) ∧
  (∀ (s : State) (h : Nat), s.fnOn 15 0 0 = true → cxValid (s.ctx h) = true → cxPeer (s.ctx h) = false →
    cxDstate (s.ctx h) = 1 ∨ cxDstate (s.ctx h) = 2 → 2 ≤ cxMisses (s.ctx h) → s.lnk.lost = [] →
    (s.driftMiss h).fld F.DRL_LOST_VALID = 1 ∧ (s.driftMiss h).fld F.DRL_LOST_HANDLE = h % 2 ^ 18 ∧ ∃ p ∈ (s.driftMiss h).fabric, p.line = 36)

/-- R231, R233 and R242 to R244. R245 to R248 and R250. -/
def Obligations.RouterPassesAndCommits : Prop :=
  ((∀ s : State,
     (s.fnOn 18 0 0 = false → (s.rtr.recirc = [] → exec .parserAccept s = .next s) ∧ exec .injectionServe s = .next s) ∧
     (s.rtr.recirc ≠ [] ∨ s.nextSource ≠ some 7 → exec .injectionServe s = .next s) ∧
     (s.rtr.recirc = [] → s.nextSource = none → exec .parserAccept s = .next s) ∧
     (s.rtr.inPass = [] → exec .passEnd s = .next s) ∧
     (∀ p ps, s.rtr.recirc = p :: ps → Gives .parserAccept s fun t => t.rtr.recirc = ps ∧ t.rtr.live = s.rtr.live ∧
       ∃ q, t.rtr.inPass = s.rtr.inPass ++ [q] ∧ q.data = p.data ∧ q.pass = p.pass ∧ q.version = p.version ∧ q.result ≠ none) ∧
     (s.fnOn 18 0 0 = true →
       (∀ n p, s.rtr.recirc = [] → s.nextSource = some n → n ≠ 7 → s.rtr.waiting.find? (fun p => p.source == n) = some p →
         Gives .parserAccept s fun t => t.rtr.waiting = s.rtr.waiting.erase p ∧ t.rtr.source = n ∧
           t.rtr.live = s.rtr.live.map (fun x => if x.1 = s.curVer then (x.1, x.2 + 1) else x) ∧
           ∃ q, t.rtr.inPass = s.rtr.inPass ++ [q] ∧ q.data = p.data ∧ q.version = s.curVer ∧ q.pass = p.pass ∧ q.result ≠ none) ∧
       (∀ r, s.rtr.recirc = [] → s.nextSource = some 7 → s.injTurn = some r → s.Sound (s.injAddr r) 16 →
         let a := s.injAddr r
         Gives .injectionServe s (fun t => t.rdLe (a + 2) 1 = (s.injCode a).code ∧ 128 ≤ t.rdLe a 1 ∧
           t.fld (F.RTR_INJ_PTR_HEAD r) = (s.fld (F.RTR_INJ_PTR_HEAD r) + 1) % s.injSize r ∧ t.rtr.ring = r) ∧
         (s.injCode a = .ok → Gives .injectionServe s fun t => ∃ q, t.rtr.inPass = s.rtr.inPass ++ [q] ∧ q.pass = 0 ∧
           q.data = s.bytes (cxGet (s.bytes a 16) 8 5) (cxGet (s.bytes a 16) 4 2)) ∧
         (s.injCode a ≠ .ok → Gives .injectionServe s fun t => t.rtr.inPass = s.rtr.inPass ∧
           t.fld F.RTR_COUNT1_INJ_REFUSED = min 255 (s.fld F.RTR_COUNT1_INJ_REFUSED + 1))))) ∧
   (∀ (s : State) (p : Packet) (ps : List Packet) (r : PassResult), s.rtr.inPass = p :: ps → p.result = some r →
     Gives .passEnd s (fun t => t.rtr.inPass = ps ∧ t.rtr.waiting = s.rtr.waiting) ∧
     (r.edits = [] →
       let less := s.rtr.live.map (fun x => if x.1 = p.version then (x.1, x.2 - 1) else x)
       (r.drop = true → Gives .passEnd s fun t => t.rtr.recirc = s.rtr.recirc ∧ t.rtr.live = less ∧ t.tm = s.tm ∧ t.rq = s.rq ∧ t.mem = s.mem) ∧
       (r.drop = false → r.recirc = true → p.pass < 2 → Gives .passEnd s fun t => t.rtr.live = s.rtr.live ∧
         ∃ q, t.rtr.recirc = s.rtr.recirc ++ [q] ∧ q.data = p.data ∧ q.pass = p.pass + 1 ∧ q.version = p.version ∧ q.tpl = r.tpl ∧ q.info = p.info) ∧
       (r.drop = false → r.recirc = true → 2 ≤ p.pass → Gives .passEnd s fun t => t.rtr.recirc = s.rtr.recirc ∧ t.rtr.live = less ∧
         t.fld F.RTR_COUNT0_RECIRC_LIMIT = min 255 (s.fld F.RTR_COUNT0_RECIRC_LIMIT + 1)) ∧
       (r.drop = false → r.recirc = false → r.dest = none → Gives .passEnd s fun t => t.rtr.live = less ∧ t.tm = s.tm ∧
         t.fld F.RTR_COUNT0_NO_DEST = min 255 (s.fld F.RTR_COUNT0_NO_DEST + 1)) ∧
       (∀ n i, r.drop = false → r.recirc = false → r.dest = some (.port n i) →
         (s.portTakes n = false → Gives .passEnd s fun t => t.tm = s.tm ∧
           t.fld F.RTR_COUNT0_NO_DEST = min 255 (s.fld F.RTR_COUNT0_NO_DEST + 1)) ∧
         (s.portTakes n = true → (s.tq (16 * n + i)).cells + cellsOf p.data.length ≤ (s.tq (16 * n + i)).cfg.toNat % 2 ^ 15 →
           s.cellsUsed + cellsOf p.data.length ≤ 16384 → p.data.length + 4 ≤ s.maxFrame → Gives .passEnd s fun t =>
             (t.tq (16 * n + i)).frames = (s.tq (16 * n + i)).frames ++ [⟨p.data, s.now⟩] ∧ ∀ g, g ≠ 16 * n + i → t.tq g = s.tq g) ∧
         (s.portTakes n = true → s.maxFrame < p.data.length + 4 → Gives .passEnd s fun t =>
             (t.tq (16 * n + i)).frames = (s.tq (16 * n + i)).frames ∧ (t.tq (16 * n + i)).drops = min 255 ((s.tq (16 * n + i)).drops + 1)))) ∧
     (∀ a, r.edits = [a] → actByte a 7 % 4 = 3 ∨ actByte a 7 % 4 = 2 → actByte a 8 + 4 ≤ p.data.length → actByte a 8 + 4 ≤ 256 →
       (byteAt p.data (actByte a 8)).toNat ≤ 1 → Gives .passEnd s fun t => t.rtr.recirc = s.rtr.recirc ∧ t.tm = s.tm ∧ t.rq = s.rq ∧
         t.fld F.RTR_COUNT0_TTL = min 255 (s.fld F.RTR_COUNT0_TTL + 1)))) ∧
  (∀ s : State,
     (s.rtr.commit = none → exec .commitTakeEffect s = .next s) ∧
     (∀ u, s.rtr.commit = some u →
       (s.now < u → exec .commitTakeEffect s = .next s) ∧
       (u ≤ s.now → Gives .commitTakeEffect s fun t => t.rtr.live = ((s.curVer + 1) % 65536, 0) :: s.rtr.live ∧ t.curVer = (s.curVer + 1) % 65536 ∧
         t.rtr.commit = none ∧ t.rtr.entries = s.rtr.entries ∧ t.fld F.RTR_VER_CURRENT = (s.curVer + 1) % 65536 ∧
         t.fld F.RTR_COMMIT_CMD_PENDING = 0 ∧ t.fld F.RTR_STAT_COMMIT_PENDING = 0 ∧ t.fld F.RTR_COMMIT_CMD_STATUS = 0)) ∧
     ((∀ x ∈ s.rtr.live.drop 1, x.2 ≠ 0) → exec .versionRetire s = .next s) ∧
     (∀ v, (s.rtr.live.drop 1).reverse.find? (fun x => x.2 == 0) = some (v, 0) → Gives .versionRetire s fun t =>
       t.rtr.live = s.rtr.live.filter (fun x => x.1 != v) ∧ t.rtr.entries = s.rtr.entries ∧ t.fld F.RTR_STAT_SWEEP = 1 ∧
       t.fld F.RTR_COUNT1_RETIRED = min 255 (s.fld F.RTR_COUNT1_RETIRED + 1) ∧ ∃ p ∈ t.fabric, p.line = 44) ∧
     (s.fld F.RTR_STAT_SWEEP = 0 → exec .sweepDone s = .next s) ∧
     (s.fld F.RTR_STAT_SWEEP = 1 → Gives .sweepDone s fun t => t.fld F.RTR_STAT_SWEEP = 0 ∧ t.rtr.live = s.rtr.live ∧
       (∀ e ∈ t.rtr.entries, ∀ d, e.delVer = some d → 1 ≤ verAge s.oldestVer d ∧ verAge s.oldestVer d ≤ 4) ∧
       ∀ v, (t.rtr.entries.filter (fun e => e.visible s.oldestVer v)).map (fun e => (e.stage, e.kind, e.key, e.mask, e.param, e.action)) =
         (s.rtr.entries.filter (fun e => e.visible s.oldestVer v)).map (fun e => (e.stage, e.kind, e.key, e.mask, e.param, e.action))) ∧
     (s.rtr.edit = none → exec .routerEditComplete s = .next s) ∧
     (∀ c, s.rtr.edit = some c → Gives .routerEditComplete s fun t => t.rtr.edit = none ∧ t.fld F.RTR_EDIT_CMD_BUSY = 0 ∧
       t.fld F.RTR_EDIT_CMD_STATUS = c % 256 ∧ t.rtr.entries = s.rtr.entries))

/-- The traffic manager and the transmit side of the ports. -/
def Obligations.PortsChooseFramesByClassAndGate : Prop :=
  (∀ (j : Fin 7) (ring : Fin 4) (s : State), j.val < 6 →
    let row : Instr := .portTransmitChoice j ring []
    (s.fnOn 20 j 0 = false ∨ s.portIdle j = false → Gives row s fun t => t.sendOf j = s.sendOf j ∧ t.tm.queues = s.tm.queues ∧ t.mem = s.mem ∧ t.regs = s.regs) ∧
    (s.fnOn 20 j 0 = true → s.portIdle j = true → s.ringFilled (tqRing j 0) = 0 →
      let a := s.descAt (tqRing j 1)
      let d := s.bytes a 32
      (s.ringFilled (tqRing j 1) ≠ 0 →
        (s.txCode false false d = .ok → s.fitsGates j 16 s.now (s.air10 j (s.measured j (cxGet d 4 2))) = true → Gives row s fun t =>
          ∃ x, t.sendOf j = some x ∧ x.tq = 1 ∧ x.data = s.bytes (cxGet d 16 8) (cxGet d 4 2) ∧ x.desc = some a ∧ x.start = s.ticks ∧
            x.ends = s.ticks + s.octetTicks j (8 + x.data.length + 4)) ∧
        (∀ st, s.txCode false false d = st → st ≠ .ok → s.Sound a 32 → Gives row s fun t => t.sendOf j = s.sendOf j ∧ t.rdLe (a + 2) 1 = st.code ∧ 128 ≤ t.rdLe a 1 ∧
          t.ringHw (tqRing j 1) = (s.ringHw (tqRing j 1) + 1) % s.ringSize (tqRing j 1))) ∧
      (∀ g q f fs, s.ringFilled (tqRing j 1) = 0 → s.fnOn 19 0 0 = true → s.tm.queues = [(g, q)] → s.physOfPort (g / 16) = j.val → q.frames = f :: fs →
        s.queueReady j g none = true → s.neverFits j (g % 16) (s.air10 j (s.headL g)) = false →
        (g % 16 < 4 → Gives row s fun t => (t.tq g).frames = fs ∧ ∃ x, t.sendOf j = some x ∧ x.tq = 2 ∧ x.data = f.data ∧ x.desc = none) ∧
        (4 ≤ g % 16 → q.isNew = true → s.headL g ≤ q.deficit + 64 * max 1 (q.cfg.toNat / 2 ^ 24) → Gives row s fun t => (t.tq g).frames = fs ∧
          (t.tq g).deficit = q.deficit + 64 * max 1 (q.cfg.toNat / 2 ^ 24) - s.headL g ∧
          ∃ x, t.sendOf j = some x ∧ x.tq = 3 ∧ x.data = f.data ∧ x.desc = none)))) ∧
  (∀ (j : Fin 6) (s : State),
    (∀ seen past, s.fnOn 20 j 0 = true → 0 < s.ringFilled (tqRing j 0) → s.tq0Of j = some (seen, past) →
      s.Sound (s.descAt (tqRing j 0)) 32 →
      let a := s.descAt (tqRing j 0)
      let refused (st : Status) (t : State) : Prop := t.sendOf j = s.sendOf j ∧ t.rdLe (a + 2) 1 = st.code ∧ 128 ≤ t.rdLe a 1 ∧
        t.ringHw (tqRing j 0) = (s.ringHw (tqRing j 0) + 1) % s.ringSize (tqRing j 0)
      (∀ st, s.tq0Verdict j = some st → Gives (.tq0Launch j) s (refused st)) ∧
      (s.tq0Verdict j = none → s.portNt j < s.preambleAt j → exec (.tq0Launch j) s = .next s) ∧
      (s.tq0Verdict j = none → s.preambleAt j ≤ s.portNt j → s.portIdle j = false → Gives (.tq0Launch j) s (refused .late)) ∧
      (s.tq0Verdict j = none → s.preambleAt j ≤ s.portNt j → s.portIdle j = true → Gives (.tq0Launch j) s fun t =>
        ∃ x, t.sendOf j = some x ∧ x.tq = 0 ∧ x.data = s.bytes (s.rdLe (a + 16) 8) (s.rdLe (a + 4) 2) ∧ x.desc = some a ∧ x.start = s.ticks ∧
          s.preambleAt j + s.preambleU j ≤ x.stamp ∧ x.stamp < s.preambleAt j + s.preambleU j + s.grain j)) ∧
    (s.sendOf j = none → exec (.ethFrameTxEnd j) s = .next s) ∧
    (∀ x, s.sendOf j = some x →
      (s.ticks < x.ends → exec (.ethFrameTxEnd j) s = .next s) ∧
      (x.ends ≤ s.ticks → Gives (.ethFrameTxEnd j) s (fun t => t.sendOf j = none ∧
          t.fld (F.EMAC_CNT_SECOND j 0) = min 65535 (s.fld (F.EMAC_CNT_SECOND j 0) + 1)) ∧
        (∀ a, x.desc = some a → x.tq ≤ 1 → a = s.descAt (tqRing j x.tq) → s.Sound a 32 → Gives (.ethFrameTxEnd j) s fun t => t.rdLe (a + 2) 1 = 0 ∧ 128 ≤ t.rdLe a 1 ∧
          (s.rdLe a 1 % 2 = 1 → t.rdLe (a + 24) 8 = packNt x.stamp % 2 ^ 64 ∧ ∃ p ∈ t.fabric, p.line = 45 + j.val))))) ∧
  (∀ s : State, Gives .wheelAdvance s fun t => ∀ g, (t.tq g).frames = (s.tq g).frames ∧
    ((s.tq g).parked = none → (t.tq g).parked = none) ∧
    ∀ e, (s.tq g).parked = some (e, false) →
      (t.tq g).parked = if (e + usFine - 1) / usFine ≤ s.now / usU then none else some (e, false)) ∧
  (∀ (j : Fin 7) (s : State),
    (s.coarse = true → exec (.gateChange j) s = .next s) ∧
    (s.coarse = false → Gives (.gateChange j) s fun t => SMap.get (fun _ => 256) t.tm.gateNow j = s.gateIndex j ∧ t.tm.gates = s.tm.gates) ∧
    (s.gateNext j = none → exec (.slalomListStart j) s = .next s) ∧
    (∀ st n, s.gateNext j = some (st, n) →
      (s.now < st → exec (.slalomListStart j) s = .next s) ∧
      (st ≤ s.now → s.coarse = false → n < 8 → s.fld (F.HIT_SWAP_STAT_STATE n) = 1 → s.setsLeft n = [12 + j.val] →
        Gives (.slalomListStart j) s fun t => t.gateNext j = none ∧ t.gateStart j = st ∧ t.gateActive j = s.gateActive j ∧
          t.fld (F.HIT_SWAP_STAT_STATE n) = 2 ∧ t.fld (F.HIT_SWAP_STAT_STATUS n) = 0 ∧ ∃ p ∈ t.fabric, p.line = 22))) ∧
  (∀ s : State,
    (s.powered ((mapEntry 19).elim 0 MapEntry.pwr) = false ∨ s.fld F.TM_SMP_CFG_EN = 0 → exec .sampleSweep s = .next s) ∧
    (let at_ := s.now / (s.samplePeriod * usU) * (s.samplePeriod * usU)
     s.powered ((mapEntry 19).elim 0 MapEntry.pwr) = true → s.fld F.TM_SMP_CFG_EN = 1 → s.now < at_ + s.incr s.cur → s.tm.swept ≠ s.ticks + 1 →
      Gives .sampleSweep s (fun t => t.tm.swept = s.ticks + 1 ∧ ∀ g, (t.tq g).frames = (s.tq g).frames ∧
        (s.tq g = TmQueue.reset ∨ ((t.tq g).lost = 0 ∧ (t.tq g).maxDelay = 0 ∧ (t.tq g).peak = (s.tq g).cells))) ∧
      (s.ringFree R.TM_SMP_RING_BASE_LO = 0 → Gives .sampleSweep s fun t => t.mem = s.mem ∧
        t.fld F.TM_SMP_CFG_SKIPS = min 255 (s.fld F.TM_SMP_CFG_SKIPS + 1))))

/-- R268 to R272. -/
def Obligations.FramesArriveThroughTheirChecks : Prop :=
  (∀ (j : Fin 6) (f : List Byte) (err : Bool) (ago : Word) (s : State),
    let row (e : Bool) : Instr := .ethFrameRx j f e ago
    let counted (c : FRef) (t : State) : Prop := t.fld c = min 65535 (s.fld c + 1) ∧ t.rtr = s.rtr ∧ t.mem = s.mem
    (s.fnOn 20 j 0 = false → exec (row err) s = .next s) ∧
    (s.fnOn 20 j 0 = true →
      Gives (row true) s (counted (F.EMAC_CNT_SECOND j 2)) ∧
      (fcsPasses f = false → Gives (row false) s (counted (F.EMAC_CNT_FIRST j 2))) ∧
      (fcsPasses f = true → f.length < 64 → Gives (row false) s (counted (F.EMAC_CNT_FIRST j 1))) ∧
      (fcsPasses f = true → 64 ≤ f.length → s.maxFrame < f.length → Gives (row false) s (counted (F.EMAC_CNT_SECOND j 1))) ∧
      (fcsPasses f = true → 64 ≤ f.length → f.length ≤ s.maxFrame → be16 f 12 = 0x8808 → Gives (row false) s (counted (F.EMAC_CNT_SECOND j 3))) ∧
      (fcsPasses f = true → 64 ≤ f.length → f.length ≤ s.maxFrame → be16 f 12 ≠ 0x8808 → 65536 < s.rxHeld j + f.length →
        Gives (row false) s (counted (F.EMAC_CNT_FIRST j 3))) ∧
      (fcsPasses f = true → 64 ≤ f.length → f.length ≤ s.maxFrame → be16 f 12 ≠ 0x8808 → s.rxHeld j + f.length ≤ 65536 →
        Gives (row false) s (fun t => t.fld (F.EMAC_CNT_FIRST j 0) = min 65535 (s.fld (F.EMAC_CNT_FIRST j 0) + 1)) ∧
        (s.fnOn 18 0 0 = true → Gives (row false) s fun t => ∃ p, t.rtr.waiting = s.rtr.waiting ++ [p] ∧ p.source = j.val ∧ p.inport = j.val ∧
          p.pass = 0 ∧ p.data = f.take (f.length - 4)) ∧
        (s.fnOn 18 0 0 = false → Gives (row false) s fun t => t.rtr.waiting = s.rtr.waiting ∧
          t.fld F.RTR_COUNT1_OFF_DROP = min 255 (s.fld F.RTR_COUNT1_OFF_DROP + 1))))) ∧
  (∀ (n : Fin 7) (up an lock : Bool) (width speed : Byte) (s : State),
    (n.val < 6 → Gives (.linkStateChange n up an lock width speed) s fun t => t.fld (F.EMAC_STAT_LINK n) = b2n up ∧
      t.fld (F.EMAC_STAT_AN_DONE n) = b2n an ∧ t.fld (F.EMAC_STAT_PCS_LOCK n) = b2n lock ∧
      (s.fld (F.EMAC_STAT_LINK n) = 1 → up = false → t.fld (F.EMAC_CNT_SECOND n 5) = min 65535 (s.fld (F.EMAC_CNT_SECOND n 5) + 1)) ∧
      (s.fld (F.EMAC_STAT_LINK n) ≠ b2n up → ∃ p ∈ t.fabric, p.line = 45 + n.val) ∧ (s.fld (F.EMAC_STAT_LINK n) = b2n up → t.fabric = s.fabric)) ∧
    (n.val = 6 → Gives (.linkStateChange n up an lock width speed) s fun t => t.fld F.PCIE_STAT_LINKUP = b2n up ∧
      (up = false → t.fld F.PCIE_STAT_WIDTH = 0 ∧ t.fld F.PCIE_STAT_SPEED = 0) ∧
      (s.fld F.PCIE_STAT_LINKUP ≠ b2n up → ∃ p ∈ t.fabric, p.line = 52) ∧ (s.fld F.PCIE_STAT_LINKUP = b2n up → t.fabric = s.fabric))) ∧
  (∀ (f : List Byte) (s : State),
    (s.wakeMatch f = none → exec (.wakePatternMatch f) s = .next s) ∧
    (∀ n, s.wakeMatch f = some n → ∃ u : State, exec (.wakePatternMatch f) s = .next (u.wakeRequest 0) ∧
      u.fld (F.EMAC_WAKE_STAT_VALID 0) = 1 ∧ u.fld (F.EMAC_WAKE_STAT_PATTERN 0) = n ∧ u.pwr = s.pwr ∧ u.mem = s.mem ∧
      s.patternHits n f = true ∧ ∀ m, m < n → s.patternHits m f = false)) ∧
  (∀ (d f : List Byte) (s : State),
    (s.fnOn 21 0 0 = false ∨ (∀ r, r < 4 → s.ringFilled (htxRing r) = 0) → exec (.hostTxServe d f) s = .next s) ∧
    (∀ r, s.fnOn 21 0 0 = true → cyclicNext s.tm.hostRing ((List.range 4).filter (fun r => decide (0 < s.ringFilled (htxRing r)))) = some r →
      d.length = 32 → f.length = cxGet d 4 2 →
      let a := s.descAt (htxRing r)
      Gives (.hostTxServe d f) s (fun t => t.hostBytes (a + 2) 1 = leBytes 1 (s.txCode false true d).code ∧ 128 ≤ leNat (t.hostBytes a 1) ∧
        t.ringHw (htxRing r) = (s.ringHw (htxRing r) + 1) % s.ringSize (htxRing r) ∧ t.tm.hostRing = r) ∧
      (s.txCode false true d = .ok → s.fnOn 18 0 0 = true → Gives (.hostTxServe d f) s fun t =>
        ∃ p, t.rtr.waiting = s.rtr.waiting ++ [p] ∧ p.source = 6 ∧ p.data = f) ∧
      (s.txCode false true d ≠ .ok → Gives (.hostTxServe d f) s fun t => t.rtr = s.rtr ∧
        t.fld F.PCIE_CNT_HTX_REFUSED = min 65535 (s.fld F.PCIE_CNT_HTX_REFUSED + 1))))

/-- Chapter 12 below the queues. R284, R285 and R287. -/
def Obligations.MemoryIsKeptAndRecordsDrain : Prop :=
  ((∀ (req : Fin 32) (off : BitVec 23) (size : Fin 4) (v : DWord) (s : State),
     let n := 2 ^ size.val
     let p := spadBase + off.toNat
     let part (b : Nat) : Byte := BitVec.ofNat 8 (v.toNat / 256 ^ (b - p))
     s.inCodes p = false → s.wrongBits p = 0 → (∀ y ∈ s.bus.stalled, y.req ≠ req.val) →
     (s.judge req (0x4100000000 + off.toNat) n = .go → Gives (.bitSetStore req off size v) s fun t =>
       ∀ b, t.byte b = if p ≤ b ∧ b < p + n then s.byte b ||| part b else s.byte b) ∧
     (s.judge req (0x4200000000 + off.toNat) n = .go → Gives (.bitClearStore req off size v) s fun t =>
       ∀ b, t.byte b = if p ≤ b ∧ b < p + n then s.byte b &&& ~~~(part b) else s.byte b)) ∧
   (∀ (bad : Option Word) (red : Bool) (s : State),
     (s.fld F.SPM_PATROL_EN = 0 ∨ s.clock < s.arrays.patrolAt → exec (.patrolRegion bad red) s = .next s) ∧
     (s.fld F.SPM_PATROL_EN = 1 → s.arrays.patrolAt ≤ s.clock →
       let r := s.patrolNext
       Gives (.patrolRegion bad red) s (fun t => t.mem = s.mem ∧ t.arrays.patrolAt = s.clock + max 10 (s.fld F.SPM_PATROL_PERIOD) * usU ∧
         (∀ w, w < 128 → t.wrongBits (patrolWord r w) = if s.wrongBits (patrolWord r w) = 1 then 0 else s.wrongBits (patrolWord r w)) ∧
         (s.fld F.SPM_PATROL_CURSOR < 8448 → t.fld F.SPM_PATROL_CURSOR =
           if r = s.fld F.SPM_PATROL_CURSOR then (r + 1) % 8448 else s.fld F.SPM_PATROL_CURSOR)) ∧
       (red = true → Gives (.patrolRegion bad red) s fun t => t.fld F.SPM_COUNT_DISCARDS = min 255 (s.fld F.SPM_COUNT_DISCARDS + 1) ∧
         (r + 1 < 8448 → ∃ n, (r, 64, n + 1) ∈ t.arrays.retry)) ∧
       (∀ w, bad = some w → red = false → Gives (.patrolRegion bad red) s fun t => t.fld F.SPM_STAT_MARCH_FAIL = 1 ∧
         t.fld F.SPM_COUNT_MARCH_FAIL = min 255 (s.fld F.SPM_COUNT_MARCH_FAIL + 1) ∧ t.fld F.SPM_ERR_VALID = 1))) ∧
   (∀ (bank : Byte) (s : State),
     let n := SMap.get (fun _ => 0) s.arrays.postponed bank.toNat
     let after (busy : Bool) (k : Nat) : Prop := Gives (.dramRefresh bank busy) s fun t =>
       SMap.get (fun _ => 0) t.arrays.postponed bank.toNat = k ∧ t.mem = s.mem ∧ t.regs = s.regs
     (2 ≤ s.fld F.PWR_STAT_STATE ∨ s.clock < SMap.get (fun _ => 0) s.arrays.refreshAt bank.toNat → ∀ busy, exec (.dramRefresh bank busy) s = .next s) ∧
     (s.fld F.PWR_STAT_STATE < 2 → SMap.get (fun _ => 0) s.arrays.refreshAt bank.toNat ≤ s.clock →
       after false 0 ∧ (n < 8 → after true (n + 1)) ∧ (8 ≤ n → after true 0))) ∧
   (∀ (ch : Fin 2) (shift : Byte) (s : State),
     (s.sweepDue ch = false → exec (.sentinelSweep ch shift) s = .next s) ∧
     (s.sweepDue ch = true → Gives (.sentinelSweep ch shift) s (fun t =>
         t.fld (if ch = 0 then F.DMC_TRAIN_SHIFT0 else F.DMC_TRAIN_SHIFT1) = shift.toNat ∧
         t.fld F.DMC_COUNT_SENT_SWEEPS = min 255 (s.fld F.DMC_COUNT_SENT_SWEEPS + 1) ∧ t.mem = s.mem) ∧
       (8 < shift.toInt.natAbs → Gives (.sentinelSweep ch shift) s fun t => t.fld (if ch = 0 then F.DMC_STAT_FULL0 else F.DMC_STAT_FULL1) = 1 ∧
         t.fld F.DMC_COUNT_FULL_SWEEPS = min 255 (s.fld F.DMC_COUNT_FULL_SWEEPS + 1))))) ∧
  ((∀ s : State, (∀ r ∈ s.rq.recs, r.closed = false) → exec .recordCommit s = .next s) ∧
   (∀ (s : State) (r : RqRec), s.rq.recs.find? (fun r => r.closed) = some r → s.rqRec r.id = some r → (∀ f ∈ s.lnk.frames, f.rqid ≠ some r.id) →
     r.queue < 64 → r.pool < 16 → s.fld (F.RQ_CFG_SIZE r.queue) ≠ 0 →
     let q := r.queue
     let k := s.fld (F.RQ_PTR_A_COMMIT q)
     (s.freeEntries q < r.bufs.length → Gives .recordCommit s fun t => t.rq.recs = s.rq.recs.filter (fun x => x.id != r.id) ∧
       t.fld (F.RQ_PTR_A_COMMIT q) = k ∧ t.mem = s.mem ∧ t.fld F.RQ_COUNT0_NO_BUFFER = min 255 (s.fld F.RQ_COUNT0_NO_BUFFER + 1) ∧
       ∃ p ∈ t.fabric, p.line = 35) ∧
     (r.bufs.length ≤ s.freeEntries q → s.fld (F.RQ_CFG_DISP q) = 0 → Gives .recordCommit s fun t =>
       t.rq.recs = s.rq.recs.filter (fun x => x.id != r.id) ∧
       t.fld (F.RQ_PTR_A_COMMIT q) = (k + r.bufs.length) % s.fld (F.RQ_CFG_SIZE q) ∧
       SMap.get (fun _ => 0) t.rq.seqs q = (SMap.get (fun _ => 0) s.rq.seqs q + 1) % 2 ^ 32 ∧
       t.fld F.RQ_COUNT1_COMMITS = min 65535 (s.fld F.RQ_COUNT1_COMMITS + 1) ∧
       (s.fld (F.RQ_CFG_EVT q) = 1 → ∃ p ∈ t.fabric, p.line = 34) ∧
       (∀ b, r.bufs = [b] → s.Sound (s.entryAddr q k) 16 → t.rdLe (s.entryAddr q k) 1 = 3 ∧ t.rdLe (s.entryAddr q k + 1) 1 = r.kind % 256 ∧
         t.rdLe (s.entryAddr q k + 2) 2 = min r.len (s.bufSize r.pool) % 65536 ∧
         t.rdLe (s.entryAddr q k + 4) 4 = SMap.get (fun _ => 0) s.rq.seqs q % 2 ^ 32 ∧ t.rdLe (s.entryAddr q k + 8) 4 = b / 256 % 2 ^ 32))) ∧
   (∀ (q : Fin 64) (s : State),
     (q.val ∉ s.rq.qDrain ∨ (∃ r ∈ s.rq.recs, r.queue = q.val) → exec (.queueDrainEnd q) s = .next s) ∧
     (q.val ∈ s.rq.qDrain → (∀ r ∈ s.rq.recs, r.queue ≠ q.val) → Gives (.queueDrainEnd q) s (fun t => q.val ∉ t.rq.qDrain) ∧
       (s.fld (F.RQ_CFG_EN q) = 0 → Gives (.queueDrainEnd q) s fun t => t.fld (F.RQ_CFG_ACTIVE q) = 0) ∧
       (s.fld (F.RQ_CFG_EN q) = 1 → 2 ≤ s.fld (F.RQ_CFG_SIZE q) → inNormal (256 * s.fld (F.RQ_BASE_ADDR q)) (16 * s.fld (F.RQ_CFG_SIZE q)) = true →
         Gives (.queueDrainEnd q) s fun t => t.fld (F.RQ_CFG_ACTIVE q) = 1 ∧ t.fld (F.RQ_PTR_A_COMMIT q) = 0 ∧ t.fld (F.RQ_PTR_A_READ q) = 0 ∧
           SMap.get (fun _ => 0) t.rq.seqs q = 0))) ∧
   (∀ (b : Fin 16) (s : State),
     (b.val ∉ s.rq.pDrain ∨ s.heldBufs b ≠ 0 → exec (.poolDrainEnd b) s = .next s) ∧
     (b.val ∈ s.rq.pDrain → s.heldBufs b = 0 → Gives (.poolDrainEnd b) s (fun t => b.val ∉ t.rq.pDrain) ∧
       (s.fld (F.RQ_POOL_CFG_EN b) = 0 → Gives (.poolDrainEnd b) s fun t => t.fld (F.RQ_POOL_CFG_ACTIVE b) = 0))))

/-- R294 to R298. R301; t is the token of the immediate, or of ra modulo 256. -/
def Obligations.WorkAndTokensAreHandedOut : Prop :=
  ((∀ (core : Fin 24) (rd ra : Fin 32) (level : Byte) (s : State), s.Issues core .post → level.toNat ≤ 7 → s.wd.asking = [] → s.wd.held = [] →
     s.fld F.WD_CFG_TRACE_EN = 0 →
     let x := (s.begun core).core core
     let a := (x.gr ra).toNat
     Gives (.post_ core rd ra level) s (fun t => Core.WroteG x (t.core core) rd (BitVec.ofNat 64 (s.postCode a).code)) ∧
     (s.postCode a = .ok → Gives (.post_ core rd ra level) s fun t => t.wd.waiting = s.wd.waiting ++ [⟨a, level.toNat, none⟩] ∧
       t.rdLe a 1 = s.rdLe a 1 % 64 + 64) ∧
     (s.postCode a ≠ .ok → Gives (.post_ core rd ra level) s fun t => t.wd.waiting = s.wd.waiting ∧ t.mem = s.mem) ∧
     (s.postCode a = .noBuffer → Gives (.post_ core rd ra level) s fun t => t.fld F.WD_COUNT_FULL = min 255 (s.fld F.WD_COUNT_FULL + 1)) ∧
     (a % 64 ≠ 0 ∨ inNormal a 64 = false → s.postCode a = .fault)) ∧
   (∀ (core : Fin 24) (rd ra : Fin 32) (s : State) (i : WorkItem), s.Issues core .done → s.fld F.WD_CFG_TRACE_EN = 0 →
     s.wd.running.find? (fun r => r.1 == core.val) = some (core.val, i) → i.queue = none → s.wd.asking = [] → s.Sound i.addr 64 →
     let x := (s.begun core).core core
     let v := (x.gr ra).toNat % 256
     Gives (.wdDone core rd ra) s (fun t => t.rdLe (i.addr + 2) 1 = (if v ≤ 0x11 then v else 0x11) ∧
       t.rdLe i.addr 1 = s.rdLe i.addr 1 % 64 + 128) ∧
     (s.nextItem core = none → Gives (.wdDone core rd ra) s fun t => (t.core core).mode = .idle ∧ (t.core core).pc = x.pc ∧
       t.wd.asking = [(core.val, rd.val, s.ticks)] ∧ t.wd.waiting = s.wd.waiting ∧ ∀ y ∈ t.wd.running, y.1 ≠ core.val) ∧
     (∀ j, s.nextItem core = some j → Gives (.wdDone core rd ra) s fun t => Core.WroteG x (t.core core) rd (BitVec.ofNat 64 j.addr) ∧
       t.wd.waiting = s.wd.waiting.erase j ∧ (core.val, j) ∈ t.wd.running)) ∧
   (∀ (core : Fin 24) (s : State),
     ((∀ a ∈ s.wd.asking, a.1 ≠ core.val) → exec (.doneIdleTimeout core) s = .next s) ∧
     (∀ rd since, s.wd.asking.find? (fun a => a.1 == core.val) = some (core.val, rd, since) →
       (s.ticks < since + (s.fld F.WD_CFG_IDLE_WAIT + 3) / 4 → exec (.doneIdleTimeout core) s = .next s) ∧
       (since + (s.fld F.WD_CFG_IDLE_WAIT + 3) / 4 ≤ s.ticks → Gives (.doneIdleTimeout core) s fun t =>
         (rd ≠ 0 → (t.core core).gr rd = 0x8000000000000000#64) ∧ (t.core core).pc = (s.core core).pc + 4 ∧ (t.core core).mode = .run ∧
         (∀ a ∈ t.wd.asking, a.1 ≠ core.val) ∧ t.wd.waiting = s.wd.waiting))) ∧
   (∀ s : State,
     (s.wd.held = [] ∨ 8192 ≤ s.wd.waiting.length → exec .queueItemHeldPost s = .next s) ∧
     (∀ q l, s.wd.held = [(q, l)] → s.wd.waiting.length < 8192 → s.wd.asking = [] → s.fld F.WD_CFG_TRACE_EN = 0 → s.Sound (s.qItemAddr q) 8 →
       (s.rdLe (s.qItemAddr q) 1 / 64 % 2 = 1 → exec .queueItemHeldPost s = .next s) ∧
       (s.rdLe (s.qItemAddr q) 1 / 64 % 2 = 0 → Gives .queueItemHeldPost s fun t =>
       t.wd.held = [] ∧ t.wd.waiting = s.wd.waiting ++ [⟨s.qItemAddr q, l, some q⟩] ∧ t.rdLe (s.qItemAddr q) 1 = s.rdLe (s.qItemAddr q) 1 % 64 + 64 ∧
       t.rdLe (s.qItemAddr q + 5) 1 = (128 + q) % 256)))) ∧
  (∀ (core : Fin 24) (rd ra : Fin 32) (b : Byte) (s : State), s.Issues core .lock →
     let x := (s.begun core).core core
     ∀ row give t, ((row = Instr.lckTake core rd b ∧ give = false ∧ t = b.toNat) ∨ (row = .takev core rd ra ∧ give = false ∧ t = (x.gr ra).toNat % 256) ∨
       (row = .lckGive core rd b ∧ give = true ∧ t = b.toNat) ∨ (row = .givev core rd ra ∧ give = true ∧ t = (x.gr ra).toNat % 256)) →
     let answers (code : Nat) (u : State) : Prop := u.core core = (x.setG rd (BitVec.ofNat 64 code)).next core ∧
       ∀ k, k < 256 → k ≠ t → u.fld (F.LCK_HOLDER_HELD k) = s.fld (F.LCK_HOLDER_HELD k) ∧ u.fld (F.LCK_HOLDER_CORE k) = s.fld (F.LCK_HOLDER_CORE k)
     let same (u : State) : Prop := u.fld (F.LCK_HOLDER_HELD t) = s.fld (F.LCK_HOLDER_HELD t) ∧ u.fld (F.LCK_HOLDER_CORE t) = s.fld (F.LCK_HOLDER_CORE t)
     let mine (k : Nat) : Prop := s.fld (F.LCK_HOLDER_HELD k) = 1 ∧ s.fld (F.LCK_HOLDER_CORE k) = core.val
     (give = false →
       ((∃ k, k < 256 ∧ t ≤ k ∧ mine k) → Gives row s fun u => answers Status.order.code u ∧ same u ∧
         u.fld F.LCK_COUNT_ORDER = min 255 (s.fld F.LCK_COUNT_ORDER + 1)) ∧
       ((∀ k, k < 256 → t ≤ k → ¬ mine k) → s.fld (F.LCK_HOLDER_HELD t) = 1 → Gives row s fun u => answers Status.busy.code u ∧ same u ∧
         u.fld F.LCK_COUNT_TAKE_BUSY = min 255 (s.fld F.LCK_COUNT_TAKE_BUSY + 1)) ∧
       ((∀ k, k < 256 → t ≤ k → ¬ mine k) → s.fld (F.LCK_HOLDER_HELD t) = 0 → Gives row s fun u => answers 0 u ∧
         u.fld (F.LCK_HOLDER_HELD t) = 1 ∧ u.fld (F.LCK_HOLDER_CORE t) = core.val)) ∧
     (give = true →
       (mine t → Gives row s fun u => answers 0 u ∧ u.fld (F.LCK_HOLDER_HELD t) = 0 ∧ u.fld (F.LCK_HOLDER_CORE t) = 0) ∧
       (¬ mine t → Gives row s fun u => answers Status.fault.code u ∧ same u ∧
         u.fld F.LCK_COUNT_GIVE_FAULT = min 255 (s.fld F.LCK_COUNT_GIVE_FAULT + 1))))

/-- R303 to R307. -/
def Obligations.RequestsAreGrantedAndReportedInOrder : Prop :=
  (∀ (core : Fin 24) (rd ra rb : Fin 32) (imm : Byte) (s : State), s.Issues core .svc → imm.toNat < 16 → imm.toNat % 4 ≠ 3 →
    let x := (s.begun core).core core
    let a := (x.gr ra).toNat
    let code := s.svcCode core (imm.toNat % 4) a (svcMark imm.toNat)
    Gives (.svc core rd ra rb imm) s (fun t => t.core core = (x.setG rd (BitVec.ofNat 64 code.code)).next core) ∧
    (code = .ok → Gives (.svc core rd ra rb imm) s fun t => t.fld (F.ARB_REQ_ISSUED core) = (s.fld (F.ARB_REQ_ISSUED core) + 1) % 256 ∧
      ∃ q, t.arb.reqs = s.arb.reqs ++ [q] ∧ q.req = core.val ∧ q.engine = imm.toNat % 4 ∧ q.addr = a ∧ q.rb = (x.gr rb).toNat ∧
        q.mark = svcMark imm.toNat ∧ q.phase = .waiting ∧ q.id = s.arb.nextId ∧ q.readyAt = 0) ∧
    (code ≠ .ok → Gives (.svc core rd ra rb imm) s fun t => t.arb.reqs = s.arb.reqs ∧ t.arb.holds = s.arb.holds ∧ t.arb.nextId = s.arb.nextId) ∧
    (code = .busy → Gives (.svc core rd ra rb imm) s fun t => t.fld F.ARB_COUNT_BUSY = min 255 (s.fld F.ARB_COUNT_BUSY + 1)) ∧
    (s.outstanding core ≥ 4 → code ≠ .ok)) ∧
  (∀ (e : Fin 3) (s : State),
    (s.engineReady e = false ∨ s.nextGrant e = none → exec (.arbiterGrant e) s = .next s) ∧
    (∀ r, s.engineReady e = true → s.nextGrant e = some r → s.reqOf r.id = some r → r.job = .desc → r.mark = .none → s.arb.closing = [] →
      let d := s.bytes r.addr (if e = 2 then 32 else 64)
      let op := cxGet d 0 1
      let top := if e = 0 then 6 else if e = 1 then 16 else 2
      ((e = 1 → s.laneTaken { r with desc := d } = false ∧ s.ldg.mapRebuild = false) →
        (op = 0 ∨ top < op → Gives (.arbiterGrant e) s (fun t => t.EndedAs r.id Status.fault.code)) ∧
        (1 ≤ op → op ≤ top → Gives (.arbiterGrant e) s fun t => ∃ q ∈ t.arb.reqs, q.id = r.id ∧ q.phase = .granted ∧ q.desc = d)) ∧
      (e = 1 → s.laneTaken { r with desc := d } = true → Gives (.arbiterGrant e) s fun t =>
        t.fld F.ARB_COUNT_RETURNS = min 255 (s.fld F.ARB_COUNT_RETURNS + 1) ∧
        ∃ q ∈ t.arb.reqs, q.id = r.id ∧ q.phase = .waiting ∧ q.backoff = (if r.backoff = 0 then 16 else min 4096 (2 * r.backoff)) ∧
          q.readyAt = s.ticks + (q.backoff + 3) / 4)) ∧
    (s.endedReq e = none → exec (.serviceCompletion e) s = .next s) ∧
    (∀ q st, s.endedReq e = some (q, st) → q.req < 24 → q.job = .desc → s.Sound (q.addr + 1) 1 → Gives (.serviceCompletion e) s (fun t => t.rdLe (q.addr + 1) 1 = st % 256) ∧
      (s.arb.reqs = [q] → Gives (.serviceCompletion e) s fun t => t.arb.reqs = [] ∧
        t.fld (F.ARB_REQ_COMPLETED q.req) = (s.fld (F.ARB_REQ_COMPLETED q.req) + 1) % 256)) ∧
    (s.cutOffDue e = false → exec (.sequenceCutOff e) s = .next s) ∧
    (∀ req, s.cutOffDue e = true → s.holderOf e = some req → req < 24 → Gives (.sequenceCutOff e) s fun t => t.holderOf e = none ∧
      (s.openStill req e = true → t.fld (F.ARB_REQ_CUTOFF req) = 1 ∧ (req, e.val) ∈ t.arb.cuts) ∧
      t.fld F.ARB_COUNT_CUT_OFF = min 255 (s.fld F.ARB_COUNT_CUT_OFF + 1) ∧ ∃ p ∈ t.fabric, p.line = 42)) ∧
  (∀ s : State, Gives .backoffExpiry s fun t => t.arb.reqs.map (fun q => (q.id, q.req, q.phase, q.backoff)) =
      s.arb.reqs.map (fun q => (q.id, q.req, q.phase, q.backoff)) ∧
    ∀ q ∈ t.arb.reqs, q.isWaiting = true → q.readyAt = 0 ∨ s.ticks < q.readyAt)

/-- R315: SEAL and OPEN are inverse. -/
def Obligations.WhatIsSealedOpens : Prop :=
  ∀ (k : Key) (nonce hdr msg : List Byte), k.valid = true → k.kmode = 1 ∨ k.kmode = 2 →
    (sealWith k nonce hdr msg).1.length = msg.length ∧
    openWith k nonce hdr (sealWith k nonce hdr msg).1 (sealWith k nonce hdr msg).2 = some msg

/-- Chapter 14's engine; no result may overlap the descriptor here, and no access to the spans written fails. -/
def Obligations.CipherCommandsRunOnTheirKey : Prop :=
  let rows (p : Fin 4) : List (Nat × Instr) := [(1, .seal p), (2, .open_ p), (3, .encRaw p), (4, .decRaw p), (5, .cipherImport p), (6, .sha256 p)]
  (∀ (p : Fin 4) (s : State), ∀ x ∈ rows p,
    (s.pipeReq x.1 p = none → exec x.2 s = .next s) ∧
    (∀ q, s.pipeReq x.1 p = some q → q.job = .desc → (cipherCmd q.desc).badForm = true → Gives x.2 s fun t =>
      t.EndedAs q.id Status.fault.code ∧ t.mem = s.mem)) ∧
  (∀ (p : Fin 4) (s : State) (q : SvcReq), q.job = .desc →
    let c := cipherCmd q.desc
    let apart (n : Nat) : Prop := c.dst + n ≤ q.addr ∨ q.addr + 64 ≤ c.dst
    c.badForm = false → s.Sound q.addr 64 → (∀ x ∈ s.ldg.wrong, x.2 ≤ 2) →
    (s.pipeReq 6 p = some q → apart 32 →
      (s.Sound c.dst 32 → spansOk c.src c.len c.dst 32 = true → Gives (.sha256 p) s fun t => t.EndedAs q.id 0 ∧ t.bytes c.dst 32 = sha256 (s.bytes c.src c.len) ∧
        t.rdLe (q.addr + 62) 2 = 32) ∧
      (spansOk c.src c.len c.dst 32 = false → Gives (.sha256 p) s fun t => t.EndedAs q.id Status.fault.code ∧ t.mem = s.mem)) ∧
    (∀ k, c.ksel = 0 → s.slotKey (c.key % 4096) = some k →
      (∀ x ∈ rows p, x.1 ≤ 5 → s.pipeReq x.1 p = some q →
        (c.badKey k = true → Gives x.2 s fun t => t.EndedAs q.id Status.fault.code ∧ t.mem = s.mem) ∧
        (c.badKey k = false → k.valid = true → s.armed = false → Gives x.2 s fun t => t.EndedAs q.id Status.aborted.code ∧ t.mem = s.mem)) ∧
      (c.badKey k = false → s.armed = true → k.valid = true →
        let h := s.bytes c.src c.hdr
        let body := s.bytes (c.src + c.hdr) c.len
        let r := s.ctr (c.key % 4096)
        (s.pipeReq 1 p = some q → apart (c.hdr + c.len + k.mic) → s.Sound c.dst (c.hdr + c.len + k.mic) → c.key % 4096 ∉ s.ldg.settling →
          (r.locked = false → r.next ≠ 2 ^ r.width - 1 → r.next < r.ceil → Gives (.seal p) s fun t => t.EndedAs q.id 0 ∧
            (t.ctr (c.key % 4096)).next = r.next + 1 ∧ t.rdLe (q.addr + 40) 8 = r.next % 2 ^ 64 ∧ t.rdLe (q.addr + 62) 2 = (c.hdr + c.len + k.mic) % 65536 ∧
            let z := sealWith k (c.nonceArgs.nonce k r.next) h body
            t.bytes c.dst (c.hdr + c.len + k.mic) = h ++ z.1 ++ z.2) ∧
          (r.locked = true → Gives (.seal p) s fun t => t.EndedAs q.id Status.counterExhausted.code ∧ t.mem = s.mem ∧
            t.fld F.CPH_COUNT_EXHAUSTED = min 255 (s.fld F.CPH_COUNT_EXHAUSTED + 1)) ∧
          (r.locked = false → r.frozen = false → r.next ≠ 2 ^ r.width - 1 → r.ceil ≤ r.next → Gives (.seal p) s fun t => t.mem = s.mem ∧
            (t.ctr (c.key % 4096)).next = r.next ∧ t.fld F.CPH_COUNT_RESV_WAIT = min 255 (s.fld F.CPH_COUNT_RESV_WAIT + 1) ∧
            ∃ y ∈ t.arb.reqs, y.id = q.id ∧ y.phase = .waiting)) ∧
        (s.pipeReq 2 p = some q → apart (c.hdr + c.len) → s.Sound c.dst (c.hdr + c.len) →
          let o := openWith k (c.nonceArgs.nonce k c.ctr) h body (s.bytes (c.src + c.hdr + c.len) k.mic)
          (∀ m, o = some m → Gives (.open_ p) s fun t => t.EndedAs q.id 0 ∧ t.bytes c.dst (c.hdr + c.len) = h ++ m) ∧
          (o = none → Gives (.open_ p) s fun t => t.EndedAs q.id Status.authFail.code ∧
            t.bytes c.dst (c.hdr + c.len) = List.replicate (c.hdr + c.len) 0 ∧
            t.fld F.CPH_COUNT_AUTH_FAIL = min 255 (s.fld F.CPH_COUNT_AUTH_FAIL + 1))) ∧
        (apart c.len → s.Sound c.dst c.len →
          (s.pipeReq 3 p = some q → Gives (.encRaw p) s fun t => t.EndedAs q.id 0 ∧
            t.bytes c.dst c.len = ((blocks16 (s.bytes c.src c.len)).map (aesEnc k.bytes)).flatten) ∧
          (s.pipeReq 4 p = some q → Gives (.decRaw p) s fun t => t.EndedAs q.id 0 ∧
            t.bytes c.dst c.len = ((blocks16 (s.bytes c.src c.len)).map (aesDec k.bytes)).flatten)) ∧
        (s.pipeReq 5 p = some q → apart 64 → s.Sound c.dst 64 →
          (unwrapKey k.bytes (s.bytes c.src c.len) = none → Gives (.cipherImport p) s fun t => t.EndedAs q.id Status.authFail.code ∧
            t.bytes c.dst 64 = List.replicate 64 0 ∧ t.fld F.CPH_STAT_UNWRAP_FAIL = 1) ∧
          (∀ i, unwrapKey k.bytes (s.bytes c.src c.len) = some i → i.kmode ≠ 3 → Gives (.cipherImport p) s fun t => t.EndedAs q.id 0 ∧
            t.bytes c.dst 64 = wrapEntry (keyWrap s.kekBytes i.plain)))))) ∧
  (∀ (n : BitVec 19) (s : State),
    (n.toNat ∉ s.ldg.settling ∨ s.holdsCtr n.toNat = false ∨ (s.ctr n.toNat).flight = true ∨ (∃ e ∈ s.ldg.ring, e.tag = .settle n.toNat) →
      exec (.counterSettle n) s = .next s) ∧
    (n.toNat ∈ s.ldg.settling → s.holdsCtr n.toNat = true → (s.ctr n.toNat).flight = false → (∀ e ∈ s.ldg.ring, e.tag ≠ .settle n.toNat) →
      Gives (.counterSettle n) s fun t => (∃ e ∈ t.ldg.ring, e.tag = .settle n.toNat ∧ e.durable = false) ∨
        (t.ldg.ring = s.ldg.ring ∧ t.fld F.LDG_COUNT0_JFULL = min 255 (s.fld F.LDG_COUNT0_JFULL + 1))))

/-- R325, R326 and R407. -/
def Obligations.AlarmsWhiteOutTheKeys : Prop :=
  let whited (t : State) : Prop := t.armed = false ∧ (∀ n, t.slotKey n = none) ∧ t.cph.cache = [] ∧ t.cph.ctrs = [] ∧
    (∀ i, i < 12 → t.reg (R.KST_DATA i) = 0) ∧ ∃ p ∈ t.fabric, p.line = 38
  let has (v n : Nat) : Prop := v.testBit n = true
  (∀ (n : Fin 7) (s : State),
    (Gives (.alarmRaised n false) s fun t => ¬ has (t.fld F.KST_ALARM_ACTIVE) n ∧ t.cph = s.cph ∧
      t.fld F.KST_ALARM_LATCHED = s.fld F.KST_ALARM_LATCHED) ∧
    (n.val < 6 → Gives (.alarmRaised n true) s fun t => has (t.fld F.KST_ALARM_ACTIVE) n) ∧
    (s.alarmEnabled n = true → Gives (.alarmRaised n true) s (fun t => has (t.fld F.KST_ALARM_LATCHED) n) ∧
      (s.armed = true → Gives (.alarmRaised n true) s whited) ∧
      (s.armed = false → Gives (.alarmRaised n true) s fun t => t.cph = s.cph)) ∧
    (s.alarmEnabled n = false → Gives (.alarmRaised n true) s fun t => t.cph = s.cph ∧ t.fld F.KST_ALARM_LATCHED = s.fld F.KST_ALARM_LATCHED)) ∧
  (∀ (l : Fin 2) (s : State),
    (Gives (.tamperCheck l true) s fun t => ¬ has (t.fld F.KST_ALARM_ACTIVE) l ∧ l.val ∉ t.pin.tamp ∧ t.cph = s.cph) ∧
    (l.val ∉ s.pin.tamp → Gives (.tamperCheck l false) s fun t => l.val ∈ t.pin.tamp ∧ t.cph = s.cph ∧ t.regs = s.regs) ∧
    (l.val ∈ s.pin.tamp → ¬ has (s.fld F.KST_ALARM_ACTIVE) l → Gives (.tamperCheck l false) s (fun t => has (t.fld F.KST_ALARM_ACTIVE) l) ∧
      (s.alarmEnabled l = true → s.armed = true → Gives (.tamperCheck l false) s whited)))

namespace Sys2Proof.Machine

/-- No MRAM group and no NAND sector holds more wrong bits than its code corrects (R329, R331). -/
def State.StoreGood (s : State) : Prop := (∀ x ∈ s.ldg.wrong, x.2 ≤ 2) ∧ ∀ k, SMap.get (fun _ => 0) s.ldg.sectors k ≤ 40

/-- A granted command q of the ledger with an OP executes normally: its code is OK (R351), the tap has room where it is audited
(R385), what the ledger stores can be read (R349), and no access to its descriptor fails. -/
structure State.LdgReady (s : State) (op : Nat) (q : SvcReq) : Prop where
  granted : s.ldgGranted op = some q
  code    : s.ldgCode q.req q.role (ldgCmd q.desc) = .ok
  tap     : op = 6 ∨ op = 7 → s.tap.length < 64
  good    : s.StoreGood
  desc    : s.Sound q.addr 64

/-- n bytes at the DST of a command can be written, and keep clear of its descriptor. -/
def State.DstFree (s : State) (q : SvcReq) (n : Nat) : Prop :=
  s.Sound (ldgCmd q.desc).dst n ∧ ((ldgCmd q.desc).dst + n ≤ q.addr ∨ q.addr + 64 ≤ (ldgCmd q.desc).dst)

/-- Command q has ended OK with data at its DST, OUTLEN and JSEQ 0; no other byte of memory, no MRAM word and no entry changed. -/
def State.DidRead (s : State) (q : SvcReq) (data : List Byte) (t : State) : Prop :=
  t.EndedAs q.id 0 ∧ t.bytes (ldgCmd q.desc).dst data.length = data ∧ t.rdLe (q.addr + 36) 4 = data.length % 2 ^ 32 ∧
  t.rdLe (q.addr + 40) 8 = 0 ∧ t.ldg.mram = s.ldg.mram ∧ t.ldg.ring = s.ldg.ring ∧ t.ldg.nand = s.ldg.nand ∧
  ∀ a, a < (ldgCmd q.desc).dst ∨ (ldgCmd q.desc).dst + data.length ≤ a → a < q.addr + 36 ∨ q.addr + 48 ≤ a → t.byte a = s.byte a

/-- Command q has written one entry that holds the LEN bytes at its SRC as the bytes of MRAM from base on, and waits for it. -/
def State.DidJournal (s : State) (q : SvcReq) (base : Nat) (t : State) : Prop :=
  ∃ e, t.ldg.ring.getLast? = some e ∧ e.tag = .req q.id ∧ e.durable = false ∧ e.jseq + 1 = t.ldg.next ∧
    t.rdLe (q.addr + 40) 8 = e.jseq % 2 ^ 64 ∧ (∃ y ∈ t.arb.reqs, y.id = q.id ∧ y.phase = .journal e.jseq) ∧
    ∀ i, i < (ldgCmd q.desc).len → ∃ w, e.items.findSome? (itemWord ((base + i) / 8 * 8)) = some w ∧
      w >>> (8 * ((base + i) % 8)) % 256 = (s.readByte ((ldgCmd q.desc).src + i)).toNat

/-- A full journal has returned command q (R334). -/
def State.JournalFull (s : State) (q : SvcReq) (t : State) : Prop :=
  t.ldg.ring = s.ldg.ring ∧ t.mem = s.mem ∧ t.fld F.LDG_COUNT0_JFULL = min 255 (s.fld F.LDG_COUNT0_JFULL + 1) ∧
  ∃ y ∈ t.arb.reqs, y.id = q.id ∧ y.phase = .waiting

/-- Command q has started the program of a logical page, of whose bytes P holds, and waits for it. -/
def State.DidProgram (s : State) (q : SvcReq) (page : Nat) (P : Nat → Byte → Prop) (t : State) : Prop :=
  t.mem = s.mem ∧ (∃ y ∈ t.arb.reqs, y.id = q.id ∧ y.phase = .journal 0) ∧
  ∃ p, t.ldg.progs = s.ldg.progs ++ [p] ∧ p.tag = .req q.id ∧ p.logical = page ∧ ∀ i, i < 4096 → P i (p.data.getD i 0)

/-- Command q stays with the ledger, which has no free page for it (R346). -/
def State.WaitsForPage (s : State) (q : SvcReq) (t : State) : Prop :=
  t.mem = s.mem ∧ t.ldg.progs = s.ldg.progs ∧ t.arb.reqs = s.arb.reqs ∧ ∃ y ∈ t.arb.reqs, y.id = q.id

end Sys2Proof.Machine

/-- Table 15-13, on the granted command q of the row's OP. -/
def Obligations.LedgerCommandsReadJournalAndProgram : Prop :=
  let rows : List (Nat × Instr) := [(1, .storeRead), (2, .storeWrite), (3, .coldRead), (4, .coldWrite), (5, .ckpt), (6, .export_),
    (7, .ledgerImport), (8, .imgBegin), (9, .imgWrite), (10, .imgRead), (11, .calAppend), (12, .calRead), (13, .audAppend),
    (14, .audRead), (15, .kwrite), (16, .kread)]
  (∀ (s : State), s.StoreGood → ∀ x ∈ rows,
    (s.ldgGranted x.1 = none → exec x.2 s = .next s) ∧
    (∀ q, s.ldgGranted x.1 = some q →
      let code := s.ldgCode q.req q.role (ldgCmd q.desc)
      let held : Prop := (x.1 = 6 ∨ x.1 = 7) ∧ 64 ≤ s.tap.length
      (held → exec x.2 s = .next (s.count F.AUD_STAT_STALLS)) ∧
      (¬ held → code ≠ .ok → Gives x.2 s fun t => t.EndedAs q.id code.code ∧ t.mem = s.mem ∧ t.ldg = s.ldg) ∧
      (x.1 ∈ [8, 9, 11, 13, 15, 16] → q.req ≠ 23 → Gives x.2 s fun t => t.mem = s.mem ∧ t.ldg = s.ldg ∧
        (t.EndedAs q.id Status.fault.code ∨ t.EndedAs q.id Status.noRight.code)))) ∧
  (∀ (s : State) (q : SvcReq),
    let c := ldgCmd q.desc
    let ready (op : Nat) : Prop := s.LdgReady op q
    let free (n : Nat) : Prop := s.DstFree q n
    let kArea := (if c.area = 0 then 0x2700000 else 0x2500000) + c.offset
    let o := 512 * (c.index % 8)
    let cold := 65536 + c.index / 8
    (ready 1 → free c.len → Gives .storeRead s (s.DidRead q (s.mbytes (storeAt + c.offset) c.len))) ∧
    (ready 3 → free 512 → Gives .coldRead s (s.DidRead q (s.pageBytes cold o 512))) ∧
    (ready 10 → free 4096 → Gives .imgRead s (s.DidRead q (s.pageBytes (16384 * c.area + c.index) 0 4096))) ∧
    (ready 12 → free (s.calBytes c.index).length → Gives .calRead s (s.DidRead q (s.calBytes c.index))) ∧
    (ready 14 → free (s.auditEntry c.index).length → Gives .audRead s (s.DidRead q (s.auditEntry c.index))) ∧
    (ready 16 → free c.len → Gives .kread s (s.DidRead q (s.kRead c.area c.offset c.len))) ∧
    (ready 2 → s.jfill + 16 ≤ ringUnits → Gives .storeWrite s (s.DidJournal q (storeAt + c.offset))) ∧
    (ready 2 → ringUnits ≤ s.jfill → Gives .storeWrite s (s.JournalFull q)) ∧
    (ready 15 → s.jfill + 16 ≤ ringUnits → Gives .kwrite s (s.DidJournal q kArea)) ∧
    (ready 15 → ringUnits ≤ s.jfill → Gives .kwrite s (s.JournalFull q)) ∧
    (ready 4 → s.allocPage ≠ none → Gives .coldWrite s (s.DidProgram q cold fun i b =>
      b = if o + 80 ≤ i ∧ i < o + 512 then s.readByte (c.src + (i - (o + 80))) else (s.latestPage cold).getD i 0)) ∧
    (ready 4 → s.allocPage = none → Gives .coldWrite s (s.WaitsForPage q)) ∧
    (ready 5 → s.allocPage ≠ none → Gives .ckpt s (s.DidProgram q cold fun i b =>
      (i < o ∨ o + 80 ≤ i → b = (s.latestPage cold).getD i 0) ∧
      (o ≤ i → i < o + 64 → b = (s.mbytes (64 * c.index) 64).getD (i - o) 0))) ∧
    (ready 5 → s.allocPage = none → Gives .ckpt s (s.WaitsForPage q)) ∧
    (ready 9 → s.allocPage ≠ none → Gives .imgWrite s (s.DidProgram q (16384 * c.area + c.index) fun i b => b = s.readByte (c.src + i))) ∧
    (ready 9 → s.allocPage = none → Gives .imgWrite s (s.WaitsForPage q)) ∧
    (ready 6 → free (128 + 512 * c.count) → Gives .export_ s fun t => t.EndedAs q.id 0 ∧
      t.rdLe (q.addr + 36) 4 = (128 + 512 * c.count) % 2 ^ 32 ∧
      t.rdLe c.dst 2 = 0x148 ∧ t.rdLe (c.dst + 4) 4 = c.count ∧ t.rdLe (c.dst + 8) 4 = c.index ∧
      t.bytes (c.dst + 64 + 512 * c.count) 32 = sha256 (t.bytes c.dst (64 + 512 * c.count)) ∧
      t.tap = s.tap ++ [⟨1, q.req, q.role, 0, 30, 6, c.index, c.count, ntSec s.now, 1⟩]) ∧
    (ready 7 → s.ldg.indexRebuild = false → s.roomFor (2 * s.handCount (s.importImage c)) = true →
      let first := cxGet (s.importImage c) 8 4
      let r := handRec (s.importImage c) 0
      (s.handCount (s.importImage c) = 0 → Gives .ledgerImport s fun t => t.EndedAs q.id 0 ∧ t.rdLe (q.addr + 36) 4 = 0 ∧
        t.ldg.mram = s.ldg.mram ∧ t.ldg.ring = s.ldg.ring) ∧
      (cxGet (s.importImage c) 4 4 = 1 → s.handVerdict first r = some true → s.sidPlace (cxSid r) first ≠ none →
        Gives .ledgerImport s fun t => t.EndedAs q.id 0 ∧ t.rdLe (q.addr + 36) 4 = 512 ∧
          t.mbytes (64 * first) 64 = cxSetStale (r.take 64) true)) ∧
    (ready 8 → Gives .imgBegin s fun t => t.EndedAs q.id 0 ∧ ∀ i, i < 16384 → t.physOf (16384 * c.area + i) = none) ∧
    (ready 11 → s.roomFor (calPages c.len) = true → Gives .calAppend s fun t => t.EndedAs q.id 0 ∧
      ∃ n p, t.rdLe (q.addr + 4) 4 = n % 2 ^ 32 ∧ t.ldg.calRecs.getLast? = some (n, p, c.len) ∧
        (∀ m, s.ldg.calRecs.getLast? = some m → n = m.1 + 1)) ∧
    (ready 13 → s.fld F.LDG_AUDNEXT_NEXT % 64 ≠ 63 ∨ s.roomFor 1 = true → Gives .audAppend s fun t => t.EndedAs q.id 0 ∧
      t.rdLe (q.addr + 4) 4 = s.fld F.LDG_AUDNEXT_NEXT ∧ t.fld F.LDG_AUDNEXT_NEXT = (s.fld F.LDG_AUDNEXT_NEXT + 1) % 2 ^ 32))

/-- What the ledger's lanes do on their own. -/
def Obligations.TheLedgerKeepsItselfInOrder : Prop :=
  let retired (t s : State) (b : Nat) : Prop := (t.nblock b).state = 2 ∧
    t.fld F.LDG_COUNT1_RETIRED = min 255 (s.fld F.LDG_COUNT1_RETIRED + 1)
  (∀ s : State, ((∀ e ∈ s.ldg.ring, e.durable = true) → exec .journalEntryDurable s = .next s) ∧
    (∀ e, s.ldg.ring.find? (fun x => !x.durable) = some e → Gives .journalEntryDurable s fun t =>
      t.ldg.ring = s.ldg.ring.map (fun x => if x.jseq = e.jseq then { x with durable := true } else x) ∧
      t.fld F.LDG_JSEQ_LO_JSEQ_LO = e.jseq % 2 ^ 32 ∧ t.fld F.LDG_JSEQ_HI_JSEQ_HI = e.jseq / 2 ^ 32 % 2 ^ 32 ∧
      (∀ id, e.tag = .req id → (∃ q ∈ s.arb.reqs, q.id = id) → t.EndedAs id 0) ∧
      (∀ n c, e.tag = .resv n c → s.holdsCtr n = true → (t.ctr n).ceil = c ∧ (t.ctr n).flight = false) ∧
      (∀ n, e.tag = .settle n → t.holdsCtr n = false ∧ n ∉ t.ldg.settling))) ∧
  (∀ s : State, ((∀ e, s.ldg.ring.head? = some e → e.durable = false) → exec .journalApply s = .next s) ∧
    (∀ e es, s.ldg.ring = e :: es → e.durable = true → Gives .journalApply s fun t => t.ldg.ring = es ∧ t.ldg.applied = e.jseq + 1 ∧
      ((∀ i ∈ e.items, i.1 % 8 = 0) → e.items.Pairwise (fun a b => a.1 + 8 * a.2.length ≤ b.1 ∨ b.1 + 8 * b.2.length ≤ a.1) →
        ∀ o, o % 8 = 0 → (∀ a, mirrorOf a ≠ some o) → t.mword o = s.mword o))) ∧
  (∀ (h : BitVec 18) (s : State), (h.toNat ∉ s.ldg.ckpts ∨ s.allocPage = none → exec (.checkpoint h) s = .next s) ∧
    (s.StoreGood → h.toNat ∈ s.ldg.ckpts → s.allocPage ≠ none → Gives (.checkpoint h) s fun t => h.toNat ∉ t.ldg.ckpts ∧
      ∃ p, t.ldg.progs = s.ldg.progs ++ [p] ∧ p.tag = .plain ∧ p.logical = 65536 + h.toNat / 8 ∧
        ∀ i, i < 64 → p.data.getD (512 * (h.toNat % 8) + i) 0 = (s.mbytes (64 * h.toNat) 64).getD i 0)) ∧
  (∀ (failed : Bool) (worst : Byte) (s : State), (s.ldg.progs = [] → exec (.nandProgramDone failed worst) s = .next s) ∧
    (∀ p ps, s.ldg.progs = p :: ps →
      let items := s.mapItem p.logical p.phys :: p.items
      (failed = false → worst.toNat ≤ 8 →
        ((s.jroom (entryUnits items)).2 = true → Gives (.nandProgramDone failed worst) s fun t => t.ldg.progs = ps ∧
          (∃ e, t.ldg.ring.getLast? = some e ∧ e.tag = p.tag ∧ e.items = items ∧ e.durable = false) ∧
          ∀ i, i < p.data.length → SMap.get nandDefault t.ldg.nand (4096 * p.phys + i) = p.data.getD i 0) ∧
        ((s.jroom (entryUnits items)).2 = false → Gives (.nandProgramDone failed worst) s fun t => t.ldg.progs = p :: ps ∧
          t.fld F.LDG_COUNT0_JFULL = min 255 (s.fld F.LDG_COUNT0_JFULL + 1))) ∧
      (failed = true ∨ 8 < worst.toNat → Gives (.nandProgramDone failed worst) s fun t => retired t s (p.phys / 64) ∧
        ∀ x ∈ t.ldg.progs, x ∈ ps ∨ (x.logical = p.logical ∧ x.data = p.data ∧ x.items = p.items ∧ x.tag = p.tag)))) ∧
  (∀ (b : BitVec 14) (failed : Bool) (s : State),
    ((s.nblock b.toNat).state ≠ 3 → exec (.nandEraseDone b failed) s = .next s) ∧
    ((s.nblock b.toNat).state = 3 → failed = true → Gives (.nandEraseDone b failed) s fun t => retired t s b.toNat) ∧
    ((s.nblock b.toNat).state = 3 → failed = false → Gives (.nandEraseDone b failed) s fun t =>
      (t.nblock b.toNat).state = 0 ∧ (t.nblock b.toNat).used = 0 ∧ (t.nblock b.toNat).reads = 0 ∧
      (t.nblock b.toNat).erases = (s.nblock b.toNat).erases + 1 ∧ ∀ a, a / 262144 = b.toNat → SMap.get nandDefault t.ldg.nand a = 0xFF)) ∧
  (∀ s : State,
    let full (b : Nat) : Prop := b < 16384 ∧ (s.nblock b).state = 1 ∧ (s.nblock b).used = 64
    let good (b : Nat) : Prop := b < 16384 ∧ (s.nblock b).state ≠ 2
    ((∀ b, ¬ full b) → exec .garbageCollect s = .next s) ∧
    (s.fld F.LDG_STAT_MOUNTED = 1 → (∀ b, (s.nblock b).erases < 2 ^ 32) → (∃ b, full b) → Gives .garbageCollect s fun t =>
      ∃ b, full b ∧ (t.nblock b).state = 3 ∧ ∀ d, full d → (s.pagesIn b).length ≤ (s.pagesIn d).length) ∧
    ((∀ b d, good b → good d → (s.nblock b).erases ≤ (s.nblock d).erases + 2000) → exec .wearLevelMove s = .next s) ∧
    (s.fld F.LDG_STAT_MOUNTED = 0 → exec .garbageCollect s = .next s ∧ exec .wearLevelMove s = .next s ∧ exec .mramScrub s = .next s) ∧
    (∀ b d, s.fld F.LDG_STAT_MOUNTED = 1 → good b → good d → (s.nblock d).erases + 2000 < (s.nblock b).erases → (∃ x, x < 16384 ∧ (s.nblock x).state = 1) →
      Gives .wearLevelMove s fun t => ∃ x, x < 16384 ∧ (s.nblock x).state = 1 ∧ (t.nblock x).state = 3 ∧
        ∀ y, y < 16384 → (s.nblock y).state = 1 → (s.nblock x).erases ≤ (s.nblock y).erases)) ∧
  (∀ (page : Word) (s : State), (98304 ≤ page.toNat ∨ s.physOf page.toNat = none ∨ s.fld F.LDG_STAT_MOUNTED = 0 → exec (.nandScrub page) s = .next s) ∧
    (∀ p, page.toNat < 98304 → s.physOf page.toNat = some p → s.fld F.LDG_STAT_MOUNTED = 1 →
      let wrong (k : Nat) : Nat := SMap.get (fun _ => 0) s.ldg.sectors (4 * p + k)
      let b := s.nblock (p / 64)
      ((∃ k, k < 4 ∧ 40 < wrong k) → Gives (.nandScrub page) s fun t => retired t s (p / 64) ∧
        t.fld F.LDG_COUNT1_NAND_UE = min 255 (s.fld F.LDG_COUNT1_NAND_UE + 1)) ∧
      ((∀ k, k < 4 → wrong k ≤ 40) → (∃ k, k < 4 ∧ 20 < wrong k) ∨ 15552000 * secU < s.clock - b.born ∨ 100000 < b.reads + 1 →
        Gives (.nandScrub page) s fun t => t.fld F.LDG_COUNT1_RELOCATED = min 255 (s.fld F.LDG_COUNT1_RELOCATED + 1)) ∧
      ((∀ k, k < 4 → wrong k ≤ 20) → s.clock - b.born ≤ 15552000 * secU → b.reads < 100000 →
        exec (.nandScrub page) s = .next (s.setNblock (p / 64) { b with reads := b.reads + 1 })))) ∧
  (∀ s : State,
    (s.clock < s.ldg.scrubAt → (∀ x ∈ s.ldg.wrong, x.2 ≤ 2) → exec .mramScrub s = .next s) ∧
    (s.fld F.LDG_STAT_MOUNTED = 1 → s.ldg.scrubAt ≤ s.clock → (∀ x ∈ s.ldg.wrong, 1 ≤ x.2 ∧ x.2 ≤ 2) → SMap.wf (fun _ => 0) s.ldg.wrong = true →
      Gives .mramScrub s fun t => t.ldg.wrong = [] ∧ t.ldg.scrubAt = s.clock + 3600 * s.scrubHours * secU ∧ t.ldg.mram = s.ldg.mram ∧
      t.fld F.LDG_COUNT0_MRAM_CE = min 255 (s.fld F.LDG_COUNT0_MRAM_CE + s.ldg.wrong.length)) ∧
    (∀ g n, s.fld F.LDG_STAT_MOUNTED = 1 → s.ldg.scrubAt ≤ s.clock → s.ldg.wrong = [(g, n)] → 2 < n → Gives .mramScrub s fun t => t.fld F.LDG_STAT_RESTORED = 1 ∧
      t.fld F.LDG_COUNT0_MRAM_UE = min 255 (s.fld F.LDG_COUNT0_MRAM_UE + 1) ∧
      (s.fld F.LDG_ERR_VALID = 0 → t.fld F.LDG_ERR_VALID = 1 ∧ t.fld F.LDG_ERR_AREA = mramArea (32 * g))) ∧
    (Gives .rebuildDone s fun t => t.ldg.indexRebuild = false ∧ t.ldg.mapRebuild = false ∧
      (s.ldg.indexRebuild = false → s.ldg.mapRebuild = false → t = s)) ∧
    (s.pwr.flushing = false → exec .holdupFlush s = .next s) ∧
    (s.pwr.flushing = true → Gives .holdupFlush s fun t => t.isOff = true ∧ t.ldg.closeCause = 0 ∧ t.pwr.flushing = false ∧
      t.pwr.booted = false))

/-- Chapter 16's changes. -/
def Obligations.PowerChangesDrainThenCompleteOrAbort : Prop :=
  let begun (t : State) (target req : Nat) : Prop := t.fld F.PWR_STAT_CHANGING = 1 ∧ t.fld F.PWR_STAT_PENDING = 0 ∧
    ∃ e, t.pwr.entry = some e ∧ e.target = target ∧ e.by_ = req
  let refused (t s : State) (e : Nat) : Prop := t.pwr.entry = s.pwr.entry ∧ t.pstate = s.pstate ∧ t.fld F.PWR_STAT_LAST_STATUS = Status.busy.code ∧
    t.fld F.PWR_REFUSE_REFUSED = min 255 (s.fld F.PWR_REFUSE_REFUSED + 1) ∧ t.fld F.PWR_REFUSE_ENTRY = e ∧ t.fld F.PWR_REFUSE_ABORT = 0 ∧
    ∃ p ∈ t.fabric, p.line = 53
  let rest (t : State) : Prop := t.pwr.entry = none ∧ t.pwr.withdrawn = [] ∧ t.fld F.PWR_STAT_CHANGING = 0
  (∀ s : State,
    (s.pwr.timed = none ∨ s.fld F.PWR_STAT_PENDING = 0 ∨ s.now < s.powerAt → exec .powerRequestDue s = .next s) ∧
    (∀ req, s.pwr.timed = some req → s.fld F.PWR_STAT_PENDING = 1 → s.powerAt ≤ s.now →
      let target := s.fld F.PWR_STAT_TARGET
      (target = s.pstate → Gives .powerRequestDue s fun t => t.pstate = s.pstate ∧ t.pwr.entry = s.pwr.entry ∧ t.pwr.timed = none ∧
        t.fld F.PWR_STAT_PENDING = 0 ∧ t.fld F.PWR_STAT_LAST_STATUS = 0) ∧
      (∀ e, target ≠ s.pstate → s.refusal target = some e → Gives .powerRequestDue s fun t => refused t s e ∧ t.pwr.timed = none) ∧
      (target ≠ s.pstate → s.refusal target = none → Gives .powerRequestDue s fun t => begun t target req ∧ t.pwr.timed = none))) ∧
  (∀ (n : Fin 6) (s : State),
    let want := if 2 < s.fld F.PWR_WAKE_WAKE_TO then 0 else s.fld F.PWR_WAKE_WAKE_TO
    (s.pstate ≠ 2 → s.pstate ≠ 3 → exec (.wakeRequest n) s = .next s) ∧
    (s.wakeEnabled n = false → exec (.wakeRequest n) s = .next s) ∧
    (s.pstate = 2 ∨ s.pstate = 3 → s.wakeEnabled n = true →
      (n.val = 3 → exec (.wakeRequest n) s = exec .detachRequest ((s.setFld F.PWR_WAKE_VALID 1).setFld F.PWR_WAKE_CAUSE 3)) ∧
      (n.val ≠ 3 → Gives (.wakeRequest n) s (fun t => t.fld F.PWR_WAKE_VALID = 1 ∧ t.fld F.PWR_WAKE_CAUSE = n) ∧
        (s.powerBusy = true → exec (.wakeRequest n) s = .next ((s.setFld F.PWR_WAKE_VALID 1).setFld F.PWR_WAKE_CAUSE n)) ∧
        (s.powerBusy = false → want ≠ s.pstate → s.refusal want = none → Gives (.wakeRequest n) s fun t => begun t want 23) ∧
        (∀ e, s.powerBusy = false → want ≠ s.pstate → s.refusal want = some e → Gives (.wakeRequest n) s fun t => refused t s e)))) ∧
  (∀ s : State,
    let alone : Prop := s.pwr.detachDue = false
    (s.pwr.entry = none → exec .powerEntryComplete s = .next s ∧ exec .powerEntryDrainTimeout s = .next s) ∧
    (∀ e, s.pwr.entry = some e →
      (s.drained e = false → exec .powerEntryComplete s = .next s) ∧
      (s.drained e = true → e.target ≤ 4 → e.rail = 0 → s.fld (F.SUP_DEV_EN 0) = 1 →
        exec .powerEntryComplete s = .next ((s.setPwr { s.pwr with entry := some { e with rail := 1 } }).setSup
          (s.sup ++ [⟨none, none, 4, 16 + e.target, s.now, false, none, false⟩]))) ∧
      (s.drained e = true → e.target ≤ 4 → e.rail = 0 → s.fld (F.SUP_DEV_EN 0) = 0 → alone → Gives .powerEntryComplete s fun t => rest t ∧
        t.pstate = s.pstate ∧ t.fld F.PWR_STAT_LAST_STATUS = Status.aborted.code ∧ t.fld F.PWR_REFUSE_ENTRY = 32) ∧
      (e.target ≠ 5 → e.rail = 1 → exec .powerEntryComplete s = .next s) ∧
      (s.drained e = true → e.target ≤ 3 → e.rail = 2 → alone → Gives .powerEntryComplete s fun t => rest t ∧ t.pstate = e.target ∧
        t.fld F.PWR_DOMAINS_ON = stateDomains e.target ∧ t.fld F.PWR_STAT_LAST_STATUS = 0 ∧ ∃ p ∈ t.fabric, p.line = 53) ∧
      (s.drained e = true → e.target ≤ 2 → e.rail = 2 → s.pwr.detachDue = true → s.pwr.flushing = false → s.kpr.snow = none →
        Gives .powerEntryComplete s fun t => rest t ∧ t.pstate = e.target ∧ t.fld F.PWR_STAT_DETACH = 1 ∧ t.pwr.detach ≠ none) ∧
      (s.drained e = true → e.target = 4 → e.rail = 2 → Gives .powerEntryComplete s fun t => t.isOff = true ∧ t.pwr.entry = none ∧
        t.fld F.PWR_DOMAINS_ON = 0 ∧ (s.coarse = false → t.kpr.timeFloor = ntSec s.now)) ∧
      (s.drained e = true → e.target = 5 → alone → e.by_ = 99 ∨ e.by_ < 32 → s.Sound 0x4000820000 0x1000 → Gives .powerEntryComplete s fun t => rest t ∧
        (∀ c, 4 ≤ c → c < 20 → t.held c = true) ∧
        ∀ c, c < 4 → s.powered 3 = true → c ∉ parks s.pstate → t.held c = false ∧ t.rdLe 0x4000820FF0 8 = 2) ∧
      (e.drain = true → s.drained e = false → e.since + msU (max 1 (s.fld F.PWR_CFG_DRAIN)) ≤ s.clock → alone →
        (e.target ≠ 5 → Gives .powerEntryDrainTimeout s fun t => rest t ∧ t.pstate = s.pstate ∧
          t.fld F.PWR_STAT_LAST_STATUS = Status.aborted.code ∧ t.fld F.PWR_REFUSE_ABORT = 1 ∧
          (t.fld F.PWR_REFUSE_ENTRY = 25 ∨ t.fld F.PWR_REFUSE_ENTRY = 34) ∧
          t.fld F.PWR_REFUSE_ABORTED = min 255 (s.fld F.PWR_REFUSE_ABORTED + 1) ∧ ∃ p ∈ t.fabric, p.line = 53) ∧
        (e.target = 5 → Gives .powerEntryDrainTimeout s fun t => rest t ∧ t.pstate = s.pstate ∧
          (e.by_ < 32 → s.Sound (slotAt e.by_) 64 → t.rdLe (slotAt e.by_ + 1) 1 = Status.aborted.code))) ∧
      (e.drain = false ∨ s.drained e = true ∨ s.clock < e.since + msU (max 1 (s.fld F.PWR_CFG_DRAIN)) → exec .powerEntryDrainTimeout s = .next s)))

/-- Chapter 16's supplies and monitors. -/
def Obligations.SuppliesPointsAndMonitorsAnswer : Prop :=
  (∀ s : State,
    let ready := s.sup.filter s.supReady
    (ready = [] → exec .supplyTransactionStart s = .next s) ∧
    (s.onBus = none → ready ≠ [] → Gives .supplyTransactionStart s fun t => ∃ q ∈ ready,
      (∃ x ∈ t.sup, x = { q with onBus := true, retry := none, since := x.since }) ∧ t.pwr.busWrites = s.supWrites q ∧
      ((∃ y ∈ ready, y.snow = true) → q.snow = true) ∧
      ((∀ y ∈ ready, y.snow = false) → (∃ y ∈ ready, y.radio.isSome = true) → q.radio.isSome = true ∧
        ∀ y ∈ ready, y.radio.isSome = true → q.since ≤ y.since)) ∧
    (∀ b, s.onBus = some b → b.snow = true ∨ (∀ y ∈ ready, y.snow = false) → exec .supplyTransactionStart s = .next s) ∧
    (∀ b, s.onBus = some b → b.snow = false → (∃ y ∈ ready, y.snow = true) → Gives .supplyTransactionStart s fun t =>
      (∃ x ∈ t.sup, x.onBus = true ∧ x.snow = true) ∧ ∀ x ∈ t.sup, x.onBus = true → x.snow = true) ∧
    (s.onBus = none → exec .supplyAck s = .next s ∧ exec .supplyNackRetry s = .next s) ∧
    (∀ q, s.onBus = some q →
      (q.radio = none → q.dev ≤ 3 → Gives .supplyAck s fun t => t.sup = s.sup.erase q ∧ t.fld (F.SUP_ACK_LEVEL q.dev) = q.level % 16) ∧
      (q.radio = none → q.dev = 4 → 16 ≤ q.level → Gives .supplyAck s fun t => t.sup = s.sup.erase q ∧
        t.pwr.entry = s.pwr.entry.map (fun e => { e with rail := 2 })) ∧
      (q.radio = none → q.dev = 4 → q.level < 16 → Gives .supplyAck s fun t => t.sup = s.sup.erase q ∧
        t.fld F.PWR_DVFS_CUR = min q.level (min (s.fld F.PWR_DVFS_OPP) (s.fld F.PWR_DVFS_CAP))) ∧
      (∀ r c, q.radio = some r → q.cmd = some c → ∃ u : State, exec .supplyAck s = .next (u.endCmd r 0 c .ok c.port) ∧ u.sup = s.sup.erase q ∧
        (q.dev ≤ 3 → u.fld (F.SUP_ACK_LEVEL q.dev) = q.level % 16)) ∧
      (Gives .supplyNackRetry s fun t => t.fld F.SUP_STAT_NACKS = min 255 (s.fld F.SUP_STAT_NACKS + 1) ∧ t.sup.length = s.sup.length ∧
        { q with onBus := false, retry := some (s.now + 20 * usU) } ∈ t.sup)) ∧
    (let late (q : SupReq) : Bool := (q.onBus || q.retry.isSome || q.radio.isSome) && decide (q.since + 500 * usU ≤ s.now)
     (s.sup.find? late = none → exec .supplyTimeout s = .next s) ∧
     (∀ q, s.sup.find? late = some q →
       (q.radio = none → q.dev ≤ 3 → Gives .supplyTimeout s fun t => t.sup = s.sup.erase q ∧ t.fld (F.SUP_ACK_LEVEL q.dev) = 0 ∧
         t.fld F.SUP_STAT_TIMEOUTS = min 255 (s.fld F.SUP_STAT_TIMEOUTS + 1) ∧ ∃ p ∈ t.fabric, p.line = 57) ∧
       (q.radio = none → q.dev = 4 → Gives .supplyTimeout s fun t => t.pwr.entry = none ∧ t.fld F.PWR_DVFS_CUR = s.fld F.PWR_DVFS_CUR) ∧
       (∀ r c, q.radio = some r → q.cmd = some c → ∃ u : State, exec .supplyTimeout s = .next (u.endCmd r 0 c .fault c.port) ∧ u.sup = s.sup.erase q)))) ∧
  (∀ s : State,
    let want := min (s.fld F.PWR_DVFS_OPP) (s.fld F.PWR_DVFS_CAP)
    let cur := s.fld F.PWR_DVFS_CUR
    let rail : SupReq := ⟨none, none, 4, want, s.now, false, none, false⟩
    let asked (t : State) : Prop := (s.fld (F.SUP_DEV_EN 0) = 1 → t.sup = s.sup ++ [rail]) ∧
      (s.fld (F.SUP_DEV_EN 0) = 0 → s.pwr.entry = none → t.sup = s.sup)
    (want < cur → Gives .dvfsChange s fun t => t.fld F.PWR_DVFS_CUR = want ∧ asked t) ∧
    (cur < want → (∀ q ∈ s.sup, q.dev ≠ 4 ∨ q.level ≠ want) → Gives .dvfsChange s fun t => t.fld F.PWR_DVFS_CUR = cur ∧ asked t) ∧
    (want = cur → exec .dvfsChange s = .next s) ∧
    (let act (i : Nat) : Prop := i < 16 ∧ s.fld (F.MON_TLIM_ACTION i) = 1
     let temp (i : Nat) : Int := sgn 16 (s.fld (F.MON_TEMP_VALUE i))
     let high (i : Nat) : Int := sgn 12 (s.fld (F.MON_TLIM_HIGH i))
     let cap := s.fld F.PWR_DVFS_CAP
     ((∃ i, act i ∧ high i < temp i) → 0 < cap → s.pwr.capAt + msU 100 ≤ s.clock → Gives .thermalCapStep s fun t =>
       t.fld F.PWR_DVFS_CAP = cap - 1 ∧ t.pwr.capAt = s.clock) ∧
     ((∀ i, act i → temp i ≤ high i - 40) → cap < 3 → s.pwr.capAt + secU ≤ s.clock → Gives .thermalCapStep s fun t =>
       t.fld F.PWR_DVFS_CAP = cap + 1 ∧ t.pwr.capAt = s.clock) ∧
     (s.clock < s.pwr.capAt + msU 100 → exec .thermalCapStep s = .next s))) ∧
  (∀ (kind : Fin 3) (i : Byte) (v : BitVec 16) (s : State),
    (s.isOff = true → exec (.monitorSample kind i v) s = .next s) ∧
    (s.isOff = false →
      (kind.val = 2 → i.toNat < 8 → (procDomains i.toNat).any s.powered = true → Gives (.monitorSample kind i v) s fun t => t.fld (F.MON_PROC_VALUE i.toNat) = v.toNat) ∧
      (kind.val = 2 → 8 ≤ i.toNat ∨ (procDomains i.toNat).any s.powered = false → exec (.monitorSample kind i v) s = .next s) ∧
      (kind.val = 0 → 16 ≤ i.toNat ∨ s.powered (monDomain false i.toNat) = false → exec (.monitorSample kind i v) s = .next s) ∧
      (kind.val = 1 → 24 ≤ i.toNat ∨ s.powered (monDomain true i.toNat) = false → exec (.monitorSample kind i v) s = .next s) ∧
      (kind.val = 0 → i.toNat < 16 → s.powered (monDomain false i.toNat) = true →
        let high : Prop := sgn 12 (s.fld (F.MON_TLIM_HIGH i.toNat)) < v.toInt
        let low : Prop := v.toInt < sgn 12 (s.fld (F.MON_TLIM_LOW i.toNat))
        Gives (.monitorSample kind i v) s fun t => t.fld (F.MON_TEMP_VALUE i.toNat) = v.toNat ∧
          (high ∨ low → (t.fld F.MON_TEVT_EVT).testBit i.toNat = true) ∧
          (high ∧ i.toNat ∉ s.pwr.crossed ∨ ¬ high ∧ low ∧ 64 + i.toNat ∉ s.pwr.crossed → ∃ p ∈ t.fabric, p.line = 56) ∧
          (¬ high → ¬ low → t.fld F.MON_TEVT_EVT = s.fld F.MON_TEVT_EVT)) ∧
      (kind.val = 1 → i.toNat < 24 → s.powered (monDomain true i.toNat) = true →
        let high : Prop := s.fld (F.MON_VLIM_HIGH i.toNat) < v.toNat
        let low : Prop := v.toNat < s.fld (F.MON_VLIM_LOW i.toNat)
        Gives (.monitorSample kind i v) s fun t => t.fld (F.MON_VOLT_VALUE i.toNat) = v.toNat ∧
          (high ∨ low → (t.fld F.MON_VEVT_EVT).testBit i.toNat = true) ∧
          (high ∧ 16 + i.toNat ∉ s.pwr.crossed ∨ ¬ high ∧ low ∧ 80 + i.toNat ∉ s.pwr.crossed → ∃ p ∈ t.fabric, p.line = 56) ∧
          (¬ high → ¬ low → t.fld F.MON_VEVT_EVT = s.fld F.MON_VEVT_EVT))))

/-- Chapter 16's input, hold-up and detach, and the start of chapter 17. -/
def Obligations.InputLossDetachAndStartRun : Prop :=
  ∀ s : State,
    (Gives .powerDieStart s fun t => t.pwr.vin = true ∧ t.regs = s.regs) ∧
    (s.pwr.vin = true → Gives .bankCharged s fun t => t.fld F.PWR_STAT_BANK_OK = 1 ∧ t.pwr = s.pwr) ∧
    (s.pwr.vin = false → exec .bankCharged s = .next s ∧ exec .inputLoss s = .next s) ∧
    (s.pwr.vin = true → s.isOff = false → Gives .inputLoss s fun t => t.pwr.vin = false ∧ t.pwr.ride = some s.clock ∧
      t.fld F.PWR_STAT_RIDING = 1 ∧ t.pwr.entry = none ∧ (∃ p ∈ t.fabric, p.line = 55) ∧
      (s.kpr.snow = none → t.fld F.LDG_AUDNEXT_NEXT = (s.fld F.LDG_AUDNEXT_NEXT + 1) % 2 ^ 32)) ∧
    (s.pwr.vin = true → s.isOff = true → Gives .inputLoss s fun t => t.pwr.vin = false ∧ t.pwr.ride = some s.clock ∧ t.regs = s.regs) ∧
    (Gives .inputReturn s fun t => t.pwr.vin = true ∧ t.pwr.ride = none ∧ (s.pwr.flushing = false → t.fld F.PWR_STAT_RIDING = 0) ∧
      (s.pwr.flushing = true → t.regs = s.regs)) ∧
    (∀ low : Bool,
      (s.pwr.ride = none ∨ s.pwr.flushing = true ∨ s.isOff = true → exec (.rideExpiry low) s = .next s) ∧
      (∀ since, s.pwr.ride = some since → s.pwr.flushing = false → s.isOff = false →
        let ended := since + 100 * s.fld F.PWR_CFG_RIDE * usU ≤ s.clock
        (low = false → ¬ ended → exec (.rideExpiry low) s = .next s) ∧
        (low = true ∨ ended → Gives (.rideExpiry low) s fun t => t.pwr.flushing = true ∧ t.fld F.LDG_STAT_FLUSHING = 1 ∧
          (∃ p ∈ t.fabric, p.line = 40) ∧ (low = true → t.fld F.PWR_STAT_BANK_OK = 0) ∧
          ∀ q ∈ s.arb.reqs, q.engine = 1 → q.phase = .waiting → q.job = .desc → t.EndedAs q.id Status.aborted.code))) ∧
    (Gives .enableLow s fun t => t.isOff = true ∧ t.fld F.PWR_STAT_ENABLE = 0 ∧ (s.isOff = true → t.pwr.cycled = true)) ∧
    (let may : Prop := s.isOff = false ∧ s.pwr.detach = none ∧ s.pwr.flushing = false ∧ s.kpr.snow = none
     let idle : Prop := may ∧ s.pwr.entry = none
     (¬ may → exec .detachRequest s = .next (s.setPwr { s.pwr with detachLow := true })) ∧
     (may → s.pwr.entry ≠ none → exec .detachRequest s = .next (s.setPwr { s.pwr with detachLow := true, detachDue := true })) ∧
     (idle → s.pstate = 3 → Gives .detachRequest s fun t => t.isOff = true ∧ t.fld F.PWR_STAT_SAFE = 1) ∧
     (idle → s.pstate ≠ 3 → Gives .detachRequest s fun t => t.fld F.PWR_STAT_DETACH = 1 ∧
       t.pwr.detach = some (if radioFns.all s.fnDown = true then 2 else 1, s.clock) ∧ (∃ p ∈ t.fabric, p.line = 54) ∧
       ∀ r, r < 4 → s.fld (F.SUP_DEV_EN (r + 1)) = 1 → ∃ x ∈ t.sup, x.dev = r ∧ x.level = 0 ∧ x.radio = none)) ∧
    (∀ d, s.pwr.detach = some d →
      (d.1 = 2 → d.2 + msU (100 * s.fld F.PWR_CFG_DETACH_WAIT) ≤ s.clock → Gives .detachWaitExpiry s fun t =>
        t.isOff = true ∧ t.fld F.PWR_STAT_SAFE = 1 ∧ t.pwr.safeLatch = true) ∧
      (d.1 ≠ 2 ∨ s.clock < d.2 + msU (100 * s.fld F.PWR_CFG_DETACH_WAIT) → exec .detachWaitExpiry s = .next s) ∧
      (Gives .detachCancel s fun t => t.pwr.detach = none ∧ t.pwr.detachLow = false ∧ t.fld F.PWR_STAT_DETACH = 0 ∧
        t.fld F.PWR_STAT_LAST_STATUS = Status.aborted.code)) ∧
    (s.pwr.detach = none → exec .detachWaitExpiry s = .next s ∧
      exec .detachCancel s = .next (s.setPwr { s.pwr with detachLow := false, detachDue := false })) ∧
    (∀ (cause : Fin 3) (long : Bool),
      let barred : Prop := s.pwr.booted = true ∨ (s.kpr.latched = true ∧ long = false) ∨
        (s.pwr.safeLatch = true ∧ ¬ (cause.val = 2 ∧ s.pwr.cycled = true ∧ s.pwr.detachLow = false))
      (barred → exec (.coldStart cause long) s = .next s) ∧
      (¬ barred → Gives (.coldStart cause long) s fun t => t.pwr.booted = true ∧ t.pwr.vin = true ∧ t.pwr.safeLatch = false ∧
        t.pstate = 0 ∧ t.fld F.PWR_DOMAINS_ON = 0x1FFFF ∧ t.fld F.PWR_STAT_SAFE = 0 ∧
        t.fld (F.NT_STAT_COARSE 0) = 1 ∧ t.fld (F.NT_STAT_COARSE 1) = 1 ∧
        (long = true → t.kpr.latched = false ∧ t.kpr.cycles = []) ∧
        (t.fld F.KPR_STAT_HOLD = 1 ∨ ((∀ c, c < 4 → t.held c = false) ∧ t.fld F.LDG_STAT_MOUNTED = 1))))

namespace Sys2Proof.Machine

/-- The Keeper looks at request slot k for an operation: the slot has a requester, is not DONE, and can be served; no access to the
words of mailbox bank 1 fails. -/
structure State.KOpen (s : State) (k : Fin 32) (op : Nat) : Prop where
  slot  : k.val < 20 ∨ k.val = 31
  calm  : s.kpr.snow = none
  on    : s.isOff = false
  hold  : s.fld F.KPR_STAT_HOLD = 0 ∨ k.val = 31 ∧ op ∈ [0x10, 0x11, 0x12, 0x30, 0x31]
  new   : s.rdLe (slotAt k + 2) 1 < 128
  sound : s.Sound 0x4000820000 0x1000

/-- Request slot k executes normally: its OP is this one, and it passes codes 1 to 3 of R379. -/
structure State.KReady (s : State) (k : Fin 32) (op : Nat) : Prop extends s.KOpen k op where
  asked   : s.kOp k = op
  fault   : s.kFault k = false
  allowed : s.kAllowed k op = true
  free    : s.kBusy = false

/-- Request slot k has completed with a status: STATUS, DONE beside its other flags, EV58 (R378). -/
def State.KDone (s : State) (k : Fin 32) (st : Nat) (t : State) : Prop :=
  t.rdLe (slotAt k + 1) 1 = st ∧ t.rdLe (slotAt k + 2) 1 = s.rdLe (slotAt k + 2) 1 + 128 ∧ ∃ p ∈ t.fabric, p.line = 58

end Sys2Proof.Machine

/-- Table 17-3 in the order of R379. -/
def Obligations.TheKeeperServesRequestSlots : Prop :=
  (∀ (k : Fin 32) (s : State),
    let rows : List (Nat × Instr) := [(0x01, .kprRestart k), (0x02, .workStart k), (0x03, .kprWarm k), (0x10, .imgPages k),
      (0x11, .imgActivate k), (0x12, .imgConfirm k), (0x20, .keyLoadw k), (0x21, .keyTransport k), (0x22, .keyClear k),
      (0x23, .keyWrap k), (0x30, .authKey k), (0x31, .revoke k), (0x40, .rearm k), (0x41, .kprAlarm k), (0x50, .calSave k)]
    ∀ x ∈ rows,
      (20 ≤ k.val ∧ k.val ≠ 31 ∨ s.kpr.snow ≠ none ∨ s.isOff = true ∨ 128 ≤ s.rdLe (slotAt k + 2) 1 ∨ (s.kOp k ∈ kOps ∧ s.kOp k ≠ x.1) ∨
          (s.fld F.KPR_STAT_HOLD = 1 ∧ ¬ (k.val = 31 ∧ x.1 ∈ [0x10, 0x11, 0x12, 0x30, 0x31])) →
        exec x.2 s = .next s) ∧
      (s.KOpen k x.1 →
        (s.kOp k ∉ kOps → Gives x.2 s (s.KDone k Status.fault.code)) ∧
        (s.kOp k = x.1 →
          (s.kFault k = true → Gives x.2 s fun t => s.KDone k Status.fault.code t ∧ t.pwr.entry = s.pwr.entry) ∧
          (s.kFault k = false → s.kAllowed k x.1 = false → Gives x.2 s fun t => s.KDone k Status.noRight.code t ∧
            t.pwr.entry = s.pwr.entry) ∧
          (s.kFault k = false → s.kAllowed k x.1 = true → s.kBusy = true → Gives x.2 s fun t => s.KDone k Status.busy.code t ∧
            t.pwr.entry = s.pwr.entry)))) ∧
  (∀ (k : Fin 32) (s : State),
    let done := s.KDone k
    let warm (t : State) : Prop := ∃ e, t.pwr.entry = some e ∧ e.target = 5 ∧ e.by_ = k ∧ e.drain = true
    let a := s.kArg k 0
    let b := s.kArg k 1
    (s.KReady k 0x01 → Gives (.kprRestart k) s fun t => done 0 t ∧ (s.held a = true → s.powered 3 = true →
      t.held a = false ∧ (t.core a).pc = BitVec.ofNat 64 (s.startAddr a) ∧ t.rdLe 0x4000820FF0 8 = 4)) ∧
    (s.KReady k 0x02 → Gives (.workStart k) s fun t => done 0 t ∧ ∀ c, 4 ≤ c → c < 20 →
      t.held c = (s.held c && !s.powered (coreDomain c))) ∧
    (s.KReady k 0x03 → s.pstate ≤ 2 → Gives (.kprWarm k) s fun t => warm t ∧ t.mem = s.mem) ∧
    (s.KReady k 0x03 → 2 < s.pstate → Gives (.kprWarm k) s (done Status.busy.code)) ∧
    (s.KReady k 0x10 → Gives (.imgPages k) s (done 0)) ∧
    (s.KReady k 0x11 → s.areaGood (1 - s.activeArea) = true → Gives (.imgActivate k) s fun t => warm t ∧ t.kpr.trialAt = some s.clock) ∧
    (s.KReady k 0x11 → s.areaGood (1 - s.activeArea) = false → Gives (.imgActivate k) s fun t => done Status.authFail.code t ∧
      t.kpr.trialAt = s.kpr.trialAt) ∧
    (s.KReady k 0x12 → Gives (.imgConfirm k) s fun t => done 0 t ∧ t.kpr.trialAt = none) ∧
    (let wrap := entryWrap (s.bytes (stagePage b) 64)
     let key := unwrapKey s.kekBytes ((padTo 48 wrap).take (if wrap.length = 48 then 48 else 32))
     (∀ x, s.KReady k 0x20 → s.fld F.KST_STAT_BUSY = 0 → s.armed = true → key = some x → Gives (.keyLoadw k) s fun t =>
       done 0 t ∧ t.slotKey a = some x) ∧
     (s.KReady k 0x20 → s.fld F.KST_STAT_BUSY = 0 → s.armed = true → key = none → Gives (.keyLoadw k) s fun t =>
       done Status.authFail.code t ∧ t.slotKey a = s.slotKey a)) ∧
    (let plain := if (keyOf (s.bytes (stagePage b) 40)).klen = 0 then keyOf (s.bytes (stagePage b) 24) else keyOf (s.bytes (stagePage b) 40)
     (s.KReady k 0x21 → s.fld F.KST_STAT_BUSY = 0 → s.armed = true → plain.valid = true → Gives (.keyTransport k) s fun t =>
       done 0 t ∧ t.slotKey a = some plain) ∧
     (s.KReady k 0x21 → s.fld F.KST_STAT_BUSY = 0 → plain.valid = false → Gives (.keyTransport k) s fun t =>
       done Status.fault.code t ∧ t.slotKey a = s.slotKey a)) ∧
    (s.KReady k 0x22 → s.fld F.KST_STAT_BUSY = 0 → Gives (.keyClear k) s fun t => done 0 t ∧ t.slotKey a = none) ∧
    (∀ x, s.KReady k 0x23 → s.fld F.KST_STAT_BUSY = 0 → s.armed = true → s.slotKey a = some x → x.plain.length ≤ 40 →
      s.Sound (stagePage b) 64 →
      Gives (.keyWrap k) s fun t => done 0 t ∧
        t.bytes (stagePage b) 64 = wrapEntry ((padTo 48 (keyWrap s.kekBytes x.plain)).take (x.plain.length + 8))) ∧
    (s.KReady k 0x20 → s.fld F.KST_STAT_BUSY = 0 → s.armed = false → Gives (.keyLoadw k) s (done Status.aborted.code)) ∧
    (s.KReady k 0x23 → s.fld F.KST_STAT_BUSY = 0 → s.armed = false → Gives (.keyWrap k) s (done Status.aborted.code)) ∧
    (s.KReady k 0x30 → Gives (.authKey k) s fun t => done 0 t ∧ t.keyFloor a b = some 0 ∧ t.authKey a b =
      some (beNat (s.bytes (stagePage (s.kArg k 2)) 32), beNat (s.bytes (stagePage (s.kArg k 2) + 32) 32))) ∧
    (s.KReady k 0x31 →
      let f := max ((s.keyFloor a b).getD 0) (s.kArg k 2)
      Gives (.revoke k) s fun t => done 0 t ∧ t.keyFloor a b = some f ∧
        ∀ n, n < 8 → (s.passHeld n).kind = a → (s.passHeld n).index = b → (s.passHeld n).id ≤ f → t.fld (F.PASS_SLOT_VALID n) = 0) ∧
    (s.KReady k 0x40 → s.fld F.KST_STAT_BUSY = 0 → s.fld F.KST_ALARM_ACTIVE = 0 → s.fld F.KST_ALARM_LATCHED = 0 →
      Gives (.rearm k) s fun t => done 0 t ∧ t.armed = true ∧ t.cph.disarmed = false) ∧
    (s.KReady k 0x40 → s.fld F.KST_STAT_BUSY = 0 → s.fld F.KST_ALARM_ACTIVE ≠ 0 ∨ s.fld F.KST_ALARM_LATCHED ≠ 0 →
      Gives (.rearm k) s fun t => done Status.busy.code t ∧ t.cph.kek = s.cph.kek) ∧
    (s.KReady k 0x41 → Gives (.kprAlarm k) s fun t => done 0 t ∧ ∀ i, i < 6 → (t.fld F.KST_ALARM_EN).testBit i =
      (((s.fld F.KST_ALARM_EN).testBit i || a.testBit i) && !b.testBit i)) ∧
    (s.KReady k 0x50 → Gives (.calSave k) s (done 0)))

/-- Chapter 17's watch. -/
def Obligations.TheKeeperWatchesPassesAndFailures : Prop :=
  let warm (t : State) : Prop := ∃ e, t.pwr.entry = some e ∧ e.target = 5 ∧ e.by_ = 99 ∧ e.drain = true
  let ploughed (t s : State) (row : Nat) : Prop := t.kpr.snow = some ⟨row, s.clock⟩ ∧ (∀ c, c < 20 → t.held c = true) ∧
    t.pwr.entry = none ∧ t.pwr.detach = none ∧
    (s.pwr.flushing = false → t.ldg.closeCause = row + 2 ∧ t.fld F.LDG_STAT_MOUNTED = 0 ∧ t.ldg.ring = []) ∧
    ∀ r, r < 4 → s.fld (F.SUP_DEV_EN (r + 1)) = 1 → ∃ x ∈ t.sup, x.dev = r ∧ x.level = 0 ∧ x.snow = true
  ∀ s : State,
    let calm : Prop := s.kpr.snow = none ∧ s.isOff = false
    (calm → Gives .lockstepMismatch s fun t => ploughed t s 1) ∧
    (¬ calm → exec .lockstepMismatch s = .next s ∧ exec .watchdogExpiry s = .next s ∧ exec .doorbellTimeout s = .next s) ∧
    (let due : Prop := s.kpr.kickAt + s.wdogPeriod * 9 / 10 ≤ s.clock
     (calm → due → Gives .watchdogExpiry s fun t => ploughed t s 2) ∧ (¬ due → exec .watchdogExpiry s = .next s)) ∧
    (∀ bell, s.kpr.bellAt = some bell →
      (calm → bell + msU 100 ≤ s.clock → Gives .doorbellTimeout s fun t => ploughed t s 3) ∧
      (s.clock < bell + msU 100 → exec .doorbellTimeout s = .next s)) ∧
    (s.kpr.bellAt = none → exec .doorbellTimeout s = .next s) ∧
    (s.kpr.snow = none → exec .snowploughWaitExpiry s = .next s) ∧
    (∀ w, s.kpr.snow = some w →
      (s.isOff = true ∨ s.clock < w.tick + 10 * secU → exec .snowploughWaitExpiry s = .next s) ∧
      (s.isOff = false → w.tick + 10 * secU ≤ s.clock → Gives .snowploughWaitExpiry s fun t => t.isOff = true ∧ t.ldg.closeCause = w.row + 2 ∧
        (s.recentCycles.length < 3 → t.kpr.cycles = s.recentCycles ++ [s.clock] ∧ t.kpr.latched = s.kpr.latched) ∧
        (3 ≤ s.recentCycles.length → t.kpr.latched = true))) ∧
    (∀ c : Fin 24,
      let down : Prop := c.val ≤ 3 ∧ (s.core c).mode = .dfault ∧ s.held c = false
      (¬ down → exec (.coreDoubleFault c) s = .next s) ∧
      (down → Gives (.coreDoubleFault c) s fun t => t.held c = true ∧ t.kpr.nextMsg = s.kpr.nextMsg + 1 ∧
        (∃ p ∈ t.fabric, p.line = 58) ∧
        (s.kpr.snow = none → t.fld F.LDG_AUDNEXT_NEXT = (s.fld F.LDG_AUDNEXT_NEXT + 1) % 2 ^ 32))) ∧
    (let due : Prop := (∀ c, c < 4 → s.held c = true) ∧ s.pwr.entry = none ∧ s.pstate ≤ 2 ∧
       ∃ at_, s.kpr.heldAt = some at_ ∧ at_ + secU ≤ s.clock
     (due → Gives .allCoresHeldExpiry s warm) ∧ (¬ due → exec .allCoresHeldExpiry s = .next s)) ∧
    (let due : Prop := s.mark 0 1 / 2 % 2 = 1 ∧ (3 ≤ s.mark 1 1 ∨ ∃ at_, s.kpr.trialAt = some at_ ∧ at_ + 600 * secU ≤ s.clock)
     (due → Gives .trialRevert s fun t => warm t ∧ t.kpr.trialAt = none) ∧ (¬ due → exec .trialRevert s = .next s)) ∧
    (s.coarse = true → exec .timeFloorWrite s = .next s) ∧
    (s.coarse = false → Gives .timeFloorWrite s fun t => t.kpr.timeFloor = ntSec s.now ∧ t.regs = s.regs) ∧
    (∀ (req : Fin 32) (v : DWord), s.judge req 0x4000820FF8 8 = .go → s.Sound 0x4000820FF8 8 →
      (∀ y ∈ s.bus.stalled, y.req ≠ req.val) →
      Gives (.doorbellWrite req v) s fun t => t.rdLe 0x4000820FF8 8 = v.toNat ∧ t.fld F.KPR_STAT_DOORBELL = 1 ∧
        (s.fld F.KPR_STAT_DOORBELL = 0 → t.kpr.bellAt = some s.clock) ∧ (s.fld F.KPR_STAT_DOORBELL = 1 → t.kpr.bellAt = s.kpr.bellAt)) ∧
    (s.kpr.check = none → exec .passVerifyDone s = .next s) ∧
    (∀ n req p, s.kpr.check = some (n, req, p) → n < 8 → Gives .passVerifyDone s fun t =>
      t.kpr.check = none ∧ t.fld F.PASS_CMD_BUSY = 0 ∧ t.fld F.PASS_CMD_STATUS = (s.passCode p).1.code ∧
      (∀ i, i < 32 → t.reg (R.PASS_DATA i) = 0) ∧
      ((s.passCode p).1 = .ok → t.fld (F.PASS_SLOT_VALID n) = 1 ∧ t.fld (F.PASS_SLOT_ROLE n) = pnum p 2 1 % 4 ∧
        t.fld (F.PASS_SLOT_CORE n) = pnum p 3 1 % 32 ∧ t.fld (F.PASS_SLOT_RIGHTS n) = pnum p 32 8 % 256 ∧ (t.passHeld n).until_ = pnum p 24 8) ∧
      ((s.passCode p).1 ≠ .ok → t.reg (R.PASS_SLOT n) = s.reg (R.PASS_SLOT n))) ∧
    (∀ n : Fin 8,
      let h := s.passHeld n
      let out : Prop := s.coarse = false ∧ s.passInTime h.from_ h.until_ = false
      let long : Prop := s.fld (F.PASS_SLOT_COARSE n) = 1 ∧ h.since + h.limit * secU ≤ s.clock
      (s.fld (F.PASS_SLOT_VALID n) = 1 → out ∨ long → Gives (.passSlotEnd n) s fun t => t.reg (R.PASS_SLOT n) = 0 ∧
        (s.kpr.snow = none → t.fld F.LDG_AUDNEXT_NEXT = (s.fld F.LDG_AUDNEXT_NEXT + 1) % 2 ^ 32)) ∧
      (s.fld (F.PASS_SLOT_VALID n) = 0 ∨ (¬ out ∧ ¬ long) → exec (.passSlotEnd n) s = .next s))

/-- R410 to R412. -/
def Obligations.PinsAndTheDebugPortAct : Prop :=
  (∀ (u : Fin 6) (data : List Byte) (failed : Bool) (moved : BitVec 16) (s : State),
    (s.serRun u = none → exec (.serialComplete u data failed moved) s = .next s) ∧
    (∀ r, s.serRun u = some r → r.wlen + r.rlen < 65536 → s.Sound r.at_ 16 → s.Sound (r.buf + r.wlen) r.rlen → r.at_ + 16 ≤ r.buf ∨ r.buf + r.wlen + r.rlen ≤ r.at_ →
      let sent := if r.op = 2 then 0 else r.wlen
      let got := if r.op = 1 then 0 else r.rlen
      let early : Prop := r.stop = true ∨ (failed = true ∧ (u.val = 2 ∨ u.val = 3))
      let ended (t : State) (n st : Nat) : Prop := t.serRun u = none ∧ t.rdLe (r.at_ + 14) 2 = n ∧ t.rdLe (r.at_ + 1) 1 = st ∧
        t.fld (F.PIN_SER_CMD_STATUS u) = st ∧ t.fld (F.PIN_SER_CMD_BUSY u) = 0 ∧
        SMap.get (fun _ => []) t.pin.sent u = s.bytes r.buf (if r.op = 2 then 0 else min r.wlen n)
      (¬ early → Gives (.serialComplete u data failed moved) s fun t => ended t (sent + got) 0 ∧
        ∀ i, i < got → t.byte (r.buf + r.wlen + i) = data.getD i 0) ∧
      (early → Gives (.serialComplete u data failed moved) s fun t => ended t (min moved.toNat (sent + got)) Status.aborted.code ∧
        ∀ i, i < got → t.byte (r.buf + r.wlen + i) = if sent + i < moved.toNat then data.getD i 0 else s.byte (r.buf + r.wlen + i)))) ∧
  (∀ (u : Fin 2) (b : Byte) (stop : Bool) (s : State),
    let on : Prop := s.fld (F.PIN_SER_CFG_EN u) = 1 ∧ s.powered 8 = true
    (¬ on → exec (.uartByteRx u b stop) s = .next s) ∧
    (on → 256 ≤ (s.uartFifo u).length → Gives (.uartByteRx u b stop) s fun t => t.fld (F.PIN_SER_RX_OVERRUN u) = 1 ∧
      t.uartFifo u = s.uartFifo u) ∧
    (on → (s.uartFifo u).length < 256 → Gives (.uartByteRx u b stop) s fun t => t.uartFifo u = s.uartFifo u ++ [b] ∧
      t.fld (F.PIN_SER_RX_FRAMING u) = if stop = true then s.fld (F.PIN_SER_RX_FRAMING u) else 1)) ∧
  (∀ (levels : Word) (s : State), (s.isOff = true → exec (.gpioSample levels) s = .next s) ∧
    (s.isOff = false → Gives (.gpioSample levels) s fun t => t.mem = s.mem ∧ ∀ i, i < 32 →
    (s.pin.ir ≠ 0 → (t.reg R.PIN_GPIO_IN).getLsbD i =
      if (s.reg R.PIN_GPIO_OE).getLsbD i then (s.reg R.PIN_GPIO_OUT).getLsbD i else levels.getLsbD i) ∧
    (s.pin.ir = 0 → (t.reg R.PIN_GPIO_IN).getLsbD i = s.pin.scanOut.getLsbD i) ∧
    (t.reg R.PIN_GPIO_EDGE).getLsbD i = ((s.reg R.PIN_GPIO_EDGE).getLsbD i ||
      ((s.reg R.PIN_GPIO_IN).getLsbD i != (t.reg R.PIN_GPIO_IN).getLsbD i)))) ∧
  (∀ s : State, s.isOff = true → exec .extest s = .next s ∧ exec .idcode s = .next s ∧ exec .testLogicReset s = .next s ∧
    (∀ cells, exec (.samplePreload cells) s = .next s) ∧ ∀ code, exec (.bypass code) s = .next s) ∧
  (∀ s : State, s.isOff = false →
    let ir (v : Byte) : State := s.setPin { s.pin with ir := v }
    (s.ready = true → exec .extest s = .next (ir 0xFF)) ∧ (s.ready = false → exec .extest s = .next (ir 0x00)) ∧
    exec .idcode s = .next (ir 0x01) ∧ exec .testLogicReset s = .next (ir 0x01) ∧
    (∀ cells : Word, exec (.samplePreload cells) s =
      .next (s.setPin { s.pin with ir := 0x02, scanIn := s.reg R.PIN_GPIO_IN, scanOut := cells })) ∧
    (∀ code : Byte,
      let other : Prop := code ∈ ([0x00, 0x01, 0x02] : List Byte) ∨ code = 0x20 ∧ s.fld F.KPR_STAT_HOLD = 1
      (¬ other → exec (.bypass code) s = .next (ir 0xFF)) ∧ (other → exec (.bypass code) s = .next s)) ∧
    (∀ (core : Fin 24) (halt : Bool),
      (s.fld F.KPR_STAT_HOLD = 0 → exec (.iblekDebug core halt) s = .next (ir 0xFF)) ∧
      (s.fld F.KPR_STAT_HOLD = 1 → Gives (.iblekDebug core halt) s fun t => t.pin.ir = 0x20 ∧ (t.core core).haltOnBreak = halt ∧
        (t.core core).pc = (s.core core).pc ∧ t.mem = s.mem)))
end

