-- ==== Sys2Proof/Laws/SMap.lean ====
section
/-!
SUPPORT. Sparse tables: a read after a write, and that every operation keeps the canonical form.
-/
namespace Sys2Proof.Machine

variable {V : Type} {d : Nat → V}

@[simp] theorem SMap.get_nil (k : Nat) : SMap.get d [] k = d k := rfl

theorem SMap.get_erase_same (m : SMap V) (k : Nat) : SMap.get d (SMap.erase m k) k = d k := by
  induction m with
  | nil => rfl
  | cons c m ih =>
    obtain ⟨j, v⟩ := c
    by_cases h : j = k <;> simp [SMap.erase, SMap.get, h, ih]

theorem SMap.get_erase_other (m : SMap V) {k j : Nat} (h : j ≠ k) : SMap.get d (SMap.erase m k) j = SMap.get d m j := by
  induction m with
  | nil => rfl
  | cons c m ih =>
    obtain ⟨i, v⟩ := c
    by_cases h1 : i = k
    · simp [SMap.erase, SMap.get, h1, ih, Ne.symm h]
    · simp [SMap.erase, SMap.get, h1, ih]

theorem SMap.get_place_same (m : SMap V) (k : Nat) (v : V) (h : ∀ w, (k, w) ∉ m) : SMap.get d (SMap.place m k v) k = v := by
  induction m with
  | nil => simp [SMap.place, SMap.get]
  | cons c m ih =>
    obtain ⟨j, w⟩ := c
    by_cases h1 : k < j
    · simp [SMap.place, SMap.get, h1]
    · have hj : j ≠ k := fun e => h w (by simp [e])
      simp [SMap.place, SMap.get, h1, hj]
      exact ih (fun w hw => h w (List.mem_cons_of_mem _ hw))

theorem SMap.get_place_other (m : SMap V) {k j : Nat} (v : V) (h : j ≠ k) : SMap.get d (SMap.place m k v) j = SMap.get d m j := by
  induction m with
  | nil => simp [SMap.place, SMap.get, Ne.symm h]
  | cons c m ih =>
    obtain ⟨i, w⟩ := c
    by_cases h1 : k < i
    · simp [SMap.place, SMap.get, h1, Ne.symm h]
    · simp [SMap.place, SMap.get, h1, ih]

theorem SMap.not_mem_erase (m : SMap V) (k : Nat) (w : V) : (k, w) ∉ SMap.erase m k := by
  induction m with
  | nil => simp [SMap.erase]
  | cons c m ih =>
    obtain ⟨j, v⟩ := c
    by_cases h : j = k
    · simpa [SMap.erase, h] using ih
    · simp [SMap.erase, h, Ne.symm h, ih]

/-- A read of the key just written gives the value written. -/
@[simp] theorem SMap.get_set_same [DecidableEq V] (m : SMap V) (k : Nat) (v : V) : SMap.get d (SMap.set d m k v) k = v := by
  unfold SMap.set
  split
  · rename_i h
    rw [SMap.get_erase_same, h]
  · exact SMap.get_place_same _ _ _ (SMap.not_mem_erase m k)

/-- A write leaves every other key alone. -/
theorem SMap.get_set_other [DecidableEq V] (m : SMap V) {k j : Nat} (v : V) (h : j ≠ k) : SMap.get d (SMap.set d m k v) j = SMap.get d m j := by
  unfold SMap.set
  split
  · exact SMap.get_erase_other m h
  · rw [SMap.get_place_other _ _ h, SMap.get_erase_other m h]

/-- A read after a write. -/
theorem SMap.get_set [DecidableEq V] (m : SMap V) (k j : Nat) (v : V) : SMap.get d (SMap.set d m k v) j = if j = k then v else SMap.get d m j := by
  split
  · rename_i h
    rw [h, SMap.get_set_same]
  · rename_i h
    exact SMap.get_set_other m v h

theorem SMap.wfFrom_mono [DecidableEq V] {m : SMap V} {a b : Nat} (h : a ≤ b) (hm : SMap.wfFrom d b m = true) : SMap.wfFrom d a m = true := by
  cases m with
  | nil => rfl
  | cons c m =>
    obtain ⟨k, v⟩ := c
    simp only [SMap.wfFrom, Bool.and_eq_true, decide_eq_true_eq] at hm ⊢
    exact ⟨⟨by omega, hm.1.2⟩, hm.2⟩

theorem SMap.wfFrom_filter [DecidableEq V] {m : SMap V} (p : Nat × V → Bool) {lo : Nat} (h : SMap.wfFrom d lo m = true) :
    SMap.wfFrom d lo (m.filter p) = true := by
  induction m generalizing lo with
  | nil => exact h
  | cons c m ih =>
    obtain ⟨j, v⟩ := c
    simp only [SMap.wfFrom, Bool.and_eq_true, decide_eq_true_eq] at h
    by_cases hp : p (j, v) = true
    · simp only [List.filter_cons, hp, if_true, SMap.wfFrom, Bool.and_eq_true, decide_eq_true_eq]
      exact ⟨h.1, ih h.2⟩
    · simp only [List.filter_cons, hp]
      exact SMap.wfFrom_mono (by omega) (ih h.2)

/-- A table keeps its form when entries are dropped. -/
theorem SMap.wf_filter [DecidableEq V] {m : SMap V} (p : Nat × V → Bool) (h : SMap.wf d m = true) : SMap.wf d (m.filter p) = true :=
  SMap.wfFrom_filter p h

theorem SMap.erase_eq_filter (m : SMap V) (k : Nat) : SMap.erase m k = m.filter (fun c => decide (c.1 ≠ k)) := by
  induction m with
  | nil => rfl
  | cons c m ih =>
    obtain ⟨j, v⟩ := c
    by_cases h : j = k <;> simp [SMap.erase, h, ih]

theorem SMap.wfFrom_place [DecidableEq V] {m : SMap V} {lo k : Nat} {v : V} (hk : lo ≤ k) (hv : v ≠ d k) (hn : ∀ w, (k, w) ∉ m)
    (h : SMap.wfFrom d lo m = true) : SMap.wfFrom d lo (SMap.place m k v) = true := by
  induction m generalizing lo with
  | nil => simp [SMap.place, SMap.wfFrom, hk, hv]
  | cons c m ih =>
    obtain ⟨j, w⟩ := c
    have hj : j ≠ k := fun e => hn w (by simp [e])
    simp only [SMap.wfFrom, Bool.and_eq_true, decide_eq_true_eq] at h
    by_cases h1 : k < j
    · simp only [SMap.place, h1, if_true, SMap.wfFrom, Bool.and_eq_true, decide_eq_true_eq]
      exact ⟨⟨hk, hv⟩, ⟨by omega, h.1.2⟩, h.2⟩
    · simp only [SMap.place, h1, if_false, SMap.wfFrom, Bool.and_eq_true, decide_eq_true_eq]
      exact ⟨h.1, ih (by omega) (fun w hw => hn w (List.mem_cons_of_mem _ hw)) h.2⟩

/-- A write keeps the canonical form. -/
theorem SMap.wf_set [DecidableEq V] {m : SMap V} (k : Nat) (v : V) (h : SMap.wf d m = true) : SMap.wf d (SMap.set d m k v) = true := by
  have he : SMap.wf d (SMap.erase m k) = true := by
    rw [SMap.erase_eq_filter]
    exact SMap.wf_filter _ h
  unfold SMap.set
  split
  · exact he
  · rename_i hv
    exact SMap.wfFrom_place (Nat.zero_le k) hv (SMap.not_mem_erase m k) he

/-- The empty table is in canonical form. -/
@[simp] theorem SMap.wf_nil [DecidableEq V] : SMap.wf d ([] : SMap V) = true := rfl

/-- A table built by writes is in canonical form. -/
theorem SMap.wf_foldl_set [DecidableEq V] {α : Type} (f : α → Nat) (g : α → V) (l : List α) {m : SMap V} (h : SMap.wf d m = true) :
    SMap.wf d (l.foldl (fun m x => SMap.set d m (f x) (g x)) m) = true := by
  induction l generalizing m with
  | nil => exact h
  | cons x l ih => exact ih (SMap.wf_set _ _ h)

end Sys2Proof.Machine
end

