-- ==== Sys2Proof/Laws/State.lean ====
section
/-!
SUPPORT. What each update of one part of the state leaves in every part: true by rfl, for simp.
-/
namespace Sys2Proof.Machine

/-! ### State.setCapture: changes bus -/

@[simp] theorem State.setCapture_pending (s : State) (req lo : Nat) (ws : List Word) : (s.setCapture req lo ws).pending = s.pending := rfl
@[simp] theorem State.setCapture_ticks (s : State) (req lo : Nat) (ws : List Word) : (s.setCapture req lo ws).ticks = s.ticks := rfl
@[simp] theorem State.setCapture_cpuHalf (s : State) (req lo : Nat) (ws : List Word) : (s.setCapture req lo ws).cpuHalf = s.cpuHalf := rfl
@[simp] theorem State.setCapture_freeCtr (s : State) (req lo : Nat) (ws : List Word) : (s.setCapture req lo ws).freeCtr = s.freeCtr := rfl
@[simp] theorem State.setCapture_regs (s : State) (req lo : Nat) (ws : List Word) : (s.setCapture req lo ws).regs = s.regs := rfl
@[simp] theorem State.setCapture_shadow (s : State) (req lo : Nat) (ws : List Word) : (s.setCapture req lo ws).shadow = s.shadow := rfl
@[simp] theorem State.setCapture_bus (s : State) (req lo : Nat) (ws : List Word) : (s.setCapture req lo ws).bus = ({ s.bus with       captures := (s.bus.captures.filter (fun c => !(c.1 == req && c.2.1 == lo))) ++ [(req, lo, ws)] }) := rfl
@[simp] theorem State.setCapture_mem (s : State) (req lo : Nat) (ws : List Word) : (s.setCapture req lo ws).mem = s.mem := rfl
@[simp] theorem State.setCapture_time (s : State) (req lo : Nat) (ws : List Word) : (s.setCapture req lo ws).time = s.time := rfl
@[simp] theorem State.setCapture_fabric (s : State) (req lo : Nat) (ws : List Word) : (s.setCapture req lo ws).fabric = s.fabric := rfl
@[simp] theorem State.setCapture_cores (s : State) (req lo : Nat) (ws : List Word) : (s.setCapture req lo ws).cores = s.cores := rfl
@[simp] theorem State.setCapture_eng (s : State) (req lo : Nat) (ws : List Word) : (s.setCapture req lo ws).eng = s.eng := rfl
@[simp] theorem State.setCapture_kprMem (s : State) (req lo : Nat) (ws : List Word) : (s.setCapture req lo ws).kprMem = s.kprMem := rfl
@[simp] theorem State.setCapture_tap (s : State) (req lo : Nat) (ws : List Word) : (s.setCapture req lo ws).tap = s.tap := rfl
@[simp] theorem State.setCapture_pwr (s : State) (req lo : Nat) (ws : List Word) : (s.setCapture req lo ws).pwr = s.pwr := rfl
@[simp] theorem State.setCapture_chains (s : State) (req lo : Nat) (ws : List Word) : (s.setCapture req lo ws).chains = s.chains := rfl
@[simp] theorem State.setCapture_fem (s : State) (req lo : Nat) (ws : List Word) : (s.setCapture req lo ws).fem = s.fem := rfl
@[simp] theorem State.setCapture_duty (s : State) (req lo : Nat) (ws : List Word) : (s.setCapture req lo ws).duty = s.duty := rfl
@[simp] theorem State.setCapture_sup (s : State) (req lo : Nat) (ws : List Word) : (s.setCapture req lo ws).sup = s.sup := rfl
@[simp] theorem State.setCapture_lanes (s : State) (req lo : Nat) (ws : List Word) : (s.setCapture req lo ws).lanes = s.lanes := rfl
@[simp] theorem State.setCapture_cap (s : State) (req lo : Nat) (ws : List Word) : (s.setCapture req lo ws).cap = s.cap := rfl
@[simp] theorem State.setCapture_arrays (s : State) (req lo : Nat) (ws : List Word) : (s.setCapture req lo ws).arrays = s.arrays := rfl
@[simp] theorem State.setCapture_rq (s : State) (req lo : Nat) (ws : List Word) : (s.setCapture req lo ws).rq = s.rq := rfl
@[simp] theorem State.setCapture_wd (s : State) (req lo : Nat) (ws : List Word) : (s.setCapture req lo ws).wd = s.wd := rfl
@[simp] theorem State.setCapture_arb (s : State) (req lo : Nat) (ws : List Word) : (s.setCapture req lo ws).arb = s.arb := rfl
@[simp] theorem State.setCapture_ldg (s : State) (req lo : Nat) (ws : List Word) : (s.setCapture req lo ws).ldg = s.ldg := rfl
@[simp] theorem State.setCapture_cph (s : State) (req lo : Nat) (ws : List Word) : (s.setCapture req lo ws).cph = s.cph := rfl
@[simp] theorem State.setCapture_kpr (s : State) (req lo : Nat) (ws : List Word) : (s.setCapture req lo ws).kpr = s.kpr := rfl
@[simp] theorem State.setCapture_lnk (s : State) (req lo : Nat) (ws : List Word) : (s.setCapture req lo ws).lnk = s.lnk := rfl
@[simp] theorem State.setCapture_acc (s : State) (req lo : Nat) (ws : List Word) : (s.setCapture req lo ws).acc = s.acc := rfl
@[simp] theorem State.setCapture_rtr (s : State) (req lo : Nat) (ws : List Word) : (s.setCapture req lo ws).rtr = s.rtr := rfl
@[simp] theorem State.setCapture_tm (s : State) (req lo : Nat) (ws : List Word) : (s.setCapture req lo ws).tm = s.tm := rfl
@[simp] theorem State.setCapture_pin (s : State) (req lo : Nat) (ws : List Word) : (s.setCapture req lo ws).pin = s.pin := rfl

/-! ### State.setLatch: changes bus -/

@[simp] theorem State.setLatch_pending (s : State) (req a : Nat) (w : Word) : (s.setLatch req a w).pending = s.pending := rfl
@[simp] theorem State.setLatch_ticks (s : State) (req a : Nat) (w : Word) : (s.setLatch req a w).ticks = s.ticks := rfl
@[simp] theorem State.setLatch_cpuHalf (s : State) (req a : Nat) (w : Word) : (s.setLatch req a w).cpuHalf = s.cpuHalf := rfl
@[simp] theorem State.setLatch_freeCtr (s : State) (req a : Nat) (w : Word) : (s.setLatch req a w).freeCtr = s.freeCtr := rfl
@[simp] theorem State.setLatch_regs (s : State) (req a : Nat) (w : Word) : (s.setLatch req a w).regs = s.regs := rfl
@[simp] theorem State.setLatch_shadow (s : State) (req a : Nat) (w : Word) : (s.setLatch req a w).shadow = s.shadow := rfl
@[simp] theorem State.setLatch_bus (s : State) (req a : Nat) (w : Word) : (s.setLatch req a w).bus = ({ s.bus with       latches := (s.bus.latches.filter (fun c => !(c.1 == req && c.2.1 == a))) ++ [(req, a, w)] }) := rfl
@[simp] theorem State.setLatch_mem (s : State) (req a : Nat) (w : Word) : (s.setLatch req a w).mem = s.mem := rfl
@[simp] theorem State.setLatch_time (s : State) (req a : Nat) (w : Word) : (s.setLatch req a w).time = s.time := rfl
@[simp] theorem State.setLatch_fabric (s : State) (req a : Nat) (w : Word) : (s.setLatch req a w).fabric = s.fabric := rfl
@[simp] theorem State.setLatch_cores (s : State) (req a : Nat) (w : Word) : (s.setLatch req a w).cores = s.cores := rfl
@[simp] theorem State.setLatch_eng (s : State) (req a : Nat) (w : Word) : (s.setLatch req a w).eng = s.eng := rfl
@[simp] theorem State.setLatch_kprMem (s : State) (req a : Nat) (w : Word) : (s.setLatch req a w).kprMem = s.kprMem := rfl
@[simp] theorem State.setLatch_tap (s : State) (req a : Nat) (w : Word) : (s.setLatch req a w).tap = s.tap := rfl
@[simp] theorem State.setLatch_pwr (s : State) (req a : Nat) (w : Word) : (s.setLatch req a w).pwr = s.pwr := rfl
@[simp] theorem State.setLatch_chains (s : State) (req a : Nat) (w : Word) : (s.setLatch req a w).chains = s.chains := rfl
@[simp] theorem State.setLatch_fem (s : State) (req a : Nat) (w : Word) : (s.setLatch req a w).fem = s.fem := rfl
@[simp] theorem State.setLatch_duty (s : State) (req a : Nat) (w : Word) : (s.setLatch req a w).duty = s.duty := rfl
@[simp] theorem State.setLatch_sup (s : State) (req a : Nat) (w : Word) : (s.setLatch req a w).sup = s.sup := rfl
@[simp] theorem State.setLatch_lanes (s : State) (req a : Nat) (w : Word) : (s.setLatch req a w).lanes = s.lanes := rfl
@[simp] theorem State.setLatch_cap (s : State) (req a : Nat) (w : Word) : (s.setLatch req a w).cap = s.cap := rfl
@[simp] theorem State.setLatch_arrays (s : State) (req a : Nat) (w : Word) : (s.setLatch req a w).arrays = s.arrays := rfl
@[simp] theorem State.setLatch_rq (s : State) (req a : Nat) (w : Word) : (s.setLatch req a w).rq = s.rq := rfl
@[simp] theorem State.setLatch_wd (s : State) (req a : Nat) (w : Word) : (s.setLatch req a w).wd = s.wd := rfl
@[simp] theorem State.setLatch_arb (s : State) (req a : Nat) (w : Word) : (s.setLatch req a w).arb = s.arb := rfl
@[simp] theorem State.setLatch_ldg (s : State) (req a : Nat) (w : Word) : (s.setLatch req a w).ldg = s.ldg := rfl
@[simp] theorem State.setLatch_cph (s : State) (req a : Nat) (w : Word) : (s.setLatch req a w).cph = s.cph := rfl
@[simp] theorem State.setLatch_kpr (s : State) (req a : Nat) (w : Word) : (s.setLatch req a w).kpr = s.kpr := rfl
@[simp] theorem State.setLatch_lnk (s : State) (req a : Nat) (w : Word) : (s.setLatch req a w).lnk = s.lnk := rfl
@[simp] theorem State.setLatch_acc (s : State) (req a : Nat) (w : Word) : (s.setLatch req a w).acc = s.acc := rfl
@[simp] theorem State.setLatch_rtr (s : State) (req a : Nat) (w : Word) : (s.setLatch req a w).rtr = s.rtr := rfl
@[simp] theorem State.setLatch_tm (s : State) (req a : Nat) (w : Word) : (s.setLatch req a w).tm = s.tm := rfl
@[simp] theorem State.setLatch_pin (s : State) (req a : Nat) (w : Word) : (s.setLatch req a w).pin = s.pin := rfl

/-! ### State.setArb: changes arb -/

@[simp] theorem State.setArb_pending (s : State) (a : ArbState) : (s.setArb a).pending = s.pending := rfl
@[simp] theorem State.setArb_ticks (s : State) (a : ArbState) : (s.setArb a).ticks = s.ticks := rfl
@[simp] theorem State.setArb_cpuHalf (s : State) (a : ArbState) : (s.setArb a).cpuHalf = s.cpuHalf := rfl
@[simp] theorem State.setArb_freeCtr (s : State) (a : ArbState) : (s.setArb a).freeCtr = s.freeCtr := rfl
@[simp] theorem State.setArb_regs (s : State) (a : ArbState) : (s.setArb a).regs = s.regs := rfl
@[simp] theorem State.setArb_shadow (s : State) (a : ArbState) : (s.setArb a).shadow = s.shadow := rfl
@[simp] theorem State.setArb_bus (s : State) (a : ArbState) : (s.setArb a).bus = s.bus := rfl
@[simp] theorem State.setArb_mem (s : State) (a : ArbState) : (s.setArb a).mem = s.mem := rfl
@[simp] theorem State.setArb_time (s : State) (a : ArbState) : (s.setArb a).time = s.time := rfl
@[simp] theorem State.setArb_fabric (s : State) (a : ArbState) : (s.setArb a).fabric = s.fabric := rfl
@[simp] theorem State.setArb_cores (s : State) (a : ArbState) : (s.setArb a).cores = s.cores := rfl
@[simp] theorem State.setArb_eng (s : State) (a : ArbState) : (s.setArb a).eng = s.eng := rfl
@[simp] theorem State.setArb_kprMem (s : State) (a : ArbState) : (s.setArb a).kprMem = s.kprMem := rfl
@[simp] theorem State.setArb_tap (s : State) (a : ArbState) : (s.setArb a).tap = s.tap := rfl
@[simp] theorem State.setArb_pwr (s : State) (a : ArbState) : (s.setArb a).pwr = s.pwr := rfl
@[simp] theorem State.setArb_chains (s : State) (a : ArbState) : (s.setArb a).chains = s.chains := rfl
@[simp] theorem State.setArb_fem (s : State) (a : ArbState) : (s.setArb a).fem = s.fem := rfl
@[simp] theorem State.setArb_duty (s : State) (a : ArbState) : (s.setArb a).duty = s.duty := rfl
@[simp] theorem State.setArb_sup (s : State) (a : ArbState) : (s.setArb a).sup = s.sup := rfl
@[simp] theorem State.setArb_lanes (s : State) (a : ArbState) : (s.setArb a).lanes = s.lanes := rfl
@[simp] theorem State.setArb_cap (s : State) (a : ArbState) : (s.setArb a).cap = s.cap := rfl
@[simp] theorem State.setArb_arrays (s : State) (a : ArbState) : (s.setArb a).arrays = s.arrays := rfl
@[simp] theorem State.setArb_rq (s : State) (a : ArbState) : (s.setArb a).rq = s.rq := rfl
@[simp] theorem State.setArb_wd (s : State) (a : ArbState) : (s.setArb a).wd = s.wd := rfl
@[simp] theorem State.setArb_arb (s : State) (a : ArbState) : (s.setArb a).arb = (a) := rfl
@[simp] theorem State.setArb_ldg (s : State) (a : ArbState) : (s.setArb a).ldg = s.ldg := rfl
@[simp] theorem State.setArb_cph (s : State) (a : ArbState) : (s.setArb a).cph = s.cph := rfl
@[simp] theorem State.setArb_kpr (s : State) (a : ArbState) : (s.setArb a).kpr = s.kpr := rfl
@[simp] theorem State.setArb_lnk (s : State) (a : ArbState) : (s.setArb a).lnk = s.lnk := rfl
@[simp] theorem State.setArb_acc (s : State) (a : ArbState) : (s.setArb a).acc = s.acc := rfl
@[simp] theorem State.setArb_rtr (s : State) (a : ArbState) : (s.setArb a).rtr = s.rtr := rfl
@[simp] theorem State.setArb_tm (s : State) (a : ArbState) : (s.setArb a).tm = s.tm := rfl
@[simp] theorem State.setArb_pin (s : State) (a : ArbState) : (s.setArb a).pin = s.pin := rfl

/-! ### State.setKpr: changes kpr -/

@[simp] theorem State.setKpr_pending (s : State) (k : KprState) : (s.setKpr k).pending = s.pending := rfl
@[simp] theorem State.setKpr_ticks (s : State) (k : KprState) : (s.setKpr k).ticks = s.ticks := rfl
@[simp] theorem State.setKpr_cpuHalf (s : State) (k : KprState) : (s.setKpr k).cpuHalf = s.cpuHalf := rfl
@[simp] theorem State.setKpr_freeCtr (s : State) (k : KprState) : (s.setKpr k).freeCtr = s.freeCtr := rfl
@[simp] theorem State.setKpr_regs (s : State) (k : KprState) : (s.setKpr k).regs = s.regs := rfl
@[simp] theorem State.setKpr_shadow (s : State) (k : KprState) : (s.setKpr k).shadow = s.shadow := rfl
@[simp] theorem State.setKpr_bus (s : State) (k : KprState) : (s.setKpr k).bus = s.bus := rfl
@[simp] theorem State.setKpr_mem (s : State) (k : KprState) : (s.setKpr k).mem = s.mem := rfl
@[simp] theorem State.setKpr_time (s : State) (k : KprState) : (s.setKpr k).time = s.time := rfl
@[simp] theorem State.setKpr_fabric (s : State) (k : KprState) : (s.setKpr k).fabric = s.fabric := rfl
@[simp] theorem State.setKpr_cores (s : State) (k : KprState) : (s.setKpr k).cores = s.cores := rfl
@[simp] theorem State.setKpr_eng (s : State) (k : KprState) : (s.setKpr k).eng = s.eng := rfl
@[simp] theorem State.setKpr_kprMem (s : State) (k : KprState) : (s.setKpr k).kprMem = s.kprMem := rfl
@[simp] theorem State.setKpr_tap (s : State) (k : KprState) : (s.setKpr k).tap = s.tap := rfl
@[simp] theorem State.setKpr_pwr (s : State) (k : KprState) : (s.setKpr k).pwr = s.pwr := rfl
@[simp] theorem State.setKpr_chains (s : State) (k : KprState) : (s.setKpr k).chains = s.chains := rfl
@[simp] theorem State.setKpr_fem (s : State) (k : KprState) : (s.setKpr k).fem = s.fem := rfl
@[simp] theorem State.setKpr_duty (s : State) (k : KprState) : (s.setKpr k).duty = s.duty := rfl
@[simp] theorem State.setKpr_sup (s : State) (k : KprState) : (s.setKpr k).sup = s.sup := rfl
@[simp] theorem State.setKpr_lanes (s : State) (k : KprState) : (s.setKpr k).lanes = s.lanes := rfl
@[simp] theorem State.setKpr_cap (s : State) (k : KprState) : (s.setKpr k).cap = s.cap := rfl
@[simp] theorem State.setKpr_arrays (s : State) (k : KprState) : (s.setKpr k).arrays = s.arrays := rfl
@[simp] theorem State.setKpr_rq (s : State) (k : KprState) : (s.setKpr k).rq = s.rq := rfl
@[simp] theorem State.setKpr_wd (s : State) (k : KprState) : (s.setKpr k).wd = s.wd := rfl
@[simp] theorem State.setKpr_arb (s : State) (k : KprState) : (s.setKpr k).arb = s.arb := rfl
@[simp] theorem State.setKpr_ldg (s : State) (k : KprState) : (s.setKpr k).ldg = s.ldg := rfl
@[simp] theorem State.setKpr_cph (s : State) (k : KprState) : (s.setKpr k).cph = s.cph := rfl
@[simp] theorem State.setKpr_kpr (s : State) (k : KprState) : (s.setKpr k).kpr = (k) := rfl
@[simp] theorem State.setKpr_lnk (s : State) (k : KprState) : (s.setKpr k).lnk = s.lnk := rfl
@[simp] theorem State.setKpr_acc (s : State) (k : KprState) : (s.setKpr k).acc = s.acc := rfl
@[simp] theorem State.setKpr_rtr (s : State) (k : KprState) : (s.setKpr k).rtr = s.rtr := rfl
@[simp] theorem State.setKpr_tm (s : State) (k : KprState) : (s.setKpr k).tm = s.tm := rfl
@[simp] theorem State.setKpr_pin (s : State) (k : KprState) : (s.setKpr k).pin = s.pin := rfl

/-! ### State.setCph: changes cph -/

@[simp] theorem State.setCph_pending (s : State) (c : CphState) : (s.setCph c).pending = s.pending := rfl
@[simp] theorem State.setCph_ticks (s : State) (c : CphState) : (s.setCph c).ticks = s.ticks := rfl
@[simp] theorem State.setCph_cpuHalf (s : State) (c : CphState) : (s.setCph c).cpuHalf = s.cpuHalf := rfl
@[simp] theorem State.setCph_freeCtr (s : State) (c : CphState) : (s.setCph c).freeCtr = s.freeCtr := rfl
@[simp] theorem State.setCph_regs (s : State) (c : CphState) : (s.setCph c).regs = s.regs := rfl
@[simp] theorem State.setCph_shadow (s : State) (c : CphState) : (s.setCph c).shadow = s.shadow := rfl
@[simp] theorem State.setCph_bus (s : State) (c : CphState) : (s.setCph c).bus = s.bus := rfl
@[simp] theorem State.setCph_mem (s : State) (c : CphState) : (s.setCph c).mem = s.mem := rfl
@[simp] theorem State.setCph_time (s : State) (c : CphState) : (s.setCph c).time = s.time := rfl
@[simp] theorem State.setCph_fabric (s : State) (c : CphState) : (s.setCph c).fabric = s.fabric := rfl
@[simp] theorem State.setCph_cores (s : State) (c : CphState) : (s.setCph c).cores = s.cores := rfl
@[simp] theorem State.setCph_eng (s : State) (c : CphState) : (s.setCph c).eng = s.eng := rfl
@[simp] theorem State.setCph_kprMem (s : State) (c : CphState) : (s.setCph c).kprMem = s.kprMem := rfl
@[simp] theorem State.setCph_tap (s : State) (c : CphState) : (s.setCph c).tap = s.tap := rfl
@[simp] theorem State.setCph_pwr (s : State) (c : CphState) : (s.setCph c).pwr = s.pwr := rfl
@[simp] theorem State.setCph_chains (s : State) (c : CphState) : (s.setCph c).chains = s.chains := rfl
@[simp] theorem State.setCph_fem (s : State) (c : CphState) : (s.setCph c).fem = s.fem := rfl
@[simp] theorem State.setCph_duty (s : State) (c : CphState) : (s.setCph c).duty = s.duty := rfl
@[simp] theorem State.setCph_sup (s : State) (c : CphState) : (s.setCph c).sup = s.sup := rfl
@[simp] theorem State.setCph_lanes (s : State) (c : CphState) : (s.setCph c).lanes = s.lanes := rfl
@[simp] theorem State.setCph_cap (s : State) (c : CphState) : (s.setCph c).cap = s.cap := rfl
@[simp] theorem State.setCph_arrays (s : State) (c : CphState) : (s.setCph c).arrays = s.arrays := rfl
@[simp] theorem State.setCph_rq (s : State) (c : CphState) : (s.setCph c).rq = s.rq := rfl
@[simp] theorem State.setCph_wd (s : State) (c : CphState) : (s.setCph c).wd = s.wd := rfl
@[simp] theorem State.setCph_arb (s : State) (c : CphState) : (s.setCph c).arb = s.arb := rfl
@[simp] theorem State.setCph_ldg (s : State) (c : CphState) : (s.setCph c).ldg = s.ldg := rfl
@[simp] theorem State.setCph_cph (s : State) (c : CphState) : (s.setCph c).cph = (c) := rfl
@[simp] theorem State.setCph_kpr (s : State) (c : CphState) : (s.setCph c).kpr = s.kpr := rfl
@[simp] theorem State.setCph_lnk (s : State) (c : CphState) : (s.setCph c).lnk = s.lnk := rfl
@[simp] theorem State.setCph_acc (s : State) (c : CphState) : (s.setCph c).acc = s.acc := rfl
@[simp] theorem State.setCph_rtr (s : State) (c : CphState) : (s.setCph c).rtr = s.rtr := rfl
@[simp] theorem State.setCph_tm (s : State) (c : CphState) : (s.setCph c).tm = s.tm := rfl
@[simp] theorem State.setCph_pin (s : State) (c : CphState) : (s.setCph c).pin = s.pin := rfl

/-! ### State.setLnk: changes lnk -/

@[simp] theorem State.setLnk_pending (s : State) (l : LinkState) : (s.setLnk l).pending = s.pending := rfl
@[simp] theorem State.setLnk_ticks (s : State) (l : LinkState) : (s.setLnk l).ticks = s.ticks := rfl
@[simp] theorem State.setLnk_cpuHalf (s : State) (l : LinkState) : (s.setLnk l).cpuHalf = s.cpuHalf := rfl
@[simp] theorem State.setLnk_freeCtr (s : State) (l : LinkState) : (s.setLnk l).freeCtr = s.freeCtr := rfl
@[simp] theorem State.setLnk_regs (s : State) (l : LinkState) : (s.setLnk l).regs = s.regs := rfl
@[simp] theorem State.setLnk_shadow (s : State) (l : LinkState) : (s.setLnk l).shadow = s.shadow := rfl
@[simp] theorem State.setLnk_bus (s : State) (l : LinkState) : (s.setLnk l).bus = s.bus := rfl
@[simp] theorem State.setLnk_mem (s : State) (l : LinkState) : (s.setLnk l).mem = s.mem := rfl
@[simp] theorem State.setLnk_time (s : State) (l : LinkState) : (s.setLnk l).time = s.time := rfl
@[simp] theorem State.setLnk_fabric (s : State) (l : LinkState) : (s.setLnk l).fabric = s.fabric := rfl
@[simp] theorem State.setLnk_cores (s : State) (l : LinkState) : (s.setLnk l).cores = s.cores := rfl
@[simp] theorem State.setLnk_eng (s : State) (l : LinkState) : (s.setLnk l).eng = s.eng := rfl
@[simp] theorem State.setLnk_kprMem (s : State) (l : LinkState) : (s.setLnk l).kprMem = s.kprMem := rfl
@[simp] theorem State.setLnk_tap (s : State) (l : LinkState) : (s.setLnk l).tap = s.tap := rfl
@[simp] theorem State.setLnk_pwr (s : State) (l : LinkState) : (s.setLnk l).pwr = s.pwr := rfl
@[simp] theorem State.setLnk_chains (s : State) (l : LinkState) : (s.setLnk l).chains = s.chains := rfl
@[simp] theorem State.setLnk_fem (s : State) (l : LinkState) : (s.setLnk l).fem = s.fem := rfl
@[simp] theorem State.setLnk_duty (s : State) (l : LinkState) : (s.setLnk l).duty = s.duty := rfl
@[simp] theorem State.setLnk_sup (s : State) (l : LinkState) : (s.setLnk l).sup = s.sup := rfl
@[simp] theorem State.setLnk_lanes (s : State) (l : LinkState) : (s.setLnk l).lanes = s.lanes := rfl
@[simp] theorem State.setLnk_cap (s : State) (l : LinkState) : (s.setLnk l).cap = s.cap := rfl
@[simp] theorem State.setLnk_arrays (s : State) (l : LinkState) : (s.setLnk l).arrays = s.arrays := rfl
@[simp] theorem State.setLnk_rq (s : State) (l : LinkState) : (s.setLnk l).rq = s.rq := rfl
@[simp] theorem State.setLnk_wd (s : State) (l : LinkState) : (s.setLnk l).wd = s.wd := rfl
@[simp] theorem State.setLnk_arb (s : State) (l : LinkState) : (s.setLnk l).arb = s.arb := rfl
@[simp] theorem State.setLnk_ldg (s : State) (l : LinkState) : (s.setLnk l).ldg = s.ldg := rfl
@[simp] theorem State.setLnk_cph (s : State) (l : LinkState) : (s.setLnk l).cph = s.cph := rfl
@[simp] theorem State.setLnk_kpr (s : State) (l : LinkState) : (s.setLnk l).kpr = s.kpr := rfl
@[simp] theorem State.setLnk_lnk (s : State) (l : LinkState) : (s.setLnk l).lnk = (l) := rfl
@[simp] theorem State.setLnk_acc (s : State) (l : LinkState) : (s.setLnk l).acc = s.acc := rfl
@[simp] theorem State.setLnk_rtr (s : State) (l : LinkState) : (s.setLnk l).rtr = s.rtr := rfl
@[simp] theorem State.setLnk_tm (s : State) (l : LinkState) : (s.setLnk l).tm = s.tm := rfl
@[simp] theorem State.setLnk_pin (s : State) (l : LinkState) : (s.setLnk l).pin = s.pin := rfl

/-! ### State.setPwr: changes pwr -/

@[simp] theorem State.setPwr_pending (s : State) (p : PwrState) : (s.setPwr p).pending = s.pending := rfl
@[simp] theorem State.setPwr_ticks (s : State) (p : PwrState) : (s.setPwr p).ticks = s.ticks := rfl
@[simp] theorem State.setPwr_cpuHalf (s : State) (p : PwrState) : (s.setPwr p).cpuHalf = s.cpuHalf := rfl
@[simp] theorem State.setPwr_freeCtr (s : State) (p : PwrState) : (s.setPwr p).freeCtr = s.freeCtr := rfl
@[simp] theorem State.setPwr_regs (s : State) (p : PwrState) : (s.setPwr p).regs = s.regs := rfl
@[simp] theorem State.setPwr_shadow (s : State) (p : PwrState) : (s.setPwr p).shadow = s.shadow := rfl
@[simp] theorem State.setPwr_bus (s : State) (p : PwrState) : (s.setPwr p).bus = s.bus := rfl
@[simp] theorem State.setPwr_mem (s : State) (p : PwrState) : (s.setPwr p).mem = s.mem := rfl
@[simp] theorem State.setPwr_time (s : State) (p : PwrState) : (s.setPwr p).time = s.time := rfl
@[simp] theorem State.setPwr_fabric (s : State) (p : PwrState) : (s.setPwr p).fabric = s.fabric := rfl
@[simp] theorem State.setPwr_cores (s : State) (p : PwrState) : (s.setPwr p).cores = s.cores := rfl
@[simp] theorem State.setPwr_eng (s : State) (p : PwrState) : (s.setPwr p).eng = s.eng := rfl
@[simp] theorem State.setPwr_kprMem (s : State) (p : PwrState) : (s.setPwr p).kprMem = s.kprMem := rfl
@[simp] theorem State.setPwr_tap (s : State) (p : PwrState) : (s.setPwr p).tap = s.tap := rfl
@[simp] theorem State.setPwr_pwr (s : State) (p : PwrState) : (s.setPwr p).pwr = (p) := rfl
@[simp] theorem State.setPwr_chains (s : State) (p : PwrState) : (s.setPwr p).chains = s.chains := rfl
@[simp] theorem State.setPwr_fem (s : State) (p : PwrState) : (s.setPwr p).fem = s.fem := rfl
@[simp] theorem State.setPwr_duty (s : State) (p : PwrState) : (s.setPwr p).duty = s.duty := rfl
@[simp] theorem State.setPwr_sup (s : State) (p : PwrState) : (s.setPwr p).sup = s.sup := rfl
@[simp] theorem State.setPwr_lanes (s : State) (p : PwrState) : (s.setPwr p).lanes = s.lanes := rfl
@[simp] theorem State.setPwr_cap (s : State) (p : PwrState) : (s.setPwr p).cap = s.cap := rfl
@[simp] theorem State.setPwr_arrays (s : State) (p : PwrState) : (s.setPwr p).arrays = s.arrays := rfl
@[simp] theorem State.setPwr_rq (s : State) (p : PwrState) : (s.setPwr p).rq = s.rq := rfl
@[simp] theorem State.setPwr_wd (s : State) (p : PwrState) : (s.setPwr p).wd = s.wd := rfl
@[simp] theorem State.setPwr_arb (s : State) (p : PwrState) : (s.setPwr p).arb = s.arb := rfl
@[simp] theorem State.setPwr_ldg (s : State) (p : PwrState) : (s.setPwr p).ldg = s.ldg := rfl
@[simp] theorem State.setPwr_cph (s : State) (p : PwrState) : (s.setPwr p).cph = s.cph := rfl
@[simp] theorem State.setPwr_kpr (s : State) (p : PwrState) : (s.setPwr p).kpr = s.kpr := rfl
@[simp] theorem State.setPwr_lnk (s : State) (p : PwrState) : (s.setPwr p).lnk = s.lnk := rfl
@[simp] theorem State.setPwr_acc (s : State) (p : PwrState) : (s.setPwr p).acc = s.acc := rfl
@[simp] theorem State.setPwr_rtr (s : State) (p : PwrState) : (s.setPwr p).rtr = s.rtr := rfl
@[simp] theorem State.setPwr_tm (s : State) (p : PwrState) : (s.setPwr p).tm = s.tm := rfl
@[simp] theorem State.setPwr_pin (s : State) (p : PwrState) : (s.setPwr p).pin = s.pin := rfl

/-! ### State.setFloor: changes kpr -/

@[simp] theorem State.setFloor_pending (s : State) (kind index v : Nat) : (s.setFloor kind index v).pending = s.pending := rfl
@[simp] theorem State.setFloor_ticks (s : State) (kind index v : Nat) : (s.setFloor kind index v).ticks = s.ticks := rfl
@[simp] theorem State.setFloor_cpuHalf (s : State) (kind index v : Nat) : (s.setFloor kind index v).cpuHalf = s.cpuHalf := rfl
@[simp] theorem State.setFloor_freeCtr (s : State) (kind index v : Nat) : (s.setFloor kind index v).freeCtr = s.freeCtr := rfl
@[simp] theorem State.setFloor_regs (s : State) (kind index v : Nat) : (s.setFloor kind index v).regs = s.regs := rfl
@[simp] theorem State.setFloor_shadow (s : State) (kind index v : Nat) : (s.setFloor kind index v).shadow = s.shadow := rfl
@[simp] theorem State.setFloor_bus (s : State) (kind index v : Nat) : (s.setFloor kind index v).bus = s.bus := rfl
@[simp] theorem State.setFloor_mem (s : State) (kind index v : Nat) : (s.setFloor kind index v).mem = s.mem := rfl
@[simp] theorem State.setFloor_time (s : State) (kind index v : Nat) : (s.setFloor kind index v).time = s.time := rfl
@[simp] theorem State.setFloor_fabric (s : State) (kind index v : Nat) : (s.setFloor kind index v).fabric = s.fabric := rfl
@[simp] theorem State.setFloor_cores (s : State) (kind index v : Nat) : (s.setFloor kind index v).cores = s.cores := rfl
@[simp] theorem State.setFloor_eng (s : State) (kind index v : Nat) : (s.setFloor kind index v).eng = s.eng := rfl
@[simp] theorem State.setFloor_kprMem (s : State) (kind index v : Nat) : (s.setFloor kind index v).kprMem = s.kprMem := rfl
@[simp] theorem State.setFloor_tap (s : State) (kind index v : Nat) : (s.setFloor kind index v).tap = s.tap := rfl
@[simp] theorem State.setFloor_pwr (s : State) (kind index v : Nat) : (s.setFloor kind index v).pwr = s.pwr := rfl
@[simp] theorem State.setFloor_chains (s : State) (kind index v : Nat) : (s.setFloor kind index v).chains = s.chains := rfl
@[simp] theorem State.setFloor_fem (s : State) (kind index v : Nat) : (s.setFloor kind index v).fem = s.fem := rfl
@[simp] theorem State.setFloor_duty (s : State) (kind index v : Nat) : (s.setFloor kind index v).duty = s.duty := rfl
@[simp] theorem State.setFloor_sup (s : State) (kind index v : Nat) : (s.setFloor kind index v).sup = s.sup := rfl
@[simp] theorem State.setFloor_lanes (s : State) (kind index v : Nat) : (s.setFloor kind index v).lanes = s.lanes := rfl
@[simp] theorem State.setFloor_cap (s : State) (kind index v : Nat) : (s.setFloor kind index v).cap = s.cap := rfl
@[simp] theorem State.setFloor_arrays (s : State) (kind index v : Nat) : (s.setFloor kind index v).arrays = s.arrays := rfl
@[simp] theorem State.setFloor_rq (s : State) (kind index v : Nat) : (s.setFloor kind index v).rq = s.rq := rfl
@[simp] theorem State.setFloor_wd (s : State) (kind index v : Nat) : (s.setFloor kind index v).wd = s.wd := rfl
@[simp] theorem State.setFloor_arb (s : State) (kind index v : Nat) : (s.setFloor kind index v).arb = s.arb := rfl
@[simp] theorem State.setFloor_ldg (s : State) (kind index v : Nat) : (s.setFloor kind index v).ldg = s.ldg := rfl
@[simp] theorem State.setFloor_cph (s : State) (kind index v : Nat) : (s.setFloor kind index v).cph = s.cph := rfl
@[simp] theorem State.setFloor_kpr (s : State) (kind index v : Nat) : (s.setFloor kind index v).kpr = ({ s.kpr with floors := SMap.set (fun _ => 0) s.kpr.floors (4 * kind + index) v }) := rfl
@[simp] theorem State.setFloor_lnk (s : State) (kind index v : Nat) : (s.setFloor kind index v).lnk = s.lnk := rfl
@[simp] theorem State.setFloor_acc (s : State) (kind index v : Nat) : (s.setFloor kind index v).acc = s.acc := rfl
@[simp] theorem State.setFloor_rtr (s : State) (kind index v : Nat) : (s.setFloor kind index v).rtr = s.rtr := rfl
@[simp] theorem State.setFloor_tm (s : State) (kind index v : Nat) : (s.setFloor kind index v).tm = s.tm := rfl
@[simp] theorem State.setFloor_pin (s : State) (kind index v : Nat) : (s.setFloor kind index v).pin = s.pin := rfl

/-! ### State.putLocal: changes kprMem -/

@[simp] theorem State.putLocal_pending (s : State) (a : Nat) (bs : List Byte) : (s.putLocal a bs).pending = s.pending := rfl
@[simp] theorem State.putLocal_ticks (s : State) (a : Nat) (bs : List Byte) : (s.putLocal a bs).ticks = s.ticks := rfl
@[simp] theorem State.putLocal_cpuHalf (s : State) (a : Nat) (bs : List Byte) : (s.putLocal a bs).cpuHalf = s.cpuHalf := rfl
@[simp] theorem State.putLocal_freeCtr (s : State) (a : Nat) (bs : List Byte) : (s.putLocal a bs).freeCtr = s.freeCtr := rfl
@[simp] theorem State.putLocal_regs (s : State) (a : Nat) (bs : List Byte) : (s.putLocal a bs).regs = s.regs := rfl
@[simp] theorem State.putLocal_shadow (s : State) (a : Nat) (bs : List Byte) : (s.putLocal a bs).shadow = s.shadow := rfl
@[simp] theorem State.putLocal_bus (s : State) (a : Nat) (bs : List Byte) : (s.putLocal a bs).bus = s.bus := rfl
@[simp] theorem State.putLocal_mem (s : State) (a : Nat) (bs : List Byte) : (s.putLocal a bs).mem = s.mem := rfl
@[simp] theorem State.putLocal_time (s : State) (a : Nat) (bs : List Byte) : (s.putLocal a bs).time = s.time := rfl
@[simp] theorem State.putLocal_fabric (s : State) (a : Nat) (bs : List Byte) : (s.putLocal a bs).fabric = s.fabric := rfl
@[simp] theorem State.putLocal_cores (s : State) (a : Nat) (bs : List Byte) : (s.putLocal a bs).cores = s.cores := rfl
@[simp] theorem State.putLocal_eng (s : State) (a : Nat) (bs : List Byte) : (s.putLocal a bs).eng = s.eng := rfl
@[simp] theorem State.putLocal_kprMem (s : State) (a : Nat) (bs : List Byte) : (s.putLocal a bs).kprMem = (putBytes s.kprMem a bs) := rfl
@[simp] theorem State.putLocal_tap (s : State) (a : Nat) (bs : List Byte) : (s.putLocal a bs).tap = s.tap := rfl
@[simp] theorem State.putLocal_pwr (s : State) (a : Nat) (bs : List Byte) : (s.putLocal a bs).pwr = s.pwr := rfl
@[simp] theorem State.putLocal_chains (s : State) (a : Nat) (bs : List Byte) : (s.putLocal a bs).chains = s.chains := rfl
@[simp] theorem State.putLocal_fem (s : State) (a : Nat) (bs : List Byte) : (s.putLocal a bs).fem = s.fem := rfl
@[simp] theorem State.putLocal_duty (s : State) (a : Nat) (bs : List Byte) : (s.putLocal a bs).duty = s.duty := rfl
@[simp] theorem State.putLocal_sup (s : State) (a : Nat) (bs : List Byte) : (s.putLocal a bs).sup = s.sup := rfl
@[simp] theorem State.putLocal_lanes (s : State) (a : Nat) (bs : List Byte) : (s.putLocal a bs).lanes = s.lanes := rfl
@[simp] theorem State.putLocal_cap (s : State) (a : Nat) (bs : List Byte) : (s.putLocal a bs).cap = s.cap := rfl
@[simp] theorem State.putLocal_arrays (s : State) (a : Nat) (bs : List Byte) : (s.putLocal a bs).arrays = s.arrays := rfl
@[simp] theorem State.putLocal_rq (s : State) (a : Nat) (bs : List Byte) : (s.putLocal a bs).rq = s.rq := rfl
@[simp] theorem State.putLocal_wd (s : State) (a : Nat) (bs : List Byte) : (s.putLocal a bs).wd = s.wd := rfl
@[simp] theorem State.putLocal_arb (s : State) (a : Nat) (bs : List Byte) : (s.putLocal a bs).arb = s.arb := rfl
@[simp] theorem State.putLocal_ldg (s : State) (a : Nat) (bs : List Byte) : (s.putLocal a bs).ldg = s.ldg := rfl
@[simp] theorem State.putLocal_cph (s : State) (a : Nat) (bs : List Byte) : (s.putLocal a bs).cph = s.cph := rfl
@[simp] theorem State.putLocal_kpr (s : State) (a : Nat) (bs : List Byte) : (s.putLocal a bs).kpr = s.kpr := rfl
@[simp] theorem State.putLocal_lnk (s : State) (a : Nat) (bs : List Byte) : (s.putLocal a bs).lnk = s.lnk := rfl
@[simp] theorem State.putLocal_acc (s : State) (a : Nat) (bs : List Byte) : (s.putLocal a bs).acc = s.acc := rfl
@[simp] theorem State.putLocal_rtr (s : State) (a : Nat) (bs : List Byte) : (s.putLocal a bs).rtr = s.rtr := rfl
@[simp] theorem State.putLocal_tm (s : State) (a : Nat) (bs : List Byte) : (s.putLocal a bs).tm = s.tm := rfl
@[simp] theorem State.putLocal_pin (s : State) (a : Nat) (bs : List Byte) : (s.putLocal a bs).pin = s.pin := rfl

/-! ### State.setLane: changes lanes -/

@[simp] theorem State.setLane_pending (s : State) (r n : Nat) (l : Lane) : (s.setLane r n l).pending = s.pending := rfl
@[simp] theorem State.setLane_ticks (s : State) (r n : Nat) (l : Lane) : (s.setLane r n l).ticks = s.ticks := rfl
@[simp] theorem State.setLane_cpuHalf (s : State) (r n : Nat) (l : Lane) : (s.setLane r n l).cpuHalf = s.cpuHalf := rfl
@[simp] theorem State.setLane_freeCtr (s : State) (r n : Nat) (l : Lane) : (s.setLane r n l).freeCtr = s.freeCtr := rfl
@[simp] theorem State.setLane_regs (s : State) (r n : Nat) (l : Lane) : (s.setLane r n l).regs = s.regs := rfl
@[simp] theorem State.setLane_shadow (s : State) (r n : Nat) (l : Lane) : (s.setLane r n l).shadow = s.shadow := rfl
@[simp] theorem State.setLane_bus (s : State) (r n : Nat) (l : Lane) : (s.setLane r n l).bus = s.bus := rfl
@[simp] theorem State.setLane_mem (s : State) (r n : Nat) (l : Lane) : (s.setLane r n l).mem = s.mem := rfl
@[simp] theorem State.setLane_time (s : State) (r n : Nat) (l : Lane) : (s.setLane r n l).time = s.time := rfl
@[simp] theorem State.setLane_fabric (s : State) (r n : Nat) (l : Lane) : (s.setLane r n l).fabric = s.fabric := rfl
@[simp] theorem State.setLane_cores (s : State) (r n : Nat) (l : Lane) : (s.setLane r n l).cores = s.cores := rfl
@[simp] theorem State.setLane_eng (s : State) (r n : Nat) (l : Lane) : (s.setLane r n l).eng = s.eng := rfl
@[simp] theorem State.setLane_kprMem (s : State) (r n : Nat) (l : Lane) : (s.setLane r n l).kprMem = s.kprMem := rfl
@[simp] theorem State.setLane_tap (s : State) (r n : Nat) (l : Lane) : (s.setLane r n l).tap = s.tap := rfl
@[simp] theorem State.setLane_pwr (s : State) (r n : Nat) (l : Lane) : (s.setLane r n l).pwr = s.pwr := rfl
@[simp] theorem State.setLane_chains (s : State) (r n : Nat) (l : Lane) : (s.setLane r n l).chains = s.chains := rfl
@[simp] theorem State.setLane_fem (s : State) (r n : Nat) (l : Lane) : (s.setLane r n l).fem = s.fem := rfl
@[simp] theorem State.setLane_duty (s : State) (r n : Nat) (l : Lane) : (s.setLane r n l).duty = s.duty := rfl
@[simp] theorem State.setLane_sup (s : State) (r n : Nat) (l : Lane) : (s.setLane r n l).sup = s.sup := rfl
@[simp] theorem State.setLane_lanes (s : State) (r n : Nat) (l : Lane) : (s.setLane r n l).lanes = (SMap.set (fun _ => Lane.empty) s.lanes (256 * r + n) l) := rfl
@[simp] theorem State.setLane_cap (s : State) (r n : Nat) (l : Lane) : (s.setLane r n l).cap = s.cap := rfl
@[simp] theorem State.setLane_arrays (s : State) (r n : Nat) (l : Lane) : (s.setLane r n l).arrays = s.arrays := rfl
@[simp] theorem State.setLane_rq (s : State) (r n : Nat) (l : Lane) : (s.setLane r n l).rq = s.rq := rfl
@[simp] theorem State.setLane_wd (s : State) (r n : Nat) (l : Lane) : (s.setLane r n l).wd = s.wd := rfl
@[simp] theorem State.setLane_arb (s : State) (r n : Nat) (l : Lane) : (s.setLane r n l).arb = s.arb := rfl
@[simp] theorem State.setLane_ldg (s : State) (r n : Nat) (l : Lane) : (s.setLane r n l).ldg = s.ldg := rfl
@[simp] theorem State.setLane_cph (s : State) (r n : Nat) (l : Lane) : (s.setLane r n l).cph = s.cph := rfl
@[simp] theorem State.setLane_kpr (s : State) (r n : Nat) (l : Lane) : (s.setLane r n l).kpr = s.kpr := rfl
@[simp] theorem State.setLane_lnk (s : State) (r n : Nat) (l : Lane) : (s.setLane r n l).lnk = s.lnk := rfl
@[simp] theorem State.setLane_acc (s : State) (r n : Nat) (l : Lane) : (s.setLane r n l).acc = s.acc := rfl
@[simp] theorem State.setLane_rtr (s : State) (r n : Nat) (l : Lane) : (s.setLane r n l).rtr = s.rtr := rfl
@[simp] theorem State.setLane_tm (s : State) (r n : Nat) (l : Lane) : (s.setLane r n l).tm = s.tm := rfl
@[simp] theorem State.setLane_pin (s : State) (r n : Nat) (l : Lane) : (s.setLane r n l).pin = s.pin := rfl

/-! ### State.setChain: changes chains -/

@[simp] theorem State.setChain_pending (s : State) (r k : Nat) (c : Chain) : (s.setChain r k c).pending = s.pending := rfl
@[simp] theorem State.setChain_ticks (s : State) (r k : Nat) (c : Chain) : (s.setChain r k c).ticks = s.ticks := rfl
@[simp] theorem State.setChain_cpuHalf (s : State) (r k : Nat) (c : Chain) : (s.setChain r k c).cpuHalf = s.cpuHalf := rfl
@[simp] theorem State.setChain_freeCtr (s : State) (r k : Nat) (c : Chain) : (s.setChain r k c).freeCtr = s.freeCtr := rfl
@[simp] theorem State.setChain_regs (s : State) (r k : Nat) (c : Chain) : (s.setChain r k c).regs = s.regs := rfl
@[simp] theorem State.setChain_shadow (s : State) (r k : Nat) (c : Chain) : (s.setChain r k c).shadow = s.shadow := rfl
@[simp] theorem State.setChain_bus (s : State) (r k : Nat) (c : Chain) : (s.setChain r k c).bus = s.bus := rfl
@[simp] theorem State.setChain_mem (s : State) (r k : Nat) (c : Chain) : (s.setChain r k c).mem = s.mem := rfl
@[simp] theorem State.setChain_time (s : State) (r k : Nat) (c : Chain) : (s.setChain r k c).time = s.time := rfl
@[simp] theorem State.setChain_fabric (s : State) (r k : Nat) (c : Chain) : (s.setChain r k c).fabric = s.fabric := rfl
@[simp] theorem State.setChain_cores (s : State) (r k : Nat) (c : Chain) : (s.setChain r k c).cores = s.cores := rfl
@[simp] theorem State.setChain_eng (s : State) (r k : Nat) (c : Chain) : (s.setChain r k c).eng = s.eng := rfl
@[simp] theorem State.setChain_kprMem (s : State) (r k : Nat) (c : Chain) : (s.setChain r k c).kprMem = s.kprMem := rfl
@[simp] theorem State.setChain_tap (s : State) (r k : Nat) (c : Chain) : (s.setChain r k c).tap = s.tap := rfl
@[simp] theorem State.setChain_pwr (s : State) (r k : Nat) (c : Chain) : (s.setChain r k c).pwr = s.pwr := rfl
@[simp] theorem State.setChain_chains (s : State) (r k : Nat) (c : Chain) : (s.setChain r k c).chains = (SMap.set (fun _ => Chain.reset) s.chains (4 * r + k) c) := rfl
@[simp] theorem State.setChain_fem (s : State) (r k : Nat) (c : Chain) : (s.setChain r k c).fem = s.fem := rfl
@[simp] theorem State.setChain_duty (s : State) (r k : Nat) (c : Chain) : (s.setChain r k c).duty = s.duty := rfl
@[simp] theorem State.setChain_sup (s : State) (r k : Nat) (c : Chain) : (s.setChain r k c).sup = s.sup := rfl
@[simp] theorem State.setChain_lanes (s : State) (r k : Nat) (c : Chain) : (s.setChain r k c).lanes = s.lanes := rfl
@[simp] theorem State.setChain_cap (s : State) (r k : Nat) (c : Chain) : (s.setChain r k c).cap = s.cap := rfl
@[simp] theorem State.setChain_arrays (s : State) (r k : Nat) (c : Chain) : (s.setChain r k c).arrays = s.arrays := rfl
@[simp] theorem State.setChain_rq (s : State) (r k : Nat) (c : Chain) : (s.setChain r k c).rq = s.rq := rfl
@[simp] theorem State.setChain_wd (s : State) (r k : Nat) (c : Chain) : (s.setChain r k c).wd = s.wd := rfl
@[simp] theorem State.setChain_arb (s : State) (r k : Nat) (c : Chain) : (s.setChain r k c).arb = s.arb := rfl
@[simp] theorem State.setChain_ldg (s : State) (r k : Nat) (c : Chain) : (s.setChain r k c).ldg = s.ldg := rfl
@[simp] theorem State.setChain_cph (s : State) (r k : Nat) (c : Chain) : (s.setChain r k c).cph = s.cph := rfl
@[simp] theorem State.setChain_kpr (s : State) (r k : Nat) (c : Chain) : (s.setChain r k c).kpr = s.kpr := rfl
@[simp] theorem State.setChain_lnk (s : State) (r k : Nat) (c : Chain) : (s.setChain r k c).lnk = s.lnk := rfl
@[simp] theorem State.setChain_acc (s : State) (r k : Nat) (c : Chain) : (s.setChain r k c).acc = s.acc := rfl
@[simp] theorem State.setChain_rtr (s : State) (r k : Nat) (c : Chain) : (s.setChain r k c).rtr = s.rtr := rfl
@[simp] theorem State.setChain_tm (s : State) (r k : Nat) (c : Chain) : (s.setChain r k c).tm = s.tm := rfl
@[simp] theorem State.setChain_pin (s : State) (r k : Nat) (c : Chain) : (s.setChain r k c).pin = s.pin := rfl

/-! ### State.setLdg: changes ldg -/

@[simp] theorem State.setLdg_pending (s : State) (l : LdgState) : (s.setLdg l).pending = s.pending := rfl
@[simp] theorem State.setLdg_ticks (s : State) (l : LdgState) : (s.setLdg l).ticks = s.ticks := rfl
@[simp] theorem State.setLdg_cpuHalf (s : State) (l : LdgState) : (s.setLdg l).cpuHalf = s.cpuHalf := rfl
@[simp] theorem State.setLdg_freeCtr (s : State) (l : LdgState) : (s.setLdg l).freeCtr = s.freeCtr := rfl
@[simp] theorem State.setLdg_regs (s : State) (l : LdgState) : (s.setLdg l).regs = s.regs := rfl
@[simp] theorem State.setLdg_shadow (s : State) (l : LdgState) : (s.setLdg l).shadow = s.shadow := rfl
@[simp] theorem State.setLdg_bus (s : State) (l : LdgState) : (s.setLdg l).bus = s.bus := rfl
@[simp] theorem State.setLdg_mem (s : State) (l : LdgState) : (s.setLdg l).mem = s.mem := rfl
@[simp] theorem State.setLdg_time (s : State) (l : LdgState) : (s.setLdg l).time = s.time := rfl
@[simp] theorem State.setLdg_fabric (s : State) (l : LdgState) : (s.setLdg l).fabric = s.fabric := rfl
@[simp] theorem State.setLdg_cores (s : State) (l : LdgState) : (s.setLdg l).cores = s.cores := rfl
@[simp] theorem State.setLdg_eng (s : State) (l : LdgState) : (s.setLdg l).eng = s.eng := rfl
@[simp] theorem State.setLdg_kprMem (s : State) (l : LdgState) : (s.setLdg l).kprMem = s.kprMem := rfl
@[simp] theorem State.setLdg_tap (s : State) (l : LdgState) : (s.setLdg l).tap = s.tap := rfl
@[simp] theorem State.setLdg_pwr (s : State) (l : LdgState) : (s.setLdg l).pwr = s.pwr := rfl
@[simp] theorem State.setLdg_chains (s : State) (l : LdgState) : (s.setLdg l).chains = s.chains := rfl
@[simp] theorem State.setLdg_fem (s : State) (l : LdgState) : (s.setLdg l).fem = s.fem := rfl
@[simp] theorem State.setLdg_duty (s : State) (l : LdgState) : (s.setLdg l).duty = s.duty := rfl
@[simp] theorem State.setLdg_sup (s : State) (l : LdgState) : (s.setLdg l).sup = s.sup := rfl
@[simp] theorem State.setLdg_lanes (s : State) (l : LdgState) : (s.setLdg l).lanes = s.lanes := rfl
@[simp] theorem State.setLdg_cap (s : State) (l : LdgState) : (s.setLdg l).cap = s.cap := rfl
@[simp] theorem State.setLdg_arrays (s : State) (l : LdgState) : (s.setLdg l).arrays = s.arrays := rfl
@[simp] theorem State.setLdg_rq (s : State) (l : LdgState) : (s.setLdg l).rq = s.rq := rfl
@[simp] theorem State.setLdg_wd (s : State) (l : LdgState) : (s.setLdg l).wd = s.wd := rfl
@[simp] theorem State.setLdg_arb (s : State) (l : LdgState) : (s.setLdg l).arb = s.arb := rfl
@[simp] theorem State.setLdg_ldg (s : State) (l : LdgState) : (s.setLdg l).ldg = (l) := rfl
@[simp] theorem State.setLdg_cph (s : State) (l : LdgState) : (s.setLdg l).cph = s.cph := rfl
@[simp] theorem State.setLdg_kpr (s : State) (l : LdgState) : (s.setLdg l).kpr = s.kpr := rfl
@[simp] theorem State.setLdg_lnk (s : State) (l : LdgState) : (s.setLdg l).lnk = s.lnk := rfl
@[simp] theorem State.setLdg_acc (s : State) (l : LdgState) : (s.setLdg l).acc = s.acc := rfl
@[simp] theorem State.setLdg_rtr (s : State) (l : LdgState) : (s.setLdg l).rtr = s.rtr := rfl
@[simp] theorem State.setLdg_tm (s : State) (l : LdgState) : (s.setLdg l).tm = s.tm := rfl
@[simp] theorem State.setLdg_pin (s : State) (l : LdgState) : (s.setLdg l).pin = s.pin := rfl

/-! ### State.setTodLine: changes time -/

@[simp] theorem State.setTodLine_pending (s : State) (m : Nat) (x : Option Nat × Bool) : (s.setTodLine m x).pending = s.pending := rfl
@[simp] theorem State.setTodLine_ticks (s : State) (m : Nat) (x : Option Nat × Bool) : (s.setTodLine m x).ticks = s.ticks := rfl
@[simp] theorem State.setTodLine_cpuHalf (s : State) (m : Nat) (x : Option Nat × Bool) : (s.setTodLine m x).cpuHalf = s.cpuHalf := rfl
@[simp] theorem State.setTodLine_freeCtr (s : State) (m : Nat) (x : Option Nat × Bool) : (s.setTodLine m x).freeCtr = s.freeCtr := rfl
@[simp] theorem State.setTodLine_regs (s : State) (m : Nat) (x : Option Nat × Bool) : (s.setTodLine m x).regs = s.regs := rfl
@[simp] theorem State.setTodLine_shadow (s : State) (m : Nat) (x : Option Nat × Bool) : (s.setTodLine m x).shadow = s.shadow := rfl
@[simp] theorem State.setTodLine_bus (s : State) (m : Nat) (x : Option Nat × Bool) : (s.setTodLine m x).bus = s.bus := rfl
@[simp] theorem State.setTodLine_mem (s : State) (m : Nat) (x : Option Nat × Bool) : (s.setTodLine m x).mem = s.mem := rfl
@[simp] theorem State.setTodLine_time (s : State) (m : Nat) (x : Option Nat × Bool) : (s.setTodLine m x).time = ({ s.time with todLine := SMap.set (fun _ => (none, false)) s.time.todLine m x }) := rfl
@[simp] theorem State.setTodLine_fabric (s : State) (m : Nat) (x : Option Nat × Bool) : (s.setTodLine m x).fabric = s.fabric := rfl
@[simp] theorem State.setTodLine_cores (s : State) (m : Nat) (x : Option Nat × Bool) : (s.setTodLine m x).cores = s.cores := rfl
@[simp] theorem State.setTodLine_eng (s : State) (m : Nat) (x : Option Nat × Bool) : (s.setTodLine m x).eng = s.eng := rfl
@[simp] theorem State.setTodLine_kprMem (s : State) (m : Nat) (x : Option Nat × Bool) : (s.setTodLine m x).kprMem = s.kprMem := rfl
@[simp] theorem State.setTodLine_tap (s : State) (m : Nat) (x : Option Nat × Bool) : (s.setTodLine m x).tap = s.tap := rfl
@[simp] theorem State.setTodLine_pwr (s : State) (m : Nat) (x : Option Nat × Bool) : (s.setTodLine m x).pwr = s.pwr := rfl
@[simp] theorem State.setTodLine_chains (s : State) (m : Nat) (x : Option Nat × Bool) : (s.setTodLine m x).chains = s.chains := rfl
@[simp] theorem State.setTodLine_fem (s : State) (m : Nat) (x : Option Nat × Bool) : (s.setTodLine m x).fem = s.fem := rfl
@[simp] theorem State.setTodLine_duty (s : State) (m : Nat) (x : Option Nat × Bool) : (s.setTodLine m x).duty = s.duty := rfl
@[simp] theorem State.setTodLine_sup (s : State) (m : Nat) (x : Option Nat × Bool) : (s.setTodLine m x).sup = s.sup := rfl
@[simp] theorem State.setTodLine_lanes (s : State) (m : Nat) (x : Option Nat × Bool) : (s.setTodLine m x).lanes = s.lanes := rfl
@[simp] theorem State.setTodLine_cap (s : State) (m : Nat) (x : Option Nat × Bool) : (s.setTodLine m x).cap = s.cap := rfl
@[simp] theorem State.setTodLine_arrays (s : State) (m : Nat) (x : Option Nat × Bool) : (s.setTodLine m x).arrays = s.arrays := rfl
@[simp] theorem State.setTodLine_rq (s : State) (m : Nat) (x : Option Nat × Bool) : (s.setTodLine m x).rq = s.rq := rfl
@[simp] theorem State.setTodLine_wd (s : State) (m : Nat) (x : Option Nat × Bool) : (s.setTodLine m x).wd = s.wd := rfl
@[simp] theorem State.setTodLine_arb (s : State) (m : Nat) (x : Option Nat × Bool) : (s.setTodLine m x).arb = s.arb := rfl
@[simp] theorem State.setTodLine_ldg (s : State) (m : Nat) (x : Option Nat × Bool) : (s.setTodLine m x).ldg = s.ldg := rfl
@[simp] theorem State.setTodLine_cph (s : State) (m : Nat) (x : Option Nat × Bool) : (s.setTodLine m x).cph = s.cph := rfl
@[simp] theorem State.setTodLine_kpr (s : State) (m : Nat) (x : Option Nat × Bool) : (s.setTodLine m x).kpr = s.kpr := rfl
@[simp] theorem State.setTodLine_lnk (s : State) (m : Nat) (x : Option Nat × Bool) : (s.setTodLine m x).lnk = s.lnk := rfl
@[simp] theorem State.setTodLine_acc (s : State) (m : Nat) (x : Option Nat × Bool) : (s.setTodLine m x).acc = s.acc := rfl
@[simp] theorem State.setTodLine_rtr (s : State) (m : Nat) (x : Option Nat × Bool) : (s.setTodLine m x).rtr = s.rtr := rfl
@[simp] theorem State.setTodLine_tm (s : State) (m : Nat) (x : Option Nat × Bool) : (s.setTodLine m x).tm = s.tm := rfl
@[simp] theorem State.setTodLine_pin (s : State) (m : Nat) (x : Option Nat × Bool) : (s.setTodLine m x).pin = s.pin := rfl

/-! ### State.setOut: changes time -/

@[simp] theorem State.setOut_pending (s : State) (j : Nat) (x : OutState) : (s.setOut j x).pending = s.pending := rfl
@[simp] theorem State.setOut_ticks (s : State) (j : Nat) (x : OutState) : (s.setOut j x).ticks = s.ticks := rfl
@[simp] theorem State.setOut_cpuHalf (s : State) (j : Nat) (x : OutState) : (s.setOut j x).cpuHalf = s.cpuHalf := rfl
@[simp] theorem State.setOut_freeCtr (s : State) (j : Nat) (x : OutState) : (s.setOut j x).freeCtr = s.freeCtr := rfl
@[simp] theorem State.setOut_regs (s : State) (j : Nat) (x : OutState) : (s.setOut j x).regs = s.regs := rfl
@[simp] theorem State.setOut_shadow (s : State) (j : Nat) (x : OutState) : (s.setOut j x).shadow = s.shadow := rfl
@[simp] theorem State.setOut_bus (s : State) (j : Nat) (x : OutState) : (s.setOut j x).bus = s.bus := rfl
@[simp] theorem State.setOut_mem (s : State) (j : Nat) (x : OutState) : (s.setOut j x).mem = s.mem := rfl
@[simp] theorem State.setOut_time (s : State) (j : Nat) (x : OutState) : (s.setOut j x).time = ({ s.time with outs := SMap.set (fun _ => OutState.reset) s.time.outs j x }) := rfl
@[simp] theorem State.setOut_fabric (s : State) (j : Nat) (x : OutState) : (s.setOut j x).fabric = s.fabric := rfl
@[simp] theorem State.setOut_cores (s : State) (j : Nat) (x : OutState) : (s.setOut j x).cores = s.cores := rfl
@[simp] theorem State.setOut_eng (s : State) (j : Nat) (x : OutState) : (s.setOut j x).eng = s.eng := rfl
@[simp] theorem State.setOut_kprMem (s : State) (j : Nat) (x : OutState) : (s.setOut j x).kprMem = s.kprMem := rfl
@[simp] theorem State.setOut_tap (s : State) (j : Nat) (x : OutState) : (s.setOut j x).tap = s.tap := rfl
@[simp] theorem State.setOut_pwr (s : State) (j : Nat) (x : OutState) : (s.setOut j x).pwr = s.pwr := rfl
@[simp] theorem State.setOut_chains (s : State) (j : Nat) (x : OutState) : (s.setOut j x).chains = s.chains := rfl
@[simp] theorem State.setOut_fem (s : State) (j : Nat) (x : OutState) : (s.setOut j x).fem = s.fem := rfl
@[simp] theorem State.setOut_duty (s : State) (j : Nat) (x : OutState) : (s.setOut j x).duty = s.duty := rfl
@[simp] theorem State.setOut_sup (s : State) (j : Nat) (x : OutState) : (s.setOut j x).sup = s.sup := rfl
@[simp] theorem State.setOut_lanes (s : State) (j : Nat) (x : OutState) : (s.setOut j x).lanes = s.lanes := rfl
@[simp] theorem State.setOut_cap (s : State) (j : Nat) (x : OutState) : (s.setOut j x).cap = s.cap := rfl
@[simp] theorem State.setOut_arrays (s : State) (j : Nat) (x : OutState) : (s.setOut j x).arrays = s.arrays := rfl
@[simp] theorem State.setOut_rq (s : State) (j : Nat) (x : OutState) : (s.setOut j x).rq = s.rq := rfl
@[simp] theorem State.setOut_wd (s : State) (j : Nat) (x : OutState) : (s.setOut j x).wd = s.wd := rfl
@[simp] theorem State.setOut_arb (s : State) (j : Nat) (x : OutState) : (s.setOut j x).arb = s.arb := rfl
@[simp] theorem State.setOut_ldg (s : State) (j : Nat) (x : OutState) : (s.setOut j x).ldg = s.ldg := rfl
@[simp] theorem State.setOut_cph (s : State) (j : Nat) (x : OutState) : (s.setOut j x).cph = s.cph := rfl
@[simp] theorem State.setOut_kpr (s : State) (j : Nat) (x : OutState) : (s.setOut j x).kpr = s.kpr := rfl
@[simp] theorem State.setOut_lnk (s : State) (j : Nat) (x : OutState) : (s.setOut j x).lnk = s.lnk := rfl
@[simp] theorem State.setOut_acc (s : State) (j : Nat) (x : OutState) : (s.setOut j x).acc = s.acc := rfl
@[simp] theorem State.setOut_rtr (s : State) (j : Nat) (x : OutState) : (s.setOut j x).rtr = s.rtr := rfl
@[simp] theorem State.setOut_tm (s : State) (j : Nat) (x : OutState) : (s.setOut j x).tm = s.tm := rfl
@[simp] theorem State.setOut_pin (s : State) (j : Nat) (x : OutState) : (s.setOut j x).pin = s.pin := rfl

/-! ### State.setReg: changes regs -/

@[simp] theorem State.setReg_pending (s : State) (a : Nat) (w : Word) : (s.setReg a w).pending = s.pending := rfl
@[simp] theorem State.setReg_ticks (s : State) (a : Nat) (w : Word) : (s.setReg a w).ticks = s.ticks := rfl
@[simp] theorem State.setReg_cpuHalf (s : State) (a : Nat) (w : Word) : (s.setReg a w).cpuHalf = s.cpuHalf := rfl
@[simp] theorem State.setReg_freeCtr (s : State) (a : Nat) (w : Word) : (s.setReg a w).freeCtr = s.freeCtr := rfl
@[simp] theorem State.setReg_regs (s : State) (a : Nat) (w : Word) : (s.setReg a w).regs = (SMap.set resetWord s.regs a w) := rfl
@[simp] theorem State.setReg_shadow (s : State) (a : Nat) (w : Word) : (s.setReg a w).shadow = s.shadow := rfl
@[simp] theorem State.setReg_bus (s : State) (a : Nat) (w : Word) : (s.setReg a w).bus = s.bus := rfl
@[simp] theorem State.setReg_mem (s : State) (a : Nat) (w : Word) : (s.setReg a w).mem = s.mem := rfl
@[simp] theorem State.setReg_time (s : State) (a : Nat) (w : Word) : (s.setReg a w).time = s.time := rfl
@[simp] theorem State.setReg_fabric (s : State) (a : Nat) (w : Word) : (s.setReg a w).fabric = s.fabric := rfl
@[simp] theorem State.setReg_cores (s : State) (a : Nat) (w : Word) : (s.setReg a w).cores = s.cores := rfl
@[simp] theorem State.setReg_eng (s : State) (a : Nat) (w : Word) : (s.setReg a w).eng = s.eng := rfl
@[simp] theorem State.setReg_kprMem (s : State) (a : Nat) (w : Word) : (s.setReg a w).kprMem = s.kprMem := rfl
@[simp] theorem State.setReg_tap (s : State) (a : Nat) (w : Word) : (s.setReg a w).tap = s.tap := rfl
@[simp] theorem State.setReg_pwr (s : State) (a : Nat) (w : Word) : (s.setReg a w).pwr = s.pwr := rfl
@[simp] theorem State.setReg_chains (s : State) (a : Nat) (w : Word) : (s.setReg a w).chains = s.chains := rfl
@[simp] theorem State.setReg_fem (s : State) (a : Nat) (w : Word) : (s.setReg a w).fem = s.fem := rfl
@[simp] theorem State.setReg_duty (s : State) (a : Nat) (w : Word) : (s.setReg a w).duty = s.duty := rfl
@[simp] theorem State.setReg_sup (s : State) (a : Nat) (w : Word) : (s.setReg a w).sup = s.sup := rfl
@[simp] theorem State.setReg_lanes (s : State) (a : Nat) (w : Word) : (s.setReg a w).lanes = s.lanes := rfl
@[simp] theorem State.setReg_cap (s : State) (a : Nat) (w : Word) : (s.setReg a w).cap = s.cap := rfl
@[simp] theorem State.setReg_arrays (s : State) (a : Nat) (w : Word) : (s.setReg a w).arrays = s.arrays := rfl
@[simp] theorem State.setReg_rq (s : State) (a : Nat) (w : Word) : (s.setReg a w).rq = s.rq := rfl
@[simp] theorem State.setReg_wd (s : State) (a : Nat) (w : Word) : (s.setReg a w).wd = s.wd := rfl
@[simp] theorem State.setReg_arb (s : State) (a : Nat) (w : Word) : (s.setReg a w).arb = s.arb := rfl
@[simp] theorem State.setReg_ldg (s : State) (a : Nat) (w : Word) : (s.setReg a w).ldg = s.ldg := rfl
@[simp] theorem State.setReg_cph (s : State) (a : Nat) (w : Word) : (s.setReg a w).cph = s.cph := rfl
@[simp] theorem State.setReg_kpr (s : State) (a : Nat) (w : Word) : (s.setReg a w).kpr = s.kpr := rfl
@[simp] theorem State.setReg_lnk (s : State) (a : Nat) (w : Word) : (s.setReg a w).lnk = s.lnk := rfl
@[simp] theorem State.setReg_acc (s : State) (a : Nat) (w : Word) : (s.setReg a w).acc = s.acc := rfl
@[simp] theorem State.setReg_rtr (s : State) (a : Nat) (w : Word) : (s.setReg a w).rtr = s.rtr := rfl
@[simp] theorem State.setReg_tm (s : State) (a : Nat) (w : Word) : (s.setReg a w).tm = s.tm := rfl
@[simp] theorem State.setReg_pin (s : State) (a : Nat) (w : Word) : (s.setReg a w).pin = s.pin := rfl

/-! ### State.setShw: changes shadow -/

@[simp] theorem State.setShw_pending (s : State) (a : Nat) (w : Word) : (s.setShw a w).pending = s.pending := rfl
@[simp] theorem State.setShw_ticks (s : State) (a : Nat) (w : Word) : (s.setShw a w).ticks = s.ticks := rfl
@[simp] theorem State.setShw_cpuHalf (s : State) (a : Nat) (w : Word) : (s.setShw a w).cpuHalf = s.cpuHalf := rfl
@[simp] theorem State.setShw_freeCtr (s : State) (a : Nat) (w : Word) : (s.setShw a w).freeCtr = s.freeCtr := rfl
@[simp] theorem State.setShw_regs (s : State) (a : Nat) (w : Word) : (s.setShw a w).regs = s.regs := rfl
@[simp] theorem State.setShw_shadow (s : State) (a : Nat) (w : Word) : (s.setShw a w).shadow = (SMap.set resetWord s.shadow a w) := rfl
@[simp] theorem State.setShw_bus (s : State) (a : Nat) (w : Word) : (s.setShw a w).bus = s.bus := rfl
@[simp] theorem State.setShw_mem (s : State) (a : Nat) (w : Word) : (s.setShw a w).mem = s.mem := rfl
@[simp] theorem State.setShw_time (s : State) (a : Nat) (w : Word) : (s.setShw a w).time = s.time := rfl
@[simp] theorem State.setShw_fabric (s : State) (a : Nat) (w : Word) : (s.setShw a w).fabric = s.fabric := rfl
@[simp] theorem State.setShw_cores (s : State) (a : Nat) (w : Word) : (s.setShw a w).cores = s.cores := rfl
@[simp] theorem State.setShw_eng (s : State) (a : Nat) (w : Word) : (s.setShw a w).eng = s.eng := rfl
@[simp] theorem State.setShw_kprMem (s : State) (a : Nat) (w : Word) : (s.setShw a w).kprMem = s.kprMem := rfl
@[simp] theorem State.setShw_tap (s : State) (a : Nat) (w : Word) : (s.setShw a w).tap = s.tap := rfl
@[simp] theorem State.setShw_pwr (s : State) (a : Nat) (w : Word) : (s.setShw a w).pwr = s.pwr := rfl
@[simp] theorem State.setShw_chains (s : State) (a : Nat) (w : Word) : (s.setShw a w).chains = s.chains := rfl
@[simp] theorem State.setShw_fem (s : State) (a : Nat) (w : Word) : (s.setShw a w).fem = s.fem := rfl
@[simp] theorem State.setShw_duty (s : State) (a : Nat) (w : Word) : (s.setShw a w).duty = s.duty := rfl
@[simp] theorem State.setShw_sup (s : State) (a : Nat) (w : Word) : (s.setShw a w).sup = s.sup := rfl
@[simp] theorem State.setShw_lanes (s : State) (a : Nat) (w : Word) : (s.setShw a w).lanes = s.lanes := rfl
@[simp] theorem State.setShw_cap (s : State) (a : Nat) (w : Word) : (s.setShw a w).cap = s.cap := rfl
@[simp] theorem State.setShw_arrays (s : State) (a : Nat) (w : Word) : (s.setShw a w).arrays = s.arrays := rfl
@[simp] theorem State.setShw_rq (s : State) (a : Nat) (w : Word) : (s.setShw a w).rq = s.rq := rfl
@[simp] theorem State.setShw_wd (s : State) (a : Nat) (w : Word) : (s.setShw a w).wd = s.wd := rfl
@[simp] theorem State.setShw_arb (s : State) (a : Nat) (w : Word) : (s.setShw a w).arb = s.arb := rfl
@[simp] theorem State.setShw_ldg (s : State) (a : Nat) (w : Word) : (s.setShw a w).ldg = s.ldg := rfl
@[simp] theorem State.setShw_cph (s : State) (a : Nat) (w : Word) : (s.setShw a w).cph = s.cph := rfl
@[simp] theorem State.setShw_kpr (s : State) (a : Nat) (w : Word) : (s.setShw a w).kpr = s.kpr := rfl
@[simp] theorem State.setShw_lnk (s : State) (a : Nat) (w : Word) : (s.setShw a w).lnk = s.lnk := rfl
@[simp] theorem State.setShw_acc (s : State) (a : Nat) (w : Word) : (s.setShw a w).acc = s.acc := rfl
@[simp] theorem State.setShw_rtr (s : State) (a : Nat) (w : Word) : (s.setShw a w).rtr = s.rtr := rfl
@[simp] theorem State.setShw_tm (s : State) (a : Nat) (w : Word) : (s.setShw a w).tm = s.tm := rfl
@[simp] theorem State.setShw_pin (s : State) (a : Nat) (w : Word) : (s.setShw a w).pin = s.pin := rfl

/-! ### State.takeFree: changes freeCtr -/

@[simp] theorem State.takeFree_pending (s : State) : (s.takeFree).pending = s.pending := rfl
@[simp] theorem State.takeFree_ticks (s : State) : (s.takeFree).ticks = s.ticks := rfl
@[simp] theorem State.takeFree_cpuHalf (s : State) : (s.takeFree).cpuHalf = s.cpuHalf := rfl
@[simp] theorem State.takeFree_freeCtr (s : State) : (s.takeFree).freeCtr = (s.freeCtr + 1) := rfl
@[simp] theorem State.takeFree_regs (s : State) : (s.takeFree).regs = s.regs := rfl
@[simp] theorem State.takeFree_shadow (s : State) : (s.takeFree).shadow = s.shadow := rfl
@[simp] theorem State.takeFree_bus (s : State) : (s.takeFree).bus = s.bus := rfl
@[simp] theorem State.takeFree_mem (s : State) : (s.takeFree).mem = s.mem := rfl
@[simp] theorem State.takeFree_time (s : State) : (s.takeFree).time = s.time := rfl
@[simp] theorem State.takeFree_fabric (s : State) : (s.takeFree).fabric = s.fabric := rfl
@[simp] theorem State.takeFree_cores (s : State) : (s.takeFree).cores = s.cores := rfl
@[simp] theorem State.takeFree_eng (s : State) : (s.takeFree).eng = s.eng := rfl
@[simp] theorem State.takeFree_kprMem (s : State) : (s.takeFree).kprMem = s.kprMem := rfl
@[simp] theorem State.takeFree_tap (s : State) : (s.takeFree).tap = s.tap := rfl
@[simp] theorem State.takeFree_pwr (s : State) : (s.takeFree).pwr = s.pwr := rfl
@[simp] theorem State.takeFree_chains (s : State) : (s.takeFree).chains = s.chains := rfl
@[simp] theorem State.takeFree_fem (s : State) : (s.takeFree).fem = s.fem := rfl
@[simp] theorem State.takeFree_duty (s : State) : (s.takeFree).duty = s.duty := rfl
@[simp] theorem State.takeFree_sup (s : State) : (s.takeFree).sup = s.sup := rfl
@[simp] theorem State.takeFree_lanes (s : State) : (s.takeFree).lanes = s.lanes := rfl
@[simp] theorem State.takeFree_cap (s : State) : (s.takeFree).cap = s.cap := rfl
@[simp] theorem State.takeFree_arrays (s : State) : (s.takeFree).arrays = s.arrays := rfl
@[simp] theorem State.takeFree_rq (s : State) : (s.takeFree).rq = s.rq := rfl
@[simp] theorem State.takeFree_wd (s : State) : (s.takeFree).wd = s.wd := rfl
@[simp] theorem State.takeFree_arb (s : State) : (s.takeFree).arb = s.arb := rfl
@[simp] theorem State.takeFree_ldg (s : State) : (s.takeFree).ldg = s.ldg := rfl
@[simp] theorem State.takeFree_cph (s : State) : (s.takeFree).cph = s.cph := rfl
@[simp] theorem State.takeFree_kpr (s : State) : (s.takeFree).kpr = s.kpr := rfl
@[simp] theorem State.takeFree_lnk (s : State) : (s.takeFree).lnk = s.lnk := rfl
@[simp] theorem State.takeFree_acc (s : State) : (s.takeFree).acc = s.acc := rfl
@[simp] theorem State.takeFree_rtr (s : State) : (s.takeFree).rtr = s.rtr := rfl
@[simp] theorem State.takeFree_tm (s : State) : (s.takeFree).tm = s.tm := rfl
@[simp] theorem State.takeFree_pin (s : State) : (s.takeFree).pin = s.pin := rfl

/-! ### State.setByte: changes mem -/

@[simp] theorem State.setByte_pending (s : State) (a : Nat) (b : Byte) : (s.setByte a b).pending = s.pending := rfl
@[simp] theorem State.setByte_ticks (s : State) (a : Nat) (b : Byte) : (s.setByte a b).ticks = s.ticks := rfl
@[simp] theorem State.setByte_cpuHalf (s : State) (a : Nat) (b : Byte) : (s.setByte a b).cpuHalf = s.cpuHalf := rfl
@[simp] theorem State.setByte_freeCtr (s : State) (a : Nat) (b : Byte) : (s.setByte a b).freeCtr = s.freeCtr := rfl
@[simp] theorem State.setByte_regs (s : State) (a : Nat) (b : Byte) : (s.setByte a b).regs = s.regs := rfl
@[simp] theorem State.setByte_shadow (s : State) (a : Nat) (b : Byte) : (s.setByte a b).shadow = s.shadow := rfl
@[simp] theorem State.setByte_bus (s : State) (a : Nat) (b : Byte) : (s.setByte a b).bus = s.bus := rfl
@[simp] theorem State.setByte_mem (s : State) (a : Nat) (b : Byte) : (s.setByte a b).mem = (SMap.set memDefault s.mem a b) := rfl
@[simp] theorem State.setByte_time (s : State) (a : Nat) (b : Byte) : (s.setByte a b).time = s.time := rfl
@[simp] theorem State.setByte_fabric (s : State) (a : Nat) (b : Byte) : (s.setByte a b).fabric = s.fabric := rfl
@[simp] theorem State.setByte_cores (s : State) (a : Nat) (b : Byte) : (s.setByte a b).cores = s.cores := rfl
@[simp] theorem State.setByte_eng (s : State) (a : Nat) (b : Byte) : (s.setByte a b).eng = s.eng := rfl
@[simp] theorem State.setByte_kprMem (s : State) (a : Nat) (b : Byte) : (s.setByte a b).kprMem = s.kprMem := rfl
@[simp] theorem State.setByte_tap (s : State) (a : Nat) (b : Byte) : (s.setByte a b).tap = s.tap := rfl
@[simp] theorem State.setByte_pwr (s : State) (a : Nat) (b : Byte) : (s.setByte a b).pwr = s.pwr := rfl
@[simp] theorem State.setByte_chains (s : State) (a : Nat) (b : Byte) : (s.setByte a b).chains = s.chains := rfl
@[simp] theorem State.setByte_fem (s : State) (a : Nat) (b : Byte) : (s.setByte a b).fem = s.fem := rfl
@[simp] theorem State.setByte_duty (s : State) (a : Nat) (b : Byte) : (s.setByte a b).duty = s.duty := rfl
@[simp] theorem State.setByte_sup (s : State) (a : Nat) (b : Byte) : (s.setByte a b).sup = s.sup := rfl
@[simp] theorem State.setByte_lanes (s : State) (a : Nat) (b : Byte) : (s.setByte a b).lanes = s.lanes := rfl
@[simp] theorem State.setByte_cap (s : State) (a : Nat) (b : Byte) : (s.setByte a b).cap = s.cap := rfl
@[simp] theorem State.setByte_arrays (s : State) (a : Nat) (b : Byte) : (s.setByte a b).arrays = s.arrays := rfl
@[simp] theorem State.setByte_rq (s : State) (a : Nat) (b : Byte) : (s.setByte a b).rq = s.rq := rfl
@[simp] theorem State.setByte_wd (s : State) (a : Nat) (b : Byte) : (s.setByte a b).wd = s.wd := rfl
@[simp] theorem State.setByte_arb (s : State) (a : Nat) (b : Byte) : (s.setByte a b).arb = s.arb := rfl
@[simp] theorem State.setByte_ldg (s : State) (a : Nat) (b : Byte) : (s.setByte a b).ldg = s.ldg := rfl
@[simp] theorem State.setByte_cph (s : State) (a : Nat) (b : Byte) : (s.setByte a b).cph = s.cph := rfl
@[simp] theorem State.setByte_kpr (s : State) (a : Nat) (b : Byte) : (s.setByte a b).kpr = s.kpr := rfl
@[simp] theorem State.setByte_lnk (s : State) (a : Nat) (b : Byte) : (s.setByte a b).lnk = s.lnk := rfl
@[simp] theorem State.setByte_acc (s : State) (a : Nat) (b : Byte) : (s.setByte a b).acc = s.acc := rfl
@[simp] theorem State.setByte_rtr (s : State) (a : Nat) (b : Byte) : (s.setByte a b).rtr = s.rtr := rfl
@[simp] theorem State.setByte_tm (s : State) (a : Nat) (b : Byte) : (s.setByte a b).tm = s.tm := rfl
@[simp] theorem State.setByte_pin (s : State) (a : Nat) (b : Byte) : (s.setByte a b).pin = s.pin := rfl

/-! ### State.setArrays: changes arrays -/

@[simp] theorem State.setArrays_pending (s : State) (a : MemState) : (s.setArrays a).pending = s.pending := rfl
@[simp] theorem State.setArrays_ticks (s : State) (a : MemState) : (s.setArrays a).ticks = s.ticks := rfl
@[simp] theorem State.setArrays_cpuHalf (s : State) (a : MemState) : (s.setArrays a).cpuHalf = s.cpuHalf := rfl
@[simp] theorem State.setArrays_freeCtr (s : State) (a : MemState) : (s.setArrays a).freeCtr = s.freeCtr := rfl
@[simp] theorem State.setArrays_regs (s : State) (a : MemState) : (s.setArrays a).regs = s.regs := rfl
@[simp] theorem State.setArrays_shadow (s : State) (a : MemState) : (s.setArrays a).shadow = s.shadow := rfl
@[simp] theorem State.setArrays_bus (s : State) (a : MemState) : (s.setArrays a).bus = s.bus := rfl
@[simp] theorem State.setArrays_mem (s : State) (a : MemState) : (s.setArrays a).mem = s.mem := rfl
@[simp] theorem State.setArrays_time (s : State) (a : MemState) : (s.setArrays a).time = s.time := rfl
@[simp] theorem State.setArrays_fabric (s : State) (a : MemState) : (s.setArrays a).fabric = s.fabric := rfl
@[simp] theorem State.setArrays_cores (s : State) (a : MemState) : (s.setArrays a).cores = s.cores := rfl
@[simp] theorem State.setArrays_eng (s : State) (a : MemState) : (s.setArrays a).eng = s.eng := rfl
@[simp] theorem State.setArrays_kprMem (s : State) (a : MemState) : (s.setArrays a).kprMem = s.kprMem := rfl
@[simp] theorem State.setArrays_tap (s : State) (a : MemState) : (s.setArrays a).tap = s.tap := rfl
@[simp] theorem State.setArrays_pwr (s : State) (a : MemState) : (s.setArrays a).pwr = s.pwr := rfl
@[simp] theorem State.setArrays_chains (s : State) (a : MemState) : (s.setArrays a).chains = s.chains := rfl
@[simp] theorem State.setArrays_fem (s : State) (a : MemState) : (s.setArrays a).fem = s.fem := rfl
@[simp] theorem State.setArrays_duty (s : State) (a : MemState) : (s.setArrays a).duty = s.duty := rfl
@[simp] theorem State.setArrays_sup (s : State) (a : MemState) : (s.setArrays a).sup = s.sup := rfl
@[simp] theorem State.setArrays_lanes (s : State) (a : MemState) : (s.setArrays a).lanes = s.lanes := rfl
@[simp] theorem State.setArrays_cap (s : State) (a : MemState) : (s.setArrays a).cap = s.cap := rfl
@[simp] theorem State.setArrays_arrays (s : State) (a : MemState) : (s.setArrays a).arrays = (a) := rfl
@[simp] theorem State.setArrays_rq (s : State) (a : MemState) : (s.setArrays a).rq = s.rq := rfl
@[simp] theorem State.setArrays_wd (s : State) (a : MemState) : (s.setArrays a).wd = s.wd := rfl
@[simp] theorem State.setArrays_arb (s : State) (a : MemState) : (s.setArrays a).arb = s.arb := rfl
@[simp] theorem State.setArrays_ldg (s : State) (a : MemState) : (s.setArrays a).ldg = s.ldg := rfl
@[simp] theorem State.setArrays_cph (s : State) (a : MemState) : (s.setArrays a).cph = s.cph := rfl
@[simp] theorem State.setArrays_kpr (s : State) (a : MemState) : (s.setArrays a).kpr = s.kpr := rfl
@[simp] theorem State.setArrays_lnk (s : State) (a : MemState) : (s.setArrays a).lnk = s.lnk := rfl
@[simp] theorem State.setArrays_acc (s : State) (a : MemState) : (s.setArrays a).acc = s.acc := rfl
@[simp] theorem State.setArrays_rtr (s : State) (a : MemState) : (s.setArrays a).rtr = s.rtr := rfl
@[simp] theorem State.setArrays_tm (s : State) (a : MemState) : (s.setArrays a).tm = s.tm := rfl
@[simp] theorem State.setArrays_pin (s : State) (a : MemState) : (s.setArrays a).pin = s.pin := rfl

/-! ### State.setCore: changes cores -/

@[simp] theorem State.setCore_pending (s : State) (c : Nat) (x : Core) : (s.setCore c x).pending = s.pending := rfl
@[simp] theorem State.setCore_ticks (s : State) (c : Nat) (x : Core) : (s.setCore c x).ticks = s.ticks := rfl
@[simp] theorem State.setCore_cpuHalf (s : State) (c : Nat) (x : Core) : (s.setCore c x).cpuHalf = s.cpuHalf := rfl
@[simp] theorem State.setCore_freeCtr (s : State) (c : Nat) (x : Core) : (s.setCore c x).freeCtr = s.freeCtr := rfl
@[simp] theorem State.setCore_regs (s : State) (c : Nat) (x : Core) : (s.setCore c x).regs = s.regs := rfl
@[simp] theorem State.setCore_shadow (s : State) (c : Nat) (x : Core) : (s.setCore c x).shadow = s.shadow := rfl
@[simp] theorem State.setCore_bus (s : State) (c : Nat) (x : Core) : (s.setCore c x).bus = s.bus := rfl
@[simp] theorem State.setCore_mem (s : State) (c : Nat) (x : Core) : (s.setCore c x).mem = s.mem := rfl
@[simp] theorem State.setCore_time (s : State) (c : Nat) (x : Core) : (s.setCore c x).time = s.time := rfl
@[simp] theorem State.setCore_fabric (s : State) (c : Nat) (x : Core) : (s.setCore c x).fabric = s.fabric := rfl
@[simp] theorem State.setCore_cores (s : State) (c : Nat) (x : Core) : (s.setCore c x).cores = (SMap.set coreReset s.cores c x) := rfl
@[simp] theorem State.setCore_eng (s : State) (c : Nat) (x : Core) : (s.setCore c x).eng = s.eng := rfl
@[simp] theorem State.setCore_kprMem (s : State) (c : Nat) (x : Core) : (s.setCore c x).kprMem = s.kprMem := rfl
@[simp] theorem State.setCore_tap (s : State) (c : Nat) (x : Core) : (s.setCore c x).tap = s.tap := rfl
@[simp] theorem State.setCore_pwr (s : State) (c : Nat) (x : Core) : (s.setCore c x).pwr = s.pwr := rfl
@[simp] theorem State.setCore_chains (s : State) (c : Nat) (x : Core) : (s.setCore c x).chains = s.chains := rfl
@[simp] theorem State.setCore_fem (s : State) (c : Nat) (x : Core) : (s.setCore c x).fem = s.fem := rfl
@[simp] theorem State.setCore_duty (s : State) (c : Nat) (x : Core) : (s.setCore c x).duty = s.duty := rfl
@[simp] theorem State.setCore_sup (s : State) (c : Nat) (x : Core) : (s.setCore c x).sup = s.sup := rfl
@[simp] theorem State.setCore_lanes (s : State) (c : Nat) (x : Core) : (s.setCore c x).lanes = s.lanes := rfl
@[simp] theorem State.setCore_cap (s : State) (c : Nat) (x : Core) : (s.setCore c x).cap = s.cap := rfl
@[simp] theorem State.setCore_arrays (s : State) (c : Nat) (x : Core) : (s.setCore c x).arrays = s.arrays := rfl
@[simp] theorem State.setCore_rq (s : State) (c : Nat) (x : Core) : (s.setCore c x).rq = s.rq := rfl
@[simp] theorem State.setCore_wd (s : State) (c : Nat) (x : Core) : (s.setCore c x).wd = s.wd := rfl
@[simp] theorem State.setCore_arb (s : State) (c : Nat) (x : Core) : (s.setCore c x).arb = s.arb := rfl
@[simp] theorem State.setCore_ldg (s : State) (c : Nat) (x : Core) : (s.setCore c x).ldg = s.ldg := rfl
@[simp] theorem State.setCore_cph (s : State) (c : Nat) (x : Core) : (s.setCore c x).cph = s.cph := rfl
@[simp] theorem State.setCore_kpr (s : State) (c : Nat) (x : Core) : (s.setCore c x).kpr = s.kpr := rfl
@[simp] theorem State.setCore_lnk (s : State) (c : Nat) (x : Core) : (s.setCore c x).lnk = s.lnk := rfl
@[simp] theorem State.setCore_acc (s : State) (c : Nat) (x : Core) : (s.setCore c x).acc = s.acc := rfl
@[simp] theorem State.setCore_rtr (s : State) (c : Nat) (x : Core) : (s.setCore c x).rtr = s.rtr := rfl
@[simp] theorem State.setCore_tm (s : State) (c : Nat) (x : Core) : (s.setCore c x).tm = s.tm := rfl
@[simp] theorem State.setCore_pin (s : State) (c : Nat) (x : Core) : (s.setCore c x).pin = s.pin := rfl

/-! ### State.setEngine: changes eng -/

@[simp] theorem State.setEngine_pending (s : State) (e : Nat) (x : Engine) : (s.setEngine e x).pending = s.pending := rfl
@[simp] theorem State.setEngine_ticks (s : State) (e : Nat) (x : Engine) : (s.setEngine e x).ticks = s.ticks := rfl
@[simp] theorem State.setEngine_cpuHalf (s : State) (e : Nat) (x : Engine) : (s.setEngine e x).cpuHalf = s.cpuHalf := rfl
@[simp] theorem State.setEngine_freeCtr (s : State) (e : Nat) (x : Engine) : (s.setEngine e x).freeCtr = s.freeCtr := rfl
@[simp] theorem State.setEngine_regs (s : State) (e : Nat) (x : Engine) : (s.setEngine e x).regs = s.regs := rfl
@[simp] theorem State.setEngine_shadow (s : State) (e : Nat) (x : Engine) : (s.setEngine e x).shadow = s.shadow := rfl
@[simp] theorem State.setEngine_bus (s : State) (e : Nat) (x : Engine) : (s.setEngine e x).bus = s.bus := rfl
@[simp] theorem State.setEngine_mem (s : State) (e : Nat) (x : Engine) : (s.setEngine e x).mem = s.mem := rfl
@[simp] theorem State.setEngine_time (s : State) (e : Nat) (x : Engine) : (s.setEngine e x).time = s.time := rfl
@[simp] theorem State.setEngine_fabric (s : State) (e : Nat) (x : Engine) : (s.setEngine e x).fabric = s.fabric := rfl
@[simp] theorem State.setEngine_cores (s : State) (e : Nat) (x : Engine) : (s.setEngine e x).cores = s.cores := rfl
@[simp] theorem State.setEngine_eng (s : State) (e : Nat) (x : Engine) : (s.setEngine e x).eng = (SMap.set (fun _ => Engine.reset) s.eng e x) := rfl
@[simp] theorem State.setEngine_kprMem (s : State) (e : Nat) (x : Engine) : (s.setEngine e x).kprMem = s.kprMem := rfl
@[simp] theorem State.setEngine_tap (s : State) (e : Nat) (x : Engine) : (s.setEngine e x).tap = s.tap := rfl
@[simp] theorem State.setEngine_pwr (s : State) (e : Nat) (x : Engine) : (s.setEngine e x).pwr = s.pwr := rfl
@[simp] theorem State.setEngine_chains (s : State) (e : Nat) (x : Engine) : (s.setEngine e x).chains = s.chains := rfl
@[simp] theorem State.setEngine_fem (s : State) (e : Nat) (x : Engine) : (s.setEngine e x).fem = s.fem := rfl
@[simp] theorem State.setEngine_duty (s : State) (e : Nat) (x : Engine) : (s.setEngine e x).duty = s.duty := rfl
@[simp] theorem State.setEngine_sup (s : State) (e : Nat) (x : Engine) : (s.setEngine e x).sup = s.sup := rfl
@[simp] theorem State.setEngine_lanes (s : State) (e : Nat) (x : Engine) : (s.setEngine e x).lanes = s.lanes := rfl
@[simp] theorem State.setEngine_cap (s : State) (e : Nat) (x : Engine) : (s.setEngine e x).cap = s.cap := rfl
@[simp] theorem State.setEngine_arrays (s : State) (e : Nat) (x : Engine) : (s.setEngine e x).arrays = s.arrays := rfl
@[simp] theorem State.setEngine_rq (s : State) (e : Nat) (x : Engine) : (s.setEngine e x).rq = s.rq := rfl
@[simp] theorem State.setEngine_wd (s : State) (e : Nat) (x : Engine) : (s.setEngine e x).wd = s.wd := rfl
@[simp] theorem State.setEngine_arb (s : State) (e : Nat) (x : Engine) : (s.setEngine e x).arb = s.arb := rfl
@[simp] theorem State.setEngine_ldg (s : State) (e : Nat) (x : Engine) : (s.setEngine e x).ldg = s.ldg := rfl
@[simp] theorem State.setEngine_cph (s : State) (e : Nat) (x : Engine) : (s.setEngine e x).cph = s.cph := rfl
@[simp] theorem State.setEngine_kpr (s : State) (e : Nat) (x : Engine) : (s.setEngine e x).kpr = s.kpr := rfl
@[simp] theorem State.setEngine_lnk (s : State) (e : Nat) (x : Engine) : (s.setEngine e x).lnk = s.lnk := rfl
@[simp] theorem State.setEngine_acc (s : State) (e : Nat) (x : Engine) : (s.setEngine e x).acc = s.acc := rfl
@[simp] theorem State.setEngine_rtr (s : State) (e : Nat) (x : Engine) : (s.setEngine e x).rtr = s.rtr := rfl
@[simp] theorem State.setEngine_tm (s : State) (e : Nat) (x : Engine) : (s.setEngine e x).tm = s.tm := rfl
@[simp] theorem State.setEngine_pin (s : State) (e : Nat) (x : Engine) : (s.setEngine e x).pin = s.pin := rfl

/-! ### State.setPin: changes pin -/

@[simp] theorem State.setPin_pending (s : State) (p : PinState) : (s.setPin p).pending = s.pending := rfl
@[simp] theorem State.setPin_ticks (s : State) (p : PinState) : (s.setPin p).ticks = s.ticks := rfl
@[simp] theorem State.setPin_cpuHalf (s : State) (p : PinState) : (s.setPin p).cpuHalf = s.cpuHalf := rfl
@[simp] theorem State.setPin_freeCtr (s : State) (p : PinState) : (s.setPin p).freeCtr = s.freeCtr := rfl
@[simp] theorem State.setPin_regs (s : State) (p : PinState) : (s.setPin p).regs = s.regs := rfl
@[simp] theorem State.setPin_shadow (s : State) (p : PinState) : (s.setPin p).shadow = s.shadow := rfl
@[simp] theorem State.setPin_bus (s : State) (p : PinState) : (s.setPin p).bus = s.bus := rfl
@[simp] theorem State.setPin_mem (s : State) (p : PinState) : (s.setPin p).mem = s.mem := rfl
@[simp] theorem State.setPin_time (s : State) (p : PinState) : (s.setPin p).time = s.time := rfl
@[simp] theorem State.setPin_fabric (s : State) (p : PinState) : (s.setPin p).fabric = s.fabric := rfl
@[simp] theorem State.setPin_cores (s : State) (p : PinState) : (s.setPin p).cores = s.cores := rfl
@[simp] theorem State.setPin_eng (s : State) (p : PinState) : (s.setPin p).eng = s.eng := rfl
@[simp] theorem State.setPin_kprMem (s : State) (p : PinState) : (s.setPin p).kprMem = s.kprMem := rfl
@[simp] theorem State.setPin_tap (s : State) (p : PinState) : (s.setPin p).tap = s.tap := rfl
@[simp] theorem State.setPin_pwr (s : State) (p : PinState) : (s.setPin p).pwr = s.pwr := rfl
@[simp] theorem State.setPin_chains (s : State) (p : PinState) : (s.setPin p).chains = s.chains := rfl
@[simp] theorem State.setPin_fem (s : State) (p : PinState) : (s.setPin p).fem = s.fem := rfl
@[simp] theorem State.setPin_duty (s : State) (p : PinState) : (s.setPin p).duty = s.duty := rfl
@[simp] theorem State.setPin_sup (s : State) (p : PinState) : (s.setPin p).sup = s.sup := rfl
@[simp] theorem State.setPin_lanes (s : State) (p : PinState) : (s.setPin p).lanes = s.lanes := rfl
@[simp] theorem State.setPin_cap (s : State) (p : PinState) : (s.setPin p).cap = s.cap := rfl
@[simp] theorem State.setPin_arrays (s : State) (p : PinState) : (s.setPin p).arrays = s.arrays := rfl
@[simp] theorem State.setPin_rq (s : State) (p : PinState) : (s.setPin p).rq = s.rq := rfl
@[simp] theorem State.setPin_wd (s : State) (p : PinState) : (s.setPin p).wd = s.wd := rfl
@[simp] theorem State.setPin_arb (s : State) (p : PinState) : (s.setPin p).arb = s.arb := rfl
@[simp] theorem State.setPin_ldg (s : State) (p : PinState) : (s.setPin p).ldg = s.ldg := rfl
@[simp] theorem State.setPin_cph (s : State) (p : PinState) : (s.setPin p).cph = s.cph := rfl
@[simp] theorem State.setPin_kpr (s : State) (p : PinState) : (s.setPin p).kpr = s.kpr := rfl
@[simp] theorem State.setPin_lnk (s : State) (p : PinState) : (s.setPin p).lnk = s.lnk := rfl
@[simp] theorem State.setPin_acc (s : State) (p : PinState) : (s.setPin p).acc = s.acc := rfl
@[simp] theorem State.setPin_rtr (s : State) (p : PinState) : (s.setPin p).rtr = s.rtr := rfl
@[simp] theorem State.setPin_tm (s : State) (p : PinState) : (s.setPin p).tm = s.tm := rfl
@[simp] theorem State.setPin_pin (s : State) (p : PinState) : (s.setPin p).pin = (p) := rfl

/-! ### State.setRq: changes rq -/

@[simp] theorem State.setRq_pending (s : State) (r : RqState) : (s.setRq r).pending = s.pending := rfl
@[simp] theorem State.setRq_ticks (s : State) (r : RqState) : (s.setRq r).ticks = s.ticks := rfl
@[simp] theorem State.setRq_cpuHalf (s : State) (r : RqState) : (s.setRq r).cpuHalf = s.cpuHalf := rfl
@[simp] theorem State.setRq_freeCtr (s : State) (r : RqState) : (s.setRq r).freeCtr = s.freeCtr := rfl
@[simp] theorem State.setRq_regs (s : State) (r : RqState) : (s.setRq r).regs = s.regs := rfl
@[simp] theorem State.setRq_shadow (s : State) (r : RqState) : (s.setRq r).shadow = s.shadow := rfl
@[simp] theorem State.setRq_bus (s : State) (r : RqState) : (s.setRq r).bus = s.bus := rfl
@[simp] theorem State.setRq_mem (s : State) (r : RqState) : (s.setRq r).mem = s.mem := rfl
@[simp] theorem State.setRq_time (s : State) (r : RqState) : (s.setRq r).time = s.time := rfl
@[simp] theorem State.setRq_fabric (s : State) (r : RqState) : (s.setRq r).fabric = s.fabric := rfl
@[simp] theorem State.setRq_cores (s : State) (r : RqState) : (s.setRq r).cores = s.cores := rfl
@[simp] theorem State.setRq_eng (s : State) (r : RqState) : (s.setRq r).eng = s.eng := rfl
@[simp] theorem State.setRq_kprMem (s : State) (r : RqState) : (s.setRq r).kprMem = s.kprMem := rfl
@[simp] theorem State.setRq_tap (s : State) (r : RqState) : (s.setRq r).tap = s.tap := rfl
@[simp] theorem State.setRq_pwr (s : State) (r : RqState) : (s.setRq r).pwr = s.pwr := rfl
@[simp] theorem State.setRq_chains (s : State) (r : RqState) : (s.setRq r).chains = s.chains := rfl
@[simp] theorem State.setRq_fem (s : State) (r : RqState) : (s.setRq r).fem = s.fem := rfl
@[simp] theorem State.setRq_duty (s : State) (r : RqState) : (s.setRq r).duty = s.duty := rfl
@[simp] theorem State.setRq_sup (s : State) (r : RqState) : (s.setRq r).sup = s.sup := rfl
@[simp] theorem State.setRq_lanes (s : State) (r : RqState) : (s.setRq r).lanes = s.lanes := rfl
@[simp] theorem State.setRq_cap (s : State) (r : RqState) : (s.setRq r).cap = s.cap := rfl
@[simp] theorem State.setRq_arrays (s : State) (r : RqState) : (s.setRq r).arrays = s.arrays := rfl
@[simp] theorem State.setRq_rq (s : State) (r : RqState) : (s.setRq r).rq = (r) := rfl
@[simp] theorem State.setRq_wd (s : State) (r : RqState) : (s.setRq r).wd = s.wd := rfl
@[simp] theorem State.setRq_arb (s : State) (r : RqState) : (s.setRq r).arb = s.arb := rfl
@[simp] theorem State.setRq_ldg (s : State) (r : RqState) : (s.setRq r).ldg = s.ldg := rfl
@[simp] theorem State.setRq_cph (s : State) (r : RqState) : (s.setRq r).cph = s.cph := rfl
@[simp] theorem State.setRq_kpr (s : State) (r : RqState) : (s.setRq r).kpr = s.kpr := rfl
@[simp] theorem State.setRq_lnk (s : State) (r : RqState) : (s.setRq r).lnk = s.lnk := rfl
@[simp] theorem State.setRq_acc (s : State) (r : RqState) : (s.setRq r).acc = s.acc := rfl
@[simp] theorem State.setRq_rtr (s : State) (r : RqState) : (s.setRq r).rtr = s.rtr := rfl
@[simp] theorem State.setRq_tm (s : State) (r : RqState) : (s.setRq r).tm = s.tm := rfl
@[simp] theorem State.setRq_pin (s : State) (r : RqState) : (s.setRq r).pin = s.pin := rfl

/-! ### State.setFem: changes fem -/

@[simp] theorem State.setFem_pending (s : State) (r : Nat) (f : FemState) : (s.setFem r f).pending = s.pending := rfl
@[simp] theorem State.setFem_ticks (s : State) (r : Nat) (f : FemState) : (s.setFem r f).ticks = s.ticks := rfl
@[simp] theorem State.setFem_cpuHalf (s : State) (r : Nat) (f : FemState) : (s.setFem r f).cpuHalf = s.cpuHalf := rfl
@[simp] theorem State.setFem_freeCtr (s : State) (r : Nat) (f : FemState) : (s.setFem r f).freeCtr = s.freeCtr := rfl
@[simp] theorem State.setFem_regs (s : State) (r : Nat) (f : FemState) : (s.setFem r f).regs = s.regs := rfl
@[simp] theorem State.setFem_shadow (s : State) (r : Nat) (f : FemState) : (s.setFem r f).shadow = s.shadow := rfl
@[simp] theorem State.setFem_bus (s : State) (r : Nat) (f : FemState) : (s.setFem r f).bus = s.bus := rfl
@[simp] theorem State.setFem_mem (s : State) (r : Nat) (f : FemState) : (s.setFem r f).mem = s.mem := rfl
@[simp] theorem State.setFem_time (s : State) (r : Nat) (f : FemState) : (s.setFem r f).time = s.time := rfl
@[simp] theorem State.setFem_fabric (s : State) (r : Nat) (f : FemState) : (s.setFem r f).fabric = s.fabric := rfl
@[simp] theorem State.setFem_cores (s : State) (r : Nat) (f : FemState) : (s.setFem r f).cores = s.cores := rfl
@[simp] theorem State.setFem_eng (s : State) (r : Nat) (f : FemState) : (s.setFem r f).eng = s.eng := rfl
@[simp] theorem State.setFem_kprMem (s : State) (r : Nat) (f : FemState) : (s.setFem r f).kprMem = s.kprMem := rfl
@[simp] theorem State.setFem_tap (s : State) (r : Nat) (f : FemState) : (s.setFem r f).tap = s.tap := rfl
@[simp] theorem State.setFem_pwr (s : State) (r : Nat) (f : FemState) : (s.setFem r f).pwr = s.pwr := rfl
@[simp] theorem State.setFem_chains (s : State) (r : Nat) (f : FemState) : (s.setFem r f).chains = s.chains := rfl
@[simp] theorem State.setFem_fem (s : State) (r : Nat) (f : FemState) : (s.setFem r f).fem = (SMap.set (fun _ => ⟨[], []⟩) s.fem r f) := rfl
@[simp] theorem State.setFem_duty (s : State) (r : Nat) (f : FemState) : (s.setFem r f).duty = s.duty := rfl
@[simp] theorem State.setFem_sup (s : State) (r : Nat) (f : FemState) : (s.setFem r f).sup = s.sup := rfl
@[simp] theorem State.setFem_lanes (s : State) (r : Nat) (f : FemState) : (s.setFem r f).lanes = s.lanes := rfl
@[simp] theorem State.setFem_cap (s : State) (r : Nat) (f : FemState) : (s.setFem r f).cap = s.cap := rfl
@[simp] theorem State.setFem_arrays (s : State) (r : Nat) (f : FemState) : (s.setFem r f).arrays = s.arrays := rfl
@[simp] theorem State.setFem_rq (s : State) (r : Nat) (f : FemState) : (s.setFem r f).rq = s.rq := rfl
@[simp] theorem State.setFem_wd (s : State) (r : Nat) (f : FemState) : (s.setFem r f).wd = s.wd := rfl
@[simp] theorem State.setFem_arb (s : State) (r : Nat) (f : FemState) : (s.setFem r f).arb = s.arb := rfl
@[simp] theorem State.setFem_ldg (s : State) (r : Nat) (f : FemState) : (s.setFem r f).ldg = s.ldg := rfl
@[simp] theorem State.setFem_cph (s : State) (r : Nat) (f : FemState) : (s.setFem r f).cph = s.cph := rfl
@[simp] theorem State.setFem_kpr (s : State) (r : Nat) (f : FemState) : (s.setFem r f).kpr = s.kpr := rfl
@[simp] theorem State.setFem_lnk (s : State) (r : Nat) (f : FemState) : (s.setFem r f).lnk = s.lnk := rfl
@[simp] theorem State.setFem_acc (s : State) (r : Nat) (f : FemState) : (s.setFem r f).acc = s.acc := rfl
@[simp] theorem State.setFem_rtr (s : State) (r : Nat) (f : FemState) : (s.setFem r f).rtr = s.rtr := rfl
@[simp] theorem State.setFem_tm (s : State) (r : Nat) (f : FemState) : (s.setFem r f).tm = s.tm := rfl
@[simp] theorem State.setFem_pin (s : State) (r : Nat) (f : FemState) : (s.setFem r f).pin = s.pin := rfl

/-! ### State.setRtr: changes rtr -/

@[simp] theorem State.setRtr_pending (s : State) (r : RtrState) : (s.setRtr r).pending = s.pending := rfl
@[simp] theorem State.setRtr_ticks (s : State) (r : RtrState) : (s.setRtr r).ticks = s.ticks := rfl
@[simp] theorem State.setRtr_cpuHalf (s : State) (r : RtrState) : (s.setRtr r).cpuHalf = s.cpuHalf := rfl
@[simp] theorem State.setRtr_freeCtr (s : State) (r : RtrState) : (s.setRtr r).freeCtr = s.freeCtr := rfl
@[simp] theorem State.setRtr_regs (s : State) (r : RtrState) : (s.setRtr r).regs = s.regs := rfl
@[simp] theorem State.setRtr_shadow (s : State) (r : RtrState) : (s.setRtr r).shadow = s.shadow := rfl
@[simp] theorem State.setRtr_bus (s : State) (r : RtrState) : (s.setRtr r).bus = s.bus := rfl
@[simp] theorem State.setRtr_mem (s : State) (r : RtrState) : (s.setRtr r).mem = s.mem := rfl
@[simp] theorem State.setRtr_time (s : State) (r : RtrState) : (s.setRtr r).time = s.time := rfl
@[simp] theorem State.setRtr_fabric (s : State) (r : RtrState) : (s.setRtr r).fabric = s.fabric := rfl
@[simp] theorem State.setRtr_cores (s : State) (r : RtrState) : (s.setRtr r).cores = s.cores := rfl
@[simp] theorem State.setRtr_eng (s : State) (r : RtrState) : (s.setRtr r).eng = s.eng := rfl
@[simp] theorem State.setRtr_kprMem (s : State) (r : RtrState) : (s.setRtr r).kprMem = s.kprMem := rfl
@[simp] theorem State.setRtr_tap (s : State) (r : RtrState) : (s.setRtr r).tap = s.tap := rfl
@[simp] theorem State.setRtr_pwr (s : State) (r : RtrState) : (s.setRtr r).pwr = s.pwr := rfl
@[simp] theorem State.setRtr_chains (s : State) (r : RtrState) : (s.setRtr r).chains = s.chains := rfl
@[simp] theorem State.setRtr_fem (s : State) (r : RtrState) : (s.setRtr r).fem = s.fem := rfl
@[simp] theorem State.setRtr_duty (s : State) (r : RtrState) : (s.setRtr r).duty = s.duty := rfl
@[simp] theorem State.setRtr_sup (s : State) (r : RtrState) : (s.setRtr r).sup = s.sup := rfl
@[simp] theorem State.setRtr_lanes (s : State) (r : RtrState) : (s.setRtr r).lanes = s.lanes := rfl
@[simp] theorem State.setRtr_cap (s : State) (r : RtrState) : (s.setRtr r).cap = s.cap := rfl
@[simp] theorem State.setRtr_arrays (s : State) (r : RtrState) : (s.setRtr r).arrays = s.arrays := rfl
@[simp] theorem State.setRtr_rq (s : State) (r : RtrState) : (s.setRtr r).rq = s.rq := rfl
@[simp] theorem State.setRtr_wd (s : State) (r : RtrState) : (s.setRtr r).wd = s.wd := rfl
@[simp] theorem State.setRtr_arb (s : State) (r : RtrState) : (s.setRtr r).arb = s.arb := rfl
@[simp] theorem State.setRtr_ldg (s : State) (r : RtrState) : (s.setRtr r).ldg = s.ldg := rfl
@[simp] theorem State.setRtr_cph (s : State) (r : RtrState) : (s.setRtr r).cph = s.cph := rfl
@[simp] theorem State.setRtr_kpr (s : State) (r : RtrState) : (s.setRtr r).kpr = s.kpr := rfl
@[simp] theorem State.setRtr_lnk (s : State) (r : RtrState) : (s.setRtr r).lnk = s.lnk := rfl
@[simp] theorem State.setRtr_acc (s : State) (r : RtrState) : (s.setRtr r).acc = s.acc := rfl
@[simp] theorem State.setRtr_rtr (s : State) (r : RtrState) : (s.setRtr r).rtr = (r) := rfl
@[simp] theorem State.setRtr_tm (s : State) (r : RtrState) : (s.setRtr r).tm = s.tm := rfl
@[simp] theorem State.setRtr_pin (s : State) (r : RtrState) : (s.setRtr r).pin = s.pin := rfl

/-! ### State.setAcc: changes acc -/

@[simp] theorem State.setAcc_pending (s : State) (r : Nat) (a : AccState) : (s.setAcc r a).pending = s.pending := rfl
@[simp] theorem State.setAcc_ticks (s : State) (r : Nat) (a : AccState) : (s.setAcc r a).ticks = s.ticks := rfl
@[simp] theorem State.setAcc_cpuHalf (s : State) (r : Nat) (a : AccState) : (s.setAcc r a).cpuHalf = s.cpuHalf := rfl
@[simp] theorem State.setAcc_freeCtr (s : State) (r : Nat) (a : AccState) : (s.setAcc r a).freeCtr = s.freeCtr := rfl
@[simp] theorem State.setAcc_regs (s : State) (r : Nat) (a : AccState) : (s.setAcc r a).regs = s.regs := rfl
@[simp] theorem State.setAcc_shadow (s : State) (r : Nat) (a : AccState) : (s.setAcc r a).shadow = s.shadow := rfl
@[simp] theorem State.setAcc_bus (s : State) (r : Nat) (a : AccState) : (s.setAcc r a).bus = s.bus := rfl
@[simp] theorem State.setAcc_mem (s : State) (r : Nat) (a : AccState) : (s.setAcc r a).mem = s.mem := rfl
@[simp] theorem State.setAcc_time (s : State) (r : Nat) (a : AccState) : (s.setAcc r a).time = s.time := rfl
@[simp] theorem State.setAcc_fabric (s : State) (r : Nat) (a : AccState) : (s.setAcc r a).fabric = s.fabric := rfl
@[simp] theorem State.setAcc_cores (s : State) (r : Nat) (a : AccState) : (s.setAcc r a).cores = s.cores := rfl
@[simp] theorem State.setAcc_eng (s : State) (r : Nat) (a : AccState) : (s.setAcc r a).eng = s.eng := rfl
@[simp] theorem State.setAcc_kprMem (s : State) (r : Nat) (a : AccState) : (s.setAcc r a).kprMem = s.kprMem := rfl
@[simp] theorem State.setAcc_tap (s : State) (r : Nat) (a : AccState) : (s.setAcc r a).tap = s.tap := rfl
@[simp] theorem State.setAcc_pwr (s : State) (r : Nat) (a : AccState) : (s.setAcc r a).pwr = s.pwr := rfl
@[simp] theorem State.setAcc_chains (s : State) (r : Nat) (a : AccState) : (s.setAcc r a).chains = s.chains := rfl
@[simp] theorem State.setAcc_fem (s : State) (r : Nat) (a : AccState) : (s.setAcc r a).fem = s.fem := rfl
@[simp] theorem State.setAcc_duty (s : State) (r : Nat) (a : AccState) : (s.setAcc r a).duty = s.duty := rfl
@[simp] theorem State.setAcc_sup (s : State) (r : Nat) (a : AccState) : (s.setAcc r a).sup = s.sup := rfl
@[simp] theorem State.setAcc_lanes (s : State) (r : Nat) (a : AccState) : (s.setAcc r a).lanes = s.lanes := rfl
@[simp] theorem State.setAcc_cap (s : State) (r : Nat) (a : AccState) : (s.setAcc r a).cap = s.cap := rfl
@[simp] theorem State.setAcc_arrays (s : State) (r : Nat) (a : AccState) : (s.setAcc r a).arrays = s.arrays := rfl
@[simp] theorem State.setAcc_rq (s : State) (r : Nat) (a : AccState) : (s.setAcc r a).rq = s.rq := rfl
@[simp] theorem State.setAcc_wd (s : State) (r : Nat) (a : AccState) : (s.setAcc r a).wd = s.wd := rfl
@[simp] theorem State.setAcc_arb (s : State) (r : Nat) (a : AccState) : (s.setAcc r a).arb = s.arb := rfl
@[simp] theorem State.setAcc_ldg (s : State) (r : Nat) (a : AccState) : (s.setAcc r a).ldg = s.ldg := rfl
@[simp] theorem State.setAcc_cph (s : State) (r : Nat) (a : AccState) : (s.setAcc r a).cph = s.cph := rfl
@[simp] theorem State.setAcc_kpr (s : State) (r : Nat) (a : AccState) : (s.setAcc r a).kpr = s.kpr := rfl
@[simp] theorem State.setAcc_lnk (s : State) (r : Nat) (a : AccState) : (s.setAcc r a).lnk = s.lnk := rfl
@[simp] theorem State.setAcc_acc (s : State) (r : Nat) (a : AccState) : (s.setAcc r a).acc = (SMap.set (fun _ => AccState.reset) s.acc r a) := rfl
@[simp] theorem State.setAcc_rtr (s : State) (r : Nat) (a : AccState) : (s.setAcc r a).rtr = s.rtr := rfl
@[simp] theorem State.setAcc_tm (s : State) (r : Nat) (a : AccState) : (s.setAcc r a).tm = s.tm := rfl
@[simp] theorem State.setAcc_pin (s : State) (r : Nat) (a : AccState) : (s.setAcc r a).pin = s.pin := rfl

/-! ### State.setSup: changes sup -/

@[simp] theorem State.setSup_pending (s : State) (l : List SupReq) : (s.setSup l).pending = s.pending := rfl
@[simp] theorem State.setSup_ticks (s : State) (l : List SupReq) : (s.setSup l).ticks = s.ticks := rfl
@[simp] theorem State.setSup_cpuHalf (s : State) (l : List SupReq) : (s.setSup l).cpuHalf = s.cpuHalf := rfl
@[simp] theorem State.setSup_freeCtr (s : State) (l : List SupReq) : (s.setSup l).freeCtr = s.freeCtr := rfl
@[simp] theorem State.setSup_regs (s : State) (l : List SupReq) : (s.setSup l).regs = s.regs := rfl
@[simp] theorem State.setSup_shadow (s : State) (l : List SupReq) : (s.setSup l).shadow = s.shadow := rfl
@[simp] theorem State.setSup_bus (s : State) (l : List SupReq) : (s.setSup l).bus = s.bus := rfl
@[simp] theorem State.setSup_mem (s : State) (l : List SupReq) : (s.setSup l).mem = s.mem := rfl
@[simp] theorem State.setSup_time (s : State) (l : List SupReq) : (s.setSup l).time = s.time := rfl
@[simp] theorem State.setSup_fabric (s : State) (l : List SupReq) : (s.setSup l).fabric = s.fabric := rfl
@[simp] theorem State.setSup_cores (s : State) (l : List SupReq) : (s.setSup l).cores = s.cores := rfl
@[simp] theorem State.setSup_eng (s : State) (l : List SupReq) : (s.setSup l).eng = s.eng := rfl
@[simp] theorem State.setSup_kprMem (s : State) (l : List SupReq) : (s.setSup l).kprMem = s.kprMem := rfl
@[simp] theorem State.setSup_tap (s : State) (l : List SupReq) : (s.setSup l).tap = s.tap := rfl
@[simp] theorem State.setSup_pwr (s : State) (l : List SupReq) : (s.setSup l).pwr = s.pwr := rfl
@[simp] theorem State.setSup_chains (s : State) (l : List SupReq) : (s.setSup l).chains = s.chains := rfl
@[simp] theorem State.setSup_fem (s : State) (l : List SupReq) : (s.setSup l).fem = s.fem := rfl
@[simp] theorem State.setSup_duty (s : State) (l : List SupReq) : (s.setSup l).duty = s.duty := rfl
@[simp] theorem State.setSup_sup (s : State) (l : List SupReq) : (s.setSup l).sup = (l) := rfl
@[simp] theorem State.setSup_lanes (s : State) (l : List SupReq) : (s.setSup l).lanes = s.lanes := rfl
@[simp] theorem State.setSup_cap (s : State) (l : List SupReq) : (s.setSup l).cap = s.cap := rfl
@[simp] theorem State.setSup_arrays (s : State) (l : List SupReq) : (s.setSup l).arrays = s.arrays := rfl
@[simp] theorem State.setSup_rq (s : State) (l : List SupReq) : (s.setSup l).rq = s.rq := rfl
@[simp] theorem State.setSup_wd (s : State) (l : List SupReq) : (s.setSup l).wd = s.wd := rfl
@[simp] theorem State.setSup_arb (s : State) (l : List SupReq) : (s.setSup l).arb = s.arb := rfl
@[simp] theorem State.setSup_ldg (s : State) (l : List SupReq) : (s.setSup l).ldg = s.ldg := rfl
@[simp] theorem State.setSup_cph (s : State) (l : List SupReq) : (s.setSup l).cph = s.cph := rfl
@[simp] theorem State.setSup_kpr (s : State) (l : List SupReq) : (s.setSup l).kpr = s.kpr := rfl
@[simp] theorem State.setSup_lnk (s : State) (l : List SupReq) : (s.setSup l).lnk = s.lnk := rfl
@[simp] theorem State.setSup_acc (s : State) (l : List SupReq) : (s.setSup l).acc = s.acc := rfl
@[simp] theorem State.setSup_rtr (s : State) (l : List SupReq) : (s.setSup l).rtr = s.rtr := rfl
@[simp] theorem State.setSup_tm (s : State) (l : List SupReq) : (s.setSup l).tm = s.tm := rfl
@[simp] theorem State.setSup_pin (s : State) (l : List SupReq) : (s.setSup l).pin = s.pin := rfl

/-! ### State.setTm: changes tm -/

@[simp] theorem State.setTm_pending (s : State) (t : TmState) : (s.setTm t).pending = s.pending := rfl
@[simp] theorem State.setTm_ticks (s : State) (t : TmState) : (s.setTm t).ticks = s.ticks := rfl
@[simp] theorem State.setTm_cpuHalf (s : State) (t : TmState) : (s.setTm t).cpuHalf = s.cpuHalf := rfl
@[simp] theorem State.setTm_freeCtr (s : State) (t : TmState) : (s.setTm t).freeCtr = s.freeCtr := rfl
@[simp] theorem State.setTm_regs (s : State) (t : TmState) : (s.setTm t).regs = s.regs := rfl
@[simp] theorem State.setTm_shadow (s : State) (t : TmState) : (s.setTm t).shadow = s.shadow := rfl
@[simp] theorem State.setTm_bus (s : State) (t : TmState) : (s.setTm t).bus = s.bus := rfl
@[simp] theorem State.setTm_mem (s : State) (t : TmState) : (s.setTm t).mem = s.mem := rfl
@[simp] theorem State.setTm_time (s : State) (t : TmState) : (s.setTm t).time = s.time := rfl
@[simp] theorem State.setTm_fabric (s : State) (t : TmState) : (s.setTm t).fabric = s.fabric := rfl
@[simp] theorem State.setTm_cores (s : State) (t : TmState) : (s.setTm t).cores = s.cores := rfl
@[simp] theorem State.setTm_eng (s : State) (t : TmState) : (s.setTm t).eng = s.eng := rfl
@[simp] theorem State.setTm_kprMem (s : State) (t : TmState) : (s.setTm t).kprMem = s.kprMem := rfl
@[simp] theorem State.setTm_tap (s : State) (t : TmState) : (s.setTm t).tap = s.tap := rfl
@[simp] theorem State.setTm_pwr (s : State) (t : TmState) : (s.setTm t).pwr = s.pwr := rfl
@[simp] theorem State.setTm_chains (s : State) (t : TmState) : (s.setTm t).chains = s.chains := rfl
@[simp] theorem State.setTm_fem (s : State) (t : TmState) : (s.setTm t).fem = s.fem := rfl
@[simp] theorem State.setTm_duty (s : State) (t : TmState) : (s.setTm t).duty = s.duty := rfl
@[simp] theorem State.setTm_sup (s : State) (t : TmState) : (s.setTm t).sup = s.sup := rfl
@[simp] theorem State.setTm_lanes (s : State) (t : TmState) : (s.setTm t).lanes = s.lanes := rfl
@[simp] theorem State.setTm_cap (s : State) (t : TmState) : (s.setTm t).cap = s.cap := rfl
@[simp] theorem State.setTm_arrays (s : State) (t : TmState) : (s.setTm t).arrays = s.arrays := rfl
@[simp] theorem State.setTm_rq (s : State) (t : TmState) : (s.setTm t).rq = s.rq := rfl
@[simp] theorem State.setTm_wd (s : State) (t : TmState) : (s.setTm t).wd = s.wd := rfl
@[simp] theorem State.setTm_arb (s : State) (t : TmState) : (s.setTm t).arb = s.arb := rfl
@[simp] theorem State.setTm_ldg (s : State) (t : TmState) : (s.setTm t).ldg = s.ldg := rfl
@[simp] theorem State.setTm_cph (s : State) (t : TmState) : (s.setTm t).cph = s.cph := rfl
@[simp] theorem State.setTm_kpr (s : State) (t : TmState) : (s.setTm t).kpr = s.kpr := rfl
@[simp] theorem State.setTm_lnk (s : State) (t : TmState) : (s.setTm t).lnk = s.lnk := rfl
@[simp] theorem State.setTm_acc (s : State) (t : TmState) : (s.setTm t).acc = s.acc := rfl
@[simp] theorem State.setTm_rtr (s : State) (t : TmState) : (s.setTm t).rtr = s.rtr := rfl
@[simp] theorem State.setTm_tm (s : State) (t : TmState) : (s.setTm t).tm = (t) := rfl
@[simp] theorem State.setTm_pin (s : State) (t : TmState) : (s.setTm t).pin = s.pin := rfl

/-! ### State.setFld: changes regs -/

@[simp] theorem State.setFld_pending (s : State) (f : FRef) (v : Nat) : (s.setFld f v).pending = s.pending := rfl
@[simp] theorem State.setFld_ticks (s : State) (f : FRef) (v : Nat) : (s.setFld f v).ticks = s.ticks := rfl
@[simp] theorem State.setFld_cpuHalf (s : State) (f : FRef) (v : Nat) : (s.setFld f v).cpuHalf = s.cpuHalf := rfl
@[simp] theorem State.setFld_freeCtr (s : State) (f : FRef) (v : Nat) : (s.setFld f v).freeCtr = s.freeCtr := rfl
@[simp] theorem State.setFld_shadow (s : State) (f : FRef) (v : Nat) : (s.setFld f v).shadow = s.shadow := rfl
@[simp] theorem State.setFld_bus (s : State) (f : FRef) (v : Nat) : (s.setFld f v).bus = s.bus := rfl
@[simp] theorem State.setFld_mem (s : State) (f : FRef) (v : Nat) : (s.setFld f v).mem = s.mem := rfl
@[simp] theorem State.setFld_time (s : State) (f : FRef) (v : Nat) : (s.setFld f v).time = s.time := rfl
@[simp] theorem State.setFld_fabric (s : State) (f : FRef) (v : Nat) : (s.setFld f v).fabric = s.fabric := rfl
@[simp] theorem State.setFld_cores (s : State) (f : FRef) (v : Nat) : (s.setFld f v).cores = s.cores := rfl
@[simp] theorem State.setFld_eng (s : State) (f : FRef) (v : Nat) : (s.setFld f v).eng = s.eng := rfl
@[simp] theorem State.setFld_kprMem (s : State) (f : FRef) (v : Nat) : (s.setFld f v).kprMem = s.kprMem := rfl
@[simp] theorem State.setFld_tap (s : State) (f : FRef) (v : Nat) : (s.setFld f v).tap = s.tap := rfl
@[simp] theorem State.setFld_pwr (s : State) (f : FRef) (v : Nat) : (s.setFld f v).pwr = s.pwr := rfl
@[simp] theorem State.setFld_chains (s : State) (f : FRef) (v : Nat) : (s.setFld f v).chains = s.chains := rfl
@[simp] theorem State.setFld_fem (s : State) (f : FRef) (v : Nat) : (s.setFld f v).fem = s.fem := rfl
@[simp] theorem State.setFld_duty (s : State) (f : FRef) (v : Nat) : (s.setFld f v).duty = s.duty := rfl
@[simp] theorem State.setFld_sup (s : State) (f : FRef) (v : Nat) : (s.setFld f v).sup = s.sup := rfl
@[simp] theorem State.setFld_lanes (s : State) (f : FRef) (v : Nat) : (s.setFld f v).lanes = s.lanes := rfl
@[simp] theorem State.setFld_cap (s : State) (f : FRef) (v : Nat) : (s.setFld f v).cap = s.cap := rfl
@[simp] theorem State.setFld_arrays (s : State) (f : FRef) (v : Nat) : (s.setFld f v).arrays = s.arrays := rfl
@[simp] theorem State.setFld_rq (s : State) (f : FRef) (v : Nat) : (s.setFld f v).rq = s.rq := rfl
@[simp] theorem State.setFld_wd (s : State) (f : FRef) (v : Nat) : (s.setFld f v).wd = s.wd := rfl
@[simp] theorem State.setFld_arb (s : State) (f : FRef) (v : Nat) : (s.setFld f v).arb = s.arb := rfl
@[simp] theorem State.setFld_ldg (s : State) (f : FRef) (v : Nat) : (s.setFld f v).ldg = s.ldg := rfl
@[simp] theorem State.setFld_cph (s : State) (f : FRef) (v : Nat) : (s.setFld f v).cph = s.cph := rfl
@[simp] theorem State.setFld_kpr (s : State) (f : FRef) (v : Nat) : (s.setFld f v).kpr = s.kpr := rfl
@[simp] theorem State.setFld_lnk (s : State) (f : FRef) (v : Nat) : (s.setFld f v).lnk = s.lnk := rfl
@[simp] theorem State.setFld_acc (s : State) (f : FRef) (v : Nat) : (s.setFld f v).acc = s.acc := rfl
@[simp] theorem State.setFld_rtr (s : State) (f : FRef) (v : Nat) : (s.setFld f v).rtr = s.rtr := rfl
@[simp] theorem State.setFld_tm (s : State) (f : FRef) (v : Nat) : (s.setFld f v).tm = s.tm := rfl
@[simp] theorem State.setFld_pin (s : State) (f : FRef) (v : Nat) : (s.setFld f v).pin = s.pin := rfl

/-! ### State.count: changes regs -/

@[simp] theorem State.count_pending (s : State) (f : FRef) (n : Nat) : (s.count f n).pending = s.pending := rfl
@[simp] theorem State.count_ticks (s : State) (f : FRef) (n : Nat) : (s.count f n).ticks = s.ticks := rfl
@[simp] theorem State.count_cpuHalf (s : State) (f : FRef) (n : Nat) : (s.count f n).cpuHalf = s.cpuHalf := rfl
@[simp] theorem State.count_freeCtr (s : State) (f : FRef) (n : Nat) : (s.count f n).freeCtr = s.freeCtr := rfl
@[simp] theorem State.count_shadow (s : State) (f : FRef) (n : Nat) : (s.count f n).shadow = s.shadow := rfl
@[simp] theorem State.count_bus (s : State) (f : FRef) (n : Nat) : (s.count f n).bus = s.bus := rfl
@[simp] theorem State.count_mem (s : State) (f : FRef) (n : Nat) : (s.count f n).mem = s.mem := rfl
@[simp] theorem State.count_time (s : State) (f : FRef) (n : Nat) : (s.count f n).time = s.time := rfl
@[simp] theorem State.count_fabric (s : State) (f : FRef) (n : Nat) : (s.count f n).fabric = s.fabric := rfl
@[simp] theorem State.count_cores (s : State) (f : FRef) (n : Nat) : (s.count f n).cores = s.cores := rfl
@[simp] theorem State.count_eng (s : State) (f : FRef) (n : Nat) : (s.count f n).eng = s.eng := rfl
@[simp] theorem State.count_kprMem (s : State) (f : FRef) (n : Nat) : (s.count f n).kprMem = s.kprMem := rfl
@[simp] theorem State.count_tap (s : State) (f : FRef) (n : Nat) : (s.count f n).tap = s.tap := rfl
@[simp] theorem State.count_pwr (s : State) (f : FRef) (n : Nat) : (s.count f n).pwr = s.pwr := rfl
@[simp] theorem State.count_chains (s : State) (f : FRef) (n : Nat) : (s.count f n).chains = s.chains := rfl
@[simp] theorem State.count_fem (s : State) (f : FRef) (n : Nat) : (s.count f n).fem = s.fem := rfl
@[simp] theorem State.count_duty (s : State) (f : FRef) (n : Nat) : (s.count f n).duty = s.duty := rfl
@[simp] theorem State.count_sup (s : State) (f : FRef) (n : Nat) : (s.count f n).sup = s.sup := rfl
@[simp] theorem State.count_lanes (s : State) (f : FRef) (n : Nat) : (s.count f n).lanes = s.lanes := rfl
@[simp] theorem State.count_cap (s : State) (f : FRef) (n : Nat) : (s.count f n).cap = s.cap := rfl
@[simp] theorem State.count_arrays (s : State) (f : FRef) (n : Nat) : (s.count f n).arrays = s.arrays := rfl
@[simp] theorem State.count_rq (s : State) (f : FRef) (n : Nat) : (s.count f n).rq = s.rq := rfl
@[simp] theorem State.count_wd (s : State) (f : FRef) (n : Nat) : (s.count f n).wd = s.wd := rfl
@[simp] theorem State.count_arb (s : State) (f : FRef) (n : Nat) : (s.count f n).arb = s.arb := rfl
@[simp] theorem State.count_ldg (s : State) (f : FRef) (n : Nat) : (s.count f n).ldg = s.ldg := rfl
@[simp] theorem State.count_cph (s : State) (f : FRef) (n : Nat) : (s.count f n).cph = s.cph := rfl
@[simp] theorem State.count_kpr (s : State) (f : FRef) (n : Nat) : (s.count f n).kpr = s.kpr := rfl
@[simp] theorem State.count_lnk (s : State) (f : FRef) (n : Nat) : (s.count f n).lnk = s.lnk := rfl
@[simp] theorem State.count_acc (s : State) (f : FRef) (n : Nat) : (s.count f n).acc = s.acc := rfl
@[simp] theorem State.count_rtr (s : State) (f : FRef) (n : Nat) : (s.count f n).rtr = s.rtr := rfl
@[simp] theorem State.count_tm (s : State) (f : FRef) (n : Nat) : (s.count f n).tm = s.tm := rfl
@[simp] theorem State.count_pin (s : State) (f : FRef) (n : Nat) : (s.count f n).pin = s.pin := rfl

/-! ### State.pulse: changes fabric -/

@[simp] theorem State.pulse_pending (s : State) (l : Nat) : (s.pulse l).pending = s.pending := by unfold State.pulse; split <;> rfl
@[simp] theorem State.pulse_ticks (s : State) (l : Nat) : (s.pulse l).ticks = s.ticks := by unfold State.pulse; split <;> rfl
@[simp] theorem State.pulse_cpuHalf (s : State) (l : Nat) : (s.pulse l).cpuHalf = s.cpuHalf := by unfold State.pulse; split <;> rfl
@[simp] theorem State.pulse_freeCtr (s : State) (l : Nat) : (s.pulse l).freeCtr = s.freeCtr := by unfold State.pulse; split <;> rfl
@[simp] theorem State.pulse_regs (s : State) (l : Nat) : (s.pulse l).regs = s.regs := by unfold State.pulse; split <;> rfl
@[simp] theorem State.pulse_shadow (s : State) (l : Nat) : (s.pulse l).shadow = s.shadow := by unfold State.pulse; split <;> rfl
@[simp] theorem State.pulse_bus (s : State) (l : Nat) : (s.pulse l).bus = s.bus := by unfold State.pulse; split <;> rfl
@[simp] theorem State.pulse_mem (s : State) (l : Nat) : (s.pulse l).mem = s.mem := by unfold State.pulse; split <;> rfl
@[simp] theorem State.pulse_time (s : State) (l : Nat) : (s.pulse l).time = s.time := by unfold State.pulse; split <;> rfl
@[simp] theorem State.pulse_cores (s : State) (l : Nat) : (s.pulse l).cores = s.cores := by unfold State.pulse; split <;> rfl
@[simp] theorem State.pulse_eng (s : State) (l : Nat) : (s.pulse l).eng = s.eng := by unfold State.pulse; split <;> rfl
@[simp] theorem State.pulse_kprMem (s : State) (l : Nat) : (s.pulse l).kprMem = s.kprMem := by unfold State.pulse; split <;> rfl
@[simp] theorem State.pulse_tap (s : State) (l : Nat) : (s.pulse l).tap = s.tap := by unfold State.pulse; split <;> rfl
@[simp] theorem State.pulse_pwr (s : State) (l : Nat) : (s.pulse l).pwr = s.pwr := by unfold State.pulse; split <;> rfl
@[simp] theorem State.pulse_chains (s : State) (l : Nat) : (s.pulse l).chains = s.chains := by unfold State.pulse; split <;> rfl
@[simp] theorem State.pulse_fem (s : State) (l : Nat) : (s.pulse l).fem = s.fem := by unfold State.pulse; split <;> rfl
@[simp] theorem State.pulse_duty (s : State) (l : Nat) : (s.pulse l).duty = s.duty := by unfold State.pulse; split <;> rfl
@[simp] theorem State.pulse_sup (s : State) (l : Nat) : (s.pulse l).sup = s.sup := by unfold State.pulse; split <;> rfl
@[simp] theorem State.pulse_lanes (s : State) (l : Nat) : (s.pulse l).lanes = s.lanes := by unfold State.pulse; split <;> rfl
@[simp] theorem State.pulse_cap (s : State) (l : Nat) : (s.pulse l).cap = s.cap := by unfold State.pulse; split <;> rfl
@[simp] theorem State.pulse_arrays (s : State) (l : Nat) : (s.pulse l).arrays = s.arrays := by unfold State.pulse; split <;> rfl
@[simp] theorem State.pulse_rq (s : State) (l : Nat) : (s.pulse l).rq = s.rq := by unfold State.pulse; split <;> rfl
@[simp] theorem State.pulse_wd (s : State) (l : Nat) : (s.pulse l).wd = s.wd := by unfold State.pulse; split <;> rfl
@[simp] theorem State.pulse_arb (s : State) (l : Nat) : (s.pulse l).arb = s.arb := by unfold State.pulse; split <;> rfl
@[simp] theorem State.pulse_ldg (s : State) (l : Nat) : (s.pulse l).ldg = s.ldg := by unfold State.pulse; split <;> rfl
@[simp] theorem State.pulse_cph (s : State) (l : Nat) : (s.pulse l).cph = s.cph := by unfold State.pulse; split <;> rfl
@[simp] theorem State.pulse_kpr (s : State) (l : Nat) : (s.pulse l).kpr = s.kpr := by unfold State.pulse; split <;> rfl
@[simp] theorem State.pulse_lnk (s : State) (l : Nat) : (s.pulse l).lnk = s.lnk := by unfold State.pulse; split <;> rfl
@[simp] theorem State.pulse_acc (s : State) (l : Nat) : (s.pulse l).acc = s.acc := by unfold State.pulse; split <;> rfl
@[simp] theorem State.pulse_rtr (s : State) (l : Nat) : (s.pulse l).rtr = s.rtr := by unfold State.pulse; split <;> rfl
@[simp] theorem State.pulse_tm (s : State) (l : Nat) : (s.pulse l).tm = s.tm := by unfold State.pulse; split <;> rfl
@[simp] theorem State.pulse_pin (s : State) (l : Nat) : (s.pulse l).pin = s.pin := by unfold State.pulse; split <;> rfl

end Sys2Proof.Machine
end

