-- ==== Sys2Proof/Laws/Fields.lean ====
section
/-!
SUPPORT. Bit fields and register fields: a field reads as written, and a write leaves every other field and every other part of
the state alone.
-/
namespace Sys2Proof.Machine

/-! ## Bits of a word -/

theorem getBits_testBit (w : Word) (msb lsb i : Nat) :
    (getBits w msb lsb).testBit i = (decide (i < msb + 1 - lsb) && w.getLsbD (lsb + i)) := by
  simp only [getBits, Nat.testBit_mod_two_pow, Nat.testBit_shiftRight, BitVec.testBit_toNat]

theorem setBits_getLsbD (w : Word) {msb lsb : Nat} (x : Nat) (hm : msb ≤ 31) (i : Nat) :
    (setBits w msb lsb x).getLsbD i =
      if lsb ≤ i ∧ i ≤ msb then x.testBit (i - lsb) else w.getLsbD i := by
  simp only [setBits, BitVec.getLsbD_or, BitVec.getLsbD_and, BitVec.getLsbD_not, BitVec.getLsbD_shiftLeft,
    BitVec.getLsbD_ofNat, Nat.testBit_two_pow_sub_one]
  by_cases h32 : i < 32
  · by_cases h : lsb ≤ i ∧ i ≤ msb
    · have h1 : i - lsb < 32 := by omega
      have h2 : i - lsb < msb + 1 - lsb := by omega
      have h3 : ¬ i < lsb := by omega
      simp only [h, h32, h1, h2, h3, decide_true, decide_false, Bool.not_true, Bool.not_false, Bool.true_and,
        Bool.and_true, Bool.and_false, Bool.false_or, and_self, if_true]
    · rcases Nat.lt_or_ge i lsb with hl | hl
      · have h4 : ¬ lsb ≤ i := by omega
        simp only [hl, h4, h32, decide_true, Bool.not_true, Bool.false_and, Bool.and_false, Bool.not_false, Bool.and_true,
          Bool.or_false, false_and, if_false]
      · have h5 : ¬ i ≤ msb := by omega
        have h6 : ¬ i - lsb < msb + 1 - lsb := by omega
        simp only [h5, h6, h32, decide_true, decide_false, Bool.and_false, Bool.not_false, Bool.and_true,
          Bool.or_false, and_false, if_false]
  · have h : ¬ (lsb ≤ i ∧ i ≤ msb) := by omega
    have hl : 32 ≤ i := by omega
    rw [if_neg h, BitVec.getLsbD_of_ge _ _ hl]
    simp only [h32, decide_false, Bool.false_and, Bool.and_false, Bool.or_false]

/-- A field reads as written, cut to its width. -/
theorem getBits_setBits_same (w : Word) {msb lsb : Nat} (x : Nat) (hm : msb ≤ 31) :
    getBits (setBits w msb lsb x) msb lsb = x % 2 ^ (msb + 1 - lsb) := by
  apply Nat.eq_of_testBit_eq
  intro i
  rw [getBits_testBit, setBits_getLsbD w x hm, Nat.testBit_mod_two_pow]
  by_cases h : i < msb + 1 - lsb
  · have h1 : lsb ≤ lsb + i ∧ lsb + i ≤ msb := by omega
    simp [h, h1]
  · simp [h]

/-- A field reads as before a write of bits that it does not share. -/
theorem getBits_setBits_other (w : Word) {msb lsb m l : Nat} (x : Nat) (hm : msb ≤ 31) (h : m < lsb ∨ msb < l) :
    getBits (setBits w msb lsb x) m l = getBits w m l := by
  apply Nat.eq_of_testBit_eq
  intro i
  rw [getBits_testBit, getBits_testBit, setBits_getLsbD w x hm]
  by_cases hi : i < m + 1 - l
  · have h1 : ¬ (lsb ≤ l + i ∧ l + i ≤ msb) := by omega
    simp [hi, h1]
  · simp [hi]

/-! ## Registers and fields of the state -/

theorem State.reg_setReg (s : State) (a b : Nat) (w : Word) : (s.setReg a w).reg b = if b = a then w else s.reg b :=
  SMap.get_set s.regs a b w

@[simp] theorem State.reg_setReg_same (s : State) (a : Nat) (w : Word) : (s.setReg a w).reg a = w :=
  SMap.get_set_same s.regs a w

theorem State.reg_setReg_other (s : State) {a b : Nat} (w : Word) (h : b ≠ a) : (s.setReg a w).reg b = s.reg b :=
  SMap.get_set_other s.regs w h

/-- A field reads as set, cut to its width. -/
theorem State.fld_setFld_same (s : State) {f : FRef} (v : Nat) (h : f.msb ≤ 31) :
    (s.setFld f v).fld f = v % 2 ^ (f.msb + 1 - f.lsb) := by
  simp [State.fld, State.setFld, getBits_setBits_same _ _ h]

/-- A field keeps its value when a field in another register, or with other bits, is set. -/
theorem State.fld_setFld_other (s : State) {f g : FRef} (v : Nat) (h : f.msb ≤ 31)
    (hd : g.addr ≠ f.addr ∨ g.msb < f.lsb ∨ f.msb < g.lsb) : (s.setFld f v).fld g = s.fld g := by
  unfold State.fld State.setFld
  rw [State.reg_setReg]
  by_cases ha : g.addr = f.addr
  · rw [if_pos ha, getBits_setBits_other _ _ h (by omega), ha]
  · rw [if_neg ha]

theorem State.bit_setFld_same (s : State) {f : FRef} (v : Nat) (h : f.msb ≤ 31) :
    (s.setFld f v).bit f = (v % 2 ^ (f.msb + 1 - f.lsb) != 0) := by
  simp [State.bit, State.fld_setFld_same s v h]

theorem State.bit_setFld_other (s : State) {f g : FRef} (v : Nat) (h : f.msb ≤ 31)
    (hd : g.addr ≠ f.addr ∨ g.msb < f.lsb ∨ f.msb < g.lsb) : (s.setFld f v).bit g = s.bit g := by
  simp [State.bit, State.fld_setFld_other s v h hd]

/-! ## Pulses -/

@[simp] theorem State.fld_pulse (s : State) (l : Nat) (f : FRef) : (s.pulse l).fld f = s.fld f := by
  simp [State.fld, State.reg]

@[simp] theorem State.bit_pulse (s : State) (l : Nat) (f : FRef) : (s.pulse l).bit f = s.bit f := by
  simp [State.bit]

/-- A pulsed line is in the fabric with this tick (R122). -/
theorem State.pulse_in_fabric (s : State) (l : Nat) : (⟨l, s.ticks⟩ : Pulse) ∈ (s.pulse l).fabric := by
  unfold State.pulse
  split
  · rename_i h
    simp only [List.any_eq_true, Bool.and_eq_true, beq_iff_eq] at h
    obtain ⟨p, hp, h1, h2⟩ := h
    have : p = ⟨l, s.ticks⟩ := by
      cases p
      simp_all
    exact this ▸ hp
  · simp

/-! ## Memory -/

/-- A byte reads as written; every other byte reads as before. -/
theorem State.byte_setByte (s : State) (a b : Nat) (v : Byte) : (s.setByte a v).byte b = if b = a then v else s.byte b :=
  SMap.get_set s.mem a b v

/-- A write of bytes leaves every byte outside them alone. -/
theorem State.byte_setBytes_other (s : State) (a b : Nat) (l : List Byte) (h : b < a ∨ a + l.length ≤ b) :
    (s.setBytes a l).byte b = s.byte b := by
  induction l generalizing s a with
  | nil => rfl
  | cons v l ih =>
    simp only [List.length_cons] at h
    rw [State.setBytes, ih _ _ (by omega), State.byte_setByte, if_neg (by omega)]

/-- A write of bytes puts each in its place. -/
theorem State.byte_setBytes_in (s : State) (a i : Nat) (l : List Byte) (h : i < l.length) :
    (s.setBytes a l).byte (a + i) = l[i] := by
  induction l generalizing s a i with
  | nil => simp at h
  | cons v l ih =>
    cases i with
    | zero => rw [State.setBytes, State.byte_setBytes_other _ _ _ _ (by omega), State.byte_setByte]; simp
    | succ i =>
      have := ih (s.setByte a v) (a + 1) i (by simpa using h)
      rw [State.setBytes, show a + (i + 1) = a + 1 + i by omega, this]
      simp

/-! ## Cores and general registers -/

theorem State.core_setCore (s : State) (c d : Nat) (x : Core) : (s.setCore c x).core d = if d = c then x else s.core d :=
  SMap.get_set s.cores c d x

@[simp] theorem State.core_setCore_same (s : State) (c : Nat) (x : Core) : (s.setCore c x).core c = x :=
  SMap.get_set_same s.cores c x

theorem State.engine_setEngine (s : State) (e d : Nat) (x : Engine) :
    (s.setEngine e x).engine d = if d = e then x else s.engine d :=
  SMap.get_set s.eng e d x

/-- g0 reads as zero (R77). -/
@[simp] theorem Core.gr_zero (x : Core) : x.gr 0 = 0 := by simp [Core.gr]

theorem Core.gr_setG (x : Core) (r q : Nat) (v : DWord) :
    (x.setG r v).gr q = if q = r ∧ r ≠ 0 then v else x.gr q := by
  unfold Core.setG Core.gr
  by_cases h : r = 0
  · simp [h]
  · by_cases hq : q = 0
    · simp [hq, Ne.symm h]
    · simp only [h, hq, if_false, SMap.get_set]
      by_cases hr : q = r <;> simp [hr, h]

theorem Core.fr_setF (x : Core) (r q : Nat) (v : DWord) : (x.setF r v).fr q = if q = r then v else x.fr q :=
  SMap.get_set x.f r q v

end Sys2Proof.Machine
end

