-- ==== Sys2Proof/Laws/Follows.lean ====
section
/-!
SUPPORT. State.Follows: it is reflexive and transitive, updates of other fields keep it, and folds keep it.
-/
namespace Sys2Proof.Machine

theorem State.Follows.refl (s : State) : s.Follows s := ⟨rfl, Nat.le_refl _, Nat.le_refl _, id⟩

theorem State.Follows.trans {a b c : State} (h : a.Follows b) (k : b.Follows c) : a.Follows c :=
  ⟨k.queue.trans h.queue, Nat.le_trans h.time k.time, Nat.le_trans h.fresh k.fresh, fun x => k.form (h.form x)⟩

/-- An update that leaves the queue, the clocks and the shared tables as they were. -/
theorem State.Follows.upd {z s t : State} (h : z.Follows s) (hq : t.pending = s.pending) (ht : t.ticks = s.ticks)
    (hf : t.freeCtr = s.freeCtr) (h1 : t.mem = s.mem) (h2 : t.kprMem = s.kprMem) (h3 : t.regs = s.regs)
    (h4 : t.shadow = s.shadow) (h5 : t.cores = s.cores) (h6 : t.eng = s.eng) : z.Follows t :=
  ⟨hq.trans h.queue, ht ▸ h.time, hf ▸ h.fresh, fun c =>
    let k := h.form c
    ⟨h1 ▸ k.mem, h2 ▸ k.kprMem, h3 ▸ k.regs, h4 ▸ k.shadow, h5 ▸ k.cores, h6 ▸ k.eng⟩⟩

/-- A record that differs from a state in other fields only. -/
theorem State.Follows.mk_upd {z s : State} {cpuHalf' bus' time' fabric' tap' pwr' chains' fem' duty' sup' lanes' cap' arrays' rq' wd'
    arb' ldg' cph' kpr' lnk' acc' rtr' tm' pin'} (h : z.Follows s) :
    z.Follows ⟨s.pending, s.ticks, cpuHalf', s.freeCtr, s.regs, s.shadow, bus', s.mem, time', fabric', s.cores, s.eng, s.kprMem, tap',
    pwr', chains', fem', duty', sup', lanes', cap', arrays', rq', wd', arb', ldg', cph', kpr', lnk', acc', rtr', tm', pin'⟩
    :=
  h.upd rfl rfl rfl rfl rfl rfl rfl rfl rfl

/-- An update of the shared tables that keeps their form. -/
theorem State.Follows.tables {z s t : State} (h : z.Follows s) (hq : t.pending = s.pending) (ht : t.ticks = s.ticks)
    (hf : t.freeCtr = s.freeCtr) (k : s.Canonical → t.Canonical) : z.Follows t :=
  ⟨hq.trans h.queue, ht ▸ h.time, hf ▸ h.fresh, fun c => k (h.form c)⟩

/-- A fold of updates. -/
theorem State.Follows.foldl {α : Type} {z s : State} {f : State → α → State} (l : List α) (h : z.Follows s)
    (hf : ∀ s x, z.Follows s → z.Follows (f s x)) : z.Follows (l.foldl f s) := by
  induction l generalizing s with
  | nil => exact h
  | cons x l ih => exact ih (hf s x h)

/-- A fold that carries something beside the state. -/
theorem State.Follows.foldl_fst {α β : Type} {z : State} {p : State × β} {f : State × β → α → State × β} (l : List α)
    (h : z.Follows p.1) (hf : ∀ p x, z.Follows p.1 → z.Follows (f p x).1) : z.Follows (l.foldl f p).1 := by
  induction l generalizing p with
  | nil => exact h
  | cons x l ih => exact ih (hf p x h)

/-- A state that may be there. -/
theorem State.Follows.getD {z s : State} {o : Option State} (ho : ∀ t, o = some t → z.Follows t) (h : z.Follows s) :
    z.Follows (o.getD s) := by
  cases o with
  | none => exact h
  | some t => exact ho t rfl

/-- A choice on something that may be there. -/
theorem State.Follows.elim {α : Type} {z s : State} {o : Option α} {f : α → State} (h : z.Follows s)
    (hf : ∀ x, z.Follows (f x)) : z.Follows (o.elim s f) := by
  cases o with
  | none => exact h
  | some x => exact hf x

/-! ## The writes of the shared tables and clocks -/

theorem State.setReg_follows {z s : State} {a w} (h : z.Follows s) : z.Follows (s.setReg a w) :=
  h.tables rfl rfl rfl fun c => { c with regs := SMap.wf_set a w c.regs }

theorem State.setShw_follows {z s : State} {a w} (h : z.Follows s) : z.Follows (s.setShw a w) :=
  h.tables rfl rfl rfl fun c => { c with shadow := SMap.wf_set a w c.shadow }

theorem State.setByte_follows {z s : State} {a b} (h : z.Follows s) : z.Follows (s.setByte a b) :=
  h.tables rfl rfl rfl fun c => { c with mem := SMap.wf_set a b c.mem }

theorem State.setCore_follows {z s : State} {c x} (h : z.Follows s) : z.Follows (s.setCore c x) :=
  h.tables rfl rfl rfl fun k => { k with cores := SMap.wf_set c x k.cores }

theorem State.setEngine_follows {z s : State} {e x} (h : z.Follows s) : z.Follows (s.setEngine e x) :=
  h.tables rfl rfl rfl fun k => { k with eng := SMap.wf_set e x k.eng }

theorem State.takeFree_follows {z s : State} (h : z.Follows s) : z.Follows s.takeFree :=
  ⟨h.queue, h.time, Nat.le_succ_of_le h.fresh, fun c => let k := h.form c; ⟨k.mem, k.kprMem, k.regs, k.shadow, k.cores, k.eng⟩⟩

theorem putBytes_wf {m : SMap Byte} {a : Nat} (l : List Byte) (h : SMap.wf (fun _ => (0 : Byte)) m = true) :
    SMap.wf (fun _ => (0 : Byte)) (putBytes m a l) = true := by
  induction l generalizing m a with
  | nil => exact h
  | cons b l ih => exact ih (SMap.wf_set a b h)

theorem State.setBytes_follows {z s : State} {a l} (h : z.Follows s) : z.Follows (s.setBytes a l) := by
  induction l generalizing s a with
  | nil => exact h
  | cons b l ih => exact ih (State.setByte_follows h)

end Sys2Proof.Machine
end

