-- ==== Sys2Proof/Laws/FollowsOps.lean ====
section
/-!
SUPPORT. Every operation of Machine/Ops answers a state that follows (State.Follows).
-/
namespace Sys2Proof.Machine

theorem State.setFld_follows {z s : State} {a1 a2} (h : z.Follows s) : z.Follows (State.setFld s a1 a2) := by
  unfold State.setFld
  repeat' first
    | with_reducible assumption
    | with_reducible refine State.setReg_follows ?_
    | split
    | dsimp only

theorem State.count_follows {z s : State} {a1 a2} (h : z.Follows s) : z.Follows (State.count s a1 a2) := by
  unfold State.count
  repeat' first
    | with_reducible assumption
    | with_reducible refine State.setFld_follows ?_
    | split
    | dsimp only

theorem State.countWrap_follows {z s : State} {a1} (h : z.Follows s) : z.Follows (State.countWrap s a1) := by
  unfold State.countWrap
  repeat' first
    | with_reducible assumption
    | with_reducible refine State.setFld_follows ?_
    | split
    | dsimp only

theorem State.pulse_follows {z s : State} {a1} (h : z.Follows s) : z.Follows (State.pulse s a1) := by
  unfold State.pulse
  repeat' first
    | with_reducible assumption
    | split
    | dsimp only
    | fail_if_no_progress (with_reducible refine State.Follows.mk_upd ?_)

theorem State.pulseFree_follows {z s : State} {a1} (h : z.Follows s) : z.Follows (State.pulseFree s a1) := by
  unfold State.pulseFree
  repeat' first
    | with_reducible assumption
    | with_reducible refine State.pulse_follows ?_
    | split
    | dsimp only

theorem State.setDom_follows {z s : State} {a1 a2} (h : z.Follows s) : z.Follows (State.setDom s a1 a2) := by
  unfold State.setDom
  repeat' first
    | with_reducible assumption
    | split
    | dsimp only
    | fail_if_no_progress (with_reducible refine State.Follows.mk_upd ?_)

theorem State.wrLe_follows {z s : State} {a1 a2 a3} (h : z.Follows s) : z.Follows (State.wrLe s a1 a2 a3) := by
  unfold State.wrLe
  repeat' first
    | with_reducible assumption
    | with_reducible refine State.setBytes_follows ?_
    | split
    | dsimp only

theorem State.setArrays_follows {z s : State} {a1} (h : z.Follows s) : z.Follows (State.setArrays s a1) := by
  unfold State.setArrays
  repeat' first
    | with_reducible assumption
    | split
    | dsimp only
    | fail_if_no_progress (with_reducible refine State.Follows.mk_upd ?_)

theorem State.setWrong_follows {z s : State} {a1 a2} (h : z.Follows s) : z.Follows (State.setWrong s a1 a2) := by
  unfold State.setWrong
  repeat' first
    | with_reducible assumption
    | with_reducible refine State.setArrays_follows ?_
    | split
    | dsimp only

theorem State.logSpm_follows {z s : State} {a1 a2 a3} (h : z.Follows s) : z.Follows (State.logSpm s a1 a2 a3) := by
  unfold State.logSpm
  repeat' first
    | with_reducible assumption
    | with_reducible refine State.setFld_follows ?_
    | split
    | dsimp only

theorem State.logDmc_follows {z s : State} {a1 a2} (h : z.Follows s) : z.Follows (State.logDmc s a1 a2) := by
  unfold State.logDmc
  repeat' first
    | with_reducible assumption
    | with_reducible refine State.setFld_follows ?_
    | split
    | dsimp only

theorem State.corrected_follows {z s : State} {a1} (h : z.Follows s) : z.Follows (State.corrected s a1) := by
  unfold State.corrected
  repeat' first
    | with_reducible assumption
    | with_reducible refine State.setWrong_follows ?_
    | with_reducible refine State.setFld_follows ?_
    | with_reducible refine State.logDmc_follows ?_
    | with_reducible refine State.count_follows ?_
    | with_reducible refine State.logSpm_follows ?_
    | split
    | dsimp only

theorem State.uncorrectable_follows {z s : State} {a1} (h : z.Follows s) : z.Follows (State.uncorrectable s a1) := by
  unfold State.uncorrectable
  repeat' first
    | with_reducible assumption
    | with_reducible refine State.setFld_follows ?_
    | with_reducible refine State.logDmc_follows ?_
    | with_reducible refine State.count_follows ?_
    | with_reducible refine State.logSpm_follows ?_
    | split
    | dsimp only

theorem State.checkWord_follows {z s : State} {a1} (h : z.Follows s) : z.Follows (State.checkWord s a1).1 := by
  unfold State.checkWord
  repeat' first
    | with_reducible assumption
    | with_reducible refine State.corrected_follows ?_
    | with_reducible refine State.uncorrectable_follows ?_
    | split
    | dsimp only

theorem State.checkWord_follows_of {z s t : State} {a1} {r} (h : z.Follows s) (e : State.checkWord s a1 = (t, r)) : z.Follows t := by
  have k := State.checkWord_follows (z := z) (s := s) (a1 := a1) h
  rw [e] at k
  exact k

theorem State.seenWord_follows {z s : State} {a1 a2 a3} (h : z.Follows s) : z.Follows (State.seenWord s a1 a2 a3) := by
  unfold State.seenWord
  repeat' first
    | with_reducible assumption
    | with_reducible refine State.corrected_follows ?_
    | with_reducible refine State.uncorrectable_follows ?_
    | split
    | dsimp only

theorem State.seen_follows {z s : State} {a1 a2} (h : z.Follows s) : z.Follows (State.seen s a1 a2) := by
  unfold State.seen
  repeat' first
    | with_reducible assumption
    | with_reducible refine State.seenWord_follows ?_
    | with_reducible refine State.Follows.foldl _ ?_ (fun _ _ _ => ?_)
    | with_reducible refine State.Follows.foldl_fst _ ?_ (fun _ _ _ => ?_)
    | split
    | dsimp only

theorem State.mendWord_follows {z s : State} {a1 a2 a3} (h : z.Follows s) : z.Follows (State.mendWord s a1 a2 a3) := by
  unfold State.mendWord
  repeat' first
    | with_reducible assumption
    | with_reducible refine State.setWrong_follows ?_
    | with_reducible refine State.seenWord_follows ?_
    | split
    | dsimp only

theorem State.mend_follows {z s : State} {a1 a2} (h : z.Follows s) : z.Follows (State.mend s a1 a2) := by
  unfold State.mend
  repeat' first
    | with_reducible assumption
    | with_reducible refine State.mendWord_follows ?_
    | with_reducible refine State.Follows.foldl _ ?_ (fun _ _ _ => ?_)
    | with_reducible refine State.Follows.foldl_fst _ ?_ (fun _ _ _ => ?_)
    | split
    | dsimp only

theorem State.fill_follows {z s : State} {a1 a2} (h : z.Follows s) : z.Follows (State.fill s a1 a2) := by
  induction a2 generalizing s a1 with
  | nil => exact h
  | cons b l ih =>
    unfold State.fill
    repeat' first
      | with_reducible assumption
      | with_reducible refine ih ?_
      | with_reducible refine State.setByte_follows ?_
      | split
      | dsimp only

theorem State.breakResv_follows {z s : State} {a1 a2 a3} (h : z.Follows s) : z.Follows (State.breakResv s a1 a2 a3) := by
  unfold State.breakResv
  repeat' first
    | with_reducible assumption
    | with_reducible refine State.setCore_follows ?_
    | with_reducible refine State.Follows.foldl _ ?_ (fun _ _ _ => ?_)
    | with_reducible refine State.Follows.foldl_fst _ ?_ (fun _ _ _ => ?_)
    | split
    | dsimp only

theorem State.store_follows {z s : State} {a1 a2 a3} (h : z.Follows s) : z.Follows (State.store s a1 a2 a3) := by
  unfold State.store
  repeat' first
    | with_reducible assumption
    | with_reducible refine State.breakResv_follows ?_
    | with_reducible refine State.setBytes_follows ?_
    | split
    | dsimp only

theorem State.put_follows {z s : State} {a1 a2} (h : z.Follows s) : z.Follows (State.put s a1 a2) := by
  unfold State.put
  repeat' first
    | with_reducible assumption
    | with_reducible refine State.breakResv_follows ?_
    | with_reducible refine State.fill_follows ?_
    | with_reducible refine State.mend_follows ?_
    | split
    | dsimp only

theorem State.putLe_follows {z s : State} {a1 a2 a3} (h : z.Follows s) : z.Follows (State.putLe s a1 a2 a3) := by
  unfold State.putLe
  repeat' first
    | with_reducible assumption
    | with_reducible refine State.put_follows ?_
    | split
    | dsimp only

end Sys2Proof.Machine
end

