-- ==== Sys2Proof/Laws/FollowsAccess.lean ====
section
/-!
SUPPORT. Every operation of Machine/Access answers a state that follows (State.Follows).
-/
namespace Sys2Proof.Machine

theorem State.touchDomain_follows {z s : State} {a1} (h : z.Follows s) : z.Follows (State.touchDomain s a1) := by
  unfold State.touchDomain
  repeat' first
    | with_reducible assumption
    | split
    | dsimp only
    | fail_if_no_progress (with_reducible refine State.Follows.mk_upd ?_)

theorem State.captureFailure_follows {z s : State} {a1 a2 a3 a4} (h : z.Follows s) : z.Follows (State.captureFailure s a1 a2 a3 a4) := by
  unfold State.captureFailure
  repeat' first
    | with_reducible assumption
    | with_reducible refine State.pulse_follows ?_
    | with_reducible refine State.setFld_follows ?_
    | split
    | dsimp only

theorem State.answer_follows {z s : State} {a1 a2 a3} (h : z.Follows s) : z.Follows (State.answer s a1 a2 a3) := by
  unfold State.answer
  repeat' first
    | with_reducible assumption
    | split
    | dsimp only
    | fail_if_no_progress (with_reducible refine State.Follows.mk_upd ?_)

theorem State.failAccess_follows {z s : State} {a1 a2 a3 a4} (h : z.Follows s) : z.Follows (State.failAccess s a1 a2 a3 a4) := by
  unfold State.failAccess
  repeat' first
    | with_reducible assumption
    | with_reducible refine State.answer_follows ?_
    | with_reducible refine State.setFld_follows ?_
    | with_reducible refine State.captureFailure_follows ?_
    | split
    | dsimp only
    | fail_if_no_progress (with_reducible refine State.Follows.mk_upd ?_)

theorem State.setCapture_follows {z s : State} {a1 a2 a3} (h : z.Follows s) : z.Follows (State.setCapture s a1 a2 a3) := by
  unfold State.setCapture
  repeat' first
    | with_reducible assumption
    | split
    | dsimp only
    | fail_if_no_progress (with_reducible refine State.Follows.mk_upd ?_)

theorem State.setLatch_follows {z s : State} {a1 a2 a3} (h : z.Follows s) : z.Follows (State.setLatch s a1 a2 a3) := by
  unfold State.setLatch
  repeat' first
    | with_reducible assumption
    | split
    | dsimp only
    | fail_if_no_progress (with_reducible refine State.Follows.mk_upd ?_)

theorem State.emptyLatches_follows {z s : State} {a1 a2} (h : z.Follows s) : z.Follows (State.emptyLatches s a1 a2) := by
  unfold State.emptyLatches
  repeat' first
    | with_reducible assumption
    | split
    | dsimp only
    | fail_if_no_progress (with_reducible refine State.Follows.mk_upd ?_)

theorem State.dropWide_follows {z s : State} {a1} (h : z.Follows s) : z.Follows (State.dropWide s a1) := by
  unfold State.dropWide
  repeat' first
    | with_reducible assumption
    | split
    | dsimp only
    | fail_if_no_progress (with_reducible refine State.Follows.mk_upd ?_)

theorem State.tapWrite_follows {z s : State} {a1 a2 a3 a4 a5 a6} (h : z.Follows s) : z.Follows (State.tapWrite s a1 a2 a3 a4 a5 a6) := by
  unfold State.tapWrite
  repeat' first
    | with_reducible assumption
    | split
    | dsimp only
    | fail_if_no_progress (with_reducible refine State.Follows.mk_upd ?_)

theorem State.tapCommand_follows {z s : State} {a1 a2 a3 a4 a5 a6} (h : z.Follows s) : z.Follows (State.tapCommand s a1 a2 a3 a4 a5 a6) := by
  unfold State.tapCommand
  repeat' first
    | with_reducible assumption
    | split
    | dsimp only
    | fail_if_no_progress (with_reducible refine State.Follows.mk_upd ?_)

end Sys2Proof.Machine
end

