-- ==== Sys2Proof/Laws/FollowsNetTime.lean ====
section
/-!
SUPPORT. Every operation of Machine/NetTime answers a state that follows (State.Follows).
-/
namespace Sys2Proof.Machine

theorem State.adjStatus_follows {z s : State} {a1 a2} (h : z.Follows s) : z.Follows (State.adjStatus s a1 a2) := by
  unfold State.adjStatus
  repeat' first
    | with_reducible assumption
    | with_reducible refine State.pulse_follows ?_
    | with_reducible refine State.setFld_follows ?_
    | with_reducible refine State.count_follows ?_
    | split
    | dsimp only

theorem State.tickDomain_follows {z s : State} {a1} (h : z.Follows s) : z.Follows (State.tickDomain s a1) := by
  unfold State.tickDomain
  repeat' first
    | with_reducible assumption
    | with_reducible refine State.adjStatus_follows ?_
    | with_reducible refine State.setDom_follows ?_
    | split
    | dsimp only

theorem State.rescale_follows {z s : State} (h : z.Follows s) : z.Follows (State.rescale s) := by
  unfold State.rescale
  repeat' first
    | with_reducible assumption
    | split
    | dsimp only
    | fail_if_no_progress (with_reducible refine State.Follows.mk_upd ?_)

theorem State.decideSwitch_follows {z s : State} {a1} (h : z.Follows s) : z.Follows (State.decideSwitch s a1) := by
  unfold State.decideSwitch
  repeat' first
    | with_reducible assumption
    | with_reducible refine State.pulse_follows ?_
    | with_reducible refine State.rescale_follows ?_
    | with_reducible refine State.setFld_follows ?_
    | split
    | dsimp only
    | fail_if_no_progress (with_reducible refine State.Follows.mk_upd ?_)

theorem State.tickOn_follows {z s : State} (h : z.Follows s) : z.Follows (State.tickOn s) := by
  unfold State.tickOn
  repeat' first
    | with_reducible assumption
    | with_reducible refine State.pulse_follows ?_
    | with_reducible refine State.tickDomain_follows ?_
    | with_reducible refine State.decideSwitch_follows ?_
    | split
    | dsimp only
    | fail_if_no_progress (with_reducible refine State.Follows.mk_upd ?_)

theorem State.tick_up_follows {z s : State} {n} (h : z.Follows s) :
    z.Follows ({ s with ticks := s.ticks + 1, cpuHalf := n } : State) :=
  ⟨h.queue, Nat.le_succ_of_le h.time, h.fresh, fun c => let k := h.form c; ⟨k.mem, k.kprMem, k.regs, k.shadow, k.cores, k.eng⟩⟩

theorem State.tickTime_follows {z s : State} (h : z.Follows s) : z.Follows s.tickTime := by
  have h0 := State.tick_up_follows (n := s.cpuHalf + s.halfRate 0) h
  unfold State.tickTime
  dsimp only
  split
  · exact State.tickOn_follows h0
  · split <;> exact h0.upd rfl rfl rfl rfl rfl rfl rfl rfl rfl

theorem State.slewEnd_follows {z s : State} (h : z.Follows s) : z.Follows (State.slewEnd s) := by
  unfold State.slewEnd
  repeat' first
    | with_reducible assumption
    | with_reducible refine State.pulse_follows ?_
    | with_reducible refine State.setFld_follows ?_
    | split
    | dsimp only

theorem State.afterIncr_follows {z s : State} {a1} (h : z.Follows s) : z.Follows (State.afterIncr s a1) := by
  unfold State.afterIncr
  repeat' first
    | with_reducible assumption
    | with_reducible refine State.rescale_follows ?_
    | with_reducible refine State.setFld_follows ?_
    | split
    | dsimp only

theorem State.afterNtCtl_follows {z s : State} {a1 a2} (h : z.Follows s) : z.Follows (State.afterNtCtl s a1 a2) := by
  unfold State.afterNtCtl
  repeat' first
    | with_reducible assumption
    | with_reducible refine State.setFld_follows ?_
    | split
    | dsimp only

theorem State.afterAdjCmd_follows {z s : State} {a1 a2 a3} (h : z.Follows s) : z.Follows (State.afterAdjCmd s a1 a2 a3) := by
  unfold State.afterAdjCmd
  repeat' first
    | with_reducible assumption
    | with_reducible refine State.setDom_follows ?_
    | split
    | dsimp only

theorem State.afterTselCtl_follows {z s : State} (h : z.Follows s) : z.Follows (State.afterTselCtl s) := by
  unfold State.afterTselCtl
  repeat' first
    | with_reducible assumption
    | split
    | dsimp only
    | fail_if_no_progress (with_reducible refine State.Follows.mk_upd ?_)

theorem State.afterRefSrc_follows {z s : State} {a1} (h : z.Follows s) : z.Follows (State.afterRefSrc s a1) := by
  unfold State.afterRefSrc
  repeat' first
    | with_reducible assumption
    | with_reducible refine State.setFld_follows ?_
    | split
    | dsimp only
    | fail_if_no_progress (with_reducible refine State.Follows.mk_upd ?_)

theorem State.refLost_follows {z s : State} (h : z.Follows s) : z.Follows (State.refLost s) := by
  unfold State.refLost
  repeat' first
    | with_reducible assumption
    | with_reducible refine State.pulse_follows ?_
    | with_reducible refine State.setFld_follows ?_
    | split
    | dsimp only
    | fail_if_no_progress (with_reducible refine State.Follows.mk_upd ?_)

theorem State.refArrive_follows {z s : State} (h : z.Follows s) : z.Follows (State.refArrive s) := by
  unfold State.refArrive
  repeat' first
    | with_reducible assumption
    | with_reducible refine State.setFld_follows ?_
    | split
    | dsimp only
    | fail_if_no_progress (with_reducible refine State.Follows.mk_upd ?_)

theorem State.refReturn_follows {z s : State} (h : z.Follows s) : z.Follows (State.refReturn s) := by
  unfold State.refReturn
  repeat' first
    | with_reducible assumption
    | with_reducible refine State.setFld_follows ?_
    | split
    | dsimp only

theorem State.setImage_follows {z s : State} {a1 a2 a3 a4 a5} (h : z.Follows s) : z.Follows (State.setImage s a1 a2 a3 a4 a5) := by
  unfold State.setImage
  repeat' first
    | with_reducible assumption
    | with_reducible refine State.setFld_follows ?_
    | split
    | dsimp only

theorem State.captureDom_follows {z s : State} {a1 a2 a3} (h : z.Follows s) : z.Follows (State.captureDom s a1 a2 a3) := by
  unfold State.captureDom
  repeat' first
    | with_reducible assumption
    | with_reducible refine State.setImage_follows ?_
    | with_reducible refine State.countWrap_follows ?_
    | with_reducible refine State.setFld_follows ?_
    | split
    | dsimp only

theorem State.pulseNext_follows {z s : State} {a1} (h : z.Follows s) : z.Follows (State.pulseNext s a1) := by
  unfold State.pulseNext
  repeat' first
    | with_reducible assumption
    | split
    | dsimp only
    | fail_if_no_progress (with_reducible refine State.Follows.mk_upd ?_)

theorem State.captureAt_follows {z s : State} {a1 a2 a3} (h : z.Follows s) : z.Follows (State.captureAt s a1 a2 a3) := by
  unfold State.captureAt
  repeat' first
    | with_reducible assumption
    | with_reducible refine State.pulseNext_follows ?_
    | with_reducible refine State.captureDom_follows ?_
    | split
    | dsimp only

theorem State.setTod_follows {z s : State} {a1 a2} (h : z.Follows s) : z.Follows (State.setTod s a1 a2) := by
  unfold State.setTod
  repeat' first
    | with_reducible assumption
    | split
    | dsimp only
    | fail_if_no_progress (with_reducible refine State.Follows.mk_upd ?_)

theorem State.setTodLine_follows {z s : State} {a1 a2} (h : z.Follows s) : z.Follows (State.setTodLine s a1 a2) := by
  unfold State.setTodLine
  repeat' first
    | with_reducible assumption
    | split
    | dsimp only
    | fail_if_no_progress (with_reducible refine State.Follows.mk_upd ?_)

theorem State.captureEdge_follows {z s : State} {a1 a2 a3} (h : z.Follows s) : z.Follows (State.captureEdge s a1 a2 a3) := by
  unfold State.captureEdge
  repeat' first
    | with_reducible assumption
    | with_reducible refine State.captureAt_follows ?_
    | with_reducible refine State.setTodLine_follows ?_
    | split
    | dsimp only

theorem State.todByte_follows {z s : State} {a1 a2 a3} (h : z.Follows s) : z.Follows (State.todByte s a1 a2 a3) := by
  unfold State.todByte
  repeat' first
    | with_reducible assumption
    | with_reducible refine State.setTod_follows ?_
    | with_reducible refine State.setFld_follows ?_
    | with_reducible refine State.captureAt_follows ?_
    | with_reducible refine State.setTodLine_follows ?_
    | split
    | dsimp only

theorem State.setOut_follows {z s : State} {a1 a2} (h : z.Follows s) : z.Follows (State.setOut s a1 a2) := by
  unfold State.setOut
  repeat' first
    | with_reducible assumption
    | split
    | dsimp only
    | fail_if_no_progress (with_reducible refine State.Follows.mk_upd ?_)

theorem State.ppsEdge_follows {z s : State} {a1} (h : z.Follows s) : z.Follows (State.ppsEdge s a1) := by
  unfold State.ppsEdge
  repeat' first
    | with_reducible assumption
    | with_reducible refine State.setOut_follows ?_
    | split
    | dsimp only

theorem State.ppsEnd_follows {z s : State} {a1} (h : z.Follows s) : z.Follows (State.ppsEnd s a1) := by
  unfold State.ppsEnd
  repeat' first
    | with_reducible assumption
    | with_reducible refine State.setOut_follows ?_
    | split
    | dsimp only

theorem State.tsyncSend_follows {z s : State} (h : z.Follows s) : z.Follows (State.tsyncSend s) := by
  unfold State.tsyncSend
  repeat' first
    | with_reducible assumption
    | with_reducible refine State.setOut_follows ?_
    | split
    | dsimp only

theorem State.tsyncRx_follows {z s : State} {a1} (h : z.Follows s) : z.Follows (State.tsyncRx s a1) := by
  unfold State.tsyncRx
  repeat' first
    | with_reducible assumption
    | with_reducible refine State.pulse_follows ?_
    | with_reducible refine State.setFld_follows ?_
    | with_reducible refine State.Follows.foldl _ ?_ (fun _ _ _ => ?_)
    | with_reducible refine State.Follows.foldl_fst _ ?_ (fun _ _ _ => ?_)
    | split
    | dsimp only

end Sys2Proof.Machine
end

