-- ==== Sys2Proof/Laws/FollowsDuty.lean ====
section
/-!
SUPPORT. Every operation of Machine/Duty answers a state that follows (State.Follows).
-/
namespace Sys2Proof.Machine

theorem State.dutyRebase_follows {z s : State} {a1 a2} (h : z.Follows s) : z.Follows (State.dutyRebase s a1 a2) := by
  unfold State.dutyRebase
  repeat' first
    | with_reducible assumption
    | split
    | dsimp only
    | fail_if_no_progress (with_reducible refine State.Follows.mk_upd ?_)

theorem State.expireDuty_follows {z s : State} (h : z.Follows s) : z.Follows (State.expireDuty s) := by
  unfold State.expireDuty
  repeat' first
    | with_reducible assumption
    | split
    | dsimp only
    | fail_if_no_progress (with_reducible refine State.Follows.mk_upd ?_)

theorem State.roomForDuty_follows {z s : State} (h : z.Follows s) : z.Follows (State.roomForDuty s) := by
  unfold State.roomForDuty
  repeat' first
    | with_reducible assumption
    | with_reducible refine State.setFld_follows ?_
    | with_reducible refine State.expireDuty_follows ?_
    | split
    | dsimp only
    | fail_if_no_progress (with_reducible refine State.Follows.mk_upd ?_)

theorem State.reserveDuty_follows {z s : State} {a1 a2 a3 a4} (h : z.Follows s) : z.Follows (State.reserveDuty s a1 a2 a3 a4).1 := by
  unfold State.reserveDuty
  repeat' first
    | with_reducible assumption
    | with_reducible refine State.roomForDuty_follows ?_
    | split
    | dsimp only
    | fail_if_no_progress (with_reducible refine State.Follows.mk_upd ?_)

theorem State.reserveDuty_follows_of {z s t : State} {a1 a2 a3 a4} {r} (h : z.Follows s) (e : State.reserveDuty s a1 a2 a3 a4 = (t, r)) : z.Follows t := by
  have k := State.reserveDuty_follows (z := z) (s := s) (a1 := a1) (a2 := a2) (a3 := a3) (a4 := a4) h
  rw [e] at k
  exact k

theorem State.releaseDuty_follows {z s : State} {a1} (h : z.Follows s) : z.Follows (State.releaseDuty s a1) := by
  unfold State.releaseDuty
  repeat' first
    | with_reducible assumption
    | split
    | dsimp only
    | fail_if_no_progress (with_reducible refine State.Follows.mk_upd ?_)

theorem State.fixDuty_follows {z s : State} {a1 a2} (h : z.Follows s) : z.Follows (State.fixDuty s a1 a2) := by
  unfold State.fixDuty
  repeat' first
    | with_reducible assumption
    | split
    | dsimp only
    | fail_if_no_progress (with_reducible refine State.Follows.mk_upd ?_)

theorem State.regRegion_follows {z s : State} {a1} (h : z.Follows s) : z.Follows (State.regRegion s a1) := by
  unfold State.regRegion
  repeat' first
    | with_reducible assumption
    | with_reducible refine State.setFld_follows ?_
    | split
    | dsimp only
    | fail_if_no_progress (with_reducible refine State.Follows.mk_upd ?_)

theorem State.recomputeDone_follows {z s : State} (h : z.Follows s) : z.Follows (State.recomputeDone s) := by
  unfold State.recomputeDone
  repeat' first
    | with_reducible assumption
    | with_reducible refine State.setFld_follows ?_
    | with_reducible refine State.Follows.foldl _ ?_ (fun _ _ _ => ?_)
    | with_reducible refine State.Follows.foldl_fst _ ?_ (fun _ _ _ => ?_)
    | split
    | dsimp only
    | fail_if_no_progress (with_reducible refine State.Follows.mk_upd ?_)

end Sys2Proof.Machine
end

