-- ==== Sys2Proof/Laws/FollowsEngine.lean ====
section
/-!
SUPPORT. Every operation of Machine/Engine answers a state that follows (State.Follows).
-/
namespace Sys2Proof.Machine

theorem State.lmAdvance_follows {z s : State} {a1} (h : z.Follows s) : z.Follows (State.lmAdvance s a1) := by
  unfold State.lmAdvance
  repeat' first
    | with_reducible assumption
    | with_reducible refine State.setFld_follows ?_
    | split
    | dsimp only

theorem State.lmWindowWrite_follows {z s : State} {a1 a2} (h : z.Follows s) : z.Follows (State.lmWindowWrite s a1 a2) := by
  unfold State.lmWindowWrite
  repeat' first
    | with_reducible assumption
    | with_reducible refine State.setFld_follows ?_
    | with_reducible refine State.setEngine_follows ?_
    | with_reducible refine State.lmAdvance_follows ?_
    | split
    | dsimp only

theorem State.sePost_follows {z s : State} {a1 a2} (h : z.Follows s) : z.Follows (State.sePost s a1 a2) := by
  unfold State.sePost
  repeat' first
    | with_reducible assumption
    | with_reducible refine State.pulse_follows ?_
    | with_reducible refine State.setFld_follows ?_
    | with_reducible refine State.setEngine_follows ?_
    | split
    | dsimp only

theorem State.seEvpost_follows {z s : State} {a1} (h : z.Follows s) : z.Follows (State.seEvpost s a1) := by
  unfold State.seEvpost
  repeat' first
    | with_reducible assumption
    | with_reducible refine State.pulseFree_follows ?_
    | split
    | dsimp only

theorem State.haltMark_follows {z s : State} {a1 a2 a3} (h : z.Follows s) : z.Follows (State.haltMark s a1 a2 a3) := by
  unfold State.haltMark
  repeat' first
    | with_reducible assumption
    | with_reducible refine State.pulse_follows ?_
    | with_reducible refine State.setFld_follows ?_
    | with_reducible refine State.setEngine_follows ?_
    | split
    | dsimp only

end Sys2Proof.Machine
end

