-- ==== Sys2Proof/Laws/FollowsDomains.lean ====
section
/-!
SUPPORT. Every operation of Machine/Domains answers a state that follows (State.Follows).
-/
namespace Sys2Proof.Machine

theorem State.setDelay_follows {z s : State} {a1 a2 a3} (h : z.Follows s) : z.Follows (State.setDelay s a1 a2 a3) := by
  unfold State.setDelay
  repeat' first
    | with_reducible assumption
    | with_reducible refine State.setArrays_follows ?_
    | split
    | dsimp only

theorem State.shiftLanes_follows {z s : State} {a1 a2} (h : z.Follows s) : z.Follows (State.shiftLanes s a1 a2) := by
  unfold State.shiftLanes
  repeat' first
    | with_reducible assumption
    | with_reducible refine State.setDelay_follows ?_
    | with_reducible refine State.Follows.foldl _ ?_ (fun _ _ _ => ?_)
    | with_reducible refine State.Follows.foldl_fst _ ?_ (fun _ _ _ => ?_)
    | split
    | dsimp only

theorem State.sweepLanes_follows {z s : State} {a1} (h : z.Follows s) : z.Follows (State.sweepLanes s a1) := by
  unfold State.sweepLanes
  repeat' first
    | with_reducible assumption
    | with_reducible refine State.setDelay_follows ?_
    | with_reducible refine State.takeFree_follows ?_
    | with_reducible refine State.Follows.foldl _ ?_ (fun _ _ _ => ?_)
    | with_reducible refine State.Follows.foldl_fst _ ?_ (fun _ _ _ => ?_)
    | split
    | dsimp only

theorem State.sentinelSweep_follows {z s : State} {a1 a2} (h : z.Follows s) : z.Follows (State.sentinelSweep s a1 a2) := by
  unfold State.sentinelSweep
  repeat' first
    | with_reducible assumption
    | with_reducible refine State.setArrays_follows ?_
    | with_reducible refine State.setFld_follows ?_
    | with_reducible refine State.sweepLanes_follows ?_
    | with_reducible refine State.shiftLanes_follows ?_
    | with_reducible refine State.count_follows ?_
    | split
    | dsimp only

theorem State.sweepFor_follows {z s : State} {a1 a2 a3} (h : z.Follows s) : z.Follows (State.sweepFor s a1 a2 a3) := by
  unfold State.sweepFor
  repeat' first
    | with_reducible assumption
    | with_reducible refine State.setArrays_follows ?_
    | with_reducible refine State.takeFree_follows ?_
    | split
    | dsimp only

theorem State.trainMem_follows {z s : State} (h : z.Follows s) : z.Follows (State.trainMem s) := by
  unfold State.trainMem
  repeat' first
    | with_reducible assumption
    | with_reducible refine State.sentinelSweep_follows ?_
    | with_reducible refine State.sweepFor_follows ?_
    | with_reducible refine State.shiftLanes_follows ?_
    | with_reducible refine State.takeFree_follows ?_
    | with_reducible refine State.Follows.foldl _ ?_ (fun _ _ _ => ?_)
    | with_reducible refine State.Follows.foldl_fst _ ?_ (fun _ _ _ => ?_)
    | split
    | dsimp only

theorem State.restartFn_follows {z s : State} {a1 a2 a3} (h : z.Follows s) : z.Follows (State.restartFn s a1 a2 a3) := by
  unfold State.restartFn
  repeat' first
    | with_reducible assumption
    | with_reducible refine State.trainMem_follows ?_
    | with_reducible refine State.setFld_follows ?_
    | split
    | dsimp only

theorem State.restartFns_follows {z s : State} {a1 a2} (h : z.Follows s) : z.Follows (State.restartFns s a1 a2) := by
  unfold State.restartFns
  repeat' first
    | with_reducible assumption
    | with_reducible refine State.restartFn_follows ?_
    | with_reducible refine State.Follows.foldl _ ?_ (fun _ _ _ => ?_)
    | with_reducible refine State.Follows.foldl_fst _ ?_ (fun _ _ _ => ?_)
    | split
    | dsimp only

theorem State.wakeDomain_follows {z s : State} {a1} (h : z.Follows s) : z.Follows (State.wakeDomain s a1) := by
  unfold State.wakeDomain
  repeat' first
    | with_reducible assumption
    | with_reducible refine State.setFld_follows ?_
    | with_reducible refine State.restartFns_follows ?_
    | with_reducible refine State.touchDomain_follows ?_
    | with_reducible refine State.Follows.foldl _ ?_ (fun _ _ _ => ?_)
    | with_reducible refine State.Follows.foldl_fst _ ?_ (fun _ _ _ => ?_)
    | split
    | dsimp only

end Sys2Proof.Machine
end

