-- ==== Sys2Proof/Laws/FollowsLocks.lean ====
section
/-!
SUPPORT. Every operation of Machine/Locks answers a state that follows (State.Follows).
-/
namespace Sys2Proof.Machine

theorem State.freeToken_follows {z s : State} {a1} (h : z.Follows s) : z.Follows (State.freeToken s a1) := by
  unfold State.freeToken
  repeat' first
    | with_reducible assumption
    | with_reducible refine State.setFld_follows ?_
    | split
    | dsimp only

theorem State.takeToken_follows {z s : State} {a1 a2} (h : z.Follows s) : z.Follows (State.takeToken s a1 a2) := by
  unfold State.takeToken
  repeat' first
    | with_reducible assumption
    | with_reducible refine State.setFld_follows ?_
    | with_reducible refine State.count_follows ?_
    | split
    | dsimp only

theorem State.giveToken_follows {z s : State} {a1 a2} (h : z.Follows s) : z.Follows (State.giveToken s a1 a2) := by
  unfold State.giveToken
  repeat' first
    | with_reducible assumption
    | with_reducible refine State.freeToken_follows ?_
    | with_reducible refine State.count_follows ?_
    | split
    | dsimp only

theorem State.releaseTokens_follows {z s : State} {a1 a2} (h : z.Follows s) : z.Follows (State.releaseTokens s a1 a2) := by
  unfold State.releaseTokens
  repeat' first
    | with_reducible assumption
    | with_reducible refine State.freeToken_follows ?_
    | with_reducible refine State.count_follows ?_
    | with_reducible refine State.Follows.foldl _ ?_ (fun _ _ _ => ?_)
    | with_reducible refine State.Follows.foldl_fst _ ?_ (fun _ _ _ => ?_)
    | split
    | dsimp only

theorem State.dropTokens_follows {z s : State} {a1} (h : z.Follows s) : z.Follows (State.dropTokens s a1) := by
  unfold State.dropTokens
  repeat' first
    | with_reducible assumption
    | with_reducible refine State.freeToken_follows ?_
    | with_reducible refine State.Follows.foldl _ ?_ (fun _ _ _ => ?_)
    | with_reducible refine State.Follows.foldl_fst _ ?_ (fun _ _ _ => ?_)
    | split
    | dsimp only

theorem State.forceTokens_follows {z s : State} {a1} (h : z.Follows s) : z.Follows (State.forceTokens s a1) := by
  unfold State.forceTokens
  repeat' first
    | with_reducible assumption
    | with_reducible refine State.releaseTokens_follows ?_
    | with_reducible refine State.freeToken_follows ?_
    | with_reducible refine State.count_follows ?_
    | split
    | dsimp only

end Sys2Proof.Machine
end

