-- ==== Sys2Proof/Laws/FollowsArbiter.lean ====
section
/-!
SUPPORT. Every operation of Machine/Arbiter answers a state that follows (State.Follows).
-/
namespace Sys2Proof.Machine

theorem State.setArb_follows {z s : State} {a1} (h : z.Follows s) : z.Follows (State.setArb s a1) := by
  unfold State.setArb
  repeat' first
    | with_reducible assumption
    | split
    | dsimp only
    | fail_if_no_progress (with_reducible refine State.Follows.mk_upd ?_)

theorem State.mapReq_follows {z s : State} {a1 a2} (h : z.Follows s) : z.Follows (State.mapReq s a1 a2) := by
  unfold State.mapReq
  repeat' first
    | with_reducible assumption
    | with_reducible refine State.setArb_follows ?_
    | split
    | dsimp only

theorem State.arbStat_follows {z s : State} (h : z.Follows s) : z.Follows (State.arbStat s) := by
  unfold State.arbStat
  repeat' first
    | with_reducible assumption
    | with_reducible refine State.setFld_follows ?_
    | with_reducible refine State.Follows.getD (fun _ _ => ?_) ?_
    | split
    | dsimp only

theorem State.arbReqStat_follows {z s : State} {a1} (h : z.Follows s) : z.Follows (State.arbReqStat s a1) := by
  unfold State.arbReqStat
  repeat' first
    | with_reducible assumption
    | with_reducible refine State.setFld_follows ?_
    | split
    | dsimp only

theorem State.addReq_follows {z s : State} {a1 a2 a3 a4 a5 a6 a7} (h : z.Follows s) : z.Follows (State.addReq s a1 a2 a3 a4 a5 a6 a7) := by
  unfold State.addReq
  repeat' first
    | with_reducible assumption
    | with_reducible refine State.setArb_follows ?_
    | with_reducible refine State.countWrap_follows ?_
    | with_reducible refine State.arbReqStat_follows ?_
    | split
    | dsimp only

theorem State.resetCut_follows {z s : State} {a1} (h : z.Follows s) : z.Follows (State.resetCut s a1) := by
  unfold State.resetCut
  repeat' first
    | with_reducible assumption
    | with_reducible refine State.setArb_follows ?_
    | with_reducible refine State.setFld_follows ?_
    | split
    | dsimp only

theorem State.svcIssue_follows {z s : State} {a1 a2 a3 a4 a5} (h : z.Follows s) : z.Follows (State.svcIssue s a1 a2 a3 a4 a5) := by
  unfold State.svcIssue
  repeat' first
    | with_reducible assumption
    | with_reducible refine State.wakeDomain_follows ?_
    | with_reducible refine State.setArb_follows ?_
    | with_reducible refine State.count_follows ?_
    | with_reducible refine State.addReq_follows ?_
    | with_reducible refine State.resetCut_follows ?_
    | split
    | dsimp only

theorem State.releaseEngine_follows {z s : State} {a1} (h : z.Follows s) : z.Follows (State.releaseEngine s a1) := by
  unfold State.releaseEngine
  repeat' first
    | with_reducible assumption
    | with_reducible refine State.arbStat_follows ?_
    | with_reducible refine State.setArb_follows ?_
    | with_reducible refine State.arbReqStat_follows ?_
    | split
    | dsimp only

theorem State.settleClosing_follows {z s : State} (h : z.Follows s) : z.Follows (State.settleClosing s) := by
  unfold State.settleClosing
  repeat' first
    | with_reducible assumption
    | with_reducible refine State.setArb_follows ?_
    | with_reducible refine State.releaseEngine_follows ?_
    | with_reducible refine State.Follows.foldl _ ?_ (fun _ _ _ => ?_)
    | with_reducible refine State.Follows.foldl_fst _ ?_ (fun _ _ _ => ?_)
    | split
    | dsimp only

theorem State.acceptReq_follows {z s : State} {a1} (h : z.Follows s) : z.Follows (State.acceptReq s a1) := by
  unfold State.acceptReq
  repeat' first
    | with_reducible assumption
    | with_reducible refine State.releaseEngine_follows ?_
    | with_reducible refine State.settleClosing_follows ?_
    | split
    | dsimp only

theorem State.grantReq_follows {z s : State} {a1} (h : z.Follows s) : z.Follows (State.grantReq s a1) := by
  unfold State.grantReq
  repeat' first
    | with_reducible assumption
    | with_reducible refine State.arbStat_follows ?_
    | with_reducible refine State.setArb_follows ?_
    | with_reducible refine State.mapReq_follows ?_
    | with_reducible refine State.arbReqStat_follows ?_
    | with_reducible refine State.seen_follows ?_
    | split
    | dsimp only

theorem State.returnReq_follows {z s : State} {a1} (h : z.Follows s) : z.Follows (State.returnReq s a1) := by
  unfold State.returnReq
  repeat' first
    | with_reducible assumption
    | with_reducible refine State.mapReq_follows ?_
    | with_reducible refine State.count_follows ?_
    | split
    | dsimp only

theorem State.advanceReq_follows {z s : State} {a1} (h : z.Follows s) : z.Follows (State.advanceReq s a1) := by
  unfold State.advanceReq
  repeat' first
    | with_reducible assumption
    | with_reducible refine State.setArb_follows ?_
    | with_reducible refine State.setFld_follows ?_
    | with_reducible refine State.arbReqStat_follows ?_
    | with_reducible refine State.pulseFree_follows ?_
    | split
    | dsimp only

theorem State.completeReq_follows {z s : State} {a1 a2} (h : z.Follows s) : z.Follows (State.completeReq s a1 a2) := by
  unfold State.completeReq
  repeat' first
    | with_reducible assumption
    | with_reducible refine State.putLe_follows ?_
    | with_reducible refine State.mapReq_follows ?_
    | with_reducible refine State.advanceReq_follows ?_
    | split
    | dsimp only

theorem State.endReq_follows {z s : State} {a1 a2} (h : z.Follows s) : z.Follows (State.endReq s a1 a2) := by
  unfold State.endReq
  repeat' first
    | with_reducible assumption
    | with_reducible refine State.mapReq_follows ?_
    | with_reducible refine State.acceptReq_follows ?_
    | split
    | dsimp only

theorem State.journalReq_follows {z s : State} {a1 a2} (h : z.Follows s) : z.Follows (State.journalReq s a1 a2) := by
  unfold State.journalReq
  repeat' first
    | with_reducible assumption
    | with_reducible refine State.mapReq_follows ?_
    | with_reducible refine State.acceptReq_follows ?_
    | split
    | dsimp only

theorem State.cutSequence_follows {z s : State} {a1 a2 a3 a4} (h : z.Follows s) : z.Follows (State.cutSequence s a1 a2 a3 a4) := by
  unfold State.cutSequence
  repeat' first
    | with_reducible assumption
    | with_reducible refine State.pulse_follows ?_
    | with_reducible refine State.setArb_follows ?_
    | with_reducible refine State.setFld_follows ?_
    | with_reducible refine State.completeReq_follows ?_
    | with_reducible refine State.arbReqStat_follows ?_
    | with_reducible refine State.count_follows ?_
    | with_reducible refine State.Follows.foldl _ ?_ (fun _ _ _ => ?_)
    | with_reducible refine State.Follows.foldl_fst _ ?_ (fun _ _ _ => ?_)
    | split
    | dsimp only

theorem State.cutOff_follows {z s : State} {a1} (h : z.Follows s) : z.Follows (State.cutOff s a1) := by
  unfold State.cutOff
  repeat' first
    | with_reducible assumption
    | with_reducible refine State.cutSequence_follows ?_
    | with_reducible refine State.setArb_follows ?_
    | with_reducible refine State.releaseEngine_follows ?_
    | split
    | dsimp only

theorem State.cutWaiting_follows {z s : State} (h : z.Follows s) : z.Follows (State.cutWaiting s) := by
  unfold State.cutWaiting
  repeat' first
    | with_reducible assumption
    | with_reducible refine State.cutSequence_follows ?_
    | with_reducible refine State.Follows.foldl _ ?_ (fun _ _ _ => ?_)
    | with_reducible refine State.Follows.foldl_fst _ ?_ (fun _ _ _ => ?_)
    | split
    | dsimp only

theorem State.breakSequences_follows {z s : State} (h : z.Follows s) : z.Follows (State.breakSequences s) := by
  unfold State.breakSequences
  repeat' first
    | with_reducible assumption
    | with_reducible refine State.cutOff_follows ?_
    | with_reducible refine State.cutWaiting_follows ?_
    | split
    | dsimp only

theorem State.closeSequence_follows {z s : State} {a1} (h : z.Follows s) : z.Follows (State.closeSequence s a1) := by
  unfold State.closeSequence
  repeat' first
    | with_reducible assumption
    | with_reducible refine State.setArb_follows ?_
    | with_reducible refine State.settleClosing_follows ?_
    | split
    | dsimp only

end Sys2Proof.Machine
end

