-- ==== Sys2Proof/Laws/FollowsWork.lean ====
section
/-!
SUPPORT. Every operation of Machine/Work answers a state that follows (State.Follows).
-/
namespace Sys2Proof.Machine

theorem State.setWd_follows {z s : State} {a1} (h : z.Follows s) : z.Follows (State.setWd s a1) := by
  unfold State.setWd
  repeat' first
    | with_reducible assumption
    | with_reducible refine State.setFld_follows ?_
    | with_reducible refine State.Follows.foldl _ ?_ (fun _ _ _ => ?_)
    | with_reducible refine State.Follows.foldl_fst _ ?_ (fun _ _ _ => ?_)
    | split
    | dsimp only
    | fail_if_no_progress (with_reducible refine State.Follows.mk_upd ?_)

theorem State.trace_follows {z s : State} {a1 a2 a3 a4 a5} (h : z.Follows s) : z.Follows (State.trace s a1 a2 a3 a4 a5) := by
  unfold State.trace
  repeat' first
    | with_reducible assumption
    | with_reducible refine State.pulse_follows ?_
    | with_reducible refine State.putLe_follows ?_
    | with_reducible refine State.setFld_follows ?_
    | with_reducible refine State.count_follows ?_
    | split
    | dsimp only

theorem State.handItem_follows {z s : State} {a1 a2} (h : z.Follows s) : z.Follows (State.handItem s a1 a2) := by
  unfold State.handItem
  repeat' first
    | with_reducible assumption
    | with_reducible refine State.setWd_follows ?_
    | with_reducible refine State.trace_follows ?_
    | split
    | dsimp only

theorem State.resumeDone_follows {z s : State} {a1 a2 a3} (h : z.Follows s) : z.Follows (State.resumeDone s a1 a2 a3) := by
  unfold State.resumeDone
  repeat' first
    | with_reducible assumption
    | with_reducible refine State.setWd_follows ?_
    | with_reducible refine State.setCore_follows ?_
    | split
    | dsimp only

theorem State.serveAsking_follows {z s : State} (h : z.Follows s) : z.Follows (State.serveAsking s) := by
  unfold State.serveAsking
  repeat' first
    | with_reducible assumption
    | with_reducible refine State.resumeDone_follows ?_
    | with_reducible refine State.handItem_follows ?_
    | split
    | dsimp only

theorem State.enqueueItem_follows {z s : State} {a1 a2} (h : z.Follows s) : z.Follows (State.enqueueItem s a1 a2) := by
  unfold State.enqueueItem
  repeat' first
    | with_reducible assumption
    | with_reducible refine State.putLe_follows ?_
    | with_reducible refine State.setWd_follows ?_
    | with_reducible refine State.serveAsking_follows ?_
    | with_reducible refine State.trace_follows ?_
    | split
    | dsimp only

theorem State.postItem_follows {z s : State} {a1 a2 a3} (h : z.Follows s) : z.Follows (State.postItem s a1 a2 a3) := by
  unfold State.postItem
  repeat' first
    | with_reducible assumption
    | with_reducible refine State.trace_follows ?_
    | with_reducible refine State.enqueueItem_follows ?_
    | with_reducible refine State.count_follows ?_
    | split
    | dsimp only

theorem State.postHeld_follows {z s : State} (h : z.Follows s) : z.Follows (State.postHeld s) := by
  unfold State.postHeld
  repeat' first
    | with_reducible assumption
    | with_reducible refine State.setWd_follows ?_
    | with_reducible refine State.enqueueItem_follows ?_
    | split
    | dsimp only

theorem State.postHelds_follows {z s : State} {a1} (h : z.Follows s) : z.Follows (State.postHelds s a1) := by
  induction a1 generalizing s with
  | zero => exact h
  | succ n ih =>
    unfold State.postHelds
    repeat' first
      | with_reducible assumption
      | with_reducible refine ih ?_
      | with_reducible refine State.postHeld_follows ?_
      | split
      | dsimp only

theorem State.settleHeld_follows {z s : State} (h : z.Follows s) : z.Follows (State.settleHeld s) := by
  unfold State.settleHeld
  repeat' first
    | with_reducible assumption
    | with_reducible refine State.postHelds_follows ?_
    | split
    | dsimp only

theorem State.postQueueItem_follows {z s : State} {a1 a2} (h : z.Follows s) : z.Follows (State.postQueueItem s a1 a2) := by
  unfold State.postQueueItem
  repeat' first
    | with_reducible assumption
    | with_reducible refine State.setWd_follows ?_
    | with_reducible refine State.settleHeld_follows ?_
    | with_reducible refine State.trace_follows ?_
    | with_reducible refine State.enqueueItem_follows ?_
    | split
    | dsimp only

theorem State.completeItem_follows {z s : State} {a1 a2 a3 a4 a5 a6} (h : z.Follows s) : z.Follows (State.completeItem s a1 a2 a3 a4 a5 a6) := by
  unfold State.completeItem
  repeat' first
    | with_reducible assumption
    | with_reducible refine State.releaseTokens_follows ?_
    | with_reducible refine State.putLe_follows ?_
    | with_reducible refine State.setWd_follows ?_
    | with_reducible refine State.trace_follows ?_
    | with_reducible refine State.pulseFree_follows ?_
    | with_reducible refine State.postQueueItem_follows ?_
    | with_reducible refine State.closeSequence_follows ?_
    | split
    | dsimp only

theorem State.doneItem_follows {z s : State} {a1 a2 a3} (h : z.Follows s) : z.Follows (State.doneItem s a1 a2 a3) := by
  unfold State.doneItem
  repeat' first
    | with_reducible assumption
    | with_reducible refine State.completeItem_follows ?_
    | with_reducible refine State.setWd_follows ?_
    | with_reducible refine State.setCore_follows ?_
    | with_reducible refine State.handItem_follows ?_
    | split
    | dsimp only

theorem State.doneTimeout_follows {z s : State} {a1} (h : z.Follows s) : z.Follows (State.doneTimeout s a1) := by
  unfold State.doneTimeout
  repeat' first
    | with_reducible assumption
    | with_reducible refine State.resumeDone_follows ?_
    | split
    | dsimp only

theorem State.scrambleRegs_follows {z s : State} {a1} (h : z.Follows s) : z.Follows (State.scrambleRegs s a1) := by
  unfold State.scrambleRegs
  repeat' first
    | with_reducible assumption
    | with_reducible refine State.setCore_follows ?_
    | with_reducible refine State.takeFree_follows ?_
    | with_reducible refine State.Follows.foldl _ ?_ (fun _ _ _ => ?_)
    | with_reducible refine State.Follows.foldl_fst _ ?_ (fun _ _ _ => ?_)
    | split
    | dsimp only

theorem State.itemException_follows {z s : State} {a1 a2 a3 a4} (h : z.Follows s) : z.Follows (State.itemException s a1 a2 a3 a4) := by
  unfold State.itemException
  repeat' first
    | with_reducible assumption
    | with_reducible refine State.releaseTokens_follows ?_
    | with_reducible refine State.completeItem_follows ?_
    | with_reducible refine State.setCore_follows ?_
    | with_reducible refine State.scrambleRegs_follows ?_
    | with_reducible refine State.count_follows ?_
    | with_reducible refine State.closeSequence_follows ?_
    | split
    | dsimp only

theorem State.afterQItem_follows {z s : State} {a1} (h : z.Follows s) : z.Follows (State.afterQItem s a1) := by
  unfold State.afterQItem
  repeat' first
    | with_reducible assumption
    | with_reducible refine State.setReg_follows ?_
    | split
    | dsimp only

theorem State.afterTraceRing_follows {z s : State} {a1 a2} (h : z.Follows s) : z.Follows (State.afterTraceRing s a1 a2) := by
  unfold State.afterTraceRing
  repeat' first
    | with_reducible assumption
    | with_reducible refine State.setReg_follows ?_
    | split
    | dsimp only

end Sys2Proof.Machine
end

