-- ==== Sys2Proof/Laws/FollowsQueues.lean ====
section
/-!
SUPPORT. Every operation of Machine/Queues answers a state that follows (State.Follows).
-/
namespace Sys2Proof.Machine

theorem State.setRq_follows {z s : State} {a1} (h : z.Follows s) : z.Follows (State.setRq s a1) := by
  unfold State.setRq
  repeat' first
    | with_reducible assumption
    | split
    | dsimp only
    | fail_if_no_progress (with_reducible refine State.Follows.mk_upd ?_)

theorem State.setStash_follows {z s : State} {a1 a2} (h : z.Follows s) : z.Follows (State.setStash s a1 a2) := by
  unfold State.setStash
  repeat' first
    | with_reducible assumption
    | with_reducible refine State.setRq_follows ?_
    | with_reducible refine State.setFld_follows ?_
    | split
    | dsimp only

theorem State.ringBuffer_follows {z s : State} {a1 a2} (h : z.Follows s) : z.Follows (State.ringBuffer s a1 a2).1 := by
  induction a2 generalizing s a1 with
  | zero => exact h
  | succ n ih =>
    unfold State.ringBuffer
    repeat' first
      | with_reducible assumption
      | with_reducible refine ih ?_
      | with_reducible refine State.setFld_follows ?_
      | with_reducible refine State.count_follows ?_
      | with_reducible refine State.seen_follows ?_
      | split
      | dsimp only

theorem State.ringBuffer_follows_of {z s t : State} {a1 a2} {r} (h : z.Follows s) (e : State.ringBuffer s a1 a2 = (t, r)) : z.Follows t := by
  have k := State.ringBuffer_follows (z := z) (s := s) (a1 := a1) (a2 := a2) h
  rw [e] at k
  exact k

theorem State.takeBuffer_follows {z s : State} {a1} (h : z.Follows s) : z.Follows (State.takeBuffer s a1).1 := by
  unfold State.takeBuffer
  repeat' first
    | with_reducible assumption
    | with_reducible refine State.setStash_follows ?_
    | with_reducible refine State.ringBuffer_follows ?_
    | with_reducible refine State.ringBuffer_follows_of ?_ (by with_reducible assumption)
    | split
    | dsimp only

theorem State.takeBuffer_follows_of {z s t : State} {a1} {r} (h : z.Follows s) (e : State.takeBuffer s a1 = (t, r)) : z.Follows t := by
  have k := State.takeBuffer_follows (z := z) (s := s) (a1 := a1) h
  rw [e] at k
  exact k

theorem State.mapRec_follows {z s : State} {a1 a2} (h : z.Follows s) : z.Follows (State.mapRec s a1 a2) := by
  unfold State.mapRec
  repeat' first
    | with_reducible assumption
    | with_reducible refine State.setRq_follows ?_
    | split
    | dsimp only

theorem State.rqStart_follows {z s : State} {a1 a2} (h : z.Follows s) : z.Follows (State.rqStart s a1 a2).1 := by
  unfold State.rqStart
  repeat' first
    | with_reducible assumption
    | with_reducible refine State.setRq_follows ?_
    | with_reducible refine State.count_follows ?_
    | split
    | dsimp only

theorem State.rqStart_follows_of {z s t : State} {a1 a2} {r} (h : z.Follows s) (e : State.rqStart s a1 a2 = (t, r)) : z.Follows t := by
  have k := State.rqStart_follows (z := z) (s := s) (a1 := a1) (a2 := a2) h
  rw [e] at k
  exact k

theorem State.rewind_follows {z s : State} {a1 a2} (h : z.Follows s) : z.Follows (State.rewind s a1 a2) := by
  unfold State.rewind
  repeat' first
    | with_reducible assumption
    | with_reducible refine State.pulse_follows ?_
    | with_reducible refine State.setStash_follows ?_
    | with_reducible refine State.setRq_follows ?_
    | with_reducible refine State.count_follows ?_
    | split
    | dsimp only

theorem State.rqGrow_follows {z s : State} {a1 a2 a3} (h : z.Follows s) : z.Follows (State.rqGrow s a1 a2 a3).1 := by
  induction a3 generalizing s a1 a2 with
  | zero => exact h
  | succ n ih =>
    unfold State.rqGrow
    repeat' first
      | with_reducible assumption
      | with_reducible refine ih ?_
      | with_reducible refine State.takeBuffer_follows ?_
      | with_reducible refine State.mapRec_follows ?_
      | with_reducible refine State.takeBuffer_follows_of ?_ (by with_reducible assumption)
      | split
      | dsimp only

theorem State.rqGrow_follows_of {z s t : State} {a1 a2 a3} {r} (h : z.Follows s) (e : State.rqGrow s a1 a2 a3 = (t, r)) : z.Follows t := by
  have k := State.rqGrow_follows (z := z) (s := s) (a1 := a1) (a2 := a2) (a3 := a3) h
  rw [e] at k
  exact k

theorem State.rqReserve_follows {z s : State} {a1 a2} (h : z.Follows s) : z.Follows (State.rqReserve s a1 a2).1 := by
  unfold State.rqReserve
  repeat' first
    | with_reducible assumption
    | with_reducible refine State.rqGrow_follows ?_
    | with_reducible refine State.mapRec_follows ?_
    | with_reducible refine State.rewind_follows ?_
    | with_reducible refine State.rqGrow_follows_of ?_ (by with_reducible assumption)
    | split
    | dsimp only

theorem State.rqReserve_follows_of {z s t : State} {a1 a2} {r} (h : z.Follows s) (e : State.rqReserve s a1 a2 = (t, r)) : z.Follows t := by
  have k := State.rqReserve_follows (z := z) (s := s) (a1 := a1) (a2 := a2) h
  rw [e] at k
  exact k

theorem State.rqWrite_follows {z s : State} {a1 a2 a3} (h : z.Follows s) : z.Follows (State.rqWrite s a1 a2 a3) := by
  induction a3 generalizing s a1 a2 with
  | nil => exact h
  | cons b l ih =>
    unfold State.rqWrite
    repeat' first
      | with_reducible assumption
      | with_reducible refine ih ?_
      | with_reducible refine State.put_follows ?_
      | split
      | dsimp only

theorem State.rqPut_follows {z s : State} {a1 a2 a3} (h : z.Follows s) : z.Follows (State.rqPut s a1 a2 a3) := by
  unfold State.rqPut
  repeat' first
    | with_reducible assumption
    | with_reducible refine State.rqWrite_follows ?_
    | split
    | dsimp only

theorem State.rqClose_follows {z s : State} {a1} (h : z.Follows s) : z.Follows (State.rqClose s a1) := by
  unfold State.rqClose
  repeat' first
    | with_reducible assumption
    | with_reducible refine State.setRq_follows ?_
    | split
    | dsimp only

theorem State.writeEntries_follows {z s : State} {a1 a2 a3 a4 a5 a6} (h : z.Follows s) : z.Follows (State.writeEntries s a1 a2 a3 a4 a5 a6) := by
  induction a6 generalizing s a1 a2 a3 a4 a5 with
  | nil => exact h
  | cons b l ih =>
    unfold State.writeEntries
    repeat' first
      | with_reducible assumption
      | with_reducible refine ih ?_
      | with_reducible refine State.put_follows ?_
      | split
      | dsimp only

theorem State.rqCommit_follows {z s : State} {a1} (h : z.Follows s) : z.Follows (State.rqCommit s a1) := by
  unfold State.rqCommit
  repeat' first
    | with_reducible assumption
    | with_reducible refine State.pulse_follows ?_
    | with_reducible refine State.setRq_follows ?_
    | with_reducible refine State.writeEntries_follows ?_
    | with_reducible refine State.setFld_follows ?_
    | with_reducible refine State.rewind_follows ?_
    | with_reducible refine State.postQueueItem_follows ?_
    | with_reducible refine State.count_follows ?_
    | split
    | dsimp only

theorem State.seenEntries_follows {z s : State} {a1 a2 a3} (h : z.Follows s) : z.Follows (State.seenEntries s a1 a2 a3) := by
  induction a3 generalizing s a1 a2 with
  | zero => exact h
  | succ n ih =>
    unfold State.seenEntries
    repeat' first
      | with_reducible assumption
      | with_reducible refine ih ?_
      | with_reducible refine State.seen_follows ?_
      | split
      | dsimp only

theorem State.popQueue_follows {z s : State} {a1} (h : z.Follows s) : z.Follows (State.popQueue s a1) := by
  unfold State.popQueue
  repeat' first
    | with_reducible assumption
    | with_reducible refine State.setRq_follows ?_
    | with_reducible refine State.seenEntries_follows ?_
    | with_reducible refine State.setFld_follows ?_
    | split
    | dsimp only

theorem State.popStash_follows {z s : State} {a1} (h : z.Follows s) : z.Follows (State.popStash s a1) := by
  unfold State.popStash
  repeat' first
    | with_reducible assumption
    | with_reducible refine State.setStash_follows ?_
    | split
    | dsimp only

theorem State.afterReadPtr_follows {z s : State} {a1 a2} (h : z.Follows s) : z.Follows (State.afterReadPtr s a1 a2) := by
  unfold State.afterReadPtr
  repeat' first
    | with_reducible assumption
    | with_reducible refine State.setReg_follows ?_
    | with_reducible refine State.setFld_follows ?_
    | split
    | dsimp only

theorem State.rqCmd_follows {z s : State} {a1 a2} (h : z.Follows s) : z.Follows (State.rqCmd s a1 a2) := by
  unfold State.rqCmd
  repeat' first
    | with_reducible assumption
    | with_reducible refine State.setFld_follows ?_
    | split
    | dsimp only

theorem State.enableQueue_follows {z s : State} {a1} (h : z.Follows s) : z.Follows (State.enableQueue s a1) := by
  unfold State.enableQueue
  repeat' first
    | with_reducible assumption
    | with_reducible refine State.setReg_follows ?_
    | with_reducible refine State.setRq_follows ?_
    | with_reducible refine State.setFld_follows ?_
    | split
    | dsimp only

theorem State.afterQueueCfg_follows {z s : State} {a1 a2} (h : z.Follows s) : z.Follows (State.afterQueueCfg s a1 a2) := by
  unfold State.afterQueueCfg
  repeat' first
    | with_reducible assumption
    | with_reducible refine State.setRq_follows ?_
    | with_reducible refine State.enableQueue_follows ?_
    | with_reducible refine State.setFld_follows ?_
    | split
    | dsimp only

theorem State.afterQueueBase_follows {z s : State} {a1 a2} (h : z.Follows s) : z.Follows (State.afterQueueBase s a1 a2) := by
  unfold State.afterQueueBase
  repeat' first
    | with_reducible assumption
    | with_reducible refine State.setReg_follows ?_
    | with_reducible refine State.setFld_follows ?_
    | split
    | dsimp only

theorem State.queueDrained_follows {z s : State} {a1} (h : z.Follows s) : z.Follows (State.queueDrained s a1) := by
  unfold State.queueDrained
  repeat' first
    | with_reducible assumption
    | with_reducible refine State.setRq_follows ?_
    | with_reducible refine State.enableQueue_follows ?_
    | with_reducible refine State.setFld_follows ?_
    | split
    | dsimp only

theorem State.enablePool_follows {z s : State} {a1} (h : z.Follows s) : z.Follows (State.enablePool s a1) := by
  unfold State.enablePool
  repeat' first
    | with_reducible assumption
    | with_reducible refine State.setFld_follows ?_
    | split
    | dsimp only

theorem State.afterPoolCfg_follows {z s : State} {a1 a2} (h : z.Follows s) : z.Follows (State.afterPoolCfg s a1 a2) := by
  unfold State.afterPoolCfg
  repeat' first
    | with_reducible assumption
    | with_reducible refine State.setRq_follows ?_
    | with_reducible refine State.setFld_follows ?_
    | with_reducible refine State.enablePool_follows ?_
    | split
    | dsimp only

theorem State.afterPoolBase_follows {z s : State} {a1 a2} (h : z.Follows s) : z.Follows (State.afterPoolBase s a1 a2) := by
  unfold State.afterPoolBase
  repeat' first
    | with_reducible assumption
    | with_reducible refine State.setReg_follows ?_
    | with_reducible refine State.setFld_follows ?_
    | split
    | dsimp only

theorem State.afterPoolPtr_follows {z s : State} {a1 a2} (h : z.Follows s) : z.Follows (State.afterPoolPtr s a1 a2) := by
  unfold State.afterPoolPtr
  repeat' first
    | with_reducible assumption
    | with_reducible refine State.setReg_follows ?_
    | split
    | dsimp only

theorem State.poolDrained_follows {z s : State} {a1} (h : z.Follows s) : z.Follows (State.poolDrained s a1) := by
  unfold State.poolDrained
  repeat' first
    | with_reducible assumption
    | with_reducible refine State.setRq_follows ?_
    | with_reducible refine State.setFld_follows ?_
    | with_reducible refine State.enablePool_follows ?_
    | split
    | dsimp only

end Sys2Proof.Machine
end

