-- ==== Sys2Proof/Laws/FollowsMemory.lean ====
section
/-!
SUPPORT. Every operation of Machine/Memory answers a state that follows (State.Follows).
-/
namespace Sys2Proof.Machine

theorem State.memLoad_follows {z s : State} {a1 a2} (h : z.Follows s) : z.Follows (State.memLoad s a1 a2).1 := by
  unfold State.memLoad
  repeat' first
    | with_reducible assumption
    | with_reducible refine State.checkWord_follows ?_
    | with_reducible refine State.checkWord_follows_of ?_ (by with_reducible assumption)
    | split
    | dsimp only

theorem State.memLoad_follows_of {z s t : State} {a1 a2} {r} (h : z.Follows s) (e : State.memLoad s a1 a2 = (t, r)) : z.Follows t := by
  have k := State.memLoad_follows (z := z) (s := s) (a1 := a1) (a2 := a2) h
  rw [e] at k
  exact k

theorem State.memStore_follows {z s : State} {a1 a2 a3 a4} (h : z.Follows s) : z.Follows (State.memStore s a1 a2 a3 a4).1 := by
  unfold State.memStore
  repeat' first
    | with_reducible assumption
    | with_reducible refine State.setWrong_follows ?_
    | with_reducible refine State.store_follows ?_
    | with_reducible refine State.checkWord_follows ?_
    | with_reducible refine State.checkWord_follows_of ?_ (by with_reducible assumption)
    | split
    | dsimp only

theorem State.memStore_follows_of {z s t : State} {a1 a2 a3 a4} {r} (h : z.Follows s) (e : State.memStore s a1 a2 a3 a4 = (t, r)) : z.Follows t := by
  have k := State.memStore_follows (z := z) (s := s) (a1 := a1) (a2 := a2) (a3 := a3) (a4 := a4) h
  rw [e] at k
  exact k

theorem State.patrolCopy_follows {z s : State} {a1} (h : z.Follows s) : z.Follows (State.patrolCopy s a1) := by
  unfold State.patrolCopy
  repeat' first
    | with_reducible assumption
    | with_reducible refine State.corrected_follows ?_
    | with_reducible refine State.Follows.foldl _ ?_ (fun _ _ _ => ?_)
    | with_reducible refine State.Follows.foldl_fst _ ?_ (fun _ _ _ => ?_)
    | split
    | dsimp only

theorem State.patrolAge_follows {z s : State} (h : z.Follows s) : z.Follows (State.patrolAge s) := by
  unfold State.patrolAge
  repeat' first
    | with_reducible assumption
    | with_reducible refine State.setArrays_follows ?_
    | split
    | dsimp only

theorem State.patrolMove_follows {z s : State} {a1} (h : z.Follows s) : z.Follows (State.patrolMove s a1) := by
  unfold State.patrolMove
  repeat' first
    | with_reducible assumption
    | with_reducible refine State.setArrays_follows ?_
    | with_reducible refine State.setFld_follows ?_
    | split
    | dsimp only

theorem State.patrolBorrow_follows {z s : State} (h : z.Follows s) : z.Follows (State.patrolBorrow s) := by
  unfold State.patrolBorrow
  repeat' first
    | with_reducible assumption
    | with_reducible refine State.setArrays_follows ?_
    | with_reducible refine State.takeFree_follows ?_
    | split
    | dsimp only

theorem State.patrolStep_follows {z s : State} {a1 a2} (h : z.Follows s) : z.Follows (State.patrolStep s a1 a2) := by
  unfold State.patrolStep
  repeat' first
    | with_reducible assumption
    | with_reducible refine State.setArrays_follows ?_
    | with_reducible refine State.patrolBorrow_follows ?_
    | with_reducible refine State.setFld_follows ?_
    | with_reducible refine State.patrolMove_follows ?_
    | with_reducible refine State.patrolCopy_follows ?_
    | with_reducible refine State.patrolAge_follows ?_
    | with_reducible refine State.count_follows ?_
    | with_reducible refine State.logSpm_follows ?_
    | with_reducible refine State.Follows.elim ?_ (fun _ => ?_)
    | split
    | dsimp only

theorem State.zeroSpan_follows {z s : State} {b n} (h : z.Follows s) : z.Follows (s.zeroSpan b n) :=
  h.tables rfl rfl rfl fun c => ⟨SMap.wf_filter _ c.mem, c.kprMem, c.regs, c.shadow, c.cores, c.eng⟩

theorem State.memStart_follows {z s : State} {a1} (h : z.Follows s) : z.Follows (State.memStart s a1) := by
  unfold State.memStart
  repeat' first
    | with_reducible assumption
    | with_reducible refine State.setArrays_follows ?_
    | with_reducible refine State.trainMem_follows ?_
    | with_reducible refine State.zeroSpan_follows ?_
    | with_reducible refine State.Follows.foldl _ ?_ (fun _ _ _ => ?_)
    | with_reducible refine State.Follows.foldl_fst _ ?_ (fun _ _ _ => ?_)
    | split
    | dsimp only

theorem State.refreshBank_follows {z s : State} {a1 a2} (h : z.Follows s) : z.Follows (State.refreshBank s a1 a2) := by
  unfold State.refreshBank
  repeat' first
    | with_reducible assumption
    | with_reducible refine State.setArrays_follows ?_
    | with_reducible refine State.takeFree_follows ?_
    | split
    | dsimp only

end Sys2Proof.Machine
end

