-- ==== Sys2Proof/Laws/FollowsLedger.lean ====
section
/-!
SUPPORT. Every operation of Machine/Ledger answers a state that follows (State.Follows).
-/
namespace Sys2Proof.Machine

theorem State.setLdg_follows {z s : State} {a1} (h : z.Follows s) : z.Follows (State.setLdg s a1) := by
  unfold State.setLdg
  repeat' first
    | with_reducible assumption
    | split
    | dsimp only
    | fail_if_no_progress (with_reducible refine State.Follows.mk_upd ?_)

theorem State.jstat_follows {z s : State} (h : z.Follows s) : z.Follows (State.jstat s) := by
  unfold State.jstat
  repeat' first
    | with_reducible assumption
    | with_reducible refine State.pulse_follows ?_
    | with_reducible refine State.setFld_follows ?_
    | split
    | dsimp only

theorem State.journalFrom_follows_of {z s t : State} {a1 a2 a3} (h : z.Follows s) (e : State.journalFrom s a1 a2 a3 = some t) : z.Follows t := by
  unfold State.journalFrom at e
  try dsimp only at e
  (repeat' split at e) <;> first
    | contradiction
    | (simp only [Option.some.injEq, Prod.mk.injEq] at e; first | subst e | obtain ⟨rfl, _⟩ := e)
  all_goals repeat' first
    | with_reducible assumption
    | with_reducible refine State.setLdg_follows ?_
    | with_reducible refine State.jstat_follows ?_
    | split
    | dsimp only

theorem State.journal_follows_of {z s t : State} {items tag} (h : z.Follows s) (e : s.journal items tag = some t) : z.Follows t :=
  State.journalFrom_follows_of h e

theorem State.mapCtr_follows {z s : State} {a1 a2} (h : z.Follows s) : z.Follows (State.mapCtr s a1 a2) := by
  unfold State.mapCtr
  repeat' first
    | with_reducible assumption
    | split
    | dsimp only
    | fail_if_no_progress (with_reducible refine State.Follows.mk_upd ?_)

theorem State.tagDone_follows {z s : State} {a1} (h : z.Follows s) : z.Follows (State.tagDone s a1) := by
  unfold State.tagDone
  repeat' first
    | with_reducible assumption
    | with_reducible refine State.endReq_follows ?_
    | with_reducible refine State.mapCtr_follows ?_
    | split
    | dsimp only
    | fail_if_no_progress (with_reducible refine State.Follows.mk_upd ?_)

theorem State.setGroupWrong_follows {z s : State} {a1 a2} (h : z.Follows s) : z.Follows (State.setGroupWrong s a1 a2) := by
  unfold State.setGroupWrong
  repeat' first
    | with_reducible assumption
    | with_reducible refine State.setLdg_follows ?_
    | split
    | dsimp only

theorem State.rewriteGroups_follows {z s : State} {a1} (h : z.Follows s) : z.Follows (State.rewriteGroups s a1) := by
  unfold State.rewriteGroups
  repeat' first
    | with_reducible assumption
    | with_reducible refine State.setGroupWrong_follows ?_
    | with_reducible refine State.setLdg_follows ?_
    | with_reducible refine State.Follows.foldl _ ?_ (fun _ _ _ => ?_)
    | with_reducible refine State.Follows.foldl_fst _ ?_ (fun _ _ _ => ?_)
    | split
    | dsimp only

theorem State.sealOldest_follows {z s : State} (h : z.Follows s) : z.Follows (State.sealOldest s) := by
  unfold State.sealOldest
  repeat' first
    | with_reducible assumption
    | with_reducible refine State.setFld_follows ?_
    | with_reducible refine State.setLdg_follows ?_
    | with_reducible refine State.rewriteGroups_follows ?_
    | with_reducible refine State.tagDone_follows ?_
    | split
    | dsimp only

theorem State.sealAll_follows {z s : State} {a1} (h : z.Follows s) : z.Follows (State.sealAll s a1) := by
  induction a1 generalizing s with
  | zero => exact h
  | succ n ih =>
    unfold State.sealAll
    repeat' first
      | with_reducible assumption
      | with_reducible refine ih ?_
      | with_reducible refine State.sealOldest_follows ?_
      | split
      | dsimp only

theorem State.applyOne_follows {z s : State} (h : z.Follows s) : z.Follows (State.applyOne s) := by
  unfold State.applyOne
  repeat' first
    | with_reducible assumption
    | with_reducible refine State.setLdg_follows ?_
    | with_reducible refine State.jstat_follows ?_
    | with_reducible refine State.Follows.foldl _ ?_ (fun _ _ _ => ?_)
    | with_reducible refine State.Follows.foldl_fst _ ?_ (fun _ _ _ => ?_)
    | split
    | dsimp only

theorem State.applyAll_follows {z s : State} {a1} (h : z.Follows s) : z.Follows (State.applyAll s a1) := by
  induction a1 generalizing s with
  | zero => exact h
  | succ n ih =>
    unfold State.applyAll
    repeat' first
      | with_reducible assumption
      | with_reducible refine ih ?_
      | with_reducible refine State.applyOne_follows ?_
      | split
      | dsimp only

theorem State.journalBy_follows {z s : State} {a1 a2} (h : z.Follows s) : z.Follows (State.journalBy s a1 a2) := by
  unfold State.journalBy
  repeat' first
    | with_reducible assumption
    | with_reducible refine State.sealAll_follows ?_
    | with_reducible refine State.applyAll_follows ?_
    | with_reducible refine State.journalFrom_follows_of ?_ (by with_reducible assumption)
    | split
    | dsimp only

theorem State.journalNow_follows {z s : State} {a1} (h : z.Follows s) : z.Follows (State.journalNow s a1) := by
  unfold State.journalNow
  repeat' first
    | with_reducible assumption
    | with_reducible refine State.journalBy_follows ?_
    | split
    | dsimp only

theorem State.journalMany_follows {z s : State} {src n items} (h : z.Follows s) : z.Follows (s.journalMany src n items) := by
  induction n generalizing s items with
  | zero => exact h
  | succ n ih =>
    unfold State.journalMany
    split
    · exact h
    · exact ih (State.journalBy_follows h)

theorem State.setNblock_follows {z s : State} {a1 a2} (h : z.Follows s) : z.Follows (State.setNblock s a1 a2) := by
  unfold State.setNblock
  repeat' first
    | with_reducible assumption
    | with_reducible refine State.setLdg_follows ?_
    | split
    | dsimp only

theorem State.nandStat_follows {z s : State} (h : z.Follows s) : z.Follows (State.nandStat s) := by
  unfold State.nandStat
  repeat' first
    | with_reducible assumption
    | with_reducible refine State.setFld_follows ?_
    | with_reducible refine State.Follows.foldl _ ?_ (fun _ _ _ => ?_)
    | with_reducible refine State.Follows.foldl_fst _ ?_ (fun _ _ _ => ?_)
    | split
    | dsimp only

theorem State.allocPage_follows_of {z s t : State} {r} (h : z.Follows s) (e : State.allocPage s = some (t, r)) : z.Follows t := by
  unfold State.allocPage at e
  try dsimp only at e
  (repeat' split at e) <;> first
    | contradiction
    | (simp only [Option.some.injEq, Prod.mk.injEq] at e; first | subst e | obtain ⟨rfl, _⟩ := e)
  all_goals repeat' first
    | with_reducible assumption
    | with_reducible refine State.setNblock_follows ?_
    | with_reducible refine State.setFld_follows ?_
    | with_reducible refine State.setLdg_follows ?_
    | split
    | dsimp only

theorem State.programPage_follows {z s : State} {a1 a2 a3} (h : z.Follows s) : z.Follows (State.programPage s a1 a2 a3) := by
  unfold State.programPage
  repeat' first
    | with_reducible assumption
    | with_reducible refine State.setLdg_follows ?_
    | with_reducible refine State.Follows.foldl _ ?_ (fun _ _ _ => ?_)
    | with_reducible refine State.Follows.foldl_fst _ ?_ (fun _ _ _ => ?_)
    | split
    | dsimp only

theorem State.startProg_follows {z s : State} {a1 a2 a3 a4} (h : z.Follows s) : z.Follows (State.startProg s a1 a2 a3 a4) := by
  unfold State.startProg
  repeat' first
    | with_reducible assumption
    | with_reducible refine State.setLdg_follows ?_
    | with_reducible refine State.allocPage_follows_of ?_ (by with_reducible assumption)
    | split
    | dsimp only

theorem State.programBy_follows {z s : State} {a1 a2 a3 a4} (h : z.Follows s) : z.Follows (State.programBy s a1 a2 a3 a4) := by
  unfold State.programBy
  repeat' first
    | with_reducible assumption
    | with_reducible refine State.programPage_follows ?_
    | with_reducible refine State.journalBy_follows ?_
    | with_reducible refine State.allocPage_follows_of ?_ (by with_reducible assumption)
    | split
    | dsimp only

theorem State.programNow_follows {z s : State} {a1 a2 a3} (h : z.Follows s) : z.Follows (State.programNow s a1 a2 a3) := by
  unfold State.programNow
  repeat' first
    | with_reducible assumption
    | with_reducible refine State.programBy_follows ?_
    | split
    | dsimp only

theorem State.evacuate_follows {z s : State} {a1} (h : z.Follows s) : z.Follows (State.evacuate s a1) := by
  unfold State.evacuate
  repeat' first
    | with_reducible assumption
    | with_reducible refine State.setLdg_follows ?_
    | with_reducible refine State.takeFree_follows ?_
    | with_reducible refine State.programNow_follows ?_
    | with_reducible refine State.Follows.foldl _ ?_ (fun _ _ _ => ?_)
    | with_reducible refine State.Follows.foldl_fst _ ?_ (fun _ _ _ => ?_)
    | split
    | dsimp only

theorem State.retireBlock_follows {z s : State} {a1} (h : z.Follows s) : z.Follows (State.retireBlock s a1) := by
  unfold State.retireBlock
  repeat' first
    | with_reducible assumption
    | with_reducible refine State.setNblock_follows ?_
    | with_reducible refine State.nandStat_follows ?_
    | with_reducible refine State.count_follows ?_
    | with_reducible refine State.evacuate_follows ?_
    | split
    | dsimp only

theorem State.eraseBlock_follows {z s : State} {a1} (h : z.Follows s) : z.Follows (State.eraseBlock s a1) := by
  unfold State.eraseBlock
  repeat' first
    | with_reducible assumption
    | with_reducible refine State.setNblock_follows ?_
    | split
    | dsimp only

theorem State.collect_follows {z s : State} (h : z.Follows s) : z.Follows (State.collect s) := by
  unfold State.collect
  repeat' first
    | with_reducible assumption
    | with_reducible refine State.eraseBlock_follows ?_
    | with_reducible refine State.nandStat_follows ?_
    | with_reducible refine State.evacuate_follows ?_
    | split
    | dsimp only

theorem State.levelWear_follows {z s : State} (h : z.Follows s) : z.Follows (State.levelWear s) := by
  unfold State.levelWear
  repeat' first
    | with_reducible assumption
    | with_reducible refine State.eraseBlock_follows ?_
    | with_reducible refine State.nandStat_follows ?_
    | with_reducible refine State.evacuate_follows ?_
    | with_reducible refine State.Follows.foldl _ ?_ (fun _ _ _ => ?_)
    | with_reducible refine State.Follows.foldl_fst _ ?_ (fun _ _ _ => ?_)
    | split
    | dsimp only

theorem State.startCkpt_follows {z s : State} {a1 a2 a3 a4} (h : z.Follows s) : z.Follows (State.startCkpt s a1 a2 a3 a4) := by
  unfold State.startCkpt
  repeat' first
    | with_reducible assumption
    | with_reducible refine State.startProg_follows ?_
    | split
    | dsimp only

theorem State.scheduleCkpt_follows {z s : State} {a1} (h : z.Follows s) : z.Follows (State.scheduleCkpt s a1) := by
  unfold State.scheduleCkpt
  repeat' first
    | with_reducible assumption
    | with_reducible refine State.setLdg_follows ?_
    | split
    | dsimp only

theorem State.logLdg_follows {z s : State} {a1 a2 a3} (h : z.Follows s) : z.Follows (State.logLdg s a1 a2 a3) := by
  unfold State.logLdg
  repeat' first
    | with_reducible assumption
    | with_reducible refine State.setFld_follows ?_
    | split
    | dsimp only

theorem State.mramPut_follows {z s : State} {a1 a2} (h : z.Follows s) : z.Follows (State.mramPut s a1 a2) := by
  unfold State.mramPut
  repeat' first
    | with_reducible assumption
    | with_reducible refine State.setLdg_follows ?_
    | split
    | dsimp only

theorem State.dropHandle_follows {z s : State} {a1} (h : z.Follows s) : z.Follows (State.dropHandle s a1) := by
  unfold State.dropHandle
  repeat' first
    | with_reducible assumption
    | with_reducible refine State.journalNow_follows ?_
    | with_reducible refine State.Follows.foldl _ ?_ (fun _ _ _ => ?_)
    | with_reducible refine State.Follows.foldl_fst _ ?_ (fun _ _ _ => ?_)
    | split
    | dsimp only

theorem State.repairGroup_follows {z s : State} {a1} (h : z.Follows s) : z.Follows (State.repairGroup s a1) := by
  unfold State.repairGroup
  repeat' first
    | with_reducible assumption
    | with_reducible refine State.mramPut_follows ?_
    | with_reducible refine State.setLdg_follows ?_
    | with_reducible refine State.dropHandle_follows ?_
    | with_reducible refine State.count_follows ?_
    | split
    | dsimp only

theorem State.lostGroup_follows {z s : State} {a1} (h : z.Follows s) : z.Follows (State.lostGroup s a1) := by
  unfold State.lostGroup
  repeat' first
    | with_reducible assumption
    | with_reducible refine State.setGroupWrong_follows ?_
    | with_reducible refine State.setFld_follows ?_
    | with_reducible refine State.repairGroup_follows ?_
    | with_reducible refine State.logLdg_follows ?_
    | with_reducible refine State.count_follows ?_
    | split
    | dsimp only

theorem State.meet_follows {z s : State} {a1 a2} (h : z.Follows s) : z.Follows (State.meet s a1 a2) := by
  unfold State.meet
  repeat' first
    | with_reducible assumption
    | with_reducible refine State.lostGroup_follows ?_
    | with_reducible refine State.Follows.foldl _ ?_ (fun _ _ _ => ?_)
    | with_reducible refine State.Follows.foldl_fst _ ?_ (fun _ _ _ => ?_)
    | split
    | dsimp only

theorem State.scrubGroup_follows {z s : State} {a1} (h : z.Follows s) : z.Follows (State.scrubGroup s a1) := by
  unfold State.scrubGroup
  repeat' first
    | with_reducible assumption
    | with_reducible refine State.setGroupWrong_follows ?_
    | with_reducible refine State.lostGroup_follows ?_
    | with_reducible refine State.count_follows ?_
    | split
    | dsimp only

theorem State.scrubMram_follows {z s : State} (h : z.Follows s) : z.Follows (State.scrubMram s) := by
  unfold State.scrubMram
  repeat' first
    | with_reducible assumption
    | with_reducible refine State.setLdg_follows ?_
    | with_reducible refine State.scrubGroup_follows ?_
    | with_reducible refine State.Follows.foldl _ ?_ (fun _ _ _ => ?_)
    | with_reducible refine State.Follows.foldl_fst _ ?_ (fun _ _ _ => ?_)
    | split
    | dsimp only

theorem State.readPage_follows {z s : State} {a1} (h : z.Follows s) : z.Follows (State.readPage s a1) := by
  unfold State.readPage
  repeat' first
    | with_reducible assumption
    | with_reducible refine State.retireBlock_follows ?_
    | with_reducible refine State.setNblock_follows ?_
    | with_reducible refine State.logLdg_follows ?_
    | with_reducible refine State.count_follows ?_
    | split
    | dsimp only

theorem State.scrubPage_follows {z s : State} {a1} (h : z.Follows s) : z.Follows (State.scrubPage s a1) := by
  unfold State.scrubPage
  repeat' first
    | with_reducible assumption
    | with_reducible refine State.programNow_follows ?_
    | with_reducible refine State.count_follows ?_
    | with_reducible refine State.readPage_follows ?_
    | with_reducible refine State.Follows.foldl _ ?_ (fun _ _ _ => ?_)
    | with_reducible refine State.Follows.foldl_fst _ ?_ (fun _ _ _ => ?_)
    | split
    | dsimp only

theorem State.forgetCtx_follows {z s : State} {a1} (h : z.Follows s) : z.Follows (State.forgetCtx s a1) := by
  unfold State.forgetCtx
  repeat' first
    | with_reducible assumption
    | with_reducible refine State.mramPut_follows ?_
    | split
    | dsimp only

theorem State.forgetCtr_follows {z s : State} {a1} (h : z.Follows s) : z.Follows (State.forgetCtr s a1) := by
  unfold State.forgetCtr
  repeat' first
    | with_reducible assumption
    | with_reducible refine State.mramPut_follows ?_
    | split
    | dsimp only

theorem State.discardEntries_follows {z s : State} {a1} (h : z.Follows s) : z.Follows (State.discardEntries s a1) := by
  unfold State.discardEntries
  repeat' first
    | with_reducible assumption
    | with_reducible refine State.setGroupWrong_follows ?_
    | with_reducible refine State.setFld_follows ?_
    | with_reducible refine State.forgetCtx_follows ?_
    | with_reducible refine State.forgetCtr_follows ?_
    | with_reducible refine State.logLdg_follows ?_
    | with_reducible refine State.count_follows ?_
    | with_reducible refine State.Follows.foldl _ ?_ (fun _ _ _ => ?_)
    | with_reducible refine State.Follows.foldl_fst _ ?_ (fun _ _ _ => ?_)
    | split
    | dsimp only

theorem State.replayTo_follows {z s : State} {a1} (h : z.Follows s) : z.Follows (State.replayTo s a1) := by
  unfold State.replayTo
  repeat' first
    | with_reducible assumption
    | with_reducible refine State.setLdg_follows ?_
    | with_reducible refine State.jstat_follows ?_
    | with_reducible refine State.Follows.foldl _ ?_ (fun _ _ _ => ?_)
    | with_reducible refine State.Follows.foldl_fst _ ?_ (fun _ _ _ => ?_)
    | split
    | dsimp only

theorem State.replay_follows {z s : State} (h : z.Follows s) : z.Follows (State.replay s) := by
  unfold State.replay
  repeat' first
    | with_reducible assumption
    | with_reducible refine State.discardEntries_follows ?_
    | with_reducible refine State.replayTo_follows ?_
    | split
    | dsimp only

theorem State.mount_follows {z s : State} (h : z.Follows s) : z.Follows (State.mount s) := by
  unfold State.mount
  repeat' first
    | with_reducible assumption
    | with_reducible refine State.replay_follows ?_
    | with_reducible refine State.setFld_follows ?_
    | with_reducible refine State.nandStat_follows ?_
    | with_reducible refine State.meet_follows ?_
    | with_reducible refine State.count_follows ?_
    | split
    | dsimp only

theorem State.closeLedger_follows {z s : State} {a1} (h : z.Follows s) : z.Follows (State.closeLedger s a1) := by
  unfold State.closeLedger
  repeat' first
    | with_reducible assumption
    | with_reducible refine State.sealAll_follows ?_
    | with_reducible refine State.setFld_follows ?_
    | with_reducible refine State.setLdg_follows ?_
    | with_reducible refine State.jstat_follows ?_
    | with_reducible refine State.applyAll_follows ?_
    | split
    | dsimp only

end Sys2Proof.Machine
end

