-- ==== Sys2Proof/Laws/FollowsAudit.lean ====
section
/-!
SUPPORT. Every operation of Machine/Audit answers a state that follows (State.Follows).
-/
namespace Sys2Proof.Machine

theorem State.setKpr_follows {z s : State} {a1} (h : z.Follows s) : z.Follows (State.setKpr s a1) := by
  unfold State.setKpr
  repeat' first
    | with_reducible assumption
    | split
    | dsimp only
    | fail_if_no_progress (with_reducible refine State.Follows.mk_upd ?_)

theorem State.setPassHeld_follows {z s : State} {a1 a2} (h : z.Follows s) : z.Follows (State.setPassHeld s a1 a2) := by
  unfold State.setPassHeld
  repeat' first
    | with_reducible assumption
    | with_reducible refine State.setKpr_follows ?_
    | split
    | dsimp only

theorem State.auditHead_follows {z s : State} {a1 a2} (h : z.Follows s) : z.Follows (State.auditHead s a1 a2) := by
  unfold State.auditHead
  repeat' first
    | with_reducible assumption
    | with_reducible refine State.setFld_follows ?_
    | with_reducible refine State.Follows.foldl _ ?_ (fun _ _ _ => ?_)
    | with_reducible refine State.Follows.foldl_fst _ ?_ (fun _ _ _ => ?_)
    | split
    | dsimp only

theorem State.flushStage_follows {z s : State} {a1} (h : z.Follows s) : z.Follows (State.flushStage s a1) := by
  unfold State.flushStage
  repeat' first
    | with_reducible assumption
    | with_reducible refine State.programNow_follows ?_
    | split
    | dsimp only

theorem State.auditStaged_follows {z s : State} {a1} (h : z.Follows s) : z.Follows (State.auditStaged s a1) := by
  unfold State.auditStaged
  repeat' first
    | with_reducible assumption
    | with_reducible refine State.setFld_follows ?_
    | with_reducible refine State.auditHead_follows ?_
    | with_reducible refine State.flushStage_follows ?_
    | split
    | dsimp only

theorem State.audit_follows {z s : State} {a1 a2 a3 a4 a5 a6} (h : z.Follows s) : z.Follows (State.audit s a1 a2 a3 a4 a5 a6) := by
  unfold State.audit
  repeat' first
    | with_reducible assumption
    | with_reducible refine State.auditStaged_follows ?_
    | with_reducible refine State.journalBy_follows ?_
    | split
    | dsimp only

theorem State.auditImage_follows {z s : State} {a1 a2 a3 a4} (h : z.Follows s) : z.Follows (State.auditImage s a1 a2 a3 a4) := by
  unfold State.auditImage
  repeat' first
    | with_reducible assumption
    | with_reducible refine State.audit_follows ?_
    | split
    | dsimp only

theorem State.auditKeyStore_follows {z s : State} {a1} (h : z.Follows s) : z.Follows (State.auditKeyStore s a1) := by
  unfold State.auditKeyStore
  repeat' first
    | with_reducible assumption
    | with_reducible refine State.audit_follows ?_
    | split
    | dsimp only

theorem State.auditPower_follows {z s : State} {a1 a2} (h : z.Follows s) : z.Follows (State.auditPower s a1 a2) := by
  unfold State.auditPower
  repeat' first
    | with_reducible assumption
    | with_reducible refine State.audit_follows ?_
    | split
    | dsimp only

theorem State.auditFailure_follows {z s : State} {a1 a2} (h : z.Follows s) : z.Follows (State.auditFailure s a1 a2) := by
  unfold State.auditFailure
  repeat' first
    | with_reducible assumption
    | with_reducible refine State.audit_follows ?_
    | split
    | dsimp only

end Sys2Proof.Machine
end

