-- ==== Sys2Proof/Laws/FollowsContexts.lean ====
section
/-!
SUPPORT. Every operation of Machine/Contexts answers a state that follows (State.Follows).
-/
namespace Sys2Proof.Machine

theorem State.setLnk_follows {z s : State} {a1} (h : z.Follows s) : z.Follows (State.setLnk s a1) := by
  unfold State.setLnk
  repeat' first
    | with_reducible assumption
    | split
    | dsimp only
    | fail_if_no_progress (with_reducible refine State.Follows.mk_upd ?_)

theorem State.setCtx_follows {z s : State} {a1 a2} (h : z.Follows s) : z.Follows (State.setCtx s a1 a2) := by
  unfold State.setCtx
  repeat' first
    | with_reducible assumption
    | with_reducible refine State.setLnk_follows ?_
    | split
    | dsimp only

theorem State.cleanCtx_follows {z s : State} {a1} (h : z.Follows s) : z.Follows (State.cleanCtx s a1) := by
  unfold State.cleanCtx
  repeat' first
    | with_reducible assumption
    | with_reducible refine State.setLnk_follows ?_
    | split
    | dsimp only

theorem State.meetCtx_follows {z s : State} {a1} (h : z.Follows s) : z.Follows (State.meetCtx s a1) := by
  unfold State.meetCtx
  repeat' first
    | with_reducible assumption
    | with_reducible refine State.meet_follows ?_
    | split
    | dsimp only

theorem State.meetSid_follows {z s : State} {a1} (h : z.Follows s) : z.Follows (State.meetSid s a1) := by
  unfold State.meetSid
  repeat' first
    | with_reducible assumption
    | with_reducible refine State.meet_follows ?_
    | split
    | dsimp only

end Sys2Proof.Machine
end

