-- ==== Sys2Proof/Laws/FollowsCipher.lean ====
section
/-!
SUPPORT. Every operation of Machine/Cipher answers a state that follows (State.Follows).
-/
namespace Sys2Proof.Machine

theorem State.setCph_follows {z s : State} {a1} (h : z.Follows s) : z.Follows (State.setCph s a1) := by
  unfold State.setCph
  repeat' first
    | with_reducible assumption
    | split
    | dsimp only
    | fail_if_no_progress (with_reducible refine State.Follows.mk_upd ?_)

theorem State.kstStat_follows {z s : State} (h : z.Follows s) : z.Follows (State.kstStat s) := by
  unfold State.kstStat
  repeat' first
    | with_reducible assumption
    | with_reducible refine State.setFld_follows ?_
    | split
    | dsimp only

theorem State.setSlot_follows {z s : State} {a1 a2} (h : z.Follows s) : z.Follows (State.setSlot s a1 a2) := by
  unfold State.setSlot
  repeat' first
    | with_reducible assumption
    | with_reducible refine State.kstStat_follows ?_
    | with_reducible refine State.setCph_follows ?_
    | split
    | dsimp only

theorem State.meetCtr_follows {z s : State} {a1} (h : z.Follows s) : z.Follows (State.meetCtr s a1) := by
  unfold State.meetCtr
  repeat' first
    | with_reducible assumption
    | with_reducible refine State.meet_follows ?_
    | split
    | dsimp only

theorem State.evictCtr_follows {z s : State} (h : z.Follows s) : z.Follows (State.evictCtr s) := by
  unfold State.evictCtr
  repeat' first
    | with_reducible assumption
    | with_reducible refine State.setLdg_follows ?_
    | split
    | dsimp only

theorem State.setCtr_follows {z s : State} {a1 a2} (h : z.Follows s) : z.Follows (State.setCtr s a1 a2) := by
  unfold State.setCtr
  repeat' first
    | with_reducible assumption
    | with_reducible refine State.setCph_follows ?_
    | with_reducible refine State.evictCtr_follows ?_
    | split
    | dsimp only

theorem State.keyLoaded_follows {z s : State} {a1 a2} (h : z.Follows s) : z.Follows (State.keyLoaded s a1 a2) := by
  unfold State.keyLoaded
  repeat' first
    | with_reducible assumption
    | with_reducible refine State.meetCtr_follows ?_
    | with_reducible refine State.setCtr_follows ?_
    | with_reducible refine State.journalNow_follows ?_
    | split
    | dsimp only

theorem State.reserveCtr_follows {z s : State} {a1} (h : z.Follows s) : z.Follows (State.reserveCtr s a1) := by
  unfold State.reserveCtr
  repeat' first
    | with_reducible assumption
    | with_reducible refine State.mapCtr_follows ?_
    | with_reducible refine State.count_follows ?_
    | with_reducible refine State.journal_follows_of ?_ (by with_reducible assumption)
    | split
    | dsimp only

theorem State.takeCtr_follows {z s : State} {a1} (h : z.Follows s) : z.Follows (State.takeCtr s a1).1 := by
  unfold State.takeCtr
  repeat' first
    | with_reducible assumption
    | with_reducible refine State.pulse_follows ?_
    | with_reducible refine State.meetCtr_follows ?_
    | with_reducible refine State.setFld_follows ?_
    | with_reducible refine State.setCtr_follows ?_
    | with_reducible refine State.reserveCtr_follows ?_
    | with_reducible refine State.count_follows ?_
    | with_reducible refine State.journalNow_follows ?_
    | split
    | dsimp only

theorem State.takeCtr_follows_of {z s t : State} {a1} {r} (h : z.Follows s) (e : State.takeCtr s a1 = (t, r)) : z.Follows t := by
  have k := State.takeCtr_follows (z := z) (s := s) (a1 := a1) h
  rw [e] at k
  exact k

theorem State.settleCtr_follows {z s : State} {a1} (h : z.Follows s) : z.Follows (State.settleCtr s a1) := by
  unfold State.settleCtr
  repeat' first
    | with_reducible assumption
    | with_reducible refine State.count_follows ?_
    | with_reducible refine State.journal_follows_of ?_ (by with_reducible assumption)
    | with_reducible refine State.Follows.getD (fun _ _ => ?_) ?_
    | split
    | dsimp only

theorem State.settleAll_follows {z s : State} (h : z.Follows s) : z.Follows (State.settleAll s) := by
  unfold State.settleAll
  repeat' first
    | with_reducible assumption
    | with_reducible refine State.setLdg_follows ?_
    | split
    | dsimp only

theorem State.unwrapFailed_follows {z s : State} (h : z.Follows s) : z.Follows (State.unwrapFailed s) := by
  unfold State.unwrapFailed
  repeat' first
    | with_reducible assumption
    | with_reducible refine State.setFld_follows ?_
    | with_reducible refine State.count_follows ?_
    | split
    | dsimp only

theorem State.cacheKey_follows {z s : State} {a1 a2} (h : z.Follows s) : z.Follows (State.cacheKey s a1 a2) := by
  unfold State.cacheKey
  repeat' first
    | with_reducible assumption
    | with_reducible refine State.setCph_follows ?_
    | split
    | dsimp only

theorem State.findKey_follows {z s : State} {a1} (h : z.Follows s) : z.Follows (State.findKey s a1).1 := by
  unfold State.findKey
  repeat' first
    | with_reducible assumption
    | with_reducible refine State.keyLoaded_follows ?_
    | with_reducible refine State.unwrapFailed_follows ?_
    | with_reducible refine State.cacheKey_follows ?_
    | with_reducible refine State.seen_follows ?_
    | split
    | dsimp only

theorem State.findKey_follows_of {z s t : State} {a1} {r} (h : z.Follows s) (e : State.findKey s a1 = (t, r)) : z.Follows t := by
  have k := State.findKey_follows (z := z) (s := s) (a1 := a1) h
  rw [e] at k
  exact k

theorem State.cipherOut_follows {z s : State} {a1 a2 a3} (h : z.Follows s) : z.Follows (State.cipherOut s a1 a2 a3) := by
  unfold State.cipherOut
  repeat' first
    | with_reducible assumption
    | with_reducible refine State.putLe_follows ?_
    | with_reducible refine State.put_follows ?_
    | split
    | dsimp only

theorem State.cipherZero_follows {z s : State} {a1 a2 a3} (h : z.Follows s) : z.Follows (State.cipherZero s a1 a2 a3) := by
  unfold State.cipherZero
  repeat' first
    | with_reducible assumption
    | with_reducible refine State.cipherOut_follows ?_
    | split
    | dsimp only

theorem State.runSeal_follows {z s : State} {a1 a2 a3} (h : z.Follows s) : z.Follows (State.runSeal s a1 a2 a3).1 := by
  unfold State.runSeal
  repeat' first
    | with_reducible assumption
    | with_reducible refine State.takeCtr_follows ?_
    | with_reducible refine State.putLe_follows ?_
    | with_reducible refine State.cipherOut_follows ?_
    | with_reducible refine State.seen_follows ?_
    | with_reducible refine State.takeCtr_follows_of ?_ (by with_reducible assumption)
    | split
    | dsimp only

theorem State.runSeal_follows_of {z s t : State} {a1 a2 a3} {r} (h : z.Follows s) (e : State.runSeal s a1 a2 a3 = (t, r)) : z.Follows t := by
  have k := State.runSeal_follows (z := z) (s := s) (a1 := a1) (a2 := a2) (a3 := a3) h
  rw [e] at k
  exact k

theorem State.runOpen_follows {z s : State} {a1 a2 a3} (h : z.Follows s) : z.Follows (State.runOpen s a1 a2 a3).1 := by
  unfold State.runOpen
  repeat' first
    | with_reducible assumption
    | with_reducible refine State.cipherOut_follows ?_
    | with_reducible refine State.cipherZero_follows ?_
    | with_reducible refine State.count_follows ?_
    | with_reducible refine State.seen_follows ?_
    | split
    | dsimp only

theorem State.runOpen_follows_of {z s t : State} {a1 a2 a3} {r} (h : z.Follows s) (e : State.runOpen s a1 a2 a3 = (t, r)) : z.Follows t := by
  have k := State.runOpen_follows (z := z) (s := s) (a1 := a1) (a2 := a2) (a3 := a3) h
  rw [e] at k
  exact k

theorem State.runRaw_follows {z s : State} {a1 a2 a3 a4} (h : z.Follows s) : z.Follows (State.runRaw s a1 a2 a3 a4).1 := by
  unfold State.runRaw
  repeat' first
    | with_reducible assumption
    | with_reducible refine State.cipherOut_follows ?_
    | with_reducible refine State.seen_follows ?_
    | split
    | dsimp only

theorem State.runRaw_follows_of {z s t : State} {a1 a2 a3 a4} {r} (h : z.Follows s) (e : State.runRaw s a1 a2 a3 a4 = (t, r)) : z.Follows t := by
  have k := State.runRaw_follows (z := z) (s := s) (a1 := a1) (a2 := a2) (a3 := a3) (a4 := a4) h
  rw [e] at k
  exact k

theorem State.runImport_follows {z s : State} {a1 a2 a3} (h : z.Follows s) : z.Follows (State.runImport s a1 a2 a3).1 := by
  unfold State.runImport
  repeat' first
    | with_reducible assumption
    | with_reducible refine State.cipherOut_follows ?_
    | with_reducible refine State.cipherZero_follows ?_
    | with_reducible refine State.unwrapFailed_follows ?_
    | with_reducible refine State.seen_follows ?_
    | split
    | dsimp only

theorem State.runImport_follows_of {z s t : State} {a1 a2 a3} {r} (h : z.Follows s) (e : State.runImport s a1 a2 a3 = (t, r)) : z.Follows t := by
  have k := State.runImport_follows (z := z) (s := s) (a1 := a1) (a2 := a2) (a3 := a3) h
  rw [e] at k
  exact k

theorem State.runWith_follows {z s : State} {a1 a2} (h : z.Follows s) : z.Follows (State.runWith s a1 a2).1 := by
  unfold State.runWith
  repeat' first
    | with_reducible assumption
    | with_reducible refine State.cipherZero_follows ?_
    | with_reducible refine State.runImport_follows ?_
    | with_reducible refine State.findKey_follows ?_
    | with_reducible refine State.runRaw_follows ?_
    | with_reducible refine State.runSeal_follows ?_
    | with_reducible refine State.runOpen_follows ?_
    | with_reducible refine State.takeFree_follows ?_
    | with_reducible refine State.runImport_follows_of ?_ (by with_reducible assumption)
    | with_reducible refine State.findKey_follows_of ?_ (by with_reducible assumption)
    | with_reducible refine State.runRaw_follows_of ?_ (by with_reducible assumption)
    | with_reducible refine State.runSeal_follows_of ?_ (by with_reducible assumption)
    | with_reducible refine State.runOpen_follows_of ?_ (by with_reducible assumption)
    | split
    | dsimp only

theorem State.runWith_follows_of {z s t : State} {a1 a2} {r} (h : z.Follows s) (e : State.runWith s a1 a2 = (t, r)) : z.Follows t := by
  have k := State.runWith_follows (z := z) (s := s) (a1 := a1) (a2 := a2) h
  rw [e] at k
  exact k

theorem State.runCipher_follows {z s : State} {a1 a2} (h : z.Follows s) : z.Follows (State.runCipher s a1 a2).1 := by
  unfold State.runCipher
  repeat' first
    | with_reducible assumption
    | with_reducible refine State.cipherOut_follows ?_
    | with_reducible refine State.runWith_follows ?_
    | with_reducible refine State.seen_follows ?_
    | with_reducible refine State.runWith_follows_of ?_ (by with_reducible assumption)
    | split
    | dsimp only

theorem State.runCipher_follows_of {z s t : State} {a1 a2} {r} (h : z.Follows s) (e : State.runCipher s a1 a2 = (t, r)) : z.Follows t := by
  have k := State.runCipher_follows (z := z) (s := s) (a1 := a1) (a2 := a2) h
  rw [e] at k
  exact k

theorem State.cphInval_follows {z s : State} {a1} (h : z.Follows s) : z.Follows (State.cphInval s a1) := by
  unfold State.cphInval
  repeat' first
    | with_reducible assumption
    | with_reducible refine State.setCph_follows ?_
    | split
    | dsimp only

theorem State.takePipe_follows {z s : State} {a1} (h : z.Follows s) : z.Follows (State.takePipe s a1) := by
  unfold State.takePipe
  repeat' first
    | with_reducible assumption
    | with_reducible refine State.setCph_follows ?_
    | with_reducible refine State.takeFree_follows ?_
    | split
    | dsimp only

theorem State.secLost_follows {z s : State} (h : z.Follows s) : z.Follows (State.secLost s) := by
  unfold State.secLost
  repeat' first
    | with_reducible assumption
    | with_reducible refine State.kstStat_follows ?_
    | split
    | dsimp only
    | fail_if_no_progress (with_reducible refine State.Follows.mk_upd ?_)

theorem State.zeroDst_follows {z s : State} {a1} (h : z.Follows s) : z.Follows (State.zeroDst s a1) := by
  unfold State.zeroDst
  repeat' first
    | with_reducible assumption
    | with_reducible refine State.cipherZero_follows ?_
    | with_reducible refine State.Follows.elim ?_ (fun _ => ?_)
    | split
    | dsimp only

theorem State.clearKstData_follows {z s : State} (h : z.Follows s) : z.Follows (State.clearKstData s) := by
  unfold State.clearKstData
  repeat' first
    | with_reducible assumption
    | with_reducible refine State.setReg_follows ?_
    | with_reducible refine State.Follows.foldl _ ?_ (fun _ _ _ => ?_)
    | with_reducible refine State.Follows.foldl_fst _ ?_ (fun _ _ _ => ?_)
    | split
    | dsimp only

theorem State.whiteout_follows {z s : State} (h : z.Follows s) : z.Follows (State.whiteout s) := by
  unfold State.whiteout
  repeat' first
    | with_reducible assumption
    | with_reducible refine State.pulse_follows ?_
    | with_reducible refine State.zeroDst_follows ?_
    | with_reducible refine State.endReq_follows ?_
    | with_reducible refine State.setCph_follows ?_
    | with_reducible refine State.auditKeyStore_follows ?_
    | with_reducible refine State.clearKstData_follows ?_
    | with_reducible refine State.secLost_follows ?_
    | with_reducible refine State.Follows.foldl _ ?_ (fun _ _ _ => ?_)
    | with_reducible refine State.Follows.foldl_fst _ ?_ (fun _ _ _ => ?_)
    | split
    | dsimp only

theorem State.alarmActive_follows {z s : State} {a1 a2} (h : z.Follows s) : z.Follows (State.alarmActive s a1 a2) := by
  unfold State.alarmActive
  repeat' first
    | with_reducible assumption
    | with_reducible refine State.setFld_follows ?_
    | split
    | dsimp only

theorem State.raiseAlarm_follows {z s : State} {a1} (h : z.Follows s) : z.Follows (State.raiseAlarm s a1) := by
  unfold State.raiseAlarm
  repeat' first
    | with_reducible assumption
    | with_reducible refine State.whiteout_follows ?_
    | with_reducible refine State.setFld_follows ?_
    | split
    | dsimp only

theorem State.setKstData_follows {z s : State} {a1} (h : z.Follows s) : z.Follows (State.setKstData s a1) := by
  unfold State.setKstData
  repeat' first
    | with_reducible assumption
    | with_reducible refine State.setReg_follows ?_
    | with_reducible refine State.Follows.foldl _ ?_ (fun _ _ _ => ?_)
    | with_reducible refine State.Follows.foldl_fst _ ?_ (fun _ _ _ => ?_)
    | split
    | dsimp only

theorem State.kstRun_follows {z s : State} {a1 a2} (h : z.Follows s) : z.Follows (State.kstRun s a1 a2) := by
  unfold State.kstRun
  repeat' first
    | with_reducible assumption
    | with_reducible refine State.keyLoaded_follows ?_
    | with_reducible refine State.kstStat_follows ?_
    | with_reducible refine State.setFld_follows ?_
    | with_reducible refine State.setCph_follows ?_
    | with_reducible refine State.setSlot_follows ?_
    | with_reducible refine State.setKstData_follows ?_
    | with_reducible refine State.auditKeyStore_follows ?_
    | with_reducible refine State.clearKstData_follows ?_
    | with_reducible refine State.raiseAlarm_follows ?_
    | with_reducible refine State.takeFree_follows ?_
    | split
    | dsimp only

end Sys2Proof.Machine
end

