-- ==== Sys2Proof/Laws/FollowsLedgerCmds.lean ====
section
/-!
SUPPORT. Every operation of Machine/LedgerCmds answers a state that follows (State.Follows).
-/
namespace Sys2Proof.Machine

theorem State.ldgMeets_follows {z s : State} {a1} (h : z.Follows s) : z.Follows (State.ldgMeets s a1) := by
  unfold State.ldgMeets
  repeat' first
    | with_reducible assumption
    | with_reducible refine State.meet_follows ?_
    | with_reducible refine State.readPage_follows ?_
    | with_reducible refine State.Follows.foldl _ ?_ (fun _ _ _ => ?_)
    | with_reducible refine State.Follows.foldl_fst _ ?_ (fun _ _ _ => ?_)
    | split
    | dsimp only

theorem State.freezeCtr_follows {z s : State} {a1} (h : z.Follows s) : z.Follows (State.freezeCtr s a1) := by
  unfold State.freezeCtr
  repeat' first
    | with_reducible assumption
    | with_reducible refine State.mapCtr_follows ?_
    | with_reducible refine State.journalNow_follows ?_
    | split
    | dsimp only

theorem State.runExport_follows {z s : State} {a1} (h : z.Follows s) : z.Follows (State.runExport s a1) := by
  unfold State.runExport
  repeat' first
    | with_reducible assumption
    | with_reducible refine State.freezeCtr_follows ?_
    | with_reducible refine State.setFld_follows ?_
    | with_reducible refine State.put_follows ?_
    | with_reducible refine State.Follows.foldl _ ?_ (fun _ _ _ => ?_)
    | with_reducible refine State.Follows.foldl_fst _ ?_ (fun _ _ _ => ?_)
    | split
    | dsimp only

theorem State.handInstall_follows_of {z s t : State} {a1 a2 a3} (h : z.Follows s) (e : State.handInstall s a1 a2 a3 = some t) : z.Follows t := by
  unfold State.handInstall at e
  try dsimp only at e
  (repeat' split at e) <;> first
    | contradiction
    | (simp only [Option.some.injEq, Prod.mk.injEq] at e; first | subst e | obtain ⟨rfl, _⟩ := e)
  all_goals repeat' first
    | with_reducible assumption
    | with_reducible refine State.setCph_follows ?_
    | with_reducible refine State.programNow_follows ?_
    | with_reducible refine State.programBy_follows ?_
    | split
    | dsimp only

theorem State.handOne_follows_of {z s t : State} {src img a b} (h : z.Follows s) (e : s.handOne src img a b = some t) :
    z.Follows t := by
  unfold State.handOne at e
  split at e
  · exact State.handInstall_follows_of h e
  · cases e
    exact h

theorem State.handAll_follows_of {z s t : State} {src img a b n} (h : z.Follows s) (e : s.handAll src img a b n = some t) :
    z.Follows t := by
  induction n generalizing s b with
  | zero =>
    cases e
    exact h
  | succ n ih =>
    unfold State.handAll at e
    split at e
    · exact nomatch e
    · rename_i s1 h1
      exact ih (State.handOne_follows_of h h1) e

theorem State.rebuildIndex_follows {z s : State} (h : z.Follows s) : z.Follows (State.rebuildIndex s) := by
  unfold State.rebuildIndex
  repeat' first
    | with_reducible assumption
    | with_reducible refine State.mramPut_follows ?_
    | with_reducible refine State.setLdg_follows ?_
    | with_reducible refine State.Follows.foldl _ ?_ (fun _ _ _ => ?_)
    | with_reducible refine State.Follows.foldl_fst _ ?_ (fun _ _ _ => ?_)
    | split
    | dsimp only

theorem State.ldgRead_follows {z s : State} {a1 a2 a3} (h : z.Follows s) : z.Follows (State.ldgRead s a1 a2 a3) := by
  unfold State.ldgRead
  repeat' first
    | with_reducible assumption
    | with_reducible refine State.putLe_follows ?_
    | with_reducible refine State.endReq_follows ?_
    | with_reducible refine State.put_follows ?_
    | split
    | dsimp only

theorem State.ldgJournal_follows {z s : State} {a1 a2} (h : z.Follows s) : z.Follows (State.ldgJournal s a1 a2) := by
  unfold State.ldgJournal
  repeat' first
    | with_reducible assumption
    | with_reducible refine State.returnReq_follows ?_
    | with_reducible refine State.putLe_follows ?_
    | with_reducible refine State.journalReq_follows ?_
    | with_reducible refine State.count_follows ?_
    | with_reducible refine State.journal_follows_of ?_ (by with_reducible assumption)
    | split
    | dsimp only

theorem State.ldgProgram_follows {z s : State} {a1 a2 a3 a4} (h : z.Follows s) : z.Follows (State.ldgProgram s a1 a2 a3 a4) := by
  unfold State.ldgProgram
  repeat' first
    | with_reducible assumption
    | with_reducible refine State.journalReq_follows ?_
    | with_reducible refine State.startProg_follows ?_
    | with_reducible refine State.allocPage_follows_of ?_ (by with_reducible assumption)
    | split
    | dsimp only

theorem State.ldgDone_follows {z s : State} {a1} (h : z.Follows s) : z.Follows (State.ldgDone s a1) := by
  unfold State.ldgDone
  repeat' first
    | with_reducible assumption
    | with_reducible refine State.putLe_follows ?_
    | with_reducible refine State.endReq_follows ?_
    | split
    | dsimp only

theorem State.calAppend_follows {z s : State} {a1} (h : z.Follows s) : z.Follows (State.calAppend s a1) := by
  unfold State.calAppend
  repeat' first
    | with_reducible assumption
    | with_reducible refine State.setLdg_follows ?_
    | with_reducible refine State.programBy_follows ?_
    | with_reducible refine State.Follows.foldl _ ?_ (fun _ _ _ => ?_)
    | with_reducible refine State.Follows.foldl_fst _ ?_ (fun _ _ _ => ?_)
    | split
    | dsimp only

theorem State.unmapArea_follows {z s : State} {a1} (h : z.Follows s) : z.Follows (State.unmapArea s a1) := by
  unfold State.unmapArea
  repeat' first
    | with_reducible assumption
    | with_reducible refine State.journalMany_follows ?_
    | split
    | dsimp only

theorem State.tapTaken_follows {z s : State} {a1} (h : z.Follows s) : z.Follows (State.tapTaken s a1) := by
  unfold State.tapTaken
  repeat' first
    | with_reducible assumption
    | split
    | dsimp only
    | fail_if_no_progress (with_reducible refine State.Follows.mk_upd ?_)

theorem State.ldgEffect_follows {z s : State} {a1 a2} (h : z.Follows s) : z.Follows (State.ldgEffect s a1 a2) := by
  unfold State.ldgEffect
  repeat' first
    | with_reducible assumption
    | with_reducible refine State.rebuildIndex_follows ?_
    | with_reducible refine State.putLe_follows ?_
    | with_reducible refine State.journalReq_follows ?_
    | with_reducible refine State.unmapArea_follows ?_
    | with_reducible refine State.endReq_follows ?_
    | with_reducible refine State.ldgRead_follows ?_
    | with_reducible refine State.calAppend_follows ?_
    | with_reducible refine State.auditStaged_follows ?_
    | with_reducible refine State.ldgProgram_follows ?_
    | with_reducible refine State.ldgDone_follows ?_
    | with_reducible refine State.journalBy_follows ?_
    | with_reducible refine State.tapTaken_follows ?_
    | with_reducible refine State.ldgJournal_follows ?_
    | with_reducible refine State.runExport_follows ?_
    | with_reducible refine State.startCkpt_follows ?_
    | with_reducible refine State.handAll_follows_of ?_ (by with_reducible assumption)
    | with_reducible refine State.allocPage_follows_of ?_ (by with_reducible assumption)
    | split
    | dsimp only

theorem State.ldgRun_follows {z s : State} {a1} (h : z.Follows s) : z.Follows (State.ldgRun s a1) := by
  unfold State.ldgRun
  repeat' first
    | with_reducible assumption
    | with_reducible refine State.endReq_follows ?_
    | with_reducible refine State.count_follows ?_
    | with_reducible refine State.seen_follows ?_
    | with_reducible refine State.ldgMeets_follows ?_
    | with_reducible refine State.ldgEffect_follows ?_
    | with_reducible refine State.tapCommand_follows ?_
    | split
    | dsimp only

theorem State.runCkpt_follows {z s : State} {a1} (h : z.Follows s) : z.Follows (State.runCkpt s a1) := by
  unfold State.runCkpt
  repeat' first
    | with_reducible assumption
    | with_reducible refine State.setLdg_follows ?_
    | with_reducible refine State.meet_follows ?_
    | with_reducible refine State.readPage_follows ?_
    | with_reducible refine State.startCkpt_follows ?_
    | with_reducible refine State.allocPage_follows_of ?_ (by with_reducible assumption)
    | split
    | dsimp only

theorem State.stampJseq_follows {z s : State} {a1} (h : z.Follows s) : z.Follows (State.stampJseq s a1) := by
  unfold State.stampJseq
  repeat' first
    | with_reducible assumption
    | with_reducible refine State.putLe_follows ?_
    | split
    | dsimp only

theorem State.progDone_follows {z s : State} {a1 a2} (h : z.Follows s) : z.Follows (State.progDone s a1 a2) := by
  unfold State.progDone
  repeat' first
    | with_reducible assumption
    | with_reducible refine State.retireBlock_follows ?_
    | with_reducible refine State.stampJseq_follows ?_
    | with_reducible refine State.programPage_follows ?_
    | with_reducible refine State.setLdg_follows ?_
    | with_reducible refine State.count_follows ?_
    | with_reducible refine State.startProg_follows ?_
    | with_reducible refine State.journal_follows_of ?_ (by with_reducible assumption)
    | split
    | dsimp only

theorem State.eraseDone_follows {z s : State} {a1 a2} (h : z.Follows s) : z.Follows (State.eraseDone s a1 a2) := by
  unfold State.eraseDone
  repeat' first
    | with_reducible assumption
    | with_reducible refine State.retireBlock_follows ?_
    | with_reducible refine State.setNblock_follows ?_
    | with_reducible refine State.setLdg_follows ?_
    | with_reducible refine State.nandStat_follows ?_
    | split
    | dsimp only

theorem State.rebuildMap_follows {z s : State} (h : z.Follows s) : z.Follows (State.rebuildMap s) := by
  unfold State.rebuildMap
  repeat' first
    | with_reducible assumption
    | with_reducible refine State.mramPut_follows ?_
    | with_reducible refine State.setLdg_follows ?_
    | with_reducible refine State.Follows.foldl _ ?_ (fun _ _ _ => ?_)
    | with_reducible refine State.Follows.foldl_fst _ ?_ (fun _ _ _ => ?_)
    | split
    | dsimp only

theorem State.rebuildDone_follows {z s : State} (h : z.Follows s) : z.Follows (State.rebuildDone s) := by
  unfold State.rebuildDone
  repeat' first
    | with_reducible assumption
    | with_reducible refine State.rebuildIndex_follows ?_
    | with_reducible refine State.rebuildMap_follows ?_
    | split
    | dsimp only

end Sys2Proof.Machine
end

