-- ==== Sys2Proof/Laws/FollowsDrift.lean ====
section
/-!
SUPPORT. Every operation of Machine/Drift answers a state that follows (State.Follows).
-/
namespace Sys2Proof.Machine

theorem State.showLost_follows {z s : State} (h : z.Follows s) : z.Follows (State.showLost s) := by
  unfold State.showLost
  repeat' first
    | with_reducible assumption
    | with_reducible refine State.setFld_follows ?_
    | split
    | dsimp only

theorem State.pushLost_follows {z s : State} {a1} (h : z.Follows s) : z.Follows (State.pushLost s a1) := by
  unfold State.pushLost
  repeat' first
    | with_reducible assumption
    | with_reducible refine State.setLnk_follows ?_
    | with_reducible refine State.showLost_follows ?_
    | with_reducible refine State.setFld_follows ?_
    | split
    | dsimp only

theorem State.popLost_follows {z s : State} (h : z.Follows s) : z.Follows (State.popLost s) := by
  unfold State.popLost
  repeat' first
    | with_reducible assumption
    | with_reducible refine State.setLnk_follows ?_
    | with_reducible refine State.showLost_follows ?_
    | split
    | dsimp only

theorem State.storeCtx_follows {z s : State} {a1 a2} (h : z.Follows s) : z.Follows (State.storeCtx s a1 a2) := by
  unfold State.storeCtx
  repeat' first
    | with_reducible assumption
    | with_reducible refine State.setCtx_follows ?_
    | with_reducible refine State.addReq_follows ?_
    | split
    | dsimp only

theorem State.driftMiss_follows {z s : State} {a1} (h : z.Follows s) : z.Follows (State.driftMiss s a1) := by
  unfold State.driftMiss
  repeat' first
    | with_reducible assumption
    | with_reducible refine State.pulse_follows ?_
    | with_reducible refine State.storeCtx_follows ?_
    | with_reducible refine State.pushLost_follows ?_
    | with_reducible refine State.count_follows ?_
    | split
    | dsimp only

end Sys2Proof.Machine
end

