-- ==== Sys2Proof/Laws/FollowsSlots.lean ====
section
/-!
SUPPORT. Every operation of Machine/Slots answers a state that follows (State.Follows).
-/
namespace Sys2Proof.Machine

theorem State.setAcc_follows {z s : State} {a1 a2} (h : z.Follows s) : z.Follows (State.setAcc s a1 a2) := by
  unfold State.setAcc
  repeat' first
    | with_reducible assumption
    | split
    | dsimp only
    | fail_if_no_progress (with_reducible refine State.Follows.mk_upd ?_)

theorem State.lapPulse_follows {z s : State} {a1} (h : z.Follows s) : z.Follows (State.lapPulse s a1) := by
  unfold State.lapPulse
  repeat' first
    | with_reducible assumption
    | with_reducible refine State.pulse_follows ?_
    | split
    | dsimp only

theorem State.accStat_follows {z s : State} {a1} (h : z.Follows s) : z.Follows (State.accStat s a1) := by
  unfold State.accStat
  repeat' first
    | with_reducible assumption
    | with_reducible refine State.setFld_follows ?_
    | with_reducible refine State.Follows.elim ?_ (fun _ => ?_)
    | split
    | dsimp only

theorem State.placeOffer_follows {z s : State} {a1 a2} (h : z.Follows s) : z.Follows (State.placeOffer s a1 a2) := by
  unfold State.placeOffer
  repeat' first
    | with_reducible assumption
    | with_reducible refine State.pulse_follows ?_
    | with_reducible refine State.accStat_follows ?_
    | with_reducible refine State.setAcc_follows ?_
    | split
    | dsimp only

theorem State.giveOcc_follows {z s : State} {a1 a2 a3} (h : z.Follows s) : z.Follows (State.giveOcc s a1 a2 a3) := by
  unfold State.giveOcc
  repeat' first
    | with_reducible assumption
    | with_reducible refine State.setAcc_follows ?_
    | split
    | dsimp only

theorem State.touchCtx_follows {z s : State} {a1} (h : z.Follows s) : z.Follows (State.touchCtx s a1) := by
  unfold State.touchCtx
  repeat' first
    | with_reducible assumption
    | with_reducible refine State.setLnk_follows ?_
    | split
    | dsimp only

theorem State.takeGuard_follows {z s : State} {a1 a2 a3} (h : z.Follows s) : z.Follows (State.takeGuard s a1 a2 a3) := by
  unfold State.takeGuard
  repeat' first
    | with_reducible assumption
    | with_reducible refine State.touchCtx_follows ?_
    | with_reducible refine State.meetCtx_follows ?_
    | with_reducible refine State.setAcc_follows ?_
    | split
    | dsimp only

theorem State.outcome_follows {z s : State} {a1 a2 a3} (h : z.Follows s) : z.Follows (State.outcome s a1 a2 a3) := by
  unfold State.outcome
  repeat' first
    | with_reducible assumption
    | with_reducible refine State.setAcc_follows ?_
    | split
    | dsimp only

theorem State.attemptEnded_follows {z s : State} {a1 a2 a3} (h : z.Follows s) : z.Follows (State.attemptEnded s a1 a2 a3) := by
  unfold State.attemptEnded
  repeat' first
    | with_reducible assumption
    | with_reducible refine State.setAcc_follows ?_
    | split
    | dsimp only

theorem State.occDone_follows {z s : State} {a1 a2 a3} (h : z.Follows s) : z.Follows (State.occDone s a1 a2 a3) := by
  unfold State.occDone
  repeat' first
    | with_reducible assumption
    | with_reducible refine State.attemptEnded_follows ?_
    | with_reducible refine State.outcome_follows ?_
    | split
    | dsimp only

theorem State.dropOffer_follows {z s : State} {a1 a2} (h : z.Follows s) : z.Follows (State.dropOffer s a1 a2) := by
  unfold State.dropOffer
  repeat' first
    | with_reducible assumption
    | with_reducible refine State.accStat_follows ?_
    | with_reducible refine State.setAcc_follows ?_
    | split
    | dsimp only

theorem State.readNext_follows {z s : State} {a1} (h : z.Follows s) : z.Follows (State.readNext s a1) := by
  unfold State.readNext
  repeat' first
    | with_reducible assumption
    | with_reducible refine State.accStat_follows ?_
    | with_reducible refine State.setAcc_follows ?_
    | split
    | dsimp only

theorem State.editApply_follows {z s : State} {a1 a2 a3} (h : z.Follows s) : z.Follows (State.editApply s a1 a2 a3) := by
  unfold State.editApply
  repeat' first
    | with_reducible assumption
    | with_reducible refine State.setReg_follows ?_
    | with_reducible refine State.setAcc_follows ?_
    | with_reducible refine State.seen_follows ?_
    | with_reducible refine State.Follows.foldl _ ?_ (fun _ _ _ => ?_)
    | with_reducible refine State.Follows.foldl_fst _ ?_ (fun _ _ _ => ?_)
    | split
    | dsimp only

theorem State.editCmd_follows {z s : State} {a1 a2 a3} (h : z.Follows s) : z.Follows (State.editCmd s a1 a2 a3) := by
  unfold State.editCmd
  repeat' first
    | with_reducible assumption
    | with_reducible refine State.editApply_follows ?_
    | with_reducible refine State.setFld_follows ?_
    | with_reducible refine State.setAcc_follows ?_
    | with_reducible refine State.count_follows ?_
    | split
    | dsimp only

theorem State.editDone_follows {z s : State} {a1} (h : z.Follows s) : z.Follows (State.editDone s a1) := by
  unfold State.editDone
  repeat' first
    | with_reducible assumption
    | with_reducible refine State.setFld_follows ?_
    | with_reducible refine State.setAcc_follows ?_
    | split
    | dsimp only

theorem State.serveWindow_follows {z s : State} {a1 a2} (h : z.Follows s) : z.Follows (State.serveWindow s a1 a2) := by
  unfold State.serveWindow
  repeat' first
    | with_reducible assumption
    | with_reducible refine State.setAcc_follows ?_
    | with_reducible refine State.placeOffer_follows ?_
    | with_reducible refine State.takeFree_follows ?_
    | with_reducible refine State.seen_follows ?_
    | split
    | dsimp only

theorem State.openWindow_follows {z s : State} {a1 a2 a3} (h : z.Follows s) : z.Follows (State.openWindow s a1 a2 a3) := by
  unfold State.openWindow
  repeat' first
    | with_reducible assumption
    | with_reducible refine State.setAcc_follows ?_
    | with_reducible refine State.serveWindow_follows ?_
    | split
    | dsimp only

theorem State.cqEnd_follows {z s : State} {a1 a2 a3 a4 a5} (h : z.Follows s) : z.Follows (State.cqEnd s a1 a2 a3 a4 a5) := by
  unfold State.cqEnd
  repeat' first
    | with_reducible assumption
    | with_reducible refine State.putLe_follows ?_
    | with_reducible refine State.setFld_follows ?_
    | with_reducible refine State.setAcc_follows ?_
    | with_reducible refine State.pulseFree_follows ?_
    | with_reducible refine State.count_follows ?_
    | split
    | dsimp only

theorem State.attemptComplete_follows {z s : State} {a1 a2} (h : z.Follows s) : z.Follows (State.attemptComplete s a1 a2) := by
  unfold State.attemptComplete
  repeat' first
    | with_reducible assumption
    | with_reducible refine State.cqEnd_follows ?_
    | with_reducible refine State.setAcc_follows ?_
    | with_reducible refine State.serveWindow_follows ?_
    | with_reducible refine State.Follows.getD (fun _ _ => ?_) ?_
    | split
    | dsimp only

theorem State.closeWindow_follows {z s : State} {a1 a2} (h : z.Follows s) : z.Follows (State.closeWindow s a1 a2) := by
  unfold State.closeWindow
  repeat' first
    | with_reducible assumption
    | with_reducible refine State.setAcc_follows ?_
    | with_reducible refine State.serveWindow_follows ?_
    | split
    | dsimp only

theorem State.afterCqCfg_follows {z s : State} {a1 a2 a3} (h : z.Follows s) : z.Follows (State.afterCqCfg s a1 a2 a3) := by
  unfold State.afterCqCfg
  repeat' first
    | with_reducible assumption
    | with_reducible refine State.setReg_follows ?_
    | split
    | dsimp only

theorem State.afterCqPtr_follows {z s : State} {a1 a2 a3} (h : z.Follows s) : z.Follows (State.afterCqPtr s a1 a2 a3) := by
  unfold State.afterCqPtr
  repeat' first
    | with_reducible assumption
    | with_reducible refine State.setReg_follows ?_
    | with_reducible refine State.serveWindow_follows ?_
    | split
    | dsimp only

theorem State.skipPast_follows {z s : State} {a1 a2 a3 a4} (h : z.Follows s) : z.Follows (State.skipPast s a1 a2 a3 a4) := by
  unfold State.skipPast
  repeat' first
    | with_reducible assumption
    | with_reducible refine State.giveOcc_follows ?_
    | with_reducible refine State.outcome_follows ?_
    | with_reducible refine State.count_follows ?_
    | split
    | dsimp only

theorem State.seenReady_follows {z s : State} {a1 a2} (h : z.Follows s) : z.Follows (State.seenReady s a1 a2) := by
  unfold State.seenReady
  repeat' first
    | with_reducible assumption
    | with_reducible refine State.seen_follows ?_
    | split
    | dsimp only

theorem State.offerOcc_follows {z s : State} {a1 a2 a3} (h : z.Follows s) : z.Follows (State.offerOcc s a1 a2 a3) := by
  unfold State.offerOcc
  repeat' first
    | with_reducible assumption
    | with_reducible refine State.seenReady_follows ?_
    | with_reducible refine State.setFld_follows ?_
    | with_reducible refine State.giveOcc_follows ?_
    | with_reducible refine State.setAcc_follows ?_
    | with_reducible refine State.placeOffer_follows ?_
    | with_reducible refine State.serveWindow_follows ?_
    | with_reducible refine State.skipPast_follows ?_
    | with_reducible refine State.count_follows ?_
    | split
    | dsimp only

theorem State.skipOcc_follows {z s : State} {a1 a2 a3} (h : z.Follows s) : z.Follows (State.skipOcc s a1 a2 a3) := by
  unfold State.skipOcc
  repeat' first
    | with_reducible assumption
    | with_reducible refine State.occDone_follows ?_
    | with_reducible refine State.skipPast_follows ?_
    | with_reducible refine State.count_follows ?_
    | with_reducible refine State.dropOffer_follows ?_
    | split
    | dsimp only

theorem State.swapTable_follows {z s : State} {a1} (h : z.Follows s) : z.Follows (State.swapTable s a1) := by
  unfold State.swapTable
  repeat' first
    | with_reducible assumption
    | with_reducible refine State.setAcc_follows ?_
    | with_reducible refine State.count_follows ?_
    | split
    | dsimp only

end Sys2Proof.Machine
end

