-- ==== Sys2Proof/Laws/FollowsLanes.lean ====
section
/-!
SUPPORT. Every operation of Machine/Lanes answers a state that follows (State.Follows).
-/
namespace Sys2Proof.Machine

theorem State.setLane_follows {z s : State} {a1 a2 a3} (h : z.Follows s) : z.Follows (State.setLane s a1 a2 a3) := by
  unfold State.setLane
  repeat' first
    | with_reducible assumption
    | split
    | dsimp only
    | fail_if_no_progress (with_reducible refine State.Follows.mk_upd ?_)

theorem State.setChain_follows {z s : State} {a1 a2 a3} (h : z.Follows s) : z.Follows (State.setChain s a1 a2 a3) := by
  unfold State.setChain
  repeat' first
    | with_reducible assumption
    | split
    | dsimp only
    | fail_if_no_progress (with_reducible refine State.Follows.mk_upd ?_)

theorem State.freeLane_follows {z s : State} {a1 a2} (h : z.Follows s) : z.Follows (State.freeLane s a1 a2) := by
  unfold State.freeLane
  repeat' first
    | with_reducible assumption
    | with_reducible refine State.setLane_follows ?_
    | split
    | dsimp only

theorem State.settleWatch_follows {z s : State} {a1} (h : z.Follows s) : z.Follows (State.settleWatch s a1) := by
  unfold State.settleWatch
  repeat' first
    | with_reducible assumption
    | with_reducible refine State.setLnk_follows ?_
    | with_reducible refine State.driftMiss_follows ?_
    | split
    | dsimp only

theorem State.settleMisses_follows {z s : State} (h : z.Follows s) : z.Follows (State.settleMisses s) := by
  unfold State.settleMisses
  repeat' first
    | with_reducible assumption
    | with_reducible refine State.settleWatch_follows ?_
    | with_reducible refine State.Follows.foldl _ ?_ (fun _ _ _ => ?_)
    | with_reducible refine State.Follows.foldl_fst _ ?_ (fun _ _ _ => ?_)
    | split
    | dsimp only

theorem State.setCap_follows {z s : State} {a1} (h : z.Follows s) : z.Follows (State.setCap s a1) := by
  unfold State.setCap
  repeat' first
    | with_reducible assumption
    | with_reducible refine State.setFld_follows ?_
    | split
    | dsimp only
    | fail_if_no_progress (with_reducible refine State.Follows.mk_upd ?_)

theorem State.capStart_follows {z s : State} {a1 a2 a3 a4} (h : z.Follows s) : z.Follows (State.capStart s a1 a2 a3 a4) := by
  unfold State.capStart
  repeat' first
    | with_reducible assumption
    | with_reducible refine State.setCap_follows ?_
    | with_reducible refine State.count_follows ?_
    | split
    | dsimp only

theorem State.ghostRecord_follows {z s : State} {a1 a2} (h : z.Follows s) : z.Follows (State.ghostRecord s a1 a2) := by
  unfold State.ghostRecord
  repeat' first
    | with_reducible assumption
    | with_reducible refine State.rqReserve_follows ?_
    | with_reducible refine State.rqStart_follows ?_
    | with_reducible refine State.rewind_follows ?_
    | with_reducible refine State.rqReserve_follows_of ?_ (by with_reducible assumption)
    | with_reducible refine State.rqStart_follows_of ?_ (by with_reducible assumption)
    | split
    | dsimp only

theorem State.endRecord_follows {z s : State} {a1 a2 a3} (h : z.Follows s) : z.Follows (State.endRecord s a1 a2 a3) := by
  unfold State.endRecord
  repeat' first
    | with_reducible assumption
    | with_reducible refine State.rqReserve_follows ?_
    | with_reducible refine State.rewind_follows ?_
    | with_reducible refine State.ghostRecord_follows ?_
    | with_reducible refine State.rqReserve_follows_of ?_ (by with_reducible assumption)
    | split
    | dsimp only

theorem State.cutRecord_follows {z s : State} {a1 a2} (h : z.Follows s) : z.Follows (State.cutRecord s a1 a2) := by
  unfold State.cutRecord
  repeat' first
    | with_reducible assumption
    | with_reducible refine State.endRecord_follows ?_
    | split
    | dsimp only

theorem State.cutFrames_follows {z s : State} {a1 a2} (h : z.Follows s) : z.Follows (State.cutFrames s a1 a2) := by
  unfold State.cutFrames
  repeat' first
    | with_reducible assumption
    | with_reducible refine State.freeLane_follows ?_
    | with_reducible refine State.count_follows ?_
    | with_reducible refine State.cutRecord_follows ?_
    | with_reducible refine State.Follows.foldl _ ?_ (fun _ _ _ => ?_)
    | with_reducible refine State.Follows.foldl_fst _ ?_ (fun _ _ _ => ?_)
    | split
    | dsimp only

theorem State.preempt_follows {z s : State} {a1 a2 a3} (h : z.Follows s) : z.Follows (State.preempt s a1 a2 a3) := by
  unfold State.preempt
  repeat' first
    | with_reducible assumption
    | with_reducible refine State.freeLane_follows ?_
    | with_reducible refine State.capStart_follows ?_
    | with_reducible refine State.count_follows ?_
    | split
    | dsimp only

theorem State.reserveLane_follows {z s : State} {a1 a2} (h : z.Follows s) : z.Follows (State.reserveLane s a1 a2).1 := by
  unfold State.reserveLane
  repeat' first
    | with_reducible assumption
    | with_reducible refine State.preempt_follows ?_
    | with_reducible refine State.setLane_follows ?_
    | with_reducible refine State.count_follows ?_
    | split
    | dsimp only

theorem State.reserveLane_follows_of {z s t : State} {a1 a2} {r} (h : z.Follows s) (e : State.reserveLane s a1 a2 = (t, r)) : z.Follows t := by
  have k := State.reserveLane_follows (z := z) (s := s) (a1 := a1) (a2 := a2) h
  rw [e] at k
  exact k

theorem State.unreserve_follows {z s : State} {a1 a2} (h : z.Follows s) : z.Follows (State.unreserve s a1 a2) := by
  unfold State.unreserve
  repeat' first
    | with_reducible assumption
    | with_reducible refine State.setLane_follows ?_
    | split
    | dsimp only

end Sys2Proof.Machine
end

