-- ==== Sys2Proof/Laws/FollowsRadio.lean ====
section
/-!
SUPPORT. Every operation of Machine/Radio answers a state that follows (State.Follows).
-/
namespace Sys2Proof.Machine

theorem State.writeRecord_follows {z s : State} {a1 a2 a3 a4} (h : z.Follows s) : z.Follows (State.writeRecord s a1 a2 a3 a4) := by
  unfold State.writeRecord
  repeat' first
    | with_reducible assumption
    | with_reducible refine State.setEngine_follows ?_
    | split
    | dsimp only

theorem State.ackFailed_follows {z s : State} {a1} (h : z.Follows s) : z.Follows (State.ackFailed s a1) := by
  unfold State.ackFailed
  repeat' first
    | with_reducible assumption
    | with_reducible refine State.setLnk_follows ?_
    | with_reducible refine State.count_follows ?_
    | split
    | dsimp only

theorem State.ackSent_follows {z s : State} {a1} (h : z.Follows s) : z.Follows (State.ackSent s a1) := by
  unfold State.ackSent
  repeat' first
    | with_reducible assumption
    | with_reducible refine State.setLnk_follows ?_
    | with_reducible refine State.count_follows ?_
    | split
    | dsimp only

theorem State.afterAction_follows {z s : State} {a1 a2} (h : z.Follows s) : z.Follows (State.afterAction s a1 a2) := by
  unfold State.afterAction
  repeat' first
    | with_reducible assumption
    | with_reducible refine State.setChain_follows ?_
    | with_reducible refine State.Follows.getD (fun _ _ => ?_) ?_
    | split
    | dsimp only

theorem State.endCmd_follows {z s : State} {a1 a2 a3 a4 a5} (h : z.Follows s) : z.Follows (State.endCmd s a1 a2 a3 a4 a5) := by
  unfold State.endCmd
  repeat' first
    | with_reducible assumption
    | with_reducible refine State.pulse_follows ?_
    | with_reducible refine State.ackSent_follows ?_
    | with_reducible refine State.writeRecord_follows ?_
    | with_reducible refine State.afterAction_follows ?_
    | with_reducible refine State.ackFailed_follows ?_
    | with_reducible refine State.occDone_follows ?_
    | with_reducible refine State.pulseFree_follows ?_
    | split
    | dsimp only

theorem State.failCmd_follows {z s : State} {a1 a2 a3 a4} (h : z.Follows s) : z.Follows (State.failCmd s a1 a2 a3 a4) := by
  unfold State.failCmd
  repeat' first
    | with_reducible assumption
    | with_reducible refine State.endCmd_follows ?_
    | with_reducible refine State.releaseDuty_follows ?_
    | with_reducible refine State.setChain_follows ?_
    | split
    | dsimp only

theorem State.setCmd_follows {z s : State} {a1 a2 a3 a4} (h : z.Follows s) : z.Follows (State.setCmd s a1 a2 a3 a4) := by
  unfold State.setCmd
  repeat' first
    | with_reducible assumption
    | with_reducible refine State.setChain_follows ?_
    | split
    | dsimp only

theorem State.suspendListen_follows {z s : State} {a1 a2} (h : z.Follows s) : z.Follows (State.suspendListen s a1 a2) := by
  unfold State.suspendListen
  repeat' first
    | with_reducible assumption
    | with_reducible refine State.setChain_follows ?_
    | with_reducible refine State.cutFrames_follows ?_
    | split
    | dsimp only

theorem State.endListen_follows {z s : State} {a1 a2 a3 a4} (h : z.Follows s) : z.Follows (State.endListen s a1 a2 a3 a4) := by
  unfold State.endListen
  repeat' first
    | with_reducible assumption
    | with_reducible refine State.endCmd_follows ?_
    | with_reducible refine State.setChain_follows ?_
    | with_reducible refine State.cutFrames_follows ?_
    | split
    | dsimp only

theorem State.yieldCal_follows {z s : State} {a1 a2} (h : z.Follows s) : z.Follows (State.yieldCal s a1 a2) := by
  unfold State.yieldCal
  repeat' first
    | with_reducible assumption
    | with_reducible refine State.endCmd_follows ?_
    | with_reducible refine State.setChain_follows ?_
    | with_reducible refine State.count_follows ?_
    | split
    | dsimp only

theorem State.keepBranches_follows {z s : State} {a1} (h : z.Follows s) : z.Follows (State.keepBranches s a1) := by
  unfold State.keepBranches
  repeat' first
    | with_reducible assumption
    | with_reducible refine State.setLane_follows ?_
    | with_reducible refine State.Follows.foldl _ ?_ (fun _ _ _ => ?_)
    | with_reducible refine State.Follows.foldl_fst _ ?_ (fun _ _ _ => ?_)
    | split
    | dsimp only

theorem State.startMove_follows {z s : State} {a1 a2 a3 a4} (h : z.Follows s) : z.Follows (State.startMove s a1 a2 a3 a4) := by
  unfold State.startMove
  repeat' first
    | with_reducible assumption
    | with_reducible refine State.setChain_follows ?_
    | split
    | dsimp only

theorem State.moveCmd_follows {z s : State} {a1 a2 a3} (h : z.Follows s) : z.Follows (State.moveCmd s a1 a2 a3) := by
  unfold State.moveCmd
  repeat' first
    | with_reducible assumption
    | with_reducible refine State.yieldCal_follows ?_
    | with_reducible refine State.setCmd_follows ?_
    | with_reducible refine State.suspendListen_follows ?_
    | with_reducible refine State.startMove_follows ?_
    | with_reducible refine State.failCmd_follows ?_
    | split
    | dsimp only

theorem State.synthMove_follows {z s : State} {a1 a2} (h : z.Follows s) : z.Follows (State.synthMove s a1 a2) := by
  unfold State.synthMove
  repeat' first
    | with_reducible assumption
    | with_reducible refine State.yieldCal_follows ?_
    | with_reducible refine State.moveCmd_follows ?_
    | with_reducible refine State.startMove_follows ?_
    | split
    | dsimp only

theorem State.synthLock_follows {z s : State} {a1 a2} (h : z.Follows s) : z.Follows (State.synthLock s a1 a2) := by
  unfold State.synthLock
  repeat' first
    | with_reducible assumption
    | with_reducible refine State.pulse_follows ?_
    | with_reducible refine State.afterAction_follows ?_
    | with_reducible refine State.endCmd_follows ?_
    | with_reducible refine State.setChain_follows ?_
    | split
    | dsimp only

theorem State.txCheck_follows {z s : State} {a1 a2 a3} (h : z.Follows s) : z.Follows (State.txCheck s a1 a2 a3) := by
  unfold State.txCheck
  repeat' first
    | with_reducible assumption
    | with_reducible refine State.setCmd_follows ?_
    | with_reducible refine State.failCmd_follows ?_
    | with_reducible refine State.reserveDuty_follows ?_
    | with_reducible refine State.count_follows ?_
    | with_reducible refine State.reserveDuty_follows_of ?_ (by with_reducible assumption)
    | split
    | dsimp only

theorem State.lockCheck_follows {z s : State} {a1 a2 a3} (h : z.Follows s) : z.Follows (State.lockCheck s a1 a2 a3) := by
  unfold State.lockCheck
  repeat' first
    | with_reducible assumption
    | with_reducible refine State.setCmd_follows ?_
    | with_reducible refine State.failCmd_follows ?_
    | with_reducible refine State.count_follows ?_
    | split
    | dsimp only

theorem State.lbtDecide_follows {z s : State} {a1 a2 a3} (h : z.Follows s) : z.Follows (State.lbtDecide s a1 a2 a3) := by
  unfold State.lbtDecide
  repeat' first
    | with_reducible assumption
    | with_reducible refine State.setCmd_follows ?_
    | with_reducible refine State.failCmd_follows ?_
    | with_reducible refine State.count_follows ?_
    | split
    | dsimp only

theorem State.setFem_follows {z s : State} {a1 a2} (h : z.Follows s) : z.Follows (State.setFem s a1 a2) := by
  unfold State.setFem
  repeat' first
    | with_reducible assumption
    | split
    | dsimp only
    | fail_if_no_progress (with_reducible refine State.Follows.mk_upd ?_)

theorem State.planFem_follows {z s : State} {a1 a2 a3 a4 a5 a6} (h : z.Follows s) : z.Follows (State.planFem s a1 a2 a3 a4 a5 a6) := by
  unfold State.planFem
  repeat' first
    | with_reducible assumption
    | with_reducible refine State.setFem_follows ?_
    | split
    | dsimp only

theorem State.planTxOn_follows {z s : State} {a1 a2 a3} (h : z.Follows s) : z.Follows (State.planTxOn s a1 a2 a3) := by
  unfold State.planTxOn
  repeat' first
    | with_reducible assumption
    | with_reducible refine State.planFem_follows ?_
    | with_reducible refine State.setFld_follows ?_
    | split
    | dsimp only

theorem State.keepAfter_follows {z s : State} {a1 a2 a3} (h : z.Follows s) : z.Follows (State.keepAfter s a1 a2 a3) := by
  unfold State.keepAfter
  repeat' first
    | with_reducible assumption
    | with_reducible refine State.setChain_follows ?_
    | split
    | dsimp only

theorem State.planAfter_follows {z s : State} {a1 a2 a3} (h : z.Follows s) : z.Follows (State.planAfter s a1 a2 a3) := by
  unfold State.planAfter
  repeat' first
    | with_reducible assumption
    | with_reducible refine State.planFem_follows ?_
    | with_reducible refine State.keepAfter_follows ?_
    | split
    | dsimp only

theorem State.femStart_follows {z s : State} {a1 a2 a3} (h : z.Follows s) : z.Follows (State.femStart s a1 a2 a3) := by
  unfold State.femStart
  repeat' first
    | with_reducible assumption
    | with_reducible refine State.setFem_follows ?_
    | split
    | dsimp only

theorem State.femEnd_follows {z s : State} {a1} (h : z.Follows s) : z.Follows (State.femEnd s a1) := by
  unfold State.femEnd
  repeat' first
    | with_reducible assumption
    | with_reducible refine State.endCmd_follows ?_
    | with_reducible refine State.setFem_follows ?_
    | split
    | dsimp only

theorem State.beginAnt_follows {z s : State} {a1 a2 a3} (h : z.Follows s) : z.Follows (State.beginAnt s a1 a2 a3) := by
  unfold State.beginAnt
  repeat' first
    | with_reducible assumption
    | with_reducible refine State.setFld_follows ?_
    | with_reducible refine State.endCmd_follows ?_
    | with_reducible refine State.setFem_follows ?_
    | with_reducible refine State.setChain_follows ?_
    | split
    | dsimp only

end Sys2Proof.Machine
end

