-- ==== Sys2Proof/Laws/FollowsRadioActs.lean ====
section
/-!
SUPPORT. Every operation of Machine/RadioActs answers a state that follows (State.Follows).
-/
namespace Sys2Proof.Machine

theorem State.checkEntries_follows {z s : State} {a1 a2 a3} (h : z.Follows s) : z.Follows (State.checkEntries s a1 a2 a3) := by
  unfold State.checkEntries
  repeat' first
    | with_reducible assumption
    | with_reducible refine State.setFld_follows ?_
    | split
    | dsimp only

theorem State.setAct_follows {z s : State} {a1 a2 a3 a4} (h : z.Follows s) : z.Follows (State.setAct s a1 a2 a3 a4) := by
  unfold State.setAct
  repeat' first
    | with_reducible assumption
    | with_reducible refine State.setChain_follows ?_
    | split
    | dsimp only

theorem State.clearAct_follows {z s : State} {a1 a2 a3 a4 a5} (h : z.Follows s) : z.Follows (State.clearAct s a1 a2 a3 a4 a5) := by
  unfold State.clearAct
  repeat' first
    | with_reducible assumption
    | with_reducible refine State.setChain_follows ?_
    | split
    | dsimp only

theorem State.pathBegin_follows {z s : State} {a1 a2 a3} (h : z.Follows s) : z.Follows (State.pathBegin s a1 a2 a3) := by
  unfold State.pathBegin
  repeat' first
    | with_reducible assumption
    | with_reducible refine State.yieldCal_follows ?_
    | with_reducible refine State.setCmd_follows ?_
    | with_reducible refine State.suspendListen_follows ?_
    | with_reducible refine State.keepBranches_follows ?_
    | with_reducible refine State.keepAfter_follows ?_
    | with_reducible refine State.planTxOn_follows ?_
    | split
    | dsimp only

theorem State.transmitPath_follows {z s : State} {a1 a2} (h : z.Follows s) : z.Follows (State.transmitPath s a1 a2) := by
  unfold State.transmitPath
  repeat' first
    | with_reducible assumption
    | with_reducible refine State.pathBegin_follows ?_
    | with_reducible refine State.failCmd_follows ?_
    | split
    | dsimp only

theorem State.runChecks_follows {z s : State} {a1 a2 a3} (h : z.Follows s) : z.Follows (State.runChecks s a1 a2 a3).1 := by
  unfold State.runChecks
  repeat' first
    | with_reducible assumption
    | with_reducible refine State.lockCheck_follows ?_
    | with_reducible refine State.txCheck_follows ?_
    | split
    | dsimp only

theorem State.runChecks_follows_of {z s t : State} {a1 a2 a3} {r} (h : z.Follows s) (e : State.runChecks s a1 a2 a3 = (t, r)) : z.Follows t := by
  have k := State.runChecks_follows (z := z) (s := s) (a1 := a1) (a2 := a2) (a3 := a3) h
  rw [e] at k
  exact k

theorem State.beginTx_follows {z s : State} {a1 a2 a3} (h : z.Follows s) : z.Follows (State.beginTx s a1 a2 a3) := by
  unfold State.beginTx
  repeat' first
    | with_reducible assumption
    | with_reducible refine State.pathBegin_follows ?_
    | with_reducible refine State.setAct_follows ?_
    | split
    | dsimp only

theorem State.beginRx_follows {z s : State} {a1 a2 a3} (h : z.Follows s) : z.Follows (State.beginRx s a1 a2 a3) := by
  unfold State.beginRx
  repeat' first
    | with_reducible assumption
    | with_reducible refine State.setLnk_follows ?_
    | with_reducible refine State.endListen_follows ?_
    | with_reducible refine State.checkEntries_follows ?_
    | with_reducible refine State.reserveLane_follows ?_
    | with_reducible refine State.setAct_follows ?_
    | with_reducible refine State.reserveLane_follows_of ?_ (by with_reducible assumption)
    | split
    | dsimp only

theorem State.beginListen_follows {z s : State} {a1 a2 a3} (h : z.Follows s) : z.Follows (State.beginListen s a1 a2 a3) := by
  unfold State.beginListen
  repeat' first
    | with_reducible assumption
    | with_reducible refine State.endListen_follows ?_
    | with_reducible refine State.checkEntries_follows ?_
    | with_reducible refine State.setChain_follows ?_
    | split
    | dsimp only

theorem State.beginTune_follows {z s : State} {a1 a2 a3} (h : z.Follows s) : z.Follows (State.beginTune s a1 a2 a3) := by
  unfold State.beginTune
  repeat' first
    | with_reducible assumption
    | with_reducible refine State.suspendListen_follows ?_
    | with_reducible refine State.startMove_follows ?_
    | with_reducible refine State.failCmd_follows ?_
    | with_reducible refine State.setAct_follows ?_
    | split
    | dsimp only

theorem State.beginCal_follows {z s : State} {a1 a2 a3} (h : z.Follows s) : z.Follows (State.beginCal s a1 a2 a3) := by
  unfold State.beginCal
  repeat' first
    | with_reducible assumption
    | with_reducible refine State.planFem_follows ?_
    | with_reducible refine State.setFld_follows ?_
    | with_reducible refine State.endCmd_follows ?_
    | with_reducible refine State.keepBranches_follows ?_
    | with_reducible refine State.keepAfter_follows ?_
    | with_reducible refine State.setChain_follows ?_
    | with_reducible refine State.setAct_follows ?_
    | split
    | dsimp only

theorem State.beginPareq_follows {z s : State} {a1 a2 a3} (h : z.Follows s) : z.Follows (State.beginPareq s a1 a2 a3) := by
  unfold State.beginPareq
  repeat' first
    | with_reducible assumption
    | with_reducible refine State.setFld_follows ?_
    | with_reducible refine State.failCmd_follows ?_
    | with_reducible refine State.setChain_follows ?_
    | split
    | dsimp only
    | fail_if_no_progress (with_reducible refine State.Follows.mk_upd ?_)

theorem State.beginQueued_follows {z s : State} {a1 a2} (h : z.Follows s) : z.Follows (State.beginQueued s a1 a2) := by
  unfold State.beginQueued
  repeat' first
    | with_reducible assumption
    | with_reducible refine State.yieldCal_follows ?_
    | with_reducible refine State.endListen_follows ?_
    | with_reducible refine State.suspendListen_follows ?_
    | with_reducible refine State.beginTune_follows ?_
    | with_reducible refine State.beginPareq_follows ?_
    | with_reducible refine State.failCmd_follows ?_
    | with_reducible refine State.beginRx_follows ?_
    | with_reducible refine State.endCmd_follows ?_
    | with_reducible refine State.beginListen_follows ?_
    | with_reducible refine State.beginCal_follows ?_
    | with_reducible refine State.setChain_follows ?_
    | with_reducible refine State.runChecks_follows ?_
    | with_reducible refine State.beginAnt_follows ?_
    | with_reducible refine State.beginTx_follows ?_
    | with_reducible refine State.count_follows ?_
    | with_reducible refine State.setAct_follows ?_
    | with_reducible refine State.runChecks_follows_of ?_ (by with_reducible assumption)
    | split
    | dsimp only

theorem State.seenFrame_follows {z s : State} {a1} (h : z.Follows s) : z.Follows (State.seenFrame s a1) := by
  unfold State.seenFrame
  repeat' first
    | with_reducible assumption
    | with_reducible refine State.seen_follows ?_
    | split
    | dsimp only

theorem State.fixCmd_follows {z s : State} {a1 a2} (h : z.Follows s) : z.Follows (State.fixCmd s a1 a2) := by
  unfold State.fixCmd
  repeat' first
    | with_reducible assumption
    | with_reducible refine State.fixDuty_follows ?_
    | split
    | dsimp only

theorem State.txLastBit_follows {z s : State} {a1 a2} (h : z.Follows s) : z.Follows (State.txLastBit s a1 a2) := by
  unfold State.txLastBit
  repeat' first
    | with_reducible assumption
    | with_reducible refine State.endCmd_follows ?_
    | with_reducible refine State.planAfter_follows ?_
    | with_reducible refine State.seenFrame_follows ?_
    | with_reducible refine State.clearAct_follows ?_
    | with_reducible refine State.fixCmd_follows ?_
    | with_reducible refine State.setChain_follows ?_
    | with_reducible refine State.takeFree_follows ?_
    | with_reducible refine State.Follows.getD (fun _ _ => ?_) ?_
    | split
    | dsimp only

theorem State.watchOver_follows {z s : State} {a1 a2 a3} (h : z.Follows s) : z.Follows (State.watchOver s a1 a2 a3) := by
  unfold State.watchOver
  repeat' first
    | with_reducible assumption
    | with_reducible refine State.setLnk_follows ?_
    | with_reducible refine State.settleMisses_follows ?_
    | with_reducible refine State.Follows.elim ?_ (fun _ => ?_)
    | split
    | dsimp only

theorem State.rxClose_follows {z s : State} {a1 a2} (h : z.Follows s) : z.Follows (State.rxClose s a1 a2) := by
  unfold State.rxClose
  repeat' first
    | with_reducible assumption
    | with_reducible refine State.unreserve_follows ?_
    | with_reducible refine State.endCmd_follows ?_
    | with_reducible refine State.clearAct_follows ?_
    | with_reducible refine State.watchOver_follows ?_
    | split
    | dsimp only

theorem State.ccaEnd_follows {z s : State} {a1 a2 a3} (h : z.Follows s) : z.Follows (State.ccaEnd s a1 a2 a3) := by
  unfold State.ccaEnd
  repeat' first
    | with_reducible assumption
    | with_reducible refine State.endCmd_follows ?_
    | with_reducible refine State.clearAct_follows ?_
    | split
    | dsimp only

theorem State.calEnd_follows {z s : State} {a1 a2 a3} (h : z.Follows s) : z.Follows (State.calEnd s a1 a2 a3) := by
  unfold State.calEnd
  repeat' first
    | with_reducible assumption
    | with_reducible refine State.endCmd_follows ?_
    | with_reducible refine State.planAfter_follows ?_
    | with_reducible refine State.clearAct_follows ?_
    | with_reducible refine State.setChain_follows ?_
    | split
    | dsimp only

theorem State.listenResume_follows {z s : State} {a1 a2} (h : z.Follows s) : z.Follows (State.listenResume s a1 a2) := by
  unfold State.listenResume
  repeat' first
    | with_reducible assumption
    | with_reducible refine State.checkEntries_follows ?_
    | with_reducible refine State.setChain_follows ?_
    | split
    | dsimp only

theorem State.abortAct_follows {z s : State} {a1 a2} (h : z.Follows s) : z.Follows (State.abortAct s a1 a2) := by
  unfold State.abortAct
  repeat' first
    | with_reducible assumption
    | with_reducible refine State.yieldCal_follows ?_
    | with_reducible refine State.unreserve_follows ?_
    | with_reducible refine State.endCmd_follows ?_
    | with_reducible refine State.planAfter_follows ?_
    | with_reducible refine State.clearAct_follows ?_
    | with_reducible refine State.fixCmd_follows ?_
    | with_reducible refine State.setChain_follows ?_
    | with_reducible refine State.watchOver_follows ?_
    | with_reducible refine State.cutFrames_follows ?_
    | split
    | dsimp only

theorem State.flushQueue_follows {z s : State} {a1 a2 a3} (h : z.Follows s) : z.Follows (State.flushQueue s a1 a2 a3) := by
  unfold State.flushQueue
  repeat' first
    | with_reducible assumption
    | with_reducible refine State.failCmd_follows ?_
    | with_reducible refine State.Follows.foldl _ ?_ (fun _ _ _ => ?_)
    | with_reducible refine State.Follows.foldl_fst _ ?_ (fun _ _ _ => ?_)
    | split
    | dsimp only

theorem State.flushPareqs_follows {z s : State} {a1} (h : z.Follows s) : z.Follows (State.flushPareqs s a1) := by
  unfold State.flushPareqs
  repeat' first
    | with_reducible assumption
    | with_reducible refine State.endCmd_follows ?_
    | with_reducible refine State.Follows.foldl _ ?_ (fun _ _ _ => ?_)
    | with_reducible refine State.Follows.foldl_fst _ ?_ (fun _ _ _ => ?_)
    | split
    | dsimp only
    | fail_if_no_progress (with_reducible refine State.Follows.mk_upd ?_)

theorem State.abortChain_follows {z s : State} {a1 a2} (h : z.Follows s) : z.Follows (State.abortChain s a1 a2) := by
  unfold State.abortChain
  repeat' first
    | with_reducible assumption
    | with_reducible refine State.endListen_follows ?_
    | with_reducible refine State.flushQueue_follows ?_
    | with_reducible refine State.abortAct_follows ?_
    | with_reducible refine State.flushPareqs_follows ?_
    | split
    | dsimp only

theorem State.abortEffect_follows {z s : State} {a1 a2} (h : z.Follows s) : z.Follows (State.abortEffect s a1 a2) := by
  unfold State.abortEffect
  repeat' first
    | with_reducible assumption
    | with_reducible refine State.endCmd_follows ?_
    | with_reducible refine State.setChain_follows ?_
    | with_reducible refine State.abortChain_follows ?_
    | split
    | dsimp only

theorem State.stopQueues_follows {z s : State} {a1} (h : z.Follows s) : z.Follows (State.stopQueues s a1) := by
  unfold State.stopQueues
  repeat' first
    | with_reducible assumption
    | with_reducible refine State.endListen_follows ?_
    | with_reducible refine State.flushQueue_follows ?_
    | with_reducible refine State.flushPareqs_follows ?_
    | with_reducible refine State.Follows.foldl _ ?_ (fun _ _ _ => ?_)
    | with_reducible refine State.Follows.foldl_fst _ ?_ (fun _ _ _ => ?_)
    | split
    | dsimp only

theorem State.haltEngine_follows {z s : State} {a1 a2 a3} (h : z.Follows s) : z.Follows (State.haltEngine s a1 a2 a3) := by
  unfold State.haltEngine
  repeat' first
    | with_reducible assumption
    | with_reducible refine State.stopQueues_follows ?_
    | with_reducible refine State.haltMark_follows ?_
    | split
    | dsimp only

theorem State.applyCal_follows {z s : State} {a1 a2} (h : z.Follows s) : z.Follows (State.applyCal s a1 a2) := by
  unfold State.applyCal
  repeat' first
    | with_reducible assumption
    | with_reducible refine State.setFld_follows ?_
    | with_reducible refine State.setChain_follows ?_
    | split
    | dsimp only

theorem State.calApply_follows {z s : State} {a1 a2} (h : z.Follows s) : z.Follows (State.calApply s a1 a2) := by
  unfold State.calApply
  repeat' first
    | with_reducible assumption
    | with_reducible refine State.applyCal_follows ?_
    | split
    | dsimp only

theorem State.calTimeout_follows {z s : State} {a1 a2} (h : z.Follows s) : z.Follows (State.calTimeout s a1 a2) := by
  unfold State.calTimeout
  repeat' first
    | with_reducible assumption
    | with_reducible refine State.applyCal_follows ?_
    | with_reducible refine State.cutFrames_follows ?_
    | split
    | dsimp only

theorem State.flagCmd_follows {z s : State} {a1 a2 a3} (h : z.Follows s) : z.Follows (State.flagCmd s a1 a2 a3) := by
  unfold State.flagCmd
  repeat' first
    | with_reducible assumption
    | with_reducible refine State.setFld_follows ?_
    | split
    | dsimp only

theorem State.claimChain_follows {z s : State} {a1 a2 a3} (h : z.Follows s) : z.Follows (State.claimChain s a1 a2 a3) := by
  unfold State.claimChain
  repeat' first
    | with_reducible assumption
    | with_reducible refine State.yieldCal_follows ?_
    | with_reducible refine State.planAfter_follows ?_
    | split
    | dsimp only

theorem State.lineUp_follows {z s : State} {a1 a2 a3} (h : z.Follows s) : z.Follows (State.lineUp s a1 a2 a3) := by
  unfold State.lineUp
  repeat' first
    | with_reducible assumption
    | with_reducible refine State.moveCmd_follows ?_
    | with_reducible refine State.setChain_follows ?_
    | split
    | dsimp only

theorem State.oneCheck_follows {z s : State} {a1 a2 a3} (h : z.Follows s) : z.Follows (State.oneCheck s a1 a2 a3) := by
  unfold State.oneCheck
  repeat' first
    | with_reducible assumption
    | with_reducible refine State.txCheck_follows ?_
    | split
    | dsimp only

theorem State.checksUpTo_follows {z s : State} {a1 a2 a3} (h : z.Follows s) : z.Follows (State.checksUpTo s a1 a2 a3) := by
  unfold State.checksUpTo
  repeat' first
    | with_reducible assumption
    | with_reducible refine State.oneCheck_follows ?_
    | with_reducible refine State.Follows.foldl _ ?_ (fun _ _ _ => ?_)
    | with_reducible refine State.Follows.foldl_fst _ ?_ (fun _ _ _ => ?_)
    | split
    | dsimp only

theorem State.txCheckNow_follows {z s : State} {a1 a2 a3} (h : z.Follows s) : z.Follows (State.txCheckNow s a1 a2 a3) := by
  unfold State.txCheckNow
  repeat' first
    | with_reducible assumption
    | with_reducible refine State.txCheck_follows ?_
    | with_reducible refine State.checksUpTo_follows ?_
    | split
    | dsimp only

theorem State.lockCheckNow_follows {z s : State} {a1 a2 a3} (h : z.Follows s) : z.Follows (State.lockCheckNow s a1 a2 a3) := by
  unfold State.lockCheckNow
  repeat' first
    | with_reducible assumption
    | with_reducible refine State.lockCheck_follows ?_
    | split
    | dsimp only

theorem State.enqueue_follows {z s : State} {a1 a2 a3} (h : z.Follows s) : z.Follows (State.enqueue s a1 a2 a3) := by
  unfold State.enqueue
  repeat' first
    | with_reducible assumption
    | with_reducible refine State.flagCmd_follows ?_
    | with_reducible refine State.txCheckNow_follows ?_
    | with_reducible refine State.lineUp_follows ?_
    | with_reducible refine State.lockCheckNow_follows ?_
    | with_reducible refine State.claimChain_follows ?_
    | split
    | dsimp only

theorem State.rcmd_follows {z s : State} {a1 a2 a3 a4 a5} (h : z.Follows s) : z.Follows (State.rcmd s a1 a2 a3 a4 a5).1 := by
  unfold State.rcmd
  repeat' first
    | with_reducible assumption
    | with_reducible refine State.writeRecord_follows ?_
    | with_reducible refine State.enqueue_follows ?_
    | with_reducible refine State.setEngine_follows ?_
    | with_reducible refine State.setChain_follows ?_
    | with_reducible refine State.occDone_follows ?_
    | with_reducible refine State.pulseFree_follows ?_
    | with_reducible refine State.count_follows ?_
    | with_reducible refine State.dropOffer_follows ?_
    | with_reducible refine State.Follows.elim ?_ (fun _ => ?_)
    | split
    | dsimp only

theorem State.rcmd_follows_of {z s t : State} {a1 a2 a3 a4 a5} {r} (h : z.Follows s) (e : State.rcmd s a1 a2 a3 a4 a5 = (t, r)) : z.Follows t := by
  have k := State.rcmd_follows (z := z) (s := s) (a1 := a1) (a2 := a2) (a3 := a3) (a4 := a4) (a5 := a5) h
  rw [e] at k
  exact k

theorem State.passPorts_follows {z s : State} {a1 a2} (h : z.Follows s) : z.Follows (State.passPorts s a1 a2) := by
  unfold State.passPorts
  repeat' first
    | with_reducible assumption
    | with_reducible refine State.setChain_follows ?_
    | with_reducible refine State.Follows.foldl _ ?_ (fun _ _ _ => ?_)
    | with_reducible refine State.Follows.foldl_fst _ ?_ (fun _ _ _ => ?_)
    | split
    | dsimp only

end Sys2Proof.Machine
end

