-- ==== Sys2Proof/Laws/FollowsReception.lean ====
section
/-!
SUPPORT. Every operation of Machine/Reception answers a state that follows (State.Follows).
-/
namespace Sys2Proof.Machine

theorem State.placeFrame_follows {z s : State} {a1 a2} (h : z.Follows s) : z.Follows (State.placeFrame s a1 a2) := by
  unfold State.placeFrame
  repeat' first
    | with_reducible assumption
    | with_reducible refine State.pulse_follows ?_
    | with_reducible refine State.preempt_follows ?_
    | with_reducible refine State.capStart_follows ?_
    | with_reducible refine State.setLane_follows ?_
    | with_reducible refine State.count_follows ?_
    | split
    | dsimp only

theorem State.preamble_follows {z s : State} {a1 a2 a3 a4 a5 a6 a7} (h : z.Follows s) : z.Follows (State.preamble s a1 a2 a3 a4 a5 a6 a7) := by
  unfold State.preamble
  repeat' first
    | with_reducible assumption
    | with_reducible refine State.placeFrame_follows ?_
    | split
    | dsimp only

theorem State.syncMiss_follows {z s : State} {a1 a2 a3} (h : z.Follows s) : z.Follows (State.syncMiss s a1 a2 a3) := by
  unfold State.syncMiss
  repeat' first
    | with_reducible assumption
    | with_reducible refine State.freeLane_follows ?_
    | with_reducible refine State.capStart_follows ?_
    | with_reducible refine State.settleMisses_follows ?_
    | with_reducible refine State.count_follows ?_
    | split
    | dsimp only

theorem State.syncFound_follows {z s : State} {a1 a2 a3} (h : z.Follows s) : z.Follows (State.syncFound s a1 a2 a3) := by
  unfold State.syncFound
  repeat' first
    | with_reducible assumption
    | with_reducible refine State.syncMiss_follows ?_
    | with_reducible refine State.setLane_follows ?_
    | split
    | dsimp only

theorem State.syncTimeout_follows {z s : State} {a1 a2} (h : z.Follows s) : z.Follows (State.syncTimeout s a1 a2) := by
  unfold State.syncTimeout
  repeat' first
    | with_reducible assumption
    | with_reducible refine State.syncMiss_follows ?_
    | split
    | dsimp only

theorem State.laneRecord_follows {z s : State} {a1 a2 a3} (h : z.Follows s) : z.Follows (State.laneRecord s a1 a2 a3) := by
  unfold State.laneRecord
  repeat' first
    | with_reducible assumption
    | with_reducible refine State.setLane_follows ?_
    | split
    | dsimp only

theorem State.growRecord_follows {z s : State} {a1 a2 a3 a4} (h : z.Follows s) : z.Follows (State.growRecord s a1 a2 a3 a4) := by
  unfold State.growRecord
  repeat' first
    | with_reducible assumption
    | with_reducible refine State.laneRecord_follows ?_
    | with_reducible refine State.rqReserve_follows ?_
    | with_reducible refine State.rqReserve_follows_of ?_ (by with_reducible assumption)
    | split
    | dsimp only

theorem State.sidDecoded_follows {z s : State} {a1 a2 a3} (h : z.Follows s) : z.Follows (State.sidDecoded s a1 a2 a3) := by
  unfold State.sidDecoded
  repeat' first
    | with_reducible assumption
    | with_reducible refine State.laneRecord_follows ?_
    | with_reducible refine State.rqStart_follows ?_
    | with_reducible refine State.growRecord_follows ?_
    | with_reducible refine State.rqStart_follows_of ?_ (by with_reducible assumption)
    | split
    | dsimp only

theorem State.headerDecoded_follows {z s : State} {a1 a2 a3} (h : z.Follows s) : z.Follows (State.headerDecoded s a1 a2 a3) := by
  unfold State.headerDecoded
  repeat' first
    | with_reducible assumption
    | with_reducible refine State.freeLane_follows ?_
    | with_reducible refine State.sidDecoded_follows ?_
    | with_reducible refine State.capStart_follows ?_
    | with_reducible refine State.setLane_follows ?_
    | with_reducible refine State.settleMisses_follows ?_
    | with_reducible refine State.count_follows ?_
    | with_reducible refine State.Follows.getD (fun _ _ => ?_) ?_
    | split
    | dsimp only

theorem State.frameEnd_follows {z s : State} {a1 a2 a3 a4} (h : z.Follows s) : z.Follows (State.frameEnd s a1 a2 a3 a4) := by
  unfold State.frameEnd
  repeat' first
    | with_reducible assumption
    | with_reducible refine State.freeLane_follows ?_
    | with_reducible refine State.setLnk_follows ?_
    | with_reducible refine State.capStart_follows ?_
    | with_reducible refine State.endRecord_follows ?_
    | with_reducible refine State.setChain_follows ?_
    | with_reducible refine State.settleMisses_follows ?_
    | with_reducible refine State.count_follows ?_
    | split
    | dsimp only

theorem State.dropLanes_follows {z s : State} {a1} (h : z.Follows s) : z.Follows (State.dropLanes s a1) := by
  unfold State.dropLanes
  repeat' first
    | with_reducible assumption
    | with_reducible refine State.freeLane_follows ?_
    | with_reducible refine State.settleMisses_follows ?_
    | with_reducible refine State.cutRecord_follows ?_
    | with_reducible refine State.Follows.foldl _ ?_ (fun _ _ _ => ?_)
    | with_reducible refine State.Follows.foldl_fst _ ?_ (fun _ _ _ => ?_)
    | split
    | dsimp only

theorem State.capRecords_follows {z s : State} (h : z.Follows s) : z.Follows (State.capRecords s) := by
  unfold State.capRecords
  repeat' first
    | with_reducible assumption
    | with_reducible refine State.setFld_follows ?_
    | split
    | dsimp only

theorem State.capPush_follows {z s : State} {a1 a2} (h : z.Follows s) : z.Follows (State.capPush s a1 a2) := by
  unfold State.capPush
  repeat' first
    | with_reducible assumption
    | with_reducible refine State.setCap_follows ?_
    | with_reducible refine State.setFld_follows ?_
    | with_reducible refine State.capRecords_follows ?_
    | split
    | dsimp only

theorem State.capWrite_follows {z s : State} {a1 a2 a3} (h : z.Follows s) : z.Follows (State.capWrite s a1 a2 a3) := by
  unfold State.capWrite
  repeat' first
    | with_reducible assumption
    | with_reducible refine State.pulse_follows ?_
    | with_reducible refine State.putLe_follows ?_
    | with_reducible refine State.capPush_follows ?_
    | with_reducible refine State.put_follows ?_
    | with_reducible refine State.count_follows ?_
    | split
    | dsimp only

theorem State.capEnd_follows {z s : State} {a1 a2} (h : z.Follows s) : z.Follows (State.capEnd s a1 a2) := by
  unfold State.capEnd
  repeat' first
    | with_reducible assumption
    | with_reducible refine State.capWrite_follows ?_
    | with_reducible refine State.setCap_follows ?_
    | split
    | dsimp only

theorem State.capRun_follows {z s : State} {a1} (h : z.Follows s) : z.Follows (State.capRun s a1) := by
  unfold State.capRun
  repeat' first
    | with_reducible assumption
    | with_reducible refine State.putLe_follows ?_
    | with_reducible refine State.setCap_follows ?_
    | with_reducible refine State.endReq_follows ?_
    | with_reducible refine State.setFld_follows ?_
    | with_reducible refine State.put_follows ?_
    | with_reducible refine State.capRecords_follows ?_
    | with_reducible refine State.seen_follows ?_
    | with_reducible refine State.Follows.elim ?_ (fun _ => ?_)
    | split
    | dsimp only

theorem State.capService_follows {z s : State} {a1} (h : z.Follows s) : z.Follows (State.capService s a1) := by
  unfold State.capService
  repeat' first
    | with_reducible assumption
    | with_reducible refine State.capRun_follows ?_
    | split
    | dsimp only

end Sys2Proof.Machine
end

