-- ==== Sys2Proof/Laws/FollowsLink.lean ====
section
/-!
SUPPORT. Every operation of Machine/Link answers a state that follows (State.Follows).
-/
namespace Sys2Proof.Machine

theorem State.mapFrame_follows {z s : State} {a1 a2} (h : z.Follows s) : z.Follows (State.mapFrame s a1 a2) := by
  unfold State.mapFrame
  repeat' first
    | with_reducible assumption
    | with_reducible refine State.setLnk_follows ?_
    | split
    | dsimp only

theorem State.removeFrame_follows {z s : State} {a1} (h : z.Follows s) : z.Follows (State.removeFrame s a1) := by
  unfold State.removeFrame
  repeat' first
    | with_reducible assumption
    | with_reducible refine State.setLnk_follows ?_
    | with_reducible refine State.settleMisses_follows ?_
    | split
    | dsimp only

theorem State.dropFrame_follows {z s : State} {a1} (h : z.Follows s) : z.Follows (State.dropFrame s a1) := by
  unfold State.dropFrame
  repeat' first
    | with_reducible assumption
    | with_reducible refine State.removeFrame_follows ?_
    | with_reducible refine State.rewind_follows ?_
    | split
    | dsimp only

theorem State.frameRecord_follows {z s : State} {a1 a2} (h : z.Follows s) : z.Follows (State.frameRecord s a1 a2).1 := by
  unfold State.frameRecord
  repeat' first
    | with_reducible assumption
    | with_reducible refine State.rqStart_follows ?_
    | with_reducible refine State.rqStart_follows_of ?_ (by with_reducible assumption)
    | split
    | dsimp only

theorem State.frameRecord_follows_of {z s t : State} {a1 a2} {r} (h : z.Follows s) (e : State.frameRecord s a1 a2 = (t, r)) : z.Follows t := by
  have k := State.frameRecord_follows (z := z) (s := s) (a1 := a1) (a2 := a2) h
  rw [e] at k
  exact k

theorem State.startRecord_follows {z s : State} {a1 a2} (h : z.Follows s) : z.Follows (State.startRecord s a1 a2).1 := by
  unfold State.startRecord
  repeat' first
    | with_reducible assumption
    | with_reducible refine State.mapFrame_follows ?_
    | with_reducible refine State.removeFrame_follows ?_
    | with_reducible refine State.frameRecord_follows ?_
    | with_reducible refine State.rqReserve_follows ?_
    | with_reducible refine State.rqPut_follows ?_
    | with_reducible refine State.frameRecord_follows_of ?_ (by with_reducible assumption)
    | with_reducible refine State.rqReserve_follows_of ?_ (by with_reducible assumption)
    | split
    | dsimp only

theorem State.startRecord_follows_of {z s t : State} {a1 a2} {r} (h : z.Follows s) (e : State.startRecord s a1 a2 = (t, r)) : z.Follows t := by
  have k := State.startRecord_follows (z := z) (s := s) (a1 := a1) (a2 := a2) h
  rw [e] at k
  exact k

theorem State.closeRecord_follows {z s : State} {a1} (h : z.Follows s) : z.Follows (State.closeRecord s a1) := by
  unfold State.closeRecord
  repeat' first
    | with_reducible assumption
    | with_reducible refine State.mapFrame_follows ?_
    | with_reducible refine State.rqClose_follows ?_
    | with_reducible refine State.removeFrame_follows ?_
    | with_reducible refine State.rqPut_follows ?_
    | split
    | dsimp only

theorem State.deliverPlain_follows {z s : State} {a1} (h : z.Follows s) : z.Follows (State.deliverPlain s a1) := by
  unfold State.deliverPlain
  repeat' first
    | with_reducible assumption
    | with_reducible refine State.mapFrame_follows ?_
    | with_reducible refine State.startRecord_follows ?_
    | with_reducible refine State.closeRecord_follows ?_
    | with_reducible refine State.startRecord_follows_of ?_ (by with_reducible assumption)
    | split
    | dsimp only

theorem State.keepSealed_follows {z s : State} {a1 a2} (h : z.Follows s) : z.Follows (State.keepSealed s a1 a2) := by
  unfold State.keepSealed
  repeat' first
    | with_reducible assumption
    | with_reducible refine State.setLnk_follows ?_
    | split
    | dsimp only

theorem State.keepOld_follows {z s : State} {a1} (h : z.Follows s) : z.Follows (State.keepOld s a1) := by
  unfold State.keepOld
  repeat' first
    | with_reducible assumption
    | with_reducible refine State.keepSealed_follows ?_
    | split
    | dsimp only

theorem State.askSeal_follows {z s : State} {a1 a2 a3 a4 a5} (h : z.Follows s) : z.Follows (State.askSeal s a1 a2 a3 a4 a5) := by
  unfold State.askSeal
  repeat' first
    | with_reducible assumption
    | with_reducible refine State.setLnk_follows ?_
    | with_reducible refine State.addReq_follows ?_
    | split
    | dsimp only

theorem State.sealAck_follows {z s : State} {a1} (h : z.Follows s) : z.Follows (State.sealAck s a1).1 := by
  unfold State.sealAck
  repeat' first
    | with_reducible assumption
    | with_reducible refine State.takeCtr_follows ?_
    | with_reducible refine State.findKey_follows ?_
    | with_reducible refine State.takeCtr_follows_of ?_ (by with_reducible assumption)
    | with_reducible refine State.findKey_follows_of ?_ (by with_reducible assumption)
    | with_reducible refine State.Follows.getD (fun _ _ => ?_) ?_
    | split
    | dsimp only

theorem State.sealAck_follows_of {z s t : State} {a1} {r} (h : z.Follows s) (e : State.sealAck s a1 = (t, r)) : z.Follows t := by
  have k := State.sealAck_follows (z := z) (s := s) (a1 := a1) h
  rw [e] at k
  exact k

theorem State.repeatFrame_follows {z s : State} {a1 a2} (h : z.Follows s) : z.Follows (State.repeatFrame s a1 a2) := by
  unfold State.repeatFrame
  repeat' first
    | with_reducible assumption
    | with_reducible refine State.dropFrame_follows ?_
    | with_reducible refine State.askSeal_follows ?_
    | with_reducible refine State.count_follows ?_
    | split
    | dsimp only

theorem State.toCipher_follows {z s : State} {a1} (h : z.Follows s) : z.Follows (State.toCipher s a1) := by
  unfold State.toCipher
  repeat' first
    | with_reducible assumption
    | with_reducible refine State.mapFrame_follows ?_
    | with_reducible refine State.addReq_follows ?_
    | split
    | dsimp only

theorem State.classWith_follows {z s : State} {a1 a2} (h : z.Follows s) : z.Follows (State.classWith s a1 a2) := by
  unfold State.classWith
  repeat' first
    | with_reducible assumption
    | with_reducible refine State.mapFrame_follows ?_
    | with_reducible refine State.touchCtx_follows ?_
    | with_reducible refine State.startRecord_follows ?_
    | with_reducible refine State.dropFrame_follows ?_
    | with_reducible refine State.repeatFrame_follows ?_
    | with_reducible refine State.count_follows ?_
    | with_reducible refine State.toCipher_follows ?_
    | with_reducible refine State.startRecord_follows_of ?_ (by with_reducible assumption)
    | split
    | dsimp only

theorem State.malformed_follows {z s : State} {a1} (h : z.Follows s) : z.Follows (State.malformed s a1) := by
  unfold State.malformed
  repeat' first
    | with_reducible assumption
    | with_reducible refine State.removeFrame_follows ?_
    | with_reducible refine State.endRecord_follows ?_
    | with_reducible refine State.count_follows ?_
    | split
    | dsimp only

theorem State.classKnown_follows {z s : State} {a1 a2} (h : z.Follows s) : z.Follows (State.classKnown s a1 a2) := by
  unfold State.classKnown
  repeat' first
    | with_reducible assumption
    | with_reducible refine State.mapFrame_follows ?_
    | with_reducible refine State.deliverPlain_follows ?_
    | with_reducible refine State.classWith_follows ?_
    | with_reducible refine State.malformed_follows ?_
    | with_reducible refine State.count_follows ?_
    | split
    | dsimp only

theorem State.classify_follows {z s : State} (h : z.Follows s) : z.Follows (State.classify s) := by
  unfold State.classify
  repeat' first
    | with_reducible assumption
    | with_reducible refine State.deliverPlain_follows ?_
    | with_reducible refine State.meetSid_follows ?_
    | with_reducible refine State.meetCtx_follows ?_
    | with_reducible refine State.malformed_follows ?_
    | with_reducible refine State.count_follows ?_
    | with_reducible refine State.classKnown_follows ?_
    | split
    | dsimp only

theorem State.fetchDone_follows {z s : State} (h : z.Follows s) : z.Follows (State.fetchDone s) := by
  unfold State.fetchDone
  repeat' first
    | with_reducible assumption
    | with_reducible refine State.mapFrame_follows ?_
    | with_reducible refine State.classWith_follows ?_
    | split
    | dsimp only

theorem State.openFrame_follows {z s : State} {a1 a2} (h : z.Follows s) : z.Follows (State.openFrame s a1 a2).1 := by
  unfold State.openFrame
  repeat' first
    | with_reducible assumption
    | with_reducible refine State.findKey_follows ?_
    | with_reducible refine State.count_follows ?_
    | with_reducible refine State.findKey_follows_of ?_ (by with_reducible assumption)
    | split
    | dsimp only

theorem State.openFrame_follows_of {z s t : State} {a1 a2} {r} (h : z.Follows s) (e : State.openFrame s a1 a2 = (t, r)) : z.Follows t := by
  have k := State.openFrame_follows (z := z) (s := s) (a1 := a1) (a2 := a2) h
  rw [e] at k
  exact k

theorem State.linkCipher_follows {z s : State} {a1} (h : z.Follows s) : z.Follows (State.linkCipher s a1) := by
  unfold State.linkCipher
  repeat' first
    | with_reducible assumption
    | with_reducible refine State.setLnk_follows ?_
    | with_reducible refine State.returnReq_follows ?_
    | with_reducible refine State.mapFrame_follows ?_
    | with_reducible refine State.openFrame_follows ?_
    | with_reducible refine State.endReq_follows ?_
    | with_reducible refine State.keepSealed_follows ?_
    | with_reducible refine State.sealAck_follows ?_
    | with_reducible refine State.setCtx_follows ?_
    | with_reducible refine State.openFrame_follows_of ?_ (by with_reducible assumption)
    | with_reducible refine State.sealAck_follows_of ?_ (by with_reducible assumption)
    | with_reducible refine State.Follows.getD (fun _ _ => ?_) ?_
    | split
    | dsimp only

theorem State.askJournal_follows {z s : State} {a1 a2} (h : z.Follows s) : z.Follows (State.askJournal s a1 a2) := by
  unfold State.askJournal
  repeat' first
    | with_reducible assumption
    | with_reducible refine State.mapFrame_follows ?_
    | with_reducible refine State.addReq_follows ?_
    | split
    | dsimp only

theorem State.repeatHeld_follows {z s : State} {a1 a2} (h : z.Follows s) : z.Follows (State.repeatHeld s a1 a2) := by
  unfold State.repeatHeld
  repeat' first
    | with_reducible assumption
    | with_reducible refine State.repeatFrame_follows ?_
    | with_reducible refine State.Follows.foldl _ ?_ (fun _ _ _ => ?_)
    | with_reducible refine State.Follows.foldl_fst _ ?_ (fun _ _ _ => ?_)
    | split
    | dsimp only

theorem State.staleHeld_follows {z s : State} {a1 a2} (h : z.Follows s) : z.Follows (State.staleHeld s a1 a2) := by
  unfold State.staleHeld
  repeat' first
    | with_reducible assumption
    | with_reducible refine State.dropFrame_follows ?_
    | with_reducible refine State.count_follows ?_
    | with_reducible refine State.Follows.foldl _ ?_ (fun _ _ _ => ?_)
    | with_reducible refine State.Follows.foldl_fst _ ?_ (fun _ _ _ => ?_)
    | split
    | dsimp only

theorem State.promoteHeld_follows {z s : State} {a1} (h : z.Follows s) : z.Follows (State.promoteHeld s a1) := by
  unfold State.promoteHeld
  repeat' first
    | with_reducible assumption
    | with_reducible refine State.toCipher_follows ?_
    | split
    | dsimp only

theorem State.acceptFrame_follows {z s : State} {a1 a2} (h : z.Follows s) : z.Follows (State.acceptFrame s a1 a2) := by
  unfold State.acceptFrame
  repeat' first
    | with_reducible assumption
    | with_reducible refine State.setLnk_follows ?_
    | with_reducible refine State.mapFrame_follows ?_
    | with_reducible refine State.repeatHeld_follows ?_
    | with_reducible refine State.keepOld_follows ?_
    | with_reducible refine State.askSeal_follows ?_
    | with_reducible refine State.setCtx_follows ?_
    | with_reducible refine State.count_follows ?_
    | split
    | dsimp only

theorem State.frameAccept_follows {z s : State} (h : z.Follows s) : z.Follows (State.frameAccept s) := by
  unfold State.frameAccept
  repeat' first
    | with_reducible assumption
    | with_reducible refine State.dropFrame_follows ?_
    | with_reducible refine State.repeatHeld_follows ?_
    | with_reducible refine State.repeatFrame_follows ?_
    | with_reducible refine State.acceptFrame_follows ?_
    | with_reducible refine State.closeRecord_follows ?_
    | with_reducible refine State.count_follows ?_
    | with_reducible refine State.staleHeld_follows ?_
    | with_reducible refine State.Follows.getD (fun _ _ => ?_) ?_
    | split
    | dsimp only

theorem State.sealEnded_follows {z s : State} {a1} (h : z.Follows s) : z.Follows (State.sealEnded s a1) := by
  unfold State.sealEnded
  repeat' first
    | with_reducible assumption
    | with_reducible refine State.setLnk_follows ?_
    | with_reducible refine State.askJournal_follows ?_
    | with_reducible refine State.count_follows ?_
    | with_reducible refine State.addReq_follows ?_
    | split
    | dsimp only

theorem State.entryDurable_follows {z s : State} {a1} (h : z.Follows s) : z.Follows (State.entryDurable s a1) := by
  unfold State.entryDurable
  repeat' first
    | with_reducible assumption
    | with_reducible refine State.setLnk_follows ?_
    | split
    | dsimp only

theorem State.linkDone_follows {z s : State} {a1 a2} (h : z.Follows s) : z.Follows (State.linkDone s a1 a2) := by
  unfold State.linkDone
  repeat' first
    | with_reducible assumption
    | with_reducible refine State.mapFrame_follows ?_
    | with_reducible refine State.dropFrame_follows ?_
    | with_reducible refine State.setFld_follows ?_
    | with_reducible refine State.sealEnded_follows ?_
    | with_reducible refine State.closeRecord_follows ?_
    | with_reducible refine State.entryDurable_follows ?_
    | with_reducible refine State.promoteHeld_follows ?_
    | split
    | dsimp only

theorem State.commitFrame_follows {z s : State} {a1} (h : z.Follows s) : z.Follows (State.commitFrame s a1) := by
  unfold State.commitFrame
  repeat' first
    | with_reducible assumption
    | with_reducible refine State.setLnk_follows ?_
    | with_reducible refine State.removeFrame_follows ?_
    | with_reducible refine State.rqCommit_follows ?_
    | split
    | dsimp only

theorem State.commitNext_follows {z s : State} (h : z.Follows s) : z.Follows (State.commitNext s) := by
  unfold State.commitNext
  repeat' first
    | with_reducible assumption
    | with_reducible refine State.commitFrame_follows ?_
    | with_reducible refine State.rqCommit_follows ?_
    | split
    | dsimp only

theorem State.ackOpportunity_follows {z s : State} (h : z.Follows s) : z.Follows (State.ackOpportunity s) := by
  unfold State.ackOpportunity
  repeat' first
    | with_reducible assumption
    | with_reducible refine State.enqueue_follows ?_
    | with_reducible refine State.ackFailed_follows ?_
    | split
    | dsimp only

theorem State.ctxMeets_follows {z s : State} {a1} (h : z.Follows s) : z.Follows (State.ctxMeets s a1) := by
  unfold State.ctxMeets
  repeat' first
    | with_reducible assumption
    | with_reducible refine State.rebuildIndex_follows ?_
    | with_reducible refine State.meetSid_follows ?_
    | with_reducible refine State.meetCtx_follows ?_
    | split
    | dsimp only

theorem State.ctxRun_follows {z s : State} {a1} (h : z.Follows s) : z.Follows (State.ctxRun s a1) := by
  unfold State.ctxRun
  repeat' first
    | with_reducible assumption
    | with_reducible refine State.setLnk_follows ?_
    | with_reducible refine State.setReg_follows ?_
    | with_reducible refine State.setFld_follows ?_
    | with_reducible refine State.keepSealed_follows ?_
    | with_reducible refine State.setCtx_follows ?_
    | with_reducible refine State.addReq_follows ?_
    | with_reducible refine State.Follows.foldl _ ?_ (fun _ _ _ => ?_)
    | with_reducible refine State.Follows.foldl_fst _ ?_ (fun _ _ _ => ?_)
    | split
    | dsimp only

theorem State.ctxCmd_follows {z s : State} {a1} (h : z.Follows s) : z.Follows (State.ctxCmd s a1) := by
  unfold State.ctxCmd
  repeat' first
    | with_reducible assumption
    | with_reducible refine State.ctxRun_follows ?_
    | with_reducible refine State.ctxMeets_follows ?_
    | split
    | dsimp only

theorem State.ctxDone_follows {z s : State} (h : z.Follows s) : z.Follows (State.ctxDone s) := by
  unfold State.ctxDone
  repeat' first
    | with_reducible assumption
    | with_reducible refine State.setLnk_follows ?_
    | with_reducible refine State.setFld_follows ?_
    | split
    | dsimp only

end Sys2Proof.Machine
end

