-- ==== Sys2Proof/Laws/FollowsTraffic.lean ====
section
/-!
SUPPORT. Every operation of Machine/Traffic answers a state that follows (State.Follows).
-/
namespace Sys2Proof.Machine

theorem State.setTm_follows {z s : State} {a1} (h : z.Follows s) : z.Follows (State.setTm s a1) := by
  unfold State.setTm
  repeat' first
    | with_reducible assumption
    | split
    | dsimp only
    | fail_if_no_progress (with_reducible refine State.Follows.mk_upd ?_)

theorem State.ringStep_follows {z s : State} {a1 a2} (h : z.Follows s) : z.Follows (State.ringStep s a1 a2) := by
  unfold State.ringStep
  repeat' first
    | with_reducible assumption
    | with_reducible refine State.setFld_follows ?_
    | split
    | dsimp only

theorem State.setTq_follows {z s : State} {a1 a2} (h : z.Follows s) : z.Follows (State.setTq s a1 a2) := by
  unfold State.setTq
  repeat' first
    | with_reducible assumption
    | with_reducible refine State.setTm_follows ?_
    | split
    | dsimp only

theorem State.newHead_follows {z s : State} {a1} (h : z.Follows s) : z.Follows (State.newHead s a1) := by
  unfold State.newHead
  repeat' first
    | with_reducible assumption
    | with_reducible refine State.setTq_follows ?_
    | split
    | dsimp only

theorem State.enqueueTm_follows {z s : State} {a1 a2 a3} (h : z.Follows s) : z.Follows (State.enqueueTm s a1 a2 a3) := by
  unfold State.enqueueTm
  repeat' first
    | with_reducible assumption
    | with_reducible refine State.setTq_follows ?_
    | with_reducible refine State.newHead_follows ?_
    | split
    | dsimp only

theorem State.takeHead_follows {z s : State} {a1 a2} (h : z.Follows s) : z.Follows (State.takeHead s a1 a2) := by
  unfold State.takeHead
  repeat' first
    | with_reducible assumption
    | with_reducible refine State.setTq_follows ?_
    | with_reducible refine State.newHead_follows ?_
    | split
    | dsimp only

theorem State.dropHead_follows {z s : State} {a1} (h : z.Follows s) : z.Follows (State.dropHead s a1) := by
  unfold State.dropHead
  repeat' first
    | with_reducible assumption
    | with_reducible refine State.setTq_follows ?_
    | with_reducible refine State.newHead_follows ?_
    | split
    | dsimp only

theorem State.wheelAdvance_follows {z s : State} (h : z.Follows s) : z.Follows (State.wheelAdvance s) := by
  unfold State.wheelAdvance
  repeat' first
    | with_reducible assumption
    | with_reducible refine State.setTq_follows ?_
    | with_reducible refine State.setTm_follows ?_
    | with_reducible refine State.Follows.foldl _ ?_ (fun _ _ _ => ?_)
    | with_reducible refine State.Follows.foldl_fst _ ?_ (fun _ _ _ => ?_)
    | split
    | dsimp only

theorem State.exchange_follows {z s : State} {a1} (h : z.Follows s) : z.Follows (State.exchange s a1) := by
  unfold State.exchange
  repeat' first
    | with_reducible assumption
    | with_reducible refine State.setTm_follows ?_
    | split
    | dsimp only

theorem State.slStat_follows {z s : State} {a1} (h : z.Follows s) : z.Follows (State.slStat s a1) := by
  unfold State.slStat
  repeat' first
    | with_reducible assumption
    | with_reducible refine State.setFld_follows ?_
    | split
    | dsimp only

theorem State.listSwap_follows {z s : State} {a1 a2 a3} (h : z.Follows s) : z.Follows (State.listSwap s a1 a2 a3).1 := by
  unfold State.listSwap
  repeat' first
    | with_reducible assumption
    | with_reducible refine State.pulse_follows ?_
    | with_reducible refine State.slStat_follows ?_
    | with_reducible refine State.exchange_follows ?_
    | with_reducible refine State.setFld_follows ?_
    | with_reducible refine State.setTm_follows ?_
    | with_reducible refine State.count_follows ?_
    | split
    | dsimp only

theorem State.listSwap_follows_of {z s t : State} {a1 a2 a3} {r} (h : z.Follows s) (e : State.listSwap s a1 a2 a3 = (t, r)) : z.Follows t := by
  have k := State.listSwap_follows (z := z) (s := s) (a1 := a1) (a2 := a2) (a3 := a3) h
  rw [e] at k
  exact k

theorem State.listStart_follows {z s : State} {a1} (h : z.Follows s) : z.Follows (State.listStart s a1).1 := by
  unfold State.listStart
  repeat' first
    | with_reducible assumption
    | with_reducible refine State.slStat_follows ?_
    | with_reducible refine State.setTm_follows ?_
    | split
    | dsimp only

theorem State.listStart_follows_of {z s t : State} {a1} {r} (h : z.Follows s) (e : State.listStart s a1 = (t, r)) : z.Follows t := by
  have k := State.listStart_follows (z := z) (s := s) (a1 := a1) h
  rw [e] at k
  exact k

theorem State.gateChange_follows {z s : State} {a1} (h : z.Follows s) : z.Follows (State.gateChange s a1) := by
  unfold State.gateChange
  repeat' first
    | with_reducible assumption
    | with_reducible refine State.setTm_follows ?_
    | split
    | dsimp only

theorem State.gateAdvance_follows {z s : State} (h : z.Follows s) : z.Follows (State.gateAdvance s) := by
  unfold State.gateAdvance
  repeat' first
    | with_reducible assumption
    | with_reducible refine State.setFld_follows ?_
    | split
    | dsimp only

theorem State.gateWrite_follows {z s : State} {a1} (h : z.Follows s) : z.Follows (State.gateWrite s a1) := by
  unfold State.gateWrite
  repeat' first
    | with_reducible assumption
    | with_reducible refine State.setFld_follows ?_
    | with_reducible refine State.gateAdvance_follows ?_
    | with_reducible refine State.setTm_follows ?_
    | split
    | dsimp only

theorem State.takeMode_follows {z s : State} {a1} (h : z.Follows s) : z.Follows (State.takeMode s a1) := by
  unfold State.takeMode
  repeat' first
    | with_reducible assumption
    | with_reducible refine State.setTm_follows ?_
    | split
    | dsimp only

theorem State.dropHopeless_follows {z s : State} {a1} (h : z.Follows s) : z.Follows (State.dropHopeless s a1) := by
  unfold State.dropHopeless
  repeat' first
    | with_reducible assumption
    | with_reducible refine State.dropHead_follows ?_
    | with_reducible refine State.Follows.foldl _ ?_ (fun _ _ _ => ?_)
    | with_reducible refine State.Follows.foldl_fst _ ?_ (fun _ _ _ => ?_)
    | split
    | dsimp only

theorem State.drrVisit_follows {z s : State} {a1 a2 a3} (h : z.Follows s) : z.Follows (State.drrVisit s a1 a2 a3).1 := by
  induction a3 generalizing s a1 a2 with
  | nil => exact h
  | cons b l ih =>
    unfold State.drrVisit
    repeat' first
      | with_reducible assumption
      | with_reducible refine ih ?_
      | with_reducible refine State.setTq_follows ?_
      | with_reducible refine State.setTm_follows ?_
      | split
      | dsimp only

theorem State.drrVisit_follows_of {z s t : State} {a1 a2 a3} {r} (h : z.Follows s) (e : State.drrVisit s a1 a2 a3 = (t, r)) : z.Follows t := by
  have k := State.drrVisit_follows (z := z) (s := s) (a1 := a1) (a2 := a2) (a3 := a3) h
  rw [e] at k
  exact k

theorem State.weightedChoice_follows {z s : State} {a1 a2} (h : z.Follows s) : z.Follows (State.weightedChoice s a1 a2).1 := by
  unfold State.weightedChoice
  repeat' first
    | with_reducible assumption
    | with_reducible refine State.drrVisit_follows ?_
    | with_reducible refine State.drrVisit_follows_of ?_ (by with_reducible assumption)
    | split
    | dsimp only

theorem State.weightedChoice_follows_of {z s t : State} {a1 a2} {r} (h : z.Follows s) (e : State.weightedChoice s a1 a2 = (t, r)) : z.Follows t := by
  have k := State.weightedChoice_follows (z := z) (s := s) (a1 := a1) (a2 := a2) h
  rw [e] at k
  exact k

theorem State.ringPut_follows {z s : State} {a1 a2 a3} (h : z.Follows s) : z.Follows (State.ringPut s a1 a2 a3) := by
  induction a3 generalizing s a1 a2 with
  | nil => exact h
  | cons b l ih =>
    unfold State.ringPut
    repeat' first
      | with_reducible assumption
      | with_reducible refine ih ?_
      | with_reducible refine State.ringStep_follows ?_
      | with_reducible refine State.put_follows ?_
      | split
      | dsimp only

theorem State.sampleSweep_follows {z s : State} (h : z.Follows s) : z.Follows (State.sampleSweep s) := by
  unfold State.sampleSweep
  repeat' first
    | with_reducible assumption
    | with_reducible refine State.setTq_follows ?_
    | with_reducible refine State.ringPut_follows ?_
    | with_reducible refine State.setTm_follows ?_
    | with_reducible refine State.count_follows ?_
    | with_reducible refine State.Follows.foldl _ ?_ (fun _ _ _ => ?_)
    | with_reducible refine State.Follows.foldl_fst _ ?_ (fun _ _ _ => ?_)
    | with_reducible refine State.Follows.elim ?_ (fun _ => ?_)
    | split
    | dsimp only

end Sys2Proof.Machine
end

