-- ==== Sys2Proof/Laws/FollowsRouter.lean ====
section
/-!
SUPPORT. Every operation of Machine/Router answers a state that follows (State.Follows).
-/
namespace Sys2Proof.Machine

theorem State.setRtr_follows {z s : State} {a1} (h : z.Follows s) : z.Follows (State.setRtr s a1) := by
  unfold State.setRtr
  repeat' first
    | with_reducible assumption
    | split
    | dsimp only
    | fail_if_no_progress (with_reducible refine State.Follows.mk_upd ?_)

theorem State.rtrStat_follows {z s : State} (h : z.Follows s) : z.Follows (State.rtrStat s) := by
  unfold State.rtrStat
  repeat' first
    | with_reducible assumption
    | with_reducible refine State.setFld_follows ?_
    | with_reducible refine State.Follows.foldl _ ?_ (fun _ _ _ => ?_)
    | with_reducible refine State.Follows.foldl_fst _ ?_ (fun _ _ _ => ?_)
    | split
    | dsimp only

theorem State.mapLive_follows {z s : State} {a1 a2} (h : z.Follows s) : z.Follows (State.mapLive s a1 a2) := by
  unfold State.mapLive
  repeat' first
    | with_reducible assumption
    | with_reducible refine State.setRtr_follows ?_
    | split
    | dsimp only

theorem State.retireVersion_follows {z s : State} (h : z.Follows s) : z.Follows (State.retireVersion s) := by
  unfold State.retireVersion
  repeat' first
    | with_reducible assumption
    | with_reducible refine State.pulse_follows ?_
    | with_reducible refine State.setFld_follows ?_
    | with_reducible refine State.rtrStat_follows ?_
    | with_reducible refine State.setRtr_follows ?_
    | with_reducible refine State.count_follows ?_
    | split
    | dsimp only

theorem State.sweepDone_follows {z s : State} (h : z.Follows s) : z.Follows (State.sweepDone s) := by
  unfold State.sweepDone
  repeat' first
    | with_reducible assumption
    | with_reducible refine State.setFld_follows ?_
    | with_reducible refine State.setRtr_follows ?_
    | split
    | dsimp only

theorem State.commitOpen_follows {z s : State} (h : z.Follows s) : z.Follows (State.commitOpen s) := by
  unfold State.commitOpen
  repeat' first
    | with_reducible assumption
    | with_reducible refine State.setFld_follows ?_
    | with_reducible refine State.rtrStat_follows ?_
    | with_reducible refine State.setRtr_follows ?_
    | split
    | dsimp only

theorem State.commitCmd_follows {z s : State} {a1} (h : z.Follows s) : z.Follows (State.commitCmd s a1) := by
  unfold State.commitCmd
  repeat' first
    | with_reducible assumption
    | with_reducible refine State.setFld_follows ?_
    | with_reducible refine State.setRtr_follows ?_
    | with_reducible refine State.commitOpen_follows ?_
    | split
    | dsimp only

theorem State.commitDue_follows {z s : State} (h : z.Follows s) : z.Follows (State.commitDue s) := by
  unfold State.commitDue
  repeat' first
    | with_reducible assumption
    | with_reducible refine State.commitOpen_follows ?_
    | split
    | dsimp only

theorem State.runPass_follows {z s : State} {a1} (h : z.Follows s) : z.Follows (State.runPass s a1).1 := by
  unfold State.runPass
  repeat' first
    | with_reducible assumption
    | with_reducible refine State.count_follows ?_
    | split
    | dsimp only

theorem State.runPass_follows_of {z s t : State} {a1} {r} (h : z.Follows s) (e : State.runPass s a1 = (t, r)) : z.Follows t := by
  have k := State.runPass_follows (z := z) (s := s) (a1 := a1) h
  rw [e] at k
  exact k

theorem State.enterPass_follows {z s : State} {a1} (h : z.Follows s) : z.Follows (State.enterPass s a1) := by
  unfold State.enterPass
  repeat' first
    | with_reducible assumption
    | with_reducible refine State.rtrStat_follows ?_
    | with_reducible refine State.setRtr_follows ?_
    | with_reducible refine State.runPass_follows ?_
    | with_reducible refine State.runPass_follows_of ?_ (by with_reducible assumption)
    | split
    | dsimp only

theorem State.enterRouter_follows {z s : State} {a1} (h : z.Follows s) : z.Follows (State.enterRouter s a1) := by
  unfold State.enterRouter
  repeat' first
    | with_reducible assumption
    | with_reducible refine State.enterPass_follows ?_
    | with_reducible refine State.mapLive_follows ?_
    | split
    | dsimp only

theorem State.injectServe_follows {z s : State} (h : z.Follows s) : z.Follows (State.injectServe s) := by
  unfold State.injectServe
  repeat' first
    | with_reducible assumption
    | with_reducible refine State.putLe_follows ?_
    | with_reducible refine State.setFld_follows ?_
    | with_reducible refine State.setRtr_follows ?_
    | with_reducible refine State.pulseFree_follows ?_
    | with_reducible refine State.count_follows ?_
    | with_reducible refine State.enterRouter_follows ?_
    | with_reducible refine State.seen_follows ?_
    | split
    | dsimp only

theorem State.parserAccept_follows {z s : State} (h : z.Follows s) : z.Follows (State.parserAccept s) := by
  unfold State.parserAccept
  repeat' first
    | with_reducible assumption
    | with_reducible refine State.injectServe_follows ?_
    | with_reducible refine State.enterPass_follows ?_
    | with_reducible refine State.setRtr_follows ?_
    | with_reducible refine State.enterRouter_follows ?_
    | split
    | dsimp only

theorem State.injectionTurn_follows {z s : State} (h : z.Follows s) : z.Follows (State.injectionTurn s) := by
  unfold State.injectionTurn
  repeat' first
    | with_reducible assumption
    | with_reducible refine State.injectServe_follows ?_
    | split
    | dsimp only

theorem State.offerPacket_follows {z s : State} {a1 a2 a3} (h : z.Follows s) : z.Follows (State.offerPacket s a1 a2 a3) := by
  unfold State.offerPacket
  repeat' first
    | with_reducible assumption
    | with_reducible refine State.setRtr_follows ?_
    | with_reducible refine State.count_follows ?_
    | split
    | dsimp only

theorem State.applyEdit_follows {z : State} {x info a} (h : z.Follows x.1) : z.Follows (State.applyEdit x info a).1 := by
  obtain ⟨s, data, drop⟩ := x
  change z.Follows s at h
  unfold State.applyEdit
  dsimp only
  repeat' first
    | with_reducible assumption
    | with_reducible refine State.count_follows ?_
    | split
    | dsimp only

theorem State.leaveRouter_follows {z s : State} {a1} (h : z.Follows s) : z.Follows (State.leaveRouter s a1) := by
  unfold State.leaveRouter
  repeat' first
    | with_reducible assumption
    | with_reducible refine State.rtrStat_follows ?_
    | with_reducible refine State.mapLive_follows ?_
    | split
    | dsimp only

theorem State.deliverRq_follows {z s : State} {a1 a2 a3} (h : z.Follows s) : z.Follows (State.deliverRq s a1 a2 a3) := by
  unfold State.deliverRq
  repeat' first
    | with_reducible assumption
    | with_reducible refine State.rqClose_follows ?_
    | with_reducible refine State.rqReserve_follows ?_
    | with_reducible refine State.rqStart_follows ?_
    | with_reducible refine State.rqPut_follows ?_
    | with_reducible refine State.rqReserve_follows_of ?_ (by with_reducible assumption)
    | with_reducible refine State.rqStart_follows_of ?_ (by with_reducible assumption)
    | split
    | dsimp only

theorem State.passEnd_follows {z s : State} (h : z.Follows s) : z.Follows s.passEnd := by
  unfold State.passEnd
  split
  · exact h
  · dsimp only
    repeat' first
      | with_reducible assumption
      | with_reducible refine State.leaveRouter_follows ?_
      | with_reducible refine State.rtrStat_follows ?_
      | with_reducible refine State.setRtr_follows ?_
      | with_reducible refine State.count_follows ?_
      | with_reducible refine State.deliverRq_follows ?_
      | with_reducible refine State.enqueueTm_follows ?_
      | with_reducible refine State.Follows.foldl_fst _ ?_ (fun _ _ k => State.applyEdit_follows k)
      | split
      | dsimp only

theorem State.setEditRecord_follows {z s : State} {a1} (h : z.Follows s) : z.Follows (State.setEditRecord s a1) := by
  unfold State.setEditRecord
  repeat' first
    | with_reducible assumption
    | with_reducible refine State.setReg_follows ?_
    | with_reducible refine State.Follows.foldl _ ?_ (fun _ _ _ => ?_)
    | with_reducible refine State.Follows.foldl_fst _ ?_ (fun _ _ _ => ?_)
    | split
    | dsimp only

theorem State.deleteEntry_follows {z s : State} {a1} (h : z.Follows s) : z.Follows (State.deleteEntry s a1) := by
  unfold State.deleteEntry
  repeat' first
    | with_reducible assumption
    | with_reducible refine State.setRtr_follows ?_
    | split
    | dsimp only

theorem State.rtrEditEffect_follows {z s : State} {a1} (h : z.Follows s) : z.Follows (State.rtrEditEffect s a1) := by
  unfold State.rtrEditEffect
  repeat' first
    | with_reducible assumption
    | with_reducible refine State.setFld_follows ?_
    | with_reducible refine State.setRtr_follows ?_
    | with_reducible refine State.deleteEntry_follows ?_
    | with_reducible refine State.setEditRecord_follows ?_
    | split
    | dsimp only

theorem State.rtrEdit_follows {z s : State} {a1} (h : z.Follows s) : z.Follows (State.rtrEdit s a1) := by
  unfold State.rtrEdit
  repeat' first
    | with_reducible assumption
    | with_reducible refine State.rtrEditEffect_follows ?_
    | with_reducible refine State.setFld_follows ?_
    | with_reducible refine State.setRtr_follows ?_
    | with_reducible refine State.takeFree_follows ?_
    | split
    | dsimp only

theorem State.rtrEditDone_follows {z s : State} (h : z.Follows s) : z.Follows (State.rtrEditDone s) := by
  unfold State.rtrEditDone
  repeat' first
    | with_reducible assumption
    | with_reducible refine State.setFld_follows ?_
    | with_reducible refine State.setRtr_follows ?_
    | split
    | dsimp only

theorem State.afterStructural_follows {z s : State} {a1 a2} (h : z.Follows s) : z.Follows (State.afterStructural s a1 a2) := by
  unfold State.afterStructural
  repeat' first
    | with_reducible assumption
    | with_reducible refine State.setReg_follows ?_
    | with_reducible refine State.setFld_follows ?_
    | split
    | dsimp only

theorem State.afterInjPtr_follows {z s : State} {a1 a2} (h : z.Follows s) : z.Follows (State.afterInjPtr s a1 a2) := by
  unfold State.afterInjPtr
  repeat' first
    | with_reducible assumption
    | with_reducible refine State.setReg_follows ?_
    | split
    | dsimp only

end Sys2Proof.Machine
end

