-- ==== Sys2Proof/Laws/FollowsEthernet.lean ====
section
/-!
SUPPORT. Every operation of Machine/Ethernet answers a state that follows (State.Follows).
-/
namespace Sys2Proof.Machine

theorem State.setSend_follows {z s : State} {a1 a2} (h : z.Follows s) : z.Follows (State.setSend s a1 a2) := by
  unfold State.setSend
  repeat' first
    | with_reducible assumption
    | with_reducible refine State.setTm_follows ?_
    | split
    | dsimp only

theorem State.descDone_follows {z s : State} {a1 a2 a3} (h : z.Follows s) : z.Follows (State.descDone s a1 a2 a3) := by
  unfold State.descDone
  repeat' first
    | with_reducible assumption
    | with_reducible refine State.ringStep_follows ?_
    | with_reducible refine State.putLe_follows ?_
    | with_reducible refine State.pulseFree_follows ?_
    | split
    | dsimp only

theorem State.txRefused_follows {z s : State} {a1 a2} (h : z.Follows s) : z.Follows (State.txRefused s a1 a2) := by
  unfold State.txRefused
  repeat' first
    | with_reducible assumption
    | with_reducible refine State.count_follows ?_
    | split
    | dsimp only

theorem State.setTq0_follows {z s : State} {a1 a2} (h : z.Follows s) : z.Follows (State.setTq0 s a1 a2) := by
  unfold State.setTq0
  repeat' first
    | with_reducible assumption
    | with_reducible refine State.setTm_follows ?_
    | split
    | dsimp only

theorem State.noteHead_follows {z s : State} {a1} (h : z.Follows s) : z.Follows (State.noteHead s a1) := by
  unfold State.noteHead
  repeat' first
    | with_reducible assumption
    | with_reducible refine State.setTq0_follows ?_
    | split
    | dsimp only

theorem State.tq0Refuse_follows {z s : State} {a1 a2} (h : z.Follows s) : z.Follows (State.tq0Refuse s a1 a2) := by
  unfold State.tq0Refuse
  repeat' first
    | with_reducible assumption
    | with_reducible refine State.noteHead_follows ?_
    | with_reducible refine State.setTq0_follows ?_
    | with_reducible refine State.txRefused_follows ?_
    | with_reducible refine State.descDone_follows ?_
    | split
    | dsimp only

theorem State.beginFrame_follows {z s : State} {a1 a2 a3 a4 a5} (h : z.Follows s) : z.Follows (State.beginFrame s a1 a2 a3 a4 a5) := by
  unfold State.beginFrame
  repeat' first
    | with_reducible assumption
    | with_reducible refine State.setSend_follows ?_
    | with_reducible refine State.takeFree_follows ?_
    | split
    | dsimp only

theorem State.tq0Launch_follows {z s : State} {a1} (h : z.Follows s) : z.Follows (State.tq0Launch s a1) := by
  unfold State.tq0Launch
  repeat' first
    | with_reducible assumption
    | with_reducible refine State.noteHead_follows ?_
    | with_reducible refine State.tq0Refuse_follows ?_
    | with_reducible refine State.beginFrame_follows ?_
    | with_reducible refine State.seen_follows ?_
    | split
    | dsimp only

theorem State.launchPassed_follows {z s : State} {a1 a2} (h : z.Follows s) : z.Follows (State.launchPassed s a1 a2) := by
  unfold State.launchPassed
  repeat' first
    | with_reducible assumption
    | with_reducible refine State.setTq0_follows ?_
    | split
    | dsimp only

theorem State.tq1Serve_follows_of {z s t : State} {a1} (h : z.Follows s) (e : State.tq1Serve s a1 = some t) : z.Follows t := by
  unfold State.tq1Serve at e
  try dsimp only at e
  (repeat' split at e) <;> first
    | contradiction
    | (simp only [Option.some.injEq, Prod.mk.injEq] at e; first | subst e | obtain ⟨rfl, _⟩ := e)
  all_goals repeat' first
    | with_reducible assumption
    | with_reducible refine State.txRefused_follows ?_
    | with_reducible refine State.beginFrame_follows ?_
    | with_reducible refine State.descDone_follows ?_
    | with_reducible refine State.seen_follows ?_
    | split
    | dsimp only

theorem State.hostPut_follows {z s : State} {a1 a2} (h : z.Follows s) : z.Follows (State.hostPut s a1 a2) := by
  induction a2 generalizing s a1 with
  | nil => exact h
  | cons b l ih =>
    unfold State.hostPut
    repeat' first
      | with_reducible assumption
      | with_reducible refine ih ?_
      | with_reducible refine State.setTm_follows ?_
      | split
      | dsimp only

theorem State.hostDone_follows {z s : State} {a1 a2} (h : z.Follows s) : z.Follows (State.hostDone s a1 a2) := by
  unfold State.hostDone
  repeat' first
    | with_reducible assumption
    | with_reducible refine State.ringStep_follows ?_
    | with_reducible refine State.hostPut_follows ?_
    | with_reducible refine State.pulseFree_follows ?_
    | split
    | dsimp only

theorem State.hostReceive_follows {z s : State} {a1} (h : z.Follows s) : z.Follows (State.hostReceive s a1) := by
  unfold State.hostReceive
  repeat' first
    | with_reducible assumption
    | with_reducible refine State.hostPut_follows ?_
    | with_reducible refine State.takeHead_follows ?_
    | with_reducible refine State.hostDone_follows ?_
    | with_reducible refine State.count_follows ?_
    | split
    | dsimp only

theorem State.sendHead_follows {z s : State} {a1 a2 a3} (h : z.Follows s) : z.Follows (State.sendHead s a1 a2 a3) := by
  unfold State.sendHead
  repeat' first
    | with_reducible assumption
    | with_reducible refine State.hostReceive_follows ?_
    | with_reducible refine State.takeHead_follows ?_
    | with_reducible refine State.beginFrame_follows ?_
    | split
    | dsimp only

theorem State.queueChoice_follows {z s : State} {a1} (h : z.Follows s) : z.Follows (State.queueChoice s a1) := by
  unfold State.queueChoice
  repeat' first
    | with_reducible assumption
    | with_reducible refine State.sendHead_follows ?_
    | with_reducible refine State.dropHopeless_follows ?_
    | with_reducible refine State.weightedChoice_follows ?_
    | with_reducible refine State.setTm_follows ?_
    | with_reducible refine State.weightedChoice_follows_of ?_ (by with_reducible assumption)
    | split
    | dsimp only

theorem State.portChoice_follows {z s : State} {a1} (h : z.Follows s) : z.Follows (State.portChoice s a1) := by
  unfold State.portChoice
  repeat' first
    | with_reducible assumption
    | with_reducible refine State.noteHead_follows ?_
    | with_reducible refine State.tq0Launch_follows ?_
    | with_reducible refine State.queueChoice_follows ?_
    | with_reducible refine State.tq1Serve_follows_of ?_ (by with_reducible assumption)
    | split
    | dsimp only

theorem State.txEnd_follows {z s : State} {a1} (h : z.Follows s) : z.Follows (State.txEnd s a1) := by
  unfold State.txEnd
  repeat' first
    | with_reducible assumption
    | with_reducible refine State.pulse_follows ?_
    | with_reducible refine State.noteHead_follows ?_
    | with_reducible refine State.setSend_follows ?_
    | with_reducible refine State.setTq0_follows ?_
    | with_reducible refine State.descDone_follows ?_
    | with_reducible refine State.setTm_follows ?_
    | with_reducible refine State.count_follows ?_
    | split
    | dsimp only

theorem State.rxLog_follows {z s : State} {a1 a2 a3} (h : z.Follows s) : z.Follows (State.rxLog s a1 a2 a3) := by
  unfold State.rxLog
  repeat' first
    | with_reducible assumption
    | with_reducible refine State.ringPut_follows ?_
    | with_reducible refine State.count_follows ?_
    | split
    | dsimp only

theorem State.ethRx_follows {z s : State} {a1 a2 a3 a4} (h : z.Follows s) : z.Follows (State.ethRx s a1 a2 a3 a4) := by
  unfold State.ethRx
  repeat' first
    | with_reducible assumption
    | with_reducible refine State.offerPacket_follows ?_
    | with_reducible refine State.rxLog_follows ?_
    | with_reducible refine State.count_follows ?_
    | split
    | dsimp only

theorem State.linkChange_follows {z s : State} {a1 a2 a3 a4 a5 a6} (h : z.Follows s) : z.Follows (State.linkChange s a1 a2 a3 a4 a5 a6) := by
  unfold State.linkChange
  repeat' first
    | with_reducible assumption
    | with_reducible refine State.pulse_follows ?_
    | with_reducible refine State.setFld_follows ?_
    | with_reducible refine State.count_follows ?_
    | split
    | dsimp only

theorem State.wakeAdvance_follows {z s : State} (h : z.Follows s) : z.Follows (State.wakeAdvance s) := by
  unfold State.wakeAdvance
  repeat' first
    | with_reducible assumption
    | with_reducible refine State.setFld_follows ?_
    | split
    | dsimp only

theorem State.wakeWrite_follows {z s : State} {a1} (h : z.Follows s) : z.Follows (State.wakeWrite s a1) := by
  unfold State.wakeWrite
  repeat' first
    | with_reducible assumption
    | with_reducible refine State.wakeAdvance_follows ?_
    | with_reducible refine State.setTm_follows ?_
    | split
    | dsimp only

theorem State.hostServe_follows {z s : State} {a1 a2} (h : z.Follows s) : z.Follows (State.hostServe s a1 a2) := by
  unfold State.hostServe
  repeat' first
    | with_reducible assumption
    | with_reducible refine State.offerPacket_follows ?_
    | with_reducible refine State.hostPut_follows ?_
    | with_reducible refine State.hostDone_follows ?_
    | with_reducible refine State.setTm_follows ?_
    | with_reducible refine State.count_follows ?_
    | split
    | dsimp only

theorem State.hostDesc_follows {z s : State} {a1 a2} (h : z.Follows s) : z.Follows (State.hostDesc s a1 a2) := by
  unfold State.hostDesc
  repeat' first
    | with_reducible assumption
    | with_reducible refine State.hostPut_follows ?_
    | split
    | dsimp only

theorem State.msixSend_follows {z s : State} {a1} (h : z.Follows s) : z.Follows (State.msixSend s a1) := by
  unfold State.msixSend
  repeat' first
    | with_reducible assumption
    | with_reducible refine State.hostPut_follows ?_
    | split
    | dsimp only

theorem State.msixFire_follows {z s : State} {a1} (h : z.Follows s) : z.Follows (State.msixFire s a1) := by
  unfold State.msixFire
  repeat' first
    | with_reducible assumption
    | with_reducible refine State.setTm_follows ?_
    | with_reducible refine State.msixSend_follows ?_
    | split
    | dsimp only

theorem State.msixPulse_follows {z s : State} {a1} (h : z.Follows s) : z.Follows (State.msixPulse s a1) := by
  unfold State.msixPulse
  repeat' first
    | with_reducible assumption
    | with_reducible refine State.msixFire_follows ?_
    | with_reducible refine State.Follows.foldl _ ?_ (fun _ _ _ => ?_)
    | with_reducible refine State.Follows.foldl_fst _ ?_ (fun _ _ _ => ?_)
    | split
    | dsimp only

theorem State.msixWrite_follows {z s : State} {a1 a2} (h : z.Follows s) : z.Follows (State.msixWrite s a1 a2) := by
  unfold State.msixWrite
  repeat' first
    | with_reducible assumption
    | with_reducible refine State.setTm_follows ?_
    | with_reducible refine State.msixSend_follows ?_
    | split
    | dsimp only

theorem State.afterRing_follows {z s : State} {a1 a2 a3 a4} (h : z.Follows s) : z.Follows (State.afterRing s a1 a2 a3 a4) := by
  unfold State.afterRing
  repeat' first
    | with_reducible assumption
    | with_reducible refine State.setReg_follows ?_
    | split
    | dsimp only

end Sys2Proof.Machine
end

