-- ==== Sys2Proof/Laws/FollowsServices.lean ====
section
/-!
SUPPORT. Every operation of Machine/Services answers a state that follows (State.Follows).
-/
namespace Sys2Proof.Machine

theorem State.runEntry_follows {z s : State} {a1} (h : z.Follows s) : z.Follows (State.runEntry s a1) := by
  unfold State.runEntry
  repeat' first
    | with_reducible assumption
    | with_reducible refine State.returnReq_follows ?_
    | with_reducible refine State.journalReq_follows ?_
    | with_reducible refine State.meet_follows ?_
    | with_reducible refine State.scheduleCkpt_follows ?_
    | with_reducible refine State.count_follows ?_
    | with_reducible refine State.startCkpt_follows ?_
    | with_reducible refine State.journal_follows_of ?_ (by with_reducible assumption)
    | with_reducible refine State.allocPage_follows_of ?_ (by with_reducible assumption)
    | split
    | dsimp only

theorem State.takeIn_follows {z s : State} {a1} (h : z.Follows s) : z.Follows (State.takeIn s a1) := by
  unfold State.takeIn
  repeat' first
    | with_reducible assumption
    | with_reducible refine State.returnReq_follows ?_
    | with_reducible refine State.takePipe_follows ?_
    | with_reducible refine State.endReq_follows ?_
    | with_reducible refine State.runEntry_follows ?_
    | split
    | dsimp only

theorem State.arbiterGrant_follows {z s : State} {a1} (h : z.Follows s) : z.Follows (State.arbiterGrant s a1) := by
  unfold State.arbiterGrant
  repeat' first
    | with_reducible assumption
    | with_reducible refine State.grantReq_follows ?_
    | with_reducible refine State.takeIn_follows ?_
    | split
    | dsimp only

theorem State.serviceDone_follows {z s : State} {a1} (h : z.Follows s) : z.Follows (State.serviceDone s a1) := by
  unfold State.serviceDone
  repeat' first
    | with_reducible assumption
    | with_reducible refine State.completeReq_follows ?_
    | with_reducible refine State.linkDone_follows ?_
    | split
    | dsimp only

theorem State.backoffOver_follows {z s : State} (h : z.Follows s) : z.Follows (State.backoffOver s) := by
  unfold State.backoffOver
  repeat' first
    | with_reducible assumption
    | with_reducible refine State.setArb_follows ?_
    | split
    | dsimp only

theorem State.pipeRun_follows {z s : State} {a1 a2} (h : z.Follows s) : z.Follows (State.pipeRun s a1 a2) := by
  unfold State.pipeRun
  repeat' first
    | with_reducible assumption
    | with_reducible refine State.returnReq_follows ?_
    | with_reducible refine State.endReq_follows ?_
    | with_reducible refine State.runCipher_follows ?_
    | with_reducible refine State.linkCipher_follows ?_
    | with_reducible refine State.runCipher_follows_of ?_ (by with_reducible assumption)
    | split
    | dsimp only

theorem State.cutOffNow_follows {z s : State} {a1} (h : z.Follows s) : z.Follows (State.cutOffNow s a1) := by
  unfold State.cutOffNow
  repeat' first
    | with_reducible assumption
    | with_reducible refine State.cutOff_follows ?_
    | split
    | dsimp only

end Sys2Proof.Machine
end

