-- ==== Sys2Proof/Laws/FollowsFunctions.lean ====
section
/-!
SUPPORT. Every operation of Machine/Functions answers a state that follows (State.Follows).
-/
namespace Sys2Proof.Machine

theorem State.setPwr_follows {z s : State} {a1} (h : z.Follows s) : z.Follows (State.setPwr s a1) := by
  unfold State.setPwr
  repeat' first
    | with_reducible assumption
    | split
    | dsimp only
    | fail_if_no_progress (with_reducible refine State.Follows.mk_upd ?_)

theorem State.setAbandon_follows {z s : State} {a1 a2 a3 a4} (h : z.Follows s) : z.Follows (State.setAbandon s a1 a2 a3 a4) := by
  unfold State.setAbandon
  repeat' first
    | with_reducible assumption
    | with_reducible refine State.setPwr_follows ?_
    | split
    | dsimp only

theorem State.setAbandoned_follows {z s : State} {a1 a2 a3 a4} (h : z.Follows s) : z.Follows (State.setAbandoned s a1 a2 a3 a4) := by
  unfold State.setAbandoned
  repeat' first
    | with_reducible assumption
    | with_reducible refine State.setPwr_follows ?_
    | split
    | dsimp only

theorem State.fnStarting_follows {z s : State} {a1 a2 a3} (h : z.Follows s) : z.Follows (State.fnStarting s a1 a2 a3) := by
  unfold State.fnStarting
  repeat' first
    | with_reducible assumption
    | with_reducible refine State.setEngine_follows ?_
    | with_reducible refine State.setCore_follows ?_
    | split
    | dsimp only

theorem State.markEntries_follows {z s : State} {a1} (h : z.Follows s) : z.Follows (State.markEntries s a1) := by
  unfold State.markEntries
  repeat' first
    | with_reducible assumption
    | with_reducible refine State.checkEntries_follows ?_
    | with_reducible refine State.Follows.foldl _ ?_ (fun _ _ _ => ?_)
    | with_reducible refine State.Follows.foldl_fst _ ?_ (fun _ _ _ => ?_)
    | split
    | dsimp only

theorem State.fnStarted_follows {z s : State} {a1 a2 a3} (h : z.Follows s) : z.Follows (State.fnStarted s a1 a2 a3) := by
  unfold State.fnStarted
  repeat' first
    | with_reducible assumption
    | with_reducible refine State.noteHead_follows ?_
    | with_reducible refine State.mount_follows ?_
    | with_reducible refine State.setCph_follows ?_
    | with_reducible refine State.memStart_follows ?_
    | with_reducible refine State.takeMode_follows ?_
    | with_reducible refine State.markEntries_follows ?_
    | split
    | dsimp only

theorem State.fnStopping_follows {z s : State} {a1 a2 a3} (h : z.Follows s) : z.Follows (State.fnStopping s a1 a2 a3) := by
  unfold State.fnStopping
  repeat' first
    | with_reducible assumption
    | with_reducible refine State.settleAll_follows ?_
    | with_reducible refine State.dropLanes_follows ?_
    | with_reducible refine State.stopQueues_follows ?_
    | with_reducible refine State.setFld_follows ?_
    | with_reducible refine State.setEngine_follows ?_
    | with_reducible refine State.abortChain_follows ?_
    | with_reducible refine State.Follows.foldl _ ?_ (fun _ _ _ => ?_)
    | with_reducible refine State.Follows.foldl_fst _ ?_ (fun _ _ _ => ?_)
    | split
    | dsimp only

theorem State.fnStopped_follows {z s : State} {a1 a2 a3} (h : z.Follows s) : z.Follows (State.fnStopped s a1 a2 a3) := by
  unfold State.fnStopped
  repeat' first
    | with_reducible assumption
    | with_reducible refine State.closeLedger_follows ?_
    | split
    | dsimp only

theorem State.toStarting_follows {z s : State} {a1 a2 a3} (h : z.Follows s) : z.Follows (State.toStarting s a1 a2 a3) := by
  unfold State.toStarting
  repeat' first
    | with_reducible assumption
    | with_reducible refine State.setFld_follows ?_
    | with_reducible refine State.fnStarting_follows ?_
    | split
    | dsimp only

theorem State.toStopping_follows {z s : State} {a1 a2 a3} (h : z.Follows s) : z.Follows (State.toStopping s a1 a2 a3) := by
  unfold State.toStopping
  repeat' first
    | with_reducible assumption
    | with_reducible refine State.setFld_follows ?_
    | with_reducible refine State.fnStopping_follows ?_
    | split
    | dsimp only

theorem State.failTaken_follows {z s : State} {a1} (h : z.Follows s) : z.Follows (State.failTaken s a1) := by
  unfold State.failTaken
  repeat' first
    | with_reducible assumption
    | with_reducible refine State.endReq_follows ?_
    | with_reducible refine State.Follows.foldl _ ?_ (fun _ _ _ => ?_)
    | with_reducible refine State.Follows.foldl_fst _ ?_ (fun _ _ _ => ?_)
    | split
    | dsimp only

theorem State.dropPackets_follows {z s : State} (h : z.Follows s) : z.Follows (State.dropPackets s) := by
  unfold State.dropPackets
  repeat' first
    | with_reducible assumption
    | with_reducible refine State.setRtr_follows ?_
    | split
    | dsimp only

theorem State.fnForced_follows {z s : State} {a1 a2 a3} (h : z.Follows s) : z.Follows (State.fnForced s a1 a2 a3) := by
  unfold State.fnForced
  repeat' first
    | with_reducible assumption
    | with_reducible refine State.dropPackets_follows ?_
    | with_reducible refine State.setLnk_follows ?_
    | with_reducible refine State.dropFrame_follows ?_
    | with_reducible refine State.setCap_follows ?_
    | with_reducible refine State.setSend_follows ?_
    | with_reducible refine State.dropLanes_follows ?_
    | with_reducible refine State.setEngine_follows ?_
    | with_reducible refine State.abortChain_follows ?_
    | with_reducible refine State.failTaken_follows ?_
    | with_reducible refine State.Follows.foldl _ ?_ (fun _ _ _ => ?_)
    | with_reducible refine State.Follows.foldl_fst _ ?_ (fun _ _ _ => ?_)
    | split
    | dsimp only
    | fail_if_no_progress (with_reducible refine State.Follows.mk_upd ?_)

theorem State.fnWrite_follows {z s : State} {a1 a2 a3 a4} (h : z.Follows s) : z.Follows (State.fnWrite s a1 a2 a3 a4) := by
  unfold State.fnWrite
  repeat' first
    | with_reducible assumption
    | with_reducible refine State.setAbandon_follows ?_
    | with_reducible refine State.toStopping_follows ?_
    | with_reducible refine State.setFld_follows ?_
    | with_reducible refine State.toStarting_follows ?_
    | with_reducible refine State.fnForced_follows ?_
    | split
    | dsimp only

theorem State.fnStartDone_follows {z s : State} {a1 a2 a3} (h : z.Follows s) : z.Follows (State.fnStartDone s a1 a2 a3) := by
  unfold State.fnStartDone
  repeat' first
    | with_reducible assumption
    | with_reducible refine State.setAbandon_follows ?_
    | with_reducible refine State.toStopping_follows ?_
    | with_reducible refine State.setFld_follows ?_
    | with_reducible refine State.setAbandoned_follows ?_
    | with_reducible refine State.fnStarted_follows ?_
    | split
    | dsimp only

theorem State.fnStartFail_follows {z s : State} {a1 a2 a3} (h : z.Follows s) : z.Follows (State.fnStartFail s a1 a2 a3) := by
  unfold State.fnStartFail
  repeat' first
    | with_reducible assumption
    | with_reducible refine State.setAbandon_follows ?_
    | with_reducible refine State.setFld_follows ?_
    | split
    | dsimp only

theorem State.fnSafePoint_follows {z s : State} {a1 a2 a3} (h : z.Follows s) : z.Follows (State.fnSafePoint s a1 a2 a3) := by
  unfold State.fnSafePoint
  repeat' first
    | with_reducible assumption
    | with_reducible refine State.setAbandon_follows ?_
    | with_reducible refine State.toStopping_follows ?_
    | with_reducible refine State.setAbandoned_follows ?_
    | split
    | dsimp only

theorem State.fnStopDone_follows {z s : State} {a1 a2 a3} (h : z.Follows s) : z.Follows (State.fnStopDone s a1 a2 a3) := by
  unfold State.fnStopDone
  repeat' first
    | with_reducible assumption
    | with_reducible refine State.setFld_follows ?_
    | with_reducible refine State.fnStopped_follows ?_
    | with_reducible refine State.toStarting_follows ?_
    | with_reducible refine State.setAbandoned_follows ?_
    | split
    | dsimp only

theorem State.fnStopFail_follows {z s : State} {a1 a2 a3} (h : z.Follows s) : z.Follows (State.fnStopFail s a1 a2 a3) := by
  unfold State.fnStopFail
  repeat' first
    | with_reducible assumption
    | with_reducible refine State.setFld_follows ?_
    | with_reducible refine State.setAbandoned_follows ?_
    | split
    | dsimp only

end Sys2Proof.Machine
end

