-- ==== Sys2Proof/Laws/FollowsHolds.lean ====
section
/-!
SUPPORT. Every operation of Machine/Holds answers a state that follows (State.Follows).
-/
namespace Sys2Proof.Machine

theorem State.holdCore_follows {z s : State} {a1} (h : z.Follows s) : z.Follows (State.holdCore s a1) := by
  unfold State.holdCore
  repeat' first
    | with_reducible assumption
    | with_reducible refine State.dropWide_follows ?_
    | with_reducible refine State.setWd_follows ?_
    | with_reducible refine State.setFld_follows ?_
    | with_reducible refine State.dropTokens_follows ?_
    | with_reducible refine State.setCore_follows ?_
    | with_reducible refine State.closeSequence_follows ?_
    | split
    | dsimp only
    | fail_if_no_progress (with_reducible refine State.Follows.mk_upd ?_)

theorem State.loadBoot_follows {z s : State} (h : z.Follows s) : z.Follows (State.loadBoot s) := by
  unfold State.loadBoot
  repeat' first
    | with_reducible assumption
    | with_reducible refine State.put_follows ?_
    | split
    | dsimp only

theorem State.startWord_follows {z s : State} {a1} (h : z.Follows s) : z.Follows (State.startWord s a1) := by
  unfold State.startWord
  repeat' first
    | with_reducible assumption
    | with_reducible refine State.putLe_follows ?_
    | split
    | dsimp only

theorem State.releaseCore_follows {z s : State} {a1} (h : z.Follows s) : z.Follows (State.releaseCore s a1) := by
  unfold State.releaseCore
  repeat' first
    | with_reducible assumption
    | with_reducible refine State.setFld_follows ?_
    | with_reducible refine State.setCore_follows ?_
    | split
    | dsimp only
    | fail_if_no_progress (with_reducible refine State.Follows.mk_upd ?_)

theorem State.releaseControl_follows {z s : State} {a1 a2} (h : z.Follows s) : z.Follows (State.releaseControl s a1 a2) := by
  unfold State.releaseControl
  repeat' first
    | with_reducible assumption
    | with_reducible refine State.startWord_follows ?_
    | with_reducible refine State.releaseCore_follows ?_
    | with_reducible refine State.Follows.foldl _ ?_ (fun _ _ _ => ?_)
    | with_reducible refine State.Follows.foldl_fst _ ?_ (fun _ _ _ => ?_)
    | split
    | dsimp only

theorem State.afterHold_follows {z s : State} {a1} (h : z.Follows s) : z.Follows (State.afterHold s a1) := by
  unfold State.afterHold
  repeat' first
    | with_reducible assumption
    | with_reducible refine State.holdCore_follows ?_
    | with_reducible refine State.releaseCore_follows ?_
    | with_reducible refine State.Follows.foldl _ ?_ (fun _ _ _ => ?_)
    | with_reducible refine State.Follows.foldl_fst _ ?_ (fun _ _ _ => ?_)
    | split
    | dsimp only

theorem State.postMessage_follows {z s : State} (h : z.Follows s) : z.Follows (State.postMessage s) := by
  unfold State.postMessage
  repeat' first
    | with_reducible assumption
    | with_reducible refine State.pulse_follows ?_
    | with_reducible refine State.putLe_follows ?_
    | with_reducible refine State.takeFree_follows ?_
    | split
    | dsimp only
    | fail_if_no_progress (with_reducible refine State.Follows.mk_upd ?_)

end Sys2Proof.Machine
end

