-- ==== Sys2Proof/Laws/FollowsSwap.lean ====
section
/-!
SUPPORT. Every operation of Machine/Swap answers a state that follows (State.Follows).
-/
namespace Sys2Proof.Machine

theorem State.copyReg_follows {z s : State} {a1 a2} (h : z.Follows s) : z.Follows (State.copyReg s a1 a2) := by
  unfold State.copyReg
  repeat' first
    | with_reducible assumption
    | with_reducible refine State.setReg_follows ?_
    | with_reducible refine State.Follows.foldl _ ?_ (fun _ _ _ => ?_)
    | with_reducible refine State.Follows.foldl_fst _ ?_ (fun _ _ _ => ?_)
    | split
    | dsimp only

theorem State.copyRws_follows {z s : State} {a1 a2 a3} (h : z.Follows s) : z.Follows (State.copyRws s a1 a2 a3) := by
  unfold State.copyRws
  repeat' first
    | with_reducible assumption
    | with_reducible refine State.copyReg_follows ?_
    | with_reducible refine State.Follows.foldl _ ?_ (fun _ _ _ => ?_)
    | with_reducible refine State.Follows.foldl_fst _ ?_ (fun _ _ _ => ?_)
    | split
    | dsimp only

theorem State.swapProg_follows {z s : State} {a1} (h : z.Follows s) : z.Follows (State.swapProg s a1) := by
  unfold State.swapProg
  repeat' first
    | with_reducible assumption
    | with_reducible refine State.copyRws_follows ?_
    | with_reducible refine State.setFld_follows ?_
    | with_reducible refine State.setEngine_follows ?_
    | with_reducible refine State.setCore_follows ?_
    | split
    | dsimp only

theorem State.swapCal_follows {z s : State} {a1} (h : z.Follows s) : z.Follows (State.swapCal s a1) := by
  unfold State.swapCal
  repeat' first
    | with_reducible assumption
    | with_reducible refine State.copyRws_follows ?_
    | with_reducible refine State.setFld_follows ?_
    | with_reducible refine State.setChain_follows ?_
    | with_reducible refine State.Follows.foldl _ ?_ (fun _ _ _ => ?_)
    | with_reducible refine State.Follows.foldl_fst _ ?_ (fun _ _ _ => ?_)
    | split
    | dsimp only

theorem State.swapSet_follows {z s : State} {a1} (h : z.Follows s) : z.Follows (State.swapSet s a1) := by
  unfold State.swapSet
  repeat' first
    | with_reducible assumption
    | with_reducible refine State.swapProg_follows ?_
    | with_reducible refine State.copyRws_follows ?_
    | with_reducible refine State.swapTable_follows ?_
    | with_reducible refine State.swapCal_follows ?_
    | with_reducible refine State.markEntries_follows ?_
    | with_reducible refine State.Follows.foldl _ ?_ (fun _ _ _ => ?_)
    | with_reducible refine State.Follows.foldl_fst _ ?_ (fun _ _ _ => ?_)
    | split
    | dsimp only

theorem State.closeSlot_follows {z s : State} {a1 a2} (h : z.Follows s) : z.Follows (State.closeSlot s a1 a2) := by
  unfold State.closeSlot
  repeat' first
    | with_reducible assumption
    | with_reducible refine State.pulse_follows ?_
    | with_reducible refine State.setFld_follows ?_
    | split
    | dsimp only

theorem State.slotComplete_follows {z s : State} {a1} (h : z.Follows s) : z.Follows (State.slotComplete s a1) := by
  unfold State.slotComplete
  repeat' first
    | with_reducible assumption
    | with_reducible refine State.closeSlot_follows ?_
    | split
    | dsimp only

theorem State.setDone_follows {z s : State} {a1 a2} (h : z.Follows s) : z.Follows (State.setDone s a1 a2) := by
  unfold State.setDone
  repeat' first
    | with_reducible assumption
    | with_reducible refine State.setFld_follows ?_
    | split
    | dsimp only

theorem State.swapRequest_follows {z s : State} {a1 a2} (h : z.Follows s) : z.Follows (State.swapRequest s a1 a2) := by
  unfold State.swapRequest
  repeat' first
    | with_reducible assumption
    | with_reducible refine State.setFld_follows ?_
    | with_reducible refine State.closeSlot_follows ?_
    | split
    | dsimp only

theorem State.dropLists_follows {z s : State} {a1} (h : z.Follows s) : z.Follows (State.dropLists s a1) := by
  unfold State.dropLists
  repeat' first
    | with_reducible assumption
    | with_reducible refine State.slStat_follows ?_
    | with_reducible refine State.exchange_follows ?_
    | with_reducible refine State.setTm_follows ?_
    | with_reducible refine State.Follows.foldl _ ?_ (fun _ _ _ => ?_)
    | with_reducible refine State.Follows.foldl_fst _ ?_ (fun _ _ _ => ?_)
    | split
    | dsimp only

theorem State.swapCancel_follows {z s : State} {a1} (h : z.Follows s) : z.Follows (State.swapCancel s a1) := by
  unfold State.swapCancel
  repeat' first
    | with_reducible assumption
    | with_reducible refine State.dropLists_follows ?_
    | with_reducible refine State.closeSlot_follows ?_
    | split
    | dsimp only

theorem State.listsSwap_follows {z s : State} {a1 a2} (h : z.Follows s) : z.Follows (State.listsSwap s a1 a2).1 := by
  induction a2 generalizing s a1 with
  | nil => exact h
  | cons b l ih =>
    unfold State.listsSwap
    repeat' first
      | with_reducible assumption
      | with_reducible refine ih ?_
      | with_reducible refine State.listSwap_follows ?_
      | with_reducible refine State.listSwap_follows_of ?_ (by with_reducible assumption)
      | with_reducible refine State.Follows.elim ?_ (fun _ => ?_)
      | split
      | dsimp only

theorem State.listsSwap_follows_of {z s t : State} {a1 a2} {r} (h : z.Follows s) (e : State.listsSwap s a1 a2 = (t, r)) : z.Follows t := by
  have k := State.listsSwap_follows (z := z) (s := s) (a1 := a1) (a2 := a2) h
  rw [e] at k
  exact k

theorem State.listBegin_follows {z s : State} {a1 a2} (h : z.Follows s) : z.Follows (State.listBegin s a1 a2) := by
  unfold State.listBegin
  repeat' first
    | with_reducible assumption
    | with_reducible refine State.listStart_follows ?_
    | with_reducible refine State.setDone_follows ?_
    | with_reducible refine State.listStart_follows_of ?_ (by with_reducible assumption)
    | split
    | dsimp only

theorem State.swapTake_follows {z s : State} {a1} (h : z.Follows s) : z.Follows (State.swapTake s a1) := by
  unfold State.swapTake
  repeat' first
    | with_reducible assumption
    | with_reducible refine State.listsSwap_follows ?_
    | with_reducible refine State.listBegin_follows ?_
    | with_reducible refine State.dropLists_follows ?_
    | with_reducible refine State.swapSet_follows ?_
    | with_reducible refine State.setDone_follows ?_
    | with_reducible refine State.slotComplete_follows ?_
    | with_reducible refine State.closeSlot_follows ?_
    | with_reducible refine State.listsSwap_follows_of ?_ (by with_reducible assumption)
    | with_reducible refine State.Follows.foldl _ ?_ (fun _ _ _ => ?_)
    | with_reducible refine State.Follows.foldl_fst _ ?_ (fun _ _ _ => ?_)
    | split
    | dsimp only

theorem State.slalomStart_follows {z s : State} {a1} (h : z.Follows s) : z.Follows (State.slalomStart s a1) := by
  unfold State.slalomStart
  repeat' first
    | with_reducible assumption
    | with_reducible refine State.swapTake_follows ?_
    | split
    | dsimp only

end Sys2Proof.Machine
end

