-- ==== Sys2Proof/Laws/FollowsPower.lean ====
section
/-!
SUPPORT. Every operation of Machine/Power answers a state that follows (State.Follows).
-/
namespace Sys2Proof.Machine

theorem State.endPasses_follows {z s : State} (h : z.Follows s) : z.Follows (State.endPasses s) := by
  unfold State.endPasses
  repeat' first
    | with_reducible assumption
    | with_reducible refine State.audit_follows ?_
    | with_reducible refine State.Follows.foldl _ ?_ (fun _ _ _ => ?_)
    | with_reducible refine State.Follows.foldl_fst _ ?_ (fun _ _ _ => ?_)
    | split
    | dsimp only

theorem State.goOff_follows {z s : State} (h : z.Follows s) : z.Follows s.goOff := by
  have h1 := State.endPasses_follows h
  unfold State.goOff
  iterate 5 with_reducible refine State.setFld_follows ?_
  with_reducible refine State.Follows.mk_upd ?_
  exact h1.tables rfl rfl rfl fun c =>
    ⟨rfl, rfl, SMap.wf_foldl_set _ _ _ rfl, SMap.wf_filter _ (SMap.wf_foldl_set _ _ _ rfl), rfl, rfl⟩

theorem State.wakeTime_follows {z s : State} (h : z.Follows s) : z.Follows (State.wakeTime s) := by
  unfold State.wakeTime
  repeat' first
    | with_reducible assumption
    | with_reducible refine State.setFld_follows ?_
    | with_reducible refine State.takeFree_follows ?_
    | split
    | dsimp only
    | fail_if_no_progress (with_reducible refine State.Follows.mk_upd ?_)

theorem State.goStandby_follows {z s : State} (h : z.Follows s) : z.Follows s.goStandby := by
  unfold State.goStandby
  iterate 3 with_reducible refine State.setFld_follows ?_
  with_reducible refine State.secLost_follows ?_
  exact h.tables rfl rfl rfl fun c =>
    ⟨SMap.wf_filter _ c.mem, c.kprMem, SMap.wf_foldl_set _ _ _ rfl, c.shadow, SMap.wf_filter _ c.cores, rfl⟩

theorem State.stopFn_follows {z s : State} {a1} (h : z.Follows s) : z.Follows (State.stopFn s a1) := by
  unfold State.stopFn
  repeat' first
    | with_reducible assumption
    | with_reducible refine State.setAbandon_follows ?_
    | with_reducible refine State.toStopping_follows ?_
    | with_reducible refine State.setFld_follows ?_
    | split
    | dsimp only

theorem State.startFn_follows {z s : State} {a1} (h : z.Follows s) : z.Follows (State.startFn s a1) := by
  unfold State.startFn
  repeat' first
    | with_reducible assumption
    | with_reducible refine State.setFld_follows ?_
    | with_reducible refine State.toStarting_follows ?_
    | split
    | dsimp only

theorem State.beginDrain_follows {z s : State} {a1} (h : z.Follows s) : z.Follows (State.beginDrain s a1) := by
  unfold State.beginDrain
  repeat' first
    | with_reducible assumption
    | with_reducible refine State.pulse_follows ?_
    | with_reducible refine State.setPwr_follows ?_
    | split
    | dsimp only

theorem State.entryAdvance_follows {z s : State} {a1} (h : z.Follows s) : z.Follows (State.entryAdvance s a1) := by
  induction a1 generalizing s with
  | zero => exact h
  | succ n ih =>
    unfold State.entryAdvance
    repeat' first
      | with_reducible assumption
      | with_reducible refine ih ?_
      | with_reducible refine State.beginDrain_follows ?_
      | with_reducible refine State.stopFn_follows ?_
      | with_reducible refine State.setPwr_follows ?_
      | with_reducible refine State.Follows.foldl _ ?_ (fun _ _ _ => ?_)
      | with_reducible refine State.Follows.foldl_fst _ ?_ (fun _ _ _ => ?_)
      | split
      | dsimp only

theorem State.entryBegin_follows {z s : State} {a1 a2} (h : z.Follows s) : z.Follows (State.entryBegin s a1 a2) := by
  unfold State.entryBegin
  repeat' first
    | with_reducible assumption
    | with_reducible refine State.stopFn_follows ?_
    | with_reducible refine State.setFld_follows ?_
    | with_reducible refine State.entryAdvance_follows ?_
    | with_reducible refine State.setPwr_follows ?_
    | with_reducible refine State.Follows.foldl _ ?_ (fun _ _ _ => ?_)
    | with_reducible refine State.Follows.foldl_fst _ ?_ (fun _ _ _ => ?_)
    | split
    | dsimp only

theorem State.refuser_follows {z s : State} {a1 a2 a3} (h : z.Follows s) : z.Follows (State.refuser s a1 a2 a3) := by
  unfold State.refuser
  repeat' first
    | with_reducible assumption
    | with_reducible refine State.setFld_follows ?_
    | split
    | dsimp only

theorem State.decidePower_follows {z s : State} {a1 a2} (h : z.Follows s) : z.Follows (State.decidePower s a1 a2) := by
  unfold State.decidePower
  repeat' first
    | with_reducible assumption
    | with_reducible refine State.pulse_follows ?_
    | with_reducible refine State.setFld_follows ?_
    | with_reducible refine State.refuser_follows ?_
    | with_reducible refine State.count_follows ?_
    | with_reducible refine State.entryBegin_follows ?_
    | split
    | dsimp only

theorem State.powerRequest_follows {z s : State} {a1 a2 a3} (h : z.Follows s) : z.Follows (State.powerRequest s a1 a2 a3) := by
  unfold State.powerRequest
  repeat' first
    | with_reducible assumption
    | with_reducible refine State.setFld_follows ?_
    | with_reducible refine State.decidePower_follows ?_
    | with_reducible refine State.setPwr_follows ?_
    | split
    | dsimp only

theorem State.powerDue_follows {z s : State} (h : z.Follows s) : z.Follows (State.powerDue s) := by
  unfold State.powerDue
  repeat' first
    | with_reducible assumption
    | with_reducible refine State.setFld_follows ?_
    | with_reducible refine State.decidePower_follows ?_
    | with_reducible refine State.setPwr_follows ?_
    | split
    | dsimp only

theorem State.fnsOff_follows {z s : State} {a1} (h : z.Follows s) : z.Follows (State.fnsOff s a1) := by
  unfold State.fnsOff
  repeat' first
    | with_reducible assumption
    | with_reducible refine State.setFld_follows ?_
    | with_reducible refine State.Follows.foldl _ ?_ (fun _ _ _ => ?_)
    | with_reducible refine State.Follows.foldl_fst _ ?_ (fun _ _ _ => ?_)
    | split
    | dsimp only

theorem State.dropDomain_follows {z s : State} {a1} (h : z.Follows s) : z.Follows (State.dropDomain s a1) := by
  unfold State.dropDomain
  repeat' first
    | with_reducible assumption
    | with_reducible refine State.fnsOff_follows ?_
    | with_reducible refine State.setFld_follows ?_
    | with_reducible refine State.secLost_follows ?_
    | split
    | dsimp only

theorem State.writeFloor_follows {z s : State} (h : z.Follows s) : z.Follows (State.writeFloor s) := by
  unfold State.writeFloor
  repeat' first
    | with_reducible assumption
    | split
    | dsimp only
    | fail_if_no_progress (with_reducible refine State.Follows.mk_upd ?_)

theorem State.enterState_follows {z s : State} {a1} (h : z.Follows s) : z.Follows (State.enterState s a1) := by
  unfold State.enterState
  repeat' first
    | with_reducible assumption
    | with_reducible refine State.wakeTime_follows ?_
    | with_reducible refine State.setFld_follows ?_
    | with_reducible refine State.goStandby_follows ?_
    | with_reducible refine State.releaseControl_follows ?_
    | with_reducible refine State.dropDomain_follows ?_
    | with_reducible refine State.touchDomain_follows ?_
    | with_reducible refine State.startFn_follows ?_
    | with_reducible refine State.releaseCore_follows ?_
    | with_reducible refine State.loadBoot_follows ?_
    | with_reducible refine State.Follows.foldl _ ?_ (fun _ _ _ => ?_)
    | with_reducible refine State.Follows.foldl_fst _ ?_ (fun _ _ _ => ?_)
    | split
    | dsimp only

theorem State.entryOver_follows {z s : State} (h : z.Follows s) : z.Follows (State.entryOver s) := by
  unfold State.entryOver
  repeat' first
    | with_reducible assumption
    | with_reducible refine State.setFld_follows ?_
    | with_reducible refine State.setPwr_follows ?_
    | split
    | dsimp only
    | fail_if_no_progress (with_reducible refine State.Follows.mk_upd ?_)

theorem State.entryDone_follows {z s : State} {a1} (h : z.Follows s) : z.Follows (State.entryDone s a1) := by
  unfold State.entryDone
  repeat' first
    | with_reducible assumption
    | with_reducible refine State.pulse_follows ?_
    | with_reducible refine State.entryOver_follows ?_
    | with_reducible refine State.goOff_follows ?_
    | with_reducible refine State.enterState_follows ?_
    | with_reducible refine State.setFld_follows ?_
    | with_reducible refine State.holdCore_follows ?_
    | with_reducible refine State.writeFloor_follows ?_
    | with_reducible refine State.Follows.foldl _ ?_ (fun _ _ _ => ?_)
    | with_reducible refine State.Follows.foldl_fst _ ?_ (fun _ _ _ => ?_)
    | split
    | dsimp only

theorem State.entryAbort_follows {z s : State} {a1 a2} (h : z.Follows s) : z.Follows (State.entryAbort s a1 a2) := by
  unfold State.entryAbort
  repeat' first
    | with_reducible assumption
    | with_reducible refine State.pulse_follows ?_
    | with_reducible refine State.entryOver_follows ?_
    | with_reducible refine State.setFld_follows ?_
    | with_reducible refine State.refuser_follows ?_
    | with_reducible refine State.startFn_follows ?_
    | with_reducible refine State.count_follows ?_
    | with_reducible refine State.Follows.foldl _ ?_ (fun _ _ _ => ?_)
    | with_reducible refine State.Follows.foldl_fst _ ?_ (fun _ _ _ => ?_)
    | split
    | dsimp only

theorem State.lingerExpiry_follows {z s : State} {a1} (h : z.Follows s) : z.Follows (State.lingerExpiry s a1) := by
  unfold State.lingerExpiry
  repeat' first
    | with_reducible assumption
    | with_reducible refine State.dropDomain_follows ?_
    | split
    | dsimp only

end Sys2Proof.Machine
end

