-- ==== Sys2Proof/Laws/FollowsSupply.lean ====
section
/-!
SUPPORT. Every operation of Machine/Supply answers a state that follows (State.Follows).
-/
namespace Sys2Proof.Machine

theorem State.setLevel_follows {z s : State} {a1 a2} (h : z.Follows s) : z.Follows (State.setLevel s a1 a2) := by
  unfold State.setLevel
  repeat' first
    | with_reducible assumption
    | with_reducible refine State.setFld_follows ?_
    | split
    | dsimp only

theorem State.setSup_follows {z s : State} {a1} (h : z.Follows s) : z.Follows (State.setSup s a1) := by
  unfold State.setSup
  repeat' first
    | with_reducible assumption
    | split
    | dsimp only
    | fail_if_no_progress (with_reducible refine State.Follows.mk_upd ?_)

theorem State.supIdle_follows {z s : State} (h : z.Follows s) : z.Follows (State.supIdle s) := by
  unfold State.supIdle
  repeat' first
    | with_reducible assumption
    | with_reducible refine State.setPwr_follows ?_
    | split
    | dsimp only

theorem State.supStart_follows {z s : State} (h : z.Follows s) : z.Follows (State.supStart s) := by
  unfold State.supStart
  repeat' first
    | with_reducible assumption
    | with_reducible refine State.setSup_follows ?_
    | with_reducible refine State.setPwr_follows ?_
    | with_reducible refine State.Follows.elim ?_ (fun _ => ?_)
    | split
    | dsimp only

theorem State.railsUp_follows {z s : State} (h : z.Follows s) : z.Follows (State.railsUp s) := by
  unfold State.railsUp
  repeat' first
    | with_reducible assumption
    | with_reducible refine State.setPwr_follows ?_
    | split
    | dsimp only

theorem State.keeperRail_follows {z s : State} {a1 a2} (h : z.Follows s) : z.Follows (State.keeperRail s a1 a2) := by
  unfold State.keeperRail
  repeat' first
    | with_reducible assumption
    | with_reducible refine State.setFld_follows ?_
    | with_reducible refine State.railsUp_follows ?_
    | with_reducible refine State.entryAbort_follows ?_
    | split
    | dsimp only

theorem State.supEnd_follows {z s : State} {a1 a2} (h : z.Follows s) : z.Follows (State.supEnd s a1 a2) := by
  unfold State.supEnd
  repeat' first
    | with_reducible assumption
    | with_reducible refine State.setSup_follows ?_
    | with_reducible refine State.supIdle_follows ?_
    | with_reducible refine State.keeperRail_follows ?_
    | with_reducible refine State.endCmd_follows ?_
    | split
    | dsimp only

theorem State.supIssue_follows {z s : State} {a1 a2 a3} (h : z.Follows s) : z.Follows (State.supIssue s a1 a2 a3) := by
  unfold State.supIssue
  repeat' first
    | with_reducible assumption
    | with_reducible refine State.setSup_follows ?_
    | with_reducible refine State.keeperRail_follows ?_
    | with_reducible refine State.setLevel_follows ?_
    | split
    | dsimp only

theorem State.supAck_follows {z s : State} (h : z.Follows s) : z.Follows (State.supAck s) := by
  unfold State.supAck
  repeat' first
    | with_reducible assumption
    | with_reducible refine State.supEnd_follows ?_
    | with_reducible refine State.setLevel_follows ?_
    | split
    | dsimp only

theorem State.supNack_follows {z s : State} (h : z.Follows s) : z.Follows (State.supNack s) := by
  unfold State.supNack
  repeat' first
    | with_reducible assumption
    | with_reducible refine State.setSup_follows ?_
    | with_reducible refine State.supIdle_follows ?_
    | with_reducible refine State.count_follows ?_
    | split
    | dsimp only

theorem State.supTimeout_follows {z s : State} (h : z.Follows s) : z.Follows (State.supTimeout s) := by
  unfold State.supTimeout
  repeat' first
    | with_reducible assumption
    | with_reducible refine State.pulse_follows ?_
    | with_reducible refine State.supEnd_follows ?_
    | with_reducible refine State.setLevel_follows ?_
    | with_reducible refine State.count_follows ?_
    | split
    | dsimp only

theorem State.readModes_follows {z s : State} (h : z.Follows s) : z.Follows (State.readModes s) := by
  unfold State.readModes
  repeat' first
    | with_reducible assumption
    | with_reducible refine State.setFld_follows ?_
    | with_reducible refine State.takeFree_follows ?_
    | with_reducible refine State.Follows.foldl _ ?_ (fun _ _ _ => ?_)
    | with_reducible refine State.Follows.foldl_fst _ ?_ (fun _ _ _ => ?_)
    | split
    | dsimp only

theorem State.afterSupDev_follows {z s : State} {a1 a2} (h : z.Follows s) : z.Follows (State.afterSupDev s a1 a2) := by
  unfold State.afterSupDev
  repeat' first
    | with_reducible assumption
    | with_reducible refine State.setFld_follows ?_
    | with_reducible refine State.takeFree_follows ?_
    | split
    | dsimp only

theorem State.dvfsChange_follows {z s : State} (h : z.Follows s) : z.Follows (State.dvfsChange s) := by
  unfold State.dvfsChange
  repeat' first
    | with_reducible assumption
    | with_reducible refine State.setFld_follows ?_
    | with_reducible refine State.supIssue_follows ?_
    | split
    | dsimp only

theorem State.capStep_follows {z s : State} (h : z.Follows s) : z.Follows (State.capStep s) := by
  unfold State.capStep
  repeat' first
    | with_reducible assumption
    | with_reducible refine State.setFld_follows ?_
    | with_reducible refine State.setPwr_follows ?_
    | split
    | dsimp only

theorem State.keeperEntry_follows {z s : State} {a1} (h : z.Follows s) : z.Follows (State.keeperEntry s a1) := by
  unfold State.keeperEntry
  repeat' first
    | with_reducible assumption
    | with_reducible refine State.decidePower_follows ?_
    | split
    | dsimp only

theorem State.crossLimit_follows {z s : State} {a1} (h : z.Follows s) : z.Follows (State.crossLimit s a1) := by
  unfold State.crossLimit
  repeat' first
    | with_reducible assumption
    | with_reducible refine State.pulse_follows ?_
    | with_reducible refine State.setPwr_follows ?_
    | split
    | dsimp only

theorem State.insideAgain_follows {z s : State} {a1} (h : z.Follows s) : z.Follows (State.insideAgain s a1) := by
  unfold State.insideAgain
  repeat' first
    | with_reducible assumption
    | with_reducible refine State.setPwr_follows ?_
    | split
    | dsimp only

theorem State.monAlarm_follows {z s : State} {a1} (h : z.Follows s) : z.Follows (State.monAlarm s a1) := by
  unfold State.monAlarm
  repeat' first
    | with_reducible assumption
    | with_reducible refine State.alarmActive_follows ?_
    | with_reducible refine State.raiseAlarm_follows ?_
    | split
    | dsimp only

theorem State.tempSample_follows {z s : State} {a1 a2} (h : z.Follows s) : z.Follows (State.tempSample s a1 a2) := by
  unfold State.tempSample
  repeat' first
    | with_reducible assumption
    | with_reducible refine State.alarmActive_follows ?_
    | with_reducible refine State.setFld_follows ?_
    | with_reducible refine State.keeperEntry_follows ?_
    | with_reducible refine State.insideAgain_follows ?_
    | with_reducible refine State.crossLimit_follows ?_
    | with_reducible refine State.monAlarm_follows ?_
    | split
    | dsimp only

theorem State.voltSample_follows {z s : State} {a1 a2} (h : z.Follows s) : z.Follows (State.voltSample s a1 a2) := by
  unfold State.voltSample
  repeat' first
    | with_reducible assumption
    | with_reducible refine State.alarmActive_follows ?_
    | with_reducible refine State.setFld_follows ?_
    | with_reducible refine State.insideAgain_follows ?_
    | with_reducible refine State.crossLimit_follows ?_
    | with_reducible refine State.monAlarm_follows ?_
    | split
    | dsimp only

theorem State.monitorSample_follows {z s : State} {a1 a2 a3} (h : z.Follows s) : z.Follows (State.monitorSample s a1 a2 a3) := by
  unfold State.monitorSample
  repeat' first
    | with_reducible assumption
    | with_reducible refine State.setFld_follows ?_
    | with_reducible refine State.tempSample_follows ?_
    | with_reducible refine State.voltSample_follows ?_
    | split
    | dsimp only

theorem State.tamperCheck_follows {z s : State} {a1 a2} (h : z.Follows s) : z.Follows (State.tamperCheck s a1 a2) := by
  unfold State.tamperCheck
  repeat' first
    | with_reducible assumption
    | with_reducible refine State.alarmActive_follows ?_
    | with_reducible refine State.raiseAlarm_follows ?_
    | split
    | dsimp only
    | fail_if_no_progress (with_reducible refine State.Follows.mk_upd ?_)

theorem State.alarmSource_follows {z s : State} {a1 a2} (h : z.Follows s) : z.Follows (State.alarmSource s a1 a2) := by
  unfold State.alarmSource
  repeat' first
    | with_reducible assumption
    | with_reducible refine State.alarmActive_follows ?_
    | with_reducible refine State.raiseAlarm_follows ?_
    | split
    | dsimp only

end Sys2Proof.Machine
end

