-- ==== Sys2Proof/Laws/FollowsPowerEvents.lean ====
section
/-!
SUPPORT. Every operation of Machine/PowerEvents answers a state that follows (State.Follows).
-/
namespace Sys2Proof.Machine

theorem State.stopNow_follows {z s : State} {a1} (h : z.Follows s) : z.Follows (State.stopNow s a1) := by
  unfold State.stopNow
  repeat' first
    | with_reducible assumption
    | with_reducible refine State.settleCtr_follows ?_
    | with_reducible refine State.toStopping_follows ?_
    | with_reducible refine State.setFld_follows ?_
    | with_reducible refine State.fnStopped_follows ?_
    | with_reducible refine State.Follows.foldl _ ?_ (fun _ _ _ => ?_)
    | with_reducible refine State.Follows.foldl_fst _ ?_ (fun _ _ _ => ?_)
    | split
    | dsimp only

theorem State.orderlyOff_follows {z s : State} (h : z.Follows s) : z.Follows (State.orderlyOff s) := by
  unfold State.orderlyOff
  repeat' first
    | with_reducible assumption
    | with_reducible refine State.entryOver_follows ?_
    | with_reducible refine State.goOff_follows ?_
    | with_reducible refine State.writeFloor_follows ?_
    | with_reducible refine State.stopNow_follows ?_
    | split
    | dsimp only

theorem State.enableLow_follows {z s : State} (h : z.Follows s) : z.Follows (State.enableLow s) := by
  unfold State.enableLow
  repeat' first
    | with_reducible assumption
    | with_reducible refine State.goOff_follows ?_
    | with_reducible refine State.setFld_follows ?_
    | with_reducible refine State.orderlyOff_follows ?_
    | with_reducible refine State.setPwr_follows ?_
    | split
    | dsimp only

theorem State.stopRadios_follows {z s : State} (h : z.Follows s) : z.Follows (State.stopRadios s) := by
  unfold State.stopRadios
  repeat' first
    | with_reducible assumption
    | with_reducible refine State.stopFn_follows ?_
    | with_reducible refine State.supIssue_follows ?_
    | with_reducible refine State.Follows.foldl _ ?_ (fun _ _ _ => ?_)
    | with_reducible refine State.Follows.foldl_fst _ ?_ (fun _ _ _ => ?_)
    | split
    | dsimp only

theorem State.openExport_follows {z s : State} (h : z.Follows s) : z.Follows (State.openExport s) := by
  unfold State.openExport
  repeat' first
    | with_reducible assumption
    | with_reducible refine State.setPwr_follows ?_
    | split
    | dsimp only

theorem State.detachFinish_follows {z s : State} (h : z.Follows s) : z.Follows (State.detachFinish s) := by
  unfold State.detachFinish
  repeat' first
    | with_reducible assumption
    | with_reducible refine State.setFld_follows ?_
    | with_reducible refine State.orderlyOff_follows ?_
    | with_reducible refine State.setPwr_follows ?_
    | split
    | dsimp only

theorem State.detachBegin_follows {z s : State} (h : z.Follows s) : z.Follows (State.detachBegin s) := by
  unfold State.detachBegin
  repeat' first
    | with_reducible assumption
    | with_reducible refine State.pulse_follows ?_
    | with_reducible refine State.setFld_follows ?_
    | with_reducible refine State.openExport_follows ?_
    | with_reducible refine State.detachFinish_follows ?_
    | with_reducible refine State.setPwr_follows ?_
    | with_reducible refine State.stopRadios_follows ?_
    | split
    | dsimp only

theorem State.detachRequest_follows {z s : State} (h : z.Follows s) : z.Follows (State.detachRequest s) := by
  unfold State.detachRequest
  repeat' first
    | with_reducible assumption
    | with_reducible refine State.detachBegin_follows ?_
    | with_reducible refine State.setPwr_follows ?_
    | split
    | dsimp only

theorem State.detachNext_follows {z s : State} (h : z.Follows s) : z.Follows (State.detachNext s) := by
  unfold State.detachNext
  repeat' first
    | with_reducible assumption
    | with_reducible refine State.detachBegin_follows ?_
    | with_reducible refine State.setPwr_follows ?_
    | split
    | dsimp only

theorem State.detachGo_follows {z s : State} (h : z.Follows s) : z.Follows (State.detachGo s) := by
  unfold State.detachGo
  repeat' first
    | with_reducible assumption
    | with_reducible refine State.detachFinish_follows ?_
    | split
    | dsimp only

theorem State.detachExpiry_follows {z s : State} (h : z.Follows s) : z.Follows (State.detachExpiry s) := by
  unfold State.detachExpiry
  repeat' first
    | with_reducible assumption
    | with_reducible refine State.detachFinish_follows ?_
    | split
    | dsimp only

theorem State.detachCancel_follows {z s : State} (h : z.Follows s) : z.Follows (State.detachCancel s) := by
  unfold State.detachCancel
  repeat' first
    | with_reducible assumption
    | with_reducible refine State.setFld_follows ?_
    | with_reducible refine State.startFn_follows ?_
    | with_reducible refine State.setPwr_follows ?_
    | with_reducible refine State.Follows.foldl _ ?_ (fun _ _ _ => ?_)
    | with_reducible refine State.Follows.foldl_fst _ ?_ (fun _ _ _ => ?_)
    | split
    | dsimp only

theorem State.wakeRequest_follows {z s : State} {a1} (h : z.Follows s) : z.Follows (State.wakeRequest s a1) := by
  unfold State.wakeRequest
  repeat' first
    | with_reducible assumption
    | with_reducible refine State.setFld_follows ?_
    | with_reducible refine State.detachRequest_follows ?_
    | with_reducible refine State.keeperEntry_follows ?_
    | split
    | dsimp only

theorem State.dieStart_follows {z s : State} (h : z.Follows s) : z.Follows (State.dieStart s) := by
  unfold State.dieStart
  repeat' first
    | with_reducible assumption
    | with_reducible refine State.setPwr_follows ?_
    | split
    | dsimp only

theorem State.bankCharged_follows {z s : State} (h : z.Follows s) : z.Follows (State.bankCharged s) := by
  unfold State.bankCharged
  repeat' first
    | with_reducible assumption
    | with_reducible refine State.setFld_follows ?_
    | split
    | dsimp only

theorem State.inputLoss_follows {z s : State} (h : z.Follows s) : z.Follows (State.inputLoss s) := by
  unfold State.inputLoss
  repeat' first
    | with_reducible assumption
    | with_reducible refine State.pulse_follows ?_
    | with_reducible refine State.setFld_follows ?_
    | with_reducible refine State.auditPower_follows ?_
    | with_reducible refine State.setPwr_follows ?_
    | with_reducible refine State.entryAbort_follows ?_
    | split
    | dsimp only

theorem State.inputReturn_follows {z s : State} (h : z.Follows s) : z.Follows (State.inputReturn s) := by
  unfold State.inputReturn
  repeat' first
    | with_reducible assumption
    | with_reducible refine State.setFld_follows ?_
    | with_reducible refine State.setPwr_follows ?_
    | split
    | dsimp only

theorem State.abortLedgerWaiting_follows {z s : State} (h : z.Follows s) : z.Follows (State.abortLedgerWaiting s) := by
  unfold State.abortLedgerWaiting
  repeat' first
    | with_reducible assumption
    | with_reducible refine State.endReq_follows ?_
    | with_reducible refine State.Follows.foldl _ ?_ (fun _ _ _ => ?_)
    | with_reducible refine State.Follows.foldl_fst _ ?_ (fun _ _ _ => ?_)
    | split
    | dsimp only

theorem State.dropUndurable_follows {z s : State} (h : z.Follows s) : z.Follows (State.dropUndurable s) := by
  unfold State.dropUndurable
  repeat' first
    | with_reducible assumption
    | with_reducible refine State.dropFrame_follows ?_
    | with_reducible refine State.Follows.foldl _ ?_ (fun _ _ _ => ?_)
    | with_reducible refine State.Follows.foldl_fst _ ?_ (fun _ _ _ => ?_)
    | split
    | dsimp only

theorem State.silence_follows {z s : State} (h : z.Follows s) : z.Follows (State.silence s) := by
  unfold State.silence
  repeat' first
    | with_reducible assumption
    | with_reducible refine State.abortChain_follows ?_
    | with_reducible refine State.Follows.foldl _ ?_ (fun _ _ _ => ?_)
    | with_reducible refine State.Follows.foldl_fst _ ?_ (fun _ _ _ => ?_)
    | split
    | dsimp only

theorem State.flushDomains_follows {z s : State} (h : z.Follows s) : z.Follows (State.flushDomains s) := by
  unfold State.flushDomains
  repeat' first
    | with_reducible assumption
    | with_reducible refine State.holdCore_follows ?_
    | with_reducible refine State.dropDomain_follows ?_
    | with_reducible refine State.Follows.foldl _ ?_ (fun _ _ _ => ?_)
    | with_reducible refine State.Follows.foldl_fst _ ?_ (fun _ _ _ => ?_)
    | split
    | dsimp only

theorem State.rideExpiry_follows {z s : State} {a1} (h : z.Follows s) : z.Follows (State.rideExpiry s a1) := by
  unfold State.rideExpiry
  repeat' first
    | with_reducible assumption
    | with_reducible refine State.pulse_follows ?_
    | with_reducible refine State.silence_follows ?_
    | with_reducible refine State.abortLedgerWaiting_follows ?_
    | with_reducible refine State.dropUndurable_follows ?_
    | with_reducible refine State.setFld_follows ?_
    | with_reducible refine State.flushDomains_follows ?_
    | with_reducible refine State.setPwr_follows ?_
    | split
    | dsimp only

theorem State.holdupFlush_follows {z s : State} (h : z.Follows s) : z.Follows (State.holdupFlush s) := by
  unfold State.holdupFlush
  repeat' first
    | with_reducible assumption
    | with_reducible refine State.closeLedger_follows ?_
    | with_reducible refine State.goOff_follows ?_
    | with_reducible refine State.setFld_follows ?_
    | with_reducible refine State.auditPower_follows ?_
    | with_reducible refine State.progDone_follows ?_
    | with_reducible refine State.count_follows ?_
    | with_reducible refine State.Follows.foldl _ ?_ (fun _ _ _ => ?_)
    | with_reducible refine State.Follows.foldl_fst _ ?_ (fun _ _ _ => ?_)
    | split
    | dsimp only

theorem State.moduleLost_follows {z s : State} (h : z.Follows s) : z.Follows (State.moduleLost s) := by
  unfold State.moduleLost
  repeat' first
    | with_reducible assumption
    | with_reducible refine State.setFld_follows ?_
    | with_reducible refine State.auditFailure_follows ?_
    | with_reducible refine State.stopRadios_follows ?_
    | split
    | dsimp only

theorem State.afterStop_follows {z s : State} {a1 a2 a3} (h : z.Follows s) : z.Follows (State.afterStop s a1 a2 a3) := by
  unfold State.afterStop
  repeat' first
    | with_reducible assumption
    | with_reducible refine State.detachNext_follows ?_
    | with_reducible refine State.entryAdvance_follows ?_
    | with_reducible refine State.openExport_follows ?_
    | with_reducible refine State.entryAbort_follows ?_
    | split
    | dsimp only

end Sys2Proof.Machine
end

