-- ==== Sys2Proof/Laws/FollowsKeeper.lean ====
section
/-!
SUPPORT. Every operation of Machine/Keeper answers a state that follows (State.Follows).
-/
namespace Sys2Proof.Machine

theorem State.setFloor_follows {z s : State} {a1 a2 a3} (h : z.Follows s) : z.Follows (State.setFloor s a1 a2 a3) := by
  unfold State.setFloor
  repeat' first
    | with_reducible assumption
    | split
    | dsimp only
    | fail_if_no_progress (with_reducible refine State.Follows.mk_upd ?_)

theorem State.clearPassData_follows {z s : State} (h : z.Follows s) : z.Follows (State.clearPassData s) := by
  unfold State.clearPassData
  repeat' first
    | with_reducible assumption
    | with_reducible refine State.setReg_follows ?_
    | with_reducible refine State.Follows.foldl _ ?_ (fun _ _ _ => ?_)
    | with_reducible refine State.Follows.foldl_fst _ ?_ (fun _ _ _ => ?_)
    | split
    | dsimp only

theorem State.passLoaded_follows {z s : State} {a1 a2 a3} (h : z.Follows s) : z.Follows (State.passLoaded s a1 a2 a3) := by
  unfold State.passLoaded
  repeat' first
    | with_reducible assumption
    | with_reducible refine State.clearPassData_follows ?_
    | with_reducible refine State.setFld_follows ?_
    | with_reducible refine State.audit_follows ?_
    | split
    | dsimp only

theorem State.passLoad_follows {z s : State} {a1 a2} (h : z.Follows s) : z.Follows (State.passLoad s a1 a2) := by
  unfold State.passLoad
  repeat' first
    | with_reducible assumption
    | with_reducible refine State.passLoaded_follows ?_
    | with_reducible refine State.setFld_follows ?_
    | split
    | dsimp only
    | fail_if_no_progress (with_reducible refine State.Follows.mk_upd ?_)

theorem State.passVerify_follows {z s : State} (h : z.Follows s) : z.Follows (State.passVerify s) := by
  unfold State.passVerify
  repeat' first
    | with_reducible assumption
    | with_reducible refine State.passLoaded_follows ?_
    | with_reducible refine State.setFld_follows ?_
    | with_reducible refine State.setPassHeld_follows ?_
    | split
    | dsimp only
    | fail_if_no_progress (with_reducible refine State.Follows.mk_upd ?_)

theorem State.passOver_follows {z s : State} {a1 a2} (h : z.Follows s) : z.Follows (State.passOver s a1 a2) := by
  unfold State.passOver
  repeat' first
    | with_reducible assumption
    | with_reducible refine State.setReg_follows ?_
    | with_reducible refine State.audit_follows ?_
    | split
    | dsimp only

theorem State.passRelease_follows {z s : State} {a1 a2} (h : z.Follows s) : z.Follows (State.passRelease s a1 a2) := by
  unfold State.passRelease
  repeat' first
    | with_reducible assumption
    | with_reducible refine State.passOver_follows ?_
    | with_reducible refine State.setFld_follows ?_
    | split
    | dsimp only

theorem State.passSlotEnd_follows {z s : State} {a1} (h : z.Follows s) : z.Follows (State.passSlotEnd s a1) := by
  unfold State.passSlotEnd
  repeat' first
    | with_reducible assumption
    | with_reducible refine State.passOver_follows ?_
    | split
    | dsimp only

theorem State.passesFine_follows {z s : State} (h : z.Follows s) : z.Follows (State.passesFine s) := by
  unfold State.passesFine
  repeat' first
    | with_reducible assumption
    | with_reducible refine State.setFld_follows ?_
    | with_reducible refine State.passSlotEnd_follows ?_
    | with_reducible refine State.Follows.foldl _ ?_ (fun _ _ _ => ?_)
    | with_reducible refine State.Follows.foldl_fst _ ?_ (fun _ _ _ => ?_)
    | split
    | dsimp only

theorem State.floorWrite_follows {z s : State} (h : z.Follows s) : z.Follows (State.floorWrite s) := by
  unfold State.floorWrite
  repeat' first
    | with_reducible assumption
    | with_reducible refine State.writeFloor_follows ?_
    | split
    | dsimp only

theorem State.kDone_follows {z s : State} {a1 a2} (h : z.Follows s) : z.Follows (State.kDone s a1 a2) := by
  unfold State.kDone
  repeat' first
    | with_reducible assumption
    | with_reducible refine State.pulse_follows ?_
    | with_reducible refine State.putLe_follows ?_
    | with_reducible refine State.audit_follows ?_
    | with_reducible refine State.pulseFree_follows ?_
    | with_reducible refine State.takeFree_follows ?_
    | split
    | dsimp only
    | fail_if_no_progress (with_reducible refine State.Follows.mk_upd ?_)

theorem State.setMarks_follows {z s : State} {a1} (h : z.Follows s) : z.Follows (State.setMarks s a1) := by
  unfold State.setMarks
  repeat' first
    | with_reducible assumption
    | with_reducible refine State.journalBy_follows ?_
    | split
    | dsimp only

theorem State.showTrial_follows {z s : State} (h : z.Follows s) : z.Follows (State.showTrial s) := by
  unfold State.showTrial
  repeat' first
    | with_reducible assumption
    | with_reducible refine State.setFld_follows ?_
    | split
    | dsimp only

theorem State.countTry_follows {z s : State} (h : z.Follows s) : z.Follows (State.countTry s) := by
  unfold State.countTry
  repeat' first
    | with_reducible assumption
    | with_reducible refine State.setMarks_follows ?_
    | split
    | dsimp only

theorem State.revertTrial_follows {z s : State} (h : z.Follows s) : z.Follows (State.revertTrial s) := by
  unfold State.revertTrial
  repeat' first
    | with_reducible assumption
    | with_reducible refine State.showTrial_follows ?_
    | with_reducible refine State.auditImage_follows ?_
    | with_reducible refine State.setMarks_follows ?_
    | split
    | dsimp only
    | fail_if_no_progress (with_reducible refine State.Follows.mk_upd ?_)

theorem State.startTrial_follows {z s : State} (h : z.Follows s) : z.Follows (State.startTrial s) := by
  unfold State.startTrial
  repeat' first
    | with_reducible assumption
    | with_reducible refine State.countTry_follows ?_
    | with_reducible refine State.revertTrial_follows ?_
    | split
    | dsimp only

theorem State.warmBegin_follows {z s : State} {a1 a2} (h : z.Follows s) : z.Follows (State.warmBegin s a1 a2) := by
  unfold State.warmBegin
  repeat' first
    | with_reducible assumption
    | with_reducible refine State.beginDrain_follows ?_
    | split
    | dsimp only

theorem State.warmDone_follows {z s : State} {a1} (h : z.Follows s) : z.Follows (State.warmDone s a1) := by
  unfold State.warmDone
  repeat' first
    | with_reducible assumption
    | with_reducible refine State.entryOver_follows ?_
    | with_reducible refine State.holdCore_follows ?_
    | with_reducible refine State.startTrial_follows ?_
    | with_reducible refine State.releaseControl_follows ?_
    | with_reducible refine State.kDone_follows ?_
    | with_reducible refine State.loadBoot_follows ?_
    | with_reducible refine State.Follows.foldl _ ?_ (fun _ _ _ => ?_)
    | with_reducible refine State.Follows.foldl_fst _ ?_ (fun _ _ _ => ?_)
    | split
    | dsimp only

theorem State.kst_follows {z s : State} {a1 a2 a3 a4} (h : z.Follows s) : z.Follows (State.kst s a1 a2 a3 a4).1 := by
  unfold State.kst
  repeat' first
    | with_reducible assumption
    | with_reducible refine State.setFld_follows ?_
    | with_reducible refine State.setKstData_follows ?_
    | with_reducible refine State.kstRun_follows ?_
    | split
    | dsimp only

theorem State.kst_follows_of {z s t : State} {a1 a2 a3 a4} {r} (h : z.Follows s) (e : State.kst s a1 a2 a3 a4 = (t, r)) : z.Follows t := by
  have k := State.kst_follows (z := z) (s := s) (a1 := a1) (a2 := a2) (a3 := a3) (a4 := a4) h
  rw [e] at k
  exact k

theorem State.putSlotWrap_follows {z s : State} {a1 a2} (h : z.Follows s) : z.Follows (State.putSlotWrap s a1 a2) := by
  unfold State.putSlotWrap
  repeat' first
    | with_reducible assumption
    | with_reducible refine State.journalBy_follows ?_
    | split
    | dsimp only

theorem State.reloadSlots_follows {z s : State} (h : z.Follows s) : z.Follows (State.reloadSlots s) := by
  unfold State.reloadSlots
  repeat' first
    | with_reducible assumption
    | with_reducible refine State.kst_follows ?_
    | with_reducible refine State.kst_follows_of ?_ (by with_reducible assumption)
    | with_reducible refine State.Follows.foldl _ ?_ (fun _ _ _ => ?_)
    | with_reducible refine State.Follows.foldl_fst _ ?_ (fun _ _ _ => ?_)
    | split
    | dsimp only

theorem State.kRestart_follows {z s : State} {a1} (h : z.Follows s) : z.Follows (State.kRestart s a1) := by
  unfold State.kRestart
  repeat' first
    | with_reducible assumption
    | with_reducible refine State.releaseControl_follows ?_
    | with_reducible refine State.kDone_follows ?_
    | split
    | dsimp only

theorem State.kWorkStart_follows {z s : State} {a1} (h : z.Follows s) : z.Follows (State.kWorkStart s a1) := by
  unfold State.kWorkStart
  repeat' first
    | with_reducible assumption
    | with_reducible refine State.kDone_follows ?_
    | with_reducible refine State.releaseCore_follows ?_
    | with_reducible refine State.Follows.foldl _ ?_ (fun _ _ _ => ?_)
    | with_reducible refine State.Follows.foldl_fst _ ?_ (fun _ _ _ => ?_)
    | split
    | dsimp only

theorem State.kWarm_follows {z s : State} {a1} (h : z.Follows s) : z.Follows (State.kWarm s a1) := by
  unfold State.kWarm
  repeat' first
    | with_reducible assumption
    | with_reducible refine State.warmBegin_follows ?_
    | with_reducible refine State.kDone_follows ?_
    | split
    | dsimp only

theorem State.kImgPages_follows {z s : State} {a1} (h : z.Follows s) : z.Follows (State.kImgPages s a1) := by
  unfold State.kImgPages
  repeat' first
    | with_reducible assumption
    | with_reducible refine State.unmapArea_follows ?_
    | with_reducible refine State.auditImage_follows ?_
    | with_reducible refine State.setMarks_follows ?_
    | with_reducible refine State.programBy_follows ?_
    | with_reducible refine State.kDone_follows ?_
    | with_reducible refine State.seen_follows ?_
    | with_reducible refine State.Follows.foldl _ ?_ (fun _ _ _ => ?_)
    | with_reducible refine State.Follows.foldl_fst _ ?_ (fun _ _ _ => ?_)
    | split
    | dsimp only

theorem State.kImgActivate_follows {z s : State} {a1} (h : z.Follows s) : z.Follows (State.kImgActivate s a1) := by
  unfold State.kImgActivate
  repeat' first
    | with_reducible assumption
    | with_reducible refine State.warmBegin_follows ?_
    | with_reducible refine State.showTrial_follows ?_
    | with_reducible refine State.auditImage_follows ?_
    | with_reducible refine State.setMarks_follows ?_
    | with_reducible refine State.kDone_follows ?_
    | split
    | dsimp only
    | fail_if_no_progress (with_reducible refine State.Follows.mk_upd ?_)

theorem State.kImgConfirm_follows {z s : State} {a1} (h : z.Follows s) : z.Follows (State.kImgConfirm s a1) := by
  unfold State.kImgConfirm
  repeat' first
    | with_reducible assumption
    | with_reducible refine State.showTrial_follows ?_
    | with_reducible refine State.auditImage_follows ?_
    | with_reducible refine State.setMarks_follows ?_
    | with_reducible refine State.kDone_follows ?_
    | split
    | dsimp only
    | fail_if_no_progress (with_reducible refine State.Follows.mk_upd ?_)

theorem State.kKeyLoadw_follows {z s : State} {a1} (h : z.Follows s) : z.Follows (State.kKeyLoadw s a1) := by
  unfold State.kKeyLoadw
  repeat' first
    | with_reducible assumption
    | with_reducible refine State.kst_follows ?_
    | with_reducible refine State.putSlotWrap_follows ?_
    | with_reducible refine State.kDone_follows ?_
    | with_reducible refine State.seen_follows ?_
    | with_reducible refine State.kst_follows_of ?_ (by with_reducible assumption)
    | split
    | dsimp only

theorem State.kKeyTransport_follows {z s : State} {a1} (h : z.Follows s) : z.Follows (State.kKeyTransport s a1) := by
  unfold State.kKeyTransport
  repeat' first
    | with_reducible assumption
    | with_reducible refine State.clearKstData_follows ?_
    | with_reducible refine State.kst_follows ?_
    | with_reducible refine State.putSlotWrap_follows ?_
    | with_reducible refine State.kDone_follows ?_
    | with_reducible refine State.seen_follows ?_
    | with_reducible refine State.kst_follows_of ?_ (by with_reducible assumption)
    | split
    | dsimp only

theorem State.kKeyClear_follows {z s : State} {a1} (h : z.Follows s) : z.Follows (State.kKeyClear s a1) := by
  unfold State.kKeyClear
  repeat' first
    | with_reducible assumption
    | with_reducible refine State.kst_follows ?_
    | with_reducible refine State.putSlotWrap_follows ?_
    | with_reducible refine State.kDone_follows ?_
    | with_reducible refine State.kst_follows_of ?_ (by with_reducible assumption)
    | split
    | dsimp only

theorem State.kKeyWrap_follows {z s : State} {a1} (h : z.Follows s) : z.Follows (State.kKeyWrap s a1) := by
  unfold State.kKeyWrap
  repeat' first
    | with_reducible assumption
    | with_reducible refine State.put_follows ?_
    | with_reducible refine State.clearKstData_follows ?_
    | with_reducible refine State.kst_follows ?_
    | with_reducible refine State.kDone_follows ?_
    | with_reducible refine State.kst_follows_of ?_ (by with_reducible assumption)
    | split
    | dsimp only

theorem State.kAuthKey_follows {z s : State} {a1} (h : z.Follows s) : z.Follows (State.kAuthKey s a1) := by
  unfold State.kAuthKey
  repeat' first
    | with_reducible assumption
    | with_reducible refine State.setFloor_follows ?_
    | with_reducible refine State.kDone_follows ?_
    | with_reducible refine State.seen_follows ?_
    | split
    | dsimp only
    | fail_if_no_progress (with_reducible refine State.Follows.mk_upd ?_)

theorem State.kRevoke_follows {z s : State} {a1} (h : z.Follows s) : z.Follows (State.kRevoke s a1) := by
  unfold State.kRevoke
  repeat' first
    | with_reducible assumption
    | with_reducible refine State.passOver_follows ?_
    | with_reducible refine State.setFloor_follows ?_
    | with_reducible refine State.kDone_follows ?_
    | with_reducible refine State.Follows.foldl _ ?_ (fun _ _ _ => ?_)
    | with_reducible refine State.Follows.foldl_fst _ ?_ (fun _ _ _ => ?_)
    | with_reducible refine State.Follows.getD (fun _ _ => ?_) ?_
    | split
    | dsimp only

theorem State.kRearm_follows {z s : State} {a1} (h : z.Follows s) : z.Follows (State.kRearm s a1) := by
  unfold State.kRearm
  repeat' first
    | with_reducible assumption
    | with_reducible refine State.kst_follows ?_
    | with_reducible refine State.reloadSlots_follows ?_
    | with_reducible refine State.kDone_follows ?_
    | with_reducible refine State.kst_follows_of ?_ (by with_reducible assumption)
    | split
    | dsimp only

theorem State.kAlarm_follows {z s : State} {a1} (h : z.Follows s) : z.Follows (State.kAlarm s a1) := by
  unfold State.kAlarm
  repeat' first
    | with_reducible assumption
    | with_reducible refine State.setFld_follows ?_
    | with_reducible refine State.kDone_follows ?_
    | split
    | dsimp only

theorem State.kCalSave_follows {z s : State} {a1} (h : z.Follows s) : z.Follows (State.kCalSave s a1) := by
  unfold State.kCalSave
  repeat' first
    | with_reducible assumption
    | with_reducible refine State.auditImage_follows ?_
    | with_reducible refine State.calAppend_follows ?_
    | with_reducible refine State.journalMany_follows ?_
    | with_reducible refine State.kDone_follows ?_
    | split
    | dsimp only

theorem State.kAction_follows {z s : State} {a1 a2} (h : z.Follows s) : z.Follows (State.kAction s a1 a2) := by
  unfold State.kAction
  repeat' first
    | with_reducible assumption
    | with_reducible refine State.kImgPages_follows ?_
    | with_reducible refine State.kKeyTransport_follows ?_
    | with_reducible refine State.kRearm_follows ?_
    | with_reducible refine State.kCalSave_follows ?_
    | with_reducible refine State.kWorkStart_follows ?_
    | with_reducible refine State.kImgActivate_follows ?_
    | with_reducible refine State.kAlarm_follows ?_
    | with_reducible refine State.kWarm_follows ?_
    | with_reducible refine State.kRevoke_follows ?_
    | with_reducible refine State.kKeyClear_follows ?_
    | with_reducible refine State.kAuthKey_follows ?_
    | with_reducible refine State.kKeyWrap_follows ?_
    | with_reducible refine State.kKeyLoadw_follows ?_
    | with_reducible refine State.kImgConfirm_follows ?_
    | with_reducible refine State.kRestart_follows ?_
    | split
    | dsimp only

theorem State.kServe_follows {z s : State} {a1 a2} (h : z.Follows s) : z.Follows (State.kServe s a1 a2) := by
  unfold State.kServe
  repeat' first
    | with_reducible assumption
    | with_reducible refine State.kAction_follows ?_
    | with_reducible refine State.kDone_follows ?_
    | with_reducible refine State.seen_follows ?_
    | split
    | dsimp only

theorem State.trialRevert_follows {z s : State} (h : z.Follows s) : z.Follows (State.trialRevert s) := by
  unfold State.trialRevert
  dsimp only
  exact iteInduction (motive := fun x => z.Follows x) (fun _ => State.warmBegin_follows (State.revertTrial_follows h)) (fun _ => h)

theorem State.doorbell_follows {z s : State} (h : z.Follows s) : z.Follows (State.doorbell s) := by
  unfold State.doorbell
  repeat' first
    | with_reducible assumption
    | with_reducible refine State.setFld_follows ?_
    | split
    | dsimp only
    | fail_if_no_progress (with_reducible refine State.Follows.mk_upd ?_)

theorem State.afterBank1_follows {z s : State} {a1 a2 a3} (h : z.Follows s) : z.Follows (State.afterBank1 s a1 a2 a3) := by
  unfold State.afterBank1
  repeat' first
    | with_reducible assumption
    | with_reducible refine State.doorbell_follows ?_
    | split
    | dsimp only
    | fail_if_no_progress (with_reducible refine State.Follows.mk_upd ?_)

theorem State.doorbellAck_follows {z s : State} (h : z.Follows s) : z.Follows (State.doorbellAck s) := by
  unfold State.doorbellAck
  repeat' first
    | with_reducible assumption
    | with_reducible refine State.setFld_follows ?_
    | split
    | dsimp only
    | fail_if_no_progress (with_reducible refine State.Follows.mk_upd ?_)

theorem State.kick_follows {z s : State} (h : z.Follows s) : z.Follows (State.kick s) := by
  unfold State.kick
  repeat' first
    | with_reducible assumption
    | split
    | dsimp only
    | fail_if_no_progress (with_reducible refine State.Follows.mk_upd ?_)

theorem State.abortLedgerAll_follows {z s : State} (h : z.Follows s) : z.Follows (State.abortLedgerAll s) := by
  unfold State.abortLedgerAll
  repeat' first
    | with_reducible assumption
    | with_reducible refine State.endReq_follows ?_
    | with_reducible refine State.Follows.foldl _ ?_ (fun _ _ _ => ?_)
    | with_reducible refine State.Follows.foldl_fst _ ?_ (fun _ _ _ => ?_)
    | split
    | dsimp only

theorem State.snowplough_follows {z s : State} {a1} (h : z.Follows s) : z.Follows (State.snowplough s a1) := by
  unfold State.snowplough
  repeat' first
    | with_reducible assumption
    | with_reducible refine State.silence_follows ?_
    | with_reducible refine State.closeLedger_follows ?_
    | with_reducible refine State.entryOver_follows ?_
    | with_reducible refine State.abortLedgerAll_follows ?_
    | with_reducible refine State.dropUndurable_follows ?_
    | with_reducible refine State.setFld_follows ?_
    | with_reducible refine State.holdCore_follows ?_
    | with_reducible refine State.supIssue_follows ?_
    | with_reducible refine State.setPwr_follows ?_
    | with_reducible refine State.Follows.foldl _ ?_ (fun _ _ _ => ?_)
    | with_reducible refine State.Follows.foldl_fst _ ?_ (fun _ _ _ => ?_)
    | split
    | dsimp only
    | fail_if_no_progress (with_reducible refine State.Follows.mk_upd ?_)

theorem State.watchdogExpiry_follows {z s : State} (h : z.Follows s) : z.Follows (State.watchdogExpiry s) := by
  unfold State.watchdogExpiry
  repeat' first
    | with_reducible assumption
    | with_reducible refine State.snowplough_follows ?_
    | split
    | dsimp only

theorem State.doorbellTimeout_follows {z s : State} (h : z.Follows s) : z.Follows (State.doorbellTimeout s) := by
  unfold State.doorbellTimeout
  repeat' first
    | with_reducible assumption
    | with_reducible refine State.snowplough_follows ?_
    | split
    | dsimp only

theorem State.snowWait_follows {z s : State} (h : z.Follows s) : z.Follows (State.snowWait s) := by
  unfold State.snowWait
  repeat' first
    | with_reducible assumption
    | with_reducible refine State.goOff_follows ?_
    | split
    | dsimp only
    | fail_if_no_progress (with_reducible refine State.Follows.mk_upd ?_)

theorem State.coreDoubleFault_follows {z s : State} {a1} (h : z.Follows s) : z.Follows (State.coreDoubleFault s a1) := by
  unfold State.coreDoubleFault
  repeat' first
    | with_reducible assumption
    | with_reducible refine State.postMessage_follows ?_
    | with_reducible refine State.holdCore_follows ?_
    | with_reducible refine State.auditFailure_follows ?_
    | split
    | dsimp only

theorem State.allHeldExpiry_follows {z s : State} (h : z.Follows s) : z.Follows (State.allHeldExpiry s) := by
  unfold State.allHeldExpiry
  repeat' first
    | with_reducible assumption
    | with_reducible refine State.warmBegin_follows ?_
    | split
    | dsimp only

theorem State.maintenance_follows {z s : State} (h : z.Follows s) : z.Follows (State.maintenance s) := by
  unfold State.maintenance
  repeat' first
    | with_reducible assumption
    | with_reducible refine State.setFld_follows ?_
    | split
    | dsimp only

theorem State.pickArea_follows {z s : State} (h : z.Follows s) : z.Follows (State.pickArea s).1 := by
  unfold State.pickArea
  repeat' first
    | with_reducible assumption
    | with_reducible refine State.showTrial_follows ?_
    | with_reducible refine State.auditImage_follows ?_
    | with_reducible refine State.setMarks_follows ?_
    | split
    | dsimp only

theorem State.pickArea_follows_of {z s t : State} {r} (h : z.Follows s) (e : State.pickArea s = (t, r)) : z.Follows t := by
  have k := State.pickArea_follows (z := z) (s := s) h
  rw [e] at k
  exact k

theorem State.putLocal_follows {z s : State} {a bs} (h : z.Follows s) : z.Follows (s.putLocal a bs) :=
  h.tables rfl rfl rfl fun c => { c with kprMem := putBytes_wf bs c.kprMem }

theorem State.onTrial_follows {z s : State} (h : z.Follows s) : z.Follows (State.onTrial s) := by
  unfold State.onTrial
  repeat' first
    | with_reducible assumption
    | split
    | dsimp only
    | fail_if_no_progress (with_reducible refine State.Follows.mk_upd ?_)

theorem State.boot_follows {z s : State} {a1} (h : z.Follows s) : z.Follows (State.boot s a1) := by
  unfold State.boot
  repeat' first
    | with_reducible assumption
    | with_reducible refine State.showTrial_follows ?_
    | with_reducible refine State.mount_follows ?_
    | with_reducible refine State.maintenance_follows ?_
    | with_reducible refine State.kstStat_follows ?_
    | with_reducible refine State.onTrial_follows ?_
    | with_reducible refine State.putLocal_follows ?_
    | with_reducible refine State.setFld_follows ?_
    | with_reducible refine State.setCph_follows ?_
    | with_reducible refine State.startTrial_follows ?_
    | with_reducible refine State.auditFailure_follows ?_
    | with_reducible refine State.memStart_follows ?_
    | with_reducible refine State.auditPower_follows ?_
    | with_reducible refine State.setCore_follows ?_
    | with_reducible refine State.releaseControl_follows ?_
    | with_reducible refine State.pickArea_follows ?_
    | with_reducible refine State.reloadSlots_follows ?_
    | with_reducible refine State.loadBoot_follows ?_
    | with_reducible refine State.pickArea_follows_of ?_ (by with_reducible assumption)
    | split
    | dsimp only

theorem State.coldStart_follows {z s : State} {a1 a2} (h : z.Follows s) : z.Follows (State.coldStart s a1 a2) := by
  unfold State.coldStart
  repeat' first
    | with_reducible assumption
    | with_reducible refine State.readModes_follows ?_
    | with_reducible refine State.setFld_follows ?_
    | with_reducible refine State.boot_follows ?_
    | split
    | dsimp only
    | fail_if_no_progress (with_reducible refine State.Follows.mk_upd ?_)

end Sys2Proof.Machine
end

