-- ==== Sys2Proof/Laws/FollowsPins.lean ====
section
/-!
SUPPORT. Every operation of Machine/Pins answers a state that follows (State.Follows).
-/
namespace Sys2Proof.Machine

theorem State.setPin_follows {z s : State} {a1} (h : z.Follows s) : z.Follows (State.setPin s a1) := by
  unfold State.setPin
  repeat' first
    | with_reducible assumption
    | split
    | dsimp only
    | fail_if_no_progress (with_reducible refine State.Follows.mk_upd ?_)

theorem State.setSerRun_follows {z s : State} {a1 a2} (h : z.Follows s) : z.Follows (State.setSerRun s a1 a2) := by
  unfold State.setSerRun
  repeat' first
    | with_reducible assumption
    | with_reducible refine State.setPin_follows ?_
    | split
    | dsimp only

theorem State.setUartFifo_follows {z s : State} {a1 a2} (h : z.Follows s) : z.Follows (State.setUartFifo s a1 a2) := by
  unfold State.setUartFifo
  repeat' first
    | with_reducible assumption
    | with_reducible refine State.setPin_follows ?_
    | split
    | dsimp only

theorem State.serEnd_follows {z s : State} {a1 a2 a3 a4} (h : z.Follows s) : z.Follows (State.serEnd s a1 a2 a3 a4) := by
  unfold State.serEnd
  repeat' first
    | with_reducible assumption
    | with_reducible refine State.putLe_follows ?_
    | with_reducible refine State.setSerRun_follows ?_
    | with_reducible refine State.setFld_follows ?_
    | split
    | dsimp only

theorem State.serStart_follows {z s : State} {a1} (h : z.Follows s) : z.Follows (State.serStart s a1) := by
  unfold State.serStart
  repeat' first
    | with_reducible assumption
    | with_reducible refine State.setSerRun_follows ?_
    | with_reducible refine State.setFld_follows ?_
    | with_reducible refine State.serEnd_follows ?_
    | with_reducible refine State.seen_follows ?_
    | split
    | dsimp only

theorem State.serAbort_follows {z s : State} {a1} (h : z.Follows s) : z.Follows (State.serAbort s a1) := by
  unfold State.serAbort
  repeat' first
    | with_reducible assumption
    | with_reducible refine State.setSerRun_follows ?_
    | split
    | dsimp only

theorem State.serSend_follows {z s : State} {a1 a2 a3} (h : z.Follows s) : z.Follows (State.serSend s a1 a2 a3) := by
  unfold State.serSend
  repeat' first
    | with_reducible assumption
    | with_reducible refine State.setPin_follows ?_
    | with_reducible refine State.seen_follows ?_
    | split
    | dsimp only

theorem State.serComplete_follows {z s : State} {a1 a2 a3 a4} (h : z.Follows s) : z.Follows (State.serComplete s a1 a2 a3 a4) := by
  unfold State.serComplete
  repeat' first
    | with_reducible assumption
    | with_reducible refine State.put_follows ?_
    | with_reducible refine State.serEnd_follows ?_
    | with_reducible refine State.serSend_follows ?_
    | split
    | dsimp only

theorem State.uartRx_follows {z s : State} {a1 a2 a3} (h : z.Follows s) : z.Follows (State.uartRx s a1 a2 a3) := by
  unfold State.uartRx
  repeat' first
    | with_reducible assumption
    | with_reducible refine State.setUartFifo_follows ?_
    | with_reducible refine State.setFld_follows ?_
    | split
    | dsimp only

theorem State.serRxPop_follows {z s : State} {a1} (h : z.Follows s) : z.Follows (State.serRxPop s a1) := by
  unfold State.serRxPop
  repeat' first
    | with_reducible assumption
    | with_reducible refine State.setUartFifo_follows ?_
    | split
    | dsimp only

theorem State.gpioSample_follows {z s : State} {a1} (h : z.Follows s) : z.Follows (State.gpioSample s a1) := by
  unfold State.gpioSample
  repeat' first
    | with_reducible assumption
    | with_reducible refine State.setReg_follows ?_
    | split
    | dsimp only

theorem State.jtag_follows {z s : State} {a1} (h : z.Follows s) : z.Follows (State.jtag s a1) := by
  unfold State.jtag
  repeat' first
    | with_reducible assumption
    | with_reducible refine State.setPin_follows ?_
    | split
    | dsimp only

theorem State.extest_follows {z s : State} (h : z.Follows s) : z.Follows (State.extest s) := by
  unfold State.extest
  repeat' first
    | with_reducible assumption
    | with_reducible refine State.jtag_follows ?_
    | split
    | dsimp only

theorem State.bypass_follows {z s : State} {a1} (h : z.Follows s) : z.Follows (State.bypass s a1) := by
  unfold State.bypass
  repeat' first
    | with_reducible assumption
    | with_reducible refine State.jtag_follows ?_
    | split
    | dsimp only

theorem State.samplePreload_follows {z s : State} {a1} (h : z.Follows s) : z.Follows (State.samplePreload s a1) := by
  unfold State.samplePreload
  repeat' first
    | with_reducible assumption
    | with_reducible refine State.setPin_follows ?_
    | split
    | dsimp only

theorem State.iblekDebug_follows {z s : State} {a1 a2} (h : z.Follows s) : z.Follows (State.iblekDebug s a1 a2) := by
  unfold State.iblekDebug
  repeat' first
    | with_reducible assumption
    | with_reducible refine State.setCore_follows ?_
    | with_reducible refine State.jtag_follows ?_
    | split
    | dsimp only

end Sys2Proof.Machine
end

