-- ==== Sys2Proof/Laws/FollowsBus.lean ====
section
/-!
SUPPORT. Every operation of Machine/Bus answers a state that follows (State.Follows).
-/
namespace Sys2Proof.Machine

theorem State.readEffect_follows {z s : State} {a1 a2 a3 a4} (h : z.Follows s) : z.Follows (State.readEffect s a1 a2 a3 a4) := by
  unfold State.readEffect
  repeat' first
    | with_reducible assumption
    | with_reducible refine State.setTq_follows ?_
    | with_reducible refine State.setTod_follows ?_
    | with_reducible refine State.serRxPop_follows ?_
    | with_reducible refine State.popLost_follows ?_
    | with_reducible refine State.readNext_follows ?_
    | with_reducible refine State.popStash_follows ?_
    | with_reducible refine State.wakeAdvance_follows ?_
    | with_reducible refine State.setEngine_follows ?_
    | with_reducible refine State.popQueue_follows ?_
    | with_reducible refine State.gateAdvance_follows ?_
    | with_reducible refine State.lmAdvance_follows ?_
    | split
    | dsimp only

theorem State.regRead_follows {z s : State} {a1 a2} (h : z.Follows s) : z.Follows (State.regRead s a1 a2).1 := by
  unfold State.regRead
  repeat' first
    | with_reducible assumption
    | with_reducible refine State.setReg_follows ?_
    | with_reducible refine State.setCapture_follows ?_
    | with_reducible refine State.readEffect_follows ?_
    | with_reducible refine State.Follows.getD (fun _ _ => ?_) ?_
    | split
    | dsimp only

theorem State.regRead_follows_of {z s t : State} {a1 a2} {r} (h : z.Follows s) (e : State.regRead s a1 a2 = (t, r)) : z.Follows t := by
  have k := State.regRead_follows (z := z) (s := s) (a1 := a1) (a2 := a2) h
  rw [e] at k
  exact k

theorem State.timeHook_follows {z s : State} {a1 a2 a3 a4 a5} (h : z.Follows s) : z.Follows (State.timeHook s a1 a2 a3 a4 a5) := by
  unfold State.timeHook
  repeat' first
    | with_reducible assumption
    | with_reducible refine State.passesFine_follows ?_
    | with_reducible refine State.afterNtCtl_follows ?_
    | with_reducible refine State.afterTselCtl_follows ?_
    | with_reducible refine State.afterIncr_follows ?_
    | with_reducible refine State.afterAdjCmd_follows ?_
    | with_reducible refine State.afterRefSrc_follows ?_
    | split
    | dsimp only

theorem State.radioHook_follows {z s : State} {a1 a2 a3 a4 a5 a6} (h : z.Follows s) : z.Follows (State.radioHook s a1 a2 a3 a4 a5 a6) := by
  unfold State.radioHook
  repeat' first
    | with_reducible assumption
    | with_reducible refine State.setReg_follows ?_
    | with_reducible refine State.sePost_follows ?_
    | with_reducible refine State.editCmd_follows ?_
    | with_reducible refine State.seEvpost_follows ?_
    | with_reducible refine State.lmWindowWrite_follows ?_
    | with_reducible refine State.regRegion_follows ?_
    | with_reducible refine State.afterCqCfg_follows ?_
    | with_reducible refine State.ctxCmd_follows ?_
    | with_reducible refine State.afterCqPtr_follows ?_
    | split
    | dsimp only

theorem State.packetHook_follows {z s : State} {a1 a2 a3 a4 a5 a6} (h : z.Follows s) : z.Follows (State.packetHook s a1 a2 a3 a4 a5 a6) := by
  unfold State.packetHook
  repeat' first
    | with_reducible assumption
    | with_reducible refine State.pulse_follows ?_
    | with_reducible refine State.noteHead_follows ?_
    | with_reducible refine State.setTq_follows ?_
    | with_reducible refine State.afterStructural_follows ?_
    | with_reducible refine State.rtrEdit_follows ?_
    | with_reducible refine State.setFld_follows ?_
    | with_reducible refine State.commitCmd_follows ?_
    | with_reducible refine State.gateWrite_follows ?_
    | with_reducible refine State.afterRing_follows ?_
    | with_reducible refine State.wakeWrite_follows ?_
    | with_reducible refine State.afterInjPtr_follows ?_
    | split
    | dsimp only

theorem State.workHook_follows {z s : State} {a1 a2 a3 a4 a5} (h : z.Follows s) : z.Follows (State.workHook s a1 a2 a3 a4 a5) := by
  unfold State.workHook
  repeat' first
    | with_reducible assumption
    | with_reducible refine State.afterPoolBase_follows ?_
    | with_reducible refine State.rqCmd_follows ?_
    | with_reducible refine State.breakSequences_follows ?_
    | with_reducible refine State.serveAsking_follows ?_
    | with_reducible refine State.setFld_follows ?_
    | with_reducible refine State.cphInval_follows ?_
    | with_reducible refine State.afterReadPtr_follows ?_
    | with_reducible refine State.afterQItem_follows ?_
    | with_reducible refine State.afterPoolCfg_follows ?_
    | with_reducible refine State.afterQueueBase_follows ?_
    | with_reducible refine State.afterQueueCfg_follows ?_
    | with_reducible refine State.afterPoolPtr_follows ?_
    | with_reducible refine State.afterTraceRing_follows ?_
    | with_reducible refine State.kstRun_follows ?_
    | with_reducible refine State.forceTokens_follows ?_
    | split
    | dsimp only

theorem State.keeperHook_follows {z s : State} {a1 a2 a3 a4 a5 a6} (h : z.Follows s) : z.Follows (State.keeperHook s a1 a2 a3 a4 a5 a6) := by
  unfold State.keeperHook
  repeat' first
    | with_reducible assumption
    | with_reducible refine State.kick_follows ?_
    | with_reducible refine State.afterHold_follows ?_
    | with_reducible refine State.afterSupDev_follows ?_
    | with_reducible refine State.serAbort_follows ?_
    | with_reducible refine State.serStart_follows ?_
    | with_reducible refine State.setFld_follows ?_
    | with_reducible refine State.detachGo_follows ?_
    | with_reducible refine State.swapRequest_follows ?_
    | with_reducible refine State.powerRequest_follows ?_
    | with_reducible refine State.passRelease_follows ?_
    | with_reducible refine State.swapCancel_follows ?_
    | with_reducible refine State.doorbellAck_follows ?_
    | with_reducible refine State.passLoad_follows ?_
    | split
    | dsimp only

theorem State.writeHook_follows {z s : State} {a1 a2 a3 a4 a5 a6 a7} (h : z.Follows s) : z.Follows (State.writeHook s a1 a2 a3 a4 a5 a6 a7) := by
  unfold State.writeHook
  repeat' first
    | with_reducible assumption
    | with_reducible refine State.timeHook_follows ?_
    | with_reducible refine State.packetHook_follows ?_
    | with_reducible refine State.workHook_follows ?_
    | with_reducible refine State.fnWrite_follows ?_
    | with_reducible refine State.radioHook_follows ?_
    | with_reducible refine State.keeperHook_follows ?_
    | with_reducible refine State.Follows.elim ?_ (fun _ => ?_)
    | split
    | dsimp only

theorem State.applyLatch_follows {z s : State} {a1 a2} (h : z.Follows s) : z.Follows (State.applyLatch s a1 a2) := by
  unfold State.applyLatch
  repeat' first
    | with_reducible assumption
    | with_reducible refine State.setReg_follows ?_
    | split
    | dsimp only

theorem State.regApply_follows {z s : State} {a1 a2 a3 a4 a5} (h : z.Follows s) : z.Follows (State.regApply s a1 a2 a3 a4 a5) := by
  unfold State.regApply
  repeat' first
    | with_reducible assumption
    | with_reducible refine State.setReg_follows ?_
    | with_reducible refine State.setShw_follows ?_
    | with_reducible refine State.emptyLatches_follows ?_
    | with_reducible refine State.setLatch_follows ?_
    | with_reducible refine State.writeHook_follows ?_
    | with_reducible refine State.applyLatch_follows ?_
    | with_reducible refine State.Follows.foldl _ ?_ (fun _ _ _ => ?_)
    | with_reducible refine State.Follows.foldl_fst _ ?_ (fun _ _ _ => ?_)
    | split
    | dsimp only

theorem State.refuseWide_follows {z s : State} {a1 a2} (h : z.Follows s) : z.Follows (State.refuseWide s a1 a2) := by
  unfold State.refuseWide
  repeat' first
    | with_reducible assumption
    | with_reducible refine State.emptyLatches_follows ?_
    | split
    | dsimp only

theorem State.regWrite_follows {z s : State} {a1 a2 a3} (h : z.Follows s) : z.Follows (State.regWrite s a1 a2 a3).1 := by
  unfold State.regWrite
  repeat' first
    | with_reducible assumption
    | with_reducible refine State.tapWrite_follows ?_
    | with_reducible refine State.regApply_follows ?_
    | with_reducible refine State.setShw_follows ?_
    | with_reducible refine State.refuseWide_follows ?_
    | split
    | dsimp only

theorem State.regWrite_follows_of {z s t : State} {a1 a2 a3} {r} (h : z.Follows s) (e : State.regWrite s a1 a2 a3 = (t, r)) : z.Follows t := by
  have k := State.regWrite_follows (z := z) (s := s) (a1 := a1) (a2 := a2) (a3 := a3) h
  rw [e] at k
  exact k

theorem State.memAccess_follows {z s : State} {a1} (h : z.Follows s) : z.Follows (State.memAccess s a1).1 := by
  unfold State.memAccess
  repeat' first
    | with_reducible assumption
    | with_reducible refine State.afterBank1_follows ?_
    | with_reducible refine State.memLoad_follows ?_
    | with_reducible refine State.memStore_follows ?_
    | with_reducible refine State.memLoad_follows_of ?_ (by with_reducible assumption)
    | with_reducible refine State.memStore_follows_of ?_ (by with_reducible assumption)
    | split
    | dsimp only

theorem State.memAccess_follows_of {z s t : State} {a1} {r} (h : z.Follows s) (e : State.memAccess s a1 = (t, r)) : z.Follows t := by
  have k := State.memAccess_follows (z := z) (s := s) (a1 := a1) h
  rw [e] at k
  exact k

theorem State.access_follows {z s : State} {a1} (h : z.Follows s) : z.Follows (State.access s a1).1 := by
  unfold State.access
  repeat' first
    | with_reducible assumption
    | with_reducible refine State.failAccess_follows ?_
    | with_reducible refine State.memAccess_follows ?_
    | with_reducible refine State.regRead_follows ?_
    | with_reducible refine State.regWrite_follows ?_
    | with_reducible refine State.touchDomain_follows ?_
    | with_reducible refine State.memAccess_follows_of ?_ (by with_reducible assumption)
    | with_reducible refine State.regRead_follows_of ?_ (by with_reducible assumption)
    | with_reducible refine State.regWrite_follows_of ?_ (by with_reducible assumption)
    | split
    | dsimp only

theorem State.access_follows_of {z s t : State} {a1} {r} (h : z.Follows s) (e : State.access s a1 = (t, r)) : z.Follows t := by
  have k := State.access_follows (z := z) (s := s) (a1 := a1) h
  rw [e] at k
  exact k

theorem State.stallAccess_follows {z s : State} {a1} (h : z.Follows s) : z.Follows (State.stallAccess s a1) := by
  unfold State.stallAccess
  repeat' first
    | with_reducible assumption
    | with_reducible refine State.count_follows ?_
    | split
    | dsimp only
    | fail_if_no_progress (with_reducible refine State.Follows.mk_upd ?_)

end Sys2Proof.Machine
end

