-- ==== Sys2Proof/Laws/FollowsIblek.lean ====
section
/-!
SUPPORT. Every operation of Machine/Iblek answers a state that follows (State.Follows).
-/
namespace Sys2Proof.Machine

theorem State.raise_follows {z s : State} {a1 a2 a3 a4 a5} (h : z.Follows s) : z.Follows (State.raise s a1 a2 a3 a4 a5) := by
  unfold State.raise
  repeat' first
    | with_reducible assumption
    | with_reducible refine State.pulse_follows ?_
    | with_reducible refine State.itemException_follows ?_
    | with_reducible refine State.setCore_follows ?_
    | with_reducible refine State.haltEngine_follows ?_
    | with_reducible refine State.snowplough_follows ?_
    | split
    | dsimp only

theorem State.illegal_follows {z s : State} {a1 a2} (h : z.Follows s) : z.Follows (State.illegal s a1 a2) := by
  unfold State.illegal
  repeat' first
    | with_reducible assumption
    | with_reducible refine State.raise_follows ?_
    | split
    | dsimp only

theorem State.privileged_follows {z s : State} {a1} (h : z.Follows s) : z.Follows (State.privileged s a1) := by
  unfold State.privileged
  repeat' first
    | with_reducible assumption
    | with_reducible refine State.raise_follows ?_
    | split
    | dsimp only

theorem State.walkSeen_follows {z s : State} {a1 a2} (h : z.Follows s) : z.Follows (State.walkSeen s a1 a2) := by
  unfold State.walkSeen
  repeat' first
    | with_reducible assumption
    | with_reducible refine State.seen_follows ?_
    | with_reducible refine State.Follows.foldl _ ?_ (fun _ _ _ => ?_)
    | with_reducible refine State.Follows.foldl_fst _ ?_ (fun _ _ _ => ?_)
    | split
    | dsimp only

theorem State.cacheLeaf_follows {z s : State} {a1 a2} (h : z.Follows s) : z.Follows (State.cacheLeaf s a1 a2) := by
  unfold State.cacheLeaf
  repeat' first
    | with_reducible assumption
    | with_reducible refine State.setCore_follows ?_
    | split
    | dsimp only

theorem State.fetchSeen_follows {z s : State} {a1} (h : z.Follows s) : z.Follows (State.fetchSeen s a1) := by
  unfold State.fetchSeen
  repeat' first
    | with_reducible assumption
    | with_reducible refine State.walkSeen_follows ?_
    | with_reducible refine State.seen_follows ?_
    | split
    | dsimp only

theorem State.dropLate_follows {z s : State} {a1} (h : z.Follows s) : z.Follows (State.dropLate s a1) := by
  unfold State.dropLate
  repeat' first
    | with_reducible assumption
    | with_reducible refine State.setEngine_follows ?_
    | split
    | dsimp only

theorem State.wakeFor_follows {z s : State} {a1} (h : z.Follows s) : z.Follows (State.wakeFor s a1) := by
  unfold State.wakeFor
  repeat' first
    | with_reducible assumption
    | with_reducible refine State.wakeDomain_follows ?_
    | split
    | dsimp only

theorem State.wakeFetch_follows {z s : State} {a1} (h : z.Follows s) : z.Follows (State.wakeFetch s a1) := by
  unfold State.wakeFetch
  repeat' first
    | with_reducible assumption
    | with_reducible refine State.wakeFor_follows ?_
    | split
    | dsimp only

theorem State.ins_follows {z s : State} {c part legal word body} (h : z.Follows s)
    (hb : ∀ t, z.Follows t → z.Follows (body t)) : z.Follows (State.ins s c part legal word body) := by
  unfold State.ins
  repeat' first
    | with_reducible assumption
    | with_reducible refine State.wakeFetch_follows ?_
    | with_reducible refine State.raise_follows ?_
    | with_reducible refine State.failAccess_follows ?_
    | with_reducible refine State.dropLate_follows ?_
    | with_reducible refine State.fetchSeen_follows ?_
    | with_reducible refine State.illegal_follows ?_
    | with_reducible refine State.cacheLeaf_follows ?_
    | with_reducible refine hb _ ?_
    | split
    | dsimp only

theorem State.advance_follows {z s : State} {a1 a2} (h : z.Follows s) : z.Follows (State.advance s a1 a2) := by
  unfold State.advance
  repeat' first
    | with_reducible assumption
    | with_reducible refine State.setCore_follows ?_
    | split
    | dsimp only

theorem State.result_follows {z s : State} {a1 a2 a3} (h : z.Follows s) : z.Follows (State.result s a1 a2 a3) := by
  unfold State.result
  repeat' first
    | with_reducible assumption
    | with_reducible refine State.advance_follows ?_
    | split
    | dsimp only

theorem State.compute_follows {z s : State} {a1 a2 a3 a4 a5} (h : z.Follows s) : z.Follows (State.compute s a1 a2 a3 a4 a5) := by
  unfold State.compute
  repeat' first
    | with_reducible assumption
    | with_reducible refine State.ins_follows ?_ (fun _ _ => ?_)
    | with_reducible refine State.result_follows ?_
    | split
    | dsimp only

theorem State.localWrite_follows {z s : State} {a1 a2 a3 a4} (h : z.Follows s) : z.Follows (State.localWrite s a1 a2 a3 a4) := by
  unfold State.localWrite
  repeat' first
    | with_reducible assumption
    | with_reducible refine State.putLocal_follows ?_
    | with_reducible refine State.setEngine_follows ?_
    | split
    | dsimp only

theorem State.readMem_follows {z s : State} {a1 a2 a3} (h : z.Follows s) : z.Follows (State.readMem s a1 a2 a3).1 := by
  unfold State.readMem
  repeat' first
    | with_reducible assumption
    | with_reducible refine State.memLoad_follows ?_
    | with_reducible refine State.memLoad_follows_of ?_ (by with_reducible assumption)
    | split
    | dsimp only

theorem State.readMem_follows_of {z s t : State} {a1 a2 a3} {r} (h : z.Follows s) (e : State.readMem s a1 a2 a3 = (t, r)) : z.Follows t := by
  have k := State.readMem_follows (z := z) (s := s) (a1 := a1) (a2 := a2) (a3 := a3) h
  rw [e] at k
  exact k

theorem State.writeMem_follows {z s : State} {a1 a2 a3 a4} (h : z.Follows s) : z.Follows (State.writeMem s a1 a2 a3 a4).1 := by
  unfold State.writeMem
  repeat' first
    | with_reducible assumption
    | with_reducible refine State.afterBank1_follows ?_
    | with_reducible refine State.memStore_follows ?_
    | with_reducible refine State.localWrite_follows ?_
    | with_reducible refine State.memStore_follows_of ?_ (by with_reducible assumption)
    | split
    | dsimp only

theorem State.writeMem_follows_of {z s t : State} {a1 a2 a3 a4} {r} (h : z.Follows s) (e : State.writeMem s a1 a2 a3 a4 = (t, r)) : z.Follows t := by
  have k := State.writeMem_follows (z := z) (s := s) (a1 := a1) (a2 := a2) (a3 := a3) (a4 := a4) h
  rw [e] at k
  exact k

theorem State.atomicRun_follows {z s : State} {a1} (h : z.Follows s) : z.Follows (State.atomicRun s a1).1 := by
  unfold State.atomicRun
  repeat' first
    | with_reducible assumption
    | with_reducible refine State.writeMem_follows ?_
    | with_reducible refine State.setCore_follows ?_
    | with_reducible refine State.readMem_follows ?_
    | with_reducible refine State.writeMem_follows_of ?_ (by with_reducible assumption)
    | with_reducible refine State.readMem_follows_of ?_ (by with_reducible assumption)
    | split
    | dsimp only

theorem State.atomicRun_follows_of {z s t : State} {a1} {r} (h : z.Follows s) (e : State.atomicRun s a1 = (t, r)) : z.Follows t := by
  have k := State.atomicRun_follows (z := z) (s := s) (a1 := a1) h
  rw [e] at k
  exact k

theorem State.perform_follows {z s : State} {a1} (h : z.Follows s) : z.Follows (State.perform s a1).1 := by
  unfold State.perform
  repeat' first
    | with_reducible assumption
    | with_reducible refine State.failAccess_follows ?_
    | with_reducible refine State.atomicRun_follows ?_
    | with_reducible refine State.localWrite_follows ?_
    | with_reducible refine State.touchDomain_follows ?_
    | with_reducible refine State.access_follows ?_
    | with_reducible refine State.atomicRun_follows_of ?_ (by with_reducible assumption)
    | with_reducible refine State.access_follows_of ?_ (by with_reducible assumption)
    | split
    | dsimp only

theorem State.perform_follows_of {z s t : State} {a1} {r} (h : z.Follows s) (e : State.perform s a1 = (t, r)) : z.Follows t := by
  have k := State.perform_follows (z := z) (s := s) (a1 := a1) h
  rw [e] at k
  exact k

theorem State.finish_follows {z s : State} {a1 a2} (h : z.Follows s) : z.Follows (State.finish s a1 a2) := by
  unfold State.finish
  repeat' first
    | with_reducible assumption
    | with_reducible refine State.advance_follows ?_
    | split
    | dsimp only

theorem State.failed_follows {z s : State} {a1 a2 a3} (h : z.Follows s) : z.Follows (State.failed s a1 a2 a3) := by
  unfold State.failed
  repeat' first
    | with_reducible assumption
    | with_reducible refine State.finish_follows ?_
    | with_reducible refine State.raise_follows ?_
    | with_reducible refine State.advance_follows ?_
    | split
    | dsimp only

theorem State.hold_follows {z s : State} {a1} (h : z.Follows s) : z.Follows (State.hold s a1) := by
  unfold State.hold
  repeat' first
    | with_reducible assumption
    | with_reducible refine State.stallAccess_follows ?_
    | with_reducible refine State.setCore_follows ?_
    | split
    | dsimp only

theorem State.runAccess_follows {z s : State} {a1} (h : z.Follows s) : z.Follows (State.runAccess s a1) := by
  unfold State.runAccess
  repeat' first
    | with_reducible assumption
    | with_reducible refine State.cacheLeaf_follows ?_
    | with_reducible refine State.failAccess_follows ?_
    | with_reducible refine State.walkSeen_follows ?_
    | with_reducible refine State.finish_follows ?_
    | with_reducible refine State.raise_follows ?_
    | with_reducible refine State.perform_follows ?_
    | with_reducible refine State.failed_follows ?_
    | with_reducible refine State.hold_follows ?_
    | with_reducible refine State.perform_follows_of ?_ (by with_reducible assumption)
    | split
    | dsimp only

theorem State.memory_follows {z s : State} {a1 a2 a3 a4 a5 a6} (h : z.Follows s) : z.Follows (State.memory s a1 a2 a3 a4 a5 a6) := by
  unfold State.memory
  repeat' first
    | with_reducible assumption
    | with_reducible refine State.runAccess_follows ?_
    | with_reducible refine State.raise_follows ?_
    | split
    | dsimp only

theorem State.plainFailed_follows {z s : State} {a1 a2} (h : z.Follows s) : z.Follows (State.plainFailed s a1 a2) := by
  unfold State.plainFailed
  repeat' first
    | with_reducible assumption
    | with_reducible refine State.raise_follows ?_
    | split
    | dsimp only

theorem State.plainAccess_follows {z s : State} {a1} (h : z.Follows s) : z.Follows (State.plainAccess s a1) := by
  unfold State.plainAccess
  repeat' first
    | with_reducible assumption
    | with_reducible refine State.answer_follows ?_
    | with_reducible refine State.stallAccess_follows ?_
    | with_reducible refine State.plainFailed_follows ?_
    | with_reducible refine State.failAccess_follows ?_
    | with_reducible refine State.msixWrite_follows ?_
    | with_reducible refine State.access_follows ?_
    | with_reducible refine State.access_follows_of ?_ (by with_reducible assumption)
    | split
    | dsimp only

theorem State.busWrite_follows {z s : State} {a1 a2 a3} (h : z.Follows s) : z.Follows (State.busWrite s a1 a2 a3) := by
  unfold State.busWrite
  repeat' first
    | with_reducible assumption
    | with_reducible refine State.plainAccess_follows ?_
    | split
    | dsimp only

theorem State.busRead_follows {z s : State} {a1 a2} (h : z.Follows s) : z.Follows (State.busRead s a1 a2) := by
  unfold State.busRead
  repeat' first
    | with_reducible assumption
    | with_reducible refine State.plainAccess_follows ?_
    | split
    | dsimp only

theorem State.stallEnd_follows {z s : State} {a1} (h : z.Follows s) : z.Follows (State.stallEnd s a1) := by
  unfold State.stallEnd
  repeat' first
    | with_reducible assumption
    | with_reducible refine State.runAccess_follows ?_
    | with_reducible refine State.answer_follows ?_
    | with_reducible refine State.plainFailed_follows ?_
    | with_reducible refine State.setCore_follows ?_
    | with_reducible refine State.access_follows ?_
    | with_reducible refine State.wakeFor_follows ?_
    | with_reducible refine State.access_follows_of ?_ (by with_reducible assumption)
    | split
    | dsimp only
    | fail_if_no_progress (with_reducible refine State.Follows.mk_upd ?_)

end Sys2Proof.Machine
end

