-- ==== Sys2Proof/Laws/FollowsMapCommands.lean ====
section
/-!
SUPPORT. Every operation of Machine/MapCommands answers a state that follows (State.Follows).
-/
namespace Sys2Proof.Machine

theorem State.busAccess_follows {z s : State} {a1 a2 a3} (h : z.Follows s) : z.Follows (State.busAccess s a1 a2 a3) := by
  unfold State.busAccess
  repeat' first
    | with_reducible assumption
    | with_reducible refine State.busWrite_follows ?_
    | with_reducible refine State.busRead_follows ?_
    | split
    | dsimp only

theorem State.forFn_follows {z s : State} {x g} (h : z.Follows s)
    (hg : ∀ t e i f, z.Follows t → z.Follows (g t e i f)) : z.Follows (State.forFn s x g) := by
  unfold State.forFn
  split
  · exact hg _ _ _ _ h
  · exact h

theorem execRegisterWrite_follows {s a0 a1 a2 : _} : ∃ t, execRegisterWrite a0 a1 a2 s = .next t ∧ s.Follows t := by
  refine ⟨_, rfl, ?_⟩
  have h := State.Follows.refl s
  repeat' first
    | with_reducible assumption
    | with_reducible refine State.busWrite_follows ?_
    | split
    | dsimp only

theorem execAccessStallEnd_follows {s a0 : _} : ∃ t, execAccessStallEnd a0 s = .next t ∧ s.Follows t := by
  refine ⟨_, rfl, ?_⟩
  have h := State.Follows.refl s
  repeat' first
    | with_reducible assumption
    | with_reducible refine State.stallEnd_follows ?_
    | split
    | dsimp only

theorem execDomainLingerExpiry_follows {s a0 : _} : ∃ t, execDomainLingerExpiry a0 s = .next t ∧ s.Follows t := by
  refine ⟨_, rfl, ?_⟩
  have h := State.Follows.refl s
  repeat' first
    | with_reducible assumption
    | with_reducible refine State.lingerExpiry_follows ?_
    | split
    | dsimp only

theorem execRcFieldRead_follows {s a0 a1 : _} : ∃ t, execRcFieldRead a0 a1 s = .next t ∧ s.Follows t := by
  refine ⟨_, rfl, ?_⟩
  have h := State.Follows.refl s
  repeat' first
    | with_reducible assumption
    | with_reducible refine State.busRead_follows ?_
    | split
    | dsimp only

theorem execWideValueLowRead_follows {s a0 a1 : _} : ∃ t, execWideValueLowRead a0 a1 s = .next t ∧ s.Follows t := by
  refine ⟨_, rfl, ?_⟩
  have h := State.Follows.refl s
  repeat' first
    | with_reducible assumption
    | with_reducible refine State.busRead_follows ?_
    | split
    | dsimp only

theorem execWideValueLowWrite_follows {s a0 a1 a2 : _} : ∃ t, execWideValueLowWrite a0 a1 a2 s = .next t ∧ s.Follows t := by
  refine ⟨_, rfl, ?_⟩
  have h := State.Follows.refl s
  repeat' first
    | with_reducible assumption
    | with_reducible refine State.busWrite_follows ?_
    | split
    | dsimp only

theorem execWideValueHighWrite_follows {s a0 a1 a2 : _} : ∃ t, execWideValueHighWrite a0 a1 a2 s = .next t ∧ s.Follows t := by
  refine ⟨_, rfl, ?_⟩
  have h := State.Follows.refl s
  repeat' first
    | with_reducible assumption
    | with_reducible refine State.busWrite_follows ?_
    | split
    | dsimp only

theorem execShadowWrite_follows {s a0 a1 a2 : _} : ∃ t, execShadowWrite a0 a1 a2 s = .next t ∧ s.Follows t := by
  refine ⟨_, rfl, ?_⟩
  have h := State.Follows.refl s
  repeat' first
    | with_reducible assumption
    | with_reducible refine State.busWrite_follows ?_
    | split
    | dsimp only

theorem execSwapRequest_follows {s a0 a1 : _} : ∃ t, execSwapRequest a0 a1 s = .next t ∧ s.Follows t := by
  refine ⟨_, rfl, ?_⟩
  have h := State.Follows.refl s
  repeat' first
    | with_reducible assumption
    | with_reducible refine State.busWrite_follows ?_
    | split
    | dsimp only

theorem execSwapCancel_follows {s a0 a1 : _} : ∃ t, execSwapCancel a0 a1 s = .next t ∧ s.Follows t := by
  refine ⟨_, rfl, ?_⟩
  have h := State.Follows.refl s
  repeat' first
    | with_reducible assumption
    | with_reducible refine State.busWrite_follows ?_
    | split
    | dsimp only

theorem execSwapTakeEffect_follows {s a0 : _} : ∃ t, execSwapTakeEffect a0 s = .next t ∧ s.Follows t := by
  refine ⟨_, rfl, ?_⟩
  have h := State.Follows.refl s
  repeat' first
    | with_reducible assumption
    | with_reducible refine State.swapTake_follows ?_
    | split
    | dsimp only

theorem execFnEnable_follows {s a0 a1 : _} : ∃ t, execFnEnable a0 a1 s = .next t ∧ s.Follows t := by
  refine ⟨_, rfl, ?_⟩
  have h := State.Follows.refl s
  repeat' first
    | with_reducible assumption
    | with_reducible refine State.busWrite_follows ?_
    | split
    | dsimp only

theorem execFnDisable_follows {s a0 a1 : _} : ∃ t, execFnDisable a0 a1 s = .next t ∧ s.Follows t := by
  refine ⟨_, rfl, ?_⟩
  have h := State.Follows.refl s
  repeat' first
    | with_reducible assumption
    | with_reducible refine State.busWrite_follows ?_
    | split
    | dsimp only

theorem execFnStartDone_follows {s a0 : _} : ∃ t, execFnStartDone a0 s = .next t ∧ s.Follows t := by
  refine ⟨_, rfl, ?_⟩
  have h := State.Follows.refl s
  repeat' first
    | with_reducible assumption
    | with_reducible refine State.fnStartDone_follows ?_
    | with_reducible refine State.forFn_follows ?_ (fun _ _ _ _ _ => ?_)
    | split
    | dsimp only

theorem execFnStartFail_follows {s a0 : _} : ∃ t, execFnStartFail a0 s = .next t ∧ s.Follows t := by
  refine ⟨_, rfl, ?_⟩
  have h := State.Follows.refl s
  repeat' first
    | with_reducible assumption
    | with_reducible refine State.fnStartFail_follows ?_
    | with_reducible refine State.forFn_follows ?_ (fun _ _ _ _ _ => ?_)
    | split
    | dsimp only

theorem execFnSafePoint_follows {s a0 : _} : ∃ t, execFnSafePoint a0 s = .next t ∧ s.Follows t := by
  refine ⟨_, rfl, ?_⟩
  have h := State.Follows.refl s
  repeat' first
    | with_reducible assumption
    | with_reducible refine State.fnSafePoint_follows ?_
    | with_reducible refine State.afterStop_follows ?_
    | with_reducible refine State.forFn_follows ?_ (fun _ _ _ _ _ => ?_)
    | split
    | dsimp only

theorem execFnStopDone_follows {s a0 : _} : ∃ t, execFnStopDone a0 s = .next t ∧ s.Follows t := by
  refine ⟨_, rfl, ?_⟩
  have h := State.Follows.refl s
  repeat' first
    | with_reducible assumption
    | with_reducible refine State.fnStopDone_follows ?_
    | with_reducible refine State.afterStop_follows ?_
    | with_reducible refine State.forFn_follows ?_ (fun _ _ _ _ _ => ?_)
    | split
    | dsimp only

theorem execFnStopFail_follows {s a0 : _} : ∃ t, execFnStopFail a0 s = .next t ∧ s.Follows t := by
  refine ⟨_, rfl, ?_⟩
  have h := State.Follows.refl s
  repeat' first
    | with_reducible assumption
    | with_reducible refine State.fnStopFail_follows ?_
    | with_reducible refine State.afterStop_follows ?_
    | with_reducible refine State.forFn_follows ?_ (fun _ _ _ _ _ => ?_)
    | split
    | dsimp only

end Sys2Proof.Machine
end

