-- ==== Sys2Proof/Laws/FollowsCipherCommands.lean ====
section
/-!
SUPPORT. Every operation of Machine/CipherCommands answers a state that follows (State.Follows).
-/
namespace Sys2Proof.Machine

theorem execSeal_follows {s a0 : _} : ∃ t, execSeal a0 s = .next t ∧ s.Follows t := by
  refine ⟨_, rfl, ?_⟩
  have h := State.Follows.refl s
  repeat' first
    | with_reducible assumption
    | with_reducible refine State.pipeRun_follows ?_
    | split
    | dsimp only

theorem execOpen_follows {s a0 : _} : ∃ t, execOpen a0 s = .next t ∧ s.Follows t := by
  refine ⟨_, rfl, ?_⟩
  have h := State.Follows.refl s
  repeat' first
    | with_reducible assumption
    | with_reducible refine State.pipeRun_follows ?_
    | split
    | dsimp only

theorem execEncRaw_follows {s a0 : _} : ∃ t, execEncRaw a0 s = .next t ∧ s.Follows t := by
  refine ⟨_, rfl, ?_⟩
  have h := State.Follows.refl s
  repeat' first
    | with_reducible assumption
    | with_reducible refine State.pipeRun_follows ?_
    | split
    | dsimp only

theorem execDecRaw_follows {s a0 : _} : ∃ t, execDecRaw a0 s = .next t ∧ s.Follows t := by
  refine ⟨_, rfl, ?_⟩
  have h := State.Follows.refl s
  repeat' first
    | with_reducible assumption
    | with_reducible refine State.pipeRun_follows ?_
    | split
    | dsimp only

theorem execCipherImport_follows {s a0 : _} : ∃ t, execCipherImport a0 s = .next t ∧ s.Follows t := by
  refine ⟨_, rfl, ?_⟩
  have h := State.Follows.refl s
  repeat' first
    | with_reducible assumption
    | with_reducible refine State.pipeRun_follows ?_
    | split
    | dsimp only

theorem execSha256_follows {s a0 : _} : ∃ t, execSha256 a0 s = .next t ∧ s.Follows t := by
  refine ⟨_, rfl, ?_⟩
  have h := State.Follows.refl s
  repeat' first
    | with_reducible assumption
    | with_reducible refine State.pipeRun_follows ?_
    | split
    | dsimp only

theorem execCphInval_follows {s a0 a1 : _} : ∃ t, execCphInval a0 a1 s = .next t ∧ s.Follows t := by
  refine ⟨_, rfl, ?_⟩
  have h := State.Follows.refl s
  repeat' first
    | with_reducible assumption
    | with_reducible refine State.busWrite_follows ?_
    | split
    | dsimp only

theorem execCounterSettle_follows {s a0 : _} : ∃ t, execCounterSettle a0 s = .next t ∧ s.Follows t := by
  refine ⟨_, rfl, ?_⟩
  have h := State.Follows.refl s
  repeat' first
    | with_reducible assumption
    | with_reducible refine State.settleCtr_follows ?_
    | split
    | dsimp only

theorem execLoadw_follows {s a0 a1 : _} : ∃ t, execLoadw a0 a1 s = .next t ∧ s.Follows t := by
  refine ⟨_, rfl, ?_⟩
  have h := State.Follows.refl s
  repeat' first
    | with_reducible assumption
    | with_reducible refine State.busWrite_follows ?_
    | split
    | dsimp only

theorem execLoadp_follows {s a0 a1 : _} : ∃ t, execLoadp a0 a1 s = .next t ∧ s.Follows t := by
  refine ⟨_, rfl, ?_⟩
  have h := State.Follows.refl s
  repeat' first
    | with_reducible assumption
    | with_reducible refine State.busWrite_follows ?_
    | split
    | dsimp only

theorem execWrap_follows {s a0 a1 : _} : ∃ t, execWrap a0 a1 s = .next t ∧ s.Follows t := by
  refine ⟨_, rfl, ?_⟩
  have h := State.Follows.refl s
  repeat' first
    | with_reducible assumption
    | with_reducible refine State.busWrite_follows ?_
    | split
    | dsimp only

theorem execKstClear_follows {s a0 a1 : _} : ∃ t, execKstClear a0 a1 s = .next t ∧ s.Follows t := by
  refine ⟨_, rfl, ?_⟩
  have h := State.Follows.refl s
  repeat' first
    | with_reducible assumption
    | with_reducible refine State.busWrite_follows ?_
    | split
    | dsimp only

theorem execArm_follows {s a0 a1 : _} : ∃ t, execArm a0 a1 s = .next t ∧ s.Follows t := by
  refine ⟨_, rfl, ?_⟩
  have h := State.Follows.refl s
  repeat' first
    | with_reducible assumption
    | with_reducible refine State.busWrite_follows ?_
    | split
    | dsimp only

theorem execWhiteout_follows {s a0 a1 : _} : ∃ t, execWhiteout a0 a1 s = .next t ∧ s.Follows t := by
  refine ⟨_, rfl, ?_⟩
  have h := State.Follows.refl s
  repeat' first
    | with_reducible assumption
    | with_reducible refine State.busWrite_follows ?_
    | split
    | dsimp only

theorem execTamperCheck_follows {s a0 a1 : _} : ∃ t, execTamperCheck a0 a1 s = .next t ∧ s.Follows t := by
  refine ⟨_, rfl, ?_⟩
  have h := State.Follows.refl s
  repeat' first
    | with_reducible assumption
    | with_reducible refine State.tamperCheck_follows ?_
    | split
    | dsimp only

theorem execAlarmRaised_follows {s a0 a1 : _} : ∃ t, execAlarmRaised a0 a1 s = .next t ∧ s.Follows t := by
  refine ⟨_, rfl, ?_⟩
  have h := State.Follows.refl s
  repeat' first
    | with_reducible assumption
    | with_reducible refine State.alarmSource_follows ?_
    | split
    | dsimp only

end Sys2Proof.Machine
end

