-- ==== Sys2Proof/Laws/FollowsIblekInt.lean ====
section
/-!
SUPPORT. Every operation of Machine/IblekInt answers a state that follows (State.Follows).
-/
namespace Sys2Proof.Machine

theorem State.op3_follows {z s : State} {a1 a2 a3 a4 a5 a6 a7} (h : z.Follows s) : z.Follows (State.op3 s a1 a2 a3 a4 a5 a6 a7) := by
  unfold State.op3
  repeat' first
    | with_reducible assumption
    | with_reducible refine State.compute_follows ?_
    | split
    | dsimp only

theorem State.opImm_follows {z s : State} {a1 a2 a3 a4 a5 a6} (h : z.Follows s) : z.Follows (State.opImm s a1 a2 a3 a4 a5 a6) := by
  unfold State.opImm
  repeat' first
    | with_reducible assumption
    | with_reducible refine State.compute_follows ?_
    | split
    | dsimp only

theorem State.jump_follows {z s : State} {a1 a2 a3} (h : z.Follows s) : z.Follows (State.jump s a1 a2 a3) := by
  unfold State.jump
  repeat' first
    | with_reducible assumption
    | with_reducible refine State.setCore_follows ?_
    | split
    | dsimp only

theorem State.branch_follows {z s : State} {a1 a2 a3 a4 a5 a6} (h : z.Follows s) : z.Follows (State.branch s a1 a2 a3 a4 a5 a6) := by
  unfold State.branch
  repeat' first
    | with_reducible assumption
    | with_reducible refine State.ins_follows ?_ (fun _ _ => ?_)
    | with_reducible refine State.setCore_follows ?_
    | with_reducible refine State.advance_follows ?_
    | split
    | dsimp only

theorem execAdd_follows {s a0 a1 a2 a3 : _} : ∃ t, execAdd a0 a1 a2 a3 s = .next t ∧ s.Follows t := by
  refine ⟨_, rfl, ?_⟩
  have h := State.Follows.refl s
  repeat' first
    | with_reducible assumption
    | with_reducible refine State.op3_follows ?_
    | split
    | dsimp only

theorem execSub_follows {s a0 a1 a2 a3 : _} : ∃ t, execSub a0 a1 a2 a3 s = .next t ∧ s.Follows t := by
  refine ⟨_, rfl, ?_⟩
  have h := State.Follows.refl s
  repeat' first
    | with_reducible assumption
    | with_reducible refine State.op3_follows ?_
    | split
    | dsimp only

theorem execAnd_follows {s a0 a1 a2 a3 : _} : ∃ t, execAnd a0 a1 a2 a3 s = .next t ∧ s.Follows t := by
  refine ⟨_, rfl, ?_⟩
  have h := State.Follows.refl s
  repeat' first
    | with_reducible assumption
    | with_reducible refine State.op3_follows ?_
    | split
    | dsimp only

theorem execOr_follows {s a0 a1 a2 a3 : _} : ∃ t, execOr a0 a1 a2 a3 s = .next t ∧ s.Follows t := by
  refine ⟨_, rfl, ?_⟩
  have h := State.Follows.refl s
  repeat' first
    | with_reducible assumption
    | with_reducible refine State.op3_follows ?_
    | split
    | dsimp only

theorem execXor_follows {s a0 a1 a2 a3 : _} : ∃ t, execXor a0 a1 a2 a3 s = .next t ∧ s.Follows t := by
  refine ⟨_, rfl, ?_⟩
  have h := State.Follows.refl s
  repeat' first
    | with_reducible assumption
    | with_reducible refine State.op3_follows ?_
    | split
    | dsimp only

theorem execSlt_follows {s a0 a1 a2 a3 : _} : ∃ t, execSlt a0 a1 a2 a3 s = .next t ∧ s.Follows t := by
  refine ⟨_, rfl, ?_⟩
  have h := State.Follows.refl s
  repeat' first
    | with_reducible assumption
    | with_reducible refine State.op3_follows ?_
    | split
    | dsimp only

theorem execSltu_follows {s a0 a1 a2 a3 : _} : ∃ t, execSltu a0 a1 a2 a3 s = .next t ∧ s.Follows t := by
  refine ⟨_, rfl, ?_⟩
  have h := State.Follows.refl s
  repeat' first
    | with_reducible assumption
    | with_reducible refine State.op3_follows ?_
    | split
    | dsimp only

theorem execSll_follows {s a0 a1 a2 a3 : _} : ∃ t, execSll a0 a1 a2 a3 s = .next t ∧ s.Follows t := by
  refine ⟨_, rfl, ?_⟩
  have h := State.Follows.refl s
  repeat' first
    | with_reducible assumption
    | with_reducible refine State.op3_follows ?_
    | split
    | dsimp only

theorem execSrl_follows {s a0 a1 a2 a3 : _} : ∃ t, execSrl a0 a1 a2 a3 s = .next t ∧ s.Follows t := by
  refine ⟨_, rfl, ?_⟩
  have h := State.Follows.refl s
  repeat' first
    | with_reducible assumption
    | with_reducible refine State.op3_follows ?_
    | split
    | dsimp only

theorem execSra_follows {s a0 a1 a2 a3 : _} : ∃ t, execSra a0 a1 a2 a3 s = .next t ∧ s.Follows t := by
  refine ⟨_, rfl, ?_⟩
  have h := State.Follows.refl s
  repeat' first
    | with_reducible assumption
    | with_reducible refine State.op3_follows ?_
    | split
    | dsimp only

theorem execRor_follows {s a0 a1 a2 a3 : _} : ∃ t, execRor a0 a1 a2 a3 s = .next t ∧ s.Follows t := by
  refine ⟨_, rfl, ?_⟩
  have h := State.Follows.refl s
  repeat' first
    | with_reducible assumption
    | with_reducible refine State.op3_follows ?_
    | split
    | dsimp only

theorem execAddw_follows {s a0 a1 a2 a3 : _} : ∃ t, execAddw a0 a1 a2 a3 s = .next t ∧ s.Follows t := by
  refine ⟨_, rfl, ?_⟩
  have h := State.Follows.refl s
  repeat' first
    | with_reducible assumption
    | with_reducible refine State.op3_follows ?_
    | split
    | dsimp only

theorem execSubw_follows {s a0 a1 a2 a3 : _} : ∃ t, execSubw a0 a1 a2 a3 s = .next t ∧ s.Follows t := by
  refine ⟨_, rfl, ?_⟩
  have h := State.Follows.refl s
  repeat' first
    | with_reducible assumption
    | with_reducible refine State.op3_follows ?_
    | split
    | dsimp only

theorem execSllw_follows {s a0 a1 a2 a3 : _} : ∃ t, execSllw a0 a1 a2 a3 s = .next t ∧ s.Follows t := by
  refine ⟨_, rfl, ?_⟩
  have h := State.Follows.refl s
  repeat' first
    | with_reducible assumption
    | with_reducible refine State.op3_follows ?_
    | split
    | dsimp only

theorem execSrlw_follows {s a0 a1 a2 a3 : _} : ∃ t, execSrlw a0 a1 a2 a3 s = .next t ∧ s.Follows t := by
  refine ⟨_, rfl, ?_⟩
  have h := State.Follows.refl s
  repeat' first
    | with_reducible assumption
    | with_reducible refine State.op3_follows ?_
    | split
    | dsimp only

theorem execSraw_follows {s a0 a1 a2 a3 : _} : ∃ t, execSraw a0 a1 a2 a3 s = .next t ∧ s.Follows t := by
  refine ⟨_, rfl, ?_⟩
  have h := State.Follows.refl s
  repeat' first
    | with_reducible assumption
    | with_reducible refine State.op3_follows ?_
    | split
    | dsimp only

theorem execMul_follows {s a0 a1 a2 a3 : _} : ∃ t, execMul a0 a1 a2 a3 s = .next t ∧ s.Follows t := by
  refine ⟨_, rfl, ?_⟩
  have h := State.Follows.refl s
  repeat' first
    | with_reducible assumption
    | with_reducible refine State.op3_follows ?_
    | split
    | dsimp only

theorem execMulh_follows {s a0 a1 a2 a3 : _} : ∃ t, execMulh a0 a1 a2 a3 s = .next t ∧ s.Follows t := by
  refine ⟨_, rfl, ?_⟩
  have h := State.Follows.refl s
  repeat' first
    | with_reducible assumption
    | with_reducible refine State.op3_follows ?_
    | split
    | dsimp only

theorem execMulhu_follows {s a0 a1 a2 a3 : _} : ∃ t, execMulhu a0 a1 a2 a3 s = .next t ∧ s.Follows t := by
  refine ⟨_, rfl, ?_⟩
  have h := State.Follows.refl s
  repeat' first
    | with_reducible assumption
    | with_reducible refine State.op3_follows ?_
    | split
    | dsimp only

theorem execMulhsu_follows {s a0 a1 a2 a3 : _} : ∃ t, execMulhsu a0 a1 a2 a3 s = .next t ∧ s.Follows t := by
  refine ⟨_, rfl, ?_⟩
  have h := State.Follows.refl s
  repeat' first
    | with_reducible assumption
    | with_reducible refine State.op3_follows ?_
    | split
    | dsimp only

theorem execDiv_follows {s a0 a1 a2 a3 : _} : ∃ t, execDiv a0 a1 a2 a3 s = .next t ∧ s.Follows t := by
  refine ⟨_, rfl, ?_⟩
  have h := State.Follows.refl s
  repeat' first
    | with_reducible assumption
    | with_reducible refine State.op3_follows ?_
    | split
    | dsimp only

theorem execDivu_follows {s a0 a1 a2 a3 : _} : ∃ t, execDivu a0 a1 a2 a3 s = .next t ∧ s.Follows t := by
  refine ⟨_, rfl, ?_⟩
  have h := State.Follows.refl s
  repeat' first
    | with_reducible assumption
    | with_reducible refine State.op3_follows ?_
    | split
    | dsimp only

theorem execRem_follows {s a0 a1 a2 a3 : _} : ∃ t, execRem a0 a1 a2 a3 s = .next t ∧ s.Follows t := by
  refine ⟨_, rfl, ?_⟩
  have h := State.Follows.refl s
  repeat' first
    | with_reducible assumption
    | with_reducible refine State.op3_follows ?_
    | split
    | dsimp only

theorem execRemu_follows {s a0 a1 a2 a3 : _} : ∃ t, execRemu a0 a1 a2 a3 s = .next t ∧ s.Follows t := by
  refine ⟨_, rfl, ?_⟩
  have h := State.Follows.refl s
  repeat' first
    | with_reducible assumption
    | with_reducible refine State.op3_follows ?_
    | split
    | dsimp only

theorem execMin_follows {s a0 a1 a2 a3 : _} : ∃ t, execMin a0 a1 a2 a3 s = .next t ∧ s.Follows t := by
  refine ⟨_, rfl, ?_⟩
  have h := State.Follows.refl s
  repeat' first
    | with_reducible assumption
    | with_reducible refine State.op3_follows ?_
    | split
    | dsimp only

theorem execMax_follows {s a0 a1 a2 a3 : _} : ∃ t, execMax a0 a1 a2 a3 s = .next t ∧ s.Follows t := by
  refine ⟨_, rfl, ?_⟩
  have h := State.Follows.refl s
  repeat' first
    | with_reducible assumption
    | with_reducible refine State.op3_follows ?_
    | split
    | dsimp only

theorem execMinu_follows {s a0 a1 a2 a3 : _} : ∃ t, execMinu a0 a1 a2 a3 s = .next t ∧ s.Follows t := by
  refine ⟨_, rfl, ?_⟩
  have h := State.Follows.refl s
  repeat' first
    | with_reducible assumption
    | with_reducible refine State.op3_follows ?_
    | split
    | dsimp only

theorem execMaxu_follows {s a0 a1 a2 a3 : _} : ∃ t, execMaxu a0 a1 a2 a3 s = .next t ∧ s.Follows t := by
  refine ⟨_, rfl, ?_⟩
  have h := State.Follows.refl s
  repeat' first
    | with_reducible assumption
    | with_reducible refine State.op3_follows ?_
    | split
    | dsimp only

theorem execSelnz_follows {s a0 a1 a2 a3 : _} : ∃ t, execSelnz a0 a1 a2 a3 s = .next t ∧ s.Follows t := by
  refine ⟨_, rfl, ?_⟩
  have h := State.Follows.refl s
  repeat' first
    | with_reducible assumption
    | with_reducible refine State.compute_follows ?_
    | split
    | dsimp only

theorem execClz_follows {s a0 a1 a2 : _} : ∃ t, execClz a0 a1 a2 s = .next t ∧ s.Follows t := by
  refine ⟨_, rfl, ?_⟩
  have h := State.Follows.refl s
  repeat' first
    | with_reducible assumption
    | with_reducible refine State.op3_follows ?_
    | split
    | dsimp only

theorem execCtz_follows {s a0 a1 a2 : _} : ∃ t, execCtz a0 a1 a2 s = .next t ∧ s.Follows t := by
  refine ⟨_, rfl, ?_⟩
  have h := State.Follows.refl s
  repeat' first
    | with_reducible assumption
    | with_reducible refine State.op3_follows ?_
    | split
    | dsimp only

theorem execPopc_follows {s a0 a1 a2 : _} : ∃ t, execPopc a0 a1 a2 s = .next t ∧ s.Follows t := by
  refine ⟨_, rfl, ?_⟩
  have h := State.Follows.refl s
  repeat' first
    | with_reducible assumption
    | with_reducible refine State.op3_follows ?_
    | split
    | dsimp only

theorem execBswap_follows {s a0 a1 a2 : _} : ∃ t, execBswap a0 a1 a2 s = .next t ∧ s.Follows t := by
  refine ⟨_, rfl, ?_⟩
  have h := State.Follows.refl s
  repeat' first
    | with_reducible assumption
    | with_reducible refine State.op3_follows ?_
    | split
    | dsimp only

theorem execAddi_follows {s a0 a1 a2 a3 : _} : ∃ t, execAddi a0 a1 a2 a3 s = .next t ∧ s.Follows t := by
  refine ⟨_, rfl, ?_⟩
  have h := State.Follows.refl s
  repeat' first
    | with_reducible assumption
    | with_reducible refine State.opImm_follows ?_
    | split
    | dsimp only

theorem execAndi_follows {s a0 a1 a2 a3 : _} : ∃ t, execAndi a0 a1 a2 a3 s = .next t ∧ s.Follows t := by
  refine ⟨_, rfl, ?_⟩
  have h := State.Follows.refl s
  repeat' first
    | with_reducible assumption
    | with_reducible refine State.opImm_follows ?_
    | split
    | dsimp only

theorem execOri_follows {s a0 a1 a2 a3 : _} : ∃ t, execOri a0 a1 a2 a3 s = .next t ∧ s.Follows t := by
  refine ⟨_, rfl, ?_⟩
  have h := State.Follows.refl s
  repeat' first
    | with_reducible assumption
    | with_reducible refine State.opImm_follows ?_
    | split
    | dsimp only

theorem execXori_follows {s a0 a1 a2 a3 : _} : ∃ t, execXori a0 a1 a2 a3 s = .next t ∧ s.Follows t := by
  refine ⟨_, rfl, ?_⟩
  have h := State.Follows.refl s
  repeat' first
    | with_reducible assumption
    | with_reducible refine State.opImm_follows ?_
    | split
    | dsimp only

theorem execSlti_follows {s a0 a1 a2 a3 : _} : ∃ t, execSlti a0 a1 a2 a3 s = .next t ∧ s.Follows t := by
  refine ⟨_, rfl, ?_⟩
  have h := State.Follows.refl s
  repeat' first
    | with_reducible assumption
    | with_reducible refine State.opImm_follows ?_
    | split
    | dsimp only

theorem execSltiu_follows {s a0 a1 a2 a3 : _} : ∃ t, execSltiu a0 a1 a2 a3 s = .next t ∧ s.Follows t := by
  refine ⟨_, rfl, ?_⟩
  have h := State.Follows.refl s
  repeat' first
    | with_reducible assumption
    | with_reducible refine State.opImm_follows ?_
    | split
    | dsimp only

theorem execAddiw_follows {s a0 a1 a2 a3 : _} : ∃ t, execAddiw a0 a1 a2 a3 s = .next t ∧ s.Follows t := by
  refine ⟨_, rfl, ?_⟩
  have h := State.Follows.refl s
  repeat' first
    | with_reducible assumption
    | with_reducible refine State.opImm_follows ?_
    | split
    | dsimp only

theorem execShi_follows {s a0 a1 a2 a3 : _} : ∃ t, execShi a0 a1 a2 a3 s = .next t ∧ s.Follows t := by
  refine ⟨_, rfl, ?_⟩
  have h := State.Follows.refl s
  repeat' first
    | with_reducible assumption
    | with_reducible refine State.ins_follows ?_ (fun _ _ => ?_)
    | with_reducible refine State.result_follows ?_
    | split
    | dsimp only

theorem execLui_follows {s a0 a1 a2 : _} : ∃ t, execLui a0 a1 a2 s = .next t ∧ s.Follows t := by
  refine ⟨_, rfl, ?_⟩
  have h := State.Follows.refl s
  repeat' first
    | with_reducible assumption
    | with_reducible refine State.compute_follows ?_
    | split
    | dsimp only

theorem execAuipc_follows {s a0 a1 a2 : _} : ∃ t, execAuipc a0 a1 a2 s = .next t ∧ s.Follows t := by
  refine ⟨_, rfl, ?_⟩
  have h := State.Follows.refl s
  repeat' first
    | with_reducible assumption
    | with_reducible refine State.compute_follows ?_
    | split
    | dsimp only

theorem execJal_follows {s a0 a1 a2 : _} : ∃ t, execJal a0 a1 a2 s = .next t ∧ s.Follows t := by
  refine ⟨_, rfl, ?_⟩
  have h := State.Follows.refl s
  repeat' first
    | with_reducible assumption
    | with_reducible refine State.ins_follows ?_ (fun _ _ => ?_)
    | with_reducible refine State.jump_follows ?_
    | split
    | dsimp only

theorem execJalr_follows {s a0 a1 a2 a3 : _} : ∃ t, execJalr a0 a1 a2 a3 s = .next t ∧ s.Follows t := by
  refine ⟨_, rfl, ?_⟩
  have h := State.Follows.refl s
  repeat' first
    | with_reducible assumption
    | with_reducible refine State.ins_follows ?_ (fun _ _ => ?_)
    | with_reducible refine State.jump_follows ?_
    | split
    | dsimp only

theorem execBeq_follows {s a0 a1 a2 a3 : _} : ∃ t, execBeq a0 a1 a2 a3 s = .next t ∧ s.Follows t := by
  refine ⟨_, rfl, ?_⟩
  have h := State.Follows.refl s
  repeat' first
    | with_reducible assumption
    | with_reducible refine State.branch_follows ?_
    | split
    | dsimp only

theorem execBne_follows {s a0 a1 a2 a3 : _} : ∃ t, execBne a0 a1 a2 a3 s = .next t ∧ s.Follows t := by
  refine ⟨_, rfl, ?_⟩
  have h := State.Follows.refl s
  repeat' first
    | with_reducible assumption
    | with_reducible refine State.branch_follows ?_
    | split
    | dsimp only

theorem execBlt_follows {s a0 a1 a2 a3 : _} : ∃ t, execBlt a0 a1 a2 a3 s = .next t ∧ s.Follows t := by
  refine ⟨_, rfl, ?_⟩
  have h := State.Follows.refl s
  repeat' first
    | with_reducible assumption
    | with_reducible refine State.branch_follows ?_
    | split
    | dsimp only

theorem execBge_follows {s a0 a1 a2 a3 : _} : ∃ t, execBge a0 a1 a2 a3 s = .next t ∧ s.Follows t := by
  refine ⟨_, rfl, ?_⟩
  have h := State.Follows.refl s
  repeat' first
    | with_reducible assumption
    | with_reducible refine State.branch_follows ?_
    | split
    | dsimp only

theorem execBltu_follows {s a0 a1 a2 a3 : _} : ∃ t, execBltu a0 a1 a2 a3 s = .next t ∧ s.Follows t := by
  refine ⟨_, rfl, ?_⟩
  have h := State.Follows.refl s
  repeat' first
    | with_reducible assumption
    | with_reducible refine State.branch_follows ?_
    | split
    | dsimp only

theorem execBgeu_follows {s a0 a1 a2 a3 : _} : ∃ t, execBgeu a0 a1 a2 a3 s = .next t ∧ s.Follows t := by
  refine ⟨_, rfl, ?_⟩
  have h := State.Follows.refl s
  repeat' first
    | with_reducible assumption
    | with_reducible refine State.branch_follows ?_
    | split
    | dsimp only

end Sys2Proof.Machine
end

