-- ==== Sys2Proof/Laws/FollowsIblekMem.lean ====
section
/-!
SUPPORT. Every operation of Machine/IblekMem answers a state that follows (State.Follows).
-/
namespace Sys2Proof.Machine

theorem State.loadIns_follows {z s : State} {a1 a2 a3 a4 a5 a6 a7} (h : z.Follows s) : z.Follows (State.loadIns s a1 a2 a3 a4 a5 a6 a7) := by
  unfold State.loadIns
  repeat' first
    | with_reducible assumption
    | with_reducible refine State.ins_follows ?_ (fun _ _ => ?_)
    | with_reducible refine State.memory_follows ?_
    | split
    | dsimp only

theorem State.storeIns_follows {z s : State} {a1 a2 a3 a4 a5 a6} (h : z.Follows s) : z.Follows (State.storeIns s a1 a2 a3 a4 a5 a6) := by
  unfold State.storeIns
  repeat' first
    | with_reducible assumption
    | with_reducible refine State.ins_follows ?_ (fun _ _ => ?_)
    | with_reducible refine State.memory_follows ?_
    | split
    | dsimp only

theorem State.floadIns_follows {z s : State} {a1 a2 a3 a4 a5 a6} (h : z.Follows s) : z.Follows (State.floadIns s a1 a2 a3 a4 a5 a6) := by
  unfold State.floadIns
  repeat' first
    | with_reducible assumption
    | with_reducible refine State.ins_follows ?_ (fun _ _ => ?_)
    | with_reducible refine State.raise_follows ?_
    | with_reducible refine State.memory_follows ?_
    | split
    | dsimp only

theorem State.fstoreIns_follows {z s : State} {a1 a2 a3 a4 a5 a6} (h : z.Follows s) : z.Follows (State.fstoreIns s a1 a2 a3 a4 a5 a6) := by
  unfold State.fstoreIns
  repeat' first
    | with_reducible assumption
    | with_reducible refine State.ins_follows ?_ (fun _ _ => ?_)
    | with_reducible refine State.raise_follows ?_
    | with_reducible refine State.memory_follows ?_
    | split
    | dsimp only

theorem State.atomIns_follows {z s : State} {a1 a2 a3 a4 a5 a6 a7 a8} (h : z.Follows s) : z.Follows (State.atomIns s a1 a2 a3 a4 a5 a6 a7 a8) := by
  unfold State.atomIns
  repeat' first
    | with_reducible assumption
    | with_reducible refine State.ins_follows ?_ (fun _ _ => ?_)
    | with_reducible refine State.memory_follows ?_
    | split
    | dsimp only

theorem execLb_follows {s a0 a1 a2 a3 : _} : ∃ t, execLb a0 a1 a2 a3 s = .next t ∧ s.Follows t := by
  refine ⟨_, rfl, ?_⟩
  have h := State.Follows.refl s
  repeat' first
    | with_reducible assumption
    | with_reducible refine State.loadIns_follows ?_
    | split
    | dsimp only

theorem execLbu_follows {s a0 a1 a2 a3 : _} : ∃ t, execLbu a0 a1 a2 a3 s = .next t ∧ s.Follows t := by
  refine ⟨_, rfl, ?_⟩
  have h := State.Follows.refl s
  repeat' first
    | with_reducible assumption
    | with_reducible refine State.loadIns_follows ?_
    | split
    | dsimp only

theorem execLh_follows {s a0 a1 a2 a3 : _} : ∃ t, execLh a0 a1 a2 a3 s = .next t ∧ s.Follows t := by
  refine ⟨_, rfl, ?_⟩
  have h := State.Follows.refl s
  repeat' first
    | with_reducible assumption
    | with_reducible refine State.loadIns_follows ?_
    | split
    | dsimp only

theorem execLhu_follows {s a0 a1 a2 a3 : _} : ∃ t, execLhu a0 a1 a2 a3 s = .next t ∧ s.Follows t := by
  refine ⟨_, rfl, ?_⟩
  have h := State.Follows.refl s
  repeat' first
    | with_reducible assumption
    | with_reducible refine State.loadIns_follows ?_
    | split
    | dsimp only

theorem execLw_follows {s a0 a1 a2 a3 : _} : ∃ t, execLw a0 a1 a2 a3 s = .next t ∧ s.Follows t := by
  refine ⟨_, rfl, ?_⟩
  have h := State.Follows.refl s
  repeat' first
    | with_reducible assumption
    | with_reducible refine State.loadIns_follows ?_
    | split
    | dsimp only

theorem execLwu_follows {s a0 a1 a2 a3 : _} : ∃ t, execLwu a0 a1 a2 a3 s = .next t ∧ s.Follows t := by
  refine ⟨_, rfl, ?_⟩
  have h := State.Follows.refl s
  repeat' first
    | with_reducible assumption
    | with_reducible refine State.loadIns_follows ?_
    | split
    | dsimp only

theorem execLd_follows {s a0 a1 a2 a3 : _} : ∃ t, execLd a0 a1 a2 a3 s = .next t ∧ s.Follows t := by
  refine ⟨_, rfl, ?_⟩
  have h := State.Follows.refl s
  repeat' first
    | with_reducible assumption
    | with_reducible refine State.loadIns_follows ?_
    | split
    | dsimp only

theorem execSb_follows {s a0 a1 a2 a3 : _} : ∃ t, execSb a0 a1 a2 a3 s = .next t ∧ s.Follows t := by
  refine ⟨_, rfl, ?_⟩
  have h := State.Follows.refl s
  repeat' first
    | with_reducible assumption
    | with_reducible refine State.storeIns_follows ?_
    | split
    | dsimp only

theorem execSh_follows {s a0 a1 a2 a3 : _} : ∃ t, execSh a0 a1 a2 a3 s = .next t ∧ s.Follows t := by
  refine ⟨_, rfl, ?_⟩
  have h := State.Follows.refl s
  repeat' first
    | with_reducible assumption
    | with_reducible refine State.storeIns_follows ?_
    | split
    | dsimp only

theorem execSw_follows {s a0 a1 a2 a3 : _} : ∃ t, execSw a0 a1 a2 a3 s = .next t ∧ s.Follows t := by
  refine ⟨_, rfl, ?_⟩
  have h := State.Follows.refl s
  repeat' first
    | with_reducible assumption
    | with_reducible refine State.storeIns_follows ?_
    | split
    | dsimp only

theorem execSd_follows {s a0 a1 a2 a3 : _} : ∃ t, execSd a0 a1 a2 a3 s = .next t ∧ s.Follows t := by
  refine ⟨_, rfl, ?_⟩
  have h := State.Follows.refl s
  repeat' first
    | with_reducible assumption
    | with_reducible refine State.storeIns_follows ?_
    | split
    | dsimp only

theorem execFlw_follows {s a0 a1 a2 a3 : _} : ∃ t, execFlw a0 a1 a2 a3 s = .next t ∧ s.Follows t := by
  refine ⟨_, rfl, ?_⟩
  have h := State.Follows.refl s
  repeat' first
    | with_reducible assumption
    | with_reducible refine State.floadIns_follows ?_
    | split
    | dsimp only

theorem execFld_follows {s a0 a1 a2 a3 : _} : ∃ t, execFld a0 a1 a2 a3 s = .next t ∧ s.Follows t := by
  refine ⟨_, rfl, ?_⟩
  have h := State.Follows.refl s
  repeat' first
    | with_reducible assumption
    | with_reducible refine State.floadIns_follows ?_
    | split
    | dsimp only

theorem execFsw_follows {s a0 a1 a2 a3 : _} : ∃ t, execFsw a0 a1 a2 a3 s = .next t ∧ s.Follows t := by
  refine ⟨_, rfl, ?_⟩
  have h := State.Follows.refl s
  repeat' first
    | with_reducible assumption
    | with_reducible refine State.fstoreIns_follows ?_
    | split
    | dsimp only

theorem execFsd_follows {s a0 a1 a2 a3 : _} : ∃ t, execFsd a0 a1 a2 a3 s = .next t ∧ s.Follows t := by
  refine ⟨_, rfl, ?_⟩
  have h := State.Follows.refl s
  repeat' first
    | with_reducible assumption
    | with_reducible refine State.fstoreIns_follows ?_
    | split
    | dsimp only

theorem execLr_follows {s a0 a1 a2 a3 a4 a5 : _} : ∃ t, execLr a0 a1 a2 a3 a4 a5 s = .next t ∧ s.Follows t := by
  refine ⟨_, rfl, ?_⟩
  have h := State.Follows.refl s
  repeat' first
    | with_reducible assumption
    | with_reducible refine State.ins_follows ?_ (fun _ _ => ?_)
    | with_reducible refine State.memory_follows ?_
    | split
    | dsimp only

theorem execSc_follows {s a0 a1 a2 a3 a4 a5 a6 : _} : ∃ t, execSc a0 a1 a2 a3 a4 a5 a6 s = .next t ∧ s.Follows t := by
  refine ⟨_, rfl, ?_⟩
  have h := State.Follows.refl s
  repeat' first
    | with_reducible assumption
    | with_reducible refine State.atomIns_follows ?_
    | split
    | dsimp only

theorem execSwapAtomic_follows {s a0 a1 a2 a3 a4 a5 a6 : _} : ∃ t, execSwapAtomic a0 a1 a2 a3 a4 a5 a6 s = .next t ∧ s.Follows t := by
  refine ⟨_, rfl, ?_⟩
  have h := State.Follows.refl s
  repeat' first
    | with_reducible assumption
    | with_reducible refine State.atomIns_follows ?_
    | split
    | dsimp only

theorem execAadd_follows {s a0 a1 a2 a3 a4 a5 a6 : _} : ∃ t, execAadd a0 a1 a2 a3 a4 a5 a6 s = .next t ∧ s.Follows t := by
  refine ⟨_, rfl, ?_⟩
  have h := State.Follows.refl s
  repeat' first
    | with_reducible assumption
    | with_reducible refine State.atomIns_follows ?_
    | split
    | dsimp only

theorem execAand_follows {s a0 a1 a2 a3 a4 a5 a6 : _} : ∃ t, execAand a0 a1 a2 a3 a4 a5 a6 s = .next t ∧ s.Follows t := by
  refine ⟨_, rfl, ?_⟩
  have h := State.Follows.refl s
  repeat' first
    | with_reducible assumption
    | with_reducible refine State.atomIns_follows ?_
    | split
    | dsimp only

theorem execAor_follows {s a0 a1 a2 a3 a4 a5 a6 : _} : ∃ t, execAor a0 a1 a2 a3 a4 a5 a6 s = .next t ∧ s.Follows t := by
  refine ⟨_, rfl, ?_⟩
  have h := State.Follows.refl s
  repeat' first
    | with_reducible assumption
    | with_reducible refine State.atomIns_follows ?_
    | split
    | dsimp only

theorem execAxor_follows {s a0 a1 a2 a3 a4 a5 a6 : _} : ∃ t, execAxor a0 a1 a2 a3 a4 a5 a6 s = .next t ∧ s.Follows t := by
  refine ⟨_, rfl, ?_⟩
  have h := State.Follows.refl s
  repeat' first
    | with_reducible assumption
    | with_reducible refine State.atomIns_follows ?_
    | split
    | dsimp only

theorem execAmin_follows {s a0 a1 a2 a3 a4 a5 a6 : _} : ∃ t, execAmin a0 a1 a2 a3 a4 a5 a6 s = .next t ∧ s.Follows t := by
  refine ⟨_, rfl, ?_⟩
  have h := State.Follows.refl s
  repeat' first
    | with_reducible assumption
    | with_reducible refine State.atomIns_follows ?_
    | split
    | dsimp only

theorem execAmax_follows {s a0 a1 a2 a3 a4 a5 a6 : _} : ∃ t, execAmax a0 a1 a2 a3 a4 a5 a6 s = .next t ∧ s.Follows t := by
  refine ⟨_, rfl, ?_⟩
  have h := State.Follows.refl s
  repeat' first
    | with_reducible assumption
    | with_reducible refine State.atomIns_follows ?_
    | split
    | dsimp only

theorem execAminu_follows {s a0 a1 a2 a3 a4 a5 a6 : _} : ∃ t, execAminu a0 a1 a2 a3 a4 a5 a6 s = .next t ∧ s.Follows t := by
  refine ⟨_, rfl, ?_⟩
  have h := State.Follows.refl s
  repeat' first
    | with_reducible assumption
    | with_reducible refine State.atomIns_follows ?_
    | split
    | dsimp only

theorem execAmaxu_follows {s a0 a1 a2 a3 a4 a5 a6 : _} : ∃ t, execAmaxu a0 a1 a2 a3 a4 a5 a6 s = .next t ∧ s.Follows t := by
  refine ⟨_, rfl, ?_⟩
  have h := State.Follows.refl s
  repeat' first
    | with_reducible assumption
    | with_reducible refine State.atomIns_follows ?_
    | split
    | dsimp only

theorem execCas_follows {s a0 a1 a2 a3 a4 a5 a6 : _} : ∃ t, execCas a0 a1 a2 a3 a4 a5 a6 s = .next t ∧ s.Follows t := by
  refine ⟨_, rfl, ?_⟩
  have h := State.Follows.refl s
  repeat' first
    | with_reducible assumption
    | with_reducible refine State.atomIns_follows ?_
    | split
    | dsimp only

end Sys2Proof.Machine
end

