-- ==== Sys2Proof/Laws/FollowsIblekFloat.lean ====
section
/-!
SUPPORT. Every operation of Machine/IblekFloat answers a state that follows (State.Follows).
-/
namespace Sys2Proof.Machine

theorem State.fpIns_follows {z s : State} {a1 a2 a3 a4} (h : z.Follows s) : z.Follows (State.fpIns s a1 a2 a3 a4) := by
  unfold State.fpIns
  repeat' first
    | with_reducible assumption
    | with_reducible refine State.ins_follows ?_ (fun _ _ => ?_)
    | with_reducible refine State.raise_follows ?_
    | with_reducible refine State.advance_follows ?_
    | split
    | dsimp only

theorem State.fop2_follows {z s : State} {a1 a2 a3 a4 a5 a6 a7 a8} (h : z.Follows s) : z.Follows (State.fop2 s a1 a2 a3 a4 a5 a6 a7 a8) := by
  unfold State.fop2
  repeat' first
    | with_reducible assumption
    | with_reducible refine State.fpIns_follows ?_
    | split
    | dsimp only

theorem State.fused_follows {z s : State} {a1 a2 a3 a4 a5 a6 a7 a8 a9 a10} (h : z.Follows s) : z.Follows (State.fused s a1 a2 a3 a4 a5 a6 a7 a8 a9 a10) := by
  unfold State.fused
  repeat' first
    | with_reducible assumption
    | with_reducible refine State.fpIns_follows ?_
    | split
    | dsimp only

theorem execFadd_follows {s a0 a1 a2 a3 a4 a5 : _} : ∃ t, execFadd a0 a1 a2 a3 a4 a5 s = .next t ∧ s.Follows t := by
  refine ⟨_, rfl, ?_⟩
  have h := State.Follows.refl s
  repeat' first
    | with_reducible assumption
    | with_reducible refine State.fop2_follows ?_
    | split
    | dsimp only

theorem execFsub_follows {s a0 a1 a2 a3 a4 a5 : _} : ∃ t, execFsub a0 a1 a2 a3 a4 a5 s = .next t ∧ s.Follows t := by
  refine ⟨_, rfl, ?_⟩
  have h := State.Follows.refl s
  repeat' first
    | with_reducible assumption
    | with_reducible refine State.fop2_follows ?_
    | split
    | dsimp only

theorem execFmul_follows {s a0 a1 a2 a3 a4 a5 : _} : ∃ t, execFmul a0 a1 a2 a3 a4 a5 s = .next t ∧ s.Follows t := by
  refine ⟨_, rfl, ?_⟩
  have h := State.Follows.refl s
  repeat' first
    | with_reducible assumption
    | with_reducible refine State.fop2_follows ?_
    | split
    | dsimp only

theorem execFdiv_follows {s a0 a1 a2 a3 a4 a5 : _} : ∃ t, execFdiv a0 a1 a2 a3 a4 a5 s = .next t ∧ s.Follows t := by
  refine ⟨_, rfl, ?_⟩
  have h := State.Follows.refl s
  repeat' first
    | with_reducible assumption
    | with_reducible refine State.fop2_follows ?_
    | split
    | dsimp only

theorem execFmin_follows {s a0 a1 a2 a3 a4 a5 : _} : ∃ t, execFmin a0 a1 a2 a3 a4 a5 s = .next t ∧ s.Follows t := by
  refine ⟨_, rfl, ?_⟩
  have h := State.Follows.refl s
  repeat' first
    | with_reducible assumption
    | with_reducible refine State.fop2_follows ?_
    | split
    | dsimp only

theorem execFmax_follows {s a0 a1 a2 a3 a4 a5 : _} : ∃ t, execFmax a0 a1 a2 a3 a4 a5 s = .next t ∧ s.Follows t := by
  refine ⟨_, rfl, ?_⟩
  have h := State.Follows.refl s
  repeat' first
    | with_reducible assumption
    | with_reducible refine State.fop2_follows ?_
    | split
    | dsimp only

theorem execFsgnj_follows {s a0 a1 a2 a3 a4 a5 : _} : ∃ t, execFsgnj a0 a1 a2 a3 a4 a5 s = .next t ∧ s.Follows t := by
  refine ⟨_, rfl, ?_⟩
  have h := State.Follows.refl s
  repeat' first
    | with_reducible assumption
    | with_reducible refine State.fop2_follows ?_
    | split
    | dsimp only

theorem execFsgnjn_follows {s a0 a1 a2 a3 a4 a5 : _} : ∃ t, execFsgnjn a0 a1 a2 a3 a4 a5 s = .next t ∧ s.Follows t := by
  refine ⟨_, rfl, ?_⟩
  have h := State.Follows.refl s
  repeat' first
    | with_reducible assumption
    | with_reducible refine State.fop2_follows ?_
    | split
    | dsimp only

theorem execFsgnjx_follows {s a0 a1 a2 a3 a4 a5 : _} : ∃ t, execFsgnjx a0 a1 a2 a3 a4 a5 s = .next t ∧ s.Follows t := by
  refine ⟨_, rfl, ?_⟩
  have h := State.Follows.refl s
  repeat' first
    | with_reducible assumption
    | with_reducible refine State.fop2_follows ?_
    | split
    | dsimp only

theorem execFeq_follows {s a0 a1 a2 a3 a4 a5 : _} : ∃ t, execFeq a0 a1 a2 a3 a4 a5 s = .next t ∧ s.Follows t := by
  refine ⟨_, rfl, ?_⟩
  have h := State.Follows.refl s
  repeat' first
    | with_reducible assumption
    | with_reducible refine State.fop2_follows ?_
    | split
    | dsimp only

theorem execFlt_follows {s a0 a1 a2 a3 a4 a5 : _} : ∃ t, execFlt a0 a1 a2 a3 a4 a5 s = .next t ∧ s.Follows t := by
  refine ⟨_, rfl, ?_⟩
  have h := State.Follows.refl s
  repeat' first
    | with_reducible assumption
    | with_reducible refine State.fop2_follows ?_
    | split
    | dsimp only

theorem execFle_follows {s a0 a1 a2 a3 a4 a5 : _} : ∃ t, execFle a0 a1 a2 a3 a4 a5 s = .next t ∧ s.Follows t := by
  refine ⟨_, rfl, ?_⟩
  have h := State.Follows.refl s
  repeat' first
    | with_reducible assumption
    | with_reducible refine State.fop2_follows ?_
    | split
    | dsimp only

theorem execFsqrt_follows {s a0 a1 a2 a3 a4 : _} : ∃ t, execFsqrt a0 a1 a2 a3 a4 s = .next t ∧ s.Follows t := by
  refine ⟨_, rfl, ?_⟩
  have h := State.Follows.refl s
  repeat' first
    | with_reducible assumption
    | with_reducible refine State.fop2_follows ?_
    | split
    | dsimp only

theorem execFclass_follows {s a0 a1 a2 a3 a4 : _} : ∃ t, execFclass a0 a1 a2 a3 a4 s = .next t ∧ s.Follows t := by
  refine ⟨_, rfl, ?_⟩
  have h := State.Follows.refl s
  repeat' first
    | with_reducible assumption
    | with_reducible refine State.fop2_follows ?_
    | split
    | dsimp only

theorem execFcvtFI_follows {s a0 a1 a2 a3 a4 : _} : ∃ t, execFcvtFI a0 a1 a2 a3 a4 s = .next t ∧ s.Follows t := by
  refine ⟨_, rfl, ?_⟩
  have h := State.Follows.refl s
  repeat' first
    | with_reducible assumption
    | with_reducible refine State.fop2_follows ?_
    | split
    | dsimp only

theorem execFcvtFIu_follows {s a0 a1 a2 a3 a4 : _} : ∃ t, execFcvtFIu a0 a1 a2 a3 a4 s = .next t ∧ s.Follows t := by
  refine ⟨_, rfl, ?_⟩
  have h := State.Follows.refl s
  repeat' first
    | with_reducible assumption
    | with_reducible refine State.fop2_follows ?_
    | split
    | dsimp only

theorem execFcvtIF_follows {s a0 a1 a2 a3 a4 : _} : ∃ t, execFcvtIF a0 a1 a2 a3 a4 s = .next t ∧ s.Follows t := by
  refine ⟨_, rfl, ?_⟩
  have h := State.Follows.refl s
  repeat' first
    | with_reducible assumption
    | with_reducible refine State.fop2_follows ?_
    | split
    | dsimp only

theorem execFcvtIuF_follows {s a0 a1 a2 a3 a4 : _} : ∃ t, execFcvtIuF a0 a1 a2 a3 a4 s = .next t ∧ s.Follows t := by
  refine ⟨_, rfl, ?_⟩
  have h := State.Follows.refl s
  repeat' first
    | with_reducible assumption
    | with_reducible refine State.fop2_follows ?_
    | split
    | dsimp only

theorem execFcvtP_follows {s a0 a1 a2 a3 a4 : _} : ∃ t, execFcvtP a0 a1 a2 a3 a4 s = .next t ∧ s.Follows t := by
  refine ⟨_, rfl, ?_⟩
  have h := State.Follows.refl s
  repeat' first
    | with_reducible assumption
    | with_reducible refine State.fop2_follows ?_
    | split
    | dsimp only

theorem execFmvIF_follows {s a0 a1 a2 a3 a4 : _} : ∃ t, execFmvIF a0 a1 a2 a3 a4 s = .next t ∧ s.Follows t := by
  refine ⟨_, rfl, ?_⟩
  have h := State.Follows.refl s
  repeat' first
    | with_reducible assumption
    | with_reducible refine State.fop2_follows ?_
    | split
    | dsimp only

theorem execFmvFI_follows {s a0 a1 a2 a3 a4 : _} : ∃ t, execFmvFI a0 a1 a2 a3 a4 s = .next t ∧ s.Follows t := by
  refine ⟨_, rfl, ?_⟩
  have h := State.Follows.refl s
  repeat' first
    | with_reducible assumption
    | with_reducible refine State.fop2_follows ?_
    | split
    | dsimp only

theorem execFmadd_follows {s a0 a1 a2 a3 a4 a5 a6 : _} : ∃ t, execFmadd a0 a1 a2 a3 a4 a5 a6 s = .next t ∧ s.Follows t := by
  refine ⟨_, rfl, ?_⟩
  have h := State.Follows.refl s
  repeat' first
    | with_reducible assumption
    | with_reducible refine State.fused_follows ?_
    | split
    | dsimp only

theorem execFmsub_follows {s a0 a1 a2 a3 a4 a5 a6 : _} : ∃ t, execFmsub a0 a1 a2 a3 a4 a5 a6 s = .next t ∧ s.Follows t := by
  refine ⟨_, rfl, ?_⟩
  have h := State.Follows.refl s
  repeat' first
    | with_reducible assumption
    | with_reducible refine State.fused_follows ?_
    | split
    | dsimp only

theorem execFnmadd_follows {s a0 a1 a2 a3 a4 a5 a6 : _} : ∃ t, execFnmadd a0 a1 a2 a3 a4 a5 a6 s = .next t ∧ s.Follows t := by
  refine ⟨_, rfl, ?_⟩
  have h := State.Follows.refl s
  repeat' first
    | with_reducible assumption
    | with_reducible refine State.fused_follows ?_
    | split
    | dsimp only

theorem execFnmsub_follows {s a0 a1 a2 a3 a4 a5 a6 : _} : ∃ t, execFnmsub a0 a1 a2 a3 a4 a5 a6 s = .next t ∧ s.Follows t := by
  refine ⟨_, rfl, ?_⟩
  have h := State.Follows.refl s
  repeat' first
    | with_reducible assumption
    | with_reducible refine State.fused_follows ?_
    | split
    | dsimp only

end Sys2Proof.Machine
end

