-- ==== Sys2Proof/Laws/FollowsIblekSys.lean ====
section
/-!
SUPPORT. Every operation of Machine/IblekSys answers a state that follows (State.Follows).
-/
namespace Sys2Proof.Machine

theorem State.srRead_follows {z s : State} {a1 a2} (h : z.Follows s) : z.Follows (State.srRead s a1 a2) := by
  unfold State.srRead
  repeat' first
    | with_reducible assumption
    | with_reducible refine State.setCore_follows ?_
    | with_reducible refine State.takeFree_follows ?_
    | split
    | dsimp only

theorem State.srIns_follows {z s : State} {a1 a2 a3 a4 a5 a6} (h : z.Follows s) : z.Follows (State.srIns s a1 a2 a3 a4 a5 a6) := by
  unfold State.srIns
  repeat' first
    | with_reducible assumption
    | with_reducible refine State.ins_follows ?_ (fun _ _ => ?_)
    | with_reducible refine State.srRead_follows ?_
    | with_reducible refine State.raise_follows ?_
    | with_reducible refine State.privileged_follows ?_
    | with_reducible refine State.advance_follows ?_
    | split
    | dsimp only

theorem State.sysIns_follows {z s : State} {c sub word sup body} (h : z.Follows s)
    (hb : ∀ t, z.Follows t → z.Follows (body t)) : z.Follows (State.sysIns s c sub word sup body) := by
  unfold State.sysIns
  refine State.ins_follows h (fun t ht => ?_)
  repeat' first
    | with_reducible assumption
    | with_reducible refine State.raise_follows ?_
    | with_reducible refine State.privileged_follows ?_
    | with_reducible refine hb _ ?_
    | split
    | dsimp only

theorem execSrswap_follows {s a0 a1 a2 a3 : _} : ∃ t, execSrswap a0 a1 a2 a3 s = .next t ∧ s.Follows t := by
  refine ⟨_, rfl, ?_⟩
  have h := State.Follows.refl s
  repeat' first
    | with_reducible assumption
    | with_reducible refine State.srIns_follows ?_
    | split
    | dsimp only

theorem execSrset_follows {s a0 a1 a2 a3 : _} : ∃ t, execSrset a0 a1 a2 a3 s = .next t ∧ s.Follows t := by
  refine ⟨_, rfl, ?_⟩
  have h := State.Follows.refl s
  repeat' first
    | with_reducible assumption
    | with_reducible refine State.srIns_follows ?_
    | split
    | dsimp only

theorem execSrclr_follows {s a0 a1 a2 a3 : _} : ∃ t, execSrclr a0 a1 a2 a3 s = .next t ∧ s.Follows t := by
  refine ⟨_, rfl, ?_⟩
  have h := State.Follows.refl s
  repeat' first
    | with_reducible assumption
    | with_reducible refine State.srIns_follows ?_
    | split
    | dsimp only

theorem execEcall_follows {s a0 : _} : ∃ t, execEcall a0 s = .next t ∧ s.Follows t := by
  refine ⟨_, rfl, ?_⟩
  have h := State.Follows.refl s
  repeat' first
    | with_reducible assumption
    | with_reducible refine State.raise_follows ?_
    | with_reducible refine State.sysIns_follows ?_ (fun _ _ => ?_)
    | split
    | dsimp only

theorem execEbreak_follows {s a0 : _} : ∃ t, execEbreak a0 s = .next t ∧ s.Follows t := by
  refine ⟨_, rfl, ?_⟩
  have h := State.Follows.refl s
  repeat' first
    | with_reducible assumption
    | with_reducible refine State.ins_follows ?_ (fun _ _ => ?_)
    | with_reducible refine State.raise_follows ?_
    | with_reducible refine State.setCore_follows ?_
    | with_reducible refine State.advance_follows ?_
    | split
    | dsimp only

theorem execEret_follows {s a0 : _} : ∃ t, execEret a0 s = .next t ∧ s.Follows t := by
  refine ⟨_, rfl, ?_⟩
  have h := State.Follows.refl s
  repeat' first
    | with_reducible assumption
    | with_reducible refine State.setCore_follows ?_
    | with_reducible refine State.sysIns_follows ?_ (fun _ _ => ?_)
    | split
    | dsimp only

theorem execWfi_follows {s a0 : _} : ∃ t, execWfi a0 s = .next t ∧ s.Follows t := by
  refine ⟨_, rfl, ?_⟩
  have h := State.Follows.refl s
  repeat' first
    | with_reducible assumption
    | with_reducible refine State.setCore_follows ?_
    | with_reducible refine State.sysIns_follows ?_ (fun _ _ => ?_)
    | with_reducible refine State.advance_follows ?_
    | split
    | dsimp only

theorem execFence_follows {s a0 a1 a2 : _} : ∃ t, execFence a0 a1 a2 s = .next t ∧ s.Follows t := by
  refine ⟨_, rfl, ?_⟩
  have h := State.Follows.refl s
  repeat' first
    | with_reducible assumption
    | with_reducible refine State.ins_follows ?_ (fun _ _ => ?_)
    | with_reducible refine State.advance_follows ?_
    | split
    | dsimp only

theorem execIsync_follows {s a0 : _} : ∃ t, execIsync a0 s = .next t ∧ s.Follows t := by
  refine ⟨_, rfl, ?_⟩
  have h := State.Follows.refl s
  repeat' first
    | with_reducible assumption
    | with_reducible refine State.ins_follows ?_ (fun _ _ => ?_)
    | with_reducible refine State.advance_follows ?_
    | split
    | dsimp only

theorem execTlbinv_follows {s a0 a1 a2 a3 : _} : ∃ t, execTlbinv a0 a1 a2 a3 s = .next t ∧ s.Follows t := by
  refine ⟨_, rfl, ?_⟩
  have h := State.Follows.refl s
  repeat' first
    | with_reducible assumption
    | with_reducible refine State.sysIns_follows ?_ (fun _ _ => ?_)
    | with_reducible refine State.advance_follows ?_
    | split
    | dsimp only

theorem execInterruptEntry_follows {s a0 : _} : ∃ t, execInterruptEntry a0 s = .next t ∧ s.Follows t := by
  refine ⟨_, rfl, ?_⟩
  have h := State.Follows.refl s
  repeat' first
    | with_reducible assumption
    | with_reducible refine State.setCore_follows ?_
    | split
    | dsimp only

theorem execWfiResume_follows {s a0 : _} : ∃ t, execWfiResume a0 s = .next t ∧ s.Follows t := by
  refine ⟨_, rfl, ?_⟩
  have h := State.Follows.refl s
  repeat' first
    | with_reducible assumption
    | with_reducible refine State.setCore_follows ?_
    | split
    | dsimp only

theorem execImpreciseStoreError_follows {s a0 a1 a2 : _} : ∃ t, execImpreciseStoreError a0 a1 a2 s = .next t ∧ s.Follows t := by
  refine ⟨_, rfl, ?_⟩
  have h := State.Follows.refl s
  repeat' first
    | with_reducible assumption
    | with_reducible refine State.raise_follows ?_
    | with_reducible refine State.setCore_follows ?_
    | split
    | dsimp only

end Sys2Proof.Machine
end

