-- ==== Sys2Proof/Laws/FollowsKeeperCommands.lean ====
section
/-!
SUPPORT. Every operation of Machine/KeeperCommands answers a state that follows (State.Follows).
-/
namespace Sys2Proof.Machine

theorem execLockstepMismatch_follows {s : _} : ∃ t, execLockstepMismatch s = .next t ∧ s.Follows t := by
  refine ⟨_, rfl, ?_⟩
  have h := State.Follows.refl s
  repeat' first
    | with_reducible assumption
    | with_reducible refine State.snowplough_follows ?_
    | split
    | dsimp only

theorem execWatchdogKick_follows {s : _} : ∃ t, execWatchdogKick s = .next t ∧ s.Follows t := by
  refine ⟨_, rfl, ?_⟩
  have h := State.Follows.refl s
  repeat' first
    | with_reducible assumption
    | with_reducible refine State.busWrite_follows ?_
    | split
    | dsimp only

theorem execWatchdogExpiry_follows {s : _} : ∃ t, execWatchdogExpiry s = .next t ∧ s.Follows t := by
  refine ⟨_, rfl, ?_⟩
  have h := State.Follows.refl s
  repeat' first
    | with_reducible assumption
    | with_reducible refine State.watchdogExpiry_follows ?_
    | split
    | dsimp only

theorem execDoorbellWrite_follows {s a0 a1 : _} : ∃ t, execDoorbellWrite a0 a1 s = .next t ∧ s.Follows t := by
  refine ⟨_, rfl, ?_⟩
  have h := State.Follows.refl s
  repeat' first
    | with_reducible assumption
    | with_reducible refine State.plainAccess_follows ?_
    | split
    | dsimp only

theorem execDoorbellAck_follows {s : _} : ∃ t, execDoorbellAck s = .next t ∧ s.Follows t := by
  refine ⟨_, rfl, ?_⟩
  have h := State.Follows.refl s
  repeat' first
    | with_reducible assumption
    | with_reducible refine State.busWrite_follows ?_
    | split
    | dsimp only

theorem execDoorbellTimeout_follows {s : _} : ∃ t, execDoorbellTimeout s = .next t ∧ s.Follows t := by
  refine ⟨_, rfl, ?_⟩
  have h := State.Follows.refl s
  repeat' first
    | with_reducible assumption
    | with_reducible refine State.doorbellTimeout_follows ?_
    | split
    | dsimp only

theorem execSnowploughWaitExpiry_follows {s : _} : ∃ t, execSnowploughWaitExpiry s = .next t ∧ s.Follows t := by
  refine ⟨_, rfl, ?_⟩
  have h := State.Follows.refl s
  repeat' first
    | with_reducible assumption
    | with_reducible refine State.snowWait_follows ?_
    | split
    | dsimp only

theorem execCoreDoubleFault_follows {s a0 : _} : ∃ t, execCoreDoubleFault a0 s = .next t ∧ s.Follows t := by
  refine ⟨_, rfl, ?_⟩
  have h := State.Follows.refl s
  repeat' first
    | with_reducible assumption
    | with_reducible refine State.coreDoubleFault_follows ?_
    | split
    | dsimp only

theorem execAllCoresHeldExpiry_follows {s : _} : ∃ t, execAllCoresHeldExpiry s = .next t ∧ s.Follows t := by
  refine ⟨_, rfl, ?_⟩
  have h := State.Follows.refl s
  repeat' first
    | with_reducible assumption
    | with_reducible refine State.allHeldExpiry_follows ?_
    | split
    | dsimp only

theorem execKprHoldWrite_follows {s a0 : _} : ∃ t, execKprHoldWrite a0 s = .next t ∧ s.Follows t := by
  refine ⟨_, rfl, ?_⟩
  have h := State.Follows.refl s
  repeat' first
    | with_reducible assumption
    | with_reducible refine State.busWrite_follows ?_
    | split
    | dsimp only

theorem execKprRestart_follows {s a0 : _} : ∃ t, execKprRestart a0 s = .next t ∧ s.Follows t := by
  refine ⟨_, rfl, ?_⟩
  have h := State.Follows.refl s
  repeat' first
    | with_reducible assumption
    | with_reducible refine State.kServe_follows ?_
    | split
    | dsimp only

theorem execWorkStart_follows {s a0 : _} : ∃ t, execWorkStart a0 s = .next t ∧ s.Follows t := by
  refine ⟨_, rfl, ?_⟩
  have h := State.Follows.refl s
  repeat' first
    | with_reducible assumption
    | with_reducible refine State.kServe_follows ?_
    | split
    | dsimp only

theorem execKprWarm_follows {s a0 : _} : ∃ t, execKprWarm a0 s = .next t ∧ s.Follows t := by
  refine ⟨_, rfl, ?_⟩
  have h := State.Follows.refl s
  repeat' first
    | with_reducible assumption
    | with_reducible refine State.kServe_follows ?_
    | split
    | dsimp only

theorem execImgPages_follows {s a0 : _} : ∃ t, execImgPages a0 s = .next t ∧ s.Follows t := by
  refine ⟨_, rfl, ?_⟩
  have h := State.Follows.refl s
  repeat' first
    | with_reducible assumption
    | with_reducible refine State.kServe_follows ?_
    | split
    | dsimp only

theorem execImgActivate_follows {s a0 : _} : ∃ t, execImgActivate a0 s = .next t ∧ s.Follows t := by
  refine ⟨_, rfl, ?_⟩
  have h := State.Follows.refl s
  repeat' first
    | with_reducible assumption
    | with_reducible refine State.kServe_follows ?_
    | split
    | dsimp only

theorem execImgConfirm_follows {s a0 : _} : ∃ t, execImgConfirm a0 s = .next t ∧ s.Follows t := by
  refine ⟨_, rfl, ?_⟩
  have h := State.Follows.refl s
  repeat' first
    | with_reducible assumption
    | with_reducible refine State.kServe_follows ?_
    | split
    | dsimp only

theorem execKeyLoadw_follows {s a0 : _} : ∃ t, execKeyLoadw a0 s = .next t ∧ s.Follows t := by
  refine ⟨_, rfl, ?_⟩
  have h := State.Follows.refl s
  repeat' first
    | with_reducible assumption
    | with_reducible refine State.kServe_follows ?_
    | split
    | dsimp only

theorem execKeyTransport_follows {s a0 : _} : ∃ t, execKeyTransport a0 s = .next t ∧ s.Follows t := by
  refine ⟨_, rfl, ?_⟩
  have h := State.Follows.refl s
  repeat' first
    | with_reducible assumption
    | with_reducible refine State.kServe_follows ?_
    | split
    | dsimp only

theorem execKeyClear_follows {s a0 : _} : ∃ t, execKeyClear a0 s = .next t ∧ s.Follows t := by
  refine ⟨_, rfl, ?_⟩
  have h := State.Follows.refl s
  repeat' first
    | with_reducible assumption
    | with_reducible refine State.kServe_follows ?_
    | split
    | dsimp only

theorem execKeyWrap_follows {s a0 : _} : ∃ t, execKeyWrap a0 s = .next t ∧ s.Follows t := by
  refine ⟨_, rfl, ?_⟩
  have h := State.Follows.refl s
  repeat' first
    | with_reducible assumption
    | with_reducible refine State.kServe_follows ?_
    | split
    | dsimp only

theorem execAuthKey_follows {s a0 : _} : ∃ t, execAuthKey a0 s = .next t ∧ s.Follows t := by
  refine ⟨_, rfl, ?_⟩
  have h := State.Follows.refl s
  repeat' first
    | with_reducible assumption
    | with_reducible refine State.kServe_follows ?_
    | split
    | dsimp only

theorem execRevoke_follows {s a0 : _} : ∃ t, execRevoke a0 s = .next t ∧ s.Follows t := by
  refine ⟨_, rfl, ?_⟩
  have h := State.Follows.refl s
  repeat' first
    | with_reducible assumption
    | with_reducible refine State.kServe_follows ?_
    | split
    | dsimp only

theorem execRearm_follows {s a0 : _} : ∃ t, execRearm a0 s = .next t ∧ s.Follows t := by
  refine ⟨_, rfl, ?_⟩
  have h := State.Follows.refl s
  repeat' first
    | with_reducible assumption
    | with_reducible refine State.kServe_follows ?_
    | split
    | dsimp only

theorem execKprAlarm_follows {s a0 : _} : ∃ t, execKprAlarm a0 s = .next t ∧ s.Follows t := by
  refine ⟨_, rfl, ?_⟩
  have h := State.Follows.refl s
  repeat' first
    | with_reducible assumption
    | with_reducible refine State.kServe_follows ?_
    | split
    | dsimp only

theorem execCalSave_follows {s a0 : _} : ∃ t, execCalSave a0 s = .next t ∧ s.Follows t := by
  refine ⟨_, rfl, ?_⟩
  have h := State.Follows.refl s
  repeat' first
    | with_reducible assumption
    | with_reducible refine State.kServe_follows ?_
    | split
    | dsimp only

theorem execPassLoad_follows {s a0 a1 : _} : ∃ t, execPassLoad a0 a1 s = .next t ∧ s.Follows t := by
  refine ⟨_, rfl, ?_⟩
  have h := State.Follows.refl s
  repeat' first
    | with_reducible assumption
    | with_reducible refine State.busWrite_follows ?_
    | split
    | dsimp only

theorem execPassVerifyDone_follows {s : _} : ∃ t, execPassVerifyDone s = .next t ∧ s.Follows t := by
  refine ⟨_, rfl, ?_⟩
  have h := State.Follows.refl s
  repeat' first
    | with_reducible assumption
    | with_reducible refine State.passVerify_follows ?_
    | split
    | dsimp only

theorem execPassRelease_follows {s a0 a1 : _} : ∃ t, execPassRelease a0 a1 s = .next t ∧ s.Follows t := by
  refine ⟨_, rfl, ?_⟩
  have h := State.Follows.refl s
  repeat' first
    | with_reducible assumption
    | with_reducible refine State.busWrite_follows ?_
    | split
    | dsimp only

theorem execPassSlotEnd_follows {s a0 : _} : ∃ t, execPassSlotEnd a0 s = .next t ∧ s.Follows t := by
  refine ⟨_, rfl, ?_⟩
  have h := State.Follows.refl s
  repeat' first
    | with_reducible assumption
    | with_reducible refine State.passSlotEnd_follows ?_
    | split
    | dsimp only

theorem execTimeFloorWrite_follows {s : _} : ∃ t, execTimeFloorWrite s = .next t ∧ s.Follows t := by
  refine ⟨_, rfl, ?_⟩
  have h := State.Follows.refl s
  repeat' first
    | with_reducible assumption
    | with_reducible refine State.floorWrite_follows ?_
    | split
    | dsimp only

theorem execTrialRevert_follows {s : _} : ∃ t, execTrialRevert s = .next t ∧ s.Follows t := by
  refine ⟨_, rfl, ?_⟩
  have h := State.Follows.refl s
  repeat' first
    | with_reducible assumption
    | with_reducible refine State.trialRevert_follows ?_
    | split
    | dsimp only

end Sys2Proof.Machine
end

