-- ==== Sys2Proof/Laws/FollowsLedgerCommands.lean ====
section
/-!
SUPPORT. Every operation of Machine/LedgerCommands answers a state that follows (State.Follows).
-/
namespace Sys2Proof.Machine

theorem execStoreRead_follows {s : _} : ∃ t, execStoreRead s = .next t ∧ s.Follows t := by
  refine ⟨_, rfl, ?_⟩
  have h := State.Follows.refl s
  repeat' first
    | with_reducible assumption
    | with_reducible refine State.ldgRun_follows ?_
    | split
    | dsimp only

theorem execStoreWrite_follows {s : _} : ∃ t, execStoreWrite s = .next t ∧ s.Follows t := by
  refine ⟨_, rfl, ?_⟩
  have h := State.Follows.refl s
  repeat' first
    | with_reducible assumption
    | with_reducible refine State.ldgRun_follows ?_
    | split
    | dsimp only

theorem execColdRead_follows {s : _} : ∃ t, execColdRead s = .next t ∧ s.Follows t := by
  refine ⟨_, rfl, ?_⟩
  have h := State.Follows.refl s
  repeat' first
    | with_reducible assumption
    | with_reducible refine State.ldgRun_follows ?_
    | split
    | dsimp only

theorem execColdWrite_follows {s : _} : ∃ t, execColdWrite s = .next t ∧ s.Follows t := by
  refine ⟨_, rfl, ?_⟩
  have h := State.Follows.refl s
  repeat' first
    | with_reducible assumption
    | with_reducible refine State.ldgRun_follows ?_
    | split
    | dsimp only

theorem execCkpt_follows {s : _} : ∃ t, execCkpt s = .next t ∧ s.Follows t := by
  refine ⟨_, rfl, ?_⟩
  have h := State.Follows.refl s
  repeat' first
    | with_reducible assumption
    | with_reducible refine State.ldgRun_follows ?_
    | split
    | dsimp only

theorem execExport_follows {s : _} : ∃ t, execExport s = .next t ∧ s.Follows t := by
  refine ⟨_, rfl, ?_⟩
  have h := State.Follows.refl s
  repeat' first
    | with_reducible assumption
    | with_reducible refine State.ldgRun_follows ?_
    | split
    | dsimp only

theorem execLedgerImport_follows {s : _} : ∃ t, execLedgerImport s = .next t ∧ s.Follows t := by
  refine ⟨_, rfl, ?_⟩
  have h := State.Follows.refl s
  repeat' first
    | with_reducible assumption
    | with_reducible refine State.ldgRun_follows ?_
    | split
    | dsimp only

theorem execImgBegin_follows {s : _} : ∃ t, execImgBegin s = .next t ∧ s.Follows t := by
  refine ⟨_, rfl, ?_⟩
  have h := State.Follows.refl s
  repeat' first
    | with_reducible assumption
    | with_reducible refine State.ldgRun_follows ?_
    | split
    | dsimp only

theorem execImgWrite_follows {s : _} : ∃ t, execImgWrite s = .next t ∧ s.Follows t := by
  refine ⟨_, rfl, ?_⟩
  have h := State.Follows.refl s
  repeat' first
    | with_reducible assumption
    | with_reducible refine State.ldgRun_follows ?_
    | split
    | dsimp only

theorem execImgRead_follows {s : _} : ∃ t, execImgRead s = .next t ∧ s.Follows t := by
  refine ⟨_, rfl, ?_⟩
  have h := State.Follows.refl s
  repeat' first
    | with_reducible assumption
    | with_reducible refine State.ldgRun_follows ?_
    | split
    | dsimp only

theorem execCalAppend_follows {s : _} : ∃ t, execCalAppend s = .next t ∧ s.Follows t := by
  refine ⟨_, rfl, ?_⟩
  have h := State.Follows.refl s
  repeat' first
    | with_reducible assumption
    | with_reducible refine State.ldgRun_follows ?_
    | split
    | dsimp only

theorem execCalRead_follows {s : _} : ∃ t, execCalRead s = .next t ∧ s.Follows t := by
  refine ⟨_, rfl, ?_⟩
  have h := State.Follows.refl s
  repeat' first
    | with_reducible assumption
    | with_reducible refine State.ldgRun_follows ?_
    | split
    | dsimp only

theorem execAudAppend_follows {s : _} : ∃ t, execAudAppend s = .next t ∧ s.Follows t := by
  refine ⟨_, rfl, ?_⟩
  have h := State.Follows.refl s
  repeat' first
    | with_reducible assumption
    | with_reducible refine State.ldgRun_follows ?_
    | split
    | dsimp only

theorem execAudRead_follows {s : _} : ∃ t, execAudRead s = .next t ∧ s.Follows t := by
  refine ⟨_, rfl, ?_⟩
  have h := State.Follows.refl s
  repeat' first
    | with_reducible assumption
    | with_reducible refine State.ldgRun_follows ?_
    | split
    | dsimp only

theorem execKwrite_follows {s : _} : ∃ t, execKwrite s = .next t ∧ s.Follows t := by
  refine ⟨_, rfl, ?_⟩
  have h := State.Follows.refl s
  repeat' first
    | with_reducible assumption
    | with_reducible refine State.ldgRun_follows ?_
    | split
    | dsimp only

theorem execKread_follows {s : _} : ∃ t, execKread s = .next t ∧ s.Follows t := by
  refine ⟨_, rfl, ?_⟩
  have h := State.Follows.refl s
  repeat' first
    | with_reducible assumption
    | with_reducible refine State.moduleLost_follows ?_
    | with_reducible refine State.ldgRun_follows ?_
    | split
    | dsimp only

theorem execJournalEntryDurable_follows {s : _} : ∃ t, execJournalEntryDurable s = .next t ∧ s.Follows t := by
  refine ⟨_, rfl, ?_⟩
  have h := State.Follows.refl s
  repeat' first
    | with_reducible assumption
    | with_reducible refine State.sealOldest_follows ?_
    | split
    | dsimp only

theorem execJournalApply_follows {s : _} : ∃ t, execJournalApply s = .next t ∧ s.Follows t := by
  refine ⟨_, rfl, ?_⟩
  have h := State.Follows.refl s
  repeat' first
    | with_reducible assumption
    | with_reducible refine State.applyOne_follows ?_
    | split
    | dsimp only

theorem execCheckpoint_follows {s a0 : _} : ∃ t, execCheckpoint a0 s = .next t ∧ s.Follows t := by
  refine ⟨_, rfl, ?_⟩
  have h := State.Follows.refl s
  repeat' first
    | with_reducible assumption
    | with_reducible refine State.runCkpt_follows ?_
    | split
    | dsimp only

theorem execNandProgramDone_follows {s a0 a1 : _} : ∃ t, execNandProgramDone a0 a1 s = .next t ∧ s.Follows t := by
  refine ⟨_, rfl, ?_⟩
  have h := State.Follows.refl s
  repeat' first
    | with_reducible assumption
    | with_reducible refine State.progDone_follows ?_
    | split
    | dsimp only

theorem execNandEraseDone_follows {s a0 a1 : _} : ∃ t, execNandEraseDone a0 a1 s = .next t ∧ s.Follows t := by
  refine ⟨_, rfl, ?_⟩
  have h := State.Follows.refl s
  repeat' first
    | with_reducible assumption
    | with_reducible refine State.eraseDone_follows ?_
    | split
    | dsimp only

theorem execRebuildDone_follows {s : _} : ∃ t, execRebuildDone s = .next t ∧ s.Follows t := by
  refine ⟨_, rfl, ?_⟩
  have h := State.Follows.refl s
  repeat' first
    | with_reducible assumption
    | with_reducible refine State.rebuildDone_follows ?_
    | split
    | dsimp only

theorem execGarbageCollect_follows {s : _} : ∃ t, execGarbageCollect s = .next t ∧ s.Follows t := by
  refine ⟨_, rfl, ?_⟩
  have h := State.Follows.refl s
  repeat' first
    | with_reducible assumption
    | with_reducible refine State.collect_follows ?_
    | split
    | dsimp only

theorem execWearLevelMove_follows {s : _} : ∃ t, execWearLevelMove s = .next t ∧ s.Follows t := by
  refine ⟨_, rfl, ?_⟩
  have h := State.Follows.refl s
  repeat' first
    | with_reducible assumption
    | with_reducible refine State.levelWear_follows ?_
    | split
    | dsimp only

theorem execNandScrub_follows {s a0 : _} : ∃ t, execNandScrub a0 s = .next t ∧ s.Follows t := by
  refine ⟨_, rfl, ?_⟩
  have h := State.Follows.refl s
  repeat' first
    | with_reducible assumption
    | with_reducible refine State.scrubPage_follows ?_
    | split
    | dsimp only

theorem execMramScrub_follows {s : _} : ∃ t, execMramScrub s = .next t ∧ s.Follows t := by
  refine ⟨_, rfl, ?_⟩
  have h := State.Follows.refl s
  repeat' first
    | with_reducible assumption
    | with_reducible refine State.scrubMram_follows ?_
    | with_reducible refine State.moduleLost_follows ?_
    | split
    | dsimp only

theorem execHoldupFlush_follows {s : _} : ∃ t, execHoldupFlush s = .next t ∧ s.Follows t := by
  refine ⟨_, rfl, ?_⟩
  have h := State.Follows.refl s
  repeat' first
    | with_reducible assumption
    | with_reducible refine State.holdupFlush_follows ?_
    | split
    | dsimp only

end Sys2Proof.Machine
end

