-- ==== Sys2Proof/Laws/FollowsLinkCommands.lean ====
section
/-!
SUPPORT. Every operation of Machine/LinkCommands answers a state that follows (State.Follows).
-/
namespace Sys2Proof.Machine

theorem execLapBoundary_follows {s a0 : _} : ∃ t, execLapBoundary a0 s = .next t ∧ s.Follows t := by
  refine ⟨_, rfl, ?_⟩
  have h := State.Follows.refl s
  repeat' first
    | with_reducible assumption
    | with_reducible refine State.lapPulse_follows ?_
    | split
    | dsimp only

theorem execGuardInstant_follows {s a0 a1 a2 : _} : ∃ t, execGuardInstant a0 a1 a2 s = .next t ∧ s.Follows t := by
  refine ⟨_, rfl, ?_⟩
  have h := State.Follows.refl s
  repeat' first
    | with_reducible assumption
    | with_reducible refine State.takeGuard_follows ?_
    | split
    | dsimp only

theorem execOccurrenceOffer_follows {s a0 a1 a2 : _} : ∃ t, execOccurrenceOffer a0 a1 a2 s = .next t ∧ s.Follows t := by
  refine ⟨_, rfl, ?_⟩
  have h := State.Follows.refl s
  repeat' first
    | with_reducible assumption
    | with_reducible refine State.offerOcc_follows ?_
    | split
    | dsimp only

theorem execOccurrenceSkip_follows {s a0 a1 a2 : _} : ∃ t, execOccurrenceSkip a0 a1 a2 s = .next t ∧ s.Follows t := by
  refine ⟨_, rfl, ?_⟩
  have h := State.Follows.refl s
  repeat' first
    | with_reducible assumption
    | with_reducible refine State.skipOcc_follows ?_
    | split
    | dsimp only

theorem execAccWrite_follows {s a0 a1 a2 : _} : ∃ t, execAccWrite a0 a1 a2 s = .next t ∧ s.Follows t := by
  refine ⟨_, rfl, ?_⟩
  have h := State.Follows.refl s
  repeat' first
    | with_reducible assumption
    | with_reducible refine State.busWrite_follows ?_
    | split
    | dsimp only

theorem execEditRead_follows {s a0 a1 a2 : _} : ∃ t, execEditRead a0 a1 a2 s = .next t ∧ s.Follows t := by
  refine ⟨_, rfl, ?_⟩
  have h := State.Follows.refl s
  repeat' first
    | with_reducible assumption
    | with_reducible refine State.busWrite_follows ?_
    | split
    | dsimp only

theorem execAccLoad_follows {s a0 a1 a2 : _} : ∃ t, execAccLoad a0 a1 a2 s = .next t ∧ s.Follows t := by
  refine ⟨_, rfl, ?_⟩
  have h := State.Follows.refl s
  repeat' first
    | with_reducible assumption
    | with_reducible refine State.busWrite_follows ?_
    | split
    | dsimp only

theorem execAccCopy_follows {s a0 a1 a2 : _} : ∃ t, execAccCopy a0 a1 a2 s = .next t ∧ s.Follows t := by
  refine ⟨_, rfl, ?_⟩
  have h := State.Follows.refl s
  repeat' first
    | with_reducible assumption
    | with_reducible refine State.busWrite_follows ?_
    | split
    | dsimp only

theorem execAccEditComplete_follows {s a0 : _} : ∃ t, execAccEditComplete a0 s = .next t ∧ s.Follows t := by
  refine ⟨_, rfl, ?_⟩
  have h := State.Follows.refl s
  repeat' first
    | with_reducible assumption
    | with_reducible refine State.editDone_follows ?_
    | split
    | dsimp only

theorem execContendWindowOpen_follows {s a0 a1 a2 : _} : ∃ t, execContendWindowOpen a0 a1 a2 s = .next t ∧ s.Follows t := by
  refine ⟨_, rfl, ?_⟩
  have h := State.Follows.refl s
  repeat' first
    | with_reducible assumption
    | with_reducible refine State.openWindow_follows ?_
    | split
    | dsimp only

theorem execContendAttemptComplete_follows {s a0 a1 : _} : ∃ t, execContendAttemptComplete a0 a1 s = .next t ∧ s.Follows t := by
  refine ⟨_, rfl, ?_⟩
  have h := State.Follows.refl s
  repeat' first
    | with_reducible assumption
    | with_reducible refine State.attemptComplete_follows ?_
    | split
    | dsimp only

theorem execContendWindowClose_follows {s a0 a1 : _} : ∃ t, execContendWindowClose a0 a1 s = .next t ∧ s.Follows t := by
  refine ⟨_, rfl, ?_⟩
  have h := State.Follows.refl s
  repeat' first
    | with_reducible assumption
    | with_reducible refine State.closeWindow_follows ?_
    | split
    | dsimp only

theorem execLinkHeaderClassify_follows {s : _} : ∃ t, execLinkHeaderClassify s = .next t ∧ s.Follows t := by
  refine ⟨_, rfl, ?_⟩
  have h := State.Follows.refl s
  repeat' first
    | with_reducible assumption
    | with_reducible refine State.classify_follows ?_
    | split
    | dsimp only

theorem execContextFetchDone_follows {s : _} : ∃ t, execContextFetchDone s = .next t ∧ s.Follows t := by
  refine ⟨_, rfl, ?_⟩
  have h := State.Follows.refl s
  repeat' first
    | with_reducible assumption
    | with_reducible refine State.fetchDone_follows ?_
    | split
    | dsimp only

theorem execFrameAccept_follows {s : _} : ∃ t, execFrameAccept s = .next t ∧ s.Follows t := by
  refine ⟨_, rfl, ?_⟩
  have h := State.Follows.refl s
  repeat' first
    | with_reducible assumption
    | with_reducible refine State.frameAccept_follows ?_
    | split
    | dsimp only

theorem execAckOpportunity_follows {s : _} : ∃ t, execAckOpportunity s = .next t ∧ s.Follows t := by
  refine ⟨_, rfl, ?_⟩
  have h := State.Follows.refl s
  repeat' first
    | with_reducible assumption
    | with_reducible refine State.ackOpportunity_follows ?_
    | split
    | dsimp only

theorem execLnkRegister_follows {s a0 : _} : ∃ t, execLnkRegister a0 s = .next t ∧ s.Follows t := by
  refine ⟨_, rfl, ?_⟩
  have h := State.Follows.refl s
  repeat' first
    | with_reducible assumption
    | with_reducible refine State.busWrite_follows ?_
    | split
    | dsimp only

theorem execUnregister_follows {s a0 : _} : ∃ t, execUnregister a0 s = .next t ∧ s.Follows t := by
  refine ⟨_, rfl, ?_⟩
  have h := State.Follows.refl s
  repeat' first
    | with_reducible assumption
    | with_reducible refine State.busWrite_follows ?_
    | split
    | dsimp only

theorem execContextRead_follows {s a0 : _} : ∃ t, execContextRead a0 s = .next t ∧ s.Follows t := by
  refine ⟨_, rfl, ?_⟩
  have h := State.Follows.refl s
  repeat' first
    | with_reducible assumption
    | with_reducible refine State.busWrite_follows ?_
    | split
    | dsimp only

theorem execSetcfg_follows {s a0 : _} : ∃ t, execSetcfg a0 s = .next t ∧ s.Follows t := by
  refine ⟨_, rfl, ?_⟩
  have h := State.Follows.refl s
  repeat' first
    | with_reducible assumption
    | with_reducible refine State.busWrite_follows ?_
    | split
    | dsimp only

theorem execResetdrift_follows {s a0 : _} : ∃ t, execResetdrift a0 s = .next t ∧ s.Follows t := by
  refine ⟨_, rfl, ?_⟩
  have h := State.Follows.refl s
  repeat' first
    | with_reducible assumption
    | with_reducible refine State.busWrite_follows ?_
    | split
    | dsimp only

theorem execLnkCmdComplete_follows {s : _} : ∃ t, execLnkCmdComplete s = .next t ∧ s.Follows t := by
  refine ⟨_, rfl, ?_⟩
  have h := State.Follows.refl s
  repeat' first
    | with_reducible assumption
    | with_reducible refine State.ctxDone_follows ?_
    | split
    | dsimp only

theorem execDrlLostRead_follows {s a0 : _} : ∃ t, execDrlLostRead a0 s = .next t ∧ s.Follows t := by
  refine ⟨_, rfl, ?_⟩
  have h := State.Follows.refl s
  repeat' first
    | with_reducible assumption
    | with_reducible refine State.busRead_follows ?_
    | split
    | dsimp only

end Sys2Proof.Machine
end

