-- ==== Sys2Proof/Laws/FollowsPinCommands.lean ====
section
/-!
SUPPORT. Every operation of Machine/PinCommands answers a state that follows (State.Follows).
-/
namespace Sys2Proof.Machine

theorem execSerialStart_follows {s a0 a1 : _} : ∃ t, execSerialStart a0 a1 s = .next t ∧ s.Follows t := by
  refine ⟨_, rfl, ?_⟩
  have h := State.Follows.refl s
  repeat' first
    | with_reducible assumption
    | with_reducible refine State.busWrite_follows ?_
    | split
    | dsimp only

theorem execSerialAbort_follows {s a0 a1 : _} : ∃ t, execSerialAbort a0 a1 s = .next t ∧ s.Follows t := by
  refine ⟨_, rfl, ?_⟩
  have h := State.Follows.refl s
  repeat' first
    | with_reducible assumption
    | with_reducible refine State.busWrite_follows ?_
    | split
    | dsimp only

theorem execSerialComplete_follows {s a0 a1 a2 a3 : _} : ∃ t, execSerialComplete a0 a1 a2 a3 s = .next t ∧ s.Follows t := by
  refine ⟨_, rfl, ?_⟩
  have h := State.Follows.refl s
  repeat' first
    | with_reducible assumption
    | with_reducible refine State.serComplete_follows ?_
    | split
    | dsimp only

theorem execUartByteRx_follows {s a0 a1 a2 : _} : ∃ t, execUartByteRx a0 a1 a2 s = .next t ∧ s.Follows t := by
  refine ⟨_, rfl, ?_⟩
  have h := State.Follows.refl s
  repeat' first
    | with_reducible assumption
    | with_reducible refine State.uartRx_follows ?_
    | split
    | dsimp only

theorem execPinSerRxRead_follows {s a0 a1 : _} : ∃ t, execPinSerRxRead a0 a1 s = .next t ∧ s.Follows t := by
  refine ⟨_, rfl, ?_⟩
  have h := State.Follows.refl s
  repeat' first
    | with_reducible assumption
    | with_reducible refine State.busRead_follows ?_
    | split
    | dsimp only

theorem execGpioSample_follows {s a0 : _} : ∃ t, execGpioSample a0 s = .next t ∧ s.Follows t := by
  refine ⟨_, rfl, ?_⟩
  have h := State.Follows.refl s
  repeat' first
    | with_reducible assumption
    | with_reducible refine State.gpioSample_follows ?_
    | split
    | dsimp only

theorem execExtest_follows {s : _} : ∃ t, execExtest s = .next t ∧ s.Follows t := by
  refine ⟨_, rfl, ?_⟩
  have h := State.Follows.refl s
  repeat' first
    | with_reducible assumption
    | with_reducible refine State.extest_follows ?_
    | split
    | dsimp only

theorem execIdcode_follows {s : _} : ∃ t, execIdcode s = .next t ∧ s.Follows t := by
  refine ⟨_, rfl, ?_⟩
  have h := State.Follows.refl s
  repeat' first
    | with_reducible assumption
    | with_reducible refine State.jtag_follows ?_
    | split
    | dsimp only

theorem execSamplePreload_follows {s a0 : _} : ∃ t, execSamplePreload a0 s = .next t ∧ s.Follows t := by
  refine ⟨_, rfl, ?_⟩
  have h := State.Follows.refl s
  repeat' first
    | with_reducible assumption
    | with_reducible refine State.samplePreload_follows ?_
    | split
    | dsimp only

theorem execBypass_follows {s a0 : _} : ∃ t, execBypass a0 s = .next t ∧ s.Follows t := by
  refine ⟨_, rfl, ?_⟩
  have h := State.Follows.refl s
  repeat' first
    | with_reducible assumption
    | with_reducible refine State.bypass_follows ?_
    | split
    | dsimp only

theorem execIblekDebug_follows {s a0 a1 : _} : ∃ t, execIblekDebug a0 a1 s = .next t ∧ s.Follows t := by
  refine ⟨_, rfl, ?_⟩
  have h := State.Follows.refl s
  repeat' first
    | with_reducible assumption
    | with_reducible refine State.iblekDebug_follows ?_
    | split
    | dsimp only

theorem execTestLogicReset_follows {s : _} : ∃ t, execTestLogicReset s = .next t ∧ s.Follows t := by
  refine ⟨_, rfl, ?_⟩
  have h := State.Follows.refl s
  repeat' first
    | with_reducible assumption
    | with_reducible refine State.jtag_follows ?_
    | split
    | dsimp only

end Sys2Proof.Machine
end

