-- ==== Sys2Proof/Laws/FollowsPowerCommands.lean ====
section
/-!
SUPPORT. Every operation of Machine/PowerCommands answers a state that follows (State.Follows).
-/
namespace Sys2Proof.Machine

theorem State.completeEntry_follows {z s : State} (h : z.Follows s) : z.Follows (State.completeEntry s) := by
  unfold State.completeEntry
  repeat' first
    | with_reducible assumption
    | with_reducible refine State.detachNext_follows ?_
    | with_reducible refine State.entryDone_follows ?_
    | with_reducible refine State.supIssue_follows ?_
    | with_reducible refine State.warmDone_follows ?_
    | with_reducible refine State.setPwr_follows ?_
    | split
    | dsimp only

theorem State.drainTimeout_follows {z s : State} (h : z.Follows s) : z.Follows (State.drainTimeout s) := by
  unfold State.drainTimeout
  repeat' first
    | with_reducible assumption
    | with_reducible refine State.entryOver_follows ?_
    | with_reducible refine State.detachNext_follows ?_
    | with_reducible refine State.kDone_follows ?_
    | with_reducible refine State.entryAbort_follows ?_
    | split
    | dsimp only

theorem execPowerRequestNow_follows {s a0 a1 : _} : ∃ t, execPowerRequestNow a0 a1 s = .next t ∧ s.Follows t := by
  refine ⟨_, rfl, ?_⟩
  have h := State.Follows.refl s
  repeat' first
    | with_reducible assumption
    | with_reducible refine State.busWrite_follows ?_
    | split
    | dsimp only

theorem execPowerRequestAt_follows {s a0 a1 : _} : ∃ t, execPowerRequestAt a0 a1 s = .next t ∧ s.Follows t := by
  refine ⟨_, rfl, ?_⟩
  have h := State.Follows.refl s
  repeat' first
    | with_reducible assumption
    | with_reducible refine State.busWrite_follows ?_
    | split
    | dsimp only

theorem execPowerRequestCancel_follows {s a0 : _} : ∃ t, execPowerRequestCancel a0 s = .next t ∧ s.Follows t := by
  refine ⟨_, rfl, ?_⟩
  have h := State.Follows.refl s
  repeat' first
    | with_reducible assumption
    | with_reducible refine State.busWrite_follows ?_
    | split
    | dsimp only

theorem execPowerRequestDue_follows {s : _} : ∃ t, execPowerRequestDue s = .next t ∧ s.Follows t := by
  refine ⟨_, rfl, ?_⟩
  have h := State.Follows.refl s
  repeat' first
    | with_reducible assumption
    | with_reducible refine State.powerDue_follows ?_
    | split
    | dsimp only

theorem execPowerEntryComplete_follows {s : _} : ∃ t, execPowerEntryComplete s = .next t ∧ s.Follows t := by
  refine ⟨_, rfl, ?_⟩
  have h := State.Follows.refl s
  repeat' first
    | with_reducible assumption
    | with_reducible refine State.completeEntry_follows ?_
    | split
    | dsimp only

theorem execPowerEntryDrainTimeout_follows {s : _} : ∃ t, execPowerEntryDrainTimeout s = .next t ∧ s.Follows t := by
  refine ⟨_, rfl, ?_⟩
  have h := State.Follows.refl s
  repeat' first
    | with_reducible assumption
    | with_reducible refine State.drainTimeout_follows ?_
    | split
    | dsimp only

theorem execWakeRequest_follows {s a0 : _} : ∃ t, execWakeRequest a0 s = .next t ∧ s.Follows t := by
  refine ⟨_, rfl, ?_⟩
  have h := State.Follows.refl s
  repeat' first
    | with_reducible assumption
    | with_reducible refine State.wakeRequest_follows ?_
    | split
    | dsimp only

theorem execDvfsChange_follows {s : _} : ∃ t, execDvfsChange s = .next t ∧ s.Follows t := by
  refine ⟨_, rfl, ?_⟩
  have h := State.Follows.refl s
  repeat' first
    | with_reducible assumption
    | with_reducible refine State.dvfsChange_follows ?_
    | split
    | dsimp only

theorem execThermalCapStep_follows {s : _} : ∃ t, execThermalCapStep s = .next t ∧ s.Follows t := by
  refine ⟨_, rfl, ?_⟩
  have h := State.Follows.refl s
  repeat' first
    | with_reducible assumption
    | with_reducible refine State.capStep_follows ?_
    | split
    | dsimp only

theorem execSupplyTransactionStart_follows {s : _} : ∃ t, execSupplyTransactionStart s = .next t ∧ s.Follows t := by
  refine ⟨_, rfl, ?_⟩
  have h := State.Follows.refl s
  repeat' first
    | with_reducible assumption
    | with_reducible refine State.supStart_follows ?_
    | split
    | dsimp only

theorem execSupplyAck_follows {s : _} : ∃ t, execSupplyAck s = .next t ∧ s.Follows t := by
  refine ⟨_, rfl, ?_⟩
  have h := State.Follows.refl s
  repeat' first
    | with_reducible assumption
    | with_reducible refine State.supAck_follows ?_
    | split
    | dsimp only

theorem execSupplyNackRetry_follows {s : _} : ∃ t, execSupplyNackRetry s = .next t ∧ s.Follows t := by
  refine ⟨_, rfl, ?_⟩
  have h := State.Follows.refl s
  repeat' first
    | with_reducible assumption
    | with_reducible refine State.supNack_follows ?_
    | split
    | dsimp only

theorem execSupplyTimeout_follows {s : _} : ∃ t, execSupplyTimeout s = .next t ∧ s.Follows t := by
  refine ⟨_, rfl, ?_⟩
  have h := State.Follows.refl s
  repeat' first
    | with_reducible assumption
    | with_reducible refine State.supTimeout_follows ?_
    | split
    | dsimp only

theorem execPowerDieStart_follows {s : _} : ∃ t, execPowerDieStart s = .next t ∧ s.Follows t := by
  refine ⟨_, rfl, ?_⟩
  have h := State.Follows.refl s
  repeat' first
    | with_reducible assumption
    | with_reducible refine State.dieStart_follows ?_
    | split
    | dsimp only

theorem execBankCharged_follows {s : _} : ∃ t, execBankCharged s = .next t ∧ s.Follows t := by
  refine ⟨_, rfl, ?_⟩
  have h := State.Follows.refl s
  repeat' first
    | with_reducible assumption
    | with_reducible refine State.bankCharged_follows ?_
    | split
    | dsimp only

theorem execInputLoss_follows {s : _} : ∃ t, execInputLoss s = .next t ∧ s.Follows t := by
  refine ⟨_, rfl, ?_⟩
  have h := State.Follows.refl s
  repeat' first
    | with_reducible assumption
    | with_reducible refine State.inputLoss_follows ?_
    | split
    | dsimp only

theorem execInputReturn_follows {s : _} : ∃ t, execInputReturn s = .next t ∧ s.Follows t := by
  refine ⟨_, rfl, ?_⟩
  have h := State.Follows.refl s
  repeat' first
    | with_reducible assumption
    | with_reducible refine State.inputReturn_follows ?_
    | split
    | dsimp only

theorem execRideExpiry_follows {s a0 : _} : ∃ t, execRideExpiry a0 s = .next t ∧ s.Follows t := by
  refine ⟨_, rfl, ?_⟩
  have h := State.Follows.refl s
  repeat' first
    | with_reducible assumption
    | with_reducible refine State.rideExpiry_follows ?_
    | split
    | dsimp only

theorem execColdStart_follows {s a0 a1 : _} : ∃ t, execColdStart a0 a1 s = .next t ∧ s.Follows t := by
  refine ⟨_, rfl, ?_⟩
  have h := State.Follows.refl s
  repeat' first
    | with_reducible assumption
    | with_reducible refine State.coldStart_follows ?_
    | split
    | dsimp only

theorem execEnableLow_follows {s : _} : ∃ t, execEnableLow s = .next t ∧ s.Follows t := by
  refine ⟨_, rfl, ?_⟩
  have h := State.Follows.refl s
  repeat' first
    | with_reducible assumption
    | with_reducible refine State.enableLow_follows ?_
    | split
    | dsimp only

theorem execDetachRequest_follows {s : _} : ∃ t, execDetachRequest s = .next t ∧ s.Follows t := by
  refine ⟨_, rfl, ?_⟩
  have h := State.Follows.refl s
  repeat' first
    | with_reducible assumption
    | with_reducible refine State.detachRequest_follows ?_
    | split
    | dsimp only

theorem execDetachGo_follows {s a0 : _} : ∃ t, execDetachGo a0 s = .next t ∧ s.Follows t := by
  refine ⟨_, rfl, ?_⟩
  have h := State.Follows.refl s
  repeat' first
    | with_reducible assumption
    | with_reducible refine State.busWrite_follows ?_
    | split
    | dsimp only

theorem execDetachWaitExpiry_follows {s : _} : ∃ t, execDetachWaitExpiry s = .next t ∧ s.Follows t := by
  refine ⟨_, rfl, ?_⟩
  have h := State.Follows.refl s
  repeat' first
    | with_reducible assumption
    | with_reducible refine State.detachExpiry_follows ?_
    | split
    | dsimp only

theorem execDetachCancel_follows {s : _} : ∃ t, execDetachCancel s = .next t ∧ s.Follows t := by
  refine ⟨_, rfl, ?_⟩
  have h := State.Follows.refl s
  repeat' first
    | with_reducible assumption
    | with_reducible refine State.detachCancel_follows ?_
    | split
    | dsimp only

theorem execMonitorSample_follows {s a0 a1 a2 : _} : ∃ t, execMonitorSample a0 a1 a2 s = .next t ∧ s.Follows t := by
  refine ⟨_, rfl, ?_⟩
  have h := State.Follows.refl s
  repeat' first
    | with_reducible assumption
    | with_reducible refine State.monitorSample_follows ?_
    | split
    | dsimp only

end Sys2Proof.Machine
end

