-- ==== Sys2Proof/Laws/FollowsQueueCommands.lean ====
section
/-!
SUPPORT. Every operation of Machine/QueueCommands answers a state that follows (State.Follows).
-/
namespace Sys2Proof.Machine

theorem State.bitStore_follows {z s : State} {a1 a2 a3 a4 a5} (h : z.Follows s) : z.Follows (State.bitStore s a1 a2 a3 a4 a5) := by
  unfold State.bitStore
  repeat' first
    | with_reducible assumption
    | with_reducible refine State.plainAccess_follows ?_
    | split
    | dsimp only

theorem State.sweepIfDue_follows {z s : State} {a1 a2} (h : z.Follows s) : z.Follows (State.sweepIfDue s a1 a2) := by
  unfold State.sweepIfDue
  repeat' first
    | with_reducible assumption
    | with_reducible refine State.sentinelSweep_follows ?_
    | with_reducible refine State.sweepFor_follows ?_
    | split
    | dsimp only

theorem execBitSetStore_follows {s a0 a1 a2 a3 : _} : ∃ t, execBitSetStore a0 a1 a2 a3 s = .next t ∧ s.Follows t := by
  refine ⟨_, rfl, ?_⟩
  have h := State.Follows.refl s
  repeat' first
    | with_reducible assumption
    | with_reducible refine State.bitStore_follows ?_
    | split
    | dsimp only

theorem execBitClearStore_follows {s a0 a1 a2 a3 : _} : ∃ t, execBitClearStore a0 a1 a2 a3 s = .next t ∧ s.Follows t := by
  refine ⟨_, rfl, ?_⟩
  have h := State.Follows.refl s
  repeat' first
    | with_reducible assumption
    | with_reducible refine State.bitStore_follows ?_
    | split
    | dsimp only

theorem execPatrolRegion_follows {s a0 a1 : _} : ∃ t, execPatrolRegion a0 a1 s = .next t ∧ s.Follows t := by
  refine ⟨_, rfl, ?_⟩
  have h := State.Follows.refl s
  repeat' first
    | with_reducible assumption
    | with_reducible refine State.patrolStep_follows ?_
    | split
    | dsimp only

theorem execDramRefresh_follows {s a0 a1 : _} : ∃ t, execDramRefresh a0 a1 s = .next t ∧ s.Follows t := by
  refine ⟨_, rfl, ?_⟩
  have h := State.Follows.refl s
  repeat' first
    | with_reducible assumption
    | with_reducible refine State.refreshBank_follows ?_
    | split
    | dsimp only

theorem execSentinelSweep_follows {s a0 a1 : _} : ∃ t, execSentinelSweep a0 a1 s = .next t ∧ s.Follows t := by
  refine ⟨_, rfl, ?_⟩
  have h := State.Follows.refl s
  repeat' first
    | with_reducible assumption
    | with_reducible refine State.sweepIfDue_follows ?_
    | split
    | dsimp only

theorem execRecordCommit_follows {s : _} : ∃ t, execRecordCommit s = .next t ∧ s.Follows t := by
  refine ⟨_, rfl, ?_⟩
  have h := State.Follows.refl s
  repeat' first
    | with_reducible assumption
    | with_reducible refine State.commitNext_follows ?_
    | split
    | dsimp only

theorem execRqPop_follows {s a0 a1 : _} : ∃ t, execRqPop a0 a1 s = .next t ∧ s.Follows t := by
  refine ⟨_, rfl, ?_⟩
  have h := State.Follows.refl s
  repeat' first
    | with_reducible assumption
    | with_reducible refine State.busRead_follows ?_
    | split
    | dsimp only

theorem execRqReadWrite_follows {s a0 a1 a2 : _} : ∃ t, execRqReadWrite a0 a1 a2 s = .next t ∧ s.Follows t := by
  refine ⟨_, rfl, ?_⟩
  have h := State.Follows.refl s
  repeat' first
    | with_reducible assumption
    | with_reducible refine State.busWrite_follows ?_
    | split
    | dsimp only

theorem execRqMark_follows {s a0 a1 : _} : ∃ t, execRqMark a0 a1 s = .next t ∧ s.Follows t := by
  refine ⟨_, rfl, ?_⟩
  have h := State.Follows.refl s
  repeat' first
    | with_reducible assumption
    | with_reducible refine State.busWrite_follows ?_
    | split
    | dsimp only

theorem execRewind_follows {s a0 a1 : _} : ∃ t, execRewind a0 a1 s = .next t ∧ s.Follows t := by
  refine ⟨_, rfl, ?_⟩
  have h := State.Follows.refl s
  repeat' first
    | with_reducible assumption
    | with_reducible refine State.busWrite_follows ?_
    | split
    | dsimp only

theorem execRelease_follows {s a0 a1 : _} : ∃ t, execRelease a0 a1 s = .next t ∧ s.Follows t := by
  refine ⟨_, rfl, ?_⟩
  have h := State.Follows.refl s
  repeat' first
    | with_reducible assumption
    | with_reducible refine State.busWrite_follows ?_
    | split
    | dsimp only

theorem execQueueEnable_follows {s a0 a1 a2 : _} : ∃ t, execQueueEnable a0 a1 a2 s = .next t ∧ s.Follows t := by
  refine ⟨_, rfl, ?_⟩
  have h := State.Follows.refl s
  repeat' first
    | with_reducible assumption
    | with_reducible refine State.busWrite_follows ?_
    | split
    | dsimp only

theorem execQueueDisable_follows {s a0 a1 : _} : ∃ t, execQueueDisable a0 a1 s = .next t ∧ s.Follows t := by
  refine ⟨_, rfl, ?_⟩
  have h := State.Follows.refl s
  repeat' first
    | with_reducible assumption
    | with_reducible refine State.busWrite_follows ?_
    | split
    | dsimp only

theorem execQueueDrainEnd_follows {s a0 : _} : ∃ t, execQueueDrainEnd a0 s = .next t ∧ s.Follows t := by
  refine ⟨_, rfl, ?_⟩
  have h := State.Follows.refl s
  repeat' first
    | with_reducible assumption
    | with_reducible refine State.queueDrained_follows ?_
    | split
    | dsimp only

theorem execPoolEnable_follows {s a0 a1 a2 : _} : ∃ t, execPoolEnable a0 a1 a2 s = .next t ∧ s.Follows t := by
  refine ⟨_, rfl, ?_⟩
  have h := State.Follows.refl s
  repeat' first
    | with_reducible assumption
    | with_reducible refine State.busWrite_follows ?_
    | split
    | dsimp only

theorem execPoolDisable_follows {s a0 a1 : _} : ∃ t, execPoolDisable a0 a1 s = .next t ∧ s.Follows t := by
  refine ⟨_, rfl, ?_⟩
  have h := State.Follows.refl s
  repeat' first
    | with_reducible assumption
    | with_reducible refine State.busWrite_follows ?_
    | split
    | dsimp only

theorem execPoolDrainEnd_follows {s a0 : _} : ∃ t, execPoolDrainEnd a0 s = .next t ∧ s.Follows t := by
  refine ⟨_, rfl, ?_⟩
  have h := State.Follows.refl s
  repeat' first
    | with_reducible assumption
    | with_reducible refine State.poolDrained_follows ?_
    | split
    | dsimp only

theorem execPoolStashRead_follows {s a0 a1 : _} : ∃ t, execPoolStashRead a0 a1 s = .next t ∧ s.Follows t := by
  refine ⟨_, rfl, ?_⟩
  have h := State.Follows.refl s
  repeat' first
    | with_reducible assumption
    | with_reducible refine State.busRead_follows ?_
    | split
    | dsimp only

theorem execLckForceRelease_follows {s a0 a1 : _} : ∃ t, execLckForceRelease a0 a1 s = .next t ∧ s.Follows t := by
  refine ⟨_, rfl, ?_⟩
  have h := State.Follows.refl s
  repeat' first
    | with_reducible assumption
    | with_reducible refine State.busWrite_follows ?_
    | split
    | dsimp only

theorem execArbiterGrant_follows {s a0 : _} : ∃ t, execArbiterGrant a0 s = .next t ∧ s.Follows t := by
  refine ⟨_, rfl, ?_⟩
  have h := State.Follows.refl s
  repeat' first
    | with_reducible assumption
    | with_reducible refine State.arbiterGrant_follows ?_
    | split
    | dsimp only

theorem execBackoffExpiry_follows {s : _} : ∃ t, execBackoffExpiry s = .next t ∧ s.Follows t := by
  refine ⟨_, rfl, ?_⟩
  have h := State.Follows.refl s
  repeat' first
    | with_reducible assumption
    | with_reducible refine State.backoffOver_follows ?_
    | split
    | dsimp only

theorem execServiceCompletion_follows {s a0 : _} : ∃ t, execServiceCompletion a0 s = .next t ∧ s.Follows t := by
  refine ⟨_, rfl, ?_⟩
  have h := State.Follows.refl s
  repeat' first
    | with_reducible assumption
    | with_reducible refine State.serviceDone_follows ?_
    | split
    | dsimp only

theorem execSequenceCutOff_follows {s a0 : _} : ∃ t, execSequenceCutOff a0 s = .next t ∧ s.Follows t := by
  refine ⟨_, rfl, ?_⟩
  have h := State.Follows.refl s
  repeat' first
    | with_reducible assumption
    | with_reducible refine State.cutOffNow_follows ?_
    | split
    | dsimp only

theorem execSequenceBreak_follows {s a0 : _} : ∃ t, execSequenceBreak a0 s = .next t ∧ s.Follows t := by
  refine ⟨_, rfl, ?_⟩
  have h := State.Follows.refl s
  repeat' first
    | with_reducible assumption
    | with_reducible refine State.busWrite_follows ?_
    | split
    | dsimp only

end Sys2Proof.Machine
end

