-- ==== Sys2Proof/Laws/FollowsRadioCommands.lean ====
section
/-!
SUPPORT. Every operation of Machine/RadioCommands answers a state that follows (State.Follows).
-/
namespace Sys2Proof.Machine

theorem State.txCheckDue_follows {z s : State} {a1 a2} (h : z.Follows s) : z.Follows (State.txCheckDue s a1 a2) := by
  unfold State.txCheckDue
  repeat' first
    | with_reducible assumption
    | with_reducible refine State.checksUpTo_follows ?_
    | split
    | dsimp only

theorem State.lockCheckDue_follows {z s : State} {a1 a2} (h : z.Follows s) : z.Follows (State.lockCheckDue s a1 a2) := by
  unfold State.lockCheckDue
  repeat' first
    | with_reducible assumption
    | with_reducible refine State.lockCheck_follows ?_
    | split
    | dsimp only

theorem execAbortEffect_follows {s a0 a1 : _} : ∃ t, execAbortEffect a0 a1 s = .next t ∧ s.Follows t := by
  refine ⟨_, rfl, ?_⟩
  have h := State.Follows.refl s
  repeat' first
    | with_reducible assumption
    | with_reducible refine State.settleMisses_follows ?_
    | with_reducible refine State.abortEffect_follows ?_
    | split
    | dsimp only

theorem execQueuedCommandBegin_follows {s a0 a1 : _} : ∃ t, execQueuedCommandBegin a0 a1 s = .next t ∧ s.Follows t := by
  refine ⟨_, rfl, ?_⟩
  have h := State.Follows.refl s
  repeat' first
    | with_reducible assumption
    | with_reducible refine State.settleMisses_follows ?_
    | with_reducible refine State.beginQueued_follows ?_
    | split
    | dsimp only

theorem execTxLastBit_follows {s a0 a1 : _} : ∃ t, execTxLastBit a0 a1 s = .next t ∧ s.Follows t := by
  refine ⟨_, rfl, ?_⟩
  have h := State.Follows.refl s
  repeat' first
    | with_reducible assumption
    | with_reducible refine State.settleMisses_follows ?_
    | with_reducible refine State.txLastBit_follows ?_
    | split
    | dsimp only

theorem execRxWindowClose_follows {s a0 a1 : _} : ∃ t, execRxWindowClose a0 a1 s = .next t ∧ s.Follows t := by
  refine ⟨_, rfl, ?_⟩
  have h := State.Follows.refl s
  repeat' first
    | with_reducible assumption
    | with_reducible refine State.rxClose_follows ?_
    | with_reducible refine State.settleMisses_follows ?_
    | split
    | dsimp only

theorem execCcaEnd_follows {s a0 a1 a2 : _} : ∃ t, execCcaEnd a0 a1 a2 s = .next t ∧ s.Follows t := by
  refine ⟨_, rfl, ?_⟩
  have h := State.Follows.refl s
  repeat' first
    | with_reducible assumption
    | with_reducible refine State.settleMisses_follows ?_
    | with_reducible refine State.ccaEnd_follows ?_
    | split
    | dsimp only

theorem execCalStepEnd_follows {s a0 a1 a2 : _} : ∃ t, execCalStepEnd a0 a1 a2 s = .next t ∧ s.Follows t := by
  refine ⟨_, rfl, ?_⟩
  have h := State.Follows.refl s
  repeat' first
    | with_reducible assumption
    | with_reducible refine State.calEnd_follows ?_
    | with_reducible refine State.settleMisses_follows ?_
    | split
    | dsimp only

theorem execFemSequenceEnd_follows {s a0 : _} : ∃ t, execFemSequenceEnd a0 s = .next t ∧ s.Follows t := by
  refine ⟨_, rfl, ?_⟩
  have h := State.Follows.refl s
  repeat' first
    | with_reducible assumption
    | with_reducible refine State.femEnd_follows ?_
    | split
    | dsimp only

theorem execFemAutoSequence_follows {s a0 a1 a2 : _} : ∃ t, execFemAutoSequence a0 a1 a2 s = .next t ∧ s.Follows t := by
  refine ⟨_, rfl, ?_⟩
  have h := State.Follows.refl s
  repeat' first
    | with_reducible assumption
    | with_reducible refine State.femStart_follows ?_
    | split
    | dsimp only

theorem execSynthMoveStart_follows {s a0 a1 : _} : ∃ t, execSynthMoveStart a0 a1 s = .next t ∧ s.Follows t := by
  refine ⟨_, rfl, ?_⟩
  have h := State.Follows.refl s
  repeat' first
    | with_reducible assumption
    | with_reducible refine State.settleMisses_follows ?_
    | with_reducible refine State.synthMove_follows ?_
    | split
    | dsimp only

theorem execSynthLock_follows {s a0 a1 : _} : ∃ t, execSynthLock a0 a1 s = .next t ∧ s.Follows t := by
  refine ⟨_, rfl, ?_⟩
  have h := State.Follows.refl s
  repeat' first
    | with_reducible assumption
    | with_reducible refine State.settleMisses_follows ?_
    | with_reducible refine State.synthLock_follows ?_
    | split
    | dsimp only

theorem execTxRegulatoryCheck_follows {s a0 a1 : _} : ∃ t, execTxRegulatoryCheck a0 a1 s = .next t ∧ s.Follows t := by
  refine ⟨_, rfl, ?_⟩
  have h := State.Follows.refl s
  repeat' first
    | with_reducible assumption
    | with_reducible refine State.txCheckDue_follows ?_
    | with_reducible refine State.settleMisses_follows ?_
    | split
    | dsimp only

theorem execLockCheck_follows {s a0 a1 : _} : ∃ t, execLockCheck a0 a1 s = .next t ∧ s.Follows t := by
  refine ⟨_, rfl, ?_⟩
  have h := State.Follows.refl s
  repeat' first
    | with_reducible assumption
    | with_reducible refine State.settleMisses_follows ?_
    | with_reducible refine State.lockCheckDue_follows ?_
    | split
    | dsimp only

theorem execLbtDecision_follows {s a0 a1 a2 : _} : ∃ t, execLbtDecision a0 a1 a2 s = .next t ∧ s.Follows t := by
  refine ⟨_, rfl, ?_⟩
  have h := State.Follows.refl s
  repeat' first
    | with_reducible assumption
    | with_reducible refine State.settleMisses_follows ?_
    | with_reducible refine State.lbtDecide_follows ?_
    | split
    | dsimp only

theorem execTransmitPathBegin_follows {s a0 a1 : _} : ∃ t, execTransmitPathBegin a0 a1 s = .next t ∧ s.Follows t := by
  refine ⟨_, rfl, ?_⟩
  have h := State.Follows.refl s
  repeat' first
    | with_reducible assumption
    | with_reducible refine State.transmitPath_follows ?_
    | with_reducible refine State.settleMisses_follows ?_
    | split
    | dsimp only

theorem execListenResume_follows {s a0 a1 : _} : ∃ t, execListenResume a0 a1 s = .next t ∧ s.Follows t := by
  refine ⟨_, rfl, ?_⟩
  have h := State.Follows.refl s
  repeat' first
    | with_reducible assumption
    | with_reducible refine State.listenResume_follows ?_
    | with_reducible refine State.settleMisses_follows ?_
    | split
    | dsimp only

theorem execCalSetApply_follows {s a0 a1 : _} : ∃ t, execCalSetApply a0 a1 s = .next t ∧ s.Follows t := by
  refine ⟨_, rfl, ?_⟩
  have h := State.Follows.refl s
  repeat' first
    | with_reducible assumption
    | with_reducible refine State.calApply_follows ?_
    | with_reducible refine State.settleMisses_follows ?_
    | split
    | dsimp only

theorem execCalGapTimeout_follows {s a0 a1 : _} : ∃ t, execCalGapTimeout a0 a1 s = .next t ∧ s.Follows t := by
  refine ⟨_, rfl, ?_⟩
  have h := State.Follows.refl s
  repeat' first
    | with_reducible assumption
    | with_reducible refine State.calTimeout_follows ?_
    | with_reducible refine State.settleMisses_follows ?_
    | split
    | dsimp only

theorem execRegRegionWrite_follows {s a0 a1 : _} : ∃ t, execRegRegionWrite a0 a1 s = .next t ∧ s.Follows t := by
  refine ⟨_, rfl, ?_⟩
  have h := State.Follows.refl s
  repeat' first
    | with_reducible assumption
    | with_reducible refine State.busWrite_follows ?_
    | split
    | dsimp only

theorem execMeterRecomputeDone_follows {s : _} : ∃ t, execMeterRecomputeDone s = .next t ∧ s.Follows t := by
  refine ⟨_, rfl, ?_⟩
  have h := State.Follows.refl s
  repeat' first
    | with_reducible assumption
    | with_reducible refine State.recomputeDone_follows ?_
    | split
    | dsimp only

theorem execDutyRecordExpire_follows {s : _} : ∃ t, execDutyRecordExpire s = .next t ∧ s.Follows t := by
  refine ⟨_, rfl, ?_⟩
  have h := State.Follows.refl s
  repeat' first
    | with_reducible assumption
    | with_reducible refine State.expireDuty_follows ?_
    | split
    | dsimp only

theorem execPreambleDetect_follows {s a0 a1 a2 a3 a4 a5 a6 : _} : ∃ t, execPreambleDetect a0 a1 a2 a3 a4 a5 a6 s = .next t ∧ s.Follows t := by
  refine ⟨_, rfl, ?_⟩
  have h := State.Follows.refl s
  repeat' first
    | with_reducible assumption
    | with_reducible refine State.settleMisses_follows ?_
    | with_reducible refine State.preamble_follows ?_
    | split
    | dsimp only

theorem execSyncFound_follows {s a0 a1 a2 : _} : ∃ t, execSyncFound a0 a1 a2 s = .next t ∧ s.Follows t := by
  refine ⟨_, rfl, ?_⟩
  have h := State.Follows.refl s
  repeat' first
    | with_reducible assumption
    | with_reducible refine State.syncFound_follows ?_
    | split
    | dsimp only

theorem execSyncTimeout_follows {s a0 a1 : _} : ∃ t, execSyncTimeout a0 a1 s = .next t ∧ s.Follows t := by
  refine ⟨_, rfl, ?_⟩
  have h := State.Follows.refl s
  repeat' first
    | with_reducible assumption
    | with_reducible refine State.syncTimeout_follows ?_
    | split
    | dsimp only

theorem execHeaderDecoded_follows {s a0 a1 a2 : _} : ∃ t, execHeaderDecoded a0 a1 a2 s = .next t ∧ s.Follows t := by
  refine ⟨_, rfl, ?_⟩
  have h := State.Follows.refl s
  repeat' first
    | with_reducible assumption
    | with_reducible refine State.headerDecoded_follows ?_
    | split
    | dsimp only

theorem execFrameEnd_follows {s a0 a1 a2 a3 : _} : ∃ t, execFrameEnd a0 a1 a2 a3 s = .next t ∧ s.Follows t := by
  refine ⟨_, rfl, ?_⟩
  have h := State.Follows.refl s
  repeat' first
    | with_reducible assumption
    | with_reducible refine State.frameEnd_follows ?_
    | with_reducible refine State.settleMisses_follows ?_
    | split
    | dsimp only

theorem execCaptureSpanEnd_follows {s a0 a1 : _} : ∃ t, execCaptureSpanEnd a0 a1 s = .next t ∧ s.Follows t := by
  refine ⟨_, rfl, ?_⟩
  have h := State.Follows.refl s
  repeat' first
    | with_reducible assumption
    | with_reducible refine State.capEnd_follows ?_
    | split
    | dsimp only

theorem execExpand_follows {s : _} : ∃ t, execExpand s = .next t ∧ s.Follows t := by
  refine ⟨_, rfl, ?_⟩
  have h := State.Follows.refl s
  repeat' first
    | with_reducible assumption
    | with_reducible refine State.capService_follows ?_
    | split
    | dsimp only

theorem execCaptureRelease_follows {s : _} : ∃ t, execCaptureRelease s = .next t ∧ s.Follows t := by
  refine ⟨_, rfl, ?_⟩
  have h := State.Follows.refl s
  repeat' first
    | with_reducible assumption
    | with_reducible refine State.capService_follows ?_
    | split
    | dsimp only

end Sys2Proof.Machine
end

