-- ==== Sys2Proof/Laws/FollowsRouterCommands.lean ====
section
/-!
SUPPORT. Every operation of Machine/RouterCommands answers a state that follows (State.Follows).
-/
namespace Sys2Proof.Machine

theorem State.wakeFrame_follows {z s : State} {a1} (h : z.Follows s) : z.Follows (State.wakeFrame s a1) := by
  unfold State.wakeFrame
  repeat' first
    | with_reducible assumption
    | with_reducible refine State.setFld_follows ?_
    | with_reducible refine State.wakeRequest_follows ?_
    | split
    | dsimp only

theorem State.chooseWith_follows {z s : State} {a1 a2 a3} (h : z.Follows s) : z.Follows (State.chooseWith s a1 a2 a3) := by
  unfold State.chooseWith
  repeat' first
    | with_reducible assumption
    | with_reducible refine State.portChoice_follows ?_
    | with_reducible refine State.hostDesc_follows ?_
    | split
    | dsimp only

theorem execParserAccept_follows {s : _} : ∃ t, execParserAccept s = .next t ∧ s.Follows t := by
  refine ⟨_, rfl, ?_⟩
  have h := State.Follows.refl s
  repeat' first
    | with_reducible assumption
    | with_reducible refine State.parserAccept_follows ?_
    | split
    | dsimp only

theorem execInjectionServe_follows {s : _} : ∃ t, execInjectionServe s = .next t ∧ s.Follows t := by
  refine ⟨_, rfl, ?_⟩
  have h := State.Follows.refl s
  repeat' first
    | with_reducible assumption
    | with_reducible refine State.injectionTurn_follows ?_
    | split
    | dsimp only

theorem execPassEnd_follows {s : _} : ∃ t, execPassEnd s = .next t ∧ s.Follows t := by
  refine ⟨_, rfl, ?_⟩
  have h := State.Follows.refl s
  repeat' first
    | with_reducible assumption
    | with_reducible refine State.passEnd_follows ?_
    | split
    | dsimp only

theorem execVersionRetire_follows {s : _} : ∃ t, execVersionRetire s = .next t ∧ s.Follows t := by
  refine ⟨_, rfl, ?_⟩
  have h := State.Follows.refl s
  repeat' first
    | with_reducible assumption
    | with_reducible refine State.retireVersion_follows ?_
    | split
    | dsimp only

theorem execSweepDone_follows {s : _} : ∃ t, execSweepDone s = .next t ∧ s.Follows t := by
  refine ⟨_, rfl, ?_⟩
  have h := State.Follows.refl s
  repeat' first
    | with_reducible assumption
    | with_reducible refine State.sweepDone_follows ?_
    | split
    | dsimp only

theorem execAddEntry_follows {s a0 : _} : ∃ t, execAddEntry a0 s = .next t ∧ s.Follows t := by
  refine ⟨_, rfl, ?_⟩
  have h := State.Follows.refl s
  repeat' first
    | with_reducible assumption
    | with_reducible refine State.busWrite_follows ?_
    | split
    | dsimp only

theorem execRtrDel_follows {s a0 : _} : ∃ t, execRtrDel a0 s = .next t ∧ s.Follows t := by
  refine ⟨_, rfl, ?_⟩
  have h := State.Follows.refl s
  repeat' first
    | with_reducible assumption
    | with_reducible refine State.busWrite_follows ?_
    | split
    | dsimp only

theorem execSetdef_follows {s a0 : _} : ∃ t, execSetdef a0 s = .next t ∧ s.Follows t := by
  refine ⟨_, rfl, ?_⟩
  have h := State.Follows.refl s
  repeat' first
    | with_reducible assumption
    | with_reducible refine State.busWrite_follows ?_
    | split
    | dsimp only

theorem execRouterRead_follows {s a0 : _} : ∃ t, execRouterRead a0 s = .next t ∧ s.Follows t := by
  refine ⟨_, rfl, ?_⟩
  have h := State.Follows.refl s
  repeat' first
    | with_reducible assumption
    | with_reducible refine State.busWrite_follows ?_
    | split
    | dsimp only

theorem execRouterEditComplete_follows {s : _} : ∃ t, execRouterEditComplete s = .next t ∧ s.Follows t := by
  refine ⟨_, rfl, ?_⟩
  have h := State.Follows.refl s
  repeat' first
    | with_reducible assumption
    | with_reducible refine State.rtrEditDone_follows ?_
    | split
    | dsimp only

theorem execCommitNow_follows {s a0 : _} : ∃ t, execCommitNow a0 s = .next t ∧ s.Follows t := by
  refine ⟨_, rfl, ?_⟩
  have h := State.Follows.refl s
  repeat' first
    | with_reducible assumption
    | with_reducible refine State.busWrite_follows ?_
    | split
    | dsimp only

theorem execCommitAtNt_follows {s a0 : _} : ∃ t, execCommitAtNt a0 s = .next t ∧ s.Follows t := by
  refine ⟨_, rfl, ?_⟩
  have h := State.Follows.refl s
  repeat' first
    | with_reducible assumption
    | with_reducible refine State.busWrite_follows ?_
    | split
    | dsimp only

theorem execCommitCancel_follows {s a0 : _} : ∃ t, execCommitCancel a0 s = .next t ∧ s.Follows t := by
  refine ⟨_, rfl, ?_⟩
  have h := State.Follows.refl s
  repeat' first
    | with_reducible assumption
    | with_reducible refine State.busWrite_follows ?_
    | split
    | dsimp only

theorem execCommitTakeEffect_follows {s : _} : ∃ t, execCommitTakeEffect s = .next t ∧ s.Follows t := by
  refine ⟨_, rfl, ?_⟩
  have h := State.Follows.refl s
  repeat' first
    | with_reducible assumption
    | with_reducible refine State.commitDue_follows ?_
    | split
    | dsimp only

theorem execPortTransmitChoice_follows {s a0 a1 a2 : _} : ∃ t, execPortTransmitChoice a0 a1 a2 s = .next t ∧ s.Follows t := by
  refine ⟨_, rfl, ?_⟩
  have h := State.Follows.refl s
  repeat' first
    | with_reducible assumption
    | with_reducible refine State.chooseWith_follows ?_
    | split
    | dsimp only

theorem execWheelAdvance_follows {s : _} : ∃ t, execWheelAdvance s = .next t ∧ s.Follows t := by
  refine ⟨_, rfl, ?_⟩
  have h := State.Follows.refl s
  repeat' first
    | with_reducible assumption
    | with_reducible refine State.wheelAdvance_follows ?_
    | split
    | dsimp only

theorem execGateChange_follows {s a0 : _} : ∃ t, execGateChange a0 s = .next t ∧ s.Follows t := by
  refine ⟨_, rfl, ?_⟩
  have h := State.Follows.refl s
  repeat' first
    | with_reducible assumption
    | with_reducible refine State.gateChange_follows ?_
    | split
    | dsimp only

theorem execSlalomListStart_follows {s a0 : _} : ∃ t, execSlalomListStart a0 s = .next t ∧ s.Follows t := by
  refine ⟨_, rfl, ?_⟩
  have h := State.Follows.refl s
  repeat' first
    | with_reducible assumption
    | with_reducible refine State.slalomStart_follows ?_
    | split
    | dsimp only

theorem execSampleSweep_follows {s : _} : ∃ t, execSampleSweep s = .next t ∧ s.Follows t := by
  refine ⟨_, rfl, ?_⟩
  have h := State.Follows.refl s
  repeat' first
    | with_reducible assumption
    | with_reducible refine State.sampleSweep_follows ?_
    | split
    | dsimp only

theorem execTmGateAccess_follows {s a0 a1 : _} : ∃ t, execTmGateAccess a0 a1 s = .next t ∧ s.Follows t := by
  refine ⟨_, rfl, ?_⟩
  have h := State.Follows.refl s
  repeat' first
    | with_reducible assumption
    | with_reducible refine State.busAccess_follows ?_
    | split
    | dsimp only

theorem execTq0Launch_follows {s a0 : _} : ∃ t, execTq0Launch a0 s = .next t ∧ s.Follows t := by
  refine ⟨_, rfl, ?_⟩
  have h := State.Follows.refl s
  repeat' first
    | with_reducible assumption
    | with_reducible refine State.tq0Launch_follows ?_
    | split
    | dsimp only

theorem execEthFrameTxEnd_follows {s a0 : _} : ∃ t, execEthFrameTxEnd a0 s = .next t ∧ s.Follows t := by
  refine ⟨_, rfl, ?_⟩
  have h := State.Follows.refl s
  repeat' first
    | with_reducible assumption
    | with_reducible refine State.txEnd_follows ?_
    | split
    | dsimp only

theorem execEthFrameRx_follows {s a0 a1 a2 a3 : _} : ∃ t, execEthFrameRx a0 a1 a2 a3 s = .next t ∧ s.Follows t := by
  refine ⟨_, rfl, ?_⟩
  have h := State.Follows.refl s
  repeat' first
    | with_reducible assumption
    | with_reducible refine State.ethRx_follows ?_
    | split
    | dsimp only

theorem execLinkStateChange_follows {s a0 a1 a2 a3 a4 a5 : _} : ∃ t, execLinkStateChange a0 a1 a2 a3 a4 a5 s = .next t ∧ s.Follows t := by
  refine ⟨_, rfl, ?_⟩
  have h := State.Follows.refl s
  repeat' first
    | with_reducible assumption
    | with_reducible refine State.linkChange_follows ?_
    | split
    | dsimp only

theorem execWakePatternMatch_follows {s a0 : _} : ∃ t, execWakePatternMatch a0 s = .next t ∧ s.Follows t := by
  refine ⟨_, rfl, ?_⟩
  have h := State.Follows.refl s
  repeat' first
    | with_reducible assumption
    | with_reducible refine State.wakeFrame_follows ?_
    | split
    | dsimp only

theorem execHostTxServe_follows {s a0 a1 : _} : ∃ t, execHostTxServe a0 a1 s = .next t ∧ s.Follows t := by
  refine ⟨_, rfl, ?_⟩
  have h := State.Follows.refl s
  repeat' first
    | with_reducible assumption
    | with_reducible refine State.hostServe_follows ?_
    | split
    | dsimp only

theorem execPcieDoorbell_follows {s a0 a1 : _} : ∃ t, execPcieDoorbell a0 a1 s = .next t ∧ s.Follows t := by
  refine ⟨_, rfl, ?_⟩
  have h := State.Follows.refl s
  repeat' first
    | with_reducible assumption
    | with_reducible refine State.busWrite_follows ?_
    | split
    | dsimp only

end Sys2Proof.Machine
end

