-- ==== Sys2Proof/Laws/FollowsTimeCommands.lean ====
section
/-!
SUPPORT. Every operation of Machine/TimeCommands answers a state that follows (State.Follows).
-/
namespace Sys2Proof.Machine

theorem execSlewEnd_follows {s : _} : ∃ t, execSlewEnd s = .next t ∧ s.Follows t := by
  refine ⟨_, rfl, ?_⟩
  have h := State.Follows.refl s
  repeat' first
    | with_reducible assumption
    | with_reducible refine State.slewEnd_follows ?_
    | split
    | dsimp only

theorem execNtIncrWrite_follows {s a0 a1 a2 : _} : ∃ t, execNtIncrWrite a0 a1 a2 s = .next t ∧ s.Follows t := by
  refine ⟨_, rfl, ?_⟩
  have h := State.Follows.refl s
  repeat' first
    | with_reducible assumption
    | with_reducible refine State.busWrite_follows ?_
    | split
    | dsimp only

theorem execMarkCoarse_follows {s a0 a1 a2 a3 : _} : ∃ t, execMarkCoarse a0 a1 a2 a3 s = .next t ∧ s.Follows t := by
  refine ⟨_, rfl, ?_⟩
  have h := State.Follows.refl s
  repeat' first
    | with_reducible assumption
    | with_reducible refine State.busWrite_follows ?_
    | split
    | dsimp only

theorem execMarkFine_follows {s a0 a1 a2 : _} : ∃ t, execMarkFine a0 a1 a2 s = .next t ∧ s.Follows t := by
  refine ⟨_, rfl, ?_⟩
  have h := State.Follows.refl s
  repeat' first
    | with_reducible assumption
    | with_reducible refine State.busWrite_follows ?_
    | split
    | dsimp only

theorem execRefSrcWrite_follows {s a0 a1 : _} : ∃ t, execRefSrcWrite a0 a1 s = .next t ∧ s.Follows t := by
  refine ⟨_, rfl, ?_⟩
  have h := State.Follows.refl s
  repeat' first
    | with_reducible assumption
    | with_reducible refine State.busWrite_follows ?_
    | split
    | dsimp only

theorem execRefLost_follows {s : _} : ∃ t, execRefLost s = .next t ∧ s.Follows t := by
  refine ⟨_, rfl, ?_⟩
  have h := State.Follows.refl s
  repeat' first
    | with_reducible assumption
    | with_reducible refine State.refLost_follows ?_
    | split
    | dsimp only

theorem execRefReturn_follows {s : _} : ∃ t, execRefReturn s = .next t ∧ s.Follows t := by
  refine ⟨_, rfl, ?_⟩
  have h := State.Follows.refl s
  repeat' first
    | with_reducible assumption
    | with_reducible refine State.refReturn_follows ?_
    | split
    | dsimp only

theorem execRef10Arrival_follows {s : _} : ∃ t, execRef10Arrival s = .next t ∧ s.Follows t := by
  refine ⟨_, rfl, ?_⟩
  have h := State.Follows.refl s
  repeat' first
    | with_reducible assumption
    | with_reducible refine State.refArrive_follows ?_
    | split
    | dsimp only

theorem execNtStep_follows {s a0 a1 a2 : _} : ∃ t, execNtStep a0 a1 a2 s = .next t ∧ s.Follows t := by
  refine ⟨_, rfl, ?_⟩
  have h := State.Follows.refl s
  repeat' first
    | with_reducible assumption
    | with_reducible refine State.busWrite_follows ?_
    | split
    | dsimp only

theorem execNtLoad_follows {s a0 a1 a2 : _} : ∃ t, execNtLoad a0 a1 a2 s = .next t ∧ s.Follows t := by
  refine ⟨_, rfl, ?_⟩
  have h := State.Follows.refl s
  repeat' first
    | with_reducible assumption
    | with_reducible refine State.busWrite_follows ?_
    | split
    | dsimp only

theorem execTselSwitch_follows {s a0 a1 : _} : ∃ t, execTselSwitch a0 a1 s = .next t ∧ s.Follows t := by
  refine ⟨_, rfl, ?_⟩
  have h := State.Follows.refl s
  repeat' first
    | with_reducible assumption
    | with_reducible refine State.busWrite_follows ?_
    | split
    | dsimp only

theorem execCaptureEdge_follows {s a0 a1 a2 : _} : ∃ t, execCaptureEdge a0 a1 a2 s = .next t ∧ s.Follows t := by
  refine ⟨_, rfl, ?_⟩
  have h := State.Follows.refl s
  repeat' first
    | with_reducible assumption
    | with_reducible refine State.captureEdge_follows ?_
    | split
    | dsimp only

theorem execTodByteRx_follows {s a0 a1 a2 : _} : ∃ t, execTodByteRx a0 a1 a2 s = .next t ∧ s.Follows t := by
  refine ⟨_, rfl, ?_⟩
  have h := State.Follows.refl s
  repeat' first
    | with_reducible assumption
    | with_reducible refine State.todByte_follows ?_
    | split
    | dsimp only

theorem execTodDataRead_follows {s a0 a1 : _} : ∃ t, execTodDataRead a0 a1 s = .next t ∧ s.Follows t := by
  refine ⟨_, rfl, ?_⟩
  have h := State.Follows.refl s
  repeat' first
    | with_reducible assumption
    | with_reducible refine State.busRead_follows ?_
    | split
    | dsimp only

theorem execPpsOutEdge_follows {s a0 : _} : ∃ t, execPpsOutEdge a0 s = .next t ∧ s.Follows t := by
  refine ⟨_, rfl, ?_⟩
  have h := State.Follows.refl s
  repeat' first
    | with_reducible assumption
    | with_reducible refine State.ppsEdge_follows ?_
    | split
    | dsimp only

theorem execPpsPulseEnd_follows {s a0 : _} : ∃ t, execPpsPulseEnd a0 s = .next t ∧ s.Follows t := by
  refine ⟨_, rfl, ?_⟩
  have h := State.Follows.refl s
  repeat' first
    | with_reducible assumption
    | with_reducible refine State.ppsEnd_follows ?_
    | split
    | dsimp only

theorem execTsyncFrameSend_follows {s : _} : ∃ t, execTsyncFrameSend s = .next t ∧ s.Follows t := by
  refine ⟨_, rfl, ?_⟩
  have h := State.Follows.refl s
  repeat' first
    | with_reducible assumption
    | with_reducible refine State.tsyncSend_follows ?_
    | split
    | dsimp only

theorem execTsyncFrameRx_follows {s a0 : _} : ∃ t, execTsyncFrameRx a0 s = .next t ∧ s.Follows t := by
  refine ⟨_, rfl, ?_⟩
  have h := State.Follows.refl s
  repeat' first
    | with_reducible assumption
    | with_reducible refine State.tsyncRx_follows ?_
    | split
    | dsimp only

theorem execSeLmDataAccess_follows {s a0 a1 a2 : _} : ∃ t, execSeLmDataAccess a0 a1 a2 s = .next t ∧ s.Follows t := by
  refine ⟨_, rfl, ?_⟩
  have h := State.Follows.refl s
  repeat' first
    | with_reducible assumption
    | with_reducible refine State.busAccess_follows ?_
    | split
    | dsimp only

theorem execSePost_follows {s a0 a1 a2 : _} : ∃ t, execSePost a0 a1 a2 s = .next t ∧ s.Follows t := by
  refine ⟨_, rfl, ?_⟩
  have h := State.Follows.refl s
  repeat' first
    | with_reducible assumption
    | with_reducible refine State.busWrite_follows ?_
    | split
    | dsimp only

theorem execSePop_follows {s a0 a1 : _} : ∃ t, execSePop a0 a1 s = .next t ∧ s.Follows t := by
  refine ⟨_, rfl, ?_⟩
  have h := State.Follows.refl s
  repeat' first
    | with_reducible assumption
    | with_reducible refine State.busRead_follows ?_
    | split
    | dsimp only

theorem execSeEvpost_follows {s a0 a1 a2 : _} : ∃ t, execSeEvpost a0 a1 a2 s = .next t ∧ s.Follows t := by
  refine ⟨_, rfl, ?_⟩
  have h := State.Follows.refl s
  repeat' first
    | with_reducible assumption
    | with_reducible refine State.busWrite_follows ?_
    | split
    | dsimp only

theorem execAccNextRead_follows {s a0 a1 : _} : ∃ t, execAccNextRead a0 a1 s = .next t ∧ s.Follows t := by
  refine ⟨_, rfl, ?_⟩
  have h := State.Follows.refl s
  repeat' first
    | with_reducible assumption
    | with_reducible refine State.busRead_follows ?_
    | split
    | dsimp only

end Sys2Proof.Machine
end

