-- ==== Sys2Proof/Laws/FollowsTimed.lean ====
section
/-!
SUPPORT. Every operation of Machine/Timed answers a state that follows (State.Follows).
-/
namespace Sys2Proof.Machine

theorem State.setWait_follows {z s : State} {a1 a2} (h : z.Follows s) : z.Follows (State.setWait s a1 a2) := by
  unfold State.setWait
  repeat' first
    | with_reducible assumption
    | with_reducible refine State.setEngine_follows ?_
    | split
    | dsimp only

theorem State.lateAt_follows {z s : State} {a1} (h : z.Follows s) : z.Follows (State.lateAt s a1) := by
  unfold State.lateAt
  repeat' first
    | with_reducible assumption
    | with_reducible refine State.setFld_follows ?_
    | with_reducible refine State.setEngine_follows ?_
    | with_reducible refine State.count_follows ?_
    | split
    | dsimp only

theorem State.lateWait_follows {z s : State} {a1} (h : z.Follows s) : z.Follows (State.lateWait s a1) := by
  unfold State.lateWait
  repeat' first
    | with_reducible assumption
    | with_reducible refine State.setFld_follows ?_
    | with_reducible refine State.count_follows ?_
    | split
    | dsimp only

theorem State.timed_follows {z s : State} {a1 a2 a3} (h : z.Follows s) : z.Follows (State.timed s a1 a2 a3) := by
  unfold State.timed
  repeat' first
    | with_reducible assumption
    | with_reducible refine State.lateWait_follows ?_
    | with_reducible refine State.lateAt_follows ?_
    | with_reducible refine State.setWait_follows ?_
    | with_reducible refine State.advance_follows ?_
    | split
    | dsimp only

theorem State.pulseEngine_follows {z s : State} {a1 a2} (h : z.Follows s) : z.Follows (State.pulseEngine s a1 a2) := by
  unfold State.pulseEngine
  repeat' first
    | with_reducible assumption
    | with_reducible refine State.setEngine_follows ?_
    | with_reducible refine State.setWait_follows ?_
    | split
    | dsimp only

theorem State.pulseCore_follows {z s : State} {a1 a2} (h : z.Follows s) : z.Follows (State.pulseCore s a1 a2) := by
  unfold State.pulseCore
  repeat' first
    | with_reducible assumption
    | with_reducible refine State.setCore_follows ?_
    | split
    | dsimp only

theorem State.deliver_follows {z s : State} {a1} (h : z.Follows s) : z.Follows (State.deliver s a1) := by
  unfold State.deliver
  repeat' first
    | with_reducible assumption
    | with_reducible refine State.pulseEngine_follows ?_
    | with_reducible refine State.msixPulse_follows ?_
    | with_reducible refine State.pulseCore_follows ?_
    | with_reducible refine State.Follows.foldl _ ?_ (fun _ _ _ => ?_)
    | with_reducible refine State.Follows.foldl_fst _ ?_ (fun _ _ _ => ?_)
    | split
    | dsimp only

theorem State.counted_follows {z s : State} (h : z.Follows s) : z.Follows (State.counted s) := by
  unfold State.counted
  repeat' first
    | with_reducible assumption
    | with_reducible refine State.setDom_follows ?_
    | with_reducible refine State.tickTime_follows ?_
    | split
    | dsimp only

theorem State.skipWait_follows {z s : State} {a1 a2 a3} (h : z.Follows s) : z.Follows (State.skipWait s a1 a2 a3) := by
  unfold State.skipWait
  repeat' first
    | with_reducible assumption
    | with_reducible refine State.lateAt_follows ?_
    | with_reducible refine State.setFld_follows ?_
    | with_reducible refine State.setWait_follows ?_
    | split
    | dsimp only

theorem State.countTick_follows {z s : State} {a1} (h : z.Follows s) : z.Follows (State.countTick s a1) := by
  unfold State.countTick
  repeat' first
    | with_reducible assumption
    | with_reducible refine State.setEngine_follows ?_
    | with_reducible refine State.setCore_follows ?_
    | split
    | dsimp only

theorem State.auditAdj_follows {z s t : State} {d} (h : z.Follows t) : z.Follows (State.auditAdj s t d) := by
  unfold State.auditAdj
  split
  · split
    · exact State.audit_follows h
    · exact h
  · exact h

theorem State.noteJump_follows {z s : State} {a1 a2} (h : z.Follows s) : z.Follows (State.noteJump s a1 a2) := by
  unfold State.noteJump
  repeat' first
    | with_reducible assumption
    | split
    | dsimp only
    | fail_if_no_progress (with_reducible refine State.Follows.mk_upd ?_)

theorem State.ntTick_follows {z s : State} (h : z.Follows s) : z.Follows (State.ntTick s) := by
  unfold State.ntTick
  repeat' first
    | with_reducible assumption
    | with_reducible refine State.countTick_follows ?_
    | with_reducible refine State.launchPassed_follows ?_
    | with_reducible refine State.auditAdj_follows ?_
    | with_reducible refine State.skipWait_follows ?_
    | with_reducible refine State.noteJump_follows ?_
    | with_reducible refine State.counted_follows ?_
    | with_reducible refine State.passPorts_follows ?_
    | with_reducible refine State.dutyRebase_follows ?_
    | with_reducible refine State.tickTime_follows ?_
    | with_reducible refine State.Follows.foldl _ ?_ (fun _ _ _ => ?_)
    | with_reducible refine State.Follows.foldl_fst _ ?_ (fun _ _ _ => ?_)
    | split
    | dsimp only

theorem State.rcmdIns_follows {z s : State} {a1 a2 a3 a4 a5} (h : z.Follows s) : z.Follows (State.rcmdIns s a1 a2 a3 a4 a5) := by
  unfold State.rcmdIns
  repeat' first
    | with_reducible assumption
    | with_reducible refine State.ins_follows ?_ (fun _ _ => ?_)
    | with_reducible refine State.result_follows ?_
    | with_reducible refine State.rcmd_follows ?_
    | with_reducible refine State.rcmd_follows_of ?_ (by with_reducible assumption)
    | split
    | dsimp only

theorem execNtrd_follows {s a0 a1 a2 : _} : ∃ t, execNtrd a0 a1 a2 s = .next t ∧ s.Follows t := by
  refine ⟨_, rfl, ?_⟩
  have h := State.Follows.refl s
  repeat' first
    | with_reducible assumption
    | with_reducible refine State.ins_follows ?_ (fun _ _ => ?_)
    | with_reducible refine State.result_follows ?_
    | split
    | dsimp only

theorem execWaitnt_follows {s a0 a1 : _} : ∃ t, execWaitnt a0 a1 s = .next t ∧ s.Follows t := by
  refine ⟨_, rfl, ?_⟩
  have h := State.Follows.refl s
  repeat' first
    | with_reducible assumption
    | with_reducible refine State.ins_follows ?_ (fun _ _ => ?_)
    | with_reducible refine State.timed_follows ?_
    | split
    | dsimp only

theorem execAttick_follows {s a0 a1 : _} : ∃ t, execAttick a0 a1 s = .next t ∧ s.Follows t := by
  refine ⟨_, rfl, ?_⟩
  have h := State.Follows.refl s
  repeat' first
    | with_reducible assumption
    | with_reducible refine State.ins_follows ?_ (fun _ _ => ?_)
    | with_reducible refine State.timed_follows ?_
    | split
    | dsimp only

theorem execEvtrig_follows {s a0 a1 a2 : _} : ∃ t, execEvtrig a0 a1 a2 s = .next t ∧ s.Follows t := by
  refine ⟨_, rfl, ?_⟩
  have h := State.Follows.refl s
  repeat' first
    | with_reducible assumption
    | with_reducible refine State.ins_follows ?_ (fun _ _ => ?_)
    | with_reducible refine State.setFld_follows ?_
    | with_reducible refine State.pulseNext_follows ?_
    | with_reducible refine State.advance_follows ?_
    | split
    | dsimp only

theorem execEvwait_follows {s a0 a1 a2 : _} : ∃ t, execEvwait a0 a1 a2 s = .next t ∧ s.Follows t := by
  refine ⟨_, rfl, ?_⟩
  have h := State.Follows.refl s
  repeat' first
    | with_reducible assumption
    | with_reducible refine State.ins_follows ?_ (fun _ _ => ?_)
    | with_reducible refine State.result_follows ?_
    | with_reducible refine State.setEngine_follows ?_
    | with_reducible refine State.setWait_follows ?_
    | with_reducible refine State.advance_follows ?_
    | split
    | dsimp only

theorem execTimedTargetReached_follows {s a0 : _} : ∃ t, execTimedTargetReached a0 s = .next t ∧ s.Follows t := by
  refine ⟨_, rfl, ?_⟩
  have h := State.Follows.refl s
  repeat' first
    | with_reducible assumption
    | with_reducible refine State.setWait_follows ?_
    | split
    | dsimp only

theorem execEvwaitPulse_follows {s a0 : _} : ∃ t, execEvwaitPulse a0 s = .next t ∧ s.Follows t := by
  refine ⟨_, rfl, ?_⟩
  have h := State.Follows.refl s
  repeat' first
    | with_reducible assumption
    | with_reducible refine State.setCore_follows ?_
    | with_reducible refine State.setWait_follows ?_
    | split
    | dsimp only

theorem execEvwaitTimeout_follows {s a0 : _} : ∃ t, execEvwaitTimeout a0 s = .next t ∧ s.Follows t := by
  refine ⟨_, rfl, ?_⟩
  have h := State.Follows.refl s
  repeat' first
    | with_reducible assumption
    | with_reducible refine State.setFld_follows ?_
    | with_reducible refine State.setCore_follows ?_
    | with_reducible refine State.count_follows ?_
    | with_reducible refine State.setWait_follows ?_
    | split
    | dsimp only

theorem execEventDelivery_follows {s : _} : ∃ t, execEventDelivery s = .next t ∧ s.Follows t := by
  refine ⟨_, rfl, ?_⟩
  have h := State.Follows.refl s
  repeat' first
    | with_reducible assumption
    | with_reducible refine State.deliver_follows ?_
    | with_reducible refine State.Follows.foldl _ ?_ (fun _ _ _ => ?_)
    | with_reducible refine State.Follows.foldl_fst _ ?_ (fun _ _ _ => ?_)
    | split
    | dsimp only
    | fail_if_no_progress (with_reducible refine State.Follows.mk_upd ?_)

theorem execNtTick_follows {s : _} : ∃ t, execNtTick s = .next t ∧ s.Follows t := by
  refine ⟨_, rfl, ?_⟩
  have h := State.Follows.refl s
  repeat' first
    | with_reducible assumption
    | with_reducible refine State.ntTick_follows ?_
    | split
    | dsimp only

theorem execTx_follows {s a0 a1 a2 a3 a4 : _} : ∃ t, execTx a0 a1 a2 a3 a4 s = .next t ∧ s.Follows t := by
  refine ⟨_, rfl, ?_⟩
  have h := State.Follows.refl s
  repeat' first
    | with_reducible assumption
    | with_reducible refine State.rcmdIns_follows ?_
    | split
    | dsimp only

theorem execRx_follows {s a0 a1 a2 a3 a4 : _} : ∃ t, execRx a0 a1 a2 a3 a4 s = .next t ∧ s.Follows t := by
  refine ⟨_, rfl, ?_⟩
  have h := State.Follows.refl s
  repeat' first
    | with_reducible assumption
    | with_reducible refine State.rcmdIns_follows ?_
    | split
    | dsimp only

theorem execListen_follows {s a0 a1 a2 a3 a4 : _} : ∃ t, execListen a0 a1 a2 a3 a4 s = .next t ∧ s.Follows t := by
  refine ⟨_, rfl, ?_⟩
  have h := State.Follows.refl s
  repeat' first
    | with_reducible assumption
    | with_reducible refine State.rcmdIns_follows ?_
    | split
    | dsimp only

theorem execTune_follows {s a0 a1 a2 a3 a4 : _} : ∃ t, execTune a0 a1 a2 a3 a4 s = .next t ∧ s.Follows t := by
  refine ⟨_, rfl, ?_⟩
  have h := State.Follows.refl s
  repeat' first
    | with_reducible assumption
    | with_reducible refine State.rcmdIns_follows ?_
    | split
    | dsimp only

theorem execCal_follows {s a0 a1 a2 a3 a4 : _} : ∃ t, execCal a0 a1 a2 a3 a4 s = .next t ∧ s.Follows t := by
  refine ⟨_, rfl, ?_⟩
  have h := State.Follows.refl s
  repeat' first
    | with_reducible assumption
    | with_reducible refine State.rcmdIns_follows ?_
    | split
    | dsimp only

theorem execAnt_follows {s a0 a1 a2 a3 a4 : _} : ∃ t, execAnt a0 a1 a2 a3 a4 s = .next t ∧ s.Follows t := by
  refine ⟨_, rfl, ?_⟩
  have h := State.Follows.refl s
  repeat' first
    | with_reducible assumption
    | with_reducible refine State.rcmdIns_follows ?_
    | split
    | dsimp only

theorem execCca_follows {s a0 a1 a2 a3 a4 : _} : ∃ t, execCca a0 a1 a2 a3 a4 s = .next t ∧ s.Follows t := by
  refine ⟨_, rfl, ?_⟩
  have h := State.Follows.refl s
  repeat' first
    | with_reducible assumption
    | with_reducible refine State.rcmdIns_follows ?_
    | split
    | dsimp only

theorem execPareq_follows {s a0 a1 a2 a3 a4 : _} : ∃ t, execPareq a0 a1 a2 a3 a4 s = .next t ∧ s.Follows t := by
  refine ⟨_, rfl, ?_⟩
  have h := State.Follows.refl s
  repeat' first
    | with_reducible assumption
    | with_reducible refine State.rcmdIns_follows ?_
    | split
    | dsimp only

theorem execIdle_follows {s a0 a1 a2 a3 a4 : _} : ∃ t, execIdle a0 a1 a2 a3 a4 s = .next t ∧ s.Follows t := by
  refine ⟨_, rfl, ?_⟩
  have h := State.Follows.refl s
  repeat' first
    | with_reducible assumption
    | with_reducible refine State.rcmdIns_follows ?_
    | split
    | dsimp only

theorem execAbort_follows {s a0 a1 a2 a3 a4 : _} : ∃ t, execAbort a0 a1 a2 a3 a4 s = .next t ∧ s.Follows t := by
  refine ⟨_, rfl, ?_⟩
  have h := State.Follows.refl s
  repeat' first
    | with_reducible assumption
    | with_reducible refine State.rcmdIns_follows ?_
    | split
    | dsimp only

theorem execSlot_follows {s a0 a1 a2 a3 a4 : _} : ∃ t, execSlot a0 a1 a2 a3 a4 s = .next t ∧ s.Follows t := by
  refine ⟨_, rfl, ?_⟩
  have h := State.Follows.refl s
  repeat' first
    | with_reducible assumption
    | with_reducible refine State.rcmdIns_follows ?_
    | split
    | dsimp only

theorem execPost_follows {s a0 a1 a2 a3 : _} : ∃ t, execPost a0 a1 a2 a3 s = .next t ∧ s.Follows t := by
  refine ⟨_, rfl, ?_⟩
  have h := State.Follows.refl s
  repeat' first
    | with_reducible assumption
    | with_reducible refine State.ins_follows ?_ (fun _ _ => ?_)
    | with_reducible refine State.settleHeld_follows ?_
    | with_reducible refine State.result_follows ?_
    | with_reducible refine State.postItem_follows ?_
    | split
    | dsimp only

theorem execWdDone_follows {s a0 a1 a2 : _} : ∃ t, execWdDone a0 a1 a2 s = .next t ∧ s.Follows t := by
  refine ⟨_, rfl, ?_⟩
  have h := State.Follows.refl s
  repeat' first
    | with_reducible assumption
    | with_reducible refine State.ins_follows ?_ (fun _ _ => ?_)
    | with_reducible refine State.doneItem_follows ?_
    | split
    | dsimp only

theorem execDoneIdleTimeout_follows {s a0 : _} : ∃ t, execDoneIdleTimeout a0 s = .next t ∧ s.Follows t := by
  refine ⟨_, rfl, ?_⟩
  have h := State.Follows.refl s
  repeat' first
    | with_reducible assumption
    | with_reducible refine State.doneTimeout_follows ?_
    | split
    | dsimp only

theorem execQueueItemHeldPost_follows {s : _} : ∃ t, execQueueItemHeldPost s = .next t ∧ s.Follows t := by
  refine ⟨_, rfl, ?_⟩
  have h := State.Follows.refl s
  repeat' first
    | with_reducible assumption
    | with_reducible refine State.postHeld_follows ?_
    | split
    | dsimp only

theorem execLckTake_follows {s a0 a1 a2 : _} : ∃ t, execLckTake a0 a1 a2 s = .next t ∧ s.Follows t := by
  refine ⟨_, rfl, ?_⟩
  have h := State.Follows.refl s
  repeat' first
    | with_reducible assumption
    | with_reducible refine State.ins_follows ?_ (fun _ _ => ?_)
    | with_reducible refine State.result_follows ?_
    | with_reducible refine State.takeToken_follows ?_
    | split
    | dsimp only

theorem execLckGive_follows {s a0 a1 a2 : _} : ∃ t, execLckGive a0 a1 a2 s = .next t ∧ s.Follows t := by
  refine ⟨_, rfl, ?_⟩
  have h := State.Follows.refl s
  repeat' first
    | with_reducible assumption
    | with_reducible refine State.ins_follows ?_ (fun _ _ => ?_)
    | with_reducible refine State.giveToken_follows ?_
    | with_reducible refine State.result_follows ?_
    | split
    | dsimp only

theorem execTakev_follows {s a0 a1 a2 : _} : ∃ t, execTakev a0 a1 a2 s = .next t ∧ s.Follows t := by
  refine ⟨_, rfl, ?_⟩
  have h := State.Follows.refl s
  repeat' first
    | with_reducible assumption
    | with_reducible refine State.ins_follows ?_ (fun _ _ => ?_)
    | with_reducible refine State.result_follows ?_
    | with_reducible refine State.takeToken_follows ?_
    | split
    | dsimp only

theorem execGivev_follows {s a0 a1 a2 : _} : ∃ t, execGivev a0 a1 a2 s = .next t ∧ s.Follows t := by
  refine ⟨_, rfl, ?_⟩
  have h := State.Follows.refl s
  repeat' first
    | with_reducible assumption
    | with_reducible refine State.ins_follows ?_ (fun _ _ => ?_)
    | with_reducible refine State.giveToken_follows ?_
    | with_reducible refine State.result_follows ?_
    | split
    | dsimp only

theorem execSvc_follows {s a0 a1 a2 a3 a4 : _} : ∃ t, execSvc a0 a1 a2 a3 a4 s = .next t ∧ s.Follows t := by
  refine ⟨_, rfl, ?_⟩
  have h := State.Follows.refl s
  repeat' first
    | with_reducible assumption
    | with_reducible refine State.ins_follows ?_ (fun _ _ => ?_)
    | with_reducible refine State.result_follows ?_
    | with_reducible refine State.svcIssue_follows ?_
    | split
    | dsimp only

end Sys2Proof.Machine
end

