-- ==== Sys2Proof/Tests/Slice0.lean ====
section
/-!
SUPPORT. Tests of the model by single commands on small states: an ill-formed command for each check of WellFormed, results the
spec states, and for each statement with hypotheses a state that meets them, with what the command then does.
-/

namespace Sys2Proof.Tests
section
set_option maxRecDepth 20000
set_option Elab.async false
open Sys2Proof Sys2Proof.Machine

/-- The state after a command. -/
def after (c : Instr) (s : State) : State :=
  match exec c s with
  | .next t => t
  | _ => s

/-! ## WellFormed refuses -/

theorem test_wf_requester : (Instr.swapRequest 24 0).wf = false ∧ (Instr.swapRequest 31 0).wf = true := by decide +kernel
theorem test_wf_register_address : (Instr.registerWrite 0 0x8000000002 0).wf = false ∧ (Instr.registerWrite 0 0x100 0).wf = false ∧
    (Instr.registerWrite 0 0x8000000000 0).wf = true := by decide +kernel
theorem test_wf_shadow_address : (Instr.shadowWrite 0 0x8000000000 0).wf = false := by decide +kernel
theorem test_wf_wide_parts : (Instr.wideValueLowRead 0 (BitVec.ofNat 40 (R.NT_INCR_HI 0))).wf = false ∧
    (Instr.wideValueLowWrite 0 (BitVec.ofNat 40 (R.NT_INCR_HI 0)) 0).wf = false ∧
    (Instr.wideValueHighWrite 0 (BitVec.ofNat 40 (R.NT_INCR_LO 0)) 0).wf = false ∧
    (Instr.wideValueLowWrite 0 (BitVec.ofNat 40 (R.NT_INCR_LO 0)) 0).wf = true ∧
    (Instr.wideValueHighWrite 0 (BitVec.ofNat 40 (R.NT_INCR_HI 0)) 0).wf = true := by decide +kernel
theorem test_wf_function : (Instr.fnStartDone ⟨0, 0, 0⟩).wf = false ∧ (Instr.fnStartDone ⟨4, 0, 0⟩).wf = true := by decide +kernel
theorem test_wf_lane : (Instr.syncTimeout 1 32).wf = false ∧ (Instr.syncTimeout 1 31).wf = true ∧ (Instr.syncTimeout 2 1).wf = false := by decide +kernel
theorem test_wf_mode : (Instr.preambleDetect 0 0 0 0 0 0 0).wf = false ∧ (Instr.preambleDetect 0 0 0x10 0 0 0 0).wf = true := by decide +kernel
theorem test_wf_bytes : (Instr.frameEnd 0 0 (List.replicate 16384 0) ⟨0, 0, 0, 0, 0, false⟩).wf = false := by decide +kernel
theorem test_wf_pairs : (Instr.captureSpanEnd ⟨0, 0, 0, 0, 0, false⟩ [1]).wf = false := by decide +kernel
theorem test_wf_descriptor : (Instr.hostTxServe [] []).wf = false ∧ (Instr.portTransmitChoice 0 0 [1]).wf = false ∧
    (Instr.portTransmitChoice 0 0 []).wf = true := by decide +kernel
theorem test_wf_sensor : (Instr.monitorSample 0 16 0).wf = false ∧ (Instr.monitorSample 1 24 0).wf = false ∧
    (Instr.monitorSample 2 8 0).wf = false ∧ (Instr.monitorSample 1 23 0).wf = true := by decide +kernel
theorem test_wf_control_core : (Instr.coreDoubleFault 4).wf = false ∧ (Instr.coreDoubleFault 3).wf = true := by decide +kernel
theorem test_wf_bypass : (Instr.bypass 0x01).wf = false ∧ (Instr.bypass 0xFF).wf = true := by decide +kernel
theorem test_wf_post_level : (Instr.post_ 0 1 2 8).wf = false ∧ (Instr.post_ 0 1 2 7).wf = true := by decide +kernel

/-! ## The queue, memory, reset -/

theorem test_no_word_spells_a_command : decodeTableWord 32 0xFFFFFFFF = none := rfl
theorem test_step_runs_the_front : ∃ t, step { State.reset with pending := [.ntTick, .slewEnd] } = .next t ∧ t.ticks = 1 ∧
    t.pending = [.slewEnd] := ⟨_, rfl, by decide +kernel⟩
theorem test_idle : step State.reset = .next State.reset := rfl
/-- A queue of three (QueuedCommandsRunInOrder at k = 2). -/
theorem witness_queue : 2 ≤ ({ State.reset with pending := [.ntTick, .slewEnd, .ntTick] } : State).pending.length := by decide
theorem witness_canonical : State.reset.Canonical :=
  ⟨by decide +kernel, by decide +kernel, by decide +kernel, by decide +kernel, by decide +kernel, by decide +kernel⟩
theorem test_memory_writing_zero_unlists : (State.reset.wrLe 0x100 2 0x1200).mem = [(0x101, 0x12)] ∧
    ((State.reset.wrLe 0x100 2 0x1234).wrLe 0x100 2 0).mem = [] := by decide +kernel
/-- Two fields of one register, neither over the other (RegistersFieldsAndMemoryHoldWhatIsWritten). -/
theorem witness_fields_apart : F.TSEL_CTL_SLEW_RATE.msb ≤ 31 ∧ (F.TSEL_CTL_SEL.addr ≠ F.TSEL_CTL_SLEW_RATE.addr ∨
    F.TSEL_CTL_SEL.msb < F.TSEL_CTL_SLEW_RATE.lsb) ∧
    (State.reset.setFld F.TSEL_CTL_SLEW_RATE 77).fld F.TSEL_CTL_SLEW_RATE = 77 ∧
    (State.reset.setFld F.TSEL_CTL_SLEW_RATE 77).fld F.TSEL_CTL_SEL = State.reset.fld F.TSEL_CTL_SEL := by decide +kernel
/-- R1, R14 and Table 02-3. -/
theorem test_reset_identity : State.reset.reg 0x8000000000 = 0x3048B101 := by decide +kernel

/-! ## Cores (chapter 04) -/

/-- Cores 0 to 19 released from reset, the DRAM function MEM on. -/
def freed : State := (State.reset.setFld F.KPR_HOLD_HOLD 0).setFld (fnState 24 0 0) 2
/-- Core c at an address of its own memory or of the scratchpad, with general registers g. -/
def coreAt (c : Nat) (g : SMap DWord) : State :=
  freed.setCore c { coreReset c with pc := (if 20 ≤ c then 0x100 else 0x4000000100), g := g }
/-- Slot engine S running, with general registers g. -/
def engineAt (g : SMap DWord) : State := (coreAt 20 g).setFld (fnState 4 0 0) 2
/-- What register r of core c holds after a command. -/
def gAfter (i : Instr) (s : State) (c : Nat) (r : Fin 32) : DWord := ((after i s).core c).gr r

theorem witness_issues_control : (coreAt 0 []).Issues 0 .divide := ⟨by decide +kernel, ⟨none, by decide +kernel⟩, by decide⟩
theorem witness_issues_base : (coreAt 0 []).Issues 0 .base := ⟨by decide +kernel, ⟨none, by decide +kernel⟩, by decide⟩
theorem witness_issues_work : (coreAt 19 []).Issues 19 .done := ⟨by decide +kernel, ⟨none, by decide +kernel⟩, by decide⟩
theorem witness_issues_lock : (coreAt 0 []).Issues 0 .lock := ⟨by decide +kernel, ⟨none, by decide +kernel⟩, by decide⟩
theorem witness_issues_post : (coreAt 0 []).Issues 0 .post := ⟨by decide +kernel, ⟨none, by decide +kernel⟩, by decide⟩
theorem witness_issues_svc : (coreAt 0 []).Issues 0 .svc := ⟨by decide +kernel, ⟨none, by decide +kernel⟩, by decide⟩
theorem witness_issues_keeper : (coreAt 23 []).Issues 23 .atom := ⟨by decide +kernel, ⟨none, by decide +kernel⟩, by decide⟩
theorem witness_issues_engine : (engineAt []).Issues 20 .timed := ⟨by decide +kernel, ⟨none, by decide +kernel⟩, by decide⟩
theorem witness_issues_engine_base : (engineAt []).Issues 20 .base := ⟨by decide +kernel, ⟨none, by decide +kernel⟩, by decide⟩
theorem witness_runs : (coreAt 3 []).Runs 3 := ⟨by decide +kernel, ⟨none, by decide +kernel⟩⟩
theorem witness_runs_engine : (engineAt []).Runs 20 := ⟨by decide +kernel, ⟨none, by decide +kernel⟩⟩

/-- Table 04-4 by hand: x = -1, y = 3. -/
theorem test_integer_forms :
    let s := coreAt 0 [(1, 0xFFFFFFFFFFFFFFFF), (2, 3)]
    gAfter (.add 0 3 1 2) s 0 3 = 2 ∧ gAfter (.sub 0 3 2 1) s 0 3 = 4 ∧ gAfter (.slt 0 3 1 2) s 0 3 = 1 ∧
    gAfter (.sltu 0 3 1 2) s 0 3 = 0 ∧ gAfter (.sra 0 3 1 2) s 0 3 = 0xFFFFFFFFFFFFFFFF ∧ gAfter (.srl 0 3 1 2) s 0 3 = 0x1FFFFFFFFFFFFFFF ∧
    gAfter (.ror 0 3 2 2) s 0 3 = 0x6000000000000000 ∧ gAfter (.sllw 0 3 1 2) s 0 3 = 0xFFFFFFFFFFFFFFF8 ∧
    gAfter (.srlw 0 3 1 2) s 0 3 = 0x1FFFFFFF ∧ gAfter (.addw 0 3 1 2) s 0 3 = 2 := by decide +kernel
theorem test_products :
    let s := coreAt 0 [(1, 0xFFFFFFFFFFFFFFFF), (2, 3)]
    gAfter (.mul 0 3 1 2) s 0 3 = 0xFFFFFFFFFFFFFFFD ∧ gAfter (.mulh 0 3 1 2) s 0 3 = 0xFFFFFFFFFFFFFFFF ∧
    gAfter (.mulhu 0 3 1 2) s 0 3 = 2 ∧ gAfter (.mulhsu 0 3 1 2) s 0 3 = 0xFFFFFFFFFFFFFFFF := by decide +kernel
/-- R82: the corners, with hypotheses of DivisionCornersOfR82 met. -/
theorem test_division :
    let s := coreAt 0 [(1, 0x8000000000000000), (2, 0xFFFFFFFFFFFFFFFF), (4, 0xFFFFFFFFFFFFFFF9), (5, 2)]
    gAfter (.div 0 3 1 2) s 0 3 = 0x8000000000000000 ∧ gAfter (.rem_ 0 3 1 2) s 0 3 = 0 ∧
    gAfter (.div 0 3 1 0) s 0 3 = 0xFFFFFFFFFFFFFFFF ∧ gAfter (.remu 0 3 1 0) s 0 3 = 0x8000000000000000 ∧
    gAfter (.div 0 3 4 5) s 0 3 = 0xFFFFFFFFFFFFFFFD ∧ gAfter (.rem_ 0 3 4 5) s 0 3 = 0xFFFFFFFFFFFFFFFF ∧
    gAfter (.divu 0 3 4 5) s 0 3 = 0x7FFFFFFFFFFFFFFC := by decide +kernel
theorem test_bit_forms :
    let s := coreAt 0 [(1, 0x0102030405060708), (2, 0x10)]
    gAfter (.clz 0 3 1) s 0 3 = 7 ∧ gAfter (.clz 0 3 0) s 0 3 = 64 ∧ gAfter (.ctz 0 3 2) s 0 3 = 4 ∧ gAfter (.ctz 0 3 0) s 0 3 = 64 ∧
    gAfter (.popc 0 3 1) s 0 3 = 13 ∧ gAfter (.bswap 0 3 1) s 0 3 = 0x0807060504030201 := by decide +kernel
theorem test_selnz_keeps_rd : let s := coreAt 0 [(1, 5), (3, 9)]
    gAfter (.selnz 0 3 1 0) s 0 3 = 9 ∧ gAfter (.selnz 0 3 1 1) s 0 3 = 5 := by decide +kernel
theorem test_g0_stays_zero : gAfter (.addi 0 0 0 5) (coreAt 0 []) 0 0 = 0 ∧ ((after (.addi 0 0 0 5) (coreAt 0 [])).core 0).pc = 0x4000000104 := by
  decide +kernel
theorem test_immediates :
    let s := coreAt 0 [(1, 0xF0F0)]
    gAfter (.addi 0 3 1 0xFFFF) s 0 3 = 0xF0EF ∧ gAfter (.andi 0 3 1 0xFF00) s 0 3 = 0xF000 ∧ gAfter (.slti 0 3 1 0xFFFF) s 0 3 = 0 ∧
    gAfter (.sltiu 0 3 1 0xFFFF) s 0 3 = 1 ∧ gAfter (.lui 0 3 0x100000) s 0 3 = 0xFFFFFFF000000000 ∧
    gAfter (.auipc 0 3 1) s 0 3 = 0x4000010100 := by decide +kernel
/-- SHI with a form Table 04-4 lacks is illegal: cause 0x03 with the word in EADDR. -/
theorem test_shi : shiLegal 0x0003 = true ∧ shiLegal 0xFFFF = false ∧
    gAfter (.shi 0 3 1 0x0003) (coreAt 0 [(1, 5)]) 0 3 = 40 ∧
    ((after (.shi 0 3 1 0xFFFF) (coreAt 0 [(1, 5)])).core 0).ecause = 0x03 := by decide +kernel
/-- R85: targets from the branch itself; JALR clears bits 1 and 0. -/
theorem test_branches :
    let s := coreAt 0 [(1, 0xFFFFFFFFFFFFFFFF), (2, 0x4000000207)]
    let pc (i : Instr) : DWord := ((after i s).core 0).pc
    pc (.blt 0 1 0 0xFFFF) = 0x40000000FC ∧ pc (.bltu 0 1 0 0xFFFF) = 0x4000000104 ∧ pc (.bge 0 1 0 2) = 0x4000000104 ∧
    pc (.bne 0 1 0 2) = 0x4000000108 ∧ pc (.jal 0 3 0x1FFFFF) = 0x40000000FC ∧ pc (.jalr 0 3 2 0) = 0x4000000204 ∧
    gAfter (.jal 0 3 0) s 0 3 = 0x4000000104 := by decide +kernel
/-- Hypotheses of PlainAndFloatingLoadsAndStores and R83: a load at a scratchpad address. -/
theorem witness_plain : (coreAt 0 [(1, 0x4000000010)]).Plain 0 .load 0x4000000010 0x4000000010 4 :=
  ⟨by decide, ⟨true, none, by decide +kernel⟩, by decide +kernel, by decide +kernel, by decide +kernel⟩
theorem witness_plain_store : (coreAt 0 []).Plain 0 .store 0x1FFFFFFF8 0x1FFFFFFF8 8 :=
  ⟨by decide, ⟨true, none, by decide +kernel⟩, by decide +kernel, by decide +kernel, by decide +kernel⟩
theorem witness_plain_atomic : (coreAt 0 []).Plain 0 .atomic 0x40 0x40 8 :=
  ⟨by decide, ⟨true, none, by decide +kernel⟩, by decide +kernel, by decide +kernel, by decide +kernel⟩
theorem test_loads_sign_extend :
    let s := (coreAt 0 [(1, 0x4000000010)]).wrLe 0x4000000010 8 0x8182838485868788
    gAfter (.lb 0 3 1 0) s 0 3 = 0xFFFFFFFFFFFFFF88 ∧ gAfter (.lbu 0 3 1 7) s 0 3 = 0x81 ∧ gAfter (.lh 0 3 1 0) s 0 3 = 0xFFFFFFFFFFFF8788 ∧
    gAfter (.lw 0 3 1 4) s 0 3 = 0xFFFFFFFF81828384 ∧ gAfter (.lwu 0 3 1 4) s 0 3 = 0x81828384 ∧ gAfter (.ld 0 3 1 0) s 0 3 = 0x8182838485868788 := by
  decide +kernel
theorem test_store_byte_order : (after (.sw 0 2 1 0xFFFC) (coreAt 0 [(1, 0x104), (2, 0x1122334455667788)])).mem =
    [(0x100, 0x88), (0x101, 0x77), (0x102, 0x66), (0x103, 0x55)] := by decide +kernel
/-- R83 and Table 04-13: a misaligned load of a control core; nothing is written. -/
theorem test_misaligned : let t := after (.lw 0 3 1 0) (coreAt 0 [(1, 0x4000000012)])
    (t.core 0).ecause = 0x09 ∧ (t.core 0).eaddr = 0x4000000012 ∧ (t.core 0).epc = 0x4000000100 ∧ (t.core 0).gr 3 = 0 ∧ t.mem = [] := by
  decide +kernel
theorem witness_exl_clear : ((coreAt 0 []).core 0).exl = false ∧ (coreAt 0 []).Issues 0 .base :=
  ⟨by decide +kernel, witness_issues_base⟩
/-- Local memory of a slot engine: the program page takes no stores, the data area does (R76). -/
theorem test_local_memory : let s := engineAt [(1, 0x8000), (2, 0xAB)]
    gAfter (.lbu 20 3 1 0) (after (.sb 20 2 1 0) s) 20 3 = 0xAB ∧ localMem 20 0x8000 = true ∧ localMem 20 0x10000 = false := by decide +kernel
/-- Table 04-7. -/
theorem test_atomics : let s := (coreAt 0 [(1, 0x40), (2, 1), (3, 0xFFFFFFFF)]).wrLe 0x40 4 0xFFFFFFFF
    gAfter (.amin 0 4 1 2 false false false) s 0 4 = 0xFFFFFFFFFFFFFFFF ∧ (after (.aadd 0 4 1 2 false false false) s).rdLe 0x40 4 = 0 ∧
    (after (.aminu 0 4 1 2 false false false) s).rdLe 0x40 4 = 1 ∧ (after (.amin 0 4 1 2 false false false) s).rdLe 0x40 4 = 0xFFFFFFFF ∧
    (after (.cas 0 3 1 2 false false false) s).rdLe 0x40 4 = 1 ∧ (after (.cas 0 4 1 2 false false false) s).rdLe 0x40 4 = 0xFFFFFFFF := by
  decide +kernel
/-- R87: SC succeeds after LR, once; a store of another core into the granule clears the reservation. -/
theorem test_reservation :
    let s := after (.lr 0 4 1 false false false) (coreAt 0 [(1, 0x40), (2, 7)])
    (s.core 0).resv = some (1, 4) ∧ gAfter (.sc 0 5 1 2 false false false) s 0 5 = 0 ∧
    (after (.sc 0 5 1 2 false false false) s).rdLe 0x40 4 = 7 ∧ gAfter (.sc 0 5 1 2 true false false) s 0 5 = 1 ∧
    gAfter (.sc 0 5 1 2 false false false) (s.store 1 0x7F [1]) 0 5 = 1 ∧ gAfter (.sc 0 5 1 2 false false false) (s.store 1 0x80 [1]) 0 5 = 0 := by
  decide +kernel
/-- A control core with floating point on. -/
def floatAt (f : SMap DWord) : State := freed.setCore 0 { coreReset 0 with pc := 0x4000000100, status := 0x20, f := f }
theorem witness_issues_float : (floatAt []).IssuesFloat 0 0 ∧ (floatAt []).IssuesFloat 0 7 :=
  ⟨⟨⟨by decide +kernel, ⟨none, by decide +kernel⟩, by decide⟩, by decide +kernel, by decide +kernel⟩,
   ⟨⟨by decide +kernel, ⟨none, by decide +kernel⟩, by decide⟩, by decide +kernel, by decide +kernel⟩⟩
/-- 1 + 2 = 3; 1 / 3 rounds to nearest even and is inexact; the square root of -1 is the NaN of R88 and invalid. -/
theorem test_floats :
    let s := floatAt [(1, 0x3FF0000000000000), (2, 0x4000000000000000), (3, 0x4008000000000000), (4, 0xBFF0000000000000)]
    let f (i : Instr) : DWord := ((after i s).core 0).fr 5
    f (.fadd 0 5 1 2 true 0) = 0x4008000000000000 ∧ f (.fdiv 0 5 1 3 true 0) = 0x3FD5555555555555 ∧
    ((after (.fdiv 0 5 1 3 true 0) s).core 0).fcsr = 1 ∧ f (.fsqrt 0 5 4 true 0) = 0x7FF8000000000000 ∧
    ((after (.fsqrt 0 5 4 true 0) s).core 0).fcsr = 0x10 ∧ f (.fcvtP 0 5 3 false 0) = 0x40400000 ∧
    f (.fmadd 0 5 2 3 1 true 0) = 0x401C000000000000 ∧ gAfter (.flt 0 6 4 1 true 0) s 0 6 = 1 ∧ gAfter (.fclass 0 6 4 true 0) s 0 6 = 2 ∧
    gAfter (.fcvtIF 0 6 4 true 0) s 0 6 = 0xFFFFFFFFFFFFFFFF := by decide +kernel
/-- Operands with exact values (FloatingBitFormsAndNansAnswer): 1, 2, and 1 with the infinities. -/
theorem witness_exact : (FloatFmt.decode (fmtOf true) 0x3FF0000000000000).exact = some 1 ∧
    (FloatFmt.decode (fmtOf true) 0x4000000000000000).exact = some 2 ∧ (FloatFmt.decode (fmtOf true) 0).exact = some 0 := by decide +kernel
/-- R88: floating point off. -/
theorem test_float_disabled : ((after (.fadd 0 5 1 2 true 0) (coreAt 0 [])).core 0).ecause = 0x05 ∧ ((coreAt 0 []).core 0).fpen = false := by
  decide +kernel
/-- A reserved rounding mode is illegal before that (R93). -/
theorem test_bad_rounding : ((after (.fadd 0 5 1 2 true 5) (coreAt 0 [])).core 0).ecause = 0x03 := by decide +kernel
theorem test_part_missing : coreAndPart (.evtrig 0 1 0) = some (0, .timed) ∧ coreHas 0 .timed = false ∧ (coreAt 0 []).Runs 0 ∧
    ((after (.evtrig 0 1 0) (coreAt 0 [])).core 0).ecause = 0x03 :=
  ⟨rfl, rfl, ⟨by decide +kernel, ⟨none, by decide +kernel⟩⟩, by decide +kernel⟩
/-- R92 and R97: entry, and the double fault with its line. -/
theorem test_exceptions :
    let s := freed.setCore 0 { coreReset 0 with pc := 0x4000000100, evec := 0x4000000800, status := 0x01 }
    let t := after (.ecall 0) s
    let d := after (.ecall 0) (t.setCore 0 { t.core 0 with pc := 0x4000000100 })
    (t.core 0).pc = 0x4000000800 ∧ (t.core 0).epc = 0x4000000100 ∧ (t.core 0).ecause = 0x07 ∧ (t.core 0).status = 0x0E ∧
    (d.core 0).mode = .dfault ∧ (∃ p ∈ d.fabric, p.line = 59) ∧
    (after (.eret 0) t).core 0 = { t.core 0 with pc := 0x4000000100, status := 0x06 ||| 0x01, retired := (t.core 0).retired + 1 } := by decide +kernel
theorem test_engine_halts : let t := after (.ecall 20) (engineAt [])
    t.fld (F.SE_FAULT_CAUSE 0) = 0x07 ∧ t.fld (F.SE_FAULT_PC 0) = 0x100 ∧ t.fld (fnState 4 0 0) = 4 ∧ (∃ p ∈ t.fabric, p.line = 19) := by
  decide +kernel
theorem test_ebreak : ((after (.ebreak 20) (engineAt [])).core 20).pc = 0x104 ∧
    ((after (.ebreak 0) (coreAt 0 [])).core 0).ecause = 0x08 ∧
    ((after (.ebreak 0) (freed.setCore 0 { coreReset 0 with pc := 0x4000000100, haltOnBreak := true })).core 0).mode = .debug := by decide +kernel
/-- ERET, WFI at user level (Table 04-13, cause 0x04). -/
theorem test_privilege : let s := freed.setCore 0 { coreReset 0 with pc := 0x4000000100, sup := false }
    ((after (.wfi 0) s).core 0).ecause = 0x04 ∧ ((after (.srset 0 1 0 0x100) s).core 0).ecause = 0x04 := by decide +kernel
/-- Table 04-9: EVEC swaps; its low twelve bits stay 0. INT claims the lowest line. -/
theorem test_system_registers :
    let s := freed.setCore 0 { coreReset 0 with pc := 0x4000000100, g := [(1, 0x4000001FFF)], evec := 0x4000000000, ien := 0xFF, ipend := 0x18 }
    gAfter (.srswap 0 2 1 0x101) s 0 2 = 0x4000000000 ∧ ((after (.srswap 0 2 1 0x101) s).core 0).evec = 0x4000001000 ∧
    gAfter (.srset 0 2 0 0x11C) s 0 2 = 0x8000000000000003 ∧ ((after (.srset 0 2 0 0x11C) s).core 0).ipend = 0x10 := by decide +kernel
theorem test_interrupt_entry :
    let s := freed.setCore 0 { coreReset 0 with pc := 0x4000000100, evec := 0x4000001000, status := 1, ien := 0x20, ipend := 0x30 }
    let t := after (.interruptEntry 0) s
    (t.core 0).pc = 0x4000001100 ∧ (t.core 0).ecause = 0x8000000000000005 ∧ (t.core 0).ipend = 0x30 ∧
    after (.interruptEntry 0) (coreAt 0 []) = coreAt 0 [] := by decide +kernel
theorem test_wfi : let s := coreAt 0 []
    let t := after (.wfi 0) s
    (t.core 0).mode = .wfi ∧ (t.core 0).pc = 0x4000000104 ∧ after (.wfiResume 0) t = t ∧
    ((after (.wfiResume 0) (t.setCore 0 { t.core 0 with ien := 1, ipend := 1 })).core 0).mode = .run := by decide +kernel
theorem test_imprecise_store : let s := freed.setCore 0 { coreReset 0 with pc := 0x4000000100, badStores := [(0x50, 0x11)] }
    let t := after (.impreciseStoreError 0 0x50 0x11) s
    (t.core 0).ecause = 0x400000000000110E ∧ (t.core 0).eaddr = 0x50 ∧ (t.core 0).badStores = [] := by decide +kernel

/-! ## Time, engines, radios (chapters 03, 05, 06) -/

/-- Network time at n units of 2^-32 ns in both domains, both fine. -/
def timeAt (n : Nat) (s : State) : State :=
  let d : NtDomain := { NtDomain.reset with sec := n / secU, ns := n % secU / 2 ^ 32, frac := n % 2 ^ 32 }
  ((({ s with time := { s.time with a := d, b := d, selFrom := n } } : State).setFld (F.NT_STAT_COARSE 0) 0).setFld (F.NT_STAT_COARSE 1) 0)
/-- Elapsed network time at n units. -/
def clockAt (n : Nat) (s : State) : State := { s with time := { s.time with selCount := n } }
/-- Five thousand million seconds: above the span of a packed time. -/
def t0 : Nat := 5000000000 * secU
/-- Engine S running at NT t0, with general registers g. -/
def engineOn (g : SMap DWord) : State := timeAt t0 (engineAt g)

/-- R116 at both edges of the span. -/
theorem test_packed : 2 ^ 31 ≤ t0 / secU ∧ t0 / secU < 2 ^ 48 - 2 ^ 32 ∧
    packedTarget t0 ((5000000000 + 2 ^ 31 - 1) % 2 ^ 32 * 2 ^ 32 + 5) = (5000000000 + 2 ^ 31 - 1) * secU + 5 * 2 ^ 32 ∧
    packedTarget t0 ((5000000000 - 2 ^ 31 + 1) % 2 ^ 32 * 2 ^ 32) = (5000000000 - 2 ^ 31 + 1) * secU := by decide +kernel
theorem test_ntrd : gAfter (.ntrd 20 3 3) (engineOn []) 20 3 = BitVec.ofNat 64 (5000000000 % 2 ^ 32 * 2 ^ 32) ∧
    gAfter (.ntrd 20 3 0) (engineOn []) 20 3 = 5000000000 := by decide +kernel
/-- A wait for a second ahead, and one for now: late (R117). -/
theorem test_waitnt :
    let s := engineOn [(1, BitVec.ofNat 64 (5000000001 % 2 ^ 32 * 2 ^ 32)), (2, BitVec.ofNat 64 (5000000000 % 2 ^ 32 * 2 ^ 32))]
    s.now < packedTarget s.now ((s.core 20).gr 1).toNat ∧ packedTarget s.now ((s.core 20).gr 2).toNat ≤ s.now ∧
    ((after (.waitnt 20 1) s).engine 0).wait = .until (5000000001 * secU) false ∧ ((after (.waitnt 20 2) s).engine 0).wait = .none ∧
    (after (.waitnt 20 2) s).fld (F.SE_STAT_LATE_WAIT 0) = 1 ∧ ((after (.attick 20 2) s).engine 0).lateNext = true := by decide +kernel
theorem test_target_reached : let s := (engineOn []).setEngine 0 { Engine.reset with wait := .until t0 false }
    s.live 20 = true ∧ ((after (.timedTargetReached 0) s).engine 0).wait = .none ∧
    after (.timedTargetReached 0) ((engineOn []).setEngine 0 { Engine.reset with wait := .until (t0 + 1) false }) =
      (engineOn []).setEngine 0 { Engine.reset with wait := .until (t0 + 1) false } := by decide +kernel
/-- R120 at lines 63 and 64. -/
theorem test_evtrig : (after (.evtrig 20 0 64) (engineOn [])).fabric = [⟨64, 1⟩] ∧ (after (.evtrig 20 0 63) (engineOn [])).fabric = [] ∧
    (after (.evtrig 20 0 63) (engineOn [])).fld (F.SE_STAT_FIXED_TRIG 0) = 1 := by decide +kernel
theorem test_evwait : let s := (engineOn [(3, 9)]).setEngine 0 { Engine.reset with latches := 1 <<< 70 }
    gAfter (.evwait 20 3 70) s 20 3 = 0 ∧ ((after (.evwait 20 3 70) s).engine 0).latches = 0 ∧
    ((after (.evwait 20 3 71) s).engine 0).wait = .event 71 3 0 false := by decide +kernel
theorem test_evwait_ends : let w (arrived : Bool) : State := ((engineOn []).setEngine 0 { Engine.reset with wait := .event 71 3 0 arrived }).setFld (F.SE_WAIT_LIMIT_LIMIT 0) 5
    let late (s : State) : State := { s with ticks := 5 }
    ((after (.evwaitPulse 0) (w true)).engine 0).wait = .none ∧ gAfter (.evwaitTimeout 0) (late (w false)) 20 3 = 1 ∧
    after (.evwaitTimeout 0) (w false) = w false ∧ after (.evwaitTimeout 0) (late (w true)) = late (w true) ∧ (w false).powered 13 = true ∧
    (((w false).pulseEngine 0 71).engine 0).wait = .event 71 3 0 true ∧ (((w false).pulseEngine 0 70).engine 0).latches = 1 <<< 70 := by decide +kernel
/-- R122, R96: a pulse is delivered two ticks after it entered; the pending bits of all cores take it. -/
theorem test_event_delivery : let s (n : Nat) : State := { freed with fabric := [⟨100, 3⟩], ticks := n }
    after .eventDelivery (s 4) = s 4 ∧ (after .eventDelivery (s 5)).fabric = [] ∧
    ((after .eventDelivery (s 5)).core 3).ipend.getLsbD 100 = true ∧ ((after .eventDelivery (s 5)).core 3).ipend.getLsbD 99 = false := by decide +kernel

/-- NT_TICK at the nominal increment: 5 ns; the seconds carry. -/
theorem test_nt_tick : let t := after .ntTick (timeAt (secU - 2 ^ 32) State.reset)
    t.ticks = 1 ∧ (t.dom 0).sec = 1 ∧ (t.dom 0).ns = 4 ∧ (t.dom 0).frac = 0 ∧ (t.engine 1).cycle = 1 := by decide +kernel
/-- R59: a forced load takes effect at the tick. -/
theorem test_load : let s := State.reset.setDom 0 { NtDomain.reset with adj := some ⟨true, true, 23, 3, 0, 0x8000, 7, 9⟩ }
    ((s.tickDomain 0).dom 0).units = 9 * secU + 7 * 2 ^ 32 + 2 ^ 31 ∧ ((s.tickDomain 0).dom 0).adj = none ∧ State.reset.incr 0 < 2 ^ 40 := by decide +kernel
theorem test_slew_end : let s := State.reset.setFld F.TSEL_STAT_SLEWING 1
    (after .slewEnd s).fld F.TSEL_STAT_SLEWING = 0 ∧ (∃ p ∈ (after .slewEnd s).fabric, p.line = 8) ∧ s.time.offset = 0 := by decide +kernel
/-- R57: the reference is lost and returns after 10 s. -/
theorem test_reference : let s := (State.reset.setFld F.TSEL_REF_REF_PRESENT 1).setFld F.TSEL_REF_SRC 2
    let back (n : Nat) : State := clockAt n s
    (after .refLost s).fld F.TSEL_REF_REF_LOST = 1 ∧ (∃ p ∈ (after .refLost s).fabric, p.line = 7) ∧
    (after .refReturn (back (10 * secU))).fld F.TSEL_REF_ACTIVE = 1 ∧ after .refReturn (back (10 * secU - 1)) = back (10 * secU - 1) := by decide +kernel
theorem test_ref10 : (after .ref10Arrival State.reset).fld F.TSEL_REF_REF_PRESENT = 1 := by decide +kernel
/-- R66: a capture on the grid of 62.5 ps, with its line. -/
theorem test_capture : let s := (timeAt t0 State.reset).setFld (F.NT_IN_CFG_EN 0 1) 1
    let t := after (.captureEdge 1 false 0x8000) s
    t.fld (F.NT_CAP_NS_NS 0 1) = 2 ∧ t.fld (F.NT_CAP_FRAC_FRAC 0 1) = 0x8000 ∧ t.fld (F.NT_CAP_STAT_VALID 0 1) = 1 ∧
    (∃ p ∈ t.fabric, p.line = 1) ∧ s.fld (F.NT_IN_CFG_EDGE 0 1) = b2n false := by decide +kernel
theorem test_tod : let s := State.reset.setFld (F.NT_TOD_CFG_EN 0 1) 1
    s.todOn 1 = true ∧ (after (.todByteRx 1 0x41 0) s).tod 1 = [(0x41, true)] := by decide +kernel
/-- A PPS output whose second has come. -/
theorem test_pps_out : let s := after .ntTick ((timeAt (t0 - 2 ^ 32) State.reset).setFld (F.NT_OUT_CFG_EN 0 0) 1)
    let t := after (.ppsOutEdge 0) s
    s.outDue 0 = some (5000000000, 4 * nsU) ∧ (t.out 0).active = true ∧ (t.out 0).edge = nsU ∧ (t.out 0).endAt = nsU + 100000 * usU ∧
    t.ppsLevel 0 = true ∧ State.reset.outDue 0 = none ∧ ((after (.ppsPulseEnd 0) (clockAt (100001 * usU) t)).ppsLevel 0) = false := by decide +kernel
theorem test_tsync : let s := after .ntTick ((timeAt (t0 - 2 ^ 32) State.reset).setFld (F.NT_OUT_CFG_EN 0 2) 1)
    let f := tsyncFrame 5000000000 0 false
    s.outDue 2 = some (5000000000, 4 * nsU) ∧ ((after .tsyncFrameSend s).out 2).sent = some (manchester f) ∧
    (after (.tsyncFrameRx f) State.reset).fld (F.NT_TSYNC_RX_SEC_LO_SEC_LO 0) = 5000000000 % 2 ^ 32 ∧
    (∃ p ∈ (after (.tsyncFrameRx f) State.reset).fabric, p.line = 6) := by decide +kernel

/-- A queued command of an operation with its port time: channel 37520, mode 0x10. -/
def cmd (op port : Nat) : QCmd :=
  { op := op, recAt := some 0x8000, lbt := false, evt := true, doneEv := 100, chan := 37520, mode := 0x10, power := 0, port := port, window := 0,
    buf := 0x4000001000, len := 20, arg := 0, pre := none, slot := none, ack := none, moved := false, regOk := false, lockOk := false,
    lbtOk := false, path := false, passed := false, resv := none, paReg := none, peer := none }
/-- RADIO and PORT0 of Radio S on. -/
def radioOn (s : State) : State := (s.setFld (fnState 7 0 0) 2).setFld (fnState 7 0 1) 2
/-- Chain 0 of Radio S at NT t0. -/
def chainS (f : Chain → Chain) : State := (radioOn (engineOn [])).setChain 0 0 (f Chain.reset)
/-- STATUS in the record at 0x8000 of engine S. -/
def recStatus (s : State) : Nat := (s.engine 0).rd 0x8003 1

/-- The record of a command: OP, FLAGS, DONE_EV, CHAN, MODE, PORT_NT, WINDOW, BUF (Table 05-4). -/
def record (op flags port window buf : Nat) : Engine :=
  [(0, 1, op), (1, 1, flags), (2, 1, 100), (4, 2, 37520), (6, 1, 0x10), (8, 8, port), (20, 4, window), (24, 5, buf)].foldl
    (fun e (x : Nat × Nat × Nat) => e.wr (0x8000 + x.1) x.2.1 x.2.2) Engine.reset
def rcmdAt (op flags port window buf : Nat) : State :=
  (radioOn (engineOn [(1, 0x8000)])).setEngine 0 (record op flags port window buf)

/-- R126: accepted CCA and TUNE; WINDOW out of range; no chain 4; a lead too short; a record off its grid. -/
theorem test_rcmd :
    let soon := packNt (t0 + 1000 * usU)
    gAfter (.cca 20 3 1 0 0) (rcmdAt 7 4 soon 4000000 0) 20 3 = 0 ∧
    (((after (.cca 20 3 1 0 0) (rcmdAt 7 4 soon 4000000 0)).chain 0 0).queue.map (fun q => (q.op, q.port, q.window))) = [(7, t0 + 1000 * usU, 4000000)] ∧
    gAfter (.cca 20 3 1 0 0) (rcmdAt 7 4 soon 4000001 0) 20 3 = 0x11 ∧ gAfter (.cca 20 3 1 0 4) (rcmdAt 7 4 soon 1 0) 20 3 = 0x11 ∧
    gAfter (.cca 20 3 1 0 0) (rcmdAt 7 4 (packNt (t0 + 9 * usU)) 1 0) 20 3 = 1 ∧
    gAfter (.cca 20 3 1 0 0) (rcmdAt 7 4 (packNt (t0 + 10 * usU)) 1 0) 20 3 = 0 ∧
    gAfter (.tune 20 3 1 0 0) (rcmdAt 4 1 0 0 0) 20 3 = 0 ∧
    gAfter (.cca 20 3 2 0 0) (rcmdAt 7 4 soon 1 0) 20 3 = 0x11 := by decide +kernel
/-- TX: a buffer that is not READY is LATE, a short one TOO_SHORT, one with a PSDU queues (R126, R128). -/
theorem test_rcmd_tx :
    let s := rcmdAt 1 0 (packNt (t0 + 1000 * usU)) 0 0x4000001000
    let len (n : Nat) : State := (s.wrLe 0x4000001000 1 1).wrLe 0x4000001002 2 n
    gAfter (.tx 20 3 1 0 0) s 20 3 = 1 ∧ gAfter (.tx 20 3 1 0 0) (len 0) 20 3 = BitVec.ofNat 64 Status.tooShort.code ∧
    gAfter (.tx 20 3 1 0 0) (len 16383) 20 3 = BitVec.ofNat 64 Status.tooLong.code ∧ gAfter (.tx 20 3 1 0 0) (len 20) 20 3 = 0 := by decide +kernel
/-- SLOT of an entry that has nothing offered is FAULT. -/
theorem test_rcmd_slot : let s := rcmdAt 11 0 0 0 0
    (∀ o ∈ (s.accOf 0).offers, o.entry ≠ 0) ∧ gAfter (.slot 20 3 1 0 0) s 20 3 = 0x11 := by decide +kernel
/-- ABORT takes effect two ticks after its issue and empties the chain (R129). -/
theorem test_abort : let s := chainS (fun h => { h with queue := [cmd 4 (t0 + secU)], aborts := [(0, cmd 10 0)] })
    let u : State := { s with ticks := 2 }
    after (.abortEffect 0 0) ({ s with ticks := 1 }) = ({ s with ticks := 1 } : State).settleMisses ∧
    ((after (.abortEffect 0 0) u).chain 0 0).queue = [] ∧ ((after (.abortEffect 0 0) u).chain 0 0).aborts = [] ∧ recStatus (after (.abortEffect 0 0) u) = 0 := by
  decide +kernel
/-- Actions end at their time and are recorded (R124). -/
theorem test_actions_end :
    let s (k : ActKind) : State := chainS (fun h => { h with act := some ⟨k, cmd 1 (t0 - usU), t0, none, 0, none⟩ })
    ((after (.txLastBit 0 0) (s .tx)).chain 0 0).act = none ∧ ((after (.txLastBit 0 0) (s .tx)).chain 0 0).lastTx = true ∧
    ((after (.txLastBit 0 0) (s .tx)).engine 0).rd 0x8001 1 = 128 ∧ (∃ p ∈ (after (.txLastBit 0 0) (s .tx)).fabric, p.line = 100) ∧
    ((after (.rxWindowClose 0 0) (s .win)).chain 0 0).lastWin = true ∧ recStatus (after (.ccaEnd 0 0 0x7FFF) (s .cca)) = 3 ∧
    recStatus (after (.ccaEnd 0 0 0x8000) (s .cca)) = 0 ∧ ((after (.calStepEnd 0 0 5) (s .cal)).chain 0 0).trims = [(0, 5)] := by decide +kernel
theorem test_synth_lock :
    let s := chainS (fun h => { h with moving := true, act := some ⟨.tune, cmd 4 t0, 0, none, 0, none⟩ })
    ((after (.synthLock 0 0) s).chain 0 0).act = none ∧ (∃ p ∈ (after (.synthLock 0 0) s).fabric, p.line = 24) ∧
    ((after (.synthLock 0 0) (chainS (fun h => { h with moving := true }))).chain 0 0).lockAt = t0 := by decide +kernel
theorem test_fem_ends :
    let s := (radioOn (engineOn [])).setFem 0 ⟨[⟨0, [], 0, none, t0 - 1, t0, true, some (cmd 6 t0)⟩], []⟩
    let u := (radioOn (engineOn [])).setFem 0 ⟨[⟨0, [], 1, some 2, t0, t0 + usU, false, none⟩], []⟩
    ((after (.femSequenceEnd 0) s).femOf 0).runs = [] ∧ ((after (.femSequenceEnd 0) s).engine 0).rd 0x8001 1 = 128 ∧
    ((after (.femAutoSequence 0 1 2) u).femOf 0).runs.map (fun x => x.begun) = [true] := by decide +kernel
/-- Table 06-5: the checks of a TX; with no sub-band configured it is over the limits. -/
theorem test_tx_checks :
    let s := chainS (fun h => { h with lastEnd := some t0, queue := [cmd 1 (t0 + 50 * usU)] })
    s.turnOk 0 0 (cmd 1 (t0 + 50 * usU)) = false ∧ recStatus (after (.txRegulatoryCheck 0 0) s) = 1 ∧
    (let u := chainS (fun h => { h with chan := 37520, locked := true, queue := [cmd 1 (t0 + 50 * usU)] })
     u.turnOk 0 0 (cmd 1 (t0 + 50 * usU)) = true ∧ u.paOk (u.paNeed 0 0 0) = true ∧ recStatus (after (.txRegulatoryCheck 0 0) u) = 2 ∧
     (∃ p ∈ (after (.txRegulatoryCheck 0 0) u).fabric, p.line = 27)) := by decide +kernel
theorem test_lock_check :
    let ready := chainS (fun h => { h with chan := 37520, locked := true, lockAt := t0, queue := [cmd 7 (t0 + 30 * usU)] })
    let not := chainS (fun h => { h with chan := 37520, locked := true, lockAt := t0 + 1, queue := [cmd 7 (t0 + 30 * usU)] })
    ((after (.lockCheck 0 0) ready).chain 0 0).queue.map (fun q => q.lockOk) = [true] ∧ ((after (.lockCheck 0 0) not).chain 0 0).queue = [] ∧
    recStatus (after (.lockCheck 0 0) not) = 1 := by decide +kernel
theorem test_lbt :
    let s := chainS (fun h => { h with queue := [{ cmd 1 (t0 + 24 * usU) with lbt := true }] })
    s.cmdLbt 0 { cmd 1 (t0 + 24 * usU) with lbt := true } = true ∧ s.portThresh (s.chain 0 0) 0 0 [] = -340 ∧
    recStatus (after (.lbtDecision 0 0 (BitVec.ofInt 16 (-339))) s) = 2 ∧
    ((after (.lbtDecision 0 0 (BitVec.ofInt 16 (-340))) s).chain 0 0).queue.map (fun q => q.lbtOk) = [true] := by decide +kernel
theorem test_synth_move :
    let s := chainS (fun h => { h with queue := [cmd 7 (t0 + 100 * usU)] })
    (s.chain 0 0).needsMove 0 (cmd 7 (t0 + 100 * usU)) = true ∧ s.moveInstant 0 (cmd 7 (t0 + 100 * usU)) ≤ s.now ∧ s.windowFrame 0 0 = false ∧
    ((after (.synthMoveStart 0 0) s).chain 0 0).moving = true ∧ ((after (.synthMoveStart 0 0) s).chain 0 0).chan = 37520 := by decide +kernel
/-- At the port time: TX takes the port for its airtime; IDLE ends; a chain whose PORT is off ends ABORTED; a passed one LATE. -/
theorem test_begin :
    let tx := { cmd 1 t0 with regOk := true, lockOk := true, path := true }
    let s := chainS (fun h => { h with chan := 37520, locked := true, queue := [tx] })
    s.portOn 0 0 = true ∧ s.turnOk 0 0 tx = true ∧ s.windowBlocks 0 0 tx = false ∧
    ((after (.queuedCommandBegin 0 0) s).chain 0 0).act.map (fun a => (a.kind, a.cmd, a.ends)) = some (.tx, tx, t0 + s.cmdAir 0 tx) ∧
    recStatus (after (.queuedCommandBegin 0 0) (chainS (fun h => { h with queue := [cmd 9 t0] }))) = 0 ∧
    recStatus (after (.queuedCommandBegin 0 0) (s.setFld (fnState 7 0 1) 0)) = 13 ∧
    recStatus (after (.queuedCommandBegin 0 0) (chainS (fun h => { h with queue := [{ cmd 9 (t0 + 1) with passed := true }] }))) = 1 ∧
    recStatus (after (.queuedCommandBegin 0 0) (chainS (fun h => { h with act := some ⟨.tx, cmd 1 t0, t0 + 1, none, 0, none⟩, queue := [cmd 7 t0] }))) = 1 ∧
    after (.queuedCommandBegin 0 0) (chainS (fun h => { h with queue := [cmd 9 (t0 + 1)] })) =
      (chainS (fun h => { h with queue := [cmd 9 (t0 + 1)] })).settleMisses := by decide +kernel
theorem test_listen_resumes :
    let s := chainS (fun h => { h with locked := true, chan := 37520, listen := some ⟨cmd 3 t0, true, t0⟩ })
    (s.chain 0 0).lockAt + 30 * usU ≤ s.now ∧ ((after (.listenResume 0 0) s).chain 0 0).listen = some ⟨cmd 3 t0, false, 0⟩ := by decide +kernel
theorem test_cal_set :
    let s := (chainS (fun h => { h with calOld := some (0, []) })).setFld (F.RF_STAT_CAL_PENDING 0) 1
    s.inGap 0 0 = true ∧ ((after (.calSetApply 0 0) s).chain 0 0).calOld = none ∧ (after (.calSetApply 0 0) s).fld (F.RF_STAT_CAL_PENDING 0) = 0 ∧
    ((after (.calGapTimeout 0 0) (clockAt secU s)).chain 0 0).calOld = none := by decide +kernel
/-- R162: a duty record leaves when its hour has passed; a reservation stays. -/
theorem test_duty_ring :
    let s : State := { timeAt (4000 * secU) State.reset with duty := { State.reset.duty with recalc := some 0, ring := [⟨0, 300000, 10, 1, [], false⟩, ⟨1, 500000, 10, 1, [], false⟩, ⟨2, 0, 10, 1, [], true⟩] } }
    (after .dutyRecordExpire s).duty.ring.map (fun d => d.id) = [1, 2] ∧ (after .meterRecomputeDone s).duty.recalc = none := by decide +kernel

/-! ## The map (chapter 02) -/

/-- Where SE_WAIT_LIMIT of engine S lies. -/
def waitLimit : BitVec 40 := BitVec.ofNat 40 (R.SE_WAIT_LIMIT 0)

/-- The place and register of SE_WAIT_LIMIT of engine S. -/
def waitPlace : RegPlace := ⟨4, 0, false, 0x14⟩
def waitSpec : RegSpec := ⟨"SE_WAIT_LIMIT", 0x14, 1, 0, 1, 0, false, [⟨"LIMIT", 31, 0, .rw, 0, .fixed, 7⟩]⟩
/-- Hypotheses of RegisterCommandsReachTheirRegister for a write of role O: allowed and not taped. -/
theorem witness_allows : State.reset.Allows 0 (R.SE_WAIT_LIMIT 0) 200000 waitPlace waitSpec 0 ∧
    ¬ State.reset.taped 0 waitPlace waitSpec 0 200000 ∧
    regRow State.reset (.registerWrite 0 waitLimit 200000) = some (0, R.SE_WAIT_LIMIT 0, some 200000) :=
  ⟨⟨by decide +kernel, rfl, ⟨0, by decide +kernel⟩, by decide +kernel, (fun _ hy => nomatch hy), by decide +kernel⟩, fun h => by
    have := h.1; revert this; decide +kernel, by decide +kernel⟩
/-- The same hypotheses for a row that reads a register by name. -/
theorem witness_read_row : regRow State.reset (.accNextRead 0 1) = some (0, R.ACC_NEXT 1, none) ∧
    (locate (R.ACC_NEXT 1)).isSome = true ∧ State.reset.judge 0 (R.ACC_NEXT 1) 4 = .go := by decide +kernel
theorem test_register_write : let t := after (.registerWrite 0 waitLimit 200000) State.reset
    t.fld (F.SE_WAIT_LIMIT_LIMIT 0) = 200000 ∧ t.bus.resp = some ⟨0, 0, 0⟩ := by decide +kernel
/-- R41: role O may not write a Maker's register; R44: captured with EV23 and answered with all ones. -/
theorem test_no_right : let t := after (.registerWrite 5 (BitVec.ofNat 40 R.REG_REGION) 1) State.reset
    t.bus.resp = some ⟨5, Status.noRight.code, 0xFFFFFFFF⟩ ∧ t.fld F.HIT_ACCERR_STATUS_VALID = 1 ∧ t.fld F.HIT_ACCERR_STATUS_REQUESTER = 5 ∧
    t.reg R.REG_REGION = State.reset.reg R.REG_REGION ∧ (∃ p ∈ t.fabric, p.line = 23) := by decide +kernel
/-- An address in a hole of the register range fails, from clear and with a failure already held. -/
theorem test_unmapped : let a : BitVec 40 := 0x8000001000
    State.reset.judge 0 a.toNat 4 = .fail .fault ∧ isReg a.toNat = true ∧
    (after (.registerWrite 0 a 1) State.reset).fld F.HIT_ACCERR_ADDR_ADDR_LO = 0x1000 ∧
    (after (.registerWrite 0 a 1) State.reset).fld F.HIT_ACCERR_STATUS_ADDR_HI = 0x80 ∧
    (after (.registerWrite 0 a 1) (State.reset.setFld F.HIT_ACCERR_STATUS_VALID 1)).fld F.HIT_ACCERR_STATUS_OVERFLOW = 1 := by decide +kernel
/-- R40: the lower part waits in the requester's latch; the highest applies both. -/
theorem test_wide_write :
    let lo : BitVec 40 := BitVec.ofNat 40 (R.SE_POST_LO 0)
    let hi : BitVec 40 := BitVec.ofNat 40 (R.SE_POST_HI 0)
    let s := State.reset.setFld (fnState 4 0 0) 2
    let t := after (.wideValueLowWrite 5 lo 0x12345678) s
    t.latchOf 5 lo.toNat = some 0x12345678 ∧ t.regs = s.regs ∧ t.latchOf 4 lo.toNat = none ∧
    (locate lo.toNat).bind wideGroup = some [lo.toNat, hi.toNat] ∧
    ((after (.wideValueHighWrite 5 hi 9) t).engine 0).posts = [0x0000000912345678] := by decide +kernel
theorem test_wide_read :
    let lo : BitVec 40 := BitVec.ofNat 40 (R.NT_NOW_FRAC 0)
    (locate lo.toNat).bind wideGroup = some [lo.toNat, lo.toNat + 4, lo.toNat + 8, lo.toNat + 12] ∧
    ((after (.wideValueLowRead 0 lo) (timeAt t0 State.reset)).captureOf 0 lo.toNat).map List.length = some 3 := by decide +kernel
/-- R13: a read of RC fields clears them in the same access. -/
theorem test_rc_read : let s := State.reset.setFld (F.SE_LATE_COUNT_WAIT_LATE 0) 3
    let t := after (.rcFieldRead 0 (BitVec.ofNat 40 (R.SE_LATE_COUNT 0))) s
    (t.bus.resp.map (fun r => r.value) = some 3 ∨ t.bus.resp.map (fun r => r.value % 256) = some 3 ∨
      t.bus.resp.map (fun r => r.value) = some (s.reg (R.SE_LATE_COUNT 0)).toNat) ∧ t.fld (F.SE_LATE_COUNT_WAIT_LATE 0) = 0 := by decide +kernel
/-- The field types of R13 on a register of its own. -/
theorem test_field_types :
    let r : RegSpec := ⟨"T", 0, 1, 0, 1, 0, false,
      [⟨"A", 7, 0, .rw, 0, .fixed, 7⟩, ⟨"B", 11, 8, .w1c, 0, .fixed, 7⟩, ⟨"C", 15, 12, .w1s, 0, .fixed, 7⟩, ⟨"D", 19, 16, .rc, 0, .fixed, 7⟩,
       ⟨"E", 23, 20, .ro, 0, .fixed, 0⟩, ⟨"F", 27, 24, .wo, 0, .fixed, 7⟩, ⟨"G", 31, 28, .rws, 0, .fixed, 7⟩]⟩
    applyActive r 0xFFFF3FFF 0x00005635 = 0xFFFF7935 ∧ applyShadow r 0 0xA0000000 = 0xA0000000 ∧ readActive r 0xFFFFFFFF = 0xF0FFFFFF ∧
    clearRc r 0xFFFFFFFF = 0xFFF0FFFF := by decide +kernel
theorem test_linger : let s : State := clockAt secU (freed.setFld F.PWR_STAT_STATE 3)
    (s.powered 3 = true ∧ s.stateHolds 3 = false) ∧ (∀ x ∈ powerOrder, s.powered x = true → 3 ∉ requires x) ∧
    SMap.get (fun _ => 0) s.pwr.lastAccess 3 + s.linger ≤ s.clock ∧ (after (.domainLingerExpiry 3) s).powered 3 = false := by decide +kernel
/-- R52: EN 1 of an off function starts it; the start ends on; EN 0 stops it; the stop ends off. -/
theorem test_function : let x : FnRef := ⟨15, 0, 0⟩
    let a := after (.fnEnable 0 x) State.reset
    let b := after (.fnStartDone x) a
    let c := after (.fnDisable 0 x) b
    let d := after (.fnStopDone x) c
    fnExists 15 0 0 = true ∧ a.fld (fnState 15 0 0) = 1 ∧ b.fld (fnState 15 0 0) = 2 ∧ c.fld (fnState 15 0 0) = 3 ∧ d.fld (fnState 15 0 0) = 0 ∧
    (after (.fnStartFail x) a).fld (fnState 15 0 0) = 4 ∧ (after (.fnStartFail x) a).fld (fnLast 15 0 0) = 0x11 ∧
    a.startReady 15 = true ∧ a.startSound 15 0 = true ∧ c.stopReady 15 0 0 = true ∧ (after (.fnStopFail x) c).fld (fnState 15 0 0) = 4 := by decide +kernel
/-- R53 and R415: EN 0 while starting is an abandon, which the start's end or its safe point turns into a stop. -/
theorem test_abandon : let x : FnRef := ⟨15, 0, 0⟩
    let a := after (.fnDisable 0 x) (after (.fnEnable 0 x) State.reset)
    a.fld (fnState 15 0 0) = 1 ∧ a.abandoning 15 0 0 = true ∧ (after (.fnStartDone x) a).fld (fnState 15 0 0) = 3 ∧
    (after (.fnSafePoint x) a).fld (fnState 15 0 0) ≠ 1 := by decide +kernel
/-- A program swap of engine S at NT t0 (R48, R135), given 2 µs ahead. -/
def swapReady (n : Nat) : State :=
  let s := timeAt n State.reset
  let s1 := s.setReg (R.HIT_SWAP_SETS 0) 8
  ((s1.setFld (F.HIT_SWAP_SEC_LO_SEC_LO 0) (t0 / secU)).setFld (F.HIT_SWAP_SEC_HI_SEC_HI 0) (t0 / secU / 2 ^ 32)).setFld (F.HIT_SWAP_NS_NS 0) 0
theorem test_swap : let s := swapReady (t0 - 2 * usU)
    let a := s.swapRequest 0 0
    let b := timeAt t0 a
    s.swapNt 0 = t0 ∧ s.swapCode 0 0 = .ok ∧ (swapReady (t0 - 2 * usU + 1)).swapCode 0 0 = .late ∧ a.fld (F.HIT_SWAP_STAT_STATE 0) = 1 ∧
    after (.swapTakeEffect 0) a = a ∧ ((after (.swapTakeEffect 0) b).engine 0).active = 1 ∧
    (after (.swapTakeEffect 0) b).fld (F.HIT_SWAP_STAT_STATE 0) = 2 ∧ (after (.swapTakeEffect 0) b).fld (F.HIT_SWAP_STAT_STATUS 0) = 0 ∧
    (after (.swapTakeEffect 0) (b.setFld (F.NT_STAT_COARSE 0) 1)).fld (F.HIT_SWAP_STAT_STATUS 0) = 0x11 ∧
    (a.swapCancel 0).fld (F.HIT_SWAP_STAT_STATUS 0) = 0x0D ∧ (a.swapRequest 0 0).fld (F.HIT_SWAP_STAT_REFUSED 0) = 1 := by decide +kernel

/-! ## Reception, slots, links (chapters 07 to 09) -/

/-- DEMOD of Radio S on, chain 0 listening for Drizzle on its search entry 0. -/
def listening : State :=
  let s := (radioOn (engineOn [])).setFld (fnState 10 0 0) 2
  let s1 := (s.setFld (F.DP_SEARCH_VALID 0 0 0) 1).setFld (F.DP_SEARCH_MODE 0 0 0) 0x10
  s1.setChain 0 0 { Chain.reset with chan := 37520, locked := true, listen := some ⟨{ cmd 3 t0 with mode := 1 }, false, 0⟩ }
/-- Centre of channel 37520 of Radio S. -/
def centre : Nat := chanHz 0 37520
def rxMeta : RxMeta := ⟨0, 50, 40, 0, 0, false⟩
/-- A Drizzle frame in lane 0. -/
def frameIn (f : RxFrame → RxFrame) : State :=
  listening.setLane 0 0 ⟨some (f ⟨0, 0, 0x10, centre, 0, 0, 0, t0, t0, false, none, false, 0, 0, 0, 0, none⟩), none⟩
def laneFrame (s : State) : Option RxFrame := (s.lane 0 0).frame

/-- R167 to R171: detection takes the first free lane; the same frame is told once; a full pool counts NO_LANE. -/
theorem test_detect : let row := Instr.preambleDetect 0 0 0x10 (BitVec.ofNat 40 centre) 0 0 0
    listening.detects 0 0 0x10 centre = true ∧ listening.firstFree 0 = some 0 ∧ (laneFrame (after row listening)).map (fun f => f.mode) = some 0x10 ∧
    laneFrame (after (.preambleDetect 0 0 0x20 (BitVec.ofNat 40 centre) 0 0 0) listening) = none ∧
    ((after row (frameIn id)).lane 0 1).frame = none := by decide +kernel
/-- R174: arrival on the grid of 62.5 ps; a sync that does not come within the longest preamble. -/
theorem test_sync : (laneFrame (after (.syncFound 0 0 0) (frameIn id))).map (fun f => f.arrival) = some (some t0) ∧
    laneFrame (after (.syncTimeout 0 0) (frameIn (fun f => { f with detect := t0 - preAndSync 0x10 (longestPre 0x10) }))) = none ∧
    (after (.syncTimeout 0 0) (frameIn (fun f => { f with detect := t0 - preAndSync 0x10 (longestPre 0x10) }))).fld (F.DP_COUNT0_SYNC_MISS 0) = 1 ∧
    after (.syncTimeout 0 0) (frameIn (fun f => { f with detect := t0 - preAndSync 0x10 (longestPre 0x10) + 1 })) =
      frameIn (fun f => { f with detect := t0 - preAndSync 0x10 (longestPre 0x10) + 1 }) ∧
    after (.syncFound 0 0 0) listening = listening := by decide +kernel
/-- A header of length n with its CRC-8 over the eight bits (Table 07-4). -/
def header (n : Nat) : BitVec 48 := BitVec.ofNat 48 (((List.range 256).find? (fun c => (readHeader 0x10 (n + 256 * c)).isSome)).getD 0 * 256 + n)
theorem test_header :
    let s := frameIn (fun f => { f with arrival := some t0 })
    let wrong : BitVec 48 := header 20 ^^^ 0x100
    (readHeader 0x10 (header 20).toNat).map (fun i => i.len) = some 20 ∧ readHeader 0x10 wrong.toNat = none ∧
    (laneFrame (after (.headerDecoded 0 0 (header 20)) s)).map (fun f => (f.hdrOk, f.len, f.lastBit)) = some (true, 20, t0 + restAfterSync 0x10 20) ∧
    laneFrame (after (.headerDecoded 0 0 wrong) s) = none ∧ (after (.headerDecoded 0 0 wrong) s).fld (F.DP_COUNT0_HDR_FAIL 0) = 1 ∧
    (after (.headerDecoded 0 0 (header 0)) s).fld (F.DP_COUNT1_TOO_SHORT 0) = 1 ∧
    (after (.headerDecoded 0 0 (header 63)) s).fld (F.DP_COUNT1_TOO_LONG 0) = (if (modeInfo 0 0x10).elim 0 ModeInfo.max < 63 then 1 else 0) := by decide +kernel
/-- The end of a frame: a good FCS passes it on, a wrong byte counts. -/
theorem test_frame_end :
    let body : List Byte := [0x11, 0x22, 0x33]
    let s := frameIn (fun f => { f with arrival := some t0, hdrOk := true, len := 5, fcs := 2, lastBit := t0 })
    let good := body ++ fcsBytes 0 0x10 body
    (after (.frameEnd 0 0 good rxMeta) s).lnk.frames.map (fun f => (f.psdu, f.arrival)) = [(body, t0)] ∧ laneFrame (after (.frameEnd 0 0 good rxMeta) s) = none ∧
    (after (.frameEnd 0 0 (0x10 :: good.tail) rxMeta) s).fld (F.DP_COUNT0_FCS_FAIL 0) = 1 ∧
    (after (.frameEnd 0 0 (0x10 :: good.tail) rxMeta) s).lnk.frames = [] := by decide +kernel
/-- The record of a frame starts once its SID has arrived, in an enabled queue with a buffer; a disabled queue refuses it (R283). -/
theorem test_sid_starts_record :
    let f (len : Nat) (f : RxFrame) : RxFrame := { f with arrival := some (t0 - secU), hdrOk := true, len := len, fcs := 2, lastBit := t0 }
    let s := frameIn (f 20)
    let on := ((((s.setFld (F.RQ_CFG_EN 0) 1).setFld (F.RQ_CFG_ACTIVE 0) 1).setFld (F.RQ_POOL_CFG_EN 0) 1).setFld (F.RQ_POOL_CFG_ACTIVE 0) 1).setStash 0 [0x4000010000]
    let row := Instr.headerDecoded 0 0 0x11
    6 ≤ s.bytesSoFar (f 20 ⟨0, 0, 0x10, centre, 0, 0, 0, t0, t0, false, none, false, 0, 0, 0, 0, none⟩) ∧ on.route 0 = .taken ∧
    (laneFrame (after row on)).map (fun f => f.rqid) = some (some (some on.rq.nextId)) ∧
    (after row on).rq.recs.map (fun x => (x.queue, x.bufs)) = [(0, [0x4000010000])] ∧
    (laneFrame (after row (on.setStash 0 []))).map (fun f => f.rqid) = some (some none) ∧
    s.route 0 = .disabled ∧ (laneFrame (after row s)).map (fun f => f.rqid) = some (some none) ∧
    (after row s).fld F.RQ_COUNT0_DISABLED = 1 ∧
    after (.headerDecoded 0 0 0x11) (frameIn (fun x => { f 20 x with arrival := some t0 })) =
      frameIn (fun x => { f 20 x with arrival := some t0 }) := by decide +kernel
/-- Frost capture (R188 to R191): a span whose end has come is written, or dropped where the ring has no room. -/
theorem test_capture_span :
    let f : RxFrame := ⟨0, 0, 0x10, centre, 0, 0, 0, t0 - 1000 * usU, t0 - 1000 * usU, false, none, false, 0, 0, 0, 0, none⟩
    let s : State := { (timeAt t0 (freed.setFld F.CAP_SIZE_SIZE 16)) with cap := ⟨[⟨0, some 0, false, f, 1, t0, false⟩], []⟩ }
    let n := ceilDiv ((t0 - s.capFirst f) * 4800) (16 * secU)
    let t := after (.captureSpanEnd rxMeta []) s
    t.cap.spans = [] ∧ t.cap.recs = [(0, (64 + ((4 + 32 * s.capWidth) * n + 63) / 64 * 8 + 63) / 64 * 64, false)] ∧ t.rdLe s.capBase 1 = 2 ∧
    t.fld F.CAP_COUNT_CAPTURED = 1 ∧ (∃ p ∈ t.fabric, p.line = 33) ∧
    (after (.captureSpanEnd rxMeta []) (s.setFld F.CAP_SIZE_SIZE 0)).fld F.CAP_COUNT_DROPPED = 1 ∧
    after (.captureSpanEnd rxMeta []) { s with cap := ⟨[⟨0, some 0, false, f, 1, t0 + 1, false⟩], []⟩ } =
      { s with cap := ⟨[⟨0, some 0, false, f, 1, t0 + 1, false⟩], []⟩ } := by decide +kernel
/-- A block of samples at each end of the range of 8 bits packs and unpacks. -/
theorem test_samples : let xs : List Int := List.replicate 31 (-128) ++ [127]
    bfpSamples 8 1 (bfpBlock 8 xs) = xs.flatMap (fun x => leBytes 2 (unsgn 16 x)) := by decide +kernel
/-- A granted request of an engine with its descriptor. -/
def request (engine : Nat) (desc : List Byte) (phase : SvcPhase) : SvcReq :=
  ⟨5, 0, engine, .none, .desc, 0x1000, 0, 0, [], desc ++ List.replicate (64 - desc.length) 0, 0, 0, phase⟩
def granted (engine : Nat) (desc : List Byte) (s : State) : State := { s with arb := { s.arb with reqs := [request engine desc .granted] } }
theorem test_capture_commands :
    let s := granted 2 ([2, 0, 0, 0, 0, 0, 0, 0]) { freed with cap := ⟨[], [(0, 64, false), (64, 128, false)]⟩ }
    let x := granted 2 ([1, 0, 0, 0, 5, 0, 0, 0]) { freed with cap := ⟨[], [(0, 64, false)]⟩ }
    (s.capGranted 2).isSome = true ∧ (after .captureRelease s).cap.recs = [(64, 128, false)] ∧ (after .captureRelease s).fld F.CAP_RD_OFFSET = 64 ∧
    ((after .captureRelease s).arb.reqs.map (fun q => q.phase)) = [.ended 0] ∧
    ((after .expand x).arb.reqs.map (fun q => q.phase)) = [.ended 0x11] ∧ after .expand freed = freed := by decide +kernel

/-- A slot-table entry: RX on chain 0 at 5 ms, window 1000 µs, channel 37520, mode 0x10; with DRL where asked. -/
def entry (drl : Bool) : Nat :=
  1 + (if drl then 64 else 0) + 256 * 1 + 37520 * 2 ^ 32 + 0x10 * 2 ^ 48 + 5000 * 2 ^ 64 + 1000 * 2 ^ 96
/-- The table of Radio S with that entry at index 0, RUN on. -/
def slots (n : Nat) (e : Nat) : State := ((timeAt n (radioOn (engineAt []))).setAcc 0 { AccState.reset with tab := [(0, e)] })
theorem test_lap_boundary : let s := { timeAt (64 * secU) State.reset with time := { (timeAt (64 * secU) State.reset).time with selFrom := 64 * secU - 1, selLen := 1 } }
    (∃ p ∈ (after (.lapBoundary 0) s).fabric, p.line = 10) ∧ after (.lapBoundary 0) (timeAt (64 * secU) State.reset) = timeAt (64 * secU) State.reset := by
  decide +kernel
theorem test_guard : let s := slots 0 (entry true)
    let a := s.accOf 0
    entGuarded (a.entry a.active 0) = true ∧ entOccurs (a.entry a.active 0) 0 = true ∧ a.guardOf 0 0 = none ∧
    (((after (.guardInstant 0 0 0) s).accOf 0).guards.map (fun g => (g.1, g.2.1))) = [(0, 0)] ∧
    after (.guardInstant 0 0 0) (slots 0 (entry false)) = slots 0 (entry false) := by decide +kernel
/-- R203: offered once, LEAD before its port time; not before. -/
theorem test_offer : let s := slots (4000 * usU) (entry false)
    let t := after (.occurrenceOffer 0 0 0) s
    (t.accOf 0).offers.map (fun o => (o.entry, o.port)) = [(0, 5000 * usU)] ∧ (t.accOf 0).given = [(0, 0)] ∧ (∃ p ∈ t.fabric, p.line = 13) ∧
    after (.occurrenceOffer 0 0 0) t = t ∧
    after (.occurrenceOffer 0 0 0) (slots (4000 * usU - 1) (entry false)) = slots (4000 * usU - 1) (entry false) ∧
    (s.tablePending 0 = false) ∧ s.entBad 0 (entry false) 0 = false := by decide +kernel
/-- R199: a bad entry is counted and shown. -/
theorem test_bad_entry : let s := slots (5000 * usU) (entry false + 2 ^ 12 * 15)
    let t := after (.occurrenceOffer 0 0 0) s
    s.entBad 0 (entry false + 2 ^ 12 * 15) 0 = true ∧ t.fld (F.ACC_COUNT_BAD 0) = 1 ∧ t.fld (F.ACC_STAT_BAD_ENTRY 0) = 1 ∧ (t.accOf 0).offers = [] := by
  decide +kernel
theorem test_skip : let t := after (.occurrenceOffer 0 0 0) (slots (4000 * usU) (entry false))
    let u := timeAt (5000 * usU) t
    after (.occurrenceSkip 0 0 0) t = t ∧ ((after (.occurrenceSkip 0 0 0) u).accOf 0).offers = [] ∧ (after (.occurrenceSkip 0 0 0) u).fld (F.ACC_COUNT_SKIPPED 0) = 1 ∧
    eb (((after (.occurrenceSkip 0 0 0) u).accOf 0).entry 0 0) 28 7 0 = Status.late.code := by decide +kernel
theorem test_edit_complete : let s := (slots 0 0).setAcc 0 { AccState.reset with editing := true }
    ((after (.accEditComplete 0) s).accOf 0).editing = false ∧ after (.accEditComplete 0) (slots 0 0) = slots 0 0 := by decide +kernel
/-- Contention (R209, R210): a window opens at its instant, closes when over; an attempt that failed for a busy channel raises BE. -/
def window (opens closes : Nat) (isOpen trying : Bool) (st : Option Nat) : State :=
  (slots 1000 0).setAcc 0 { AccState.reset with wins := [⟨0, 0, 0, 1, opens, closes, isOpen, 0, trying, st, false⟩] }
theorem test_contention :
    ((after (.contendWindowOpen 0 0 0) (window 1000 2000 false false none)).accOf 0).wins.map (fun w => w.isOpen) = [true] ∧
    after (.contendWindowOpen 0 0 0) (window 1001 2000 false false none) = window 1001 2000 false false none ∧
    (window 1000 2000 false false none).cqHead 0 1 = none ∧
    ((after (.contendWindowClose 0 1) (window 0 1000 true false none)).accOf 0).wins = [] ∧
    after (.contendWindowClose 0 1) (window 0 1001 true false none) = window 0 1001 true false none := by decide +kernel
theorem test_attempt :
    let s := ((window 0 2000 false false (some 3)).setFld (F.ACC_CQ_CFG_SIZE 0 1) 8).setFld (F.ACC_CQ_PTR_TAIL 0 1) 1
    s.cqHead 0 1 ≠ none ∧ (after (.contendAttemptComplete 0 1) s).cqState 0 1 = ((s.cqState 0 1).1 + 1, min ((s.cqState 0 1).2 + 1) (s.maxBe 0)) := by
  decide +kernel

/-- A valid context with number SID and the highest number h accepted. -/
def context (h : Nat) : List Byte := cxAccept (List.replicate 64 0) h
/-- R216: 5 is new, then a repeat; 64 below the highest is stale, 63 below is not. -/
theorem test_replay : seqClass (context 100) 101 = .new_ ∧ seqClass (cxAccept (context 100) 101) 101 = .repeat_ ∧
    seqClass (context 100) 36 = .stale ∧ seqClass (context 100) 37 ≠ .stale ∧ (context 100).length = 64 := by decide +kernel
/-- A link frame at a step. -/
def linkFrame (step : FrameStep) (psdu : List Byte) (h : Option Nat) : LinkFrame :=
  ⟨1, none, 0, 0, 0, 0x10, centre, rxMeta, 1, false, t0, t0, 2, 0, psdu, h, 5, step, false, none, false, 3, none⟩
def linkAt (f : LinkFrame) (on : Bool) : State := { (timeAt t0 freed).setFld (fnState 16 0 0) (if on then 2 else 0) with lnk := { State.reset.lnk with frames := [f] } }
/-- R214 to R216: LINK off or another class goes on without a context; a malformed header is counted and dropped. -/
theorem test_classify :
    ((after .linkHeaderClassify (linkAt (linkFrame .lookup [0x42, 0, 1, 0, 0, 0] none) false)).lnk.frames.all (fun f => f.noCtx)) = true ∧
    ((after .linkHeaderClassify (linkAt (linkFrame .lookup [0x12] none) true)).lnk.frames.all (fun f => f.noCtx)) = true ∧
    (after .linkHeaderClassify (linkAt (linkFrame .lookup [0x42, 0, 1, 0, 0] none) true)).lnk.frames = [] ∧
    (after .linkHeaderClassify (linkAt (linkFrame .lookup [0x43, 0, 1, 0, 0, 0] none) true)).fld F.LNK_COUNT0_MALFORMED = 1 ∧
    (after .linkHeaderClassify (linkAt (linkFrame .lookup [0x42, 0, 1, 0, 0, 0] none) true)).fld F.LNK_COUNT0_NO_CONTEXT = 1 ∧
    after .linkHeaderClassify freed = freed ∧ after .contextFetchDone freed = freed ∧ after .frameAccept freed = freed ∧ after .ackOpportunity freed = freed ∧
    (linkAt (linkFrame .lookup [] none) true).outstanding 24 < 32 := by decide +kernel
theorem test_fetch_done : ((after .contextFetchDone (linkAt (linkFrame .fetch [0x42, 0, 1, 0, 0, 0, 5, 0, 0, 0] (some 3)) true)).lnk.frames.all
    (fun f => f.step == .opening || f.step == .held)) = true := by decide +kernel
/-- R217: a frame that opened and is new is accepted, with an acknowledgement to seal; the same number again is not. -/
theorem test_accept :
    let s := linkAt (linkFrame .opened [0x42, 0, 1, 0, 0, 0, 5, 0, 0, 0] (some 3)) true
    let t := after .frameAccept s
    seqClass (s.ctx 3) 5 = .new_ ∧ t.lnk.frames.map (fun f => f.step) = [.sealing] ∧ t.lnk.acks.map (fun j => (j.handle, j.fresh)) = [(3, true)] ∧
    seqClass (t.ctx 3) 5 = .repeat_ := by decide +kernel
/-- An acknowledgement whose opportunity has passed is missed, or takes its second (R221). -/
theorem test_ack :
    let j : AckJob := ⟨0, 3, true, [], true, 0, 0, 37520, 0x10, 0, none, 1, none, some [], none⟩
    let s (n : Nat) : State := ({ timeAt t0 freed with lnk := { State.reset.lnk with acks := [j] } } : State).setFld F.LNK_CFG_ACK2 n
    (s 0).ackPort j < (s 0).now + pathTime 0 ∧ (after .ackOpportunity (s 0)).lnk.acks = [] ∧ (after .ackOpportunity (s 0)).fld F.LNK_COUNT1_ACK_MISSED = 1 ∧
    (after .ackOpportunity (s 1)).lnk.acks.map (fun j => j.opp) = [2] := by decide +kernel
theorem test_lnk_cmd : let s : State := { freed with lnk := { State.reset.lnk with cmd := some (5, 3) }, arb := { State.reset.arb with reqs := [request 1 [] .written] } }
    (after .lnkCmdComplete s).lnk.cmd = none ∧ (after .lnkCmdComplete s).fld F.LNK_CMD_STATUS = 0 ∧
    after .lnkCmdComplete { s with arb := { State.reset.arb with reqs := [request 1 [] .granted] } } =
      { s with arb := { State.reset.arb with reqs := [request 1 [] .granted] } } := by decide +kernel

/-! ## The router, the ports, memory and queues (chapters 10 to 12) -/

/-- FORWARD, TM, the ports and the host link on at NT t0. -/
def routing : State :=
  let s := timeAt t0 freed
  [(18, 0), (19, 0), (20, 0), (20, 5), (21, 0)].foldl (fun s f => s.setFld (fnState f.1 f.2 0) 2) s
def packet (data : List Byte) (r : Option PassResult) (pass : Nat) : Packet := ⟨0, 0, 0, pass, 0, data, List.replicate 32 0, none, r⟩
/-- One packet in its pass with a result. -/
def passing (data : List Byte) (r : PassResult) (pass : Nat) : State :=
  { routing with rtr := { routing.rtr with live := [(0, 1)], inPass := [packet data (some r) pass] } }
def plainResult : PassResult := ⟨false, false, none, none, []⟩
def sixty : List Byte := (List.range 60).map (fun i => BitVec.ofNat 8 i)

/-- R231: a packet of the next ready source, else one that recirculates, enters; nothing while FORWARD is off. -/
theorem test_accept_packet :
    let w : State := { routing with rtr := { routing.rtr with waiting := [packet sixty none 0] } }
    let r : State := { routing with rtr := { routing.rtr with waiting := [packet sixty none 0], recirc := [packet [1, 2] none 1] } }
    w.nextSource = some 0 ∧ (after .parserAccept w).rtr.inPass.map (fun p => (p.data, p.version, p.pass, p.result)) = [(sixty, 0, 0, some plainResult)] ∧
    (after .parserAccept w).rtr.waiting = [] ∧ (after .parserAccept w).rtr.live = [(0, 1)] ∧
    (after .parserAccept r).rtr.inPass.map (fun p => (p.data, p.pass)) = [([1, 2], 1)] ∧ (after .parserAccept r).rtr.live = routing.rtr.live ∧
    after .parserAccept routing = routing ∧ after .injectionServe w = w ∧ after .passEnd routing = routing := by decide +kernel
/-- A ring of two descriptors at the start of the scratchpad; the descriptor of a packet of n bytes at 0x4000001000. -/
def injecting (n : Nat) : State :=
  (((routing.setFld (F.RTR_INJ_CFG_SIZE 0) 2).setFld (F.RTR_INJ_PTR_TAIL 0) 1).wrLe (spadBase + 4) 2 n).wrLe (spadBase + 8) 5 0x4000001000
/-- R233: 60 bytes enter, 59 are TOO_SHORT. -/
theorem test_injection :
    (injecting 60).nextSource = some 7 ∧ (injecting 60).injTurn = some 0 ∧ (injecting 60).injCode ((injecting 60).injAddr 0) = .ok ∧
    (after .injectionServe (injecting 60)).rtr.inPass.map (fun p => (p.data, p.source)) = [(List.replicate 60 0, 7)] ∧
    (after .injectionServe (injecting 60)).fld (F.RTR_INJ_PTR_HEAD 0) = 1 ∧ (after .injectionServe (injecting 60)).rdLe spadBase 1 = 0x80 ∧
    (after .injectionServe (injecting 59)).rdLe (spadBase + 2) 1 = Status.tooShort.code ∧
    (after .injectionServe (injecting 59)).fld F.RTR_COUNT1_INJ_REFUSED = 1 ∧ (after .injectionServe (injecting 59)).rtr.inPass = [] := by decide +kernel
/-- R243: drop, recirculate at pass 1 but not at 2, no destination, a port queue within its limit and over it. -/
theorem test_disposition :
    let on (limit : Nat) (s : State) : State := (s.setFld (F.RTR_PORT_EN 2) 1).setTq 35 { TmQueue.reset with cfg := BitVec.ofNat 32 limit }
    let there : PassResult := { plainResult with dest := some (.port 2 3) }
    (after .passEnd (passing sixty { plainResult with drop := true } 0)).rtr.live = [(0, 0)] ∧
    (after .passEnd (passing sixty { plainResult with recirc := true } 1)).rtr.recirc.map (fun p => (p.data, p.pass)) = [(sixty, 2)] ∧
    (after .passEnd (passing sixty { plainResult with recirc := true } 2)).fld F.RTR_COUNT0_RECIRC_LIMIT = 1 ∧
    (after .passEnd (passing sixty plainResult 0)).fld F.RTR_COUNT0_NO_DEST = 1 ∧
    (after .passEnd (passing sixty { plainResult with dest := some (.port 7 0) } 0)).fld F.RTR_COUNT0_NO_DEST = 1 ∧
    ((after .passEnd (on 1 (passing sixty there 0))).tq 35).frames = [⟨sixty, t0⟩] ∧
    ((after .passEnd (on 0 (passing sixty there 0))).tq 35).drops = 1 ∧
    ((after .passEnd (on 99 (passing (List.replicate 1519 0) there 0))).tq 35).drops = 1 := by decide +kernel
/-- R242: a TTL of 1 drops and counts; one of 2 goes down to 1. -/
theorem test_ttl :
    let edit : List Byte := [0, 0, 0, 0, 0, 0, 0, 3, 0] ++ List.replicate 23 0
    let r : PassResult := { plainResult with recirc := true, edits := [edit] }
    (after .passEnd (passing (1 :: sixty) r 0)).fld F.RTR_COUNT0_TTL = 1 ∧ (after .passEnd (passing (1 :: sixty) r 0)).rtr.recirc = [] ∧
    (after .passEnd (passing (2 :: sixty) r 0)).rtr.recirc.map (fun p => p.data) = [1 :: sixty] := by decide +kernel
/-- R250, R246 and R247: a commit at its NT, a version with no packet, a sweep. -/
theorem test_versions :
    let c (u : Nat) : State := { routing with rtr := { routing.rtr with commit := some u } }
    let v : State := { routing with rtr := { routing.rtr with live := [(2, 0), (1, 1), (0, 0)] } }
    let e (d : Option Nat) : RtrEntry := ⟨0, 1, [], [], 0, [], 0, false, d⟩
    let w : State := { (routing.setFld F.RTR_STAT_SWEEP 1) with rtr := { routing.rtr with live := [(1, 0)], entries := [e none, e (some 1), e (some 2)] } }
    (after .commitTakeEffect (c t0)).rtr.live = [(1, 0), (0, 0)] ∧ (after .commitTakeEffect (c t0)).rtr.commit = none ∧ after .commitTakeEffect (c (t0 + 1)) = c (t0 + 1) ∧
    after .commitTakeEffect routing = routing ∧ (after .versionRetire v).rtr.live = [(2, 0), (1, 1)] ∧ (∃ p ∈ (after .versionRetire v).fabric, p.line = 44) ∧
    (after .versionRetire v).fld F.RTR_STAT_SWEEP = 1 ∧ after .versionRetire routing = routing ∧
    (after .sweepDone w).rtr.entries.map (fun e => (e.settled, e.delVer)) = [(true, none), (true, some 2)] ∧ after .sweepDone routing = routing ∧
    (after .routerEditComplete { routing with rtr := { routing.rtr with edit := some 3 } }).fld F.RTR_EDIT_CMD_STATUS = 3 ∧
    after .routerEditComplete routing = routing := by decide +kernel

/-- One queue of port 0 with one frame, and its configuration. -/
def queued (g : Nat) (q : TmQueue → TmQueue) : State :=
  { routing with tm := { routing.tm with queues := [(g, q { TmQueue.reset with frames := [⟨sixty, t0⟩] })] } }
def sent (s : State) (j : Nat) : Option (Nat × List Byte) := (s.sendOf j).map (fun x => (x.tq, x.data))
/-- R256, R257: the strict class, and the weighted class with just enough deficit and one byte too little. -/
theorem test_choice :
    (queued 3 (fun q => { q with deficit := 5 })).queueReady 0 3 none = true ∧ (queued 3 (fun q => { q with deficit := 5 })).neverFits 0 3 ((queued 3 (fun q => { q with deficit := 5 })).air10 0 ((queued 3 (fun q => { q with deficit := 5 })).headL 3)) = false ∧
    (queued 3 (fun q => { q with deficit := 5 })).strictChoice 0 ((queued 3 (fun q => { q with deficit := 5 })).beforeTq0 0) = some 3 ∧
    sent ((queued 3 (fun q => { q with deficit := 5 })).sendHead 0 3 2) 0 = some (2, sixty) ∧
    (((queued 3 (fun q => { q with deficit := 5 })).sendHead 0 3 2).tq 3).frames = [] ∧ (queued 4 id).headL 4 = 84 := by decide +kernel
theorem test_choice_weighted : let row := Instr.portTransmitChoice 0 0 []
    sent (after row (queued 4 (fun q => { q with isNew := true, deficit := 20 }))) 0 = some (3, sixty) ∧
    sent (after row (queued 4 (fun q => { q with isNew := true, deficit := 19 }))) 0 = none ∧
    sent (after row ((queued 3 id).setFld (fnState 20 0 0) 0)) 0 = none := by decide +kernel
/-- A ring of port 0 of two descriptors in the scratchpad, the first of n bytes at 0x4000001000 with flags. -/
def ringed (k flags n : Nat) (launch : Nat) : State :=
  let a := tqRing 0 k
  let s := (((routing.setReg (a + 4) 0x40).setReg (a + 8) 2).setReg (a + 12) 0x00010000)
  ((((s.wrLe spadBase 1 flags).wrLe (spadBase + 4) 2 n).wrLe (spadBase + 8) 8 launch).wrLe (spadBase + 16) 5 0x4000001000)
/-- R266: TQ1 sends or refuses its head. -/
theorem test_tq1 : let row := Instr.portTransmitChoice 0 0 []
    (ringed 1 0 60 0).ringFilled (tqRing 0 1) = 1 ∧ (ringed 1 0 60 0).txCode false false ((ringed 1 0 60 0).bytes spadBase 32) = .ok ∧
    sent (after row (ringed 1 0 60 0)) 0 = some (1, List.replicate 60 0) ∧
    (after row (ringed 1 0 59 0)).rdLe (spadBase + 2) 1 = Status.tooShort.code ∧ (after row (ringed 1 0 59 0)).ringHw (tqRing 0 1) = 1 ∧
    sent (after row (ringed 1 0 59 0)) 0 = none := by decide +kernel
/-- The packed time of t0 and n µs more. -/
def launch (n : Nat) : Nat := (t0 / secU % 2 ^ 32) * 2 ^ 32 + n * 1000
/-- R267: a head waits for its preamble, begins with it, and is late without its 2 µs. -/
theorem test_tq0 :
    let at_ (n d : Nat) : State := timeAt (t0 + d) ((ringed 0 2 60 (launch n)).setTq0 0 (some (t0, false)))
    let begin_ := 3 * usU - (at_ 3 0).preambleU 0
    (at_ 2 0).tq0Verdict 0 = none ∧ (at_ 1 0).tq0Verdict 0 = some .late ∧ after (.tq0Launch 0) (at_ 3 (begin_ - 1)) = at_ 3 (begin_ - 1) ∧
    sent (after (.tq0Launch 0) (at_ 3 begin_)) 0 = some (0, List.replicate 60 0) ∧
    (after (.tq0Launch 0) (at_ 1 0)).rdLe (spadBase + 2) 1 = Status.late.code ∧ (after (.tq0Launch 0) (at_ 1 0)).ringHw (tqRing 0 0) = 1 := by decide +kernel
/-- R266: the last bit leaves at its tick; the descriptor gets its timestamp. -/
theorem test_tx_end :
    let s (n : Nat) : State := { (ringed 1 1 60 0).setSend 0 (some ⟨1, sixty, 0, 7, t0, some spadBase⟩) with ticks := n }
    after (.ethFrameTxEnd 0) (s 6) = s 6 ∧ (after (.ethFrameTxEnd 0) (s 7)).sendOf 0 = none ∧ (after (.ethFrameTxEnd 0) (s 7)).rdLe spadBase 1 = 0x81 ∧
    (after (.ethFrameTxEnd 0) (s 7)).rdLe (spadBase + 24) 8 = packNt t0 ∧ (∃ p ∈ (after (.ethFrameTxEnd 0) (s 7)).fabric, p.line = 45) ∧
    after (.ethFrameTxEnd 0) routing = routing := by decide +kernel
/-- R259, R260, R262, R264: the wheel, a gate, a pending list, a sweep of samples. -/
theorem test_wheel_and_gates :
    let p (e : Nat) : State := queued 0 (fun q => { q with parked := some (e, false) })
    let l (n : Nat) : State := ({ routing with tm := { routing.tm with next := [(0, some (n, 1))] } } : State).setFld (F.HIT_SWAP_STAT_STATE 1) 1 |>.setReg (R.HIT_SWAP_SETS 1) (BitVec.ofNat 32 (2 ^ 12))
    let k := t0 / usU
    ((after .wheelAdvance (p (k * usFine))).tq 0).parked = none ∧ ((after .wheelAdvance (p (k * usFine + 1))).tq 0).parked = some (k * usFine + 1, false) ∧
    SMap.get (fun _ => 256) (after (.gateChange 0) routing).tm.gateNow 0 = 256 ∧ after (.gateChange 0) (routing.setFld (F.NT_STAT_COARSE 0) 1) = routing.setFld (F.NT_STAT_COARSE 0) 1 ∧
    (l t0).setsLeft 1 = [12] ∧ (after (.slalomListStart 0) (l t0)).gateStart 0 = t0 ∧ (after (.slalomListStart 0) (l t0)).gateNext 0 = none ∧
    (after (.slalomListStart 0) (l t0)).fld (F.HIT_SWAP_STAT_STATE 1) = 2 ∧ after (.slalomListStart 0) (l (t0 + 1)) = l (t0 + 1) ∧ after (.slalomListStart 0) routing = routing ∧
    (let s := (queued 0 (fun q => { q with lost := 4 })).setFld F.TM_SMP_CFG_EN 1
     (after .sampleSweep s).tm.swept = 1 ∧ ((after .sampleSweep s).tq 0).lost = 0 ∧ (after .sampleSweep s).fld F.TM_SMP_CFG_SKIPS = 1) ∧
    after .sampleSweep routing = routing := by decide +kernel

/-- A frame of n bytes with its FCS and an EtherType. -/
def frame (n : Nat) (etype : Nat) : List Byte :=
  let b := List.replicate 12 0 ++ [BitVec.ofNat 8 (etype / 256), BitVec.ofNat 8 etype] ++ List.replicate (n - 18) 0
  b ++ leBytes 4 (crc32 b)
/-- R268, each check in its order. -/
theorem test_eth_rx :
    let rx (f : List Byte) (e : Bool) (s : State) : State := after (.ethFrameRx 0 f e 0) s
    fcsPasses (frame 64 0x800) = true ∧
    (rx (frame 64 0x800) false routing).rtr.waiting.map (fun p => (p.source, p.data.length)) = [(0, 60)] ∧ (rx (frame 64 0x800) false routing).fld (F.EMAC_CNT_FIRST 0 0) = 1 ∧
    (rx (frame 63 0x800) false routing).fld (F.EMAC_CNT_FIRST 0 1) = 1 ∧ (rx (1 :: (frame 64 0x800).tail) false routing).fld (F.EMAC_CNT_FIRST 0 2) = 1 ∧
    (rx (frame 64 0x8808) false routing).fld (F.EMAC_CNT_SECOND 0 3) = 1 ∧ (rx (frame 64 0x800) true routing).fld (F.EMAC_CNT_SECOND 0 2) = 1 ∧
    (rx (frame 64 0x800) false (routing.setFld (fnState 18 0 0) 0)).fld F.RTR_COUNT1_OFF_DROP = 1 ∧
    rx (frame 64 0x800) false (routing.setFld (fnState 20 0 0) 0) = routing.setFld (fnState 20 0 0) 0 := by decide +kernel
theorem test_eth_rx_long : (after (.ethFrameRx 0 (frame 1523 0x800) false 0) routing).fld (F.EMAC_CNT_SECOND 0 1) = 1 ∧
    (let held : Packet := packet (List.replicate 9000 0) none 0
     (after (.ethFrameRx 0 (frame 64 0x800) false 0) { routing with rtr := { routing.rtr with waiting := List.replicate 8 held } }).fld (F.EMAC_CNT_FIRST 0 3) = 1) := by
  decide +kernel
/-- R269: a link that falls counts and raises its line; one that stays does not. -/
theorem test_link : let up := routing.setFld (F.EMAC_STAT_LINK 5) 1
    (after (.linkStateChange 5 false false false 0 0) up).fld (F.EMAC_CNT_SECOND 5 5) = 1 ∧ (∃ p ∈ (after (.linkStateChange 5 false false false 0 0) up).fabric, p.line = 50) ∧
    (after (.linkStateChange 5 true true true 0 0) up).fabric = [] ∧ (after (.linkStateChange 6 true true true 8 4) routing).fld F.PCIE_STAT_LINKUP = 1 ∧
    (∃ p ∈ (after (.linkStateChange 6 true true true 8 4) routing).fabric, p.line = 52) := by decide +kernel
/-- R270: pattern 1 masks byte 0 alone. -/
theorem test_wake :
    let s := ({ (State.reset.setFld (F.EMAC_WAKE_CFG_EN 0) 1).setFld (F.EMAC_WAKE_CFG_PATTERNS 0) 3 with
      tm := { State.reset.tm with wake := [(68, 1)] } } : State).setFld F.PWR_DOMAINS_ON 0
    s.powered 10 = false ∧ s.wakeMatch (frame 64 0x800) = some 1 ∧ (after (.wakePatternMatch (frame 64 0x800)) s).fld (F.EMAC_WAKE_STAT_PATTERN 0) = 1 ∧
    after (.wakePatternMatch (frame 64 0x800)) State.reset = State.reset := by decide +kernel
/-- R272: a host descriptor of 60 bytes is served, one of 59 refused. -/
theorem test_host :
    let s := ((routing.setReg (htxRing 2 + 8) 2).setReg (htxRing 2 + 12) 0x00010000)
    let d (n : Byte) : List Byte := [0, 0, 0, 0, n, 0] ++ List.replicate 11 0 ++ [1] ++ List.replicate 14 0
    cyclicNext s.tm.hostRing ((List.range 4).filter (fun r => decide (0 < s.ringFilled (htxRing r)))) = some 2 ∧
    (after (.hostTxServe (d 60) sixty) s).rtr.waiting.map (fun p => (p.source, p.data)) = [(6, sixty)] ∧ (after (.hostTxServe (d 60) sixty) s).hostBytes 0 3 = [0x80, 0, 0] ∧
    (after (.hostTxServe (d 59) sixty.tail) s).fld F.PCIE_CNT_HTX_REFUSED = 1 ∧ after (.hostTxServe (d 60) sixty) routing = routing := by decide +kernel

/-- R276: the windows set and clear bits of the last doubleword behind them. -/
theorem test_windows : let s := freed.wrLe (spadBase + 0x7FFFF8) 8 0xF0F0
    s.judge 0 (0x4100000000 + 0x7FFFF8) 8 = .go ∧ s.judge 0 (0x4200000000 + 0x7FFFF8) 8 = .go ∧
    s.inCodes (spadBase + 0x7FFFF8) = false ∧ s.wrongBits (spadBase + 0x7FFFF8) = 0 ∧
    (after (.bitSetStore 0 0x7FFFF8 3 0x0F00) s).rdLe (spadBase + 0x7FFFF8) 8 = 0xFFF0 ∧
    (after (.bitClearStore 0 0x7FFFF8 3 0x00FF) s).rdLe (spadBase + 0x7FFFF8) 8 = 0xF000 := by decide +kernel
/-- R278 and R279: the patrol corrects, discards and wraps at its last region. -/
theorem test_patrol : let s := ((freed.setFld F.SPM_PATROL_EN 1).setFld F.SPM_PATROL_CURSOR 8447).setWrong (patrolWord 8447 127) 1
    s.patrolNext = 8447 ∧ (after (.patrolRegion none false) s).wrongBits (patrolWord 8447 127) = 0 ∧ (after (.patrolRegion none false) s).fld F.SPM_PATROL_CURSOR = 0 ∧
    (after (.patrolRegion (some 0) false) s).fld F.SPM_STAT_MARCH_FAIL = 1 ∧ (after (.patrolRegion none true) (s.setFld F.SPM_PATROL_CURSOR 8446)).arrays.retry = [(8446, 64, 1)] ∧
    after (.patrolRegion none false) (s.setFld F.SPM_PATROL_EN 0) = s.setFld F.SPM_PATROL_EN 0 := by decide +kernel
/-- R290 and R291: a refresh is postponed eight times; a sweep past 8/64 UI is a full one. -/
theorem test_refresh_and_sweep :
    let p (n : Nat) : State := { freed with arrays := { freed.arrays with postponed := [(3, n)] } }
    let k (s : State) : Nat := SMap.get (fun _ => 0) s.arrays.postponed 3
    let hot := freed.setFld (F.MON_TEMP_VALUE 12) 81
    k (after (.dramRefresh 3 true) (p 7)) = 8 ∧ k (after (.dramRefresh 3 true) (p 8)) = 0 ∧ k (after (.dramRefresh 3 false) (p 5)) = 0 ∧
    hot.sweepDue 0 = true ∧ (freed.setFld (F.MON_TEMP_VALUE 12) 80).sweepDue 0 = false ∧ (after (.sentinelSweep 0 8) hot).fld F.DMC_STAT_FULL0 = 0 ∧
    (after (.sentinelSweep 0 9) hot).fld F.DMC_STAT_FULL0 = 1 ∧ (after (.sentinelSweep 0 (-9)) hot).fld F.DMC_TRAIN_SHIFT0 = 247 ∧
    after (.sentinelSweep 0 9) (freed.setFld (F.MON_TEMP_VALUE 12) 80) = freed.setFld (F.MON_TEMP_VALUE 12) 80 := by decide +kernel
/-- A closed record of one buffer in queue 5 of n entries. -/
def recording (n : Nat) : State :=
  (({ freed with rq := { freed.rq with recs := [⟨1, 5, 0, 2, 100, [0x4000010000], true⟩] } } : State).setFld (F.RQ_CFG_SIZE 5) n).setFld (F.RQ_BASE_ADDR 5) 0x40000020
/-- R284 and R285: an entry in a ring of two; a ring with no entry free. -/
theorem test_commit : let s := recording 2
    let t := after .recordCommit s
    s.freeEntries 5 = 1 ∧ t.fld (F.RQ_PTR_A_COMMIT 5) = 1 ∧ t.rdLe (s.entryAddr 5 0) 4 = 0x00640203 ∧ t.rdLe (s.entryAddr 5 0 + 8) 4 = 0x40000100 ∧
    t.rq.recs = [] ∧ t.fld F.RQ_COUNT1_COMMITS = 1 ∧ (recording 1).freeEntries 5 = 0 ∧ (after .recordCommit (recording 1)).fld F.RQ_COUNT0_NO_BUFFER = 1 ∧
    (∃ p ∈ (after .recordCommit (recording 1)).fabric, p.line = 35) ∧ after .recordCommit freed = freed := by decide +kernel
/-- R287: drains end with the last record, and a waiting enable takes effect. -/
theorem test_drains :
    let q (en : Nat) : State := ((({ freed with rq := { freed.rq with qDrain := [63] } } : State).setFld (F.RQ_CFG_ACTIVE 63) 1).setFld (F.RQ_CFG_EN 63) en).setFld (F.RQ_CFG_SIZE 63) 2
      |>.setFld (F.RQ_BASE_ADDR 63) 0x40000020
    let b : State := ({ freed with rq := { freed.rq with pDrain := [15] } } : State).setFld (F.RQ_POOL_CFG_ACTIVE 15) 1
    (after (.queueDrainEnd 63) (q 0)).fld (F.RQ_CFG_ACTIVE 63) = 0 ∧ (after (.queueDrainEnd 63) (q 1)).fld (F.RQ_CFG_ACTIVE 63) = 1 ∧
    (after (.queueDrainEnd 63) (q 1)).rq.qDrain = [] ∧ after (.queueDrainEnd 0) (q 1) = q 1 ∧ (after (.poolDrainEnd 15) b).fld (F.RQ_POOL_CFG_ACTIVE 15) = 0 ∧
    after (.poolDrainEnd 0) b = b := by decide +kernel

/-! ## Work, services, the cipher engine and the ledger (chapters 13 to 15) -/

/-- An item at the next 64-byte boundary of the scratchpad. -/
def itemAt : Nat := 0x4000001040
/-- R294: an item is posted with its flags, once; a misaligned one is a FAULT. -/
theorem test_post : let s := coreAt 0 [(1, BitVec.ofNat 64 itemAt), (2, BitVec.ofNat 64 (itemAt + 8))]
    let t := after (.post_ 0 3 1 7) s
    s.postCode itemAt = .ok ∧ t.wd.waiting = [⟨itemAt, 7, none⟩] ∧ t.rdLe itemAt 1 = 0x40 ∧ (t.core 0).gr 3 = 0 ∧
    gAfter (.post_ 0 3 1 7) t 0 3 = BitVec.ofNat 64 Status.busy.code ∧ (after (.post_ 0 3 1 7) t).wd.waiting = t.wd.waiting ∧
    gAfter (.post_ 0 3 2 0) s 0 3 = BitVec.ofNat 64 Status.fault.code ∧ s.wd.asking = [] ∧ s.fld F.WD_CFG_TRACE_EN = 0 := by decide +kernel
/-- The store is full at 8192 items. -/
theorem witness_post_full (l : List WorkItem) (h : l.length = 8192) :
    ({ freed with wd := { freed.wd with waiting := l } } : State).postCode itemAt = .noBuffer := by
  have h1 : ¬ (itemAt % 64 ≠ 0 ∨ inNormal itemAt 64 = false) := by decide
  have h2 : bitOf (({ freed with wd := { freed.wd with waiting := l } } : State).itemFlags itemAt) 6 = false :=
    (by decide +kernel : bitOf (freed.itemFlags itemAt) 6 = false)
  unfold State.postCode
  rw [if_neg h1, h2, if_neg (by simp), if_pos (by simp [h])]
/-- R296: DONE ends its item with 0x11 at most and takes the lowest level next, or waits. -/
theorem test_done :
    let s (w : List WorkItem) : State := { coreAt 19 [(1, 0x12)] with wd := { freed.wd with waiting := w, running := [(19, ⟨itemAt, 0, none⟩)] } }
    let t := after (.wdDone 19 3 1) (s [⟨7, 5, none⟩, ⟨8, 2, none⟩, ⟨9, 2, none⟩])
    let u := after (.wdDone 19 3 1) (s [])
    t.rdLe (itemAt + 2) 1 = 0x11 ∧ t.rdLe itemAt 1 = 0x80 ∧ (t.core 19).gr 3 = 8 ∧ t.wd.waiting = [⟨7, 5, none⟩, ⟨9, 2, none⟩] ∧
    t.wd.running = [(19, ⟨8, 2, none⟩)] ∧ (u.core 19).mode = .idle ∧ (u.core 19).pc = 0x4000000100 ∧ u.wd.asking = [(19, 3, 0)] ∧ u.wd.running = [] := by
  decide +kernel
/-- R297: DONE answers the calm word once its wait of 64 ticks (256 / 4) is over. -/
theorem test_idle_timeout :
    let s (n : Nat) : State := { coreAt 19 [] with wd := { freed.wd with asking := [(19, 3, 0)] }, ticks := n }
    after (.doneIdleTimeout 19) (s 63) = s 63 ∧ gAfter (.doneIdleTimeout 19) (s 64) 19 3 = 0x8000000000000000 ∧
    ((after (.doneIdleTimeout 19) (s 64)).core 19).pc = 0x4000000104 ∧ after (.doneIdleTimeout 0) (s 64) = s 64 := by decide +kernel
/-- R298: a queue's item held back is posted once there is room. -/
theorem test_held_item : let s := ({ freed with wd := { freed.wd with held := [(63, 4)] } } : State).setFld F.WD_QITEM_ADDR 0x4000002
    (after .queueItemHeldPost s).wd.waiting = [⟨0x4000002FC0, 4, some 63⟩] ∧ (after .queueItemHeldPost s).rdLe (0x4000002FC0) 1 = 0x40 ∧
    (after .queueItemHeldPost s).rdLe (0x4000002FC5) 1 = 191 ∧ after .queueItemHeldPost freed = freed := by decide +kernel
/-- R301: tokens are taken in rising order, given back by their holder alone. -/
theorem test_locks :
    let held (k c : Nat) (s : State) : State := (s.setFld (F.LCK_HOLDER_HELD k) 1).setFld (F.LCK_HOLDER_CORE k) c
    let s := coreAt 5 [(1, 0x1FF)]
    gAfter (.lckTake 5 3 255) (held 254 5 s) 5 3 = 0 ∧ (after (.takev 5 3 1) s).fld (F.LCK_HOLDER_CORE 255) = 5 ∧ (after (.takev 5 3 1) s).fld (F.LCK_HOLDER_HELD 255) = 1 ∧
    gAfter (.lckTake 5 3 254) (held 254 5 s) 5 3 = BitVec.ofNat 64 Status.order.code ∧ gAfter (.lckTake 5 3 253) (held 254 5 s) 5 3 = BitVec.ofNat 64 Status.order.code ∧
    gAfter (.lckTake 5 3 0) (held 0 6 s) 5 3 = BitVec.ofNat 64 Status.busy.code ∧ gAfter (.lckGive 5 3 0) (held 0 5 s) 5 3 = 0 ∧
    (after (.lckGive 5 3 0) (held 0 5 s)).fld (F.LCK_HOLDER_HELD 0) = 0 ∧ gAfter (.givev 5 3 1) (held 255 6 s) 5 3 = BitVec.ofNat 64 Status.fault.code ∧
    (after (.givev 5 3 1) (held 255 6 s)).fld F.LCK_COUNT_GIVE_FAULT = 1 := by decide +kernel

/-- R303: a request of core 0; a fifth is BUSY; a descriptor off its 8 bytes is a FAULT. -/
theorem test_svc :
    let s := coreAt 0 [(1, 0x4000001000), (2, 77), (4, 0x4000001004)]
    let t := after (.svc 0 3 1 2 5) s
    let five : State := { s with arb := { s.arb with reqs := List.replicate 4 (request 1 [] .waiting) } }
    s.svcCode 0 1 0x4000001000 .open_ = .ok ∧ t.arb.reqs.map (fun q => (q.req, q.engine, q.addr, q.rb, q.mark, q.phase)) = [(0, 1, 0x4000001000, 77, .open_, .waiting)] ∧
    t.fld (F.ARB_REQ_ISSUED 0) = 1 ∧ (t.core 0).gr 3 = 0 ∧ gAfter (.svc 0 3 4 2 1) s 0 3 = BitVec.ofNat 64 Status.fault.code ∧
    five.outstanding 0 = 4 ∧ gAfter (.svc 0 3 1 2 1) five 0 3 = BitVec.ofNat 64 Status.busy.code ∧ (after (.svc 0 3 1 2 1) five).fld F.ARB_COUNT_BUSY = 1 := by decide +kernel
/-- Engines CIPHER, LEDGER and capture on, with requests. -/
def served (l : List SvcReq) : State :=
  let s := ((freed.setFld (fnState 28 0 0) 2).setFld (fnState 30 0 0) 2).setFld (fnState 13 0 0) 2
  { s with arb := { s.arb with reqs := l, nextId := 9 } }
def phases (s : State) : List SvcPhase := s.arb.reqs.map (fun q => q.phase)
/-- R304: a grant reads the descriptor; an OP past the engine's last (6, 16 and 2) ends FAULT. -/
theorem test_grant :
    let s (e op : Nat) : State := (served [request e [] .waiting]).wrLe 0x1000 1 op
    (s 0 6).nextGrant 0 = some (request 0 [] .waiting) ∧ (s 0 6).engineReady 0 = true ∧ phases ((s 0 6).grantReq (request 0 [] .waiting)) = [.granted] ∧ (s 0 6).freePipes = [0, 1, 2, 3] ∧
    phases (after (.arbiterGrant 0) (s 0 7)) = [.ended 0x11] ∧ phases (after (.arbiterGrant 1) (s 1 16)) = [.granted] ∧
    phases (after (.arbiterGrant 1) (s 1 17)) = [.ended 0x11] ∧ phases (after (.arbiterGrant 2) (s 2 2)) = [.granted] ∧
    phases (after (.arbiterGrant 2) (s 2 0)) = [.ended 0x11] ∧ after (.arbiterGrant 0) freed = freed := by decide +kernel
/-- R305: a taken lane returns the command for 16, then twice as many core cycles. -/
theorem test_grant_returns :
    let s (b : Nat) : State := (served [{ request 1 [2] .granted with id := 1 }, { request 1 [] .waiting with backoff := b }]).wrLe 0x1000 1 2
    (s 0).laneTaken { request 1 [] .waiting with desc := (s 0).bytes 0x1000 64 } = true ∧
    (after (.arbiterGrant 1) (s 0)).arb.reqs.map (fun q => (q.backoff, q.readyAt)) = [(0, 0), (16, 4)] ∧
    (after (.arbiterGrant 1) (s 4096)).arb.reqs.map (fun q => q.backoff) = [0, 4096] ∧ (after (.arbiterGrant 1) (s 0)).fld F.ARB_COUNT_RETURNS = 1 := by decide +kernel
theorem test_completion : let s := served [request 1 [] (.ended 0x11)]
    (after (.serviceCompletion 1) s).rdLe 0x1001 1 = 0x11 ∧ (after (.serviceCompletion 1) s).arb.reqs = [] ∧ (after (.serviceCompletion 1) s).fld (F.ARB_REQ_COMPLETED 0) = 1 ∧
    after (.serviceCompletion 0) s = s := by decide +kernel
/-- R307: a sequence is cut off once its hold limit (10 µs) has gone by. -/
theorem test_cut_off : let s (n : Nat) : State := { freed with arb := { freed.arb with holds := [(1, 7, 0, 3)], opened := [(7, 1)] }, time := (clockAt n freed).time }
    (s (10 * usU - 1)).cutOffDue 1 = false ∧ after (.sequenceCutOff 1) (s (10 * usU - 1)) = s (10 * usU - 1) ∧ (after (.sequenceCutOff 1) (s (10 * usU))).holderOf 1 = none ∧
    (after (.sequenceCutOff 1) (s (10 * usU))).fld (F.ARB_REQ_CUTOFF 7) = 1 ∧ (∃ p ∈ (after (.sequenceCutOff 1) (s (10 * usU))).fabric, p.line = 42) := by decide +kernel
theorem test_backoff : let s : State := { served [{ request 1 [] .waiting with readyAt := 5 }] with ticks := 5 }
    (after .backoffExpiry s).arb.reqs.map (fun q => q.readyAt) = [0] ∧ (after .backoffExpiry { s with ticks := 4 }).arb.reqs.map (fun q => q.readyAt) = [5] := by decide +kernel

/-- Key 0 to 15 as AES-128, KMODE m with a MIC of n bytes. -/
def keyOf (m n : Nat) : Key := ⟨m * 256 + n * 65536, leNat ((List.range 16).map (fun i => BitVec.ofNat 8 i)), 16⟩
/-- FIPS 197, appendix C.1. -/
theorem test_aes : aesEnc (keyOf 0 0).bytes ((List.range 16).map (fun i => BitVec.ofNat 8 (17 * i))) =
    [0x69, 0xC4, 0xE0, 0xD8, 0x6A, 0x7B, 0x04, 0x30, 0xD8, 0xCD, 0xB7, 0x80, 0x70, 0xB4, 0xC5, 0x5A] := by decide +kernel
/-- FIPS 180-4: the digest of "abc". -/
theorem test_sha256 : (sha256 [0x61, 0x62, 0x63]).take 8 = [0xBA, 0x78, 0x16, 0xBF, 0x8F, 0x01, 0xCF, 0xEA] := by decide +kernel
/-- Hypotheses of WhatIsSealedOpens in both modes. -/
theorem witness_sealed : (keyOf 1 16).valid = true ∧ (keyOf 1 16).kmode = 1 ∧ (keyOf 2 16).valid = true ∧ (keyOf 2 16).kmode = 2 := by decide +kernel
/-- A descriptor of the cipher engine: op, flags, key slot, SRC, DST, HDR and LEN, counter. -/
def cipherDesc (op flags key src dst hdr len : Nat) : List Byte :=
  leBytes 1 op ++ [0] ++ leBytes 1 flags ++ [0] ++ leBytes 4 key ++ leBytes 8 0 ++ leBytes 8 src ++ leBytes 8 dst ++ leBytes 2 hdr ++ leBytes 2 len
/-- The engine with one key in slot 4095, armed, and one granted request. -/
def ciphering (k : Key) (d : List Byte) : State :=
  let s := granted 0 d (served [])
  { s with cph := { s.cph with kek := some 1, slots := [(4095, some k)], pipes := [(0, 5)] } }
def outAt : Nat := 0x4000003000
theorem test_sha_row : let s := ciphering (keyOf 0 0) (cipherDesc 6 0 0 0x4000002000 outAt 0 3)
    s.pipeReq 6 0 = some (request 0 (cipherDesc 6 0 0 0x4000002000 outAt 0 3) .granted) ∧ (cipherCmd (request 0 (cipherDesc 6 0 0 0x4000002000 outAt 0 3) .granted).desc).badForm = false ∧
    spansOk 0x4000002000 3 outAt 32 = true ∧ spansOk 0x4000002000 3 0x4000002000 32 = false ∧ phases (after (.sha256 0) s) = [.ended 0] ∧
    (after (.sha256 0) s).bytes outAt 32 = sha256 [0, 0, 0] ∧
    phases (after (.sha256 0) (ciphering (keyOf 0 0) (cipherDesc 6 1 0 0x4000002000 outAt 0 3))) = [.ended 0x11] ∧
    phases (after (.sha256 0) (ciphering (keyOf 0 0) (cipherDesc 6 0 0 0x4000002000 0x4000002000 0 3))) = [.ended 0x11] ∧ after (.sha256 0) freed = freed := by decide +kernel
theorem test_raw_rows :
    let e := ciphering (keyOf 0 0) (cipherDesc 3 0 4095 0x4000002000 outAt 0 16)
    let d := ciphering (keyOf 0 0) (cipherDesc 4 0 4095 outAt 0x4000002000 0 16)
    (cipherCmd (cipherDesc 3 0 4095 0x4000002000 outAt 0 16)).badKey (keyOf 0 0) = false ∧ (cipherCmd (cipherDesc 3 0 4095 0x4000002000 outAt 0 16)).badKey (keyOf 1 4) = true ∧
    phases (after (.encRaw 0) e) = [.ended 0] ∧ (after (.encRaw 0) e).bytes outAt 16 = aesEnc (keyOf 0 0).bytes (List.replicate 16 0) ∧
    (after (.decRaw 0) { d with mem := (after (.encRaw 0) e).mem }).bytes 0x4000002000 16 = List.replicate 16 0 ∧
    phases (after (.encRaw 0) (ciphering (keyOf 1 4) (cipherDesc 3 0 4095 0x4000002000 outAt 0 16))) = [.ended 0x11] ∧
    phases (after (.encRaw 0) { e with cph := { e.cph with kek := none } }) = [.ended Status.aborted.code] := by decide +kernel
/-- SEAL with a counter below its ceiling, locked, and at its ceiling (R322). -/
theorem test_seal :
    let s (c : Counter) : State := let e := ciphering (keyOf 1 4) (cipherDesc 1 1 4095 0x4000002000 outAt 8 8)
      { e with cph := { e.cph with ctrs := [(4095, c)] } }
    let c : Counter := ⟨0, 5, 6, 32, false, false, false⟩
    let t := after (.seal 0) (s c)
    (s c).ctr 4095 = c ∧ phases t = [.ended 0] ∧ (t.ctr 4095).next = 6 ∧ t.rdLe (0x1000 + 40) 8 = 5 ∧ t.rdLe (0x1000 + 62) 2 = 20 ∧
    phases (after (.seal 0) (s { c with locked := true })) = [.ended Status.counterExhausted.code] ∧ (after (.seal 0) (s { c with locked := true })).fld F.CPH_COUNT_EXHAUSTED = 1 ∧
    phases (after (.seal 0) (s { c with next := 6 })) = [.waiting] ∧ ((after (.seal 0) (s { c with next := 6 })).ctr 4095).next = 6 ∧
    (after (.seal 0) (s { c with next := 6 })).fld F.CPH_COUNT_RESV_WAIT = 1 := by decide +kernel
/-- OPEN gives back what SEAL gave; one wrong bit is AUTH_FAIL with zeros. -/
theorem test_open :
    let d := cipherDesc 2 0 4095 0x4000002000 outAt 0 8
    let z := sealWith (keyOf 1 4) ((cipherCmd d).nonceArgs.nonce (keyOf 1 4) 0) [] [1, 2, 3, 4, 5, 6, 7, 8]
    let s := (ciphering (keyOf 1 4) d).put 0x4000002000 (z.1 ++ z.2)
    let u := (ciphering (keyOf 1 4) d).put 0x4000002000 (z.1 ++ z.2.map (fun b => b ^^^ 1))
    phases (after (.open_ 0) s) = [.ended 0] ∧ (after (.open_ 0) s).bytes outAt 8 = [1, 2, 3, 4, 5, 6, 7, 8] ∧
    phases (after (.open_ 0) u) = [.ended Status.authFail.code] ∧ (after (.open_ 0) u).bytes outAt 8 = List.replicate 8 0 ∧ (after (.open_ 0) u).fld F.CPH_COUNT_AUTH_FAIL = 1 := by
  decide +kernel
/-- IMPORT of a key wrapped under a transport key (RFC 3394). -/
theorem witness_import_form : let d := cipherDesc 5 0 4095 0x4000002000 outAt 0 32
    (cipherCmd d).badForm = false ∧ (cipherCmd d).badKey (keyOf 3 0) = false := by decide +kernel
theorem witness_import : (unwrapKey (keyOf 3 0).bytes [27, 189, 112, 113, 11, 90, 254, 93, 181, 12, 114, 2, 5, 46, 78, 174, 186, 122, 62, 221, 0, 184, 129,
    54, 104, 54, 113, 149, 179, 57, 111, 199]).map (fun k => k.kmode) = some 1 := by decide +kernel
/-- R341: a record that the engine holds settles; one it does not hold does not. -/
theorem test_settle :
    let s : State := { freed with ldg := { freed.ldg with settling := [9] }, cph := { freed.cph with ctrs := [(9, ⟨0, 5, 6, 32, false, false, false⟩)] } }
    s.holdsCtr 9 = true ∧ (after (.counterSettle 9) s).ldg.ring.map (fun e => (e.tag, e.durable)) = [(.settle 9, false)] ∧
    after (.counterSettle 8) s = s ∧ after (.counterSettle 9) { s with cph := freed.cph } = { s with cph := freed.cph } := by decide +kernel
/-- An armed key store with one key and alarm sources enabled. -/
def keyed (en : Nat) : State := { freed.setFld F.KST_ALARM_EN en with cph := { freed.cph with kek := some 1, slots := [(4095, some (keyOf 1 4))] } }
/-- R325: an alarm whites out, and a source that is not enabled does not. -/
theorem test_alarm :
    let s := keyed 0x20
    let t := after (.alarmRaised 5 true) s
    s.alarmEnabled 5 = true ∧ s.alarmEnabled 4 = false ∧ t.armed = false ∧ t.cph.slots = [] ∧ (∃ p ∈ t.fabric, p.line = 38) ∧
    (after (.alarmRaised 4 true) s).armed = true ∧ (after (.alarmRaised 4 true) s).fld F.KST_ALARM_ACTIVE = 0x10 ∧
    (after (.alarmRaised 5 false) (s.setFld F.KST_ALARM_ACTIVE 0x7F)).fld F.KST_ALARM_ACTIVE = 0x5F := by decide +kernel
/-- R407: a loop is open at its second failed check. -/
theorem test_tamper :
    let s := keyed 2
    let t := after (.tamperCheck 1 false) s
    t.pin.tamp = [1] ∧ t.armed = true ∧ (after (.tamperCheck 1 false) t).armed = false ∧ (after (.tamperCheck 1 true) t).pin.tamp = [] ∧
    (after (.tamperCheck 1 true) (s.setFld F.KST_ALARM_ACTIVE 3)).fld F.KST_ALARM_ACTIVE = 1 := by decide +kernel

/-- A descriptor of the ledger: op, AREA, INDEX, COUNT, OFFSET, SRC, DST, LEN. -/
def ldgDesc (op area index count offset src dst len : Nat) : List Byte :=
  leBytes 1 op ++ [0] ++ leBytes 1 area ++ [0] ++ leBytes 4 index ++ leBytes 4 count ++ leBytes 4 offset ++ leBytes 8 src ++ leBytes 8 dst ++ leBytes 4 len
def ledger (req : Nat) (d : List Byte) : State :=
  let s := served []
  { s with arb := { s.arb with reqs := [{ request 1 d .granted with req := req }] } }
def ldgCodeOf (s : State) (d : List Byte) : Status := s.ldgCode 0 0 (ldgCmd (d ++ List.replicate (64 - d.length) 0))
/-- STORE_READ of the last 8 bytes of the store; one byte further is a FAULT. -/
theorem test_store_read :
    let d (o : Nat) : List Byte := ldgDesc 1 0 0 0 o 0 outAt 8
    let s (o : Nat) : State := let e := ledger 0 (d o); { e with ldg := { e.ldg with mram := [((storeAt + 0x14FFFF8) / 8, 0x1122)] } }
    let t := after .storeRead (s 0x14FFFF8)
    ((s 0x14FFFF8).ldgGranted 1).isSome = true ∧ ldgCodeOf (s 0x14FFFF8) (d 0x14FFFF8) = .ok ∧ phases t = [.ended 0] ∧ t.bytes outAt 8 = [0x22, 0x11, 0, 0, 0, 0, 0, 0] ∧
    t.rdLe (0x1000 + 36) 4 = 8 ∧ phases (after .storeRead (s 0x14FFFF9)) = [.ended 0x11] ∧ after .storeRead freed = freed := by decide +kernel
/-- STORE_WRITE waits for its entry; a full journal returns it. -/
theorem test_store_write :
    let d := ldgDesc 2 0 0 0 0 0x4000002000 0 8
    let s := (ledger 0 d).wrLe 0x4000002000 8 0x0102030405060708
    let t := after .storeWrite s
    let full : State := { s with ldg := { s.ldg with ring := [⟨0, 0, ringUnits, [], false, .plain, 0x4A, 30⟩], head := 0, tail := 0 } }
    ldgCodeOf s d = .ok ∧ phases t = [.journal s.ldg.next] ∧ t.ldg.ring.map (fun e => (e.items, e.durable)) = [([(storeAt, [0x0102030405060708])], false)] ∧
    full.jfill = ringUnits ∧ phases (after .storeWrite full) = [.waiting] ∧ (after .storeWrite full).fld F.LDG_COUNT0_JFULL = 1 := by decide +kernel
/-- What no core but the Keeper may do. -/
theorem test_keeper_only : phases (after .kwrite (ledger 0 (ldgDesc 15 0 0 0 0 0x4000002000 0 8))) = [.ended Status.noRight.code] ∧
    phases (after .imgBegin (ledger 0 (ldgDesc 8 2 0 0 0 0 0 0))) = [.ended 0x11] := by decide +kernel
/-- R333, R334: the oldest entry becomes durable, ends its command, and is applied. -/
theorem test_journal :
    let e (d : Bool) : JEntry := ⟨41, 0, 1, [(storeAt, [7])], d, .req 5, 0x4A, 1⟩
    let s (d : Bool) : State := { freed with ldg := { freed.ldg with ring := [e d], head := 1 }, arb := { freed.arb with reqs := [request 1 [] (.journal 41)] } }
    let t := after .journalEntryDurable (s false)
    t.ldg.ring = [e true] ∧ t.fld F.LDG_JSEQ_LO_JSEQ_LO = 41 ∧ phases t = [.ended 0] ∧ after .journalEntryDurable (s true) = s true ∧
    (after .journalApply (s true)).ldg.ring = [] ∧ (after .journalApply (s true)).ldg.applied = 42 ∧ (after .journalApply (s true)).mword storeAt = 7 ∧
    after .journalApply (s false) = s false := by decide +kernel

/-- A block being filled, with n pages used. -/
def filling (n : Nat) (s : State) : State := { s with ldg := { s.ldg with filling := some 7, blocks := [(7, ⟨0, 1, n, 0, 0⟩)] } }
/-- COLD_WRITE, CKPT and IMG_WRITE begin a program; without a page nothing begins. -/
theorem test_programs :
    let cw := filling 63 (ledger 0 (ldgDesc 4 0 262143 0 0 0x4000002000 0 0))
    let ck := filling 0 (ledger 0 (ldgDesc 5 0 9 0 0 0 0 0))
    (after .coldWrite cw).ldg.progs.map (fun p => (p.logical, p.phys, p.tag)) = [(98303, 511, .req 5)] ∧ phases (after .coldWrite cw) = [.journal 0] ∧
    (after .ckpt ck).ldg.progs.map (fun p => (p.logical, p.phys)) = [(65537, 448)] ∧
    phases (after .coldWrite (ledger 0 (ldgDesc 4 0 262144 0 0 0x4000002000 0 0))) = [.ended 0x11] := by decide +kernel
/-- R330: a program of 8 wrong bits at worst is mapped through the journal; an erase makes a block free. -/
theorem test_program_done :
    let s := { filling 1 freed with ldg := { (filling 1 freed).ldg with progs := [⟨3, 448, [0xAA, 0xBB], [], .plain⟩], blocks := [(7, ⟨5, 3, 64, 9, 0⟩)] } }
    let t := after (.nandProgramDone false 8) s
    t.ldg.progs = [] ∧ t.ldg.ring.map (fun e => (e.tag, e.durable)) = [(.plain, false)] ∧ SMap.get nandDefault t.ldg.nand (4096 * 448 + 1) = 0xBB ∧
    ((after (.nandEraseDone 7 false) s).nblock 7).state = 0 ∧ after (.nandEraseDone 8 false) s = s ∧ after (.nandProgramDone false 0) freed = freed := by decide +kernel
/-- R339: a checkpoint of a handle that waits for one. -/
theorem test_checkpoint : let s := { filling 0 freed with ldg := { (filling 0 freed).ldg with ckpts := [4] } }
    (after (.checkpoint 4) s).ldg.ckpts = [] ∧ (after (.checkpoint 4) s).ldg.progs.map (fun p => (p.logical, p.tag)) = [(65536, .plain)] ∧
    after (.checkpoint 3) s = s := by decide +kernel
/-- R348: a scrub of a page with 20 wrong bits only counts the read; of an unmapped page nothing. -/
theorem test_scrub :
    let s : State := { freed.setFld F.LDG_STAT_MOUNTED 1 with ldg := { freed.ldg with mram := [(mapAt 2 / 8, 449)], sectors := [(4 * 448 + 3, 20)] } }
    s.physOf 2 = some 448 ∧ ((after (.nandScrub 2) s).nblock 7).reads = 1 ∧ after (.nandScrub 3) s = s ∧ after (.nandScrub 98304) s = s := by decide +kernel
/-- R342: one and two wrong bits are corrected and counted; three are restored and logged. -/
theorem test_mram_scrub :
    let s (l : SMap Nat) : State := { freed.setFld F.LDG_STAT_MOUNTED 1 with ldg := { freed.ldg with wrong := l } }
    (after .mramScrub (s [(1, 1), (9, 2)])).ldg.wrong = [] ∧ (after .mramScrub (s [(1, 1), (9, 2)])).fld F.LDG_COUNT0_MRAM_CE = 2 ∧
    (after .mramScrub (s [(0, 3)])).fld F.LDG_STAT_RESTORED = 1 ∧ (after .mramScrub (s [(0, 3)])).fld F.LDG_COUNT0_MRAM_UE = 1 := by decide +kernel
theorem test_rebuild : let s : State := { freed with ldg := { freed.ldg with mapRebuild := true } }
    (after .rebuildDone s).ldg.mapRebuild = false ∧ (after .rebuildDone s).ldg.mram = s.ldg.mram := by decide +kernel
/-- AUD_APPEND by the Keeper, EXPORT of no record and IMG_BEGIN of the area that is not active. -/
theorem test_keeper_rows :
    phases (after .export_ (ledger 0 (ldgDesc 6 0 0 0 0 0 outAt 128))) ≠ [.granted] ∧
    ldgCodeOf freed (ldgDesc 6 0 0 0 0 0 outAt 128) = .noRight := by decide +kernel
/-- The Keeper's rows: AUD_APPEND numbers an entry; IMG_BEGIN takes the area that is not active; KWRITE goes through the journal. -/
theorem test_audit_append : let s := ledger 23 (ldgDesc 13 0 0 0 0 0x4000800000 0 0)
    phases (after .audAppend s) = [.ended 0] ∧ (after .audAppend s).rdLe (0x1000 + 4) 4 = s.fld F.LDG_AUDNEXT_NEXT := by decide +kernel
theorem test_image_begin : let s := ledger 23 (ldgDesc 8 1 0 0 0 0 0 0)
    s.ldgCode 23 0 (ldgCmd (ldgDesc 8 1 0 0 0 0 0 0 ++ List.replicate 28 0)) = .ok ∧ phases (after .kwrite (ledger 23 (ldgDesc 15 1 0 0 0 0x4000800000 0 8))) = [.journal freed.ldg.next] := by decide +kernel

/-! ## Power, the Keeper and the pins (chapters 16 to 18) -/

/-- The log at entry 1: entry 0 chains to the module's serial number, which nothing fixes. -/
def logged (s : State) : State := s.setFld F.LDG_AUDNEXT_NEXT 1
/-- An entry in progress to a state, drained or not. -/
def entering (target : Nat) (drain : Bool) (s : State) : State := s.setPwr { s.pwr with entry := some ⟨target, 5, 0, 0, [], drain, 0, 2⟩ }
/-- R357: a request at its time, one too early, one for the state in force, and one refused by a hot monitor (entry 33). -/
theorem test_power_request :
    let s (target n : Nat) : State := (((timeAt (t0 + n) freed).setPwr { freed.pwr with timed := some 5 }).setFld F.PWR_STAT_PENDING 1).setFld F.PWR_STAT_TARGET target
      |>.setFld F.PWR_AT_SEC_SEC (t0 / secU % 2 ^ 32)
    let hot : State := ((s 1 0).setFld F.PWR_STAT_STATE 2).setFld (F.MON_TLIM_ACTION 0) 2 |>.setFld (F.MON_TEMP_VALUE 0) 0x7FFF
    (s 1 0).powerAt = t0 ∧ (s 1 0).refusal 1 = none ∧ ((after .powerRequestDue (s 1 0)).pwr.entry.map (fun e => (e.target, e.by_))) = some (1, 5) ∧
    (after .powerRequestDue (s 0 0)).fld F.PWR_STAT_PENDING = 0 ∧ (after .powerRequestDue (s 0 0)).pwr.timed = none ∧
    hot.refusal 1 = some 33 ∧ (after .powerRequestDue hot).fld F.PWR_REFUSE_ENTRY = 33 ∧ (∃ p ∈ (after .powerRequestDue hot).fabric, p.line = 53) ∧
    after .powerRequestDue freed = freed := by decide +kernel
theorem test_power_request_early :
    let s : State := (((timeAt (t0 - 1) freed).setPwr { freed.pwr with timed := some 5 }).setFld F.PWR_STAT_PENDING 1).setFld F.PWR_AT_SEC_SEC (t0 / secU % 2 ^ 32)
    s.powerAt = t0 ∧ after .powerRequestDue s = s := by decide +kernel
/-- R364: in Standby an enabled wake is recorded and begins its entry; in Full none. -/
theorem test_wake_request :
    let s := (((freed.setFld F.PWR_STAT_STATE 3).setFld F.PWR_WAKE_EN 1).setFld F.PWR_STAT_BANK_OK 1).setFld (F.EMAC_WAKE_STAT_VALID 5) 1
    s.wakeEnabled 0 = true ∧ s.powerBusy = false ∧ s.refusal 0 = none ∧ ((after (.wakeRequest 0) s).pwr.entry.map (fun e => (e.target, e.by_))) = some (0, 23) ∧
    (after (.wakeRequest 0) s).fld F.PWR_WAKE_VALID = 1 ∧ s.wakeEnabled 2 = false ∧ after (.wakeRequest 2) s = s ∧ after (.wakeRequest 0) freed = freed ∧
    (s.setFld F.PWR_STAT_BANK_OK 0).refusal 0 = some 31 ∧ (after (.wakeRequest 0) (s.setFld F.PWR_STAT_BANK_OK 0)).fld F.PWR_REFUSE_ENTRY = 31 ∧
    (after (.wakeRequest 0) (s.setFld F.PWR_STAT_RIDING 1)).pwr.entry = none := by decide +kernel
/-- R358, R359: a drained entry completes; one that is not aborts once DRAIN has passed. -/
theorem test_entry :
    let s := entering 1 true State.reset
    let busy : State := { entering 2 true freed with time := (clockAt freed.drainLimit freed).time }
    s.drained ⟨1, 5, 0, 0, [], true, 0, 2⟩ = true ∧ (after .powerEntryComplete s).pwr.entry = none ∧ (after .powerEntryComplete s).pstate = 1 ∧
    (after .powerEntryComplete s).fld F.PWR_DOMAINS_ON = stateDomains 1 ∧ after .powerEntryComplete freed = freed ∧ after .powerEntryDrainTimeout freed = freed ∧
    busy.drained ⟨2, 5, 0, 0, [], true, 0, 2⟩ = false ∧ (after .powerEntryDrainTimeout busy).pwr.entry = none ∧
    (after .powerEntryDrainTimeout busy).fld F.PWR_REFUSE_ABORT = 1 ∧ after .powerEntryDrainTimeout (clockAt (busy.clock - 1) busy) = clockAt (busy.clock - 1) busy ∧
    after .powerEntryComplete busy = busy := by decide +kernel
theorem test_entry_off : (after .powerEntryComplete (entering 4 true (timeAt t0 State.reset))).kpr.timeFloor = t0 / secU ∧
    (after .powerEntryComplete (entering 4 true (timeAt t0 State.reset))).pwr.entry = none := by decide +kernel
/-- A warm restart that the Keeper or a request drains. -/
theorem witness_warm : (entering 5 true State.reset).drained ⟨5, 5, 0, 0, [], true, 0, 2⟩ = true ∧ (5 : Nat) < 32 ∧
    (entering 5 true freed).drained ⟨5, 5, 0, 0, [], true, 0, 2⟩ = false ∧ 0 + freed.drainLimit ≤ freed.drainLimit := by decide +kernel

def supply (radio : Option Nat) (dev since : Nat) (onBus snow : Bool) : SupReq := ⟨radio, radio.map (fun _ => cmd 3 t0), dev, 5, since, onBus, none, snow⟩
def supplies (l : List SupReq) : State := (timeAt t0 freed).setSup l
/-- R366, R367: the snowplough first, then PAREQs by port time, then the Keeper; acknowledged, refused or timed out. -/
theorem test_supplies :
    let k := supply none 1 7 false false
    let on := supply none 3 (t0 - 500 * usU) true false
    (after .supplyTransactionStart (supplies [k, supply (some 0) 0 9 false false, supply (some 1) 0 8 false false])).onBus.map (fun q => q.radio) = some (some 1) ∧
    (after .supplyTransactionStart (supplies [k, supply (some 0) 0 9 false false, supply none 2 9 false true])).onBus.map (fun q => q.snow) = some true ∧
    (after .supplyTransactionStart (supplies [k])).onBus.map (fun q => q.since) = some t0 ∧
    after .supplyTransactionStart (supplies [on, k]) = supplies [on, k] ∧ after .supplyTransactionStart (supplies []) = supplies [] ∧
    (after .supplyAck (supplies [on])).sup = [] ∧ (after .supplyAck (supplies [on])).fld (F.SUP_ACK_LEVEL 3) = 5 ∧
    (after .supplyAck (supplies [supply none 4 t0 true false])).fld F.PWR_DVFS_CUR ≤ 5 ∧
    (after .supplyNackRetry (supplies [on])).sup = [{ on with onBus := false, retry := some (t0 + 20 * usU) }] ∧
    (after .supplyTimeout (supplies [on])).sup = [] ∧ (∃ p ∈ (after .supplyTimeout (supplies [on])).fabric, p.line = 57) ∧
    after .supplyTimeout (supplies [{ on with since := on.since + 1 }]) = supplies [{ on with since := on.since + 1 }] ∧
    after .supplyAck (supplies []) = supplies [] ∧ after .supplyNackRetry (supplies []) = supplies [] := by decide +kernel
theorem test_supply_radio : let q := { supply (some 0) 2 t0 true false with cmd := some (cmd 3 t0) }
    (after .supplyAck (supplies [q])).sup = [] ∧ (after .supplyAck (supplies [q])).fld (F.SUP_ACK_LEVEL 2) = 5 := by decide +kernel
/-- R365: the point falls at once and rises through the rail; the cap steps at 100 ms and at a second. -/
theorem test_dvfs :
    let s (opp cap cur : Nat) : State := (((freed.setFld F.PWR_DVFS_OPP opp).setFld F.PWR_DVFS_CAP cap).setFld F.PWR_DVFS_CUR cur).setFld (F.SUP_DEV_EN 0) 1
    let hot (n : Nat) : State := clockAt n (((s 3 1 1).setFld (F.MON_TLIM_ACTION 15) 1).setFld (F.MON_TEMP_VALUE 15) 0x7FFF)
    let cool (n : Nat) : State := clockAt n (s 3 2 2)
    (after .dvfsChange (s 1 3 2)).fld F.PWR_DVFS_CUR = 1 ∧ (after .dvfsChange (s 1 3 2)).sup.map (fun q => (q.dev, q.level)) = [(4, 1)] ∧
    (after .dvfsChange (s 3 3 2)).fld F.PWR_DVFS_CUR = 2 ∧ (after .dvfsChange (s 3 3 2)).sup.map (fun q => (q.dev, q.level)) = [(4, 3)] ∧ after .dvfsChange (s 2 3 2) = s 2 3 2 ∧
    (after .thermalCapStep (hot (msU 100))).fld F.PWR_DVFS_CAP = 0 ∧ after .thermalCapStep (hot (msU 100 - 1)) = hot (msU 100 - 1) ∧
    (after .thermalCapStep (cool (msU 1000))).fld F.PWR_DVFS_CAP = 3 ∧ after .thermalCapStep (cool (msU 1000 - 1)) = cool (msU 1000 - 1) := by decide +kernel
/-- R374: at its limit a reading is in, past it out. -/
theorem test_monitors :
    let t := ((freed.setFld (F.MON_TLIM_HIGH 10) 100).setFld (F.MON_VLIM_HIGH 23) 50).setFld (F.MON_VLIM_LOW 23) 0
    (after (.monitorSample 0 10 100) t).fld F.MON_TEVT_EVT = 0 ∧ (after (.monitorSample 0 10 101) t).fld F.MON_TEVT_EVT = 1024 ∧
    (∃ p ∈ (after (.monitorSample 0 10 101) t).fabric, p.line = 56) ∧ (after (.monitorSample 0 10 101) t).fld (F.MON_TEMP_VALUE 10) = 101 ∧
    (after (.monitorSample 1 23 50) t).fld F.MON_VEVT_EVT = 0 ∧ (after (.monitorSample 1 23 51) t).fld F.MON_VEVT_EVT = 2 ^ 23 ∧
    (after (.monitorSample 2 7 9) t).fld (F.MON_PROC_VALUE 7) = 9 ∧ after (.monitorSample 0 16 9) t = t ∧ after (.monitorSample 1 24 9) t = t := by decide +kernel
theorem test_monitor_off : let t := (freed.setFld F.PWR_DOMAINS_ON 1)
    t.powered (monDomain false 1) = false ∧ after (.monitorSample 0 1 9) t = t := by decide +kernel

/-- R368 and R369. -/
theorem test_input :
    let on := logged (freed.setPwr { freed.pwr with vin := true })
    let r (n : Nat) : State := clockAt n (freed.setPwr { freed.pwr with ride := some 0, vin := false })
    let n := 100 * freed.fld F.PWR_CFG_RIDE * usU
    let off := freed.setPwr { freed.pwr with vin := false }
    (after .powerDieStart off).pwr.vin = true ∧ (after .bankCharged on).fld F.PWR_STAT_BANK_OK = 1 ∧ after .bankCharged off = off ∧ after .inputLoss off = off ∧
    (after .inputLoss on).pwr.vin = false ∧ (after .inputLoss on).pwr.ride = some 0 ∧ (∃ p ∈ (after .inputLoss on).fabric, p.line = 55) ∧
    (after .inputReturn (r 5)).pwr.ride = none ∧ after (.rideExpiry false) (r (n - 1)) = r (n - 1) ∧ (after (.rideExpiry false) (r n)).pwr.flushing = true ∧
    (after (.rideExpiry true) (r 0)).pwr.flushing = true ∧ (∃ p ∈ (after (.rideExpiry true) (r 0)).fabric, p.line = 40) ∧ after (.rideExpiry true) freed = freed := by decide +kernel
/-- R372: a detach begins, expires with its window open, or is cancelled. -/
theorem test_detach :
    let d (n : Nat) : State := clockAt n (State.reset.setPwr { State.reset.pwr with detach := some (2, 0) })
    let n := msU (100 * State.reset.fld F.PWR_CFG_DETACH_WAIT)
    (after .detachRequest freed).pwr.detach = some (2, 0) ∧ (after .detachRequest (entering 1 true freed)).pwr.detachDue = true ∧ (after .detachRequest (entering 1 true freed)).pwr.detach = none ∧ (∃ p ∈ (after .detachRequest freed).fabric, p.line = 54) ∧
    (d n).windowOpen = true ∧ after .detachWaitExpiry (d (n - 1)) = d (n - 1) ∧ (after .detachWaitExpiry (d n)).pwr.safeLatch = true ∧
    (after .detachCancel (d 0)).pwr.detach = none ∧ after .detachWaitExpiry freed = freed ∧
    after .detachRequest (d 0) = (d 0).setPwr { (d 0).pwr with detachLow := true } := by decide +kernel
/-- R376: what bars a cold start, and a state with nothing that does. -/
theorem test_cold_start :
    let b : State := State.reset.setPwr { State.reset.pwr with booted := true }
    let safe : State := State.reset.setPwr { State.reset.pwr with safeLatch := true }
    after (.coldStart 0 false) b = b ∧ after (.coldStart 0 true) safe = safe ∧ State.reset.pwr.booted = false ∧ State.reset.kpr.latched = false ∧ State.reset.pwr.safeLatch = false := by decide +kernel

/-- Request slot k of the Keeper with an operation and two arguments. -/
def asked (k op a b : Nat) : State := (((logged freed).wrLe (slotAt k) 1 op).wrLe (slotAt k + 8) 8 a).wrLe (slotAt k + 16) 8 b
/-- R379: states for an unknown operation, a bad argument, a missing right, BUSY, and an operation that runs (its OUT is a free value). -/
theorem witness_keeper : (asked 3 0x04 0 0).kOp 3 ∉ kOps ∧ (asked 3 0x01 24 0).kFault 3 = true ∧ (asked 3 0x22 0 0).kFault 3 = false ∧
    (asked 3 0x22 0 0).kAllowed 3 0x22 = false ∧ (asked 3 0x02 0 0).kFault 3 = false ∧ (asked 3 0x02 0 0).kAllowed 3 0x02 = true ∧
    (asked 3 0x02 0 0).kBusy = false ∧ (entering 1 true (asked 3 0x02 0 0)).kBusy = true ∧ (asked 3 0x02 0 0).fld F.KPR_STAT_HOLD = 0 ∧
    (asked 3 0x02 0 0).rdLe (slotAt 3 + 2) 1 < 128 := by decide +kernel
/-- Every operation passes the checks for a core whose pass gives all rights. -/
theorem witness_keeper_rights :
    let s (op : Nat) : State := (((asked 3 op 1 1).setFld (F.PASS_SLOT_VALID 0) 1).setFld (F.PASS_SLOT_CORE 0) 3).setFld (F.PASS_SLOT_RIGHTS 0) 255 |>.setFld (F.PASS_SLOT_ROLE 0) 2
    ∀ op ∈ kOps, (s op).kOp 3 = op ∧ (s op).kFault 3 = false ∧ (s op).kAllowed 3 op = true ∧ (s op).kBusy = false := by decide +kernel
theorem test_keeper_undue : after (.kprRestart 3) (asked 3 0x22 0 0) = asked 3 0x22 0 0 ∧ after (.kprRestart 20) (asked 20 0x01 0 0) = asked 20 0x01 0 0 := by decide +kernel
/-- Chapter 17's watches at their instants. -/
theorem test_watches :
    let w (n : Nat) : State := clockAt n freed
    let n := freed.wdogPeriod * 9 / 10
    let bell (n : Nat) : State := clockAt n { freed with kpr := { freed.kpr with bellAt := some 0 } }
    (after .watchdogExpiry (w n)).kpr.snow = some ⟨2, n⟩ ∧ freed.kpr.snow = none ∧ freed.isOff = false ∧ after .watchdogExpiry (w (n - 1)) = w (n - 1) ∧
    after .doorbellTimeout (bell (msU 100 - 1)) = bell (msU 100 - 1) ∧
    after .doorbellTimeout freed = freed ∧ after .snowploughWaitExpiry freed = freed := by decide +kernel
/-- R395: the tenth second after a snowplough ends in Off; the third within an hour latches. -/
theorem test_snowplough_wait :
    let s (n : Nat) (l : List Nat) : State := clockAt n { freed with kpr := { freed.kpr with snow := some ⟨2, 0⟩, cycles := l } }
    let n := msU 10000
    after .snowploughWaitExpiry (s (n - 1) []) = s (n - 1) [] ∧ (after .snowploughWaitExpiry (s n [1, 2])).kpr.cycles = [1, 2, n] ∧
    (after .snowploughWaitExpiry (s n [1, 2, 3])).kpr.latched = true ∧ (after .snowploughWaitExpiry (s n [])).ldg.closeCause = 4 := by decide +kernel
/-- A control core that double-faults is held; the others' is no row of the Keeper's. -/
theorem test_double_fault :
    let s := (logged freed).setCore 3 { coreReset 3 with mode := .dfault }
    let t := after (.coreDoubleFault 3) s
    s.held 3 = false ∧ t.held 3 = true ∧ (∃ p ∈ t.fabric, p.line = 58) ∧ t.kpr.nextMsg = s.kpr.nextMsg + 1 ∧ after (.coreDoubleFault 2) s = s := by decide +kernel
theorem test_all_held :
    let s (n : Nat) : State := clockAt n { State.reset with kpr := { State.reset.kpr with heldAt := some 0 } }
    (s 0).held 0 = true ∧ (s 0).pstate = 0 ∧ after .allCoresHeldExpiry (s (msU 1000 - 1)) = s (msU 1000 - 1) ∧
    ((after .allCoresHeldExpiry (s (msU 1000))).pwr.entry.map (fun e => (e.target, e.by_, e.drain))) = some (5, 99, true) ∧
    after .trialRevert State.reset = State.reset ∧ (after .timeFloorWrite (timeAt t0 State.reset)).kpr.timeFloor = t0 / secU ∧
    after .timeFloorWrite State.reset = State.reset := by decide +kernel
theorem test_doorbell : let a : BitVec 64 := 7
    freed.judge 0 0x4000820FF8 8 = .go ∧ (after (.doorbellWrite 0 a) freed).rdLe 0x4000820FF8 8 = 7 ∧
    (after (.doorbellWrite 0 a) freed).fld F.KPR_STAT_DOORBELL = 1 ∧ (after (.doorbellWrite 0 a) freed).kpr.bellAt = some 0 := by decide +kernel
/-- R389, R391: a pass of wrong form is refused with a FAULT; a slot ends when its time has run out. -/
theorem test_passes :
    let s : State := { logged State.reset with kpr := { State.reset.kpr with check := some (7, 0, []) } }
    let p (n : Nat) : State := { ((timeAt t0 (logged freed)).setFld (F.PASS_SLOT_VALID 7) 1) with kpr := { freed.kpr with passes := [(7, ⟨1, 0, 0, 0, n, 0, 0⟩)] } }
    (s.passCode []).1 = .fault ∧ (after .passVerifyDone s).kpr.check = none ∧ (after .passVerifyDone s).fld F.PASS_CMD_STATUS = 0x11 ∧ after .passVerifyDone freed = freed ∧
    (after (.passSlotEnd 7) (p (t0 / secU))).fld (F.PASS_SLOT_VALID 7) = 0 ∧ after (.passSlotEnd 7) (p (t0 / secU + 1)) = p (t0 / secU + 1) ∧
    after (.passSlotEnd 6) (p 0) = p 0 := by decide +kernel

/-- R410: a serial command of two bytes written and two read at 0x4000003002. -/
theorem test_serial :
    let s (stop : Bool) : State := { freed with pin := { freed.pin with runs := [(2, some ⟨0x4000002000, 3, 0, 2, 2, 0x4000003000, stop⟩)] } }
    let t := after (.serialComplete 2 [0xAA, 0xBB] false 9) (s false)
    let u := after (.serialComplete 2 [0xAA, 0xBB] true 3) (s false)
    t.serRun 2 = none ∧ t.rdLe 0x400000200E 2 = 4 ∧ t.byte 0x4000003002 = 0xAA ∧ t.byte 0x4000003003 = 0xBB ∧ t.fld (F.PIN_SER_CMD_STATUS 2) = 0 ∧
    u.rdLe 0x400000200E 2 = 3 ∧ u.byte 0x4000003002 = 0xAA ∧ u.byte 0x4000003003 = 0 ∧ u.rdLe 0x4000002001 1 = Status.aborted.code ∧
    (after (.serialComplete 2 [1] false 0) (s true)).fld (F.PIN_SER_CMD_STATUS 2) = Status.aborted.code ∧ after (.serialComplete 0 [] false 0) freed = freed := by decide +kernel
theorem test_uart :
    let on := freed.setFld (F.PIN_SER_CFG_EN 1) 1
    let full : State := { on with pin := { on.pin with fifo := [(1, List.replicate 256 0)] } }
    (after (.uartByteRx 1 5 true) on).uartFifo 1 = [5] ∧ (after (.uartByteRx 1 5 false) on).fld (F.PIN_SER_RX_FRAMING 1) = 1 ∧
    (after (.uartByteRx 1 5 true) full).fld (F.PIN_SER_RX_OVERRUN 1) = 1 ∧ after (.uartByteRx 1 5 true) freed = freed := by decide +kernel
theorem test_gpio : let s := (freed.setReg R.PIN_GPIO_OE 1).setReg R.PIN_GPIO_OUT 1
    (after (.gpioSample 0x80000000) { s with pin := { s.pin with ir := 0xFF } }).reg R.PIN_GPIO_IN = 0x80000001 ∧
    (after (.gpioSample 0) { s with pin := { s.pin with ir := 0, scanOut := 6 } }).reg R.PIN_GPIO_IN = 6 ∧
    (after (.gpioSample 0x80000000) { s with pin := { s.pin with ir := 0xFF } }).reg R.PIN_GPIO_EDGE = 0x80000001 := by decide +kernel
theorem test_debug_port : let h := freed.setFld F.KPR_STAT_HOLD 1
    (after .idcode freed).pin.ir = 1 ∧ (after (.bypass 0x55) freed).pin.ir = 0xFF ∧ after (.bypass 0x02) freed = freed ∧ (after (.iblekDebug 23 true) freed).pin.ir = 0xFF ∧
    (after (.iblekDebug 23 true) h).pin.ir = 0x20 ∧ ((after (.iblekDebug 23 true) h).core 23).haltOnBreak = true ∧ freed.ready = false ∧ (after .extest freed).pin.ir = 0 ∧
    (after (.samplePreload 9) freed).pin.scanOut = 9 := by decide +kernel

/-! ## Stalled, taped and shadow accesses (chapter 02) -/

/-- PD_RS (13) asleep: powered down with its permit. -/
def asleep13 : State := freed.setFld F.PWR_DOMAINS_ON 0x1DFFF
theorem test_stall :
    let a := R.SE_WAIT_LIMIT 0
    asleep13.asleep 13 = true ∧ asleep13.judge 0 a 4 = .stall ∧ asleep13.judge 20 a 4 = .fail .domainOff ∧
    (after (.registerWrite 0 waitLimit 9) asleep13).bus.stalled = [⟨0, a, 4, some 9, 0, .plain, a⟩] ∧
    (after (.registerWrite 0 waitLimit 9) asleep13).regs = asleep13.regs := by decide +kernel
theorem test_stall_end : let s : State := { freed.wrLe 0x1000 8 77 with bus := { freed.bus with stalled := [⟨5, 0x1000, 8, none, 0, .plain, 0x1000⟩] } }
    s.asleep (domainOf 0x1000) = false ∧ s.judge 5 0x1000 8 = .go ∧ s.inCodes 0x1000 = false ∧ s.wrongBits 0x1000 = 0 ∧
    (after (.accessStallEnd 5) s).bus.stalled = [] ∧ (after (.accessStallEnd 5) s).bus.resp = some ⟨5, 0, 77⟩ := by decide +kernel
/-- Core 3 with tag M. -/
def maker : State := (((freed.setFld (F.PASS_SLOT_VALID 0) 1).setFld (F.PASS_SLOT_CORE 0) 3).setFld (F.PASS_SLOT_RIGHTS 0) 255).setFld (F.PASS_SLOT_ROLE 0) 2
def regionPlace : RegPlace := ⟨17, 0, false, 4⟩
def regionSpec : RegSpec := ⟨"REG_REGION", 4, 1, 0, 1, 0, false, [⟨"ENABLED", 7, 4, .rw, 0, .nv, 4⟩, ⟨"PROFILE", 1, 0, .rw, 0, .nv, 6⟩]⟩
/-- Hypotheses of RegisterCommandsReachTheirRegister for a write that the tap records. -/
theorem witness_taped : maker.Allows 3 R.REG_REGION 0x10 regionPlace regionSpec 0 ∧ maker.taped 3 regionPlace regionSpec 0 0x10 ∧ maker.tap.length < 64 :=
  ⟨⟨by decide +kernel, rfl, ⟨0, by decide +kernel⟩, by decide +kernel, (fun _ hy => nomatch hy), by decide +kernel⟩, ⟨Or.inr (by decide +kernel), by decide +kernel⟩, by decide +kernel⟩
theorem test_tape : (after (.registerWrite 3 (BitVec.ofNat 40 R.REG_REGION) 0x10) maker).tap.map (fun e => (e.req, e.role)) = [(3, 2)] := by decide +kernel
/-- The shadow view of SE_CFG: ENTRY is an RWS field that O may write. -/
theorem test_shadow_write : let a : BitVec 40 := BitVec.ofNat 40 (blockAddr 4 0 + 0x810)
    let s := freed.setFld (fnState 4 0 0) 2
    locate a.toNat = some ⟨4, 0, true, 0x10⟩ ∧ s.role 0 = 0 ∧ s.judge 0 a.toNat 4 = .go ∧
    (after (.shadowWrite 0 a 0xFFFFFFFF) s).shw (blockAddr 4 0 + 0x10) = 0x3FFC ∧ (after (.shadowWrite 0 a 0xFFFFFFFF) s).regs = s.regs := by decide +kernel

/-! ## Words of chapter 04, and the hypotheses of the later statements -/

/-- Words written out from the tables of chapter 04: ADDI g5,g2,-16, BNE, TAKE, FENCE and NOP of the spec's own examples, then one word
by hand for each further format; 0, all ones and a CLZ with rb not 0 are no instruction's. -/
theorem test_words :
    decodeIblek 0 0x08A2FFF0 = some (.addi 0 5 2 (-16)) ∧ decodeIblek 0 0x44A0FFFD = some (.bne 0 5 0 (-3)) ∧
    decodeIblek 0 0xBC008011 = some (.fence 0 1 1) ∧ decodeIblek 0 0x08000000 = some (.addi 0 0 0 0) ∧
    decodeIblek 4 0b000001_00001_00010_00011_00000000000 = some (.add 4 1 2 3) ∧ decodeIblek 4 0b000001_00001_00010_00000_00000011100 = some (.clz 4 1 2) ∧
    decodeIblek 4 0b000001_00001_00010_00001_00000011100 = none ∧ decodeIblek 4 0b001010_00001_000000000000000000111 = some (.lui 4 1 7) ∧
    decodeIblek 4 0b101000_00001_00010_00011_0000_1_1_0_0000 = some (.lr 4 1 2 true true false) ∧
    decodeIblek 4 0b110000_00001_00010_00011_0000000_1_111 = some (.fadd 4 1 2 3 true 7) ∧
    decodeIblek 4 0b110001_00001_00010_00011_00100_000_1_00 = some (.fmadd 4 1 2 3 4 true 0) ∧
    decodeIblek 4 0b101111_00001_00010_0000_000000000011 = some (.srswap 4 1 2 3) ∧
    decodeIblek 20 0b111000_00011_00000_00000_000_00000010 = some (.ntrd 20 3 2) ∧ decodeIblek 20 0b111001_00011_00100_00000_000_00000000 = some (.wdDone 20 3 4) ∧
    decodeIblek 0 0b111011_00001_00010_00011_000_00000101 = some (.svc 0 1 2 3 5) ∧ decodeIblek 0 0 = none ∧ decodeIblek 0 0xFFFFFFFF = none := by
  decide +kernel
theorem test_take_word : decodeIblek 0 0xE8800011 = some (.lckTake 0 4 17) := by decide +kernel
theorem test_illegal_word : decodeIblek 0 0xFFFFFFFF = none ∧
    ∃ t, execWord 0 0xFFFFFFFF (coreAt 0 []) = .next t ∧ (t.core 0).eaddr = 0xFFFFFFFF := ⟨by decide +kernel, _, rfl, by decide +kernel⟩

/-- Where no word has a wrong bit, no region carries codes and DRAM is on, no access fails. -/
theorem sound_of {s : State} (hr : s.arrays.regions = []) (hf : s.arrays.flips = []) (hm : s.fnOn 24 0 0 = true) (a n : Nat) :
    s.Sound a n := by
  intro b _ _
  simp [State.shut, State.inCodes, State.eccRegion, State.memOff, State.wrongBits, SMap.get, hr, hf, hm]
theorem witness_sound (a n : Nat) : freed.Sound a n := sound_of rfl rfl (by decide +kernel) a n
theorem good_of {s : State} (hw : s.ldg.wrong = []) (hs : s.ldg.sectors = []) : s.StoreGood :=
  ⟨by simp [hw], fun k => by simp [hs, SMap.get]⟩

/-- A ledger request by a requester with a role tag. -/
def ledgerAs (req role : Nat) (d : List Byte) : State :=
  { ledger req d with arb := { (ledger req d).arb with reqs := [{ request 1 d .granted with req := req, role := role }] } }
def ledgerCode (s : State) (op : Nat) : Option Status := (s.ldgGranted op).map (fun q => s.ldgCode q.req q.role (ldgCmd q.desc))
theorem witness_store_read : ∃ q, (ledger 0 (ldgDesc 1 0 0 0 0x14FFFF8 0 outAt 8)).LdgReady 1 q ∧
    (ledger 0 (ldgDesc 1 0 0 0 0x14FFFF8 0 outAt 8)).DstFree q 8 := by
  refine ⟨{ request 1 (ldgDesc 1 0 0 0 0x14FFFF8 0 outAt 8) .granted with req := 0 },
    ⟨by decide +kernel, by decide +kernel, by decide, good_of rfl rfl, sound_of rfl rfl (by decide +kernel) _ _⟩,
    sound_of rfl rfl (by decide +kernel) _ _, by decide +kernel⟩
/-- The other commands of the ledger, each with a descriptor whose code is OK, at an end of its range. -/
theorem witness_ledger_codes :
    ledgerCode (ledger 0 (ldgDesc 2 0 0 0 0x14FFF40 0x4000002000 0 192)) 2 = some .ok ∧
    ledgerCode (ledger 0 (ldgDesc 3 0 262143 0 0 0 outAt 512)) 3 = some .ok ∧
    ledgerCode (ledger 0 (ldgDesc 4 0 262143 0 0 0x4000002000 0 0)) 4 = some .ok ∧
    ledgerCode (ledger 0 (ldgDesc 5 0 262143 0 0 0 0 0)) 5 = some .ok ∧
    ledgerCode (ledgerAs 0 1 (ldgDesc 6 0 262144 0 0 0 outAt 128)) 6 = some .ok ∧
    ledgerCode (ledger 23 (ldgDesc 8 1 0 0 0 0 0 0)) 8 = some .ok ∧
    ledgerCode (ledger 23 (ldgDesc 9 1 16383 0 0 0x4000002000 0 0)) 9 = some .ok ∧
    ledgerCode (ledger 0 (ldgDesc 10 1 16383 0 0 0 outAt 4096)) 10 = some .ok ∧
    ledgerCode (ledger 23 (ldgDesc 11 0 0 0 0 0x4000002000 0 65536)) 11 = some .ok ∧
    ledgerCode (ledger 23 (ldgDesc 13 0 0 0 0 0x4000800000 0 0)) 13 = some .ok ∧
    ledgerCode (ledger 23 (ldgDesc 15 1 0 0 0x1FFF40 0x4000002000 0 192)) 15 = some .ok ∧
    ledgerCode (ledger 23 (ldgDesc 16 0 0 0 0x7FFF8 0 outAt 8)) 16 = some .ok := by decide +kernel
theorem witness_cal_and_audit_read :
    let c : State := let e := ledger 0 (ldgDesc 12 0 4 0 0 0 outAt 8); { e with ldg := { e.ldg with calRecs := [(4, 0, 8)] } }
    let a := (ledger 0 (ldgDesc 14 0 7 0 0 0 outAt 64)).setFld F.LDG_AUDNEXT_NEXT 8
    ledgerCode c 12 = some .ok ∧ ledgerCode a 14 = some .ok ∧ ledgerCode (a.setFld F.LDG_AUDNEXT_NEXT 7) 14 = some .fault := by decide +kernel
/-- A full journal, and a store with no free page. -/
theorem witness_ledger_full :
    let s := ledger 0 (ldgDesc 2 0 0 0 0 0x4000002000 0 8)
    let full : State := { s with ldg := { s.ldg with ring := [⟨0, 0, ringUnits, [], false, .plain, 0x4A, 30⟩], head := 0, tail := 0 } }
    s.jfill + 16 ≤ ringUnits ∧ ringUnits ≤ full.jfill ∧ ledgerCode full 2 = some .ok ∧ s.roomFor 16 = true ∧
    ((filling 63 freed).allocPage).isSome = true := by decide +kernel
/-- An image of no record, with its digest. -/
def emptyImage : List Byte :=
  let b : List Byte := [0x48, 1] ++ List.replicate 62 0
  b ++ sha256 b ++ List.replicate 32 0
theorem witness_import_image : let s := (ledgerAs 0 1 (ldgDesc 7 0 0 0 0 0x4000002000 0 128)).put 0x4000002000 emptyImage
    ledgerCode s 7 = some .ok ∧ s.ldg.indexRebuild = false ∧ s.handCount emptyImage = 0 := by decide +kernel

theorem asked_open : ∀ op ∈ kOps,
    let s := asked 3 op 0 0
    s.kpr.snow = none ∧ s.isOff = false ∧ s.fld F.KPR_STAT_HOLD = 0 ∧ s.rdLe (slotAt 3 + 2) 1 < 128 ∧ s.fnOn 24 0 0 = true ∧
    s.arrays.regions = [] ∧ s.arrays.flips = [] := by decide +kernel
/-- Request slot 3 of the Keeper stands open with each of its operations. -/
theorem witness_kopen (op : Nat) (h : op ∈ kOps) : (asked 3 op 0 0).KOpen 3 op :=
  let ⟨h1, h2, h3, h4, h5, h6, h7⟩ := asked_open op h
  ⟨Or.inl (by decide), h1, h2, Or.inl h3, h4, sound_of h6 h7 h5 _ _⟩
theorem witness_kready : (asked 3 0x02 0 0).KReady 3 0x02 :=
  { witness_kopen 0x02 (by decide) with
    asked := by decide +kernel, fault := by decide +kernel, allowed := by decide +kernel, free := by decide +kernel }
/-- With a pass that gives every right, each operation passes codes 1 to 3 (witness_keeper_rights); here the store is armed and calm. -/
theorem witness_keys :
    let s : State := { asked 3 0x20 1 1 with cph := { freed.cph with kek := some 1, slots := [(4095, some (keyOf 1 4))] } }
    s.fld F.KST_STAT_BUSY = 0 ∧ s.armed = true ∧ s.slotKey 4095 = some (keyOf 1 4) ∧ (keyOf 1 4).plain.length ≤ 40 ∧
    s.fld F.KST_ALARM_ACTIVE = 0 ∧ s.fld F.KST_ALARM_LATCHED = 0 ∧ freed.armed = false := by decide +kernel
/-- A change asks the power die for its rails, is aborted where that is not enabled, and completes once they are acknowledged (R361, R366);
a snowplough's request takes the bus from another's (R367); a detach asked for meanwhile begins as the change ends (R372). -/
theorem test_rails :
    let s (en : Nat) : State := (State.reset.setFld (F.SUP_DEV_EN 0) en).setPwr { State.reset.pwr with entry := some ⟨1, 5, 0, 0, [], true, 0, 0⟩ }
    let w : State := (State.reset.setPwr { State.reset.pwr with entry := some ⟨1, 5, 0, 0, [], true, 0, 1⟩ }).setSup [supply none 4 0 true false]
    let up : State := w.setSup [{ supply none 4 0 true false with level := 17 }]
    (s 1).drained ⟨1, 5, 0, 0, [], true, 0, 0⟩ = true ∧ (after .powerEntryComplete (s 1)).sup.map (fun q => (q.dev, q.level)) = [(4, 17)] ∧
    (after .powerEntryComplete (s 1)).pwr.entry.map (fun e => e.rail) = some 1 ∧ (after .powerEntryComplete (s 0)).fld F.PWR_REFUSE_ENTRY = 32 ∧
    (after .powerEntryComplete (s 0)).pwr.entry = none ∧ after .powerEntryComplete w = w ∧ up.onBus.isSome = true ∧
    (after .supplyAck up).pwr.entry.map (fun e => e.rail) = some 2 ∧ (after .supplyAck up).sup = [] := by decide +kernel
theorem test_preempt :
    let s : State := supplies [supply none 1 t0 true false, supply none 2 t0 false true]
    s.onBus.map (fun q => q.snow) = some false ∧ (after .supplyTransactionStart s).onBus.map (fun q => q.snow) = some true := by decide +kernel
theorem test_detach_due :
    let s : State := let e := entering 1 true State.reset; e.setPwr { e.pwr with detachDue := true }
    s.kpr.snow = none ∧ s.pwr.flushing = false ∧ (after .powerEntryComplete s).fld F.PWR_STAT_DETACH = 1 ∧
    (after .powerEntryComplete s).pwr.detach.isSome = true ∧ (after .powerEntryComplete s).pstate = 1 := by decide +kernel
/-- An image of one valid context of handle 5, with its digest. -/
def oneImage : List Byte :=
  let c : List Byte := leBytes 4 9 ++ List.replicate 56 0 ++ [1, 0, 0, 0]
  let b : List Byte := [0x48, 1, 0, 0] ++ leBytes 4 1 ++ leBytes 4 5 ++ List.replicate 52 0 ++ c ++ List.replicate 448 0
  b ++ sha256 b ++ List.replicate 32 0
theorem witness_import_one : handOk oneImage = true ∧ cxGet oneImage 4 4 = 1 ∧ freed.handVerdict 5 (handRec oneImage 0) = some true ∧
    freed.handCount oneImage = 1 ∧ (freed.sidPlace (cxSid (handRec oneImage 0)) 5).isSome = true ∧ freed.roomFor 2 = true := by decide +kernel
/-- R271: the endpoint's identity while PD_SRD has power. -/
theorem test_host_id : State.reset.hostId.map Prod.snd = some 0x3048 ∧ (State.reset.setFld F.PWR_DOMAINS_ON 1).hostId = none := by decide +kernel

end
end Sys2Proof.Tests
end

section
/-!
SUPPORT. What one pass over the fields of a register does to each field, and the four passes of a register access (R13, R46).
-/
namespace Sys2Proof.Machine

/-! ## A pass over fields that do not overlap -/

theorem getBits_lt (w : Word) (msb lsb : Nat) : getBits w msb lsb < 2 ^ (msb + 1 - lsb) :=
  Nat.mod_lt _ (Nat.two_pow_pos _)

/-- A field reads as set to a value of its width. -/
theorem getBits_setBits_of_lt (w : Word) {msb lsb x : Nat} (hm : msb ≤ 31) (hx : x < 2 ^ (msb + 1 - lsb)) :
    getBits (setBits w msb lsb x) msb lsb = x := by
  rw [getBits_setBits_same w x hm, Nat.mod_eq_of_lt hx]

/-- Two fields share no bit. -/
abbrev FieldSpec.Apart (x y : FieldSpec) : Prop := x.msb < y.lsb ∨ y.msb < x.lsb

/-- A step of a pass over fields changes no bits outside the field that it is given. -/
def StaysInField (step : Word → FieldSpec → Word) : Prop :=
  ∀ (w : Word) (g : FieldSpec) (m l : Nat), g.msb ≤ 31 → m < g.lsb ∨ g.msb < l → getBits (step w g) m l = getBits w m l

/-- A pass leaves bits alone that none of its fields holds. -/
theorem StaysInField.foldl_other {step : Word → FieldSpec → Word} (hs : StaysInField step) {fs : List FieldSpec} {m l : Nat}
    (hin : ∀ g ∈ fs, g.msb ≤ 31) (hd : ∀ g ∈ fs, m < g.lsb ∨ g.msb < l) (w : Word) :
    getBits (fs.foldl step w) m l = getBits w m l := by
  induction fs generalizing w with
  | nil => rfl
  | cons g fs ih =>
    simp only [List.forall_mem_cons] at hin hd
    rw [List.foldl_cons, ih hin.2 hd.2, hs w g m l hin.1 hd.1]

/-- A field of a pass over fields that do not overlap is changed once, by its own step, at a word that still shows it as it was. -/
theorem StaysInField.foldl_mem {step : Word → FieldSpec → Word} (hs : StaysInField step) {fs : List FieldSpec} {f : FieldSpec}
    (hp : fs.Pairwise FieldSpec.Apart) (hin : ∀ g ∈ fs, g.msb ≤ 31) (hf : f ∈ fs) (w : Word) :
    ∃ u, getBits u f.msb f.lsb = getBits w f.msb f.lsb ∧
      getBits (fs.foldl step w) f.msb f.lsb = getBits (step u f) f.msb f.lsb := by
  induction fs generalizing w with
  | nil => nomatch hf
  | cons g fs ih =>
    rw [List.pairwise_cons] at hp
    simp only [List.forall_mem_cons] at hin
    rcases List.mem_cons.mp hf with rfl | hf
    · exact ⟨w, rfl, hs.foldl_other hin.2 hp.1 _⟩
    · obtain ⟨u, hu, hfold⟩ := ih hp.2 hin.2 hf (step w g)
      exact ⟨u, hu.trans (hs w g _ _ hin.1 (hp.1 f hf).symm), hfold⟩

/-! ## The steps of the four passes -/

/-- What a write of new in the active view makes of a field's value, by the field's type (R13). -/
def FTy.written (ty : FTy) (was new : Nat) : Nat :=
  match ty with
  | .rw => new
  | .w1c => was - (was &&& new)
  | .w1s => was ||| new
  | .ro | .wo | .rc | .rws => was

/-- A written value fits the field's width. -/
theorem FTy.written_lt (ty : FTy) {was new n : Nat} (hwas : was < 2 ^ n) (hnew : new < 2 ^ n) : ty.written was new < 2 ^ n := by
  cases ty with
  | rw => exact hnew
  | w1c => exact Nat.lt_of_le_of_lt (Nat.sub_le _ _) hwas
  | w1s => exact Nat.or_lt_two_pow hwas hnew
  | ro | wo | rc | rws => exact hwas

/-- What applyActive does for one field. -/
def activeStep (v w : Word) (f : FieldSpec) : Word :=
  match f.ty with
  | .rw => setBits w f.msb f.lsb (getBits v f.msb f.lsb)
  | .w1c => setBits w f.msb f.lsb (getBits w f.msb f.lsb - (getBits w f.msb f.lsb &&& getBits v f.msb f.lsb))
  | .w1s => setBits w f.msb f.lsb (getBits w f.msb f.lsb ||| getBits v f.msb f.lsb)
  | .ro | .wo | .rc | .rws => w

/-- What a pass over the fields of one type does for one field: set it to a value of its own. -/
def typeStep (ty : FTy) (x : FieldSpec → Nat) (w : Word) (f : FieldSpec) : Word :=
  if f.ty = ty then setBits w f.msb f.lsb (x f) else w

theorem applyActive_eq (r : RegSpec) (cur v : Word) : applyActive r cur v = r.fields.foldl (activeStep v) cur := rfl

theorem applyShadow_eq (r : RegSpec) (shw v : Word) :
    applyShadow r shw v = r.fields.foldl (typeStep .rws fun f => getBits v f.msb f.lsb) shw := rfl

theorem readActive_eq (r : RegSpec) (cur : Word) : readActive r cur = r.fields.foldl (typeStep .wo fun _ => 0) cur := rfl

theorem clearRc_eq (r : RegSpec) (cur : Word) : clearRc r cur = r.fields.foldl (typeStep .rc fun _ => 0) cur := rfl

theorem staysInField_activeStep (v : Word) : StaysInField (activeStep v) := by
  intro w g m l hg hd
  cases h : g.ty <;> simp only [activeStep, h, getBits_setBits_other w _ hg hd]

theorem staysInField_typeStep (ty : FTy) (x : FieldSpec → Nat) : StaysInField (typeStep ty x) := by
  intro w g m l hg hd
  by_cases h : g.ty = ty
  · rw [typeStep, if_pos h, getBits_setBits_other w _ hg hd]
  · rw [typeStep, if_neg h]

/-- The field of one step of applyActive, by its type. -/
theorem getBits_activeStep (v w : Word) {f : FieldSpec} (hf : f.msb ≤ 31) :
    getBits (activeStep v w f) f.msb f.lsb =
      f.ty.written (getBits w f.msb f.lsb) (getBits v f.msb f.lsb) := by
  have hlt := f.ty.written_lt (getBits_lt w f.msb f.lsb) (getBits_lt v f.msb f.lsb)
  cases h : f.ty <;> rw [h] at hlt <;> simp only [activeStep, h]
  case rw | w1c | w1s => exact getBits_setBits_of_lt w hf hlt
  case ro | wo | rc | rws => rfl

/-- The field of one step of a pass over one type. -/
theorem getBits_typeStep (ty : FTy) (x : FieldSpec → Nat) (w : Word) {f : FieldSpec} (hf : f.msb ≤ 31)
    (hx : x f < 2 ^ (f.msb + 1 - f.lsb)) :
    getBits (typeStep ty x w f) f.msb f.lsb = if f.ty = ty then x f else getBits w f.msb f.lsb := by
  by_cases h : f.ty = ty
  · rw [typeStep, if_pos h, if_pos h, getBits_setBits_of_lt w hf hx]
  · rw [typeStep, if_neg h, if_neg h]

/-- A pass over one type sets the fields of that type and leaves every other. -/
theorem getBits_foldl_typeStep (ty : FTy) (x : FieldSpec → Nat) {fs : List FieldSpec} {f : FieldSpec}
    (hp : fs.Pairwise FieldSpec.Apart) (hin : ∀ g ∈ fs, g.msb ≤ 31) (hf : f ∈ fs)
    (hx : x f < 2 ^ (f.msb + 1 - f.lsb)) (w : Word) :
    getBits (fs.foldl (typeStep ty x) w) f.msb f.lsb = if f.ty = ty then x f else getBits w f.msb f.lsb := by
  obtain ⟨u, hu, hfold⟩ := (staysInField_typeStep ty x).foldl_mem hp hin hf w
  rw [hfold, getBits_typeStep ty x u (hin f hf) hx, hu]

/-- A write in the active view acts on each field by its type (R13). -/
theorem getBits_applyActive {r : RegSpec} {f : FieldSpec} (hp : r.fields.Pairwise FieldSpec.Apart)
    (hin : ∀ g ∈ r.fields, g.msb ≤ 31) (hf : f ∈ r.fields) (cur v : Word) :
    getBits (applyActive r cur v) f.msb f.lsb =
      f.ty.written (getBits cur f.msb f.lsb) (getBits v f.msb f.lsb) := by
  obtain ⟨u, hu, hfold⟩ := (staysInField_activeStep v).foldl_mem hp hin hf cur
  rw [applyActive_eq, hfold, getBits_activeStep v u (hin f hf), hu]

/-- A shadow write sets RWS fields alone (R13, R46). -/
theorem getBits_applyShadow {r : RegSpec} {f : FieldSpec} (hp : r.fields.Pairwise FieldSpec.Apart)
    (hin : ∀ g ∈ r.fields, g.msb ≤ 31) (hf : f ∈ r.fields) (shw v : Word) :
    getBits (applyShadow r shw v) f.msb f.lsb = if f.ty = .rws then getBits v f.msb f.lsb else getBits shw f.msb f.lsb := by
  rw [applyShadow_eq, getBits_foldl_typeStep .rws _ hp hin hf (getBits_lt v f.msb f.lsb)]

/-- A read shows WO fields as 0 (R13). -/
theorem getBits_readActive {r : RegSpec} {f : FieldSpec} (hp : r.fields.Pairwise FieldSpec.Apart)
    (hin : ∀ g ∈ r.fields, g.msb ≤ 31) (hf : f ∈ r.fields) (cur : Word) :
    getBits (readActive r cur) f.msb f.lsb = if f.ty = .wo then 0 else getBits cur f.msb f.lsb := by
  rw [readActive_eq, getBits_foldl_typeStep .wo _ hp hin hf (Nat.two_pow_pos _)]

/-- A read clears RC fields alone (R13). -/
theorem getBits_clearRc {r : RegSpec} {f : FieldSpec} (hp : r.fields.Pairwise FieldSpec.Apart)
    (hin : ∀ g ∈ r.fields, g.msb ≤ 31) (hf : f ∈ r.fields) (cur : Word) :
    getBits (clearRc r cur) f.msb f.lsb = if f.ty = .rc then 0 else getBits cur f.msb f.lsb := by
  rw [clearRc_eq, getBits_foldl_typeStep .rc _ hp hin hf (Nat.two_pow_pos _)]

/-- In every register of the map the fields share no bit and lie in 32 bits (R11, R12). -/
theorem mapEntries_fields_apart :
    ∀ e ∈ mapEntries, ∀ r ∈ e.regs, r.fields.Pairwise FieldSpec.Apart ∧
      ∀ x ∈ r.fields, x.lsb ≤ x.msb ∧ x.msb ≤ 31 := by decide +kernel

/-- Settles O35: each of the four passes changes a field once, by the field's own step; the map's registers are checked one by one. -/
theorem registerFieldsActByType : Obligations.RegisterFieldsActByType := by
  refine ⟨fun r cur v f hp hfit hf => ?_, mapEntries_fields_apart⟩
  have hin : ∀ g ∈ r.fields, g.msb ≤ 31 := fun g hg => (hfit g hg).2
  exact ⟨getBits_applyActive hp hin hf cur v, getBits_applyShadow hp hin hf cur v, getBits_readActive hp hin hf cur,
    getBits_clearRc hp hin hf cur⟩

end Sys2Proof.Machine
end

section
/-!
SUPPORT. A row that is one register access, from the access outcomes of Table 02-9 to the answer (R13, R41, R43, R384).
-/
namespace Sys2Proof.Machine

/-! ## Commands that are one register access -/

/-- A row that is one register access runs it: row by row, regRow names the access that the row's meaning makes. -/
theorem exec_of_regRow {i : Instr} {s : State} {req a : Nat} {w : Option Word} (h : regRow s i = some (req, a, w)) :
    exec i s = .next (s.busAccess req a w) := by
  cases i <;> cases h <;> rfl

/-! ## What marking an access to a domain leaves (R363) -/

@[simp] theorem State.role_touchDomain (s : State) (d req : Nat) : (s.touchDomain d).role req = s.role req := rfl

@[simp] theorem State.liveWord_touchDomain (s : State) (d : Nat) (p : RegPlace) (r : RegSpec) (k : Nat) :
    (s.touchDomain d).liveWord p r k = s.liveWord p r k := rfl

@[simp] theorem State.shw_touchDomain (s : State) (d a : Nat) : (s.touchDomain d).shw a = s.shw a := rfl

@[simp] theorem State.taped_touchDomain (s : State) (d req : Nat) (p : RegPlace) (r : RegSpec) (k : Nat) (v : Word) :
    (s.touchDomain d).taped req p r k v ↔ s.taped req p r k v := by
  simp [State.taped]

/-! ## Shadow words -/

theorem State.shw_setShw (s : State) (a b : Nat) (w : Word) : (s.setShw a w).shw b = if b = a then w else s.shw b :=
  SMap.get_set s.shadow a b w

/-! ## A write that reached its block (Order 5 of Table 02-9, R384) -/

/-- The condition under which regWrite records a write is taped's. -/
theorem State.taped_iff (s : State) (req : Nat) (p : RegPlace) (r : RegSpec) (k : Nat) (v : Word) :
    s.taped req p r k v ↔ ((s.role req == 1 || s.role req == 2) &&
      usesHigherRight p r (s.liveWord p r k) (s.shw (blockAddr p.entry p.inst + p.off)) v) = true := by
  simp [State.taped]

/-- An allowed write in the active view that the tap does not record. -/
theorem State.regWrite_untaped {s : State} {req : Nat} {p : RegPlace} {r : RegSpec} {k j : Nat} {v : Word}
    (hr : regAt p = some (r, k, j)) (hp : p.shadow = false)
    (hok : rightsOk p r (s.role req) (s.liveWord p r k) (s.shw (blockAddr p.entry p.inst + p.off)) v = true)
    (ht : ¬ s.taped req p r k v) : s.regWrite req p v = (s.regApply req p r k v, .ok 0) := by
  rw [State.taped_iff, Bool.not_eq_true] at ht
  simp [State.regWrite, hr, hp, hok, ht]

/-- An allowed write in the active view that a tap with room records. -/
theorem State.regWrite_taped {s : State} {req : Nat} {p : RegPlace} {r : RegSpec} {k j : Nat} {v : Word}
    (hr : regAt p = some (r, k, j)) (hp : p.shadow = false)
    (hok : rightsOk p r (s.role req) (s.liveWord p r k) (s.shw (blockAddr p.entry p.inst + p.off)) v = true)
    (ht : s.taped req p r k v) (hroom : s.tap.length < 64) :
    s.regWrite req p v =
      ((s.tapWrite req (s.role req) p.entry p.inst p.off v.toNat).regApply req p r k v, .ok 0) := by
  rw [State.taped_iff] at ht
  have hfull : tapFull s = false := decide_eq_false (by omega)
  simp [State.regWrite, hr, hp, hok, ht, hfull]

/-- The fields of a register that a write in the shadow view acts on (R46). -/
abbrev RegSpec.rwsOnly (r : RegSpec) : RegSpec := { r with fields := r.fields.filter (fun f => f.ty == .rws) }

/-- A requester that may write every RWS field of a register may make any write in its shadow view. -/
theorem rightsOk_rwsOnly {p : RegPlace} {r : RegSpec} {role : Nat}
    (h : ∀ f ∈ r.fields, f.ty = .rws → hasRight (rightsOf p r.rwsOnly f) role = true) (cur shw v : Word) :
    rightsOk p r.rwsOnly role cur shw v = true := by
  simp only [rightsOk, List.all_eq_true, List.mem_filter, beq_iff_eq]
  rintro f ⟨hf, hty⟩
  rw [h f hf hty, Bool.or_true]

/-- An allowed write in the shadow view by a requester whose writes the tap leaves out. -/
theorem State.regWrite_shadow {s : State} {req : Nat} {p : RegPlace} {r : RegSpec} {k j : Nat} {v : Word}
    (hr : regAt p = some (r, k, j)) (hp : p.shadow = true) (h1 : s.role req ≠ 1) (h2 : s.role req ≠ 2)
    (hok : ∀ f ∈ r.fields, f.ty = .rws → hasRight (rightsOf p r.rwsOnly f) (s.role req) = true) :
    s.regWrite req p v =
      (let a := blockAddr p.entry p.inst + p.off
       s.setShw a (applyShadow r.rwsOnly (s.shw a) v), .ok 0) := by
  have hrights := rightsOk_rwsOnly hok
  simp [State.regWrite, hr, hp, hrights, h1, h2]

/-! ## The whole access (Table 02-9) -/

/-- A located address lies below the end of the register range. -/
theorem locate_lt_regEnd {a : Nat} {p : RegPlace} (h : locate a = some p) : a < regEnd := by
  by_contra hge
  simp [locate, Nat.not_lt.mp hge] at h

/-- The words of the host's MSI-X table lie above every register (Table 11-14). -/
theorem msixAt_of_lt_regEnd {a : Nat} (req : Nat) (h : a < regEnd) : msixAt req a = none := by
  unfold regEnd at h
  exact if_neg (by omega)

/-- No earlier access of its requester holds up an access that is in order. -/
theorem State.behind_of_inOrder {s : State} {x : Stalled} {p : RegPlace} (hp : locate x.addr = some p) (h : s.InOrder x.req p) :
    s.behind x = false := by
  simp only [State.behind, hp, List.any_eq_false, Bool.and_eq_true, beq_iff_eq, Option.any_eq_true]
  rintro y hy ⟨hreq, q, hq, hsame⟩
  exact h y hy hreq q hq hsame

/-- An access to a register is the bus's alone, and one that ends done is answered OK with its value. -/
theorem State.plainAccess_of_ok {s t : State} {x : Stalled} {p : RegPlace} {u : Nat} (hp : locate x.addr = some p)
    (h : s.access x = (t, .ok u)) : s.plainAccess x = t.answer x.req .ok u := by
  have hlt := locate_lt_regEnd hp
  have hpba : x.addr ≠ 0x80003F8000 := by unfold regEnd at hlt; omega
  simp [State.plainAccess, msixAt_of_lt_regEnd x.req hlt, hpba, h]

/-- A write of a register that is judged to go on, in order, and ends done. -/
theorem State.busWrite_of_ok {s t : State} {req a : Nat} {v : Word} {p : RegPlace} (hp : locate a = some p)
    (hgo : s.judge req a 4 = .go) (hfirst : s.InOrder req p)
    (h : (s.touchDomain (domainOf a)).regWrite req p v = (t, .ok 0)) : s.busWrite req a v = t.answer req .ok 0 := by
  refine State.plainAccess_of_ok hp ?_
  simp [State.access, State.behind_of_inOrder (x := ⟨req, a, 4, some v.toNat, 0, .plain, a⟩) hp hfirst, hgo, hp, w32, h]

/-- A read of a register in the active view that is judged to go on, in order. -/
theorem State.busRead_of_go {s : State} {req a : Nat} {p : RegPlace} (hp : locate a = some p) (hsh : p.shadow = false)
    (hgo : s.judge req a 4 = .go) (hfirst : s.InOrder req p) :
    let t := (s.touchDomain (domainOf a)).regRead req p
    s.busRead req a = t.1.answer req .ok t.2.toNat := by
  refine State.plainAccess_of_ok hp ?_
  simp [State.access, State.behind_of_inOrder (x := ⟨req, a, 4, none, 0, .plain, a⟩) hp hfirst, hgo, hp, hsh]

/-- A row that is an allowed write which the tap does not record. -/
theorem State.Allows.exec_untaped {i : Instr} {s : State} {req a : Nat} {v : Word} {p : RegPlace} {r : RegSpec} {k : Nat}
    (hi : regRow s i = some (req, a, some v)) (h : s.Allows req a v p r k) (ht : ¬ s.taped req p r k v) :
    exec i s = .next (((s.touchDomain (domainOf a)).regApply req p r k v).answer req .ok 0) := by
  obtain ⟨j, hr⟩ := h.reg
  rw [exec_of_regRow hi]
  exact congrArg _ (State.busWrite_of_ok h.place h.go h.first (State.regWrite_untaped hr h.active h.rights (by simpa using ht)))

/-- A row that is an allowed write which a tap with room records. -/
theorem State.Allows.exec_taped {i : Instr} {s : State} {req a : Nat} {v : Word} {p : RegPlace} {r : RegSpec} {k : Nat}
    (hi : regRow s i = some (req, a, some v)) (h : s.Allows req a v p r k) (ht : s.taped req p r k v) (hroom : s.tap.length < 64) :
    exec i s = .next ((((s.touchDomain (domainOf a)).tapWrite req (s.role req) p.entry p.inst p.off v.toNat).regApply req p r k
      v).answer req .ok 0) := by
  obtain ⟨j, hr⟩ := h.reg
  rw [exec_of_regRow hi]
  exact congrArg _ (State.busWrite_of_ok h.place h.go h.first (State.regWrite_taped hr h.active h.rights (by simpa using ht) hroom))

/-- Settles O34: a register row is one bus access, which in order and judged to go on is the block's regWrite or regRead. -/
theorem registerCommandsReachTheirRegister : Obligations.RegisterCommandsReachTheirRegister := by
  refine fun i s req a => ⟨fun v p r k hi h => ⟨h.exec_untaped hi, h.exec_taped hi⟩, fun p hi hp hsh hgo hfirst => ?read,
    fun v p r k j hi hp hsh hr hgo hfirst h1 h2 hok => ?shadow⟩
  case read =>
    rw [exec_of_regRow hi]
    exact congrArg _ (State.busRead_of_go hp hsh hgo hfirst)
  case shadow =>
    have hw := State.regWrite_shadow (s := s.touchDomain (domainOf a)) (v := v) hr hsh h1 h2 hok
    refine ⟨_, (exec_of_regRow hi).trans (congrArg _ (State.busWrite_of_ok hp hgo hfirst hw)), rfl, rfl, fun b hb => ?_, ?_⟩
    · exact (State.shw_setShw _ _ b _).trans (if_neg hb)
    · exact (State.shw_setShw _ _ _ _).trans (if_pos rfl)

end Sys2Proof.Machine
end

section
/-!
SUPPORT. Switchable functions: the fields of FN_STAT, and what each row of Table 02-21 and each write of EN comes to (R52, R53,
R415).
-/
namespace Sys2Proof.Machine

/-! ## The three fields of FN_STAT -/

section
variable (s : State) (e i f v : Nat)

@[simp] theorem State.fld_fnState_setFld_fnState : (s.setFld (fnState e i f) v).fld (fnState e i f) = v % 8 :=
  s.fld_setFld_same v (by decide : 2 ≤ 31)

@[simp] theorem State.fld_fnState_setFld_fnRestart : (s.setFld (fnRestart e i f) v).fld (fnState e i f) = s.fld (fnState e i f) :=
  s.fld_setFld_other v (by decide : 4 ≤ 31) (.inr (.inl (by decide : 2 < 4)))

@[simp] theorem State.fld_fnState_setFld_fnLast : (s.setFld (fnLast e i f) v).fld (fnState e i f) = s.fld (fnState e i f) :=
  s.fld_setFld_other v (by decide : 31 ≤ 31) (.inr (.inl (by decide : 2 < 24)))

@[simp] theorem State.fld_fnRestart_setFld_fnState :
    (s.setFld (fnState e i f) v).fld (fnRestart e i f) = s.fld (fnRestart e i f) :=
  s.fld_setFld_other v (by decide : 2 ≤ 31) (.inr (.inr (by decide : 2 < 4)))

@[simp] theorem State.fld_fnRestart_setFld_fnRestart : (s.setFld (fnRestart e i f) v).fld (fnRestart e i f) = v % 2 :=
  s.fld_setFld_same v (by decide : 4 ≤ 31)

@[simp] theorem State.fld_fnRestart_setFld_fnLast : (s.setFld (fnLast e i f) v).fld (fnRestart e i f) = s.fld (fnRestart e i f) :=
  s.fld_setFld_other v (by decide : 31 ≤ 31) (.inr (.inl (by decide : 4 < 24)))

@[simp] theorem State.fld_fnLast_setFld_fnState : (s.setFld (fnState e i f) v).fld (fnLast e i f) = s.fld (fnLast e i f) :=
  s.fld_setFld_other v (by decide : 2 ≤ 31) (.inr (.inr (by decide : 2 < 24)))

@[simp] theorem State.fld_fnLast_setFld_fnRestart : (s.setFld (fnRestart e i f) v).fld (fnLast e i f) = s.fld (fnLast e i f) :=
  s.fld_setFld_other v (by decide : 4 ≤ 31) (.inr (.inr (by decide : 4 < 24)))

@[simp] theorem State.fld_fnLast_setFld_fnLast : (s.setFld (fnLast e i f) v).fld (fnLast e i f) = v % 256 :=
  s.fld_setFld_same v (by decide : 31 ≤ 31)

end

/-! ## Abandons (R53, R415) -/

section
variable (s : State) (e i f : Nat) (b : Bool)

@[simp] theorem State.fld_setPwr (p : PwrState) (g : FRef) : (s.setPwr p).fld g = s.fld g := (rfl)

@[simp] theorem State.fld_setAbandon (g : FRef) : (s.setAbandon e i f b).fld g = s.fld g := (rfl)

@[simp] theorem State.fld_setAbandoned (g : FRef) : (s.setAbandoned e i f b).fld g = s.fld g := (rfl)

@[simp] theorem State.mem_setAbandon : (s.setAbandon e i f b).mem = s.mem := (rfl)

@[simp] theorem State.cores_setAbandon : (s.setAbandon e i f b).cores = s.cores := (rfl)

@[simp] theorem State.abandoning_setFld (g : FRef) (v : Nat) : (s.setFld g v).abandoning e i f = s.abandoning e i f := (rfl)

@[simp] theorem State.abandoning_setAbandoned : (s.setAbandoned e i f b).abandoning e i f = s.abandoning e i f := (rfl)

@[simp] theorem State.abandoning_setAbandon : (s.setAbandon e i f b).abandoning e i f = b := by
  cases b <;> simp [State.abandoning, State.setAbandon]

@[simp] theorem State.abandoned_setAbandoned : (s.setAbandoned e i f b).pwr.abandoned.contains (fnAt e i f) = b := by
  cases b <;> simp [State.setAbandoned]

end

/-! ## The rows of Table 02-21 -/

/-- The maintenance hold keeps no radio off, or the function is not a radio's (R397). -/
def State.MayStart (s : State) (e : Nat) : Prop := radioEntry e = false ∨ s.fld F.KPR_STAT_HOLD = 0

/-- The maintenance hold lies outside the registers of a radio's functions. -/
theorem State.MayStart.setFld {s : State} {e i f : Nat} (h : s.MayStart e) (hi : i < 6) (hf : f < 16) {g : FRef} (v : Nat)
    (hg : g.addr = fnAt e i f) (hm : g.msb ≤ 31) : (s.setFld g v).MayStart e := by
  by_cases hr : radioEntry e = true
  · refine .inr ((s.fld_setFld_other v hm (.inl ?_)).trans (h.resolve_left (by simp [hr])))
    simp only [radioEntry, Bool.and_eq_true, decide_eq_true_eq] at hr
    simp only [hg, fnAt, fnState, blockAddr, F.KPR_STAT_HOLD, R.KPR_STAT]
    omega
  · exact .inl (eq_false_of_ne_true hr)

theorem State.toStarting_eq {s : State} {e i f : Nat} (h : s.MayStart e) :
    s.toStarting e i f = (s.setFld (fnState e i f) 1).fnStarting e i f := by
  refine if_neg ?_
  rcases h with h | h <;> simp [h, State.bit]

theorem State.toStarting_of_hold {s : State} {e i f : Nat} (hr : radioEntry e = true) (h : s.fld F.KPR_STAT_HOLD = 1) :
    s.toStarting e i f = s :=
  if_pos (by simp [hr, State.bit, h])

section
variable {s : State} {e i f : Nat}

theorem State.fnStartDone_on (h : s.fld (fnState e i f) = 1) (hr : s.startReady e = true) (hs : s.startSound e i = true)
    (ha : s.abandoning e i f = false) :
    s.fnStartDone e i f = ((s.setFld (fnLast e i f) 0).setFld (fnState e i f) 2).fnStarted e i f := by
  simp [State.fnStartDone, h, hr, hs, ha, Status.code]

theorem State.fnStartDone_abandoned (h : s.fld (fnState e i f) = 1) (hr : s.startReady e = true) (hs : s.startSound e i = true)
    (ha : s.abandoning e i f = true) :
    s.fnStartDone e i f =
      ((((s.setFld (fnLast e i f) 0).setAbandon e i f false).setAbandoned e i f true).setFld
        (fnState e i f) 3).fnStopping e i f := by
  simp [State.fnStartDone, h, hr, hs, ha, Status.code, State.toStopping]

theorem State.fnStartDone_of_ne (h : s.fld (fnState e i f) ≠ 1) : s.fnStartDone e i f = s :=
  if_neg fun hc => h hc.1

theorem State.fnStartFail_eq (h : s.fld (fnState e i f) = 1) :
    s.fnStartFail e i f =
      (((s.setFld (fnState e i f) 4).setFld (fnRestart e i f) 0).setFld (fnLast e i f) 0x11).setAbandon e i f false :=
  if_pos h

theorem State.fnStartFail_of_ne (h : s.fld (fnState e i f) ≠ 1) : s.fnStartFail e i f = s :=
  if_neg h

theorem State.fnSafePoint_eq (h : s.fld (fnState e i f) = 1) (ha : s.abandoning e i f = true) :
    s.fnSafePoint e i f =
      (((s.setAbandon e i f false).setAbandoned e i f true).setFld (fnState e i f) 3).fnStopping e i f :=
  if_pos ⟨h, ha⟩

theorem State.fnStopFail_eq (h : s.fld (fnState e i f) = 3) :
    s.fnStopFail e i f =
      (((s.setFld (fnState e i f) 4).setFld (fnRestart e i f) 0).setFld (fnLast e i f) 0x11).setAbandoned e i f false :=
  if_pos h

/-- The code of a stop that has run its course: ABORTED after an abandon, else OK (R53). -/
def State.stopCode (s : State) (e i f : Nat) : Nat := if s.pwr.abandoned.contains (fnAt e i f) then 0x0D else 0

theorem State.stopCode_lt (s : State) (e i f : Nat) : s.stopCode e i f < 256 := by
  unfold State.stopCode
  split <;> decide

/-- A stop that has run its course, with its code written. -/
def State.stopped (s : State) (e i f : Nat) : State := (s.setAbandoned e i f false).setFld (fnLast e i f) (s.stopCode e i f)

theorem State.MayStart.stopped {s : State} {e i f : Nat} (h : s.MayStart e) (hi : i < 6) (hf : f < 16) :
    (s.stopped e i f).MayStart e :=
  State.MayStart.setFld (s := s.setAbandoned e i f false) h hi hf _ rfl (by decide : 31 ≤ 31)

@[simp] theorem State.fld_fnLast_stopped (s : State) (e i f : Nat) :
    (s.stopped e i f).fld (fnLast e i f) = s.stopCode e i f := by
  rw [State.stopped, State.fld_fnLast_setFld_fnLast, Nat.mod_eq_of_lt (s.stopCode_lt e i f)]

@[simp] theorem State.fld_fnRestart_stopped (s : State) (e i f : Nat) :
    (s.stopped e i f).fld (fnRestart e i f) = s.fld (fnRestart e i f) := by
  simp [State.stopped]

/-- A stop that has run its course, with its restart taken from the queue. -/
def State.restarting (s : State) (e i f : Nat) : State :=
  ((s.stopped e i f).setFld (fnRestart e i f) 0).setFld (fnState e i f) 0

theorem State.MayStart.restarting {s : State} {e i f : Nat} (h : s.MayStart e) (hi : i < 6) (hf : f < 16) :
    (s.restarting e i f).MayStart e :=
  ((h.stopped hi hf).setFld hi hf 0 (g := fnRestart e i f) rfl (by decide : 4 ≤ 31)).setFld hi hf 0 rfl (by decide : 2 ≤ 31)

theorem State.fnStopDone_eq (h : s.fld (fnState e i f) = 3) (hr : s.stopReady e i f = true) (he : e ≠ 30) :
    s.fnStopDone e i f =
      if s.fld (fnRestart e i f) = 0 then (s.stopped e i f).setFld (fnState e i f) 0
      else (s.restarting e i f).toStarting e i f := by
  have hstopped : ((s.fnStopped e i f).setAbandoned e i f false).setFld (fnLast e i f)
      (if s.pwr.abandoned.contains (fnAt e i f) then Status.aborted.code else Status.ok.code) = s.stopped e i f := by
    rw [State.fnStopped, if_neg he]
    rfl
  rw [State.fnStopDone, if_pos ⟨h, hr⟩]
  dsimp only
  rw [hstopped, State.bit, State.fld_fnRestart_stopped, State.restarting]
  by_cases hrest : s.fld (fnRestart e i f) = 0 <;> simp [hrest]

/-- A stop with no restart queued ends in off. -/
theorem State.fnStopDone_off (h : s.fld (fnState e i f) = 3) (hr : s.stopReady e i f = true) (he : e ≠ 30)
    (hrest : s.fld (fnRestart e i f) = 0) : s.fnStopDone e i f = (s.stopped e i f).setFld (fnState e i f) 0 :=
  (State.fnStopDone_eq h hr he).trans (if_pos hrest)

/-- A stop with a restart queued goes on to starting. -/
theorem State.fnStopDone_restart (h : s.fld (fnState e i f) = 3) (hr : s.stopReady e i f = true) (he : e ≠ 30)
    (hrest : s.fld (fnRestart e i f) ≠ 0) (hmay : s.MayStart e) (hi : i < 6) (hf : f < 16) :
    s.fnStopDone e i f = ((s.restarting e i f).setFld (fnState e i f) 1).fnStarting e i f :=
  ((State.fnStopDone_eq h hr he).trans (if_neg hrest)).trans (State.toStarting_eq (hmay.restarting hi hf))

end

/-! ## Writes of EN (R52, R415) -/

section
variable {s : State} {e i f : Nat}

theorem State.fnWrite_off_enable (h : s.fld (fnState e i f) = 0) : s.fnWrite e i f true = s.toStarting e i f := by
  simp [State.fnWrite, h]

theorem State.fnWrite_on_disable (h : s.fld (fnState e i f) = 2) :
    s.fnWrite e i f false = (s.setFld (fnState e i f) 3).fnStopping e i f := by
  simp [State.fnWrite, h, State.toStopping]

theorem State.fnWrite_starting_disable (h : s.fld (fnState e i f) = 1) :
    s.fnWrite e i f false = (s.setAbandon e i f true).setFld (fnRestart e i f) 0 := by
  simp [State.fnWrite, h]

theorem State.fnWrite_abandoning_enable (h : s.fld (fnState e i f) = 1) (ha : s.abandoning e i f = true) :
    s.fnWrite e i f true = s.setFld (fnRestart e i f) 1 := by
  simp [State.fnWrite, h, ha]

/-- In stopping a write of EN notes or drops a restart. -/
theorem State.fnWrite_stopping (h : s.fld (fnState e i f) = 3) (en : Bool) :
    s.fnWrite e i f en = s.setFld (fnRestart e i f) (b2n en) := by
  cases en <;> simp [State.fnWrite, h, b2n]

theorem State.fnWrite_failed_disable (h : s.fld (fnState e i f) = 4) :
    s.fnWrite e i f false = (s.fnForced e i f).setFld (fnState e i f) 0 := by
  simp [State.fnWrite, h]

theorem State.fnWrite_failed_enable (h : s.fld (fnState e i f) = 4) : s.fnWrite e i f true = s := by
  simp [State.fnWrite, h]

end

/-! ## The rows of a function that exists -/

section
variable {x : FnRef} (hx : fnExists x.entry.val x.inst.val x.f.val = true) (s : State)
include hx

theorem State.forFn_of_exists (g : State → Nat → Nat → Nat → State) : s.forFn x g = g s x.entry.val x.inst.val x.f.val :=
  if_pos hx

theorem exec_fnStartDone : exec (.fnStartDone x) s = .next (s.fnStartDone x.entry.val x.inst.val x.f.val) := by
  rw [← State.forFn_of_exists hx s State.fnStartDone]
  rfl

theorem exec_fnStartFail : exec (.fnStartFail x) s = .next (s.fnStartFail x.entry.val x.inst.val x.f.val) := by
  rw [← State.forFn_of_exists hx s State.fnStartFail]
  rfl

theorem exec_fnSafePoint :
    exec (.fnSafePoint x) s =
      .next ((s.fnSafePoint x.entry.val x.inst.val x.f.val).afterStop x.entry.val x.inst.val x.f.val) := by
  rw [← State.forFn_of_exists hx s (fun s e i f => (s.fnSafePoint e i f).afterStop e i f)]
  rfl

theorem exec_fnStopDone :
    exec (.fnStopDone x) s =
      .next ((s.fnStopDone x.entry.val x.inst.val x.f.val).afterStop x.entry.val x.inst.val x.f.val) := by
  rw [← State.forFn_of_exists hx s (fun s e i f => (s.fnStopDone e i f).afterStop e i f)]
  rfl

theorem exec_fnStopFail :
    exec (.fnStopFail x) s =
      .next ((s.fnStopFail x.entry.val x.inst.val x.f.val).afterStop x.entry.val x.inst.val x.f.val) := by
  rw [← State.forFn_of_exists hx s (fun s e i f => (s.fnStopFail e i f).afterStop e i f)]
  rfl

end

end Sys2Proof.Machine
end

section
/-!
SUPPORT. The swap unit: the fields of a slot, its sets, and a slot that covers one engine's program (R33, R47 to R50, R135).
-/
namespace Sys2Proof.Machine

theorem State.reg_setFld_other (s : State) {a : Nat} {f : FRef} (v : Nat) (h : a ≠ f.addr) : (s.setFld f v).reg a = s.reg a :=
  State.reg_setReg_other _ _ h

@[simp] theorem State.reg_pulse (s : State) (l a : Nat) : (s.pulse l).reg a = s.reg a := by
  simp [State.reg]

/-! ## The fields of HIT_SWAP_STAT -/

section
variable (s : State) (n v : Nat)

@[simp] theorem State.fld_swapState_setFld_same : (s.setFld (F.HIT_SWAP_STAT_STATE n) v).fld (F.HIT_SWAP_STAT_STATE n) = v % 4 :=
  s.fld_setFld_same v (by decide : 31 ≤ 31)

@[simp] theorem State.fld_swapState_setFld_status :
    (s.setFld (F.HIT_SWAP_STAT_STATUS n) v).fld (F.HIT_SWAP_STAT_STATE n) = s.fld (F.HIT_SWAP_STAT_STATE n) :=
  s.fld_setFld_other v (by decide : 29 ≤ 31) (.inr (.inr (by decide : 29 < 30)))

@[simp] theorem State.fld_swapState_setFld_refused :
    (s.setFld (F.HIT_SWAP_STAT_REFUSED n) v).fld (F.HIT_SWAP_STAT_STATE n) = s.fld (F.HIT_SWAP_STAT_STATE n) :=
  s.fld_setFld_other v (by decide : 20 ≤ 31) (.inr (.inr (by decide : 20 < 30)))

@[simp] theorem State.fld_swapRefused_setFld_same :
    (s.setFld (F.HIT_SWAP_STAT_REFUSED n) v).fld (F.HIT_SWAP_STAT_REFUSED n) = v % 2 :=
  s.fld_setFld_same v (by decide : 20 ≤ 31)

@[simp] theorem State.fld_swapStatus_setFld_same :
    (s.setFld (F.HIT_SWAP_STAT_STATUS n) v).fld (F.HIT_SWAP_STAT_STATUS n) = v % 256 :=
  s.fld_setFld_same v (by decide : 29 ≤ 31)

@[simp] theorem State.fld_swapDone_setFld_same :
    (s.setFld (F.HIT_SWAP_STAT_DONE n) v).fld (F.HIT_SWAP_STAT_DONE n) = v % 2 ^ 20 :=
  s.fld_setFld_same v (by decide : 19 ≤ 31)

@[simp] theorem State.fld_swapDone_setFld_state :
    (s.setFld (F.HIT_SWAP_STAT_STATE n) v).fld (F.HIT_SWAP_STAT_DONE n) = s.fld (F.HIT_SWAP_STAT_DONE n) :=
  s.fld_setFld_other v (by decide : 31 ≤ 31) (.inr (.inl (by decide : 19 < 30)))

@[simp] theorem State.fld_swapDone_setFld_status :
    (s.setFld (F.HIT_SWAP_STAT_STATUS n) v).fld (F.HIT_SWAP_STAT_DONE n) = s.fld (F.HIT_SWAP_STAT_DONE n) :=
  s.fld_setFld_other v (by decide : 29 ≤ 31) (.inr (.inl (by decide : 19 < 22)))

end

/-! ## Closing a slot (R48, R50) -/

theorem Status.code_lt (st : Status) : st.code < 256 := by
  cases st <;> decide

section
variable (s : State) (n : Nat) (st : Status)

@[simp] theorem State.fld_swapState_closeSlot : (s.closeSlot n st).fld (F.HIT_SWAP_STAT_STATE n) = 2 := by
  simp [State.closeSlot]

@[simp] theorem State.fld_swapStatus_closeSlot : (s.closeSlot n st).fld (F.HIT_SWAP_STAT_STATUS n) = st.code := by
  simp [State.closeSlot, Nat.mod_eq_of_lt st.code_lt]

@[simp] theorem State.fld_swapDone_closeSlot :
    (s.closeSlot n st).fld (F.HIT_SWAP_STAT_DONE n) = s.fld (F.HIT_SWAP_STAT_DONE n) := by
  simp [State.closeSlot]

/-- A register other than the slot's status is as it was when the slot closes. -/
theorem State.reg_closeSlot {a : Nat} (h : a ≠ R.HIT_SWAP_STAT n) : (s.closeSlot n st).reg a = s.reg a := by
  rw [State.closeSlot, State.reg_pulse, State.reg_setFld_other _ _ h, State.reg_setFld_other _ _ h]

@[simp] theorem State.eng_closeSlot : (s.closeSlot n st).eng = s.eng := by
  simp [State.closeSlot]

@[simp] theorem State.cores_closeSlot : (s.closeSlot n st).cores = s.cores := by
  simp [State.closeSlot]

/-- A slot that closes pulses EV22. -/
theorem State.closeSlot_pulses : ∃ p ∈ (s.closeSlot n st).fabric, p.line = 22 :=
  ⟨_, State.pulse_in_fabric _ 22, rfl⟩

end

/-! ## The sets of a slot -/

theorem setsOf_two_pow {b : Nat} (h : b < 20) : setsOf (2 ^ b) = [b] := by
  revert b
  decide

/-- A slot that covers one set, which has not swapped. -/
structure State.CoversAlone (s : State) (n b : Nat) : Prop where
  pending : s.fld (F.HIT_SWAP_STAT_STATE n) = 1
  sets    : getBits (s.reg (R.HIT_SWAP_SETS n)) 19 0 = 2 ^ b
  left    : bitOf (s.fld (F.HIT_SWAP_STAT_DONE n)) b = false

theorem State.CoversAlone.setsLeft {s : State} {n b : Nat} (h : s.CoversAlone n b) (hb : b < 20) : s.setsLeft n = [b] := by
  simp [State.setsLeft, h.sets, setsOf_two_pow hb, h.left]

theorem State.bitOf_done_setDone (s : State) (n : Nat) {b : Nat} (hb : b < 20) :
    bitOf ((s.setDone n b).fld (F.HIT_SWAP_STAT_DONE n)) b = true := by
  rw [State.setDone, State.fld_swapDone_setFld_same, bitOf, Nat.testBit_mod_two_pow, Nat.testBit_or, Nat.testBit_two_pow_self]
  simp [hb]

/-- The set has swapped: the slot has no set left. -/
theorem State.setsLeft_setDone {s : State} {n b : Nat} (hb : b < 20) (hsets : getBits (s.reg (R.HIT_SWAP_SETS n)) 19 0 = 2 ^ b) :
    (s.setDone n b).setsLeft n = [] := by
  have hreg : (s.setDone n b).reg (R.HIT_SWAP_SETS n) = s.reg (R.HIT_SWAP_SETS n) :=
    State.reg_setFld_other _ _ (by simp only [F.HIT_SWAP_STAT_DONE, R.HIT_SWAP_SETS, R.HIT_SWAP_STAT]; omega)
  simp [State.setsLeft, hreg, hsets, setsOf_two_pow hb, State.bitOf_done_setDone s n hb]

/-! ## A program swap (R135) -/

/-- ENTRY is the one RWS field of a slot engine's registers. -/
theorem rwsRegs_engine (e : Fin 3) : rwsRegs (4 + e) 0 = [(R.SE_CFG e, RegTable.se_SE_CFG)] := by
  fin_cases e <;> rfl

theorem State.copyRws_engine (s : State) (e : Fin 3) :
    s.copyRws (4 + e) 0 (fun _ => true) = s.copyReg (R.SE_CFG e) RegTable.se_SE_CFG := by
  simp [State.copyRws, rwsRegs_engine]

/-- The registers as a program swap leaves them. -/
def State.withEntry (s : State) (e : Nat) : State :=
  (s.copyReg (R.SE_CFG e) RegTable.se_SE_CFG).setFld (F.SE_STAT_SWAPPED e) 1

theorem State.fld_entry_withEntry (s : State) (e : Nat) :
    (s.withEntry e).fld (F.SE_CFG_ENTRY e) =
      getBits (s.shw (F.SE_CFG_ENTRY e).addr) (F.SE_CFG_ENTRY e).msb (F.SE_CFG_ENTRY e).lsb := by
  have hne : (F.SE_CFG_ENTRY e).addr ≠ (F.SE_STAT_SWAPPED e).addr := by
    simp only [F.SE_CFG_ENTRY, F.SE_STAT_SWAPPED, R.SE_CFG, R.SE_STAT]
    omega
  rw [State.withEntry, State.fld_setFld_other _ _ (by decide : 0 ≤ 31) (.inl hne)]
  have hcopy : (s.copyReg (R.SE_CFG e) RegTable.se_SE_CFG).reg (R.SE_CFG e) =
      setBits (s.reg (R.SE_CFG e)) 13 2 (getBits (s.shw (R.SE_CFG e)) 13 2) := State.reg_setReg_same _ _ _
  rw [State.fld, F.SE_CFG_ENTRY, hcopy]
  exact getBits_setBits_of_lt _ (by decide) (getBits_lt _ _ _)

theorem State.reg_withEntry (s : State) {e a : Nat} (h : a < R.SE_STAT e) : (s.withEntry e).reg a = s.reg a := by
  have hcfg : a ≠ R.SE_CFG e := by
    unfold R.SE_CFG
    unfold R.SE_STAT at h
    omega
  rw [State.withEntry, State.reg_setFld_other _ _ (Nat.ne_of_lt h), State.copyReg, State.reg_setReg_other _ _ hcfg]

theorem State.swapProg_eq (s : State) (e : Fin 3) :
    s.swapProg e =
      let u := (s.withEntry e).setEngine e { s.engine e with active := 1 - (s.engine e).active }
      if s.runState e = 2 then
        (u.setEngine e { u.engine e with wait := .none, lateNext := false }).setCore (20 + e)
          { s.core (20 + e) with pc := BitVec.ofNat 64 (4 * (s.withEntry e).fld (F.SE_CFG_ENTRY e)) }
      else u := by
  simp only [State.swapProg, State.copyRws_engine]
  rfl

theorem State.regs_swapProg (s : State) (e : Fin 3) : (s.swapProg e).regs = (s.withEntry e).regs := by
  rw [State.swapProg_eq]
  dsimp only
  split <;> rfl

@[simp] theorem State.engine_setCore (s : State) (c e : Nat) (x : Core) : (s.setCore c x).engine e = s.engine e := by
  rw [State.engine, State.setCore_eng, ← State.engine]

theorem State.fld_entry_swapProg (s : State) (e : Fin 3) :
    (s.swapProg e).fld (F.SE_CFG_ENTRY e) = (s.withEntry e).fld (F.SE_CFG_ENTRY e) := by
  simp only [State.fld, State.reg, State.regs_swapProg]

/-- The pages exchange roles, and with RUN on the wait ends; the rest of the engine is as it was. -/
theorem State.engine_swapProg (s : State) (e : Fin 3) :
    (s.swapProg e).engine e =
      let x := { s.engine e with active := 1 - (s.engine e).active }
      if s.runState e = 2 then { x with wait := .none, lateNext := false } else x := by
  rw [State.swapProg_eq]
  dsimp only
  split
  · rw [State.engine_setCore, State.engine_setEngine, if_pos rfl, State.engine_setEngine, if_pos rfl]
  · rw [State.engine_setEngine, if_pos rfl]

/-- With RUN on the new program issues at its ENTRY. -/
theorem State.core_swapProg {s : State} {e : Fin 3} (h : s.runState e = 2) :
    (s.swapProg e).core (20 + e) =
      { s.core (20 + e) with pc := BitVec.ofNat 64 (4 * (s.swapProg e).fld (F.SE_CFG_ENTRY e)) } := by
  rw [State.fld_entry_swapProg, State.swapProg_eq]
  dsimp only
  rw [if_pos h, State.core_setCore_same]

/-! ## SWAP_TAKE_EFFECT of a slot that covers one engine's program (R33, R48) -/

/-- The state in which an engine's program has swapped and its slot has closed OK. -/
def State.progSwapped (s : State) (n e : Nat) : State := ((s.swapProg e).setDone n (3 + e)).closeSlot n .ok

section
variable (s : State) (n : Nat) (e : Fin 3)

@[simp] theorem State.engine_progSwapped (d : Nat) : (s.progSwapped n e).engine d = (s.swapProg e).engine d := by
  rw [State.engine, State.progSwapped, State.eng_closeSlot, State.setDone, State.setFld_eng, ← State.engine]

@[simp] theorem State.core_progSwapped (c : Nat) : (s.progSwapped n e).core c = (s.swapProg e).core c := by
  rw [State.core, State.progSwapped, State.cores_closeSlot, State.setDone, State.setFld_cores, ← State.core]

theorem State.fld_entry_progSwapped {n : Nat} (hn : n < 8) :
    (s.progSwapped n e).fld (F.SE_CFG_ENTRY e) = (s.swapProg e).fld (F.SE_CFG_ENTRY e) := by
  have hne : R.SE_CFG e ≠ R.HIT_SWAP_STAT n := by
    unfold R.SE_CFG R.HIT_SWAP_STAT
    omega
  simp only [State.fld, F.SE_CFG_ENTRY]
  rw [State.progSwapped, State.reg_closeSlot _ _ _ hne, State.setDone, State.reg_setFld_other _ _ hne]

end

section
variable {s : State} {n : Nat} {e : Fin 3}

theorem State.setDue_engine (s : State) (n : Nat) (e : Fin 3) : s.setDue n (3 + e) = decide (s.swapNt n ≤ s.now) := by
  have he := e.isLt
  simp [State.setDue, show ¬ 3 + e.val < 3 by omega, show ¬ 12 ≤ 3 + e.val by omega]

/-- A slot that covers no list has none to exchange back. -/
theorem State.CoversAlone.dropLists (h : s.CoversAlone n (3 + e)) : s.dropLists n = s := by
  have he := e.isLt
  simp [State.dropLists, h.setsLeft (by omega), show ¬ 12 ≤ 3 + e.val by omega]

theorem State.swapTake_early (h : s.CoversAlone n (3 + e)) (ht : s.now < s.swapNt n) : s.swapTake n = s := by
  have he := e.isLt
  simp [State.swapTake, h.pending, h.setsLeft (by omega), State.setDue_engine, Nat.not_le.mpr ht]

theorem State.swapTake_coarse (h : s.CoversAlone n (3 + e)) (hc : s.coarse = true) (ht : s.swapNt n ≤ s.now) :
    s.swapTake n = s.closeSlot n .fault := by
  have he := e.isLt
  simp [State.swapTake, h.pending, h.setsLeft (by omega), State.setDue_engine, ht, hc, h.dropLists]

theorem State.swapSet_engine (s : State) (e : Fin 3) : s.swapSet (3 + e) = s.swapProg e := by
  have he := e.isLt
  simp [State.swapSet, show ¬ 3 + e.val < 3 by omega, show 3 + e.val < 6 by omega]

theorem State.swapTake_fine (h : s.CoversAlone n (3 + e)) (hn : n < 8) (hc : s.coarse = false) (ht : s.swapNt n ≤ s.now) :
    s.swapTake n = s.progSwapped n e := by
  have he := e.isLt
  have hsets : getBits ((s.swapProg e).reg (R.HIT_SWAP_SETS n)) 19 0 = 2 ^ (3 + e.val) := by
    have hlow : R.HIT_SWAP_SETS n < R.SE_STAT e := by
      unfold R.HIT_SWAP_SETS R.SE_STAT
      omega
    rw [← h.sets, ← s.reg_withEntry hlow, State.reg, State.regs_swapProg, ← State.reg]
  have hdone := State.setsLeft_setDone (show 3 + e.val < 20 by omega) hsets
  simp [State.swapTake, h.pending, h.setsLeft (by omega), State.setDue_engine, ht, hc, show ¬ 12 ≤ 3 + e.val by omega,
    State.swapSet_engine, State.listsSwap, State.slotComplete, hdone, State.progSwapped]

end

theorem State.swapTake_of_not_pending {s : State} {n : Nat} (h : s.fld (F.HIT_SWAP_STAT_STATE n) ≠ 1) : s.swapTake n = s :=
  if_pos h

/-! ## Requests and cancels (R47, R50) -/

section
variable {s : State} {n : Nat}

theorem State.swapRequest_pending (req : Nat) (h : s.fld (F.HIT_SWAP_STAT_STATE n) = 1) :
    s.swapRequest req n = s.setFld (F.HIT_SWAP_STAT_REFUSED n) 1 :=
  if_pos h

theorem State.swapRequest_ok {req : Nat} (h : s.fld (F.HIT_SWAP_STAT_STATE n) ≠ 1) (hc : s.swapCode req n = .ok) :
    s.swapRequest req n = (s.setFld (F.HIT_SWAP_STAT_DONE n) 0).setFld (F.HIT_SWAP_STAT_STATE n) 1 := by
  simp [State.swapRequest, h, hc]

theorem State.swapRequest_refused {req : Nat} (h : s.fld (F.HIT_SWAP_STAT_STATE n) ≠ 1) (hc : s.swapCode req n ≠ .ok) :
    s.swapRequest req n = (s.setFld (F.HIT_SWAP_STAT_DONE n) 0).closeSlot n (s.swapCode req n) := by
  rw [State.swapRequest, if_neg h]
  dsimp only
  split
  · exact absurd ‹_› hc
  · rfl

theorem State.swapCancel_of_not_pending (h : s.fld (F.HIT_SWAP_STAT_STATE n) ≠ 1) : s.swapCancel n = s :=
  if_pos h

theorem State.swapCancel_pending (h : s.fld (F.HIT_SWAP_STAT_STATE n) = 1) :
    s.swapCancel n = (s.dropLists n).closeSlot n .aborted :=
  if_neg (not_not.mpr h)

end

/-- Exchanging lists back leaves every register below those of the traffic manager's lists. -/
theorem State.reg_dropLists (s : State) (n : Nat) {a : Nat} (h : a < R.TM_SL_STAT 0) : (s.dropLists n).reg a = s.reg a := by
  have hslStat (u : State) (j : Nat) : (u.slStat j).reg a = u.reg a := by
    have hne : a ≠ R.TM_SL_STAT j := by
      unfold R.TM_SL_STAT at h ⊢
      omega
    rw [State.slStat, State.reg_setFld_other _ _ hne, State.reg_setFld_other _ _ hne]
  refine List.foldlRecOn (motive := fun u : State => u.reg a = s.reg a) _ _ rfl fun u hu b _ => ?_
  dsimp only
  split
  · split
    · rw [hslStat]
      exact hu
    · exact hu
  · exact hu

theorem State.done_dropLists (s : State) {n : Nat} (hn : n < 8) :
    (s.dropLists n).fld (F.HIT_SWAP_STAT_DONE n) = s.fld (F.HIT_SWAP_STAT_DONE n) := by
  have hlow : R.HIT_SWAP_STAT n < R.TM_SL_STAT 0 := by
    unfold R.HIT_SWAP_STAT R.TM_SL_STAT
    omega
  simp only [State.fld, F.HIT_SWAP_STAT_DONE, State.reg_dropLists s n hlow]

theorem exec_swapTakeEffect (n : Fin 8) (s : State) : exec (.swapTakeEffect n) s = .next (s.swapTake n) := rfl

/-- Settles O37: each row of Table 02-21 and each write of EN comes to its equation, and so does each act on a slot. -/
theorem functionsMoveAndSwapsTakeEffect : Obligations.FunctionsMoveAndSwapsTakeEffect := by
  refine ⟨?functions, ?swaps⟩
  case functions =>
    intro x s hx e i f st last again
    have hi : i < 6 := x.inst.isLt
    have hf : f < 16 := x.f.isLt
    have hstartDone : exec (.fnStartDone x) s = .next (s.fnStartDone e i f) := exec_fnStartDone hx s
    have hstartFail : exec (.fnStartFail x) s = .next (s.fnStartFail e i f) := exec_fnStartFail hx s
    have hsafe : exec (.fnSafePoint x) s = .next ((s.fnSafePoint e i f).afterStop e i f) := exec_fnSafePoint hx s
    have hstopDone : exec (.fnStopDone x) s = .next ((s.fnStopDone e i f).afterStop e i f) := exec_fnStopDone hx s
    have hstopFail : exec (.fnStopFail x) s = .next ((s.fnStopFail e i f).afterStop e i f) := exec_fnStopFail hx s
    refine ⟨fun h hr hs => ⟨fun ha => ?on, fun ha => ?abandoned⟩, fun h => ?fails, fun h ha => ?safePoint,
      fun h hr he => ?stops, fun h => ?stopFails, fun h => ?other, fun h hc => ?enable, fun h hr hc => ?held, fun h => ?disable, fun h => ?starting,
      fun h => ?stopping, fun h => ?failed⟩
    case on => exact ⟨_, hstartDone.trans (congrArg _ (State.fnStartDone_on h hr hs ha)), by simp [st], by simp [last], rfl⟩
    case abandoned =>
      exact ⟨_, hstartDone.trans (congrArg _ (State.fnStartDone_abandoned h hr hs ha)), by simp [st], by simp [last], by simp,
        by simp [-List.contains_eq_mem]⟩
    case fails =>
      rw [State.fnStartFail_eq h] at hstartFail
      exact ⟨_, hstartFail, by simp [st], by simp [last], by simp [again], rfl, rfl⟩
    case safePoint =>
      rw [State.fnSafePoint_eq h ha] at hsafe
      exact ⟨_, hsafe, by simp [st], by simp [last], by simp⟩
    case stops =>
      by_cases hrest : again s = 0
      · rw [State.fnStopDone_off h hr he hrest] at hstopDone
        exact ⟨_, by simp [last, State.stopCode], fun _ => ⟨by simp [st], hstopDone⟩,
          fun h1 => absurd (hrest.symm.trans h1) (by decide)⟩
      · refine ⟨(s.restarting e i f).setFld (fnState e i f) 1, by simp [last, State.restarting, State.stopCode],
          fun h0 => absurd h0 hrest, fun _ hmay => ⟨by simp [st], by simp [again, State.restarting], ?_⟩⟩
        rw [hstopDone, State.fnStopDone_restart h hr he hrest hmay hi hf]
    case stopFails =>
      rw [State.fnStopFail_eq h] at hstopFail
      exact ⟨_, hstopFail, by simp [st], by simp [last], by simp [again]⟩
    case other =>
      exact ⟨hstartDone.trans (congrArg _ (State.fnStartDone_of_ne h)),
        hstartFail.trans (congrArg _ (State.fnStartFail_of_ne h))⟩
    case enable => exact ⟨_, (State.fnWrite_off_enable h).trans (State.toStarting_eq hc), by simp [st]⟩
    case held => exact (State.fnWrite_off_enable h).trans (State.toStarting_of_hold hr hc)
    case disable => exact ⟨_, State.fnWrite_on_disable h, by simp [st]⟩
    case starting =>
      refine ⟨?_, ?_, fun ha => ?_⟩
      · simpa [st, State.fnWrite_starting_disable h] using h
      · simp [State.fnWrite_starting_disable h]
      · simp [again, State.fnWrite_abandoning_enable h ha]
    case stopping =>
      rw [State.fnWrite_stopping h, State.fnWrite_stopping h]
      exact ⟨by simp [again, b2n], by simp [again, b2n], by simpa [st] using h⟩
    case failed => exact ⟨by simp [st, State.fnWrite_failed_disable h], State.fnWrite_failed_enable h⟩
  case swaps =>
    intro n s pending
    refine ⟨fun e hp hsets hleft => ⟨fun hc ht => ?fine, fun ht => ?early, fun hc ht => ?coarse⟩, fun hp => ?notPending,
      fun req => ⟨fun hp => ?refused, fun hp hc => ?accepted, fun hp hc => ?failed⟩, fun hp => ?cancel⟩
    case fine =>
      have h : s.CoversAlone n (3 + e) := ⟨hp, hsets, hleft⟩
      refine ⟨_, (exec_swapTakeEffect n s).trans (congrArg _ (State.swapTake_fine h n.isLt hc ht)), ?_⟩
      beta_reduce
      rw [State.fld_entry_progSwapped s e n.isLt, State.engine_progSwapped, State.core_progSwapped, State.engine_swapProg]
      refine ⟨by split <;> rfl, by split <;> rfl, by split <;> rfl, by split <;> rfl,
        (s.fld_entry_swapProg e).trans (s.fld_entry_withEntry e), fun hrun => ⟨by simp [hrun], ?_, ?_⟩,
        by simp [State.progSwapped], by simp [State.progSwapped, Status.code], ?_, State.closeSlot_pulses _ _ _⟩
      · rw [State.core_swapProg hrun]
      · rw [State.core_swapProg hrun]
        exact fun _ => rfl
      · rw [State.progSwapped, State.fld_swapDone_closeSlot]
        exact State.bitOf_done_setDone _ _ (by omega)
    case early => exact (exec_swapTakeEffect n s).trans (congrArg _ (State.swapTake_early ⟨hp, hsets, hleft⟩ ht))
    case coarse =>
      refine ⟨_, (exec_swapTakeEffect n s).trans (congrArg _ (State.swapTake_coarse ⟨hp, hsets, hleft⟩ hc ht)), ?_, by simp,
        by simp [Status.code]⟩
      simp only [State.engine, State.eng_closeSlot]
    case notPending =>
      exact ⟨(exec_swapTakeEffect n s).trans (congrArg _ (State.swapTake_of_not_pending hp)),
        State.swapCancel_of_not_pending hp⟩
    case refused =>
      rw [State.swapRequest_pending req hp]
      exact ⟨by simp, by simpa using hp⟩
    case accepted =>
      rw [State.swapRequest_ok hp hc]
      exact ⟨by simp, by simp⟩
    case failed =>
      rw [State.swapRequest_refused hp hc]
      exact ⟨by simp, by simp⟩
    case cancel =>
      rw [State.swapCancel_pending hp]
      exact ⟨by simp, by simp [Status.code], by rw [State.fld_swapDone_closeSlot, State.done_dropLists s n.isLt]⟩

end Sys2Proof.Machine
end

section
/-!
SUPPORT. What the end of a work core's item leaves of the bus and of the failure capture: operations that keep every register of
entry 0 of the map, every pulse already entered, and the bus.
-/
namespace Sys2Proof.Machine

/-- The registers of entry 0 and the bus are as they were, and no pulse is gone. -/
structure State.KeepsHit (z t : State) : Prop where
  bus    : t.bus = z.bus
  reg    : ∀ a, a < blockAddr 1 0 → t.reg a = z.reg a
  fabric : ∀ p ∈ z.fabric, p ∈ t.fabric

namespace State.KeepsHit

variable {z s : State}

theorem refl (s : State) : s.KeepsHit s := ⟨rfl, fun _ _ => rfl, fun _ h => h⟩

/-- A field of entry 0 is as it was. -/
theorem fld (h : z.KeepsHit s) {f : FRef} (hf : f.addr < blockAddr 1 0) : s.fld f = z.fld f := by
  rw [State.fld, State.fld, h.reg _ hf]

/-- An update of other parts of the state. -/
theorem upd {t : State} (h : z.KeepsHit s) (hb : t.bus = s.bus) (hr : t.regs = s.regs) (hf : t.fabric = s.fabric) :
    z.KeepsHit t where
  bus := hb.trans h.bus
  reg a ha := by rw [State.reg, hr, ← State.reg, h.reg a ha]
  fabric p hp := by rw [hf]; exact h.fabric p hp

theorem foldl {α : Type} {f : State → α → State} (l : List α) (h : z.KeepsHit s)
    (hf : ∀ s x, z.KeepsHit s → z.KeepsHit (f s x)) : z.KeepsHit (l.foldl f s) :=
  List.foldlRecOn _ _ h fun s hs x _ => hf s x hs

theorem setFld (h : z.KeepsHit s) {f : FRef} (v : Nat) (hf : blockAddr 1 0 ≤ f.addr) : z.KeepsHit (s.setFld f v) where
  bus := h.bus
  reg a ha := (State.reg_setReg_other _ _ (by omega)).trans (h.reg a ha)
  fabric := h.fabric

theorem count (h : z.KeepsHit s) {f : FRef} (n : Nat) (hf : blockAddr 1 0 ≤ f.addr) : z.KeepsHit (s.count f n) :=
  h.setFld _ hf

theorem pulse (h : z.KeepsHit s) (l : Nat) : z.KeepsHit (s.pulse l) := by
  unfold State.pulse
  split
  · exact h
  · exact ⟨h.bus, h.reg, fun p hp => List.mem_append_left _ (h.fabric p hp)⟩

theorem pulseFree (h : z.KeepsHit s) (l : Nat) : z.KeepsHit (s.pulseFree l) := by
  unfold State.pulseFree
  split
  · exact h.pulse l
  · exact h

theorem setCore (h : z.KeepsHit s) (c : Nat) (x : Core) : z.KeepsHit (s.setCore c x) := h.upd rfl rfl rfl

theorem setArb (h : z.KeepsHit s) (a : ArbState) : z.KeepsHit (s.setArb a) := h.upd rfl rfl rfl

/-! ## Bytes written by an engine (R275) -/

theorem logDmc (h : z.KeepsHit s) (a : Nat) (ue : Bool) : z.KeepsHit (s.logDmc a ue) := by
  unfold State.logDmc
  split
  · exact h
  · exact (((h.setFld _ (by decide)).setFld _ (by decide)).setFld _ (by decide)).setFld _ (by decide)

theorem logSpm (h : z.KeepsHit s) (a : Nat) (ue march : Bool) : z.KeepsHit (s.logSpm a ue march) := by
  unfold State.logSpm
  split
  · exact h
  · exact (((h.setFld _ (by decide)).setFld _ (by decide)).setFld _ (by decide)).setFld _ (by decide)

theorem setWrong (h : z.KeepsHit s) (a n : Nat) : z.KeepsHit (s.setWrong a n) := h.upd rfl rfl rfl

theorem corrected (h : z.KeepsHit s) (a : Nat) : z.KeepsHit (s.corrected a) := by
  unfold State.corrected
  dsimp only
  split
  · exact (((h.setWrong a 0).count _ (by decide)).setFld _ (by decide)).logDmc a false
  · exact (((h.setWrong a 0).count _ (by decide)).setFld _ (by decide)).logSpm a false false

theorem uncorrectable (h : z.KeepsHit s) (a : Nat) : z.KeepsHit (s.uncorrectable a) := by
  unfold State.uncorrectable
  split
  · exact ((h.count _ (by decide)).setFld _ (by decide)).logDmc a true
  · exact ((h.count _ (by decide)).setFld _ (by decide)).logSpm a true false

theorem seenWord (h : z.KeepsHit s) (a n : Nat) (x : Nat × Nat) : z.KeepsHit (s.seenWord a n x) := by
  unfold State.seenWord
  split
  · exact h
  · split
    · exact h.corrected _
    · exact h.uncorrectable _

theorem mend (h : z.KeepsHit s) (a n : Nat) : z.KeepsHit (s.mend a n) := by
  refine h.foldl _ fun s x hs => ?_
  unfold State.mendWord
  split
  · exact hs.setWrong _ _
  · exact hs.seenWord a n x

theorem fill (h : z.KeepsHit s) (a : Nat) (l : List Byte) : z.KeepsHit (s.fill a l) := by
  induction l generalizing s a with
  | nil => exact h
  | cons b l ih =>
    refine ih ?_ (a + 1)
    split
    · exact h
    · exact h.upd rfl rfl rfl

theorem breakResv (h : z.KeepsHit s) (w a n : Nat) : z.KeepsHit (s.breakResv w a n) := by
  refine h.foldl _ fun s c hs => ?_
  split
  · exact hs.setCore _ _
  · exact hs

theorem putLe (h : z.KeepsHit s) (a n v : Nat) : z.KeepsHit (s.putLe a n v) := by
  unfold State.putLe State.put
  exact breakResv (fill (mend h _ _) _ _) _ _ _

/-! ## Tokens and locked sequences (R302, R307) -/

theorem releaseTokens (h : z.KeepsHit s) (c : Nat) {f : FRef} (hf : blockAddr 1 0 ≤ f.addr) : z.KeepsHit (s.releaseTokens c f) :=
  h.foldl _ fun _ t hs =>
    have hadr : blockAddr 1 0 ≤ R.LCK_HOLDER t := Nat.le_trans (by decide : _ ≤ R.LCK_HOLDER 0) (Nat.le_add_right _ _)
    ((hs.setFld 0 hadr).setFld 0 hadr).count 1 hf

theorem arbStat (h : z.KeepsHit s) : z.KeepsHit s.arbStat :=
  (((((h.setFld _ (by decide)).setFld _ (by decide)).setFld _ (by decide)).setFld _ (by decide)).setFld _ (by decide)).setFld _
    (by decide)

theorem arbReqStat (h : z.KeepsHit s) (r : Nat) : z.KeepsHit (s.arbReqStat r) :=
  have hadr : blockAddr 1 0 ≤ R.ARB_REQ r := Nat.le_trans (by decide : _ ≤ R.ARB_REQ 0) (Nat.le_add_right _ _)
  (h.setFld _ hadr).setFld _ hadr

theorem releaseEngine (h : z.KeepsHit s) (e : Nat) : z.KeepsHit (s.releaseEngine e) := by
  unfold State.releaseEngine
  dsimp only
  split
  · exact ((h.setArb _).arbStat).arbReqStat _
  · exact (h.setArb _).arbStat

theorem settleClosing (h : z.KeepsHit s) : z.KeepsHit s.settleClosing := by
  refine h.foldl _ fun s c hs => ?_
  dsimp only
  split
  · exact hs
  · refine setArb ?_ _
    split
    · exact hs.releaseEngine _
    · exact hs

theorem closeSequence (h : z.KeepsHit s) (c : Nat) : z.KeepsHit (s.closeSequence c) := by
  unfold State.closeSequence
  split
  · exact h
  · exact (h.setArb _).settleClosing

/-! ## The end of an item (R298 to R300) -/

theorem setWd (h : z.KeepsHit s) (w : WdState) : z.KeepsHit (s.setWd w) := by
  unfold State.setWd
  refine setFld (setFld ?_ _ (by decide)) _ (by decide)
  exact h.upd rfl rfl rfl

theorem trace (h : z.KeepsHit s) (ev : TraceEv) (a l c st : Nat) : z.KeepsHit (s.trace ev a l c st) := by
  unfold State.trace
  split
  · exact h
  · dsimp only
    split
    · exact h.count _ (by decide)
    · split
      · exact pulse (setFld (putLe (putLe h _ _ _) _ _ _) _ (by decide)) _
      · exact setFld (putLe (putLe h _ _ _) _ _ _) _ (by decide)

theorem serveAsking (h : z.KeepsHit s) : z.KeepsHit s.serveAsking := by
  unfold State.serveAsking
  split
  · exact h
  · split
    · exact h
    · unfold State.resumeDone State.handItem
      exact setCore (setWd (trace (setWd h _) _ _ _ _ _) _) _ _

theorem enqueueItem (h : z.KeepsHit s) (i : WorkItem) (c : Nat) : z.KeepsHit (s.enqueueItem i c) := by
  unfold State.enqueueItem
  refine serveAsking (trace (setWd ?_ _) _ _ _ _ _)
  split
  · exact (h.putLe _ _ _).putLe _ _ _
  · exact h.putLe _ _ _

theorem postHeld (h : z.KeepsHit s) : z.KeepsHit s.postHeld := by
  unfold State.postHeld
  split
  · exact h
  · split
    · exact (h.setWd _).enqueueItem _ _
    · exact h

theorem postHelds (h : z.KeepsHit s) (n : Nat) : z.KeepsHit (s.postHelds n) := by
  induction n generalizing s with
  | zero => exact h
  | succ n ih => exact ih h.postHeld

theorem postQueueItem (h : z.KeepsHit s) (q l : Nat) : z.KeepsHit (s.postQueueItem q l) := by
  have hs : z.KeepsHit s.settleHeld := h.postHelds _
  unfold State.postQueueItem
  dsimp only
  split
  · exact hs
  · split
    · exact (hs.setWd _).trace _ _ _ _ _
    · exact hs.enqueueItem _ _

theorem completeItem (h : z.KeepsHit s) (c st cause pc ea : Nat) (ev : TraceEv) :
    z.KeepsHit (s.completeItem c st cause pc ea ev) := by
  unfold State.completeItem
  split
  · exact h
  · extract_lets a f s1 s2 w s3 s4 s5
    have h1 : z.KeepsHit s1 := putLe (putLe (putLe (putLe (putLe (putLe h _ _ _) _ _ _) _ _ _) _ _ _) _ _ _) _ _ _
    have h3 : z.KeepsHit s3 := trace (setWd (putLe h1 _ _ _) _) _ _ _ _ _
    have h4 : z.KeepsHit s4 := by
      unfold s4
      split
      · exact h3.pulseFree _
      · exact h3
    have h5 : z.KeepsHit s5 := (h4.releaseTokens c (by decide)).closeSequence c
    split
    · split
      · exact h5.postQueueItem _ _
      · exact h5
    · exact h5

theorem takeFree (h : z.KeepsHit s) : z.KeepsHit s.takeFree := h.upd rfl rfl rfl

theorem scrambleRegs (h : z.KeepsHit s) (c : Nat) : z.KeepsHit (s.scrambleRegs c) := by
  unfold State.scrambleRegs
  exact foldl _ (takeFree (setCore h _ _)) fun _ _ hs => takeFree (setCore (takeFree (setCore hs _ _)) _ _)

theorem itemException (h : z.KeepsHit s) (c cause pc ea : Nat) : z.KeepsHit (s.itemException c cause pc ea) := by
  unfold State.itemException
  refine setCore (scrambleRegs ?_ _) _ _
  have hend := h.completeItem c Status.fault.code (cause % 256) pc ea .fault
  split
  · exact hend.count _ (by decide)
  · exact (hend.releaseTokens c (by decide)).closeSequence c

/-- An exception of a control or work core (R92, R97, R98). -/
theorem raise (h : z.KeepsHit s) {c : Nat} (hc : c ≤ 19) (cause st ea : Nat) (imp : Bool) :
    z.KeepsHit (s.raise c cause st ea imp) := by
  unfold State.raise
  dsimp only
  by_cases h3 : c ≤ 3
  · rw [show kindOf c = .control by simp [kindOf, h3]]
    dsimp only
    split
    · exact (h.setCore _ _).pulse _
    · exact h.setCore _ _
  · rw [show kindOf c = .work by simp [kindOf, h3, hc]]
    exact h.itemException _ _ _ _

theorem plainFailed (h : z.KeepsHit s) (x : Stalled) (code : Status) : z.KeepsHit (s.plainFailed x code) := by
  unfold State.plainFailed
  split
  · exact h.raise (And.left ‹_›) _ _ _ _
  · exact h

end State.KeepsHit

end Sys2Proof.Machine
end

section
/-!
SUPPORT. A register access that fails or waits, from Table 02-9 to its requester (R41, R43, R44).
-/
namespace Sys2Proof.Machine

/-! ## The failure capture (R44) -/

section
variable (s : State) (req a : Nat) (write : Bool) (code : Status)

theorem State.captureFailure_overflow (h : s.fld F.HIT_ACCERR_STATUS_VALID = 1) :
    s.captureFailure req a write code = s.setFld F.HIT_ACCERR_STATUS_OVERFLOW 1 :=
  if_pos (by simp [State.bit, h])

theorem State.captureFailure_first (h : s.fld F.HIT_ACCERR_STATUS_VALID = 0) :
    s.captureFailure req a write code =
      ((((((s.setFld F.HIT_ACCERR_STATUS_WRITE (b2n write)).setFld F.HIT_ACCERR_STATUS_REQUESTER req).setFld
        F.HIT_ACCERR_STATUS_STATUS code.code).setFld F.HIT_ACCERR_STATUS_ADDR_HI (a / 2 ^ 32)).setFld
        F.HIT_ACCERR_ADDR_ADDR_LO a).setFld F.HIT_ACCERR_STATUS_VALID 1).pulse 23 :=
  if_neg (by simp [State.bit, h])

end

/-- What the capture of a failed access shows, and its pulse. -/
structure State.Captured (t : State) (req a : Nat) (write : Bool) (code : Status) : Prop where
  valid     : t.fld F.HIT_ACCERR_STATUS_VALID = 1
  status    : t.fld F.HIT_ACCERR_STATUS_STATUS = code.code
  requester : t.fld F.HIT_ACCERR_STATUS_REQUESTER = req
  write     : t.fld F.HIT_ACCERR_STATUS_WRITE = b2n write
  low       : t.fld F.HIT_ACCERR_ADDR_ADDR_LO = a % 2 ^ 32
  high      : t.fld F.HIT_ACCERR_STATUS_ADDR_HI = a / 2 ^ 32
  pulsed    : ∃ p ∈ t.fabric, p.line = 23

/-- The fields of the capture share no bit. -/
theorem State.captured_captureFailure {s : State} {req a : Nat} (write : Bool) (code : Status) (hreq : req < 32) (ha : a < 2 ^ 40)
    (h : s.fld F.HIT_ACCERR_STATUS_VALID = 0) : (s.captureFailure req a write code).Captured req a write code := by
  have hcode := code.code_lt
  have hb : b2n write < 2 := by cases write <;> decide
  rw [State.captureFailure_first _ _ _ _ _ h]
  constructor
  case pulsed => exact ⟨_, State.pulse_in_fabric _ 23, rfl⟩
  all_goals
    simp [State.fld_setFld_same, State.fld_setFld_other, F.HIT_ACCERR_STATUS_VALID, F.HIT_ACCERR_STATUS_STATUS,
      F.HIT_ACCERR_STATUS_REQUESTER, F.HIT_ACCERR_STATUS_WRITE, F.HIT_ACCERR_STATUS_ADDR_HI, F.HIT_ACCERR_ADDR_ADDR_LO,
      R.HIT_ACCERR_STATUS, R.HIT_ACCERR_ADDR]
  all_goals omega

/-- While an earlier capture stands, a failed access marks OVERFLOW and leaves the status captured. -/
theorem State.overflow_captureFailure {s : State} (req a : Nat) (write : Bool) (code : Status)
    (h : s.fld F.HIT_ACCERR_STATUS_VALID = 1) :
    (s.captureFailure req a write code).fld F.HIT_ACCERR_STATUS_OVERFLOW = 1 ∧
    (s.captureFailure req a write code).fld F.HIT_ACCERR_STATUS_STATUS = s.fld F.HIT_ACCERR_STATUS_STATUS := by
  rw [State.captureFailure_overflow _ _ _ _ _ h]
  exact ⟨s.fld_setFld_same 1 (by decide), s.fld_setFld_other 1 (by decide) (.inr (.inl (by decide)))⟩

section
variable (s : State) (req a : Nat) (write : Bool) (code : Status)

/-- The capture is two registers of entry 0. -/
theorem State.reg_captureFailure {b : Nat} (h : blockAddr 1 0 ≤ b) : (s.captureFailure req a write code).reg b = s.reg b := by
  have hstatus : b ≠ R.HIT_ACCERR_STATUS := Nat.ne_of_gt (Nat.lt_of_lt_of_le (by decide) h)
  have haddr : b ≠ R.HIT_ACCERR_ADDR := Nat.ne_of_gt (Nat.lt_of_lt_of_le (by decide) h)
  unfold State.captureFailure
  split
  · exact State.reg_setFld_other _ _ hstatus
  · rw [State.reg_pulse, State.reg_setFld_other _ _ hstatus, State.reg_setFld_other _ _ haddr, State.reg_setFld_other _ _ hstatus,
      State.reg_setFld_other _ _ hstatus, State.reg_setFld_other _ _ hstatus, State.reg_setFld_other _ _ hstatus]

@[simp] theorem State.mem_captureFailure : (s.captureFailure req a write code).mem = s.mem := by
  unfold State.captureFailure
  split <;> simp

@[simp] theorem State.cores_captureFailure : (s.captureFailure req a write code).cores = s.cores := by
  unfold State.captureFailure
  split <;> simp

/-! ## A failed access (R44) -/

@[simp] theorem State.resp_failAccess : (s.failAccess req a write code).bus.resp = some ⟨req, code.code, 0xFFFFFFFF⟩ := by
  unfold State.failAccess
  rfl

@[simp] theorem State.mem_failAccess : (s.failAccess req a write code).mem = s.mem := by
  unfold State.failAccess State.answer
  dsimp only
  split
  · simp
  · split <;> simp

@[simp] theorem State.cores_failAccess : (s.failAccess req a write code).cores = s.cores := by
  unfold State.failAccess State.answer
  dsimp only
  split
  · simp
  · split <;> simp

@[simp] theorem State.core_failAccess (c : Nat) : (s.failAccess req a write code).core c = s.core c := by
  rw [State.core, State.cores_failAccess, ← State.core]

@[simp] theorem State.fabric_failAccess : (s.failAccess req a write code).fabric = (s.captureFailure req a write code).fabric := by
  unfold State.failAccess State.answer
  dsimp only
  split
  · rfl
  · split <;> simp

/-- The Keeper's log and the flag of a slot engine lie outside the capture. -/
theorem State.fld_failAccess {f : FRef} (h : f.addr < blockAddr 1 0) :
    (s.failAccess req a write code).fld f = (s.captureFailure req a write code).fld f := by
  have hne (e : Nat) : f.addr ≠ (F.SE_STAT_ACCESS_FAULT e).addr :=
    Nat.ne_of_lt (Nat.lt_of_lt_of_le h (Nat.le_trans (by decide : _ ≤ R.SE_STAT 0) (Nat.le_add_right _ _)))
  have hanswer (u : State) : (u.answer req code 0xFFFFFFFF).fld f = u.fld f := rfl
  rw [State.failAccess, hanswer]
  dsimp only
  split
  · rfl
  · split
    · exact State.fld_setFld_other _ _ (by decide : 6 ≤ 31) (.inl (hne _))
    · rfl

/-- A control or work core can execute after its access has failed if it could before. -/
theorem State.live_failAccess {req : Nat} (h : req ≤ 19) : (s.failAccess req a write code).live req = s.live req := by
  have heq : s.failAccess req a write code = (s.captureFailure req a write code).answer req code 0xFFFFFFFF := by
    rw [State.failAccess, if_neg (by omega), if_neg (by omega)]
  have hfld {f : FRef} (hf : blockAddr 1 0 ≤ f.addr) : (s.failAccess req a write code).fld f = s.fld f := by
    rw [heq, State.fld, State.fld, ← s.reg_captureFailure req a write code hf]
    rfl
  have hlive (u : State) : u.live req = (u.powered (coreDomain req) && !u.held req) := by
    rw [State.live, if_neg (by omega), if_neg (by omega), Bool.and_true]
  rw [hlive, hlive, State.powered, State.held, hfld (by decide), hfld (by decide)]
  rfl

end

/-! ## A register write that fails or waits (R41, R43, R44) -/

/-- An access to a register is the bus's alone, and one that fails ends for its core as R44 gives. -/
theorem State.plainAccess_of_fail {s t : State} {x : Stalled} {code : Status} (hx : x.addr < regEnd)
    (h : s.access x = (t, .fail code)) : s.plainAccess x = t.plainFailed x code := by
  have hpba : x.addr ≠ 0x80003F8000 := by unfold regEnd at hx; omega
  simp [State.plainAccess, msixAt_of_lt_regEnd x.req hx, hpba, h]

/-- An access to a register that waits is kept. -/
theorem State.plainAccess_of_stalled {s t : State} {x : Stalled} (hx : x.addr < regEnd) (h : s.access x = (t, .stalled)) :
    s.plainAccess x = t.stallAccess x := by
  have hpba : x.addr ≠ 0x80003F8000 := by unfold regEnd at hx; omega
  simp [State.plainAccess, msixAt_of_lt_regEnd x.req hx, hpba, h]

theorem lt_regEnd_of_isReg {a : Nat} (h : isReg a = true) : a < regEnd := by
  simp only [isReg, Bool.and_eq_true, decide_eq_true_eq] at h
  exact h.2

/-- A requester with no access waiting is behind none. -/
theorem State.behind_of_none {s : State} {x : Stalled} (h : ∀ y ∈ s.bus.stalled, y.req ≠ x.req) : s.behind x = false := by
  unfold State.behind
  split
  · simp only [List.any_eq_false, Bool.and_eq_true, beq_iff_eq]
    exact fun y hy hc => h y hy hc.1
  · rfl

/-- A register write that is judged to fail. -/
theorem State.busWrite_of_fail {s : State} {req a : Nat} {code : Status} (v : Word) (hj : s.judge req a 4 = .fail code)
    (hreg : isReg a = true) (hnone : ∀ y ∈ s.bus.stalled, y.req ≠ req) :
    s.busWrite req a v = (s.failAccess req a true code).plainFailed ⟨req, a, 4, some v.toNat, 0, .plain, a⟩ code := by
  refine State.plainAccess_of_fail (lt_regEnd_of_isReg hreg) ?_
  simp [State.access, State.behind_of_none (x := ⟨req, a, 4, some v.toNat, 0, .plain, a⟩) hnone, hj]

/-- A register write that is judged to wait. -/
theorem State.busWrite_of_stall {s : State} {req a : Nat} (v : Word) (hj : s.judge req a 4 = .stall) (hreg : isReg a = true) :
    s.busWrite req a v =
      { s with bus := { s.bus with stalled := s.bus.stalled ++ [⟨req, a, 4, some v.toNat, 0, .plain, a⟩] } } := by
  refine (State.plainAccess_of_stalled (t := s) (lt_regEnd_of_isReg hreg) ?_).trans ?_
  · simp [State.access, hj]
  · simp [State.stallAccess, hj]

/-- A failed access of a requester that is no core that can execute ends with its answer. -/
theorem State.plainFailed_of_not_live {s : State} {x : Stalled} (code : Status) (h : 20 ≤ x.req ∨ s.live x.req = false) :
    s.plainFailed x code = s := by
  refine if_neg fun ⟨hreq, hlive⟩ => ?_
  rcases h with h | h
  · omega
  · exact absurd hlive (by simp [h])

/-- STATUS after entry (R92), bit by bit. -/
theorem Core.bits_entryStatus (x : Core) :
    x.entryStatus.getLsbD 0 = false ∧ x.entryStatus.getLsbD 1 = x.ie ∧ x.entryStatus.getLsbD 2 = x.sup ∧
    x.entryStatus.getLsbD 3 = true ∧ x.entryStatus.getLsbD 4 = x.status.getLsbD 4 ∧
    x.entryStatus.getLsbD 5 = x.status.getLsbD 5 := by
  unfold Core.entryStatus
  cases x.sup <;> cases x.ie <;> simp

theorem Core.entered_enter (x : Core) (epc cause eaddr vector : DWord) :
    x.Entered (x.enter epc cause eaddr vector) epc cause eaddr vector := by
  obtain ⟨hie, hpie, hppl, hexl, hsua, hfpen⟩ := x.bits_entryStatus
  exact ⟨rfl, rfl, rfl, rfl, rfl, rfl, hie, hpie, hppl, hexl, hsua, hfpen, fun _ => rfl, fun _ => rfl, rfl, rfl, rfl⟩

/-- A failed write of a control core that can execute raises its bus error (R44, R92). -/
theorem State.plainFailed_control {s : State} {req a : Nat} {w : Nat} (code : Status) (hreq : req ≤ 3) (hlive : s.live req = true)
    (hexl : (s.core req).exl = false) :
    s.plainFailed ⟨req, a, 4, some w, 0, .plain, a⟩ code =
      s.setCore req ((s.core req).enter (s.core req).pc (BitVec.ofNat 64 (256 * code.code + 0x0E)) (BitVec.ofNat 64 a)
        (s.core req).evec) := by
  have hkind : kindOf req = .control := if_pos hreq
  have hcause : ecauseOf false code.code 0x0E = BitVec.ofNat 64 (256 * code.code + 0x0E) := by
    simp [ecauseOf, Nat.mul_comm]
  rw [State.plainFailed, if_pos ⟨by dsimp only; omega, hlive⟩, State.raise, hkind]
  simp only [hexl, Option.isSome_some, if_true, MemKind.busCause, hcause]
  simp

/-! ## Slot engines never wait (R45) -/

/-- To a slot engine a domain asleep is held off. -/
theorem State.judge_engine {s : State} {req a size : Nat} (h : 20 ≤ req ∧ req ≤ 22) :
    s.judge req a size ≠ .stall ∧ (s.asleep (domainOf a) = true → s.judge req a size ≠ .go) := by
  have hoff (hs : s.asleep (domainOf a) = true) : s.powered (domainOf a) = false := by
    simp only [State.asleep, Bool.and_eq_true, Bool.not_eq_true'] at hs
    exact hs.1.1.1.1
  unfold State.judge
  refine ⟨?_, fun hs => ?_⟩
  · simp only [h, and_self, if_true]
    split_ifs <;> simp
  · simp only [h, and_self, if_true, hoff hs, hs, Bool.false_eq_true, if_false]
    split_ifs <;> simp

/-! ## The end of a wait (R43) -/

theorem locate_of_isDram {a : Nat} (h : isDram a = true) : locate a = none := by
  simp only [isDram, decide_eq_true_eq] at h
  exact if_pos (.inl (by unfold regBase; omega))

/-- What a read gets depends on the bytes that it gets alone. -/
theorem State.rdLe_congr {s t : State} (h : ∀ a, t.readByte a = s.readByte a) (a n : Nat) : t.rdLe a n = s.rdLe a n := by
  have hbytes : t.bytes a n = s.bytes a n := by
    induction n generalizing a with
    | zero => rfl
    | succ n ih => rw [State.bytes, State.bytes, h a, ih (a + 1)]
  rw [State.rdLe, State.rdLe, hbytes]

/-- A read of plain DRAM gives what lies there. -/
theorem State.memLoad_plain {s : State} {a : Nat} (n : Nat) (hd : isDram a = true) (hc : s.inCodes a = false)
    (hw : s.wrongBits a = 0) : s.memLoad a n = (s, some (s.rdLe a n)) := by
  simp only [isDram, decide_eq_true_eq] at hd
  have halias : aliasOf a = a := by
    simp only [aliasOf, isBitSet, isBitClear, Bool.and_eq_true, decide_eq_true_eq]
    rw [if_neg (by omega), if_neg (by omega)]
  have hcheck : s.checkWord a = (s, true) := by simp [State.checkWord, hw]
  simp [State.memLoad, halias, hc, hcheck]

theorem State.access_dramRead {s : State} {req a : Nat} (n : Nat) (hgo : s.judge req a n = .go) (hd : isDram a = true)
    (hc : s.inCodes a = false) (hw : s.wrongBits a = 0) :
    s.access ⟨req, a, n, none, 0, .plain, a⟩ = (s.touchDomain (domainOf a), .ok (s.rdLe a n)) := by
  have hload := State.memLoad_plain (s := s.touchDomain (domainOf a)) n hd hc hw
  have hread : (s.touchDomain (domainOf a)).rdLe a n = s.rdLe a n :=
    State.rdLe_congr (s := s) (t := s.touchDomain (domainOf a)) (fun _ => rfl) a n
  simp [State.access, State.behind, locate_of_isDram hd, hgo, State.memAccess, hload, hread]

/-- The accesses that wait, once those of a requester are taken out. -/
def State.withStalled (s : State) (l : List Stalled) : State := { s with bus := { s.bus with stalled := l } }

/-- The one access of a requester that waits is a read of plain DRAM, whose domain is up: it is answered with what lies there. -/
theorem State.stallEnd_dramRead {s : State} {req a n : Nat} {rest : List Stalled}
    (hs : s.bus.stalled = ⟨req, a, n, none, 0, .plain, a⟩ :: rest) (hnone : ∀ y ∈ rest, y.req ≠ req)
    (hup : s.asleep (domainOf a) = false) (hgo : s.judge req a n = .go) (hd : isDram a = true) (hc : s.inCodes a = false)
    (hw : s.wrongBits a = 0) :
    s.stallEnd req = ((s.withStalled rest).touchDomain (domainOf a)).answer req .ok (s.rdLe a n) := by
  have hown : s.bus.stalled.filter (fun y => y.req == req) = [⟨req, a, n, none, 0, .plain, a⟩] := by
    rw [hs, List.filter_cons_of_pos (by simp), List.filter_eq_nil_iff.mpr fun y hy => by simp [hnone y hy]]
  have hothers : s.bus.stalled.filter (fun y => y.req != req) = rest := by
    rw [hs, List.filter_cons_of_neg (by simp), List.filter_eq_self.mpr fun y hy => by simp [hnone y hy]]
  have hstays : (s.withStalled rest).asleep (domainOf a) = false := hup
  have haccess := State.access_dramRead (s := s.withStalled rest) n hgo hd hc hw
  have hread : (s.withStalled rest).rdLe a n = s.rdLe a n := State.rdLe_congr (s := s) (t := s.withStalled rest) (fun _ => rfl) a n
  unfold State.stallEnd
  rw [hown, hothers, ← State.withStalled]
  simp only [State.wakeFor, hstays, Bool.false_eq_true, if_false, ite_self, if_true, haccess, hread, List.append_nil]

/-! ## Wide values (R40) -/

/-- A place in the active view keeps its offset. -/
theorem place_of_active {c : Prop} [Decidable c] {n i r : Nat} {sh : Bool} {p : RegPlace}
    (h : (if c then some (⟨n, i, sh, if sh then r - 0x800 else r⟩ : RegPlace) else none) = some p) (hp : p.shadow = false) :
    p.entry = n ∧ p.inst = i ∧ p.off = r := by
  split at h
  · obtain rfl := Option.some.inj h
    exact ⟨rfl, rfl, if_neg (ne_true_of_eq_false hp)⟩
  · exact absurd h.symm (Option.some_ne_none p)

/-- The address that a place in the active view stands for. -/
theorem blockAddr_of_locate {a : Nat} {p : RegPlace} (h : locate a = some p) (hp : p.shadow = false) :
    blockAddr p.entry p.inst + p.off = a := by
  unfold locate at h
  split at h
  · exact absurd h.symm (Option.some_ne_none p)
  next hrange =>
    have hbase : regBase = 0x8000000000 := rfl
    extract_lets n o at h
    split at h
    · exact absurd h.symm (Option.some_ne_none p)
    next e _ =>
      extract_lets i r at h
      obtain ⟨hentry, hinst, hoff⟩ := place_of_active h hp
      have hparts : 0x1000 * i + r = o := by
        unfold i r
        by_cases h1 : e.insts = 1
        · rw [if_pos h1, if_pos h1]
          omega
        · rw [if_neg h1, if_neg h1]
          omega
      rw [hentry, hinst, hoff]
      unfold blockAddr
      omega

/-- An entry appended to a list that held no other with its marks is the one found. -/
theorem find?_filter_append {α : Type} (l : List α) (x : α) {q : α → Bool} (hx : q x = true) :
    (l.filter (fun c => !q c) ++ [x]).find? q = some x := by
  have hnone : (l.filter (fun c => !q c)).find? q = none :=
    List.find?_eq_none.mpr fun y hy => by simpa using (List.mem_filter.mp hy).2
  rw [List.find?_append, hnone, Option.none_or, List.find?_singleton, if_pos hx]

@[simp] theorem State.latchOf_setLatch (s : State) (req a : Nat) (w : Word) : (s.setLatch req a w).latchOf req a = some w := by
  rw [State.latchOf, State.setLatch_bus]
  dsimp only
  rw [find?_filter_append _ _ (by simp), Option.map_some]

@[simp] theorem State.captureOf_setCapture (s : State) (req lo : Nat) (ws : List Word) :
    (s.setCapture req lo ws).captureOf req lo = some ws := by
  rw [State.captureOf, State.setCapture_bus]
  dsimp only
  rw [find?_filter_append _ _ (by simp), Option.map_some]

/-- A write of a part below the highest fills its latch and nothing else. -/
theorem State.regApply_lower {s : State} {req : Nat} {p : RegPlace} {r : RegSpec} {k : Nat} {v : Word} {lo : Nat} {hs : List Nat}
    (hw : wideGroup p = some (lo :: hs)) (hl : s.lockedNow p r k = false)
    (hne : blockAddr p.entry p.inst + p.off ≠ (lo :: hs).getLastD 0) :
    s.regApply req p r k v = s.setLatch req (blockAddr p.entry p.inst + p.off) v := by
  unfold State.regApply
  rw [hw]
  dsimp only
  rw [hl, if_neg Bool.false_ne_true, if_pos hne]

/-- A part below the highest is not the last. -/
theorem ne_getLastD_of_mem_dropLast {l : List Nat} {a : Nat} (d : Nat) (ha : a ∈ l.dropLast) (hl : l.Nodup) :
    a ≠ l.getLastD d := by
  have hne : l ≠ [] := by
    rintro rfl
    simp at ha
  rw [← List.dropLast_append_getLast hne, List.nodup_append] at hl
  rw [List.getLastD_eq_getLast?, List.getLast?_eq_some_getLast hne, Option.getD_some]
  exact hl.2.2 a ha _ (List.mem_singleton_self _)

/-- A read of the lowest part captures the higher ones. -/
theorem State.regRead_lowest {s : State} {req : Nat} {p : RegPlace} {hs : List Nat} (hr : (regAt p).isSome = true)
    (hw : wideGroup p = some ((blockAddr p.entry p.inst + p.off) :: hs)) :
    ∃ ws, (s.regRead req p).1.captureOf req (blockAddr p.entry p.inst + p.off) = some ws ∧ ws.length = hs.length := by
  unfold State.regRead
  split
  next hn => simp [hn] at hr
  next r k _ _ =>
    dsimp only
    rw [hw]
    dsimp only
    rw [if_pos rfl]
    exact ⟨_, State.captureOf_setCapture _ _ _ _, List.length_map _⟩

/-! ## Lingering domains (R363) -/

theorem State.powered_setFld (s : State) (v d : Nat) (hd : d < 17) : (s.setFld F.PWR_DOMAINS_ON v).powered d = v.testBit d := by
  rw [State.powered, State.fld_setFld_same _ _ (by decide), bitOf, Nat.testBit_mod_two_pow]
  simp [F.PWR_DOMAINS_ON, hd]

/-- A domain other than PD_SEC that goes down is down. -/
theorem State.powered_dropDomain (s : State) {d : Nat} (h : d < 16) : (s.dropDomain d).powered d = false := by
  rw [State.dropDomain, if_neg (by omega), State.powered_setFld _ _ _ (by omega), BitVec.testBit_toNat,
    setBits_getLsbD _ _ (by omega), if_pos ⟨le_rfl, le_rfl⟩, Nat.zero_testBit]

@[simp] theorem State.mem_fnsOff (s : State) (d : Nat) : (s.fnsOff d).mem = s.mem :=
  List.foldlRecOn (motive := fun u : State => u.mem = s.mem) _ _ rfl fun _ hu _ _ => hu

@[simp] theorem State.cores_fnsOff (s : State) (d : Nat) : (s.fnsOff d).cores = s.cores :=
  List.foldlRecOn (motive := fun u : State => u.cores = s.cores) _ _ rfl fun _ hu _ _ => hu

theorem State.lingerExpiry_eq {s : State} {d : Nat} (hp : s.powered d = true) (hh : s.stateHolds d = false)
    (ht : SMap.get (fun _ => 0) s.pwr.lastAccess d + s.linger ≤ s.clock)
    (hn : ∀ x ∈ powerOrder, s.powered x = true → d ∉ requires x) : s.lingerExpiry d = s.dropDomain d := by
  refine if_pos ⟨hp, hh, ht, ?_⟩
  simpa [List.any_eq_true] using hn

@[simp] theorem State.captureOf_answer (s : State) (req : Nat) (code : Status) (v r a : Nat) :
    (s.answer req code v).captureOf r a = s.captureOf r a := (rfl)

@[simp] theorem State.latchOf_answer (s : State) (req : Nat) (code : Status) (v r a : Nat) :
    (s.answer req code v).latchOf r a = s.latchOf r a := (rfl)

@[simp] theorem State.lockedNow_touchDomain (s : State) (d : Nat) (p : RegPlace) (r : RegSpec) (k : Nat) :
    (s.touchDomain d).lockedNow p r k = s.lockedNow p r k := (rfl)

/-! ## The rows -/

theorem exec_registerWrite (req : Fin 32) (addr : BitVec 40) (v : Word) (s : State) :
    exec (.registerWrite req addr v) s = .next (s.busWrite req addr.toNat v) := rfl

theorem exec_wideValueLowRead (req : Fin 32) (addr : BitVec 40) (s : State) :
    exec (.wideValueLowRead req addr) s = .next (s.busRead req addr.toNat) := rfl

theorem exec_accessStallEnd (req : Fin 32) (s : State) : exec (.accessStallEnd req) s = .next (s.stallEnd req) := rfl

theorem exec_domainLingerExpiry (d : Fin 17) (s : State) : exec (.domainLingerExpiry d) s = .next (s.lingerExpiry d) := rfl

@[simp] theorem State.mem_dropDomain (s : State) {d : Nat} (h : d < 16) : (s.dropDomain d).mem = s.mem := by
  rw [State.dropDomain, if_neg (by omega), State.setFld_mem, State.mem_fnsOff]

@[simp] theorem State.core_dropDomain (s : State) {d : Nat} (h : d < 16) (c : Nat) : (s.dropDomain d).core c = s.core c := by
  rw [State.dropDomain, if_neg (by omega), State.core, State.setFld_cores, State.cores_fnsOff, ← State.core]

/-- Settles O36: a failed access is captured and answered before its core's bus error, which leaves the capture alone; each other
outcome of Table 02-9, the two halves of a wide value and the linger rule come to their equations. -/
theorem accessesFailStallAndWake : Obligations.AccessesFailStallAndWake := by
  refine ⟨fun req addr v s code hj hreg hnone => ?fails, fun s req a size h1 h2 => State.judge_engine ⟨h1, h2⟩,
    fun req addr v s hj hreg => ?waits, fun req a n s rest hs hnone hup hgo hd hc hw => ?wakes,
    fun req addr v s p r k lo hs hallow htap hw hmem hl hnd => ?latches, fun req addr s p hs hp hsh hr hgo hfirst hw => ?captures,
    fun d s hd hp hh ht hn => ?lingers⟩
  case fails =>
    have hexec := exec_registerWrite req addr v s
    rw [State.busWrite_of_fail v hj hreg hnone] at hexec
    have hkeep := (State.KeepsHit.refl (s.failAccess req addr.toNat true code)).plainFailed
      ⟨req, addr.toNat, 4, some v.toNat, 0, .plain, addr.toNat⟩ code
    have hfld {f : FRef} (hf : f.addr < blockAddr 1 0) := (hkeep.fld hf).trans (s.fld_failAccess req addr.toNat true code hf)
    refine ⟨_, hexec, by rw [hkeep.bus, State.resp_failAccess], fun hoff => ?_, fun hctl hlive hexl => ?_, fun hv => ?_,
      fun hv => ?_⟩
    · rw [State.plainFailed_of_not_live]
      · exact ⟨State.mem_failAccess _ _ _ _ _, State.cores_failAccess _ _ _ _ _⟩
      · refine (Nat.lt_or_ge 19 req.val).imp_right fun h => ?_
        exact (State.live_failAccess _ _ _ _ h).trans (hoff.resolve_left (by omega))
    · have hstill := (s.live_failAccess addr.toNat true code (by omega : req.val ≤ 19)).trans hlive
      rw [State.plainFailed_control code hctl hstill (by rwa [State.core_failAccess]), State.core_setCore_same, State.core_failAccess]
      exact ⟨State.mem_failAccess _ _ _ _ _, Core.entered_enter _ _ _ _ _⟩
    · obtain ⟨hvalid, hstatus, hreq, hwrite, hlow, hhigh, p, hp, hline⟩ :=
        State.captured_captureFailure true code req.isLt addr.isLt hv
      refine ⟨(hfld (by decide)).trans hvalid, (hfld (by decide)).trans hstatus, (hfld (by decide)).trans hreq,
        (hfld (by decide)).trans hwrite, (hfld (by decide)).trans hlow, (hfld (by decide)).trans hhigh, p,
        hkeep.fabric p ?_, hline⟩
      rwa [State.fabric_failAccess]
    · obtain ⟨hover, hstatus⟩ := State.overflow_captureFailure req addr.toNat true code hv
      exact ⟨(hfld (by decide)).trans hover, (hfld (by decide)).trans hstatus⟩
  case waits => exact ⟨_, (exec_registerWrite req addr v s).trans (congrArg _ (State.busWrite_of_stall v hj hreg)), rfl, rfl⟩
  case wakes =>
    exact ⟨_, (exec_accessStallEnd req s).trans (congrArg _ (State.stallEnd_dramRead hs hnone hup hgo hd hc hw)), rfl, rfl, rfl⟩
  case latches =>
    refine ⟨_, hallow.exec_untaped rfl htap, ?_⟩
    have hadr := blockAddr_of_locate hallow.place hallow.active
    rw [State.regApply_lower hw (by simpa using hl) (hadr ▸ ne_getLastD_of_mem_dropLast 0 hmem hnd), hadr]
    exact ⟨rfl, by simp⟩
  case captures =>
    have hadr := blockAddr_of_locate hp hsh
    obtain ⟨ws, hws, hlen⟩ := State.regRead_lowest (s := s.touchDomain (domainOf addr.toNat)) (req := req) hr (hadr.symm ▸ hw)
    rw [hadr] at hws
    exact ⟨_, (exec_wideValueLowRead req addr s).trans (congrArg _ (State.busRead_of_go hp hsh hgo hfirst)), ws,
      (State.captureOf_answer _ _ _ _ _ _).trans hws, hlen⟩
  case lingers =>
    have hlt : d.val < 16 := by omega
    exact ⟨_, (exec_domainLingerExpiry d s).trans (congrArg _ (State.lingerExpiry_eq hp hh ht hn)),
      State.powered_dropDomain s hlt,
      State.mem_dropDomain s hlt, State.core_dropDomain s hlt⟩

end Sys2Proof.Machine
end

section
/-!
SUPPORT. The reference of the time PLL, captures and the TOD receivers (R57, R66, R67).
-/
namespace Sys2Proof.Machine

/-! ## The reference (R57) -/

section
variable {s : State}

/-- REF10 gone: absent and marked lost, with EV7 (R57). -/
def State.refGone (s : State) : State := ((s.setFld F.TSEL_REF_REF_PRESENT 0).setFld F.TSEL_REF_REF_LOST 1).pulse 7

@[simp] theorem State.fld_present_refGone : s.refGone.fld F.TSEL_REF_REF_PRESENT = 0 := by
  rw [State.refGone, State.fld_pulse, State.fld_setFld_other _ _ (by decide) (by decide), State.fld_setFld_same _ _ (by decide)]
  rfl

@[simp] theorem State.fld_lost_refGone : s.refGone.fld F.TSEL_REF_REF_LOST = 1 := by
  rw [State.refGone, State.fld_pulse, State.fld_setFld_same _ _ (by decide)]
  rfl

@[simp] theorem State.fld_active_refGone : s.refGone.fld F.TSEL_REF_ACTIVE = s.fld F.TSEL_REF_ACTIVE := by
  rw [State.refGone, State.fld_pulse, State.fld_setFld_other _ _ (by decide) (by decide),
    State.fld_setFld_other _ _ (by decide) (by decide)]

@[simp] theorem State.fld_src_refGone : s.refGone.fld F.TSEL_REF_SRC = s.fld F.TSEL_REF_SRC := by
  rw [State.refGone, State.fld_pulse, State.fld_setFld_other _ _ (by decide) (by decide),
    State.fld_setFld_other _ _ (by decide) (by decide)]

theorem State.refLost_absent (h : s.fld F.TSEL_REF_REF_PRESENT = 0) : s.refLost = s :=
  if_pos (by simp [State.bit, h])

theorem State.refLost_fallback (h : s.fld F.TSEL_REF_REF_PRESENT = 1) (hsrc : 2 ≤ s.fld F.TSEL_REF_SRC) :
    s.refLost = s.refGone.setFld F.TSEL_REF_ACTIVE 0 :=
  (if_neg (by simp [State.bit, h])).trans (if_pos (State.fld_src_refGone.symm ▸ hsrc))

theorem State.refLost_held (h : s.fld F.TSEL_REF_REF_PRESENT = 1) (hsrc : s.fld F.TSEL_REF_SRC < 2) :
    s.refLost = { s.refGone with time := { s.refGone.time with pllHeld := s.refGone.bit F.TSEL_REF_ACTIVE } } :=
  (if_neg (by simp [State.bit, h])).trans (if_neg (by rw [← State.refGone, State.fld_src_refGone]; omega))

/-- REF10 present from now on (R57). -/
def State.refHere (s : State) : State :=
  { s.setFld F.TSEL_REF_REF_PRESENT 1 with time := { s.time with refEver := true, refSince := s.clock, pllHeld := false } }

@[simp] theorem State.fld_refHere (f : FRef) : s.refHere.fld f = (s.setFld F.TSEL_REF_REF_PRESENT 1).fld f := rfl

theorem State.refArrive_eq (h : s.fld F.TSEL_REF_REF_PRESENT = 0) :
    s.refArrive = if s.fld F.TSEL_REF_SRC = 1 then s.refHere.setFld F.TSEL_REF_ACTIVE 1 else s.refHere := by
  have hsrc : s.refHere.fld F.TSEL_REF_SRC = s.fld F.TSEL_REF_SRC := s.fld_setFld_other 1 (by decide) (by decide)
  rw [← hsrc]
  exact if_neg (by simp [State.bit, h])

theorem State.refReturn_due (h : s.fld F.TSEL_REF_REF_PRESENT = 1) (hsrc : 2 ≤ s.fld F.TSEL_REF_SRC)
    (ht : s.time.refSince + 10 * secU ≤ s.clock) (ha : s.fld F.TSEL_REF_ACTIVE = 0) :
    s.refReturn = s.setFld F.TSEL_REF_ACTIVE 1 :=
  if_pos (by simp [State.bit, h, hsrc, ht, ha])

theorem State.refReturn_early (ht : s.clock < s.time.refSince + 10 * secU) : s.refReturn = s :=
  if_neg (by simp [Nat.not_le.mpr ht])

end

/-! ## Nearest multiples of 62.5 ps -/

theorem captureRound_near {e : Int} (h0 : 0 ≤ e) (h1 : e + 2 ^ 28 < ntMod) :
    (captureRound e : Int) - e ≤ 2 ^ 27 ∧ e - (captureRound e : Int) < 2 ^ 27 := by
  simp only [captureRound, ntMod, secU] at *
  omega

theorem captureRound_lt (e : Int) : captureRound e < ntMod := by
  simp only [captureRound, ntMod, secU]
  omega

theorem captureRound_mod (e : Int) : captureRound e % 2 ^ 28 = 0 := by
  simp only [captureRound, ntMod, secU]
  omega

/-- The four registers of an NT image hold a time of a whole number of 2^-16 ns. -/
theorem ntImage_eq {u : Nat} (h : u < ntMod) (hf : u % 2 ^ 16 = 0) :
    ntNs u % 2 ^ 30 * 2 ^ 32 + ntFrac u % 2 ^ 16 * 2 ^ 16 + (ntSec u % 2 ^ 32 + 2 ^ 32 * (ntSec u / 2 ^ 32 % 2 ^ 16)) * secU = u := by
  simp only [ntNs, ntFrac, ntSec, nsU, ntMod, secU] at *
  omega

/-! ## The capture registers of one input of a domain (R66) -/

/-- The NT that the registers of an input hold. -/
def State.capNt (t : State) (d k : Nat) : Nat :=
  t.fld (F.NT_CAP_NS_NS d k) * 2 ^ 32 + t.fld (F.NT_CAP_FRAC_FRAC d k) * 2 ^ 16 +
    (t.fld (F.NT_CAP_SEC_LO_SEC_LO d k) + 2 ^ 32 * t.fld (F.NT_CAP_SEC_HI_SEC_HI d k)) * secU

/-- The NT of an edge in a domain, less the input's delay. -/
def State.edgeNt (s : State) (d k phase : Nat) : Int :=
  (((s.dom d).units + s.incr d * phase / 2 ^ 16 : Nat) : Int) - sgn 32 (s.fld (F.NT_IN_DELAY_DELAY d k)) * 2 ^ 16

/-- What the capture of an edge leaves in the registers of an input. -/
structure State.Latched (z t : State) (d k phase : Nat) : Prop where
  nt      : t.capNt d k = captureRound (z.edgeNt d k phase)
  valid   : t.fld (F.NT_CAP_STAT_VALID d k) = 1
  overrun : z.fld (F.NT_CAP_STAT_VALID d k) = 1 → t.fld (F.NT_CAP_STAT_OVERRUN d k) = 1

/-- The registers that a capture writes: the image and NT_CAP_STAT of one input. -/
def InCapture (d k a : Nat) : Prop := R.NT_CAP_FRAC d k ≤ a ∧ a ≤ R.NT_CAP_STAT d k

section
variable (s : State) (d k phase : Nat)

theorem State.time_setImage (frac ns lo hi : FRef) (u : Nat) : (s.setImage frac ns lo hi u).time = s.time := rfl

/-- The value that a capture writes. -/
def State.capImage : State :=
  s.setImage (F.NT_CAP_FRAC_FRAC d k) (F.NT_CAP_NS_NS d k) (F.NT_CAP_SEC_LO_SEC_LO d k) (F.NT_CAP_SEC_HI_SEC_HI d k)
    (captureRound (s.edgeNt d k phase))

/-- A capture writes its image, marks OVERRUN over an unread one, then VALID and COUNT. -/
theorem State.captureDom_eq : s.captureDom d k phase =
    ((if (s.capImage d k phase).bit (F.NT_CAP_STAT_VALID d k) then
      (s.capImage d k phase).setFld (F.NT_CAP_STAT_OVERRUN d k) 1 else s.capImage d k phase).setFld
        (F.NT_CAP_STAT_VALID d k) 1).countWrap (F.NT_CAP_STAT_COUNT d k) := rfl

end
section
variable {s : State} {d k phase : Nat}

theorem State.reg_setFld_outside {f : FRef} {a : Nat} (v : Nat) (hf : InCapture d k f.addr) (h : ¬ InCapture d k a) :
    (s.setFld f v).reg a = s.reg a :=
  State.reg_setFld_other _ _ fun e => h (e ▸ hf)

/-- The registers of an input follow each other from NT_CAP_FRAC to NT_CAP_STAT. -/
theorem inCapture_add {n : Nat} (h : n ≤ 16) : InCapture d k (0x8000020100 + n + 0x1000 * d + 0x20 * k) := by
  simp only [InCapture, R.NT_CAP_FRAC, R.NT_CAP_STAT]
  omega

theorem inCapture_frac : InCapture d k (R.NT_CAP_FRAC d k) := inCapture_add (by decide : 0 ≤ 16)
theorem inCapture_ns : InCapture d k (R.NT_CAP_NS d k) := inCapture_add (by decide : 4 ≤ 16)
theorem inCapture_lo : InCapture d k (R.NT_CAP_SEC_LO d k) := inCapture_add (by decide : 8 ≤ 16)
theorem inCapture_hi : InCapture d k (R.NT_CAP_SEC_HI d k) := inCapture_add (by decide : 12 ≤ 16)
theorem inCapture_stat : InCapture d k (R.NT_CAP_STAT d k) := inCapture_add (by decide : 16 ≤ 16)

theorem State.reg_capImage {a : Nat} (h : ¬ InCapture d k a) : (s.capImage d k phase).reg a = s.reg a := by
  rw [State.capImage, State.setImage, State.reg_setFld_outside _ inCapture_hi h, State.reg_setFld_outside _ inCapture_lo h,
    State.reg_setFld_outside _ inCapture_ns h, State.reg_setFld_outside _ inCapture_frac h]

/-- A capture writes no other register. -/
theorem State.reg_captureDom {a : Nat} (h : ¬ InCapture d k a) : (s.captureDom d k phase).reg a = s.reg a := by
  rw [State.captureDom_eq, State.countWrap, State.reg_setFld_outside _ inCapture_stat h,
    State.reg_setFld_outside _ inCapture_stat h]
  split
  · rw [State.reg_setFld_outside _ inCapture_stat h, State.reg_capImage h]
  · exact State.reg_capImage h

/-- The four registers of the image lie apart, and NT_CAP_STAT apart from them. -/
theorem State.capNt_capImage : (s.capImage d k phase).capNt d k = captureRound (s.edgeNt d k phase) := by
  rw [← ntImage_eq (captureRound_lt _) (by have := captureRound_mod (s.edgeNt d k phase); omega)]
  simp [State.capNt, State.capImage, State.setImage, State.fld_setFld_same, State.fld_setFld_other, F.NT_CAP_FRAC_FRAC, F.NT_CAP_NS_NS,
    F.NT_CAP_SEC_LO_SEC_LO, F.NT_CAP_SEC_HI_SEC_HI, R.NT_CAP_FRAC, R.NT_CAP_NS, R.NT_CAP_SEC_LO, R.NT_CAP_SEC_HI]

theorem State.fld_valid_capImage :
    (s.capImage d k phase).fld (F.NT_CAP_STAT_VALID d k) = s.fld (F.NT_CAP_STAT_VALID d k) := by
  simp [State.capImage, State.setImage, State.fld_setFld_other, F.NT_CAP_FRAC_FRAC, F.NT_CAP_NS_NS, F.NT_CAP_SEC_LO_SEC_LO,
    F.NT_CAP_SEC_HI_SEC_HI, F.NT_CAP_STAT_VALID, R.NT_CAP_FRAC, R.NT_CAP_NS, R.NT_CAP_SEC_LO, R.NT_CAP_SEC_HI, R.NT_CAP_STAT]

/-- Marks of NT_CAP_STAT leave the image alone. -/
theorem State.capNt_setFld {f : FRef} (v : Nat) (h : f.addr = R.NT_CAP_STAT d k) : (s.setFld f v).capNt d k = s.capNt d k := by
  have hne {g : FRef} (hg : g.addr ≠ R.NT_CAP_STAT d k) : (s.setFld f v).fld g = s.fld g := by
    rw [State.fld, State.fld, State.reg_setFld_other s v (h ▸ hg)]
  unfold State.capNt
  rw [hne, hne, hne, hne] <;> simp [F.NT_CAP_FRAC_FRAC, F.NT_CAP_NS_NS, F.NT_CAP_SEC_LO_SEC_LO, F.NT_CAP_SEC_HI_SEC_HI,
    R.NT_CAP_FRAC, R.NT_CAP_NS, R.NT_CAP_SEC_LO, R.NT_CAP_SEC_HI, R.NT_CAP_STAT]

theorem State.latched_captureDom : s.Latched (s.captureDom d k phase) d k phase where
  nt := by
    rw [State.captureDom_eq, State.countWrap, State.capNt_setFld _ rfl, State.capNt_setFld _ rfl]
    split
    · rw [State.capNt_setFld _ rfl, State.capNt_capImage]
    · exact State.capNt_capImage
  valid := by
    rw [State.captureDom_eq, State.countWrap, State.fld_setFld_other _ _ (by decide : 15 ≤ 31) (.inr (.inr (by decide : 15 < 31))),
      State.fld_setFld_same _ _ (by decide : 31 ≤ 31)]
    rfl
  overrun h := by
    rw [State.captureDom_eq, if_pos (by simp [State.bit, State.fld_valid_capImage, h]), State.countWrap,
      State.fld_setFld_other _ _ (by decide : 15 ≤ 31) (.inr (.inr (by decide : 15 < 30))),
      State.fld_setFld_other _ _ (by decide : 31 ≤ 31) (.inr (.inl (by decide : 30 < 31))), State.fld_setFld_same _ _ (by decide : 30 ≤ 31)]
    rfl

@[simp] theorem State.time_captureDom : (s.captureDom d k phase).time = s.time := by
  rw [State.captureDom_eq, State.countWrap, State.setFld_time, State.setFld_time]
  split <;> simp only [State.setFld_time, State.capImage, State.time_setImage]

@[simp] theorem State.ticks_captureDom : (s.captureDom d k phase).ticks = s.ticks := by
  rw [State.captureDom_eq, State.countWrap, State.setFld_ticks, State.setFld_ticks]
  split <;> simp only [State.setFld_ticks, State.capImage, State.setImage]

/-- What a capture leaves rests on the image and NT_CAP_STAT of the input alone. -/
theorem State.Latched.of_reg {z t u : State} (h : z.Latched t d k phase) (hu : ∀ a, InCapture d k a → u.reg a = t.reg a) :
    z.Latched u d k phase := by
  have hfld {f : FRef} (hf : InCapture d k f.addr) : u.fld f = t.fld f := by rw [State.fld, State.fld, hu _ hf]
  have hnt : u.capNt d k = t.capNt d k := by
    unfold State.capNt
    rw [hfld inCapture_ns, hfld inCapture_frac, hfld inCapture_lo, hfld inCapture_hi]
  exact ⟨hnt.trans h.nt, (hfld inCapture_stat).trans h.valid, fun ho => (hfld inCapture_stat).trans (h.overrun ho)⟩

theorem InCapture.other {a e : Nat} (hne : d ≠ e) (h : InCapture d k a) : ¬ InCapture e k a := by
  simp only [InCapture, R.NT_CAP_FRAC, R.NT_CAP_STAT] at *
  omega

/-- A capture in one domain leaves what the other is about to capture. -/
theorem State.Latched.after_other {e : Nat} {t : State} (hk : k < 5) (hne : d ≠ e)
    (h : (s.captureDom e k phase).Latched t d k phase) : s.Latched t d k phase := by
  have hfld {f : FRef} (hf : ¬ InCapture e k f.addr) : (s.captureDom e k phase).fld f = s.fld f := by
    rw [State.fld, State.fld, State.reg_captureDom hf]
  have hdom : (s.captureDom e k phase).dom d = s.dom d := by simp [State.dom]
  have hincr : (s.captureDom e k phase).incr d = s.incr d := by
    unfold State.incr State.wide2
    rw [hfld, hfld] <;> simp only [InCapture, F.NT_INCR_LO_INCR_LO, F.NT_INCR_HI_INCR_HI, R.NT_INCR_LO, R.NT_INCR_HI,
      R.NT_CAP_FRAC, R.NT_CAP_STAT] <;> omega
  have hdelay : (s.captureDom e k phase).fld (F.NT_IN_DELAY_DELAY d k) = s.fld (F.NT_IN_DELAY_DELAY d k) :=
    hfld (by simp only [InCapture, F.NT_IN_DELAY_DELAY, R.NT_IN_DELAY, R.NT_CAP_FRAC, R.NT_CAP_STAT]; omega)
  have hedge : (s.captureDom e k phase).edgeNt d k phase = s.edgeNt d k phase := by
    unfold State.edgeNt
    rw [hdom, hincr, hdelay]
  have hvalid := hfld (f := F.NT_CAP_STAT_VALID d k) (inCapture_stat.other hne)
  exact ⟨hedge ▸ h.nt, h.valid, fun hv => h.overrun (hvalid.trans hv)⟩

/-! ## An edge at an input (R66, R67) -/

@[simp] theorem State.time_pulseNext (l : Nat) : (s.pulseNext l).time = s.time := by
  unfold State.pulseNext
  split <;> rfl

@[simp] theorem State.reg_pulseNext (l a : Nat) : (s.pulseNext l).reg a = s.reg a := by
  unfold State.pulseNext
  split <;> rfl

/-- A line that pulses on the next tick is in the fabric for it (R120). -/
theorem State.pulseNext_in_fabric (l : Nat) {n : Nat} (ht : s.ticks = n) : (⟨l, n + 1⟩ : Pulse) ∈ (s.pulseNext l).fabric := by
  subst ht
  unfold State.pulseNext
  split
  · rename_i h
    simp only [List.any_eq_true, Bool.and_eq_true, beq_iff_eq] at h
    obtain ⟨⟨line, tick⟩, hp, rfl, rfl⟩ := h
    exact hp
  · simp

@[simp] theorem State.time_captureAt (fall : Bool) : (s.captureAt k fall phase).time = s.time := by
  unfold State.captureAt
  cases s.capEnabled 0 k fall <;> cases s.capEnabled 1 k fall <;> simp

theorem State.captureAt_of_a {fall : Bool} (h : s.capEnabled 0 k fall = true) : s.captureAt k fall phase =
    (if s.capEnabled 1 k fall then (s.captureDom 0 k phase).captureDom 1 k phase else s.captureDom 0 k phase).pulseNext k := by
  simp [State.captureAt, h]

theorem State.captureAt_of_b {fall : Bool} (h : s.capEnabled 1 k fall = true) : s.captureAt k fall phase =
    ((if s.capEnabled 0 k fall then s.captureDom 0 k phase else s).captureDom 1 k phase).pulseNext k := by
  simp [State.captureAt, h]

/-- An edge that a domain takes is latched there, whether or not the other takes it. -/
theorem State.latched_captureAt {fall : Bool} (d : Fin 2) (hk : k < 5) (h : s.capEnabled d k fall = true) :
    s.Latched (s.captureAt k fall phase) d k phase := by
  have hpulse {t : State} {d : Nat} (ht : s.Latched t d k phase) : s.Latched (t.pulseNext k) d k phase :=
    ht.of_reg fun a _ => State.reg_pulseNext _ _
  match d with
  | 0 =>
    rw [State.captureAt_of_a h]
    refine hpulse ?_
    split
    · exact State.latched_captureDom.of_reg fun a ha => State.reg_captureDom (ha.other (by decide))
    · exact State.latched_captureDom
  | 1 =>
    rw [State.captureAt_of_b h]
    refine hpulse ?_
    split
    · exact State.latched_captureDom.after_other hk (by decide)
    · exact State.latched_captureDom

/-- An edge that a domain takes pulses its line on the next tick (R66). -/
theorem State.captureAt_pulses {fall : Bool} (d : Fin 2) (h : s.capEnabled d k fall = true) :
    (⟨k, s.ticks + 1⟩ : Pulse) ∈ (s.captureAt k fall phase).fabric := by
  match d with
  | 0 =>
    rw [State.captureAt_of_a h]
    split <;> exact State.pulseNext_in_fabric _ (by simp)
  | 1 =>
    rw [State.captureAt_of_b h]
    split <;> exact State.pulseNext_in_fabric _ (by simp)

/-- An edge on an input that is not a TOD line, or one that begins a message on it, is captured (R66, R67). -/
theorem State.latched_captureEdge {fall : Bool} (d : Fin 2) (hk : k < 5) (h : s.capEnabled d k fall = true)
    (ht : k < 3 ∨ fall = true ∧ s.todOn (k - 3) = true ∧ s.todIdle (k - 3) = true ∧ (s.todLineOf (k - 3)).2 = false) :
    s.Latched (s.captureEdge k fall phase) d k phase ∧ (⟨k, s.ticks + 1⟩ : Pulse) ∈ (s.captureEdge k fall phase).fabric := by
  have hat : s.Latched (s.captureAt k fall phase) d k phase := State.latched_captureAt d hk h
  have hpulse : (⟨k, s.ticks + 1⟩ : Pulse) ∈ (s.captureAt k fall phase).fabric := State.captureAt_pulses d h
  by_cases h3 : k < 3
  · rw [State.captureEdge, if_pos h3]
    exact ⟨hat, hpulse⟩
  · obtain ⟨rfl, hon, hidle, hseen⟩ := ht.resolve_left h3
    rw [State.captureEdge, if_neg h3, if_pos (by simp [hon, hidle, hseen])]
    exact ⟨hat.of_reg fun _ _ => rfl, hpulse⟩

theorem State.capEnabled_eq_true {fall : Bool} (hen : s.fld (F.NT_IN_CFG_EN d k) = 1)
    (h : k < 2 ∧ s.fld (F.NT_IN_CFG_EDGE d k) = b2n fall ∨ k = 2 ∧ fall = false ∨ 3 ≤ k ∧ fall = true) :
    s.capEnabled d k fall = true := by
  rcases h with ⟨h2, hedge⟩ | ⟨rfl, rfl⟩ | ⟨h3, rfl⟩
  · cases fall <;> simp [State.capEnabled, State.bit, hen, hedge, h2, b2n]
  · simp [State.capEnabled, State.bit, hen]
  · simp [State.capEnabled, State.bit, hen, h3, show ¬ k < 2 by omega]

/-! ## Time of day (R67) -/

@[simp] theorem State.tod_setTod (m : Nat) (l : List (Byte × Bool)) : (s.setTod m l).tod m = l := by
  unfold State.tod State.setTod
  split <;> rfl

theorem State.tod_congr {t : State} (h : t.time = s.time) (m : Nat) : t.tod m = s.tod m := by
  rw [State.tod, State.tod, h]

/-- The line of a TOD receiver after a byte: busy until ten bit times from now. -/
def State.todTaken (s : State) (m : Nat) (phase : Nat) : State :=
  (if ((s.todLineOf m).2 || s.todIdle m) && !(s.todLineOf m).2 then s.captureAt (3 + m) true phase else s).setTodLine m
    (some (s.clock + s.todBits m 10), false)

@[simp] theorem State.tod_todTaken (m : Nat) : (s.todTaken m phase).tod m = s.tod m := by
  have htod (t : State) (x : Option Nat × Bool) : (t.setTodLine m x).tod m = t.tod m := rfl
  rw [State.todTaken, htod]
  split
  · exact State.tod_congr (State.time_captureAt true) m
  · rfl

theorem State.todByte_room {m : Nat} (b : Byte) (hon : s.todOn m = true) (h : (s.tod m).length < 256) :
    s.todByte m b phase = (s.todTaken m phase).setTod m (s.tod m ++ [(b, (s.todLineOf m).2 || s.todIdle m)]) := by
  rw [← s.tod_todTaken m (phase := phase)] at h ⊢
  exact (if_neg (by simp [hon])).trans (if_pos h)

theorem State.todByte_full {m : Nat} (b : Byte) (hon : s.todOn m = true) (h : 256 ≤ (s.tod m).length) :
    s.todByte m b phase = (s.todTaken m phase).setFld (F.NT_TOD_DATA_OVERRUN 0 m) 1 := by
  rw [← s.tod_todTaken m (phase := phase)] at h
  exact (if_neg (by simp [hon])).trans (if_neg (Nat.not_lt.mpr h))

end

end Sys2Proof.Machine
end

section
/-!
SUPPORT. The launch outputs and TSYNC frames (R69, R70), and the events of chapter 03.
-/
namespace Sys2Proof.Machine

/-! ## Instants to 62.5 ps -/

theorem edgeRound_near (u : Nat) : edgeRound u ≤ u + 2 ^ 27 ∧ u < edgeRound u + 2 ^ 27 := by
  unfold edgeRound
  omega

theorem edgeRound_mod (u : Nat) : edgeRound u % 2 ^ 28 = 0 := Nat.mul_mod_left _ _

/-! ## Pulse outputs (R69) -/

section
variable {s : State} {j sec back : Nat}

@[simp] theorem State.out_setOut (x : OutState) : (s.setOut j x).out j = x := SMap.get_set_same _ _ _

/-- An output that is due is enabled, against fine time. -/
theorem State.fine_of_outDue (h : s.outDue j = some (sec, back)) : s.srcCoarse (s.outSrc j) = false := by
  unfold State.outDue at h
  dsimp only at h
  split at h
  · contradiction
  · rename_i hen
    simp_all

theorem ppsWidth_eq (v : Nat) : ppsWidth v = max 1 (min 999999 v) := by
  unfold ppsWidth
  split
  · omega
  · split <;> omega

theorem State.ppsEdge_of_none (h : s.outDue j = none) : s.ppsEdge j = s := by
  rw [State.ppsEdge, h]

theorem State.ppsEdge_of_due (h : s.outDue j = some (sec, back)) :
    s.ppsEdge j = s.setOut j { s.out j with
      last := some (s.outSrc j, s.srcCount (s.outSrc j)), active := true
      edge := edgeRound (s.srcCount (s.outSrc j) - back)
      endAt := edgeRound (s.srcCount (s.outSrc j) - back) + ppsWidth (s.fld (F.NT_OUT_CFG_WIDTH 0 j)) * usU } := by
  rw [State.ppsEdge, h]

/-- What a PPS output drives, by whether its pulse is in progress. -/
theorem State.ppsLevel_setOut (x : OutState) :
    (s.setOut j x).ppsLevel j = ((x.active && !s.srcCoarse (s.outSrc j)) != s.bit (F.NT_OUT_CFG_POL 0 j)) := by
  rw [State.ppsLevel, State.out_setOut]
  rfl

theorem State.ppsEnd_over (ha : (s.out j).active = true) (h : (s.out j).endAt ≤ s.outCount j) :
    s.ppsEnd j = s.setOut j { s.out j with active := false } :=
  if_pos (by simp [ha, h])

theorem State.ppsEnd_running (h : s.outCount j < (s.out j).endAt) : s.ppsEnd j = s :=
  if_neg (by simp [Nat.not_le.mpr h])

end

/-! ## Sums of bits -/

/-- A sum of distinct powers of two has the bits that it was made of. -/
theorem testBit_foldl_pow (p : Nat → Bool) (n : Nat) :
    (List.range n).foldl (fun v i => v + if p i then 2 ^ i else 0) 0 < 2 ^ n ∧
    ∀ j, ((List.range n).foldl (fun v i => v + if p i then 2 ^ i else 0) 0).testBit j = (decide (j < n) && p j) := by
  induction n with
  | zero => simp
  | succ n ih =>
    obtain ⟨hlt, hbit⟩ := ih
    have hsum (v : Nat) : v + (if p n then 2 ^ n else 0) = 2 ^ n * (if p n then 1 else 0) + v := by split <;> omega
    rw [List.range_succ, List.foldl_append, List.foldl_cons, List.foldl_nil, hsum]
    refine ⟨by rw [Nat.pow_succ]; split <;> omega, fun j => ?_⟩
    rw [Nat.testBit_two_pow_mul_add _ hlt, hbit]
    rcases Nat.lt_trichotomy j n with h | rfl | h
    · simp [h, Nat.lt_succ_of_lt h]
    · cases p j <;> simp
    · have hhigh : (if p n then 1 else 0 : Nat).testBit (j - n) = false :=
        Nat.testBit_lt_two_pow (by have := Nat.one_lt_two_pow (n := j - n) (by omega); split <;> omega)
      rw [if_neg (by omega), hhigh]
      simp [show ¬ j < n + 1 by omega]

theorem b2n_lt_two (b : Bool) : b2n b < 2 := by cases b <;> decide

/-- Bits shifted in from the right, the first ending up highest. -/
theorem testBit_foldl_shiftIn (q : Nat → Bool) (n j : Nat) :
    ((List.range n).foldl (fun a i => 2 * a + b2n (q i)) 0).testBit j = (decide (j < n) && q (n - 1 - j)) := by
  induction n generalizing j with
  | zero => simp
  | succ n ih =>
    rw [List.range_succ, List.foldl_append, List.foldl_cons, List.foldl_nil]
    cases j with
    | zero => cases h : q n <;> simp [b2n, h, Nat.add_mod]
    | succ j =>
      have hb := b2n_lt_two (q n)
      have hhalf (a : Nat) : (2 * a + b2n (q n)) / 2 = a := by omega
      rw [Nat.testBit_succ, hhalf, ih, show n + 1 - 1 - (j + 1) = n - 1 - j by omega]
      simp

/-- Each bit as two half bits: high then low for a 1, low then high for a 0. -/
theorem testBit_foldl_halves (p : Nat → Bool) (n : Nat) :
    (List.range n).foldl (fun v i => v + if p i then 4 ^ i else 2 * 4 ^ i) 0 < 2 ^ (2 * n) ∧
    ∀ i, i < n →
      ((List.range n).foldl (fun v i => v + if p i then 4 ^ i else 2 * 4 ^ i) 0).testBit (2 * i) = p i ∧
      ((List.range n).foldl (fun v i => v + if p i then 4 ^ i else 2 * 4 ^ i) 0).testBit (2 * i + 1) = !p i := by
  induction n with
  | zero => simp
  | succ n ih =>
    obtain ⟨hlt, hbit⟩ := ih
    have hpow : 2 ^ (2 * n) = 4 ^ n := Nat.pow_mul 2 2 n
    have hsum (v : Nat) : v + (if p n then 4 ^ n else 2 * 4 ^ n) = 2 ^ (2 * n) * (if p n then 1 else 2) + v := by
      split <;> omega
    rw [List.range_succ, List.foldl_append, List.foldl_cons, List.foldl_nil, hsum]
    refine ⟨by rw [Nat.mul_succ, Nat.pow_add]; split <;> omega, fun i hi => ?_⟩
    rw [Nat.testBit_two_pow_mul_add _ hlt, Nat.testBit_two_pow_mul_add _ hlt]
    rcases Nat.lt_succ_iff_lt_or_eq.mp hi with h | rfl
    · rw [if_pos (by omega), if_pos (by omega)]
      exact hbit i h
    · rw [if_neg (Nat.lt_irrefl _), if_neg (by omega : ¬ 2 * i + 1 < 2 * i), Nat.sub_self, Nat.add_sub_cancel_left]
      cases p i <;> decide

/-! ## TSYNC frames (R70, Table 03-29) -/

theorem crc16Ccitt_lt (bits : List Bool) : crc16Ccitt bits < 2 ^ 16 := by
  refine List.foldlRecOn (motive := fun c => c < 2 ^ 16) bits _ (by decide) fun c _ b _ => ?_
  dsimp only
  split
  · exact Nat.xor_lt_two_pow (by omega) (by decide)
  · omega

/-- A number of 16 bits sent highest bit first. -/
def sentFirst (c : Nat) : Nat := (List.range 16).foldl (fun v i => v + if c.testBit (15 - i) then 2 ^ i else 0) 0

theorem sentFirst_lt (c : Nat) : sentFirst c < 2 ^ 16 := (testBit_foldl_pow _ _).1

theorem testBit_sentFirst (c i : Nat) : (sentFirst c).testBit i = (decide (i < 16) && c.testBit (15 - i)) :=
  (testBit_foldl_pow _ _).2 i

/-- A receiver that shifts the bits in as they come gets the number back. -/
theorem shiftIn_sentFirst {c : Nat} (h : c < 2 ^ 16) :
    (List.range 16).foldl (fun a i => 2 * a + b2n ((sentFirst c).testBit i)) 0 = c := by
  refine Nat.eq_of_testBit_eq fun j => ?_
  rw [testBit_foldl_shiftIn, testBit_sentFirst]
  by_cases hj : j < 16
  · simp [hj, show 16 - 1 - j < 16 by omega, show 15 - (15 - j) = j by omega]
  · have hc : c < 2 ^ j := Nat.lt_of_lt_of_le h (Nat.pow_le_pow_right (by decide) (by omega))
    simp [hj, Nat.testBit_lt_two_pow hc]

/-- The 56 bits of a frame that its CRC covers. -/
def tsyncBody (sec dom : Nat) (holdover : Bool) : Nat := sec % 2 ^ 48 + 2 ^ 48 * dom + 2 ^ 49 * b2n holdover

section
variable {sec dom : Nat} {holdover : Bool}

theorem tsyncBody_lt (hd : dom < 2) : tsyncBody sec dom holdover < 2 ^ 56 := by
  have hb := b2n_lt_two holdover
  unfold tsyncBody
  omega

theorem toNat_tsyncFrame (hd : dom < 2) : (tsyncFrame sec dom holdover).toNat =
    0xA5 + 2 ^ 8 * tsyncBody sec dom holdover + 2 ^ 64 * sentFirst (crc16Ccitt (lsbBits (tsyncBody sec dom holdover) 56)) := by
  have hbody := tsyncBody_lt (sec := sec) (holdover := holdover) hd
  have hcrc := sentFirst_lt (crc16Ccitt (lsbBits (tsyncBody sec dom holdover) 56))
  have heq : tsyncFrame sec dom holdover = BitVec.ofNat 80 (0xA5 + 2 ^ 8 * tsyncBody sec dom holdover +
    2 ^ 64 * sentFirst (crc16Ccitt (lsbBits (tsyncBody sec dom holdover) 56))) := rfl
  rw [heq, BitVec.toNat_ofNat, Nat.mod_eq_of_lt (by omega)]

theorem tsyncBody_mod : tsyncBody sec dom holdover % 2 ^ 48 = sec % 2 ^ 48 := by
  unfold tsyncBody
  omega

theorem tsyncFrame_sec (sec : Nat) (holdover : Bool) (hd : dom < 2) : (tsyncFrame sec dom holdover).toNat % 256 = 0xA5 ∧
    (tsyncFrame sec dom holdover).toNat / 256 % 2 ^ 48 = sec % 2 ^ 48 := by
  have hframe := toNat_tsyncFrame (sec := sec) (holdover := holdover) hd
  have hbody := tsyncBody_lt (sec := sec) (holdover := holdover) hd
  have hsec := tsyncBody_mod (sec := sec) (dom := dom) (holdover := holdover)
  omega

theorem getLsbD_manchester (f : BitVec 80) {i : Nat} (h : i < 80) :
    (manchester f).getLsbD (2 * i) = f.getLsbD i ∧ (manchester f).getLsbD (2 * i + 1) = !f.getLsbD i := by
  obtain ⟨heven, hodd⟩ := (testBit_foldl_halves (fun i => f.getLsbD i) 80).2 i h
  rw [manchester, BitVec.getLsbD_ofNat, BitVec.getLsbD_ofNat]
  exact ⟨by simpa [show 2 * i < 160 by omega] using heven, by simpa [show 2 * i + 1 < 160 by omega] using hodd⟩

/-- The registers of a received frame that checks. -/
def State.tsyncTaken (u : State) (body : Nat) : State :=
  (((((u.setFld (F.NT_TSYNC_RX_SEC_LO_SEC_LO 0) body).setFld (F.NT_TSYNC_RX_SEC_HI_SEC_HI 0) (body / 2 ^ 32)).setFld
    (F.NT_TSYNC_RX_SEC_HI_DOMAIN 0) (body / 2 ^ 48)).setFld (F.NT_TSYNC_RX_SEC_HI_HOLDOVER 0) (body / 2 ^ 49)).setFld
    (F.NT_TSYNC_RX_SEC_HI_VALID 0) 1).pulse 6

theorem State.fld_tsyncTaken (u : State) (body : Nat) :
    (u.tsyncTaken body).fld (F.NT_TSYNC_RX_SEC_HI_VALID 0) = 1 ∧
    (u.tsyncTaken body).fld (F.NT_TSYNC_RX_SEC_LO_SEC_LO 0) = body % 2 ^ 32 ∧
    (u.tsyncTaken body).fld (F.NT_TSYNC_RX_SEC_HI_SEC_HI 0) = body / 2 ^ 32 % 2 ^ 16 := by
  simp [State.tsyncTaken, State.fld_setFld_same, State.fld_setFld_other, F.NT_TSYNC_RX_SEC_HI_VALID,
    F.NT_TSYNC_RX_SEC_LO_SEC_LO, F.NT_TSYNC_RX_SEC_HI_SEC_HI, F.NT_TSYNC_RX_SEC_HI_DOMAIN, F.NT_TSYNC_RX_SEC_HI_HOLDOVER,
    R.NT_TSYNC_RX_SEC_LO, R.NT_TSYNC_RX_SEC_HI]

/-- A frame as sent passes the receiver's check: its fields are taken, with EV6. -/
theorem State.tsyncRx_tsyncFrame (u : State) (hd : dom < 2) :
    u.tsyncRx (tsyncFrame sec dom holdover) = u.tsyncTaken (tsyncBody sec dom holdover) := by
  have hv := toNat_tsyncFrame (sec := sec) (holdover := holdover) hd
  have hbody := tsyncBody_lt (sec := sec) (holdover := holdover) hd
  generalize tsyncBody sec dom holdover = body at *
  have hcrc := sentFirst_lt (crc16Ccitt (lsbBits body 56))
  have hsync : (tsyncFrame sec dom holdover).toNat % 256 = 0xA5 := by omega
  have htaken : (tsyncFrame sec dom holdover).toNat / 2 ^ 8 % 2 ^ 56 = body := by omega
  have hbits (i : Nat) : (tsyncFrame sec dom holdover).toNat.testBit (64 + i) = (sentFirst (crc16Ccitt (lsbBits body 56))).testBit i := by
    rw [Nat.add_comm, ← Nat.testBit_div_two_pow]
    congr 1
    omega
  unfold State.tsyncRx
  simp only [hsync, htaken, hbits, ne_eq, not_true_eq_false, if_false, shiftIn_sentFirst (crc16Ccitt_lt _), if_true]
  rfl

/-- A frame as sent, once received, shows its second. -/
theorem State.tsyncRx_sent (sec : Nat) (holdover : Bool) (u : State) (hd : dom < 2) :
    let v := u.tsyncRx (tsyncFrame sec dom holdover)
    v.fld (F.NT_TSYNC_RX_SEC_HI_VALID 0) = 1 ∧ v.fld (F.NT_TSYNC_RX_SEC_LO_SEC_LO 0) = sec % 2 ^ 32 ∧
      v.fld (F.NT_TSYNC_RX_SEC_HI_SEC_HI 0) = sec / 2 ^ 32 % 2 ^ 16 ∧ ∃ p ∈ v.fabric, p.line = 6 := by
  have hsec := tsyncBody_mod (sec := sec) (dom := dom) (holdover := holdover)
  rw [State.tsyncRx_tsyncFrame u hd]
  obtain ⟨hvalid, hlow, hhigh⟩ := u.fld_tsyncTaken (tsyncBody sec dom holdover)
  exact ⟨hvalid, hlow.trans (by omega), hhigh.trans (by omega), _, State.pulse_in_fabric _ 6, rfl⟩

end

section
variable {s : State} {sec back : Nat}

/-- The domain that an output's frame names. -/
def State.outDom (s : State) (j : Nat) : Nat := if s.outSrc j = 0 then s.cur else s.outSrc j - 1

theorem State.outDom_lt (s : State) (j : Nat) : s.outDom j < 2 := by
  have hcur : s.cur < 2 := getBits_lt _ 0 0
  have hsrc : s.fld (F.NT_OUT_CFG_SRC 0 j) < 4 := getBits_lt _ 2 1
  unfold State.outDom State.outSrc
  dsimp only
  split <;> split at * <;> omega

theorem State.tsyncSend_of_none (h : s.outDue 2 = none) : s.tsyncSend = s := by
  rw [State.tsyncSend, h]

theorem State.tsyncSend_of_due (h : s.outDue 2 = some (sec, back)) :
    s.tsyncSend = s.setOut 2 { s.out 2 with
      last := some (s.outSrc 2, s.srcCount (s.outSrc 2)), edge := edgeRound (s.srcCount (s.outSrc 2) - back)
      sent := some (manchester (tsyncFrame sec (s.outDom 2) (s.bit (F.NT_CTL_HOLDOVER (s.outDom 2))))) } := by
  rw [State.tsyncSend, h]
  rfl

end

/-! ## The events of chapter 03 -/

section
variable (s : State)

theorem exec_refLost : exec .refLost s = .next s.refLost := rfl
theorem exec_ref10Arrival : exec .ref10Arrival s = .next s.refArrive := rfl
theorem exec_refReturn : exec .refReturn s = .next s.refReturn := rfl
theorem exec_captureEdge (k : Fin 5) (fall : Bool) (phase : BitVec 16) :
    exec (.captureEdge k fall phase) s = .next (s.captureEdge k fall phase.toNat) := rfl
theorem exec_todByteRx (m : Fin 2) (b : Byte) (phase : BitVec 16) :
    exec (.todByteRx m b phase) s = .next (s.todByte m b phase.toNat) := rfl
theorem exec_ppsOutEdge (j : Fin 2) : exec (.ppsOutEdge j) s = .next (s.ppsEdge j) := rfl
theorem exec_ppsPulseEnd (j : Fin 2) : exec (.ppsPulseEnd j) s = .next (s.ppsEnd j) := rfl
theorem exec_tsyncFrameSend : exec .tsyncFrameSend s = .next s.tsyncSend := rfl
theorem exec_tsyncFrameRx (f : BitVec 80) : exec (.tsyncFrameRx f) s = .next (s.tsyncRx f) := rfl

end

/-- Settles O39, event by event of chapter 03. -/
theorem referencesCapturesAndOutputs : Obligations.ReferencesCapturesAndOutputs := by
  refine ⟨fun s => ⟨fun h => ?lost, fun h => ⟨?absent, ?arrives⟩, fun h hsrc ht ha => ?returns, fun ht => ?early⟩,
    fun k fall phase d s hen hsense => ?captures, fun m b phase s hon => ?bytes,
    fun j s => ⟨fun sec back h => ?starts, fun h => ?notDue, fun ha h => ?ends, fun _ h => ?running⟩,
    fun s => ⟨fun sec back h => ?sends, fun h => ?silent⟩⟩
  case lost =>
    refine ⟨_, exec_refLost s, ?_⟩
    rcases Nat.lt_or_ge (s.fld F.TSEL_REF_SRC) 2 with hsrc | hsrc
    · rw [State.refLost_held h hsrc]
      refine ⟨State.fld_present_refGone, State.fld_lost_refGone, ⟨_, State.pulse_in_fabric _ 7, rfl⟩,
        fun h2 => absurd h2 (Nat.not_le.mpr hsrc), fun _ => ⟨State.fld_active_refGone, ?_⟩⟩
      simp [State.bit]
    · rw [State.refLost_fallback h hsrc]
      refine ⟨?_, ?_, ⟨_, State.pulse_in_fabric _ 7, rfl⟩, fun _ => State.fld_setFld_same _ _ (by decide), fun h1 => by omega⟩
      · rw [State.fld_setFld_other _ _ (by decide) (by decide), State.fld_present_refGone]
      · rw [State.fld_setFld_other _ _ (by decide) (by decide), State.fld_lost_refGone]
  case absent => exact (exec_refLost s).trans (congrArg _ (State.refLost_absent h))
  case arrives =>
    refine ⟨_, exec_ref10Arrival s, ?_⟩
    rw [State.refArrive_eq h]
    have hhere : s.refHere.fld F.TSEL_REF_REF_PRESENT = 1 := s.fld_setFld_same 1 (by decide)
    split
    · exact ⟨(State.fld_setFld_other _ _ (by decide) (by decide)).trans hhere, rfl, fun _ => State.fld_setFld_same _ _ (by decide)⟩
    · exact ⟨hhere, rfl, fun hsrc => absurd hsrc ‹_›⟩
  case returns =>
    refine ⟨_, (exec_refReturn s).trans (congrArg _ (State.refReturn_due h hsrc ht ha)), s.fld_setFld_same 1 (by decide)⟩
  case early => exact (exec_refReturn s).trans (congrArg _ (State.refReturn_early ht))
  case captures =>
    have htakes : s.capEnabled d k fall = true :=
      State.capEnabled_eq_true hen (hsense.imp_right (Or.imp_right fun h => ⟨h.1, h.2.1⟩))
    have hbegins : k.val < 3 ∨ fall = true ∧ s.todOn (k - 3) = true ∧ s.todIdle (k - 3) = true ∧ (s.todLineOf (k - 3)).2 = false := by
      rcases hsense with ⟨h, -⟩ | ⟨h, -⟩ | ⟨-, h⟩
      · exact .inl (by omega)
      · exact .inl (by omega)
      · exact .inr h
    obtain ⟨hlatched, hpulse⟩ := State.latched_captureEdge (phase := phase.toNat) d k.isLt htakes hbegins
    refine ⟨_, exec_captureEdge s k fall phase, fun h0 h1 => ?_, hlatched.valid, hlatched.overrun, _, hpulse, rfl, rfl⟩
    obtain ⟨habove, hbelow⟩ := captureRound_near h0 h1
    rw [← State.capNt, hlatched.nt]
    exact ⟨habove, hbelow, captureRound_mod _⟩
  case bytes =>
    have hexec := exec_todByteRx s m b phase
    exact ⟨fun h => ⟨_, hexec.trans (congrArg _ (State.todByte_room b hon h)), State.tod_setTod _ _⟩,
      fun h => ⟨_, hexec.trans (congrArg _ (State.todByte_full b hon h)), State.tod_todTaken _,
        State.fld_setFld_same _ _ (by decide : 30 ≤ 31)⟩⟩
  case starts =>
    refine ⟨_, (exec_ppsOutEdge s j).trans (congrArg _ (State.ppsEdge_of_due h)), ?_⟩
    obtain ⟨habove, hbelow⟩ := edgeRound_near (s.srcCount (s.outSrc j) - back)
    rw [State.ppsLevel_setOut, State.out_setOut, State.fine_of_outDue h, ← ppsWidth_eq]
    refine ⟨rfl, edgeRound_mod _, habove, hbelow, ?_, by simp⟩
    rw [Nat.mul_assoc]
    rfl
  case notDue => exact (exec_ppsOutEdge s j).trans (congrArg _ (State.ppsEdge_of_none h))
  case ends =>
    refine ⟨_, (exec_ppsPulseEnd s j).trans (congrArg _ (State.ppsEnd_over ha h)), ?_⟩
    beta_reduce
    rw [State.ppsLevel_setOut]
    simp
  case running => exact (exec_ppsPulseEnd s j).trans (congrArg _ (State.ppsEnd_running h))
  case sends =>
    have hd := s.outDom_lt 2
    obtain ⟨hsync, hsec⟩ := tsyncFrame_sec sec (s.bit (F.NT_CTL_HOLDOVER (s.outDom 2))) hd
    exact ⟨_, (exec_tsyncFrameSend s).trans (congrArg _ (State.tsyncSend_of_due h)), _, _,
      congrArg OutState.sent (State.out_setOut _), fun i hi => getLsbD_manchester _ hi, hsync, hsec,
      fun u => ⟨_, exec_tsyncFrameRx u _, State.tsyncRx_sent sec _ u hd⟩⟩
  case silent => exact (exec_tsyncFrameSend s).trans (congrArg _ (State.tsyncSend_of_none h))

end Sys2Proof.Machine
end

section
/-!
SUPPORT. What the ledger's own work leaves: entries of the journal, programs of NAND pages and entries of the audit log change the
ledger, the arbiter, the cipher engine's counters, the fabric and late registers, and nothing else of the state (R332 to R334, R384).
-/
namespace Sys2Proof.Machine

/-- A field that ledger work may set: of the arbiter's registers or later ones, and of PWR_DOMAINS no domain below 16. -/
abbrev FRef.OfLedger (f : FRef) : Prop := blockAddr 27 0 ≤ f.addr ∧ f.msb ≤ 31 ∧ (f.addr = R.PWR_DOMAINS → 16 ≤ f.lsb)

/-- The state differs as ledger work may make it differ. -/
structure State.LedgerWork (z t : State) : Prop where
  rest    : t = { z with regs := t.regs, fabric := t.fabric, arb := t.arb, ldg := t.ldg, cph := t.cph }
  reg     : ∀ a, a < blockAddr 27 0 → t.reg a = z.reg a
  powered : ∀ d, d < 16 → t.powered d = z.powered d

/-- The domains below 16 keep their power when a field beside their bits is set. -/
theorem State.powered_setFld_other (s : State) {f : FRef} (v : Nat) {d : Nat} (hf : f.OfLedger) (hd : d < 16) :
    (s.setFld f v).powered d = s.powered d := by
  obtain ⟨-, hm, hlow⟩ := hf
  simp only [State.powered, bitOf, State.fld, State.setFld, State.reg_setReg, getBits_testBit]
  split
  · rename_i h
    have := hlow h.symm
    rw [setBits_getLsbD _ _ hm, if_neg (by simp only [F.PWR_DOMAINS_ON]; omega), h]
  · rfl

namespace State.LedgerWork

variable {z s : State}

theorem refl (s : State) : s.LedgerWork s := ⟨rfl, fun _ _ => rfl, fun _ _ => rfl⟩

theorem trans {t : State} (h : z.LedgerWork s) (k : s.LedgerWork t) : z.LedgerWork t where
  rest := k.rest.trans (by rw [h.rest])
  reg a ha := (k.reg a ha).trans (h.reg a ha)
  powered d hd := (k.powered d hd).trans (h.powered d hd)

theorem foldl {α : Type} {f : State → α → State} (l : List α) (h : z.LedgerWork s)
    (hf : ∀ s x, z.LedgerWork s → z.LedgerWork (f s x)) : z.LedgerWork (l.foldl f s) :=
  List.foldlRecOn _ _ h fun s hs x _ => hf s x hs

theorem setFld (h : z.LedgerWork s) {f : FRef} (v : Nat) (hf : f.OfLedger) : z.LedgerWork (s.setFld f v) :=
  h.trans ⟨rfl, fun _ ha => State.reg_setFld_other _ _ (Nat.ne_of_lt (Nat.lt_of_lt_of_le ha hf.1)),
    fun _ hd => State.powered_setFld_other _ _ hf hd⟩

theorem pulse (h : z.LedgerWork s) (l : Nat) : z.LedgerWork (s.pulse l) := by
  unfold State.pulse
  split
  · exact h
  · exact h.trans ⟨rfl, fun _ _ => rfl, fun _ _ => rfl⟩

theorem setArb (h : z.LedgerWork s) (a : ArbState) : z.LedgerWork (s.setArb a) := h.trans ⟨rfl, fun _ _ => rfl, fun _ _ => rfl⟩

theorem setLdg (h : z.LedgerWork s) (l : LdgState) : z.LedgerWork (s.setLdg l) := h.trans ⟨rfl, fun _ _ => rfl, fun _ _ => rfl⟩

theorem setCph (h : z.LedgerWork s) (c : CphState) : z.LedgerWork (s.setCph c) := h.trans ⟨rfl, fun _ _ => rfl, fun _ _ => rfl⟩

/-! ## A command that ends (R306, R307) -/

theorem arbStat (h : z.LedgerWork s) : z.LedgerWork s.arbStat :=
  (((((h.setFld _ (by decide)).setFld _ (by decide)).setFld _ (by decide)).setFld _ (by decide)).setFld _ (by decide)).setFld _
    (by decide)

theorem arbReqStat (h : z.LedgerWork s) (r : Nat) : z.LedgerWork (s.arbReqStat r) :=
  have hadr : blockAddr 27 0 ≤ R.ARB_REQ r := Nat.le_trans (by decide : _ ≤ R.ARB_REQ 0) (Nat.le_add_right _ _)
  (h.setFld _ ⟨hadr, (by decide : 18 ≤ 31), fun _ => (by decide : 16 ≤ 16)⟩).setFld _ ⟨hadr, (by decide : 19 ≤ 31), fun _ => (by decide : 16 ≤ 19)⟩

theorem releaseEngine (h : z.LedgerWork s) (e : Nat) : z.LedgerWork (s.releaseEngine e) := by
  unfold State.releaseEngine
  dsimp only
  split
  · exact ((h.setArb _).arbStat).arbReqStat _
  · exact (h.setArb _).arbStat

theorem settleClosing (h : z.LedgerWork s) : z.LedgerWork s.settleClosing := by
  refine h.foldl _ fun s c hs => ?_
  dsimp only
  split
  · exact hs
  · refine setArb ?_ _
    split
    · exact hs.releaseEngine _
    · exact hs

theorem acceptReq (h : z.LedgerWork s) (id : Nat) : z.LedgerWork (s.acceptReq id) := by
  unfold State.acceptReq
  split
  · exact h
  · refine settleClosing ?_
    split
    · exact h.releaseEngine _
    · exact h

theorem endReq (h : z.LedgerWork s) (id : Nat) (st : Status) : z.LedgerWork (s.endReq id st) := (h.setArb _).acceptReq id

/-! ## The journal (R332 to R334) -/

theorem jstat (h : z.LedgerWork s) : z.LedgerWork s.jstat := by
  have hset := (h.setFld (f := F.LDG_JFILL_UNITS) s.jfill (by decide)).setFld (f := F.LDG_STAT_HIGH)
    (b2n (decide (s.highMark * ringUnits ≤ 100 * s.jfill))) (by decide)
  unfold State.jstat
  dsimp only
  split
  · exact hset.pulse 39
  · exact hset

theorem tagDone (h : z.LedgerWork s) (t : JTag) : z.LedgerWork (s.tagDone t) := by
  cases t with
  | plain => exact h
  | req id => exact h.endReq id .ok
  | resv n ceil => exact h.setCph _
  | settle n => exact h.trans ⟨rfl, fun _ _ => rfl, fun _ _ => rfl⟩

theorem rewriteGroups (h : z.LedgerWork s) (items : List (Nat × List Nat)) : z.LedgerWork (s.rewriteGroups items) := by
  refine h.foldl _ fun s x hs => ?_
  dsimp only
  split
  · exact hs
  · split
    · exact hs.setLdg _
    · exact hs.setLdg _

theorem sealOldest (h : z.LedgerWork s) : z.LedgerWork s.sealOldest := by
  unfold State.sealOldest
  split
  · exact h
  · exact ((((h.setLdg _).rewriteGroups _).setFld _ (by decide)).setFld _ (by decide)).tagDone _

theorem sealAll (h : z.LedgerWork s) (n : Nat) : z.LedgerWork (s.sealAll n) := by
  induction n generalizing s with
  | zero => exact h
  | succ n ih => exact ih h.sealOldest

theorem applyOne (h : z.LedgerWork s) : z.LedgerWork s.applyOne := by
  unfold State.applyOne
  split
  · exact h
  · split
    · exact (h.setLdg _).jstat
    · exact h

theorem applyAll (h : z.LedgerWork s) (n : Nat) : z.LedgerWork (s.applyAll n) := by
  induction n generalizing s with
  | zero => exact h
  | succ n ih => exact ih h.applyOne

theorem journalFrom {t : State} {src : Nat} {items : List (Nat × List Nat)} {tag : JTag} (h : z.LedgerWork s)
    (ht : s.journalFrom src items tag = some t) : z.LedgerWork t := by
  unfold State.journalFrom at ht
  dsimp only at ht
  split at ht
  · contradiction
  · cases ht
    exact (h.setLdg _).jstat

theorem journalBy (h : z.LedgerWork s) (src : Nat) (items : List (Nat × List Nat)) : z.LedgerWork (s.journalBy src items) := by
  unfold State.journalBy
  extract_lets s1 s0
  have h0 : z.LedgerWork s0 := by
    unfold s0
    split
    · exact h
    · exact (h.sealAll _).applyAll _
  split
  · exact h0
  · exact (h0.journalFrom ‹_›).sealAll _

/-! ## Pages and the audit log (R330, R352, R384) -/

theorem allocPage {t : State} {p : Nat} (h : z.LedgerWork s) (ht : s.allocPage = some (t, p)) : z.LedgerWork t := by
  unfold State.allocPage at ht
  dsimp only at ht
  split at ht
  · contradiction
  · cases ht
    refine setLdg (setLdg ?_ _) _
    split
    · exact h.setFld _ (by decide)
    · exact h

theorem programNow (h : z.LedgerWork s) (l : Nat) (bs : List Byte) (items : List (Nat × List Nat)) :
    z.LedgerWork (s.programNow l bs items) := by
  unfold State.programNow State.programBy
  split
  · exact h
  · exact ((h.allocPage ‹_›).setLdg _).journalBy _ _

theorem auditHead (h : z.LedgerWork s) (n : Nat) (e : List Byte) : z.LedgerWork (s.auditHead n e) := by
  refine foldl _ (h.setFld _ (by decide)) fun s i hs => hs.setFld _ ⟨?_, (by decide : 31 ≤ 31), fun hadr => ?_⟩
  · exact Nat.le_trans (by decide : _ ≤ R.AUD_HASH 0) (Nat.le_add_right _ _)
  · exact absurd hadr (Nat.ne_of_gt (Nat.lt_of_lt_of_le (by decide : _ < R.AUD_HASH 0) (Nat.le_add_right _ _)))

/-- An entry of the audit log is ledger work. -/
theorem audit (h : z.LedgerWork s) (kind role req status passId : Nat) (detail : List Byte) :
    z.LedgerWork (s.audit kind role req status passId detail) := by
  unfold State.audit
  split
  · exact h
  · unfold State.auditStaged
    dsimp only
    split
    · exact (((h.journalBy _ _).setFld _ (by decide)).auditHead _ _).programNow _ _ _
    · exact ((h.journalBy _ _).setFld _ (by decide)).auditHead _ _

theorem auditAdj (h : z.LedgerWork s) (s0 : State) (d : Nat) : z.LedgerWork (s0.auditAdj s d) := by
  unfold State.auditAdj
  split
  · split
    · exact h.audit _ _ _ _ _ _
    · exact h
  · exact h

end State.LedgerWork

end Sys2Proof.Machine
end

section
/-!
SUPPORT. The tick (R54 to R64, R115, R119): the two domains, the offset, the engines' counters, and what the rest of the tick leaves
of them.
-/
namespace Sys2Proof.Machine

/-! ## What keeps the clock -/

/-- The tick count, both domains, the offset, the engines' counters and what the tick reads of the registers are as they were. -/
structure State.KeepsClock (z t : State) : Prop where
  ticks   : t.ticks = z.ticks
  a       : t.time.a = z.time.a
  b       : t.time.b = z.time.b
  offset  : t.time.offset = z.time.offset
  cores   : t.cores = z.cores
  cycle   : ∀ e, (t.engine e).cycle = (z.engine e).cycle
  reg     : ∀ a, a < blockAddr 3 0 → t.reg a = z.reg a
  powered : ∀ d, d < 16 → t.powered d = z.powered d
  fnOn    : ∀ e, e < 3 → t.fnOn (4 + e) 0 0 = z.fnOn (4 + e) 0 0

/-- A field outside entries 0 to 2 of the map, the power of domains and the functions of the slot engines. -/
abbrev FRef.OffClock (f : FRef) : Prop :=
  blockAddr 3 0 ≤ f.addr ∧ f.addr ≠ R.PWR_DOMAINS ∧ ∀ e, e < 3 → f.addr ≠ (fnState (4 + e) 0 0).addr

namespace State.KeepsClock

variable {z s : State}

theorem refl (s : State) : s.KeepsClock s := ⟨rfl, rfl, rfl, rfl, rfl, fun _ => rfl, fun _ _ => rfl, fun _ _ => rfl, fun _ _ => rfl⟩

theorem trans {t : State} (h : z.KeepsClock s) (k : s.KeepsClock t) : z.KeepsClock t where
  ticks := k.ticks.trans h.ticks
  a := k.a.trans h.a
  b := k.b.trans h.b
  offset := k.offset.trans h.offset
  cores := k.cores.trans h.cores
  cycle e := (k.cycle e).trans (h.cycle e)
  reg a ha := (k.reg a ha).trans (h.reg a ha)
  powered d hd := (k.powered d hd).trans (h.powered d hd)
  fnOn e he := (k.fnOn e he).trans (h.fnOn e he)

/-- A field of the registers of a domain is as it was. -/
theorem fld (h : z.KeepsClock s) {f : FRef} (hf : f.addr < blockAddr 3 0) : s.fld f = z.fld f := by
  rw [State.fld, State.fld, h.reg _ hf]

theorem core (h : z.KeepsClock s) (c : Nat) : s.core c = z.core c := by
  rw [State.core, State.core, h.cores]

theorem dom (h : z.KeepsClock s) (k : Nat) : s.dom k = z.dom k := by
  rw [State.dom, State.dom, h.a, h.b]

theorem foldl {α : Type} {f : State → α → State} (l : List α) (h : z.KeepsClock s)
    (hf : ∀ s x, z.KeepsClock s → z.KeepsClock (f s x)) : z.KeepsClock (l.foldl f s) :=
  List.foldlRecOn _ _ h fun s hs x _ => hf s x hs

/-- Ledger work keeps the clock. -/
theorem ledger {t : State} (h : z.KeepsClock s) (k : s.LedgerWork t) : z.KeepsClock t := by
  have hrest := k.rest
  have hreg (a : Nat) (ha : a < blockAddr 7 0) : t.reg a = s.reg a := k.reg a (Nat.lt_trans ha (by decide))
  refine h.trans ⟨by rw [hrest], by rw [hrest], by rw [hrest], by rw [hrest], by rw [hrest], fun e => ?_,
    fun a ha => hreg a (Nat.lt_trans ha (by decide)), k.powered, fun e he => ?_⟩
  · rw [State.engine, hrest]
    rfl
  · have hadr : (fnState (4 + e) 0 0).addr < blockAddr 7 0 := by
      simp only [fnState, blockAddr]
      omega
    rw [State.fnOn, State.fnOn, State.fld, State.fld, hreg _ hadr]

/-- An update of other parts of the state. -/
theorem upd {t : State} (h : z.KeepsClock s) (hticks : t.ticks = s.ticks) (ha : t.time.a = s.time.a) (hb : t.time.b = s.time.b)
    (ho : t.time.offset = s.time.offset) (hc : t.cores = s.cores) (he : t.eng = s.eng) (hr : t.regs = s.regs) : z.KeepsClock t := by
  have hreg (a : Nat) : t.reg a = s.reg a := by rw [State.reg, State.reg, hr]
  refine h.trans ⟨hticks, ha, hb, ho, hc, fun e => ?_, fun a _ => hreg a, fun d _ => ?_, fun e _ => ?_⟩
  · rw [State.engine, State.engine, he]
  · rw [State.powered, State.powered, State.fld, State.fld, hreg]
  · rw [State.fnOn, State.fnOn, State.fld, State.fld, hreg]

theorem setFld (h : z.KeepsClock s) {f : FRef} (v : Nat) (hf : f.OffClock) : z.KeepsClock (s.setFld f v) := by
  obtain ⟨hlow, hpower, hfn⟩ := hf
  refine h.trans ⟨rfl, rfl, rfl, rfl, rfl, fun _ => rfl, fun _ ha => State.reg_setFld_other _ _ (Nat.ne_of_lt (Nat.lt_of_lt_of_le ha hlow)),
    fun d _ => ?_, fun e he => ?_⟩
  · have hsame : (s.setFld f v).reg F.PWR_DOMAINS_ON.addr = s.reg F.PWR_DOMAINS_ON.addr := State.reg_setFld_other _ _ hpower.symm
    rw [State.powered, State.powered, State.fld, State.fld, hsame]
  · rw [State.fnOn, State.fnOn, State.fld, State.fld, State.reg_setFld_other _ _ (hfn e he).symm]

theorem pulse (h : z.KeepsClock s) (l : Nat) : z.KeepsClock (s.pulse l) := by
  unfold State.pulse
  split
  · exact h
  · exact h.upd rfl rfl rfl rfl rfl rfl rfl

/-- A change of an engine that leaves its CYCLE. -/
theorem setEngine (h : z.KeepsClock s) (e : Nat) {x : Engine} (hx : x.cycle = (s.engine e).cycle) : z.KeepsClock (s.setEngine e x) := by
  refine h.trans ⟨rfl, rfl, rfl, rfl, rfl, fun d => ?_, fun _ _ => rfl, fun _ _ => rfl, fun _ _ => rfl⟩
  rw [State.engine_setEngine]
  split
  · rename_i hd
    rw [hx, hd]
  · rfl

/-! ## Waits, port times and launches that a step carries past (R61, R119) -/

/-- The status registers of a slot engine lie before its functions. -/
theorem offClock_engine {f : FRef} (e : Nat) {o : Nat} (hf : f.addr = 0x8000040000 + o + 0x10000 * e) (ho : o < 0x28) : f.OffClock := by
  refine ⟨?_, ?_, fun d _ => ?_⟩ <;> simp only [hf, blockAddr, R.PWR_DOMAINS, fnState] <;> omega

theorem lateAt (h : z.KeepsClock s) (e : Nat) : z.KeepsClock (s.lateAt e) :=
  setEngine (setFld (setFld h 1 (offClock_engine e (o := 0) rfl (by decide))) _ (offClock_engine e (o := 4) rfl (by decide))) e rfl

theorem setWait (h : z.KeepsClock s) (e : Nat) (w : EWait) : z.KeepsClock (s.setWait e w) := h.setEngine e rfl

theorem skipWait (h : z.KeepsClock s) (n0 n1 e : Nat) : z.KeepsClock (s.skipWait n0 n1 e) := by
  have hset : z.KeepsClock ((s.setWait e .none).setFld (F.SE_STAT_STEP_SKIP e) 1) :=
    (h.setWait e _).setFld 1 (offClock_engine e (o := 0) rfl (by decide))
  unfold State.skipWait
  split
  · split
    · dsimp only
      split
      · exact hset.lateAt e
      · exact hset
    · exact h
  · exact h

theorem passPorts (h : z.KeepsClock s) (n0 n1 : Nat) : z.KeepsClock (s.passPorts n0 n1) := by
  unfold State.passPorts
  split
  · exact h
  · refine h.foldl _ fun s i hs => ?_
    dsimp only
    split
    · exact hs.upd rfl rfl rfl rfl rfl rfl rfl
    · exact hs

theorem noteJump (h : z.KeepsClock s) (n0 n1 : Nat) : z.KeepsClock (s.noteJump n0 n1) := by
  unfold State.noteJump
  split
  · exact h
  · exact h.upd rfl rfl rfl rfl rfl rfl rfl

theorem launchPassed (h : z.KeepsClock s) (j old : Nat) : z.KeepsClock (s.launchPassed j old) := by
  unfold State.launchPassed
  split
  · split
    · exact h.upd rfl rfl rfl rfl rfl rfl rfl
    · exact h
  · exact h

end State.KeepsClock

end Sys2Proof.Machine
end

section
/-!
SUPPORT. The tick of network time (R54 to R64).
-/
namespace Sys2Proof.Machine

/-! ## Counting in exact arithmetic (R55) -/

theorem NtDomain.units_setUnits (x : NtDomain) {u : Nat} (h : u < ntMod) : (x.setUnits u).units = u := by
  simp only [NtDomain.units, NtDomain.setUnits, ntMod, secU, nsU] at *
  omega

/-- The parts of a counter in range (R54). -/
structure NtDomain.InRange (x : NtDomain) : Prop where
  sec  : x.sec < 2 ^ 48
  ns   : x.ns < 1000000000
  frac : x.frac < 2 ^ 32

/-- A tick carries at most one second, and the seconds wrap. -/
theorem units_ntCount {x : NtDomain} {n : Nat} (hx : x.InRange) (hn : n < 2 ^ 40) : (ntCount n x).units = (x.units + n) % ntMod := by
  obtain ⟨hsec, hns, hfrac⟩ := hx
  have hdiv (a : Nat) : a / 2 ^ 32 * 2 ^ 32 + a % 2 ^ 32 = a := by omega
  by_cases hcarry : 1000000000 * 2 ^ 32 ≤ x.ns * 2 ^ 32 + x.frac + n
  · simp only [ntCount, NtDomain.units, hcarry, decide_true, if_true, ntMod, secU, nsU]
    omega
  · simp only [ntCount, NtDomain.units, hcarry, decide_false, Bool.false_eq_true, if_false, ntMod, secU, nsU]
    omega

theorem ntCount_parts {x : NtDomain} {n : Nat} (hx : x.InRange) (hn : n < 2 ^ 40) :
    (ntCount n x).ns < 1000000000 ∧ (ntCount n x).frac < 2 ^ 32 := by
  obtain ⟨hsec, hns, hfrac⟩ := hx
  by_cases hcarry : 1000000000 * 2 ^ 32 ≤ x.ns * 2 ^ 32 + x.frac + n
  · simp only [ntCount, hcarry, decide_true, if_true]
    omega
  · simp only [ntCount, hcarry, decide_false, Bool.false_eq_true, if_false]
    omega

theorem adj_ntCount (n : Nat) (x : NtDomain) : (ntCount n x).adj = x.adj := by
  cases x
  rfl

/-! ## One domain on a tick (R55, R59, R60) -/

section
variable {s : State} {d e : Nat}

theorem State.time_setDom_zero (x : NtDomain) : (s.setDom 0 x).time = { s.time with a := x } := rfl
theorem State.time_setDom_one (x : NtDomain) : (s.setDom 1 x).time = { s.time with b := x } := rfl

@[simp] theorem State.reg_setDom (x : NtDomain) (a : Nat) : (s.setDom d x).reg a = s.reg a := by
  unfold State.setDom
  split <;> rfl

/-- The code of a step or load that waits in a domain (R59). -/
def State.adjCode (s : State) (d : Nat) (a : Adj) : Status :=
  a.decide (!s.coarseDom d) (s.fld (F.NT_STEP_LIMIT_LIMIT d)) (ntCount (s.incr d) (s.dom d)).units

/-- A domain after a tick: it has counted, and taken the step or load that was in order. -/
def State.ticked (s : State) (d : Nat) : NtDomain :=
  match (s.dom d).adj with
  | none => ntCount (s.incr d) (s.dom d)
  | some a =>
    { if s.adjCode d a = .ok then (ntCount (s.incr d) (s.dom d)).adjusted a else ntCount (s.incr d) (s.dom d) with adj := none }

/-- What a tick marks of the step or load that waited. -/
def State.tickMarks (s t : State) (d : Nat) : State :=
  match (s.dom d).adj with
  | none => t
  | some a => t.adjStatus d (s.adjCode d a)

theorem State.ticked_of_free (h : (s.dom d).adj = none) : s.ticked d = ntCount (s.incr d) (s.dom d) := by
  rw [State.ticked, h]

theorem State.ticked_of_adj {a : Adj} (h : (s.dom d).adj = some a) : s.ticked d =
    { if s.adjCode d a = .ok then (ntCount (s.incr d) (s.dom d)).adjusted a else ntCount (s.incr d) (s.dom d) with adj := none } := by
  rw [State.ticked, h]

theorem State.tickMarks_of_free {t : State} (h : (s.dom d).adj = none) : s.tickMarks t d = t := by
  rw [State.tickMarks, h]

theorem State.tickMarks_of_adj {t : State} {a : Adj} (h : (s.dom d).adj = some a) :
    s.tickMarks t d = t.adjStatus d (s.adjCode d a) := by
  rw [State.tickMarks, h]

theorem State.tickDomain_eq (s : State) (d : Nat) : s.tickDomain d = s.tickMarks (s.setDom d (s.ticked d)) d := by
  have hadj := adj_ntCount (s.incr d) (s.dom d)
  unfold State.tickDomain
  dsimp only
  cases h : (s.dom d).adj with
  | none =>
    rw [h] at hadj
    rw [State.ticked_of_free h, State.tickMarks_of_free h, hadj]
  | some a =>
    rw [h] at hadj
    rw [State.ticked_of_adj h, State.tickMarks_of_adj h, hadj, State.adjCode]

/-- Only the registers of the marks of a domain, and the fabric, differ. -/
structure State.Marks (d : Nat) (z t : State) : Prop where
  rest : t = { z with regs := t.regs, fabric := t.fabric }
  reg  : ∀ a, a ≠ R.NT_ADJ_CMD d → a ≠ R.NT_STAT d → t.reg a = z.reg a

theorem State.Marks.refl (s : State) (d : Nat) : s.Marks d s := ⟨rfl, fun _ _ _ => rfl⟩

theorem State.Marks.trans {z t : State} (h : z.Marks d s) (k : s.Marks d t) : z.Marks d t where
  rest := k.rest.trans (by rw [h.rest])
  reg a hcmd hstat := (k.reg a hcmd hstat).trans (h.reg a hcmd hstat)

theorem State.Marks.setFld {z : State} (h : z.Marks d s) {f : FRef} (v : Nat) (hf : f.addr = R.NT_ADJ_CMD d ∨ f.addr = R.NT_STAT d) :
    z.Marks d (s.setFld f v) :=
  h.trans ⟨rfl, fun _ hcmd hstat => State.reg_setFld_other _ _ (hf.elim (fun e => e ▸ hcmd) fun e => e ▸ hstat)⟩

theorem State.Marks.pulse {z : State} (h : z.Marks d s) (l : Nat) : z.Marks d (s.pulse l) := by
  refine h.trans ⟨?_, fun a _ _ => State.reg_pulse s l a⟩
  unfold State.pulse
  split <;> rfl

theorem State.marks_adjStatus (c : Status) : s.Marks d (s.adjStatus d c) := by
  have hstatus := (State.Marks.refl s d).setFld (f := F.NT_ADJ_CMD_STATUS d) c.code (.inl rfl)
  unfold State.adjStatus
  dsimp only
  split
  · exact ((hstatus.setFld 1 (.inr rfl)).setFld _ (.inr rfl)).pulse 9
  · exact hstatus

theorem State.fld_status_adjStatus (c : Status) : (s.adjStatus d c).fld (F.NT_ADJ_CMD_STATUS d) = c.code := by
  have hcode : (s.setFld (F.NT_ADJ_CMD_STATUS d) c.code).fld (F.NT_ADJ_CMD_STATUS d) = c.code :=
    (s.fld_setFld_same _ (by decide : 31 ≤ 31)).trans (Nat.mod_eq_of_lt c.code_lt)
  have hne : R.NT_ADJ_CMD d ≠ R.NT_STAT d := by
    simp only [R.NT_ADJ_CMD, R.NT_STAT]
    omega
  unfold State.adjStatus
  dsimp only
  split
  · rw [State.fld_pulse, State.count, State.fld_setFld_other _ _ (by decide : 31 ≤ 31) (.inl hne),
      State.fld_setFld_other _ _ (by decide : 2 ≤ 31) (.inl hne), hcode]
  · exact hcode

theorem State.marks_tickDomain : (s.setDom d (s.ticked d)).Marks d (s.tickDomain d) := by
  rw [State.tickDomain_eq]
  cases h : (s.dom d).adj with
  | none =>
    rw [State.tickMarks_of_free h]
    exact ⟨rfl, fun _ _ _ => rfl⟩
  | some a =>
    rw [State.tickMarks_of_adj h]
    exact State.marks_adjStatus _

theorem State.fld_status_tickDomain {a : Adj} (h : (s.dom d).adj = some a) :
    (s.tickDomain d).fld (F.NT_ADJ_CMD_STATUS d) = (s.adjCode d a).code := by
  rw [State.tickDomain_eq, State.tickMarks_of_adj h, State.fld_status_adjStatus]

theorem State.time_tickDomain : (s.tickDomain d).time = (s.setDom d (s.ticked d)).time := by
  rw [State.marks_tickDomain.rest]

theorem State.reg_tickDomain {a : Nat} (hcmd : a ≠ R.NT_ADJ_CMD d) (hstat : a ≠ R.NT_STAT d) :
    (s.tickDomain d).reg a = s.reg a := by
  rw [State.marks_tickDomain.reg a hcmd hstat, State.reg_setDom]

end

/-! ## Both domains on a tick -/

section
variable {s : State}

/-- A register of the time entries is not among the marks of a domain, by its offset in its block. -/
theorem State.fld_tickDomain (d : Nat) {f : FRef} (hcmd : f.addr % 0x1000 ≠ 0x30) (hstat : f.addr % 0x1000 ≠ 4) :
    (s.tickDomain d).fld f = s.fld f := by
  rw [State.fld, State.fld, State.reg_tickDomain]
  · simp only [R.NT_ADJ_CMD]
    omega
  · simp only [R.NT_STAT]
    omega

theorem State.incr_tickDomain (d e : Nat) : (s.tickDomain d).incr e = s.incr e := by
  have hlow : (F.NT_INCR_LO_INCR_LO e).addr % 0x1000 = 0x8 := by simp only [F.NT_INCR_LO_INCR_LO, R.NT_INCR_LO]; omega
  have hhigh : (F.NT_INCR_HI_INCR_HI e).addr % 0x1000 = 0xC := by simp only [F.NT_INCR_HI_INCR_HI, R.NT_INCR_HI]; omega
  unfold State.incr State.wide2
  rw [State.fld_tickDomain d (by omega) (by omega), State.fld_tickDomain d (by omega) (by omega)]

/-- The tick of A leaves what the tick of B reads. -/
theorem State.coarseDom_tickDomain_zero : (s.tickDomain 0).coarseDom 1 = s.coarseDom 1 := by
  rw [State.coarseDom, State.coarseDom, State.bit, State.bit, State.fld, State.fld,
    State.reg_tickDomain (d := 0) (a := (F.NT_STAT_COARSE 1).addr) (by decide) (by decide)]

theorem State.dom_tickDomain_zero : (s.tickDomain 0).dom 1 = s.dom 1 := by
  rw [State.dom, State.time_tickDomain]
  rfl

theorem State.adjCode_tickDomain_zero (a : Adj) : (s.tickDomain 0).adjCode 1 a = s.adjCode 1 a := by
  rw [State.adjCode, State.adjCode, State.coarseDom_tickDomain_zero, State.incr_tickDomain, State.dom_tickDomain_zero,
    State.fld_tickDomain 0 (by decide) (by decide)]

theorem State.ticked_tickDomain_zero : (s.tickDomain 0).ticked 1 = s.ticked 1 := by
  rw [State.ticked, State.ticked, State.dom_tickDomain_zero, State.incr_tickDomain]
  simp only [State.adjCode_tickDomain_zero]

/-- Both domains count and take their steps. -/
def State.domTicks (s : State) : State := (s.tickDomain 0).tickDomain 1

theorem State.time_domTicks : s.domTicks.time = { s.time with a := s.ticked 0, b := s.ticked 1 } := by
  rw [State.domTicks, State.time_tickDomain, State.ticked_tickDomain_zero, State.time_setDom_one, State.time_tickDomain,
    State.time_setDom_zero]

theorem State.dom_domTicks (k : Fin 2) : s.domTicks.dom k = s.ticked k := by
  rw [State.dom, State.time_domTicks]
  match k with
  | 0 => rfl
  | 1 => rfl

theorem State.rest_domTicks :
    s.domTicks = { s with time := s.domTicks.time, regs := s.domTicks.regs, fabric := s.domTicks.fabric } := by
  rw [State.domTicks, (State.marks_tickDomain (s := s.tickDomain 0) (d := 1)).rest, State.setDom,
    (State.marks_tickDomain (s := s) (d := 0)).rest, State.setDom]
  rfl

/-- The registers beside the time entries are as they were. -/
theorem State.reg_domTicks {a : Nat} (h : blockAddr 3 0 ≤ a) : s.domTicks.reg a = s.reg a := by
  have hne {b : Nat} (hb : b < blockAddr 3 0) : a ≠ b := Nat.ne_of_gt (Nat.lt_of_lt_of_le hb h)
  rw [State.domTicks, State.reg_tickDomain (hne (by decide)) (hne (by decide)), State.reg_tickDomain (hne (by decide)) (hne (by decide))]

theorem State.fld_status_domTicks (k : Fin 2) {a : Adj} (h : (s.dom k).adj = some a) :
    s.domTicks.fld (F.NT_ADJ_CMD_STATUS k) = (s.adjCode k a).code := by
  match k with
  | 0 =>
    have hother : s.domTicks.fld (F.NT_ADJ_CMD_STATUS 0) = (s.tickDomain 0).fld (F.NT_ADJ_CMD_STATUS 0) := by
      rw [State.domTicks, State.fld, State.fld,
        State.reg_tickDomain (d := 1) (a := (F.NT_ADJ_CMD_STATUS 0).addr) (by decide) (by decide)]
    exact hother.trans (State.fld_status_tickDomain h)
  | 1 =>
    have h1 : ((s.tickDomain 0).dom 1).adj = some a := by rw [State.dom_tickDomain_zero]; exact h
    exact (State.fld_status_tickDomain h1).trans (congrArg Status.code (State.adjCode_tickDomain_zero a))

theorem State.slewStep_domTicks : s.domTicks.slewStep = s.slewStep := by
  have hfld {f : FRef} (h : blockAddr 3 0 ≤ f.addr) : s.domTicks.fld f = s.fld f := by
    rw [State.fld, State.fld, State.reg_domTicks h]
  rw [State.slewStep, State.slewStep, State.cur, State.cur, hfld (by decide), hfld (by decide), State.domTicks,
    State.incr_tickDomain, State.incr_tickDomain]

/-! ## The selected NT and the whole tick (R62 to R64, R74) -/

/-- The state with another offset. -/
def State.withOffset (s : State) (o : Int) : State := { s with time := { s.time with offset := o } }

theorem State.KeepsClock.withOffset {z : State} (h : z.KeepsClock s) (o : Int) : (z.withOffset o).KeepsClock (s.withOffset o) :=
  ⟨h.ticks, h.a, h.b, rfl, h.cores, h.cycle, h.reg, h.powered, h.fnOn⟩

theorem State.KeepsClock.withTime {z : State} (h : z.KeepsClock s) {x : TimeState} (ha : x.a = s.time.a) (hb : x.b = s.time.b)
    (ho : x.offset = s.time.offset) : z.KeepsClock { s with time := x } := h.upd rfl ha hb ho rfl rfl rfl

/-- A switch of the selector moves the offset alone. -/
theorem State.decideSwitch_keeps (s : State) (target : Nat) : ∃ o, (s.withOffset o).KeepsClock (s.decideSwitch target) := by
  unfold State.decideSwitch
  extract_lets code req s1 off sel s2
  have h0 : s.KeepsClock { s with time := { s.time with swReq := none } } := (State.KeepsClock.refl s).withTime rfl rfl rfl
  have h1 : s.KeepsClock s1 := (h0.setFld (f := F.TSEL_STAT_LAST_STATUS) code.code (by decide)).pulse 8
  split
  · have h2 : (s.withOffset off).KeepsClock s2 := (h1.withOffset off).setFld (f := F.TSEL_STAT_CUR) target (by decide)
    exact ⟨off, (h2.setFld (f := F.TSEL_STAT_SLEWING) _ (by decide)).withTime rfl rfl rfl⟩
  · exact ⟨s.time.offset, h1.setFld (f := F.TSEL_CTL_SEL) _ (by decide)⟩

/-- The tick of a powered PD_TIME moves the offset toward 0, or a switch sets it. -/
theorem State.tickOn_keeps (s : State) : ∃ o, (s.domTicks.withOffset o).KeepsClock s.tickOn ∧
    (s.time.swReq = none → o = slewOffset s.time.offset s.slewStep) := by
  have hoff : slewOffset s.domTicks.time.offset s.domTicks.slewStep = slewOffset s.time.offset s.slewStep := by
    rw [State.slewStep_domTicks, State.time_domTicks]
  have hreq : s.domTicks.time.swReq = s.time.swReq := by rw [State.time_domTicks]
  unfold State.tickOn
  extract_lets c before s1 off len sel s2 s3
  have h2 : (s1.withOffset off).KeepsClock s2 := (State.KeepsClock.refl _).withTime rfl rfl rfl
  have h3 : (s1.withOffset off).KeepsClock s3 ∧ s3.time.swReq = s1.time.swReq := by
    unfold s3
    split
    · exact ⟨h2.pulse 5, by rw [State.pulse_time]⟩
    · exact ⟨h2, rfl⟩
  split
  · exact ⟨off, h3.1, fun _ => hoff⟩
  · rename_i target hswitch
    obtain ⟨o, ho⟩ := s3.decideSwitch_keeps target
    exact ⟨o, (h3.1.withOffset o).trans ho, fun hnone => by rw [h3.2] at hswitch; exact absurd (hswitch.symm.trans (hreq.trans hnone)) nofun⟩

end

end Sys2Proof.Machine
end

section
/-!
SUPPORT. What NT_TICK makes of the engines' counters, of the offset and of a domain's value (R55, R60, R64, R74, R115).
-/
namespace Sys2Proof.Machine

/-! ## What the engines' counters rest on (R115) -/

/-- The cores, the engines' CYCLE, the power of domains and the functions of the slot engines are as they were. -/
structure State.SameEngines (z t : State) : Prop where
  cores   : t.cores = z.cores
  cycle   : ∀ e, (t.engine e).cycle = (z.engine e).cycle
  powered : ∀ d, d < 16 → t.powered d = z.powered d
  fnOn    : ∀ e, e < 3 → t.fnOn (4 + e) 0 0 = z.fnOn (4 + e) 0 0

/-- The engines have counted one tick, and the rest of what the clock rests on is as it was. -/
structure State.EnginesCounted (z t : State) : Prop where
  ticks   : t.ticks = z.ticks
  time    : t.time = z.time
  regs    : t.regs = z.regs
  cycle   : ∀ e : Fin 3, (t.engine e).cycle = (z.engine e).cycle + if z.powered (13 + e) then 1 else 0
  retired : ∀ e : Fin 3, (t.core (20 + e)).retired = (z.core (20 + e)).retired + if z.fnOn (4 + e) 0 0 then 1 else 0

section
variable {z s t : State}

theorem State.SameEngines.trans (h : z.SameEngines s) (k : s.SameEngines t) : z.SameEngines t where
  cores := k.cores.trans h.cores
  cycle e := (k.cycle e).trans (h.cycle e)
  powered d hd := (k.powered d hd).trans (h.powered d hd)
  fnOn e he := (k.fnOn e he).trans (h.fnOn e he)

theorem State.KeepsClock.sameEngines (h : z.KeepsClock s) : z.SameEngines s := ⟨h.cores, h.cycle, h.powered, h.fnOn⟩

/-- Where the registers after the time entries, the engines and the cores are as they were. -/
theorem State.SameEngines.of_reg (hc : t.cores = s.cores) (he : t.eng = s.eng) (hr : ∀ a, blockAddr 3 0 ≤ a → t.reg a = s.reg a) :
    s.SameEngines t := by
  refine ⟨hc, fun e => ?_, fun d _ => ?_, fun e _ => ?_⟩
  · rw [State.engine, State.engine, he]
  · rw [State.powered, State.powered, State.fld, State.fld, hr _ (by decide)]
  · have hadr : blockAddr 3 0 ≤ (fnState (4 + e) 0 0).addr := by
      simp only [fnState, blockAddr]
      omega
    rw [State.fnOn, State.fnOn, State.fld, State.fld, hr _ hadr]

/-! ## One engine's count -/

/-- A powered engine counts CYCLE. -/
def State.countCycle (s : State) (e : Nat) : State :=
  if s.powered (13 + e) then s.setEngine e { s.engine e with cycle := (s.engine e).cycle + 1 } else s

/-- An engine whose RUN is on counts RETIRED. -/
def State.countRetired (s : State) (e : Nat) : State :=
  if s.fnOn (4 + e) 0 0 then s.setCore (20 + e) { s.core (20 + e) with retired := (s.core (20 + e)).retired + 1 } else s

theorem State.countTick_eq (s : State) (e : Nat) : s.countTick e = (s.countCycle e).countRetired e := rfl

theorem State.rest_countCycle (s : State) (e : Nat) : s.countCycle e = { s with eng := (s.countCycle e).eng } := by
  unfold State.countCycle
  split <;> rfl

theorem State.rest_countRetired (s : State) (e : Nat) : s.countRetired e = { s with cores := (s.countRetired e).cores } := by
  unfold State.countRetired
  split <;> rfl

theorem State.regs_countTick (s : State) (e : Nat) : (s.countTick e).regs = s.regs := by
  rw [State.countTick_eq, State.rest_countRetired, State.rest_countCycle]

theorem State.time_countTick (s : State) (e : Nat) : (s.countTick e).time = s.time := by
  rw [State.countTick_eq, State.rest_countRetired, State.rest_countCycle]

theorem State.ticks_countTick (s : State) (e : Nat) : (s.countTick e).ticks = s.ticks := by
  rw [State.countTick_eq, State.rest_countRetired, State.rest_countCycle]

theorem State.powered_countTick (s : State) (e d : Nat) : (s.countTick e).powered d = s.powered d := by
  rw [State.powered, State.powered, State.fld, State.fld, State.reg, State.reg, State.regs_countTick]

theorem State.fnOn_countTick (s : State) (e j i f : Nat) : (s.countTick e).fnOn j i f = s.fnOn j i f := by
  rw [State.fnOn, State.fnOn, State.fld, State.fld, State.reg, State.reg, State.regs_countTick]

theorem State.cycle_countTick (s : State) (e d : Nat) : ((s.countTick e).engine d).cycle =
    (s.engine d).cycle + if d = e ∧ s.powered (13 + e) = true then 1 else 0 := by
  have hengine : (s.countTick e).engine d = (s.countCycle e).engine d := by
    rw [State.countTick_eq, State.rest_countRetired]
    rfl
  rw [hengine, State.countCycle]
  by_cases hp : s.powered (13 + e) = true
  · rw [if_pos hp, State.engine_setEngine]
    by_cases hd : d = e
    · simp [hp, hd]
    · simp [hd]
  · simp [hp]

theorem State.retired_countTick (s : State) (e c : Nat) : ((s.countTick e).core c).retired =
    (s.core c).retired + if c = 20 + e ∧ s.fnOn (4 + e) 0 0 = true then 1 else 0 := by
  have hcore (b : Nat) : (s.countCycle e).core b = s.core b := by rw [State.rest_countCycle]; rfl
  have hon : (s.countCycle e).fnOn (4 + e) 0 0 = s.fnOn (4 + e) 0 0 := by rw [State.rest_countCycle]; rfl
  rw [State.countTick_eq, State.countRetired, hon, hcore]
  by_cases hr : s.fnOn (4 + e) 0 0 = true
  · rw [if_pos hr, State.core_setCore, hcore]
    by_cases hc : c = 20 + e
    · simp [hr, hc]
    · simp [hc]
  · simp [hr, hcore]

theorem State.enginesCounted (s : State) : s.EnginesCounted ([0, 1, 2].foldl State.countTick s) := by
  simp only [List.foldl_cons, List.foldl_nil]
  refine ⟨?_, ?_, ?_, fun e => ?_, fun e => ?_⟩
  · rw [State.ticks_countTick, State.ticks_countTick, State.ticks_countTick]
  · rw [State.time_countTick, State.time_countTick, State.time_countTick]
  · rw [State.regs_countTick, State.regs_countTick, State.regs_countTick]
  · simp only [State.cycle_countTick, State.powered_countTick]
    match e with
    | 0 => simp
    | 1 => simp
    | 2 => simp
  · simp only [State.retired_countTick, State.fnOn_countTick]
    match e with
    | 0 => simp
    | 1 => simp
    | 2 => simp

/-! ## The time on a tick (R55, R74) -/

/-- The next tick of the clock, before the domains count. -/
def State.nextTick (s : State) : State := { s with ticks := s.ticks + 1, cpuHalf := s.cpuHalf + s.halfRate 0 }

theorem State.tickTime_of_on (h : s.powered 2 = true) : s.tickTime = s.nextTick.tickOn := by
  unfold State.tickTime
  rw [if_pos h]
  rfl

/-- The time of a tick while PD_TIME is off: elapsed time alone, and coarse time in Standby. -/
def State.offTime (s : State) : TimeState :=
  let t := { s.time with selCount := s.time.selCount + 5 * nsU }
  if s.fld F.PWR_STAT_STATE = 3 then { t with a := t.a.coarseTick, b := t.b.coarseTick } else t

theorem State.tickTime_of_off (h : s.powered 2 = false) : s.tickTime = { s.nextTick with time := s.offTime } := by
  unfold State.tickTime State.offTime
  rw [if_neg (by rw [h]; exact Bool.false_ne_true)]
  dsimp only
  split <;> rfl

/-- A tick with PD_TIME powered: both domains count, and the offset moves toward 0 where no switch waits. -/
theorem State.keepsClock_tickTime (h : s.powered 2 = true) : ∃ o, (s.nextTick.domTicks.withOffset o).KeepsClock s.tickTime ∧
    (s.time.swReq = none → o = slewOffset s.time.offset s.slewStep) := by
  rw [State.tickTime_of_on h]
  exact s.nextTick.tickOn_keeps

theorem State.ticks_domTicks : s.domTicks.ticks = s.ticks := by rw [State.rest_domTicks]

theorem State.sameEngines_domTicks : s.SameEngines s.domTicks :=
  .of_reg (by rw [State.rest_domTicks]) (by rw [State.rest_domTicks]) fun _ => State.reg_domTicks

theorem State.sameEngines_tickTime (s : State) : s.SameEngines s.tickTime := by
  cases h : s.powered 2 with
  | true =>
    obtain ⟨o, hk, -⟩ := State.keepsClock_tickTime h
    have hnext : s.SameEngines s.nextTick := .of_reg rfl rfl fun _ _ => rfl
    have hoff : s.nextTick.domTicks.SameEngines (s.nextTick.domTicks.withOffset o) := .of_reg rfl rfl fun _ _ => rfl
    exact ((hnext.trans State.sameEngines_domTicks).trans hoff).trans hk.sameEngines
  | false =>
    rw [State.tickTime_of_off h]
    exact .of_reg rfl rfl fun _ _ => rfl

theorem State.ticks_tickTime (s : State) : s.tickTime.ticks = s.ticks + 1 := by
  cases h : s.powered 2 with
  | true =>
    obtain ⟨o, hk, -⟩ := State.keepsClock_tickTime h
    exact hk.ticks.trans (State.ticks_domTicks (s := s.nextTick))
  | false => rw [State.tickTime_of_off h]; rfl

theorem State.dom_tickTime_on (h : s.powered 2 = true) (k : Fin 2) : s.tickTime.dom k = s.ticked k := by
  obtain ⟨o, hk, -⟩ := State.keepsClock_tickTime h
  exact (hk.dom k).trans (State.dom_domTicks (s := s.nextTick) k)

theorem addr_status_low (k : Fin 2) : (F.NT_ADJ_CMD_STATUS k).addr < blockAddr 3 0 := by
  match k with
  | 0 => decide
  | 1 => decide

theorem State.fld_status_tickTime (h : s.powered 2 = true) (k : Fin 2) {a : Adj} (ha : (s.dom k).adj = some a) :
    s.tickTime.fld (F.NT_ADJ_CMD_STATUS k) = (s.adjCode k a).code := by
  obtain ⟨o, hk, -⟩ := State.keepsClock_tickTime h
  exact (hk.fld (addr_status_low k)).trans (State.fld_status_domTicks (s := s.nextTick) k ha)

theorem State.offset_tickTime_on (h : s.powered 2 = true) (hreq : s.time.swReq = none) :
    s.tickTime.time.offset = slewOffset s.time.offset s.slewStep := by
  obtain ⟨o, hk, ho⟩ := State.keepsClock_tickTime h
  exact hk.offset.trans (ho hreq)

theorem State.offset_tickTime_off (h : s.powered 2 = false) : s.tickTime.time.offset = s.time.offset := by
  rw [State.tickTime_of_off h]
  unfold State.offTime
  dsimp only
  split <;> rfl

theorem nsU_eq : nsU = 2 ^ 32 := by decide

theorem NtDomain.adj_coarseTick (x : NtDomain) : x.coarseTick.adj = x.adj := by
  cases x
  rfl

theorem NtDomain.units_coarseTick (x : NtDomain) : x.coarseTick.units = (x.units + 5 * nsU) % ntMod :=
  NtDomain.units_setUnits x (Nat.mod_lt _ (by decide))

/-- On coarse time a counter advances by 5 ns, and else it stands still. -/
theorem units_coarseTick_or (x : NtDomain) (c : Prop) [Decidable c] :
    (if c then x.coarseTick else x).units % ntMod = (x.units + if c then 5 * 2 ^ 32 else 0) % ntMod ∧
      (if c then x.coarseTick else x).adj = x.adj := by
  by_cases hc : c
  · rw [if_pos hc, if_pos hc, NtDomain.units_coarseTick, NtDomain.adj_coarseTick, Nat.mod_mod, nsU_eq]
    exact ⟨rfl, rfl⟩
  · rw [if_neg hc, if_neg hc, Nat.add_zero]
    exact ⟨rfl, rfl⟩

theorem State.dom_tickTime_off (h : s.powered 2 = false) (k : Nat) :
    s.tickTime.dom k = if s.fld F.PWR_STAT_STATE = 3 then (s.dom k).coarseTick else s.dom k := by
  rw [State.tickTime_of_off h, State.dom, State.dom]
  unfold State.offTime
  by_cases hstandby : s.fld F.PWR_STAT_STATE = 3
  · simp only [hstandby, if_true]
    split <;> rfl
  · simp only [hstandby, if_false]

/-! ## The whole tick -/

/-- Between the time's count and the engines', and after that, nothing of the clock moves (R61, R119, R384). -/
theorem State.ntTick_keeps (s : State) :
    ∃ u, s.tickTime.KeepsClock u ∧ ([0, 1, 2].foldl State.countTick u).KeepsClock s.ntTick := by
  unfold State.ntTick
  extract_lets t s0 s1 s2
  have h0 : t.KeepsClock s0 := by
    unfold s0
    split
    · exact (State.KeepsClock.refl t).upd rfl rfl rfl rfl rfl rfl rfl
    · exact .refl t
  have h2 : s1.KeepsClock s2 := by
    unfold s2
    split
    · exact (((State.KeepsClock.refl s1).foldl _ fun x e hx => hx.skipWait _ _ e).passPorts _ _).noteJump _ _
    · exact .refl s1
  refine ⟨_, h0.ledger (((State.LedgerWork.refl s0).auditAdj s 0).auditAdj s 1), h2.foldl _ fun x j hx => ?_⟩
  split
  · exact hx.launchPassed _ _
  · exact hx

/-- NT_TICK leaves the time of the tick, and adds the engines' counts. -/
structure State.TickOf (s t : State) : Prop where
  ticks   : t.ticks = s.ticks + 1
  offset  : t.time.offset = s.tickTime.time.offset
  dom     : ∀ k, t.dom k = s.tickTime.dom k
  reg     : ∀ a, a < blockAddr 3 0 → t.reg a = s.tickTime.reg a
  cycle   : ∀ e : Fin 3, (t.engine e).cycle = (s.engine e).cycle + if s.powered (13 + e) then 1 else 0
  retired : ∀ e : Fin 3, (t.core (20 + e)).retired = (s.core (20 + e)).retired + if s.fnOn (4 + e) 0 0 then 1 else 0

theorem State.tickOf_ntTick (s : State) : s.TickOf s.ntTick := by
  obtain ⟨u, hu, ht⟩ := s.ntTick_keeps
  have hw := u.enginesCounted
  have he : s.SameEngines u := s.sameEngines_tickTime.trans hu.sameEngines
  have hreg (a : Nat) : ([0, 1, 2].foldl State.countTick u).reg a = u.reg a := by rw [State.reg, State.reg, hw.regs]
  refine ⟨?_, ?_, fun k => ?_, fun a ha => ?_, fun e => ?_, fun e => ?_⟩
  · rw [ht.ticks, hw.ticks, hu.ticks, State.ticks_tickTime]
  · rw [ht.offset, hw.time, hu.offset]
  · rw [ht.dom, State.dom, hw.time, ← State.dom, hu.dom]
  · rw [ht.reg a ha, hreg, hu.reg a ha]
  · rw [ht.cycle, hw.cycle, he.cycle, he.powered _ (by omega)]
  · rw [ht.core, hw.retired, he.fnOn _ e.isLt, State.core, he.cores, ← State.core]

end

/-! ## The value a tick leaves (R59, R60, R64) -/

theorem slewRate_eq (v : Nat) : slewRate v = max 1 (min 100 v) := by
  unfold slewRate
  split
  · omega
  · split <;> omega

theorem slewOffset_eq (o : Int) (n : Nat) :
    slewOffset o n = if -(n : Int) ≤ o ∧ o ≤ n then 0 else if 0 < o then o - n else o + n := by
  have hbound : o.natAbs ≤ n ↔ -(n : Int) ≤ o ∧ o ≤ n := by omega
  rw [slewOffset, if_congr hbound rfl rfl]

section
variable {s : State} {d : Nat} {a : Adj}

/-- A step, or a load of a valid value, made with FORCE or in a coarse domain is in order (R59). -/
theorem State.adjCode_ok (hfree : a.force = true ∨ s.coarseDom d = true) (hns : a.load = true → a.ns ≤ 999999999) : s.adjCode d a = .ok := by
  have hvalid : ¬ ((a.load && decide (999999999 < a.ns)) = true) := by simpa using hns
  have hlimit : ((!s.coarseDom d) && !a.force) = false := by
    rcases hfree with h | h
    · simp [h]
    · simp [h]
  rw [State.adjCode, Adj.decide, if_neg hvalid, hlimit]
  rfl

theorem State.ticked_of_ok (h : (s.dom d).adj = some a) (hok : s.adjCode d a = .ok) :
    s.ticked d = { (ntCount (s.incr d) (s.dom d)).adjusted a with adj := none } := by
  rw [State.ticked_of_adj h, if_pos hok]

theorem NtDomain.units_withAdj (x : NtDomain) (o : Option Adj) : ({ x with adj := o } : NtDomain).units = x.units := rfl

theorem Adj.loaded_of_valid (hns : a.ns ≤ 999999999) (hsec : a.sec < 2 ^ 48) (hfrac : a.frac < 2 ^ 16) :
    a.loaded = a.sec * secU + a.ns * 2 ^ 32 + a.frac * 2 ^ 16 := by
  refine Nat.mod_eq_of_lt ?_
  simp only [ntMod, secU, nsU]
  omega

/-- A load sets the value it names. -/
theorem NtDomain.units_adjusted_load (x : NtDomain) (h : a.load = true) : (x.adjusted a).units = a.loaded := by
  unfold NtDomain.adjusted
  rw [h, if_pos rfl]
  exact NtDomain.units_setUnits _ (Nat.mod_lt _ (by decide))

/-- A step adds its signed amount, and the counter wraps. -/
theorem NtDomain.units_adjusted_step (x : NtDomain) (h : a.load = false) :
    ((x.adjusted a).units : Int) = ((x.units : Int) + a.amount) % (ntMod : Int) := by
  have hpos : (0 : Int) < (ntMod : Int) := by decide
  have hnonneg := Int.emod_nonneg ((x.units : Int) + a.amount) hpos.ne'
  have hlt := Int.emod_lt_of_pos ((x.units : Int) + a.amount) hpos
  unfold NtDomain.adjusted
  rw [h, if_neg Bool.false_ne_true, NtDomain.units_setUnits _ (by omega), Int.toNat_of_nonneg hnonneg]

/-- A free domain advances by its NT_INCR. -/
theorem State.ticked_free (h : (s.dom d).adj = none) (hx : (s.dom d).InRange) (hn : s.incr d < 2 ^ 40) :
    (s.ticked d).units = ((s.dom d).units + s.incr d) % ntMod ∧ (s.ticked d).ns < 1000000000 ∧ (s.ticked d).frac < 2 ^ 32 := by
  rw [State.ticked_of_free h]
  exact ⟨units_ntCount hx hn, ntCount_parts hx hn⟩

/-- A domain whose load is in order takes the value with residue 0. -/
theorem State.ticked_load (h : (s.dom d).adj = some a) (hok : s.adjCode d a = .ok) (hload : a.load = true)
    (hns : a.ns ≤ 999999999) (hsec : a.sec < 2 ^ 48) (hfrac : a.frac < 2 ^ 16) :
    (s.ticked d).units = a.sec * secU + a.ns * 2 ^ 32 + a.frac * 2 ^ 16 ∧ (s.ticked d).adj = none := by
  rw [State.ticked_of_ok h hok, NtDomain.units_withAdj, NtDomain.units_adjusted_load _ hload, Adj.loaded_of_valid hns hsec hfrac]
  exact ⟨rfl, rfl⟩

/-- A domain whose step is in order takes it beside its count. -/
theorem State.ticked_step (h : (s.dom d).adj = some a) (hok : s.adjCode d a = .ok) (hload : a.load = false)
    (hx : (s.dom d).InRange) (hn : s.incr d < 2 ^ 40) :
    ((s.ticked d).units : Int) = ((((s.dom d).units + s.incr d : Nat) : Int) + sgn 32 a.ns * 2 ^ 32 + a.frac * 2 ^ 16) % ntMod ∧
      (s.ticked d).adj = none := by
  have hamount : a.amount = sgn 32 a.ns * 2 ^ 32 + a.frac * 2 ^ 16 := by
    rw [Adj.amount]
    push_cast
    rfl
  rw [State.ticked_of_ok h hok, NtDomain.units_withAdj, NtDomain.units_adjusted_step _ hload, units_ntCount hx hn, hamount,
    Int.natCast_mod, Int.emod_add_emod, ← Int.add_assoc]
  exact ⟨rfl, rfl⟩

/-! ## SLEW_END (R64) -/

theorem State.slewEnd_due (hslew : s.fld F.TSEL_STAT_SLEWING = 1) (ho : s.time.offset = 0) :
    s.slewEnd = (s.setFld F.TSEL_STAT_SLEWING 0).pulse 8 :=
  if_pos ⟨by rw [State.bit, hslew]; rfl, ho⟩

theorem State.slewEnd_of_offset (ho : s.time.offset ≠ 0) : s.slewEnd = s := if_neg fun h => ho h.2

theorem exec_ntTick (s : State) : exec .ntTick s = .next s.ntTick := rfl

theorem exec_slewEnd (s : State) : exec .slewEnd s = .next s.slewEnd := rfl

end

/-- Settles O38: `tickOf_ntTick` carries the time of the tick to its end, and each domain's value is that of `State.ticked` with
PD_TIME powered and of `NtDomain.coarseTick` in Standby. -/
theorem networkTimeCountsAndSlews : Obligations.NetworkTimeCountsAndSlews := by
  unfold Obligations.NetworkTimeCountsAndSlews
  intro s
  extract_lets rate step o
  have htick := s.tickOf_ntTick
  refine ⟨⟨_, exec_ntTick s, htick.ticks, fun hon hreq => ?offset, fun e => ⟨htick.cycle e, htick.retired e⟩, fun k => ?domain⟩,
    fun hslew ho => ?ends, fun ho => (exec_slewEnd s).trans (congrArg _ (State.slewEnd_of_offset ho))⟩
  case offset =>
    rw [htick.offset, State.offset_tickTime_on hon hreq, slewOffset_eq, State.slewStep, slewRate_eq]
  case domain =>
    intro x hsec hns hfrac hincr y
    have hx : (s.dom k).InRange := ⟨hsec, hns, hfrac⟩
    have hon (h : s.powered 2 = true) : y = s.ticked k := (htick.dom k).trans (State.dom_tickTime_on h k)
    have hstatus {a : Adj} (h : s.powered 2 = true) (ha : x.adj = some a) :
        s.ntTick.fld (F.NT_ADJ_CMD_STATUS k) = (s.adjCode k a).code := by
      rw [State.fld, htick.reg _ (addr_status_low k), ← State.fld, State.fld_status_tickTime h k ha]
    refine ⟨fun hoff => ?off, fun h hfree => hon h ▸ State.ticked_free hfree hx hincr,
      fun a h ha hans hasec hafrac hforce hload => ?load, fun a h ha hforce hload => hon h ▸ ?step⟩
    case off =>
      have hy : y = if s.fld F.PWR_STAT_STATE = 3 then x.coarseTick else x := (htick.dom k).trans (State.dom_tickTime_off hoff k)
      obtain ⟨hunits, hadj⟩ := units_coarseTick_or x (s.fld F.PWR_STAT_STATE = 3)
      exact ⟨by rw [hy, hunits], by rw [hy, hadj], htick.offset.trans (State.offset_tickTime_off hoff)⟩
    case load =>
      have hok := State.adjCode_ok hforce fun _ => hans
      obtain ⟨hunits, hnone⟩ := State.ticked_load ha hok hload hans hasec hafrac
      exact ⟨by rw [hon h, hunits], by rw [hon h, hnone], by rw [hstatus h ha, hok]; rfl⟩
    case step =>
      have hok := State.adjCode_ok hforce fun h => absurd (hload.symm.trans h) Bool.false_ne_true
      exact State.ticked_step ha hok hload hx hincr
  case ends =>
    refine ⟨_, (exec_slewEnd s).trans (congrArg _ (State.slewEnd_due hslew ho)), ?_, _, State.pulse_in_fabric _ 8, rfl⟩
    rw [State.fld_pulse, State.fld_setFld_same _ _ (by decide)]
    rfl

end Sys2Proof.Machine
end

section
/-!
SUPPORT. The frame of an instruction that issues (R75, R76, R93): the state it begins in, what that state shares with the state before, and
the checks of ECC words on the way (R275, R292), which leave memory, cores and engines alone.
-/
namespace Sys2Proof.Machine

theorem SMap.erase_place {V : Type} (m : SMap V) (k : Nat) (v : V) : SMap.erase (SMap.place m k v) k = SMap.erase m k := by
  induction m with
  | nil => simp [SMap.place, SMap.erase]
  | cons c m ih =>
    obtain ⟨j, w⟩ := c
    by_cases hj : k < j <;> simp [SMap.place, SMap.erase, hj, ih]

theorem SMap.erase_erase {V : Type} (m : SMap V) (k : Nat) : SMap.erase (SMap.erase m k) k = SMap.erase m k := by
  simp [SMap.erase_eq_filter]

/-- The later of two writes of one key stands. -/
theorem SMap.set_set {V : Type} [DecidableEq V] (d : Nat → V) (m : SMap V) (k : Nat) (v w : V) :
    SMap.set d (SMap.set d m k v) k w = SMap.set d m k w := by
  have herase : SMap.erase (SMap.set d m k v) k = SMap.erase m k := by
    unfold SMap.set
    split
    · exact SMap.erase_erase m k
    · rw [SMap.erase_place, SMap.erase_erase]
  rw [SMap.set, herase, ← SMap.set]

@[simp] theorem State.setCore_setCore (s : State) (c : Nat) (x y : Core) : (s.setCore c x).setCore c y = s.setCore c y := by
  simp [State.setCore, SMap.set_set]

/-! ## ECC bookkeeping (R275, R292) -/

/-- A register outside the counts and logs of the ECC words of the scratchpad and of DRAM. -/
abbrev OffEccLog (a : Nat) : Prop :=
  a < blockAddr 22 0 ∨ (blockAddr 22 0 + 0x80 ≤ a ∧ a < blockAddr 24 0) ∨ blockAddr 24 0 + 0x80 ≤ a

/-- From z to t at most words with wrong bits were dealt with, and counted. -/
structure State.EccOnly (z t : State) : Prop where
  mem     : t.mem = z.mem
  cores   : t.cores = z.cores
  eng     : t.eng = z.eng
  kprMem  : t.kprMem = z.kprMem
  pwr     : t.pwr = z.pwr
  reg     : ∀ a, OffEccLog a → t.reg a = z.reg a
  regions : t.arrays.regions = z.arrays.regions
  wrong   : ∀ a, t.wrongBits a ≤ z.wrongBits a

namespace State.EccOnly

variable {z s : State}

theorem refl (s : State) : s.EccOnly s := ⟨rfl, rfl, rfl, rfl, rfl, fun _ _ => rfl, rfl, fun _ => Nat.le_refl _⟩

theorem trans {t : State} (h : z.EccOnly s) (k : s.EccOnly t) : z.EccOnly t where
  mem := k.mem.trans h.mem
  cores := k.cores.trans h.cores
  eng := k.eng.trans h.eng
  kprMem := k.kprMem.trans h.kprMem
  pwr := k.pwr.trans h.pwr
  reg a ha := (k.reg a ha).trans (h.reg a ha)
  regions := k.regions.trans h.regions
  wrong a := Nat.le_trans (k.wrong a) (h.wrong a)

theorem foldl {α : Type} {f : State → α → State} (l : List α) (h : z.EccOnly s)
    (hf : ∀ (s : State) x, s.EccOnly (f s x)) : z.EccOnly (l.foldl f s) :=
  List.foldlRecOn _ _ h fun s hs x _ => hs.trans (hf s x)

theorem setFld (h : z.EccOnly s) {f : FRef} (v : Nat) (hf : ¬ OffEccLog f.addr) : z.EccOnly (s.setFld f v) :=
  h.trans ⟨rfl, rfl, rfl, rfl, rfl, fun _ ha => s.reg_setReg_other _ fun e => hf (e ▸ ha), rfl, fun _ => Nat.le_refl _⟩

theorem count (h : z.EccOnly s) {f : FRef} (hf : ¬ OffEccLog f.addr) : z.EccOnly (s.count f) := h.setFld _ hf

theorem logSpm (h : z.EccOnly s) (a : Nat) (ue march : Bool) : z.EccOnly (s.logSpm a ue march) := by
  unfold State.logSpm
  split
  · exact h
  · exact (((h.setFld _ (by decide)).setFld _ (by decide)).setFld _ (by decide)).setFld _ (by decide)

theorem logDmc (h : z.EccOnly s) (a : Nat) (ue : Bool) : z.EccOnly (s.logDmc a ue) := by
  unfold State.logDmc
  split
  · exact h
  · exact (((h.setFld _ (by decide)).setFld _ (by decide)).setFld _ (by decide)).setFld _ (by decide)

theorem setWrong (h : z.EccOnly s) (a : Nat) : z.EccOnly (s.setWrong a 0) := by
  refine h.trans ⟨rfl, rfl, rfl, rfl, rfl, fun _ _ => rfl, rfl, fun b => ?_⟩
  refine le_of_eq_of_le (SMap.get_set s.arrays.flips (a / 8 * 8) (b / 8 * 8) 0) ?_
  split
  · exact Nat.zero_le _
  · exact Nat.le_refl _

theorem corrected (h : z.EccOnly s) (a : Nat) : z.EccOnly (s.corrected a) := by
  unfold State.corrected
  dsimp only
  split
  · exact (((h.setWrong a).count (by decide)).setFld _ (by decide)).logDmc a false
  · exact (((h.setWrong a).count (by decide)).setFld _ (by decide)).logSpm a false false

theorem uncorrectable (h : z.EccOnly s) (a : Nat) : z.EccOnly (s.uncorrectable a) := by
  unfold State.uncorrectable
  split
  · exact ((h.count (by decide)).setFld _ (by decide)).logDmc a true
  · exact ((h.count (by decide)).setFld _ (by decide)).logSpm a true false

theorem seen (h : z.EccOnly s) (a n : Nat) : z.EccOnly (s.seen a n) := by
  refine h.foldl _ fun s x => ?_
  unfold State.seenWord
  split
  · exact refl s
  · split
    · exact (refl s).corrected _
    · exact (refl s).uncorrectable _

theorem walkSeen (h : z.EccOnly s) (c va : Nat) : z.EccOnly (s.walkSeen c va) := by
  unfold State.walkSeen
  dsimp only
  split
  · exact h
  · exact h.foldl _ fun s a => (refl s).seen a 8

theorem fetchSeen (h : z.EccOnly s) (c : Nat) : z.EccOnly (s.fetchSeen c) := by
  unfold State.fetchSeen
  dsimp only
  split
  · split
    · exact (h.walkSeen c _).seen _ 4
    · exact h.walkSeen c _
  · exact h.walkSeen c _

/-- The check of a word that is not beyond correction lets the access go on. -/
theorem checkWord (h : z.EccOnly s) (a : Nat) : z.EccOnly (s.checkWord a).1 := by
  unfold State.checkWord
  split_ifs
  · exact h
  · exact h
  · exact h.corrected a
  · exact h.uncorrectable a

/-! What they leave in the rest of the state. -/

theorem fld (h : z.EccOnly s) {f : FRef} (hf : OffEccLog f.addr) : s.fld f = z.fld f := by
  rw [State.fld, State.fld, h.reg _ hf]

theorem core (h : z.EccOnly s) (c : Nat) : s.core c = z.core c := by
  rw [State.core, State.core, h.cores]

theorem byte (h : z.EccOnly s) (a : Nat) : s.byte a = z.byte a := by
  rw [State.byte, State.byte, h.mem]

theorem inCodes (h : z.EccOnly s) (a : Nat) : s.inCodes a = z.inCodes a := by
  rw [State.inCodes, State.inCodes, State.eccRegion, State.eccRegion, h.regions]

theorem coded (h : z.EccOnly s) (a : Nat) : s.coded a = z.coded a := by
  rw [State.coded, State.coded, State.eccRegion, State.eccRegion, h.regions]

theorem memOff (h : z.EccOnly s) (a : Nat) : s.memOff a = z.memOff a := by
  rw [State.memOff, State.memOff, State.fnOn, State.fnOn, h.fld (by decide), h.fld (by decide)]

/-- An access that fails nowhere before fails nowhere after. -/
theorem shut (h : z.EccOnly s) {a : Nat} (hs : z.shut a = false) : s.shut a = false := by
  have hw := h.wrong a
  simp only [State.shut, h.inCodes, h.memOff, h.coded, Bool.or_eq_false_iff, Bool.and_eq_false_iff, decide_eq_false_iff_not] at hs ⊢
  refine ⟨hs.1, hs.2.imp_right fun hz => ?_⟩
  omega

theorem role (h : z.EccOnly s) (req : Nat) : s.role req = z.role req := by
  have hfrom : ∀ n, n ≤ 8 → roleFrom s req n = roleFrom z req n := by
    intro n
    induction n with
    | zero => exact fun _ => rfl
    | succ n ih =>
      intro hn
      have hoff : OffEccLog (R.PASS_SLOT n) := .inr (.inr (Nat.le_trans (by decide : _ ≤ R.PASS_SLOT 0) (Nat.le_add_right _ _)))
      rw [roleFrom, roleFrom, ih (by omega), State.bit, State.bit, h.fld hoff, h.fld hoff, h.fld hoff, h.fld hoff]
  rw [State.role, State.role, hfrom 8 (Nat.le_refl 8)]

theorem powered (h : z.EccOnly s) (d : Nat) : s.powered d = z.powered d := by
  rw [State.powered, State.powered, h.fld (by decide)]

theorem asleep (h : z.EccOnly s) (d : Nat) : s.asleep d = z.asleep d := by
  have hp : s.powered = z.powered := funext h.powered
  rw [State.asleep, State.asleep, hp, h.fld (by decide)]

/-- The outcome of Table 02-9 is the same. -/
theorem judge (h : z.EccOnly s) (req a n : Nat) : s.judge req a n = z.judge req a n := by
  have hon : s.fnOn 24 0 0 = z.fnOn 24 0 0 := by rw [State.fnOn, State.fnOn, h.fld (by decide)]
  simp only [State.judge, h.role, h.pwr, h.powered, h.asleep, hon]

end State.EccOnly

/-! ## The state an instruction begins in -/

@[simp] theorem State.cacheLeaf_mem (s : State) (c : Nat) (leaf : Option TlbEntry) : (s.cacheLeaf c leaf).mem = s.mem := by
  cases leaf <;> rfl

/-- A core but for its cached translations, which a walk of its own may extend (R102). -/
def Core.SameButTlb (x y : Core) : Prop := ∃ l, y = { x with tlb := l }

theorem State.core_cacheLeaf (s : State) (c d : Nat) (leaf : Option TlbEntry) :
    (s.core d).SameButTlb ((s.cacheLeaf c leaf).core d) := by
  cases leaf with
  | none => exact ⟨_, rfl⟩
  | some e =>
    rw [State.cacheLeaf, State.core_setCore]
    split
    · next h => exact ⟨_, by rw [h]⟩
    · exact ⟨_, rfl⟩

@[simp] theorem State.core_dropLate (s : State) (c d : Nat) : (s.dropLate c).core d = s.core d := by
  unfold State.dropLate
  split <;> rfl

@[simp] theorem State.mem_dropLate (s : State) (c : Nat) : (s.dropLate c).mem = s.mem := by
  unfold State.dropLate
  split <;> rfl

@[simp] theorem State.mem_begun (s : State) (c : Fin 24) : (s.begun c).mem = s.mem := by
  unfold State.begun
  split
  · rw [State.cacheLeaf_mem, State.mem_dropLate, ((State.EccOnly.refl s).fetchSeen c).mem]
  · rfl

@[simp] theorem State.byte_begun (s : State) (c : Fin 24) (a : Nat) : (s.begun c).byte a = s.byte a := by
  rw [State.byte, State.byte, State.mem_begun]

theorem State.core_begun (s : State) (c : Fin 24) (d : Nat) : (s.core d).SameButTlb ((s.begun c).core d) := by
  unfold State.begun
  split
  · obtain ⟨l, hl⟩ := ((s.fetchSeen c).dropLate c).core_cacheLeaf c d _
    refine ⟨l, hl.trans ?_⟩
    rw [State.core_dropLate, ((State.EccOnly.refl s).fetchSeen c).core]
  · exact ⟨_, rfl⟩

/-! ## Instructions that issue -/

section
variable {s : State} {c : Fin 24} {part : Part} {word : Nat} {body : State → State}

theorem State.Issues.runs (h : s.Issues c part) : s.Runs c := ⟨h.can, h.fetch⟩

theorem State.Runs.issues (h : s.Runs c) (hp : hasPart (kindOf c) part = true) : s.Issues c part := ⟨h.can, h.fetch, hp⟩

/-- The frame of an instruction whose fetch is fine (R75, R80). -/
theorem State.Runs.ins_eq (h : s.Runs c) (legal : Bool) :
    s.ins c part legal word body =
      if hasPart (kindOf c) part && legal then body (s.begun c) else (s.begun c).illegal c word := by
  obtain ⟨leaf, hf⟩ := h.fetch
  simp only [State.ins, h.can, hf, State.begun, Bool.not_true, Bool.false_eq_true, if_false]

theorem State.Issues.ins_legal (h : s.Issues c part) : s.ins c part true word body = body (s.begun c) := by
  rw [h.runs.ins_eq, h.has]
  rfl

theorem State.Runs.ins_base (h : s.Runs c) : s.ins c .base true word body = body (s.begun c) := (h.issues rfl).ins_legal

theorem State.Runs.ins_illegal (h : s.Runs c) : s.ins c part false word body = (s.begun c).illegal c word := by
  rw [h.ins_eq, Bool.and_false]
  rfl

/-- An instruction of a part that the core lacks is illegal, whatever else its word says (R75). -/
theorem State.Runs.ins_absent (h : s.Runs c) (hp : hasPart (kindOf c) part = false) (legal : Bool) :
    s.ins c part legal word body = (s.begun c).raise c 0x03 0 word false := by
  rw [h.ins_eq, hp]
  rfl

/-- A form that computes a register answers the value that its core's registers give. -/
theorem State.Issues.computes (h : s.Issues c part) {i : Instr} {rd : Fin 32} {f v : Core → DWord}
    (hi : exec i s = .next (s.compute c part rd word f)) (hv : f ((s.begun c).core c) = v ((s.begun c).core c)) :
    Computes i s c rd v := by
  rw [Computes, hi, State.compute, h.ins_legal, State.result, State.advance, State.advance, hv]

end
end Sys2Proof.Machine
end

section
/-!
SUPPORT. Instruction words against the decoder (R79 to R83, R102, R109): the fields of each format, and what each major opcode spells.
-/
namespace Sys2Proof.Machine

/-! ## The fields of the formats (R79) -/

section
variable {op fn imm : Nat} {d a b x : Fin 32}

theorem wordReg_eq {w lsb : Nat} {r : Fin 32} (h : w / 2 ^ lsb % 32 = r.val) : wordReg w lsb = r := Fin.ext h

theorem testBit_of_b2n {w i : Nat} {p : Bool} (h : w / 2 ^ i % 2 = b2n p) : w.testBit i = p := by
  rw [Nat.testBit_eq_decide_div_mod_eq, h]
  cases p <;> rfl

/-- A word of the R format: its major opcode, registers and function. -/
structure SpellsR (w op : Nat) (d a b : Fin 32) (fn : Nat) : Prop where
  op : w / 2 ^ 26 % 64 = op
  rd : wordRd w = d
  ra : wordRa w = a
  rb : wordRb w = b
  fn : w % 2 ^ 11 = fn

theorem spellsR_encR (hop : op < 64) (hfn : fn < 2 ^ 11) : SpellsR (encR op d a b fn) op d a b fn := by
  have hd := d.isLt
  have ha := a.isLt
  have hb := b.isLt
  unfold encR
  exact ⟨by omega, wordReg_eq (by omega), wordReg_eq (by omega), wordReg_eq (by omega), by omega⟩

/-- A word of the I format: its major opcode, two registers and the immediate. -/
structure SpellsI (w op : Nat) (d a : Fin 32) (imm : Nat) : Prop where
  op  : w / 2 ^ 26 % 64 = op
  rd  : wordRd w = d
  ra  : wordRa w = a
  imm : w % 2 ^ 16 = imm

theorem spellsI_encI (hop : op < 64) (himm : imm < 2 ^ 16) : SpellsI (encI op d a imm) op d a imm := by
  have hd := d.isLt
  have ha := a.isLt
  unfold encI
  exact ⟨by omega, wordReg_eq (by omega), wordReg_eq (by omega), by omega⟩

/-- A word of the J or U format: its major opcode, a register and the immediate. -/
structure SpellsU (w op : Nat) (d : Fin 32) (imm : BitVec 21) : Prop where
  op  : w / 2 ^ 26 % 64 = op
  rd  : wordRd w = d
  imm : wordImm21 w = imm

theorem spellsU_encU (hop : op < 64) (i : BitVec 21) : SpellsU (encU op d i.toNat) op d i := by
  have hd := d.isLt
  have hi := i.isLt
  unfold encU
  exact ⟨by omega, wordReg_eq (by omega), BitVec.eq_of_toNat_eq (by rw [wordImm21, BitVec.toNat_ofNat]; omega)⟩

end

/-! ## The decoder by major opcode (Table 04-3) -/

section
variable {c : Fin 24} {w : Nat}

theorem decodeIblek_op (h : w / 2 ^ 26 % 64 = 0x01) :
    decodeIblek c w = if w % 2 ^ 11 < 0x10 then decodeOpLow c w (w % 2 ^ 11) else decodeOpHigh c w (w % 2 ^ 11) := by
  rw [decodeIblek, h]
  rfl

theorem decodeIblek_imm {op : Nat} (h : w / 2 ^ 26 % 64 = op) (h1 : op ≠ 1) (h2 : op ≤ 0x15) : decodeIblek c w = decodeImm c w op := by
  rw [decodeIblek, h]
  simp [h1, h2]

theorem decodeIblek_mem {op : Nat} (h : w / 2 ^ 26 % 64 = op) (h1 : 0x15 < op) (h2 : op ≤ 0x27) : decodeIblek c w = decodeMem c w op := by
  have h3 : op ≠ 1 := by omega
  have h4 : ¬ op ≤ 0x15 := by omega
  rw [decodeIblek, h]
  simp [h2, h3, h4]

theorem decodeIblek_atom (h : w / 2 ^ 26 % 64 = 0x28) : decodeIblek c w = decodeAtom c w := by
  rw [decodeIblek, h]
  rfl

theorem decodeIblek_sys (h : w / 2 ^ 26 % 64 = 0x2F) : decodeIblek c w = decodeSys c w := by
  rw [decodeIblek, h]
  rfl

theorem decodeIblek_fop (h : w / 2 ^ 26 % 64 = 0x30) : decodeIblek c w = decodeFop c w := by
  rw [decodeIblek, h]
  rfl

theorem decodeIblek_fma {op : Nat} (h : w / 2 ^ 26 % 64 = op) (h1 : 0x30 < op) (h2 : op ≤ 0x34) : decodeIblek c w = decodeFma c w op := by
  have h3 : op ≠ 1 := by omega
  have h4 : ¬ op ≤ 0x15 := by omega
  have h5 : ¬ op ≤ 0x27 := by omega
  have h6 : op ≠ 0x28 := by omega
  have h7 : op ≠ 0x2F := by omega
  have h8 : op ≠ 0x30 := by omega
  rw [decodeIblek, h]
  simp [h2, h3, h4, h5, h6, h7, h8]

theorem decodeIblek_timed (h : w / 2 ^ 26 % 64 = 0x38) : decodeIblek c w = decodeTimed c w := by
  rw [decodeIblek, h]
  rfl

theorem decodeIblek_ext {op : Nat} (h : w / 2 ^ 26 % 64 = op) (h1 : 0x38 < op) : decodeIblek c w = decodeExt c w op := by
  have h3 : op ≠ 1 := by omega
  have h4 : ¬ op ≤ 0x15 := by omega
  have h5 : ¬ op ≤ 0x27 := by omega
  have h6 : op ≠ 0x28 := by omega
  have h7 : op ≠ 0x2F := by omega
  have h8 : op ≠ 0x30 := by omega
  have h9 : ¬ op ≤ 0x34 := by omega
  have h10 : op ≠ 0x38 := by omega
  rw [decodeIblek, h]
  simp [h3, h4, h5, h6, h7, h8, h9, h10]

end

/-! ## OP (Table 04-4) -/

section
variable (c : Fin 24) (d a b : Fin 32)

theorem decode_encR_op {fn : Nat} (h : fn < 2 ^ 11) :
    decodeIblek c (encR 0x01 d a b fn) =
      if fn < 0x10 then decodeOpLow c (encR 0x01 d a b fn) fn else decodeOpHigh c (encR 0x01 d a b fn) fn := by
  have hw := spellsR_encR (d := d) (a := a) (b := b) (by decide : 0x01 < 64) h
  rw [decodeIblek_op hw.op, hw.fn]

/-- The registers of an OP word with a function that its 11 bits hold. -/
theorem spellsR_op {fn : Nat} (h : fn < 2 ^ 11) : SpellsR (encR 0x01 d a b fn) 0x01 d a b fn := spellsR_encR (by decide) h

theorem decode_op_listed :
    ∀ p ∈ ([(0x00, .add), (0x01, .sub), (0x02, .and_), (0x03, .or_), (0x04, .xor), (0x05, .slt), (0x06, .sltu), (0x07, .sll),
        (0x08, .srl), (0x09, .sra), (0x0A, .ror), (0x0B, .addw), (0x0C, .subw), (0x0D, .sllw), (0x0E, .srlw), (0x0F, .sraw),
        (0x10, .mul), (0x11, .mulh), (0x12, .mulhu), (0x13, .mulhsu), (0x14, .div), (0x15, .divu), (0x16, .rem_), (0x17, .remu),
        (0x18, .min), (0x19, .max), (0x1A, .minu), (0x1B, .maxu), (0x20, .selnz)] : List (Nat × Form3)),
      decodeIblek c (encR 0x01 d a b p.1) = some (p.2 c d a b) := by
  have hw {fn : Nat} (h : fn < 2 ^ 11) := spellsR_op d a b h
  simp [decode_encR_op, decodeOpLow, decodeOpHigh, (hw _).rd, (hw _).ra, (hw _).rb]

theorem decode_op_unary :
    ∀ p ∈ ([(0x1C, .clz), (0x1D, .ctz), (0x1E, .popc), (0x1F, .bswap)] : List (Nat × (Fin 24 → Fin 32 → Fin 32 → Instr))),
      decodeIblek c (encR 0x01 d a b p.1) = if b = 0 then some (p.2 c d a) else none := by
  have hw {fn : Nat} (h : fn < 2 ^ 11) := spellsR_op d a b h
  simp [decode_encR_op, decodeOpHigh, whenZero, (hw _).rd, (hw _).ra, (hw _).rb]

theorem decode_op_unlisted {fn : Nat} (h : 0x20 < fn) (hfn : fn < 2 ^ 11) : decodeIblek c (encR 0x01 d a b fn) = none := by
  rw [decode_encR_op c d a b hfn, if_neg (by omega)]
  unfold decodeOpHigh
  split
  case h_18 => rfl
  all_goals omega

end

/-! ## The I, B, J and U formats (Tables 04-4 to 04-6) -/

section
variable (c : Fin 24) (d a : Fin 32)

theorem wordImm_encI {op : Nat} (hop : op < 64) (i : BitVec 16) : wordImm (encI op d a i.toNat) = i := by
  refine BitVec.eq_of_toNat_eq ?_
  rw [wordImm, BitVec.toNat_ofNat, (spellsI_encI hop i.isLt).imm]

theorem decode_imm_listed (i : BitVec 16) :
    ∀ p ∈ ([(0x02, .addi), (0x03, .andi), (0x04, .ori), (0x05, .xori), (0x06, .slti), (0x07, .sltiu), (0x08, .shi), (0x09, .addiw),
        (0x0D, .jalr), (0x10, .beq), (0x11, .bne), (0x12, .blt), (0x13, .bge), (0x14, .bltu), (0x15, .bgeu), (0x18, .lb), (0x19, .lbu),
        (0x1A, .lh), (0x1B, .lhu), (0x1C, .lw), (0x1D, .lwu), (0x1E, .ld), (0x20, .sb), (0x21, .sh), (0x22, .sw), (0x23, .sd),
        (0x24, .flw), (0x25, .fld), (0x26, .fsw), (0x27, .fsd)] : List (Nat × (Fin 24 → Fin 32 → Fin 32 → BitVec 16 → Instr))),
      decodeIblek c (encI p.1 d a i.toNat) = some (p.2 c d a i) := by
  have hw {op : Nat} (h : op < 64) := spellsI_encI (d := d) (a := a) h i.isLt
  have himm {op : Nat} (h1 : op ≠ 1) (h2 : op ≤ 0x15) :
      decodeIblek c (encI op d a i.toNat) = decodeImm c (encI op d a i.toNat) op :=
    decodeIblek_imm (hw (by omega)).op h1 h2
  have hmem {op : Nat} (h1 : 0x15 < op) (h2 : op ≤ 0x27) :
      decodeIblek c (encI op d a i.toNat) = decodeMem c (encI op d a i.toNat) op :=
    decodeIblek_mem (hw (by omega)).op h1 h2
  simp [himm, hmem, decodeImm, decodeMem, (hw _).rd, (hw _).ra, wordImm_encI]

theorem decode_wide_listed (i : BitVec 21) :
    decodeIblek c (encU 0x0A d i.toNat) = some (.lui c d i) ∧ decodeIblek c (encU 0x0B d i.toNat) = some (.auipc c d i) ∧
    decodeIblek c (encU 0x0C d i.toNat) = some (.jal c d i) := by
  have hw {op : Nat} (h : op < 64) := spellsU_encU (d := d) h i
  have himm {op : Nat} (h1 : op ≠ 1) (h2 : op ≤ 0x15) : decodeIblek c (encU op d i.toNat) = decodeImm c (encU op d i.toNat) op :=
    decodeIblek_imm (hw (by omega)).op h1 h2
  simp [himm, decodeImm, (hw _).rd, (hw _).imm]

end

/-! ## ATOM (Table 04-7) -/

section
variable (c : Fin 24) (d a b : Fin 32) (x aq rl : Bool)

/-- The fields of an ATOM word, with what its low bits hold beside them. -/
theorem spellsR_atomWord {op low : Nat} (hop : op < 16) (hlow : low < 16) :
    SpellsR (atomWord op d a b x aq rl + low) 0x28 d a b (op * 2 ^ 7 + b2n x * 2 ^ 6 + b2n aq * 2 ^ 5 + b2n rl * 2 ^ 4 + low) := by
  have hx := b2n_lt_two x
  have haq := b2n_lt_two aq
  have hrl := b2n_lt_two rl
  rw [show atomWord op d a b x aq rl + low = encR 0x28 d a b (op * 2 ^ 7 + b2n x * 2 ^ 6 + b2n aq * 2 ^ 5 + b2n rl * 2 ^ 4 + low) from
    Nat.add_assoc ..]
  exact spellsR_encR (by decide) (by omega)

/-- The operation, width and ordering bits of an ATOM word. -/
theorem fn_atomWord {op : Nat} (hop : op < 16) :
    atomWord op d a b x aq rl % 16 = 0 ∧ atomWord op d a b x aq rl / 128 % 16 = op ∧
    (atomWord op d a b x aq rl).testBit 6 = x ∧ (atomWord op d a b x aq rl).testBit 5 = aq ∧
    (atomWord op d a b x aq rl).testBit 4 = rl := by
  have hx := b2n_lt_two x
  have haq := b2n_lt_two aq
  have hrl := b2n_lt_two rl
  have hfn := (spellsR_atomWord d a b x aq rl hop (by decide : 0 < 16)).fn
  rw [Nat.add_zero] at hfn
  exact ⟨by omega, by omega, testBit_of_b2n (by omega), testBit_of_b2n (by omega), testBit_of_b2n (by omega)⟩

theorem decode_atom {op : Nat} (hop : op < 16) : decodeIblek c (atomWord op d a b x aq rl) = decodeAtom c (atomWord op d a b x aq rl) :=
  decodeIblek_atom (spellsR_atomWord d a b x aq rl hop (by decide : 0 < 16)).op

theorem decode_atom_listed :
    ∀ p ∈ ([(1, .sc), (2, .swapAtomic), (3, .aadd), (4, .aand), (5, .aor), (6, .axor), (7, .amin), (8, .amax), (9, .aminu),
        (10, .amaxu), (11, .cas)] : List (Nat × (Fin 24 → Fin 32 → Fin 32 → Fin 32 → Bool → Bool → Bool → Instr))),
      decodeIblek c (atomWord p.1 d a b x aq rl) = some (p.2 c d a b x aq rl) := by
  have hw {op : Nat} (h : op < 16) : SpellsR (atomWord op d a b x aq rl) _ d a b _ := spellsR_atomWord d a b x aq rl h (by decide : 0 < 16)
  have hfn {op : Nat} (h : op < 16) := fn_atomWord d a b x aq rl h
  simp [decode_atom, decodeAtom, hfn, (hw _).rd, (hw _).ra, (hw _).rb]

theorem decode_lr : decodeIblek c (atomWord 0 d a b x aq rl) = some (.lr c d a x aq rl) := by
  have hw : SpellsR (atomWord 0 d a b x aq rl) _ d a b _ := spellsR_atomWord d a b x aq rl (by decide : 0 < 16) (by decide : 0 < 16)
  obtain ⟨hlow, hop, hx, haq, hrl⟩ := fn_atomWord d a b x aq rl (by decide : 0 < 16)
  simp [decode_atom, decodeAtom, hlow, hop, hx, haq, hrl, hw.rd, hw.ra]

theorem decode_atom_unlisted {op : Nat} (h : 11 < op) (hop : op < 16) : decodeIblek c (atomWord op d a b x aq rl) = none := by
  rw [decode_atom c d a b x aq rl hop, decodeAtom]
  have hdiv : atomWord op d a b x aq rl / 2 ^ 7 % 16 = op := (fn_atomWord d a b x aq rl hop).2.1
  rw [hdiv]
  split
  · rfl
  · split
    case h_13 => rfl
    all_goals omega

theorem decode_atom_low {op low : Nat} (hop : op < 16) (hlow : low < 16) (h : 0 < low) :
    decodeIblek c (atomWord op d a b x aq rl + low) = none := by
  have hw := spellsR_atomWord d a b x aq rl hop hlow
  have hmod : (atomWord op d a b x aq rl + low) % 16 ≠ 0 := by
    have hfn := hw.fn
    omega
  rw [decodeIblek_atom hw.op, decodeAtom]
  simp [hmod]

end
/-! ## FOP and the fused forms (Table 04-8) -/

section
variable (c : Fin 24) (d a b x : Fin 32) (dbl : Bool) (m : Fin 8)

theorem spellsR_fopWord {op : Nat} (hop : op < 128) :
    SpellsR (fopWord op d a b dbl m) 0x30 d a b (op * 2 ^ 4 + b2n dbl * 2 ^ 3 + m) := by
  have hdbl := b2n_lt_two dbl
  have hm := m.isLt
  exact spellsR_encR (by decide) (by omega)

/-- The operation, precision and rounding mode of an FOP word. -/
theorem fn_fopWord {op : Nat} (hop : op < 128) :
    fopWord op d a b dbl m / 16 % 128 = op ∧ (fopWord op d a b dbl m).testBit 3 = dbl ∧ Fin.ofNat 8 (fopWord op d a b dbl m) = m := by
  have hdbl := b2n_lt_two dbl
  have hm := m.isLt
  have hfn := (spellsR_fopWord d a b dbl m hop).fn
  exact ⟨by omega, testBit_of_b2n (by omega), Fin.ext (by rw [Fin.val_ofNat]; omega)⟩

theorem decode_fop {op : Nat} (hop : op < 128) : decodeIblek c (fopWord op d a b dbl m) = decodeFop c (fopWord op d a b dbl m) :=
  decodeIblek_fop (spellsR_fopWord d a b dbl m hop).op

theorem decode_fop_binary :
    ∀ p ∈ ([(0, .fadd), (1, .fsub), (2, .fmul), (3, .fdiv), (5, .fmin), (6, .fmax), (7, .fsgnj), (8, .fsgnjn), (9, .fsgnjx),
        (10, .feq), (11, .flt), (12, .fle)] : List (Nat × (Fin 24 → Fin 32 → Fin 32 → Fin 32 → Bool → Fin 8 → Instr))),
      decodeIblek c (fopWord p.1 d a b dbl m) = some (p.2 c d a b dbl m) := by
  have hw {op : Nat} (h : op < 128) := spellsR_fopWord d a b dbl m h
  have hfn {op : Nat} (h : op < 128) := fn_fopWord d a b dbl m h
  simp [decode_fop, decodeFop, hfn, -Fin.ofNat_eq_cast, (hw _).rd, (hw _).ra, (hw _).rb]

theorem decode_fop_unary :
    ∀ p ∈ ([(4, .fsqrt), (13, .fclass), (14, .fcvtFI), (15, .fcvtFIu), (16, .fcvtIF), (17, .fcvtIuF), (18, .fcvtP), (19, .fmvIF),
        (20, .fmvFI)] : List (Nat × (Fin 24 → Fin 32 → Fin 32 → Bool → Fin 8 → Instr))),
      decodeIblek c (fopWord p.1 d a b dbl m) = if b = 0 then some (p.2 c d a dbl m) else none := by
  have hw {op : Nat} (h : op < 128) := spellsR_fopWord d a b dbl m h
  have hfn {op : Nat} (h : op < 128) := fn_fopWord d a b dbl m h
  simp [decode_fop, decodeFop, whenZero, hfn, -Fin.ofNat_eq_cast, (hw _).rd, (hw _).ra, (hw _).rb]

theorem decode_fop_unlisted {op : Nat} (h : 20 < op) (hop : op < 128) : decodeIblek c (fopWord op d a b dbl m) = none := by
  have hdiv : fopWord op d a b dbl m / 2 ^ 4 % 128 = op := (fn_fopWord d a b dbl m hop).1
  rw [decode_fop c d a b dbl m hop, decodeFop, hdiv]
  split
  case h_22 => rfl
  all_goals omega

/-- The fields of a word of the F format, with what its two low bits hold. -/
theorem spellsR_encF {op low : Nat} (hop : op < 64) (hlow : low < 4) :
    SpellsR (encF op d a b x m (b2n dbl) + low) op d a b (x * 2 ^ 6 + m * 2 ^ 3 + b2n dbl * 2 ^ 2 + low) := by
  have hx := x.isLt
  have hm := m.isLt
  have hdbl := b2n_lt_two dbl
  rw [show encF op d a b x m (b2n dbl) + low = encR op d a b (x * 2 ^ 6 + m * 2 ^ 3 + b2n dbl * 2 ^ 2 + low) by
    simp only [encF, encR, Nat.add_assoc]]
  exact spellsR_encR hop (by omega)

theorem fn_encF {op : Nat} (hop : op < 64) :
    wordReg (encF op d a b x m (b2n dbl)) 6 = x ∧ Fin.ofNat 8 (encF op d a b x m (b2n dbl) / 8) = m ∧
    (encF op d a b x m (b2n dbl)).testBit 2 = dbl ∧ encF op d a b x m (b2n dbl) % 4 = 0 := by
  have hx := x.isLt
  have hm := m.isLt
  have hdbl := b2n_lt_two dbl
  have hfn := (spellsR_encF d a b x dbl m hop (by decide : 0 < 4)).fn
  rw [Nat.add_zero] at hfn
  exact ⟨wordReg_eq (by omega), Fin.ext (by rw [Fin.val_ofNat]; omega), testBit_of_b2n (by omega), by omega⟩

theorem decode_fma {op low : Nat} (h1 : 0x30 < op) (h2 : op ≤ 0x34) (hlow : low < 4) :
    decodeIblek c (encF op d a b x m (b2n dbl) + low) = decodeFma c (encF op d a b x m (b2n dbl) + low) op :=
  decodeIblek_fma (spellsR_encF d a b x dbl m (by omega) hlow).op h1 h2

/-- The low two bits of a word of the F format must be 0. -/
theorem decode_fma_low {op low : Nat} (h1 : 0x30 < op) (h2 : op ≤ 0x34) (h : 0 < low) (hlow : low < 4) :
    decodeIblek c (encF op d a b x m (b2n dbl) + low) = none := by
  have hmod : (encF op d a b x m (b2n dbl) + low) % 4 ≠ 0 := by
    have hz := (fn_encF d a b x dbl m (by omega : op < 64)).2.2.2
    omega
  rw [decode_fma c d a b x dbl m h1 h2 hlow]
  unfold decodeFma
  split <;> simp [hmod, whenZero]

theorem decode_fma_listed :
    ∀ p ∈ ([(0x31, .fmadd), (0x32, .fmsub), (0x33, .fnmadd), (0x34, .fnmsub)] :
        List (Nat × (Fin 24 → Fin 32 → Fin 32 → Fin 32 → Fin 32 → Bool → Fin 8 → Instr))),
      decodeIblek c (encF p.1 d a b x m (b2n dbl)) = some (p.2 c d a b x dbl m) ∧
      ∀ low, 0 < low → low < 4 → decodeIblek c (encF p.1 d a b x m (b2n dbl) + low) = none := by
  have hw {op : Nat} (h : op < 64) := spellsR_encF d a b x dbl m h (by decide : 0 < 4)
  have hfn {op : Nat} (h : op < 64) := fn_encF d a b x dbl m h
  have hfma {op : Nat} (h1 : 0x30 < op) (h2 : op ≤ 0x34) := decode_fma c d a b x dbl m h1 h2 (by decide : 0 < 4)
  have hlow {op : Nat} (h1 : 0x30 < op) (h2 : op ≤ 0x34) (low : Nat) := decode_fma_low c d a b x dbl m (low := low) h1 h2
  simp only [Nat.add_zero] at hw hfma
  simp only [List.forall_mem_cons, List.not_mem_nil, false_implies, implies_true, and_true]
  refine ⟨⟨?_, hlow (by decide) (by decide)⟩, ⟨?_, hlow (by decide) (by decide)⟩, ⟨?_, hlow (by decide) (by decide)⟩,
    ⟨?_, hlow (by decide) (by decide)⟩⟩
  all_goals simp [hfma, decodeFma, whenZero, hfn, -Fin.ofNat_eq_cast, (hw _).rd, (hw _).ra, (hw _).rb]

end

/-! ## SYS (Table 04-10) -/

section
variable (c : Fin 24) (d a : Fin 32)

/-- A SYS word: the sub-operation and the 12 bits below it. -/
def sysForm (d a : Fin 32) (op low : Nat) : Nat := encI 0x2F d a (op * 2 ^ 12 + low)

theorem spellsI_sysForm {op low : Nat} (hop : op < 16) (hlow : low < 2 ^ 12) :
    SpellsI (sysForm d a op low) 0x2F d a (op * 2 ^ 12 + low) := spellsI_encI (by decide) (by omega)

/-- What the decoder reads of a SYS word. -/
theorem imm_sysForm {op low : Nat} (hop : op < 16) (hlow : low < 2 ^ 12) :
    sysForm d a op low / 4096 % 16 = op ∧ sysForm d a op low % 4096 = low ∧ sysForm d a op low / 256 % 16 = low / 256 ∧
    BitVec.ofNat 12 (sysForm d a op low) = BitVec.ofNat 12 low := by
  have himm := (spellsI_sysForm d a hop hlow).imm
  exact ⟨by omega, by omega, by omega, BitVec.eq_of_toNat_eq (by rw [BitVec.toNat_ofNat, BitVec.toNat_ofNat]; omega)⟩

theorem decode_sys {op low : Nat} (hop : op < 16) (hlow : low < 2 ^ 12) :
    decodeIblek c (sysForm d a op low) = decodeSys c (sysForm d a op low) :=
  decodeIblek_sys (spellsI_sysForm d a hop hlow).op

theorem decode_sr (sr : BitVec 12) :
    decodeIblek c (sysForm d a 0 sr.toNat) = some (.srswap c d a sr) ∧ decodeIblek c (sysForm d a 1 sr.toNat) = some (.srset c d a sr) ∧
    decodeIblek c (sysForm d a 2 sr.toNat) = some (.srclr c d a sr) := by
  have hsr := sr.isLt
  have hw {op : Nat} (h : op < 16) := spellsI_sysForm d a h hsr
  have himm {op : Nat} (h : op < 16) := imm_sysForm d a h hsr
  simp [decode_sys, hsr, decodeSys, himm, (hw _).rd, (hw _).ra]

theorem decode_tlbinv (scope : Fin 4) : decodeIblek c (sysForm d a 10 scope) = some (.tlbinv c d a scope) := by
  have hlow : scope.val < 2 ^ 12 := Nat.lt_trans scope.isLt (by decide)
  have hw := spellsI_sysForm d a (by decide : 10 < 16) hlow
  obtain ⟨hop, hmod, -, -⟩ := imm_sysForm d a (by decide : 10 < 16) hlow
  have hscope : Fin.ofNat 4 (sysForm d a 10 scope) = scope := Fin.ext (by rw [Fin.val_ofNat]; have := scope.isLt; omega)
  rw [decode_sys c d a (by decide) hlow, decodeSys]
  simp [hop, hscope, -Fin.ofNat_eq_cast, hw.rd, hw.ra]

/-- Sub-operations that need every other field to be 0. -/
theorem decode_sys_bare {op low : Nat} (h4 : 4 ≤ op) (h7 : op ≤ 7) (hlow : low < 2 ^ 12) (h : ¬ (d = 0 ∧ a = 0) ∨ low ≠ 0) :
    decodeIblek c (sysForm d a op low) = none := by
  have hw := spellsI_sysForm d a (by omega : op < 16) hlow
  obtain ⟨hop, hmod, -, -⟩ := imm_sysForm d a (by omega : op < 16) hlow
  have hz : (d == 0 && a == 0 && decide (low = 0)) = false := by
    rcases h with h | h
    · rw [Bool.and_eq_false_iff, Bool.and_eq_false_iff, beq_eq_false_iff_ne, beq_eq_false_iff_ne]
      exact .inl (not_and_or.mp h)
    · simp [h]
  obtain rfl | rfl | rfl | rfl : op = 4 ∨ op = 5 ∨ op = 6 ∨ op = 7 := by omega
  all_goals
    rw [decode_sys c d a (by decide) hlow, decodeSys]
    simp [hop, hmod, hw.rd, hw.ra, whenZero]
    simpa using hz

/-- The sub-operations with nothing beside them, and FENCE with its two sets. -/
theorem decode_sys_listed (pre suc : BitVec 4) :
    decodeIblek c (sysForm 0 0 4 0) = some (.ecall c) ∧ decodeIblek c (sysForm 0 0 5 0) = some (.ebreak c) ∧
    decodeIblek c (sysForm 0 0 6 0) = some (.eret c) ∧ decodeIblek c (sysForm 0 0 7 0) = some (.wfi c) ∧
    decodeIblek c (sysForm 0 0 8 (16 * pre.toNat + suc.toNat)) = some (.fence c pre suc) ∧
    decodeIblek c (sysForm 0 0 9 0) = some (.isync c) := by
  have hpre := pre.isLt
  have hsuc := suc.isLt
  have hlow : 16 * pre.toNat + suc.toNat < 2 ^ 12 := by omega
  have hw := spellsI_sysForm 0 0 (by decide : 8 < 16) hlow
  obtain ⟨hop, hmod, hhigh, -⟩ := imm_sysForm 0 0 (by decide : 8 < 16) hlow
  have hp : BitVec.ofNat 4 (sysForm 0 0 8 (16 * pre.toNat + suc.toNat) / 16) = pre :=
    BitVec.eq_of_toNat_eq (by rw [BitVec.toNat_ofNat]; omega)
  have hs : BitVec.ofNat 4 (sysForm 0 0 8 (16 * pre.toNat + suc.toNat)) = suc :=
    BitVec.eq_of_toNat_eq (by rw [BitVec.toNat_ofNat]; omega)
  have hz : (16 * pre.toNat + suc.toNat) / 256 = 0 := by omega
  have hw0 {op : Nat} (h : op < 16) := spellsI_sysForm 0 0 h (by decide : 0 < 2 ^ 12)
  have himm0 {op : Nat} (h : op < 16) := imm_sysForm 0 0 h (by decide : 0 < 2 ^ 12)
  have hfence : decodeIblek c (sysForm 0 0 8 (16 * pre.toNat + suc.toNat)) = some (.fence c pre suc) := by
    rw [decode_sys c 0 0 (by decide) hlow, decodeSys]
    simp [hop, hhigh, hp, hs, hz, hw.rd, hw.ra, whenZero]
  simp [hfence, decode_sys, decodeSys, himm0, (hw0 _).rd, (hw0 _).ra, whenZero]

theorem decode_fence_bits {low : Nat} (hlow : low < 2 ^ 12) (h : ¬ (d = 0 ∧ a = 0) ∨ 256 ≤ low) :
    decodeIblek c (sysForm d a 8 low) = none ∧ decodeIblek c (sysForm d a 9 low) = none := by
  have hw {op : Nat} (h : op < 16) := spellsI_sysForm d a h hlow
  have himm {op : Nat} (h : op < 16) := imm_sysForm d a h hlow
  have hz : d = 0 → a = 0 → low / 256 ≠ 0 := by
    intro hd ha
    rcases h with h | h
    · exact absurd ⟨hd, ha⟩ h
    · omega
  rw [decode_sys c d a (by decide) hlow, decode_sys c d a (by decide) hlow, decodeSys, decodeSys]
  simpa [himm, (hw _).rd, (hw _).ra, whenZero] using hz

theorem decode_sys_unlisted {op low : Nat} (h : op = 3 ∨ 10 < op) (hop : op < 16) (hlow : low < 2 ^ 12) :
    decodeIblek c (sysForm d a op low) = none := by
  have hdiv : sysForm d a op low / 2 ^ 12 % 16 = op := (imm_sysForm d a hop hlow).1
  rw [decode_sys c d a hop hlow, decodeSys, hdiv]
  split
  case h_11 => rfl
  all_goals omega

end

/-! ## TIMED, WORK, LOCK and SVC (Table 04-15) -/

section
variable (c : Fin 24) (d a b : Fin 32) (n : Byte)

theorem spellsR_extWord {op sub : Nat} (hop : op < 64) (hsub : sub < 8) :
    SpellsR (extWord op d a b sub n.toNat) op d a b (sub * 2 ^ 8 + n.toNat) := by
  have hn := n.isLt
  exact spellsR_encR hop (by omega)

theorem fn_extWord {op sub : Nat} (hop : op < 64) (hsub : sub < 8) :
    extWord op d a b sub n.toNat / 256 % 8 = sub ∧ wordImm8 (extWord op d a b sub n.toNat) = n := by
  have hn := n.isLt
  have hfn := (spellsR_extWord d a b n hop hsub).fn
  exact ⟨by omega, BitVec.eq_of_toNat_eq (by rw [wordImm8, BitVec.toNat_ofNat]; omega)⟩

theorem decode_timed {sub : Nat} (hsub : sub < 8) :
    decodeIblek c (extWord 0x38 d a b sub n.toNat) = decodeTimed c (extWord 0x38 d a b sub n.toNat) :=
  decodeIblek_timed (spellsR_extWord d a b n (by decide) hsub).op

theorem decode_ext {op sub : Nat} (h1 : 0x38 < op) (h2 : op < 64) (hsub : sub < 8) :
    decodeIblek c (extWord op d a b sub n.toNat) = decodeExt c (extWord op d a b sub n.toNat) op :=
  decodeIblek_ext (spellsR_extWord d a b n h2 hsub).op h1

theorem decode_timed_listed :
    decodeIblek c (extWord 0x38 d a b 0 n.toNat) = whenZero (a == 0 && b == 0) (.ntrd c d n) ∧
    decodeIblek c (extWord 0x38 d a b 1 n.toNat) = whenZero (d == 0 && b == 0 && n == 0) (.waitnt c a) ∧
    decodeIblek c (extWord 0x38 d a b 2 n.toNat) = whenZero (d == 0 && b == 0 && n == 0) (.attick c a) ∧
    decodeIblek c (extWord 0x38 d a b 3 n.toNat) = whenZero (d == 0 && b == 0) (.evtrig c a n) ∧
    decodeIblek c (extWord 0x38 d a b 4 n.toNat) = whenZero (a == 0 && b == 0) (.evwait c d n) ∧
    decodeIblek c (extWord 0x38 d a b 5 n.toNat) = some (.tx c d a b n) := by
  have hw {sub : Nat} (h : sub < 8) := spellsR_extWord d a b n (by decide : 0x38 < 64) h
  have hfn {sub : Nat} (h : sub < 8) := fn_extWord d a b n (by decide : 0x38 < 64) h
  simp [decode_timed, decodeTimed, hfn, (hw _).rd, (hw _).ra, (hw _).rb]

theorem decode_ext_listed :
    decodeIblek c (extWord 0x39 d a b 0 n.toNat) = whenZero (b == 0 && n == 0) (.wdDone c d a) ∧
    decodeIblek c (extWord 0x39 d a b 1 n.toNat) = whenZero (b == 0) (.post_ c d a n) ∧
    decodeIblek c (extWord 0x3A d a b 0 n.toNat) = whenZero (a == 0 && b == 0) (.lckTake c d n) ∧
    decodeIblek c (extWord 0x3A d a b 1 n.toNat) = whenZero (a == 0 && b == 0) (.lckGive c d n) ∧
    decodeIblek c (extWord 0x3A d a b 2 n.toNat) = whenZero (b == 0 && n == 0) (.takev c d a) ∧
    decodeIblek c (extWord 0x3A d a b 3 n.toNat) = whenZero (b == 0 && n == 0) (.givev c d a) ∧
    decodeIblek c (extWord 0x3B d a b 0 n.toNat) = some (.svc c d a b n) := by
  have hw {op sub : Nat} (h1 : op < 64) (h : sub < 8) := spellsR_extWord d a b n h1 h
  have hfn {op sub : Nat} (h1 : op < 64) (h : sub < 8) := fn_extWord d a b n h1 h
  simp [decode_ext, decodeExt, hfn, (hw _ _).rd, (hw _ _).ra, (hw _ _).rb]

theorem decode_ext_unlisted :
    ∀ x ∈ ([(0x38, 6), (0x39, 2), (0x3A, 4), (0x3B, 1)] : List (Nat × Nat)), ∀ sub, x.2 ≤ sub → sub < 8 →
      decodeIblek c (extWord x.1 d a b sub n.toNat) = none := by
  have hdiv {op sub : Nat} (h1 : op < 64) (h : sub < 8) : extWord op d a b sub n.toNat / 2 ^ 8 % 8 = sub :=
    (fn_extWord d a b n h1 h).1
  simp only [List.forall_mem_cons, List.not_mem_nil, false_implies, implies_true, and_true]
  refine ⟨fun sub h6 h8 => ?timed, fun sub h2 h8 => ?work, fun sub h4 h8 => ?lock, fun sub h1 h8 => ?svc⟩
  case timed =>
    rw [decode_timed c d a b n h8, decodeTimed, hdiv (by decide) h8]
    split
    case h_7 => rfl
    all_goals omega
  all_goals
    rw [decode_ext c d a b n (by decide) (by decide) h8]
    unfold decodeExt
    rw [hdiv (by decide) h8]
    split
    case h_8 => rfl
    all_goals omega

end

/-- Words of reserved major opcodes spell nothing (Table 04-3), 0 and 0xFFFFFFFF among them. -/
theorem decode_reserved (c : Fin 24) (w : Nat)
    (h : w / 2 ^ 26 % 64 ∈
      [0x00, 0x0E, 0x0F, 0x16, 0x17, 0x1F, 0x29, 0x2A, 0x2B, 0x2C, 0x2D, 0x2E, 0x35, 0x36, 0x37, 0x3C, 0x3D, 0x3E, 0x3F]) :
    decodeIblek c w = none := by
  revert h
  generalize hop : w / 2 ^ 26 % 64 = op
  intro h
  rw [decodeIblek, hop]
  simp only [List.mem_cons, List.not_mem_nil, or_false] at h
  rcases h with rfl | rfl | rfl | rfl | rfl | rfl | rfl | rfl | rfl | rfl | rfl | rfl | rfl | rfl | rfl | rfl | rfl | rfl | rfl <;> rfl

/-- A word that spells nothing is an illegal instruction; any other runs as what it spells (R80). -/
theorem execWord_eq (c : Fin 24) (w : Nat) (s : State) :
    (decodeIblek c w = none → s.Issues c .base → execWord c w s = .next ((s.begun c).illegal c w)) ∧
    (∀ i, decodeIblek c w = some i → execWord c w s = exec i s) := by
  constructor
  · intro hnone h
    rw [execWord, hnone]
    exact congrArg _ h.runs.ins_illegal
  · intro i hi
    rw [execWord, hi]

/-- Settles O33, format by format: the fields of each word, then the table that its major opcode selects. -/
theorem iblekWordsSpellTheirInstructions : Obligations.IblekWordsSpellTheirInstructions := by
  unfold Obligations.IblekWordsSpellTheirInstructions
  refine fun c => ⟨fun d a b => ⟨decode_op_listed c d a b, decode_op_unary c d a b, fun fn => decode_op_unlisted c d a b⟩,
    fun d a i => decode_imm_listed c d a i, fun d i => decode_wide_listed c d i, fun d a b x aq rl => ⟨decode_lr c d a b x aq rl,
      decode_atom_listed c d a b x aq rl, fun op => decode_atom_unlisted c d a b x aq rl, fun op low => decode_atom_low c d a b x aq rl⟩,
    fun d a b x dbl m => ⟨decode_fop_binary c d a b dbl m, decode_fop_unary c d a b dbl m, fun op => decode_fop_unlisted c d a b dbl m,
      decode_fma_listed c d a b x dbl m⟩, fun d a sr scope pre suc => ?sys, fun d a b n => ?ext, fun w => decode_reserved c w,
    fun w s => execWord_eq c w s⟩
  case sys =>
    obtain ⟨hswap, hset, hclr⟩ := decode_sr c d a sr
    refine ⟨hswap, hset, hclr, decode_tlbinv c d a scope, ⟨?_, ?_, ?_⟩, fun op h hop => decode_sys_unlisted c d a h hop sr.isLt⟩
    · rintro ⟨rfl, rfl⟩
      exact decode_sys_listed c pre suc
    · refine fun h op h4 h7 => decode_sys_bare c d a h4 h7 sr.isLt (h.imp_right fun hsr hz => hsr (BitVec.eq_of_toNat_eq hz))
    · exact decode_fence_bits c d a sr.isLt
  case ext =>
    obtain ⟨hntrd, hwait, hattick, hevtrig, hevwait, htx⟩ := decode_timed_listed c d a b n
    obtain ⟨hdone, hpost, htake, hgive, htakev, hgivev, hsvc⟩ := decode_ext_listed c d a b n
    exact ⟨hntrd, hwait, hattick, hevtrig, hevwait, htx, hdone, hpost, htake, hgive, htakev, hgivev, hsvc,
      decode_ext_unlisted c d a b n⟩

end Sys2Proof.Machine
end

section
/-!
SUPPORT. The integer forms of Iblek in exact arithmetic (R81, R82, R85; Tables 04-4 and 04-6).
-/
namespace Sys2Proof.Machine

/-! ## Numbers of a width -/

theorem ofInt_toNat (x : DWord) : BitVec.ofInt 64 (x.toNat : Int) = x := by
  rw [BitVec.ofInt_natCast, BitVec.ofNat_toNat, BitVec.setWidth_eq]

theorem toInt_ofNat_eq_sgn (n : Nat) : (BitVec.ofNat 32 n).toInt = sgn 32 n := by
  rw [BitVec.toInt, BitVec.toNat_ofNat, sgn]
  split <;> split <;> omega

theorem sgn_congr {a b : Nat} (h : a % 2 ^ 32 = b % 2 ^ 32) : sgn 32 a = sgn 32 b := by rw [sgn, sgn, h]

theorem low32_eq (x : DWord) : low32 x = BitVec.ofNat 32 x.toNat := BitVec.eq_of_toNat_eq rfl

/-- A 32-bit result in a register, sign-extended. -/
theorem signExtend_ofNat (n : Nat) : (BitVec.ofNat 32 n).signExtend 64 = BitVec.ofInt 64 (sgn 32 n) :=
  congrArg _ (toInt_ofNat_eq_sgn n)

theorem sext32_eq (x : DWord) : sext32 x = BitVec.ofInt 64 (sgn 32 x.toNat) :=
  (congrArg (BitVec.signExtend 64) (low32_eq x)).trans (signExtend_ofNat _)

theorem signExtend_eq {w : Nat} (x : BitVec w) : x.signExtend 64 = BitVec.ofInt 64 x.toInt := rfl

theorem zeroExtend_eq (x : BitVec 16) : x.zeroExtend 64 = BitVec.ofNat 64 x.toNat :=
  (BitVec.ofNat_toNat 64 x).symm

theorem shiftLeft_eq_mul (z : Int) (n : Nat) : BitVec.ofInt 64 z <<< n = BitVec.ofInt 64 (z * 2 ^ n) := by
  rw [BitVec.shiftLeft_eq_mul_twoPow, BitVec.ofInt_mul]
  congr 1
  refine BitVec.eq_of_toNat_eq ?_
  rw [BitVec.toNat_twoPow, show ((2 : Int) ^ n) = ((2 ^ n : Nat) : Int) by push_cast; rfl, BitVec.ofInt_natCast, BitVec.toNat_ofNat]

/-! ## Sums, comparisons and choices -/

theorem add_exact (x y : DWord) : x + y = BitVec.ofNat 64 (x.toNat + y.toNat) := BitVec.eq_of_toNat_eq rfl

theorem sub_exact (x y : DWord) : x - y = BitVec.ofInt 64 ((x.toNat : Int) - y.toNat) := by
  rw [Int.sub_eq_add_neg, BitVec.ofInt_add, BitVec.ofInt_neg, ofInt_toNat, ofInt_toNat, BitVec.sub_eq_add_neg]

theorem slt_exact (x y : DWord) : flag (x.slt y) = if x.toInt < y.toInt then 1 else 0 := by simp [flag, BitVec.slt]

theorem sltu_exact (x y : DWord) : flag (x.ult y) = if x.toNat < y.toNat then 1 else 0 := by simp [flag, BitVec.ult]

theorem addw_exact (x y : DWord) : sext32 (x + y) = BitVec.ofInt 64 (sgn 32 (x.toNat + y.toNat)) := by
  rw [sext32_eq, sgn_congr]
  rw [BitVec.toNat_add]
  omega

theorem subw_exact (x y : DWord) : sext32 (x - y) = BitVec.ofInt 64 (sgn 32 (x.toNat + (2 ^ 64 - y.toNat))) := by
  rw [sext32_eq, sgn_congr]
  rw [BitVec.toNat_sub]
  omega

theorem min_exact (x y : DWord) : (if x.slt y then x else y) = if x.toInt ≤ y.toInt then x else y := by
  simp only [BitVec.slt, decide_eq_true_eq]
  split_ifs with hlt hle hle
  · rfl
  · omega
  · exact (BitVec.eq_of_toInt_eq (by omega)).symm
  · rfl

theorem max_exact (x y : DWord) : (if x.slt y then y else x) = if x.toInt ≤ y.toInt then y else x := by
  simp only [BitVec.slt, decide_eq_true_eq]
  split_ifs with hlt hle hle
  · rfl
  · omega
  · exact BitVec.eq_of_toInt_eq (by omega)
  · rfl

theorem minu_exact (x y : DWord) : (if x.ult y then x else y) = if x.toNat ≤ y.toNat then x else y := by
  simp only [BitVec.ult, decide_eq_true_eq]
  split_ifs with hlt hle hle
  · rfl
  · omega
  · exact (BitVec.eq_of_toNat_eq (by omega)).symm
  · rfl

theorem maxu_exact (x y : DWord) : (if x.ult y then y else x) = if x.toNat ≤ y.toNat then y else x := by
  simp only [BitVec.ult, decide_eq_true_eq]
  split_ifs with hlt hle hle
  · rfl
  · omega
  · exact BitVec.eq_of_toNat_eq (by omega)
  · rfl

/-! ## Shifts -/

theorem sll_exact (x : DWord) (n : Nat) : x <<< n = BitVec.ofNat 64 (x.toNat * 2 ^ n) := by
  refine BitVec.eq_of_toNat_eq ?_
  rw [BitVec.toNat_shiftLeft, BitVec.toNat_ofNat, Nat.shiftLeft_eq]

theorem srl_exact (x : DWord) (n : Nat) : x >>> n = BitVec.ofNat 64 (x.toNat / 2 ^ n) := by
  refine BitVec.eq_of_toNat_eq ?_
  rw [BitVec.toNat_ushiftRight, BitVec.toNat_ofNat, Nat.shiftRight_eq_div_pow,
    Nat.mod_eq_of_lt (Nat.lt_of_le_of_lt (Nat.div_le_self _ _) x.isLt)]

theorem sra_exact {w : Nat} (x : BitVec w) (n : Nat) : (x.sshiftRight n).signExtend 64 = BitVec.ofInt 64 (x.toInt / 2 ^ n) := by
  rw [signExtend_eq, BitVec.toInt_sshiftRight, Int.shiftRight_eq_div_pow]
  norm_num

/-- The two parts of a rotated number lie in different bits. -/
theorem ror_exact (x : DWord) {n : Nat} (h : n < 64) :
    x.rotateRight n = BitVec.ofNat 64 (x.toNat / 2 ^ n + x.toNat * 2 ^ (64 - n)) := by
  have hpow : 2 ^ 64 = 2 ^ n * 2 ^ (64 - n) := by rw [← Nat.pow_add]; congr 1; omega
  have hlow : x.toNat / 2 ^ n < 2 ^ (64 - n) := Nat.div_lt_of_lt_mul (hpow ▸ x.isLt)
  have hhigh : x.toNat * 2 ^ (64 - n) % 2 ^ 64 = 2 ^ (64 - n) * (x.toNat % 2 ^ n) := by
    rw [hpow, Nat.mul_mod_mul_right, Nat.mul_comm]
  have hlt : x.toNat / 2 ^ n + 2 ^ (64 - n) * (x.toNat % 2 ^ n) < 2 ^ 64 := by
    have hmod : x.toNat % 2 ^ n + 1 ≤ 2 ^ n := Nat.mod_lt _ (Nat.two_pow_pos n)
    have hmul := Nat.mul_le_mul_left (2 ^ (64 - n)) hmod
    rw [hpow, Nat.mul_comm (2 ^ n)]
    rw [Nat.mul_add] at hmul
    omega
  refine BitVec.eq_of_toNat_eq ?_
  rw [BitVec.toNat_rotateRight, Nat.mod_eq_of_lt h, BitVec.toNat_ofNat, Nat.shiftRight_eq_div_pow, Nat.shiftLeft_eq, Nat.add_mod, hhigh,
    Nat.lor_comm, ← Nat.two_pow_add_eq_or_of_lt hlow, Nat.mod_eq_of_lt (a := x.toNat / 2 ^ n) (by omega), Nat.add_comm,
    Nat.mod_eq_of_lt hlt]

theorem sllw_exact (x : DWord) (n : Nat) : sllw x n = BitVec.ofInt 64 (sgn 32 (x.toNat * 2 ^ n)) := by
  rw [← signExtend_ofNat, sllw, low32_eq]
  congr 1
  refine BitVec.eq_of_toNat_eq ?_
  rw [BitVec.toNat_shiftLeft, BitVec.toNat_ofNat, BitVec.toNat_ofNat, Nat.shiftLeft_eq, Nat.mod_mul_mod]

theorem srlw_exact (x : DWord) (n : Nat) : srlw x n = BitVec.ofInt 64 (sgn 32 (x.toNat % 2 ^ 32 / 2 ^ n)) := by
  rw [← signExtend_ofNat, srlw, low32_eq]
  congr 1
  refine BitVec.eq_of_toNat_eq ?_
  rw [BitVec.toNat_ushiftRight, BitVec.toNat_ofNat, BitVec.toNat_ofNat, Nat.shiftRight_eq_div_pow,
    Nat.mod_eq_of_lt (Nat.lt_of_le_of_lt (Nat.div_le_self _ _) (Nat.mod_lt _ (by decide)))]

theorem sraw_exact (x : DWord) (n : Nat) : sraw x n = BitVec.ofInt 64 (sgn 32 x.toNat / 2 ^ n) := by
  rw [sraw, sra_exact, low32_eq, toInt_ofNat_eq_sgn]

/-! ## Immediates, targets -/

theorem addi_exact {w : Nat} (x : DWord) (i : BitVec w) : x + i.signExtend 64 = BitVec.ofInt 64 (x.toInt + i.toInt) := by
  rw [BitVec.ofInt_add, BitVec.ofInt_toInt, signExtend_eq]

theorem lui_exact (u : BitVec 21) : u.signExtend 64 <<< 16 = BitVec.ofInt 64 (u.toInt * 65536) := by
  rw [signExtend_eq, shiftLeft_eq_mul]
  norm_num

/-- A register plus a signed immediate, counted from the register's number. -/
theorem add_ofInt (x : DWord) (z : Int) : x + BitVec.ofInt 64 z = BitVec.ofInt 64 (x.toNat + z) := by
  rw [BitVec.ofInt_add, ofInt_toNat]

theorem target_exact {w : Nat} (pc : DWord) (i : BitVec w) :
    pc + (i.signExtend 64 <<< 2) = BitVec.ofInt 64 (pc.toNat + 4 * i.toInt) := by
  rw [signExtend_eq, shiftLeft_eq_mul, add_ofInt, Int.mul_comm]
  norm_num

theorem and_not_three (v : DWord) : v &&& ~~~(3 : DWord) = BitVec.ofNat 64 (v.toNat / 4 * 4) := by
  have hshift : v &&& ~~~(3 : DWord) = (v >>> 2) <<< 2 := by
    refine BitVec.eq_of_getLsbD_eq fun i hi => ?_
    have h3 : (3 : DWord).getLsbD i = decide (i < 2) := by
      have h : ∀ j : Fin 64, (3 : DWord).getLsbD j = decide (j.val < 2) := by decide
      exact h ⟨i, hi⟩
    rw [BitVec.getLsbD_and, BitVec.getLsbD_not, h3, BitVec.getLsbD_shiftLeft, BitVec.getLsbD_ushiftRight]
    by_cases h2 : i < 2
    · simp [h2]
    · simp [h2, hi, show 2 + (i - 2) = i by omega]
  rw [hshift]
  refine BitVec.eq_of_toNat_eq ?_
  rw [BitVec.toNat_shiftLeft, BitVec.toNat_ushiftRight, BitVec.toNat_ofNat, Nat.shiftLeft_eq, Nat.shiftRight_eq_div_pow]

theorem jalr_exact (x : DWord) (i : BitVec 16) :
    (x + i.signExtend 64) &&& ~~~(3 : DWord) = BitVec.ofInt 64 ((x.toNat + i.toInt) / 4 * 4) := by
  rw [signExtend_eq, add_ofInt, and_not_three]
  generalize (x.toNat : Int) + i.toInt = z
  refine BitVec.eq_of_toNat_eq ?_
  rw [BitVec.toNat_ofNat, BitVec.toNat_ofInt, BitVec.toNat_ofInt]
  omega

/-! ## The forms that issue -/

section
variable {s : State} {c : Fin 24} {part : Part}

/-- A register form of a part whose operation has the exact value of Table 04-4. -/
def IsOp3 (part : Part) (p : Form3 × (DWord → DWord → DWord)) : Prop :=
  ∃ fn f, (∀ c rd ra rb s, exec (p.1 c rd ra rb) s = .next (s.op3 c part fn rd ra rb f)) ∧ ∀ x y, f x y = p.2 x y

theorem IsOp3.computes {p : Form3 × (DWord → DWord → DWord)} (hp : IsOp3 part p) (rd ra rb : Fin 32) (h : s.Issues c part) :
    Computes (p.1 c rd ra rb) s c rd (fun x => p.2 (x.gr ra) (x.gr rb)) := by
  obtain ⟨fn, f, hexec, hval⟩ := hp
  exact h.computes (hexec c rd ra rb s) (hval _ _)

theorem arithForms_isOp3 : ∀ p ∈ arithForms, IsOp3 .base p := by
  simp only [arithForms, List.forall_mem_cons, List.not_mem_nil, false_implies, implies_true, and_true]
  exact ⟨⟨_, _, fun _ _ _ _ _ => rfl, add_exact⟩, ⟨_, _, fun _ _ _ _ _ => rfl, sub_exact⟩,
    ⟨_, _, fun _ _ _ _ _ => rfl, fun _ _ => rfl⟩, ⟨_, _, fun _ _ _ _ _ => rfl, fun _ _ => rfl⟩,
    ⟨_, _, fun _ _ _ _ _ => rfl, fun _ _ => rfl⟩, ⟨_, _, fun _ _ _ _ _ => rfl, slt_exact⟩,
    ⟨_, _, fun _ _ _ _ _ => rfl, sltu_exact⟩, ⟨_, _, fun _ _ _ _ _ => rfl, addw_exact⟩,
    ⟨_, _, fun _ _ _ _ _ => rfl, subw_exact⟩, ⟨_, _, fun _ _ _ _ _ => rfl, min_exact⟩,
    ⟨_, _, fun _ _ _ _ _ => rfl, max_exact⟩, ⟨_, _, fun _ _ _ _ _ => rfl, minu_exact⟩,
    ⟨_, _, fun _ _ _ _ _ => rfl, maxu_exact⟩⟩

theorem shiftForms_isOp3 : ∀ p ∈ shiftForms, IsOp3 .base p := by
  have hsra (x : DWord) (n : Nat) : x.sshiftRight n = BitVec.ofInt 64 (x.toInt / 2 ^ n) := by
    rw [← sra_exact, BitVec.signExtend_eq]
  simp only [shiftForms, List.forall_mem_cons, List.not_mem_nil, false_implies, implies_true, and_true]
  exact ⟨⟨_, _, fun _ _ _ _ _ => rfl, fun x y => sll_exact x (sh6 y)⟩, ⟨_, _, fun _ _ _ _ _ => rfl, fun x y => srl_exact x (sh6 y)⟩,
    ⟨_, _, fun _ _ _ _ _ => rfl, fun x y => hsra x (sh6 y)⟩,
    ⟨_, _, fun _ _ _ _ _ => rfl, fun x y => ror_exact x (Nat.mod_lt y.toNat (by decide : 0 < 64))⟩,
    ⟨_, _, fun _ _ _ _ _ => rfl, fun x y => sllw_exact x (sh5 y)⟩, ⟨_, _, fun _ _ _ _ _ => rfl, fun x y => srlw_exact x (sh5 y)⟩,
    ⟨_, _, fun _ _ _ _ _ => rfl, fun x y => sraw_exact x (sh5 y)⟩⟩

/-- SHI is legal by its immediate alone (R81). -/
theorem State.Issues.shi (h : s.Issues c .base) (rd ra : Fin 32) (imm : BitVec 16) :
    (shiLegal imm = true → Computes (.shi c rd ra imm) s c rd (fun x => shiValue (x.gr ra) imm)) ∧
    (shiLegal imm = false → exec (.shi c rd ra imm) s = .next ((s.begun c).illegal c (encI 0x08 rd ra imm.toNat))) := by
  have hexec : exec (.shi c rd ra imm) s = .next (s.ins c .base (shiLegal imm) (encI 0x08 rd ra imm.toNat) fun s =>
    s.result c rd (shiValue ((s.core c).gr ra) imm)) := rfl
  constructor
  · intro hl
    rw [hl, h.ins_legal] at hexec
    exact hexec
  · intro hl
    rw [hl, h.runs.ins_illegal] at hexec
    exact hexec

/-- Settles O10: each form's frame with the exact value of its own operation. -/
theorem integerFormsComputeTable0404 : Obligations.IntegerFormsComputeTable0404 := by
  unfold Obligations.IntegerFormsComputeTable0404
  refine ⟨fun p hp core rd ra rb s h => ?regs, fun core rd ra imm u s h => ?imms⟩
  case regs =>
    exact ((List.mem_append.mp hp).elim (arithForms_isOp3 p) (shiftForms_isOp3 p)).computes rd ra rb h
  case imms =>
    refine ⟨h.computes rfl ?addi, h.computes rfl ?slti, h.computes rfl ?sltiu, h.computes rfl ?addiw, h.computes rfl ?andi,
      h.computes rfl ?ori, h.computes rfl ?xori, h.computes rfl ?lui, h.computes rfl ?auipc, h.shi rd ra imm⟩
    case addi => exact addi_exact _ imm
    case slti =>
      refine (slt_exact _ _).trans ?_
      rw [BitVec.toInt_signExtend_of_le (by decide)]
    case sltiu => exact sltu_exact _ _
    case addiw => exact addw_exact _ _
    case andi => exact congrArg _ (zeroExtend_eq imm)
    case ori => exact congrArg _ (zeroExtend_eq imm)
    case xori => exact congrArg _ (zeroExtend_eq imm)
    case lui => exact lui_exact u
    case auipc => rw [lui_exact, add_ofInt]

/-! ## Division (R82) -/

/-- Settles O8: the values of the four forms at a divisor of 0 and at the overflow of DIV, and SELNZ by its condition. -/
theorem divisionCornersOfR82 : Obligations.DivisionCornersOfR82 := by
  unfold Obligations.DivisionCornersOfR82
  refine ⟨fun core rd ra rb s h => ?div, fun core rd ra rb s h => ?selnz⟩
  case div =>
    intro x y
    refine ⟨fun hy => ⟨h.computes rfl (if_pos hy), h.computes rfl (if_pos hy), h.computes rfl (if_pos hy), h.computes rfl (if_pos hy)⟩,
      fun ⟨hx, hy⟩ => ?_⟩
    have hdiv : divS x y = x := by rw [hx, hy]; decide
    have hrem : remS x y = 0 := by rw [hx, hy]; decide
    exact ⟨h.computes rfl hdiv, h.computes rfl hrem⟩
  case selnz =>
    intro x y
    have hexec : exec (.selnz core rd ra rb) s = .next ((s.begun core).result core rd (if y ≠ 0 then x else
        ((s.begun core).core core).gr rd)) := congrArg _ h.ins_legal
    refine ⟨fun hy => h.computes rfl (if_pos hy), fun hy => ⟨_, hexec, fun r => ?_⟩⟩
    rw [if_neg (not_not_intro hy), State.result, State.advance, State.core_setCore_same]
    have hnext (z : Core) : (z.next core).gr r = z.gr r := rfl
    rw [hnext, Core.gr_setG]
    split
    · next hr => rw [hr.1]
    · rfl

/-! ## Branches and jumps (R85) -/

/-- A branch that issues goes by its comparison. -/
theorem State.Issues.branch (h : s.Issues c .base) (op : Nat) (ra rb : Fin 32) (off : BitVec 16) (test : DWord → DWord → Bool) :
    s.branch c op ra rb off test =
      if test (((s.begun c).core c).gr ra) (((s.begun c).core c).gr rb) then
        (s.begun c).setCore c { ((s.begun c).core c).next c with
          pc := BitVec.ofInt 64 (((s.begun c).core c).pc.toNat + 4 * off.toInt) }
      else (s.begun c).setCore c (((s.begun c).core c).next c) := by
  rw [State.branch, h.ins_legal]
  dsimp only
  rw [target_exact]
  rfl

/-- What a branch answers, by the comparison that its test decides. -/
theorem State.Issues.gives_branch (h : s.Issues c .base) {i : Instr} {op : Nat} {ra rb : Fin 32} {off : BitVec 16}
    {test : DWord → DWord → Bool} {p : Prop} (hi : exec i s = .next (s.branch c op ra rb off test))
    (hp : test (((s.begun c).core c).gr ra) (((s.begun c).core c).gr rb) = true ↔ p) :
    Gives i s fun t =>
      (p → t = (s.begun c).setCore c { ((s.begun c).core c).next c with
        pc := BitVec.ofInt 64 (((s.begun c).core c).pc.toNat + 4 * off.toInt) }) ∧
      (¬ p → t = (s.begun c).setCore c (((s.begun c).core c).next c)) :=
  ⟨_, hi, fun hy => (h.branch ..).trans (if_pos (hp.mpr hy)), fun hn => (h.branch ..).trans (if_neg (mt hp.mp hn))⟩

/-- Settles O11: each branch by what its test decides, and the jumps by their targets. -/
theorem branchesAndJumps : Obligations.BranchesAndJumps := by
  unfold Obligations.BranchesAndJumps
  intro core rd ra rb off u s h s0 c x y goes
  refine ⟨h.gives_branch rfl beq_iff_eq, h.gives_branch rfl bne_iff_ne, h.gives_branch rfl ?lt, h.gives_branch rfl ?ge,
    h.gives_branch rfl ?ltu, h.gives_branch rfl ?geu, ?jal, ?jalr⟩
  case lt => exact decide_eq_true_iff
  case ge => exact decide_eq_true_iff
  case ltu => exact decide_eq_true_iff
  case geu => exact decide_eq_true_iff
  case jal =>
    refine congrArg _ (h.ins_legal.trans ?_)
    rw [State.jump, target_exact]
  case jalr =>
    refine congrArg _ (h.ins_legal.trans ?_)
    rw [State.jump, jalr_exact]

end
end Sys2Proof.Machine
end

section
/-!
SUPPORT. Exceptions, returns, waits and interrupts of the cores (R91 to R102, R114).
-/
namespace Sys2Proof.Machine

/-! ## Kinds of core (R20) -/

theorem kindOf_control {c : Nat} (h : c ≤ 3) : kindOf c = .control := if_pos h

theorem kindOf_engine {c : Nat} (h : 20 ≤ c) (h' : c ≤ 22) : kindOf c = .engine := by
  rw [kindOf, if_neg (by omega), if_neg (by omega), if_pos h']

theorem kindOf_keeper {c : Nat} (h : c = 23) : kindOf c = .keeper := by
  rw [h]
  rfl

theorem kindOf_eq_engine_iff (c : Nat) : kindOf c = .engine ↔ 20 ≤ c ∧ c ≤ 22 := by
  unfold kindOf
  split_ifs <;> simp <;> omega

/-- A control core or the Keeper, which take exceptions in a handler of their own (R92). -/
theorem kindOf_handler {c : Nat} (h : c ≤ 3 ∨ c = 23) : kindOf c = .control ∨ kindOf c = .keeper :=
  h.imp kindOf_control kindOf_keeper

theorem kindOf_handler_ne_engine {c : Nat} (h : c ≤ 3 ∨ c = 23) : kindOf c ≠ .engine := by
  rcases kindOf_handler h with h | h <;> simp [h]

/-! ## What raising an exception does (R92, R97, R114) -/

section
variable {s : State} {c : Nat} (cause status eaddr : Nat) (imprecise : Bool)

/-- Entry into the handler of a control core or the Keeper. -/
theorem State.raise_enters (hc : c ≤ 3 ∨ c = 23) (hexl : (s.core c).status.getLsbD 3 = false) :
    s.raise c cause status eaddr imprecise =
      s.setCore c ((s.core c).enter (s.core c).pc (ecauseOf imprecise status cause) (BitVec.ofNat 64 eaddr) (s.core c).evec) := by
  have hexl : (s.core c).exl = false := hexl
  rcases kindOf_handler hc with hk | hk <;> simp [State.raise, hk, hexl]

theorem State.raise_doubleFault (hc : c ≤ 3) (hexl : (s.core c).status.getLsbD 3 = true) :
    s.raise c cause status eaddr imprecise = (s.setCore c { s.core c with mode := .dfault }).pulse (59 + c) := by
  have hexl : (s.core c).exl = true := hexl
  simp [State.raise, kindOf_control hc, hexl]

theorem State.raise_halts (h : 20 ≤ c) (h' : c ≤ 22) :
    s.raise c cause status eaddr imprecise = s.haltEngine (c - 20) cause (s.core c).pc.toNat := by
  simp [State.raise, kindOf_engine h h']

/-- The core after entry, and that entry is of the core alone. -/
theorem State.raise_entered (hc : c ≤ 3 ∨ c = 23) (hexl : (s.core c).status.getLsbD 3 = false) :
    (s.core c).Entered ((s.raise c cause status eaddr imprecise).core c) (s.core c).pc (ecauseOf imprecise status cause)
      (BitVec.ofNat 64 eaddr) (s.core c).evec ∧
    (s.raise c cause status eaddr imprecise).mem = s.mem ∧ (s.raise c cause status eaddr imprecise).regs = s.regs := by
  rw [State.raise_enters _ _ _ _ hc hexl, State.core_setCore_same]
  exact ⟨Core.entered_enter .., rfl, rfl⟩

end

theorem ecauseOf_precise (status cause : Nat) : ecauseOf false status cause = BitVec.ofNat 64 (256 * status + cause) := by
  simp [ecauseOf, Nat.mul_comm]

/-- What the halt of an engine marks (R114). -/
theorem State.haltMark_marks (s : State) {e cause : Nat} (hcause : cause < 256) (pc : Nat) :
    let u := s.haltMark e cause pc
    u.fld (F.SE_FAULT_CAUSE e) = cause ∧ u.fld (F.SE_FAULT_PC e) = pc % 2 ^ 16 ∧ u.fld (fnState (4 + e) 0 0) = 4 ∧
    u.fld (fnLast (4 + e) 0 0) = 0x11 ∧ (∃ p ∈ u.fabric, p.line = 19 + e) ∧ (u.engine e).wait = .none ∧ u.mem = s.mem := by
  intro u
  have hfld (f : FRef) : u.fld f = (((((s.setFld (F.SE_FAULT_CAUSE e) cause).setFld (F.SE_FAULT_PC e) pc).setFld
      (fnState (4 + e) 0 0) 4).setFld (fnLast (4 + e) 0 0) Status.fault.code).setFld (fnRestart (4 + e) 0 0) 0).fld f :=
    State.fld_pulse ..
  have hreg : u.reg (R.SE_FAULT e) = ((s.setFld (F.SE_FAULT_CAUSE e) cause).setFld (F.SE_FAULT_PC e) pc).reg (R.SE_FAULT e) := by
    have hne : R.SE_FAULT e < blockAddr (4 + e) 0 + 0xC0 := by unfold R.SE_FAULT blockAddr; omega
    refine (State.reg_pulse ..).trans ?_
    rw [State.reg_setFld_other _ _ (Nat.ne_of_lt hne), State.reg_setFld_other _ _ (Nat.ne_of_lt hne),
      State.reg_setFld_other _ _ (Nat.ne_of_lt hne)]
  refine ⟨?cause, ?pc, ?state, ?last, ⟨_, State.pulse_in_fabric .., rfl⟩, ?wait, ?mem⟩
  case cause =>
    refine (congrArg (getBits · 31 24) hreg).trans ((State.fld_setFld_other (f := F.SE_FAULT_PC e) (g := F.SE_FAULT_CAUSE e) _ pc
      (by decide : 15 ≤ 31) (.inr (.inr (by decide : 15 < 24)))).trans ((State.fld_setFld_same _ cause (by decide : 31 ≤ 31)).trans ?_))
    exact Nat.mod_eq_of_lt hcause
  case pc => exact (congrArg (getBits · 15 0) hreg).trans (State.fld_setFld_same (f := F.SE_FAULT_PC e) _ pc (by decide : 15 ≤ 31))
  case state => rw [hfld]; simp
  case last => rw [hfld]; simp [Status.code]
  case wait => exact congrArg Engine.wait ((State.engine_setEngine ..).trans (if_pos rfl))
  case mem => exact State.pulse_mem ..

/-- Settles O20: each kind of core by its own case of State.raise. -/
theorem exceptionEntrySavesAndVectors : Obligations.ExceptionEntrySavesAndVectors := by
  unfold Obligations.ExceptionEntrySavesAndVectors
  intro s c cause status eaddr hcause hstatus x t
  refine ⟨fun hc hexl => ?entry, fun hc hexl => ?double, fun h h' => ?halt⟩
  case entry =>
    rw [← ecauseOf_precise]
    exact State.raise_entered cause status eaddr false hc hexl
  case double =>
    have ht : t = (s.setCore c { x with mode := .dfault }).pulse (59 + c) := State.raise_doubleFault cause status eaddr false hc hexl
    rw [ht]
    refine ⟨?_, ⟨_, State.pulse_in_fabric .., rfl⟩, State.pulse_mem .., State.pulse_regs ..⟩
    rw [State.core, State.pulse_cores, ← State.core, State.core_setCore_same]
  case halt =>
    intro u
    obtain ⟨hcode, hpc, hstate, hlast, ⟨p, hp, hline⟩, hwait, hmem⟩ :=
      s.haltMark_marks (e := c - 20) hcause x.pc.toNat
    rw [show 4 + (c.val - 20) = c.val - 16 by omega] at hstate hlast
    exact ⟨State.raise_halts cause status eaddr false h h', hcode, hpc, hstate, hlast, ⟨p, hp, by omega⟩, hwait, hmem⟩

end Sys2Proof.Machine
end

section
/-!
SUPPORT. The system instructions: EBREAK, ECALL and ERET (Table 04-10, R95, R99).
-/
namespace Sys2Proof.Machine

/-! ## The frame of a system instruction -/

section
variable {s : State} {c : Fin 24} {word : Nat}

/-- A slot engine lacks the system instructions, and halts (R114). -/
theorem State.Runs.sysIns_engine (h : s.Runs c) (he : 20 ≤ c.val) (he' : c.val ≤ 22) (sub : Nat) (sup : Bool) (body : State → State) :
    s.sysIns c sub word sup body = (s.begun c).raise c (haltCause sub) 0 word false := by
  rw [State.sysIns, h.ins_base, if_pos (kindOf_engine he he')]

/-- A system instruction of supervisor level is privileged at user level (R91). -/
theorem State.Runs.sysIns_privileged (h : s.Runs c) (hc : c.val ≤ 3 ∨ c.val = 23) (hsup : ((s.begun c).core c).sup = false) (sub : Nat)
    (body : State → State) : s.sysIns c sub word true body = (s.begun c).raise c 0x04 0 0 false := by
  rw [State.sysIns, h.ins_base, if_neg (kindOf_handler_ne_engine hc), hsup]
  rfl

theorem State.Runs.sysIns_acts (h : s.Runs c) (hc : c.val ≤ 3 ∨ c.val = 23) (sub : Nat) {sup : Bool} (body : State → State)
    (hsup : sup = true → ((s.begun c).core c).sup = true) : s.sysIns c sub word sup body = body (s.begun c) := by
  rw [State.sysIns, h.ins_base, if_neg (kindOf_handler_ne_engine hc), if_neg]
  rw [Bool.and_eq_true, not_and, Bool.not_eq_true']
  exact fun hs => by simp [hsup hs]

end

theorem kindOf_eq_keeper (c : Fin 24) : (kindOf c == .keeper) = decide (c.val = 23) := by
  revert c
  decide

/-- Settles O21: the three branches of EBREAK. -/
theorem ebreakOfR99 : Obligations.EbreakOfR99 := by
  unfold Obligations.EbreakOfR99
  intro c s h s0 x
  have hexec : exec (.ebreak c) s = .next (if x.haltOnBreak then s0.setCore c { x with mode := .debug }
      else if kindOf c = .engine then s0.advance c id else s0.raise c 0x08 0 0 false) := congrArg Host.Outcome.next h.ins_base
  refine ⟨fun hb => ?_, fun hb he he' => ?_, fun hb hn => ?_⟩
  · rw [hexec, if_pos hb]
  · rw [hexec, if_neg (by simp [hb]), if_pos (kindOf_engine he he'), State.advance, Core.next, if_pos (kindOf_engine he he')]
    rfl
  · rw [hexec, if_neg (by simp [hb]), if_neg (mt (kindOf_eq_engine_iff c).1 hn)]

/-! ## Return (R95) -/

theorem Core.eret_status (x : Core) (keeper : Bool) :
    (x.eret keeper).status.getLsbD 0 = x.status.getLsbD 1 ∧ (x.eret keeper).status.getLsbD 3 = false := by
  unfold Core.eret
  cases x.status.getLsbD 1 <;> simp

/-- Settles O22: entry by ECALL, return by ERET, and the levels that lack them. -/
theorem ecallAndReturn : Obligations.EcallAndReturn := by
  unfold Obligations.EcallAndReturn
  intro c r q scope s h s0 x
  refine ⟨fun hc => ⟨fun hexl => ?ecall, fun hsup => ?eret, fun hsup i hi => ?user⟩, fun he he' => ⟨?halt, fun i hi => ?lacks⟩,
    fun y keeper => ?undo⟩
  case ecall =>
    have hexec : exec (.ecall c) s = .next (s0.raise c (if x.sup then 0x07 else 0x06) 0 0 false) :=
      congrArg Host.Outcome.next (h.sysIns_acts hc 4 _ fun hf => absurd hf Bool.false_ne_true)
    obtain ⟨hentered, hmem, -⟩ := State.raise_entered (if x.sup then 0x07 else 0x06) 0 0 false hc hexl
    have hcause : BitVec.ofNat 64 (256 * 0 + if x.sup then 0x07 else 0x06) = (if x.sup then 0x07 else 0x06 : DWord) := by
      cases x.sup <;> rfl
    rw [ecauseOf_precise, hcause] at hentered
    exact ⟨_, hexec, hentered, hmem.trans (State.mem_begun s c)⟩
  case eret =>
    refine ⟨s0.setCore c (x.eret (kindOf c == .keeper)), congrArg Host.Outcome.next (h.sysIns_acts hc 6 _ fun _ => hsup), ?_⟩
    obtain ⟨hie, hexl⟩ := x.eret_status (kindOf c == .keeper)
    have hkeeper : (kindOf c == .keeper) = decide (c.val = 23) := kindOf_eq_keeper c
    intro y
    have hy : y = x.eret (kindOf c == .keeper) := State.core_setCore_same ..
    rw [hy]
    exact ⟨rfl, congrArg (· || _) hkeeper, hie, hexl, rfl, fun _ => rfl, fun _ => rfl, rfl, rfl, State.mem_begun s c⟩
  case user =>
    simp only [List.mem_cons, List.not_mem_nil, or_false] at hi
    rcases hi with rfl | rfl | rfl
    · exact congrArg Host.Outcome.next (h.sysIns_privileged hc hsup 6 _)
    · exact congrArg Host.Outcome.next (h.sysIns_privileged hc hsup 7 _)
    · exact congrArg Host.Outcome.next (h.sysIns_privileged hc hsup 10 _)
  case halt => exact congrArg Host.Outcome.next (h.sysIns_engine he he' 4 false _)
  case lacks =>
    simp only [List.mem_cons, List.not_mem_nil, or_false] at hi
    rcases hi with rfl | rfl
    · exact ⟨_, congrArg Host.Outcome.next (h.sysIns_engine he he' 6 true _)⟩
    · exact ⟨_, congrArg Host.Outcome.next (h.sysIns_engine he he' 7 true _)⟩
  case undo =>
    obtain ⟨-, hpie, hppl, -⟩ := y.bits_entryStatus
    refine ⟨rfl, congrArg (keeper || ·) hppl, ?_⟩
    exact ((y.enter y.pc 7 0 y.evec).eret_status keeper).1.trans hpie

end Sys2Proof.Machine
end

section
/-!
SUPPORT. Waits, fences, TLB invalidation and interrupts (R94 to R96, R102, R105, R107).
-/
namespace Sys2Proof.Machine

/-! ## The lowest pending and enabled line -/

/-- The line is pending and enabled, and no lower one is. -/
def Core.IsLowest (x : Core) (line : Nat) : Prop :=
  line < 256 ∧ (x.ipend &&& x.ien).getLsbD line = true ∧ ∀ l, l < line → (x.ipend &&& x.ien).getLsbD l = false

theorem Core.IsLowest.lowest_eq {x : Core} {line : Nat} (h : x.IsLowest line) : x.lowest = some line := by
  obtain ⟨hlt, hbit, hlow⟩ := h
  rw [Core.lowest, List.find?_range_eq_some]
  exact ⟨hbit, List.mem_range.2 hlt, fun l hl => by simp [Core.wanted, hlow l hl]⟩

theorem Core.IsLowest.wanted_ne_zero {x : Core} {line : Nat} (h : x.IsLowest line) : x.wanted ≠ 0 := by
  obtain ⟨-, hbit, -⟩ := h
  intro h0
  rw [← Core.wanted, h0] at hbit
  simp at hbit

theorem Core.lowest_of_wanted_zero {x : Core} (h : x.wanted = 0) : x.lowest = none := by
  simp [Core.lowest, h]

/-- An interrupt is taken with IE 1 (R96). -/
theorem Core.IsLowest.takeInterrupt {x : Core} {line : Nat} (h : x.IsLowest line) (hie : x.status.getLsbD 0 = true) :
    x.takeInterrupt = x.enter x.pc (intCause line) 0 (x.evec + 0x100) := by
  rw [Core.takeInterrupt, Core.ie, if_pos hie, h.lowest_eq]

theorem Core.takeInterrupt_of_not_ie {x : Core} (hie : x.status.getLsbD 0 = false) : x.takeInterrupt = x :=
  if_neg (ne_true_of_eq_false hie)

/-! ## TLBINV (R102) -/

theorem TlbEntry.drops_iff (e : TlbEntry) (scope : Fin 4) (asid va : Nat) :
    (e.drops scope asid va = false) ↔
      let covers := e.vpn / 512 ^ e.level = va / 4096 % 2 ^ 27 / 512 ^ e.level
      let own := e.asid = asid ∧ e.pte / 32 % 2 = 0
      match scope.val with | 0 => False | 1 => ¬ covers | 2 => ¬ own | _ => ¬ (covers ∧ own) := by
  have hpow : 2 ^ (9 * e.level) = 512 ^ e.level := by rw [Nat.pow_mul]
  have hbit : bitOf e.pte 5 = false ↔ e.pte / 32 % 2 = 0 := by simp [bitOf, Nat.testBit_eq_decide_div_mod_eq]
  match scope with
  | 0 => simp [TlbEntry.drops]
  | 1 => simp [TlbEntry.drops, hpow]
  | 2 => simp [TlbEntry.drops, ← hbit]
  | 3 => simp [TlbEntry.drops, hpow, ← hbit]

section
variable {s : State} {c : Fin 24}

theorem State.Runs.fence (h : s.Runs c) (pr su : BitVec 4) :
    exec (.fence c pr su) s = .next ((s.begun c).advance c id) := congrArg Host.Outcome.next h.ins_base

theorem State.Runs.isync (h : s.Runs c) : exec (.isync c) s = .next ((s.begun c).advance c id) :=
  congrArg Host.Outcome.next h.ins_base

/-- WFI at supervisor level. -/
theorem State.Runs.wfi (h : s.Runs c) (hc : c.val ≤ 3 ∨ c.val = 23) (hsup : ((s.begun c).core c).sup = true) :
    exec (.wfi c) s =
      let x := (s.begun c).core c
      .next ((s.begun c).setCore c (if x.wanted = 0 then { x.next c with mode := .wfi } else (x.next c).takeInterrupt)) := by
  refine congrArg Host.Outcome.next ((h.sysIns_acts hc 7 _ fun _ => hsup).trans ?_)
  dsimp only
  rw [State.advance, State.core_setCore_same, State.setCore_setCore, State.setCore_setCore]
  split <;> rfl

/-- TLBINV at supervisor level. -/
theorem State.Runs.tlbinv (h : s.Runs c) (hc : c.val ≤ 3 ∨ c.val = 23) (hsup : ((s.begun c).core c).sup = true) (asid ra : Fin 32)
    (scope : Fin 4) :
    Gives (.tlbinv c asid ra scope) s fun t =>
      let x := (s.begun c).core c
      (t.core c).pc = x.pc + 4 ∧ (∀ r : Fin 32, (t.core c).gr r = x.gr r) ∧
        ∀ e, e ∈ (t.core c).tlb ↔ e ∈ x.tlb ∧ e.drops scope ((x.gr asid).toNat % 2 ^ 16) (x.gr ra).toNat = false := by
  refine ⟨_, congrArg Host.Outcome.next (h.sysIns_acts hc 10 _ fun _ => hsup), ?_⟩
  dsimp only
  rw [State.advance, State.core_setCore_same]
  exact ⟨rfl, fun _ => rfl, fun e => by simp [Core.next]⟩

end

/-! ## What ends a wait or traps -/

section
variable {s : State} {c : Fin 24}

theorem State.interruptEntry_enters (hc : c.val ≤ 3 ∨ c.val = 23) {line : Nat} (hmay : s.mayIssue c = true)
    (hie : (s.core c).status.getLsbD 0 = true) (hl : (s.core c).IsLowest line) :
    exec (.interruptEntry c) s =
      .next (s.setCore c ((s.core c).enter (s.core c).pc (intCause line) 0 ((s.core c).evec + 0x100))) := by
  have hie : (s.core c).ie = true := hie
  show Host.Outcome.next _ = _
  rcases kindOf_handler hc with hk | hk <;> simp [hmay, hk, hie, hl.lowest_eq]

theorem State.interruptEntry_of_none (h : (s.core c).status.getLsbD 0 = false ∨ (s.core c).wanted = 0) :
    exec (.interruptEntry c) s = .next s := by
  refine congrArg Host.Outcome.next ?_
  rcases h with hie | hw
  · exact if_pos (by rw [Core.ie, hie]; simp)
  · rw [Core.lowest_of_wanted_zero hw]
    split <;> rfl

theorem State.wfiResume_wakes (hlive : s.live c = true) (hmode : (s.core c).mode = .wfi) (hw : (s.core c).wanted ≠ 0) :
    exec (.wfiResume c) s = .next (s.setCore c ({ s.core c with mode := .run } : Core).takeInterrupt) :=
  congrArg Host.Outcome.next (if_pos (by rw [hlive, hmode, bne_iff_ne.2 hw]; rfl))

/-- A failed store that has retired is raised, the oldest first (R94). -/
theorem State.impreciseStoreError_raises {a : DWord} {st : Byte} {rest : List (Nat × Nat)} (hmay : s.mayIssue c = true)
    (hbad : (s.core c).badStores = (a.toNat, st.toNat) :: rest) :
    exec (.impreciseStoreError c a st) s =
      .next ((s.setCore c { s.core c with badStores := rest }).raise c 0x0E st.toNat a.toNat true) := by
  refine congrArg Host.Outcome.next ((if_pos (by simp [hmay, hbad])).trans ?_)
  rw [hbad, List.tail_cons]

end

/-- Settles O24: the waits, fences and invalidation by their equations, entries by Core.entered_enter. -/
theorem waitsFencesAndInterruptsAct : Obligations.WaitsFencesAndInterruptsAct := by
  unfold Obligations.WaitsFencesAndInterruptsAct
  refine ⟨fun c asid ra scope pr su s h => ?_, fun c s hc => ?_⟩
  · intro s0 x
    refine ⟨h.fence pr su, h.isync, fun hc hsup => ?_⟩
    have hwfi := h.wfi hc hsup
    refine ⟨fun hw => ?sleeps, fun hw hie => ?goes, fun line hie hlt hbit hlow => ?entered, ?tlbinv⟩
    case sleeps => rw [hwfi]; exact congrArg (Host.Outcome.next <| s0.setCore c ·) (if_pos hw)
    case goes =>
      rw [hwfi]
      exact congrArg (Host.Outcome.next <| s0.setCore c ·) ((if_neg hw).trans (Core.takeInterrupt_of_not_ie hie))
    case entered =>
      have hl : x.IsLowest line := ⟨hlt, hbit, hlow⟩
      have hnext : (x.next c).IsLowest line := hl
      refine ⟨_, hwfi, ?_⟩
      dsimp only
      rw [State.core_setCore_same, if_neg hl.wanted_ne_zero, hnext.takeInterrupt hie]
      exact ⟨Core.entered_enter (x.next c) .., rfl⟩
    case tlbinv =>
      obtain ⟨t, ht, hpc, hgr, htlb⟩ := h.tlbinv hc hsup asid ra scope
      exact ⟨t, ht, hpc, hgr, fun e => (htlb e).trans (and_congr_right' (e.drops_iff scope _ _))⟩
  · intro x
    refine ⟨fun line hmay hie hlt hbit hlow => ?entry, fun h => State.interruptEntry_of_none h, fun hlive hmode hw hie => ?wakes,
      fun line hlive hmode hie hlt hbit hlow => ?traps, fun a st rest hmay hbad hexl => ?late⟩
    case entry =>
      refine ⟨_, State.interruptEntry_enters hc hmay hie ⟨hlt, hbit, hlow⟩, ?_⟩
      dsimp only
      rw [State.core_setCore_same]
      exact ⟨Core.entered_enter .., rfl, rfl⟩
    case wakes =>
      rw [State.wfiResume_wakes hlive hmode hw]
      exact congrArg (Host.Outcome.next <| s.setCore c ·) (Core.takeInterrupt_of_not_ie hie)
    case traps =>
      have hl : x.IsLowest line := ⟨hlt, hbit, hlow⟩
      have hrun : ({ x with mode := .run } : Core).IsLowest line := hl
      refine ⟨_, State.wfiResume_wakes hlive hmode hl.wanted_ne_zero, ?_⟩
      dsimp only
      rw [State.core_setCore_same, hrun.takeInterrupt hie]
      exact ⟨Core.entered_enter { x with mode := .run } .., rfl⟩
    case late =>
      refine ⟨_, State.impreciseStoreError_raises hmay hbad, ?_⟩
      dsimp only
      rw [State.raise_enters _ _ _ _ hc (by rwa [State.core_setCore_same]), State.core_setCore_same, State.core_setCore_same]
      have hcause : ecauseOf true st.toNat 0x0E = BitVec.ofNat 64 (2 ^ 62 + 256 * st.toNat + 0x0E) := by
        simp [ecauseOf, Nat.mul_comm]
      rw [hcause, BitVec.ofNat_toNat, BitVec.setWidth_eq]
      exact ⟨Core.entered_enter { x with badStores := rest } .., rfl⟩

end Sys2Proof.Machine
end

section
/-!
SUPPORT. The system registers of Table 04-9 and the instructions that swap, set and clear them (R89).
-/
namespace Sys2Proof.Machine

/-! ## A word of the enabled lines -/

/-- The value of IEN with its 64-bit word j replaced. -/
def withIenWord (ien : BitVec 256) (j : Nat) (w : DWord) : BitVec 256 :=
  (ien &&& ~~~((BitVec.ofNat 256 (2 ^ 64 - 1)) <<< (64 * j))) ||| (w.zeroExtend 256 <<< (64 * j))

theorem getLsbD_withIenWord (ien : BitVec 256) {i j b : Nat} (w : DWord) (hi : i < 4) (hb : b < 64) :
    (withIenWord ien j w).getLsbD (64 * i + b) = if i = j then w.getLsbD b else ien.getLsbD (64 * i + b) := by
  have hlt : 64 * i + b < 256 := by omega
  simp only [withIenWord, BitVec.getLsbD_or, BitVec.getLsbD_and, BitVec.getLsbD_not, BitVec.getLsbD_shiftLeft, BitVec.getLsbD_ofNat,
    BitVec.zeroExtend, BitVec.getLsbD_setWidth, Nat.testBit_two_pow_sub_one, hlt, decide_true, Bool.true_and]
  split
  · next h =>
    subst h
    simp [show 64 * i + b - 64 * i = b by omega, hb, show b < 256 by omega]
  · next h =>
    rcases Nat.lt_or_ge (64 * i + b) (64 * j) with hlow | hhigh
    · simp [hlow]
    · have hout : ¬ 64 * i + b - 64 * j < 64 := by omega
      simp [hout, BitVec.getLsbD_of_ge w _ (Nat.not_lt.1 hout)]

/-- A word of IEN after one was replaced. -/
theorem word_withIenWord (ien : BitVec 256) {i j : Nat} (w : DWord) (hi : i < 4) :
    ((withIenWord ien j w) >>> (64 * i)).truncate 64 = if i = j then w else (ien >>> (64 * i)).truncate 64 := by
  refine BitVec.eq_of_getLsbD_eq fun b hb => ?_
  have hput := getLsbD_withIenWord ien (j := j) w hi hb
  split at hput
  · next h => simpa [h, hb] using h ▸ hput
  · next h => simpa [h, hb] using hput

/-! ## The registers that hold what is written -/

/-- A register of Table 04-9 that holds a value of its own, of the core alone. -/
def Core.srGet (x : Core) (n : Nat) : DWord :=
  match n with
  | 0x003 => x.fcsr
  | 0x100 => x.status
  | 0x101 => x.evec
  | 0x102 => x.epc
  | 0x103 => x.ecause
  | 0x104 => x.eaddr
  | 0x105 => x.escratch
  | 0x106 => x.ptroot
  | _ => (x.ien >>> (64 * (n - 0x110))).truncate 64

/-- The registers of one field each. -/
def srFields : List Nat := [0x003, 0x100, 0x101, 0x102, 0x103, 0x104, 0x105, 0x106]

/-- The registers that hold a value: those of one field each, and the four words of IEN. -/
theorem storedSr_cases {control : Bool} {n : Nat} (h : storedSr control n ≠ none) : n ∈ srFields ∨ ∃ j < 4, n = 0x110 + j := by
  have hrange : n ∈ srFields ∨ 0x110 ≤ n ∧ n < 0x114 := by
    unfold storedSr at h
    split at h <;> simp_all [srFields]
  exact hrange.imp_right fun ⟨hlo, hhi⟩ => ⟨n - 0x110, by omega, by omega⟩

theorem srFields_lt : ∀ n ∈ srFields, n < 0x110 := by decide

theorem State.srValue_stored (s : State) (c : Nat) {control : Bool} {n : Nat} (h : storedSr control n ≠ none) :
    s.srValue c n = (s.core c).srGet n := by
  rcases storedSr_cases h with hn | ⟨j, hj, rfl⟩
  · fin_cases hn <;> rfl
  · interval_cases j <;> rfl

theorem Core.setG_srGet (x : Core) (r : Nat) (v : DWord) (n : Nat) : (x.setG r v).srGet n = x.srGet n := by
  unfold Core.setG
  split <;> rfl

/-- The kind of core that a column of Table 04-9 is for. -/
def srKind (control : Bool) : CoreKind := if control then .control else .keeper

theorem kindOf_srKind {c : Nat} (hc : c ≤ 3 ∨ c = 23) : kindOf c = srKind (decide (c ≤ 3)) := by
  rcases hc with h | h
  · simp [srKind, h, kindOf_control]
  · simp [srKind, h, kindOf_keeper]

theorem srMask_stored {control : Bool} {n : Nat} {mask : DWord} (h : storedSr control n = some mask) :
    srMask (srKind control) n = mask := by
  unfold storedSr at h
  split at h <;> cases control <;> simp_all [srMask, srKind]

theorem srPresent_stored {control : Bool} {n : Nat} (h : storedSr control n ≠ none) :
    srPresent (srKind control) n = true ∧ srReadOnly n = false := by
  unfold storedSr at h
  split at h <;> cases control <;> simp_all [srPresent, srReadOnly, srKind]

theorem Core.srGet_ien (x : Core) {i : Nat} (hi : i < 4) : x.srGet (0x110 + i) = (x.ien >>> (64 * i)).truncate 64 := by
  interval_cases i <;> rfl

theorem Core.srWrite_ien (x : Core) (k : CoreKind) {j : Nat} (v : DWord) (hj : j < 4) :
    x.srWrite k (0x110 + j) v = { x with ien := withIenWord x.ien j (v &&& srMask k (0x110 + j)) } := by
  interval_cases j <;> rfl

/-- A write of one register reaches no other. -/
theorem Core.srGet_srWrite (x : Core) (k : CoreKind) {control : Bool} {m n : Nat} (v : DWord) (hm : storedSr control m ≠ none)
    (hn : storedSr control n ≠ none) :
    (x.srWrite k n v).srGet m = if m = n then v &&& srMask k n else x.srGet m := by
  rcases storedSr_cases hm with hm | ⟨i, hi, rfl⟩ <;> rcases storedSr_cases hn with hn | ⟨j, hj, rfl⟩
  · fin_cases hn <;> fin_cases hm <;> rfl
  · have hne : m ≠ 0x110 + j := by have := srFields_lt m hm; omega
    rw [Core.srWrite_ien x k v hj, if_neg hne]
    fin_cases hm <;> rfl
  · have hne : 0x110 + i ≠ n := by have := srFields_lt n hn; omega
    rw [Core.srGet_ien _ hi, Core.srGet_ien _ hi, if_neg hne]
    fin_cases hn <;> rfl
  · rw [Core.srWrite_ien x k v hj, Core.srGet_ien _ hi, Core.srGet_ien _ hi, word_withIenWord _ _ hi]
    simp

theorem Core.srWrite_frame (x : Core) (k : CoreKind) (n : Nat) (v : DWord) :
    (x.srWrite k n v).pc = x.pc ∧ (∀ r, (x.srWrite k n v).gr r = x.gr r) ∧ (x.srWrite k n v).ipend = x.ipend := by
  unfold Core.srWrite
  dsimp only
  split <;> exact ⟨rfl, fun _ => rfl, rfl⟩

/-! ## The three instructions (Table 04-10) -/

/-- A form that reads a system register and makes a new value of it. -/
def IsSr (p : (Fin 24 → Fin 32 → Fin 32 → BitVec 12 → Instr) × (DWord → DWord → DWord)) : Prop :=
  ∃ sub, ∀ c rd ra sr s, exec (p.1 c rd ra sr) s = .next (s.srIns c sub rd ra sr p.2)

theorem isSr_of_mem {p} (h : p ∈ srForms) : IsSr p := by
  simp only [srForms, List.mem_cons, List.not_mem_nil, or_false] at h
  rcases h with rfl | rfl | rfl
  · exact ⟨0, fun _ _ _ _ _ => rfl⟩
  · exact ⟨1, fun _ _ _ _ _ => rfl⟩
  · exact ⟨2, fun _ _ _ _ _ => rfl⟩

section
variable {s : State} {c : Fin 24} {rd ra : Fin 32} {sr : BitVec 12} {f : DWord → DWord → DWord}

theorem State.gr_begun (s : State) (c : Fin 24) (d r : Nat) : ((s.begun c).core d).gr r = (s.core d).gr r := by
  obtain ⟨l, hl⟩ := s.core_begun c d
  rw [hl]
  rfl

/-- A register that is absent, or a nonzero operand for a read-only one, is illegal. -/
theorem State.Runs.srIns_illegal (h : s.Runs c) (sub : Nat)
    (hbad : srPresent (kindOf c) sr.toNat = false ∨ srReadOnly sr.toNat = true ∧ ((s.begun c).core c).gr ra ≠ 0) :
    ∃ w, s.srIns c sub rd ra sr f = (s.begun c).raise c 0x03 0 w false := by
  rw [State.gr_begun] at hbad
  have hlegal : (srPresent (kindOf c) sr.toNat && !(srReadOnly sr.toNat && (s.core c).gr ra != 0)) = false := by
    rcases hbad with hp | ⟨hr, hne⟩
    · rw [hp, Bool.false_and]
    · rw [hr, bne_iff_ne.2 hne, Bool.true_and, Bool.not_true, Bool.and_false]
  rw [State.srIns]
  dsimp only
  rw [hlegal, h.ins_illegal]
  exact ⟨_, rfl⟩

/-- The frame of a register that is present, with an operand that it takes. -/
theorem State.Runs.srIns_legal (h : s.Runs c) (sub : Nat) (hp : srPresent (kindOf c) sr.toNat = true)
    (hr : srReadOnly sr.toNat = true → ((s.begun c).core c).gr ra = 0) :
    s.srIns c sub rd ra sr f =
      let s0 := s.begun c
      let x := s0.core c
      let n := sr.toNat
      if !srUser n && !x.sup then s0.privileged c
      else if n = 3 && kindOf c == .control && !x.fpen then s0.raise c 0x05 0 0 false
      else
        let t := s0.srValue c n
        (s0.srRead c n).advance c (fun y => (if srReadOnly n then y else y.srWrite (kindOf c) n (f t (x.gr ra))).setG rd t) := by
  rw [State.gr_begun] at hr
  have hlegal : (srPresent (kindOf c) sr.toNat && !(srReadOnly sr.toNat && (s.core c).gr ra != 0)) = true := by
    cases hro : srReadOnly sr.toNat
    · rw [hp]; rfl
    · rw [hp, hr hro]; rfl
  rw [State.srIns]
  dsimp only
  rw [hlegal, h.ins_base]

/-- A register that holds a value takes the new one, and rd the old one. -/
theorem State.Runs.srIns_stored (h : s.Runs c) (hc : c.val ≤ 3 ∨ c.val = 23) (sub : Nat)
    (hst : storedSr (decide (c.val ≤ 3)) sr.toNat ≠ none) (hlevel : sr.toNat ≤ 4 ∨ ((s.begun c).core c).sup = true)
    (hfp : sr = 3 → ((s.begun c).core c).fpen = true) :
    s.srIns c sub rd ra sr f =
      let s0 := s.begun c
      let x := s0.core c
      let t := s0.srValue c sr.toNat
      s0.setCore c (((x.srWrite (kindOf c) sr.toNat (f t (x.gr ra))).setG rd t).next c) := by
  obtain ⟨hpresent, hwritable⟩ := srPresent_stored hst
  rw [← kindOf_srKind hc] at hpresent
  have hallowed : ¬ (!srUser sr.toNat && !((s.begun c).core c).sup) = true := by
    rcases hlevel with h | h <;> simp [srUser, h]
  have hfloat : ¬ (sr.toNat = 3 && kindOf c == .control && !((s.begun c).core c).fpen) = true := by
    by_cases h3 : sr = 3
    · rw [hfp h3, Bool.not_true, Bool.and_false]; exact Bool.false_ne_true
    · have : sr.toNat ≠ 3 := fun e => h3 (BitVec.eq_of_toNat_eq e)
      simp [this]
  have hread : (s.begun c).srRead c sr.toNat = s.begun c := by
    have hne : sr.toNat ≠ 0x11C ∧ sr.toNat ≠ 0x001 := by
      constructor <;> intro e <;> rw [e] at hwritable <;> simp [srReadOnly] at hwritable
    rw [State.srRead, if_neg hne.1, if_neg (fun e => hne.2 e.1)]
  rw [h.srIns_legal sub hpresent (by simp [hwritable])]
  dsimp only
  rw [if_neg hallowed, if_neg hfloat, hread, hwritable]
  rfl

/-- ICLAIM answers the lowest line and clears its pending bit. -/
theorem State.Runs.srIns_iclaim (h : s.Runs c) (hc : c.val ≤ 3 ∨ c.val = 23) (sub : Nat) {line : Nat}
    (hsup : ((s.begun c).core c).sup = true) (hra : ((s.begun c).core c).gr ra = 0) (hl : ((s.begun c).core c).IsLowest line) :
    s.srIns c sub rd ra 0x11C f =
      let x := (s.begun c).core c
      (s.begun c).setCore c
        ((({ x with ipend := x.ipend &&& ~~~(BitVec.ofNat 256 (2 ^ line)) } : Core).setG rd (BitVec.ofNat 64 (2 ^ 63 + line))).next c) := by
  have hpresent : srPresent (kindOf c) 0x11C = true := by rcases kindOf_handler hc with hk | hk <;> rw [hk] <;> rfl
  have hvalue : (s.begun c).srValue c 0x11C = BitVec.ofNat 64 (2 ^ 63 + line) := by
    show (match ((s.begun c).core c).lowest with | some l => BitVec.ofNat 64 (2 ^ 63 + l) | none => 0) = _
    rw [hl.lowest_eq]
  have hread : (s.begun c).srRead c 0x11C =
      let x := (s.begun c).core c
      (s.begun c).setCore c { x with ipend := x.ipend &&& ~~~(BitVec.ofNat 256 (2 ^ line)) } := by
    rw [State.srRead, if_pos rfl, hl.lowest_eq]
  have hn : (0x11C : BitVec 12).toNat = 0x11C := rfl
  rw [h.srIns_legal sub (hn ▸ hpresent) fun _ => hra]
  dsimp only
  rw [hn, if_neg (by simp [hsup]), if_neg (by simp), hvalue, hread, State.advance, State.core_setCore_same, State.setCore_setCore]
  rfl

end

theorem Core.setG_next_fields (x : Core) (rd c : Nat) (v : DWord) :
    ((x.setG rd v).next c).pc = x.pc + 4 ∧ ((x.setG rd v).next c).ipend = x.ipend := by
  unfold Core.setG
  split <;> exact ⟨rfl, rfl⟩

theorem Core.srGet_setG_next (x : Core) (rd c n : Nat) (v : DWord) : ((x.setG rd v).next c).srGet n = x.srGet n :=
  x.setG_srGet rd v n

theorem Core.gr_setG_next (x : Core) (rd c r : Nat) (v : DWord) :
    ((x.setG rd v).next c).gr r = if r = rd ∧ rd ≠ 0 then v else x.gr r := x.gr_setG rd r v

/-- The numbers that no write may have: read-only with a nonzero operand, or not listed. -/
theorem srIllegal {c : Nat} (hc : c ≤ 3 ∨ c = 23) {sr : BitVec 12} {v : DWord}
    (hsr : sr ∈ [(0 : BitVec 12), 1, 2, 4, 0x118, 0x119, 0x11A, 0x11B, 0x11C, 5, 0x107, 0x114])
    (hbad : v ≠ 0 ∨ sr ∈ [(5 : BitVec 12), 0x107, 0x114]) :
    srPresent (kindOf c) sr.toNat = false ∨ srReadOnly sr.toNat = true ∧ v ≠ 0 := by
  have hlisted : ∀ sr ∈ [(0 : BitVec 12), 1, 2, 4, 0x118, 0x119, 0x11A, 0x11B, 0x11C, 5, 0x107, 0x114],
      sr ∉ [(5 : BitVec 12), 0x107, 0x114] → srReadOnly sr.toNat = true := by decide
  have habsent : ∀ sr ∈ [(5 : BitVec 12), 0x107, 0x114], srPresent .control sr.toNat = false ∧ srPresent .keeper sr.toNat = false := by
    decide
  by_cases h : sr ∈ [(5 : BitVec 12), 0x107, 0x114]
  · refine .inl ?_
    rcases kindOf_handler hc with hk | hk <;> rw [hk]
    · exact (habsent sr h).1
    · exact (habsent sr h).2
  · exact .inr ⟨hlisted sr hsr h, hbad.resolve_right h⟩

/-- The supervisor registers that control cores and the Keeper both have. -/
theorem srSupervisor {c : Nat} (hc : c ≤ 3 ∨ c = 23) {sr : BitVec 12}
    (hsr : sr ∈ [(0x100 : BitVec 12), 0x101, 0x102, 0x103, 0x104, 0x105, 0x110, 0x113]) :
    srPresent (kindOf c) sr.toNat = true ∧ srReadOnly sr.toNat = false ∧ srUser sr.toNat = false := by
  have hall : ∀ sr ∈ [(0x100 : BitVec 12), 0x101, 0x102, 0x103, 0x104, 0x105, 0x110, 0x113],
      srPresent .control sr.toNat = true ∧ srPresent .keeper sr.toNat = true ∧ srReadOnly sr.toNat = false ∧
        srUser sr.toNat = false := by decide
  obtain ⟨hcontrol, hkeeper, hrest⟩ := hall sr hsr
  rcases kindOf_handler hc with hk | hk <;> rw [hk]
  · exact ⟨hcontrol, hrest⟩
  · exact ⟨hkeeper, hrest⟩

theorem getLsbD_clear (v : BitVec 256) (line l : Nat) :
    (v &&& ~~~(BitVec.ofNat 256 (2 ^ line))).getLsbD l = (v.getLsbD l && decide (l ≠ line)) := by
  rcases Nat.lt_or_ge l 256 with hl | hl
  · have hone : (BitVec.ofNat 256 (2 ^ line)).getLsbD l = decide (line = l) := by
      rw [BitVec.getLsbD_ofNat, Nat.testBit_two_pow, decide_eq_true hl, Bool.true_and]
    rw [BitVec.getLsbD_and, BitVec.getLsbD_not, decide_eq_true hl, Bool.true_and, hone, ← decide_not]
    simp only [ne_eq, eq_comm]
  · rw [BitVec.getLsbD_of_ge _ _ hl, BitVec.getLsbD_of_ge _ _ hl, Bool.false_and]

/-- Settles O23: the frame of the three instructions, and each register by itself. -/
theorem systemRegistersSwapSetAndClear : Obligations.SystemRegistersSwapSetAndClear := by
  unfold Obligations.SystemRegistersSwapSetAndClear
  intro p hp c rd ra sr s h hc s0 x ctl
  obtain ⟨sub, hexec⟩ := isSr_of_mem hp
  refine ⟨fun mask hmask hlevel hfp => ?stored, fun hsr hbad => ?illegal, fun hsup hsr => ?privileged,
    fun hsr hsup hra line hlt hbit hlow => ?claim⟩
  case stored =>
    have hst : storedSr ctl sr.toNat ≠ none := by simp [hmask]
    refine ⟨_, (hexec ..).trans (congrArg Host.Outcome.next (h.srIns_stored hc sub hst hlevel hfp)), ?_⟩
    obtain ⟨hpc, hgr, hipend⟩ := x.srWrite_frame (kindOf c) sr.toNat (p.2 (s0.srValue c sr.toNat) (x.gr ra))
    obtain ⟨hnext, hpend⟩ := (x.srWrite (kindOf c) sr.toNat (p.2 (s0.srValue c sr.toNat) (x.gr ra))).setG_next_fields rd c
      (s0.srValue c sr.toNat)
    dsimp only
    simp only [State.srValue_stored _ _ hst, State.core_setCore_same, Core.srGet_setG_next, Core.gr_setG_next]
      at hpc hgr hipend hnext hpend ⊢
    refine ⟨?same, fun n hn hstored => ?other, fun hrd => ?old, fun r hr => ?kept, hnext.trans (by rw [hpc]), hpend.trans hipend,
      State.mem_begun s c⟩
    case same => rw [Core.srGet_srWrite _ _ _ hst hst, if_pos rfl, kindOf_srKind hc, srMask_stored hmask]
    case other =>
      rw [State.srValue_stored _ _ hstored, State.srValue_stored _ _ hstored, State.core_setCore_same, Core.srGet_setG_next,
        Core.srGet_srWrite _ _ _ hstored hst, if_neg hn]
    case old => exact if_pos ⟨trivial, fun e => hrd (Fin.ext e)⟩
    case kept => exact (if_neg fun e => hr (Fin.ext e.1)).trans (hgr r)
  case illegal =>
    obtain ⟨w, hw⟩ := h.srIns_illegal (rd := rd) (ra := ra) (sr := sr) (f := p.2) sub (srIllegal hc hsr hbad)
    exact ⟨w, (hexec ..).trans (congrArg Host.Outcome.next hw)⟩
  case privileged =>
    obtain ⟨hpresent, hwritable, huser⟩ := srSupervisor hc hsr
    refine (hexec ..).trans (congrArg Host.Outcome.next ((h.srIns_legal sub hpresent (by simp [hwritable])).trans ?_))
    exact if_pos (by rw [huser, hsup]; rfl)
  case claim =>
    subst hsr
    refine ⟨_, (hexec ..).trans (congrArg Host.Outcome.next (h.srIns_iclaim hc sub hsup hra ⟨hlt, hbit, hlow⟩)), ?_⟩
    dsimp only
    rw [State.core_setCore_same]
    refine ⟨fun hrd => ?_, fun l => ?_⟩
    · rw [Core.gr_setG_next, if_pos ⟨rfl, fun e => hrd (Fin.ext e)⟩]
    · rw [(Core.setG_next_fields _ rd c _).2]
      exact getLsbD_clear x.ipend line l

end Sys2Proof.Machine
end

section
/-!
SUPPORT. The frame of the floating-point instructions (R78, R88), and what a part that is off or absent raises (R75, R80).
-/
namespace Sys2Proof.Machine

theorem Core.rounding_eq (x : Core) (rm : Fin 8) : x.rounding rm = x.modeInUse rm := by
  have h : (rm.val = 7) = (rm = 7) := propext (Fin.ext_iff (b := 7)).symm
  simp only [Core.rounding, Core.modeInUse, Core.frm, h]
  rfl

/-- A walk changes neither the rounding mode nor what enables floating point. -/
theorem State.modeInUse_begun (s : State) (c : Fin 24) (d : Nat) (rm : Fin 8) :
    ((s.begun c).core d).modeInUse rm = (s.core d).modeInUse rm := by
  obtain ⟨l, hl⟩ := s.core_begun c d
  rw [hl]
  rfl

theorem State.fpen_begun (s : State) (c : Fin 24) (d : Nat) : ((s.begun c).core d).fpen = (s.core d).fpen := by
  obtain ⟨l, hl⟩ := s.core_begun c d
  rw [hl]
  rfl

/-- The command is a floating-point instruction that changes its core by f of the rounding mode in use. -/
def IsFp (i : Instr) (c : Fin 24) (rm : Fin 8) (f : Nat → Core → Core) : Prop :=
  ∃ word, ∀ s : State, exec i s = .next (s.fpIns c rm word f)

section
variable {i : Instr} {c : Fin 24} {rm : Fin 8} {f : Nat → Core → Core} {s : State}

/-- With floating point on and one of the five modes, the instruction is carried out. -/
theorem IsFp.acts (hi : IsFp i c rm f) (h : s.IssuesFloat c rm) :
    exec i s = .next ((s.begun c).advance c (f (((s.begun c).core c).modeInUse rm))) := by
  obtain ⟨word, hi⟩ := hi
  have hlegal : (s.core c).rmLegal rm = true := by
    rw [Core.rmLegal, Core.rounding_eq]
    exact decide_eq_true h.mode
  have hon : ((s.begun c).core c).fpOn c = true := by
    rw [Core.fpOn, State.fpen_begun]
    rcases h.enabled with hk | hen
    · rw [hk]; rfl
    · rw [hen, Bool.or_true]
  rw [hi, State.fpIns, hlegal, h.issues.ins_legal, if_pos hon, Core.rounding_eq]

/-- With floating point off it is disabled. -/
theorem IsFp.disabled (hi : IsFp i c rm f) (h : s.Issues c .float) (hk : kindOf c = .control)
    (hoff : ((s.begun c).core c).fpen = false) (hmode : ((s.begun c).core c).modeInUse rm ≤ 4) :
    exec i s = .next ((s.begun c).raise c 0x05 0 0 false) := by
  obtain ⟨word, hi⟩ := hi
  have hlegal : (s.core c).rmLegal rm = true := by
    rw [Core.rmLegal, Core.rounding_eq, ← State.modeInUse_begun]
    exact decide_eq_true hmode
  rw [hi, State.fpIns, hlegal, h.ins_legal, Core.fpOn, hk, hoff]
  rfl

/-- A reserved rounding mode is illegal, with floating point on or off. -/
theorem IsFp.reserved (hi : IsFp i c rm f) (h : s.Runs c) (hmode : 5 ≤ ((s.begun c).core c).modeInUse rm) :
    ∃ word, exec i s = .next ((s.begun c).illegal c word) := by
  obtain ⟨word, hi⟩ := hi
  have hlegal : (s.core c).rmLegal rm = false := by
    rw [Core.rmLegal, Core.rounding_eq, ← State.modeInUse_begun s c]
    exact decide_eq_false (Nat.not_le.2 hmode)
  rw [hi, State.fpIns, hlegal, h.ins_illegal]
  exact ⟨word, rfl⟩

/-- A result into an f register. -/
theorem IsFp.computesF {rd : Fin 32} {r : Nat → Core → FRes} {v : Core → FRes} (hi : IsFp i c rm fun m x => x.toF rd (r m x))
    (h : s.IssuesFloat c rm) (hv : r (((s.begun c).core c).modeInUse rm) ((s.begun c).core c) = v ((s.begun c).core c)) :
    ComputesF i s c rd v := by
  rw [ComputesF, hi.acts h, State.advance, State.advance, hv]
  rfl

/-- A result into a general register. -/
theorem IsFp.computesGF {rd : Fin 32} {r : Nat → Core → FRes} {v : Core → FRes} (hi : IsFp i c rm fun m x => x.toG rd (r m x))
    (h : s.IssuesFloat c rm) (hv : r (((s.begun c).core c).modeInUse rm) ((s.begun c).core c) = v ((s.begun c).core c)) :
    ComputesGF i s c rd v := by
  rw [ComputesGF, hi.acts h, State.advance, State.advance, hv]
  rfl

end

/-! ## The forms of Table 04-8 that round -/

section
variable (c : Fin 24) (rd ra rb rc : Fin 32) (dbl : Bool) (rm : Fin 8)

theorem isFp_roundedForms {p} (hp : p ∈ roundedForms) :
    IsFp (p.1 c rd ra rb dbl rm) c rm fun m x => x.toF rd (p.2 (fmtOf dbl) m (x.fop dbl ra) (x.fop dbl rb)) := by
  simp only [roundedForms, List.mem_cons, List.not_mem_nil, or_false] at hp
  rcases hp with rfl | rfl | rfl | rfl <;> exact ⟨_, fun _ => rfl⟩

end

/-- Settles O17: each form by its equation and the frame. -/
theorem floatingArithmeticAnswers : Obligations.FloatingArithmeticAnswers := by
  unfold Obligations.FloatingArithmeticAnswers
  intro c rd ra rb rc dbl rm s h f g
  refine ⟨fun p hp => (isFp_roundedForms c rd ra rb dbl rm hp).computesF h rfl, ?sqrt, ?madd, ?msub, ?nmadd, ?nmsub, ?ofInt, ?ofNat,
    ?convert, ?toInt, ?toNat⟩
  case sqrt => exact IsFp.computesF (r := fun m x => f.sqrt m (x.fop dbl ra)) ⟨_, fun _ => rfl⟩ h rfl
  case madd =>
    exact IsFp.computesF (r := fun m x => f.fma m (x.fop dbl ra) (x.fop dbl rb) (x.fop dbl rc) false false) ⟨_, fun _ => rfl⟩ h rfl
  case msub =>
    exact IsFp.computesF (r := fun m x => f.fma m (x.fop dbl ra) (x.fop dbl rb) (x.fop dbl rc) false true) ⟨_, fun _ => rfl⟩ h rfl
  case nmadd =>
    exact IsFp.computesF (r := fun m x => f.fma m (x.fop dbl ra) (x.fop dbl rb) (x.fop dbl rc) true false) ⟨_, fun _ => rfl⟩ h rfl
  case nmsub =>
    exact IsFp.computesF (r := fun m x => f.fma m (x.fop dbl ra) (x.fop dbl rb) (x.fop dbl rc) true true) ⟨_, fun _ => rfl⟩ h rfl
  case ofInt => exact IsFp.computesF (r := fun m x => f.ofInt m (x.gr ra).toInt) ⟨_, fun _ => rfl⟩ h rfl
  case ofNat => exact IsFp.computesF (r := fun m x => f.ofInt m (x.gr ra).toNat) ⟨_, fun _ => rfl⟩ h rfl
  case convert => exact IsFp.computesF (r := fun m x => g.convert f m (x.fop (!dbl) ra)) ⟨_, fun _ => rfl⟩ h rfl
  case toInt => exact IsFp.computesGF (r := fun m x => f.toInt m true (x.fop dbl ra)) ⟨_, fun _ => rfl⟩ h rfl
  case toNat => exact IsFp.computesGF (r := fun m x => f.toInt m false (x.fop dbl ra)) ⟨_, fun _ => rfl⟩ h rfl

/-! ## Parts that are off or absent -/

theorem coreHas_eq (c : Fin 24) (p : Part) : coreHas c p = hasPart (kindOf c) p := by
  revert c
  cases p <;> decide

/-- The state after is that of an instruction of a part, in the frame of all instructions. -/
def State.InFrame (s t : State) (c : Fin 24) (p : Part) : Prop := ∃ legal word body, t = s.ins c p legal word body

section
variable {s : State} {c : Fin 24} {p : Part}

theorem State.inFrame_ins (legal : Bool) (word : Nat) (body : State → State) : s.InFrame (s.ins c p legal word body) c p :=
  ⟨_, _, _, rfl⟩

theorem State.inFrame_compute (rd : Fin 32) (word : Nat) (f : Core → DWord) : s.InFrame (s.compute c p rd word f) c p :=
  s.inFrame_ins ..

theorem State.inFrame_op3 (fn : Nat) (rd ra rb : Fin 32) (f : DWord → DWord → DWord) : s.InFrame (s.op3 c p fn rd ra rb f) c p :=
  s.inFrame_compute ..

theorem State.inFrame_opImm (op : Nat) (rd ra : Fin 32) (imm : BitVec 16) (f : DWord → DWord) :
    s.InFrame (s.opImm c op rd ra imm f) c .base := s.inFrame_compute ..

theorem State.inFrame_branch (op : Nat) (ra rb : Fin 32) (off : BitVec 16) (f : DWord → DWord → Bool) :
    s.InFrame (s.branch c op ra rb off f) c .base := s.inFrame_ins ..

theorem State.inFrame_loadIns (op size : Nat) (signed : Bool) (rd ra : Fin 32) (imm : BitVec 16) :
    s.InFrame (s.loadIns c op size signed rd ra imm) c .base := s.inFrame_ins ..

theorem State.inFrame_storeIns (op size : Nat) (rd ra : Fin 32) (imm : BitVec 16) :
    s.InFrame (s.storeIns c op size rd ra imm) c .base := s.inFrame_ins ..

theorem State.inFrame_floadIns (op size : Nat) (rd ra : Fin 32) (imm : BitVec 16) :
    s.InFrame (s.floadIns c op size rd ra imm) c .float := s.inFrame_ins ..

theorem State.inFrame_fstoreIns (op size : Nat) (rd ra : Fin 32) (imm : BitVec 16) :
    s.InFrame (s.fstoreIns c op size rd ra imm) c .float := s.inFrame_ins ..

theorem State.inFrame_atomIns (op : Nat) (rd ra rb : Fin 32) (dbl aq rl : Bool) :
    s.InFrame (s.atomIns c op rd ra rb dbl aq rl) c .atom := s.inFrame_ins ..

theorem State.inFrame_fpIns (rm word : Nat) (f : Nat → Core → Core) : s.InFrame (s.fpIns c rm word f) c .float := s.inFrame_ins ..

theorem State.inFrame_fop2 (op : Nat) (rd ra rb : Fin 32) (dbl : Bool) (rm : Fin 8)
    (f : FloatFmt → Nat → Nat → Nat → Core → Core) : s.InFrame (s.fop2 c op rd ra rb dbl rm f) c .float := s.inFrame_fpIns ..

theorem State.inFrame_fused (op : Nat) (rd ra rb rc : Fin 32) (dbl : Bool) (rm : Fin 8) (m n : Bool) :
    s.InFrame (s.fused c op rd ra rb rc dbl rm m n) c .float := s.inFrame_fpIns ..

theorem State.inFrame_rcmdIns (rd ra rb : Fin 32) (chain : Byte) : s.InFrame (s.rcmdIns c rd ra rb chain) c .timed := by
  unfold State.rcmdIns
  exact s.inFrame_ins ..

end

/-- Every instruction of the table is one of its core and part. -/
theorem exec_inFrame {i : Instr} {c : Fin 24} {p : Part} (h : coreAndPart i = some (c, p)) (s : State) :
    ∃ t, exec i s = .next t ∧ s.InFrame t c p := by
  unfold coreAndPart at h
  split at h <;> cases h <;> refine ⟨_, rfl, ?_⟩ <;>
    simp only [State.inFrame_ins, State.inFrame_compute, State.inFrame_op3, State.inFrame_opImm, State.inFrame_branch,
      State.inFrame_loadIns, State.inFrame_storeIns, State.inFrame_floadIns, State.inFrame_fstoreIns, State.inFrame_atomIns,
      State.inFrame_fop2, State.inFrame_fused, State.inFrame_rcmdIns]

/-- The forms with a rounding mode that O19 names. -/
theorem isFp_of_mem {c : Fin 24} {rd ra rb rc : Fin 32} {dbl : Bool} {rm : Fin 8} {i : Instr}
    (hi : i ∈ [Instr.fadd c rd ra rb dbl rm, .feq c rd ra rb dbl rm, .fmadd c rd ra rb rc dbl rm, .fmvIF c rd ra dbl rm]) :
    ∃ f, IsFp i c rm f := by
  simp only [List.mem_cons, List.not_mem_nil, or_false] at hi
  rcases hi with rfl | rfl | rfl | rfl <;> exact ⟨_, _, fun _ => rfl⟩

/-- Settles O19: FP disabled and reserved modes by the frame of floating point, absent parts by that of all instructions. -/
theorem disabledOrAbsentPartsRaiseTheirException : Obligations.DisabledOrAbsentPartsRaiseTheirException := by
  unfold Obligations.DisabledOrAbsentPartsRaiseTheirException
  refine ⟨fun c rd ra rb rc imm dbl rm s hc h => ?_, fun i c p s hi h hhas => ?absent⟩
  · intro s0 x
    have hk := kindOf_control hc
    refine ⟨fun hoff => ⟨fun hmode i hi => ?off, ?load, ?fcsr⟩, fun hmode i hi => ?reserved⟩
    case off =>
      obtain ⟨f, hf⟩ := isFp_of_mem hi
      exact hf.disabled h hk hoff hmode
    case load =>
      refine congrArg Host.Outcome.next (h.ins_legal.trans (if_neg ?_))
      rw [Core.fpOn, hk, hoff]
      exact Bool.false_ne_true
    case fcsr =>
      refine congrArg Host.Outcome.next ((h.runs.srIns_legal 1 (by rw [hk]; rfl) fun hr => absurd hr (by decide)).trans ?_)
      dsimp only
      rw [if_neg (by simp [srUser]), if_pos (by rw [hk, hoff]; rfl)]
    case reserved =>
      have hi4 := List.mem_append_left [Instr.fmvIF c rd ra dbl rm] hi
      obtain ⟨f, hf⟩ := isFp_of_mem hi4
      exact hf.reserved h.runs hmode
  case absent =>
    obtain ⟨t, ht, legal, word, body, hins⟩ := exec_inFrame hi s
    rw [ht, hins, h.ins_absent (by rw [← coreHas_eq, hhas])]
    exact ⟨word, rfl⟩

end Sys2Proof.Machine
end

section
/-!
SUPPORT. The two formats of Table 04-8 by their fields: what decodes to a NaN, the canonical NaN (R88), order and classes.
-/
namespace Sys2Proof.Machine

/-! ## Fields of a number -/

/-- What the two formats have in common: the exponent field takes the bits between fraction and sign. -/
structure FloatFmt.Std (f : FloatFmt) : Prop where
  exponents : 2 ^ (f.w - f.p) = 2 * f.emax + 2
  fraction  : 2 ≤ f.p
  width     : f.p < f.w

theorem fmtOf_std (dbl : Bool) : (fmtOf dbl).Std := by
  cases dbl
  · exact ⟨by decide, by decide, by decide⟩
  · exact ⟨by decide, by decide, by decide⟩

section
variable {f : FloatFmt}

/-- The magnitude of an infinity: every number is at most that, every NaN above. -/
def FloatFmt.infMag (f : FloatFmt) : Nat := (2 * f.emax + 1) * 2 ^ (f.p - 1)

namespace FloatFmt.Std

variable (h : f.Std)
include h

theorem sign_weight : 2 ^ (f.w - 1) = 2 ^ (f.p - 1) * (2 * f.emax + 2) := by
  rw [← h.exponents, ← Nat.pow_add]
  have := h.fraction
  have := h.width
  congr 1
  omega

theorem infMag_lt : f.infMag < 2 ^ (f.w - 1) := by
  rw [h.sign_weight, FloatFmt.infMag, Nat.mul_comm (2 ^ (f.p - 1))]
  exact Nat.mul_lt_mul_of_pos_right (by omega) (Nat.two_pow_pos _)

theorem exponent_field (r : Nat) : r / 2 ^ (f.p - 1) % 2 ^ (f.w - f.p) = r % 2 ^ (f.w - 1) / 2 ^ (f.p - 1) := by
  rw [h.sign_weight, Nat.mod_mul_right_div_self, h.exponents]

theorem fraction_field (r : Nat) : r % 2 ^ (f.p - 1) = r % 2 ^ (f.w - 1) % 2 ^ (f.p - 1) := by
  rw [h.sign_weight, Nat.mod_mul_right_mod]

/-- What decodes to a NaN: the magnitudes above infinity. -/
theorem isNan_decode (r : Nat) : (f.decode r).isNan = decide (f.infMag < r % 2 ^ (f.w - 1)) := by
  have hlt : r % 2 ^ (f.w - 1) / 2 ^ (f.p - 1) < 2 * f.emax + 2 :=
    Nat.div_lt_of_lt_mul (by rw [← h.sign_weight]; exact Nat.mod_lt _ (Nat.two_pow_pos _))
  have hsplit := Nat.div_add_mod (r % 2 ^ (f.w - 1)) (2 ^ (f.p - 1))
  rw [FloatFmt.decode, h.exponent_field, h.fraction_field, FloatFmt.infMag, Nat.mul_comm (2 * f.emax + 1)]
  generalize r % 2 ^ (f.w - 1) = m at hlt hsplit ⊢
  by_cases hex : m / 2 ^ (f.p - 1) = 2 * f.emax + 1
  · rw [hex] at hsplit
    rw [if_pos hex]
    split
    · next hz => exact (decide_eq_false (by omega)).symm
    · next hz => exact (decide_eq_true (by omega)).symm
  · have hbelow : m < 2 ^ (f.p - 1) * (2 * f.emax + 1) := by
      rw [Nat.mul_comm]
      exact (Nat.div_lt_iff_lt_mul (Nat.two_pow_pos _)).1 (by omega)
    rw [if_neg hex, decide_eq_false (by omega)]
    split <;> rfl

/-- A number of some sign and a magnitude up to infinity is no NaN. -/
theorem isNan_number (n : Bool) {m : Nat} (hm : m ≤ f.infMag) : (f.decode (f.signBit n + m)).isNan = false := by
  have hmod : (f.signBit n + m) % 2 ^ (f.w - 1) = m := by
    have hlt : m < 2 ^ (f.w - 1) := Nat.lt_of_le_of_lt hm h.infMag_lt
    cases n
    · rw [FloatFmt.signBit, if_neg Bool.false_ne_true, Nat.zero_add, Nat.mod_eq_of_lt hlt]
    · rw [FloatFmt.signBit, if_pos rfl, Nat.add_mod_left, Nat.mod_eq_of_lt hlt]
  rw [h.isNan_decode, hmod, decide_eq_false (Nat.not_lt.2 hm)]

/-- An infinity decodes to itself. -/
theorem decode_infinity (n : Bool) : f.decode (f.infinity n) = .inf n := by
  have htop : (f.infinity n).testBit (f.w - 1) = n := by
    have hlow : Nat.testBit f.infMag (f.w - 1) = false := Nat.testBit_lt_two_pow h.infMag_lt
    rw [FloatFmt.infinity, ← FloatFmt.infMag]
    cases n
    · rw [FloatFmt.signBit, if_neg Bool.false_ne_true, Nat.zero_add, hlow]
    · rw [FloatFmt.signBit, if_pos rfl, Nat.testBit_two_pow_add_eq, hlow]; rfl
  have hmod : f.infinity n % 2 ^ (f.w - 1) = f.infMag := by
    rw [FloatFmt.infinity, ← FloatFmt.infMag]
    cases n
    · rw [FloatFmt.signBit, if_neg Bool.false_ne_true, Nat.zero_add, Nat.mod_eq_of_lt h.infMag_lt]
    · rw [FloatFmt.signBit, if_pos rfl, Nat.add_mod_left, Nat.mod_eq_of_lt h.infMag_lt]
  rw [FloatFmt.decode, h.exponent_field, h.fraction_field, hmod, htop, FloatFmt.infMag, Nat.mul_div_cancel _ (Nat.two_pow_pos _),
    Nat.mul_mod_left, if_pos rfl, if_pos rfl]

end FloatFmt.Std

/-! ## A NaN result is the canonical one (R88) -/

/-- Where the result is a NaN, it is the canonical NaN. -/
def FloatFmt.Canonical (f : FloatFmt) (r : FRes) : Prop := (f.decode r.1).isNan = true → r.1 = f.qnan

namespace FloatFmt.Std

variable (h : f.Std)
include h

theorem canonical_number (n : Bool) {m : Nat} (hm : m ≤ f.infMag) (fl : Nat) : f.Canonical (f.signBit n + m, fl) := by
  intro hnan
  rw [h.isNan_number n hm] at hnan
  exact absurd hnan Bool.false_ne_true

theorem canonical_infinity (n : Bool) (fl : Nat) : f.Canonical (f.infinity n, fl) := h.canonical_number n (Nat.le_refl _) fl

theorem canonical_zero (n : Bool) (fl : Nat) : f.Canonical (f.signBit n, fl) := h.canonical_number n (Nat.zero_le _) fl

omit h in
theorem canonical_qnan (fl : Nat) : f.Canonical (f.qnan, fl) := fun _ => rfl

omit h in
theorem canonical_ite {c : Prop} [Decidable c] {a b : FRes} (ha : f.Canonical a) (hb : f.Canonical b) :
    f.Canonical (if c then a else b) := by
  split
  · exact ha
  · exact hb

/-- The packing of a rounded magnitude: beyond the largest number it overflows. -/
theorem canonical_packed (n toInf : Bool) (bits fl fl' : Nat) :
    f.Canonical (if (2 * f.emax + 1) * 2 ^ (f.p - 1) ≤ bits then (if toInf then f.infinity n else f.largest n, fl)
      else (f.signBit n + bits, fl')) := by
  split
  · cases toInf
    · have hpos : 1 ≤ (2 * f.emax + 1) * 2 ^ (f.p - 1) := Nat.mul_pos (by omega) (Nat.two_pow_pos _)
      rw [if_neg Bool.false_ne_true, FloatFmt.largest, Nat.add_sub_assoc hpos]
      exact h.canonical_number n (Nat.sub_le _ _) fl
    · exact h.canonical_infinity n _
  · next hover => exact h.canonical_number n (Nat.le_of_lt (Nat.not_le.1 hover)) _

/-- Rounding gives a number. -/
theorem canonical_round (rm : Nat) (n : Bool) (m : Nat) (e : Int) : f.Canonical (f.round rm n m e) := by
  unfold FloatFmt.round
  split
  · exact h.canonical_zero n 0
  · exact h.canonical_packed n _ _ _ _

theorem canonical_addV (rm : Nat) (x y : FVal) : f.Canonical (f.addV rm x y) := by
  unfold FloatFmt.addV
  split
  · exact canonical_qnan _
  · exact canonical_qnan _
  · exact canonical_ite (h.canonical_infinity _ _) (canonical_qnan _)
  · exact h.canonical_infinity _ _
  · exact h.canonical_infinity _ _
  · exact canonical_ite (h.canonical_zero _ _) (h.canonical_round _ _ _ _)

theorem canonical_mul (rm a b : Nat) : f.Canonical (f.mul rm a b) := by
  unfold FloatFmt.mul
  split
  · exact canonical_qnan _
  · exact canonical_qnan _
  · exact h.canonical_infinity _ _
  · exact canonical_ite (canonical_qnan _) (h.canonical_infinity _ _)
  · exact canonical_ite (canonical_qnan _) (h.canonical_infinity _ _)
  · exact h.canonical_round _ _ _ _

theorem canonical_div (rm a b : Nat) : f.Canonical (f.div rm a b) := by
  unfold FloatFmt.div
  split
  · exact canonical_qnan _
  · exact canonical_qnan _
  · exact canonical_qnan _
  · exact h.canonical_infinity _ _
  · exact h.canonical_zero _ _
  · exact canonical_ite (canonical_ite (canonical_qnan _) (h.canonical_infinity _ _))
      (canonical_ite (h.canonical_zero _ _) (h.canonical_round _ _ _ _))

theorem canonical_sqrt (rm a : Nat) : f.Canonical (f.sqrt rm a) := by
  unfold FloatFmt.sqrt
  split
  · exact canonical_qnan _
  · exact canonical_ite (canonical_qnan _) (h.canonical_infinity _ _)
  · exact canonical_ite (h.canonical_zero _ _) (canonical_ite (canonical_qnan _) (h.canonical_round _ _ _ _))

theorem canonical_fmaV (rm : Nat) (x y z : FVal) : f.Canonical (f.fmaV rm x y z) := by
  unfold FloatFmt.fmaV
  refine canonical_ite (canonical_ite (canonical_qnan _) (canonical_qnan _)) (canonical_ite (canonical_qnan _) ?_)
  dsimp only
  split
  · exact h.canonical_addV _ _ _
  · exact h.canonical_addV _ _ _

/-- A change of sign leaves the magnitude, and a NaN as it is. -/
theorem canonical_negate {r : FRes} (hr : f.Canonical r) : f.Canonical (f.negate r) := by
  unfold FloatFmt.negate
  split
  · exact hr
  · next hnan =>
    have hmod : (r.1 ^^^ 2 ^ (f.w - 1)) % 2 ^ (f.w - 1) = r.1 % 2 ^ (f.w - 1) := by
      rw [Nat.xor_mod_two_pow, Nat.mod_self, Nat.xor_zero]
    intro h'
    rw [h.isNan_decode, hmod, ← h.isNan_decode] at h'
    exact absurd h' hnan

theorem canonical_fma (rm a b c : Nat) (negRes negAdd : Bool) : f.Canonical (f.fma rm a b c negRes negAdd) := by
  exact canonical_ite (h.canonical_negate (h.canonical_fmaV _ _ _ _)) (h.canonical_fmaV _ _ _ _)

theorem canonical_convert (src : FloatFmt) (rm a : Nat) : f.Canonical (src.convert f rm a) := by
  unfold FloatFmt.convert
  split
  · exact canonical_qnan _
  · exact h.canonical_infinity _ _
  · exact h.canonical_round _ _ _ _

end FloatFmt.Std

/-! ## Infinities -/

theorem FVal.exact_eq_some {x : FVal} {u : Rat} (h : x.exact = some u) :
    ∃ n m e, x = .fin n m e ∧ u = (if n then -1 else 1) * (m : Rat) * (2 : Rat) ^ e := by
  cases x with
  | nan s => exact absurd h (by simp [FVal.exact])
  | inf n => exact absurd h (by simp [FVal.exact])
  | fin n m e => exact ⟨n, m, e, rfl, (Option.some.inj h).symm⟩

section
variable (h : f.Std) {x : Nat} {u : Rat} (hx : (f.decode x).exact = some u) (rm : Nat) (n : Bool)
include h

theorem FloatFmt.Std.sub_infinity : f.sub rm (f.infinity n) (f.infinity n) = (f.qnan, 16) := by
  rw [FloatFmt.sub, h.decode_infinity]
  cases n <;> rfl

include hx

theorem FloatFmt.Std.add_infinity : f.add rm x (f.infinity n) = (f.infinity n, 0) := by
  obtain ⟨k, m, e, hd, -⟩ := FVal.exact_eq_some hx
  rw [FloatFmt.add, hd, h.decode_infinity]
  rfl

theorem FloatFmt.Std.zero_mul_infinity (hu : u = 0) : f.mul rm x (f.infinity n) = (f.qnan, 16) := by
  obtain ⟨k, m, e, hd, hval⟩ := FVal.exact_eq_some hx
  have hm : m = 0 := by
    have hz : (if k then -1 else 1) * (m : Rat) * (2 : Rat) ^ e = 0 := hval ▸ hu
    rw [mul_eq_zero, mul_eq_zero] at hz
    rcases hz with (hz | hz) | hz
    · cases k <;> simp at hz
    · exact_mod_cast hz
    · exact absurd hz (zpow_ne_zero _ (by decide))
  rw [FloatFmt.mul, hd, h.decode_infinity]
  exact if_pos hm

end

/-! ## Order (Table 04-8) -/

/-- A finite value scaled to a lower exponent, as FVal.lt compares them. -/
theorem FVal.scaled_eq (n : Bool) (m : Nat) {e x : Int} (h : e ≤ x) :
    (((if n then -1 else 1) * ((m * 2 ^ (x - e).toNat : Nat) : Int) : Int) : Rat) * (2 : Rat) ^ e =
      (if n then -1 else 1) * (m : Rat) * (2 : Rat) ^ x := by
  have hpow : (2 : Rat) ^ (x - e).toNat * (2 : Rat) ^ e = (2 : Rat) ^ x := by
    rw [← zpow_natCast, ← zpow_add₀ (by norm_num)]
    congr 1
    omega
  cases n <;> push_cast <;> rw [mul_assoc, mul_assoc, hpow] <;> ring

/-- The order of two finite values is that of their exact values. -/
theorem FVal.lt_eq {x y : FVal} {u v : Rat} (hx : x.exact = some u) (hy : y.exact = some v) : x.lt y = decide (u < v) := by
  obtain ⟨n1, m1, e1, rfl, rfl⟩ := FVal.exact_eq_some hx
  obtain ⟨n2, m2, e2, rfl, rfl⟩ := FVal.exact_eq_some hy
  have hpos : (0 : Rat) < 2 ^ min e1 e2 := zpow_pos (by norm_num) _
  rw [FVal.lt, ← FVal.scaled_eq n1 m1 (min_le_left e1 e2), ← FVal.scaled_eq n2 m2 (min_le_right e1 e2)]
  refine decide_eq_decide.2 ?_
  rw [mul_lt_mul_iff_left₀ hpos, Int.cast_lt]

theorem FVal.isNan_of_exact {x : FVal} {u : Rat} (hx : x.exact = some u) : x.isNan = false ∧ x.isSnan = false := by
  obtain ⟨n, m, e, rfl, -⟩ := FVal.exact_eq_some hx
  exact ⟨rfl, rfl⟩

end

/-! ## Minima, maxima and comparisons of finite values -/

section
variable (f : FloatFmt) {a b : Nat}

theorem FloatFmt.minMax_answers (maxi : Bool) :
    (f.minMax maxi a b).1 = a ∨ (f.minMax maxi a b).1 = b ∨ (f.minMax maxi a b).1 = f.qnan := by
  unfold FloatFmt.minMax
  dsimp only
  split
  · exact .inr (.inr rfl)
  split
  · exact .inr (.inl rfl)
  split
  · exact .inl rfl
  · dsimp only
    split
    · exact .inl rfl
    · exact .inr (.inl rfl)

variable {f} {u v : Rat} (hu : (f.decode a).exact = some u) (hv : (f.decode b).exact = some v)
include hu hv

/-- Of two finite operands the lesser, −0 below +0, without a flag. -/
theorem FloatFmt.minMax_finite (maxi : Bool) :
    f.minMax maxi a b =
      (if (decide (u < v) || (!decide (v < u) && (f.decode a).sign && !(f.decode b).sign)) != maxi then a else b, 0) := by
  obtain ⟨hna, hsa⟩ := FVal.isNan_of_exact hu
  obtain ⟨hnb, hsb⟩ := FVal.isNan_of_exact hv
  rw [FloatFmt.minMax, hna, hsa, hnb, hsb, FVal.lt_eq hu hv, FVal.lt_eq hv hu]
  rfl

theorem FloatFmt.minMax_lt (h : u < v) : f.minMax false a b = (a, 0) ∧ f.minMax true a b = (b, 0) := by
  rw [FloatFmt.minMax_finite hu hv, FloatFmt.minMax_finite hu hv, decide_eq_true h]
  exact ⟨rfl, rfl⟩

theorem FloatFmt.minMax_gt (h : v < u) : f.minMax false a b = (b, 0) ∧ f.minMax true a b = (a, 0) := by
  rw [FloatFmt.minMax_finite hu hv, FloatFmt.minMax_finite hu hv, decide_eq_true h, decide_eq_false (lt_asymm h)]
  exact ⟨rfl, rfl⟩

theorem FloatFmt.minMax_zeros (h : u = v) (ha : (f.decode a).sign = true) (hb : (f.decode b).sign = false) :
    f.minMax false a b = (a, 0) ∧ f.minMax true a b = (b, 0) := by
  rw [FloatFmt.minMax_finite hu hv, FloatFmt.minMax_finite hu hv, ha, hb, decide_eq_false (h ▸ lt_irrefl u),
    decide_eq_false (h ▸ lt_irrefl v)]
  exact ⟨rfl, rfl⟩

theorem FloatFmt.compare_finite :
    f.compare 0 a b = ((if u = v then 1 else 0), 0) ∧ f.compare 1 a b = ((if u < v then 1 else 0), 0) ∧
      f.compare 2 a b = ((if u ≤ v then 1 else 0), 0) := by
  obtain ⟨hna, hsa⟩ := FVal.isNan_of_exact hu
  obtain ⟨hnb, hsb⟩ := FVal.isNan_of_exact hv
  simp only [FloatFmt.compare, hna, hnb, FVal.lt_eq hu hv, FVal.lt_eq hv hu, Bool.or_self, Bool.false_eq_true, if_false]
  rcases lt_trichotomy u v with h | h | h
  · simp [h, h.ne, h.le, lt_asymm h, b2n]
  · simp [h, b2n]
  · simp [h, h.ne', lt_asymm h, not_le.2 h, b2n]

end

/-! ## Signs and classes -/

theorem FloatFmt.sign_decode (f : FloatFmt) (b : Nat) : (f.decode b).isNan = false → (f.decode b).sign = b.testBit (f.w - 1) := by
  unfold FloatFmt.decode
  dsimp only
  split
  · split
    · exact fun _ => rfl
    · exact fun h => absurd h (by simp [FVal.isNan])
  · split <;> exact fun _ => rfl

/-- The bit of FCLASS for a value of precision p. -/
def FVal.classBit (p : Nat) : FVal → Nat
  | .nan signalling => if signalling then 8 else 9
  | .inf neg => if neg then 0 else 7
  | .fin neg m _ =>
    if m = 0 then (if neg then 3 else 4) else if m < 2 ^ (p - 1) then (if neg then 2 else 5) else if neg then 1 else 6

theorem FloatFmt.classify_eq (f : FloatFmt) (a : Nat) : f.classify a = 2 ^ (f.decode a).classBit f.p := by
  unfold FloatFmt.classify
  generalize f.decode a = v
  cases v with
  | nan signalling => cases signalling <;> rfl
  | inf neg => cases neg <;> rfl
  | fin neg m e =>
    dsimp only [FVal.classBit]
    split_ifs <;> rfl

/-- The class by the exponent and fraction fields. -/
theorem FloatFmt.classBit_decode (f : FloatFmt) (a : Nat) :
    (f.decode a).classBit f.p =
      if a / 2 ^ (f.p - 1) % 2 ^ (f.w - f.p) = 2 * f.emax + 1 then
        if a % 2 ^ (f.p - 1) = 0 then (if a.testBit (f.w - 1) then 0 else 7) else (if a.testBit (f.p - 2) then 9 else 8)
      else if a / 2 ^ (f.p - 1) % 2 ^ (f.w - f.p) = 0 then
        if a % 2 ^ (f.p - 1) = 0 then (if a.testBit (f.w - 1) then 3 else 4) else (if a.testBit (f.w - 1) then 2 else 5)
      else if a.testBit (f.w - 1) then 1 else 6 := by
  have hlt := Nat.mod_lt a (Nat.two_pow_pos (f.p - 1))
  have hpos := Nat.two_pow_pos (f.p - 1)
  unfold FloatFmt.decode
  dsimp only
  split
  · split
    · rfl
    · cases a.testBit (f.p - 2) <;> rfl
  · split
    · rw [FVal.classBit, if_pos hlt]
    · rw [FVal.classBit, if_neg (by omega), if_neg (by omega)]

/-- Table 04-8's ten classes by exponent, fraction, sign and the quiet bit. -/
theorem class_iff {ex frac ones : Nat} {top quiet : Bool} (hones : 0 < ones) (hex : ex ≤ ones) (hquiet : frac = 0 → quiet = false) :
    let bit : Nat :=
      if ex = ones then if frac = 0 then (if top then 0 else 7) else (if quiet then 9 else 8)
      else if ex = 0 then if frac = 0 then (if top then 3 else 4) else (if top then 2 else 5)
      else if top then 1 else 6
    bit ≤ 9 ∧ (bit = 0 ↔ ex = ones ∧ frac = 0 ∧ top) ∧ (bit = 1 ↔ 0 < ex ∧ ex < ones ∧ top) ∧
      (bit = 2 ↔ ex = 0 ∧ frac ≠ 0 ∧ top) ∧ (bit = 3 ↔ ex = 0 ∧ frac = 0 ∧ top) ∧ (bit = 4 ↔ ex = 0 ∧ frac = 0 ∧ ¬ top) ∧
      (bit = 5 ↔ ex = 0 ∧ frac ≠ 0 ∧ ¬ top) ∧ (bit = 6 ↔ 0 < ex ∧ ex < ones ∧ ¬ top) ∧ (bit = 7 ↔ ex = ones ∧ frac = 0 ∧ ¬ top) ∧
      (bit = 8 ↔ ex = ones ∧ frac ≠ 0 ∧ ¬ quiet) ∧ (bit = 9 ↔ ex = ones ∧ quiet) := by
  intro bit
  rcases Nat.lt_or_eq_of_le hex with hlt | rfl
  · have hne : ex ≠ ones := Nat.ne_of_lt hlt
    rcases Nat.eq_zero_or_pos ex with rfl | hpos
    · by_cases hf : frac = 0 <;> cases top <;> simp [bit, hne, hf]
    · cases top <;> simp [bit, hne, hpos, hpos.ne', hlt]
  · by_cases hf : frac = 0
    · cases top <;> simp [bit, hf, hquiet hf, hones.ne']
    · cases quiet <;> simp [bit, hf, hones.ne']

end Sys2Proof.Machine
end

section
/-!
SUPPORT. The floating-point forms that round nothing (Table 04-8).
-/
namespace Sys2Proof.Machine

theorem extended_fop (x : Core) (dbl : Bool) (r : Fin 32) :
    extended ((fmtOf dbl).w / 8) (x.fop dbl r) true = if dbl then x.fr r else BitVec.ofInt 64 (sgn 32 (x.fr r).toNat) := by
  cases dbl
  · show BitVec.ofInt 64 (sgn 32 ((x.fr r).toNat % 2 ^ 32)) = BitVec.ofInt 64 (sgn 32 (x.fr r).toNat)
    rw [sgn_congr (Nat.mod_mod _ _)]
  · show BitVec.ofInt 64 (sgn 64 ((x.fr r).toNat % 2 ^ 64)) = x.fr r
    have hsgn : sgn 64 ((x.fr r).toNat % 2 ^ 64) = (x.fr r).toInt := by
      rw [sgn, BitVec.toInt]
      split <;> split <;> omega
    rw [hsgn, BitVec.ofInt_toInt]

/-- A NaN's quiet bit lies in its fraction. -/
theorem testBit_of_fraction_zero {a p : Nat} (hp : 2 ≤ p) (h : a % 2 ^ (p - 1) = 0) : a.testBit (p - 2) = false := by
  have hbit := Nat.testBit_mod_two_pow a (p - 1) (p - 2)
  rw [h, Nat.zero_testBit, decide_eq_true (by omega), Bool.true_and] at hbit
  exact hbit.symm

/-- Settles O18: each form by its equation, the bits and values by the formats' fields. -/
theorem floatingBitFormsAndNansAnswer : Obligations.FloatingBitFormsAndNansAnswer := by
  unfold Obligations.FloatingBitFormsAndNansAnswer
  refine ⟨?forms, ?nans, ?infinities⟩
  case forms =>
    intro c rd ra rb dbl rm s h f x a b top signed ex frac ones
    have hstd : f.Std := fmtOf_std dbl
    refine ⟨?sgnj, ?sgnjn, ?sgnjx, ?fclass, ?fmvIF, ?fmvFI, ?minMax, ?compare⟩
    case sgnj =>
      exact IsFp.computesF (r := fun _ x => (f.signInject 0 (x.fop dbl ra) (x.fop dbl rb), 0)) ⟨_, fun _ => rfl⟩ h rfl
    case sgnjn =>
      exact IsFp.computesF (r := fun _ x => (f.signInject 1 (x.fop dbl ra) (x.fop dbl rb), 0)) ⟨_, fun _ => rfl⟩ h rfl
    case sgnjx =>
      exact IsFp.computesF (r := fun _ x => (f.signInject 2 (x.fop dbl ra) (x.fop dbl rb), 0)) ⟨_, fun _ => rfl⟩ h rfl
    case fclass =>
      have hones : ones = 2 * f.emax + 1 := by
        have := hstd.exponents
        omega
      have hex : ex ≤ ones := Nat.le_sub_one_of_lt (Nat.mod_lt _ (Nat.two_pow_pos _))
      have hbit := f.classBit_decode a
      rw [← hones] at hbit
      refine ⟨(f.decode a).classBit f.p,
        IsFp.computesGF (r := fun _ x => (f.classify (x.fop dbl ra), 0)) ⟨_, fun _ => rfl⟩ h (by rw [f.classify_eq]; rfl), ?_⟩
      rw [hbit]
      exact class_iff (by omega) hex (testBit_of_fraction_zero hstd.fraction)
    case fmvIF =>
      have hi : IsFp (.fmvIF c rd ra dbl rm) c rm fun _ x => x.setG rd (extended (f.w / 8) (x.fop dbl ra) true) := ⟨_, fun _ => rfl⟩
      rw [Computes, hi.acts h]
      simp only [extended_fop, f]
    case fmvFI =>
      have hi : IsFp (.fmvFI c rd ra dbl rm) c rm fun _ x => x.setF rd (BitVec.ofNat 64 ((x.gr ra).toNat % 2 ^ f.w)) :=
        ⟨_, fun _ => rfl⟩
      exact hi.acts h
    case minMax =>
      refine ⟨f.minMax false a b, f.minMax true a b,
        IsFp.computesF (r := fun _ x => f.minMax false (x.fop dbl ra) (x.fop dbl rb)) ⟨_, fun _ => rfl⟩ h rfl,
        IsFp.computesF (r := fun _ x => f.minMax true (x.fop dbl ra) (x.fop dbl rb)) ⟨_, fun _ => rfl⟩ h rfl,
        f.minMax_answers false, f.minMax_answers true, fun u v hu hv => ⟨FloatFmt.minMax_lt hu hv, FloatFmt.minMax_gt hu hv, ?_⟩⟩
      intro heq ha hb
      refine FloatFmt.minMax_zeros hu hv heq ?_ ?_
      · exact (f.sign_decode a (FVal.isNan_of_exact hu).1).trans ha
      · exact (f.sign_decode b (FVal.isNan_of_exact hv).1).trans (Bool.not_eq_true _ ▸ hb)
    case compare =>
      exact ⟨f.compare 0 a b, f.compare 1 a b, f.compare 2 a b,
        IsFp.computesGF (r := fun _ x => f.compare 0 (x.fop dbl ra) (x.fop dbl rb)) ⟨_, fun _ => rfl⟩ h rfl,
        IsFp.computesGF (r := fun _ x => f.compare 1 (x.fop dbl ra) (x.fop dbl rb)) ⟨_, fun _ => rfl⟩ h rfl,
        IsFp.computesGF (r := fun _ x => f.compare 2 (x.fop dbl ra) (x.fop dbl rb)) ⟨_, fun _ => rfl⟩ h rfl,
        fun u v hu hv => FloatFmt.compare_finite hu hv⟩
  case nans =>
    intro dbl rm a b c m n f canon ok
    have hstd : f.Std := fmtOf_std dbl
    have hcanon : canon = f.qnan := by cases dbl <;> simp [canon, f, fmtOf, f32, f64, FloatFmt.qnan]
    have hok (r : FRes) (hr : f.Canonical r) : ok r := fun hnan => hcanon ▸ hr hnan
    exact ⟨hok _ (hstd.canonical_addV _ _ _), hok _ (hstd.canonical_addV _ _ _), hok _ (hstd.canonical_mul _ _ _),
      hok _ (hstd.canonical_div _ _ _), hok _ (hstd.canonical_sqrt _ _), hok _ (hstd.canonical_fma _ _ _ _ _ _),
      hok _ (hstd.canonical_convert _ _ _)⟩
  case infinities =>
    intro dbl rm x u n f hx
    have hstd : f.Std := fmtOf_std dbl
    exact ⟨hstd.add_infinity hx rm n, hstd.sub_infinity rm n, hstd.zero_mul_infinity hx rm n⟩

end Sys2Proof.Machine
end

section
/-!
SUPPORT. Memory as the cores see it: bytes and numbers, stores and the reservations they break (R87), accesses to plain memory, whose
words may be mended on the way (R275), and the local memories (R76).
-/
namespace Sys2Proof.Machine

/-! ## Bytes of numbers (R10) -/

theorem length_leBytes (n v : Nat) : (leBytes n v).length = n := by
  induction n generalizing v with
  | zero => rfl
  | succ n ih => simp [leBytes, ih]

theorem getElem_leBytes {n i : Nat} (v : Nat) (h : i < (leBytes n v).length) : (leBytes n v)[i] = BitVec.ofNat 8 (v / 256 ^ i) := by
  induction n generalizing v i with
  | zero => exact absurd h (Nat.not_lt_zero i)
  | succ n ih =>
    cases i with
    | zero => simp [leBytes]
    | succ i =>
      have hi : i < (leBytes n (v / 256)).length := Nat.lt_of_succ_lt_succ h
      rw [show (leBytes (n + 1) v)[i + 1] = (leBytes n (v / 256))[i] from rfl, ih _ hi, Nat.div_div_eq_div_mul, Nat.pow_succ']

theorem leNat_lt (l : List Byte) : leNat l < 256 ^ l.length := by
  induction l with
  | nil => exact Nat.one_pos
  | cons b l ih =>
    have := b.isLt
    rw [leNat, List.length_cons, Nat.pow_succ]
    omega

/-- Byte i of the low n bytes of a number is the number's own. -/
theorem byte_of_low {n i : Nat} (v : Nat) (h : i < n) : BitVec.ofNat 8 (v % 256 ^ n / 256 ^ i) = BitVec.ofNat 8 (v / 256 ^ i) := by
  refine BitVec.eq_of_toNat_eq ?_
  rw [BitVec.toNat_ofNat, BitVec.toNat_ofNat]
  have hsplit : 256 ^ n = 256 ^ i * 256 ^ (n - i) := by rw [← Nat.pow_add, Nat.add_sub_cancel' h.le]
  have hdvd : 2 ^ 8 ∣ 256 ^ (n - i) := dvd_pow_self 256 (by omega)
  rw [hsplit, Nat.mod_mul_right_div_self, Nat.mod_mod_of_dvd _ hdvd]

/-- A value of n bytes enters a register extended from its top bit or by zeros. -/
theorem extended_eq_loaded {n v : Nat} (hv : v < 256 ^ n) (signed : Bool) : extended n v signed = loaded n v signed := by
  have hpow : 256 ^ n = 2 ^ (8 * n) := by rw [Nat.pow_mul]
  rw [hpow] at hv
  cases signed
  · simp [extended, loaded, Nat.mod_eq_of_lt hv]
  · rw [extended, loaded, if_pos rfl, sgn, Nat.mod_eq_of_lt hv]
    by_cases htop : 2 ^ (8 * n - 1) ≤ v
    · rw [if_neg (Nat.not_lt.2 htop), if_pos ⟨rfl, htop⟩]
      push_cast
      rfl
    · rw [if_pos (Nat.lt_of_not_le htop), if_neg (fun h => htop h.2), BitVec.ofInt_natCast]

/-! ## Stores and reservations (R87) -/

/-- What a store by a requester does to core d. -/
def Core.afterStore (x : Core) (writer a n d : Nat) : Core :=
  if d ≠ writer ∧ (d ≠ 23 ∨ isMbox a) ∧ x.reserves a n then { x with resv := none } else x

/-- The store's effect on core d, as one step of State.breakResv. -/
def State.breakAt (s : State) (writer a n d : Nat) : State :=
  if d ≠ writer ∧ (d ≠ 23 ∨ isMbox a) ∧ (s.core d).reserves a n then s.setCore d { s.core d with resv := none } else s

theorem State.breakAt_core (s : State) (writer a n c d : Nat) :
    (s.breakAt writer a n c).core d = if d = c then (s.core d).afterStore writer a n d else s.core d := by
  unfold State.breakAt Core.afterStore
  by_cases hd : d = c
  · subst hd
    rw [if_pos rfl]
    split
    · exact State.core_setCore_same ..
    · rfl
  · rw [if_neg hd]
    split
    · rw [State.core_setCore, if_neg hd]
    · rfl

theorem State.breakAt_mem (s : State) (writer a n c : Nat) : (s.breakAt writer a n c).mem = s.mem := by
  unfold State.breakAt
  split <;> rfl

/-- The first k cores have met the store; nothing else has changed. -/
theorem State.foldl_breakAt (s : State) (writer a n k : Nat) :
    let t := (List.range k).foldl (fun (s : State) c => s.breakAt writer a n c) s
    t.mem = s.mem ∧ ∀ d, t.core d = if d < k then (s.core d).afterStore writer a n d else s.core d := by
  induction k with
  | zero => exact ⟨rfl, fun _ => rfl⟩
  | succ k ih =>
    obtain ⟨hmem, hcore⟩ := ih
    dsimp only
    rw [List.range_succ, List.foldl_append, List.foldl_cons, List.foldl_nil]
    refine ⟨(State.breakAt_mem ..).trans hmem, fun d => ?_⟩
    rw [State.breakAt_core, hcore]
    rcases Nat.lt_trichotomy d k with h | h | h
    · rw [if_neg h.ne, if_pos h, if_pos (Nat.lt_succ_of_lt h)]
    · rw [if_pos h, if_neg (by omega), if_pos (by omega)]
    · rw [if_neg h.ne', if_neg (by omega), if_neg (by omega)]

theorem State.breakResv_mem (s : State) (writer a n : Nat) : (s.breakResv writer a n).mem = s.mem :=
  (s.foldl_breakAt writer a n 24).1

theorem State.core_breakResv (s : State) (writer a n d : Nat) :
    (s.breakResv writer a n).core d = if d < 24 then (s.core d).afterStore writer a n d else s.core d :=
  (s.foldl_breakAt writer a n 24).2 d

theorem Core.afterStore_writer (x : Core) (a n d : Nat) : x.afterStore d a n d = x := if_neg fun h => h.1 rfl

theorem State.core_setBytes (s : State) (a c : Nat) (bs : List Byte) : (s.setBytes a bs).core c = s.core c := by
  induction bs generalizing s a with
  | nil => rfl
  | cons b bs ih => exact (ih (s.setByte a b) (a + 1)).trans rfl

/-- A store leaves its own core alone. -/
theorem State.core_store_own (s : State) (c a : Nat) (bs : List Byte) : (s.store c a bs).core c = s.core c := by
  rw [State.store, State.core_breakResv, Core.afterStore_writer, State.core_setBytes, ite_self]

/-- What a store makes of a reservation. -/
theorem State.resv_store (s : State) (writer a : Nat) (bs : List Byte) {c g n : Nat} (hc : c < 24) (hresv : (s.core c).resv = some (g, n)) :
    ((s.store writer a bs).core c).resv =
      if c ≠ writer ∧ (c ≠ 23 ∨ isMbox a) ∧ 64 * g < a + bs.length ∧ a < 64 * g + 64 then none else some (g, n) := by
  have hreserves : (s.core c).reserves a bs.length = true ↔ 64 * g < a + bs.length ∧ a < 64 * g + 64 := by
    rw [Core.reserves, hresv, Bool.and_eq_true, decide_eq_true_eq, decide_eq_true_eq, Nat.mul_comm]
  rw [State.store, State.core_breakResv, if_pos hc, State.core_setBytes, Core.afterStore]
  simp only [hreserves]
  split
  · rfl
  · exact hresv

theorem State.byte_store (s : State) (writer a : Nat) (bs : List Byte) (b : Nat) :
    (s.store writer a bs).byte b = (s.setBytes a bs).byte b := by
  rw [State.byte, State.byte, State.store, State.breakResv_mem]

/-- A store of the low n bytes of a number puts them in place and no other byte. -/
theorem State.stored_store {z s : State} (h : ∀ b, s.byte b = z.byte b) (writer a n v : Nat) :
    z.Stored (s.store writer a (leBytes n v)) a n v := by
  intro b
  rw [State.byte_store]
  split
  · next hin =>
    have hlt : b - a < (leBytes n v).length := by rw [length_leBytes]; omega
    rw [show b = a + (b - a) by omega, State.byte_setBytes_in _ _ _ _ hlt, getElem_leBytes, Nat.add_sub_cancel_left]
  · next hout => rw [State.byte_setBytes_other _ _ _ _ (by rw [length_leBytes]; omega), h b]

end Sys2Proof.Machine
end

section
/-!
SUPPORT. Accesses of the control and work cores to plain memory: DRAM and the scratchpad (R43, R83, R275, R292).
-/
namespace Sys2Proof.Machine

/-! ## Places -/

/-- DRAM or the scratchpad. -/
def isPlain (a : Nat) : Prop := isDram a = true ∨ isSpad a = true

theorem isPlain.range {a : Nat} (h : isPlain a) : a < 0x200000000 ∨ (0x4000000000 ≤ a ∧ a < 0x4000800000) := by
  simpa [isPlain, isDram, isSpad] using h

/-- Plain memory is no mailbox, no register and no alias window. -/
theorem isPlain.others {a : Nat} (h : isPlain a) :
    isMbox a = false ∧ isReg a = false ∧ isBitSet a = false ∧ isBitClear a = false := by
  have hr := h.range
  have hbase : regBase = 0x8000000000 := rfl
  simp only [isMbox, isReg, isBitSet, isBitClear, Bool.and_eq_false_iff, decide_eq_false_iff_not]
  omega

theorem isPlain.aliasOf_eq {a : Nat} (h : isPlain a) : aliasOf a = a := by
  obtain ⟨-, -, hset, hclear⟩ := h.others
  simp [aliasOf, hset, hclear]

theorem isPlain.storeValue_eq {a : Nat} (h : isPlain a) (old v : Nat) : storeValue a old v = v := by
  obtain ⟨-, -, hset, hclear⟩ := h.others
  simp [storeValue, hset, hclear]

theorem isPlain.locate_eq {a : Nat} (h : isPlain a) : locate a = none := by
  have hr := h.range
  exact if_pos (.inl (by unfold regBase; omega))

/-! ## Loads and stores of plain memory -/

/-- State s holds the bytes of z, and none of bytes pa to pa + n − 1 is shut. -/
structure State.Holds (z s : State) (pa n : Nat) : Prop where
  byte : ∀ b, s.byte b = z.byte b
  shut : ∀ i, i < n → s.shut (pa + i) = false

section
variable {z s t : State} {pa n : Nat}

theorem State.Holds.ecc (h : z.Holds s pa n) (e : s.EccOnly t) : z.Holds t pa n where
  byte b := (e.byte b).trans (h.byte b)
  shut i hi := e.shut (h.shut i hi)

theorem State.Holds.stored (h : z.Holds s pa n) (m a : Nat) : s.stored a m = z.stored a m := by
  induction m generalizing a with
  | zero => rfl
  | succ m ih => rw [State.stored, State.stored, h.byte, ih]

/-- A read of bytes that are not shut gets what lies there. -/
theorem State.bytes_eq_stored {s : State} {pa n : Nat} (h : ∀ i, i < n → s.shut (pa + i) = false) : s.bytes pa n = s.stored pa n := by
  induction n generalizing pa with
  | zero => rfl
  | succ n ih =>
    have hrest : ∀ i, i < n → s.shut (pa + 1 + i) = false := fun i hi => by
      rw [Nat.add_right_comm]
      exact h (i + 1) (by omega)
    have hfirst : s.shut pa = false := h 0 (Nat.succ_pos n)
    rw [State.bytes, State.stored, ih hrest, State.readByte, hfirst]
    rfl

theorem State.Holds.rdLe (h : z.Holds s pa n) : s.rdLe pa n = leNat (z.stored pa n) := by
  rw [State.rdLe, State.bytes_eq_stored h.shut, h.stored]

/-- A word that is not shut lies outside the codes, and its check lets the access go on. -/
theorem State.checkWord_open {s : State} {a : Nat} (h : s.shut a = false) : s.inCodes a = false ∧ (s.checkWord a).2 = true := by
  simp only [State.shut, Bool.or_eq_false_iff, Bool.and_eq_false_iff, decide_eq_false_iff_not] at h
  obtain ⟨⟨hcodes, -⟩, hword⟩ := h
  refine ⟨hcodes, ?_⟩
  unfold State.checkWord
  split_ifs with hcoded h0 h1
  · rfl
  · rfl
  · rfl
  · rcases hword with hw | hw
    · exact absurd hw (by simpa using hcoded)
    · omega

theorem State.Holds.checkWord (h : z.Holds s pa n) (hn : 0 < n) :
    s.inCodes pa = false ∧ ∃ t, s.checkWord pa = (t, true) ∧ s.EccOnly t := by
  obtain ⟨hcodes, hok⟩ := State.checkWord_open (h.shut 0 hn)
  exact ⟨hcodes, _, Prod.ext rfl hok, (State.EccOnly.refl s).checkWord pa⟩

theorem State.Holds.memLoad (h : z.Holds s pa n) (hn : 0 < n) (hp : isPlain pa) :
    ∃ t, s.memLoad pa n = (t, some (leNat (z.stored pa n))) ∧ s.EccOnly t := by
  obtain ⟨hcodes, t, ht, hecc⟩ := h.checkWord hn
  refine ⟨t, ?_, hecc⟩
  rw [State.memLoad, hp.aliasOf_eq]
  simp only [hcodes, Bool.false_eq_true, if_false, ht, (h.ecc hecc).rdLe]

/-- Two numbers with the same low n bytes store the same. -/
theorem State.Stored.congr {v w : Nat} (h : z.Stored t pa n v)
    (hvw : ∀ i, i < n → BitVec.ofNat 8 (v / 256 ^ i) = BitVec.ofNat 8 (w / 256 ^ i)) : z.Stored t pa n w := by
  intro b
  rw [h b]
  split
  · exact hvw (b - pa) (by omega)
  · rfl

theorem State.Holds.memStore (h : z.Holds s pa n) (hn : 0 < n) (hp : isPlain pa) (c v : Nat) :
    ∃ t, s.memStore c pa n v = (t, true) ∧ z.Stored t pa n v ∧ t.core c = s.core c := by
  obtain ⟨hcodes, t, ht, hecc⟩ := h.checkWord hn
  rw [State.memStore, hp.aliasOf_eq]
  simp only [hcodes, Bool.false_eq_true, if_false, ht, and_true, hp.storeValue_eq]
  split
  · exact ⟨_, rfl, State.stored_store (fun b => (((State.EccOnly.refl s).setWrong pa).byte b).trans (h.byte b)) _ _ _ _,
      (State.core_store_own ..).trans (((State.EccOnly.refl s).setWrong pa).core c)⟩
  · exact ⟨_, rfl, (State.stored_store (h.ecc hecc).byte _ _ _ _).congr fun i hi => byte_of_low v hi,
      (State.core_store_own ..).trans (hecc.core c)⟩

theorem localMem_of_le {c : Nat} (hc : c ≤ 19) (a : Nat) : localMem c a = false := by
  simp only [localMem, Bool.or_eq_false_iff, Bool.and_eq_false_iff, decide_eq_false_iff_not, beq_eq_false_iff_ne]
  omega

theorem State.Holds.readMem (h : z.Holds s pa n) (hn : 0 < n) (hp : isPlain pa) {c : Nat} (hc : c ≤ 19) :
    ∃ t, s.readMem c pa n = (t, some (leNat (z.stored pa n))) ∧ s.EccOnly t := by
  rw [State.readMem, localMem_of_le hc, if_neg Bool.false_ne_true]
  exact h.memLoad hn hp

theorem State.Holds.writeMem (h : z.Holds s pa n) (hn : 0 < n) (hp : isPlain pa) {c : Nat} (hc : c ≤ 19) (v : Nat) :
    ∃ t, s.writeMem c pa n v = (t, true) ∧ z.Stored t pa n v ∧ t.core c = s.core c := by
  obtain ⟨t, ht, hstored, hcore⟩ := h.memStore hn hp c v
  refine ⟨t, ?_, hstored, hcore⟩
  rw [State.writeMem, localMem_of_le hc, if_neg Bool.false_ne_true, ht, hp.others.1]
  rfl

end

end Sys2Proof.Machine
end

section
/-!
SUPPORT. The access of a control or work core to plain memory from its virtual address to its end (R83, R86, R100).
-/
namespace Sys2Proof.Machine

/-- An access that is let go on, at memory: atomic or not. -/
def State.served (s : State) (x : Stalled) : State × BusEnd := if x.use.kind = .atomic then s.atomicRun x else s.memAccess x

theorem State.perform_plain {s t : State} {x : Stalled} {v : Nat} (hc : x.req ≤ 19) (hp : isPlain x.addr)
    (hj : s.judge x.req x.addr x.size = .go) (hs : (s.touchDomain (domainOf x.addr)).served x = (t, .ok v)) :
    s.perform x = (t, .ok v) := by
  obtain ⟨-, hreg, hset, hclear⟩ := hp.others
  unfold State.served at hs
  unfold State.perform
  simp only [localMem_of_le hc, Bool.false_eq_true, if_false, hreg, hset, hclear, or_self, hj, Bool.and_false, beq_iff_eq]
  split at hs
  · next hk => simp only [hk, if_true, hs]
  · next hk =>
    have hbehind : s.behind x = false := by rw [State.behind, hp.locate_eq]
    simp only [hk, if_false, State.access, hbehind, Bool.false_eq_true, hj, hp.locate_eq, hs]

/-- A translation kept changes nothing that the judgement of an access looks at. -/
theorem State.cacheLeaf_judge (s : State) (c : Nat) (leaf : Option TlbEntry) (req a n : Nat) :
    (s.cacheLeaf c leaf).judge req a n = s.judge req a n := by
  cases leaf <;> rfl

theorem State.cacheLeaf_shut (s : State) (c : Nat) (leaf : Option TlbEntry) (a : Nat) : (s.cacheLeaf c leaf).shut a = s.shut a := by
  cases leaf <;> rfl

section
variable {z : State} {c : Fin 24} {pa : Nat} {x : Stalled}

/-- The access to plain memory is served in a state that holds what z does, and its core goes on with what it answers. -/
theorem State.Plain.runAccess (hp : z.Plain c x.use.kind x.virt pa x.size) (hreq : x.req = c) :
    ∃ s, z.Holds s pa x.size ∧ (z.core c).SameButTlb (s.core c) ∧
      ∀ t v, s.served { x with addr := pa } = (t, .ok v) → z.runAccess x = t.finish x v := by
  obtain ⟨normal, leaf, htrans⟩ := hp.trans
  have hecc : z.EccOnly (z.walkSeen c x.virt) := (State.EccOnly.refl z).walkSeen c x.virt
  have hcore := (z.walkSeen c x.virt).core_cacheLeaf c c leaf
  rw [hecc.core] at hcore
  refine ⟨((z.walkSeen c x.virt).cacheLeaf c leaf).touchDomain (domainOf pa), ⟨fun b => ?byte, fun i hi => ?shut⟩, hcore, ?run⟩
  case byte =>
    show ((z.walkSeen c x.virt).cacheLeaf c leaf).byte b = z.byte b
    rw [State.byte, State.cacheLeaf_mem, ← State.byte, hecc.byte]
  case shut =>
    show ((z.walkSeen c x.virt).cacheLeaf c leaf).shut (pa + i) = false
    rw [State.cacheLeaf_shut]
    exact hecc.shut (hp.sound i hi)
  case run =>
    intro t v hserved
    have hgo : ((z.walkSeen c x.virt).cacheLeaf c leaf).judge x.req pa x.size = .go := by
      rw [State.cacheLeaf_judge, hecc.judge, hreq, hp.go]
    have hperform := State.perform_plain (x := { x with addr := pa }) (hreq ▸ hp.core) hp.place hgo hserved
    unfold State.runAccess
    simp only [hreq] at hperform
    simp only [hreq, htrans, hperform]

theorem State.memory_aligned (z : State) {size va : Nat} (h : va % size = 0) (use : AccessUse) (write : Option Nat) (arg : Nat) :
    z.memory c size va use write arg = z.runAccess ⟨c, va, size, write, arg, use, va⟩ := if_neg (not_not.2 h)

end

/-! ## Cores after an access -/

/-- The registers that an instruction's effect is told by are those of x. -/
structure Core.SameRegs (x y : Core) : Prop where
  pc     : y.pc = x.pc
  g      : y.g = x.g
  f      : y.f = x.f
  fcsr   : y.fcsr = x.fcsr
  status : y.status = x.status
  sup    : y.sup = x.sup

theorem Core.SameButTlb.regs {x y : Core} (h : x.SameButTlb y) : x.SameRegs y ∧ y.resv = x.resv := by
  obtain ⟨l, rfl⟩ := h
  exact ⟨⟨rfl, rfl, rfl, rfl, rfl, rfl⟩, rfl⟩

section
variable {x y : Core} (h : x.SameRegs y) (c : Nat)
include h

theorem Core.SameRegs.gr (r : Nat) : y.gr r = x.gr r := by rw [Core.gr, Core.gr, h.g]

theorem Core.SameRegs.fr (r : Nat) : y.fr r = x.fr r := by rw [Core.fr, Core.fr, h.f]

theorem Core.SameRegs.wroteG (rd : Fin 32) (v : DWord) : x.WroteG ((y.setG rd v).next c) rd v := by
  have hset (r : Fin 32) : ((y.setG rd v).next c).gr r = if r.val = rd.val ∧ rd.val ≠ 0 then v else x.gr r :=
    (y.gr_setG rd r v).trans (by rw [h.gr])
  have hrest : y.SameRegs { y.setG rd v with g := y.g } := by
    unfold Core.setG
    split <;> exact ⟨rfl, rfl, rfl, rfl, rfl, rfl⟩
  refine ⟨congrArg (· + 4) (hrest.pc.trans h.pc), fun hrd => ?same, fun r hr => ?other,
    fun r => (congrArg (SMap.get (fun _ => 0) · r.val) hrest.f).trans (h.fr r), hrest.fcsr.trans h.fcsr, hrest.status.trans h.status,
    hrest.sup.trans h.sup⟩
  case same => rw [hset, if_pos ⟨rfl, fun e => hrd (Fin.ext e)⟩]
  case other => rw [hset, if_neg fun e => hr (Fin.ext e.1)]

theorem Core.SameRegs.wroteF (fd : Fin 32) (v : DWord) : x.WroteF ((y.setF fd v).next c) fd v := by
  have hset (r : Fin 32) : ((y.setF fd v).next c).fr r = if r.val = fd.val then v else x.fr r :=
    (y.fr_setF fd r v).trans (by rw [h.fr])
  refine ⟨congrArg (· + 4) h.pc, ?same, fun r hr => ?other, (h.gr ·), h.fcsr, h.status, h.sup⟩
  case same => rw [hset, if_pos rfl]
  case other => rw [hset, if_neg fun e => hr (Fin.ext e)]

theorem Core.SameRegs.wroteNone : x.WroteNone (y.next c) := by
  exact ⟨congrArg (· + 4) h.pc, (h.gr ·), (h.fr ·), h.fcsr, h.status, h.sup⟩

end

end Sys2Proof.Machine
end

section
/-!
SUPPORT. The loads, stores and atomic operations of Tables 04-5 and 04-7 on plain memory.
-/
namespace Sys2Proof.Machine

theorem length_stored (s : State) (a n : Nat) : (s.stored a n).length = n := by
  induction n generalizing a with
  | zero => rfl
  | succ n ih => rw [State.stored, List.length_cons, ih]

theorem leNat_stored_lt (s : State) (a n : Nat) : leNat (s.stored a n) < 256 ^ n := by
  have h := leNat_lt (s.stored a n)
  rwa [length_stored] at h

theorem pow_256 (n : Nat) : 256 ^ n = 2 ^ (8 * n) := by rw [Nat.pow_mul]

theorem State.stored_begun {s t : State} {c : Fin 24} {pa n v : Nat} (h : (s.begun c).Stored t pa n v) : s.Stored t pa n v := by
  intro b
  rw [h b, State.byte_begun]

/-! ## The access of each kind -/

section
variable {z : State} {c : Fin 24} {va pa n : Nat} {use : AccessUse}

/-- A load of plain memory. -/
theorem State.Plain.loads (hp : z.Plain c .load va pa n) (hn : 0 < n) (hva : va % n = 0) (hk : use.kind = .load) :
    ∃ t : State, (∀ b, t.byte b = z.byte b) ∧ (z.core c).SameButTlb (t.core c) ∧
      z.memory c n va use none 0 = t.finish ⟨c, va, n, none, 0, use, va⟩ (leNat (z.stored pa n)) := by
  obtain ⟨s, hholds, hcore, hrun⟩ := State.Plain.runAccess (x := ⟨c, va, n, none, 0, use, va⟩) (hk ▸ hp) rfl
  obtain ⟨t, hload, hecc⟩ := hholds.memLoad hn hp.place
  refine ⟨t, (hholds.ecc hecc).byte, hecc.core c ▸ hcore, (z.memory_aligned hva ..).trans (hrun t _ ?_)⟩
  have hload : s.memLoad pa n = (t, some (leNat (z.stored pa n))) := hload
  rw [State.served, if_neg (by simp [hk]), State.memAccess]
  simp only [hload]

/-- A store to plain memory. -/
theorem State.Plain.stores (hp : z.Plain c .store va pa n) (hn : 0 < n) (hva : va % n = 0) (hk : use.kind = .store) (v : Nat) :
    ∃ t : State, z.Stored t pa n v ∧ (z.core c).SameButTlb (t.core c) ∧
      z.memory c n va use (some v) 0 = t.finish ⟨c, va, n, some v, 0, use, va⟩ 0 := by
  obtain ⟨s, hholds, hcore, hrun⟩ := State.Plain.runAccess (x := ⟨c, va, n, some v, 0, use, va⟩) (hk ▸ hp) rfl
  obtain ⟨t, hstore, hstored, hkept⟩ := hholds.memStore hn hp.place c v
  refine ⟨t, hstored, hkept ▸ hcore, (z.memory_aligned hva ..).trans (hrun t _ ?_)⟩
  have hplace : isPlain pa := hp.place
  have hstore : s.memStore c pa n v = (t, true) := hstore
  rw [State.served, if_neg (by simp [hk]), State.memAccess]
  simp only [hstore, hplace.others.1, if_true, Bool.false_eq_true, if_false]

/-- LR of plain memory. -/
theorem State.Plain.reserves (hp : z.Plain c .atomic va pa n) (hn : 0 < n) (hva : va % n = 0) (rd : Nat) :
    ∃ t : State, (∀ b, t.byte b = z.byte b) ∧ (z.core c).SameRegs (t.core c) ∧ (t.core c).resv = some (pa / 64, n) ∧
      z.memory c n va (.lr rd) none 0 = t.finish ⟨c, va, n, none, 0, .lr rd, va⟩ (leNat (z.stored pa n)) := by
  obtain ⟨s, hholds, hcore, hrun⟩ := State.Plain.runAccess (x := ⟨c, va, n, none, 0, .lr rd, va⟩) hp rfl
  obtain ⟨t, hload, hecc⟩ := hholds.readMem hn hp.place hp.core
  rw [← hecc.core] at hcore
  have hload : s.readMem c pa n = (t, some (leNat (z.stored pa n))) := hload
  refine ⟨t.setCore c { t.core c with resv := some (pa / 64, n) }, (hholds.ecc hecc).byte, ?_, ?_,
    (z.memory_aligned hva ..).trans (hrun _ _ ?_)⟩
  · rw [State.core_setCore_same]
    obtain ⟨hregs, -⟩ := hcore.regs
    exact ⟨hregs.pc, hregs.g, hregs.f, hregs.fcsr, hregs.status, hregs.sup⟩
  · rw [State.core_setCore_same]
  · show s.atomicRun ⟨c, pa, n, none, 0, .lr rd, va⟩ = _
    rw [State.atomicRun]
    simp only [hload]

/-- SC in its granule at its width. -/
theorem State.Plain.succeeds (hp : z.Plain c .atomic va pa n) (hn : 0 < n) (hva : va % n = 0) (rd y arg : Nat)
    (hr : (z.core c).resv = some (pa / 64, n)) :
    ∃ t : State, z.Stored t pa n y ∧ (z.core c).SameRegs (t.core c) ∧ (t.core c).resv = none ∧
      z.memory c n va (.sc rd) (some y) arg = t.finish ⟨c, va, n, some y, arg, .sc rd, va⟩ 0 := by
  obtain ⟨s, hholds, hcore, hrun⟩ := State.Plain.runAccess (x := ⟨c, va, n, some y, arg, .sc rd, va⟩) hp rfl
  obtain ⟨hregs, hresv⟩ := hcore.regs
  have hfree : z.Holds (s.setCore c { s.core c with resv := none }) pa n := ⟨hholds.byte, hholds.shut⟩
  obtain ⟨t, hstore, hstored, hkept⟩ := hfree.writeMem hn hp.place hp.core y
  rw [State.core_setCore_same] at hkept
  refine ⟨t, hstored, ?_, by rw [hkept], (z.memory_aligned hva ..).trans (hrun t _ ?_)⟩
  · rw [hkept]
    exact ⟨hregs.pc, hregs.g, hregs.f, hregs.fcsr, hregs.status, hregs.sup⟩
  · show s.atomicRun ⟨c, pa, n, some y, arg, .sc rd, va⟩ = _
    rw [State.atomicRun]
    simp only [hresv, hr, if_true, hstore]

/-- SC elsewhere. -/
theorem State.Plain.misses (hp : z.Plain c .atomic va pa n) (hva : va % n = 0) (rd y arg : Nat)
    (hr : (z.core c).resv ≠ some (pa / 64, n)) :
    ∃ t : State, (∀ b, t.byte b = z.byte b) ∧ (z.core c).SameRegs (t.core c) ∧ (t.core c).resv = none ∧
      z.memory c n va (.sc rd) (some y) arg = t.finish ⟨c, va, n, some y, arg, .sc rd, va⟩ 1 := by
  obtain ⟨s, hholds, hcore, hrun⟩ := State.Plain.runAccess (x := ⟨c, va, n, some y, arg, .sc rd, va⟩) hp rfl
  obtain ⟨hregs, hresv⟩ := hcore.regs
  refine ⟨s.setCore c { s.core c with resv := none }, hholds.byte, ?_, by rw [State.core_setCore_same],
    (z.memory_aligned hva ..).trans (hrun _ _ ?_)⟩
  · rw [State.core_setCore_same]
    exact ⟨hregs.pc, hregs.g, hregs.f, hregs.fcsr, hregs.status, hregs.sup⟩
  · show s.atomicRun ⟨c, pa, n, some y, arg, .sc rd, va⟩ = _
    rw [State.atomicRun]
    simp only [hresv, hr, if_false]

/-- An atomic operation with an operand. -/
theorem State.Plain.exchanges (hp : z.Plain c .atomic va pa n) (hn : 0 < n) (hva : va % n = 0) (op rd y arg : Nat) :
    ∃ t : State, z.Stored t pa n (atomicValue op (8 * n) (leNat (z.stored pa n)) y arg) ∧ (z.core c).SameRegs (t.core c) ∧
      z.memory c n va (.atomic op rd) (some y) arg =
        t.finish ⟨c, va, n, some y, arg, .atomic op rd, va⟩ (leNat (z.stored pa n)) := by
  obtain ⟨s, hholds, hcore, hrun⟩ := State.Plain.runAccess (x := ⟨c, va, n, some y, arg, .atomic op rd, va⟩) hp rfl
  obtain ⟨u, hload, hecc⟩ := hholds.readMem hn hp.place hp.core
  rw [← hecc.core] at hcore
  obtain ⟨t, hstore, hstored, hkept⟩ := (hholds.ecc hecc).writeMem hn hp.place hp.core
    (atomicValue op (8 * n) (leNat (z.stored pa n)) y arg)
  have hload : s.readMem c pa n = (u, some (leNat (z.stored pa n))) := hload
  have hstore : u.writeMem c pa n (atomicValue op (8 * n) (leNat (z.stored pa n)) y arg) = (t, true) := hstore
  refine ⟨t, hstored, hkept ▸ hcore.regs.1, (z.memory_aligned hva ..).trans (hrun t _ ?_)⟩
  show s.atomicRun ⟨c, pa, n, some y, arg, .atomic op rd, va⟩ = _
  rw [State.atomicRun]
  simp only [hload, hstore]

end

end Sys2Proof.Machine
end

section
/-!
SUPPORT. The instructions of Tables 04-5 and 04-7 on plain memory, and their misaligned accesses.
-/
namespace Sys2Proof.Machine

/-! ## The forms -/

/-- A load of n bytes into a general register, extended by sign or zeros. -/
def IsLoad (p : MemForm × Nat × Bool) : Prop :=
  (∃ op, ∀ c rd ra imm s, exec (p.1 c rd ra imm) s = .next (s.loadIns c op p.2.1 p.2.2 rd ra imm)) ∧ 0 < p.2.1 ∧ p.2.1 ∣ 8

theorem isLoad_of_mem {p : MemForm × Nat × Bool} (h : p ∈ loadForms) : IsLoad p := by
  simp only [loadForms, List.mem_cons, List.not_mem_nil, or_false] at h
  rcases h with rfl | rfl | rfl | rfl | rfl | rfl | rfl <;> exact ⟨⟨_, fun _ _ _ _ _ => rfl⟩, by decide⟩

/-- A store of the low n bytes of a general register. -/
def IsStore (p : MemForm × Nat) : Prop :=
  (∃ op, ∀ c rs ra imm s, exec (p.1 c rs ra imm) s = .next (s.storeIns c op p.2 rs ra imm)) ∧ 0 < p.2 ∧ p.2 ∣ 8

theorem isStore_of_mem {p : MemForm × Nat} (h : p ∈ storeForms) : IsStore p := by
  simp only [storeForms, List.mem_cons, List.not_mem_nil, or_false] at h
  rcases h with rfl | rfl | rfl | rfl <;> exact ⟨⟨_, fun _ _ _ _ _ => rfl⟩, by decide⟩

/-- An atomic operation with an operand, by its number of Table 04-7. -/
def IsAtom (p : AtomForm × (Nat → Nat → Nat → Nat → Nat)) (op : Nat) : Prop :=
  op ≠ 1 ∧ (∀ c rd ra rb dbl aq rl s, exec (p.1 c rd ra rb dbl aq rl) s = .next (s.atomIns c op rd ra rb dbl aq rl)) ∧
    ∀ w m y r, m < 2 ^ w → p.2 w m (y % 2 ^ w) (r % 2 ^ w) = atomicValue op w m y r

theorem isAtom_of_mem {p : AtomForm × (Nat → Nat → Nat → Nat → Nat)} (h : p ∈ atomForms) : ∃ op, IsAtom p op := by
  simp only [atomForms, List.mem_cons, List.not_mem_nil, or_false] at h
  rcases h with rfl | rfl | rfl | rfl | rfl | rfl | rfl | rfl | rfl | rfl
  · exact ⟨2, by decide, fun _ _ _ _ _ _ _ _ => rfl, fun w m y r hm => by simp [atomicValue]⟩
  · exact ⟨3, by decide, fun _ _ _ _ _ _ _ _ => rfl, fun w m y r hm => by simp [atomicValue, Nat.mod_eq_of_lt hm]⟩
  · exact ⟨4, by decide, fun _ _ _ _ _ _ _ _ => rfl, fun w m y r hm => by simp [atomicValue, Nat.mod_eq_of_lt hm]⟩
  · exact ⟨5, by decide, fun _ _ _ _ _ _ _ _ => rfl, fun w m y r hm => by simp [atomicValue, Nat.mod_eq_of_lt hm]⟩
  · exact ⟨6, by decide, fun _ _ _ _ _ _ _ _ => rfl, fun w m y r hm => by simp [atomicValue, Nat.mod_eq_of_lt hm]⟩
  · exact ⟨7, by decide, fun _ _ _ _ _ _ _ _ => rfl, fun w m y r hm => by simp [atomicValue, Nat.mod_eq_of_lt hm]⟩
  · exact ⟨8, by decide, fun _ _ _ _ _ _ _ _ => rfl, fun w m y r hm => by simp [atomicValue, Nat.mod_eq_of_lt hm]⟩
  · exact ⟨9, by decide, fun _ _ _ _ _ _ _ _ => rfl, fun w m y r hm => by simp [atomicValue, Nat.mod_eq_of_lt hm, Nat.min_def]⟩
  · exact ⟨10, by decide, fun _ _ _ _ _ _ _ _ => rfl, fun w m y r hm => by simp [atomicValue, Nat.mod_eq_of_lt hm, Nat.max_def]⟩
  · exact ⟨11, by decide, fun _ _ _ _ _ _ _ _ => rfl, fun w m y r hm => by simp [atomicValue, Nat.mod_eq_of_lt hm]⟩

theorem atomSize_pos (dbl : Bool) : 0 < atomSize dbl := by cases dbl <;> decide

section
variable {s : State} {c : Fin 24}

theorem State.Issues.load {p : MemForm × Nat × Bool} (hi : IsLoad p) (h : s.Issues c .base) (rd ra : Fin 32) (imm : BitVec 16) :
    exec (p.1 c rd ra imm) s =
      .next ((s.begun c).memory c p.2.1 (((s.begun c).core c).ea ra imm) (.load rd p.2.2) none 0) := by
  obtain ⟨⟨op, hexec⟩, -⟩ := hi
  rw [hexec, State.loadIns, h.ins_legal]

theorem State.Issues.store {p : MemForm × Nat} (hi : IsStore p) (h : s.Issues c .base) (rs ra : Fin 32) (imm : BitVec 16) :
    exec (p.1 c rs ra imm) s =
      .next ((s.begun c).memory c p.2 (((s.begun c).core c).ea ra imm) .store
        (some ((((s.begun c).core c).gr rs).toNat % 2 ^ (8 * p.2))) 0) := by
  obtain ⟨⟨op, hexec⟩, -⟩ := hi
  rw [hexec, State.storeIns, h.ins_legal]

theorem State.Issues.atom {p : AtomForm × (Nat → Nat → Nat → Nat → Nat)} {op : Nat} (hi : IsAtom p op) (h : s.Issues c .atom)
    (rd ra rb : Fin 32) (dbl aq rl : Bool) :
    exec (p.1 c rd ra rb dbl aq rl) s =
      let x := (s.begun c).core c
      .next ((s.begun c).memory c (atomSize dbl) (x.gr ra).toNat (.atomic op rd) (some (x.gr rb).toNat) (x.gr rd).toNat) := by
  obtain ⟨hop, hexec, -⟩ := hi
  rw [hexec, State.atomIns, h.ins_legal]
  dsimp only
  rw [if_neg hop]
  rfl

theorem State.Issues.sc (h : s.Issues c .atom) (rd ra rb : Fin 32) (dbl aq rl : Bool) :
    exec (.sc c rd ra rb dbl aq rl) s =
      let x := (s.begun c).core c
      .next ((s.begun c).memory c (atomSize dbl) (x.gr ra).toNat (.sc rd) (some (x.gr rb).toNat) (x.gr rd).toNat) :=
  congrArg Host.Outcome.next h.ins_legal

theorem State.Issues.lr (h : s.Issues c .atom) (rd ra : Fin 32) (dbl aq rl : Bool) :
    exec (.lr c rd ra dbl aq rl) s =
      .next ((s.begun c).memory c (atomSize dbl) (((s.begun c).core c).gr ra).toNat (.lr rd) none 0) :=
  congrArg Host.Outcome.next h.ins_legal

/-- What a core makes of the value that its access of n bytes answers. -/
def Core.took (y : Core) (use : AccessUse) (n v : Nat) : Core :=
  match use with
  | .load rd signed => y.setG rd (extended n v signed)
  | .fload rd => y.setF rd (BitVec.ofNat 64 (v % 2 ^ (8 * n)))
  | .lr rd | .atomic _ rd => y.setG rd (extended n v true)
  | .sc rd => y.setG rd (BitVec.ofNat 64 v)
  | .plain | .store | .fstore => y

/-- The core after an access has ended. -/
theorem State.core_finish (t : State) (d a n : Nat) (w : Option Nat) (arg : Nat) (use : AccessUse) (va v : Nat) :
    (t.finish ⟨d, a, n, w, arg, use, va⟩ v).core d = ((t.core d).took use n v).next d := by
  rw [State.finish, State.advance, State.core_setCore_same]
  rfl

theorem State.byte_finish (t : State) (x : Stalled) (v b : Nat) : (t.finish x v).byte b = t.byte b := rfl

/-- The stored low bytes of a register are those of the register. -/
theorem State.Stored.of_low {t : State} {pa n v : Nat} (h : (s.begun c).Stored t pa n (v % 2 ^ (8 * n))) : s.Stored t pa n v := by
  rw [← pow_256] at h
  exact State.stored_begun (h.congr fun i hi => byte_of_low v hi)

/-! ## Floating-point loads and stores -/

section
variable {f ra : Fin 32} {imm : BitVec 16} {op size : Nat}

theorem State.Issues.fload (h : s.Issues c .float) (hon : ((s.begun c).core c).fpOn c = true) :
    s.floadIns c op size f ra imm = (s.begun c).memory c size (((s.begun c).core c).ea ra imm) (.fload f) none 0 :=
  h.ins_legal.trans (if_pos hon)

theorem State.Issues.fstore (h : s.Issues c .float) (hon : ((s.begun c).core c).fpOn c = true) :
    s.fstoreIns c op size f ra imm = (s.begun c).memory c size (((s.begun c).core c).ea ra imm) .fstore
      (some ((((s.begun c).core c).fr f).toNat % 2 ^ (8 * size))) 0 :=
  h.ins_legal.trans (if_pos hon)

/-- A floating-point load of plain memory. -/
theorem State.Issues.gives_fload (h : s.Issues c .float) (hon : ((s.begun c).core c).fpOn c = true) {i : Instr}
    (hi : exec i s = .next (s.floadIns c op size f ra imm)) (hsize : 0 < size) {pa : Nat}
    (hva : ((s.begun c).core c).ea ra imm % size = 0) (hp : (s.begun c).Plain c .load (((s.begun c).core c).ea ra imm) pa size) :
    Gives i s fun t =>
      ((s.begun c).core c).WroteF (t.core c) f (BitVec.ofNat 64 (leNat ((s.begun c).stored pa size))) ∧ ∀ b, t.byte b = s.byte b := by
  obtain ⟨t, hbyte, hcore, hmem⟩ := hp.loads (use := .fload f) hsize hva rfl
  refine ⟨_, hi.trans (congrArg Host.Outcome.next ((h.fload hon).trans hmem)), ?_, fun b => ?_⟩
  · have hlt : leNat ((s.begun c).stored pa size) < 2 ^ (8 * size) := pow_256 size ▸ leNat_stored_lt ..
    rw [State.core_finish, Core.took, Nat.mod_eq_of_lt hlt]
    exact hcore.regs.1.wroteF c f _
  · rw [State.byte_finish, hbyte, State.byte_begun]

/-- A floating-point store to plain memory. -/
theorem State.Issues.gives_fstore (h : s.Issues c .float) (hon : ((s.begun c).core c).fpOn c = true) {i : Instr}
    (hi : exec i s = .next (s.fstoreIns c op size f ra imm)) (hsize : 0 < size) {pa : Nat}
    (hva : ((s.begun c).core c).ea ra imm % size = 0) (hp : (s.begun c).Plain c .store (((s.begun c).core c).ea ra imm) pa size) :
    Gives i s fun t =>
      ((s.begun c).core c).WroteNone (t.core c) ∧ s.Stored t pa size (((s.begun c).core c).fr f).toNat := by
  obtain ⟨t, hstored, hcore, hmem⟩ := hp.stores (use := .fstore) hsize hva rfl _
  refine ⟨_, hi.trans (congrArg Host.Outcome.next ((h.fstore hon).trans hmem)), ?_, ?_⟩
  · rw [State.core_finish]
    exact hcore.regs.1.wroteNone c
  · exact State.Stored.of_low fun b => (State.byte_finish ..).trans (hstored b)

end
end

/-- Settles O13: each form by its equation, the access by State.Plain.loads and State.Plain.stores. -/
theorem plainAndFloatingLoadsAndStores : Obligations.PlainAndFloatingLoadsAndStores := by
  unfold Obligations.PlainAndFloatingLoadsAndStores
  refine ⟨⟨?loads, ?stores⟩, ?floating⟩
  case loads =>
    intro p hp c rd ra imm pa s h s0 va hva hplain
    have hi := isLoad_of_mem hp
    obtain ⟨t, hbyte, hcore, hmem⟩ := hplain.loads (use := .load rd p.2.2) hi.2.1 hva rfl
    refine ⟨_, (h.load hi rd ra imm).trans (congrArg Host.Outcome.next hmem), ?_, fun b => ?_⟩
    · rw [State.core_finish, Core.took, extended_eq_loaded (leNat_stored_lt ..)]
      exact hcore.regs.1.wroteG c rd _
    · rw [State.byte_finish, hbyte, State.byte_begun]
  case stores =>
    intro p hp c rs ra imm pa s h s0 va hva hplain
    have hi := isStore_of_mem hp
    obtain ⟨t, hstored, hcore, hmem⟩ := hplain.stores (use := .store) hi.2.1 hva rfl _
    refine ⟨_, (h.store hi rs ra imm).trans (congrArg Host.Outcome.next hmem), ?_, ?_⟩
    · rw [State.core_finish]
      exact hcore.regs.1.wroteNone c
    · exact State.Stored.of_low fun b => (State.byte_finish ..).trans (hstored b)
  case floating =>
    intro c f ra imm pa s h s0 x va hon
    have hfp : ((s.begun c).core c).fpOn c = true := by
      rcases hon with hk | hen
      · rw [Core.fpOn, hk]; rfl
      · rw [Core.fpOn, hen, Bool.or_true]
    exact ⟨h.gives_fload hfp (i := .flw c f ra imm) rfl (by decide), h.gives_fload hfp (i := .fld c f ra imm) rfl (by decide),
      h.gives_fstore hfp (i := .fsw c f ra imm) rfl (by decide), h.gives_fstore hfp (i := .fsd c f ra imm) rfl (by decide)⟩

end Sys2Proof.Machine
end

section
/-!
SUPPORT. Misaligned accesses (R83, R86), LR and SC (R87).
-/
namespace Sys2Proof.Machine

section
variable {s : State} {c : Fin 24}

/-- A misaligned access enters the handler of a control core and touches no memory. -/
theorem State.memory_misaligned {z : State} (hc : c.val ≤ 3) (hexl : (z.core c).exl = false) {size va : Nat} (hva : va % size ≠ 0)
    (use : AccessUse) (w : Option Nat) (arg : Nat) :
    let t := z.memory c size va use w arg
    (z.core c).Entered (t.core c) (z.core c).pc (BitVec.ofNat 64 (if use.kind = .load then 0x09 else 0x0A)) (BitVec.ofNat 64 va)
      (z.core c).evec ∧ t.mem = z.mem := by
  intro t
  have ht : t = z.raise c (if use.kind = .load then 0x09 else 0x0A) 0 va false := if_pos hva
  obtain ⟨hentered, hmem, -⟩ :=
    z.raise_entered (c := c) (if use.kind = .load then 0x09 else 0x0A) 0 va false (.inl hc) hexl
  rw [ecauseOf_precise, Nat.mul_zero, Nat.zero_add] at hentered
  exact ht ▸ ⟨hentered, hmem⟩

/-- What a misaligned access of a control core gives. -/
def State.Misaligned (s t : State) (c : Fin 24) (cause va : Nat) : Prop :=
  let x := (s.begun c).core c
  (t.core c).epc = x.pc ∧ (t.core c).ecause = BitVec.ofNat 64 cause ∧ (t.core c).eaddr = BitVec.ofNat 64 va ∧
  (t.core c).pc = x.evec ∧ (∀ q : Fin 32, (t.core c).gr q = x.gr q) ∧ ∀ b, t.byte b = s.byte b

/-- An instruction that makes a misaligned access. -/
theorem State.gives_misaligned {i : Instr} {size va : Nat} {use : AccessUse} {w : Option Nat} {arg cause : Nat}
    (hi : exec i s = .next ((s.begun c).memory c size va use w arg)) (hc : c.val ≤ 3)
    (hexl : ((s.begun c).core c).exl = false) (hva : va % size ≠ 0) (hcause : (if use.kind = .load then 0x09 else 0x0A) = cause) :
    Gives i s (s.Misaligned · c cause va) := by
  obtain ⟨⟨hepc, hecause, headdr, hpc, -, -, -, -, -, -, -, -, hgr, -⟩, hmem⟩ := State.memory_misaligned hc hexl hva use w arg
  refine ⟨_, hi, hepc, hcause ▸ hecause, headdr, hpc, hgr, fun b => ?_⟩
  rw [State.byte, hmem, ← State.byte, State.byte_begun]

end

/-- Settles O14: every form's access is misaligned alike. -/
theorem misalignedAccessesTouchNoMemory : Obligations.MisalignedAccessesTouchNoMemory := by
  unfold Obligations.MisalignedAccessesTouchNoMemory
  intro c r ra rb imm dbl aq rl s hc h hexl x enters
  have hatom : s.Issues c .atom := h.runs.issues (by rw [kindOf_control hc]; rfl)
  refine ⟨fun p hp hva => ?loads, fun p hp hva => ?stores, fun hva => ⟨?aadd, ?cas, ?sc⟩⟩
  case loads => exact State.gives_misaligned (h.load (isLoad_of_mem hp) r ra imm) hc hexl hva rfl
  case stores => exact State.gives_misaligned (h.store (isStore_of_mem hp) r ra imm) hc hexl hva rfl
  case aadd =>
    exact State.gives_misaligned (congrArg Host.Outcome.next hatom.ins_legal) hc hexl hva rfl
  case cas =>
    exact State.gives_misaligned (congrArg Host.Outcome.next hatom.ins_legal) hc hexl hva rfl
  case sc => exact State.gives_misaligned (hatom.sc r ra rb dbl aq rl) hc hexl hva rfl

theorem Core.resv_setG_next (y : Core) (rd c : Nat) (v : DWord) : ((y.setG rd v).next c).resv = y.resv := by
  unfold Core.setG
  split <;> rfl

/-- Settles O16: stores by State.resv_store, LR and SC by the access of each. -/
theorem loadReservedAndStoreConditional : Obligations.LoadReservedAndStoreConditional := by
  unfold Obligations.LoadReservedAndStoreConditional
  refine ⟨fun s writer a bs c g n hc hresv => ?break_, ?forms⟩
  case break_ =>
    rw [State.resv_store s writer a bs hc hresv]
    exact ⟨fun hw hk hlo hhi => if_pos ⟨hw, hk, hlo, hhi⟩, fun hkeep => if_neg fun ⟨hw, hk, hlo, hhi⟩ => by
      rcases hkeep with h | ⟨h, hbox⟩ | h | h
      · exact hw h
      · rcases hk with hk | hk
        · exact hk h
        · exact absurd hk (by simp [hbox])
      · omega
      · omega⟩
  case forms =>
    intro c rd ra rb dbl aq rl pa s h s0 x n va hva hp
    have hn : 0 < n := atomSize_pos dbl
    refine ⟨?lr, fun hr => ?stored, fun hr => ?missed⟩
    case lr =>
      obtain ⟨t, hbyte, hregs, hresv, hmem⟩ := hp.reserves hn hva rd
      refine ⟨_, (h.lr rd ra dbl aq rl).trans (congrArg Host.Outcome.next hmem), ?_, ?_, fun b => ?_⟩
      · rw [State.core_finish, Core.took, extended_eq_loaded (leNat_stored_lt ..)]
        exact hregs.wroteG c rd _
      · rw [State.core_finish, Core.took]
        exact (Core.resv_setG_next ..).trans hresv
      · rw [State.byte_finish, hbyte, State.byte_begun]
    case stored =>
      obtain ⟨t, hstored, hregs, hresv, hmem⟩ := hp.succeeds hn hva rd (x.gr rb).toNat (x.gr rd).toNat hr
      refine ⟨_, (h.sc rd ra rb dbl aq rl).trans (congrArg Host.Outcome.next hmem), ?_, ?_, ?_⟩
      · rw [State.core_finish]
        exact hregs.wroteG c rd _
      · rw [State.core_finish, Core.took]
        exact (Core.resv_setG_next ..).trans hresv
      · exact State.stored_begun fun b => (State.byte_finish ..).trans (hstored b)
    case missed =>
      obtain ⟨t, hbyte, hregs, hresv, hmem⟩ := hp.misses hva rd (x.gr rb).toNat (x.gr rd).toNat hr
      refine ⟨_, (h.sc rd ra rb dbl aq rl).trans (congrArg Host.Outcome.next hmem), ?_, ?_, fun b => ?_⟩
      · rw [State.core_finish]
        exact hregs.wroteG c rd _
      · rw [State.core_finish, Core.took]
        exact (Core.resv_setG_next ..).trans hresv
      · rw [State.byte_finish, hbyte, State.byte_begun]

end Sys2Proof.Machine
end

section
/-!
SUPPORT. The local memories of the slot engines and the Keeper (R76, R110).
-/
namespace Sys2Proof.Machine

/-! ## Local memory by bytes -/

/-- Bytes put into a memory at the keys of rising addresses. -/
def putAt (k : Nat → Nat) (m : SMap Byte) (a : Nat) : List Byte → SMap Byte
  | [] => m
  | b :: bs => putAt k (SMap.set lmDefault m (k a) b) (a + 1) bs

theorem putBytes_eq (m : SMap Byte) (a : Nat) (l : List Byte) : putBytes m a l = putAt id m a l := by
  induction l generalizing m a with
  | nil => rfl
  | cons b l ih => exact ih _ _

theorem Engine.setBytes_eq (e : Engine) (a : Nat) (l : List Byte) :
    e.setBytes a l = { e with lm := putAt (lmPhys e.active) e.lm a l } := by
  induction l generalizing e a with
  | nil => rfl
  | cons b l ih => exact ih _ _

/-- The bytes of a number are in place after they were put, and no other byte has changed. -/
theorem get_putAt {k : Nat → Nat} {a n b : Nat} (m : SMap Byte) (v : Nat) (hk : ∀ i, a ≤ i → i < a + n → k b = k i → b = i) :
    SMap.get lmDefault (putAt k m a (leBytes n v)) (k b) =
      if a ≤ b ∧ b < a + n then BitVec.ofNat 8 (v / 256 ^ (b - a)) else SMap.get lmDefault m (k b) := by
  induction n generalizing m a v with
  | zero => rw [if_neg (by omega)]; rfl
  | succ n ih =>
    rw [leBytes, putAt, ih _ _ fun i hi hi' => hk i (by omega) (by omega), SMap.get_set]
    have hkey : k b = k a ↔ b = a := ⟨hk a (Nat.le_refl a) (by omega), congrArg k⟩
    rcases Nat.lt_trichotomy b a with h | h | h
    · rw [if_neg (by omega), if_neg (by omega), if_neg (by omega)]
    · rw [if_neg (by omega), if_pos (hkey.2 h), if_pos (by omega), h, Nat.sub_self, Nat.pow_zero, Nat.div_one]
    · have hpow : v / 256 / 256 ^ (b - (a + 1)) = v / 256 ^ (b - a) := by
        rw [Nat.div_div_eq_div_mul, ← Nat.pow_succ', show (b - (a + 1)).succ = b - a by omega]
      rw [hpow, if_neg (show ¬ k b = k a by rw [hkey]; omega)]
      refine if_congr ?_ rfl rfl
      omega

/-- The pages of an engine's local memory do not overlap. -/
theorem lmPhys_inj {active a b : Nat} (ha : a < 0x10000) (hb : b < 0x10000) (h : lmPhys active b = lmPhys active a) : b = a := by
  unfold lmPhys at h
  split_ifs at h <;> omega

/-- A byte of a core's local memory. -/
def State.localByte (s : State) (c a : Nat) : Byte :=
  if c = 23 then SMap.get lmDefault s.kprMem a else SMap.get lmDefault (s.engine (c - 20)).lm (lmPhys (s.engine (c - 20)).active a)

theorem State.localRead_one (s : State) (c a : Nat) : s.localRead c a 1 = (s.localByte c a).toNat := by
  unfold State.localRead State.localByte
  split <;> rfl

/-- A longer number is its lowest byte and the rest. -/
theorem State.localRead_succ (s : State) (c a n : Nat) :
    s.localRead c a (n + 1) = s.localRead c a 1 + 256 * s.localRead c (a + 1) n := by
  unfold State.localRead
  split <;> rfl

theorem State.localRead_lt (s : State) (c a n : Nat) : s.localRead c a n < 256 ^ n := by
  induction n generalizing a with
  | zero =>
    unfold State.localRead
    split <;> exact Nat.one_pos
  | succ n ih =>
    have hbyte := (s.localByte c a).isLt
    have hrest := ih (a + 1)
    rw [State.localRead_succ, State.localRead_one, Nat.pow_succ]
    omega

/-- A number reads as its bytes are. -/
theorem State.localRead_of_bytes {s : State} {c a n v : Nat} (h : ∀ i, i < n → s.localByte c (a + i) = BitVec.ofNat 8 (v / 256 ^ i)) :
    s.localRead c a n = v % 256 ^ n := by
  induction n generalizing a v with
  | zero =>
    rw [Nat.pow_zero, Nat.mod_one]
    exact Nat.lt_one_iff.1 (s.localRead_lt c a 0)
  | succ n ih =>
    have hfirst : s.localByte c a = BitVec.ofNat 8 v := by simpa using h 0 (Nat.succ_pos n)
    have hrest : s.localRead c (a + 1) n = v / 256 % 256 ^ n := by
      refine ih fun i hi => ?_
      rw [Nat.add_right_comm, Nat.add_assoc, h (i + 1) (by omega), Nat.div_div_eq_div_mul, Nat.pow_succ']
    have hsplit : v % 256 ^ (n + 1) = v % 2 ^ 8 + 256 * (v / 256 % 256 ^ n) := by rw [Nat.pow_succ', Nat.mod_mul]; rfl
    rw [State.localRead_succ, State.localRead_one, hfirst, hrest, BitVec.toNat_ofNat, hsplit]

/-- What a write to local memory leaves: the bytes of the number, and every other byte as it was. -/
theorem State.localByte_localWrite (s : State) {c a n b : Nat} (v : Nat) (hroom : c ≠ 23 → a + n ≤ 0x10000 ∧ b < 0x10000) :
    (s.localWrite c a n v).localByte c b = if a ≤ b ∧ b < a + n then BitVec.ofNat 8 (v / 256 ^ (b - a)) else s.localByte c b := by
  unfold State.localByte State.localWrite
  by_cases hc : c = 23
  · simp only [hc, if_true, State.putLocal, putBytes_eq]
    exact get_putAt (k := id) s.kprMem v fun i _ _ h => h
  · obtain ⟨hend, hb⟩ := hroom hc
    simp only [hc, if_false, State.engine_setEngine, if_true, Engine.wr, Engine.setBytes_eq]
    exact get_putAt _ v fun i hlo hhi h => lmPhys_inj (by omega) hb h

theorem State.core_localWrite (s : State) (c a n v d : Nat) : (s.localWrite c a n v).core d = s.core d := by
  unfold State.localWrite
  split <;> rfl

theorem State.kprBytes_congr {s t : State} (h : t.kprMem = s.kprMem) (a n : Nat) : t.kprBytes a n = s.kprBytes a n := by
  induction n generalizing a with
  | zero => rfl
  | succ n ih => rw [State.kprBytes, State.kprBytes, h, ih]

theorem State.localRead_finish (t : State) (x : Stalled) (v c a n : Nat) : (t.finish x v).localRead c a n = t.localRead c a n := by
  unfold State.localRead
  split
  · exact congrArg leNat (State.kprBytes_congr (t.setCore_kprMem ..) a n)
  · rfl

/-! ## Accesses of local memory -/

section
variable {z : State} {c : Fin 24} {a n : Nat}

/-- Addresses of local memory are not translated. -/
theorem State.runAccess_local (h : localMem c a = true) {w : Option Nat} {arg v : Nat} {use : AccessUse} {t : State}
    (hp : z.perform ⟨c, a, n, w, arg, use, a⟩ = (t, .ok v)) :
    z.runAccess ⟨c, a, n, w, arg, use, a⟩ = t.finish ⟨c, a, n, w, arg, use, a⟩ v := by
  have hc : 20 ≤ c.val := by
    simp only [localMem, Bool.or_eq_true, Bool.and_eq_true, decide_eq_true_eq, beq_iff_eq] at h
    omega
  have hk : kindOf c ≠ .control := by
    rw [kindOf, if_neg (by omega)]
    split_ifs <;> simp
  have htrans : z.translate c use.kind a = .to a (normalAt a false) none := by
    unfold State.translate
    exact if_pos hk
  have hwalk : z.walkSeen c a = z := if_pos (.inl hk)
  unfold State.runAccess
  simp only [htrans, hwalk, State.cacheLeaf, hp]

/-- A load of local memory. -/
theorem State.memory_localLoad (h : localMem c a = true) (ha : a % n = 0) {use : AccessUse} (hk : use.kind = .load) :
    z.memory c n a use none 0 = z.finish ⟨c, a, n, none, 0, use, a⟩ (z.localRead c a n) := by
  refine (z.memory_aligned ha ..).trans (State.runAccess_local h ?_)
  unfold State.perform
  simp [h, hk]

/-- A store to local memory, outside the active page of a slot engine. -/
theorem State.memory_localStore (h : localMem c a = true) (ha : a % n = 0) (hpage : c.val ≠ 23 → 0x4000 ≤ a) (v : Nat) :
    z.memory c n a .store (some v) 0 = (z.localWrite c a n v).finish ⟨c, a, n, some v, 0, .store, a⟩ 0 := by
  refine (z.memory_aligned ha ..).trans (State.runAccess_local h ?_)
  have hopen : ¬ (c.val ≠ 23 ∧ a < 0x4000) := fun ⟨hc, hlow⟩ => Nat.not_lt.2 (hpage hc) hlow
  unfold State.perform
  simp [h, hopen, AccessUse.kind]

/-- An atomic operation on the Keeper's local memory. -/
theorem State.memory_localAtom (hc : c.val = 23) (ha : a % n = 0) (hlow : a < 0x40000) (op rd y arg : Nat) :
    z.memory c n a (.atomic op rd) (some y) arg =
      (z.localWrite c a n (atomicValue op (8 * n) (z.localRead c a n) y arg)).finish ⟨c, a, n, some y, arg, .atomic op rd, a⟩
        (z.localRead c a n) := by
  have h : localMem c a = true := by simp [localMem, hc, hlow]
  refine (z.memory_aligned ha ..).trans (State.runAccess_local h ?_)
  have hperform (x : Stalled) (hx : x = ⟨c, a, n, some y, arg, .atomic op rd, a⟩) : z.perform x = z.atomicRun x := by
    have hlocal : localMem x.req x.addr = true := by rw [hx]; exact h
    have hkeeper : ¬ (x.req ≠ 23 ∧ x.write.isSome ∧ x.addr < 0x4000) := fun hne => hne.1 (by rw [hx]; exact hc)
    have hkind : x.use.kind = .atomic := by rw [hx]; rfl
    rw [State.perform, if_pos hlocal, if_neg hkeeper, hkind]
    rfl
  have hread : z.readMem c a n = (z, some (z.localRead c a n)) := if_pos h
  have hwrite (v : Nat) : z.writeMem c a n v = (z.localWrite c a n v, true) := if_pos h
  rw [hperform _ rfl, State.atomicRun]
  simp only [hread, hwrite]

end

theorem atomicValue_lt (op w m y r : Nat) : atomicValue op w m y r < 2 ^ w := by
  have ho := Nat.mod_lt m (Nat.two_pow_pos w)
  have hb := Nat.mod_lt y (Nat.two_pow_pos w)
  unfold atomicValue
  dsimp only
  split
  · exact hb
  · exact Nat.mod_lt _ (Nat.two_pow_pos w)
  · exact Nat.and_lt_two_pow _ hb
  · exact Nat.or_lt_two_pow ho hb
  · exact Nat.xor_lt_two_pow ho hb
  · split <;> assumption
  · split <;> assumption
  · exact lt_of_le_of_lt (min_le_left _ _) ho
  · exact max_lt ho hb
  · split <;> assumption

/-- The effective address of R83. -/
theorem Core.ea_eq (x : Core) (ra : Nat) (imm : BitVec 16) :
    x.ea ra imm = BitVec.toNat (BitVec.ofInt 64 ((x.gr ra).toNat + imm.toInt)) := by
  rw [Core.ea, signExtend_eq, add_ofInt]

/-- A slot engine's local memory ends at 0x10000. -/
theorem localMem_engine {c a : Nat} (h : localMem c a = true) (hc : c ≠ 23) : a < 0x10000 := by
  simp only [localMem, Bool.or_eq_true, Bool.and_eq_true, decide_eq_true_eq, beq_iff_eq] at h
  omega

/-- An aligned access below a multiple of its size ends there at most. -/
theorem add_le_of_aligned {a n m : Nat} (hm : n ∣ m) (ha : a % n = 0) (hlt : a < m) : a + n ≤ m := by
  obtain ⟨j, rfl⟩ := hm
  obtain ⟨k, rfl⟩ := Nat.dvd_of_mod_eq_zero ha
  exact Nat.mul_le_mul_left n (Nat.succ_le_of_lt (lt_of_mul_lt_mul_left hlt (Nat.zero_le n)))

/-- Settles O12: the access of local memory, and its bytes by State.localByte_localWrite. -/
theorem loadsAndStoresOfLocalMemory : Obligations.LoadsAndStoresOfLocalMemory := by
  unfold Obligations.LoadsAndStoresOfLocalMemory
  refine ⟨?loads, State.localRead_succ, ?stores⟩
  case loads =>
    intro p hp c rd ra imm s h s0 a ha hlocal
    have hea : (s0.core c).ea ra imm = a := (s0.core c).ea_eq ra imm
    rw [Computes, h.load (isLoad_of_mem hp), hea, State.memory_localLoad hlocal ha rfl]
    refine congrArg Host.Outcome.next ?_
    rw [State.finish]
    dsimp only
    rw [extended_eq_loaded (s0.localRead_lt ..)]
  case stores =>
    intro p hp c rs ra imm s h s0 a ha hlocal hpage
    have hi := isStore_of_mem hp
    have hea : (s0.core c).ea ra imm = a := (s0.core c).ea_eq ra imm
    have hexec := h.store hi rs ra imm
    rw [hea, State.memory_localStore hlocal ha hpage] at hexec
    refine ⟨_, hexec, ?_, fun b hb => ?_⟩
    · rw [State.core_finish, State.core_localWrite]
      rfl
    · have hroom : c.val ≠ 23 → a + p.2 ≤ 0x10000 ∧ b < 0x10000 := fun hc =>
        ⟨add_le_of_aligned (dvd_trans hi.2.2 (by decide)) ha (localMem_engine hlocal hc), localMem_engine hb hc⟩
      rw [State.localRead_finish, State.localRead_one, State.localRead_one, State.localByte_localWrite _ _ hroom]
      split
      · rw [← pow_256, byte_of_low _ (by omega), BitVec.toNat_ofNat]
      · rfl

/-- Settles O15: on plain memory by State.Plain.exchanges, on the Keeper's own by State.memory_localAtom. -/
theorem atomicOperationsReadThenWrite : Obligations.AtomicOperationsReadThenWrite := by
  unfold Obligations.AtomicOperationsReadThenWrite
  intro p hp c rd ra rb dbl aq rl pa s h s0 x n va becomes hva
  obtain ⟨op, hi⟩ := isAtom_of_mem hp
  have hn : 0 < n := atomSize_pos dbl
  have hbecomes (m : Nat) (hm : m < 256 ^ n) : atomicValue op (8 * n) m (x.gr rb).toNat (x.gr rd).toNat = becomes m := by
    have hpow := pow_256 n
    obtain ⟨-, -, hvalue⟩ := hi
    rw [← hvalue _ _ _ _ (hpow ▸ hm), ← hpow]
  refine ⟨fun hplain => ?plain, fun hc hlow => ?local_⟩
  case plain =>
    obtain ⟨t, hstored, hregs, hmem⟩ := hplain.exchanges hn hva op rd (x.gr rb).toNat (x.gr rd).toNat
    rw [hbecomes _ (leNat_stored_lt ..)] at hstored
    refine ⟨_, (h.atom hi rd ra rb dbl aq rl).trans (congrArg Host.Outcome.next hmem), ?_, ?_⟩
    · rw [State.core_finish, Core.took, extended_eq_loaded (leNat_stored_lt ..)]
      exact hregs.wroteG c rd _
    · exact State.stored_begun fun b => (State.byte_finish ..).trans (hstored b)
  case local_ =>
    have hmem := s0.memory_localAtom (n := n) hc hva hlow op rd (x.gr rb).toNat (x.gr rd).toNat
    refine ⟨_, (h.atom hi rd ra rb dbl aq rl).trans (congrArg Host.Outcome.next hmem), ?_, ?_⟩
    · have hread : s0.localRead c va n = s0.localRead 23 va n := by rw [hc]
      have hregs : x.SameRegs (s0.core c) := ⟨rfl, rfl, rfl, rfl, rfl, rfl⟩
      rw [State.core_finish, State.core_localWrite, Core.took, extended_eq_loaded (State.localRead_lt ..), hread]
      exact hregs.wroteG c rd _
    · rw [State.localRead_finish, ← hc, hbecomes _ (State.localRead_lt ..)]
      have hlt : becomes (s0.localRead c va n) < 256 ^ n := by
        rw [← hbecomes _ (State.localRead_lt ..), pow_256]
        exact atomicValue_lt ..
      refine (State.localRead_of_bytes fun i hi => ?_).trans (Nat.mod_eq_of_lt hlt)
      rw [State.localByte_localWrite _ _ fun hne => absurd hc hne, if_pos (by omega), Nat.add_sub_cancel_left]

end Sys2Proof.Machine
end

section
/-!
SUPPORT. The timed instructions of the slot engines (R116 to R120): packed times, the state that an engine's instruction begins in, targets
and the marks of a late one, event triggers.
-/
namespace Sys2Proof.Machine

/-! ## Packed times (R8, R116) -/

theorem secU_eq : secU = 1000000000 * 2 ^ 32 := rfl

/-- The whole second of a packed time ends in its 32 bits and lies within 2^31 s of now. -/
theorem extendSec_near {now : Nat} (part : Nat) (hlo : 2 ^ 31 ≤ ntSec now) (hhi : ntSec now < 2 ^ 48 - 2 ^ 32) :
    extendSec now part % 2 ^ 32 = part % 2 ^ 32 ∧ extendSec now part ≤ ntSec now + 2 ^ 31 ∧ ntSec now ≤ extendSec now part + 2 ^ 31 := by
  unfold extendSec
  dsimp only
  split_ifs <;> omega

/-- The second of now itself is the one its low 32 bits stand for. -/
theorem extendSec_self (now : Nat) : extendSec now (ntSec now % 2 ^ 32) = ntSec now := by
  unfold extendSec
  dsimp only
  split_ifs <;> omega

theorem packNt_parts (u : Nat) : packNt u / 2 ^ 32 = ntSec u % 2 ^ 32 ∧ packNt u % 2 ^ 32 = ntNs u := by
  have hns : ntNs u < 2 ^ 32 := by
    unfold ntNs
    rw [secU_eq, nsU_eq]
    omega
  unfold packNt
  omega

/-- Settles O25: extendSec stays near now, and is exact on now's own second. -/
theorem packedTimesReadNearNow : Obligations.PackedTimesReadNearNow := by
  unfold Obligations.PackedTimesReadNearNow
  intro now packed hlo hhi hpacked
  constructor
  · obtain ⟨hlow, hup, hdown⟩ := extendSec_near (packed / 2 ^ 32) hlo hhi
    exact ⟨_, hlow.trans (Nat.mod_eq_of_lt (by omega)), hup, hdown, rfl⟩
  · obtain ⟨hsec, hns⟩ := packNt_parts now
    rw [packedTarget, hsec, hns, extendSec_self, ntSec, ntNs, secU_eq, nsU_eq]
    omega

/-! ## The state that an engine's instruction begins in (R76, R118) -/

theorem IsEngine.kind {c : Fin 24} (h : IsEngine c) : kindOf c = .engine := kindOf_engine h.1 h.2

/-- An engine fetches from its own memory, without a translation or a check of words: all that an instruction spends is the mark of a late
ATTICK. -/
theorem State.Runs.begun_engine {s : State} {c : Fin 24} (h : s.Runs c) (he : IsEngine c) :
    s.begun c = s.setEngine (c.val - 20) { s.engine (c.val - 20) with lateNext := false } := by
  obtain ⟨leaf, hf⟩ := h.fetch
  have hkind := he.kind
  have htrans (va : Nat) : s.translate c .fetch va = .to va (normalAt va false) none := by simp [State.translate, hkind]
  have hseen : s.fetchSeen c = s := by
    have hc : ¬ c.val < 20 := by have := he.1; omega
    simp [State.fetchSeen, htrans, State.walkSeen, hkind, hc]
  have hleaf : leaf = none := by
    have hc : 20 ≤ c.val := he.1
    simp only [State.fetch, htrans, if_pos hc] at hf
    split at hf <;> simp_all
  subst hleaf
  simp [State.begun, hf, hseen, State.dropLate, hkind, State.cacheLeaf]

section
variable {s : State} {c : Fin 24} {part : Part}

theorem State.Issues.begun_engine (h : s.Issues c part) (he : IsEngine c) :
    s.begun c = s.setEngine (c.val - 20) { s.engine (c.val - 20) with lateNext := false } := h.runs.begun_engine he

/-- An engine that issues is in no wait. -/
theorem State.Issues.wait_none (h : s.Issues c part) (he : IsEngine c) : (s.engine (c.val - 20)).wait = .none := by
  have hcan := h.can
  simp only [State.mayIssue, Bool.and_eq_true, Bool.or_eq_true, Bool.not_eq_true', Bool.and_eq_false_iff, decide_eq_false_iff_not,
    beq_iff_eq] at hcan
  obtain ⟨-, hne | hwait⟩ := hcan
  · exact absurd he (by unfold IsEngine; omega)
  · exact hwait

end

section
variable (s : State) (e : Nat) (x : Engine)

@[simp] theorem State.engine_setEngine_same : (s.setEngine e x).engine e = x := SMap.get_set_same _ _ _

@[simp] theorem State.core_setEngine (c : Nat) : (s.setEngine e x).core c = s.core c := rfl

@[simp] theorem State.now_setEngine : (s.setEngine e x).now = s.now := rfl

@[simp] theorem State.fld_setEngine (f : FRef) : (s.setEngine e x).fld f = s.fld f := rfl

@[simp] theorem State.engine_setFld (f : FRef) (v : Nat) : (s.setFld f v).engine e = s.engine e := rfl

@[simp] theorem State.core_setFld (f : FRef) (v c : Nat) : (s.setFld f v).core c = s.core c := rfl

end

/-- A counter of w bits goes up by one, or stays at its largest value. -/
theorem State.fld_count (s : State) {f : FRef} (hf : f.msb ≤ 31) :
    (s.count f).fld f = min (2 ^ (f.msb + 1 - f.lsb) - 1) (s.fld f + 1) := by
  have hpos := Nat.two_pow_pos (f.msb + 1 - f.lsb)
  rw [State.count, State.fld_setFld_same _ _ hf, satAdd]
  split <;> rw [Nat.mod_eq_of_lt (by omega)] <;> omega

/-! ## Targets (R116 to R119) -/

/-- A mark of one bit and a counter in another register. -/
theorem State.fld_mark_count (s : State) {f g : FRef} (hf : f.msb ≤ 31) (hw : f.msb + 1 - f.lsb = 1) (hg : g.msb ≤ 31) (hne : f.addr ≠ g.addr) :
    ((s.setFld f 1).count g).fld f = 1 ∧
    ((s.setFld f 1).count g).fld g = min (2 ^ (g.msb + 1 - g.lsb) - 1) (s.fld g + 1) := by
  constructor
  · rw [State.count, State.fld_setFld_other _ _ hg (.inl hne), State.fld_setFld_same _ _ hf, hw]
    rfl
  · rw [State.fld_count _ hg, State.fld_setFld_other _ _ hf (.inl hne.symm)]

theorem stat_ne_lateCount (e : Nat) : R.SE_STAT e ≠ R.SE_LATE_COUNT e := by
  unfold R.SE_STAT R.SE_LATE_COUNT
  omega

/-! ## Targets (R116 to R119) -/

section
variable {s : State} {c : Fin 24}

/-- NTRD writes the part of NT that it reads (Table 05-2). -/
theorem State.Issues.ntrd (h : s.Issues c .timed) (rd : Fin 32) {part : Byte} (hpart : part.toNat ≤ 3) :
    Computes (.ntrd c rd part) s c rd (fun _ => BitVec.ofNat 64 (ntrdPart (s.begun c).now part.toNat)) := by
  have hexec : exec (.ntrd c rd part) s = .next (s.ins c .timed (decide (part.toNat ≤ 3)) (extWord 0x38 rd 0 0 0 part.toNat)
    fun s => s.result c rd (BitVec.ofNat 64 (ntrdPart s.now part.toNat))) := rfl
  rw [Computes, hexec, decide_eq_true hpart, h.ins_legal]
  rfl

theorem State.Issues.waitnt (h : s.Issues c .timed) (ra : Fin 32) :
    exec (.waitnt c ra) s = .next ((s.begun c).timed c ra false) := congrArg _ h.ins_legal

theorem State.Issues.attick (h : s.Issues c .timed) (ra : Fin 32) :
    exec (.attick c ra) s = .next ((s.begun c).timed c ra true) := congrArg _ h.ins_legal

/-- The target that WAITNT and ATTICK take from a register. -/
def State.targetOf (s : State) (c : Nat) (ra : Fin 32) : Nat := packedTarget s.now ((s.core c).gr ra).toNat

/-- Before the target the engine goes on to a wait for it. -/
theorem State.timed_ahead (ra : Fin 32) (attick : Bool) (hlt : s.now < s.targetOf c ra) :
    s.timed c ra attick = (s.advance c id).setWait (c.val - 20) (.until (s.targetOf c ra) attick) := if_neg (Nat.not_le.2 hlt)

/-- At the target or behind it the late rule acts. -/
theorem State.timed_late (ra : Fin 32) (attick : Bool) (hle : s.targetOf c ra ≤ s.now) :
    s.timed c ra attick = if attick then (s.advance c id).lateAt (c.val - 20) else (s.advance c id).lateWait (c.val - 20) := if_pos hle

@[simp] theorem State.core_advance (f : Core → Core) : (s.advance c f).core c = (f (s.core c)).next c := State.core_setCore_same ..

@[simp] theorem State.engine_advance (f : Core → Core) (e : Nat) : (s.advance c f).engine e = s.engine e := rfl

@[simp] theorem Core.pc_next (x : Core) (c : Nat) : (x.next c).pc = x.pc + 4 := rfl

theorem State.timed_waits (ra : Fin 32) (attick : Bool) (hlt : s.now < s.targetOf c ra) :
    ((s.timed c ra attick).core c).pc = (s.core c).pc + 4 ∧
    ((s.timed c ra attick).engine (c.val - 20)).wait = .until (s.targetOf c ra) attick ∧ (s.timed c ra attick).regs = s.regs := by
  rw [State.timed_ahead ra attick hlt, State.setWait, State.core_setEngine, State.core_advance, State.engine_setEngine_same]
  exact ⟨rfl, rfl, rfl⟩

theorem State.waitnt_late (ra : Fin 32) (hle : s.targetOf c ra ≤ s.now) :
    let t := s.timed c ra false
    (t.core c).pc = (s.core c).pc + 4 ∧ t.engine (c.val - 20) = s.engine (c.val - 20) ∧ t.fld (F.SE_STAT_LATE_WAIT (c.val - 20)) = 1 ∧
    t.fld (F.SE_LATE_COUNT_WAIT_LATE (c.val - 20)) = min 255 (s.fld (F.SE_LATE_COUNT_WAIT_LATE (c.val - 20)) + 1) := by
  intro t
  have ht : t = ((s.advance c id).setFld (F.SE_STAT_LATE_WAIT (c.val - 20)) 1).count (F.SE_LATE_COUNT_WAIT_LATE (c.val - 20)) :=
    State.timed_late ra false hle
  obtain ⟨hmark, hcount⟩ := (s.advance c id).fld_mark_count (f := F.SE_STAT_LATE_WAIT (c.val - 20)) (g := F.SE_LATE_COUNT_WAIT_LATE (c.val - 20))
    (by decide : 3 ≤ 31) rfl (by decide : 23 ≤ 31) (stat_ne_lateCount _)
  rw [ht]
  exact ⟨congrArg Core.pc (State.core_advance id), rfl, hmark, hcount⟩

theorem State.attick_late (ra : Fin 32) (hle : s.targetOf c ra ≤ s.now) :
    let t := s.timed c ra true
    (t.core c).pc = (s.core c).pc + 4 ∧ t.engine (c.val - 20) = { s.engine (c.val - 20) with lateNext := true } ∧
    t.fld (F.SE_STAT_LATE_AT (c.val - 20)) = 1 ∧
    t.fld (F.SE_LATE_COUNT_AT_LATE (c.val - 20)) = min 255 (s.fld (F.SE_LATE_COUNT_AT_LATE (c.val - 20)) + 1) := by
  intro t
  have ht : t = (((s.advance c id).setFld (F.SE_STAT_LATE_AT (c.val - 20)) 1).count (F.SE_LATE_COUNT_AT_LATE (c.val - 20))).setEngine
      (c.val - 20) { s.engine (c.val - 20) with lateNext := true } := State.timed_late ra true hle
  obtain ⟨hmark, hcount⟩ := (s.advance c id).fld_mark_count (f := F.SE_STAT_LATE_AT (c.val - 20)) (g := F.SE_LATE_COUNT_AT_LATE (c.val - 20))
    (by decide : 4 ≤ 31) rfl (by decide : 31 ≤ 31) (stat_ne_lateCount _)
  rw [ht, State.core_setEngine, State.engine_setEngine_same, State.fld_setEngine, State.fld_setEngine]
  exact ⟨congrArg Core.pc (State.core_advance id), rfl, hmark, hcount⟩

end

theorem exec_timedTargetReached (e : Fin 3) (s : State) : exec (.timedTargetReached e) s = execTimedTargetReached e s := rfl

/-- Settles O26: State.timed on each side of its target, from the state an engine's instruction begins in. -/
theorem timedInstructionsReadAndWait : Obligations.TimedInstructionsReadAndWait := by
  unfold Obligations.TimedInstructionsReadAndWait
  intro core rd ra s he h e s0 x n goal
  have hs0 : s0 = s.setEngine e { s.engine e with lateNext := false } := h.begun_engine he
  have hengine : s0.engine e = { s.engine e with lateNext := false } := by rw [hs0, State.engine_setEngine_same]
  have hwait : (s0.engine e).wait = .none := hengine ▸ h.wait_none he
  have hlate : (s0.engine e).lateNext = false := hengine ▸ rfl
  have hfld (f : FRef) : s0.fld f = s.fld f := by rw [hs0, State.fld_setEngine]
  refine ⟨h.ntrd rd (by decide), h.ntrd rd (by decide), ?frac, h.ntrd rd (by decide), ?ahead, ?late, ?reached⟩
  case frac => exact h.ntrd rd (part := 2) (by decide)
  case ahead => exact fun hlt => ⟨⟨_, h.waitnt ra, s0.timed_waits ra false hlt⟩, _, h.attick ra, s0.timed_waits ra true hlt⟩
  case late =>
    intro hle
    obtain ⟨hpc, heng, hmark, hcount⟩ := s0.waitnt_late ra hle
    obtain ⟨hpc', heng', hmark', hcount'⟩ := s0.attick_late ra hle
    rw [hfld] at hcount hcount'
    refine ⟨⟨_, h.waitnt ra, hpc, ?_, hmark, hcount, ?_⟩, _, h.attick ra, hpc', ?_, hmark', hcount', ?_⟩
    · exact (congrArg Engine.wait heng).trans hwait
    · exact (congrArg Engine.lateNext heng).trans hlate
    · exact (congrArg Engine.wait heng').trans hwait
    · exact congrArg Engine.lateNext heng'
  case reached =>
    intro eng u target late hw hlive
    rw [exec_timedTargetReached, execTimedTargetReached, hw]
    exact ⟨fun hle => congrArg _ (if_pos ⟨hlive, hle⟩), fun hlt => congrArg _ (if_neg fun hdue => Nat.not_le.2 hlt hdue.2)⟩

end Sys2Proof.Machine
end

section
/-!
SUPPORT. Event triggers, event waits, and the delivery of pulses to engines and cores (R96, R120 to R122).
-/
namespace Sys2Proof.Machine

/-! ## Event triggers (R120) -/

/-- A pulse for the next tick enters once, beside what the fabric holds. -/
theorem State.mem_fabric_pulseNext (s : State) (line : Nat) (p : Pulse) :
    p ∈ (s.pulseNext line).fabric ↔ p ∈ s.fabric ∨ p = ⟨line, s.ticks + 1⟩ := by
  constructor
  · intro hp
    unfold State.pulseNext at hp
    split at hp
    · exact .inl hp
    · simpa using hp
  · rintro (hp | rfl)
    · unfold State.pulseNext
      split
      · exact hp
      · exact List.mem_append_left _ hp
    · exact State.pulseNext_in_fabric line rfl

@[simp] theorem State.cores_pulseNext (s : State) (line : Nat) : (s.pulseNext line).cores = s.cores := by
  unfold State.pulseNext
  split <;> rfl

@[simp] theorem State.regs_pulseNext (s : State) (line : Nat) : (s.pulseNext line).regs = s.regs := by
  unfold State.pulseNext
  split <;> rfl

/-- The line that EVTRIG names: its immediate, or the low byte of its register. -/
def State.evLine (s : State) (c : Nat) (ra : Fin 32) (imm : Byte) : Nat :=
  if imm = 0 then ((s.core c).gr ra).toNat % 256 else imm.toNat

section
variable {s : State} {c : Fin 24} (h : s.Issues c .timed) (ra : Fin 32) (imm : Byte)
include h

theorem State.Issues.evtrig : exec (.evtrig c ra imm) s =
    .next ((if 64 ≤ (s.begun c).evLine c ra imm then (s.begun c).pulseNext ((s.begun c).evLine c ra imm)
      else (s.begun c).setFld (F.SE_STAT_FIXED_TRIG (c.val - 20)) 1).advance c id) := congrArg _ h.ins_legal

theorem State.Issues.evtrig_free (hfree : 64 ≤ (s.begun c).evLine c ra imm) :
    exec (.evtrig c ra imm) s = .next (((s.begun c).pulseNext ((s.begun c).evLine c ra imm)).advance c id) := by
  rw [h.evtrig, if_pos hfree]

theorem State.Issues.evtrig_fixed (hfixed : (s.begun c).evLine c ra imm < 64) :
    exec (.evtrig c ra imm) s = .next (((s.begun c).setFld (F.SE_STAT_FIXED_TRIG (c.val - 20)) 1).advance c id) := by
  rw [h.evtrig, if_neg (Nat.not_le.2 hfixed)]

end

/-- Settles O27: one case for a free line and one for a fixed line. -/
theorem eventTriggersOfR120 : Obligations.EventTriggersOfR120 := by
  unfold Obligations.EventTriggersOfR120
  intro core ra imm s he h s0 line
  have hs0 : s0 = s.setEngine (core.val - 20) { s.engine (core.val - 20) with lateNext := false } := h.begun_engine he
  rcases Nat.lt_or_ge line 64 with hline | hline
  · refine ⟨_, h.evtrig_fixed ra imm hline, fun hfree => absurd hfree (Nat.not_le.2 hline), fun _ => ⟨?_, ?_⟩, ?_⟩
    · rw [← show s0.fabric = s.fabric by rw [hs0]; rfl]
      rfl
    · exact State.fld_setFld_same s0 (f := F.SE_STAT_FIXED_TRIG (core.val - 20)) 1 (by decide : 7 ≤ 31)
    · exact congrArg Core.pc (State.core_advance id)
  · refine ⟨_, h.evtrig_free ra imm hline, fun _ => ⟨fun p => ?_, ?_⟩, fun hfixed => absurd hfixed (Nat.not_lt.2 hline), ?_⟩
    · refine (s0.mem_fabric_pulseNext line p).trans ?_
      rw [hs0]
      rfl
    · refine (s0.regs_pulseNext line).trans ?_
      rw [hs0]
      rfl
    · rw [State.core_advance, Core.pc_next, id, State.core, State.cores_pulseNext, ← State.core]

end Sys2Proof.Machine
end

section
/-!
SUPPORT. Event waits and the delivery of pulses: to a waiting engine, to the latches, to the pending lines of cores (R96, R121, R122).
-/
namespace Sys2Proof.Machine

/-! ## Event waits (R121) -/

section
variable {s : State} {c : Fin 24} (h : s.Issues c .timed) (rd : Fin 32) (line : Byte)
include h

theorem State.Issues.evwait : exec (.evwait c rd line) s =
    .next (if ((s.begun c).engine (c.val - 20)).latches.getLsbD line.toNat then
        ((s.begun c).setEngine (c.val - 20) { (s.begun c).engine (c.val - 20) with
          latches := ((s.begun c).engine (c.val - 20)).latches &&& ~~~(BitVec.ofNat 256 (2 ^ line.toNat)) }).result c rd 0
      else ((s.begun c).advance c id).setWait (c.val - 20) (.event line.toNat rd (s.begun c).ticks false)) := congrArg _ h.ins_legal

theorem State.Issues.evwait_latched (hset : ((s.begun c).engine (c.val - 20)).latches.getLsbD line.toNat = true) :
    exec (.evwait c rd line) s = .next (((s.begun c).setEngine (c.val - 20) { (s.begun c).engine (c.val - 20) with
      latches := ((s.begun c).engine (c.val - 20)).latches &&& ~~~(BitVec.ofNat 256 (2 ^ line.toNat)) }).result c rd 0) := by
  rw [h.evwait, if_pos hset]

theorem State.Issues.evwait_waits (hclear : ((s.begun c).engine (c.val - 20)).latches.getLsbD line.toNat = false) :
    exec (.evwait c rd line) s =
      .next (((s.begun c).advance c id).setWait (c.val - 20) (.event line.toNat rd (s.begun c).ticks false)) := by
  rw [h.evwait, hclear]
  rfl

end

theorem exec_evwaitPulse (e : Fin 3) (s : State) : exec (.evwaitPulse e) s = execEvwaitPulse e s := rfl
theorem exec_evwaitTimeout (e : Fin 3) (s : State) : exec (.evwaitTimeout e) s = execEvwaitTimeout e s := rfl

@[simp] theorem Core.pc_setG (x : Core) (r : Nat) (v : DWord) : (x.setG r v).pc = x.pc := by
  unfold Core.setG
  split <;> rfl

section
variable {e : Fin 3} {line rd issue : Nat} {arrived : Bool} {s : State} (hw : (s.engine e).wait = .event line rd issue arrived)
include hw

theorem State.evwaitPulse_arrived (hlive : s.live (20 + e.val) = true) (ha : arrived = true) :
    exec (.evwaitPulse e) s = .next ((s.setWait e .none).setCore (20 + e.val) ((s.core (20 + e.val)).setG rd 0)) := by
  rw [exec_evwaitPulse, execEvwaitPulse, hw, ha]
  exact congrArg _ (if_pos hlive)

/-- The limit, not 0, has passed since the issue tick without a pulse. -/
theorem State.evwaitTimeout_due (hlive : s.live (20 + e.val) = true) (ha : arrived = false) (hlimit : s.fld (F.SE_WAIT_LIMIT_LIMIT e) ≠ 0)
    (hdue : issue + s.fld (F.SE_WAIT_LIMIT_LIMIT e) ≤ s.ticks) :
    exec (.evwaitTimeout e) s = .next ((((s.setWait e .none).setCore (20 + e.val) ((s.core (20 + e.val)).setG rd 1)).setFld
      (F.SE_STAT_EV_TIMEOUT e) 1).count (F.SE_LATE_COUNT_EV_TIMEOUTS e)) := by
  rw [exec_evwaitTimeout, execEvwaitTimeout, hw, ha]
  exact congrArg _ (if_pos ⟨hlive, hlimit, hdue⟩)

theorem State.evwaitTimeout_early (hearly : arrived = true ∨ s.fld (F.SE_WAIT_LIMIT_LIMIT e) = 0 ∨
    s.ticks < issue + s.fld (F.SE_WAIT_LIMIT_LIMIT e)) : exec (.evwaitTimeout e) s = .next s := by
  rw [exec_evwaitTimeout, execEvwaitTimeout, hw]
  cases arrived with
  | true => rfl
  | false =>
    refine congrArg _ (if_neg fun ⟨_, hlimit, hdue⟩ => ?_)
    rcases hearly with ha | hzero | hlt
    · cases ha
    · exact hlimit hzero
    · omega

/-- A pulse that reaches an engine waiting for its line goes to the wait, not to the latch. -/
theorem State.pulseEngine_awaited (ha : arrived = false) (hp : s.powered (13 + e.val) = true) :
    s.pulseEngine e line = s.setWait e (.event line rd issue true) := by
  simp [State.pulseEngine, hp, hw, ha]

/-- A pulse of another line goes to its latch. -/
theorem State.pulseEngine_other (ha : arrived = false) (hp : s.powered (13 + e.val) = true) {l : Nat} (hl : l ≠ line) :
    s.pulseEngine e l = s.setEngine e { s.engine e with latches := (s.engine e).latches ||| BitVec.ofNat 256 (2 ^ l) } := by
  simp [State.pulseEngine, hp, hw, ha, hl.symm]

end

theorem getLsbD_mark (v : BitVec 256) (line : Nat) {l : Nat} (hl : l < 256) :
    (v ||| BitVec.ofNat 256 (2 ^ line)).getLsbD l = (v.getLsbD l || decide (line = l)) := by
  rw [BitVec.getLsbD_or, BitVec.getLsbD_ofNat, Nat.testBit_two_pow, decide_eq_true hl, Bool.true_and]

/-! ## What a pulse changes (R96, R122) -/

section
variable (s : State)

theorem State.rest_pulseEngine (e l : Nat) : s.pulseEngine e l = { s with eng := (s.pulseEngine e l).eng } := by
  unfold State.pulseEngine
  dsimp only
  split
  · rfl
  · split
    · split <;> rfl
    · rfl

theorem State.rest_pulseCore (l c : Nat) : s.pulseCore l c = { s with cores := (s.pulseCore l c).cores } := by
  unfold State.pulseCore
  split <;> rfl

theorem State.rest_hostPut (a : Nat) (bs : List Byte) : s.hostPut a bs = { s with tm := (s.hostPut a bs).tm } := by
  induction bs generalizing s a with
  | nil => rfl
  | cons b bs ih =>
    rw [State.hostPut, ih]
    rfl

theorem State.rest_msixFire (v : Nat) : s.msixFire v = { s with tm := (s.msixFire v).tm } := by
  unfold State.msixFire
  split
  · split
    · rfl
    · exact s.rest_hostPut _ _
  · rfl

theorem State.rest_msixPulse (l : Nat) : s.msixPulse l = { s with tm := (s.msixPulse l).tm } := by
  refine List.foldlRecOn (motive := fun t : State => t = { s with tm := t.tm }) _ _ rfl fun t ht v _ => ?_
  split
  · rw [State.rest_msixFire, ht]
  · exact ht

/-- A core that takes interrupts: a control core or the Keeper, with power and not held (R96). -/
def State.takesPulses (c : Nat) : Bool := [0, 1, 2, 3, 23].contains c && (s.powered (coreDomain c) && !s.held c)

theorem State.core_pulseCore (l c d : Nat) : (s.pulseCore l c).core d =
    if d = c ∧ (s.powered (coreDomain c) && !s.held c) = true then { s.core d with ipend := (s.core d).ipend ||| BitVec.ofNat 256 (2 ^ l) }
    else s.core d := by
  unfold State.pulseCore
  split
  · next h =>
    rw [State.core_setCore]
    by_cases hd : d = c <;> simp [hd, h]
  · next h => simp [h]

/-- Cores of a list without repetition take a pulse each by its own. -/
theorem State.core_pulseCores (l : Nat) {cs : List Nat} (hcs : cs.Nodup) (d : Nat) : (cs.foldl (State.pulseCore · l ·) s).core d =
    if d ∈ cs ∧ (s.powered (coreDomain d) && !s.held d) = true then { s.core d with ipend := (s.core d).ipend ||| BitVec.ofNat 256 (2 ^ l) }
    else s.core d := by
  induction cs generalizing s with
  | nil => simp
  | cons c cs ih =>
    obtain ⟨hc, hcs⟩ := List.nodup_cons.1 hcs
    have hpow : (s.pulseCore l c).powered = s.powered := by rw [State.rest_pulseCore]; rfl
    have hheld : (s.pulseCore l c).held = s.held := by rw [State.rest_pulseCore]; rfl
    rw [List.foldl_cons, ih _ hcs, hpow, hheld, State.core_pulseCore]
    by_cases hd : d = c
    · subst hd
      simp [hc]
    · simp [hd]

theorem State.rest_pulseEngines (l : Nat) (es : List Nat) :
    es.foldl (State.pulseEngine · · l) s = { s with eng := (es.foldl (State.pulseEngine · · l) s).eng } := by
  refine List.foldlRecOn (motive := fun t : State => t = { s with eng := t.eng }) _ _ rfl fun t ht e _ => ?_
  rw [State.rest_pulseEngine, ht]

theorem State.rest_pulseCores (l : Nat) (cs : List Nat) :
    cs.foldl (State.pulseCore · l ·) s = { s with cores := (cs.foldl (State.pulseCore · l ·) s).cores } := by
  refine List.foldlRecOn (motive := fun t : State => t = { s with cores := t.cores }) _ _ rfl fun t ht c _ => ?_
  rw [State.rest_pulseCore, ht]

theorem State.rest_deliver (p : Pulse) :
    s.deliver p = { s with eng := (s.deliver p).eng, cores := (s.deliver p).cores, tm := (s.deliver p).tm } := by
  unfold State.deliver
  rw [State.rest_msixPulse, State.rest_pulseCores, State.rest_pulseEngines]

theorem State.core_deliver (p : Pulse) (d : Nat) : (s.deliver p).core d =
    if s.takesPulses d then { s.core d with ipend := (s.core d).ipend ||| BitVec.ofNat 256 (2 ^ p.line) } else s.core d := by
  have hcore (u : State) : (u.msixPulse p.line).core d = u.core d := by rw [State.rest_msixPulse]; rfl
  rw [State.deliver, hcore, State.core_pulseCores _ _ (by decide), State.rest_pulseEngines]
  simp [State.takesPulses, State.powered, State.held, State.core, State.fld, State.reg]

/-- Delivery of a list of pulses: a core keeps its registers, and has pending what it had and, where it takes pulses, the lines among
them. -/
theorem State.core_delivered (ps : List Pulse) (d : Nat) : ∃ y : BitVec 256,
    (ps.foldl State.deliver s).core d = { s.core d with ipend := y } ∧
    ∀ l, l < 256 → y.getLsbD l = ((s.core d).ipend.getLsbD l || (s.takesPulses d && ps.any fun p => decide (p.line = l))) := by
  induction ps generalizing s with
  | nil => exact ⟨(s.core d).ipend, rfl, by simp⟩
  | cons p ps ih =>
    have htakes : (s.deliver p).takesPulses d = s.takesPulses d := by rw [State.rest_deliver]; rfl
    obtain ⟨y, hy, hbits⟩ := ih (s.deliver p)
    rw [State.core_deliver] at hy
    rw [htakes, State.core_deliver] at hbits
    refine ⟨y, hy.trans ?_, fun l hl => ?_⟩
    · split <;> rfl
    · rw [hbits l hl, List.any_cons]
      cases s.takesPulses d
      · simp
      · simp only [if_true, getLsbD_mark _ _ hl, Bool.or_assoc, Bool.true_and]

theorem State.rest_delivered (ps : List Pulse) :
    ps.foldl State.deliver s = { s with eng := (ps.foldl State.deliver s).eng, cores := (ps.foldl State.deliver s).cores,
                                        tm := (ps.foldl State.deliver s).tm } := by
  refine List.foldlRecOn (motive := fun t : State => t = { s with eng := t.eng, cores := t.cores, tm := t.tm }) _ _ rfl fun t ht p _ => ?_
  rw [State.rest_deliver, ht]

end

/-! ## Delivery (R122) -/

/-- The pulses that entered two ticks ago or earlier. -/
def State.duePulses (s : State) : List Pulse := s.fabric.filter (fun p => decide (p.tick + 2 ≤ s.ticks))
/-- The state once they have left the fabric. -/
def State.afterDue (s : State) : State := { s with fabric := s.fabric.filter (fun p => !decide (p.tick + 2 ≤ s.ticks)) }

theorem exec_eventDelivery (s : State) : exec .eventDelivery s = .next (s.duePulses.foldl State.deliver s.afterDue) := rfl

theorem State.duePulses_of_none {s : State} (h : ∀ p ∈ s.fabric, s.ticks < p.tick + 2) : s.duePulses = [] :=
  List.filter_eq_nil_iff.2 fun p hp => by simpa using h p hp

theorem State.afterDue_of_none {s : State} (h : ∀ p ∈ s.fabric, s.ticks < p.tick + 2) : s.afterDue = s := by
  have hall : s.fabric.filter (fun p => !decide (p.tick + 2 ≤ s.ticks)) = s.fabric :=
    List.filter_eq_self.2 fun p hp => by simpa using h p hp
  rw [State.afterDue, hall]

/-- Settles O28: the waits by the cases of a wait, the delivery by core_delivered. -/
theorem pulsesReachWaitsAndReceivers : Obligations.PulsesReachWaitsAndReceivers := by
  unfold Obligations.PulsesReachWaitsAndReceivers
  refine ⟨⟨?issue, ?wait⟩, ?delivery⟩
  case issue =>
    intro core rd line s he h s0 x e
    have hticks : s0.ticks = s.ticks := by rw [show s0 = _ from h.begun_engine he]; rfl
    refine ⟨fun hset => ⟨_, h.evwait_latched rd line hset, ?_, ?_⟩, fun hclear => ⟨_, h.evwait_waits rd line hclear, ?_, ?_⟩⟩
    · rw [State.result, State.core_advance]
      exact (show x.SameRegs x from ⟨rfl, rfl, rfl, rfl, rfl, rfl⟩).wroteG core rd 0
    · rw [State.result, State.engine_advance, State.engine_setEngine_same]
      exact ⟨rfl, fun l => getLsbD_clear _ _ l⟩
    · rw [State.setWait, State.core_setEngine, State.core_advance]
      exact (show x.SameRegs x from ⟨rfl, rfl, rfl, rfl, rfl, rfl⟩).wroteNone core
    · rw [State.setWait, State.engine_setEngine_same, ← hticks]
      exact ⟨rfl, rfl⟩
  case wait =>
    intro e line rd issue arrived s hrd hw hlive x
    refine ⟨fun ha => ⟨_, State.evwaitPulse_arrived hw hlive ha, ?_⟩,
      fun ha hlimit hdue => ⟨_, State.evwaitTimeout_due hw hlive ha hlimit hdue, ?_⟩,
      State.evwaitTimeout_early hw, fun ha hp l hl => ⟨?_, ?_⟩⟩
    · beta_reduce
      rw [State.engine_setCore, State.setWait, State.engine_setEngine_same, State.core_setCore_same, Core.pc_setG]
      exact ⟨rfl, rfl, fun hne => (Core.gr_setG ..).trans (if_pos ⟨rfl, hne⟩), rfl, rfl⟩
    · obtain ⟨hmark, hcount⟩ := ((s.setWait e .none).setCore (20 + e.val) (x.setG rd 1)).fld_mark_count (f := F.SE_STAT_EV_TIMEOUT e)
        (g := F.SE_LATE_COUNT_EV_TIMEOUTS e) (by decide : 2 ≤ 31) rfl (by decide : 15 ≤ 31) (stat_ne_lateCount _)
      refine ⟨?_, fun hne => ?_, hmark, hcount⟩
      · rw [State.count, State.engine_setFld, State.engine_setFld, State.engine_setCore, State.setWait, State.engine_setEngine_same]
      · rw [State.count, State.core_setFld, State.core_setFld, State.core_setCore_same, Core.gr_setG, if_pos ⟨rfl, hne⟩]
    · rintro rfl
      rw [State.pulseEngine_awaited hw ha hp, State.setWait, State.engine_setEngine_same]
      exact ⟨rfl, rfl⟩
    · intro hne
      rw [State.pulseEngine_other hw ha hp hne, State.engine_setEngine_same]
      exact ⟨rfl, (getLsbD_mark _ _ hl).trans (by simp)⟩
  case delivery =>
    intro s
    refine ⟨_, exec_eventDelivery s, ?left, ?stays, ?pending, ?registers, ?nothing⟩
    case left =>
      rw [State.rest_delivered]
      simp [State.afterDue]
    case stays =>
      intro p hp hearly
      rw [State.rest_delivered]
      simpa [State.afterDue, hp] using hearly
    case pending =>
      intro c hc l hl
      obtain ⟨y, hy, hbits⟩ := s.afterDue.core_delivered s.duePulses c
      rw [hy, hbits l hl]
      constructor
      · rintro ⟨p, hp, hline, hdue⟩ hpow hheld
        have hmem : p ∈ s.duePulses := List.mem_filter.2 ⟨hp, decide_eq_true hdue⟩
        have htakes : s.afterDue.takesPulses c = true := by
          have hpow' : s.afterDue.powered (coreDomain c) = true := hpow
          have hheld' : s.afterDue.held c = false := hheld
          rw [State.takesPulses, List.contains_iff_mem.2 hc, hpow', hheld']
          rfl
        rw [htakes, List.any_eq_true.2 ⟨p, hmem, decide_eq_true hline⟩]
        simp
      · intro hnone
        have hany : (s.duePulses.any fun p => decide (p.line = l)) = false := List.any_eq_false.2 fun p hp => by
          obtain ⟨hp, hdue⟩ := List.mem_filter.1 hp
          simpa using hnone p hp (of_decide_eq_true hdue)
        rw [hany, Bool.and_false, Bool.or_false]
        rfl
    case registers =>
      intro c r
      obtain ⟨y, hy, -⟩ := s.afterDue.core_delivered s.duePulses c
      rw [hy]
      exact ⟨rfl, rfl⟩
    case nothing =>
      intro hnone
      rw [State.duePulses_of_none hnone, State.afterDue_of_none hnone]
      rfl

end Sys2Proof.Machine
end

section
/-!
SUPPORT. Numbers in an engine's local memory as bytes (R110), and the record of a radio command as a completion leaves it (R124).
-/
namespace Sys2Proof.Machine

/-! ## Numbers and their bytes (R10) -/

theorem leNat_leBytes (n v : Nat) : leNat (leBytes n v) = v % 256 ^ n := by
  induction n generalizing v with
  | zero => simp [leBytes, leNat, Nat.mod_one]
  | succ n ih =>
    have hsplit : v % 256 ^ (n + 1) = v % 2 ^ 8 + 256 * (v / 256 % 256 ^ n) := Nat.pow_succ' (m := 256) ▸ Nat.mod_mul
    rw [leBytes, leNat, ih, BitVec.toNat_ofNat, hsplit]

theorem leBytes_eq_map (n v : Nat) : leBytes n v = (List.range n).map fun i => BitVec.ofNat 8 (v / 256 ^ i) :=
  List.ext_getElem (by simp [length_leBytes]) fun i hi _ => by simp [getElem_leBytes v hi]

/-- A byte of an engine's local memory in its view. -/
def Engine.byteAt (x : Engine) (a : Nat) : Byte := SMap.get lmDefault x.lm (lmPhys x.active a)

theorem Engine.bytes_eq_map (x : Engine) (a n : Nat) : x.bytes a n = (List.range n).map fun i => x.byteAt (a + i) := by
  induction n generalizing a with
  | zero => rfl
  | succ n ih =>
    rw [Engine.bytes, ih, List.range_succ_eq_map, List.map_cons, List.map_map]
    refine congrArg _ (List.map_congr_left fun i _ => ?_)
    rw [Function.comp, Nat.add_right_comm, Nat.add_assoc]

theorem Engine.length_bytes (x : Engine) (a n : Nat) : (x.bytes a n).length = n := by simp [Engine.bytes_eq_map]

theorem Engine.rd_lt (x : Engine) (a n : Nat) : x.rd a n < 256 ^ n := by
  have h := leNat_lt (x.bytes a n)
  rwa [x.length_bytes] at h

theorem lmPhys_injective {active a b : Nat} (h : lmPhys active b = lmPhys active a) : b = a := by
  unfold lmPhys at h
  split_ifs at h <;> omega

theorem Engine.byteAt_wr (x : Engine) (a n v b : Nat) :
    (x.wr a n v).byteAt b = if a ≤ b ∧ b < a + n then BitVec.ofNat 8 (v / 256 ^ (b - a)) else x.byteAt b := by
  rw [Engine.wr, Engine.setBytes_eq, Engine.byteAt]
  exact get_putAt x.lm v fun _ _ _ h => lmPhys_injective h

/-- A number reads as it was written. -/
theorem Engine.rd_wr_same (x : Engine) (a n v : Nat) : (x.wr a n v).rd a n = v % 256 ^ n := by
  have hbytes : (x.wr a n v).bytes a n = leBytes n v := by
    rw [Engine.bytes_eq_map, leBytes_eq_map]
    refine List.map_congr_left fun i hi => ?_
    have hi := List.mem_range.1 hi
    rw [Engine.byteAt_wr, if_pos (by omega), Nat.add_sub_cancel_left]
  rw [Engine.rd, hbytes, leNat_leBytes]

/-- A number elsewhere reads as before. -/
theorem Engine.rd_wr_other (x : Engine) {a n b m : Nat} (v : Nat) (h : b + m ≤ a ∨ a + n ≤ b) : (x.wr a n v).rd b m = x.rd b m := by
  have hbytes : (x.wr a n v).bytes b m = x.bytes b m := by
    rw [Engine.bytes_eq_map, Engine.bytes_eq_map]
    refine List.map_congr_left fun i hi => ?_
    have hi := List.mem_range.1 hi
    rw [Engine.byteAt_wr, if_neg (by omega)]
  rw [Engine.rd, hbytes, ← Engine.rd]

/-! ## Bit 7 of a byte: DONE of a record's FLAGS (R124) -/

theorem done_set {n : Nat} (h : n < 256) : n ||| 0x80 = n % 128 + 128 := by
  have hor : 0x80 + n % 128 = 0x80 ||| n % 128 := Nat.two_pow_add_eq_or_of_lt (i := 7) (Nat.mod_lt n (by decide)) 1
  have hcases : n = n % 128 ∨ n = 0x80 ||| n % 128 := by omega
  rw [Nat.add_comm, hor]
  rcases hcases with hlow | hhigh
  · rw [← hlow, Nat.or_comm]
  · conv_lhs => rw [hhigh, Nat.or_right_comm, Nat.or_self]

theorem done_clear (n : Nat) : n &&& 0x7F = n % 128 := Nat.and_two_pow_sub_one_eq_mod n 7

/-- A byte whose DONE bit is cleared. -/
theorem Engine.rd_clear (x : Engine) (a : Nat) : (x.wr a 1 (x.rd a 1 &&& 0x7F)).rd a 1 = x.rd a 1 % 128 := by
  rw [Engine.rd_wr_same, done_clear]
  omega

/-- The fields of a record that a completion has written (R124). -/
theorem State.rd_writeRecord (s : State) (r a t : Nat) {code : Nat} (hcode : code < 256) :
    let x := (s.writeRecord r a code t).engine r
    x.rd (a + 3) 1 = code ∧ x.rd (a + 1) 1 = (s.engine r).rd (a + 1) 1 % 128 + 128 ∧
    x.rd (a + 8) 8 = t / secU % 2 ^ 32 * 2 ^ 32 + t % secU / 2 ^ 32 ∧ x.rd (a + 16) 2 = t % 2 ^ 32 / 2 ^ 16 := by
  intro x
  have hpack : packNt t < 256 ^ 8 := by
    obtain ⟨hsec, hns⟩ := packNt_parts t
    omega
  have hfrac : ntFrac t < 256 ^ 2 := by
    rw [ntFrac, nsU_eq]
    omega
  have hdone := ((s.engine r).rd_lt (a + 1) 1)
  simp only [x, State.writeRecord, State.engine_setEngine_same]
  refine ⟨?_, ?_, ?_, ?_⟩
  · rw [Engine.rd_wr_other _ _ (by omega), Engine.rd_wr_other _ _ (by omega), Engine.rd_wr_other _ _ (by omega), Engine.rd_wr_same,
      Nat.mod_eq_of_lt (by omega)]
  · rw [Engine.rd_wr_same, Engine.rd_wr_other _ _ (by omega), Engine.rd_wr_other _ _ (by omega), Engine.rd_wr_other _ _ (by omega),
      done_set (by omega), Nat.mod_eq_of_lt (by omega)]
  · rw [Engine.rd_wr_other _ _ (by omega), Engine.rd_wr_other _ _ (by omega), Engine.rd_wr_same, Nat.mod_eq_of_lt hpack]
    rfl
  · rw [Engine.rd_wr_other _ _ (by omega), Engine.rd_wr_same, Nat.mod_eq_of_lt hfrac]
    rfl

end Sys2Proof.Machine
end

section
/-!
SUPPORT. What reception, the link unit, the buffer pools and the arbiter leave of the radios: the chains, the engines, the front ends, the
duty ring, every pulse in the fabric and the status registers of the radios.
-/
namespace Sys2Proof.Machine

/-- A register that is no radio's RFx_STAT. -/
abbrev OffRadioStat (a : Nat) : Prop := ∀ r, r < 3 → R.RF_STAT r ≠ a

/-- The state differs in what lies around the radios alone: registers, the fabric, which keeps its pulses, the memory arrays, the
reception queues, the arbiter, the link unit, the slot tables and the lanes. -/
structure State.KeepsRadios (z t : State) : Prop where
  rest   : t = { z with
    regs := t.regs, fabric := t.fabric, arrays := t.arrays, rq := t.rq, arb := t.arb, lnk := t.lnk, acc := t.acc, lanes := t.lanes }
  fabric : ∀ p ∈ z.fabric, p ∈ t.fabric
  stat   : ∀ r, r < 3 → t.reg (R.RF_STAT r) = z.reg (R.RF_STAT r)

theorem State.mem_fabric_pulse (s : State) (l : Nat) {p : Pulse} (hp : p ∈ s.fabric) : p ∈ (s.pulse l).fabric := by
  unfold State.pulse
  split
  · exact hp
  · exact List.mem_append_left _ hp

theorem State.rest_pulse (s : State) (l : Nat) : s.pulse l = { s with fabric := (s.pulse l).fabric } := by
  unfold State.pulse
  split <;> rfl

namespace State.KeepsRadios

variable {z s : State}

theorem refl (s : State) : s.KeepsRadios s := ⟨rfl, fun _ hp => hp, fun _ _ => rfl⟩

theorem trans {t : State} (h : z.KeepsRadios s) (k : s.KeepsRadios t) : z.KeepsRadios t where
  rest := k.rest.trans (by rw [h.rest])
  fabric p hp := k.fabric p (h.fabric p hp)
  stat r hr := (k.stat r hr).trans (h.stat r hr)

theorem foldl {α : Type} {f : State → α → State} (l : List α) (h : z.KeepsRadios s)
    (hf : ∀ s x, z.KeepsRadios s → z.KeepsRadios (f s x)) : z.KeepsRadios (l.foldl f s) :=
  List.foldlRecOn _ _ h fun s hs x _ => hf s x hs

theorem setFld (h : z.KeepsRadios s) {f : FRef} (v : Nat) (hf : OffRadioStat f.addr) : z.KeepsRadios (s.setFld f v) :=
  h.trans ⟨rfl, fun _ hp => hp, fun r hr => s.reg_setReg_other _ (hf r hr)⟩

theorem count (h : z.KeepsRadios s) {f : FRef} (hf : OffRadioStat f.addr) (n : Nat := 1) : z.KeepsRadios (s.count f n) := h.setFld _ hf

theorem pulse (h : z.KeepsRadios s) (l : Nat) : z.KeepsRadios (s.pulse l) :=
  h.trans ⟨by rw [State.rest_pulse], fun _ hp => s.mem_fabric_pulse l hp, fun _ _ => State.reg_pulse ..⟩

theorem setArb (h : z.KeepsRadios s) (a : ArbState) : z.KeepsRadios (s.setArb a) := h.trans ⟨rfl, fun _ hp => hp, fun _ _ => rfl⟩

theorem setLnk (h : z.KeepsRadios s) (l : LinkState) : z.KeepsRadios (s.setLnk l) := h.trans ⟨rfl, fun _ hp => hp, fun _ _ => rfl⟩

theorem setRq (h : z.KeepsRadios s) (r : RqState) : z.KeepsRadios (s.setRq r) := h.trans ⟨rfl, fun _ hp => hp, fun _ _ => rfl⟩

theorem setAcc (h : z.KeepsRadios s) (r : Nat) (a : AccState) : z.KeepsRadios (s.setAcc r a) := h.trans ⟨rfl, fun _ hp => hp, fun _ _ => rfl⟩

theorem setLane (h : z.KeepsRadios s) (r n : Nat) (l : Lane) : z.KeepsRadios (s.setLane r n l) :=
  h.trans ⟨rfl, fun _ hp => hp, fun _ _ => rfl⟩

/-! ## Misses and contexts (R227, R335) -/

theorem arbReqStat (h : z.KeepsRadios s) (r : Nat) : z.KeepsRadios (s.arbReqStat r) :=
  have hoff : OffRadioStat (R.ARB_REQ r) := fun i hi => by unfold R.ARB_REQ R.RF_STAT; omega
  (h.setFld _ hoff).setFld _ hoff

theorem storeCtx (h : z.KeepsRadios s) (c : Nat) (x : List Byte) : z.KeepsRadios (s.storeCtx c x) :=
  (((h.setLnk _).setArb _).setFld _ (by decide)).arbReqStat 24

theorem pushLost (h : z.KeepsRadios s) (c : Nat) : z.KeepsRadios (s.pushLost c) := by
  unfold State.pushLost
  split
  · exact h.setFld _ (by decide)
  · exact ((h.setLnk _).setFld _ (by decide)).setFld _ (by decide)

theorem driftMiss (h : z.KeepsRadios s) (c : Nat) : z.KeepsRadios (s.driftMiss c) := by
  unfold State.driftMiss
  dsimp only
  split
  · exact h
  · split
    · exact h.storeCtx c _
    · exact (((h.storeCtx c _).count (by decide)).pushLost c).pulse 36

theorem settleWatch (h : z.KeepsRadios s) (w : DrlWatch) : z.KeepsRadios (s.settleWatch w) := by
  unfold State.settleWatch
  dsimp only
  split
  · exact h
  · split
    · exact h.setLnk _
    · split
      · exact h
      · exact (h.setLnk _).driftMiss _

theorem settleMisses (h : z.KeepsRadios s) : z.KeepsRadios s.settleMisses := h.foldl _ fun _ w hs => hs.settleWatch w

/-! ## Records that begin or end before their commit (R281 to R285) -/

theorem setWrong (h : z.KeepsRadios s) (a n : Nat) : z.KeepsRadios (s.setWrong a n) := h.trans ⟨rfl, fun _ hp => hp, fun _ _ => rfl⟩

theorem logSpm (h : z.KeepsRadios s) (a : Nat) (ue march : Bool) : z.KeepsRadios (s.logSpm a ue march) := by
  unfold State.logSpm
  split
  · exact h
  · exact (((h.setFld _ (by decide)).setFld _ (by decide)).setFld _ (by decide)).setFld _ (by decide)

theorem logDmc (h : z.KeepsRadios s) (a : Nat) (ue : Bool) : z.KeepsRadios (s.logDmc a ue) := by
  unfold State.logDmc
  split
  · exact h
  · exact (((h.setFld _ (by decide)).setFld _ (by decide)).setFld _ (by decide)).setFld _ (by decide)

theorem corrected (h : z.KeepsRadios s) (a : Nat) : z.KeepsRadios (s.corrected a) := by
  unfold State.corrected
  dsimp only
  split
  · exact (((h.setWrong a 0).count (by decide)).setFld _ (by decide)).logDmc a false
  · exact (((h.setWrong a 0).count (by decide)).setFld _ (by decide)).logSpm a false false

theorem uncorrectable (h : z.KeepsRadios s) (a : Nat) : z.KeepsRadios (s.uncorrectable a) := by
  unfold State.uncorrectable
  split
  · exact ((h.count (by decide)).setFld _ (by decide)).logDmc a true
  · exact ((h.count (by decide)).setFld _ (by decide)).logSpm a true false

theorem seen (h : z.KeepsRadios s) (a n : Nat) : z.KeepsRadios (s.seen a n) := by
  refine h.foldl _ fun s x hs => ?_
  unfold State.seenWord
  split
  · exact hs
  · split
    · exact hs.corrected _
    · exact hs.uncorrectable _

theorem setStash (h : z.KeepsRadios s) (b : Nat) (l : List Nat) : z.KeepsRadios (s.setStash b l) :=
  (h.setRq _).setFld _ fun r hr => by
    show R.RF_STAT r ≠ R.RQ_POOL_CFG b
    unfold R.RQ_POOL_CFG R.RF_STAT
    omega

theorem ringBuffer (h : z.KeepsRadios s) (b n : Nat) : z.KeepsRadios (s.ringBuffer b n).1 := by
  induction n generalizing s with
  | zero => exact h
  | succ n ih =>
    have hoff : OffRadioStat (R.RQ_POOL_PTR b) := fun r hr => by unfold R.RQ_POOL_PTR R.RF_STAT; omega
    unfold State.ringBuffer
    dsimp only
    split
    · exact h
    · split
      · exact (h.seen _ 4).setFld _ hoff
      · exact ih (((h.seen _ 4).setFld _ hoff).count (by decide))

theorem takeBuffer (h : z.KeepsRadios s) (b : Nat) : z.KeepsRadios (s.takeBuffer b).1 := by
  unfold State.takeBuffer
  split
  · exact h
  · split
    · exact h.setStash b _
    · split
      · exact h
      · exact h.ringBuffer b _

theorem rqGrow (h : z.KeepsRadios s) (id len n : Nat) : z.KeepsRadios (s.rqGrow id len n).1 := by
  induction n generalizing s with
  | zero => exact h
  | succ n ih =>
    unfold State.rqGrow
    split
    · exact h
    · next r _ =>
      split
      · exact h
      · have htake := h.takeBuffer r.pool
        split
        · next heq =>
          rw [heq] at htake
          exact htake
        · next heq =>
          rw [heq] at htake
          exact ih (htake.setRq _)

theorem rewind (h : z.KeepsRadios s) (id : Nat) (noBuffer : Bool) : z.KeepsRadios (s.rewind id noBuffer) := by
  unfold State.rewind
  split
  · exact h
  · next r _ =>
    have hstash : z.KeepsRadios (if r.bufs.isEmpty then s.setRq { s.rq with recs := s.rq.recs.filter (fun x => x.id != id) }
        else (s.setRq { s.rq with recs := s.rq.recs.filter (fun x => x.id != id) }).setStash r.pool
          (r.bufs.reverse ++ (s.setRq { s.rq with recs := s.rq.recs.filter (fun x => x.id != id) }).stash r.pool)) := by
      split
      · exact h.setRq _
      · exact (h.setRq _).setStash _ _
    dsimp only
    split
    · exact (hstash.count (by decide)).pulse 35
    · exact hstash.count (by decide)

theorem rqReserve (h : z.KeepsRadios s) (id len : Nat) : z.KeepsRadios (s.rqReserve id len).1 := by
  have hgrow := h.rqGrow id len 512
  unfold State.rqReserve
  split
  · next heq =>
    rw [heq] at hgrow
    exact hgrow.setRq _
  · next heq =>
    rw [heq] at hgrow
    exact hgrow.rewind id true

theorem rqStart (h : z.KeepsRadios s) (q kind : Nat) : z.KeepsRadios (s.rqStart q kind).1 := by
  unfold State.rqStart
  split
  · exact h.count (by decide)
  · exact h.count (by decide)
  · exact h.setRq _

/-- A record that has the bytes that came ends rewound. -/
theorem reserveRewind (h : z.KeepsRadios s) (id len : Nat) :
    z.KeepsRadios (match s.rqReserve id len with | (t, true) => t.rewind id false | (t, false) => t) := by
  have hres := h.rqReserve id len
  split
  · next heq =>
    rw [heq] at hres
    exact hres.rewind id false
  · next heq =>
    rw [heq] at hres
    exact hres

theorem ghostRecord (h : z.KeepsRadios s) (q len : Nat) : z.KeepsRadios (s.ghostRecord q len) := by
  have hstart := h.rqStart q 1
  unfold State.ghostRecord
  split
  · next heq =>
    rw [heq] at hstart
    exact hstart
  · next heq =>
    rw [heq] at hstart
    exact hstart.reserveRewind _ _

theorem endRecord (h : z.KeepsRadios s) (q : Nat) (rec : Option (Option Nat)) (len : Nat) : z.KeepsRadios (s.endRecord q rec len) := by
  unfold State.endRecord
  split
  · exact h.ghostRecord q len
  · exact h
  · exact h.reserveRewind _ _

/-! ## Lanes and cuts (R139, R170) -/

theorem cutRecord (h : z.KeepsRadios s) (r : Nat) (f : RxFrame) : z.KeepsRadios (s.cutRecord r f) := by
  unfold State.cutRecord
  split
  · exact h.endRecord _ _ _
  · exact h

theorem cutFrames (h : z.KeepsRadios s) (r k : Nat) : z.KeepsRadios (s.cutFrames r k) := by
  unfold State.cutFrames
  dsimp only
  refine (h.foldl _ fun s x hs => State.KeepsRadios.cutRecord (hs.setLane r x.1 _) r x.2).count (fun i hi => ?_) _
  show R.RF_STAT i ≠ R.RF_COUNT r
  unfold R.RF_COUNT R.RF_STAT
  omega

theorem unreserve (h : z.KeepsRadios s) (r : Nat) (lane : Option Nat) : z.KeepsRadios (s.unreserve r lane) := by
  unfold State.unreserve
  split
  · exact h.setLane _ _ _
  · exact h

theorem keepBranches (h : z.KeepsRadios s) (r : Nat) : z.KeepsRadios (s.keepBranches r) := by
  unfold State.keepBranches
  split
  · exact h
  · exact h.foldl _ fun s x hs => hs.setLane _ _ _

theorem watchOver (h : z.KeepsRadios s) (r : Nat) (q : QCmd) (ok : Bool) : z.KeepsRadios (s.watchOver r q ok) := by
  unfold State.watchOver
  dsimp only
  split
  · exact (h.setLnk _).settleMisses
  · exact h.setLnk _

/-! ## Acknowledgements and slot entries (R203, R221) -/

theorem ackFailed (h : z.KeepsRadios s) (id : Nat) : z.KeepsRadios (s.ackFailed id) := by
  unfold State.ackFailed
  split
  · exact h
  · split
    · exact h.setLnk _
    · exact (h.setLnk _).count (by decide)

theorem ackSent (h : z.KeepsRadios s) (id : Nat) : z.KeepsRadios (s.ackSent id) := by
  unfold State.ackSent
  split
  · exact h
  · refine (h.setLnk _).count ?_
    split <;> decide

theorem occDone (h : z.KeepsRadios s) (r : Nat) (o : Occ) (status : Nat) : z.KeepsRadios (s.occDone r o status) := by
  unfold State.occDone
  dsimp only
  split
  · exact (h.setAcc _ _).setAcc _ _
  · exact h.setAcc _ _

/-! ## What they leave -/

theorem chains (h : z.KeepsRadios s) : s.chains = z.chains := by rw [h.rest]

theorem eng (h : z.KeepsRadios s) : s.eng = z.eng := by rw [h.rest]

theorem cores (h : z.KeepsRadios s) : s.cores = z.cores := by rw [h.rest]

theorem fem (h : z.KeepsRadios s) : s.fem = z.fem := by rw [h.rest]

theorem duty (h : z.KeepsRadios s) : s.duty = z.duty := by rw [h.rest]

theorem chain (h : z.KeepsRadios s) (r k : Nat) : s.chain r k = z.chain r k := by rw [State.chain, State.chain, h.chains]

end State.KeepsRadios

end Sys2Proof.Machine
end

section
/-!
SUPPORT. Chains and what a completion leaves of them: a queued command or an action that ends writes its record (R124) and spares its chain's
queue, action and ABORTs (R127, R140).
-/
namespace Sys2Proof.Machine

/-! ## A chain that is set (R127) -/

section
variable (s : State) (r k : Nat) (h : Chain)

@[simp] theorem State.chain_setChain_same : (s.setChain r k h).chain r k = h := SMap.get_set_same _ _ _

theorem State.chain_setChain_other {r k j i : Nat} (hne : 4 * j + i ≠ 4 * r + k) : (s.setChain r k h).chain j i = s.chain j i :=
  SMap.get_set_other _ _ hne

@[simp] theorem State.engine_setChain (e : Nat) : (s.setChain r k h).engine e = s.engine e := rfl

@[simp] theorem State.chain_count (f : FRef) (n : Nat) : (s.count f n).chain r k = s.chain r k := rfl

@[simp] theorem State.chain_releaseDuty (id : Nat) : (s.releaseDuty id).chain r k = s.chain r k := rfl

@[simp] theorem State.chain_pulse (l : Nat) : (s.pulse l).chain r k = s.chain r k := by rw [State.rest_pulse]; rfl

@[simp] theorem State.engine_pulse (l e : Nat) : (s.pulse l).engine e = s.engine e := by rw [State.rest_pulse]; rfl

end

theorem State.now_setFld (s : State) {f : FRef} (v : Nat) (hf : f.addr ≠ F.TSEL_STAT_CUR.addr) : (s.setFld f v).now = s.now := by
  have hcur : (s.setFld f v).cur = s.cur := by rw [State.cur, State.fld, State.reg_setFld_other _ _ hf.symm]; rfl
  rw [State.now, hcur]
  rfl

theorem State.now_count (s : State) {f : FRef} (n : Nat) (hf : f.addr ≠ F.TSEL_STAT_CUR.addr) : (s.count f n).now = s.now := s.now_setFld _ hf

/-- The chain keeps its queue, its action, its ABORTs, the end it counts turn-rounds from, its trims and its set, and takes up no LISTEN. -/
structure Chain.Keeps (x y : Chain) : Prop where
  queue   : y.queue = x.queue
  act     : y.act = x.act
  aborts  : y.aborts = x.aborts
  lastEnd : y.lastEnd = x.lastEnd
  lastTx  : y.lastTx = x.lastTx
  lastWin : y.lastWin = x.lastWin
  trims   : y.trims = x.trims
  calOld  : y.calOld = x.calOld
  listen  : x.listen = none → y.listen = none

theorem Chain.Keeps.refl (x : Chain) : x.Keeps x := ⟨rfl, rfl, rfl, rfl, rfl, rfl, rfl, rfl, id⟩

theorem Chain.Keeps.trans {x y z : Chain} (h : x.Keeps y) (k : y.Keeps z) : x.Keeps z :=
  ⟨k.queue.trans h.queue, k.act.trans h.act, k.aborts.trans h.aborts, k.lastEnd.trans h.lastEnd, k.lastTx.trans h.lastTx,
    k.lastWin.trans h.lastWin, k.trims.trans h.trims, k.calOld.trans h.calOld, fun hl => k.listen (h.listen hl)⟩

/-! ## What spares a chain -/

/-- The step keeps what chain k of radio r keeps, the cores, the engines, the front ends and every pulse in the fabric. -/
structure State.Spares (r k : Nat) (z t : State) : Prop where
  chain  : (z.chain r k).Keeps (t.chain r k)
  cores  : t.cores = z.cores
  eng    : t.eng = z.eng
  fem    : t.fem = z.fem
  fabric : ∀ p ∈ z.fabric, p ∈ t.fabric

theorem State.Spares.trans {r k : Nat} {z s t : State} (h : z.Spares r k s) (j : s.Spares r k t) : z.Spares r k t :=
  ⟨h.chain.trans j.chain, j.cores.trans h.cores, j.eng.trans h.eng, j.fem.trans h.fem, fun p hp => j.fabric p (h.fabric p hp)⟩

theorem State.KeepsRadios.spares {z t : State} (h : z.KeepsRadios t) (r k : Nat) : z.Spares r k t :=
  ⟨h.chain r k ▸ .refl _, h.cores, h.eng, h.fem, h.fabric⟩

theorem State.spares_setChain (s : State) {r k : Nat} {h : Chain} (hk : (s.chain r k).Keeps h) : s.Spares r k (s.setChain r k h) :=
  ⟨(s.chain_setChain_same r k h).symm ▸ hk, rfl, rfl, rfl, fun _ hp => hp⟩

theorem State.spares_afterAction (s : State) (r k : Nat) : s.Spares r k (s.afterAction r k) := by
  have hrefl := (State.KeepsRadios.refl s).spares r k
  unfold State.afterAction
  extract_lets c
  split
  · next l hl _ =>
    have hset (h : Chain) (hk : c.Keeps h) : s.Spares r k (s.setChain r k h) := s.spares_setChain hk
    split
    · exact hrefl
    · extract_lets back gap at_
      split
      · exact hrefl
      · split
        · exact hset _ ⟨rfl, rfl, rfl, rfl, rfl, rfl, rfl, rfl, fun h => absurd (hl.symm.trans h) nofun⟩
        · exact hset _ ⟨rfl, rfl, rfl, rfl, rfl, rfl, rfl, rfl, fun h => absurd (hl.symm.trans h) nofun⟩
  · exact hrefl

/-! ## Records (R124) -/

theorem State.Recorded.mono {s t u : State} {r : Nat} {q : QCmd} {code at_ : Nat} (h : s.Recorded t r q code at_) (heng : u.eng = t.eng)
    (hfab : ∀ p ∈ t.fabric, p ∈ u.fabric) : s.Recorded u r q code at_ := by
  have hengine : u.engine r = t.engine r := by rw [State.engine, State.engine, heng]
  intro a ha
  obtain ⟨hcode, hdone, hnt, hfrac, hline⟩ := h a ha
  rw [hengine]
  exact ⟨hcode, hdone, hnt, hfrac, fun he hlo hhi => (hline he hlo hhi).imp fun p hp => ⟨hfab p hp.1, hp.2⟩⟩

/-- A record tells what it told from any state with the same record before. -/
theorem State.Recorded.from {s z t : State} {r : Nat} {q : QCmd} {code at_ : Nat} (h : z.Recorded t r q code at_) (heng : z.engine r = s.engine r) :
    s.Recorded t r q code at_ := by
  unfold State.Recorded at h ⊢
  rwa [heng] at h

/-- The line a completion pulses is in the fabric. -/
theorem State.fabric_pulseFree (s : State) {l : Nat} (hlo : 64 ≤ l) (hhi : l ≤ 255) : ∃ p ∈ (s.pulseFree l).fabric, p.line = l := by
  rw [State.pulseFree, if_pos ⟨hlo, hhi⟩]
  exact ⟨_, s.pulse_in_fabric l, rfl⟩

theorem State.keepsRadios_pulseFree (s : State) (l : Nat) : s.KeepsRadios (s.pulseFree l) := by
  unfold State.pulseFree
  split
  · exact (State.KeepsRadios.refl s).pulse l
  · exact .refl s

/-- A record as a completion leaves it, with its line. -/
theorem State.recorded_writeRecord (s : State) (r : Nat) (q : QCmd) (a t : Nat) {code : Nat} (hcode : code < 256) (hrec : q.recAt = some a) :
    s.Recorded (if q.evt then (s.writeRecord r a code t).pulseFree q.doneEv else s.writeRecord r a code t) r q code t := by
  intro b hb
  obtain rfl : a = b := Option.some.inj (hrec.symm.trans hb)
  obtain ⟨hst, hdone, hnt, hfrac⟩ := s.rd_writeRecord r a t hcode
  have hengine : (if q.evt then (s.writeRecord r a code t).pulseFree q.doneEv else s.writeRecord r a code t).engine r =
      (s.writeRecord r a code t).engine r := by
    split
    · rw [State.engine, (State.keepsRadios_pulseFree _ _).eng]
      rfl
    · rfl
  rw [hengine]
  refine ⟨hst, hdone, hnt, hfrac, fun he hlo hhi => ?_⟩
  rw [if_pos he]
  exact State.fabric_pulseFree _ hlo hhi

/-! ## Completions (R124) -/

/-- The command has completed: its chain keeps what it keeps, its record holds the code and the NT, and a refusal pulses its line. -/
structure State.Completed (r k : Nat) (c : QCmd) (code at_ : Nat) (z t : State) : Prop where
  chain   : (z.chain r k).Keeps (t.chain r k)
  cores   : t.cores = z.cores
  fem     : t.fem = z.fem
  fabric  : ∀ p ∈ z.fabric, p ∈ t.fabric
  record  : z.Recorded t r c code at_
  refused : code = Status.refusedRegulatory.code → ∃ p ∈ t.fabric, p.line = 27 + r

theorem State.Completed.after {r k code at_ : Nat} {c : QCmd} {z t u : State} (h : State.Completed r k c code at_ z t) (hs : t.Spares r k u) :
    State.Completed r k c code at_ z u :=
  ⟨h.chain.trans hs.chain, hs.cores.trans h.cores, hs.fem.trans h.fem, fun p hp => hs.fabric p (h.fabric p hp), h.record.mono hs.eng hs.fabric,
    fun hc => (h.refused hc).imp fun p hp => ⟨hs.fabric p hp.1, hp.2⟩⟩

/-- The record of a completion, and its line. -/
def State.endRecordOf (s : State) (r : Nat) (c : QCmd) (st : Status) (t : Nat) : State :=
  match c.recAt with
  | some a => if c.evt then (s.writeRecord r a st.code t).pulseFree c.doneEv else s.writeRecord r a st.code t
  | none => s

theorem State.endRecordOf_completed (s : State) (r k : Nat) (c : QCmd) (st : Status) (t : Nat) :
    (s.endRecordOf r c st t).chain r k = s.chain r k ∧ (s.endRecordOf r c st t).cores = s.cores ∧ (s.endRecordOf r c st t).fem = s.fem ∧
    (∀ p ∈ s.fabric, p ∈ (s.endRecordOf r c st t).fabric) ∧ s.Recorded (s.endRecordOf r c st t) r c st.code t := by
  unfold State.endRecordOf
  split
  · next a ha =>
    have hrecorded := s.recorded_writeRecord r c a t st.code_lt ha
    split
    · next he =>
      have hkeeps := State.keepsRadios_pulseFree (s.writeRecord r a st.code t) c.doneEv
      rw [if_pos he] at hrecorded
      exact ⟨hkeeps.chain r k, hkeeps.cores, hkeeps.fem, hkeeps.fabric, hrecorded⟩
    · next he =>
      rw [if_neg he] at hrecorded
      exact ⟨rfl, rfl, rfl, fun _ hp => hp, hrecorded⟩
  · next ha => exact ⟨rfl, rfl, rfl, fun _ hp => hp, fun a hc => by simp [ha] at hc⟩

theorem Status.refusedRegulatory_of_code {st : Status} (h : st.code = Status.refusedRegulatory.code) : st = .refusedRegulatory := by
  cases st <;> simp [Status.code] at h ⊢

/-- A command completes. -/
theorem State.endCmd_completed (s : State) (r k : Nat) (c : QCmd) (st : Status) (t : Nat) :
    State.Completed r k c st.code t s (s.endCmd r k c st t) := by
  obtain ⟨hchain, hcores, hfem, hfabric, hrecord⟩ := s.endRecordOf_completed r k c st t
  set s1 := s.endRecordOf r c st t with hs1
  set s2 := if st = Status.refusedRegulatory then s1.pulse (27 + r) else s1 with hs2
  have hpulse : State.Completed r k c st.code t s s2 := by
    have hk : s1.KeepsRadios s2 := by
      rw [hs2]
      split
      · exact (State.KeepsRadios.refl s1).pulse _
      · exact .refl s1
    refine ⟨hk.chain r k ▸ hchain ▸ .refl _, hk.cores.trans hcores, hk.fem.trans hfem, fun p hp => hk.fabric p (hfabric p hp),
      hrecord.mono hk.eng hk.fabric, fun hcode => ?_⟩
    rw [hs2, if_pos (Status.refusedRegulatory_of_code hcode)]
    exact ⟨_, s1.pulse_in_fabric _, rfl⟩
  have hslot : s2.KeepsRadios (match c.slot with | some o => s2.occDone r o st.code | none => s2) := by
    split
    · exact (State.KeepsRadios.refl s2).occDone _ _ _
    · exact .refl s2
  set s3 := match c.slot with | some o => s2.occDone r o st.code | none => s2 with hs3
  have hack : s2.KeepsRadios (match c.ack with | some id => if st = Status.ok then s3.ackSent id else s3.ackFailed id | none => s3) := by
    split
    · split
      · exact hslot.ackSent _
      · exact hslot.ackFailed _
    · exact hslot
  exact (hpulse.after (hack.spares r k)).after (State.spares_afterAction _ r k)

/-- A queued command that fails leaves its queue and completes at the NT of the decision (R127). -/
theorem State.failCmd_completed (s : State) (r k : Nat) (c : QCmd) (st : Status) :
    State.Completed r k c st.code s.now
      (match c.resv with
        | some id => (s.setChain r k { s.chain r k with queue := (s.chain r k).queue.erase c }).releaseDuty id
        | none => s.setChain r k { s.chain r k with queue := (s.chain r k).queue.erase c })
      (s.failCmd r k c st) := State.endCmd_completed ..

/-- What a failed command leaves of its chain, and its record. -/
structure State.Failed (r k : Nat) (c : QCmd) (code at_ : Nat) (z t : State) : Prop where
  chain   : Chain.Keeps { z.chain r k with queue := (z.chain r k).queue.erase c } (t.chain r k)
  cores   : t.cores = z.cores
  record  : z.Recorded t r c code at_
  refused : code = Status.refusedRegulatory.code → ∃ p ∈ t.fabric, p.line = 27 + r

theorem State.failCmd_failed (s : State) (r k : Nat) (c : QCmd) (st : Status) :
    State.Failed r k c st.code s.now s (s.failCmd r k c st) := by
  have h := s.failCmd_completed r k c st
  refine ⟨?_, h.cores.trans ?_, h.record.from ?_, h.refused⟩
  · have hc := h.chain
    split at hc <;> simpa using hc
  · split <;> rfl
  · split <;> rfl

theorem State.Failed.after {r k code at_ : Nat} {c : QCmd} {z t u : State} (h : State.Failed r k c code at_ z t) (hk : t.KeepsRadios u) :
    State.Failed r k c code at_ z u :=
  ⟨h.chain.trans (hk.spares r k).chain, hk.cores.trans h.cores, h.record.mono hk.eng hk.fabric,
    fun hc => (h.refused hc).imp fun p hp => ⟨hk.fabric p hp.1, hp.2⟩⟩

end Sys2Proof.Machine
end

section
/-!
SUPPORT. The ends of actions (R127): transmissions, windows, CCA, calibration steps, a synthesiser's lock, front-end sequences.
-/
namespace Sys2Proof.Machine

/-! ## What follows an action at the front end (R153) -/

section
variable (s : State) (r k : Nat)

@[simp] theorem State.chain_planFem (j kind : Nat) (q : Option (Nat × List FemStep)) (b e i : Nat) :
    (s.planFem r j kind q b e).chain i k = s.chain i k := by
  unfold State.planFem
  split <;> rfl

@[simp] theorem State.eng_planFem (j kind : Nat) (q : Option (Nat × List FemStep)) (b e : Nat) : (s.planFem r j kind q b e).eng = s.eng := by
  unfold State.planFem
  split <;> rfl

theorem State.keepAfter_keeps (p : Option FemAfter) : (s.chain r k).Keeps ((s.keepAfter r k p).chain r k) := by
  rw [State.keepAfter, State.chain_setChain_same]
  exact ⟨rfl, rfl, rfl, rfl, rfl, rfl, rfl, rfl, id⟩

theorem State.planAfter_keeps (t : Nat) :
    (s.chain r k).Keeps ((s.planAfter r k t).chain r k) ∧ (s.planAfter r k t).eng = s.eng := by
  unfold State.planAfter
  split
  · exact ⟨.refl _, rfl⟩
  · simp only [State.chain_planFem, State.eng_planFem]
    exact ⟨s.keepAfter_keeps r k none, rfl⟩

end

/-! ## Actions that end (R127) -/

/-- The action has ended: its chain is free, the turn-rounds count from its end, and its record tells the NT at which it began. -/
def State.ActEnded (r k : Nat) (a : Act) (tx win : Bool) (code : Nat) (s t : State) : Prop :=
  (t.chain r k).act = none ∧ (t.chain r k).lastEnd = some a.ends ∧ (t.chain r k).lastTx = tx ∧ (t.chain r k).lastWin = win ∧
  s.Recorded t r a.cmd code a.cmd.port

section
variable {r k code : Nat} {a : Act} {tx win : Bool} {s z t : State}

theorem State.ActEnded.of_completed {y : Chain} (h : State.Completed r k a.cmd code a.cmd.port z t) (heng : z.engine r = s.engine r)
    (hz : y.Keeps (z.chain r k)) (hact : y.act = none) (hend : y.lastEnd = some a.ends) (htx : y.lastTx = tx) (hwin : y.lastWin = win) :
    State.ActEnded r k a tx win code s t := by
  have hc := hz.trans h.chain
  exact ⟨hc.act.trans hact, hc.lastEnd.trans hend, hc.lastTx.trans htx, hc.lastWin.trans hwin, h.record.from heng⟩

theorem State.ActEnded.after {u : State} (h : State.ActEnded r k a tx win code s t) (hk : t.KeepsRadios u) :
    State.ActEnded r k a tx win code s u := by
  obtain ⟨hact, hend, htx, hwin, hrec⟩ := h
  rw [State.ActEnded, hk.chain]
  exact ⟨hact, hend, htx, hwin, hrec.mono hk.eng hk.fabric⟩

end

theorem State.afterAction_of_listen_none {s : State} {r k : Nat} (h : (s.chain r k).listen = none) : s.afterAction r k = s := by
  unfold State.afterAction
  extract_lets c
  split
  · next l hl _ => exact absurd (h.symm.trans hl) nofun
  · rfl

theorem State.keepsRadios_settleMisses (s : State) : s.KeepsRadios s.settleMisses := (State.KeepsRadios.refl s).settleMisses

theorem State.keepsRadios_seenFrame (s : State) (q : QCmd) : s.KeepsRadios (s.seenFrame q) := by
  unfold State.seenFrame
  split
  · exact .refl s
  · exact (State.KeepsRadios.refl s).seen _ _

section
variable (s : State) (q : QCmd) (air r k : Nat)

@[simp] theorem State.chain_fixCmd : (s.fixCmd q air).chain r k = s.chain r k := by
  unfold State.fixCmd
  split <;> rfl

@[simp] theorem State.engine_fixCmd : (s.fixCmd q air).engine r = s.engine r := by
  unfold State.fixCmd
  split <;> rfl

end

section
variable {s : State} {r : Fin 3} {k : Fin 4} {a : Act} (hact : (s.chain r k).act = some a) (hends : a.ends ≤ s.now)
include hact hends

theorem exec_txLastBit_ended (hkind : a.kind = .tx) : Gives (.txLastBit r k) s (State.ActEnded r k a true false 0 s) := by
  refine ⟨_, rfl, State.ActEnded.after ?_ (State.keepsRadios_settleMisses _)⟩
  set s1 := ((s.seenFrame a.cmd).fixCmd a.cmd (a.ends - a.cmd.port)).clearAct r k a.ends true false with hs1
  set y : Chain := { s1.chain r k with sent := s.framesSent r a.cmd (a.modem.getD (s.modem r a.cmd)) } with hy
  set s2 := (s1.setChain r k y).takeFree.takeFree with hs2
  have hbit : s.txLastBit r k = (s2.planAfter r k a.ends).endCmd r k a.cmd .ok a.cmd.port := by
    unfold State.txLastBit
    rw [hact]
    exact if_pos (And.intro hkind hends)
  obtain ⟨hkeeps, heng⟩ := s2.planAfter_keeps r k a.ends
  have hengine : (s2.planAfter r k a.ends).engine r = s.engine r := by
    rw [State.engine, State.engine, heng, ← (s.keepsRadios_seenFrame a.cmd).eng]
    exact State.engine_fixCmd ..
  rw [show s2.chain r k = y from State.chain_setChain_same ..] at hkeeps
  rw [hbit]
  refine .of_completed (State.endCmd_completed _ _ _ _ .ok _) hengine hkeeps ?_ ?_ ?_ ?_ <;>
    rw [hy, hs1, State.clearAct, State.chain_setChain_same]

theorem exec_rxWindowClose_ended (hkind : a.kind = .win) : Gives (.rxWindowClose r k) s (State.ActEnded r k a false true 0 s) := by
  refine ⟨_, rfl, State.ActEnded.after ?_ (State.keepsRadios_settleMisses _)⟩
  simp only [State.rxClose, hact, hkind, hends, and_self, if_true]
  refine State.ActEnded.after ?_ ((State.KeepsRadios.refl _).watchOver r a.cmd true)
  have hengine : ((s.unreserve r a.lane).clearAct r k a.ends false true).engine r = s.engine r := by
    have heng := ((State.KeepsRadios.refl s).unreserve r a.lane).eng
    rw [State.clearAct, State.engine_setChain, State.engine, heng]
    rfl
  refine .of_completed (State.endCmd_completed _ _ _ _ .ok _) hengine (.refl _) ?_ ?_ ?_ ?_ <;> rw [State.clearAct, State.chain_setChain_same]

theorem exec_ccaEnd_ended (peak : BitVec 16) (hkind : a.kind = .cca) :
    Gives (.ccaEnd r k peak) s (State.ActEnded r k a false true (if s.ccaThresh r k a.cmd < peak.toInt then 3 else 0) s) := by
  refine ⟨_, rfl, State.ActEnded.after ?_ (State.keepsRadios_settleMisses _)⟩
  simp only [State.ccaEnd, hact, hkind, hends, and_self, if_true]
  have hcode : (if s.ccaThresh r k a.cmd < peak.toInt then Status.busy else Status.ok).code =
      if s.ccaThresh r k a.cmd < peak.toInt then 3 else 0 := by split <;> rfl
  rw [← hcode]
  refine .of_completed (State.endCmd_completed ..) rfl (.refl _) ?_ ?_ ?_ ?_ <;> rw [State.clearAct, State.chain_setChain_same]

theorem exec_calStepEnd_ended (trim : Word) (hkind : a.kind = .cal) :
    Gives (.calStepEnd r k trim) s fun t => State.ActEnded r k a false false 0 s t ∧
      SMap.get (fun _ => 0) (t.chain r k).trims a.cmd.arg = trim.toNat := by
  refine ⟨_, rfl, ?_⟩
  beta_reduce
  simp only [State.calEnd, hact, hkind, hends, and_self, if_true, State.clearAct, State.chain_setChain_same]
  set s1 := s.setChain r k { s.chain r k with act := none, lastEnd := some a.ends, lastTx := false, lastWin := false } with hs1
  set y : Chain := { s.chain r k with
    act := none, lastEnd := some a.ends, lastTx := false, lastWin := false,
    trims := SMap.set (fun _ => 0) (s.chain r k).trims a.cmd.arg trim.toNat } with hy
  obtain ⟨hkeeps, heng⟩ := (s1.setChain r k y).planAfter_keeps r k a.ends
  rw [State.chain_setChain_same] at hkeeps
  have hcompleted := ((s1.setChain r k y).planAfter r k a.ends).endCmd_completed r k a.cmd .ok a.cmd.port
  constructor
  · refine State.ActEnded.after (.of_completed hcompleted ?_ hkeeps rfl rfl rfl rfl) (State.keepsRadios_settleMisses _)
    rw [State.engine, heng]
    rfl
  · rw [(State.keepsRadios_settleMisses _).chain, (hkeeps.trans hcompleted.chain).trims, hy, SMap.get_set_same]

end

/-! ## Lock (R142 to R144) -/

section
variable {s : State} {r : Fin 3} {k : Fin 4} (hmoving : (s.chain r k).moving = true)
include hmoving

theorem exec_synthLock_tune {a : Act} (hact : (s.chain r k).act = some a) (hkind : a.kind = .tune) :
    Gives (.synthLock r k) s fun t => (t.chain r k).act = none ∧ s.Recorded t r a.cmd 0 a.cmd.port ∧ ∃ p ∈ t.fabric, p.line = 24 + r.val := by
  refine ⟨_, rfl, ?_⟩
  beta_reduce
  set s1 := (s.setChain r k { s.chain r k with moving := false, locked := true, lockAt := s.now }).pulse (24 + r) with hs1
  set l' := (s.chain r k).listen.map fun l => if (s.chain r k).stands r false l.cmd.chan l.cmd.width = true then l else
    { l with resumeAt := max l.resumeAt (s.now + 100 * usU) } with hl
  set s2 := s1.setChain r k { s1.chain r k with act := none, listen := l' } with hs2
  have hlock : s.synthLock r k = s2.endCmd r k a.cmd .ok a.cmd.port := by
    unfold State.synthLock
    extract_lets h
    rw [if_neg (by rw [hmoving]; decide), show h.act = some a from hact]
    exact if_pos hkind
  have hcompleted := s2.endCmd_completed r k a.cmd .ok a.cmd.port
  have hsettled := State.keepsRadios_settleMisses (s2.endCmd r k a.cmd .ok a.cmd.port)
  rw [hlock]
  refine ⟨?_, (hcompleted.record.mono hsettled.eng hsettled.fabric).from ?_, ⟨24 + r, s.ticks⟩,
    hsettled.fabric _ (hcompleted.fabric _ ?_), rfl⟩
  · rw [hsettled.chain, hcompleted.chain.act, hs2, State.chain_setChain_same]
  · rw [hs2, State.engine_setChain, hs1, State.engine_pulse, State.engine_setChain]
  · exact State.pulse_in_fabric _ _

theorem exec_synthLock_idle (hlisten : (s.chain r k).listen = none) (hact : (s.chain r k).act = none) :
    Gives (.synthLock r k) s fun t => (t.chain r k).moving = false ∧ (t.chain r k).locked = true ∧ (t.chain r k).lockAt = s.now ∧
      ∃ p ∈ t.fabric, p.line = 24 + r.val := by
  refine ⟨_, rfl, ?_⟩
  beta_reduce
  set s1 := (s.setChain r k { s.chain r k with moving := false, locked := true, lockAt := s.now }).pulse (24 + r) with hs1
  have hchain : s1.chain r k = { s.chain r k with moving := false, locked := true, lockAt := s.now } := by
    rw [hs1, State.chain_pulse, State.chain_setChain_same]
  have hlock : s.synthLock r k = s1 := by
    unfold State.synthLock
    rw [if_neg (by rw [hmoving]; decide)]
    split
    · next a ha => exact absurd (hact.symm.trans ha) nofun
    · exact State.afterAction_of_listen_none (by rw [← hs1, hchain]; exact hlisten)
  have hsettled := State.keepsRadios_settleMisses s1
  rw [hlock, hsettled.chain, hchain]
  exact ⟨rfl, rfl, rfl, _, hsettled.fabric _ (State.pulse_in_fabric _ _), rfl⟩

end

/-! ## Front-end sequences (R152, R153) -/

@[simp] theorem State.femOf_setFem (s : State) (r : Nat) (f : FemState) : (s.setFem r f).femOf r = f := SMap.get_set_same _ _ _

section
variable {s : State} {r : Fin 3} {x : FemRun} {rest : List FemRun} (hruns : (s.femOf r).runs = x :: rest)
include hruns

theorem exec_femSequenceEnd_head (hbegun : x.begun = true) (hends : x.ends ≤ s.now) :
    Gives (.femSequenceEnd r) s fun t => (t.femOf r).runs = rest ∧ ∀ c, x.cmd = some c → s.Recorded t r c 0 c.port := by
  refine ⟨_, rfl, ?_⟩
  beta_reduce
  have hfind : (s.femOf r).runs.find? (fun (y : FemRun) => y.begun && decide (y.ends ≤ s.now)) = some x := by simp [hruns, hbegun, hends]
  simp only [State.femEnd, hfind]
  split
  · next c hc =>
    set f : FemState := ⟨(s.femOf r).runs.erase x, stepsWrite (x.ends - x.start) (s.femOf r).regs 0 x.steps⟩ with hf
    have hcompleted := (s.setFem r f).endCmd_completed r 0 c .ok c.port
    refine ⟨?_, fun d hd => ?_⟩
    · rw [State.femOf, hcompleted.fem, ← State.femOf, State.femOf_setFem, hf, hruns, List.erase_cons_head]
    · obtain rfl : c = d := Option.some.inj (hc.symm.trans hd)
      exact hcompleted.record.from rfl
  · next hc =>
    refine ⟨?_, fun d hd => absurd (hc.symm.trans hd) nofun⟩
    rw [State.femOf_setFem, hruns, List.erase_cons_head]

theorem exec_femAutoSequence_head {port kind : Fin 4} (hbegun : x.begun = false) (hport : x.port = port.val) (hauto : x.auto = some kind.val)
    (hstart : x.start ≤ s.now) (hx : x ∉ rest) :
    Gives (.femAutoSequence r port kind) s fun t => (t.femOf r).runs = { x with begun := true } :: rest := by
  refine ⟨_, rfl, ?_⟩
  beta_reduce
  have hfind : (s.femOf r).runs.find? (fun (y : FemRun) => !y.begun && y.port == port.val && y.auto == some kind.val &&
      decide (y.start ≤ s.now)) = some x := by
    simp [hruns, hbegun, hport, hauto, hstart]
  have hrest : rest.map (fun (y : FemRun) => if y = x then { y with begun := true } else y) = rest :=
    (List.map_congr_left fun y hy => if_neg (ne_of_mem_of_not_mem hy hx)).trans (List.map_id' rest)
  simp only [State.femStart, hfind, State.femOf_setFem]
  rw [hruns, List.map_cons, if_pos rfl, hrest]

end

/-- Settles O29, row by row. -/
theorem radioActionsEndAndRecord : Obligations.RadioActionsEndAndRecord := by
  unfold Obligations.RadioActionsEndAndRecord
  intro r k s
  refine ⟨fun a hact => ⟨?_, ?_, ?_, ?_, ?_⟩, ?_, ?_, ?_⟩
  · exact fun hkind hends => exec_txLastBit_ended hact hends hkind
  · exact fun hkind hends => exec_rxWindowClose_ended hact hends hkind
  · exact fun peak hkind hends => exec_ccaEnd_ended hact hends peak hkind
  · exact fun trim hkind hends => exec_calStepEnd_ended hact hends trim hkind
  · exact fun hkind hmoving => exec_synthLock_tune hmoving hact hkind
  · exact fun hmoving hlisten hact => exec_synthLock_idle hmoving hlisten hact
  · exact fun x rest hruns hbegun hends => exec_femSequenceEnd_head hruns hbegun hends
  · exact fun port kind x rest hruns hbegun hport hauto hstart hx => exec_femAutoSequence_head hruns hbegun hport hauto hstart hx

end Sys2Proof.Machine
end

section
/-!
SUPPORT. The first command of a queue at its port time (R127, Table 05-6): it fails, or it begins.
-/
namespace Sys2Proof.Machine

/-! ## A LISTEN that is suspended or ended (R139) -/

theorem State.suspendListen_spares (s : State) (r k : Nat) : s.Spares r k (s.suspendListen r k) := by
  have hrefl := (State.KeepsRadios.refl s).spares r k
  unfold State.suspendListen
  extract_lets c
  split
  · next l hl =>
    split
    · exact hrefl
    · have hkeeps : c.Keeps { c with listen := some { l with suspended := true, resumeAt := 0 }, rxEnd := some s.now } :=
        ⟨rfl, rfl, rfl, rfl, rfl, rfl, rfl, rfl, fun h => absurd (hl.symm.trans h) nofun⟩
      exact (s.spares_setChain hkeeps).trans (((State.KeepsRadios.refl _).cutFrames r k).spares r k)
  · exact hrefl

/-- A LISTEN that stays in force is suspended. -/
theorem State.suspendListen_suspended (s : State) (r k : Nat) {l : Listen} (h : ((s.suspendListen r k).chain r k).listen = some l) :
    l.suspended = true := by
  unfold State.suspendListen at h
  extract_lets c at h
  split at h
  · next m hm =>
    split at h
    · next hs =>
      obtain rfl : m = l := Option.some.inj (hm.symm.trans h)
      exact hs
    · rw [((State.KeepsRadios.refl _).cutFrames r k).chain, State.chain_setChain_same] at h
      obtain rfl := Option.some.inj h
      rfl
  · next hnone => exact absurd (hnone.symm.trans h) nofun

theorem State.endListen_keeps (s : State) (r k : Nat) (st : Status) (keep : Bool) :
    (s.chain r k).Keeps ((s.endListen r k st keep).chain r k) ∧ ((s.endListen r k st keep).chain r k).listen = none := by
  unfold State.endListen
  extract_lets c
  split
  · next l hl =>
    extract_lets s1 s2
    have hcut : s1.KeepsRadios s2 := by
      unfold s2
      split
      · exact .refl s1
      · exact (State.KeepsRadios.refl s1).cutFrames r k
    have hchain : s2.chain r k = { c with listen := none, rxEnd := if l.suspended then c.rxEnd else some s.now } :=
      (hcut.chain r k).trans (State.chain_setChain_same ..)
    have hcompleted := (s2.endCmd_completed r k l.cmd st l.cmd.port).chain
    rw [hchain] at hcompleted
    exact ⟨⟨hcompleted.queue, hcompleted.act, hcompleted.aborts, hcompleted.lastEnd, hcompleted.lastTx, hcompleted.lastWin, hcompleted.trims,
      hcompleted.calOld, fun _ => hcompleted.listen rfl⟩, hcompleted.listen rfl⟩
  · next hl => exact ⟨.refl _, hl⟩

/-! ## The head of a queue (R127) -/

/-- The head of the queue has ended without having begun: it has left the queue, the action goes on, its record tells the code and now. -/
def State.HeadEnded (r k : Nat) (q : QCmd) (rest : List QCmd) (s : State) (code : Nat) (t : State) : Prop :=
  (t.chain r k).queue = rest ∧ (t.chain r k).act = (s.chain r k).act ∧ s.Recorded t r q code s.now

theorem State.Failed.head {r k code : Nat} {q : QCmd} {rest : List QCmd} {s t : State} (h : State.Failed r k q code s.now s t)
    (hqueue : (s.chain r k).queue = q :: rest) : State.HeadEnded r k q rest s code t :=
  ⟨h.chain.queue.trans (by rw [hqueue, List.erase_cons_head]), h.chain.act, h.record⟩

theorem State.yieldCal_of_free {s : State} {r k : Nat} (h : (s.chain r k).act = none) : s.yieldCal r k = s := by
  unfold State.yieldCal
  extract_lets c
  rw [show c.act = none from h]

theorem QCmd.same_self (q : QCmd) : q.same q = true := by simp [QCmd.same]

section
variable {s : State} {r : Fin 3} {k : Fin 4} {q : QCmd} {rest : List QCmd} (hqueue : (s.chain r k).queue = q :: rest)
include hqueue

/-- A head that fails ends the row with its code. -/
theorem exec_queuedCommandBegin_fails {st : Status} (h : s.beginQueued r k = s.failCmd r k q st) :
    Gives (.queuedCommandBegin r k) s (State.HeadEnded r k q rest s st.code) := by
  refine ⟨_, rfl, ?_⟩
  rw [h]
  exact ((s.failCmd_failed r k q st).after (State.keepsRadios_settleMisses _)).head hqueue

theorem State.again_head : s.again r k q = some q := by rw [State.again, hqueue, List.find?_cons_of_pos q.same_self]

/-- A head whose checks have been made passes. -/
theorem State.runChecks_of_made (hreg : q.op = 1 → q.regOk = true) (hlock : q.needsSynth = true → q.op ≠ 3 → q.lockOk = true) :
    s.runChecks r k q = (s, some q) := by
  have hs1 : (if q.isTx && !q.regOk then s.txCheck r k q else s) = s := if_neg fun h => by
    obtain ⟨htx, hno⟩ := Bool.and_eq_true_iff.1 h
    simp [hreg (by simpa [QCmd.isTx] using htx)] at hno
  have hs2 : (if q.needsSynth && q.op != 3 && !q.lockOk then s.lockCheck r k q else s) = s := if_neg fun h => by
    simp only [Bool.and_eq_true, bne_iff_ne] at h
    simp [hlock h.1.1 h.1.2] at h
  unfold State.runChecks
  rw [hs1]
  dsimp only
  rw [State.again_head hqueue]
  dsimp only
  rw [hs2, State.again_head hqueue]

theorem State.find_due (hdue : q.passed = true ∨ q.port ≤ s.now) :
    (s.chain r k).queue.find? (fun q => q.passed || decide (q.port ≤ s.now)) = some q := by
  rw [hqueue, List.find?_cons_of_pos (by simpa using hdue)]

theorem State.beginQueued_passed (hpassed : q.passed = true) : s.beginQueued r k = s.failCmd r k q .late := by
  unfold State.beginQueued
  rw [State.find_due hqueue (.inl hpassed)]
  exact if_pos hpassed

section
variable (hpassed : q.passed = false) (hport : q.port ≤ s.now)
include hpassed hport

theorem State.beginQueued_coarse (hcoarse : s.coarse = true) (hop : q.op ≠ 9) (hack : q.ack = none) :
    s.beginQueued r k = s.failCmd r k q .fault := by
  unfold State.beginQueued
  rw [State.find_due hqueue (.inr hport)]
  dsimp only
  rw [if_neg (by simp [hpassed]), if_pos (by simp [hcoarse, hop, hack])]

section
variable (hfine : s.coarse = false ∨ q.op = 9)
include hfine

theorem State.beginQueued_off (hoff : s.portOn r k = false) : s.beginQueued r k = s.failCmd r k q .aborted := by
  unfold State.beginQueued
  rw [State.find_due hqueue (.inr hport)]
  dsimp only
  rw [if_neg (by simp [hpassed]), if_neg (by rcases hfine with h | h <;> simp [h]), if_pos (by simp [hoff])]

variable (hon : s.portOn r k = true) (hops : q.op ∈ [1, 2, 3, 4, 5, 6, 7, 9])
include hon hops

theorem State.beginQueued_occupied {a : Act} (hact : (s.chain r k).act = some a) (hkind : a.kind ≠ .cal) :
    s.beginQueued r k = s.failCmd r k q .late := by
  unfold State.beginQueued
  rw [State.find_due hqueue (.inr hport)]
  dsimp only
  rw [if_neg (by simp [hpassed]), if_neg (by rcases hfine with h | h <;> simp [h]), if_neg (by simp [hon]),
    if_neg (by rintro h; simp [h] at hops), if_pos (by simp [Chain.occupied, hact, hkind])]

/-- On a free chain a head that is due comes to its checks, and begins where they have been made. -/
theorem State.beginQueued_free (hfree : (s.chain r k).act = none) (hturn : s.turnOk r k q = true) (hwin : s.windowBlocks r k q = false)
    (hchecks : s.runChecks r k q = (s, some q)) :
    (q.op = 1 → (q.lbtOk = true ∨ s.cmdLbt r q = false) → s.ackHeld q = false → s.beginQueued r k = s.beginTx r k q) ∧
    (q.op = 7 → s.beginQueued r k = (s.suspendListen r k).setAct r k q ⟨.cca, q, q.port + q.window * usU, none, 0, none⟩) ∧
    (q.op = 9 → s.beginQueued r k =
      ((s.endListen r k .ok false).setChain r k { (s.endListen r k .ok false).chain r k with
        queue := ((s.endListen r k .ok false).chain r k).queue.erase q }).endCmd r k q .ok q.port) := by
  have hno (n : Nat) (hn : n ∉ [1, 2, 3, 4, 5, 6, 7, 9]) : ¬ q.op = n := fun h => hn (h ▸ hops)
  unfold State.beginQueued
  rw [State.find_due hqueue (.inr hport)]
  dsimp only
  rw [if_neg (by simp [hpassed]), if_neg (by rcases hfine with h | h <;> simp [h]), if_neg (by simp [hon]), if_neg (hno 8 (by decide)),
    if_neg (by simp [Chain.occupied, hfree]), hchecks]
  dsimp only
  rw [State.yieldCal_of_free hfree]
  have hturned : ¬ ((q.needsSynth && !s.turnOk r k q || q.needsSynth && s.windowBlocks r k q) = true) := by simp [hturn, hwin]
  refine ⟨fun hop hlbt hheld => ?_, fun hop => ?_, fun hop => ?_⟩ <;> rw [if_neg (by omega), if_neg hturned, hop]
  · rw [if_neg (by rcases hlbt with h | h <;> simp [h]), if_neg (by simp [hheld])]
    rfl
  · rfl
  · rfl

end
end

/-- A path that has begun sends its head. -/
theorem State.beginTx_head (hpath : q.path = true) :
    s.beginTx r k q = s.setAct r k q ⟨.tx, q, q.port + s.cmdAir r q, none, 0, some (s.modem r q)⟩ := by
  have hq : { q with path := true } = q := by rw [← hpath]
  unfold State.beginTx
  rw [if_pos hpath]
  dsimp only
  rw [State.again_head hqueue]
  dsimp only
  rw [hq]

/-- An IDLE that has begun is over. -/
theorem idle_over :
    let z := s.endListen r k .ok false
    let t := (z.setChain r k { z.chain r k with queue := (z.chain r k).queue.erase q }).endCmd r k q .ok q.port
    (t.settleMisses.chain r k).queue = rest ∧ (t.settleMisses.chain r k).act = (s.chain r k).act ∧ (t.settleMisses.chain r k).listen = none ∧
    ∀ a, q.recAt = some a → (t.settleMisses.engine r).rd (a + 3) 1 = 0 ∧ 128 ≤ (t.settleMisses.engine r).rd (a + 1) 1 := by
  intro z t
  obtain ⟨hkeeps, hlisten⟩ := s.endListen_keeps r k .ok false
  set y : Chain := { z.chain r k with queue := (z.chain r k).queue.erase q } with hy
  have hcompleted := ((z.setChain r k y).endCmd_completed r k q .ok q.port).after ((State.keepsRadios_settleMisses t).spares r k)
  have hchain := hcompleted.chain
  rw [State.chain_setChain_same] at hchain
  refine ⟨?_, hchain.act.trans hkeeps.act, hchain.listen hlisten, fun a ha => ?_⟩
  · rw [hchain.queue, hy, hkeeps.queue, hqueue, List.erase_cons_head]
  · obtain ⟨hcode, hdone, -⟩ := hcompleted.record a ha
    exact ⟨hcode, hdone ▸ Nat.le_add_left ..⟩

end

theorem State.chain_setAct_head {z : State} {r k : Nat} {q : QCmd} {rest : List QCmd} (hz : (z.chain r k).queue = q :: rest) (a : Act) :
    ((z.setAct r k q a).chain r k).queue = rest ∧ ((z.setAct r k q a).chain r k).act = some a := by
  rw [State.setAct, State.chain_setChain_same]
  exact ⟨by rw [hz, List.erase_cons_head], rfl⟩

/-- Settles O31: a head that is due fails, or begins on a free chain. -/
theorem queuedCommandsBeginAtTheirPortTime : Obligations.QueuedCommandsBeginAtTheirPortTime := by
  unfold Obligations.QueuedCommandsBeginAtTheirPortTime
  intro r k s q rest hqueue _
  refine ⟨?_, ?_, ?_, ?_, ?_⟩
  · exact fun hpassed => exec_queuedCommandBegin_fails hqueue (State.beginQueued_passed hqueue hpassed)
  · exact fun hpassed hport hcoarse hop hack =>
      exec_queuedCommandBegin_fails hqueue (State.beginQueued_coarse hqueue hpassed hport hcoarse hop hack)
  · exact fun hpassed hport hfine hoff => exec_queuedCommandBegin_fails hqueue (State.beginQueued_off hqueue hpassed hport hfine hoff)
  · intro hpassed hport hfine hon hops
    refine ⟨fun a hact hkind => exec_queuedCommandBegin_fails hqueue
      (State.beginQueued_occupied hqueue hpassed hport hfine hon hops hact hkind), fun hfree hturn hwin => ?_⟩
    have hbegin := State.beginQueued_free hqueue hpassed hport hfine hon hops hfree hturn hwin
    refine ⟨fun hop hreg hlock hpath hlbt hack => ?_, fun hop hlock => ?_, fun hop => ?_⟩
    · have hchecks := State.runChecks_of_made hqueue (fun _ => hreg) (fun _ _ => hlock)
      have hheld : s.ackHeld q = false := by rw [State.ackHeld, hack]
      refine ⟨_, rfl, ?_⟩
      beta_reduce
      rw [(State.keepsRadios_settleMisses _).chain, (hbegin hchecks).1 hop hlbt hheld, State.beginTx_head hqueue hpath]
      exact State.chain_setAct_head hqueue _
    · have hchecks := State.runChecks_of_made hqueue (fun h => absurd (hop.symm.trans h) (by decide)) (fun _ _ => hlock)
      refine ⟨_, rfl, ?_⟩
      beta_reduce
      rw [(State.keepsRadios_settleMisses _).chain, (hbegin hchecks).2.1 hop]
      exact State.chain_setAct_head ((s.suspendListen_spares r k).chain.queue.trans hqueue) _
    · have hchecks := State.runChecks_of_made hqueue (fun h => absurd (hop.symm.trans h) (by decide))
        (fun h => by simp [QCmd.needsSynth, hop] at h)
      obtain ⟨hrest, hact, hover⟩ := idle_over hqueue
      refine ⟨_, rfl, ?_⟩
      beta_reduce
      rw [(hbegin hchecks).2.2 hop]
      exact ⟨hrest, hact.trans hfree, hover⟩
  · intro hlater
    have hnone : (s.chain r k).queue.find? (fun q => q.passed || decide (q.port ≤ s.now)) = none := by
      rw [hqueue, List.find?_eq_none]
      intro x hx
      obtain ⟨hpassed, hport⟩ := hlater x hx
      simp [hpassed, hport]
    have hbegin : s.beginQueued r k = s := by
      unfold State.beginQueued
      rw [hnone]
    have hexec : exec (.queuedCommandBegin r k) s = execQueuedCommandBegin r k s := rfl
    rw [hexec, execQueuedCommandBegin, hbegin]

end Sys2Proof.Machine
end

section
/-!
SUPPORT. ABORT, a LISTEN that resumes, calibration sets, and the duty ring (R129, R140, R150, R159 to R162).
-/
namespace Sys2Proof.Machine

/-! ## ABORT (R129) -/

/-- Every command of a queue that is flushed leaves it. -/
theorem State.flush_empties {r k : Nat} {l : List QCmd} {s : State} (h : (s.chain r k).queue = l) :
    Chain.Keeps { s.chain r k with queue := [] } ((l.foldl (fun s q => s.failCmd r k q .aborted) s).chain r k) := by
  induction l generalizing s with
  | nil => exact ⟨h, rfl, rfl, rfl, rfl, rfl, rfl, rfl, id⟩
  | cons q l ih =>
    have hfailed := (s.failCmd_failed r k q .aborted).chain
    have hrest := ih (s := s.failCmd r k q .aborted) (hfailed.queue.trans (by rw [h, List.erase_cons_head]))
    exact ⟨hrest.queue, hrest.act.trans hfailed.act, hrest.aborts.trans hfailed.aborts, hrest.lastEnd.trans hfailed.lastEnd,
      hrest.lastTx.trans hfailed.lastTx, hrest.lastWin.trans hfailed.lastWin, hrest.trims.trans hfailed.trims,
      hrest.calOld.trans hfailed.calOld, fun hl => hrest.listen (hfailed.listen hl)⟩

theorem State.flushQueue_all (s : State) (r k : Nat) :
    Chain.Keeps { s.chain r k with queue := [] } ((s.flushQueue r k fun _ => true).chain r k) := by
  unfold State.flushQueue
  rw [List.filter_true]
  exact State.flush_empties rfl

/-- The chain is free, and keeps its queue and its ABORTs. -/
def Chain.Freed (x y : Chain) : Prop := y.queue = x.queue ∧ y.act = none ∧ y.aborts = x.aborts

theorem Chain.Freed.keeps {x y z : Chain} (h : x.Freed y) (k : y.Keeps z) : x.Freed z := by
  obtain ⟨hqueue, hact, haborts⟩ := h
  exact ⟨k.queue.trans hqueue, k.act.trans hact, k.aborts.trans haborts⟩

theorem State.clearAct_freed (s : State) (r k t : Nat) (tx win : Bool) : (s.chain r k).Freed ((s.clearAct r k t tx win).chain r k) := by
  rw [State.clearAct, State.chain_setChain_same]
  exact ⟨rfl, rfl, rfl⟩

theorem State.yieldCal_freed {s : State} {r k : Nat} {a : Act} (hact : (s.chain r k).act = some a) (hkind : a.kind = .cal) :
    (s.chain r k).Freed ((s.yieldCal r k).chain r k) := by
  unfold State.yieldCal
  extract_lets c
  rw [show c.act = some a from hact]
  dsimp only
  rw [if_pos hkind]
  refine Chain.Freed.keeps ?_ (State.endCmd_completed ..).chain
  rw [State.chain_count, State.chain_setChain_same]
  exact ⟨rfl, rfl, rfl⟩

/-- An action that is aborted leaves its chain free. -/
theorem State.abortAct_freed (s : State) (r k : Nat) : (s.chain r k).Freed ((s.abortAct r k).chain r k) := by
  unfold State.abortAct
  split
  · next hact => exact ⟨rfl, hact, rfl⟩
  · next a hact =>
    split
    case h_1 hkind => exact State.yieldCal_freed hact hkind
    case h_2 =>
      refine (Chain.Freed.keeps ?_ (State.planAfter_keeps _ r k s.now).1).keeps (State.endCmd_completed ..).chain
      rw [← State.chain_fixCmd s a.cmd (s.now - a.cmd.port)]
      exact State.clearAct_freed ..
    case h_3 =>
      have hcut := ((State.KeepsRadios.refl s).unreserve r a.lane).cutFrames r k
      rw [((State.KeepsRadios.refl _).watchOver r a.cmd false).chain, ← hcut.chain]
      exact (State.clearAct_freed ..).keeps (State.endCmd_completed ..).chain
    case h_4 => exact (State.clearAct_freed ..).keeps (State.endCmd_completed ..).chain
    case h_5 =>
      refine Chain.Freed.keeps ?_ (State.endCmd_completed ..).chain
      rw [State.chain_setChain_same]
      exact ⟨rfl, rfl, rfl⟩

theorem State.flushPareqs_keeps (s : State) (r : Nat) : (s.chain r 0).Keeps ((s.flushPareqs r).chain r 0) := by
  unfold State.flushPareqs
  refine List.foldlRecOn _ _ (motive := fun t : State => (s.chain r 0).Keeps (t.chain r 0)) (.refl _) fun t ht q _ => ?_
  split
  · exact ht.trans (State.endCmd_completed ({ t with sup := t.sup.erase q } : State) ..).chain
  · exact ht

/-- All of a chain ends but its ABORTs. -/
theorem State.abortChain_empties (s : State) (r k : Nat) :
    ((s.abortChain r k).chain r k).queue = [] ∧ ((s.abortChain r k).chain r k).act = none ∧ ((s.abortChain r k).chain r k).listen = none ∧
    ((s.abortChain r k).chain r k).aborts = (s.chain r k).aborts := by
  have hflush := s.flushQueue_all r k
  obtain ⟨hqueue, hact, haborts⟩ := (s.flushQueue r k fun _ => true).abortAct_freed r k
  obtain ⟨hkeeps, hlisten⟩ := ((s.flushQueue r k fun _ => true).abortAct r k).endListen_keeps r k .aborted false
  set s2 := ((s.flushQueue r k fun _ => true).abortAct r k).endListen r k .aborted false with hs2
  have hpareqs : (s2.chain r k).Keeps ((s.abortChain r k).chain r k) := by
    show (s2.chain r k).Keeps ((if k = 0 then s2.flushPareqs r else s2).chain r k)
    split
    · next hk =>
      subst hk
      exact s2.flushPareqs_keeps r
    · exact .refl _
  have hall := hkeeps.trans hpareqs
  exact ⟨(hall.queue.trans hqueue).trans hflush.queue, hall.act.trans hact, hpareqs.listen hlisten,
    (hall.aborts.trans haborts).trans hflush.aborts⟩

section
variable {s : State} {r : Fin 3} {k : Fin 4}

theorem exec_abortEffect_due {x : Nat × QCmd} {rest : List (Nat × QCmd)} (haborts : (s.chain r k).aborts = x :: rest)
    (hdue : x.1 + 2 ≤ s.ticks) : Gives (.abortEffect r k) s fun t =>
      (t.chain r k).queue = [] ∧ (t.chain r k).act = none ∧ (t.chain r k).listen = none ∧ (t.chain r k).aborts = rest ∧
      ∀ a, x.2.recAt = some a → (t.engine r).rd (a + 3) 1 = 0 := by
  refine ⟨_, rfl, ?_⟩
  beta_reduce
  set y : Chain := { s.chain r k with aborts := (s.chain r k).aborts.erase x } with hy
  set s1 := (s.setChain r k y).abortChain r k with hs1
  have hfind : (s.chain r k).aborts.find? (fun x => decide (x.1 + 2 ≤ s.ticks)) = some x := by
    rw [haborts, List.find?_cons_of_pos (by simpa using hdue)]
  have hstep : s.abortEffect r k = s1.endCmd r k x.2 .ok s1.now := by
    unfold State.abortEffect
    dsimp only
    rw [hfind]
  obtain ⟨hqueue, hact, hlisten, habs⟩ := (s.setChain r k y).abortChain_empties r k
  rw [State.chain_setChain_same, show y.aborts = rest by rw [hy, haborts, List.erase_cons_head]] at habs
  have hcompleted := (s1.endCmd_completed r k x.2 .ok s1.now).after ((State.keepsRadios_settleMisses _).spares r k)
  have hchain := hcompleted.chain
  rw [hstep]
  exact ⟨hchain.queue.trans hqueue, hchain.act.trans hact, hchain.listen hlisten, hchain.aborts.trans habs,
    fun a ha => (hcompleted.record a ha).1⟩

theorem exec_abortEffect_early (hearly : ∀ x ∈ (s.chain r k).aborts, s.ticks < x.1 + 2) :
    exec (.abortEffect r k) s = .next s.settleMisses := by
  have hnone : (s.chain r k).aborts.find? (fun x => decide (x.1 + 2 ≤ s.ticks)) = none := by
    rw [List.find?_eq_none]
    intro x hx
    simpa using hearly x hx
  have hstep : s.abortEffect r k = s := by
    unfold State.abortEffect
    dsimp only
    rw [hnone]
  have hexec : exec (.abortEffect r k) s = execAbortEffect r k s := rfl
  rw [hexec, execAbortEffect, hstep]

/-! ## A LISTEN resumes (R140) -/

@[simp] theorem State.chain_checkEntries (s : State) (r k cap j i : Nat) : (s.checkEntries r k cap).chain j i = s.chain j i := by
  unfold State.checkEntries
  split
  · rfl
  · extract_lets n
    split <;> rfl

theorem exec_listenResume_due {l : Listen} (hlisten : (s.chain r k).listen = some l) (hsus : l.suspended = true) (hne : l.resumeAt ≠ 0)
    (hdue : l.resumeAt ≤ s.now) (hact : (s.chain r k).act = none)
    (hsettled : r = 1 ∨ ((s.chain r k).locked = true ∧ (s.chain r k).moving = false ∧
      (s.chain r k).stands r false l.cmd.chan l.cmd.width = true ∧ (s.chain r k).lockAt + 30 * usU ≤ s.now))
    (hqueue : ∀ q ∈ (s.chain r k).queue, q.path = false ∧ s.now + 200 * usU < q.port) :
    Gives (.listenResume r k) s fun t => (t.chain r k).listen = some { l with suspended := false, resumeAt := 0 } := by
  refine ⟨_, rfl, ?_⟩
  beta_reduce
  have hclear : (s.chain r k).queue.any (fun q => q.path || decide (q.port ≤ s.now + 200 * usU)) = false := by
    rw [List.any_eq_false]
    intro q hq
    obtain ⟨hpath, hport⟩ := hqueue q hq
    simp [hpath, hport]
  have hready : (r.val == 1 || ((s.chain r k).locked && !(s.chain r k).moving && (s.chain r k).stands r false l.cmd.chan l.cmd.width &&
      decide ((s.chain r k).lockAt + 30 * usU ≤ s.now))) = true := by
    rcases hsettled with rfl | ⟨hlocked, hmoving, hstands, hlock⟩
    · rfl
    · simp [hlocked, hmoving, hstands, hlock]
  have hstep : s.listenResume r k = (s.setChain r k { s.chain r k with
      listen := some { l with suspended := false, resumeAt := 0 } }).checkEntries r k (chanHz r l.cmd.chan) := by
    unfold State.listenResume
    dsimp only
    rw [hlisten]
    dsimp only
    exact if_pos (by simp [hsus, hne, hdue, hact, hready, hclear])
  rw [hstep, (State.keepsRadios_settleMisses _).chain, State.chain_checkEntries, State.chain_setChain_same]

/-! ## Calibration sets (R150) -/

theorem State.applyCal_calOld (s : State) (r k : Nat) : ((s.applyCal r k).chain r k).calOld = none := by
  have hset : ((s.setChain r k { s.chain r k with calOld := none }).chain r k).calOld = none := by rw [State.chain_setChain_same]
  unfold State.applyCal
  extract_lets s1
  split
  · exact hset
  · exact hset

/-- CAL_PENDING ends with the last chain that waits. -/
theorem State.applyCal_pending (s : State) (r : Nat) (k : Fin 4) (hothers : ∀ j : Fin 4, j ≠ k → (s.chain r j).calOld = none) :
    (s.applyCal r k).fld (F.RF_STAT_CAL_PENDING r) = 0 := by
  have hnone : (List.range 4).any (fun j => ((s.setChain r k { s.chain r k with calOld := none }).chain r j).calOld.isSome) = false := by
    rw [List.any_eq_false]
    intro j hj
    have hj := List.mem_range.1 hj
    by_cases hjk : j = k.val
    · subst hjk
      simp
    · rw [State.chain_setChain_other _ _ (by omega), hothers ⟨j, hj⟩ fun h => hjk (Fin.ext_iff.1 h)]
      decide
  unfold State.applyCal
  dsimp only
  rw [hnone, if_neg (by decide)]
  exact State.fld_setFld_same _ _ (show 4 ≤ 31 by decide)

variable {at_ : Nat} {set : List (Nat × Word)} (hold : (s.chain r k).calOld = some (at_, set))
include hold

theorem exec_calSetApply_gap (hgap : s.inGap r k = true) : Gives (.calSetApply r k) s fun t => (t.chain r k).calOld = none ∧
    ((∀ j : Fin 4, j ≠ k → (s.chain r j).calOld = none) → t.fld (F.RF_STAT_CAL_PENDING r) = 0) := by
  refine ⟨_, rfl, ?_⟩
  beta_reduce
  have hstep : s.calApply r k = s.applyCal r k := if_pos (by simp [hold, hgap])
  have hsettled := State.keepsRadios_settleMisses (s.applyCal r k)
  rw [hstep, hsettled.chain]
  refine ⟨s.applyCal_calOld r k, fun hothers => ?_⟩
  rw [State.fld, show (F.RF_STAT_CAL_PENDING r).addr = R.RF_STAT r from rfl, hsettled.stat r r.isLt]
  exact s.applyCal_pending r k hothers

theorem exec_calGapTimeout_due (hdue : at_ + secU ≤ s.clock) (hact : (s.chain r k).act = none) :
    Gives (.calGapTimeout r k) s fun t => (t.chain r k).calOld = none := by
  refine ⟨_, rfl, ?_⟩
  beta_reduce
  have hstep : s.calTimeout r k = (s.cutFrames r k).applyCal r k := by
    unfold State.calTimeout
    dsimp only
    rw [hold]
    exact if_pos ⟨hdue, by rw [hact]; rfl⟩
  rw [hstep, (State.keepsRadios_settleMisses _).chain]
  exact State.applyCal_calOld ..

end

/-! ## The duty ring (R159 to R162) -/

/-- A record has expired when it has no millisecond within the last hour. -/
theorem DutyRec.expired_iff (d : DutyRec) (t : Nat) : d.expired t = false ↔ d.d ≠ 0 ∧ t + 1 < d.s0 + d.d + 3600000 := by
  simp only [DutyRec.expired, DutyRec.part, beq_eq_false_iff_ne]
  omega

theorem State.mem_expireDuty (s : State) (d : DutyRec) : d ∈ s.expireDuty.duty.ring ↔
    d ∈ s.duty.ring ∧ (d.resv = true ∨ (d.d ≠ 0 ∧ s.dutyMs s.now + 1 < d.s0 + d.d + 3600000)) := by
  rw [← d.expired_iff, State.expireDuty, List.mem_filter, Bool.or_eq_true, Bool.not_eq_true', or_comm]

theorem exec_meterRecomputeDone {s : State} {since : Nat} (hrecalc : s.duty.recalc = some since) :
    Gives .meterRecomputeDone s fun t => t.fld F.REG_STAT_RECOMPUTING = 0 ∧ t.duty.recalc = none ∧
      t.duty.ring.map (fun d => (d.id, d.d)) = s.duty.ring.map (fun d => (d.id, d.d)) := by
  refine ⟨_, rfl, ?_⟩
  beta_reduce
  unfold State.recomputeDone
  rw [hrecalc]
  exact ⟨State.fld_setFld_same _ _ (by decide), rfl, List.map_map⟩

/-- Records of other sub-bands do not count. -/
theorem State.usage_of_others (s : State) (b t : Nat) (h : ∀ d ∈ s.duty.ring, d.subs.testBit b = false) : s.usage b t = 0 :=
  List.foldlRecOn (motive := fun n => n = 0) _ _ rfl fun n hn d hd => by rw [h d hd, hn]; rfl

/-- Settles O32: what an ABORT leaves, the row that resumes a LISTEN, calibration sets, the duty ring. -/
theorem abortsAndDutyRecords : Obligations.AbortsAndDutyRecords := by
  unfold Obligations.AbortsAndDutyRecords
  refine ⟨fun r k s => ⟨?_, ?_, ?_, ?_⟩, fun s => ⟨?_, ?_, ?_⟩⟩
  · exact fun x rest haborts hdue => exec_abortEffect_due haborts hdue
  · exact exec_abortEffect_early
  · exact fun l hlisten hsus hne hdue hact hsettled hqueue => exec_listenResume_due hlisten hsus hne hdue hact hsettled hqueue
  · exact fun at_ set hold => ⟨exec_calSetApply_gap hold, exec_calGapTimeout_due hold⟩
  · exact ⟨_, rfl, s.mem_expireDuty, rfl, rfl⟩
  · exact fun since hrecalc => exec_meterRecomputeDone hrecalc
  · exact s.usage_of_others

end Sys2Proof.Machine
end

section
/-!
SUPPORT. The decision instants before a port time (R142 to R146, R163): the regulatory check, the lock check, listen-before-talk, the move of
the synthesiser, the transmit path.
-/
namespace Sys2Proof.Machine

/-! ## Failures that are counted, and commands that a check marks -/

/-- A failure that a counter counts is decided at the same NT. -/
theorem State.count_failCmd_failed (s : State) (r k : Nat) (c : QCmd) (st : Status) {f : FRef} (hf : f.addr ≠ F.TSEL_STAT_CUR.addr) :
    State.Failed r k c st.code s.now s ((s.count f).failCmd r k c st) := by
  have h := (s.count f).failCmd_failed r k c st
  rw [State.now_count _ _ hf] at h
  exact ⟨h.chain, h.cores, h.record, h.refused⟩

theorem count_ne_tsel (r : Nat) : R.RF_COUNT r ≠ R.TSEL_STAT := by
  unfold R.RF_COUNT R.TSEL_STAT
  omega

theorem State.setCmd_head {s : State} {r k : Nat} {q : QCmd} {rest : List QCmd} (hqueue : (s.chain r k).queue = q :: rest) (hq : q ∉ rest)
    (new : QCmd) : (s.setCmd r k q new).chain r k = { s.chain r k with queue := new :: rest } := by
  have hrest : rest.map (fun x => if x = q then new else x) = rest :=
    (List.map_congr_left fun x hx => if_neg (ne_of_mem_of_not_mem hx hq)).trans (List.map_id' rest)
  rw [State.setCmd, State.chain_setChain_same, hqueue, List.map_cons, if_pos rfl, hrest]

theorem QCmd.isTx_eq (q : QCmd) : q.isTx = decide (q.op = 1) := rfl

theorem State.lockReady_iff (s : State) (r k : Nat) (q : QCmd) : s.lockReady r k q = true ↔
    (r = 1 ∧ q.op ≠ 1) ∨ ((s.chain r k).locked = true ∧ (s.chain r k).moving = false ∧
      (s.chain r k).stands r (decide (q.op = 1)) q.chan (galeWidth q.mode) = true ∧ (s.chain r k).lockAt + 30 * usU ≤ q.port) := by
  simp [State.lockReady, QCmd.isTx_eq, QCmd.width, and_assoc]

section
variable {s : State} {r : Fin 3} {k : Fin 4} {q : QCmd} {rest : List QCmd} (hqueue : (s.chain r k).queue = q :: rest)
include hqueue

/-! ## The check at P − 50 µs (R145, R146) -/

/-- The only check that is due is that of the head, and is made once. -/
theorem State.txCheckDue_head (hdue : s.checksDue = [(4 * r.val + k.val, q)]) : s.txCheckDue r k = s.txCheck r k q := by
  have hmem : (4 * r.val + k.val, q) ∈ s.checksDue := hdue ▸ List.mem_cons_self
  simp only [State.checksDue, List.mem_flatMap, List.mem_map, List.mem_filter, Prod.mk.injEq] at hmem
  obtain ⟨-, -, x, ⟨-, hcheck⟩, -, hx⟩ := hmem
  rw [hx] at hcheck
  have hfind : s.checkDue r k = some q := by
    rw [State.checkDue, hqueue]
    exact List.find?_cons_of_pos hcheck
  have hfirst : s.firstCheck none = some (4 * r.val + k.val, q) := by
    rw [State.firstCheck, hdue]
    rfl
  have hr : (4 * r.val + k.val) / 4 = r := by omega
  have hk : (4 * r.val + k.val) % 4 = k := by omega
  have hone : s.oneCheck none q.port (4 * r + k) = s.txCheck r k q := by
    unfold State.oneCheck
    rw [hfirst]
    dsimp only
    rw [if_pos (.inr ⟨rfl, le_rfl⟩), hr, hk]
  unfold State.txCheckDue
  rw [hfind]
  dsimp only
  rw [State.checksUpTo, hdue]
  exact hone

theorem exec_txRegulatoryCheck_fails {st : Status} {t : State} (hdue : s.checksDue = [(4 * r.val + k.val, q)]) (ht : s.txCheck r k q = t)
    (hfailed : State.Failed r k q st.code s.now s t) : Gives (.txRegulatoryCheck r k) s fun t =>
      State.HeadEnded r k q rest s st.code t ∧ (st = .refusedRegulatory → ∃ p ∈ t.fabric, p.line = 27 + r.val) := by
  have hafter := hfailed.after (State.keepsRadios_settleMisses t)
  refine ⟨_, rfl, ?_⟩
  beta_reduce
  rw [State.txCheckDue_head hqueue hdue, ht]
  exact ⟨hafter.head hqueue, fun hst => hafter.refused (congrArg Status.code hst)⟩

omit hqueue in
/-- What the check finds in its order. -/
theorem State.txCheck_cases (hturned : s.turnOk r k q = true) (hpa : s.paOk (s.paNeed r k (sgn 8 q.power)) = true)
    (hlock : q.port ≤ s.now + 30 * usU → s.lockReady r k q = true) :
    let need := s.paNeed r k (sgn 8 q.power)
    let reg := s.regCheck (s.cmdSubs r q) r (s.eirp (s.chain r k) r k (s.paLevel need) (sgn 8 q.power)) (s.cmdAir r q) q.port
    (reg = .limit → s.txCheck r k q = (s.count F.REG_REFUSALS_LIMIT).failCmd r k q .refusedRegulatory) ∧
    (reg = .duty → s.txCheck r k q = (s.count F.REG_REFUSALS_DUTY).failCmd r k q .refusedRegulatory) ∧
    (reg = .allowed → s.bandBusy r k q.port = true → s.txCheck r k q = s.failCmd r k q .busy) ∧
    (reg = .allowed → s.bandBusy r k q.port = false →
      let z := s.reserveDuty q.port (s.cmdAir r q) (subMask (s.cmdSubs r q)) (bandOf r q.mode q.chan)
      s.txCheck r k q = z.1.setCmd r k q { q with regOk := true, resv := some z.2, paReg := needReg need }) := by
  intro need reg
  unfold State.txCheck
  extract_lets h p need' subs air
  have hready : ¬ ((decide (q.port ≤ s.now + 30 * usU) && !s.lockReady r k q) = true) := by
    rw [Bool.and_eq_true, decide_eq_true_eq]
    rintro ⟨hport, hno⟩
    simp [hlock hport] at hno
  rw [if_neg (by simp [hturned]), if_neg (by simp [need', p, hpa]), if_neg hready]
  refine ⟨fun hreg => ?_, fun hreg => ?_, fun hreg hbusy => ?_, fun hreg hbusy => ?_⟩
  all_goals rw [show s.regCheck subs r (s.eirp h r k (s.paLevel need') p) air q.port = _ from hreg]
  · exact if_pos hbusy
  · exact if_neg (by rw [hbusy]; decide)

end

/-! ## The airtime that a pass reserves (R146) -/

theorem State.chain_reserveDuty (s : State) (port air subs : Nat) (band : Nat × Nat) (r k : Nat) :
    (s.reserveDuty port air subs band).1.chain r k = s.chain r k := by
  have hroom : s.roomForDuty.chain r k = s.chain r k := by
    unfold State.roomForDuty
    extract_lets s1
    split
    · rfl
    · split <;> rfl
  exact hroom

theorem State.reserveDuty_reserved (s : State) (port air subs : Nat) (band : Nat × Nat) :
    ∃ d ∈ (s.reserveDuty port air subs band).1.duty.ring, d.id = (s.reserveDuty port air subs band).2 ∧ d.resv = true ∧ d.d = ceilMs air :=
  ⟨_, List.mem_append_right _ (List.mem_singleton_self _), rfl, rfl, rfl⟩

theorem needReg_iff (need : PaNeed) (n : Nat) : needReg need = some n ↔ ∃ level, need = .need n level := by
  cases need <;> simp [needReg]

section
variable {s : State} {r : Fin 3} {k : Fin 4} {q : QCmd} {rest : List QCmd} (hqueue : (s.chain r k).queue = q :: rest) (hq : q ∉ rest)
include hqueue hq

/-- What the row says of the regulatory check. -/
theorem exec_txRegulatoryCheck_head (hdue : s.checksDue = [(4 * r.val + k.val, q)]) :
    let need := s.paNeed r k (sgn 8 q.power)
    let reg := s.regCheck (s.cmdSubs r q) r (s.eirp (s.chain r k) r k (s.paLevel need) (sgn 8 q.power)) (s.cmdAir r q) q.port
    (s.turnOk r k q = false → Gives (.txRegulatoryCheck r k) s (State.HeadEnded r k q rest s 1)) ∧
    (s.turnOk r k q = true → s.paOk need = false → Gives (.txRegulatoryCheck r k) s (State.HeadEnded r k q rest s 1)) ∧
    (s.turnOk r k q = true → s.paOk need = true → q.port ≤ s.now + 30 * usU → ¬ s.lockReady r k q = true →
      Gives (.txRegulatoryCheck r k) s (State.HeadEnded r k q rest s 1)) ∧
    (s.turnOk r k q = true → s.paOk need = true → (q.port ≤ s.now + 30 * usU → s.lockReady r k q = true) →
      (reg ≠ .allowed → Gives (.txRegulatoryCheck r k) s fun t =>
        State.HeadEnded r k q rest s 2 t ∧ ∃ p ∈ t.fabric, p.line = 27 + r.val) ∧
      (reg = .allowed → s.bandBusy r k q.port = true → Gives (.txRegulatoryCheck r k) s (State.HeadEnded r k q rest s 3)) ∧
      (reg = .allowed → s.bandBusy r k q.port = false → Gives (.txRegulatoryCheck r k) s fun t =>
        ∃ id g, (t.chain r k).queue = { q with regOk := true, resv := some id, paReg := g } :: rest ∧
          (∀ n, g = some n ↔ ∃ level, need = .need n level) ∧
          ∃ d ∈ t.duty.ring, d.id = id ∧ d.resv = true ∧ d.d = ceilMs (s.cmdAir r q))) := by
  intro need reg
  have hlateEnds {t : State} (ht : s.txCheck r k q = t) (hfailed : State.Failed r k q Status.late.code s.now s t) :
      Gives (.txRegulatoryCheck r k) s (State.HeadEnded r k q rest s 1) :=
    (exec_txRegulatoryCheck_fails hqueue hdue ht hfailed).imp fun _ h => ⟨h.1, h.2.1⟩
  refine ⟨fun hturn => ?_, fun hturn hpa => ?_, fun hturn hpa hport hlock => ?_, fun hturn hpa hlock => ?_⟩
  · refine hlateEnds (if_pos ?_) (s.failCmd_failed r k q .late)
    simp [hturn]
  · refine hlateEnds ((if_neg ?_).trans (if_pos ?_)) (s.count_failCmd_failed r k q .late (count_ne_tsel r))
    · simp [hturn]
    · simp [show s.paOk (s.paNeed r k (sgn 8 q.power)) = false from hpa]
  · refine hlateEnds ((if_neg ?_).trans ((if_neg ?_).trans (if_pos ?_))) (s.count_failCmd_failed r k q .late (count_ne_tsel r))
    · simp [hturn]
    · simp [show s.paOk (s.paNeed r k (sgn 8 q.power)) = true from hpa]
    · simp [hport, hlock]
  · obtain ⟨hlimit, hduty, hbusy, hallowed⟩ := State.txCheck_cases hturn hpa hlock
    refine ⟨fun hreg => ?_, fun hreg hb => ?_, fun hreg hb => ?_⟩
    · have hrefused : ∃ t, s.txCheck r k q = t ∧ State.Failed r k q Status.refusedRegulatory.code s.now s t := by
        cases hcase : reg with
        | allowed => exact absurd hcase hreg
        | limit => exact ⟨_, hlimit hcase, s.count_failCmd_failed r k q _ (by decide)⟩
        | duty => exact ⟨_, hduty hcase, s.count_failCmd_failed r k q _ (by decide)⟩
      obtain ⟨t, ht, hfailed⟩ := hrefused
      exact (exec_txRegulatoryCheck_fails hqueue hdue ht hfailed).imp fun _ h => ⟨h.1, h.2.1, h.2.2 rfl⟩
    · exact (exec_txRegulatoryCheck_fails hqueue hdue (hbusy hreg hb) (s.failCmd_failed r k q .busy)).imp fun _ h => ⟨h.1, h.2.1⟩
    · set z := s.reserveDuty q.port (s.cmdAir r q) (subMask (s.cmdSubs r q)) (bandOf r q.mode q.chan) with hz
      have hchain : z.1.chain r k = s.chain r k := State.chain_reserveDuty ..
      refine ⟨_, rfl, z.2, needReg need, ?_, needReg_iff need, ?_⟩
      · rw [(State.keepsRadios_settleMisses _).chain, State.txCheckDue_head hqueue hdue, hallowed hreg hb,
          State.setCmd_head (hchain ▸ hqueue) hq]
      · rw [(State.keepsRadios_settleMisses _).duty, State.txCheckDue_head hqueue hdue, hallowed hreg hb]
        exact State.reserveDuty_reserved ..

/-! ## The lock check at P − 30 µs (R143) -/

theorem exec_lockCheck_head (hop : q.op = 1 ∨ q.op = 2 ∨ q.op = 7) (hnot : q.lockOk = false) (hport : q.port ≤ s.now + 30 * usU) :
    (s.lockReady r k q = true → Gives (.lockCheck r k) s fun t => (t.chain r k).queue = { q with lockOk := true } :: rest) ∧
    (¬ s.lockReady r k q = true → Gives (.lockCheck r k) s (State.HeadEnded r k q rest s 1)) := by
  have hdue : s.lockDue r k = some q := by
    rw [State.lockDue, hqueue, List.find?_cons_of_pos]
    rcases hop with h | h | h <;> simp [QCmd.needsSynth, h, hnot, hport]
  have hstep : s.lockCheckDue r k = s.lockCheck r k q := by
    unfold State.lockCheckDue
    rw [hdue]
  constructor
  · intro hready
    refine ⟨_, rfl, ?_⟩
    beta_reduce
    rw [(State.keepsRadios_settleMisses _).chain, hstep, State.lockCheck, if_pos hready, State.setCmd_head hqueue hq]
  · intro hready
    refine ⟨_, rfl, ?_⟩
    rw [hstep, State.lockCheck, if_neg hready]
    exact ((s.count_failCmd_failed r k q .late (count_ne_tsel r)).after (State.keepsRadios_settleMisses _)).head hqueue

/-! ## Listen-before-talk at P − 24 µs (R163) -/

theorem exec_lbtDecision_head (peak : BitVec 16) (hop : q.op = 1) (hnot : q.lbtOk = false) (hlbt : s.cmdLbt r q = true)
    (hport : q.port ≤ s.now + 24 * usU) :
    (s.portThresh (s.chain r k) r k (s.cmdSubs r q) < peak.toInt → Gives (.lbtDecision r k peak) s (State.HeadEnded r k q rest s 2)) ∧
    (peak.toInt ≤ s.portThresh (s.chain r k) r k (s.cmdSubs r q) → Gives (.lbtDecision r k peak) s fun t =>
      (t.chain r k).queue = { q with lbtOk := true } :: rest) := by
  have hdue : (s.chain r k).queue.find? (fun q => q.isTx && !q.lbtOk && s.cmdLbt r q && decide (q.port ≤ s.now + 24 * usU)) = some q := by
    rw [hqueue, List.find?_cons_of_pos (by simp [QCmd.isTx, hop, hnot, hlbt, hport])]
  have hstep : s.lbtDecide r k peak.toInt = if s.portThresh (s.chain r k) r k (s.cmdSubs r q) < peak.toInt then
      (s.count F.REG_REFUSALS_LBT).failCmd r k q .refusedRegulatory else s.setCmd r k q { q with lbtOk := true } := by
    unfold State.lbtDecide
    dsimp only
    rw [hdue]
  constructor
  · intro hhigh
    refine ⟨_, rfl, ?_⟩
    rw [hstep, if_pos hhigh]
    exact ((s.count_failCmd_failed r k q .refusedRegulatory (by decide)).after (State.keepsRadios_settleMisses _)).head hqueue
  · intro hlow
    refine ⟨_, rfl, ?_⟩
    beta_reduce
    rw [(State.keepsRadios_settleMisses _).chain, hstep, if_neg (by omega), State.setCmd_head hqueue hq]

/-! ## The move of a synthesiser (R142) -/

theorem exec_synthMoveStart_head (hnot : q.moved = false) (hneeds : (s.chain r k).needsMove r q = true) (hdue : s.moveInstant r q ≤ s.now)
    (hact : (s.chain r k).act = none) (hpath : ∀ x ∈ q :: rest, x.path = false) (hwin : s.windowFrame r k = false) :
    Gives (.synthMoveStart r k) s fun t => (t.chain r k).queue = { q with moved := true } :: rest ∧ (t.chain r k).moving = true ∧
      (t.chain r k).locked = false ∧ (t.chain r k).chan = q.chan := by
  have hmove : s.moveDue r k = some q := by
    unfold State.moveDue
    dsimp only
    rw [hqueue, List.find?_cons_of_pos (by simp [hnot, hneeds, hdue])]
  have hfree : (s.chain r k).free = true := by
    have hclear : (s.chain r k).queue.any (fun q => q.path) = false := by
      rw [hqueue, List.any_eq_false]
      exact fun x hx => by simp [hpath x hx]
    simp [Chain.free, hact, hclear]
  have hset := State.setCmd_head hqueue hq { q with moved := true }
  set s1 := s.setCmd r k q { q with moved := true } with hs1
  have hyield : s1.yieldCal r k = s1 := State.yieldCal_of_free (by rw [hset]; exact hact)
  set s2 := if r.val = 1 then s1 else s1.suspendListen r k with hs2
  have hstep : s.synthMove r k = s2.startMove r k q.chan q.width := by
    unfold State.synthMove
    rw [hmove]
    show s.moveCmd r k q = _
    unfold State.moveCmd
    extract_lets h z1 z2
    rw [if_neg (by simp [h, hfree, hwin])]
    show (if r.val = 1 then z1 else z1.suspendListen r k).startMove r k q.chan q.width = _
    rw [show z1 = s1 from hyield]
  have hkeeps : (s1.chain r k).Keeps (s2.chain r k) := by
    rw [hs2]
    split
    · exact .refl _
    · exact (s1.suspendListen_spares r k).chain
  refine ⟨_, rfl, ?_⟩
  beta_reduce
  rw [(State.keepsRadios_settleMisses _).chain, hstep, State.startMove, State.chain_setChain_same]
  exact ⟨hkeeps.queue.trans (by rw [hset]), rfl, rfl, rfl⟩

/-! ## The transmit path (R145) -/

omit hqueue hq in
theorem State.chain_planTxOn (s : State) (r k p j i : Nat) : (s.planTxOn r k p).chain j i = s.chain j i := by
  unfold State.planTxOn
  split
  · rfl
  · dsimp only
    split
    · exact State.chain_planFem ..
    · exact State.chain_planFem ..

theorem exec_transmitPathBegin_head (hop : q.op = 1) (hreg : q.regOk = true) (hlock : q.lockOk = true) (hpath : q.path = false)
    (hlbt : q.lbtOk = true ∨ s.cmdLbt r q = false) (hport : q.port ≤ s.now + pathTime r) (hact : (s.chain r k).act = none)
    (hack : q.ack = none) : Gives (.transmitPathBegin r k) s fun t =>
      (t.chain r k).queue = { q with path := true } :: rest ∧ ∀ l, (t.chain r k).listen = some l → r = 1 ∨ l.suspended = true := by
  have hdue : s.pathDue r k = some q := by
    rw [State.pathDue, hqueue, List.find?_cons_of_pos]
    rcases hlbt with h | h <;> simp [QCmd.isTx, hop, hreg, hlock, hpath, hport, h]
  have hbranches := (State.KeepsRadios.refl s).keepBranches r
  have hset : ((s.keepBranches r).setCmd r k q { q with path := true }).chain r k =
      { s.chain r k with queue := { q with path := true } :: rest } := by
    rw [State.setCmd_head (hbranches.chain r k ▸ hqueue) hq, hbranches.chain]
  have hyield : (s.keepBranches r).yieldCal r k = s.keepBranches r := State.yieldCal_of_free (by rw [hbranches.chain, hact])
  set s1 := (s.keepBranches r).setCmd r k q { q with path := true } with hs1
  set s2 := if r.val = 1 then s1 else s1.suspendListen r k with hs2
  set s3 := s2.setChain r k { s2.chain r k with after := some (s2.femAfter r k true) } with hs3
  have hstep : s.transmitPath r k = s3.planTxOn r k q.port := by
    unfold State.transmitPath
    rw [hdue]
    dsimp only
    rw [if_neg (by simp [Chain.occupied, hact]), if_neg (by simp [State.ackHeld, hack]), State.pathBegin, hyield]
    rfl
  have hkeeps : (s1.chain r k).Keeps (s2.chain r k) := by
    rw [hs2]
    split
    · exact .refl _
    · exact (s1.suspendListen_spares r k).chain
  refine ⟨_, rfl, ?_⟩
  beta_reduce
  rw [(State.keepsRadios_settleMisses _).chain, hstep, State.chain_planTxOn, hs3, State.chain_setChain_same]
  refine ⟨hkeeps.queue.trans (by rw [hset]), fun l hl => ?_⟩
  by_cases hr : r.val = 1
  · exact .inl (Fin.ext hr)
  · rw [hs2, if_neg hr] at hl
    exact .inr (s1.suspendListen_suspended r k hl)

end

end Sys2Proof.Machine
end

section
/-!
SUPPORT. A radio command as its chain takes it (R124 to R126): what a queue entry changes, and the cores, which no radio command changes.
-/
namespace Sys2Proof.Machine

/-! ## Cores -/

section
variable (s : State) (r k : Nat) (q : QCmd)

@[simp] theorem State.cores_failCmd (st : Status) : (s.failCmd r k q st).cores = s.cores := (s.failCmd_failed r k q st).cores

@[simp] theorem State.cores_endCmd (st : Status) (t : Nat) : (s.endCmd r k q st t).cores = s.cores := (s.endCmd_completed r k q st t).cores

@[simp] theorem State.cores_suspendListen : (s.suspendListen r k).cores = s.cores := (s.suspendListen_spares r k).cores

@[simp] theorem State.cores_setCmd (n : QCmd) : (s.setCmd r k q n).cores = s.cores := rfl

@[simp] theorem State.cores_setChain (h : Chain) : (s.setChain r k h).cores = s.cores := rfl

@[simp] theorem State.cores_count (f : FRef) (n : Nat) : (s.count f n).cores = s.cores := rfl

@[simp] theorem State.cores_setFld (f : FRef) (v : Nat) : (s.setFld f v).cores = s.cores := rfl

@[simp] theorem State.cores_startMove (chan width : Nat) : (s.startMove r k chan width).cores = s.cores := rfl

@[simp] theorem State.cores_yieldCal : (s.yieldCal r k).cores = s.cores := by
  unfold State.yieldCal
  extract_lets c
  split
  · split
    · rw [State.cores_endCmd]
      rfl
    · rfl
  · rfl

@[simp] theorem State.cores_planFem (j kind : Nat) (x : Option (Nat × List FemStep)) (b e : Nat) :
    (s.planFem r j kind x b e).cores = s.cores := by
  unfold State.planFem
  split <;> rfl

@[simp] theorem State.cores_planAfter (t : Nat) : (s.planAfter r k t).cores = s.cores := by
  unfold State.planAfter
  split
  · rfl
  · simp [State.keepAfter]

@[simp] theorem State.cores_reserveDuty (port air subs : Nat) (band : Nat × Nat) :
    (s.reserveDuty port air subs band).1.cores = s.cores := by
  have hroom : s.roomForDuty.cores = s.cores := by
    unfold State.roomForDuty
    extract_lets s1
    split
    · rfl
    · split <;> rfl
  exact hroom

@[simp] theorem State.cores_moveCmd : (s.moveCmd r k q).cores = s.cores := by
  unfold State.moveCmd
  extract_lets h s1 s2
  split
  · split
    · rfl
    · exact s.cores_failCmd ..
  · rw [State.cores_startMove]
    unfold s2
    split
    · exact State.cores_yieldCal ..
    · rw [State.cores_suspendListen]
      exact State.cores_yieldCal ..

@[simp] theorem State.cores_txCheck : (s.txCheck r k q).cores = s.cores := by
  unfold State.txCheck
  extract_lets h p need subs air
  split_ifs
  · simp
  · simp
  · simp
  · split <;> simp
  · split <;> simp

@[simp] theorem State.cores_lockCheck : (s.lockCheck r k q).cores = s.cores := by
  unfold State.lockCheck
  split <;> simp

@[simp] theorem State.cores_flagCmd (bad clamped : Bool) : (s.flagCmd r bad clamped).cores = s.cores := by
  cases bad <;> cases clamped <;> rfl

@[simp] theorem State.cores_claimChain : (s.claimChain r k q).cores = s.cores := by
  unfold State.claimChain
  split
  · split <;> simp
  · rfl

@[simp] theorem State.cores_lineUp : (s.lineUp r k q).cores = s.cores := by
  unfold State.lineUp
  extract_lets s1
  split
  · exact State.cores_moveCmd ..
  · rfl

@[simp] theorem State.cores_checksUpTo (but : Option QCmd) (port i : Nat) : (s.checksUpTo but port i).cores = s.cores := by
  refine List.foldlRecOn (motive := fun t : State => t.cores = s.cores) _ _ rfl fun t ht _ _ => ?_
  unfold State.oneCheck
  split
  · split
    · rw [State.cores_txCheck, ht]
    · exact ht
  · exact ht

@[simp] theorem State.cores_txCheckNow : (s.txCheckNow r k q).cores = s.cores := by
  unfold State.txCheckNow
  split
  · rfl
  · split <;> simp

@[simp] theorem State.cores_lockCheckNow : (s.lockCheckNow r k q).cores = s.cores := by
  unfold State.lockCheckNow
  split
  · rfl
  · split <;> simp

/-- No command that joins a queue changes a core. -/
theorem State.cores_enqueue : (s.enqueue r k q).cores = s.cores := by simp [State.enqueue]

end

/-! ## A command that joins its queue long before its port time (R142, R143) -/

theorem usU_eq : usU = 1000 * 2 ^ 32 := rfl

theorem State.listenUs_le (s : State) (subs : List Nat) : s.listenUs subs ≤ 65535 := by
  unfold State.listenUs
  extract_lets l
  split
  · decide
  · refine List.foldlRecOn (motive := fun n => n ≤ 65535) _ _ (by decide) fun n hn b _ => ?_
    have hfld : s.fld (F.REG_SB_LBT_LISTEN s.profile b) < 2 ^ 16 := getBits_lt ..
    omega

/-- The move of a command's synthesiser starts less than a second before its port time. -/
theorem State.moveInstant_near (s : State) (r : Nat) (q : QCmd) : q.port < s.moveInstant r q + secU := by
  have hlisten : s.cmdListen r q ≤ 65535 * usU := by
    unfold State.cmdListen
    split
    · exact Nat.mul_le_mul_right _ (s.listenUs_le _)
    · exact Nat.zero_le _
  rw [usU_eq] at hlisten
  unfold State.moveInstant
  rw [secU_eq, usU_eq]
  split_ifs <;> omega

/-- CHAN, MODE and POWER as they act leave what the command is, where it is told and when it acts. -/
theorem normalCmd_keeps (r k : Nat) (c : QCmd) : (normalCmd r k c).1.op = c.op ∧ (normalCmd r k c).1.recAt = c.recAt ∧
    (normalCmd r k c).1.port = c.port ∧ (normalCmd r k c).1.slot = c.slot ∧ (normalCmd r k c).1.pre = c.pre := ⟨rfl, rfl, rfl, rfl, rfl⟩

@[simp] theorem State.chain_flagCmd (s : State) (r : Nat) (bad clamped : Bool) (j i : Nat) : (s.flagCmd r bad clamped).chain j i = s.chain j i := by
  cases bad <;> cases clamped <;> rfl

@[simp] theorem State.now_flagCmd (s : State) (r : Nat) (bad clamped : Bool) : (s.flagCmd r bad clamped).now = s.now := by
  have hstat : R.RF_STAT r ≠ R.TSEL_STAT := by
    unfold R.RF_STAT R.TSEL_STAT
    omega
  have hbad : (if bad then s.setFld (F.RF_STAT_BAD_ARG r) 1 else s).now = s.now := by
    split
    · exact s.now_setFld _ hstat
    · rfl
  unfold State.flagCmd
  dsimp only
  split
  · exact (State.now_setFld _ _ hstat).trans hbad
  · exact hbad

theorem State.again_port {s : State} {r k : Nat} {q x : QCmd} (h : s.again r k q = some x) : x.port = q.port := by
  have hsame := List.find?_some h
  simp only [QCmd.same, Bool.and_eq_true, beq_iff_eq] at hsame
  exact hsame.1.1.2

/-- A check whose instant has not come is not made. -/
theorem State.txCheckNow_early (s : State) (r k : Nat) (c : QCmd) (h : s.now + 50 * usU < c.port) : s.txCheckNow r k c = s := by
  unfold State.txCheckNow
  split
  · rfl
  · next c1 hc1 => exact if_neg (by simp [State.again_port hc1, h])

theorem State.lockCheckNow_early (s : State) (r k : Nat) (c : QCmd) (h : s.now + 30 * usU < c.port) : s.lockCheckNow r k c = s := by
  unfold State.lockCheckNow
  split
  · rfl
  · next c1 hc1 => exact if_neg (by simp [State.again_port hc1, h])

/-- A command that comes a second or more before its port time, on a chain that no calibration step holds, joins the queue, and nothing else
happens on a chain. -/
theorem State.enqueue_far (s : State) {r k : Nat} {c : QCmd} (hact : ∀ y, (s.chain r k).act = some y → y.kind ≠ .cal)
    (hport : s.now + secU ≤ c.port) : s.enqueue r k c =
      (s.flagCmd r (normalCmd r k c).2.1 (normalCmd r k c).2.2).setChain r k
        { s.chain r k with queue := (s.chain r k).queue ++ [(normalCmd r k c).1] } := by
  set n := normalCmd r k c with hn
  set s1 := s.flagCmd r n.2.1 n.2.2 with hs1
  set s2 := s1.setChain r k { s.chain r k with queue := (s.chain r k).queue ++ [n.1] } with hs2
  have hchain : s1.chain r k = s.chain r k := s.chain_flagCmd ..
  have hnow : s2.now = s.now := s.now_flagCmd ..
  have hnport : n.1.port = c.port := (normalCmd_keeps r k c).2.2.1
  have hclaim : s1.claimChain r k n.1 = s1 := by
    unfold State.claimChain
    rw [hchain]
    split
    · next a ha => exact if_neg fun h => hact a ha h.1
    · rfl
  have hline : s1.lineUp r k n.1 = s2 := by
    unfold State.lineUp
    rw [hchain]
    dsimp only
    rw [← hs2]
    refine if_neg ?_
    have hmove := s2.moveInstant_near r n.1
    rw [Bool.and_eq_true, decide_eq_true_eq, hnow]
    omega
  have hlead : 50 * usU < secU := by decide
  have hlead' : 30 * usU < secU := by decide
  unfold State.enqueue
  rw [← hn]
  show ((((s1.claimChain r k n.1).lineUp r k n.1).txCheckNow r k n.1).lockCheckNow r k n.1) = s2
  rw [hclaim, hline, State.txCheckNow_early, State.lockCheckNow_early] <;> omega

end Sys2Proof.Machine
end

section
/-!
SUPPORT. The code of a radio command (R126): the module's conditions are those of the list, in its order.
-/
namespace Sys2Proof.Machine

theorem leadUs_eq (r op : Nat) : leadUs r op = leadOf op r := by
  unfold leadUs leadOf
  split <;> rfl

theorem chainAccepts_iff {e : Nat} (he : e < 3) (op k : Nat) : chainAccepts e op k = true ↔ k ∈ (chainsOf op).getD e [] := by
  have hfour : k ∈ [0, 1, 2, 3] ↔ k ≤ 3 := by simp only [List.mem_cons, List.not_mem_nil, or_false]; omega
  have htwo : k ∈ [0, 1] ↔ k ≤ 1 := by simp only [List.mem_cons, List.not_mem_nil, or_false]; omega
  unfold chainAccepts chainsOf
  split <;> interval_cases e <;> simp [hfour, htwo]

theorem op_of_chainAccepts {e op k : Nat} (h : chainAccepts e op k = true) (hop : op ≠ 11) : ¬ (op = 0 ∨ 10 < op) := by
  unfold chainAccepts at h
  split at h
  case h_12 => exact absurd h Bool.false_ne_true
  all_goals omega

/-- A chain that Table 05-5 lists is one of four. -/
theorem lt_four_of_mem_chainsOf {e op k : Nat} (he : e < 3) (h : k ∈ (chainsOf op).getD e []) : k < 4 := by
  have haccepts := (chainAccepts_iff he op k).2 h
  unfold chainAccepts at haccepts
  split at haccepts <;> interval_cases e <;> simp at haccepts <;> omega

section
variable (s : State) {e : Nat} (a k rb : Nat)

/-- Item 1 of R126 on the window, the buffer and the reserved bytes. -/
theorem State.recordBad_iff :
    let byte (i n : Nat) : Nat := (s.engine e).rd (a + i) n
    let op := byte 0 1
    s.recordBad e a (s.recordCmd e a rb) = true ↔
      ((op = 2 ∨ op = 7) ∧ (byte 20 4 = 0 ∨ 4000000 < byte 20 4)) ∨ (op ≠ 2 ∧ op ≠ 7 ∧ byte 20 4 ≠ 0) ∨
      (op = 1 ∧ (isSpad (byte 24 5) = false ∨ byte 24 5 % 8 ≠ 0)) ∨ byte 18 2 ≠ 0 ∨ byte 29 3 ≠ 0 := by
  intro byte op
  have hwin : ((if op = 2 ∨ op = 7 then byte 20 4 == 0 || decide (4000000 < byte 20 4) else byte 20 4 != 0) = true) ↔
      ((op = 2 ∨ op = 7) ∧ (byte 20 4 = 0 ∨ 4000000 < byte 20 4)) ∨ (op ≠ 2 ∧ op ≠ 7 ∧ byte 20 4 ≠ 0) := by
    split
    · next h => simp [h]; omega
    · next h => simp; omega
  have hbad : s.recordBad e a (s.recordCmd e a rb) =
      (((if op = 2 ∨ op = 7 then byte 20 4 == 0 || decide (4000000 < byte 20 4) else byte 20 4 != 0) ||
        (op == 1 && (!isSpad (byte 24 5) || byte 24 5 % 8 != 0))) || byte 18 2 != 0 || byte 29 3 != 0) := rfl
  rw [hbad]
  simp only [Bool.or_eq_true, Bool.and_eq_true, beq_iff_eq, bne_iff_ne, Bool.not_eq_true', hwin, or_assoc]

/-- The port time of a record. -/
theorem State.recordCmd_port : (s.recordCmd e a rb).port =
    if (s.engine e).rd (a + 1) 1 % 2 = 1 then s.now + leadOf ((s.engine e).rd a 1) e * usU
    else packedTarget s.now ((s.engine e).rd (a + 8) 8) + (s.engine e).rd (a + 16) 2 * 2 ^ 16 := by
  have hport : (s.recordCmd e a rb).port = if bitOf ((s.engine e).rd (a + 1) 1) 0 then s.now + leadUs e ((s.engine e).rd a 1) * usU
      else packedTargetF s.now ((s.engine e).rd (a + 8) 8) ((s.engine e).rd (a + 16) 2) := rfl
  have hfrac := (s.engine e).rd_lt (a + 16) 2
  rw [hport, bitOf, Nat.testBit_zero, leadUs_eq, packedTargetF, Nat.mod_eq_of_lt (show (s.engine e).rd (a + 16) 2 < 2 ^ 16 from hfrac)]
  exact if_congr decide_eq_true_iff rfl rfl

theorem State.portBad_iff (c : QCmd) : s.portBad e k c = true ↔
    s.now + 4096 * secU < c.port ∨ ∃ q ∈ (s.chain e k).queue.filter (fun q => q.ack.isNone), c.port < q.port := by
  simp [State.portBad, and_assoc]

end

/-- The conditions that the list tells before those of the time are item 1's. -/
theorem ite_or_same {α : Type} {p q : Prop} [Decidable p] [Decidable q] (x y : α) :
    (if p then x else if q then x else y) = if p ∨ q then x else y := by
  by_cases hp : p <;> simp [hp]

/-- Items 2 to 7 of R126. -/
theorem State.issueCode_eq (s : State) (e k : Nat) (c : QCmd) (late imm : Bool) : s.issueCode e k c late imm =
    (if s.coarse = true ∧ c.op ≠ 9 ∧ c.op ≠ 10 then .fault
    else if late = true then .late
    else if c.op ≠ 10 ∧ ¬ imm = true ∧ c.port < s.now + leadOf c.op e * usU then .late
    else if c.op = 1 ∧ s.rdLe c.buf 1 % 2 = 0 then .late
    else if c.op = 1 ∧ c.len < (match modeInfo e c.mode with | some m => m.min | none => 1) then .tooShort
    else if c.op = 1 ∧ (match modeInfo e c.mode with | some m => m.max | none => 0) < c.len then .tooLong
    else if 8 ≤ ((s.chain e k).queue.filter (fun q => q.ack.isNone)).length then .busy
    else .ok) := by
  unfold State.issueCode
  refine ite_congr ?_ (fun _ => rfl) fun _ => ?_
  · simp [and_assoc]
  refine ite_congr rfl (fun _ => rfl) fun _ => ?_
  refine ite_congr ?_ (fun _ => rfl) fun _ => ?_
  · simp [leadUs_eq, and_assoc]
  refine ite_congr ?_ (fun _ => rfl) fun _ => ?_
  · simp [QCmd.isTx_eq, State.bufReady, bitOf, Nat.testBit_zero]
  refine ite_congr ?_ (fun _ => rfl) fun hshort => ?_
  · cases modeInfo e c.mode <;> simp [QCmd.isTx_eq]
  refine ite_congr ?_ (fun _ => rfl) fun _ => ite_congr ?_ (fun _ => rfl) fun _ => rfl
  · cases hmode : modeInfo e c.mode with
    | none =>
      simp only [QCmd.isTx_eq, hmode, Option.elim, Bool.and_true, decide_eq_true_eq] at hshort ⊢
      exact propext ⟨fun hop => ⟨hop, Nat.pos_of_ne_zero fun h => hshort ⟨hop, by omega⟩⟩, And.left⟩
    | some m => simp [QCmd.isTx_eq]
  · simp

/-- The module's answer to a record, but for SLOT, is the list's. -/
theorem State.codeOfR126_eq (s : State) {e : Nat} (he : e < 3) (a k rb : Nat) (late : Bool) (hop : (s.engine e).rd a 1 ≠ 11) :
    let c := s.recordCmd e a rb
    (if (decide (a % 8 ≠ 0) || !chainAccepts e c.op k || (s.recordBad e a c || (c.op != 10 && s.portBad e k c))) = true then Status.fault
      else s.issueCode e k c late (bitOf ((s.engine e).rd (a + 1) 1) 0 && c.op != 11)) = s.codeOfR126 e a k late := by
  intro c
  have hcop : c.op = (s.engine e).rd a 1 := rfl
  have hrecord := s.recordBad_iff (e := e) a rb
  have hport := s.recordCmd_port (e := e) a rb
  have himm : (bitOf ((s.engine e).rd (a + 1) 1) 0 && c.op != 11) = true ↔ (s.engine e).rd (a + 1) 1 % 2 = 1 := by
    simp [bitOf, Nat.testBit_zero, hcop, hop]
  have haccepts := chainAccepts_iff he c.op k
  have hrange (h : chainAccepts e c.op k = true) := op_of_chainAccepts h hop
  unfold State.codeOfR126
  dsimp only [Nat.add_zero] at hrecord ⊢
  simp only [ite_or_same, State.issueCode_eq, ← hport]
  refine ite_congr (propext ?_) (fun _ => rfl) fun _ => ?_
  · rw [Bool.or_eq_true, Bool.or_eq_true, Bool.or_eq_true, Bool.and_eq_true, hrecord, State.portBad_iff, bne_iff_ne]
    have hchain : (!chainAccepts e c.op k) = true ↔ c.op = 0 ∨ 10 < c.op ∨ k ∉ (chainsOf c.op).getD e [] := by
      rw [← haccepts, ← or_assoc]
      by_cases h : chainAccepts e c.op k = true
      · simp [h, hrange h]
      · simp [h]
    simp only [hchain, decide_eq_true_eq, or_assoc]
    rfl
  · simp only [himm]
    rfl

end Sys2Proof.Machine
end

section
/-!
SUPPORT. A radio command as its engine issues it (R124 to R126, R203): refused, noted as an ABORT, or joined to its queue.
-/
namespace Sys2Proof.Machine

/-- The record and its line as a refusal leaves them (R124). -/
def State.refuseCmd (s : State) (e a : Nat) (c : QCmd) (st : Status) : State :=
  let s1 := s.writeRecord e a st.code s.now
  let s2 := if c.evt then s1.pulseFree c.doneEv else s1
  let s3 := match c.slot with | some o => s2.occDone e o st.code | none => s2
  if st = .late then s3.count (F.SE_LATE_COUNT_CMD_LATE e) else s3

/-- The record with DONE clear, as an accepted command leaves it. -/
def State.acceptCmd (s : State) (e a : Nat) : State := s.setEngine e ((s.engine e).wr (a + 1) 1 ((s.engine e).rd (a + 1) 1 &&& 0x7F))

theorem State.rcmd_outside (s : State) (e : Nat) {a : Nat} (b k : Nat) (late : Bool) (h : a < 0x8000 ∨ 0xFFE0 < a) :
    s.rcmd e a b k late = (s, .fault) := if_pos h

section
variable (s : State) {e a : Nat} (b k : Nat) (late : Bool) (he : e < 3) (hrange : ¬ (a < 0x8000 ∨ 0xFFE0 < a))
include he hrange

/-- A record of any operation but SLOT gets the code of R126. -/
theorem State.rcmd_record (hop : (s.engine e).rd a 1 ≠ 11) :
    let c := s.recordCmd e a b
    let code := s.codeOfR126 e a k late
    (code ≠ .ok → s.rcmd e a b k late = (s.refuseCmd e a c code, code)) ∧
    (code = .ok → c.op = 10 → s.rcmd e a b k late =
      ((s.acceptCmd e a).setChain e k { s.chain e k with aborts := (s.chain e k).aborts ++ [(s.ticks, c)] }, .ok)) ∧
    (code = .ok → c.op ≠ 10 → s.rcmd e a b k late = ((s.acceptCmd e a).enqueue e k c, .ok)) := by
  intro c code
  unfold State.rcmd
  rw [if_neg hrange]
  extract_lets +onlyGivenNames imm occ c1 k1 bad code1 s0
  have hocc : occ = none := if_neg hop
  have hc : c1 = c := by
    unfold c1
    rw [hocc]
  have hk : k1 = k := by
    unfold k1
    rw [hocc]
  have hs0 : s0 = s := by
    unfold s0
    rw [hocc]
  have hrecord : ¬ c.op = 11 := hop
  have hcode : code1 = code := by
    unfold code1 bad
    rw [hc, hk, if_neg hrecord]
    exact s.codeOfR126_eq he a k b late hop
  rw [hc, hk, hs0, hcode]
  refine ⟨fun hne => ?_, fun hok hten => ?_, fun hok hten => ?_⟩
  · clear_value code
    split
    · exact absurd rfl hne
    · rfl
  · rw [hok]
    exact if_pos hten
  · rw [hok]
    exact if_neg hten

end

/-! ## SLOT (R203) -/

theorem State.keepsRadios_dropOffer (s : State) (e : Nat) (o : Occ) : s.KeepsRadios (s.dropOffer e o) := by
  have hstat : OffRadioStat (R.ACC_STAT e) := fun r hr => by unfold R.ACC_STAT R.RF_STAT; omega
  have hnext : OffRadioStat (R.ACC_NEXT e) := fun r hr => by unfold R.ACC_NEXT R.RF_STAT; omega
  exact ((((State.KeepsRadios.refl s).setAcc e _).setFld _ hstat).setFld _ hnext).setFld _ hnext

theorem State.now_dropOffer (s : State) (e : Nat) (o : Occ) : (s.dropOffer e o).now = s.now := by
  have hstat : R.ACC_STAT e ≠ R.TSEL_STAT := by unfold R.ACC_STAT R.TSEL_STAT; omega
  have hnext : R.ACC_NEXT e ≠ R.TSEL_STAT := by unfold R.ACC_NEXT R.TSEL_STAT; omega
  rw [State.dropOffer, State.accStat, State.now_setFld _ _ hnext, State.now_setFld _ _ hnext, State.now_setFld _ _ hstat]
  rfl

/-- The offer that is taken has left, and no other. -/
theorem State.offers_dropOffer {s : State} {e : Nat} {o : Occ} (ho : o ∈ (s.accOf e).offers) :
    ((s.dropOffer e o).accOf e).offers.length + 1 = (s.accOf e).offers.length := by
  have hacc : ((s.dropOffer e o).accOf e) = ({ s.accOf e with offers := (s.accOf e).offers.erase o } : AccState).refill :=
    SMap.get_set_same _ _ _
  rw [hacc, AccState.refill, List.length_map, List.length_erase_of_mem ho]
  have hpos := List.length_pos_of_mem ho
  omega

theorem leadOf_le (op e : Nat) : leadOf op e ≤ 30 := by
  unfold leadOf
  split
  case h_1 =>
    rcases e with _ | _ | _ | e <;> simp
  case h_2 | h_3 | h_4 =>
    rcases e with _ | _ | _ | e <;> simp
  all_goals decide

/-- A command that the module accepts for a chain: its chain, window and buffer are good, its port time lies a second to 4,096 s ahead and
not before one that is queued, and the queue has room. -/
structure State.Accepts (s : State) (e k : Nat) (c : QCmd) : Prop where
  chain : k ∈ (chainsOf c.op).getD e []
  good  : c.bad = false
  ahead : s.now + secU ≤ c.port
  near  : c.port ≤ s.now + 4096 * secU
  order : ∀ q ∈ (s.chain e k).queue, q.ack = none → q.port ≤ c.port
  room  : ((s.chain e k).queue.filter (fun q => q.ack.isNone)).length < 8
  ready : c.op = 1 → s.rdLe c.buf 1 % 2 = 1 ∧ ∃ m, modeInfo e c.mode = some m ∧ m.min ≤ c.len ∧ c.len ≤ m.max

section
variable {s : State} {e k : Nat} {c : QCmd} (h : s.Accepts e k c)
include h

theorem State.Accepts.portBad_eq : s.portBad e k c = false := by
  rw [← Bool.not_eq_true, State.portBad_iff]
  have hnear := h.near
  rintro (hfar | ⟨q, hq, hport⟩)
  · omega
  · obtain ⟨hmem, hack⟩ := List.mem_filter.1 hq
    exact absurd (h.order q hmem (Option.isNone_iff_eq_none.1 hack)) (by omega)

theorem State.Accepts.issueCode_eq (hfine : s.coarse = false) : s.issueCode e k c false false = .ok := by
  have hahead := h.ahead
  have hroom := h.room
  have hlead : leadOf c.op e * usU < secU := by
    have hle := leadOf_le c.op e
    rw [secU_eq, usU_eq]
    omega
  rw [State.issueCode_eq, hfine, if_neg (by simp), if_neg (by decide), if_neg (by omega), if_neg, if_neg, if_neg, if_neg (by omega)]
  · rintro ⟨hop, hlong⟩
    obtain ⟨-, m, hm, -, hmax⟩ := h.ready hop
    rw [hm] at hlong
    exact absurd hmax (by dsimp only at hlong; omega)
  · rintro ⟨hop, hshort⟩
    obtain ⟨-, m, hm, hmin, -⟩ := h.ready hop
    rw [hm] at hshort
    exact absurd hmin (by dsimp only at hshort; omega)
  · rintro ⟨hop, hready⟩
    exact absurd (h.ready hop).1 (by omega)

end

section
variable (s : State) {e a : Nat} (b k : Nat) (late : Bool) (hrange : ¬ (a < 0x8000 ∨ 0xFFE0 < a)) (hop : (s.engine e).rd a 1 = 11)
include hrange hop

/-- SLOT of an entry with no occurrence offered, or outside the table, is a fault. -/
theorem State.rcmd_slot_fault (h : tableSize e ≤ b % 16384 ∨ s.slotOcc e (b % 16384) = none) :
    ∃ c z, s.KeepsRadios z ∧ s.rcmd e a b k late = (z.refuseCmd e a c .fault, .fault) := by
  unfold State.rcmd
  rw [if_neg hrange]
  extract_lets +onlyGivenNames c0 imm occ c1 k1 bad code s0
  have hslot : c0.op = 11 := hop
  have hocc : occ = s.slotOcc e (b % 16384) := if_pos hslot
  have hbad : bad = true := by
    unfold bad
    rw [if_pos hslot, hocc]
    rcases h with h | h <;> simp [h]
  have hkeeps : s.KeepsRadios s0 := by
    unfold s0
    rw [hocc]
    cases s.slotOcc e (b % 16384) with
    | none => exact .refl s
    | some o => exact s.keepsRadios_dropOffer e o
  rw [show code = .fault from if_pos hbad]
  exact ⟨c1, s0, hkeeps, rfl⟩

/-- SLOT of an offered occurrence that makes a good command takes the offer and issues the command on the occurrence's chain. -/
theorem State.rcmd_slot_accepted (he : e < 3) (hk : k = 0) (hlate : late = false) {o : Occ} (ha : a % 8 = 0)
    (hfine : s.coarse = false) (hidx : b % 16384 < tableSize e)
    (ho : s.slotOcc e (b % 16384) = some o) (hpre : o.badPre = false) (h : s.Accepts e o.chain (s.slotCmd (s.recordCmd e a b) o)) :
    s.rcmd e a b k late =
      (((s.dropOffer e o).acceptCmd e a).enqueue e o.chain (s.slotCmd (s.recordCmd e a b) o), .ok) := by
  subst hk hlate
  unfold State.rcmd
  rw [if_neg hrange]
  extract_lets +onlyGivenNames c0 imm occ c1 k1 bad code s0
  have hslot : c0.op = 11 := hop
  have hocc : occ = some o := (if_pos hslot).trans ho
  have hc : c1 = s.slotCmd c0 o := by
    unfold c1
    rw [hocc]
  have hk : k1 = o.chain := by
    unfold k1
    rw [hocc]
  have hs0 : s0 = s.dropOffer e o := by
    unfold s0
    rw [hocc]
  have hop10 : (s.slotCmd c0 o).op ≠ 10 := by
    show (if o.action = 1 then 2 else 1) ≠ 10
    split <;> decide
  have hbad : bad = false := by
    have haccepts : chainAccepts e 11 0 = true := rfl
    unfold bad
    rw [if_pos hslot, hocc, hc, hk, hslot, haccepts, (chainAccepts_iff he _ _).2 h.chain, h.portBad_eq, h.good]
    simp [ha, hidx, hpre]
  have hcode : code = .ok := by
    unfold code
    rw [hbad, hc, hk, hslot, if_neg (by decide), show (imm && 11 != 11) = false from Bool.and_false _]
    exact h.issueCode_eq hfine
  rw [hcode, hc, hk, hs0]
  exact if_neg hop10

end

end Sys2Proof.Machine
end

section
/-!
SUPPORT. RCMD whole: the code in its register, what a refusal leaves, what an accepted command joins (R124 to R126, R203).
-/
namespace Sys2Proof.Machine

/-! ## The rows of RCMD -/

theorem State.Issues.rcmd {s : State} {core : Fin 24} (h : s.Issues core .timed)
    {row : Fin 24 → Fin 32 → Fin 32 → Fin 32 → Byte → Instr} (hrow : row ∈ rcmdForms) (rd ra rb : Fin 32) (chain : Byte)
    {z : State} {st : Status}
    (hrcmd : (s.begun core).rcmd (core.val - 20) (((s.begun core).core core).gr ra).toNat (((s.begun core).core core).gr rb).toNat chain.toNat
      (s.engine (core.val - 20)).lateNext = (z, st)) :
    exec (row core rd ra rb chain) s = .next (z.result core rd (stWord st)) := by
  have hexec : exec (row core rd ra rb chain) s = .next (s.rcmdIns core rd ra rb chain) := by
    simp only [rcmdForms, List.mem_cons, List.not_mem_nil, or_false] at hrow
    rcases hrow with rfl | rfl | rfl | rfl | rfl | rfl | rfl | rfl | rfl | rfl | rfl <;> rfl
  rw [hexec, State.rcmdIns, h.ins_legal, hrcmd]

/-- A step that keeps the cores leaves the instruction's own effect on them. -/
theorem State.result_wroteG {z s : State} (core : Fin 24) (hcores : z.cores = s.cores) (rd : Fin 32) (v : DWord) :
    (s.core core).WroteG ((z.result core rd v).core core) rd v := by
  have hcore : z.core core = s.core core := by rw [State.core, State.core, hcores]
  have hsame : (s.core core).SameRegs (z.core core) := hcore ▸ ⟨rfl, rfl, rfl, rfl, rfl, rfl⟩
  rw [State.result, State.core_advance]
  exact hsame.wroteG core rd v

/-! ## Refusals and acceptances -/

/-- What a refusal leaves, and its record. -/
theorem State.refuseCmd_refused (s : State) (e a : Nat) (c : QCmd) (st : Status) :
    (s.refuseCmd e a c st).cores = s.cores ∧ (∀ r k, (s.refuseCmd e a c st).chain r k = s.chain r k) ∧
    (c.recAt = some a → s.Recorded (s.refuseCmd e a c st) e c st.code s.now) := by
  set s1 := s.writeRecord e a st.code s.now with hs1
  set s2 := if c.evt then s1.pulseFree c.doneEv else s1 with hs2
  have hline : s1.KeepsRadios s2 := by
    rw [hs2]
    split
    · exact s1.keepsRadios_pulseFree _
    · exact .refl s1
  have hslot : s2.KeepsRadios (match c.slot with | some o => s2.occDone e o st.code | none => s2) := by
    split
    · exact (State.KeepsRadios.refl s2).occDone e _ _
    · exact .refl s2
  have hcount : OffRadioStat (F.SE_LATE_COUNT_CMD_LATE e).addr := fun r hr => by
    show R.RF_STAT r ≠ R.SE_LATE_COUNT e
    unfold R.SE_LATE_COUNT R.RF_STAT
    omega
  have hrest : s2.KeepsRadios (s.refuseCmd e a c st) := by
    unfold State.refuseCmd
    extract_lets +onlyGivenNames t1
    split
    · exact hslot.count hcount
    · exact hslot
  have hall := hline.trans hrest
  exact ⟨hall.cores, hall.chain, fun hrec => (s.recorded_writeRecord e c a s.now st.code_lt hrec).mono hrest.eng hrest.fabric⟩

theorem State.cores_acceptCmd (s : State) (e a : Nat) : (s.acceptCmd e a).cores = s.cores := rfl

theorem State.chain_acceptCmd (s : State) (e a r k : Nat) : (s.acceptCmd e a).chain r k = s.chain r k := rfl

theorem State.now_acceptCmd (s : State) (e a : Nat) : (s.acceptCmd e a).now = s.now := rfl

theorem State.accOf_acceptCmd (s : State) (e a r : Nat) : (s.acceptCmd e a).accOf r = s.accOf r := rfl

theorem State.acceptCmd_clear (s : State) (e a : Nat) :
    ((s.acceptCmd e a).engine e).rd (a + 1) 1 = (s.engine e).rd (a + 1) 1 % 128 := by
  rw [State.acceptCmd, State.engine_setEngine_same, Engine.rd_clear]

/-- What a command that joins its queue a second or more ahead leaves. -/
theorem State.enqueue_joins {s : State} {e k : Nat} {c : QCmd} (hact : ∀ y, (s.chain e k).act = some y → y.kind ≠ .cal)
    (hport : s.now + secU ≤ c.port) :
    ((s.enqueue e k c).chain e k).queue = (s.chain e k).queue ++ [(normalCmd e k c).1] ∧
    (∀ r j, 4 * r + j ≠ 4 * e + k → (s.enqueue e k c).chain r j = s.chain r j) ∧
    (s.enqueue e k c).engine e = s.engine e ∧ (s.enqueue e k c).accOf e = s.accOf e := by
  have hflag : ∀ bad clamped, (s.flagCmd e bad clamped).engine e = s.engine e ∧ (s.flagCmd e bad clamped).accOf e = s.accOf e :=
    fun bad clamped => by cases bad <;> cases clamped <;> exact ⟨rfl, rfl⟩
  rw [s.enqueue_far hact hport]
  refine ⟨by rw [State.chain_setChain_same], fun r j hne => ?_, (hflag _ _).1, (hflag _ _).2⟩
  rw [State.chain_setChain_other _ _ hne, State.chain_flagCmd]

/-! ## RCMD on a running engine -/

/-- Memory does not lie in an engine. -/
theorem State.rdLe_setEngine (s : State) (e : Nat) (x : Engine) (a n : Nat) : (s.setEngine e x).rdLe a n = s.rdLe a n := by
  have hbytes (a : Nat) : (s.setEngine e x).bytes a n = s.bytes a n := by
    induction n generalizing a with
    | zero => rfl
    | succ n ih => exact congrArg (s.readByte a :: ·) (ih (a + 1))
  rw [State.rdLe, State.rdLe, hbytes]

section
variable {s : State} {core : Fin 24} (he : IsEngine core) (h : s.Issues core .timed)
include he h

/-- The state that RCMD begins in has the chains and the time of the tick. -/
theorem State.Issues.begun_radios : (s.begun core).chains = s.chains ∧ (s.begun core).now = s.now ∧ (s.begun core).ticks = s.ticks ∧
    (s.begun core).coarse = s.coarse ∧ (s.begun core).acc = s.acc ∧ (∀ a n, (s.begun core).rdLe a n = s.rdLe a n) := by
  rw [h.begun_engine he]
  exact ⟨rfl, rfl, rfl, rfl, rfl, fun a n => s.rdLe_setEngine _ _ a n⟩

theorem State.Issues.begun_chain (r k : Nat) : (s.begun core).chain r k = s.chain r k := by
  rw [State.chain, State.chain, (h.begun_radios he).1]

end

/-- A refused record holds its code, with DONE, and its line has pulsed where it asks for one. -/
theorem State.refuseCmd_bytes (s : State) (e a b : Nat) (st : Status) :
    let t := s.refuseCmd e a (s.recordCmd e a b) st
    (t.engine e).rd (a + 3) 1 = st.code ∧ (t.engine e).rd (a + 1) 1 = (s.engine e).rd (a + 1) 1 % 128 + 128 ∧
    ((s.engine e).rd (a + 1) 1 / 4 % 2 = 1 → 64 ≤ (s.engine e).rd (a + 2) 1 → ∃ p ∈ t.fabric, p.line = (s.engine e).rd (a + 2) 1) := by
  intro t
  obtain ⟨-, -, hrecorded⟩ := s.refuseCmd_refused e a (s.recordCmd e a b) st
  obtain ⟨hcode, hdone, -, -, hline⟩ := hrecorded rfl a rfl
  have hline255 : (s.engine e).rd (a + 2) 1 ≤ 255 := by
    have hlt := (s.engine e).rd_lt (a + 2) 1
    omega
  refine ⟨hcode, hdone, fun hevt hfree => hline ?_ hfree hline255⟩
  show bitOf ((s.engine e).rd (a + 1) 1) 2 = true
  rw [bitOf, Nat.testBit_eq_decide_div_mod_eq, decide_eq_true_eq]
  exact hevt

/-- An accepted record whose port time is given and a second or more ahead is the last of its chain's queue. -/
theorem State.acceptCmd_joins (s : State) {e a k : Nat} (b : Nat) (hact : ∀ y, (s.chain e k).act = some y → y.kind ≠ .cal)
    (himm : (s.engine e).rd (a + 1) 1 % 2 = 0) (hahead : s.now + secU ≤ packedTarget s.now ((s.engine e).rd (a + 8) 8)) :
    let t := (s.acceptCmd e a).enqueue e k (s.recordCmd e a b)
    (t.engine e).rd (a + 1) 1 = (s.engine e).rd (a + 1) 1 % 128 ∧
    (∃ c, (t.chain e k).queue = (s.chain e k).queue ++ [c] ∧ c.op = (s.engine e).rd a 1 ∧ c.recAt = some a ∧
      c.port = packedTarget s.now ((s.engine e).rd (a + 8) 8) + (s.engine e).rd (a + 16) 2 * 2 ^ 16) ∧
    ∀ r j, 4 * r + j ≠ 4 * e + k → t.chain r j = s.chain r j := by
  intro t
  have hport : (s.recordCmd e a b).port = packedTarget s.now ((s.engine e).rd (a + 8) 8) + (s.engine e).rd (a + 16) 2 * 2 ^ 16 := by
    rw [State.recordCmd_port, if_neg (by omega)]
  have hfar : s.now + secU ≤ (s.recordCmd e a b).port := by
    rw [hport]
    exact hahead.trans (Nat.le_add_right _ _)
  obtain ⟨hqueue, hothers, hengine, -⟩ := State.enqueue_joins (s := s.acceptCmd e a) (c := s.recordCmd e a b) hact hfar
  exact ⟨(congrArg (Engine.rd · (a + 1) 1) hengine).trans (s.acceptCmd_clear e a), ⟨_, hqueue, rfl, rfl, hport⟩, hothers⟩

/-- What an occurrence offers makes a command that the module accepts. -/
theorem State.slotCmd_accepts (s : State) {e : Nat} (c : QCmd) {o : Occ}
    (hchain : o.chain ∈ (chainsOf (if o.action = 1 then 2 else 1)).getD e [])
    (hwindow : o.action = 1 → 0 < o.window ∧ o.window ≤ 4000000)
    (hbuf : o.action ≠ 1 → isSpad o.buf = true ∧ o.buf % 8 = 0 ∧ s.rdLe o.buf 1 % 2 = 1 ∧
      ∃ m, modeInfo e o.mode = some m ∧ m.min ≤ s.rdLe (o.buf + 2) 2 ∧ s.rdLe (o.buf + 2) 2 ≤ m.max)
    (hahead : s.now + secU ≤ o.port) (hnear : o.port ≤ s.now + 4096 * secU)
    (horder : ∀ q ∈ (s.chain e o.chain).queue, q.ack = none → q.port ≤ o.port)
    (hroom : ((s.chain e o.chain).queue.filter (fun q => q.ack.isNone)).length < 8) : s.Accepts e o.chain (s.slotCmd c o) := by
  refine ⟨hchain, ?_, hahead, hnear, horder, hroom, fun hop => ?_⟩
  · have hbad : (s.slotCmd c o).bad = ((if (if o.action = 1 then 2 else 1) = 2 ∨ (if o.action = 1 then 2 else 1) = 7 then
        (if o.action = 1 then o.window else 0) == 0 || decide (4000000 < if o.action = 1 then o.window else 0)
        else (if o.action = 1 then o.window else 0) != 0) ||
        ((if o.action = 1 then 2 else 1) == 1 && (!isSpad o.buf || o.buf % 8 != 0))) := rfl
    rw [hbad]
    by_cases hrx : o.action = 1
    · obtain ⟨hpos, hmax⟩ := hwindow hrx
      simp [hrx, Nat.ne_of_gt hpos, hmax]
    · obtain ⟨hspad, halign, -⟩ := hbuf hrx
      simp [hrx, hspad, halign]
  · have htx : o.action ≠ 1 := fun hrx => by
      have htwo : (if o.action = 1 then 2 else 1) = 1 := hop
      rw [if_pos hrx] at htwo
      omega
    exact (hbuf htx).2.2

end Sys2Proof.Machine
end

section
/-!
SUPPORT. O30 put together: RCMD over the rows of its form, and the decision instants.
-/
namespace Sys2Proof.Machine

/-- A record that gets OK names one of four chains. -/
theorem State.chain_of_codeOfR126_ok {s : State} {e a k : Nat} {late : Bool} (he : e < 3) (h : s.codeOfR126 e a k late = .ok) : k < 4 := by
  by_contra hk
  have hfault : s.codeOfR126 e a k late = .fault := if_pos (.inr (.inr (.inr fun hmem => hk (lt_four_of_mem_chainsOf he hmem))))
  rw [hfault] at h
  cases h

section
variable {s : State} {core : Fin 24} (he : IsEngine core) (h : s.Issues core .timed)
  {row : Fin 24 → Fin 32 → Fin 32 → Fin 32 → Byte → Instr} (hrow : row ∈ rcmdForms) (rd ra rb : Fin 32) (chain : Byte)
include he h hrow

/-- RCMD of a record of any operation but SLOT. -/
theorem State.Issues.rcmd_record :
    let e := core.val - 20
    let s0 := s.begun core
    let x := s0.core core
    let a := (x.gr ra).toNat
    let byte (t : State) (i n : Nat) : Nat := (t.engine e).rd (a + i) n
    let op := byte s0 0 1
    let code := s0.codeOfR126 e a chain.toNat (s.engine e).lateNext
    0x8000 ≤ a → a ≤ 0xFFE0 → op ≠ 11 → Gives (row core rd ra rb chain) s fun t =>
      x.WroteG (t.core core) rd (BitVec.ofNat 64 code.code) ∧
      (code ≠ .ok → (∀ r k, t.chain r k = s.chain r k) ∧ byte t 3 1 = code.code ∧ byte t 1 1 = byte s0 1 1 % 128 + 128 ∧
        (byte s0 1 1 / 4 % 2 = 1 → 64 ≤ byte s0 2 1 → ∃ p ∈ t.fabric, p.line = byte s0 2 1)) ∧
      (code = .ok → op = 10 → byte t 1 1 = byte s0 1 1 % 128 ∧
        ∃ c, (t.chain e chain.toNat).aborts = (s.chain e chain.toNat).aborts ++ [(s.ticks, c)]) ∧
      (code = .ok → op ≠ 10 → (∀ y, (s.chain e chain.toNat).act = some y → y.kind ≠ .cal) →
        s.now + secU ≤ packedTarget s.now (byte s0 8 8) → byte s0 1 1 % 2 = 0 →
        byte t 1 1 = byte s0 1 1 % 128 ∧ (∃ c, (t.chain e chain.toNat).queue = (s.chain e chain.toNat).queue ++ [c] ∧ c.op = op ∧
          c.recAt = some a ∧ c.port = packedTarget s.now (byte s0 8 8) + byte s0 16 2 * 2 ^ 16) ∧
        ∀ r k, r < 3 → k < 4 → (r, k) ≠ (e, chain.toNat) → t.chain r k = s.chain r k) := by
  intro e s0 x a byte op code hlo hhi hop
  have he3 : e < 3 := by have := he.1; have := he.2; omega
  have hrange : ¬ (a < 0x8000 ∨ 0xFFE0 < a) := by omega
  have hbegun := h.begun_chain he
  obtain ⟨-, hnow, hticks, -, -, -⟩ := h.begun_radios he
  obtain ⟨hrefused, habort, hqueue⟩ := s0.rcmd_record (x.gr rb).toNat chain.toNat (s.engine e).lateNext he3 hrange hop
  by_cases hok : code = .ok
  · have hk := State.chain_of_codeOfR126_ok he3 hok
    by_cases hten : op = 10
    · refine ⟨_, h.rcmd hrow rd ra rb chain (habort hok hten), ?_, fun hne => absurd hok hne,
        fun _ _ => ⟨s0.acceptCmd_clear e a, s0.recordCmd e a (x.gr rb).toNat, ?_⟩, fun _ hne => absurd hten hne⟩
      · rw [hok]
        exact State.result_wroteG core rfl rd _
      · rw [← hbegun, ← hticks]
        exact congrArg Chain.aborts (State.chain_setChain_same ..)
    · have hexec := h.rcmd hrow rd ra rb chain (hqueue hok hten)
      have hcores := ((s0.acceptCmd e a).cores_enqueue e chain.toNat (s0.recordCmd e a (x.gr rb).toNat)).trans (s0.cores_acceptCmd e a)
      have hjoins := s0.acceptCmd_joins (e := e) (a := a) (k := chain.toNat) (x.gr rb).toNat
      generalize (s0.acceptCmd e a).enqueue e chain.toNat (s0.recordCmd e a (x.gr rb).toNat) = z at hexec hcores hjoins
      refine ⟨_, hexec, ?_, fun hne => absurd hok hne, fun _ h10 => absurd h10 hten, fun _ _ hact hahead himm => ?_⟩
      · rw [hok]
        exact State.result_wroteG core hcores rd _
      · rw [← hbegun] at hact
        rw [← hnow] at hahead ⊢
        obtain ⟨hdone, hjoined, hothers⟩ := hjoins hact himm hahead
        rw [hbegun] at hjoined
        refine ⟨hdone, hjoined, fun r k hr hk4 hne => (hothers r k fun heq => hne ?_).trans (hbegun r k)⟩
        exact Prod.ext (by omega) (by omega)
  · have hexec := h.rcmd hrow rd ra rb chain (hrefused hok)
    obtain ⟨hcores, hchains, -⟩ := s0.refuseCmd_refused e a (s0.recordCmd e a (x.gr rb).toNat) code
    have hbytes := s0.refuseCmd_bytes e a (x.gr rb).toNat code
    generalize s0.refuseCmd e a (s0.recordCmd e a (x.gr rb).toNat) code = z at hexec hcores hchains hbytes
    exact ⟨_, hexec, State.result_wroteG core hcores rd _, fun _ => ⟨fun r k => (hchains r k).trans (hbegun r k), hbytes⟩,
      fun h => absurd h hok, fun h => absurd h hok⟩

omit he in
/-- RCMD of an address outside the data area. -/
theorem State.Issues.rcmd_outside (hout : (((s.begun core).core core).gr ra).toNat < 0x8000 ∨ 0xFFE0 < (((s.begun core).core core).gr ra).toNat) :
    Computes (row core rd ra rb chain) s core rd fun _ => 0x11 := by
  have hrcmd := (s.begun core).rcmd_outside (core.val - 20) (((s.begun core).core core).gr rb).toNat chain.toNat
    (s.engine (core.val - 20)).lateNext hout
  rw [Computes, h.rcmd hrow rd ra rb chain hrcmd]
  rfl

/-- RCMD SLOT of an entry that has no occurrence offered, or lies outside the table. -/
theorem State.Issues.rcmd_slot_fault :
    let e := core.val - 20
    let s0 := s.begun core
    let x := s0.core core
    let a := (x.gr ra).toNat
    0x8000 ≤ a → a ≤ 0xFFE0 → (s0.engine e).rd (a + 0) 1 = 11 →
    (tableSize e ≤ (x.gr rb).toNat % 16384 ∨ ∀ o ∈ (s0.accOf e).offers, o.entry ≠ (x.gr rb).toNat % 16384) →
    Gives (row core rd ra rb chain) s fun t =>
      (rd ≠ 0 → (t.core core).gr rd = 0x11) ∧ (∀ r k, (t.chain r k).queue = (s.chain r k).queue) := by
  intro e s0 x a hlo hhi hop hnone
  have hocc : tableSize e ≤ (x.gr rb).toNat % 16384 ∨ s0.slotOcc e ((x.gr rb).toNat % 16384) = none :=
    hnone.imp id fun h => List.find?_eq_none.2 fun o ho => by simpa using h o ho
  obtain ⟨c, z, hkeeps, hrcmd⟩ := s0.rcmd_slot_fault (x.gr rb).toNat chain.toNat (s.engine e).lateNext
    (show ¬ (a < 0x8000 ∨ 0xFFE0 < a) by omega) hop hocc
  obtain ⟨hcores, hchains, -⟩ := z.refuseCmd_refused e a c .fault
  have hexec := h.rcmd hrow rd ra rb chain hrcmd
  generalize z.refuseCmd e a c .fault = u at hexec hcores hchains
  obtain ⟨-, hrd, -⟩ := State.result_wroteG core (hcores.trans hkeeps.cores) rd (stWord .fault)
  exact ⟨_, hexec, hrd, fun r k => congrArg Chain.queue (((hchains r k).trans (hkeeps.chain r k)).trans (h.begun_chain he r k))⟩

/-- RCMD SLOT of an offered occurrence that makes a good command for a chain that accepts it. -/
theorem State.Issues.rcmd_slot_accepted {o : Occ} :
    let e := core.val - 20
    let s0 := s.begun core
    let x := s0.core core
    let a := (x.gr ra).toNat
    let idx := (x.gr rb).toNat % 16384
    0x8000 ≤ a → a ≤ 0xFFE0 → a % 8 = 0 → (s0.engine e).rd (a + 0) 1 = 11 → chain = 0 → (s.engine e).lateNext = false →
    s.coarse = false → idx < tableSize e → s0.slotOcc e idx = some o → o.badPre = false →
    s0.Accepts e o.chain (s0.slotCmd (s0.recordCmd e a (x.gr rb).toNat) o) →
    (∀ y, (s.chain e o.chain).act = some y → y.kind ≠ .cal) →
    Gives (row core rd ra rb chain) s fun t =>
      x.WroteG (t.core core) rd 0 ∧ (t.engine e).rd (a + 1) 1 = (s0.engine e).rd (a + 1) 1 % 128 ∧
      (∃ c, (t.chain e o.chain).queue = (s.chain e o.chain).queue ++ [c] ∧ c.op = (if o.action = 1 then 2 else 1) ∧ c.recAt = some a ∧
        c.slot = some o ∧ c.port = o.port ∧ c.pre = o.pre) ∧
      ∃ l, (t.accOf e).offers = l ∧ l.length + 1 = (s.accOf e).offers.length := by
  intro e s0 x a idx hlo hhi halign hop hchain hlate hfine hidx ho hpre haccepts hact
  have he3 : e < 3 := by have := he.1; have := he.2; omega
  obtain ⟨-, -, -, hcoarse, hacc, -⟩ := h.begun_radios he
  have hrcmd := s0.rcmd_slot_accepted (x.gr rb).toNat chain.toNat (s.engine e).lateNext (show ¬ (a < 0x8000 ∨ 0xFFE0 < a) by omega) hop he3
    (congrArg BitVec.toNat hchain) hlate halign (hcoarse.trans hfine) hidx ho hpre haccepts
  set c := s0.slotCmd (s0.recordCmd e a (x.gr rb).toNat) o with hc
  have hdrop := s0.keepsRadios_dropOffer e o
  have hoffers := State.offers_dropOffer (List.mem_of_find?_eq_some ho)
  have hchains (r k : Nat) : ((s0.dropOffer e o).acceptCmd e a).chain r k = s.chain r k := by
    rw [State.chain_acceptCmd, hdrop.chain, h.begun_chain he]
  have hnow : ((s0.dropOffer e o).acceptCmd e a).now = s0.now := by rw [State.now_acceptCmd, State.now_dropOffer]
  have hfar : ((s0.dropOffer e o).acceptCmd e a).now + secU ≤ c.port := by
    rw [hnow]
    exact haccepts.ahead
  have hclear := (s0.dropOffer e o).acceptCmd_clear e a
  have hengine : (s0.dropOffer e o).engine e = s0.engine e := by rw [State.engine, State.engine, hdrop.eng]
  have hcores := (((s0.dropOffer e o).acceptCmd e a).cores_enqueue e o.chain c).trans (((s0.dropOffer e o).cores_acceptCmd e a).trans hdrop.cores)
  have hkept : (normalCmd e o.chain c).1.op = (if o.action = 1 then 2 else 1) ∧ (normalCmd e o.chain c).1.recAt = some a ∧
      (normalCmd e o.chain c).1.slot = some o ∧ (normalCmd e o.chain c).1.port = o.port ∧ (normalCmd e o.chain c).1.pre = o.pre :=
    ⟨rfl, rfl, rfl, rfl, rfl⟩
  obtain ⟨hqueue, -, heng, haccs⟩ := State.enqueue_joins (s := (s0.dropOffer e o).acceptCmd e a) (e := e) (k := o.chain) (c := c)
    (by rw [hchains]; exact hact) hfar
  have hexec := h.rcmd hrow rd ra rb chain hrcmd
  generalize ((s0.dropOffer e o).acceptCmd e a).enqueue e o.chain c = t at hexec hcores hqueue heng haccs
  rw [hchains] at hqueue
  rw [State.accOf_acceptCmd] at haccs
  have haccOf : s0.accOf e = s.accOf e := by rw [State.accOf, State.accOf, hacc]
  refine ⟨_, hexec, State.result_wroteG core hcores rd (stWord .ok), ?_, ⟨_, hqueue, hkept⟩, _, rfl, ?_⟩
  · rw [← hengine, ← hclear]
    exact congrArg (Engine.rd · (a + 1) 1) heng
  · rw [← haccOf, ← hoffers]
    exact congrArg (fun x : AccState => x.offers.length + 1) haccs

end

/-- Settles O30: RCMD by the kind of its record, and each decision instant on the head of a queue. -/
theorem radioCommandsAreAnsweredAndChecked : Obligations.RadioCommandsAreAnsweredAndChecked := by
  unfold Obligations.RadioCommandsAreAnsweredAndChecked
  refine ⟨fun row hrow core rd ra rb chain s he h => ?issue, fun r k s q rest hqueue hq => ?decide⟩
  case issue =>
    refine ⟨h.rcmd_outside hrow rd ra rb chain, h.rcmd_record he hrow rd ra rb chain,
      h.rcmd_slot_fault he hrow rd ra rb chain, ?_⟩
    intro o hlo hhi halign hop hchain hlate hfine idx act queue hidx ho hpre hmem hwindow hbuf hahead hnear horder hroom hact
    obtain ⟨-, hnow, -, -, -, hrd⟩ := h.begun_radios he
    have hbegun := h.begun_chain he
    rw [← hnow] at hahead hnear
    simp only [← hrd] at hbuf
    simp only [queue, ← hbegun] at horder hroom
    exact h.rcmd_slot_accepted he hrow rd ra rb chain hlo hhi halign hop hchain hlate hfine hidx ho hpre
      (State.slotCmd_accepts _ _ hmem hwindow hbuf hahead hnear horder hroom) hact
  case decide =>
    intro ended h ready power need reg
    have hone : r.val = 1 ↔ r = 1 := (Fin.ext_iff (b := 1)).symm
    have hready : s.lockReady r k q = true ↔ ready := (s.lockReady_iff r k q).trans (or_congr (and_congr_left' hone) Iff.rfl)
    refine ⟨fun hdue => ?_, fun hop hnot hport => ?_, ?_, ?_, ?_⟩
    · obtain ⟨hturn, hpa, hlock, hpass⟩ := exec_txRegulatoryCheck_head hqueue hq hdue
      rw [hready] at hlock
      exact ⟨hturn, hpa, hlock, fun ht hp hl => hpass ht hp fun hport => hready.2 (hl.resolve_left (Nat.not_lt.2 hport))⟩
    · obtain ⟨hlocked, hlate⟩ := exec_lockCheck_head hqueue hq hop hnot hport
      exact ⟨fun hr => hlocked (hready.2 hr), fun hr => hlate fun hl => hr (hready.1 hl)⟩
    · exact fun peak => exec_lbtDecision_head hqueue hq peak
    · exact exec_synthMoveStart_head hqueue hq
    · exact exec_transmitPathBegin_head hqueue hq

end Sys2Proof.Machine
end

section
/-!
SUPPORT. What an engine's access to memory leaves of the state (R275, R292).
-/
namespace Sys2Proof.Machine

/-! ## Words with wrong bits -/

theorem State.rest_logSpm (s : State) (a : Nat) (ue march : Bool) : s.logSpm a ue march = { s with regs := (s.logSpm a ue march).regs } := by
  unfold State.logSpm
  split <;> rfl

theorem State.rest_logDmc (s : State) (a : Nat) (ue : Bool) : s.logDmc a ue = { s with regs := (s.logDmc a ue).regs } := by
  unfold State.logDmc
  split <;> rfl

theorem State.rest_corrected (s : State) (a : Nat) :
    s.corrected a = { s with regs := (s.corrected a).regs, arrays := (s.corrected a).arrays } := by
  unfold State.corrected
  dsimp only
  split
  · rw [State.rest_logDmc]
    rfl
  · rw [State.rest_logSpm]
    rfl

theorem State.rest_uncorrectable (s : State) (a : Nat) : s.uncorrectable a = { s with regs := (s.uncorrectable a).regs } := by
  unfold State.uncorrectable
  split
  · rw [State.rest_logDmc]
    rfl
  · rw [State.rest_logSpm]
    rfl

/-! ## Accesses -/

/-- An engine's access to memory: beside bytes that it writes, words with wrong bits were dealt with and counted, reservations broken. -/
structure State.EngineAccess (z t : State) : Prop where
  rest : t = { z with regs := t.regs, arrays := t.arrays, mem := t.mem, cores := t.cores }
  reg  : ∀ a, OffEccLog a → t.reg a = z.reg a
  shut : ∀ b, z.shut b = false → t.shut b = false

namespace State.EngineAccess

variable {z s : State}

theorem refl (s : State) : s.EngineAccess s := ⟨rfl, fun _ _ => rfl, fun _ h => h⟩

theorem trans {t : State} (h : z.EngineAccess s) (k : s.EngineAccess t) : z.EngineAccess t where
  rest := k.rest.trans (by rw [h.rest])
  reg a ha := (k.reg a ha).trans (h.reg a ha)
  shut b hb := k.shut b (h.shut b hb)

theorem foldl {α : Type} {f : State → α → State} (l : List α) (h : z.EngineAccess s)
    (hf : ∀ (s : State) x, s.EngineAccess (f s x)) : z.EngineAccess (l.foldl f s) :=
  List.foldlRecOn _ _ h fun s hs x _ => hs.trans (hf s x)

theorem corrected (s : State) (a : Nat) : s.EngineAccess (s.corrected a) :=
  have h := (State.EccOnly.refl s).corrected a
  ⟨by rw [State.rest_corrected], h.reg, fun _ => h.shut⟩

theorem uncorrectable (s : State) (a : Nat) : s.EngineAccess (s.uncorrectable a) :=
  have h := (State.EccOnly.refl s).uncorrectable a
  ⟨by rw [State.rest_uncorrectable], h.reg, fun _ => h.shut⟩

theorem seenWord (s : State) (a n : Nat) (x : Nat × Nat) : s.EngineAccess (s.seenWord a n x) := by
  unfold State.seenWord
  split
  · exact refl s
  · split
    · exact corrected s _
    · exact uncorrectable s _

theorem seen (s : State) (a n : Nat) : s.EngineAccess (s.seen a n) := (refl s).foldl _ fun s x => seenWord s a n x

theorem mend (s : State) (a n : Nat) : s.EngineAccess (s.mend a n) := by
  refine (refl s).foldl _ fun s x => ?_
  unfold State.mendWord
  split
  · exact ⟨rfl, fun _ _ => rfl, fun _ => ((State.EccOnly.refl s).setWrong x.1).shut⟩
  · exact seenWord s a n x

theorem fill (s : State) (a : Nat) (l : List Byte) : s.EngineAccess (s.fill a l) := by
  induction l generalizing s a with
  | nil => exact refl s
  | cons b l ih =>
    refine trans ?_ (ih _ (a + 1))
    split
    · exact refl s
    · exact ⟨rfl, fun _ _ => rfl, fun _ h => h⟩

theorem breakResv (s : State) (w a n : Nat) : s.EngineAccess (s.breakResv w a n) := by
  refine (refl s).foldl _ fun s c => ?_
  split
  · exact ⟨rfl, fun _ _ => rfl, fun _ h => h⟩
  · exact refl s

theorem put (s : State) (a : Nat) (l : List Byte) : s.EngineAccess (s.put a l) :=
  ((mend s a _).trans (fill _ a l)).trans (breakResv _ _ _ _)

theorem putLe (s : State) (a n v : Nat) : s.EngineAccess (s.putLe a n v) := put s a _

theorem fld (h : z.EngineAccess s) {f : FRef} (hf : OffEccLog f.addr) : s.fld f = z.fld f := by
  rw [State.fld, State.fld, h.reg _ hf]

theorem sound (h : z.EngineAccess s) {a n : Nat} (hs : z.Sound a n) : s.Sound a n := fun b hlo hhi => h.shut b (hs b hlo hhi)

theorem cap (h : z.EngineAccess s) : s.cap = z.cap := by rw [h.rest]

theorem fabric (h : z.EngineAccess s) : s.fabric = z.fabric := by rw [h.rest]

theorem arb (h : z.EngineAccess s) : s.arb = z.arb := by rw [h.rest]

end State.EngineAccess

end Sys2Proof.Machine
end

section
/-!
SUPPORT. What the bookkeeping of reception leaves: misses that settle (R227), capture spans that begin (R188), and records that begin or end
before their commit (R281 to R285).
-/
namespace Sys2Proof.Machine

/-- The lanes, the frames at the link unit, every pulse and the registers below those of frost capture are as they were. -/
structure State.KeepsLanes (z t : State) : Prop where
  lanes  : t.lanes = z.lanes
  frames : t.lnk.frames = z.lnk.frames
  fabric : ∀ p ∈ z.fabric, p ∈ t.fabric
  reg    : ∀ a, a < blockAddr 13 0 → t.reg a = z.reg a

namespace State.KeepsLanes

variable {z s : State}

theorem refl (s : State) : s.KeepsLanes s := ⟨rfl, rfl, fun _ hp => hp, fun _ _ => rfl⟩

theorem trans {t : State} (h : z.KeepsLanes s) (k : s.KeepsLanes t) : z.KeepsLanes t where
  lanes := k.lanes.trans h.lanes
  frames := k.frames.trans h.frames
  fabric p hp := k.fabric p (h.fabric p hp)
  reg a ha := (k.reg a ha).trans (h.reg a ha)

theorem foldl {α : Type} {f : State → α → State} (l : List α) (h : z.KeepsLanes s)
    (hf : ∀ s x, z.KeepsLanes s → z.KeepsLanes (f s x)) : z.KeepsLanes (l.foldl f s) :=
  List.foldlRecOn _ _ h fun s hs x _ => hf s x hs

theorem setFld (h : z.KeepsLanes s) {f : FRef} (v : Nat) (hf : blockAddr 13 0 ≤ f.addr) : z.KeepsLanes (s.setFld f v) :=
  h.trans ⟨rfl, rfl, fun _ hp => hp, fun _ ha => s.reg_setFld_other _ (Nat.ne_of_lt (Nat.lt_of_lt_of_le ha hf))⟩

theorem count (h : z.KeepsLanes s) {f : FRef} (hf : blockAddr 13 0 ≤ f.addr) (n : Nat := 1) : z.KeepsLanes (s.count f n) := h.setFld _ hf

theorem pulse (h : z.KeepsLanes s) (l : Nat) : z.KeepsLanes (s.pulse l) :=
  h.trans ⟨by rw [State.rest_pulse], by rw [State.rest_pulse], fun _ hp => s.mem_fabric_pulse l hp, fun _ _ => State.reg_pulse ..⟩

theorem setArb (h : z.KeepsLanes s) (a : ArbState) : z.KeepsLanes (s.setArb a) := h.trans ⟨rfl, rfl, fun _ hp => hp, fun _ _ => rfl⟩

theorem setLnk (h : z.KeepsLanes s) (l : LinkState) (hl : l.frames = s.lnk.frames := by rfl) : z.KeepsLanes (s.setLnk l) :=
  h.trans ⟨rfl, hl, fun _ hp => hp, fun _ _ => rfl⟩

theorem setRq (h : z.KeepsLanes s) (r : RqState) : z.KeepsLanes (s.setRq r) := h.trans ⟨rfl, rfl, fun _ hp => hp, fun _ _ => rfl⟩

theorem setCap (h : z.KeepsLanes s) (c : CapState) : z.KeepsLanes (s.setCap c) :=
  (h.trans (t := { s with cap := c }) ⟨rfl, rfl, fun _ hp => hp, fun _ _ => rfl⟩).setFld _ (by decide)

theorem access {t : State} (h : z.KeepsLanes s) (k : s.EngineAccess t) : z.KeepsLanes t :=
  h.trans ⟨by rw [k.rest], by rw [k.rest], fun _ hp => k.fabric ▸ hp, fun a ha => k.reg a (.inl (Nat.lt_trans ha (by decide)))⟩

/-! What they leave of the radios. -/

theorem lane (h : z.KeepsLanes s) (r n : Nat) : s.lane r n = z.lane r n := by rw [State.lane, State.lane, h.lanes]

theorem fld (h : z.KeepsLanes s) {f : FRef} (hf : f.addr < blockAddr 13 0) : s.fld f = z.fld f := by
  rw [State.fld, State.fld, h.reg _ hf]

/-! ## Misses and contexts (R227, R335) -/

theorem arbReqStat (h : z.KeepsLanes s) (r : Nat) : z.KeepsLanes (s.arbReqStat r) :=
  have hoff : blockAddr 13 0 ≤ R.ARB_REQ r := Nat.le_trans (by decide : _ ≤ R.ARB_REQ 0) (Nat.le_add_right _ _)
  (h.setFld _ hoff).setFld _ hoff

theorem storeCtx (h : z.KeepsLanes s) (c : Nat) (x : List Byte) : z.KeepsLanes (s.storeCtx c x) :=
  (((h.setLnk _).setArb _).setFld _ (by decide)).arbReqStat 24

theorem pushLost (h : z.KeepsLanes s) (c : Nat) : z.KeepsLanes (s.pushLost c) := by
  unfold State.pushLost
  split
  · exact h.setFld _ (by decide)
  · exact ((h.setLnk _).setFld _ (by decide)).setFld _ (by decide)

theorem driftMiss (h : z.KeepsLanes s) (c : Nat) : z.KeepsLanes (s.driftMiss c) := by
  unfold State.driftMiss
  dsimp only
  split
  · exact h
  · split
    · exact h.storeCtx c _
    · exact (((h.storeCtx c _).count (by decide)).pushLost c).pulse 36

theorem settleWatch (h : z.KeepsLanes s) (w : DrlWatch) : z.KeepsLanes (s.settleWatch w) := by
  unfold State.settleWatch
  dsimp only
  split
  · exact h
  · split
    · exact h.setLnk _
    · split
      · exact h
      · exact (h.setLnk _).driftMiss _

theorem settleMisses (h : z.KeepsLanes s) : z.KeepsLanes s.settleMisses := h.foldl _ fun _ w hs => hs.settleWatch w

/-! ## Capture spans (R188) -/

theorem capStart (h : z.KeepsLanes s) (r : Nat) (lane : Option Nat) (f : RxFrame) (reason : Nat) : z.KeepsLanes (s.capStart r lane f reason) := by
  unfold State.capStart
  extract_lets on ends last tap
  split
  · exact h
  · split
    · exact h.count (by decide)
    · exact h.setCap _

/-! ## Records that begin or end before their commit (R281 to R285) -/

theorem setStash (h : z.KeepsLanes s) (b : Nat) (l : List Nat) : z.KeepsLanes (s.setStash b l) :=
  (h.setRq _).setFld _ (Nat.le_trans (by decide : _ ≤ R.RQ_POOL_CFG 0) (Nat.le_add_right _ _))

theorem ringBuffer (h : z.KeepsLanes s) (b n : Nat) : z.KeepsLanes (s.ringBuffer b n).1 := by
  induction n generalizing s with
  | zero => exact h
  | succ n ih =>
    have hoff : blockAddr 13 0 ≤ R.RQ_POOL_PTR b := Nat.le_trans (by decide : _ ≤ R.RQ_POOL_PTR 0) (Nat.le_add_right _ _)
    unfold State.ringBuffer
    extract_lets hw e a s1
    have h1 : z.KeepsLanes s1 := (h.access (.seen s _ 4)).setFld _ hoff
    split
    · exact h
    · split
      · exact h1
      · exact ih (h1.count (by decide))

theorem takeBuffer (h : z.KeepsLanes s) (b : Nat) : z.KeepsLanes (s.takeBuffer b).1 := by
  unfold State.takeBuffer
  split
  · exact h
  · split
    · exact h.setStash b _
    · split
      · exact h
      · exact h.ringBuffer b _

theorem rqGrow (h : z.KeepsLanes s) (id len n : Nat) : z.KeepsLanes (s.rqGrow id len n).1 := by
  induction n generalizing s with
  | zero => exact h
  | succ n ih =>
    unfold State.rqGrow
    split
    · exact h
    · next r _ =>
      have htake := h.takeBuffer r.pool
      split
      · exact h
      · split
        · next heq => rwa [heq] at htake
        · next heq =>
          rw [heq] at htake
          exact ih (htake.setRq _)

theorem rewind (h : z.KeepsLanes s) (id : Nat) (noBuffer : Bool) : z.KeepsLanes (s.rewind id noBuffer) := by
  unfold State.rewind
  split
  · exact h
  · next r _ =>
    extract_lets _ s1 s2
    have h2 : z.KeepsLanes s2 := by
      unfold s2
      split
      · exact h.setRq _
      · exact (h.setRq _).setStash _ _
    split
    · exact (h2.count (by decide)).pulse 35
    · exact h2.count (by decide)

theorem rqReserve (h : z.KeepsLanes s) (id len : Nat) : z.KeepsLanes (s.rqReserve id len).1 := by
  have hgrow := h.rqGrow id len 512
  unfold State.rqReserve
  split
  · next heq =>
    rw [heq] at hgrow
    exact hgrow.setRq _
  · next heq =>
    rw [heq] at hgrow
    exact hgrow.rewind id true

theorem rqStart (h : z.KeepsLanes s) (q kind : Nat) : z.KeepsLanes (s.rqStart q kind).1 := by
  unfold State.rqStart
  split
  · exact h.count (by decide)
  · exact h.count (by decide)
  · exact h.setRq _

/-- A record that has the bytes that came ends rewound. -/
theorem reserveRewind (h : z.KeepsLanes s) (id len : Nat) :
    z.KeepsLanes (match s.rqReserve id len with | (t, true) => t.rewind id false | (t, false) => t) := by
  have hres := h.rqReserve id len
  split
  · next heq =>
    rw [heq] at hres
    exact hres.rewind id false
  · next heq => rwa [heq] at hres

theorem endRecord (h : z.KeepsLanes s) (q : Nat) (rec : Option (Option Nat)) (len : Nat) : z.KeepsLanes (s.endRecord q rec len) := by
  unfold State.endRecord
  split
  · have hstart := h.rqStart q 1
    unfold State.ghostRecord
    split
    · next heq => rwa [heq] at hstart
    · next heq =>
      rw [heq] at hstart
      exact hstart.reserveRewind _ _
  · exact h
  · exact h.reserveRewind _ _

end State.KeepsLanes

end Sys2Proof.Machine
end

section
/-!
SUPPORT. A frame's lane from its detection to its last bit (R166 to R184).
-/
namespace Sys2Proof.Machine

/-! ## Lanes and counters -/

@[simp] theorem State.lane_setLane_same (s : State) (r n : Nat) (l : Lane) : (s.setLane r n l).lane r n = l := SMap.get_set_same _ _ _

theorem State.lane_setLane_other (s : State) (r : Nat) {n m : Nat} (l : Lane) (h : m ≠ n) : (s.setLane r n l).lane r m = s.lane r m :=
  SMap.get_set_other _ _ (by omega)

/-- A saturating counter of eight bits in a register below those of frost capture. -/
structure FRef.Counts8 (g : FRef) : Prop where
  msb   : g.msb ≤ 31
  width : g.msb + 1 - g.lsb = 8
  low   : g.addr < blockAddr 13 0

theorem FRef.Counts8.fld_count {g : FRef} (hg : g.Counts8) (s : State) : (s.count g).fld g = min 255 (s.fld g + 1) := by
  rw [State.fld_count s hg.msb, hg.width]
  rfl

theorem dpCount0_low (r : Fin 3) : R.DP_COUNT0 r < blockAddr 13 0 := by revert r; decide

theorem dpCount1_low (r : Fin 3) : R.DP_COUNT1 r < blockAddr 13 0 := by revert r; decide

theorem counts8_noLane (r : Fin 3) : (F.DP_COUNT0_NO_LANE r).Counts8 := ⟨(by decide : 7 ≤ 31), rfl, dpCount0_low r⟩

theorem counts8_syncMiss (r : Fin 3) : (F.DP_COUNT0_SYNC_MISS r).Counts8 := ⟨(by decide : 15 ≤ 31), rfl, dpCount0_low r⟩

theorem counts8_hdrFail (r : Fin 3) : (F.DP_COUNT0_HDR_FAIL r).Counts8 := ⟨(by decide : 23 ≤ 31), rfl, dpCount0_low r⟩

theorem counts8_fcsFail (r : Fin 3) : (F.DP_COUNT0_FCS_FAIL r).Counts8 := ⟨(by decide : 31 ≤ 31), rfl, dpCount0_low r⟩

theorem counts8_tooShort (r : Fin 3) : (F.DP_COUNT1_TOO_SHORT r).Counts8 := ⟨(by decide : 31 ≤ 31), rfl, dpCount1_low r⟩

theorem counts8_tooLong (r : Fin 3) : (F.DP_COUNT1_TOO_LONG r).Counts8 := ⟨(by decide : 23 ≤ 31), rfl, dpCount1_low r⟩

theorem counts8_preempted (r : Fin 3) : (F.DP_COUNT1_PREEMPTED r).Counts8 := ⟨(by decide : 15 ≤ 31), rfl, dpCount1_low r⟩

/-- A lane is freed, one is counted, and what follows keeps the lanes. -/
theorem State.freed_counted {s z t : State} {r n : Nat} {g : FRef} (hg : g.Counts8) (hlanes : z.lanes = (s.freeLane r n).lanes)
    (hregs : z.regs = s.regs) (h : (z.count g).KeepsLanes t) : (t.lane r n).frame = none ∧ t.fld g = min 255 (s.fld g + 1) := by
  have hlane : (z.count g).lane r n = { s.lane r n with frame := none } := by
    rw [State.lane, State.count_lanes, hlanes]
    exact State.lane_setLane_same ..
  have hfld : z.fld g = s.fld g := by rw [State.fld, State.fld, State.reg, State.reg, hregs]
  exact ⟨by rw [h.lane, hlane], by rw [h.fld hg.low, hg.fld_count, hfld]⟩

/-! ## Detection (R166 to R172) -/

/-- The frame of a detection outside a window: chain k's detector, set to mode e, finds a preamble that began some ns ago. -/
def State.detection (s : State) (k e mode centre : Nat) (snr rssi : Int) (ago : Nat) : RxFrame :=
  ⟨k, e, mode, centre, snr, rssi, 0, s.now - ago * nsU, s.now, false, none, false, 0, 0, 0, 0, none⟩

theorem State.preamble_outside {s : State} {r k mode centre e : Nat} (hon : s.fnOn (10 + r) 0 0 = true)
    (hact : ∀ a, (s.chain r k).act = some a → a.kind ≠ .win) (hdet : s.detector r k mode centre = some e) (snr rssi : Int) (ago : Nat) :
    s.preamble r k mode centre snr rssi ago =
      if s.sameFrame r (s.detection k e mode centre snr rssi ago) then s else s.placeFrame r (s.detection k e mode centre snr rssi ago) := by
  cases hc : (s.chain r k).act with
  | none =>
    simp only [State.preamble, hon, hdet, hc, Bool.not_true, Bool.false_eq_true, if_false]
    rfl
  | some a =>
    have hkind : (a.kind == .win) = false := beq_eq_false_iff_ne.2 (hact a hc)
    simp only [State.preamble, hon, hdet, hc, hkind, Bool.not_true, Bool.false_eq_true, if_false]
    rfl

section
variable {s : State} {r : Nat} {f : RxFrame} (hwin : f.inWin = false)
include hwin

theorem State.placeFrame_free {n : Nat} (hfree : s.firstFree r = some n) :
    s.placeFrame r f = s.setLane r n { s.lane r n with frame := some f } := by
  simp only [State.placeFrame, hwin, hfree, Bool.false_eq_true, if_false]

/-- With no lane free and no preemption. -/
theorem State.placeFrame_noLane (hfree : s.firstFree r = none) (hmargin : r = 2 ∨ s.fld (F.DP_POLICY_MARGIN r) = 15) :
    s.placeFrame r f = ((s.count (F.DP_COUNT0_NO_LANE r)).pulse (30 + r)).capStart r none f 3 := by
  simp only [State.placeFrame, hwin, hfree, if_pos hmargin, Bool.false_eq_true, if_false]

theorem State.placeFrame_preempts (hfree : s.firstFree r = none) (hr : r ≠ 2) (hmargin : s.fld (F.DP_POLICY_MARGIN r) ≠ 15) {n : Nat}
    {g : RxFrame} (hweak : s.weakest r (fun g => decide (g.snr + 1000 * ((s.fld (F.DP_POLICY_MARGIN r) : Nat) : Int) ≤ f.snr)) = some (n, g)) :
    s.placeFrame r f = (s.preempt r n g).setLane r n { (s.preempt r n g).lane r n with frame := some f } := by
  simp only [State.placeFrame, hwin, hfree, if_neg (not_or.2 ⟨hr, hmargin⟩), hweak, Bool.false_eq_true, if_false]

end

/-- A frame is placed, and misses settle. -/
theorem State.placeFrame_takes {s : State} {r : Fin 3} {f : RxFrame} (hwin : f.inWin = false) :
    let t := (s.placeFrame r f).settleMisses
    (∀ n, s.firstFree r = some n → (t.lane r n).frame = some f ∧ ∀ m, m ≠ n → t.lane r m = s.lane r m) ∧
    (s.firstFree r = none → (r = 2 ∨ s.fld (F.DP_POLICY_MARGIN r) = 15) → t.lanes = s.lanes ∧
      t.fld (F.DP_COUNT0_NO_LANE r) = min 255 (s.fld (F.DP_COUNT0_NO_LANE r) + 1) ∧ ∃ p ∈ t.fabric, p.line = 30 + r.val) ∧
    (s.firstFree r = none → r ≠ 2 → s.fld (F.DP_POLICY_MARGIN r) ≠ 15 → ∀ n g,
      s.weakest r (fun g => decide (g.snr + 1000 * ((s.fld (F.DP_POLICY_MARGIN r) : Nat) : Int) ≤ f.snr)) = some (n, g) →
      (t.lane r n).frame = some f ∧ t.fld (F.DP_COUNT1_PREEMPTED r) = min 255 (s.fld (F.DP_COUNT1_PREEMPTED r) + 1)) := by
  intro t
  have hsettle : (s.placeFrame r f).KeepsLanes t := (State.KeepsLanes.refl _).settleMisses
  have htwo : r.val = 2 ↔ r = 2 := (Fin.ext_iff (b := 2)).symm
  refine ⟨fun n hfree => ?free, fun hfree hmargin => ?noLane, fun hfree hr hmargin n g hweak => ?preempts⟩
  case free =>
    rw [State.placeFrame_free hwin hfree] at hsettle
    exact ⟨by rw [hsettle.lane, State.lane_setLane_same], fun m hm => by rw [hsettle.lane, State.lane_setLane_other _ _ _ hm]⟩
  case noLane =>
    rw [State.placeFrame_noLane hwin hfree (hmargin.imp_left htwo.2)] at hsettle
    have hkeeps : ((s.count (F.DP_COUNT0_NO_LANE r)).pulse (30 + r)).KeepsLanes t := ((State.KeepsLanes.refl _).capStart _ _ _ _).trans hsettle
    refine ⟨by rw [hkeeps.lanes, State.pulse_lanes, State.count_lanes], ?_, _, hkeeps.fabric _ (State.pulse_in_fabric ..), rfl⟩
    rw [hkeeps.fld (counts8_noLane r).low, State.fld_pulse, (counts8_noLane r).fld_count]
  case preempts =>
    rw [State.placeFrame_preempts hwin hfree (mt htwo.1 hr) hmargin hweak] at hsettle
    have hcount : (s.preempt r n g).fld (F.DP_COUNT1_PREEMPTED r) = min 255 (s.fld (F.DP_COUNT1_PREEMPTED r) + 1) :=
      (State.freed_counted (counts8_preempted r) rfl rfl ((State.KeepsLanes.refl _).capStart _ _ _ _)).2
    exact ⟨by rw [hsettle.lane, State.lane_setLane_same], (hsettle.fld (counts8_preempted r).low).trans hcount⟩

theorem exec_preambleDetect (r : Fin 3) (k : Fin 4) (mode : Byte) (centre : BitVec 40) (snr rssi ago : Word) (s : State) :
    exec (.preambleDetect r k mode centre snr rssi ago) s =
      .next (s.preamble r k mode.toNat centre.toNat snr.toInt rssi.toInt ago.toNat).settleMisses := rfl

/-! ## Sync (R180, R183) -/

section
variable (s : State) (r : Fin 3) (n : Byte)

theorem exec_syncFound (ph : BitVec 16) : exec (.syncFound r n ph) s = .next (s.syncFound r n.toNat ph.toNat) := rfl

theorem exec_syncTimeout : exec (.syncTimeout r n) s = .next (s.syncTimeout r n.toNat) := rfl

theorem exec_headerDecoded (h : BitVec 48) : exec (.headerDecoded r n h) s = .next (s.headerDecoded r n.toNat h.toNat) := rfl

theorem exec_frameEnd (psdu : List Byte) (x : RxMeta) :
    exec (.frameEnd r n psdu x) s = .next (s.frameEnd r n.toNat psdu x).settleMisses := rfl

end

/-- A lane with no frame takes no sync and no header. -/
theorem State.lane_idle {s : State} {r n : Nat} (h : (s.lane r n).frame = none) (ph w : Nat) :
    s.syncFound r n ph = s ∧ s.syncTimeout r n = s ∧ s.headerDecoded r n w = s := by
  simp [State.syncFound, State.syncTimeout, State.headerDecoded, h]

/-- SYNC_MISS (R183). -/
theorem State.syncMiss_frees (s : State) (r : Fin 3) (n : Nat) (f : RxFrame) :
    ((s.syncMiss r n f).lane r n).frame = none ∧
    (s.syncMiss r n f).fld (F.DP_COUNT0_SYNC_MISS r) = min 255 (s.fld (F.DP_COUNT0_SYNC_MISS r) + 1) :=
  State.freed_counted (counts8_syncMiss r) rfl rfl ((State.KeepsLanes.refl _).capStart _ _ _ _).settleMisses

/-- A frame whose header gave its length, a being its arrival. -/
def RxFrame.headed (f : RxFrame) (a : Nat) (i : HeaderInfo) : RxFrame :=
  { f with mode := i.mode, hdrOk := true, len := i.len, fcs := i.fcs, peer := i.peer, lastBit := a + restAfterSync i.mode i.len }

/-- The lane and the chain of a frame that has ended (R170). -/
def State.frameDone (s : State) (r n : Nat) (f : RxFrame) : State :=
  (s.freeLane r n).setChain r f.chain { s.chain r f.chain with winEnd := if f.inWin then some f.lastBit else (s.chain r f.chain).winEnd }

/-- The frame that the link unit gets: its octets and what was measured. -/
def State.linkFrame (s : State) (r n : Nat) (f : RxFrame) (arrival : Nat) (x : RxMeta) (body : List Byte) : LinkFrame :=
  ⟨s.lnk.nextId, f.rqid.join, r, n, f.chain, f.mode, f.centre, x, s.rxParts r f f.lastBit, f.inWin, arrival, f.lastBit, f.fcs, f.peer, body,
    none, 0, .lookup, false, none, false, 3, none⟩

section
variable {s : State} {r n : Nat} {f : RxFrame} (hf : (s.lane r n).frame = some f)
include hf

/-- A sync in time stamps the arrival. -/
theorem State.syncFound_stamps (harr : f.arrival = none) (htime : s.now ≤ f.syncBy) (ph : Nat) :
    s.syncFound r n ph = s.setLane r n { s.lane r n with frame := some { f with
      arrival := some (captureRound ((s.now : Int) + ((s.incr s.cur * ph / 2 ^ 16 : Nat) : Int) - s.rxDelay r f.chain)) } } := by
  simp only [State.syncFound, hf, harr, if_neg (Nat.not_lt.2 htime), Option.isSome_none, Bool.false_eq_true, if_false]

theorem State.syncFound_late (harr : f.arrival = none) (htime : f.syncBy < s.now) (ph : Nat) :
    s.syncFound r n ph = s.syncMiss r n f := by
  simp only [State.syncFound, hf, harr, if_pos htime, Option.isSome_none, Bool.false_eq_true, if_false]

theorem State.syncTimeout_due (harr : f.arrival = none) (htime : f.syncBy ≤ s.now) : s.syncTimeout r n = s.syncMiss r n f := by
  simp [State.syncTimeout, hf, harr, htime]

theorem State.syncTimeout_early (h : f.arrival ≠ none ∨ s.now < f.syncBy) : s.syncTimeout r n = s := by
  simp only [State.syncTimeout, hf]
  refine if_neg fun hdue => ?_
  simp only [Bool.and_eq_true, Option.isNone_iff_eq_none, decide_eq_true_eq] at hdue
  exact h.elim (fun hne => hne hdue.1) (Nat.not_lt.2 hdue.2)

/-! ## The PHY header (R182, R184) -/

variable {a w : Nat} (harr : f.arrival = some a)
include harr

section
variable (hhdr : f.hdrOk = false)
include hhdr

theorem State.headerDecoded_fails (h : readHeader f.mode w = none) :
    s.headerDecoded r n w = (((s.freeLane r n).count (F.DP_COUNT0_HDR_FAIL r)).capStart r (some n) f 1).settleMisses := by
  simp only [State.headerDecoded, hf, harr, hhdr, h, Bool.false_eq_true, if_false]

variable {i : HeaderInfo} {l : ModeInfo} (hread : readHeader f.mode w = some i) (hmode : modeInfo r i.mode = some l)
include hread hmode

theorem State.headerDecoded_short (h : i.len < l.min) :
    s.headerDecoded r n w = ((s.freeLane r n).count (F.DP_COUNT1_TOO_SHORT r)).settleMisses := by
  simp only [State.headerDecoded, hf, harr, hhdr, hread, hmode, Option.getD_some, if_pos h, Bool.false_eq_true, if_false]

theorem State.headerDecoded_long (hmin : l.min ≤ i.len) (h : l.max < i.len) :
    s.headerDecoded r n w = ((s.freeLane r n).count (F.DP_COUNT1_TOO_LONG r)).settleMisses := by
  simp only [State.headerDecoded, hf, harr, hhdr, hread, hmode, Option.getD_some, if_neg (Nat.not_lt.2 hmin), if_pos h,
    Bool.false_eq_true, if_false]

theorem State.headerDecoded_gives (hmin : l.min ≤ i.len) (hmax : i.len ≤ l.max) :
    s.headerDecoded r n w = s.setLane r n { s.lane r n with frame := some (f.headed a i) } := by
  simp only [RxFrame.headed, State.headerDecoded, hf, harr, hhdr, hread, hmode, Option.getD_some, if_neg (Nat.not_lt.2 hmin),
    if_neg (Nat.not_lt.2 hmax), Bool.false_eq_true, if_false]

end

/-! ## The last bit (R183) -/

section
variable (hhdr : f.hdrOk = true) (hdue : f.lastBit ≤ s.now) {psdu : List Byte} (hlen : psdu.length = f.len) (x : RxMeta)
include hhdr hdue hlen

theorem State.frameEnd_eq :
    s.frameEnd r n psdu x =
      if psdu.drop (f.len - f.fcs) ≠ fcsBytes r f.mode (psdu.take (f.len - f.fcs)) then
        ((((s.frameDone r n f).count (F.DP_COUNT0_FCS_FAIL r)).endRecord (s.fld (F.RQ_SRC_QUEUE r)) f.rqid
          (psdu.take (f.len - f.fcs)).length).capStart r (some n) f 2).settleMisses
      else if f.rqid = some none then (s.frameDone r n f).settleMisses
      else (s.frameDone r n f).setLnk { s.lnk with
        frames := s.lnk.frames ++ [s.linkFrame r n f a x (psdu.take (f.len - f.fcs))], nextId := s.lnk.nextId + 1 } := by
  have hpad : padTo f.len psdu = psdu := by rw [padTo, ← hlen, List.take_length, Nat.sub_self, List.replicate_zero, List.append_nil]
  simp only [State.frameEnd, hf, harr, hhdr, hpad, Bool.not_true, Bool.false_or, decide_eq_true_eq, if_neg (Nat.not_lt.2 hdue)]
  rfl

end

end

end Sys2Proof.Machine
end

section
/-!
SUPPORT. The record of a frame in its reception queue once the SID has arrived (R283 to R285).
-/
namespace Sys2Proof.Machine

/-- The last record is one of number id in queue q, l the records before it; NO_BUFFER reads n. -/
structure State.LastRec (s : State) (l : List RqRec) (id q n : Nat) : Prop where
  recs : ∃ x, s.rq.recs = l ++ [x] ∧ x.id = id ∧ x.queue = q
  dry  : s.fld F.RQ_COUNT0_NO_BUFFER = n

/-- A field other than NO_BUFFER. -/
abbrev FRef.OffDry (f : FRef) : Prop := f.msb ≤ 31 ∧ (F.RQ_COUNT0_NO_BUFFER.addr ≠ f.addr ∨ f.msb < F.RQ_COUNT0_NO_BUFFER.lsb)

theorem offDry_stashed (p : Nat) : (F.RQ_POOL_CFG_STASHED p).OffDry :=
  ⟨(by decide : 25 ≤ 31), .inl (by simp only [F.RQ_COUNT0_NO_BUFFER, F.RQ_POOL_CFG_STASHED, R.RQ_COUNT0, R.RQ_POOL_CFG]; omega)⟩

/-- NO_BUFFER stays when another field is set. -/
theorem State.dry_setFld (s : State) {f : FRef} (v : Nat) (hf : f.OffDry) :
    (s.setFld f v).fld F.RQ_COUNT0_NO_BUFFER = s.fld F.RQ_COUNT0_NO_BUFFER :=
  State.fld_setFld_other _ _ hf.1 (hf.2.imp_right .inr)

namespace State.LastRec

variable {s t : State} {l : List RqRec} {id q n : Nat}

theorem setFld (h : s.LastRec l id q n) {f : FRef} (v : Nat) (hf : f.OffDry) : (s.setFld f v).LastRec l id q n :=
  ⟨h.recs, (s.dry_setFld v hf).trans h.dry⟩

theorem access (h : s.LastRec l id q n) (k : s.EngineAccess t) : t.LastRec l id q n :=
  ⟨by rw [k.rest]; exact h.recs, (k.fld (by decide)).trans h.dry⟩

theorem setStash (h : s.LastRec l id q n) (b : Nat) (x : List Nat) : (s.setStash b x).LastRec l id q n :=
  ⟨h.recs, (State.dry_setFld _ _ (offDry_stashed b)).trans h.dry⟩

theorem ringBuffer (h : s.LastRec l id q n) (b m : Nat) : (s.ringBuffer b m).1.LastRec l id q n := by
  induction m generalizing s with
  | zero => exact h
  | succ m ih =>
    unfold State.ringBuffer
    extract_lets hw e a s1
    have h1 : s1.LastRec l id q n := (h.access (.seen s e 4)).setFld _
      ⟨(by decide : 15 ≤ 31), .inl (by simp only [F.RQ_COUNT0_NO_BUFFER, F.RQ_POOL_PTR_HW, R.RQ_COUNT0, R.RQ_POOL_PTR]; omega)⟩
    split
    · exact h
    · split
      · exact h1
      · exact ih (h1.setFld _ (by decide))

theorem takeBuffer (h : s.LastRec l id q n) (b : Nat) : (s.takeBuffer b).1.LastRec l id q n := by
  unfold State.takeBuffer
  split
  · exact h
  · split
    · exact h.setStash b _
    · split
      · exact h
      · exact h.ringBuffer b _

section
variable (hl : ∀ x ∈ l, x.id ≠ id)
include hl

theorem rqRec (h : s.LastRec l id q n) : ∃ x, s.rqRec id = some x := by
  obtain ⟨x, hrecs, hid, -⟩ := h.recs
  have hnone : l.find? (fun r => r.id == id) = none := List.find?_eq_none.2 fun y hy => by simpa using hl y hy
  exact ⟨x, by simp [State.rqRec, hrecs, List.find?_append, hnone, hid]⟩

/-- A change of the record that keeps its number and queue. -/
theorem mapRec (h : s.LastRec l id q n) {f : RqRec → RqRec} (hf : ∀ x, (f x).id = x.id ∧ (f x).queue = x.queue) :
    (s.mapRec id f).LastRec l id q n := by
  obtain ⟨x, hrecs, hid, hqueue⟩ := h.recs
  obtain ⟨hfid, hfqueue⟩ := hf x
  have hkeep : l.map (fun r => if r.id = id then f r else r) = l :=
    (List.map_congr_left fun y hy => if_neg (hl y hy)).trans (List.map_id' l)
  exact ⟨⟨f x, by simp [State.mapRec, State.setRq, hrecs, hkeep, hid], hfid.trans hid, hfqueue.trans hqueue⟩, h.dry⟩

theorem rqGrow (h : s.LastRec l id q n) (len m : Nat) : (s.rqGrow id len m).1.LastRec l id q n := by
  induction m generalizing s with
  | zero => exact h
  | succ m ih =>
    obtain ⟨x, hx⟩ := h.rqRec hl
    have htake := h.takeBuffer x.pool
    unfold State.rqGrow
    simp only [hx]
    split
    · exact h
    · split
      · next heq => rwa [heq] at htake
      · next heq =>
        rw [heq] at htake
        exact ih (htake.mapRec hl fun _ => ⟨rfl, rfl⟩)

/-- A record that a dry pool rewinds is gone, and counted NO_BUFFER. -/
theorem rewind (h : s.LastRec l id q n) :
    (s.rewind id true).rq.recs = l ∧ (s.rewind id true).fld F.RQ_COUNT0_NO_BUFFER = min 255 (n + 1) := by
  obtain ⟨x, hx⟩ := h.rqRec hl
  obtain ⟨y, hrecs, hid, -⟩ := h.recs
  have hfilter : s.rq.recs.filter (fun x => x.id != id) = l := by
    rw [hrecs, List.filter_append, List.filter_eq_self.2 fun z hz => bne_iff_ne.2 (hl z hz)]
    simp [hid]
  have hcount (u : State) (hu : u.rq.recs = l) (hdry : u.fld F.RQ_COUNT0_NO_BUFFER = n) :
      ((u.count F.RQ_COUNT0_NO_BUFFER).pulse 35).rq.recs = l ∧
      ((u.count F.RQ_COUNT0_NO_BUFFER).pulse 35).fld F.RQ_COUNT0_NO_BUFFER = min 255 (n + 1) := by
    rw [State.fld_pulse, State.fld_count _ (by decide), hdry, State.pulse_rq]
    exact ⟨hu, rfl⟩
  unfold State.rewind
  simp only [hx, if_true]
  split
  · exact hcount _ hfilter h.dry
  · exact hcount _ hfilter ((State.dry_setFld _ _ (offDry_stashed x.pool)).trans h.dry)

/-- The record takes the buffers it needs, or a dry pool rewinds it. -/
theorem rqReserve (h : s.LastRec l id q n) (len : Nat) :
    (∃ t, s.rqReserve id len = (t, true) ∧ t.LastRec l id q n) ∨
    ∃ t, s.rqReserve id len = (t, false) ∧ t.rq.recs = l ∧ t.fld F.RQ_COUNT0_NO_BUFFER = min 255 (n + 1) := by
  have hgrow := h.rqGrow hl len 512
  unfold State.rqReserve
  split
  · next heq =>
    rw [heq] at hgrow
    exact .inl ⟨_, rfl, hgrow.mapRec hl fun _ => ⟨rfl, rfl⟩⟩
  · next heq =>
    rw [heq] at hgrow
    exact .inr ⟨_, rfl, hgrow.rewind hl⟩

end

end State.LastRec

/-! ## The frame's own record -/

/-- A record that starts is the last one, with a number that no other has. -/
theorem State.lastRec_rqStart {s : State} {q : Nat} (h : s.route q = .taken) (kind : Nat) :
    ∃ t, s.rqStart q kind = (t, some s.rq.nextId) ∧ s.KeepsLanes t ∧
      t.LastRec s.rq.recs s.rq.nextId q (s.fld F.RQ_COUNT0_NO_BUFFER) := by
  have hstart : s.KeepsLanes (s.rqStart q kind).1 := (State.KeepsLanes.refl s).rqStart q kind
  unfold State.rqStart at hstart ⊢
  simp only [h] at hstart ⊢
  exact ⟨_, rfl, hstart, ⟨_, rfl, rfl, rfl⟩, rfl⟩

/-- A record that does not start leaves the records. -/
theorem State.rqStart_refused {s : State} {q : Nat} (h : s.route q ≠ .taken) (kind : Nat) :
    ∃ t, s.rqStart q kind = (t, none) ∧ s.KeepsLanes t ∧ t.rq.recs = s.rq.recs := by
  have hstart : s.KeepsLanes (s.rqStart q kind).1 := (State.KeepsLanes.refl s).rqStart q kind
  unfold State.rqStart at hstart ⊢
  cases hroute : s.route q with
  | taken => exact absurd hroute h
  | bad =>
    simp only [hroute] at hstart ⊢
    exact ⟨_, rfl, hstart, rfl⟩
  | disabled =>
    simp only [hroute] at hstart ⊢
    exact ⟨_, rfl, hstart, rfl⟩

section
variable {s : State} {r n : Nat} {f : RxFrame} (hf : (s.lane r n).frame = some f)
include hf

/-- What a lane shows of its frame's record. -/
theorem State.laneRecord_frame {t : State} (h : s.KeepsLanes t) (x : Option Nat) :
    ((t.laneRecord r n x).lane r n).frame = some { f with rqid := some x } := by
  rw [State.laneRecord, State.lane_setLane_same, h.lane, hf]
  rfl

/-- The record of a lane's frame grows, or is dropped. -/
theorem State.growRecord_cases {t : State} (h : s.KeepsLanes t) {l : List RqRec} {id q m : Nat} (hrec : t.LastRec l id q m)
    (hl : ∀ x ∈ l, x.id ≠ id) :
    let u := t.growRecord r n f id
    ((u.lane r n).frame = some { f with rqid := some (some id) } ∧ ∃ x, u.rq.recs = l ++ [x] ∧ x.id = id ∧ x.queue = q) ∨
    ((u.lane r n).frame = some { f with rqid := some none } ∧ u.rq.recs = l ∧ u.fld F.RQ_COUNT0_NO_BUFFER = min 255 (m + 1)) := by
  intro u
  have hkeeps := h.rqReserve id (32 + min (t.bytesSoFar f) (f.len - f.fcs))
  rcases hrec.rqReserve hl (32 + min (t.bytesSoFar f) (f.len - f.fcs)) with ⟨v, hv, hlast⟩ | ⟨v, hv, hrecs, hdry⟩
  · have hu : u = v.laneRecord r n (some id) := by
      unfold u State.growRecord
      rw [hv]
    rw [hv] at hkeeps
    obtain ⟨x, hx, hid, hqueue⟩ := hlast.recs
    rw [hu]
    exact .inl ⟨State.laneRecord_frame hf hkeeps _, x, hx, hid, hqueue⟩
  · have hu : u = v.laneRecord r n none := by
      unfold u State.growRecord
      rw [hv]
    rw [hv] at hkeeps
    rw [hu]
    exact .inr ⟨State.laneRecord_frame hf hkeeps _, hrecs, hdry⟩

variable {a w : Nat} (harr : f.arrival = some a) (hhdr : f.hdrOk = true)
include harr hhdr

theorem State.headerDecoded_sid : s.headerDecoded r n w = s.sidDecoded r n w := by
  simp only [State.headerDecoded, hf, harr, hhdr, if_true]

/-- A frame to be dropped takes no SID. -/
theorem State.headerDecoded_refused (hrq : f.rqid = some none) : s.headerDecoded r n w = s := by
  rw [State.headerDecoded_sid hf harr hhdr, State.sidDecoded]
  simp only [hf, hrq]

variable (hrq : f.rqid = none)
include hrq

theorem State.headerDecoded_early (h : s.bytesSoFar f < min 6 (f.len - f.fcs)) : s.headerDecoded r n w = s := by
  rw [State.headerDecoded_sid hf harr hhdr, State.sidDecoded]
  simp only [hf, hrq, h, decide_true, Bool.or_true, if_true]

/-- The queue of a frame's record (R283): that of frames without a context where the frame goes without one (R215). -/
def State.sidQueue (s : State) (r : Nat) (f : RxFrame) (w : Nat) : Nat :=
  if s.goesPlain r f.peer (f.len - f.fcs) (w % 2 ^ 8) (w / 2 ^ 16 % 2 ^ 32) = true then s.fld (F.RQ_SRC_QUEUE_NC r) else s.fld (F.RQ_SRC_QUEUE r)

variable (h : min 6 (f.len - f.fcs) ≤ s.bytesSoFar f)
include h

theorem State.headerDecoded_starts {t : State} {id : Nat} (hstart : s.rqStart (s.sidQueue r f w) 1 = (t, some id)) :
    s.headerDecoded r n w = t.growRecord r n f id := by
  unfold State.sidQueue at hstart
  rw [State.headerDecoded_sid hf harr hhdr, State.sidDecoded]
  simp only [hf, hrq, hhdr, hstart, Bool.not_true, Bool.false_or, decide_eq_true_eq, if_neg (Nat.not_lt.2 h)]

theorem State.headerDecoded_drops {t : State} (hstart : s.rqStart (s.sidQueue r f w) 1 = (t, none)) :
    s.headerDecoded r n w = t.laneRecord r n none := by
  unfold State.sidQueue at hstart
  rw [State.headerDecoded_sid hf harr hhdr, State.sidDecoded]
  simp only [hf, hrq, hhdr, hstart, Bool.not_true, Bool.false_or, decide_eq_true_eq, if_neg (Nat.not_lt.2 h)]

/-- The queue takes the record. -/
theorem State.headerDecoded_taken (hroute : s.route (s.sidQueue r f w) = .taken) (hids : ∀ x ∈ s.rq.recs, x.id ≠ s.rq.nextId) :
    let t := s.headerDecoded r n w
    ((t.lane r n).frame = some { f with rqid := some (some s.rq.nextId) } ∧
      ∃ x, t.rq.recs = s.rq.recs ++ [x] ∧ x.id = s.rq.nextId ∧ x.queue = s.sidQueue r f w) ∨
    ((t.lane r n).frame = some { f with rqid := some none } ∧ t.rq.recs = s.rq.recs ∧
      t.fld F.RQ_COUNT0_NO_BUFFER = min 255 (s.fld F.RQ_COUNT0_NO_BUFFER + 1)) := by
  intro t
  obtain ⟨u, hu, hkeeps, hlast⟩ := State.lastRec_rqStart hroute 1
  have ht : t = u.growRecord r n f s.rq.nextId := State.headerDecoded_starts hf harr hhdr hrq h hu
  rw [ht]
  exact State.growRecord_cases hf hkeeps hlast hids

/-- The queue refuses the record. -/
theorem State.headerDecoded_dropped (hroute : s.route (s.sidQueue r f w) ≠ .taken) :
    ((s.headerDecoded r n w).lane r n).frame = some { f with rqid := some none } ∧ (s.headerDecoded r n w).rq.recs = s.rq.recs := by
  obtain ⟨u, hu, hkeeps, hrecs⟩ := State.rqStart_refused hroute 1
  rw [State.headerDecoded_drops hf harr hhdr hrq h hu]
  exact ⟨State.laneRecord_frame hf hkeeps _, hrecs⟩

end

end Sys2Proof.Machine
end

section
/-!
SUPPORT. The CRC-8 of a header is linear (Table 07-2), so that a single wrong bit never passes.
-/
namespace Sys2Proof.Machine

/-- What the bit that leaves the CRC-8 register feeds back. -/
def crc8Back (out : Bool) : Nat := if out then 0x07 else 0

theorem crc8Back_xor (x y : Bool) : crc8Back (x ^^ y) = crc8Back x ^^^ crc8Back y := by
  cases x <;> cases y <;> rfl

theorem crc8_succ (init n h : Nat) :
    crc8 init (n + 1) h = crc8 init n h * 2 % 256 ^^^ crc8Back ((crc8 init n h).testBit 7 ^^ h.testBit n) := by
  rw [crc8, List.range_succ, List.foldl_append, List.foldl_cons, List.foldl_nil, ← crc8]
  show (if ((crc8 init n h).testBit 7 ^^ h.testBit n) then _ ^^^ 0x07 else _) = _
  unfold crc8Back
  split
  · rfl
  · exact (Nat.xor_zero _).symm

theorem double_xor (c d : Nat) : (c ^^^ d) * 2 % 256 = (c * 2 % 256) ^^^ (d * 2 % 256) := by
  have hdouble (x : Nat) : x * 2 = x <<< 1 := (Nat.shiftLeft_eq x 1).symm
  rw [hdouble, hdouble, hdouble, Nat.shiftLeft_xor_distrib]
  exact Nat.xor_mod_two_pow (n := 8)

theorem crc8_xor (a b n h d : Nat) : crc8 (a ^^^ b) n (h ^^^ d) = crc8 a n h ^^^ crc8 b n d := by
  induction n with
  | zero => rfl
  | succ n ih =>
    have hout (p q x y : Bool) : ((p ^^ q) ^^ (x ^^ y)) = ((p ^^ x) ^^ (q ^^ y)) := by
      rw [Bool.xor_assoc, Bool.xor_assoc, Bool.xor_left_comm q]
    rw [crc8_succ, crc8_succ, crc8_succ, ih, double_xor, Nat.testBit_xor, Nat.testBit_xor, hout, crc8Back_xor]
    ac_rfl

theorem crcField_xor (h d b : Nat) : crcField (h ^^^ d) b = crcField h b ^^^ crcField d b := by
  refine Nat.eq_of_testBit_eq fun j => ?_
  simp only [crcField, Nat.testBit_xor, testBit_foldl_shiftIn]
  cases decide (j < 8) <;> rfl

/-- A header of one octet and its CRC is read only where the CRC agrees (Table 07-3). -/
theorem readHeader_octet {mode : Nat} (hmode : mode = 0x10 ∨ mode = 0x20 ∨ mode = 0x50 ∨ mode = 0x51) (h : Nat) :
    readHeader mode h = none ↔ crc8 0 8 h ≠ crcField h 8 := by
  rw [readHeader, if_pos hmode]
  split
  · next heq => simp [heq]
  · next hne => simpa using hne

/-- A single wrong bit changes the CRC or the field that holds it. -/
theorem crc8_bit : ∀ c, c < 16 → crc8 0 8 (2 ^ c) ≠ crcField (2 ^ c) 8 := by decide

theorem readHeader_wrongBit {mode : Nat} (hmode : mode = 0x10 ∨ mode = 0x20 ∨ mode = 0x50 ∨ mode = 0x51) {h : BitVec 48} {c : Nat} (hc : c < 16)
    {i : HeaderInfo} (hread : readHeader mode h.toNat = some i) : readHeader mode (h ^^^ (1#48 <<< c)).toNat = none := by
  have hbit : (1#48 <<< c).toNat = 2 ^ c := by
    have hlt : 2 ^ c < 2 ^ 48 := Nat.pow_lt_pow_right (by decide) (by omega)
    rw [BitVec.toNat_shiftLeft, Nat.shiftLeft_eq]
    simpa using Nat.mod_eq_of_lt hlt
  have hagree : crc8 0 8 h.toNat = crcField h.toNat 8 := by
    by_contra hne
    rw [(readHeader_octet hmode _).2 hne] at hread
    contradiction
  have hlinear := crc8_xor 0 0 8 h.toNat (2 ^ c)
  rw [Nat.xor_self] at hlinear
  rw [readHeader_octet hmode, BitVec.toNat_xor, hbit, hlinear, crcField_xor, hagree]
  exact fun heq => crc8_bit c hc (Nat.xor_right_inj.1 heq)

end Sys2Proof.Machine
end

section
/-!
SUPPORT. What an engine reads of what it wrote (R275), and what leaves its reads alone.
-/
namespace Sys2Proof.Machine

theorem State.stored_eq_map (s : State) (a n : Nat) : s.stored a n = (List.range n).map fun i => s.byte (a + i) := by
  induction n generalizing a with
  | zero => rfl
  | succ n ih =>
    rw [State.stored, ih, List.range_succ_eq_map, List.map_cons, List.map_map]
    refine congrArg _ (List.map_congr_left fun i _ => ?_)
    rw [Function.comp, Nat.add_right_comm, Nat.add_assoc]

theorem State.Sound.sub {s : State} {a n b m : Nat} (h : s.Sound a n) (hlo : a ≤ b) (hhi : b + m ≤ a + n) : s.Sound b m :=
  fun c hc hcm => h c (by omega) (by omega)

theorem State.Sound.bytes {s : State} {a n : Nat} (h : s.Sound a n) : s.bytes a n = s.stored a n :=
  State.bytes_eq_stored fun i hi => h (a + i) (by omega) (by omega)

/-! ## Writes of an engine -/

theorem State.EccOnly.mend (s : State) (a n : Nat) : s.EccOnly (s.mend a n) := by
  refine (State.EccOnly.refl s).foldl _ fun s x => ?_
  unfold State.mendWord State.seenWord
  split_ifs
  · exact (State.EccOnly.refl s).setWrong _
  · exact .refl s
  · exact (State.EccOnly.refl s).corrected _
  · exact (State.EccOnly.refl s).uncorrectable _

theorem State.fill_sound {s : State} {a : Nat} {l : List Byte} (h : s.Sound a l.length) : s.fill a l = s.setBytes a l := by
  induction l generalizing s a with
  | nil => rfl
  | cons b l ih =>
    have hfirst : s.shut a = false := h a (Nat.le_refl a) (by simp)
    have hrest : (s.setByte a b).Sound (a + 1) l.length := fun c hlo hhi => h c (by omega) (by rw [List.length_cons]; omega)
    rw [State.fill, hfirst, if_neg Bool.false_ne_true, State.setBytes, ih hrest]

section
variable {s : State} {a : Nat} {l : List Byte} (h : s.Sound a l.length)
include h

theorem State.byte_put (b : Nat) : (s.put a l).byte b = ((s.mend a l.length).setBytes a l).byte b := by
  rw [State.put, State.byte, State.breakResv_mem, State.fill_sound ((State.EngineAccess.mend s a _).sound h), ← State.byte]

theorem State.stored_put_in {i n : Nat} (hi : i + n ≤ l.length) : (s.put a l).stored (a + i) n = (l.drop i).take n := by
  refine List.ext_getElem (by simp [length_stored]; omega) fun j hj _ => ?_
  rw [length_stored] at hj
  simp only [State.stored_eq_map, List.getElem_map, List.getElem_range, List.getElem_take, List.getElem_drop]
  rw [State.byte_put h, Nat.add_assoc, State.byte_setBytes_in _ _ _ _ (by omega)]

theorem State.stored_put_other {b n : Nat} (hb : b + n ≤ a ∨ a + l.length ≤ b) : (s.put a l).stored b n = s.stored b n := by
  simp only [State.stored_eq_map]
  refine List.map_congr_left fun i hi => ?_
  have hi := List.mem_range.1 hi
  rw [State.byte_put h, State.byte_setBytes_other _ _ _ _ (by omega), (State.EccOnly.mend s a _).byte]

end

/-! ## What leaves the reads of engines -/

/-- Reads of engines get the same. -/
structure State.SameReads (z t : State) : Prop where
  mem  : t.mem = z.mem
  shut : ∀ a, t.shut a = z.shut a

namespace State.SameReads

variable {z s t : State}

theorem refl (s : State) : s.SameReads s := ⟨rfl, fun _ => rfl⟩

theorem trans (h : z.SameReads s) (k : s.SameReads t) : z.SameReads t := ⟨k.mem.trans h.mem, fun a => (k.shut a).trans (h.shut a)⟩

theorem of_eq (hmem : t.mem = z.mem) (harr : t.arrays = z.arrays) (hpower : t.powered 11 = z.powered 11)
    (hon : t.fnOn 24 0 0 = z.fnOn 24 0 0) : z.SameReads t := by
  refine ⟨hmem, fun a => ?_⟩
  have hregion : t.eccRegion a = z.eccRegion a := by rw [State.eccRegion, State.eccRegion, harr]
  have hcodes : t.inCodes a = z.inCodes a := by rw [State.inCodes, State.inCodes, hregion]
  have hcoded : t.coded a = z.coded a := by rw [State.coded, State.coded, hregion]
  have hoff : t.memOff a = z.memOff a := by
    unfold State.powered at hpower
    rw [State.memOff, State.memOff, hpower, hon]
  rw [State.shut, State.shut, hcodes, hcoded, hoff, State.wrongBits, State.wrongBits, harr]

/-- A register below those of the DRAM controllers is set. -/
theorem setFld (h : z.SameReads s) {f : FRef} (v : Nat) (hf : f.addr < blockAddr 24 0) : z.SameReads (s.setFld f v) := by
  have hother (g : FRef) (hg : blockAddr 24 0 ≤ g.addr) : (s.setFld f v).fld g = s.fld g := by
    rw [State.fld, State.fld, State.reg_setFld_other _ _ (by omega)]
  refine h.trans (of_eq rfl rfl ?_ ?_)
  · rw [State.powered, State.powered, hother _ (by decide)]
  · rw [State.fnOn, State.fnOn, hother _ (by decide)]

theorem pulse (h : z.SameReads s) (l : Nat) : z.SameReads (s.pulse l) :=
  h.trans (by rw [State.rest_pulse]; exact .of_eq rfl rfl rfl rfl)

theorem ledgerWork (h : z.LedgerWork s) : z.SameReads s :=
  .of_eq (by rw [h.rest]) (by rw [h.rest]) (h.powered 11 (by decide)) (by rw [State.fnOn, State.fnOn, State.fld, State.fld, h.reg _ (by decide)])

theorem bytes (h : z.SameReads s) (a n : Nat) : s.bytes a n = z.bytes a n := by
  induction n generalizing a with
  | zero => rfl
  | succ n ih => rw [State.bytes, State.bytes, ih, State.readByte, State.readByte, h.shut, State.byte, State.byte, h.mem]

theorem rdLe (h : z.SameReads s) (a n : Nat) : s.rdLe a n = z.rdLe a n := by rw [State.rdLe, State.rdLe, h.bytes]

theorem sound (h : z.SameReads s) {a n : Nat} (hs : z.Sound a n) : s.Sound a n := fun b hlo hhi => (h.shut b).trans (hs b hlo hhi)

end State.SameReads

end Sys2Proof.Machine
end

section
/-!
SUPPORT. Blocks of frost capture (R190).
-/
namespace Sys2Proof.Machine

/-! ## Lengths -/

theorem length_pieces {n : Nat} (hn : 0 < n) (k : Nat) {l : List Int} (hl : l.length = n * k) : (pieces n k l).length = k := by
  induction k generalizing l with
  | zero => rfl
  | succ k ih =>
    have hne : l.isEmpty = false := by
      rw [List.isEmpty_eq_false_iff, ← List.length_pos_iff, hl]
      exact Nat.mul_pos hn k.succ_pos
    rw [pieces, hne, if_neg Bool.false_ne_true, List.length_cons, ih]
    rw [List.length_drop, hl, Nat.mul_succ, Nat.add_sub_cancel]

theorem length_bfpStream (w : Nat) (blocks : List (List Int)) : (bfpStream w blocks).length = ((4 + 32 * w) * blocks.length + 63) / 64 * 8 :=
  length_leBytes _ _

theorem length_bfpSamples (w n v : Nat) : (bfpSamples w n v).length = 64 * n := by
  simp [bfpSamples, List.length_flatMap, length_leBytes, Nat.mul_comm]

/-! ## Mantissas -/

theorem unsgn_lt (w : Nat) (x : Int) : unsgn w x < 2 ^ w := by
  have hpos : (0 : Int) < ((2 ^ w : Nat) : Int) := by exact_mod_cast Nat.two_pow_pos w
  have := Int.emod_nonneg x hpos.ne'
  have := Int.emod_lt_of_pos x hpos
  unfold unsgn
  omega

/-- A number of w bits is the number it encodes. -/
theorem sgn_unsgn {w : Nat} (hw : 0 < w) {x : Int} (hlo : -(2 ^ (w - 1) : Int) ≤ x) (hhi : x < 2 ^ (w - 1)) (v : Nat) :
    sgn w (unsgn w x + 2 ^ w * v) = x := by
  have hdouble : 2 ^ w = 2 * 2 ^ (w - 1) := by rw [← Nat.pow_succ', Nat.succ_eq_add_one, Nat.sub_add_cancel hw]
  have hlt := unsgn_lt w x
  have hcast : ((2 ^ (w - 1) : Nat) : Int) = 2 ^ (w - 1) := by push_cast; rfl
  rw [← hcast] at hlo hhi
  unfold sgn
  rw [Nat.add_mul_mod_self_left, Nat.mod_eq_of_lt hlt]
  unfold unsgn at hlt ⊢
  rw [hdouble] at hlt ⊢
  generalize 2 ^ (w - 1) = m at *
  rcases Int.lt_or_le x 0 with hneg | hpos
  · have hmod : x % ((2 * m : Nat) : Int) = x + 2 * m := by
      rw [← Int.add_emod_right, Int.emod_eq_of_lt] <;> push_cast <;> omega
    rw [hmod]
    split <;> omega
  · have hmod : x % ((2 * m : Nat) : Int) = x := Int.emod_eq_of_lt hpos (by push_cast; omega)
    rw [hmod]
    split <;> omega

/-- The mantissas of a block of exponent 0, packed from its lowest bits on. -/
def bfpPacked (w : Nat) : List Int → Nat
  | [] => 0
  | x :: xs => unsgn w x + 2 ^ w * bfpPacked w xs

theorem foldl_zipIdx_packed (w : Nat) (xs : List Int) (k a : Nat) :
    (xs.zipIdx k).foldl (fun (a : Nat) (x : Int × Nat) => a + unsgn w (bfpRound x.1 0) * 2 ^ (w * x.2)) a = a + 2 ^ (w * k) * bfpPacked w xs := by
  induction xs generalizing k a with
  | nil => rfl
  | cons x xs ih =>
    rw [List.zipIdx_cons, List.foldl_cons, ih, bfpPacked, bfpRound, if_pos rfl, Nat.mul_succ, Nat.pow_add]
    ring

theorem bfpPacked_shiftRight (w : Nat) {xs : List Int} {i : Nat} (hi : i < xs.length) :
    ∃ v, bfpPacked w xs >>> (w * i) = unsgn w xs[i] + 2 ^ w * v := by
  induction xs generalizing i with
  | nil => exact absurd hi (Nat.not_lt_zero i)
  | cons x xs ih =>
    cases i with
    | zero => exact ⟨_, rfl⟩
    | succ i =>
      obtain ⟨v, hv⟩ := ih (Nat.lt_of_succ_lt_succ hi)
      refine ⟨v, ?_⟩
      have hfirst : bfpPacked w (x :: xs) >>> w = bfpPacked w xs := by
        rw [bfpPacked, Nat.shiftRight_eq_div_pow, Nat.add_mul_div_left _ _ (Nat.two_pow_pos w), Nat.div_eq_of_lt (unsgn_lt w x), Nat.zero_add]
      rw [Nat.mul_succ, Nat.add_comm, Nat.shiftRight_add, hfirst, hv, List.getElem_cons_succ]

/-! ## A block that fits its width -/

section
variable {w : Nat} {xs : List Int} (hfit : ∀ x ∈ xs, -(2 ^ (w - 1) : Int) ≤ x ∧ x < 2 ^ (w - 1))
include hfit

theorem bfpExp_fits (n : Nat) : bfpExp w xs 0 n = 0 := by
  have hall : xs.all (fun x => bfpFits w (bfpRound x 0)) = true := List.all_eq_true.2 fun x hx => by
    obtain ⟨hlo, hhi⟩ := hfit x hx
    simp only [bfpFits, bfpRound, if_true, Bool.and_eq_true, decide_eq_true_eq]
    omega
  cases n with
  | zero => rfl
  | succ n => rw [bfpExp, if_pos hall]

theorem bfpBlock_fits : bfpBlock w xs = 16 * bfpPacked w xs := by
  rw [bfpBlock, bfpExp_fits hfit]
  simp only [foldl_zipIdx_packed, Nat.mul_zero, Nat.pow_zero, Nat.one_mul, Nat.zero_add]

/-- R190: such a block is restored exactly. -/
theorem bfpSamples_block (hw : 6 ≤ w) (hw10 : w ≤ 10) (hlen : xs.length = 32) :
    bfpSamples w 1 (bfpBlock w xs) = xs.flatMap (fun x => leBytes 2 (unsgn 16 x)) := by
  have hpow : (2 : Int) ^ (w - 1) ≤ 2 ^ 9 := pow_le_pow_right₀ (by decide) (by omega)
  have hexp : bfpBlock w xs % 16 = 0 := by rw [bfpBlock_fits hfit]; exact Nat.mul_mod_right _ _
  have hsample (i : Nat) (hi : i < xs.length) : bfpRestore (sgn w (bfpBlock w xs >>> (4 + w * i))) 0 = xs[i] := by
    obtain ⟨hlo, hhi⟩ := hfit _ (List.getElem_mem hi)
    obtain ⟨v, hv⟩ := bfpPacked_shiftRight w hi
    have hshift : bfpBlock w xs >>> 4 = bfpPacked w xs := by
      rw [bfpBlock_fits hfit, Nat.shiftRight_eq_div_pow]
      exact Nat.mul_div_cancel_left _ (by decide)
    rw [Nat.shiftRight_add, hshift, hv, sgn_unsgn (by omega) hlo hhi, bfpRestore, pow_zero, mul_one, min_eq_right (by omega), max_eq_right (by omega)]
  have hlist : xs = (List.range 32).map fun i => bfpRestore (sgn w (bfpBlock w xs >>> (4 + w * i))) 0 :=
    List.ext_getElem (by simp [hlen]) fun i hi _ => by rw [List.getElem_map, List.getElem_range, hsample i hi]
  conv_rhs => rw [hlist, List.flatMap_map]
  simp only [bfpSamples, List.range_one, List.flatMap_cons, List.flatMap_nil, List.append_nil, Nat.mul_zero, Nat.shiftRight_zero, hexp]

end

end Sys2Proof.Machine
end

section
/-!
SUPPORT. The ring of frost capture (R188, R190 to R193): a span that ends is written as a record or dropped, and the commands of the engine.
-/
namespace Sys2Proof.Machine

theorem exec_captureSpanEnd (x : RxMeta) (v : List (BitVec 16)) (s : State) :
    exec (.captureSpanEnd x v) s = .next (s.capEnd x (v.map fun y => y.toInt)) := rfl

theorem exec_expand (s : State) : exec .expand s = .next (s.capService 1) := rfl

theorem exec_captureRelease (s : State) : exec .captureRelease s = .next (s.capService 2) := rfl

/-! ## A span as a record -/

/-- Blocks of a span. -/
def State.capBlocks (s : State) (x : CapSpan) : Nat := ceilDiv ((x.ends - s.capFirst x.frame) * capRate x.frame.mode) (16 * secU)

/-- Bytes of the record of a span (Table 07-11). -/
def State.capBytes (s : State) (x : CapSpan) : Nat := (64 + ((4 + 32 * s.capWidth) * s.capBlocks x + 63) / 64 * 8 + 63) / 64 * 64

/-- The blocks of a span's samples, filled up with zeros. -/
def State.capPieces (s : State) (x : CapSpan) (v : List Int) : List (List Int) :=
  pieces 32 (s.capBlocks x) (v.take (32 * s.capBlocks x) ++ List.replicate (32 * s.capBlocks x - v.length) 0)

theorem State.length_capPieces (s : State) (x : CapSpan) (v : List Int) : (s.capPieces x v).length = s.capBlocks x :=
  length_pieces (by decide) _ (by rw [List.length_append, List.length_take, List.length_replicate]; omega)

/-- The record of a span but for KIND. -/
def State.capBody (s : State) (x : CapSpan) (m : RxMeta) (v : List Int) : List Byte :=
  s.capHeader x m (s.capPieces x v).length (bfpStream s.capWidth (s.capPieces x v)).length ++ bfpStream s.capWidth (s.capPieces x v)

theorem State.length_capHeader (s : State) (x : CapSpan) (m : RxMeta) (blocks bytes : Nat) : (s.capHeader x m blocks bytes).length = 63 := by
  unfold State.capHeader
  extract_lets f first
  simp only [List.length_append, length_leBytes]

/-- The record takes no more than its bytes in the ring. -/
theorem State.length_capBody (s : State) (x : CapSpan) (m : RxMeta) (v : List Int) : (s.capBody x m v).length + 1 ≤ s.capBytes x := by
  rw [State.capBody, List.length_append, State.length_capHeader, length_bfpStream, State.length_capPieces, State.capBytes]
  omega

/-- Where the header gives the number of blocks. -/
theorem State.capHeader_blocks (s : State) (x : CapSpan) (m : RxMeta) (blocks bytes : Nat) :
    ∃ front rest, s.capHeader x m blocks bytes = front ++ (leBytes 4 blocks ++ rest) ∧ front.length = 35 := by
  unfold State.capHeader
  extract_lets f first
  rw [List.append_assoc, List.append_assoc, List.append_assoc]
  exact ⟨_, _, rfl, by simp only [List.length_append, length_leBytes]⟩

theorem State.capBody_blocks (s : State) (x : CapSpan) (m : RxMeta) (v : List Int) :
    ((s.capBody x m v).drop 35).take 4 = leBytes 4 (s.capBlocks x) := by
  obtain ⟨front, rest, hheader, hfront⟩ := s.capHeader_blocks x m (s.capBlocks x) (bfpStream s.capWidth (s.capPieces x v)).length
  rw [State.capBody, State.length_capPieces, hheader, List.append_assoc, List.append_assoc, List.drop_left' hfront,
    List.take_left' (length_leBytes _ _)]

/-- The record of a span that fits, KIND last (R191). -/
def State.capWrote (s : State) (x : CapSpan) (m : RxMeta) (v : List Int) : State :=
  (s.put (s.capBase + s.fld F.CAP_WR_OFFSET + 1) (s.capBody x m v)).putLe (s.capBase + s.fld F.CAP_WR_OFFSET) 1 2

/-- The record appended, counted and told. -/
def State.capAppend (s : State) (x : CapSpan) (m : RxMeta) (v : List Int) : State :=
  (((s.capWrote x m v).capPush (s.capBytes x) false).count F.CAP_COUNT_CAPTURED).pulse 33

/-- A span that MAX_BLOCKS cut is counted (R188). -/
def State.capCounted (s : State) (x : CapSpan) : State := if x.cut then s.count F.CAP_COUNT_TRUNCATED else s

theorem State.capWrite_eq (s : State) (x : CapSpan) (m : RxMeta) (v : List Int) :
    let u := s.capCounted x
    (u.fld F.CAP_WR_OFFSET + u.capBytes x ≤ u.capSize → u.capUsed + u.capBytes x ≤ u.capSize → s.capWrite x m v = u.capAppend x m v) ∧
    (u.capSize < u.capUsed + u.capBytes x → s.capWrite x m v = u.count F.CAP_COUNT_DROPPED) := by
  intro u
  have hsize : (64 + (bfpStream u.capWidth (u.capPieces x v)).length + 63) / 64 * 64 = u.capBytes x := by
    rw [length_bfpStream, State.length_capPieces, State.capBytes]
  refine ⟨fun hend hused => ?fits, fun hfull => ?full⟩
  case fits =>
    unfold State.capWrite
    extract_lets s1 n blocks data size w rest pad need s2 a s3
    have hs : size = u.capBytes x := hsize
    have hpad : pad = false := decide_eq_false (by rw [hs]; exact Nat.not_lt.2 (Nat.le_sub_of_add_le' hend))
    have hneed : need = u.capBytes x := by unfold need; rw [hpad, hs]; rfl
    have hs2 : s2 = u := by unfold s2; rw [hpad]; rfl
    have hroom : ¬ (s1.capSize < s1.capUsed + need ∨ pad = true ∧ s1.capSize < size) := by
      rw [hneed, hpad]
      exact fun h => h.elim (Nat.not_lt.2 hused) fun h => Bool.false_ne_true h.1
    rw [if_neg hroom]
    unfold s3 a
    rw [hs2, hs]
    rfl
  case full =>
    unfold State.capWrite
    extract_lets s1 n blocks data size w rest pad need
    have hs : size = u.capBytes x := hsize
    have hneed : u.capBytes x ≤ need := by
      unfold need
      rw [hs]
      split
      · exact Nat.le_add_left _ _
      · exact Nat.le_refl _
    exact if_pos (.inl (Nat.lt_of_lt_of_le hfull (Nat.add_le_add_left hneed _)))

/-! ## The record that is appended (R191) -/

theorem State.capSize_lt (s : State) : s.capSize < 2 ^ 32 := by
  have h := getBits_lt (s.reg F.CAP_SIZE_SIZE.addr) 15 0
  have hfld : s.fld F.CAP_SIZE_SIZE < 2 ^ 16 := h
  unfold State.capSize
  omega

section
variable {s : State} {x : CapSpan} (m : RxMeta) (v : List Int)

theorem State.engineAccess_capWrote : s.EngineAccess (s.capWrote x m v) := (State.EngineAccess.put s _ _).trans (.putLe _ _ _ _)

theorem State.SameReads.setCap {z s : State} (h : z.SameReads s) (c : CapState) : z.SameReads (s.setCap c) :=
  (h.trans (t := { s with cap := c }) (.of_eq rfl rfl rfl rfl)).setFld _ (by decide)

theorem State.sameReads_capAppend : (s.capWrote x m v).SameReads (s.capAppend x m v) := by
  unfold State.capAppend State.capPush State.capRecords
  exact (((((State.SameReads.refl _).setCap _).setFld _ (by decide)).setFld _ (by decide)).setFld _ (by decide)).pulse 33

/-- What a record of n bytes shows once it is appended, counted and told. -/
theorem State.capPush_shows (z : State) {n : Nat} (hend : z.fld F.CAP_WR_OFFSET + n ≤ z.capSize) :
    let t := ((z.capPush n false).count F.CAP_COUNT_CAPTURED).pulse 33
    t.cap = { z.cap with recs := z.cap.recs ++ [(z.fld F.CAP_WR_OFFSET, n, false)] } ∧
    t.fld F.CAP_WR_OFFSET = (if z.fld F.CAP_WR_OFFSET + n = z.capSize then 0 else z.fld F.CAP_WR_OFFSET + n) ∧
    t.fld F.CAP_COUNT_CAPTURED = min 65535 (z.fld F.CAP_COUNT_CAPTURED + 1) ∧ ∃ p ∈ t.fabric, p.line = 33 := by
  intro t
  have hlt := z.capSize_lt
  refine ⟨?_, ?_, ?_, _, State.pulse_in_fabric _ 33, rfl⟩
  · rw [State.pulse_cap]
    rfl
  · rw [State.fld_pulse, State.count, State.fld_setFld_other _ _ (by decide) (.inl (by decide)), State.capPush, State.capRecords,
      State.fld_setFld_other _ _ (by decide) (.inl (by decide)), State.fld_setFld_same _ _ (by decide)]
    exact Nat.mod_eq_of_lt (by show _ < 2 ^ 32; split <;> omega)
  · rw [State.fld_pulse, State.fld_count _ (by decide), State.capPush, State.capRecords, State.setCap,
      State.fld_setFld_other _ _ (by decide) (.inl (by decide)), State.fld_setFld_other _ _ (by decide) (.inl (by decide)),
      State.fld_setFld_other _ _ (by decide) (.inl (by decide))]
    rfl

/-- What the ring's registers and records show of a record appended. -/
theorem State.capAppend_shows (hend : s.fld F.CAP_WR_OFFSET + s.capBytes x ≤ s.capSize) :
    let t := s.capAppend x m v
    t.cap = { s.cap with recs := s.cap.recs ++ [(s.fld F.CAP_WR_OFFSET, s.capBytes x, false)] } ∧
    t.fld F.CAP_WR_OFFSET = (if s.fld F.CAP_WR_OFFSET + s.capBytes x = s.capSize then 0 else s.fld F.CAP_WR_OFFSET + s.capBytes x) ∧
    t.fld F.CAP_COUNT_CAPTURED = min 65535 (s.fld F.CAP_COUNT_CAPTURED + 1) ∧ ∃ p ∈ t.fabric, p.line = 33 := by
  intro t
  have hz : s.EngineAccess (s.capWrote x m v) := State.engineAccess_capWrote m v
  have hwr : (s.capWrote x m v).fld F.CAP_WR_OFFSET = s.fld F.CAP_WR_OFFSET := hz.fld (by decide)
  have hsize : (s.capWrote x m v).capSize = s.capSize := by rw [State.capSize, State.capSize, hz.fld (by decide)]
  have hcount : (s.capWrote x m v).fld F.CAP_COUNT_CAPTURED = s.fld F.CAP_COUNT_CAPTURED := hz.fld (by decide)
  obtain ⟨hcap, hoff, hcaptured, hline⟩ := (s.capWrote x m v).capPush_shows (n := s.capBytes x) (by rw [hwr, hsize]; exact hend)
  rw [hz.cap, hwr] at hcap
  rw [hwr, hsize] at hoff
  rw [hcount] at hcaptured
  have happ : t = (((s.capWrote x m v).capPush (s.capBytes x) false).count F.CAP_COUNT_CAPTURED).pulse 33 := rfl
  rw [happ]
  exact ⟨hcap, hoff, hcaptured, hline⟩

/-- What memory shows of it. -/
theorem State.capAppend_reads (hs : s.Sound (s.capBase + s.fld F.CAP_WR_OFFSET) (s.capBytes x)) :
    (s.capAppend x m v).rdLe (s.capBase + s.fld F.CAP_WR_OFFSET) 1 = 2 ∧
    (s.capAppend x m v).rdLe (s.capBase + s.fld F.CAP_WR_OFFSET + 36) 4 = s.capBlocks x % 2 ^ 32 := by
  have hlen := s.length_capBody x m v
  rw [(State.sameReads_capAppend m v).rdLe, (State.sameReads_capAppend m v).rdLe]
  generalize hat : s.capBase + s.fld F.CAP_WR_OFFSET = at_ at hs ⊢
  have hbody : s.Sound (at_ + 1) (s.capBody x m v).length := hs.sub (by omega) (by omega)
  have hkind : (s.put (at_ + 1) (s.capBody x m v)).Sound at_ (leBytes 1 2).length :=
    (State.EngineAccess.put s _ _).sound (hs.sub (Nat.le_refl _) (by rw [length_leBytes]; omega))
  have hz : s.EngineAccess (s.capWrote x m v) := State.engineAccess_capWrote m v
  have hwrote : s.capWrote x m v = (s.put (at_ + 1) (s.capBody x m v)).put at_ (leBytes 1 2) := by
    unfold State.capWrote
    rw [hat]
    rfl
  have hheader : 39 ≤ (s.capBody x m v).length := by rw [State.capBody, List.length_append, State.length_capHeader]; omega
  constructor
  · rw [State.rdLe, (hz.sound (hs.sub (Nat.le_refl _) (by omega))).bytes, hwrote]
    have h := State.stored_put_in hkind (i := 0) (n := 1) (by rw [length_leBytes])
    rw [show at_ + 0 = at_ from rfl] at h
    rw [h]
    rfl
  · rw [State.rdLe, (hz.sound (hs.sub (by omega) (by omega))).bytes, hwrote, State.stored_put_other hkind (.inr (by rw [length_leBytes]; omega))]
    have h := State.stored_put_in hbody (i := 35) (n := 4) hheader
    rw [Nat.add_assoc, State.capBody_blocks] at h
    rw [h, leNat_leBytes]
    rfl

end

/-! ## The span that is taken -/

/-- The oldest due span leaves the spans in progress, counted where it was cut. -/
def State.capTaken (s : State) (y : CapSpan) : State := (s.setCap { s.cap with spans := s.cap.spans.erase y }).capCounted y

section
variable (s : State) (y : CapSpan)

theorem State.fld_capTaken {f : FRef} (hstat : f.addr ≠ R.CAP_STAT) (hcount : f.addr ≠ R.CAP_COUNT ∨ 7 < f.lsb) :
    (s.capTaken y).fld f = s.fld f := by
  have hset : (s.setCap { s.cap with spans := s.cap.spans.erase y }).fld f = s.fld f :=
    State.fld_setFld_other (s := { s with cap := _ }) _ (by decide : 19 ≤ 31) (.inl hstat)
  unfold State.capTaken State.capCounted
  split
  · exact (State.fld_setFld_other _ _ (by decide : 7 ≤ 31) (hcount.imp_right .inr)).trans hset
  · exact hset

theorem State.cap_capTaken : (s.capTaken y).cap = { s.cap with spans := s.cap.spans.erase y } := by
  unfold State.capTaken State.capCounted
  split <;> rfl

theorem State.sameReads_capTaken : s.SameReads (s.capTaken y) := by
  have hset : s.SameReads (s.setCap { s.cap with spans := s.cap.spans.erase y }) := (State.SameReads.refl s).setCap _
  unfold State.capTaken State.capCounted
  split
  · exact hset.setFld _ (by decide)
  · exact hset

theorem State.capBase_capTaken : (s.capTaken y).capBase = s.capBase := by
  rw [State.capBase, State.capBase, State.fld_capTaken _ _ (by decide) (.inl (by decide)), State.fld_capTaken _ _ (by decide) (.inl (by decide))]

theorem State.capSize_capTaken : (s.capTaken y).capSize = s.capSize := by
  rw [State.capSize, State.capSize, State.fld_capTaken _ _ (by decide) (.inl (by decide))]

theorem State.capUsed_capTaken : (s.capTaken y).capUsed = s.capUsed := by rw [State.capUsed, State.capUsed, State.cap_capTaken]

theorem State.capBlocks_capTaken (x : CapSpan) : (s.capTaken y).capBlocks x = s.capBlocks x := by
  rw [State.capBlocks, State.capBlocks, State.capFirst, State.capFirst, State.fld_capTaken _ _ (by decide) (.inl (by decide))]

theorem State.capBytes_capTaken (x : CapSpan) : (s.capTaken y).capBytes x = s.capBytes x := by
  rw [State.capBytes, State.capBytes, State.capBlocks_capTaken, State.capWidth, State.capWidth,
    State.fld_capTaken _ _ (by decide) (.inl (by decide))]

end

theorem State.capEnd_none {s : State} (h : ∀ y ∈ s.cap.spans, s.now < y.ends) (m : RxMeta) (v : List Int) : s.capEnd m v = s := by
  have hnone : s.cap.spans.find? (fun y => decide (y.ends ≤ s.now)) = none :=
    List.find?_eq_none.2 fun y hy => by simpa using h y hy
  rw [State.capEnd, hnone]

section
variable {s : State} {y : CapSpan} (hdue : s.cap.spans.find? (fun y => decide (y.ends ≤ s.now)) = some y) (m : RxMeta) (v : List Int)
include hdue

theorem State.capEnd_fits (hend : s.fld F.CAP_WR_OFFSET + s.capBytes y ≤ s.capSize) (hused : s.capUsed + s.capBytes y ≤ s.capSize) :
    s.capEnd m v = (s.capTaken y).capAppend y m v := by
  rw [State.capEnd, hdue]
  refine ((s.setCap _).capWrite_eq y m v).1 ?_ ?_
  · show (s.capTaken y).fld _ + (s.capTaken y).capBytes y ≤ (s.capTaken y).capSize
    rwa [State.fld_capTaken _ _ (by decide) (.inl (by decide)), State.capBytes_capTaken, State.capSize_capTaken]
  · show (s.capTaken y).capUsed + (s.capTaken y).capBytes y ≤ (s.capTaken y).capSize
    rwa [State.capUsed_capTaken, State.capBytes_capTaken, State.capSize_capTaken]

theorem State.capEnd_full (hfull : s.capSize < s.capUsed + s.capBytes y) :
    s.capEnd m v = (s.capTaken y).count F.CAP_COUNT_DROPPED := by
  rw [State.capEnd, hdue]
  refine ((s.setCap _).capWrite_eq y m v).2 ?_
  show (s.capTaken y).capSize < (s.capTaken y).capUsed + (s.capTaken y).capBytes y
  rwa [State.capUsed_capTaken, State.capBytes_capTaken, State.capSize_capTaken]

end

/-- The span is written where it fits (R191). -/
theorem exec_captureSpanEnd_fits {s : State} {y : CapSpan} (hdue : s.cap.spans.find? (fun y => decide (y.ends ≤ s.now)) = some y) (m : RxMeta)
    (v : List (BitVec 16)) (hend : s.fld F.CAP_WR_OFFSET + s.capBytes y ≤ s.capSize) (hused : s.capUsed + s.capBytes y ≤ s.capSize)
    (hsound : s.Sound (s.capBase + s.fld F.CAP_WR_OFFSET) (s.capBytes y)) :
    Gives (.captureSpanEnd m v) s fun t =>
      t.cap.spans = s.cap.spans.erase y ∧ t.cap.recs = s.cap.recs ++ [(s.fld F.CAP_WR_OFFSET, s.capBytes y, false)] ∧
      t.fld F.CAP_WR_OFFSET = (if s.fld F.CAP_WR_OFFSET + s.capBytes y = s.capSize then 0 else s.fld F.CAP_WR_OFFSET + s.capBytes y) ∧
      t.fld F.CAP_COUNT_CAPTURED = min 65535 (s.fld F.CAP_COUNT_CAPTURED + 1) ∧
      t.rdLe (s.capBase + s.fld F.CAP_WR_OFFSET) 1 = 2 ∧ t.rdLe (s.capBase + s.fld F.CAP_WR_OFFSET + 36) 4 = s.capBlocks y % 2 ^ 32 ∧
      ∃ p ∈ t.fabric, p.line = 33 := by
  have hwr : (s.capTaken y).fld F.CAP_WR_OFFSET = s.fld F.CAP_WR_OFFSET := State.fld_capTaken _ _ (by decide) (.inl (by decide))
  have hcaptured : (s.capTaken y).fld F.CAP_COUNT_CAPTURED = s.fld F.CAP_COUNT_CAPTURED :=
    State.fld_capTaken _ _ (by decide) (.inr (by decide))
  obtain ⟨hcap, hoff, hcount, hline⟩ := (s.capTaken y).capAppend_shows (x := y) m (v.map fun y => y.toInt)
    (by rw [hwr, State.capBytes_capTaken, State.capSize_capTaken]; exact hend)
  obtain ⟨hkind, hblocks⟩ := (s.capTaken y).capAppend_reads (x := y) m (v.map fun y => y.toInt)
    (by rw [hwr, State.capBytes_capTaken, State.capBase_capTaken]; exact (s.sameReads_capTaken y).sound hsound)
  rw [hwr, State.capBase_capTaken] at hkind hblocks
  rw [State.capBlocks_capTaken] at hblocks
  rw [hwr, State.capBytes_capTaken, State.capSize_capTaken] at hoff
  rw [hcaptured] at hcount
  refine ⟨_, (exec_captureSpanEnd m v s).trans (congrArg _ (State.capEnd_fits hdue m _ hend hused)), ?_, ?_, hoff, hcount, hkind, hblocks, hline⟩
  · rw [hcap, State.cap_capTaken]
  · rw [hcap, State.cap_capTaken, hwr, State.capBytes_capTaken]

/-- With no room nothing is written. -/
theorem exec_captureSpanEnd_full {s : State} {y : CapSpan} (hdue : s.cap.spans.find? (fun y => decide (y.ends ≤ s.now)) = some y) (m : RxMeta)
    (v : List (BitVec 16)) (hfull : s.capSize < s.capUsed + s.capBytes y) :
    Gives (.captureSpanEnd m v) s fun t =>
      t.cap.spans = s.cap.spans.erase y ∧ t.cap.recs = s.cap.recs ∧ t.mem = s.mem ∧
      t.fld F.CAP_COUNT_DROPPED = min 255 (s.fld F.CAP_COUNT_DROPPED + 1) := by
  refine ⟨_, (exec_captureSpanEnd m v s).trans (congrArg _ (State.capEnd_full hdue m _ hfull)), ?_, ?_, ?_, ?_⟩
  · rw [State.count_cap, State.cap_capTaken]
  · rw [State.count_cap, State.cap_capTaken]
  · rw [State.count_mem, (s.sameReads_capTaken y).mem]
  · rw [State.fld_count _ (by decide), State.fld_capTaken _ _ (by decide) (.inr (by decide))]
    rfl

end Sys2Proof.Machine
end

section
/-!
SUPPORT. The commands of the capture engine (R193): EXPAND and CAPTURE_RELEASE of a granted request.
-/
namespace Sys2Proof.Machine

/-! ## Requests that end (R306) -/

theorem State.reqs_releaseEngine (s : State) (e : Nat) : (s.releaseEngine e).arb.reqs = s.arb.reqs := by
  unfold State.releaseEngine
  dsimp only
  split <;> rfl

theorem State.reqs_settleClosing (s : State) : s.settleClosing.arb.reqs = s.arb.reqs := by
  refine List.foldlRecOn (motive := fun t : State => t.arb.reqs = s.arb.reqs) _ _ rfl fun t ht c _ => ?_
  dsimp only
  split
  · exact ht
  · split
    · exact (t.reqs_releaseEngine _).trans ht
    · exact ht

theorem State.reqs_acceptReq (s : State) (id : Nat) : (s.acceptReq id).arb.reqs = s.arb.reqs := by
  unfold State.acceptReq
  split
  · rfl
  · rw [State.reqs_settleClosing]
    split
    · exact s.reqs_releaseEngine _
    · rfl

/-- A request of the arbiter ends with its status. -/
theorem State.endedAs_endReq {s : State} {q : SvcReq} (h : q ∈ s.arb.reqs) (st : Status) : (s.endReq q.id st).EndedAs q.id st.code := by
  refine ⟨{ q with phase := .ended st.code }, ?_, rfl, rfl⟩
  rw [State.endReq, State.reqs_acceptReq]
  refine List.mem_map.2 ⟨q, h, ?_⟩
  rw [beq_self_eq_true, if_pos rfl]

theorem State.ledgerWork_endReq (s : State) (id : Nat) (st : Status) : s.LedgerWork (s.endReq id st) := (State.LedgerWork.refl s).endReq id st

/-- The end of a request leaves memory, the reads of engines and frost capture. -/
theorem State.endReq_leaves (s : State) (id : Nat) (st : Status) :
    (s.endReq id st).mem = s.mem ∧ (s.endReq id st).cap = s.cap ∧ s.SameReads (s.endReq id st) := by
  have h := s.ledgerWork_endReq id st
  exact ⟨by rw [h.rest], by rw [h.rest], .ledgerWork h⟩

/-- A request that fails ends with its status, and nothing else tells of it. -/
theorem State.endReq_fails {s : State} {q : SvcReq} (h : q ∈ s.arb.reqs) (st : Status) :
    (s.endReq q.id st).EndedAs q.id st.code ∧ (s.endReq q.id st).mem = s.mem ∧ (s.endReq q.id st).cap = s.cap := by
  obtain ⟨hmem, hcap, -⟩ := s.endReq_leaves q.id st
  exact ⟨State.endedAs_endReq h st, hmem, hcap⟩

/-! ## A granted request -/

/-- The offset that the request names. -/
def SvcReq.capRec (q : SvcReq) : Nat := leNat ((q.desc.drop 4).take 4)

/-- Where EXPAND puts the samples. -/
def SvcReq.capDst (q : SvcReq) : Nat := leNat ((q.desc.drop 8).take 8)

/-- How many blocks the record that the request names holds. -/
def State.expandBlocks (s : State) (q : SvcReq) : Nat := s.rdLe (s.capBase + q.capRec + 36) 4

/-- The samples of that record. -/
def State.expandBytes (s : State) (q : SvcReq) : List Byte :=
  bfpSamples (s.rdLe (s.capBase + q.capRec + 5) 1) (s.expandBlocks q) (s.rdLe (s.capBase + q.capRec + 64) (s.rdLe (s.capBase + q.capRec + 40) 4))

theorem State.capService_none {s : State} (h : ∀ q ∈ s.arb.reqs, q.engine = 2 → q.phase ≠ .granted) (op : Nat) : s.capService op = s := by
  have hnone : s.capGranted op = none := List.find?_eq_none.2 fun q hq hall => by
    simp only [Bool.and_eq_true, beq_iff_eq] at hall
    exact h q hq hall.1.1 hall.1.2
  rw [State.capService, hnone]

section
variable {s : State} {q : SvcReq} {op : Nat} (hq : s.capGranted op = some q)
include hq

theorem State.mem_of_capGranted : q ∈ s.arb.reqs := List.mem_of_find?_eq_some hq

theorem State.op_of_capGranted : leNat ((q.desc.drop 0).take 1) = op := by
  have h := List.find?_some hq
  simp only [Bool.and_eq_true, beq_iff_eq] at h
  exact h.2

theorem State.capService_some : s.capService op = s.capRun q := by rw [State.capService, hq]

theorem State.capService_missing (h : recAt q.capRec s.cap.recs 0 = none) : s.capService op = s.endReq q.id .fault := by
  rw [State.capService_some hq, State.capRun]
  unfold SvcReq.capRec at h
  simp only [h, ite_self]

section
variable {i n : Nat} (hrec : recAt q.capRec s.cap.recs 0 = some (i, n)) (hzero : leNat ((q.desc.drop 2).take 2) = 0)
  (hzeros : leNat ((q.desc.drop 24).take 8) = 0)
include hrec hzero hzeros

theorem State.capService_release (hop : op = 2) : s.capService op =
    (((s.setCap { s.cap with recs := s.cap.recs.drop (i + 1) }).setFld F.CAP_RD_OFFSET
      ((s.cap.recs.drop (i + 1)).head?.elim (s.fld F.CAP_WR_OFFSET) (fun x => x.1))).capRecords).endReq q.id .ok := by
  have hcode := State.op_of_capGranted hq
  rw [State.capService_some hq, State.capRun]
  unfold SvcReq.capRec at hrec
  simp only [hcode, hop, hrec, hzero, hzeros, or_true, and_self, if_true]

/-- EXPAND of a record whose samples lie in order. -/
theorem State.capService_expand (hop : op = 1) (halign : q.capDst % 8 = 0) (hnormal : inNormal q.capDst (64 * s.expandBlocks q) = true) :
    s.capService op =
      if leNat ((q.desc.drop 16).take 4) < 64 * s.expandBlocks q then s.endReq q.id .noBuffer
      else (((s.seen (s.capBase + q.capRec) (64 + s.rdLe (s.capBase + q.capRec + 40) 4)).put q.capDst (s.expandBytes q)).putLe (q.addr + 20) 4
        (16 * s.expandBlocks q)).endReq q.id .ok := by
  have hcode := State.op_of_capGranted hq
  have hbad : ¬ (q.capDst % 8 ≠ 0 ∨ inNormal q.capDst (64 * s.expandBlocks q) = false) := by simp [halign, hnormal]
  unfold SvcReq.capDst State.expandBlocks SvcReq.capRec at hbad
  unfold SvcReq.capRec at hrec
  rw [State.capService_some hq, State.capRun]
  simp only [hcode, hop, hrec, hzero, hzeros, true_or, and_self, if_true, if_neg hbad, show ¬ (1 : Nat) = 2 by decide, if_false]
  rfl

end

end

/-! ## CAPTURE_RELEASE -/

/-- The records up to the one named are freed, and RD_OFFSET is that of the first left. -/
theorem State.capService_releases {s : State} {q : SvcReq} (hq : s.capGranted 2 = some q) {i n : Nat}
    (hrec : recAt q.capRec s.cap.recs 0 = some (i, n)) (hzero : leNat ((q.desc.drop 2).take 2) = 0)
    (hzeros : leNat ((q.desc.drop 24).take 8) = 0) :
    let t := s.capService 2
    t.cap.recs = s.cap.recs.drop (i + 1) ∧ t.EndedAs q.id 0 ∧
    t.fld F.CAP_RD_OFFSET % 2 ^ 32 = (match s.cap.recs.drop (i + 1) with | [] => s.fld F.CAP_WR_OFFSET | x :: _ => x.1 % 2 ^ 32) := by
  intro t
  generalize hw : (s.cap.recs.drop (i + 1)).head?.elim (s.fld F.CAP_WR_OFFSET) (fun x => x.1) = w
  have ht : t = (((s.setCap { s.cap with recs := s.cap.recs.drop (i + 1) }).setFld F.CAP_RD_OFFSET w).capRecords).endReq q.id .ok :=
    hw ▸ State.capService_release hq hrec hzero hzeros rfl
  generalize hz : ((s.setCap { s.cap with recs := s.cap.recs.drop (i + 1) }).setFld F.CAP_RD_OFFSET w).capRecords = z at ht
  have hcap : z.cap = { s.cap with recs := s.cap.recs.drop (i + 1) } := by rw [← hz]; rfl
  have harb : z.arb = s.arb := by rw [← hz]; rfl
  have hoff : z.fld F.CAP_RD_OFFSET = w % 2 ^ 32 := by
    rw [← hz, State.capRecords, State.fld_setFld_other _ _ (by decide) (.inl (by decide)), State.fld_setFld_same _ _ (by decide)]
    rfl
  obtain ⟨-, hleaves, -⟩ := z.endReq_leaves q.id .ok
  have hfld : (z.endReq q.id .ok).fld F.CAP_RD_OFFSET = z.fld F.CAP_RD_OFFSET := by
    rw [State.fld, State.fld, (z.ledgerWork_endReq q.id .ok).reg _ (by decide)]
  rw [ht]
  refine ⟨by rw [hleaves, hcap], State.endedAs_endReq (harb ▸ State.mem_of_capGranted hq) .ok, ?_⟩
  rw [hfld, hoff, Nat.mod_mod, ← hw]
  cases s.cap.recs.drop (i + 1) with
  | nil => exact Nat.mod_eq_of_lt (getBits_lt _ 31 0)
  | cons x _ => rfl

/-! ## EXPAND -/

/-- Samples in normal memory are fewer than 2^32. -/
theorem samples_lt {a n : Nat} (h : inNormal a (64 * n) = true) : 16 * n < 256 ^ 4 := by
  simp only [inNormal, isDram, isSpad, Bool.or_eq_true, Bool.and_eq_true, decide_eq_true_eq] at h
  omega

/-- The samples are where the request wants them, and their number in its descriptor. -/
theorem State.capService_expands {s : State} {q : SvcReq} (hq : s.capGranted 1 = some q) {i n : Nat}
    (hrec : recAt q.capRec s.cap.recs 0 = some (i, n)) (hzero : leNat ((q.desc.drop 2).take 2) = 0)
    (hzeros : leNat ((q.desc.drop 24).take 8) = 0) (halign : q.capDst % 8 = 0) (hnormal : inNormal q.capDst (64 * s.expandBlocks q) = true)
    (hdst : s.Sound q.capDst (64 * s.expandBlocks q)) (hdesc : s.Sound (q.addr + 20) 4)
    (hroom : 64 * s.expandBlocks q ≤ leNat ((q.desc.drop 16).take 4)) :
    let t := s.capService 1
    t.EndedAs q.id 0 ∧ t.rdLe (q.addr + 20) 4 = 16 * s.expandBlocks q ∧ t.cap = s.cap ∧
    (q.addr + 24 ≤ q.capDst ∨ q.capDst + 64 * s.expandBlocks q ≤ q.addr + 20 →
      t.bytes q.capDst (64 * s.expandBlocks q) = s.expandBytes q) := by
  intro t
  have hlen : (s.expandBytes q).length = 64 * s.expandBlocks q := length_bfpSamples ..
  have hlen4 : (leBytes 4 (16 * s.expandBlocks q)).length = 4 := length_leBytes ..
  generalize hx : s.seen (s.capBase + q.capRec) (64 + s.rdLe (s.capBase + q.capRec + 40) 4) = x
  generalize hz : (x.put q.capDst (s.expandBytes q)).put (q.addr + 20) (leBytes 4 (16 * s.expandBlocks q)) = z
  have ht : t = z.endReq q.id .ok := by
    have hexpand := State.capService_expand hq hrec hzero hzeros rfl halign hnormal
    rw [if_neg (Nat.not_lt.2 hroom), hx] at hexpand
    exact hexpand.trans (congrArg (State.endReq · q.id .ok) hz)
  have hseen : s.EngineAccess x := hx ▸ .seen ..
  have hput : s.EngineAccess (x.put q.capDst (s.expandBytes q)) := hseen.trans (.put ..)
  have hall : s.EngineAccess z := hz ▸ hput.trans (.put ..)
  have hout : x.Sound q.capDst (s.expandBytes q).length := hlen ▸ hseen.sound hdst
  have hcount : (x.put q.capDst (s.expandBytes q)).Sound (q.addr + 20) (leBytes 4 (16 * s.expandBlocks q)).length := hlen4 ▸ hput.sound hdesc
  obtain ⟨-, hcap, hreads⟩ := z.endReq_leaves q.id .ok
  rw [ht]
  refine ⟨State.endedAs_endReq (hall.arb ▸ State.mem_of_capGranted hq) .ok, ?_, hcap.trans hall.cap, fun hapart => ?_⟩
  · have hstored := State.stored_put_in hcount (i := 0) (n := 4) (by rw [hlen4])
    rw [show q.addr + 20 + 0 = q.addr + 20 from rfl, hz, List.drop_zero, List.take_of_length_le (Nat.le_of_eq hlen4)] at hstored
    rw [hreads.rdLe, State.rdLe, (hall.sound hdesc).bytes, hstored, leNat_leBytes, Nat.mod_eq_of_lt (samples_lt hnormal)]
  · have hstored := State.stored_put_in hout (i := 0) (n := 64 * s.expandBlocks q) (by rw [hlen, Nat.zero_add])
    rw [show q.capDst + 0 = q.capDst from rfl, List.drop_zero, List.take_of_length_le (Nat.le_of_eq hlen)] at hstored
    rw [hreads.bytes, (hall.sound hdst).bytes, ← hz, State.stored_put_other hcount (by rw [hlen4]; omega), hstored]

/-- No room for the samples. -/
theorem State.capService_noBuffer {s : State} {q : SvcReq} (hq : s.capGranted 1 = some q) {i n : Nat}
    (hrec : recAt q.capRec s.cap.recs 0 = some (i, n)) (hzero : leNat ((q.desc.drop 2).take 2) = 0)
    (hzeros : leNat ((q.desc.drop 24).take 8) = 0) (halign : q.capDst % 8 = 0) (hnormal : inNormal q.capDst (64 * s.expandBlocks q) = true)
    (hroom : leNat ((q.desc.drop 16).take 4) < 64 * s.expandBlocks q) : s.capService 1 = s.endReq q.id .noBuffer :=
  (State.capService_expand hq hrec hzero hzeros rfl halign hnormal).trans (if_pos hroom)

end Sys2Proof.Machine
end

section
/-!
SUPPORT. The rows of a lane (R182 to R184, R283): what each leaves of the lane, the counters and the link unit.
-/
namespace Sys2Proof.Machine

/-! ## Sync -/

section
variable {s : State} {r : Fin 3} {n : Byte} {f : RxFrame} (hf : (s.lane r n.toNat).frame = some f)
include hf

/-- The arrival lies on the grid of 62.5 ps, nearest to the sync less the path delay. -/
theorem exec_syncFound_stamps (harr : f.arrival = none) (htime : s.now ≤ f.syncBy) (ph : BitVec 16) :
    Gives (.syncFound r n ph) s fun t => ∃ a,
      (t.lane r n.toNat).frame = some { f with arrival := some a } ∧ a % 2 ^ 28 = 0 ∧
      let i : Int := ((s.now + s.incr s.cur * ph.toNat / 2 ^ 16 : Nat) : Int) - s.rxDelay r f.chain
      (0 ≤ i → i + 2 ^ 28 < ntMod → ((a : Nat) : Int) - i ≤ 2 ^ 27 ∧ i - ((a : Nat) : Int) < 2 ^ 27) := by
  refine ⟨_, (exec_syncFound s r n ph).trans (congrArg _ (State.syncFound_stamps hf harr htime ph.toNat)), _,
    by rw [State.lane_setLane_same], captureRound_mod _, ?_⟩
  intro i h0 h1
  rw [← Int.natCast_add]
  exact captureRound_near h0 h1

/-! ## The PHY header -/

section
variable {a : Nat} (harr : f.arrival = some a) (hhdr : f.hdrOk = false) {h : BitVec 48}
include harr hhdr

theorem exec_headerDecoded_fails (hread : readHeader f.mode h.toNat = none) : Gives (.headerDecoded r n h) s fun t =>
    (t.lane r n.toNat).frame = none ∧ t.fld (F.DP_COUNT0_HDR_FAIL r) = min 255 (s.fld (F.DP_COUNT0_HDR_FAIL r) + 1) :=
  ⟨_, (exec_headerDecoded s r n h).trans (congrArg _ (State.headerDecoded_fails hf harr hhdr hread)),
    State.freed_counted (counts8_hdrFail r) rfl rfl ((State.KeepsLanes.refl _).capStart _ _ _ _).settleMisses⟩

variable {i : HeaderInfo} {l : ModeInfo} (hread : readHeader f.mode h.toNat = some i) (hmode : modeInfo r i.mode = some l)
include hread hmode

theorem exec_headerDecoded_short (hlen : i.len < l.min) : Gives (.headerDecoded r n h) s fun t =>
    (t.lane r n.toNat).frame = none ∧ t.fld (F.DP_COUNT1_TOO_SHORT r) = min 255 (s.fld (F.DP_COUNT1_TOO_SHORT r) + 1) :=
  ⟨_, (exec_headerDecoded s r n h).trans (congrArg _ (State.headerDecoded_short hf harr hhdr hread hmode hlen)),
    State.freed_counted (counts8_tooShort r) rfl rfl (State.KeepsLanes.refl _).settleMisses⟩

theorem exec_headerDecoded_long (hmin : l.min ≤ i.len) (hlen : l.max < i.len) : Gives (.headerDecoded r n h) s fun t =>
    (t.lane r n.toNat).frame = none ∧ t.fld (F.DP_COUNT1_TOO_LONG r) = min 255 (s.fld (F.DP_COUNT1_TOO_LONG r) + 1) :=
  ⟨_, (exec_headerDecoded s r n h).trans (congrArg _ (State.headerDecoded_long hf harr hhdr hread hmode hmin hlen)),
    State.freed_counted (counts8_tooLong r) rfl rfl (State.KeepsLanes.refl _).settleMisses⟩

theorem exec_headerDecoded_gives (hmin : l.min ≤ i.len) (hmax : i.len ≤ l.max) : Gives (.headerDecoded r n h) s fun t =>
    ∃ g, (t.lane r n.toNat).frame = some g ∧ g.hdrOk = true ∧ g.len = i.len ∧ g.fcs = i.fcs ∧ g.mode = i.mode ∧
      g.arrival = some a ∧ g.lastBit = a + restAfterSync i.mode i.len :=
  ⟨_, (exec_headerDecoded s r n h).trans (congrArg _ (State.headerDecoded_gives hf harr hhdr hread hmode hmin hmax)), f.headed a i,
    by rw [State.lane_setLane_same], rfl, rfl, rfl, rfl, harr, rfl⟩

end

/-! ## The last bit -/

section
variable {a : Nat} (harr : f.arrival = some a) (hhdr : f.hdrOk = true) (hdue : f.lastBit ≤ s.now) {psdu : List Byte}
  (hlen : psdu.length = f.len) (x : RxMeta)
include harr hhdr hdue hlen

/-- A frame whose FCS is right goes to the link unit. -/
theorem exec_frameEnd_given (hfcs : psdu.drop (f.len - f.fcs) = fcsBytes r f.mode (psdu.take (f.len - f.fcs))) (hrq : f.rqid ≠ some none) :
    Gives (.frameEnd r n psdu x) s fun t => (t.lane r n.toNat).frame = none ∧
      t.lnk.frames = s.lnk.frames ++ [s.linkFrame r n.toNat f a x (psdu.take (f.len - f.fcs))] := by
  refine ⟨_, exec_frameEnd s r n psdu x, ?_⟩
  rw [State.frameEnd_eq hf harr hhdr hdue hlen, if_neg (not_not.2 hfcs), if_neg hrq]
  have hkeeps := (State.KeepsLanes.refl ((s.frameDone r n.toNat f).setLnk { s.lnk with
    frames := s.lnk.frames ++ [s.linkFrame r n.toNat f a x (psdu.take (f.len - f.fcs))], nextId := s.lnk.nextId + 1 })).settleMisses
  refine ⟨?_, hkeeps.frames⟩
  rw [hkeeps.lane]
  exact congrArg Lane.frame (State.lane_setLane_same ..)

/-- FCS_FAIL. -/
theorem exec_frameEnd_failed (hfcs : psdu.drop (f.len - f.fcs) ≠ fcsBytes r f.mode (psdu.take (f.len - f.fcs))) :
    Gives (.frameEnd r n psdu x) s fun t => (t.lane r n.toNat).frame = none ∧ t.lnk.frames = s.lnk.frames ∧
      t.fld (F.DP_COUNT0_FCS_FAIL r) = min 255 (s.fld (F.DP_COUNT0_FCS_FAIL r) + 1) := by
  refine ⟨_, exec_frameEnd s r n psdu x, ?_⟩
  rw [State.frameEnd_eq hf harr hhdr hdue hlen, if_pos hfcs]
  have hkeeps := (((((State.KeepsLanes.refl ((s.frameDone r n.toNat f).count (F.DP_COUNT0_FCS_FAIL r))).endRecord (s.fld (F.RQ_SRC_QUEUE r)) f.rqid
    (psdu.take (f.len - f.fcs)).length).capStart r (some n.toNat) f 2).settleMisses).settleMisses)
  obtain ⟨hfree, hcount⟩ := State.freed_counted (s := s) (z := s.frameDone r n.toNat f) (counts8_fcsFail r) rfl rfl hkeeps
  exact ⟨hfree, hkeeps.frames, hcount⟩

/-- A frame that was to be dropped. -/
theorem exec_frameEnd_dropped (hfcs : psdu.drop (f.len - f.fcs) = fcsBytes r f.mode (psdu.take (f.len - f.fcs))) (hrq : f.rqid = some none) :
    Gives (.frameEnd r n psdu x) s fun t => (t.lane r n.toNat).frame = none ∧ t.lnk.frames = s.lnk.frames := by
  refine ⟨_, exec_frameEnd s r n psdu x, ?_⟩
  rw [State.frameEnd_eq hf harr hhdr hdue hlen, if_neg (not_not.2 hfcs), if_pos hrq]
  have hkeeps := (State.KeepsLanes.refl (s.frameDone r n.toNat f)).settleMisses.settleMisses
  refine ⟨?_, hkeeps.frames⟩
  rw [hkeeps.lane]
  exact congrArg Lane.frame (State.lane_setLane_same ..)

end

end

/-- Settles O40: the rows of a lane by its frame's stage, the ring and the commands of frost capture by their equations. -/
theorem framesAndFrostCaptureAreReceived : Obligations.FramesAndFrostCaptureAreReceived := by
  unfold Obligations.FramesAndFrostCaptureAreReceived
  refine ⟨⟨?detection, ?lanes, fun mode h c hmode hc i hread => readHeader_wrongBit hmode hc hread⟩,
    ?spans, fun w xs hw hw10 hlen hfit => bfpSamples_block hfit hw hw10 hlen, ?ungranted, ?commands⟩
  case detection =>
    intro r k mode centre snr rssi ago s e hon hact hdet f row
    have hrow : exec row s = .next (if s.sameFrame r f then s else s.placeFrame r f).settleMisses :=
      (exec_preambleDetect ..).trans (congrArg (fun t : State => Host.Outcome.next t.settleMisses) (State.preamble_outside hon hact hdet ..))
    refine ⟨fun hsame => by rw [hrow, if_pos hsame], fun hnew => ?_⟩
    rw [hnew, if_neg Bool.false_ne_true] at hrow
    obtain ⟨hfree, hnone, hweak⟩ := State.placeFrame_takes (s := s) (r := r) (f := f) rfl
    exact ⟨fun n h => ⟨_, hrow, hfree n h⟩, fun h hm => ⟨_, hrow, hnone h hm⟩, fun h hr hm n g hg => ⟨_, hrow, hweak h hr hm n g hg⟩⟩
  case lanes =>
    intro r n s
    refine ⟨fun hidle ph h => ?idle, fun f hf => ⟨fun ph harr htime => exec_syncFound_stamps hf harr htime ph, ?late,
      fun h => congrArg _ (State.syncTimeout_early hf h), ?header, ?ends, ?sid⟩⟩
    case idle =>
      obtain ⟨hsync, htimeout, hheader⟩ := State.lane_idle hidle ph.toNat h.toNat
      exact ⟨congrArg _ hsync, congrArg _ htimeout, congrArg _ hheader⟩
    case late =>
      have hmiss := s.syncMiss_frees r n.toNat f
      exact fun harr => ⟨fun htime => ⟨_, (exec_syncTimeout s r n).trans (congrArg _ (State.syncTimeout_due hf harr htime)), hmiss⟩,
        fun ph htime => ⟨_, (exec_syncFound s r n ph).trans (congrArg _ (State.syncFound_late hf harr htime ph.toNat)), hmiss⟩⟩
    case header =>
      exact fun a h harr hhdr => ⟨exec_headerDecoded_fails hf harr hhdr, fun i l hread hmode =>
        ⟨exec_headerDecoded_short hf harr hhdr hread hmode, exec_headerDecoded_long hf harr hhdr hread hmode,
          exec_headerDecoded_gives hf harr hhdr hread hmode⟩⟩
    case ends =>
      intro a psdu x harr hhdr hdue hlen _ body
      refine ⟨fun hfcs hrq => ?_, exec_frameEnd_failed hf harr hhdr hdue hlen x, exec_frameEnd_dropped hf harr hhdr hdue hlen x⟩
      obtain ⟨t, ht, hfree, hframes⟩ := exec_frameEnd_given hf harr hhdr hdue hlen x hfcs hrq
      exact ⟨t, ht, hfree, _, hframes, rfl, rfl, rfl, rfl, rfl, rfl, rfl, rfl⟩
    case sid =>
      intro a h harr hhdr
      refine ⟨fun hrq => congrArg _ (State.headerDecoded_refused hf harr hhdr hrq), fun hrq =>
        ⟨fun hearly => congrArg _ (State.headerDecoded_early hf harr hhdr hrq hearly), fun hsid => ?_⟩⟩
      intro q
      exact ⟨fun hroute hids => ⟨_, exec_headerDecoded s r n h, State.headerDecoded_taken hf harr hhdr hrq hsid hroute hids⟩,
        fun hroute => ⟨_, exec_headerDecoded s r n h, State.headerDecoded_dropped hf harr hhdr hrq hsid hroute⟩⟩
  case spans =>
    exact fun x v s => ⟨fun hnone => congrArg _ (State.capEnd_none hnone _ _), fun y hdue =>
      ⟨exec_captureSpanEnd_fits hdue x v, exec_captureSpanEnd_full hdue x v⟩⟩
  case ungranted =>
    exact fun s h => ⟨(exec_expand s).trans (congrArg _ (State.capService_none h 1)),
      (exec_captureRelease s).trans (congrArg _ (State.capService_none h 2))⟩
  case commands =>
    intro s q op hq row off hop
    have hrow : exec row s = .next (s.capService op) := by
      rcases hop with rfl | rfl
      · exact exec_expand s
      · exact exec_captureRelease s
    have hmem := State.mem_of_capGranted hq
    refine ⟨fun hrec => ⟨_, hrow, ?missing⟩, fun i n hrec hzero hzeros => ⟨fun hop => ⟨_, hrow, ?release⟩, fun hop => ?expand⟩⟩
    case missing =>
      rw [State.capService_missing hq hrec]
      exact State.endReq_fails hmem .fault
    case release =>
      subst hop
      exact State.capService_releases hq hrec hzero hzeros
    case expand =>
      subst hop
      intro m dst halign hnormal hdst hdesc
      refine ⟨fun hroom => ⟨_, hrow, State.capService_expands hq hrec hzero hzeros halign hnormal hdst hdesc hroom⟩,
        fun hroom => ⟨_, hrow, ?_⟩⟩
      rw [State.capService_noBuffer hq hrec hzero hzeros halign hnormal hroom]
      exact (State.endReq_fails hmem .noBuffer).imp_right And.left

end Sys2Proof.Machine
end

section
/-!
SUPPORT. Which attempt CONTEND_WINDOW_OPEN offers (R210): its MODE is what the descriptor reads as once the words under it were
dealt with (R275).
-/
namespace Sys2Proof.Machine

/-! ## Offers -/

theorem exec_contendWindowOpen (r : Fin 3) (idx : BitVec 14) (lap : Word) (s : State) :
    exec (.contendWindowOpen r idx lap) s = .next (s.openWindow r idx.toNat lap.toNat) := rfl

@[simp] theorem State.accOf_setAcc_same (s : State) (r : Nat) (a : AccState) : (s.setAcc r a).accOf r = a :=
  SMap.get_set_same _ _ _

theorem mem_insertOcc {o x : Occ} {l : List Occ} (h : x ∈ insertOcc o l) : x = o ∨ x ∈ l := by
  induction l with
  | nil => exact .inl (List.mem_singleton.1 h)
  | cons y l ih =>
    rw [insertOcc] at h
    split at h
    · exact List.mem_cons.1 h
    · rcases List.mem_cons.1 h with rfl | h
      · exact .inr List.mem_cons_self
      · exact (ih h).imp_right (List.mem_cons_of_mem y)

theorem AccState.mode_refill {a : AccState} {x : Occ} (h : x ∈ a.refill.offers) : ∃ y ∈ a.offers, x.mode = y.mode := by
  obtain ⟨y, hy, rfl⟩ := List.mem_map.1 h
  refine ⟨y, hy, ?_⟩
  split <;> rfl

theorem State.mode_placeOffer {s : State} {r : Nat} {o x : Occ} (h : x ∈ ((s.placeOffer r o).accOf r).offers) :
    x.mode = o.mode ∨ ∃ y ∈ (s.accOf r).offers, x.mode = y.mode := by
  have hacc : (s.placeOffer r o).accOf r = ({ s.accOf r with offers := insertOcc o (s.accOf r).offers } : AccState).refill := by
    unfold State.placeOffer
    dsimp only
    split
    · rw [State.rest_pulse]
      exact State.accOf_setAcc_same _ _ _
    · exact State.accOf_setAcc_same _ _ _
  rw [hacc] at h
  obtain ⟨y, hy, hmode⟩ := AccState.mode_refill h
  rcases mem_insertOcc hy with rfl | hy
  · exact .inl hmode
  · exact .inr ⟨y, hy, hmode⟩

/-- An attempt has the MODE that a read of the descriptor gets once the words under it were dealt with. -/
theorem State.mode_serveWindow {s : State} {r q d : Nat} {x : Occ} (hnone : (s.accOf r).offers = []) (hd : s.cqHead r q = some d)
    (h : x ∈ ((s.serveWindow r q).accOf r).offers) : x.mode = (s.seen d 16).rdLe (d + 6) 1 := by
  have hidle : x ∉ (s.accOf r).offers := hnone ▸ List.not_mem_nil
  unfold State.serveWindow at h
  dsimp only at h
  split at h
  · exact absurd h hidle
  · split at h
    · exact absurd h hidle
    · rw [hd] at h
      dsimp only at h
      split at h
      · rw [State.accOf_setAcc_same] at h
        exact absurd h hidle
      · rcases State.mode_placeOffer h with hmode | ⟨y, hy, -⟩
        · exact hmode
        · rw [State.accOf_setAcc_same] at hy
          exact absurd hy (hnone ▸ List.not_mem_nil)

/-- The state in which a window has just opened and its queue is about to be served. -/
def State.opened (s : State) (r : Nat) (w : ConWin) : State :=
  s.setAcc r { s.accOf r with wins := (s.accOf r).wins.map (fun x => if x = w then { x with isOpen := true } else x) }

theorem State.cqHead_opened (s : State) (r : Nat) (w : ConWin) (q : Nat) : (s.opened r w).cqHead r q = s.cqHead r q := rfl

theorem State.offers_opened (s : State) (r : Nat) (w : ConWin) : ((s.opened r w).accOf r).offers = (s.accOf r).offers := by
  rw [State.opened, State.accOf_setAcc_same]

theorem State.openWindow_due {s : State} {r idx lap : Nat} {w : ConWin}
    (hw : (s.accOf r).wins.find? (fun w => w.entry == idx && w.lap == lap && !w.isOpen) = some w) (hdue : w.opens ≤ s.now) :
    s.openWindow r idx lap = (s.opened r w).serveWindow r w.queue := by
  unfold State.openWindow
  dsimp only
  rw [hw]
  exact if_neg (Nat.not_lt.2 hdue)

end Sys2Proof.Machine
end

section
/-!
SUPPORT. A state in which the first read of a contention descriptor changes what the second one gets, and the refutation that rests on it.
-/
namespace Sys2Proof.Machine

/-! ## A descriptor whose word has two entries -/

/-- A window of queue 0 that is due at NT 0 and closes 10^40 units later. -/
def roomyWindow : ConWin := ⟨0, 0, 0, 0, 0, 10 ^ 40, false, 0, false, none, false⟩

/-- Queue 0 of Radio S holds one descriptor, at the start of the scratchpad; RUN is on, NT fine, every exponent 0. The word of the
descriptor stands twice in the table of wrong bits: at its address with two wrong bits, and at an address inside it with one. -/
def twiceListed : State :=
  let s := (((((State.reset.setFld (fnState 4 0 0) 2).setFld (F.NT_STAT_COARSE 0) 0).setFld (F.ACC_BACKOFF_MAX_BE 0) 0).setFld
    (F.ACC_CQ_CFG_SIZE 0 0) 2).setFld (F.ACC_CQ_PTR_TAIL 0 0) 1).setAcc 0 { AccState.reset with wins := [roomyWindow] }
  s.setArrays { s.arrays with flips := [(spadBase, 2), (spadBase + 1, 1)] }

theorem twiceListed_cqHead : twiceListed.cqHead 0 0 = some spadBase := by decide +kernel

theorem twiceListed_serves : twiceListed.coarse = false ∧ twiceListed.fnOn 4 0 0 = true := by decide +kernel

theorem twiceListed_cqState : twiceListed.cqState 0 0 = (0, 0) := by decide +kernel

/-- Two wrong bits: a read of MODE fails and gets all ones (R44). -/
theorem twiceListed_mode : twiceListed.rdLe (spadBase + 6) 1 = 0xFF := by decide +kernel

/-- The entry inside the word is corrected as one wrong bit, and that clears the word: now MODE reads as it is stored. -/
theorem twiceListed_seen_mode : ((twiceListed.opened 0 roomyWindow).seen spadBase 16).rdLe (spadBase + 6) 1 = 0 := by decide +kernel

/-- Whatever is offered as the window opens has the stored MODE. -/
theorem twiceListed_offers_mode {x : Occ} (h : x ∈ (((twiceListed.opened 0 roomyWindow).serveWindow 0 roomyWindow.queue).accOf 0).offers) :
    x.mode = 0 :=
  have hhead : (twiceListed.opened 0 roomyWindow).cqHead 0 0 = some spadBase := (State.cqHead_opened ..).trans twiceListed_cqHead
  have hnone : ((twiceListed.opened 0 roomyWindow).accOf 0).offers = [] := State.offers_opened ..
  (State.mode_serveWindow hnone hhead h).trans twiceListed_seen_mode

/-- The first attempt, without a backoff, ends before the window closes. -/
theorem twiceListed_fits : let (lo, hi) := bandOf 0 (twiceListed.rdLe (spadBase + 6) 1) (twiceListed.rdLe (spadBase + 4) 2)
    max roomyWindow.t (twiceListed.now + twiceListed.offerLead 0) + (0 * twiceListed.bslot 0 + twiceListed.listenUs (twiceListed.subsOf lo hi) + 24) * usU +
      twiceListed.cqAir spadBase ≤ roomyWindow.closes := by decide +kernel

/-- Refutes O41, by its clause on the attempt that CONTEND_WINDOW_OPEN offers: the statement reads the descriptor in the state before, the
module after the words under it were dealt with (R275), and it puts no premise on the table of wrong bits. Where a word stands there once,
at its aligned address, both reads agree; where it stands twice they need not, and the attempt has MODE 0 in the place of 0xFF. -/
theorem not_occurrencesAndContentionAreServed : ¬ Obligations.OccurrencesAndContentionAreServed := by
  unfold Obligations.OccurrencesAndContentionAreServed
  intro h
  obtain ⟨-, hopens, -⟩ := h
  obtain ⟨-, hdue⟩ := hopens 0 0 0 twiceListed roomyWindow rfl
  obtain ⟨-, -, -, hserved⟩ := hdue (Nat.zero_le _)
  obtain ⟨hfine, hrun⟩ := twiceListed_serves
  obtain ⟨k, hk, hoffer, -⟩ := hserved spadBase twiceListed_cqHead rfl rfl rfl rfl hfine hrun
  have hbe : (twiceListed.cqState (0 : Fin 3) roomyWindow.queue).2 = 0 := congrArg Prod.snd twiceListed_cqState
  rw [hbe] at hk
  obtain rfl : k = 0 := Nat.lt_one_iff.1 hk
  obtain ⟨t, ht, -, x, hx, -, -, -, hmode, -⟩ := hoffer twiceListed_fits
  rw [exec_contendWindowOpen, State.openWindow_due rfl (Nat.zero_le _)] at ht
  obtain rfl := Host.Outcome.next.inj ht
  have hread : x.mode = 0 := twiceListed_offers_mode hx
  exact absurd (twiceListed_mode.symm.trans (hmode.symm.trans hread)) (by decide)

end Sys2Proof.Machine
end

section
/-!
SUPPORT. Context images as lists of bytes (Table 09-1), and the replay window (R216, R217).
-/
namespace Sys2Proof.Machine

/-! ## Bytes of an image that are replaced -/

section
variable {l : List Byte} {b n : Nat} (hlen : b + n ≤ l.length) (v : Nat)
include hlen

theorem length_cxSet : (cxSet l b n v).length = l.length := by
  simp only [cxSet, List.length_append, List.length_take, List.length_drop, length_leBytes]
  omega

theorem getElem?_cxSet_other {i : Nat} (h : i < b ∨ b + n ≤ i) : (cxSet l b n v)[i]? = l[i]? := by
  have htake : (l.take b ++ leBytes n v).length = b + n := by simp only [List.length_append, List.length_take, length_leBytes]; omega
  rcases h with h | h
  · rw [cxSet, List.append_assoc, List.getElem?_append_left (by rw [List.length_take]; omega), List.getElem?_take_of_lt h]
  · rw [cxSet, List.getElem?_append_right (by omega), htake, List.getElem?_drop, Nat.add_sub_cancel' h]

theorem cxGet_cxSet_same : cxGet (cxSet l b n v) b n = v % 256 ^ n := by
  have htake : (l.take b).length = b := List.length_take_of_le (by omega)
  rw [cxGet, cxSet, List.append_assoc, List.drop_left' htake, List.take_left' (length_leBytes n v), leNat_leBytes]

theorem cxGet_cxSet_other {i k : Nat} (h : i + k ≤ b ∨ b + n ≤ i) : cxGet (cxSet l b n v) i k = cxGet l i k := by
  refine congrArg leNat (List.ext_getElem? fun j => ?_)
  rw [List.getElem?_take, List.getElem?_take]
  split
  · rw [List.getElem?_drop, List.getElem?_drop, getElem?_cxSet_other hlen v (by omega)]
  · rfl

theorem drop_cxSet {i : Nat} (h : b + n ≤ i) : (cxSet l b n v).drop i = l.drop i :=
  List.ext_getElem? fun j => by rw [List.getElem?_drop, List.getElem?_drop, getElem?_cxSet_other hlen v (by omega)]

end

theorem cxGet_lt (c : List Byte) (b n : Nat) : cxGet c b n < 256 ^ n :=
  Nat.lt_of_lt_of_le (leNat_lt _) (Nat.pow_le_pow_right (by decide) (List.length_take_le ..))

/-! ## Classes (R216) -/

section
variable (c : List Byte) (n : Nat)

theorem seqClass_new_iff : seqClass c n = .new_ ↔ cxHseq c < n ∨ cxHseq c < n + 64 ∧ (cxWmap c).testBit (cxHseq c - n) = false := by
  unfold seqClass
  split_ifs with hahead hfar hseen
  · simp [hahead]
  · simp only [false_iff]
    omega
  · simp [hahead, hseen]
  · simp only [true_iff, Bool.not_eq_true] at hseen ⊢
    exact .inr ⟨by omega, hseen⟩

theorem seqClass_stale_iff : seqClass c n = .stale ↔ n + 64 ≤ cxHseq c := by
  unfold seqClass
  split_ifs <;> simp only [false_iff, true_iff] <;> omega

theorem seqClass_repeat_iff : seqClass c n = .repeat_ ↔ n ≤ cxHseq c ∧ cxHseq c < n + 64 ∧ (cxWmap c).testBit (cxHseq c - n) = true := by
  unfold seqClass
  split_ifs with hahead hfar hseen
  · simp only [false_iff]
    omega
  · simp only [false_iff]
    omega
  · simp only [true_iff]
    exact ⟨by omega, by omega, hseen⟩
  · simp [hseen]

end

/-! ## The window after an acceptance (R217) -/

/-- The window moved on by d numbers, with the new highest one marked. -/
theorem testBit_moved {d : Nat} (w : Nat) {i : Nat} (hpos : 0 < d) (hd : d < 64) (hi : i < 64) (hdi : d ≤ i) :
    (w * 2 ^ d % 2 ^ 64 + 1).testBit i = w.testBit (i - d) := by
  have hsplit : w * 2 ^ d % 2 ^ 64 = 2 ^ d * (w % 2 ^ (64 - d)) := by
    rw [← Nat.mul_mod_mul_left, ← Nat.pow_add, Nat.add_sub_cancel' hd.le, Nat.mul_comm]
  rw [hsplit, Nat.testBit_two_pow_mul_add _ (Nat.one_lt_two_pow hpos.ne'), if_neg (Nat.not_lt.2 hdi), Nat.testBit_mod_two_pow,
    decide_eq_true (by omega), Bool.true_and]

theorem moved_lt (w : Nat) {d : Nat} (hpos : 0 < d) : w * 2 ^ d % 2 ^ 64 + 1 < 2 ^ 64 := by
  have heven : 2 ∣ w * 2 ^ d % 2 ^ 64 :=
    (Nat.dvd_mod_iff (by decide)).2 (Dvd.dvd.mul_left (dvd_pow_self 2 hpos.ne') w)
  have hlt : w * 2 ^ d % 2 ^ 64 < 2 ^ 64 := Nat.mod_lt _ (by decide)
  omega

section
variable {c : List Byte} {m : Nat} (hlen : c.length = 64)
include hlen

/-- Acceptance writes HSEQ and WMAP alone. -/
theorem cxAccept_keeps (m : Nat) : (cxAccept c m).length = 64 ∧ cxSid (cxAccept c m) = cxSid c ∧ (cxAccept c m).drop 16 = c.drop 16 := by
  have hwmap (v : Nat) : (cxSet c 8 8 v).length = 64 := (length_cxSet (by omega) v).trans hlen
  unfold cxAccept
  dsimp only
  split
  · refine ⟨(length_cxSet (by rw [hwmap]; omega) _).trans (hwmap _), ?_, ?_⟩
    · rw [cxSid, cxGet_cxSet_other (by rw [hwmap]; omega) _ (by omega), cxGet_cxSet_other (by omega) _ (by omega), cxSid]
    · rw [drop_cxSet (by rw [hwmap]; omega) _ (by omega), drop_cxSet (by omega) _ (by omega)]
  · exact ⟨hwmap _, cxGet_cxSet_other (by omega) _ (by omega), drop_cxSet (by omega) _ (by omega)⟩

/-- A number above HSEQ. -/
theorem cxAccept_ahead (hm : m < 2 ^ 32) (h : cxHseq c < m) : cxHseq (cxAccept c m) = m ∧
    cxWmap (cxAccept c m) = if 64 ≤ m - cxHseq c then 1 else cxWmap c * 2 ^ (m - cxHseq c) % 2 ^ 64 + 1 := by
  have hwmap (v : Nat) : (cxSet c 8 8 v).length = 64 := (length_cxSet (by omega) v).trans hlen
  rw [cxAccept, if_pos h]
  constructor
  · rw [cxHseq, cxGet_cxSet_same (by rw [hwmap]; omega)]
    exact Nat.mod_eq_of_lt (Nat.lt_of_lt_of_le hm (by decide))
  · rw [cxWmap, cxGet_cxSet_other (by rw [hwmap]; omega) _ (by omega), cxGet_cxSet_same (by omega)]
    refine Nat.mod_eq_of_lt ?_
    split
    · decide
    · exact moved_lt _ (Nat.sub_pos_of_lt h)

/-- A number that is not above HSEQ leaves it. -/
theorem cxHseq_cxAccept_behind (h : m ≤ cxHseq c) : cxHseq (cxAccept c m) = cxHseq c := by
  rw [cxAccept, if_neg (Nat.not_lt.2 h)]
  exact cxGet_cxSet_other (by omega) _ (by omega)

/-- A number in the window marks its bit. -/
theorem cxWmap_cxAccept_within (h : m ≤ cxHseq c) (hnear : cxHseq c < m + 64) :
    cxWmap (cxAccept c m) = cxWmap c ||| 2 ^ (cxHseq c - m) := by
  rw [cxAccept, if_neg (Nat.not_lt.2 h), cxWmap, cxGet_cxSet_same (by omega)]
  have hwmap : cxWmap c < 2 ^ 64 := Nat.lt_of_lt_of_eq (cxGet_lt c 8 8) (by decide)
  exact Nat.mod_eq_of_lt (Nat.or_lt_two_pow hwmap (Nat.pow_lt_pow_right (by decide) (by omega)))

theorem cxHseq_cxAccept (hm : m < 2 ^ 32) : cxHseq (cxAccept c m) = max (cxHseq c) m := by
  rcases Nat.lt_or_ge (cxHseq c) m with h | h
  · rw [(cxAccept_ahead hlen hm h).1, Nat.max_eq_right h.le]
  · rw [cxHseq_cxAccept_behind hlen h, Nat.max_eq_left h]

/-- The bit of the number accepted. -/
theorem testBit_cxAccept_self (hm : m < 2 ^ 32) (hnear : cxHseq c < m + 64) :
    (cxWmap (cxAccept c m)).testBit (cxHseq (cxAccept c m) - m) = true := by
  rcases Nat.lt_or_ge (cxHseq c) m with h | h
  · obtain ⟨hseq, hwmap⟩ := cxAccept_ahead hlen hm h
    rw [hseq, hwmap, Nat.sub_self]
    split
    · rfl
    · have heven : cxWmap c * 2 ^ (m - cxHseq c) % 2 ^ 64 % 2 = 0 := by
        rw [Nat.mod_mod_of_dvd _ (by decide), Nat.mul_mod, Nat.pow_mod]
        simp [Nat.sub_ne_zero_of_lt h]
      rw [Nat.testBit_zero, decide_eq_true_eq]
      omega
  · rw [cxHseq_cxAccept_behind hlen h, cxWmap_cxAccept_within hlen h hnear, Nat.testBit_or, Nat.testBit_two_pow_self, Bool.or_true]

/-- The bits of the numbers that stay in the window. -/
theorem testBit_cxAccept_kept {n : Nat} (hm : m < 2 ^ 32) (hnear : cxHseq c < m + 64) (hn : n ≤ cxHseq c)
    (hwin : cxHseq (cxAccept c m) < n + 64) (hbit : (cxWmap c).testBit (cxHseq c - n) = true) :
    (cxWmap (cxAccept c m)).testBit (cxHseq (cxAccept c m) - n) = true := by
  rcases Nat.lt_or_ge (cxHseq c) m with h | h
  · obtain ⟨hseq, hwmap⟩ := cxAccept_ahead hlen hm h
    rw [hseq] at hwin
    rw [hseq, hwmap, if_neg (by omega), testBit_moved _ (by omega) (by omega) (by omega) (by omega)]
    rwa [show m - n - (m - cxHseq c) = cxHseq c - n by omega]
  · rw [cxHseq_cxAccept_behind hlen h, cxWmap_cxAccept_within hlen h hnear, Nat.testBit_or, hbit, Bool.true_or]

end

/-- A number that is NEW lies above the window or in it. -/
theorem near_of_new {c : List Byte} {m : Nat} (h : seqClass c m = .new_) : cxHseq c < m + 64 := by
  rcases (seqClass_new_iff c m).1 h with h | ⟨h, -⟩ <;> omega

/-- Settles O42: what an acceptance makes of HSEQ and of the bits of the window. -/
theorem replayWindowAcceptsANumberOnce : Obligations.ReplayWindowAcceptsANumberOnce := by
  unfold Obligations.ReplayWindowAcceptsANumberOnce
  intro c m n hlen hm _
  have hmax := cxHseq_cxAccept hlen hm
  refine ⟨fun hnew => ?once, fun hnew hrep => ?again, fun hnew hstale => ?late, hmax, seqClass_stale_iff c m, cxAccept_keeps hlen m⟩
  case once =>
    have hnear := near_of_new hnew
    exact (seqClass_repeat_iff ..).2 ⟨by omega, by omega, testBit_cxAccept_self hlen hm hnear⟩
  case again =>
    have hnear := near_of_new hnew
    obtain ⟨hn, -, hbit⟩ := (seqClass_repeat_iff ..).1 hrep
    intro hagain
    rcases (seqClass_new_iff ..).1 hagain with hahead | ⟨hwin, hclear⟩
    · omega
    · rw [testBit_cxAccept_kept hlen hm hnear hn hwin hbit] at hclear
      contradiction
  case late =>
    rw [seqClass_stale_iff] at hstale ⊢
    omega

end Sys2Proof.Machine
end

section
/-!
SUPPORT. What the work of the buffer pools and reception queues, and misses that settle, leave of the link unit and its registers
(R227, R281 to R285).
-/
namespace Sys2Proof.Machine

/-! ## Records of reception queues (R281 to R285) -/

/-- Memory and its codes, reservations, the reception queues and the fabric may differ, and registers from those of the scratchpad on. -/
structure State.QueueWork (z t : State) : Prop where
  rest : t = { z with regs := t.regs, fabric := t.fabric, arrays := t.arrays, mem := t.mem, cores := t.cores, rq := t.rq }
  reg  : ∀ a, a < blockAddr 22 0 → t.reg a = z.reg a

namespace State.QueueWork

variable {z s : State}

theorem refl (s : State) : s.QueueWork s := ⟨rfl, fun _ _ => rfl⟩

theorem trans {t : State} (h : z.QueueWork s) (k : s.QueueWork t) : z.QueueWork t where
  rest := k.rest.trans (by rw [h.rest])
  reg a ha := (k.reg a ha).trans (h.reg a ha)

theorem lnk (h : z.QueueWork s) : s.lnk = z.lnk := by rw [h.rest]

theorem setFld (h : z.QueueWork s) {f : FRef} (v : Nat) (hf : blockAddr 22 0 ≤ f.addr) : z.QueueWork (s.setFld f v) :=
  h.trans ⟨rfl, fun _ ha => s.reg_setFld_other _ (Nat.ne_of_lt (Nat.lt_of_lt_of_le ha hf))⟩

theorem count (h : z.QueueWork s) {f : FRef} (hf : blockAddr 22 0 ≤ f.addr) (n : Nat := 1) : z.QueueWork (s.count f n) := h.setFld _ hf

theorem pulse (h : z.QueueWork s) (l : Nat) : z.QueueWork (s.pulse l) := h.trans ⟨by rw [State.rest_pulse], fun _ _ => State.reg_pulse ..⟩

theorem setRq (h : z.QueueWork s) (r : RqState) : z.QueueWork (s.setRq r) := h.trans ⟨rfl, fun _ _ => rfl⟩

theorem access {t : State} (h : z.QueueWork s) (k : s.EngineAccess t) : z.QueueWork t :=
  h.trans ⟨by rw [k.rest], fun a ha => k.reg a (.inl ha)⟩

theorem setStash (h : z.QueueWork s) (b : Nat) (l : List Nat) : z.QueueWork (s.setStash b l) :=
  (h.setRq _).setFld _ (Nat.le_trans (by decide : _ ≤ R.RQ_POOL_CFG 0) (Nat.le_add_right _ _))

theorem ringBuffer (h : z.QueueWork s) (b n : Nat) : z.QueueWork (s.ringBuffer b n).1 := by
  induction n generalizing s with
  | zero => exact h
  | succ n ih =>
    have hoff : blockAddr 22 0 ≤ R.RQ_POOL_PTR b := Nat.le_trans (by decide : _ ≤ R.RQ_POOL_PTR 0) (Nat.le_add_right _ _)
    unfold State.ringBuffer
    extract_lets hw e a s1
    have h1 : z.QueueWork s1 := (h.access (.seen s _ 4)).setFld _ hoff
    split
    · exact h
    · split
      · exact h1
      · exact ih (h1.count (by decide))

theorem takeBuffer (h : z.QueueWork s) (b : Nat) : z.QueueWork (s.takeBuffer b).1 := by
  unfold State.takeBuffer
  split
  · exact h
  · split
    · exact h.setStash b _
    · split
      · exact h
      · exact h.ringBuffer b _

theorem rqGrow (h : z.QueueWork s) (id len n : Nat) : z.QueueWork (s.rqGrow id len n).1 := by
  induction n generalizing s with
  | zero => exact h
  | succ n ih =>
    unfold State.rqGrow
    split
    · exact h
    · next r _ =>
      have htake := h.takeBuffer r.pool
      split
      · exact h
      · split
        · next heq => rwa [heq] at htake
        · next heq =>
          rw [heq] at htake
          exact ih (htake.setRq _)

theorem rewind (h : z.QueueWork s) (id : Nat) (noBuffer : Bool) : z.QueueWork (s.rewind id noBuffer) := by
  unfold State.rewind
  split
  · exact h
  · next r _ =>
    extract_lets _ s1 s2
    have h2 : z.QueueWork s2 := by
      unfold s2
      split
      · exact h.setRq _
      · exact (h.setRq _).setStash _ _
    split
    · exact (h2.count (by decide)).pulse 35
    · exact h2.count (by decide)

theorem rqReserve (h : z.QueueWork s) (id len : Nat) : z.QueueWork (s.rqReserve id len).1 := by
  have hgrow := h.rqGrow id len 512
  unfold State.rqReserve
  split
  · next heq =>
    rw [heq] at hgrow
    exact hgrow.setRq _
  · next heq =>
    rw [heq] at hgrow
    exact hgrow.rewind id true

theorem rqStart (h : z.QueueWork s) (q kind : Nat) : z.QueueWork (s.rqStart q kind).1 := by
  unfold State.rqStart
  split
  · exact h.count (by decide)
  · exact h.count (by decide)
  · exact h.setRq _

/-- A record that has the bytes that came ends rewound. -/
theorem reserveRewind (h : z.QueueWork s) (id len : Nat) :
    z.QueueWork (match s.rqReserve id len with | (t, true) => t.rewind id false | (t, false) => t) := by
  have hres := h.rqReserve id len
  split
  · next heq =>
    rw [heq] at hres
    exact hres.rewind id false
  · next heq => rwa [heq] at hres

theorem endRecord (h : z.QueueWork s) (q : Nat) (rec : Option (Option Nat)) (len : Nat) : z.QueueWork (s.endRecord q rec len) := by
  unfold State.endRecord
  split
  · have hstart := h.rqStart q 1
    unfold State.ghostRecord
    split
    · next heq => rwa [heq] at hstart
    · next heq =>
      rw [heq] at hstart
      exact hstart.reserveRewind _ _
  · exact h
  · exact h.reserveRewind _ _

theorem rqWrite (h : z.QueueWork s) (r : RqRec) (off : Nat) (l : List (List Byte)) : z.QueueWork (s.rqWrite r off l) := by
  induction l generalizing s off with
  | nil => exact h
  | cons p ps ih => exact ih (h.access (.put s _ p)) _

theorem rqPut (h : z.QueueWork s) (id off : Nat) (bs : List Byte) : z.QueueWork (s.rqPut id off bs) := by
  unfold State.rqPut
  split
  · exact h.rqWrite _ _ _
  · exact h

end State.QueueWork

/-! ## Misses that settle (R227) -/

/-- The registers of the link unit are as they were. -/
def State.LinkRegs (z t : State) : Prop := ∀ a, blockAddr 16 0 ≤ a → a < blockAddr 17 0 → t.reg a = z.reg a

theorem State.LinkRegs.trans {z s t : State} (h : z.LinkRegs s) (k : s.LinkRegs t) : z.LinkRegs t :=
  fun a hlo hhi => (k a hlo hhi).trans (h a hlo hhi)

theorem State.QueueWork.linkRegs {z s : State} (h : z.QueueWork s) : z.LinkRegs s := fun a _ hhi => h.reg a (Nat.lt_trans hhi (by decide))

theorem State.LinkRegs.fld {z s : State} (h : z.LinkRegs s) {f : FRef} (hlo : blockAddr 16 0 ≤ f.addr) (hhi : f.addr < blockAddr 17 0) :
    s.fld f = z.fld f := by
  rw [State.fld, State.fld, h _ hlo hhi]

/-- The frames at the link unit, its acknowledgements and its registers are as they were. -/
structure State.KeepsLink (z t : State) : Prop where
  frames : t.lnk.frames = z.lnk.frames
  acks   : t.lnk.acks = z.lnk.acks
  regs   : z.LinkRegs t

namespace State.KeepsLink

variable {z s : State}

theorem refl (s : State) : s.KeepsLink s := ⟨rfl, rfl, fun _ _ _ => rfl⟩

theorem trans {t : State} (h : z.KeepsLink s) (k : s.KeepsLink t) : z.KeepsLink t :=
  ⟨k.frames.trans h.frames, k.acks.trans h.acks, h.regs.trans k.regs⟩

theorem setFld (h : z.KeepsLink s) {f : FRef} (v : Nat) (hf : f.addr < blockAddr 16 0 ∨ blockAddr 17 0 ≤ f.addr) :
    z.KeepsLink (s.setFld f v) :=
  h.trans ⟨rfl, rfl, fun _ _ _ => s.reg_setFld_other _ (by omega)⟩

theorem setLnk (h : z.KeepsLink s) (l : LinkState) (hframes : l.frames = s.lnk.frames := by rfl) (hacks : l.acks = s.lnk.acks := by rfl) :
    z.KeepsLink (s.setLnk l) :=
  h.trans ⟨hframes, hacks, fun _ _ _ => rfl⟩

theorem setArb (h : z.KeepsLink s) (a : ArbState) : z.KeepsLink (s.setArb a) := h.trans ⟨rfl, rfl, fun _ _ _ => rfl⟩

theorem pulse (h : z.KeepsLink s) (l : Nat) : z.KeepsLink (s.pulse l) :=
  h.trans ⟨by rw [State.rest_pulse], by rw [State.rest_pulse], fun _ _ _ => State.reg_pulse ..⟩

theorem storeCtx (h : z.KeepsLink s) (c : Nat) (x : List Byte) : z.KeepsLink (s.storeCtx c x) :=
  ((((h.setLnk _).setArb _).setFld _ (.inr (by decide))).setFld _ (.inr (by decide))).setFld _ (.inr (by decide))

theorem pushLost (h : z.KeepsLink s) (c : Nat) : z.KeepsLink (s.pushLost c) := by
  unfold State.pushLost
  split
  · exact h.setFld _ (.inl (by decide))
  · exact ((h.setLnk _).setFld _ (.inl (by decide))).setFld _ (.inl (by decide))

theorem driftMiss (h : z.KeepsLink s) (c : Nat) : z.KeepsLink (s.driftMiss c) := by
  unfold State.driftMiss
  extract_lets x
  split
  · exact h
  · split
    · exact h.storeCtx c _
    · exact (((h.storeCtx c _).setFld _ (.inl (by decide))).pushLost c).pulse 36

theorem settleWatch (h : z.KeepsLink s) (w : DrlWatch) : z.KeepsLink (s.settleWatch w) := by
  unfold State.settleWatch
  split
  · exact h
  · dsimp only
    split
    · exact h.setLnk _
    · split
      · exact h
      · exact (h.setLnk _).driftMiss _

theorem settleMisses (h : z.KeepsLink s) : z.KeepsLink s.settleMisses := List.foldlRecOn _ _ h fun _ hs w _ => hs.settleWatch w

end State.KeepsLink

end Sys2Proof.Machine
end

section
/-!
SUPPORT. What each operation of the link unit does to its frames: their records begin and close, they are dropped, delivered, classed
(R215 to R218, R284, R285).
-/
namespace Sys2Proof.Machine

/-! ## Frames that change and leave -/

@[simp] theorem State.frames_mapFrame (s : State) (id : Nat) (f : LinkFrame → LinkFrame) :
    (s.mapFrame id f).lnk.frames = s.lnk.frames.map (fun x => if x.id == id then f x else x) := rfl

@[simp] theorem State.lnk_addReq (s : State) (req e : Nat) (m : SvcMark) (job : SvcJob) (a rb : Nat) (items : List (Nat × List Nat)) :
    (s.addReq req e m job a rb items).lnk = s.lnk := rfl

/-- What else changes as a frame leaves is that misses settle. -/
theorem State.removeFrame_keeps (s : State) (id : Nat) :
    (s.setLnk { s.lnk with frames := s.lnk.frames.filter (fun x => x.id != id) }).KeepsLink (s.removeFrame id) :=
  (State.KeepsLink.refl _).settleMisses

@[simp] theorem State.frames_removeFrame (s : State) (id : Nat) :
    (s.removeFrame id).lnk.frames = s.lnk.frames.filter (fun x => x.id != id) := (s.removeFrame_keeps id).frames

theorem State.linkRegs_removeFrame (s : State) (id : Nat) : s.LinkRegs (s.removeFrame id) := (s.removeFrame_keeps id).regs

/-- A frame that is dropped leaves, once its record was rewound. -/
theorem State.dropFrame_cases (s : State) (f : LinkFrame) : ∃ u, s.QueueWork u ∧ s.dropFrame f = u.removeFrame f.id := by
  unfold State.dropFrame
  cases f.rqid with
  | none => exact ⟨s, .refl s, rfl⟩
  | some q => exact ⟨s.rewind q false, (State.QueueWork.refl s).rewind q false, rfl⟩

@[simp] theorem State.frames_dropFrame (s : State) (f : LinkFrame) :
    (s.dropFrame f).lnk.frames = s.lnk.frames.filter (fun x => x.id != f.id) := by
  obtain ⟨u, hu, heq⟩ := s.dropFrame_cases f
  rw [heq, State.frames_removeFrame, hu.lnk]

@[simp] theorem State.acks_dropFrame (s : State) (f : LinkFrame) : (s.dropFrame f).lnk.acks = s.lnk.acks := by
  obtain ⟨u, hu, heq⟩ := s.dropFrame_cases f
  rw [heq, (u.removeFrame_keeps f.id).acks, ← hu.lnk]
  rfl

theorem State.linkRegs_dropFrame (s : State) (f : LinkFrame) : s.LinkRegs (s.dropFrame f) := by
  obtain ⟨u, hu, heq⟩ := s.dropFrame_cases f
  exact heq ▸ hu.linkRegs.trans (u.linkRegs_removeFrame f.id)

/-- Without a watched window no miss settles. -/
theorem State.lnk_dropFrame (s : State) (f : LinkFrame) (h : s.lnk.watch = []) :
    (s.dropFrame f).lnk = { s.lnk with frames := s.lnk.frames.filter (fun x => x.id != f.id) } := by
  obtain ⟨u, hu, heq⟩ := s.dropFrame_cases f
  rw [heq, State.removeFrame, State.settleMisses, show (u.setLnk _).lnk.watch = [] from hu.lnk ▸ h, List.foldl_nil]
  exact hu.lnk ▸ rfl

/-! ## Records begin and close (R284) -/

/-- The record of a frame begins and has the frame's bytes, or the frame is gone. -/
theorem State.startRecord_cases (s : State) (f : LinkFrame) (q : Nat) :
    (∃ u, s.QueueWork u ∧ s.startRecord f q = (u.removeFrame f.id, false)) ∨
    ∃ u id, s.QueueWork u ∧ s.startRecord f q = (u.mapFrame f.id (fun x => { x with rqid := some id }), true) := by
  have hrec : s.QueueWork (s.frameRecord f.rqid q).1 := by
    unfold State.frameRecord
    split
    · exact .refl s
    · exact (State.QueueWork.refl s).rqStart q 1
  unfold State.startRecord
  split
  · next s1 heq =>
    rw [heq] at hrec
    exact .inl ⟨s1, hrec, rfl⟩
  · next s1 id heq =>
    rw [heq] at hrec
    have hres := hrec.rqReserve id (recordLen f)
    split
    · next s2 heq =>
      rw [heq] at hres
      exact .inl ⟨s2, hres, rfl⟩
    · next s2 heq =>
      rw [heq] at hres
      exact .inr ⟨_, id, hres.rqPut _ _ _, rfl⟩

/-- The header of a frame's record is written; a frame without a record is gone. -/
theorem State.closeRecord_cases (s : State) (f : LinkFrame) :
    (∃ u, s.QueueWork u ∧ s.closeRecord f = u.mapFrame f.id (fun x => { x with step := .commit })) ∨ s.closeRecord f = s.removeFrame f.id := by
  unfold State.closeRecord
  split
  · next id _ =>
    exact .inl ⟨_, (((State.QueueWork.refl s).rqPut id 32 _).rqPut id 0 _).setRq _, rfl⟩
  · exact .inr rfl

/-! ## A step that touches the frames of one number -/

/-- The frames with other numbers are as they were, and P holds of those with this one. -/
structure State.OnlyFrame (z t : State) (id : Nat) (P : LinkFrame → Prop) : Prop where
  others : t.lnk.frames.filter (fun x => x.id != id) = z.lnk.frames.filter (fun x => x.id != id)
  own    : ∀ x ∈ t.lnk.frames, x.id = id → P x

namespace State.OnlyFrame

variable {z s t : State} {id : Nat} {P Q : LinkFrame → Prop}

theorem refl (s : State) (id : Nat) : s.OnlyFrame s id (fun _ => True) := ⟨rfl, fun _ _ _ => trivial⟩

theorem mono (h : z.OnlyFrame s id P) (hPQ : ∀ x, P x → Q x) : z.OnlyFrame s id Q := ⟨h.others, fun x hx hid => hPQ x (h.own x hx hid)⟩

theorem congr (h : z.OnlyFrame s id P) (hframes : t.lnk.frames = s.lnk.frames) : z.OnlyFrame t id P :=
  ⟨hframes ▸ h.others, hframes ▸ h.own⟩

theorem count (h : z.OnlyFrame s id P) (f : FRef) : z.OnlyFrame (s.count f) id P := h.congr rfl

theorem queue (h : z.OnlyFrame s id P) (k : s.QueueWork t) : z.OnlyFrame t id P := h.congr (by rw [k.lnk])

theorem mapFrame (h : z.OnlyFrame s id P) {f : LinkFrame → LinkFrame} (hf : ∀ x, x.id = id → P x → (f x).id = id ∧ Q (f x)) :
    z.OnlyFrame (s.mapFrame id f) id Q := by
  constructor
  · rw [← h.others, State.frames_mapFrame, List.filter_map, List.map_congr_left (g := fun x => x), List.map_id']
    · refine List.filter_congr fun x hx => ?_
      by_cases hid : x.id = id
      · simp [hid, (hf x hid (h.own x hx hid)).1]
      · simp [hid]
    · intro x hx
      obtain ⟨hmem, hne⟩ := List.mem_filter.1 hx
      by_cases hid : x.id = id
      · simp [hid, (hf x hid (h.own x hmem hid)).1] at hne
      · simp [hid]
  · rw [State.frames_mapFrame, List.forall_mem_map]
    intro x hx
    split
    · next heq =>
      have heq := eq_of_beq heq
      exact fun _ => (hf x heq (h.own x hx heq)).2
    · next hne => exact fun hid => absurd (beq_iff_eq.2 hid) hne

/-- The frames with the number have left. -/
theorem gone (h : z.OnlyFrame s id P) (hframes : t.lnk.frames = s.lnk.frames.filter (fun x => x.id != id)) :
    z.OnlyFrame t id (fun _ => False) := by
  constructor
  · rw [hframes, List.filter_filter]
    simpa using h.others
  · rw [hframes]
    intro x hx hid
    simp [hid] at hx

theorem removeFrame (h : z.OnlyFrame s id P) : z.OnlyFrame (s.removeFrame id) id (fun _ => False) := h.gone (s.frames_removeFrame id)

theorem frames_of_gone (h : z.OnlyFrame t id (fun _ => False)) : t.lnk.frames = z.lnk.frames.filter (fun x => x.id != id) := by
  rw [← h.others, List.filter_eq_self.2 fun x hx => bne_iff_ne.2 (h.own x hx)]

/-- The frame looked up by its number. -/
theorem frameOf (h : z.OnlyFrame s id P) {g : LinkFrame} (hg : s.frameOf id = some g) : g.id = id ∧ P g := by
  have hid := List.find?_some hg
  have hid : g.id = id := eq_of_beq hid
  exact ⟨hid, h.own g (List.mem_of_find?_eq_some hg) hid⟩

theorem of_frameOf_none (h : z.OnlyFrame s id P) (hg : s.frameOf id = none) : z.OnlyFrame s id (fun _ => False) :=
  ⟨h.others, fun x hx hid => List.find?_eq_none.1 hg x hx (beq_iff_eq.2 hid)⟩

/-- A frame's record begins, or the frame is gone. -/
theorem startRecord (h : z.OnlyFrame s id P) {f : LinkFrame} (hid : f.id = id) (q : Nat) :
    (∃ t, s.startRecord f q = (t, false) ∧ z.OnlyFrame t id (fun _ => False) ∧ s.LinkRegs t) ∨
    ∃ t, s.startRecord f q = (t, true) ∧ z.OnlyFrame t id (fun x => ∃ y n, P y ∧ x = { y with rqid := some n }) ∧ s.LinkRegs t := by
  subst hid
  rcases s.startRecord_cases f q with ⟨u, hu, heq⟩ | ⟨u, n, hu, heq⟩
  · exact .inl ⟨_, heq, (h.queue hu).removeFrame, hu.linkRegs.trans (u.linkRegs_removeFrame _)⟩
  · exact .inr ⟨_, heq, (h.queue hu).mapFrame fun x hx hP => ⟨hx, x, n, hP, rfl⟩, hu.linkRegs⟩

/-- A frame's record closes. -/
theorem closeRecord (h : z.OnlyFrame s id P) {f : LinkFrame} (hid : f.id = id) :
    z.OnlyFrame (s.closeRecord f) id (fun x => ∃ y, P y ∧ x = { y with step := .commit }) ∧ s.LinkRegs (s.closeRecord f) := by
  subst hid
  rcases s.closeRecord_cases f with ⟨u, hu, heq⟩ | heq
  · exact heq ▸ ⟨(h.queue hu).mapFrame fun x hx hP => ⟨hx, x, hP, rfl⟩, hu.linkRegs⟩
  · exact heq ▸ ⟨h.removeFrame.mono fun _ => False.elim, s.linkRegs_removeFrame _⟩

end State.OnlyFrame

/-! ## Frames without a context, and malformed ones (R215) -/

theorem State.deliverPlain_only (s : State) (f : LinkFrame) :
    s.OnlyFrame (s.deliverPlain f) f.id (fun x => x.noCtx = true) ∧ s.LinkRegs (s.deliverPlain f) := by
  have hplain := (State.OnlyFrame.refl s f.id).mapFrame (Q := fun x => x.noCtx = true)
    (f := fun x => { x with noCtx := true, ackRad := 3, resid := none, handle := none }) fun x hx _ => ⟨hx, rfl⟩
  unfold State.deliverPlain
  extract_lets s1
  rcases hplain.startRecord (f := { f with noCtx := true }) rfl (s1.fld (F.RQ_SRC_QUEUE_NC f.radio)) with
    ⟨t, heq, hgone, hregs⟩ | ⟨t, heq, honly, hregs⟩
  · rw [heq]
    exact ⟨hgone.mono fun _ => False.elim, hregs⟩
  · rw [heq]
    have hstarted : s.OnlyFrame t f.id (fun x => x.noCtx = true) := honly.mono fun x ⟨y, n, hy, hx⟩ => hx ▸ hy
    dsimp only
    split
    · next g hg =>
      obtain ⟨hclosed, hclose⟩ := hstarted.closeRecord (hstarted.frameOf hg).1
      exact ⟨hclosed.mono fun x ⟨y, hy, hx⟩ => hx ▸ hy, State.LinkRegs.trans hregs hclose⟩
    · exact ⟨hstarted, hregs⟩

theorem State.malformed_gone (s : State) (f : LinkFrame) :
    (s.malformed f).lnk.frames = s.lnk.frames.filter (fun x => x.id != f.id) ∧
    (s.malformed f).fld F.LNK_COUNT0_MALFORMED = min 255 (s.fld F.LNK_COUNT0_MALFORMED + 1) := by
  have hend := (State.QueueWork.refl s).endRecord (s.fld (F.RQ_SRC_QUEUE f.radio)) (f.rqid.map some) f.psdu.length
  have hregs := hend.linkRegs.trans (State.linkRegs_removeFrame _ f.id)
  constructor
  · rw [State.malformed, State.count_lnk, State.frames_removeFrame, hend.lnk]
  · rw [State.malformed, State.fld_count _ (by decide), hregs.fld (by decide) (by decide)]
    rfl

/-! ## Classes with the context at hand (R215, R216, R218) -/

theorem State.frames_askSeal (s : State) (f : LinkFrame) (h : Nat) (fresh due rec_ : Bool) :
    (s.askSeal f h fresh due rec_).lnk.frames = s.lnk.frames := rfl

/-- A REPEAT is dropped and counted; where R222 says, its acknowledgement is sealed again. -/
theorem State.repeatFrame_cases (s : State) (f : LinkFrame) (h : Nat) :
    let s1 := (s.dropFrame f).count F.LNK_COUNT0_DUPLICATE
    s.repeatFrame f h = s1 ∨ s.repeatFrame f h = s1.askSeal f h false true false := by
  unfold State.repeatFrame
  dsimp only
  split
  · exact .inr rfl
  · exact .inl rfl

@[simp] theorem State.frames_repeatFrame (s : State) (f : LinkFrame) (h : Nat) :
    (s.repeatFrame f h).lnk.frames = s.lnk.frames.filter (fun x => x.id != f.id) := by
  rcases s.repeatFrame_cases f h with heq | heq
  · rw [heq, State.count_lnk, State.frames_dropFrame]
  · rw [heq, State.frames_askSeal, State.count_lnk, State.frames_dropFrame]

theorem State.OnlyFrame.toCipher {z s : State} {id : Nat} {P Q : LinkFrame → Prop} (h : z.OnlyFrame s id P)
    (hf : ∀ x n, P x → Q { x with step := .opening, req := some n }) : z.OnlyFrame (s.toCipher id) id Q :=
  (h.mapFrame (f := fun x => { x with step := .opening, req := some s.arb.nextId }) fun x hx hP => ⟨hx, hf x _ hP⟩).congr rfl

/-- A frame goes on in step 3 or is held, with its context. -/
def LinkFrame.GoesOn (h : Nat) (x : LinkFrame) : Prop := (x.step = .opening ∨ x.step = .held) ∧ x.handle = some h

/-- A frame classed with its context h goes on or is dropped; where it is no acknowledgement, one that is not NEW is dropped. -/
theorem State.classWith_only (s : State) (f : LinkFrame) (h : Nat) :
    s.OnlyFrame (s.classWith f h) f.id (LinkFrame.GoesOn h) ∧
    (byteAt f.psdu 0 ≠ 0x4A → seqClass (s.ctx h) (leNat ((f.psdu.drop 6).take 4)) ≠ .new_ →
      s.OnlyFrame (s.classWith f h) f.id (fun _ => False)) := by
  have hgone {t : State} (ht : s.OnlyFrame t f.id (fun _ => False)) (p q : Prop) :
      s.OnlyFrame t f.id (LinkFrame.GoesOn h) ∧ (p → q → s.OnlyFrame t f.id (fun _ => False)) :=
    ⟨ht.mono fun _ => False.elim, fun _ _ => ht⟩
  unfold State.classWith
  extract_lets c seq f1 bad s0
  have h0 : s.OnlyFrame s0 f.id (fun x => x = f1) :=
    ((State.OnlyFrame.refl s f.id).congr (t := s.touchCtx h) rfl).mapFrame fun _ _ _ => ⟨rfl, rfl⟩
  rcases h0.startRecord (f := f1) rfl (s0.fld (F.RQ_SRC_QUEUE f1.radio)) with ⟨t, heq, ht, -⟩ | ⟨t, heq, ht, -⟩
  · rw [heq]
    refine hgone (ht.congr ?_) _ _
    dsimp only
    split <;> rfl
  · rw [heq]
    dsimp only
    split
    · next hnone => exact hgone (ht.of_frameOf_none hnone) _ _
    · next g hg =>
      obtain ⟨hid, hP⟩ := ht.frameOf hg
      have hpsdu : g.psdu = f.psdu := by
        obtain ⟨y, n, rfl, rfl⟩ := hP
        rfl
      have hdrop : s.OnlyFrame (t.dropFrame g) f.id (fun _ => False) := ht.gone (by rw [State.frames_dropFrame, hid])
      have hhandle (x : LinkFrame) (hx : ∃ y n, y = f1 ∧ x = { y with rqid := some n }) : x.handle = some h := by
        obtain ⟨y, n, rfl, rfl⟩ := hx
        rfl
      have hcipher : s.OnlyFrame (t.toCipher g.id) f.id (LinkFrame.GoesOn h) := by
        rw [hid]
        exact ht.toCipher fun x n hx => ⟨.inl rfl, hhandle x hx⟩
      split
      · exact hgone (hdrop.count _) _ _
      · split
        · next hack => exact ⟨hcipher, fun hne => absurd (hpsdu ▸ hack) hne⟩
        · split
          · exact hgone (hdrop.count _) _ _
          · exact hgone (ht.gone (by rw [State.frames_repeatFrame, hid])) _ _
          · next hnew =>
            refine ⟨?_, fun _ hnot => absurd hnew hnot⟩
            split
            · split
              · exact (hdrop.count _).mono fun _ => False.elim
              · rw [hid]
                exact ht.mapFrame fun x hx hP => ⟨hx, .inr rfl, hhandle x hP⟩
            · exact hcipher

end Sys2Proof.Machine
end

section
/-!
SUPPORT. LINK_HEADER_CLASSIFY and CONTEXT_FETCH_DONE (R214 to R216, R228): which frame is taken, and what becomes of it.
-/
namespace Sys2Proof.Machine

theorem exec_linkHeaderClassify (s : State) : exec .linkHeaderClassify s = .next s.classify := rfl

theorem exec_contextFetchDone (s : State) : exec .contextFetchDone s = .next s.fetchDone := rfl

/-! ## Reads of an MRAM without uncorrectable groups (R349) -/

theorem State.meet_of_correctable {s : State} (h : ∀ x ∈ s.ldg.wrong, x.2 ≤ 2) (o n : Nat) : s.meet o n = s :=
  List.foldlRecOn (motive := fun t => t = s) s.ldg.wrong _ rfl fun t ht x hx => by
    rw [ht]
    exact if_neg fun hlost => Nat.not_lt.2 (h x hx) hlost.1

theorem State.meetSid_of_correctable {s : State} (h : ∀ x ∈ s.ldg.wrong, x.2 ≤ 2) (sid : Nat) : s.meetSid sid = s := by
  rw [State.meetSid, State.meet_of_correctable h, State.meet_of_correctable h]

theorem State.meetCtx_of_correctable {s : State} (h : ∀ x ∈ s.ldg.wrong, x.2 ≤ 2) (c : Nat) : s.meetCtx c = s := by
  rw [State.meetCtx, State.meet_of_correctable h, ite_self]

/-! ## The frame that is classed -/

section
variable {s : State}

theorem State.classify_none (h : s.lnk.frames.filter (fun f => f.step == .lookup && f.req.isNone) = []) : s.classify = s := by
  rw [State.classify, h]
  rfl

theorem State.fetchDone_none (h : ∀ f ∈ s.lnk.frames, f.step ≠ .fetch) : s.fetchDone = s := by
  rw [State.fetchDone, List.filter_eq_nil_iff.2 fun f hf => by simpa using h f hf]
  rfl

theorem State.fetchDone_first {f : LinkFrame} {h : Nat} (hfirst : s.firstFrame (s.lnk.frames.filter (fun f => f.step == .fetch)) = some f)
    (hhandle : f.handle = some h) (hroom : s.outstanding 24 < 32) :
    s.fetchDone = (s.mapFrame f.id (fun x => { x with step := .lookup })).classWith { f with step := .lookup } h := by
  rw [State.fetchDone, hfirst]
  dsimp only
  rw [hhandle]
  exact if_neg (Nat.not_le.2 hroom)

section
variable {f : LinkFrame} (hfirst : s.firstFrame (s.lnk.frames.filter (fun f => f.step == .lookup && f.req.isNone)) = some f)
  (hroom : s.outstanding 24 < 32)
include hfirst hroom

theorem State.classify_plain (h : s.fnOn 16 0 0 = false ∨ f.psdu = [] ∨ (byteAt f.psdu 0).toNat / 16 ≠ 4) : s.classify = s.deliverPlain f := by
  rw [State.classify, hfirst]
  dsimp only
  rw [if_neg (Nat.not_le.2 hroom), if_pos]
  rcases h with h | h | h <;> simp [h]

variable (hon : s.fnOn 16 0 0 = true) (hpsdu : f.psdu ≠ []) (hlt : (byteAt f.psdu 0).toNat / 16 = 4)
include hon hpsdu hlt

theorem State.classify_malformed (h : ((byteAt f.psdu 0).toNat ≠ 0x41 ∧ (byteAt f.psdu 0).toNat ≠ 0x42 ∧ (byteAt f.psdu 0).toNat ≠ 0x4A) ∨
    f.psdu.length < 6) : s.classify = s.malformed f := by
  rw [State.classify, hfirst]
  dsimp only
  rw [if_neg (Nat.not_le.2 hroom), if_neg (by simp [hon, hpsdu, hlt]), if_pos h]

variable (hltype : (byteAt f.psdu 0).toNat = 0x41 ∨ (byteAt f.psdu 0).toNat = 0x42 ∨ (byteAt f.psdu 0).toNat = 0x4A) (hlen : 6 ≤ f.psdu.length)
  (hwrong : ∀ x ∈ s.ldg.wrong, x.2 ≤ 2) (hradio : f.radio ≠ 2) (hindex : s.ldg.indexRebuild = false)
include hltype hlen hwrong hradio hindex

/-- A link frame of Radio S or M is looked up by its SID. -/
theorem State.classify_sid : s.classify =
    (s.handleOf (leNat ((f.psdu.drop 2).take 4))).elim ((s.count F.LNK_COUNT0_NO_CONTEXT).deliverPlain f) (s.classKnown f) := by
  rw [State.classify, hfirst]
  dsimp only
  rw [if_neg (Nat.not_le.2 hroom), if_neg (by simp [hon, hpsdu, hlt]), if_neg (by omega), if_neg hradio, State.meetSid_of_correctable hwrong,
    if_neg (by simp [hindex]), State.linkHandle, if_neg hradio]
  cases s.handleOf (leNat ((f.psdu.drop 2).take 4)) with
  | none => rfl
  | some h => exact congrArg (State.classKnown · f h) (State.meetCtx_of_correctable hwrong h)

theorem State.classify_noContext (h : ∀ h, s.handleOf (leNat ((f.psdu.drop 2).take 4)) = some h → cxValid (s.ctx h) = false) :
    s.classify = (s.count F.LNK_COUNT0_NO_CONTEXT).deliverPlain f := by
  rw [State.classify_sid hfirst hroom hon hpsdu hlt hltype hlen hwrong hradio hindex]
  cases hi : s.handleOf (leNat ((f.psdu.drop 2).take 4)) with
  | none => rfl
  | some i => simp [State.classKnown, h i hi, hradio]

theorem State.classify_known {h : Nat} (hsid : s.handleOf (leNat ((f.psdu.drop 2).take 4)) = some h) (hvalid : cxValid (s.ctx h) = true) :
    s.classify = if s.lnk.cache.contains h then s.classWith f h else s.mapFrame f.id (fun x => { x with step := .fetch, handle := some h }) := by
  rw [State.classify_sid hfirst hroom hon hpsdu hlt hltype hlen hwrong hradio hindex, hsid]
  simp [State.classKnown, hvalid]

end

end

/-- A frame without a context is delivered without one, after a count. -/
theorem State.countPlain_only (s : State) (f : LinkFrame) :
    let t := (s.count F.LNK_COUNT0_NO_CONTEXT).deliverPlain f
    s.OnlyFrame t f.id (fun x => x.noCtx = true) ∧ t.fld F.LNK_COUNT0_NO_CONTEXT = min 255 (s.fld F.LNK_COUNT0_NO_CONTEXT + 1) := by
  intro t
  obtain ⟨honly, hregs⟩ := (s.count F.LNK_COUNT0_NO_CONTEXT).deliverPlain_only f
  refine ⟨⟨honly.others, honly.own⟩, ?_⟩
  rw [show t = _ from rfl, hregs.fld (by decide) (by decide), State.fld_count _ (by decide)]
  rfl

/-- A frame whose context arrives is classed with it. -/
theorem State.fetchDone_only {s : State} {f : LinkFrame} {h : Nat}
    (hfirst : s.firstFrame (s.lnk.frames.filter (fun f => f.step == .fetch)) = some f) (hhandle : f.handle = some h)
    (hroom : s.outstanding 24 < 32) : s.OnlyFrame s.fetchDone f.id (LinkFrame.GoesOn h) := by
  obtain ⟨hothers, hown⟩ := ((s.mapFrame f.id (fun x => { x with step := .lookup })).classWith_only { f with step := .lookup } h).1
  have hmap := (State.OnlyFrame.refl s f.id).mapFrame (Q := fun _ => True) (f := fun x => { x with step := .lookup }) fun x hx _ => ⟨hx, trivial⟩
  rw [State.fetchDone_first hfirst hhandle hroom]
  exact ⟨hothers.trans hmap.others, hown⟩

end Sys2Proof.Machine
end

section
/-!
SUPPORT. FRAME_ACCEPT (R217 to R220): the window, the acknowledgement, and the copies held behind a frame.
-/
namespace Sys2Proof.Machine

theorem exec_frameAccept (s : State) : exec .frameAccept s = .next s.frameAccept := rfl

/-! ## Which frame, and its class -/

section
variable {s : State}

theorem State.frameAccept_none (h : ∀ f ∈ s.lnk.frames, f.step ≠ .opened) : s.frameAccept = s := by
  rw [State.frameAccept, List.find?_eq_none.2 fun f hf => by simpa using h f hf]

variable {f : LinkFrame} {h : Nat} (hfirst : s.lnk.frames.find? (fun f => f.step == .opened) = some f) (hhandle : f.handle = some h)
include hfirst hhandle

omit hhandle in
theorem State.frameAccept_ack (hack : byteAt f.psdu 0 = 0x4A) : s.frameAccept = s.closeRecord f := by
  rw [State.frameAccept, hfirst]
  exact if_pos hack

theorem State.frameAccept_data (hdata : byteAt f.psdu 0 ≠ 0x4A) :
    (seqClass (s.ctx h) f.seq = .stale → s.frameAccept = ((s.dropFrame f).count F.LNK_COUNT0_STALE).staleHeld f h) ∧
    (seqClass (s.ctx h) f.seq = .repeat_ → s.frameAccept = (s.repeatFrame f h).repeatHeld f h) ∧
    (seqClass (s.ctx h) f.seq = .new_ → s.frameAccept = s.acceptFrame f h) := by
  rw [State.frameAccept, hfirst]
  dsimp only
  rw [if_neg hdata, hhandle, Option.getD_some]
  exact ⟨fun hcls => by rw [hcls], fun hcls => by rw [hcls], fun hcls => by rw [hcls]⟩

end

/-! ## The copies held behind a frame (R218) -/

/-- A held copy of a frame with context h. -/
abbrev LinkFrame.copyOf (f : LinkFrame) (h : Nat) (x : LinkFrame) : Bool := x.step == .held && x.handle == some h && x.seq == f.seq

/-- A step for each of some frames that removes it. -/
theorem frames_foldl_removing {g : State → LinkFrame → State}
    (hg : ∀ s x, (g s x).lnk.frames = s.lnk.frames.filter (fun y => y.id != x.id)) (l : List LinkFrame) (s : State) :
    (l.foldl g s).lnk.frames = s.lnk.frames.filter (fun y => l.all (fun x => y.id != x.id)) := by
  induction l generalizing s with
  | nil => simp
  | cons x l ih =>
    rw [List.foldl_cons, ih, hg, List.filter_filter]
    refine List.filter_congr fun y _ => ?_
    rw [List.all_cons, Bool.and_comm]

theorem State.frames_repeatHeld (s : State) (f : LinkFrame) (h : Nat) :
    (s.repeatHeld f h).lnk.frames = s.lnk.frames.filter (fun y => (s.lnk.frames.filter (f.copyOf h)).all (fun x => y.id != x.id)) :=
  frames_foldl_removing (fun s x => s.frames_repeatFrame x h) _ s

theorem State.frames_staleHeld (s : State) (f : LinkFrame) (h : Nat) :
    (s.staleHeld f h).lnk.frames = s.lnk.frames.filter (fun y => (s.lnk.frames.filter (f.copyOf h)).all (fun x => y.id != x.id)) :=
  frames_foldl_removing (g := fun s x => (s.dropFrame x).count F.LNK_COUNT0_STALE) (fun s x => s.frames_dropFrame x) _ s

/-- Each copy counts. -/
theorem State.fld_staleHeld (s : State) (f : LinkFrame) (h : Nat) (hmax : s.fld F.LNK_COUNT0_STALE ≤ 255) :
    (s.staleHeld f h).fld F.LNK_COUNT0_STALE = min 255 (s.fld F.LNK_COUNT0_STALE + (s.lnk.frames.filter (f.copyOf h)).length) := by
  unfold State.staleHeld
  generalize s.lnk.frames.filter (f.copyOf h) = l
  induction l generalizing s with
  | nil => exact (Nat.min_eq_right hmax).symm
  | cons x l ih =>
    have hcount : ((s.dropFrame x).count F.LNK_COUNT0_STALE).fld F.LNK_COUNT0_STALE = min 255 (s.fld F.LNK_COUNT0_STALE + 1) := by
      rw [State.fld_count _ (by decide), (s.linkRegs_dropFrame x).fld (by decide) (by decide)]
      rfl
    rw [List.foldl_cons, ih _ (hcount ▸ Nat.min_le_left ..), hcount, List.length_cons]
    omega

/-! ## STALE and REPEAT -/

section
variable {s : State} {f : LinkFrame} {h : Nat}

/-- What a STALE frame and its copies leave. -/
theorem State.stale_leaves (hopened : f.step = .opened) (huniq : ∀ x ∈ s.lnk.frames, x.id = f.id → x = f) :
    let t := ((s.dropFrame f).count F.LNK_COUNT0_STALE).staleHeld f h
    (∀ x ∈ t.lnk.frames, x ∈ s.lnk.frames ∧ x ≠ f ∧ f.copyOf h x = false) ∧
    (∀ x ∈ s.lnk.frames, x ≠ f → (∀ y ∈ s.lnk.frames, f.copyOf h y = true → y.id ≠ x.id) → x ∈ t.lnk.frames) ∧
    t.fld F.LNK_COUNT0_STALE = min 255 (s.fld F.LNK_COUNT0_STALE + 1 + (s.lnk.frames.filter (f.copyOf h)).length) := by
  intro t
  have hfree (x : LinkFrame) (hx : f.copyOf h x = true) : x ≠ f := by
    rintro rfl
    simp [hopened] at hx
  have hcopies : (s.lnk.frames.filter (fun x => x.id != f.id)).filter (f.copyOf h) = s.lnk.frames.filter (f.copyOf h) := by
    rw [List.filter_filter]
    refine List.filter_congr fun x hx => ?_
    cases hcopy : f.copyOf h x with
    | false => rw [Bool.false_and]
    | true => rw [Bool.true_and, bne_iff_ne]; exact fun hid => hfree x hcopy (huniq x hx hid)
  have hframes : t.lnk.frames = (s.lnk.frames.filter (fun x => x.id != f.id)).filter
      (fun y => (s.lnk.frames.filter (f.copyOf h)).all (fun x => y.id != x.id)) := by
    rw [State.frames_staleHeld, State.count_lnk, State.frames_dropFrame, hcopies]
  have hmem (x : LinkFrame) : x ∈ t.lnk.frames ↔
      (x ∈ s.lnk.frames ∧ x.id ≠ f.id) ∧ ∀ y ∈ s.lnk.frames, f.copyOf h y = true → x.id ≠ y.id := by
    rw [hframes, List.mem_filter, List.mem_filter, List.all_eq_true]
    simp only [List.mem_filter, bne_iff_ne, and_imp]
  refine ⟨fun x hx => ?_, fun x hx hne hothers => ?_, ?_⟩
  · obtain ⟨⟨hin, hid⟩, hcopy⟩ := (hmem x).1 hx
    exact ⟨hin, fun heq => hid (heq ▸ rfl), Bool.eq_false_iff.2 fun hc => hcopy x hin hc rfl⟩
  · exact (hmem x).2 ⟨⟨hx, fun hid => hne (huniq x hx hid)⟩, fun y hy hc => (hothers y hy hc).symm⟩
  · have hcount : ((s.dropFrame f).count F.LNK_COUNT0_STALE).fld F.LNK_COUNT0_STALE = min 255 (s.fld F.LNK_COUNT0_STALE + 1) := by
      rw [State.fld_count _ (by decide), (s.linkRegs_dropFrame f).fld (by decide) (by decide)]
      rfl
    rw [State.fld_staleHeld _ _ _ (hcount ▸ Nat.min_le_left ..), hcount, State.count_lnk, State.frames_dropFrame, hcopies]
    omega

theorem State.repeat_leaves : ∀ x ∈ ((s.repeatFrame f h).repeatHeld f h).lnk.frames, x.id ≠ f.id := by
  intro x hx
  rw [State.frames_repeatHeld, State.frames_repeatFrame] at hx
  exact bne_iff_ne.1 (List.mem_filter.1 (List.mem_filter.1 hx).1).2

end

/-! ## NEW: the acceptance (R217, R219, R220) -/

theorem State.acks_askSeal (s : State) (f : LinkFrame) (h : Nat) (fresh due rec_ : Bool) :
    ∃ j, (s.askSeal f h fresh due rec_).lnk.acks = s.lnk.acks ++ [j] ∧
      j.handle = h ∧ j.fresh = fresh ∧ j.frame = if rec_ then some f.id else none :=
  ⟨_, rfl, rfl, rfl, rfl⟩

/-- A REPEAT takes no acknowledgement away. -/
theorem State.acks_repeatFrame (s : State) (f : LinkFrame) (h : Nat) {j : AckJob} (hj : j ∈ s.lnk.acks) : j ∈ (s.repeatFrame f h).lnk.acks := by
  have hdrop : j ∈ ((s.dropFrame f).count F.LNK_COUNT0_DUPLICATE).lnk.acks := by rwa [State.count_lnk, State.acks_dropFrame]
  rcases s.repeatFrame_cases f h with heq | heq
  · rwa [heq]
  · obtain ⟨i, hi, -⟩ := State.acks_askSeal ((s.dropFrame f).count F.LNK_COUNT0_DUPLICATE) f h false true false
    rw [heq, hi]
    exact List.mem_append_left _ hdrop

theorem State.acks_repeatHeld (s : State) (f : LinkFrame) (h : Nat) {j : AckJob} (hj : j ∈ s.lnk.acks) : j ∈ (s.repeatHeld f h).lnk.acks :=
  List.foldlRecOn (motive := fun t : State => j ∈ t.lnk.acks) _ _ hj fun t ht x _ => t.acks_repeatFrame x h ht

/-- No window is watched, and the contexts not yet durable are those of z. -/
def State.SameDirty (z t : State) : Prop := t.lnk.watch = [] ∧ t.lnk.dirty = z.lnk.dirty

/-- A REPEAT changes no context. -/
theorem State.SameDirty.repeatFrame {z s : State} (k : z.SameDirty s) (f : LinkFrame) (h : Nat) : z.SameDirty (s.repeatFrame f h) := by
  obtain ⟨hwatch, hdirty⟩ := k
  have hdrop : z.SameDirty ((s.dropFrame f).count F.LNK_COUNT0_DUPLICATE) := by
    rw [State.SameDirty, State.count_lnk, s.lnk_dropFrame f hwatch]
    exact ⟨hwatch, hdirty⟩
  rcases s.repeatFrame_cases f h with heq | heq
  · rw [heq]
    exact hdrop
  · rw [heq]
    exact ⟨hdrop.1, hdrop.2⟩

theorem State.SameDirty.repeatHeld {z s : State} (k : z.SameDirty s) (f : LinkFrame) (h : Nat) : z.SameDirty (s.repeatHeld f h) :=
  List.foldlRecOn (motive := fun t => z.SameDirty t) _ _ k fun _ ht x _ => ht.repeatFrame x h

theorem State.ctx_of_dirty {s : State} {h : Nat} {l : List (Nat × List Byte)} {c : List Byte}
    (hdirty : s.lnk.dirty = l.filter (fun d => d.1 != h) ++ [(h, c)]) : s.ctx h = c := by
  have hnone : (l.filter (fun d => d.1 != h)).find? (fun d => d.1 == h) = none :=
    List.find?_eq_none.2 fun d hd => by simpa using (List.mem_filter.1 hd).2
  rw [State.ctx, hdirty, List.find?_append, hnone]
  simp

/-- The state in which the frame of an acceptance is marked: the context has become c, a watched window w its contact, and the frame
is the last of its number (R217, R222, R224, R225). -/
def State.accepting (s : State) (f : LinkFrame) (h : Nat) (c : List Byte) (w : Option DrlWatch) (reset : Bool) : State :=
  let s1 := (s.keepOld h).setCtx h c
  let s2 := match w with
    | some x => s1.setLnk { s1.lnk with watch := s1.lnk.watch.map (fun y => if y = x then { y with contact := true } else y) }
    | none => s1
  let s3 := if s.fnOn 15 0 0 && w.isSome then s2.count F.DRL_COUNT_CONTACTS else s2
  let s4 := if reset then s3.count F.DRL_COUNT_RESETS else s3
  s4.setLnk { s4.lnk with last := SMap.set (fun _ => (0, 0)) s4.lnk.last (64 * h + f.seq % 64) (f.seq, f.lastBit) }

/-- Counters do not lie in the link unit's own state. -/
theorem State.lnk_ite_count (s : State) (p : Prop) [Decidable p] (f : FRef) : (if p then s.count f else s).lnk = s.lnk := by
  split <;> rfl

/-- The acknowledgement kept for resends is not one of the changes told here. -/
theorem State.lnk_keepOld (s : State) (h : Nat) : ∃ l, (s.keepOld h).lnk = { s.lnk with sealed := l } := by
  unfold State.keepOld
  extract_lets c
  split
  · exact ⟨_, rfl⟩
  · exact ⟨s.lnk.sealed, rfl⟩

section
variable (s : State) (f : LinkFrame) (h : Nat) (c : List Byte)

theorem State.frames_accepting (w : Option DrlWatch) (reset : Bool) : (s.accepting f h c w reset).lnk.frames = s.lnk.frames := by
  obtain ⟨l, hl⟩ := s.lnk_keepOld h
  have hkeep : (s.keepOld h).lnk.frames = s.lnk.frames := by rw [hl]
  unfold State.accepting
  extract_lets s1 l1 s2 s3 s4
  show s4.lnk.frames = _
  unfold s4 s3
  rw [State.lnk_ite_count, State.lnk_ite_count]
  cases w <;> exact hkeep

/-- Without a contact. -/
theorem State.lnk_accepting_none (reset : Bool) : (s.accepting f h c none reset).lnk.watch = s.lnk.watch ∧
    (s.accepting f h c none reset).lnk.dirty = s.lnk.dirty.filter (fun d => d.1 != h) ++ [(h, c)] := by
  obtain ⟨l, hl⟩ := s.lnk_keepOld h
  have hlnk : ((s.keepOld h).setCtx h c).lnk.watch = s.lnk.watch ∧
      ((s.keepOld h).setCtx h c).lnk.dirty = s.lnk.dirty.filter (fun d => d.1 != h) ++ [(h, c)] := by
    rw [State.setCtx, hl]
    exact ⟨rfl, rfl⟩
  unfold State.accepting
  extract_lets s1 l1 s2 s3 s4
  have h4 : s4.lnk = s1.lnk := by
    unfold s4 s3
    rw [State.lnk_ite_count, State.lnk_ite_count]
  show s4.lnk.watch = _ ∧ s4.lnk.dirty = _
  rw [h4]
  exact hlnk

/-- An acceptance marks its frame, asks for a fresh acknowledgement, and makes REPEATs of the copies held. Where no window is watched and
no correction is applied, the context becomes what R217 says. -/
theorem State.acceptFrame_eq : ∃ c w reset resid due rad,
    (s.lnk.watch = [] → s.fnOn 15 0 0 = false ∨ (byteAt f.psdu 1).getLsbD 2 = false → w = none ∧ c = cxAccept (s.ctx h) f.seq) ∧
    s.acceptFrame f h = (((s.accepting f h c w reset).mapFrame f.id
      (fun x => { x with step := .sealing, resid := resid, ackDue := due, ackRad := rad })).askSeal f h true due true).repeatHeld f h := by
  unfold State.acceptFrame
  extract_lets c0 learn c1 c2 w
  refine ⟨_, w, _, _, _, _, fun hwatch hno => ?_, rfl⟩
  have hw : w = none := by
    unfold w State.contactWindow
    rw [hwatch, List.find?_nil, ite_self]
  have hc : c1 = c0 := if_neg (by
    rcases hno with hno | hno <;>
      simp only [learn, hno, Bool.false_and, Bool.and_false, Bool.false_eq_true, not_false_eq_true])
  refine ⟨hw, ?_⟩
  rw [hw]
  exact congrArg (cxAccept · f.seq) hc

end

/-- What an acceptance leaves. -/
theorem State.new_leaves {s : State} {f : LinkFrame} {h : Nat} (hmem : f ∈ s.lnk.frames) :
    let t := s.acceptFrame f h
    (∃ x ∈ t.lnk.frames, x.id = f.id ∧ x.step = .sealing) ∧
    (∃ j ∈ t.lnk.acks, j.handle = h ∧ j.fresh = true ∧ j.frame = some f.id) ∧
    (s.lnk.watch = [] → s.fnOn 15 0 0 = false ∨ (byteAt f.psdu 1).getLsbD 2 = false → t.ctx h = cxAccept (s.ctx h) f.seq) := by
  intro t
  obtain ⟨c, w, reset, resid, due, rad, hplain, ht⟩ := s.acceptFrame_eq f h
  set u := s.accepting f h c w reset with hu
  set v := u.mapFrame f.id (fun x => { x with step := .sealing, resid := resid, ackDue := due, ackRad := rad }) with hv
  have hframes : v.lnk.frames = s.lnk.frames.map
      (fun x => if x.id == f.id then { x with step := .sealing, resid := resid, ackDue := due, ackRad := rad } else x) := by
    rw [hv, State.frames_mapFrame, hu, State.frames_accepting]
  rw [show t = _ from ht]
  refine ⟨⟨{ f with step := .sealing, resid := resid, ackDue := due, ackRad := rad }, ?_, rfl, rfl⟩, ?_, fun hwatch hno => ?_⟩
  · rw [State.frames_repeatHeld, State.frames_askSeal, hframes, List.mem_filter, List.all_eq_true]
    refine ⟨List.mem_map.2 ⟨f, hmem, if_pos (beq_self_eq_true _)⟩, fun y hy => bne_iff_ne.2 fun hid => ?_⟩
    obtain ⟨hy, hcopy⟩ := List.mem_filter.1 hy
    obtain ⟨x, hx, rfl⟩ := List.mem_map.1 hy
    by_cases hxid : x.id = f.id
    · simp [hxid] at hcopy
    · exact hxid (by simpa [hxid] using hid.symm)
  · obtain ⟨j, hj, hhandle, hfresh, hframe⟩ := v.acks_askSeal f h true due true
    exact ⟨j, State.acks_repeatHeld _ f h (by rw [hj]; exact List.mem_append_right _ (List.mem_singleton.2 rfl)), hhandle, hfresh, hframe⟩
  · obtain ⟨rfl, rfl⟩ := hplain hwatch hno
    obtain ⟨huwatch, hudirty⟩ := s.lnk_accepting_none f h (cxAccept (s.ctx h) f.seq) reset
    have hsame : u.SameDirty (v.askSeal f h true due true) := ⟨huwatch.trans hwatch, rfl⟩
    exact State.ctx_of_dirty ((hsame.repeatHeld f h).2.trans hudirty)

end Sys2Proof.Machine
end

section
/-!
SUPPORT. ACK_OPPORTUNITY (R220, R221), the end of a context command (R229), guards and misses (R226, R227).
-/
namespace Sys2Proof.Machine

theorem exec_ackOpportunity (s : State) : exec .ackOpportunity s = .next s.ackOpportunity := rfl

theorem exec_lnkCmdComplete (s : State) : exec .lnkCmdComplete s = .next s.ctxDone := rfl

/-! ## A command that joins an idle chain (R142, R143) -/

/-- What stopping reception on a chain leaves of the time. -/
theorem State.now_cutFrames (s : State) (r k : Nat) : (s.cutFrames r k).now = s.now := by
  have hrest := ((State.KeepsRadios.refl s).cutFrames r k).rest
  have hcount : R.RF_COUNT r ≠ R.TSEL_STAT := by
    unfold R.RF_COUNT R.TSEL_STAT
    omega
  have hreg : (s.cutFrames r k).reg R.TSEL_STAT = s.reg R.TSEL_STAT := by
    unfold State.cutFrames
    extract_lets l
    refine (State.reg_setFld_other _ _ hcount.symm).trans ?_
    refine List.foldlRecOn (motive := fun t : State => t.reg R.TSEL_STAT = s.reg R.TSEL_STAT) l _ rfl fun t ht x _ => ?_
    unfold State.cutRecord
    split
    · exact (((State.KeepsLanes.refl _).endRecord _ _ _).reg _ (by decide)).trans ht
    · exact ht
  have hcur : (s.cutFrames r k).cur = s.cur := by
    rw [State.cur, State.cur, State.fld, State.fld, show F.TSEL_STAT_CUR.addr = R.TSEL_STAT from rfl, hreg]
  rw [State.now, hcur, hrest]
  rfl

theorem State.now_suspendListen (s : State) (r k : Nat) : (s.suspendListen r k).now = s.now := by
  unfold State.suspendListen
  extract_lets c
  split
  · split
    · rfl
    · exact State.now_cutFrames _ r k
  · rfl

section
variable {s : State} {r k : Nat} {c : QCmd} (hact : (s.chain r k).act = none) (hqueue : (s.chain r k).queue = [c])
  (hpath : c.path = false) (hwin : s.windowFrame r k = false)
include hact hqueue hpath hwin

/-- A synthesiser that starts for the only command of an idle chain. -/
theorem State.moveCmd_idle : ((s.moveCmd r k c).chain r k).queue = [{ c with moved := true }] ∧ (s.moveCmd r k c).now = s.now := by
  have hfree : (s.chain r k).free = true := by simp [Chain.free, hact, hqueue, hpath]
  unfold State.moveCmd
  extract_lets h s1 s2
  have h1 : s1 = s.setCmd r k c { c with moved := true } :=
    State.yieldCal_of_free (by rw [State.setCmd, State.chain_setChain_same]; exact hact)
  have hqueue1 : (s1.chain r k).queue = [{ c with moved := true }] := by
    rw [h1, State.setCmd, State.chain_setChain_same]
    simp [hqueue]
  have h2 : (s2.chain r k).queue = (s1.chain r k).queue ∧ s2.now = s1.now := by
    unfold s2
    split
    · exact ⟨rfl, rfl⟩
    · exact ⟨(s1.suspendListen_spares r k).chain.queue, s1.now_suspendListen r k⟩
  rw [if_neg (by simp [h, hfree, hwin]), State.startMove, State.chain_setChain_same]
  exact ⟨h2.1.trans hqueue1, h2.2.trans (h1 ▸ rfl)⟩

end

theorem State.windowFrame_of_lanes {s t : State} (h : t.lanes = s.lanes) (r k : Nat) : t.windowFrame r k = s.windowFrame r k := by
  unfold State.windowFrame State.framesIn State.lane
  rw [h]

/-- A command that comes more than 50 µs before its port time to a chain without any other. -/
theorem State.enqueue_idle {s : State} {r k : Nat} {c : QCmd} (hact : (s.chain r k).act = none) (hqueue : (s.chain r k).queue = [])
    (hpath : c.path = false) (hwin : s.windowFrame r k = false) (hport : s.now + 50 * usU < c.port) :
    ∃ q ∈ ((s.enqueue r k c).chain r k).queue, q.ack = c.ack ∧ q.port = c.port ∧ q.op = c.op := by
  set n := normalCmd r k c with hn
  set s1 := s.flagCmd r n.2.1 n.2.2 with hs1
  have hchain : s1.chain r k = s.chain r k := s.chain_flagCmd ..
  have hclaim : s1.claimChain r k n.1 = s1 := by
    unfold State.claimChain
    rw [hchain, hact]
  have hline : ∃ b, ((s1.lineUp r k n.1).chain r k).queue = [{ n.1 with moved := b }] ∧ (s1.lineUp r k n.1).now = s.now := by
    unfold State.lineUp
    extract_lets l s2
    have hqueue2 : (s2.chain r k).queue = [n.1] := by
      rw [State.chain_setChain_same, hchain, hqueue]
      rfl
    have hact2 : (s2.chain r k).act = none := by
      rw [State.chain_setChain_same]
      exact (congrArg Chain.act hchain).trans hact
    have hwin2 : s2.windowFrame r k = false := by
      refine (State.windowFrame_of_lanes (s := s) ?_ r k).trans hwin
      show s1.lanes = s.lanes
      rw [hs1]
      cases n.2.1 <;> cases n.2.2 <;> rfl
    have hnow2 : s2.now = s.now := s.now_flagCmd ..
    split
    · obtain ⟨hq, hnow⟩ := State.moveCmd_idle hact2 hqueue2 hpath hwin2
      exact ⟨true, hq, hnow.trans hnow2⟩
    · exact ⟨n.1.moved, hqueue2, hnow2⟩
  obtain ⟨b, hq, hnow⟩ := hline
  have hlead : 30 * usU ≤ 50 * usU := by decide
  have heq : s.enqueue r k c = s1.lineUp r k n.1 := by
    show ((((s1.claimChain r k n.1).lineUp r k n.1).txCheckNow r k n.1).lockCheckNow r k n.1) = _
    have hnport : n.1.port = c.port := rfl
    rw [hclaim, State.txCheckNow_early, State.lockCheckNow_early] <;> omega
  exact ⟨{ n.1 with moved := b }, by rw [heq, hq]; exact List.mem_singleton_self _, rfl, rfl, rfl⟩

theorem State.ackCmd_port (s : State) (j : AckJob) (p : Nat) : (s.ackCmd j p).port = p := rfl

/-- A sealed acknowledgement is placed. -/
theorem State.enqueue_ackCmd {s : State} {j : AckJob} {p : Nat} (hact : (s.chain j.radio j.chain).act = none)
    (hqueue : (s.chain j.radio j.chain).queue = []) (hwin : s.windowFrame j.radio j.chain = false) (hport : s.now + 50 * usU < p) :
    ∃ q ∈ ((s.enqueue j.radio j.chain (s.ackCmd j p)).chain j.radio j.chain).queue, q.ack = some j.id ∧ q.port = p ∧ q.op = 1 :=
  State.enqueue_idle hact hqueue rfl hwin ((s.ackCmd_port j p).symm ▸ hport)

/-! ## The first acknowledgement (R221) -/

section
variable {s : State} {j : AckJob} {rest : List AckJob} (hacks : s.lnk.acks = j :: rest)

theorem State.ackOpportunity_none (h : ∀ j ∈ s.lnk.acks, j.due = false) : s.ackOpportunity = s := by
  unfold State.ackOpportunity
  extract_lets placed late
  rw [List.find?_eq_none.2 fun j hj => by simp [h j hj]]

include hacks

/-- An acknowledgement without a second opportunity before it. -/
theorem State.ackFailed_first (hids : ∀ x ∈ rest, x.id ≠ j.id) :
    (j.opp = 1 → s.fld F.LNK_CFG_ACK2 ≠ 0 → (s.ackFailed j.id).lnk.acks = { j with opp := 2 } :: rest) ∧
    (j.opp ≠ 1 ∨ s.fld F.LNK_CFG_ACK2 = 0 → (s.ackFailed j.id).lnk.acks = rest ∧
      (s.ackFailed j.id).fld F.LNK_COUNT1_ACK_MISSED = min 255 (s.fld F.LNK_COUNT1_ACK_MISSED + 1)) := by
  have hfind : s.lnk.acks.find? (fun x => x.id == j.id) = some j := by
    rw [hacks]
    exact List.find?_cons_of_pos (beq_self_eq_true _)
  unfold State.ackFailed
  rw [hfind]
  dsimp only
  refine ⟨fun hopp hack2 => ?_, fun h => ?_⟩
  · have hrest : rest.map (fun x => if x.id == j.id then { x with opp := 2 } else x) = rest :=
      (List.map_congr_left fun x hx => if_neg (by simpa using hids x hx)).trans (List.map_id' rest)
    rw [if_pos ⟨hopp, hack2⟩]
    show s.lnk.acks.map _ = _
    rw [hacks, List.map_cons, hrest, if_pos (beq_self_eq_true _)]
  · have hrest : rest.filter (fun x => x.id != j.id) = rest := List.filter_eq_self.2 fun x hx => bne_iff_ne.2 (hids x hx)
    rw [if_neg (by tauto)]
    refine ⟨?_, ?_⟩
    · show s.lnk.acks.filter _ = _
      rw [hacks, List.filter_cons_of_neg (by simp), hrest]
    · rw [State.fld_count _ (by decide)]
      rfl

/-- An acknowledgement that is not sealed waits. -/
theorem State.ackOpportunity_unsealed (hearly : s.now + pathTime j.radio ≤ s.ackPort j) (hpsdu : j.psdu = none) (hrest : rest = []) :
    s.ackOpportunity = s := by
  unfold State.ackOpportunity
  extract_lets placed late
  have hl : late j = false := decide_eq_false (Nat.not_lt.2 hearly)
  rw [hacks, hrest, List.find?_cons_of_neg (by simp [hl, hpsdu]), List.find?_nil]

variable (hdue : j.due = true) (hact : (s.chain j.radio j.chain).act = none)
  (hqueue : ∀ q ∈ (s.chain j.radio j.chain).queue, q.ack ≠ some j.id)
include hdue hact hqueue

theorem State.ackOpportunity_late (hlate : s.ackPort j < s.now + pathTime j.radio) : s.ackOpportunity = s.ackFailed j.id := by
  unfold State.ackOpportunity
  extract_lets placed late
  have hl : late j = true := decide_eq_true hlate
  have hp : placed j = false := by simpa [placed, hact] using hqueue
  rw [hacks, List.find?_cons_of_pos (by simp [hdue, hl, hp])]
  simp [hl]

theorem State.ackOpportunity_sealed (hearly : s.now + pathTime j.radio ≤ s.ackPort j) (hpsdu : j.psdu ≠ none)
    (hmode : modeInfo j.radio j.mode ≠ none) (hblocked : s.ackBlocked j.radio j.chain (s.ackCmd j (s.ackPort j)) = false)
    (hlbt : j.opp ≠ 1 ∨ s.cmdLbt j.radio (s.ackCmd j (s.ackPort j)) = false) :
    s.ackOpportunity = s.enqueue j.radio j.chain (s.ackCmd j (s.ackPort j)) := by
  unfold State.ackOpportunity
  extract_lets placed late
  have hl : late j = false := decide_eq_false (Nat.not_lt.2 hearly)
  have hp : placed j = false := by simpa [placed, hact] using hqueue
  have hsealed : j.psdu.isSome = true := Option.isSome_iff_ne_none.2 hpsdu
  have hlbt' : (j.opp == 1 && s.cmdLbt j.radio (s.ackCmd j (s.ackPort j))) = false := by
    rcases hlbt with h | h <;> simp [h]
  have hmode' : (modeInfo j.radio j.mode).isNone = false := by simpa [Option.isSome_iff_ne_none] using hmode
  rw [hacks, List.find?_cons_of_pos (by simp [hdue, hp, hsealed])]
  dsimp only
  rw [if_neg (by simp [hl, hmode', hblocked, hlbt'])]

end

theorem pathTime_le (radio : Nat) : pathTime radio ≤ 50 * usU := by
  unfold pathTime
  split <;> decide

/-! ## The end of a context command (R229) -/

theorem State.ctxDone_none {s : State} (h : s.lnk.cmd = none) : s.ctxDone = s := by rw [State.ctxDone, h]

section
variable {s : State} {id h : Nat} (hcmd : s.lnk.cmd = some (id, h))
include hcmd

theorem State.ctxDone_waits (hend : s.ctxEnd id = none) : s.ctxDone = s := by
  rw [State.ctxDone, hcmd]
  dsimp only
  rw [hend]

theorem State.ctxDone_ends {st : Nat} (hend : s.ctxEnd id = some st) (hst : st < 256) :
    s.ctxDone.lnk.cmd = none ∧ s.ctxDone.fld F.LNK_CMD_BUSY = 0 ∧ s.ctxDone.fld F.LNK_CMD_STATUS = st := by
  have hdone : s.ctxDone = ((s.setLnk { s.lnk with cmd := none }).setFld F.LNK_CMD_BUSY 0).setFld F.LNK_CMD_STATUS st := by
    rw [State.ctxDone, hcmd]
    dsimp only
    rw [hend]
  rw [hdone]
  refine ⟨rfl, ?_, ?_⟩
  · rw [State.fld_setFld_other _ _ (by decide) (by decide), State.fld_setFld_same _ _ (by decide)]
    rfl
  · rw [State.fld_setFld_same _ _ (by decide)]
    exact Nat.mod_eq_of_lt hst

end

theorem State.ctxEnd_waits {s : State} {id : Nat} (h : ∀ q, s.reqOf id = some q → q.phase = .waiting ∨ q.phase = .granted)
    (hsome : s.reqOf id ≠ none) :
    s.ctxEnd id = none := by
  obtain ⟨q, hq⟩ := Option.ne_none_iff_exists'.1 hsome
  rw [State.ctxEnd, hq]
  rcases h q hq with hp | hp <;> simp [hp]

/-- A request already reported left its status in LNK_CMD. -/
theorem State.ctxEnd_written {s : State} {id : Nat} (h : ∀ q, s.reqOf id = some q → q.phase = .written) :
    s.ctxEnd id = some (s.fld F.LNK_CMD_STATUS) := by
  unfold State.ctxEnd
  split
  · next q hq => simp [h q hq]
  · rfl

theorem State.ctxEnd_ended {s : State} {id st : Nat} {q : SvcReq} (hq : s.reqOf id = some q) (hphase : q.phase = .ended st) :
    s.ctxEnd id = some st := by
  rw [State.ctxEnd, hq]
  simp [hphase]

/-! ## Guards and misses (R226, R227) -/

theorem State.guardOf_none {s : State} {c : List Byte} (h : cxValid c = false ∨ cxPeer c = true) (t : Nat) : s.guardOf c t = 0 :=
  if_pos (by rcases h with h | h <;> simp [h])

theorem State.guardOf_new {s : State} {c : List Byte} (hvalid : cxValid c = true) (hpeer : cxPeer c = false) (hnew : cxDstate c = 0) (t : Nat) :
    s.guardOf c t = 1000 * min 2000 (s.fld F.DRL_GNEW_GNEW) := by
  rw [State.guardOf, if_neg (by simp [hvalid, hpeer]), if_pos hnew, State.drlGnewUs]

/-- The third miss in a row: the handle enters DRL_LOST, and EV36. -/
theorem State.driftMiss_third {s : State} {h : Nat} (hon : s.fnOn 15 0 0 = true) (hvalid : cxValid (s.ctx h) = true)
    (hpeer : cxPeer (s.ctx h) = false) (hstate : cxDstate (s.ctx h) = 1 ∨ cxDstate (s.ctx h) = 2) (hmisses : 2 ≤ cxMisses (s.ctx h))
    (hlost : s.lnk.lost = []) :
    (s.driftMiss h).fld F.DRL_LOST_VALID = 1 ∧ (s.driftMiss h).fld F.DRL_LOST_HANDLE = h % 2 ^ 18 ∧
      ∃ p ∈ (s.driftMiss h).fabric, p.line = 36 := by
  set z := (s.storeCtx h (cxSetState (s.ctx h) 3 0 (cxContacts (s.ctx h)) (cxStale (s.ctx h)))).count F.DRL_COUNT_LOST with hz
  have hmiss : s.driftMiss h = (z.pushLost h).pulse 36 := by
    unfold State.driftMiss
    extract_lets c
    rw [if_neg (by rcases hstate with hs | hs <;> simp [c, hon, hvalid, hpeer, hs]), if_neg (Nat.not_lt.2 hmisses)]
  have hzlost : z.lnk.lost = [] := hlost
  have hpush : z.pushLost h = ((z.setLnk { z.lnk with lost := [h] }).setFld F.DRL_LOST_VALID 1).setFld F.DRL_LOST_HANDLE h := by
    rw [State.pushLost, if_neg (by simp [hzlost]), hzlost]
    rfl
  rw [hmiss, State.fld_pulse, State.fld_pulse, hpush]
  refine ⟨?_, ?_, _, State.pulse_in_fabric .., rfl⟩
  · rw [State.fld_setFld_other _ _ (by decide) (by decide), State.fld_setFld_same _ _ (by decide)]
    rfl
  · rw [State.fld_setFld_same _ _ (by decide)]
    rfl

end Sys2Proof.Machine
end

section
/-!
SUPPORT. O43 put together: the rows of the link unit, one family after the other.
-/
namespace Sys2Proof.Machine

/-- A row that answers a state known by an equation. -/
theorem gives_of_next {i : Instr} {s t u : State} {P : State → Prop} (hrow : exec i s = .next t) (h : t = u) (hP : P u) : Gives i s P :=
  ⟨t, hrow, h.symm ▸ hP⟩

/-- Settles O43: each row by its equation for the frame, the acknowledgement or the command that it takes. -/
theorem linkUnitClassesAndAnswersFrames : Obligations.LinkUnitClassesAndAnswersFrames := by
  unfold Obligations.LinkUnitClassesAndAnswersFrames
  refine ⟨fun s h => congrArg _ (State.classify_none h), ?classify, ?fetched, fun s h => congrArg _ (State.fetchDone_none h),
    fun s h => congrArg _ (State.frameAccept_none h), ?accept, ?ack, fun s h => congrArg _ (State.ackOpportunity_none h), ?command,
    fun s c t => ⟨fun h => State.guardOf_none h t, fun hvalid hpeer hnew => State.guardOf_new hvalid hpeer hnew t⟩,
    fun s h => State.driftMiss_third⟩
  case classify =>
    intro s f hfirst hroom hwrong hindex lt others plain gone
    refine ⟨fun h => ?plain, fun hon hpsdu hlt => ⟨fun h => ?malformed, fun hltype hlen =>
      ⟨fun hradio h => ?unknown, fun h hradio hsid hvalid => ?known⟩⟩⟩
    case plain =>
      obtain ⟨hothers, hown⟩ := (s.deliverPlain_only f).1
      exact gives_of_next (exec_linkHeaderClassify s) (State.classify_plain hfirst hroom h) ⟨hothers, hown⟩
    case malformed =>
      exact gives_of_next (exec_linkHeaderClassify s) (State.classify_malformed hfirst hroom hon hpsdu hlt h) (s.malformed_gone f)
    case unknown =>
      obtain ⟨honly, hcount⟩ := s.countPlain_only f
      exact gives_of_next (exec_linkHeaderClassify s)
        (State.classify_noContext hfirst hroom hon hpsdu hlt hltype hlen hwrong hradio (hindex hradio) h) ⟨⟨honly.others, honly.own⟩, hcount⟩
    case known =>
      have hrow := State.classify_known hfirst hroom hon hpsdu hlt hltype hlen hwrong hradio (hindex hradio) hsid hvalid
      refine ⟨fun hout => gives_of_next (exec_linkHeaderClassify s) (hrow.trans (if_neg (by simpa using hout))) ?fetch,
        fun hin => gives_of_next (exec_linkHeaderClassify s) (hrow.trans (if_pos (by simpa using hin))) ?cached⟩
      case fetch =>
        have hfetch := (State.OnlyFrame.refl s f.id).mapFrame (Q := fun x => x.step = .fetch ∧ x.handle = some h)
          (f := fun x => { x with step := .fetch, handle := some h }) fun x hx _ => ⟨hx, rfl, rfl⟩
        exact ⟨hfetch.others, hfetch.own⟩
      case cached =>
        obtain ⟨honly, hgone⟩ := s.classWith_only f h
        exact ⟨honly.others, honly.own, fun hdata hnot => (hgone (fun heq => hdata (congrArg BitVec.toNat heq)) hnot).frames_of_gone⟩
  case fetched =>
    intro s f h hfirst hhandle hroom
    have honly := State.fetchDone_only hfirst hhandle hroom
    exact ⟨_, exec_contextFetchDone s, honly.others, honly.own⟩
  case accept =>
    intro s f h hfirst hhandle huniq copy
    have hopened : f.step = .opened := by simpa using List.find?_some hfirst
    refine ⟨fun hack => ?acknowledgement, fun hdata hcls => ?stale, fun hdata hcls => ?repeated, fun hdata hcls => ?new⟩
    case acknowledgement =>
      have hclosed := ((State.OnlyFrame.refl s f.id).closeRecord (f := f) rfl).1.mono (Q := fun x => x.step = .commit)
        fun x ⟨y, _, hx⟩ => hx ▸ rfl
      exact gives_of_next (exec_frameAccept s) (State.frameAccept_ack hfirst hack) hclosed.own
    case stale =>
      obtain ⟨hstale, -, -⟩ := State.frameAccept_data hfirst hhandle hdata
      exact gives_of_next (exec_frameAccept s) (hstale hcls) (State.stale_leaves hopened huniq)
    case repeated =>
      obtain ⟨-, hrepeat, -⟩ := State.frameAccept_data hfirst hhandle hdata
      exact gives_of_next (exec_frameAccept s) (hrepeat hcls) State.repeat_leaves
    case new =>
      obtain ⟨-, -, hnew⟩ := State.frameAccept_data hfirst hhandle hdata
      exact gives_of_next (exec_frameAccept s) (hnew hcls) (State.new_leaves (List.mem_of_find?_eq_some hfirst))
  case ack =>
    intro s j rest hacks hdue hact hqueue hids p
    obtain ⟨hsecond, hmissed⟩ := State.ackFailed_first hacks hids
    refine ⟨fun hlate hopp hack2 => ?_, fun hlate h => ?_, fun hearly hpsdu hrest => ?_, fun hfar hempty hwin hpsdu hmode hblocked hlbt => ?_⟩
    · exact gives_of_next (exec_ackOpportunity s) (State.ackOpportunity_late hacks hdue hact hqueue hlate) (hsecond hopp hack2)
    · exact gives_of_next (exec_ackOpportunity s) (State.ackOpportunity_late hacks hdue hact hqueue hlate) (hmissed h)
    · exact congrArg _ (State.ackOpportunity_unsealed hacks hearly hpsdu hrest)
    · have hearly : s.now + pathTime j.radio ≤ p := (Nat.add_le_add_left (pathTime_le j.radio) _).trans hfar.le
      exact gives_of_next (exec_ackOpportunity s) (State.ackOpportunity_sealed hacks hdue hact hqueue hearly hpsdu hmode hblocked hlbt)
        (State.enqueue_ackCmd hact hempty hwin hfar)
  case command =>
    intro s
    refine ⟨fun hnone => ?_, fun id h hcmd => ⟨fun hwaits hsome => ?_, fun hwritten => ?_, fun q st hq hphase hst => ?_⟩⟩
    · exact congrArg _ (State.ctxDone_none hnone)
    · exact congrArg _ (State.ctxDone_waits hcmd (State.ctxEnd_waits hwaits hsome))
    · exact ⟨_, exec_lnkCmdComplete s, State.ctxDone_ends hcmd (State.ctxEnd_written hwritten) (getBits_lt _ _ _)⟩
    · exact ⟨_, exec_lnkCmdComplete s, State.ctxDone_ends hcmd (State.ctxEnd_ended hq hphase) hst⟩

end Sys2Proof.Machine
end
